-- ==== Sys2Proof/Word.lean ====
section
/-! DEFINITION. The plain words of the P7264 model: bytes, byte strings and the widths the manual counts in (R7, R8, R11). -/

namespace Sys2Proof

/-- One byte. -/
abbrev Byte := BitVec 8

/-- A byte string, lowest address first (R8). -/
abbrev Bytes := List Byte

/-- A 16-bit status, event or alarm code: block number in bits [15:8], code within the block in bits [7:0] (R11). -/
abbrev Code := BitVec 16

/-- A 64-bit register image. -/
abbrev Word := BitVec 64

/-- A source of R547: kind in bits [15:12], index in bits [11:0]. -/
abbrev Source := BitVec 16

/-- A sparse table: keys strictly rising, an unlisted key holding the table's default. -/
abbrev SMap (α : Type) := List (Nat × α)

/-- A byte memory: cells at strictly rising addresses, none equal to what an unlisted address reads as. -/
abbrev Mem := List (Nat × BitVec 8)

end Sys2Proof
end

