-- ==== Sys2Proof/Types.lean ====
section
/-! DEFINITION. The plain data that both commands and the state hold: tags, lease records, heartbeats, bundle headers,
section items, journal records, NVMe command identities, frames and messages. No meaning stands here. -/

namespace Sys2Proof

/-! ### Time and boot -/

/-- TIME_STATUS.STATE (R62). -/
inductive TimeState where
  | acquiring | locked | peer | holdover | freeRun | markFollow | markLost
  deriving DecidableEq, Repr

/-- Array time quality (R44, R62). -/
inductive Quality where
  | locked | holdover | freeRun
  deriving DecidableEq, Repr

/-- Boot stages (R84). -/
inductive Stage where
  | romStart | select | load | domains | ledgerBegin | memory | hem | firmware | links | waitTime | recovery | join
  | ready | recoveryMode
  deriving DecidableEq, Repr

/-- One of the two NOR image copies (R66). -/
inductive Copy where
  | a | b
  deriving DecidableEq, Repr

/-- What one known-answer-test run at stage FIRMWARE shows (R269, R290, R297, R309, R379): bit set = passed. -/
structure KatResult where
  digestPipes : BitVec 4
  cipherPairs : BitVec 16
  compressLanes : BitVec 64
  decompressLanes : BitVec 64
  parity : Bool
  drbg : Bool
  deriving DecidableEq, Repr

/-- One die found at enumeration (R476): where it sits and what its identification shows. -/
structure DieFound where
  channel : Fin 32
  ce : Fin 4
  lun : Fin 4
  idBytes : Bytes
  planes : Nat
  blocks : Nat
  pages : Nat
  deriving DecidableEq, Repr

/-- What link training shows at stage LINKS (R84, R177, R384, R416, R476, R506). -/
structure LinksFound where
  seamLanes : BitVec 16
  spokeTrained : List (Fin 64)
  frontUp : List (Fin 16)
  pcieGen : Nat
  pcieWidth : Nat
  dies : List DieFound
  /-- Channels with the rate step that passed training; 0 where none passed. -/
  channelRates : List (Fin 32 × Nat)
  deriving DecidableEq, Repr

/-! ### Spokes, tags and leases -/

/-- Tag classes of R422. -/
inductive TagClass where
  | none | append | close | parity | metaPage | index | drop | discard
  deriving DecidableEq, Repr

/-- The tag of a write (R422): CLASS, STREAM, SEQ, ITEM. -/
structure Tag where
  cls : TagClass
  stream : Nat
  seq : Nat
  item : Nat
  deriving DecidableEq, Repr

/-- The header of a received spoke frame (R419) as the receiver's port delivers it. -/
structure FrameHdr where
  port : Fin 64
  lsn : Nat
  ackLsn : Nat
  single : Bool
  purge : Bool
  tag : Tag
  streamGen : Nat
  reqId : Nat
  deriving DecidableEq, Repr

/-- The lease record of a shelf (R399). -/
structure LeaseRec where
  leaseGen : Nat
  arrayId : Bytes
  manager : Nat
  fenced : BitVec 2
  owner0 : Nat
  owner1 : Nat
  grantUntil0 : Nat
  grantUntil1 : Nat
  streamGen0 : Nat
  streamGen1 : Nat
  resumeSsn0 : Nat
  resumeSsn1 : Nat
  eBase : Nat
  tBase : Nat
  barrierEpn : Nat
  highEpn : Nat
  deriving DecidableEq, Repr

/-- The payload of RENEW, CLAIM and RELEASE (R432). -/
structure LeaseReq where
  arrayId : Bytes
  leaseGen : Nat
  epn : Nat
  setOwner : Bool
  setManager : Bool
  clearFence : Bool
  setBase : Bool
  setBarrier : Bool
  siteArg : Nat
  streamArg : Nat
  ownerArg : Nat
  streamGen : Nat
  resumeSsn : Nat
  eBase : Nat
  tBase : Nat
  barrierEpn : Nat
  deriving DecidableEq, Repr

/-- The HELLO payload (R417). -/
structure Hello where
  role : Nat
  site : Nat
  port : Nat
  linkEpoch : Nat
  tTx : Nat
  tEcho : Nat
  turnNs : Nat
  wGrant : Nat
  qGrant : Nat
  deriving DecidableEq, Repr

/-- The 64-byte heartbeat body (R396). -/
structure Heartbeat where
  t1 : Nat
  t2Echo : Nat
  t3Echo : Nat
  state : Nat
  timeState : TimeState
  manager : Bool
  pathBHeard : Bool
  sealed : Nat
  replayed0 : Nat
  replayed1 : Nat
  deriving DecidableEq, Repr

/-- The 128-byte append head (R425). -/
structure AppendHead where
  imageLen : Nat
  granule : Nat
  raw : Bool
  mirror : Bool
  domain : Nat
  nsIndex : Nat
  chunkNo : Nat
  chunkId : Nat
  appTag : Nat
  birth : Nat
  fp : Bytes
  crc64 : Nat
  refTag : Nat
  checkApp : Nat
  lostBlocks : Nat
  deriving DecidableEq, Repr

/-- The 256-byte strip header (R348). -/
structure StripHead where
  member : Nat
  parity : Bool
  metadata : Bool
  rebuilt : Bool
  recovered : Bool
  stripeId : Nat
  k : Nat
  m : Nat
  layoutGen : Nat
  usedGranules : Nat
  closeEpn : Nat
  sites : List Nat
  empty : Nat
  deriving DecidableEq, Repr

/-- A stored sector: 4,096 data bytes and its 16-byte check field (R497). -/
structure Sector where
  data : Bytes
  crc64 : Nat
  refTag : Nat
  appTag : Nat
  deriving DecidableEq, Repr

/-- One entry of an ACK or DONE frame (R429). -/
structure AckEntry where
  tag : Tag
  bytes : Nat
  deriving DecidableEq, Repr

/-! ### Bundles, sections, journal records -/

/-- Bytes 0 to 47 of a stripe record (R349). -/
structure StripeHead where
  stripeId : Nat
  k : Nat
  m : Nat
  state : Nat
  flags : Nat
  layoutGen : Nat
  openEpn : Nat
  sites : List Nat
  deriving DecidableEq, Repr

/-- A bundle header (R216); the digests are 32 bytes each. -/
structure BundleHdr where
  stream : Nat
  kind : Nat
  empty : Bool
  takeover : Bool
  qualityLow : Bool
  epn : Nat
  firstSsn : Nat
  ssnCount : Nat
  commands : Nat
  items : Nat
  batchSeq : Nat
  releasedSeq : Nat
  sectionLen : Nat
  sectionDigest : Bytes
  prevDigest : Bytes
  arrayTime : Nat
  deriving DecidableEq, Repr

/-- A map-journal record (R325). -/
inductive JRec where
  | map (nsIndex chunkNo chunkId appTag lostBlocks : Nat)
  | extent (nsIndex chunkNo count : Nat) (dealloc : Bool)
  | resv (nsIndex action rtype key : Nat)
  | merge (l s : Nat)
  | reloc (chunkId stripeId strip granule : Nat)
  | member (stripeId idx site : Nat)
  | repair (chunkId : Nat)
  deriving DecidableEq, Repr

/-- A domain key record (R316). -/
structure KeyRec where
  domain : Nat
  generation : Nat
  epn : Nat
  wrappedData : Bytes
  wrappedFp : Bytes
  kekId : Nat
  deriving DecidableEq, Repr

/-- A namespace as the root record holds it (R187 to R189). -/
structure NsDef where
  nsid : Nat
  nsze : Nat
  /-- The format's number, plus 16 where metadata is interleaved over PCIe (R181, R187), as FLBAS has it. -/
  lbaf : Nat
  domain : Nat
  deriving DecidableEq, Repr

/-- A snapshot definition (R338). -/
structure SnapDef where
  id : Nat
  epn : Nat
  nsids : List Nat
  deriving DecidableEq, Repr

/-- A UTC schedule entry (R340). -/
structure UtcSched where
  firstUtcS : Nat
  periodS : Nat
  count : Nat
  nsids : List Nat
  snapId : Nat
  deriving DecidableEq, Repr

/-- The records of item kind MANAGER (R388): each decision of R22, and the LOST and SYNC records. -/
inductive MgrRec where
  | fail (site : Nat)
  | absent (site : Nat)
  | present (site : Nat)
  | spareSet (sites : List Nat)
  /-- LOST(S), with the unrecoverable sectors of its data strips as member x 16 + sector (R367). -/
  | lost (stripeId : Nat) (sectors : List Nat)
  | refoldStart (gen k m n retireFrom : Nat)
  | refoldDone
  | shardMove (range site : Nat)
  | shardMoveDone (range : Nat)
  | nsCreate (d : NsDef)
  | nsDelete (nsid : Nat)
  | nsAttach (nsid : Nat) (ctrls : List Nat) (attach : Bool)
  | nsFormat (d : NsDef)
  | sanitize
  | domainKey (k : KeyRec)
  | snapDefine (d : SnapDef)
  | snapDelete (id : Nat)
  | snapClone (snapId srcNsid nsid : Nat)
  | snapRelease (snapId nsid page : Nat)
  | schedAdd (e : UtcSched)
  | schedRemove (snapId : Nat)
  | handback (stream h : Nat)
  | leaseMove (site m : Nat)
  | syncOff
  | syncOn
  | replKeyGen (g : Nat) (wrapped0 wrapped1 : Bytes)
  | ckptDarn (cursor tier : Nat)
  | ckptRefold (gen boundary done : Nat)
  | ckptRepl (g claim epn r0 r1 : Nat)
  /-- The array boot record is appended (R22, R23, R110), and a join record (R111): role, site, STATUS and LEDGER_SEQ of the parts named. -/
  | ledgerArray (parts : List (Nat × Nat × Nat × Nat))
  | ledgerJoin (role site status seq : Nat)
  deriving DecidableEq, Repr

/-- A range of blocks named by a command. -/
structure LbaRange where
  slba : Nat
  nlb : Nat
  deriving DecidableEq, Repr

/-- A BODY CHUNK item (R388); outcome 1 UNIQUE (no dedupe), 4 HIT, 5 ZERO, 6 PENDING. -/
structure ChunkItem where
  ssn : Nat
  outcome : Nat
  raw : Bool
  imageLen : Nat
  chunkId : Nat
  stripeId : Nat
  strip : Nat
  stagingSsn : Nat
  granule : Nat
  fp : Bytes
  /-- LOST_BLOCKS (R219), the domain, and whether the chunk is restaged under R337, carried beside the encoding as APP_TAG is (log 26). -/
  lostBlocks : Nat
  domain : Nat
  repair : Bool
  deriving DecidableEq, Repr

/-- What one record SSN of a COMMAND item writes (R209, R388). -/
inductive RecKind where
  | chunk (chunkNo : Nat)
  | extent (chunkNo count : Nat) (dealloc : Bool)
  | resv (action rtype key : Nat)
  deriving DecidableEq, Repr

/-- A SEAL COMMAND item (R388). -/
structure CmdItem where
  nsid : Nat
  opcode : Nat
  fuse : Nat
  cntlid : Nat
  firstSsn : Nat
  ranges : List LbaRange
  recs : List RecKind
  /-- APP_TAG per record (R330); the encoding of R388 leaves it out, so the model carries it beside (log 26). -/
  appTags : List Nat
  deriving DecidableEq, Repr

/-- A section item (R388). -/
inductive Item where
  | command (c : CmdItem)
  | decision (ssn outcome t : Nat)
  | close (h : StripeHead) (closeEpn : Nat) (ssns : List (List Nat))
  | merge (l s : Nat)
  | free (chunkId : Nat)
  | manager (r : MgrRec)
  | openStripe (h : StripeHead)
  | chunk (c : ChunkItem)
  | image (ssn : Nat) (img : Bytes)
  | batch (cls records bodyCrc : Nat)
  | records (cls : Nat) (recs : List JRec)
  deriving DecidableEq, Repr

/-! ### NVMe -/

/-- Which command: controller, submission queue and command identifier. -/
structure CmdId where
  cntlid : Nat
  sqid : Nat
  cid : Nat
  deriving DecidableEq, Repr

/-- An NVMe status: SCT, SC, DNR (R205). -/
structure NvmeSt where
  sct : Nat
  sc : Nat
  dnr : Bool
  deriving DecidableEq, Repr

/-- Protection information a host sends with a block (R187, R330). -/
structure PiBlock where
  guard : Nat
  appTag : Nat
  refTag : Nat
  deriving DecidableEq, Repr

/-- The fields of a Copy source range (R185). -/
structure CopyRange where
  nsid : Nat
  slba : Nat
  nlb : Nat
  deriving DecidableEq, Repr

/-- A command forwarded over the Seam (R26, R387): what its submission entry and data say. -/
inductive FwdOp where
  | write (nsid slba nlb : Nat) (data : Bytes)
  | writeZeroes (nsid slba nlb : Nat) (deac : Bool)
  | deallocate (nsid : Nat) (ranges : List LbaRange)
  | copy (nsid sdlba : Nat) (ranges : List CopyRange)
  /-- The Compare of the fused pair by its command identifier, its data and the Write's. -/
  | compareWrite (nsid slba nlb cmpCid : Nat) (cmp data : Bytes)
  /-- The current key, and the key the record carries (R325); for a Register the type field carries CPTPL (log 89). -/
  | resv (nsid action rtype cur key : Nat)
  deriving DecidableEq, Repr

/-- A namespace, format or sanitize command forwarded to the manager (R189). -/
inductive AdminOp where
  | create (nsze lbaf domain : Nat)
  | delete (nsid : Nat)
  | attach (nsid : Nat) (ctrls : List Nat)
  | detach (nsid : Nat) (ctrls : List Nat)
  | format (nsid lbaf ses : Nat)
  | sanitizeCrypto
  deriving DecidableEq, Repr

/-- What a Reservation Register asks besides its keys: to ignore the existing key, and the change of Persist Through Power Loss (NVMe 2.0). -/
structure RegOpts where
  ignore : Bool
  cptpl : Fin 4
  deriving DecidableEq, Repr

/-! ### PTP -/

/-- What a Sync of PTP brings (R34, R35): before T is set, the time the servo has acquired, in ticks of R36; the Sync intervals without a
message since the last one; the port and the domain. -/
structure PtpSeen where
  acquired : Nat
  missed : Nat
  port : Nat
  dom : Nat
  deriving DecidableEq, Repr

/-- What an Announce of PTP brings (R34): currentUtcOffset, the port and the domain. -/
structure PtpUtc where
  offset : Int
  port : Nat
  dom : Nat
  deriving DecidableEq, Repr

/-! ### RDMA and replication -/

/-- The transport header of a received RC packet, and the spray header where there is one (R509, R520). -/
structure RdmaPkt where
  fp : Fin 16
  qpn : Nat
  psn : Nat
  priority : Nat
  ceMarked : Bool
  spray : Option (Nat × Nat × Bool)
  first : Bool
  last : Bool
  payload : Bytes
  deriving DecidableEq, Repr

/-- The 48-byte replication message header (R528). -/
structure ReplHdr where
  sender : Nat
  claim : Nat
  stream : Nat
  part : Nat
  parts : Nat
  keyGen : Nat
  ident : Nat
  prev : Nat
  tagBytes : Bytes
  deriving DecidableEq, Repr

/-- A replication record (R531). -/
structure ReplRec where
  kind : Nat
  domain : Nat
  flags : Nat
  nsid : Nat
  chunkNo : Nat
  count : Nat
  appTag : Nat
  ssn : Nat
  fp : Bytes
  deriving DecidableEq, Repr

/-- One chunk of a CHUNK, PUSH or REPAIR_DATA message (R529). -/
structure ReplChunk where
  reqNo : Nat
  domain : Nat
  unavailable : Bool
  lostBlocks : Nat
  fp : Bytes
  data : Bytes
  deriving DecidableEq, Repr

/-- One PULL entry (R529). -/
structure PullEntry where
  reqNo : Nat
  domain : Nat
  fp : Bytes
  deriving DecidableEq, Repr

/-! ### Flash -/

/-- A flash routine request (R484). -/
structure FlashReq where
  ring : Fin 4096
  notify : Bool
  tag : Nat
  channel : Fin 32
  /-- 0 to 3, or 0xFF for the channel itself. -/
  ce : Nat
  lun : Fin 4
  mode : Nat
  block : Nat
  page : Nat
  sectors : BitVec 16
  chkCrc : Bool
  chkRef : Bool
  chkApp : Bool
  wantTag : Bool
  sentinel : Bool
  set : Bool
  sel : Nat
  arg : BitVec 32
  data : Nat
  metaAddr : Nat
  refTag : Nat
  appTag : Nat
  deriving DecidableEq, Repr

/-- What the die shows when an operation ends (R485, R489 to R493): whether it failed, which sectors did not decode,
which read as erased, the retry set that settled the read, the most bits corrected, the raw zero bits of a sentinel read,
and the bytes of a status or feature read. -/
structure DieResult where
  failed : Bool
  undecoded : BitVec 16
  erased : BitVec 16
  set : Nat
  maxCbits : Nat
  zeros : Nat
  bytes : Bytes
  deriving DecidableEq, Repr

/-- What a queue pair serves (R510, R526): a controller, the replication control QP, a replication data QP. -/
inductive QpUse where
  | host (cntlid : Nat)
  | control
  | data
  deriving DecidableEq, Repr

/-- What a pass read of one member: its index, a bit per sector that did not read, its payload area of 65,280 bytes. -/
abbrev StripRead := Nat × BitVec 16 × Bytes

/-- A record of the Hem that fails at boot (R155, R160, R170): a directory copy, the power-fail record, the ledger staging, a batch by
stream and RING_SEQ, a SIF or BUNDLE record by index, a checkpoint by kind (0 Darning, 1 Refold, 2 replication, 3 epoch), stream and slot
group, one of a shelf's lease records, one of its erase intents, one of its PLB index entries. -/
inductive HemRec where
  | dir (second : Bool)
  | powerFail
  | ledger
  | batch (stream ringSeq : Nat)
  | sif (index : Nat)
  | bundle (index : Nat)
  | ckpt (kind stream : Nat) (second : Bool)
  /-- The newest lease record, or the one in the other slot group (R399). -/
  | lease (old : Bool)
  | intent (index : Nat)
  | plb (index : Nat)
  /-- The FTL journal head, and one of its records (R456). -/
  | ftlHead
  | ftl (index : Nat)
  /-- A unit, with the CRC found stored beside it (R153, R155). -/
  | unit (u crc : Nat)
  deriving DecidableEq, Repr

/-- What ends with a descriptor (R132): a fetched descriptor by its job number, or the reduction work on a chunk record (R218), by
stream and SSN. -/
inductive CplOf where
  | job (n : Nat)
  | work (stream ssn : Nat)
  deriving DecidableEq, Repr

end Sys2Proof
end

