-- ==== Sys2Proof/Machine/Bits.lean ====
section
/-! DEFINITION. Byte order (R7), bit fields, byte strings, and sparse tables kept as sorted lists. -/

namespace Sys2Proof.Machine

/-! ### Byte order and fields -/

/-- The `n` little-endian bytes of `v` (R7: multi-byte fields are little-endian). -/
def le : Nat → Nat → Bytes
  | 0, _ => []
  | n + 1, v => BitVec.ofNat 8 v :: le n (v / 256)

/-- The number a little-endian byte string holds. -/
def leNat : Bytes → Nat
  | [] => 0
  | b :: bs => b.toNat + 256 * leNat bs

/-- The number a big-endian byte string holds. -/
def beNat (bs : Bytes) : Nat := leNat bs.reverse

/-- The `n` big-endian bytes of `v`. -/
def be (n v : Nat) : Bytes := (le n v).reverse

/-- The `len` bytes from offset `off`. -/
def sub (bs : Bytes) (off len : Nat) : Bytes := (bs.drop off).take len

/-- The little-endian number in `len` bytes from offset `off`. -/
def num (bs : Bytes) (off len : Nat) : Nat := leNat (sub bs off len)

/-- `n` zero bytes. -/
def zeros (n : Nat) : Bytes := List.replicate n 0

/-- Cut or zero-fill to exactly `n` bytes. -/
def padTo (n : Nat) (bs : Bytes) : Bytes := bs.take n ++ zeros (n - bs.length)

/-- The `w`-bit field of `v` that starts at bit `lo`. -/
def field (v lo w : Nat) : Nat := v / 2 ^ lo % 2 ^ w

/-- Bit `i` of `v`. -/
def bit (v i : Nat) : Bool := v / 2 ^ i % 2 == 1

/-- A Bool as the bit it is. -/
def b2n (b : Bool) : Nat := if b then 1 else 0

/-- A counter that stops at its largest `w`-bit value. -/
def satInc (w c : Nat) : Nat := if c + 1 < 2 ^ w then c + 1 else 2 ^ w - 1

/-- A sum that stops at the largest `w`-bit value. -/
def satAdd (w a b : Nat) : Nat := min (a + b) (2 ^ w - 1)

/-- Whether every byte is zero. -/
def allZero (bs : Bytes) : Bool := bs.all (· == 0)

/-- Byte-wise exclusive or; the shorter length wins. -/
def xorBytes (a b : Bytes) : Bytes := List.zipWith (· ^^^ ·) a b

/-- The bytes in groups of `n` (`fuel` groups at most), the last one possibly short. -/
def groups (n : Nat) : Nat → Bytes → List Bytes
  | 0, _ => []
  | fuel + 1, bs => if bs.isEmpty then [] else bs.take n :: groups n fuel (bs.drop n)

/-- The byte string in groups of `n`. -/
def chunksOf (n : Nat) (bs : Bytes) : List Bytes := groups n (bs.length / max n 1 + 1) bs

/-- Whether a Nat list has no repeats. -/
def noDup (l : List Nat) : Bool := l.eraseDups.length == l.length

/-- Saturating signed 16-bit image of an integer, as a two's complement pattern. -/
def sat16 (x : Int) : Nat :=
  if x > 32767 then 32767 else if x < -32768 then 0x8000 else (x % 65536).toNat

/-- Put a number into an ascending list without repeats. -/
def insNat : List Nat → Nat → List Nat
  | [], x => [x]
  | y :: ys, x => if x < y then x :: y :: ys else if x = y then y :: ys else y :: insNat ys x

/-! ### Sparse tables: lists sorted by key, no repeats -/

/-- What a table holds at a key. -/
def SMap.get {α : Type} : SMap α → Nat → Option α
  | [], _ => none
  | (k', v) :: m, k => if k' = k then some v else SMap.get m k

/-- What a table holds at a key, or the value of an unlisted key. -/
def SMap.getD {α : Type} (m : SMap α) (k : Nat) (d : α) : α := (SMap.get m k).getD d

/-- Store a value at a key. -/
def SMap.set {α : Type} : SMap α → Nat → α → SMap α
  | [], k, v => [(k, v)]
  | (k', v') :: m, k, v =>
    if k < k' then (k, v) :: (k', v') :: m
    else if k = k' then (k, v) :: m
    else (k', v') :: SMap.set m k v

/-- Remove a key. -/
def SMap.del {α : Type} (m : SMap α) (k : Nat) : SMap α := List.filter (fun e => e.1 != k) m

/-- Change the value at a key, where there is one. -/
def SMap.modify {α : Type} (m : SMap α) (k : Nat) (f : α → α) : SMap α :=
  List.map (fun e => if e.1 = k then (e.1, f e.2) else e) m

/-- Whether a key is listed. -/
def SMap.has {α : Type} (m : SMap α) (k : Nat) : Bool := (SMap.get m k).isSome

/-- The keys in order. -/
def SMap.keys {α : Type} (m : SMap α) : List Nat := List.map (·.1) m

/-- The values in key order. -/
def SMap.vals {α : Type} (m : SMap α) : List α := List.map (·.2) m

/-- Keep the entries a test accepts. -/
def SMap.keep {α : Type} (m : SMap α) (p : Nat → α → Bool) : SMap α := List.filter (fun e => p e.1 e.2) m

/-- Change every value. -/
def SMap.mapV {α β : Type} (m : SMap α) (f : Nat → α → β) : SMap β := List.map (fun e => (e.1, f e.1 e.2)) m

/-! ### Byte memories: cells sorted by address, no cell equal to what an unlisted address reads as -/

/-- What one address of a byte memory reads as; `d` is what an unlisted address reads as. -/
def Mem.read (d : Byte) : Mem → Nat → Byte
  | [], _ => d
  | (a', b) :: m, a => if a' = a then b else Mem.read d m a

/-- Store one byte, keeping the canonical form: writing the unlisted value removes the cell. -/
def Mem.write (d : Byte) : Mem → Nat → Byte → Mem
  | [], a, b => if b = d then [] else [(a, b)]
  | (a', b') :: m, a, b =>
    if a < a' then (if b = d then (a', b') :: m else (a, b) :: (a', b') :: m)
    else if a = a' then (if b = d then m else (a, b) :: m)
    else (a', b') :: Mem.write d m a b

/-- Read `n` bytes from an address. -/
def Mem.readBytes (d : Byte) (m : Mem) (a : Nat) : Nat → Bytes
  | 0 => []
  | n + 1 => Mem.read d m a :: Mem.readBytes d m (a + 1) n

/-- Store a byte string at an address, lowest address first. -/
def Mem.writeBytes (d : Byte) : Mem → Nat → Bytes → Mem
  | m, _, [] => m
  | m, a, b :: bs => Mem.writeBytes d (Mem.write d m a b) (a + 1) bs

/-- Make a whole range read as unlisted. -/
def Mem.clear (m : Mem) (a n : Nat) : Mem := List.filter (fun c => c.1 < a || a + n ≤ c.1) m

/-- The canonical form: addresses strictly rising from `lo` on, no cell equal to the unlisted value. -/
def Mem.wfFrom (d : Byte) : Nat → Mem → Bool
  | _, [] => true
  | lo, (a, b) :: m => decide (lo ≤ a) && b != d && Mem.wfFrom d (a + 1) m

/-- The canonical form of a byte memory. -/
def Mem.wf (d : Byte) (m : Mem) : Bool := Mem.wfFrom d 0 m

/-- Bytes as upper-case hexadecimal text. -/
def hexText (b : Bytes) : Bytes :=
  let digit := fun (n : Nat) => BitVec.ofNat 8 (if n < 10 then 48 + n else 55 + n)
  b.flatMap (fun x => [digit (x.toNat / 16), digit (x.toNat % 16)])

end Sys2Proof.Machine
end

