-- ==== Sys2Proof/Machine/Params.lean ====
section
/-! DEFINITION. The parameters (R575 to R580): each one's ID under its own name, and the schema the firmware checks the block
against (R79). Rows and ordinals follow the defining tables' row order (R575). -/

namespace Sys2Proof.Machine

/-- `epoch.length_us`. Epoch length in µs. -/
abbrev p_epoch_length_us : Nat := 0x0101
/-- `time.source`. Source of time (R32). -/
abbrev p_time_source : Nat := 0x0201
/-- `time.origin_tai_s`. Array origin in the PTP timescale. -/
abbrev p_time_origin_tai_s : Nat := 0x0202
/-- `time.utc_offset_s`. TAI–UTC offset when not supplied by PTP. -/
abbrev p_time_utc_offset_s : Nat := 0x0203
/-- `time.ptp_port`. PTP port. -/
abbrev p_time_ptp_port : Nat := 0x0204
/-- `time.ptp_domain`. PTP domain number. -/
abbrev p_time_ptp_domain : Nat := 0x0205
/-- `time.slew_max_ppm`. Maximum slew rate (R40). -/
abbrev p_time_slew_max_ppm : Nat := 0x0206
/-- `time.skew_max_ns`. Skew alarm threshold (R47, R50). -/
abbrev p_time_skew_max_ns : Nat := 0x0207
/-- `boot.ready_timeout_s`. Ready watchdog (R85). -/
abbrev p_boot_ready_timeout_s : Nat := 0x0401
/-- `boot.uart_log`. Boot progress on UART. -/
abbrev p_boot_uart_log : Nat := 0x0402
/-- `image.array_id`. Array identifier (R86). -/
abbrev p_image_array_id : Nat := 0x0301
/-- `image.rollback_raise`. Raise the rollback floor after READY (R88). -/
abbrev p_image_rollback_raise : Nat := 0x0302
/-- `image.barrier_max_ms`. Barrier abort time (R91). -/
abbrev p_image_barrier_max_ms : Nat := 0x0303
/-- `ledger.collect_timeout_s`. Collection wait (R110). -/
abbrev p_ledger_collect_timeout_s : Nat := 0x0501
/-- `ledger.join_records`. Append type 3 records (R111). -/
abbrev p_ledger_join_records : Nat := 0x0502
/-- `attest.spdm_enable`. SPDM responder (R113). -/
abbrev p_attest_spdm_enable : Nat := 0x0601
/-- `attest.raw_records`. Raw records in measurement blocks 7 and 8 (R114). -/
abbrev p_attest_raw_records : Nat := 0x0602
/-- `engine.trace_level`. Engine trace records sent to the event fabric. -/
abbrev p_engine_trace_level : Nat := 0x0701
/-- `mc.enable`. Enable the MC at boot (R146). -/
abbrev p_mc_enable : Nat := 0x0801
/-- `mc.lock_ways`. Ways per set that the firmware locks for hot metadata. -/
abbrev p_mc_lock_ways : Nat := 0x0802
/-- `hbm.scrub_hours`. Patrol scrub period (R134). -/
abbrev p_hbm_scrub_hours : Nat := 0x0901
/-- `hem.floor_pct`. Floor per credit class (R165). -/
abbrev p_hem_floor_pct : Nat := 0x0A01
/-- `hem.ceil_pct`. Ceiling per credit class (R165). -/
abbrev p_hem_ceil_pct : Nat := 0x0A02
/-- `hem.ingest_epoch_units`. INGEST demand; 0 is 8 × `epoch.length_us`. -/
abbrev p_hem_ingest_epoch_units : Nat := 0x0A03
/-- `hem.low_water_pct`. AL_HEM_CREDIT_LOW threshold (R167). -/
abbrev p_hem_low_water_pct : Nat := 0x0A04
/-- `hem.stall_alarm_epochs`. AL_HEM_ADMIT_STALL delay (R167). -/
abbrev p_hem_stall_alarm_epochs : Nat := 0x0A05
/-- `pcie.max_gen`. Highest rate trained (R177). -/
abbrev p_pcie_max_gen : Nat := 0x0C01
/-- `pcie.max_width`. Widest link trained (R177). -/
abbrev p_pcie_max_width : Nat := 0x0C02
/-- `pcie.total_vfs`. TotalVFs (R178). -/
abbrev p_pcie_total_vfs : Nat := 0x0C03
/-- `pcie.vf_ioq`. I/O queue pairs reserved per VF (R182). -/
abbrev p_pcie_vf_ioq : Nat := 0x0C04
/-- `nvme.subnqn`. Subsystem NQN (R174). -/
abbrev p_nvme_subnqn : Nat := 0x0B01
/-- `nvme.rdma_ctrls`. RDMA I/O controllers per head (R175). -/
abbrev p_nvme_rdma_ctrls : Nat := 0x0B02
/-- `nvme.rdma_port_mask`. Bit p enables NVMe/RDMA on FPp (R181). -/
abbrev p_nvme_rdma_port_mask : Nat := 0x0B03
/-- `nvme.rdma_svcid`. Service identifier (R181). -/
abbrev p_nvme_rdma_svcid : Nat := 0x0B04
/-- `nvme.sanitize_enable`. Permit Sanitize Crypto Erase (R190). -/
abbrev p_nvme_sanitize_enable : Nat := 0x0B05
/-- `ns.owner_policy`. Configured owner rule (R188). -/
abbrev p_ns_owner_policy : Nat := 0x0D01
/-- `ns.default_domain`. Domain of a namespace created without one (R189). -/
abbrev p_ns_default_domain : Nat := 0x0D02
/-- `ingest.open_stripes`. Open stripes per stream (R227). -/
abbrev p_ingest_open_stripes : Nat := 0x0E01
/-- `ingest.cap_gbps`. Admission byte cap per head; 0 is none (R210). -/
abbrev p_ingest_cap_gbps : Nat := 0x0E02
/-- `ingest.zero_detect`. Record all-zero chunks as ZERO (R218). -/
abbrev p_ingest_zero_detect : Nat := 0x0E03
/-- `dedupe.decide_epochs`. Decision deadline D (R223). -/
abbrev p_dedupe_decide_epochs : Nat := 0x0F01
/-- `dedupe.chunk_size`. Chunk size C of the domain. -/
abbrev p_dedupe_chunk_size : Nat := 0x0F02
/-- `dedupe.enable`. Dedupe lookups and inserts for the domain (R220). -/
abbrev p_dedupe_enable : Nat := 0x0F03
/-- `dedupe.sort_rate_per_s`. Sort merge rate; 0 stops the Sort (R236). -/
abbrev p_dedupe_sort_rate_per_s : Nat := 0x0F04
/-- `digest.fp_priority`. Priority of fingerprint requests (R249). -/
abbrev p_digest_fp_priority : Nat := 0x1001
/-- `match.lba_entries`. Entries E of the mirrored open-epoch region (R258). -/
abbrev p_match_lba_entries : Nat := 0x1101
/-- `match.shard_rebuild_per_s`. REBUILD_INSERT rate; 0 leaves moved ranges not ready (R267). -/
abbrev p_match_shard_rebuild_per_s : Nat := 0x1102
/-- `press.data_enable`. 1: chunks of the domain are compressed under R226. 0: every image of the domain is stored raw without a Press job. -/
abbrev p_press_data_enable : Nat := 0x1201
/-- `press.repl_compress`. Compress replication payload as stream class. -/
abbrev p_press_repl_compress : Nat := 0x1202
/-- `cipher.enc_pairs_max`. Pairs running encrypt requests at once (R298). -/
abbrev p_cipher_enc_pairs_max : Nat := 0x1301
/-- `key.domain_enable`. Domain has keys (R316). -/
abbrev p_key_domain_enable : Nat := 0x1401
/-- `key.purge_max_s`. AL_CIPHER_PURGE_LATE delay (R317). -/
abbrev p_key_purge_max_s : Nat := 0x1402
/-- `read.map_flush_epochs`. Longest time a page stays dirty (R324). -/
abbrev p_read_map_flush_epochs : Nat := 0x1501
/-- `read.fp_verify_pct`. Percent of chunk reads whose fingerprint is checked (R334). -/
abbrev p_read_fp_verify_pct : Nat := 0x1502
/-- `read.repair_enable`. Partner repair on read (R337). -/
abbrev p_read_repair_enable : Nat := 0x1503
/-- `read.repair_timeout_ms`. Repair wait (R337). -/
abbrev p_read_repair_timeout_ms : Nat := 0x1504
/-- `snap.min_lead_epochs`. Least lead of E over the recording epoch (R339). -/
abbrev p_snap_min_lead_epochs : Nat := 0x1601
/-- `snap.max_per_volume`. Snapshots naming one namespace (R339). -/
abbrev p_snap_max_per_volume : Nat := 0x1602
/-- `snap.release_per_s`. Positions released per second after deletion (R343). -/
abbrev p_snap_release_per_s : Nat := 0x1603
/-- `stripe.k`. Data strips; 0 with `stripe.m` 0 selects the automatic layout (R345). -/
abbrev p_stripe_k : Nat := 0x1701
/-- `stripe.m`. Parity strips (R345). -/
abbrev p_stripe_m : Nat := 0x1702
/-- `stripe.close_epochs`. Epochs after which an open stripe closes (R235, R370). -/
abbrev p_stripe_close_epochs : Nat := 0x1703
/-- `glade.spare_centi`. Glade size G in hundredths of a shelf-equivalent (R359). -/
abbrev p_glade_spare_centi : Nat := 0x1801
/-- `glade.warn_pct`. Available Spare warning threshold (R359). -/
abbrev p_glade_warn_pct : Nat := 0x1802
/-- `glade.fail_ms`. Link loss before a shelf is treated as failed (R361). -/
abbrev p_glade_fail_ms : Nat := 0x1803
/-- `darn.rate_gbps`. Rebuild cap per head (R365). -/
abbrev p_darn_rate_gbps : Nat := 0x1901
/-- `darn.planned_grace_s`. Longest planned absence (R361, R362). -/
abbrev p_darn_planned_grace_s : Nat := 0x1902
/-- `refold.rate_gbps`. Relocation cap per head (R370). -/
abbrev p_refold_rate_gbps : Nat := 0x1A01
/-- `refold.compact_pct`. Compaction threshold; 0 stops compaction (R373). -/
abbrev p_refold_compact_pct : Nat := 0x1A02
/-- `refold.retire_from`. Sites at or above this are evacuated; 64 is none (R369, R374). -/
abbrev p_refold_retire_from : Nat := 0x1A03
/-- `rinse.cycle_days`. Rinse cycle (R375). -/
abbrev p_rinse_cycle_days : Nat := 0x1B01
/-- `rinse.max_gbps`. Rinse read cap per head (R375). -/
abbrev p_rinse_max_gbps : Nat := 0x1B02
/-- `seam.hb_loss_epochs`. Silent epochs before loss (R398). -/
abbrev p_seam_hb_loss_epochs : Nat := 0x1C01
/-- `seam.min_lanes`. Fewest lanes for a working link (R384). -/
abbrev p_seam_min_lanes : Nat := 0x1C02
/-- `seam.pair_window_epochs`. Shelf's compare window (R394). -/
abbrev p_seam_pair_window_epochs : Nat := 0x1C03
/-- `seam.suspect_limit`. Reports that make a head suspect (R395). -/
abbrev p_seam_suspect_limit : Nat := 0x1C04
/-- `seam.suspect_restart`. Restart a suspect head (R395). -/
abbrev p_seam_suspect_restart : Nat := 0x1C05
/-- `seam.catchup_epochs`. Replay lag at which a rejoiner joins (R407). -/
abbrev p_seam_catchup_epochs : Nat := 0x1C06
/-- `seam.auto_handback`. Hand back without a request (R408). -/
abbrev p_seam_auto_handback : Nat := 0x1C07
/-- `lease.term_epochs`. Grant length (R400, R402). -/
abbrev p_lease_term_epochs : Nat := 0x1D01
/-- `lease.boot_wait_ms`. Head B's wait before a manager claim (R410). -/
abbrev p_lease_boot_wait_ms : Nat := 0x1D02
/-- `spoke.shelves`. N, the shelves of the array. -/
abbrev p_spoke_shelves : Nat := 0x1E01
/-- `spoke.write_credits`. Shelf: W credits granted per head (R424). -/
abbrev p_spoke_write_credits : Nat := 0x1E02
/-- `spoke.request_credits`. Shelf: Q credits granted per head (R424). -/
abbrev p_spoke_request_credits : Nat := 0x1E03
/-- `spoke.replay_timeout_us`. Resend after no acknowledgement (R423). -/
abbrev p_spoke_replay_timeout_us : Nat := 0x1E04
/-- `spoke.port_fail_ms`. Port-down time treated as fatal (R434). -/
abbrev p_spoke_port_fail_ms : Nat := 0x1E05
/-- `ftl.op_pct`. Over-provisioning for Clearing (R440). -/
abbrev p_ftl_op_pct : Nat := 0x1F01
/-- `ftl.spare_block_pct`. Spare pool (R440, R465). -/
abbrev p_ftl_spare_block_pct : Nat := 0x1F02
/-- `ftl.spare_warn_pct`. AL_FTL_SPARE_LOW threshold (R470). -/
abbrev p_ftl_spare_warn_pct : Nat := 0x1F03
/-- `ftl.slc_base_permille`. SLC base share of R (R447). -/
abbrev p_ftl_slc_base_permille : Nat := 0x1F04
/-- `ftl.slc_free_pct`. SLC share of free space (R447). -/
abbrev p_ftl_slc_free_pct : Nat := 0x1F05
/-- `ftl.slc_cap_pct`. SLC cap (R447). -/
abbrev p_ftl_slc_cap_pct : Nat := 0x1F06
/-- `ftl.ckpt_segments`. Checkpoint segments per flush (R457). -/
abbrev p_ftl_ckpt_segments : Nat := 0x1F07
/-- `ftl.clearing_free_pct`. FREE blocks below which Clearing reclaims (R458). -/
abbrev p_ftl_clearing_free_pct : Nat := 0x1F08
/-- `ftl.clearing_max_gbps`. Clearing copy cap (R458). -/
abbrev p_ftl_clearing_max_gbps : Nat := 0x1F09
/-- `ftl.wl_delta_pct`. Wear spread that triggers levelling (R462). -/
abbrev p_ftl_wl_delta_pct : Nat := 0x1F0A
/-- `shelf.pls_budget_mib`. Power-safe buffer (R449, R454). -/
abbrev p_shelf_pls_budget_mib : Nat := 0x2001
/-- `shelf.nand_temp_max_c`. AL_FTL_TEMP threshold (R470). -/
abbrev p_shelf_nand_temp_max_c : Nat := 0x2002
/-- `flash.channel_mask`. Bit c enumerates FCc (R476). -/
abbrev p_flash_channel_mask : Nat := 0x2101
/-- `flash.rate_cap_mts`. Highest channel rate (R474). -/
abbrev p_flash_rate_cap_mts : Nat := 0x2102
/-- `flash.erase_min_slice_us`. Least erase run between suspends (R494). -/
abbrev p_flash_erase_min_slice_us : Nat := 0x2103
/-- `ldpc.soft_enable`. Soft decode after the retry sets (R490). -/
abbrev p_ldpc_soft_enable : Nat := 0x2201
/-- `ldpc.max_iterations`. Decoder iteration limit (R482). -/
abbrev p_ldpc_max_iterations : Nat := 0x2202
/-- `eth.port_speed`. Port speed. -/
abbrev p_eth_port_speed : Nat := 0x2301
/-- `eth.pfc_mask`. PFC priorities per port (R507). -/
abbrev p_eth_pfc_mask : Nat := 0x2302
/-- `eth.ip_addr`. IPv6, or IPv4-mapped, address per port. -/
abbrev p_eth_ip_addr : Nat := 0x2303
/-- `eth.rdma_priority`. RoCEv2 priority (R507). -/
abbrev p_eth_rdma_priority : Nat := 0x2304
/-- `eth.rdma_dscp`. RoCEv2 DSCP (R507). -/
abbrev p_eth_rdma_dscp : Nat := 0x2305
/-- `eth.mtu`. Frame MTU. -/
abbrev p_eth_mtu : Nat := 0x2306
/-- `rdma.pmtu`. Path MTU offered. -/
abbrev p_rdma_pmtu : Nat := 0x2401
/-- `rdma.ack_timeout`. Local ACK timeout exponent, 4.096 µs × 2^value (R512). -/
abbrev p_rdma_ack_timeout : Nat := 0x2402
/-- `rdma.retry_cnt`. Retries before error (R512). -/
abbrev p_rdma_retry_cnt : Nat := 0x2403
/-- `rdma.spray_hole_us`. Hole time before NAK (R524). -/
abbrev p_rdma_spray_hole_us : Nat := 0x2404
/-- `rdma.cc_enable`. ECN reaction (R516). -/
abbrev p_rdma_cc_enable : Nat := 0x2405
/-- `repl.role`. R525. -/
abbrev p_repl_role : Nat := 0x2501
/-- `repl.mode`. R535. -/
abbrev p_repl_mode : Nat := 0x2502
/-- `repl.partner_addr`. Partner Head A and Head B addresses (R526). -/
abbrev p_repl_partner_addr : Nat := 0x2503
/-- `repl.domain_enable`. Domain replicated (R525). -/
abbrev p_repl_domain_enable : Nat := 0x2504
/-- `repl.spray_ports`. Spray set (R521). -/
abbrev p_repl_spray_ports : Nat := 0x2505
/-- `repl.qps`. Data QPs (R526). -/
abbrev p_repl_qps : Nat := 0x2506
/-- `repl.ckpt_epochs`. Replica point interval (R534). -/
abbrev p_repl_ckpt_epochs : Nat := 0x2507
/-- `repl.retain_epochs`. Sections kept for streaming (R536). -/
abbrev p_repl_retain_epochs : Nat := 0x2508
/-- `repl.lookup_epochs`. Target lookup wait before PULL (R532). -/
abbrev p_repl_lookup_epochs : Nat := 0x2509
/-- `repl.sync_timeout_ms`. R535. -/
abbrev p_repl_sync_timeout_ms : Nat := 0x250A
/-- `repl.sync_on_loss`. R535. -/
abbrev p_repl_sync_on_loss : Nat := 0x250B
/-- `repl.rekey_hours`. R527. -/
abbrev p_repl_rekey_hours : Nat := 0x250C
/-- `repl.lag_alarm_s`. R540. -/
abbrev p_repl_lag_alarm_s : Nat := 0x250D
/-- `repl.max_gbps`. Replication payload cap (R540). -/
abbrev p_repl_max_gbps : Nat := 0x250E
/-- `event.coalesce_epochs`. Coalescing window (R552). -/
abbrev p_event_coalesce_epochs : Nat := 0x2601
/-- `mgmt.nvme_alarm_aen`. Vendor asynchronous events (R556). -/
abbrev p_mgmt_nvme_alarm_aen : Nat := 0x2701
/-- `mgmt.i3c_addr`. I3C static address (R562). -/
abbrev p_mgmt_i3c_addr : Nat := 0x2702
/-- `mgmt.smbus_addr`. SMBus address (R562). -/
abbrev p_mgmt_smbus_addr : Nat := 0x2703
/-- `mgmt.uart_baud`. UART rate (R562). -/
abbrev p_mgmt_uart_baud : Nat := 0x2704
/-- `power.vcore_mode`. VDD_CORE regulation (R603). -/
abbrev p_power_vcore_mode : Nat := 0x2801
/-- `power.vcore_fixed_mv`. Target under FIXED. -/
abbrev p_power_vcore_fixed_mv : Nat := 0x2802
/-- `power.vcore_min_mv`. Lowest AVS target. -/
abbrev p_power_vcore_min_mv : Nat := 0x2803
/-- `power.vcore_max_mv`. Highest AVS target. -/
abbrev p_power_vcore_max_mv : Nat := 0x2804
/-- `power.avs_khz`. AVSBus clock. -/
abbrev p_power_avs_khz : Nat := 0x2805
/-- `power.avs_rail`. AVSBus rail of VDD_CORE. -/
abbrev p_power_avs_rail : Nat := 0x2806
/-- `power.budget_w`. Package cap (R610). -/
abbrev p_power_budget_w : Nat := 0x2807
/-- `power.pf_filter_ns`. POWER_FAIL_N filter (R611). -/
abbrev p_power_pf_filter_ns : Nat := 0x2808
/-- `power.holdup_check`. Hold-up self-check (R614). -/
abbrev p_power_holdup_check : Nat := 0x2809
/-- `power.core_uv_pct`. Undervoltage threshold (R604). -/
abbrev p_power_core_uv_pct : Nat := 0x280A
/-- `power.sram_uv_pct`. Undervoltage threshold (R604). -/
abbrev p_power_sram_uv_pct : Nat := 0x280B
/-- `power.aon_uv_pct`. Undervoltage threshold (R604). -/
abbrev p_power_aon_uv_pct : Nat := 0x280C
/-- `power.sds09_uv_pct`. Undervoltage threshold (R604). -/
abbrev p_power_sds09_uv_pct : Nat := 0x280D
/-- `power.sds12_uv_pct`. Undervoltage threshold (R604). -/
abbrev p_power_sds12_uv_pct : Nat := 0x280E
/-- `power.hbm_uv_pct`. Undervoltage threshold (R604). -/
abbrev p_power_hbm_uv_pct : Nat := 0x280F
/-- `power.hbmq_uv_pct`. Undervoltage threshold (R604). -/
abbrev p_power_hbmq_uv_pct : Nat := 0x2810
/-- `power.hbmpp_uv_pct`. Undervoltage threshold (R604). -/
abbrev p_power_hbmpp_uv_pct : Nat := 0x2811
/-- `power.fio_uv_pct`. Undervoltage threshold (R604). -/
abbrev p_power_fio_uv_pct : Nat := 0x2812
/-- `power.io_uv_pct`. Undervoltage threshold (R604). -/
abbrev p_power_io_uv_pct : Nat := 0x2813
/-- `power.otp_uv_pct`. Undervoltage threshold (R604). -/
abbrev p_power_otp_uv_pct : Nat := 0x2814
/-- `power.core_ov_pct`. Overvoltage threshold (R604). -/
abbrev p_power_core_ov_pct : Nat := 0x2815
/-- `power.sram_ov_pct`. Overvoltage threshold (R604). -/
abbrev p_power_sram_ov_pct : Nat := 0x2816
/-- `power.aon_ov_pct`. Overvoltage threshold (R604). -/
abbrev p_power_aon_ov_pct : Nat := 0x2817
/-- `power.sds09_ov_pct`. Overvoltage threshold (R604). -/
abbrev p_power_sds09_ov_pct : Nat := 0x2818
/-- `power.sds12_ov_pct`. Overvoltage threshold (R604). -/
abbrev p_power_sds12_ov_pct : Nat := 0x2819
/-- `power.hbm_ov_pct`. Overvoltage threshold (R604). -/
abbrev p_power_hbm_ov_pct : Nat := 0x281A
/-- `power.hbmq_ov_pct`. Overvoltage threshold (R604). -/
abbrev p_power_hbmq_ov_pct : Nat := 0x281B
/-- `power.hbmpp_ov_pct`. Overvoltage threshold (R604). -/
abbrev p_power_hbmpp_ov_pct : Nat := 0x281C
/-- `power.fio_ov_pct`. Overvoltage threshold (R604). -/
abbrev p_power_fio_ov_pct : Nat := 0x281D
/-- `power.io_ov_pct`. Overvoltage threshold (R604). -/
abbrev p_power_io_ov_pct : Nat := 0x281E
/-- `power.otp_ov_pct`. Overvoltage threshold (R604). -/
abbrev p_power_otp_ov_pct : Nat := 0x281F
/-- `power.core_filter_us`. Monitor filter (R604). -/
abbrev p_power_core_filter_us : Nat := 0x2820
/-- `power.sram_filter_us`. Monitor filter (R604). -/
abbrev p_power_sram_filter_us : Nat := 0x2821
/-- `power.aon_filter_us`. Monitor filter (R604). -/
abbrev p_power_aon_filter_us : Nat := 0x2822
/-- `power.sds09_filter_us`. Monitor filter (R604). -/
abbrev p_power_sds09_filter_us : Nat := 0x2823
/-- `power.sds12_filter_us`. Monitor filter (R604). -/
abbrev p_power_sds12_filter_us : Nat := 0x2824
/-- `power.hbm_filter_us`. Monitor filter (R604). -/
abbrev p_power_hbm_filter_us : Nat := 0x2825
/-- `power.hbmq_filter_us`. Monitor filter (R604). -/
abbrev p_power_hbmq_filter_us : Nat := 0x2826
/-- `power.hbmpp_filter_us`. Monitor filter (R604). -/
abbrev p_power_hbmpp_filter_us : Nat := 0x2827
/-- `power.fio_filter_us`. Monitor filter (R604). -/
abbrev p_power_fio_filter_us : Nat := 0x2828
/-- `power.io_filter_us`. Monitor filter (R604). -/
abbrev p_power_io_filter_us : Nat := 0x2829
/-- `power.otp_filter_us`. Monitor filter (R604). -/
abbrev p_power_otp_filter_us : Nat := 0x282A
/-- `power.sds_cap_pct`. Consumer cap (R610). -/
abbrev p_power_sds_cap_pct : Nat := 0x282B
/-- `power.engines_cap_pct`. Consumer cap (R610). -/
abbrev p_power_engines_cap_pct : Nat := 0x282C
/-- `power.press_cap_pct`. Consumer cap (R610). -/
abbrev p_power_press_cap_pct : Nat := 0x282D
/-- `power.cipher_cap_pct`. Consumer cap (R610). -/
abbrev p_power_cipher_cap_pct : Nat := 0x282E
/-- `power.digest_cap_pct`. Consumer cap (R610). -/
abbrev p_power_digest_cap_pct : Nat := 0x282F
/-- `power.match_cap_pct`. Consumer cap (R610). -/
abbrev p_power_match_cap_pct : Nat := 0x2830
/-- `power.mc_cap_pct`. Consumer cap (R610). -/
abbrev p_power_mc_cap_pct : Nat := 0x2831
/-- `power.hbm_cap_pct`. Consumer cap (R610). -/
abbrev p_power_hbm_cap_pct : Nat := 0x2832
/-- `power.hem_cap_pct`. Consumer cap (R610). -/
abbrev p_power_hem_cap_pct : Nat := 0x2833
/-- `power.io_cap_pct`. Consumer cap (R610). -/
abbrev p_power_io_cap_pct : Nat := 0x2834
/-- `power.fabric_cap_pct`. Consumer cap (R610). -/
abbrev p_power_fabric_cap_pct : Nat := 0x2835
/-- `power.pd_idle_gate`. Switch off an unused domain (R608). -/
abbrev p_power_pd_idle_gate : Nat := 0x2836
/-- `power.ec_freq_mhz`. Cluster clock cap (R618). -/
abbrev p_power_ec_freq_mhz : Nat := 0x2837
/-- `power.spoke_tx_mv`. Largest launch amplitude that training may use, in mV peak-to-peak differential. -/
abbrev p_power_spoke_tx_mv : Nat := 0x2838
/-- `power.seam_tx_mv`. As above, for Seam (head-to-head link) lanes. -/
abbrev p_power_seam_tx_mv : Nat := 0x2839
/-- `power.fp_tx_mv`. As above, for front ports. -/
abbrev p_power_fp_tx_mv : Nat := 0x283A
/-- `power.fc_drive`. Flash output drive. -/
abbrev p_power_fc_drive : Nat := 0x283B
/-- `power.fc_odt`. Flash on-die termination. -/
abbrev p_power_fc_odt : Nat := 0x283C
/-- `thermal.warn_c`. Sensor warning threshold (R623). -/
abbrev p_thermal_warn_c : Nat := 0x2901
/-- `thermal.crit_c`. Sensor throttle threshold (R623). -/
abbrev p_thermal_crit_c : Nat := 0x2902
/-- `thermal.offset_dc`. Sensor correction in tenths of °C (R622). -/
abbrev p_thermal_offset_dc : Nat := 0x2903
/-- `thermal.hbm_warn_c`. Stack warning threshold. -/
abbrev p_thermal_hbm_warn_c : Nat := 0x2904
/-- `thermal.hbm_crit_c`. Stack throttle threshold. -/
abbrev p_thermal_hbm_crit_c : Nat := 0x2905
/-- `thermal.sds_limit_c`. SerDes die throttle threshold. -/
abbrev p_thermal_sds_limit_c : Nat := 0x2906
/-- `thermal.trip_c`. THERMTRIP_N threshold (R624). -/
abbrev p_thermal_trip_c : Nat := 0x2907
/-- `thermal.hyst_c`. Hysteresis (R623). -/
abbrev p_thermal_hyst_c : Nat := 0x2908
/-- `thermal.throttle_enable`. Throttle at the critical thresholds. -/
abbrev p_thermal_throttle_enable : Nat := 0x2909
/-- `thermal.throttle_ingest_gbps`. Admission cap while throttled. -/
abbrev p_thermal_throttle_ingest_gbps : Nat := 0x290A
/-- `thermal.throttle_read_gbps`. Read cap while throttled. -/
abbrev p_thermal_throttle_read_gbps : Nat := 0x290B
/-- `thermal.sds_throttle_pct`. Consumer share while throttled. -/
abbrev p_thermal_sds_throttle_pct : Nat := 0x290C
/-- `thermal.engines_throttle_pct`. Consumer share while throttled. -/
abbrev p_thermal_engines_throttle_pct : Nat := 0x290D
/-- `thermal.press_throttle_pct`. Consumer share while throttled. -/
abbrev p_thermal_press_throttle_pct : Nat := 0x290E
/-- `thermal.cipher_throttle_pct`. Consumer share while throttled. -/
abbrev p_thermal_cipher_throttle_pct : Nat := 0x290F
/-- `thermal.digest_throttle_pct`. Consumer share while throttled. -/
abbrev p_thermal_digest_throttle_pct : Nat := 0x2910
/-- `thermal.match_throttle_pct`. Consumer share while throttled. -/
abbrev p_thermal_match_throttle_pct : Nat := 0x2911
/-- `thermal.mc_throttle_pct`. Consumer share while throttled. -/
abbrev p_thermal_mc_throttle_pct : Nat := 0x2912
/-- `thermal.hbm_throttle_pct`. Consumer share while throttled. -/
abbrev p_thermal_hbm_throttle_pct : Nat := 0x2913
/-- `thermal.hem_throttle_pct`. Consumer share while throttled. -/
abbrev p_thermal_hem_throttle_pct : Nat := 0x2914
/-- `thermal.io_throttle_pct`. Consumer share while throttled. -/
abbrev p_thermal_io_throttle_pct : Nat := 0x2915
/-- `thermal.fabric_throttle_pct`. Consumer share while throttled. -/
abbrev p_thermal_fabric_throttle_pct : Nat := 0x2916

/-- One parameter's definition: ID, type code (R77), instances, permitted ranges (of the value, or of the length for bytes and
strings), the step a value must be a multiple of, defaults of the first instances, the default of the others, and whether
instance 0 must have a record (R579). -/
structure PDef where
  id : Nat
  ty : Nat
  insts : Nat
  ranges : List (Int × Int)
  step : Nat
  firsts : List Int
  dflt : Int
  must : Bool
  deriving DecidableEq, Repr

/-- Definitions of prefix `epoch`. -/
def pdefs_epoch : List PDef :=
  [⟨p_epoch_length_us, 2, 1, [(5, 1000)], 1, [], 20, false⟩]

/-- Definitions of prefix `time`. -/
def pdefs_time : List PDef :=
  [⟨p_time_source, 7, 1, [(0, 0), (1, 1)], 1, [], 0, false⟩,
   ⟨p_time_origin_tai_s, 4, 1, [(0, 18446744073709551615)], 1, [], 0, true⟩,
   ⟨p_time_utc_offset_s, 5, 1, [(0, 100)], 1, [], 37, false⟩,
   ⟨p_time_ptp_port, 7, 1, [(0, 0), (1, 1)], 1, [], 0, false⟩,
   ⟨p_time_ptp_domain, 1, 1, [(0, 127)], 1, [], 0, false⟩,
   ⟨p_time_slew_max_ppm, 2, 1, [(10, 1000)], 1, [], 200, false⟩,
   ⟨p_time_skew_max_ns, 2, 1, [(100, 5000)], 1, [], 1000, false⟩]

/-- Definitions of prefix `boot`. -/
def pdefs_boot : List PDef :=
  [⟨p_boot_ready_timeout_s, 2, 1, [(30, 600)], 1, [], 120, false⟩,
   ⟨p_boot_uart_log, 7, 1, [(0, 0), (1, 1), (2, 2)], 1, [], 1, false⟩]

/-- Definitions of prefix `image`. -/
def pdefs_image : List PDef :=
  [⟨p_image_array_id, 9, 1, [(16, 16)], 1, [], 0, true⟩,
   ⟨p_image_rollback_raise, 8, 1, [(0, 1)], 1, [], 0, false⟩,
   ⟨p_image_barrier_max_ms, 2, 1, [(50, 5000)], 1, [], 500, false⟩]

/-- Definitions of prefix `ledger`. -/
def pdefs_ledger : List PDef :=
  [⟨p_ledger_collect_timeout_s, 2, 1, [(10, 600)], 1, [], 60, false⟩,
   ⟨p_ledger_join_records, 8, 1, [(0, 1)], 1, [], 1, false⟩]

/-- Definitions of prefix `attest`. -/
def pdefs_attest : List PDef :=
  [⟨p_attest_spdm_enable, 8, 1, [(0, 1)], 1, [], 1, false⟩,
   ⟨p_attest_raw_records, 8, 1, [(0, 1)], 1, [], 1, false⟩]

/-- Definitions of prefix `engine`. -/
def pdefs_engine : List PDef :=
  [⟨p_engine_trace_level, 7, 1, [(0, 0), (1, 1), (2, 2)], 1, [], 1, false⟩]

/-- Definitions of prefix `mc`. -/
def pdefs_mc : List PDef :=
  [⟨p_mc_enable, 8, 1, [(0, 1)], 1, [], 1, false⟩,
   ⟨p_mc_lock_ways, 1, 1, [(0, 4)], 1, [], 2, false⟩]

/-- Definitions of prefix `hbm`. -/
def pdefs_hbm : List PDef :=
  [⟨p_hbm_scrub_hours, 2, 1, [(1, 168)], 1, [], 24, false⟩]

/-- Definitions of prefix `hem`. -/
def pdefs_hem : List PDef :=
  [⟨p_hem_floor_pct, 1, 5, [(0, 100)], 1, [40, 15, 10, 10, 5], 0, false⟩,
   ⟨p_hem_ceil_pct, 1, 5, [(0, 100)], 1, [100, 40, 25, 30, 10], 0, false⟩,
   ⟨p_hem_ingest_epoch_units, 2, 1, [(0, 0), (64, 32768)], 1, [], 0, false⟩,
   ⟨p_hem_low_water_pct, 1, 1, [(1, 50)], 1, [], 10, false⟩,
   ⟨p_hem_stall_alarm_epochs, 2, 1, [(1, 10000)], 1, [], 50, false⟩]

/-- Definitions of prefix `pcie`. -/
def pdefs_pcie : List PDef :=
  [⟨p_pcie_max_gen, 7, 1, [(3, 6)], 1, [], 6, false⟩,
   ⟨p_pcie_max_width, 7, 1, [(4, 4), (8, 8), (16, 16)], 1, [], 16, false⟩,
   ⟨p_pcie_total_vfs, 1, 1, [(0, 15)], 1, [], 15, false⟩,
   ⟨p_pcie_vf_ioq, 2, 1, [(1, 1024)], 1, [], 256, false⟩]

/-- Definitions of prefix `nvme`. -/
def pdefs_nvme : List PDef :=
  [⟨p_nvme_subnqn, 10, 1, [(1, 223)], 1, [], 0, true⟩,
   ⟨p_nvme_rdma_ctrls, 2, 1, [(0, 1024)], 1, [], 256, false⟩,
   ⟨p_nvme_rdma_port_mask, 2, 1, [(0, 65535)], 1, [], 65535, false⟩,
   ⟨p_nvme_rdma_svcid, 2, 1, [(1, 65535)], 1, [], 4420, false⟩,
   ⟨p_nvme_sanitize_enable, 8, 1, [(0, 1)], 1, [], 0, false⟩]

/-- Definitions of prefix `ns`. -/
def pdefs_ns : List PDef :=
  [⟨p_ns_owner_policy, 7, 1, [(0, 0), (1, 1), (2, 2)], 1, [], 0, false⟩,
   ⟨p_ns_default_domain, 1, 1, [(0, 255)], 1, [], 0, false⟩]

/-- Definitions of prefix `ingest`. -/
def pdefs_ingest : List PDef :=
  [⟨p_ingest_open_stripes, 2, 1, [(4, 1024)], 1, [], 64, false⟩,
   ⟨p_ingest_cap_gbps, 2, 1, [(0, 200)], 1, [], 0, false⟩,
   ⟨p_ingest_zero_detect, 8, 1, [(0, 1)], 1, [], 1, false⟩]

/-- Definitions of prefix `dedupe`. -/
def pdefs_dedupe : List PDef :=
  [⟨p_dedupe_decide_epochs, 1, 1, [(3, 255)], 1, [], 4, false⟩,
   ⟨p_dedupe_chunk_size, 7, 256, [(0, 0), (1, 1)], 1, [], 0, false⟩,
   ⟨p_dedupe_enable, 8, 256, [(0, 1)], 1, [], 1, false⟩,
   ⟨p_dedupe_sort_rate_per_s, 3, 1, [(0, 10000000)], 1, [], 1000000, false⟩]

/-- Definitions of prefix `digest`. -/
def pdefs_digest : List PDef :=
  [⟨p_digest_fp_priority, 1, 1, [(0, 3)], 1, [], 2, false⟩]

/-- Definitions of prefix `match`. -/
def pdefs_match : List PDef :=
  [⟨p_match_lba_entries, 3, 1, [(16384, 131072)], 1024, [], 65536, false⟩,
   ⟨p_match_shard_rebuild_per_s, 3, 1, [(0, 50000000)], 1, [], 5000000, false⟩]

/-- Definitions of prefix `press`. -/
def pdefs_press : List PDef :=
  [⟨p_press_data_enable, 8, 256, [(0, 1)], 1, [], 1, false⟩,
   ⟨p_press_repl_compress, 8, 1, [(0, 1)], 1, [], 1, false⟩]

/-- Definitions of prefix `cipher`. -/
def pdefs_cipher : List PDef :=
  [⟨p_cipher_enc_pairs_max, 1, 1, [(1, 16)], 1, [], 8, false⟩]

/-- Definitions of prefix `key`. -/
def pdefs_key : List PDef :=
  [⟨p_key_domain_enable, 8, 256, [(0, 1)], 1, [1], 0, false⟩,
   ⟨p_key_purge_max_s, 2, 1, [(10, 3600)], 1, [], 300, false⟩]

/-- Definitions of prefix `read`. -/
def pdefs_read : List PDef :=
  [⟨p_read_map_flush_epochs, 2, 1, [(16, 4096)], 1, [], 256, false⟩,
   ⟨p_read_fp_verify_pct, 1, 1, [(0, 100)], 1, [], 1, false⟩,
   ⟨p_read_repair_enable, 8, 1, [(0, 1)], 1, [], 1, false⟩,
   ⟨p_read_repair_timeout_ms, 2, 1, [(1, 10000)], 1, [], 50, false⟩]

/-- Definitions of prefix `snap`. -/
def pdefs_snap : List PDef :=
  [⟨p_snap_min_lead_epochs, 2, 1, [(2, 65535)], 1, [], 2, false⟩,
   ⟨p_snap_max_per_volume, 2, 1, [(1, 65535)], 1, [], 4096, false⟩,
   ⟨p_snap_release_per_s, 3, 1, [(1000, 100000000)], 1, [], 10000000, false⟩]

/-- Definitions of prefix `stripe`. -/
def pdefs_stripe : List PDef :=
  [⟨p_stripe_k, 1, 1, [(0, 0), (4, 20)], 1, [], 0, false⟩,
   ⟨p_stripe_m, 1, 1, [(0, 0), (1, 4)], 1, [], 0, false⟩,
   ⟨p_stripe_close_epochs, 2, 1, [(4, 65535)], 1, [], 64, false⟩]

/-- Definitions of prefix `glade`. -/
def pdefs_glade : List PDef :=
  [⟨p_glade_spare_centi, 2, 1, [(100, 1600)], 1, [], 100, false⟩,
   ⟨p_glade_warn_pct, 1, 1, [(1, 100)], 1, [], 50, false⟩,
   ⟨p_glade_fail_ms, 2, 1, [(100, 60000)], 1, [], 2000, false⟩]

/-- Definitions of prefix `darn`. -/
def pdefs_darn : List PDef :=
  [⟨p_darn_rate_gbps, 1, 1, [(1, 64)], 1, [], 32, false⟩,
   ⟨p_darn_planned_grace_s, 2, 1, [(30, 3600)], 1, [], 600, false⟩]

/-- Definitions of prefix `refold`. -/
def pdefs_refold : List PDef :=
  [⟨p_refold_rate_gbps, 1, 1, [(1, 64)], 1, [], 8, false⟩,
   ⟨p_refold_compact_pct, 1, 1, [(0, 90)], 1, [], 50, false⟩,
   ⟨p_refold_retire_from, 1, 1, [(16, 64)], 1, [], 64, false⟩]

/-- Definitions of prefix `rinse`. -/
def pdefs_rinse : List PDef :=
  [⟨p_rinse_cycle_days, 2, 1, [(1, 365)], 1, [], 14, false⟩,
   ⟨p_rinse_max_gbps, 1, 1, [(1, 64)], 1, [], 8, false⟩]

/-- Definitions of prefix `seam`. -/
def pdefs_seam : List PDef :=
  [⟨p_seam_hb_loss_epochs, 2, 1, [(4, 10000)], 1, [], 25, false⟩,
   ⟨p_seam_min_lanes, 1, 1, [(4, 16)], 1, [], 8, false⟩,
   ⟨p_seam_pair_window_epochs, 2, 1, [(8, 4096)], 1, [], 64, false⟩,
   ⟨p_seam_suspect_limit, 1, 1, [(1, 255)], 1, [], 1, false⟩,
   ⟨p_seam_suspect_restart, 8, 1, [(0, 1)], 1, [], 1, false⟩,
   ⟨p_seam_catchup_epochs, 2, 1, [(1, 1000)], 1, [], 8, false⟩,
   ⟨p_seam_auto_handback, 8, 1, [(0, 1)], 1, [], 1, false⟩]

/-- Definitions of prefix `lease`. -/
def pdefs_lease : List PDef :=
  [⟨p_lease_term_epochs, 2, 1, [(2, 1000)], 1, [], 10, false⟩,
   ⟨p_lease_boot_wait_ms, 2, 1, [(100, 60000)], 1, [], 2000, false⟩]

/-- Definitions of prefix `spoke`. -/
def pdefs_spoke : List PDef :=
  [⟨p_spoke_shelves, 1, 1, [(16, 64)], 1, [], 0, true⟩,
   ⟨p_spoke_write_credits, 2, 1, [(256, 16384)], 1, [], 2048, false⟩,
   ⟨p_spoke_request_credits, 2, 1, [(256, 16384)], 1, [], 4096, false⟩,
   ⟨p_spoke_replay_timeout_us, 2, 1, [(5, 1000)], 1, [], 20, false⟩,
   ⟨p_spoke_port_fail_ms, 2, 1, [(100, 60000)], 1, [], 1000, false⟩]

/-- Definitions of prefix `ftl`. -/
def pdefs_ftl : List PDef :=
  [⟨p_ftl_op_pct, 1, 1, [(3, 30)], 1, [], 7, false⟩,
   ⟨p_ftl_spare_block_pct, 1, 1, [(1, 10)], 1, [], 2, false⟩,
   ⟨p_ftl_spare_warn_pct, 1, 1, [(1, 100)], 1, [], 25, false⟩,
   ⟨p_ftl_slc_base_permille, 1, 1, [(0, 50)], 1, [], 5, false⟩,
   ⟨p_ftl_slc_free_pct, 1, 1, [(0, 80)], 1, [], 40, false⟩,
   ⟨p_ftl_slc_cap_pct, 1, 1, [(1, 30)], 1, [], 12, false⟩,
   ⟨p_ftl_ckpt_segments, 1, 1, [(1, 8)], 1, [], 1, false⟩,
   ⟨p_ftl_clearing_free_pct, 1, 1, [(1, 20)], 1, [], 5, false⟩,
   ⟨p_ftl_clearing_max_gbps, 1, 1, [(1, 64)], 1, [], 24, false⟩,
   ⟨p_ftl_wl_delta_pct, 1, 1, [(1, 50)], 1, [], 10, false⟩]

/-- Definitions of prefix `shelf`. -/
def pdefs_shelf : List PDef :=
  [⟨p_shelf_pls_budget_mib, 2, 1, [(64, 512)], 1, [], 256, false⟩,
   ⟨p_shelf_nand_temp_max_c, 1, 1, [(50, 95)], 1, [], 75, false⟩]

/-- Definitions of prefix `flash`. -/
def pdefs_flash : List PDef :=
  [⟨p_flash_channel_mask, 3, 1, [(1, 4294967295)], 1, [], 4294967295, false⟩,
   ⟨p_flash_rate_cap_mts, 2, 1, [(800, 3600)], 1, [], 3600, false⟩,
   ⟨p_flash_erase_min_slice_us, 2, 1, [(50, 10000)], 1, [], 400, false⟩]

/-- Definitions of prefix `ldpc`. -/
def pdefs_ldpc : List PDef :=
  [⟨p_ldpc_soft_enable, 8, 1, [(0, 1)], 1, [], 1, false⟩,
   ⟨p_ldpc_max_iterations, 1, 1, [(4, 50)], 1, [], 20, false⟩]

/-- Definitions of prefix `eth`. -/
def pdefs_eth : List PDef :=
  [⟨p_eth_port_speed, 7, 16, [(0, 5)], 1, [], 3, false⟩,
   ⟨p_eth_pfc_mask, 1, 16, [(0, 255)], 1, [], 8, false⟩,
   ⟨p_eth_ip_addr, 9, 16, [(16, 16)], 1, [], 0, false⟩,
   ⟨p_eth_rdma_priority, 1, 1, [(0, 7)], 1, [], 3, false⟩,
   ⟨p_eth_rdma_dscp, 1, 1, [(0, 63)], 1, [], 26, false⟩,
   ⟨p_eth_mtu, 2, 1, [(1500, 9216)], 1, [], 4200, false⟩]

/-- Definitions of prefix `rdma`. -/
def pdefs_rdma : List PDef :=
  [⟨p_rdma_pmtu, 7, 1, [(0, 0), (1, 1), (2, 2)], 1, [], 2, false⟩,
   ⟨p_rdma_ack_timeout, 1, 1, [(1, 31)], 1, [], 14, false⟩,
   ⟨p_rdma_retry_cnt, 1, 1, [(0, 7)], 1, [], 7, false⟩,
   ⟨p_rdma_spray_hole_us, 2, 1, [(1, 1000)], 1, [], 16, false⟩,
   ⟨p_rdma_cc_enable, 8, 1, [(0, 1)], 1, [], 1, false⟩]

/-- Definitions of prefix `repl`, part 0. -/
def pdefs_repl0 : List PDef :=
  [⟨p_repl_role, 7, 1, [(0, 0), (1, 1), (2, 2)], 1, [], 0, false⟩,
   ⟨p_repl_mode, 7, 1, [(0, 0), (1, 1)], 1, [], 0, false⟩,
   ⟨p_repl_partner_addr, 9, 2, [(16, 16)], 1, [], 0, false⟩,
   ⟨p_repl_domain_enable, 8, 256, [(0, 1)], 1, [], 0, false⟩,
   ⟨p_repl_spray_ports, 2, 1, [(1, 65535)], 1, [], 65535, false⟩,
   ⟨p_repl_qps, 1, 1, [(1, 64)], 1, [], 8, false⟩,
   ⟨p_repl_ckpt_epochs, 3, 1, [(50, 1000000)], 1, [], 500, false⟩,
   ⟨p_repl_retain_epochs, 3, 1, [(10000, 10000000)], 1, [], 500000, false⟩,
   ⟨p_repl_lookup_epochs, 2, 1, [(1, 1000)], 1, [], 8, false⟩,
   ⟨p_repl_sync_timeout_ms, 2, 1, [(1, 10000)], 1, [], 100, false⟩,
   ⟨p_repl_sync_on_loss, 7, 1, [(0, 0), (1, 1)], 1, [], 0, false⟩,
   ⟨p_repl_rekey_hours, 2, 1, [(1, 8760)], 1, [], 24, false⟩]

/-- Definitions of prefix `repl`, part 1. -/
def pdefs_repl1 : List PDef :=
  [⟨p_repl_lag_alarm_s, 2, 1, [(1, 65535)], 1, [], 60, false⟩,
   ⟨p_repl_max_gbps, 1, 1, [(1, 200)], 1, [], 100, false⟩]

/-- Definitions of prefix `event`. -/
def pdefs_event : List PDef :=
  [⟨p_event_coalesce_epochs, 2, 1, [(1, 65535)], 1, [], 64, false⟩]

/-- Definitions of prefix `mgmt`. -/
def pdefs_mgmt : List PDef :=
  [⟨p_mgmt_nvme_alarm_aen, 8, 1, [(0, 1)], 1, [], 1, false⟩,
   ⟨p_mgmt_i3c_addr, 1, 1, [(8, 119)], 1, [], 48, false⟩,
   ⟨p_mgmt_smbus_addr, 1, 1, [(8, 119)], 1, [], 29, false⟩,
   ⟨p_mgmt_uart_baud, 3, 1, [(9600, 3000000)], 1, [], 115200, false⟩]

/-- Definitions of prefix `power`, part 0. -/
def pdefs_power0 : List PDef :=
  [⟨p_power_vcore_mode, 7, 1, [(0, 0), (1, 1)], 1, [], 0, true⟩,
   ⟨p_power_vcore_fixed_mv, 2, 1, [(650, 850)], 1, [], 750, false⟩,
   ⟨p_power_vcore_min_mv, 2, 1, [(650, 850)], 1, [], 650, false⟩,
   ⟨p_power_vcore_max_mv, 2, 1, [(650, 850)], 1, [], 850, false⟩,
   ⟨p_power_avs_khz, 2, 1, [(1000, 50000)], 1, [], 20000, false⟩,
   ⟨p_power_avs_rail, 1, 1, [(0, 15)], 1, [], 0, false⟩,
   ⟨p_power_budget_w, 2, 1, [(60, 340)], 1, [], 340, false⟩,
   ⟨p_power_pf_filter_ns, 2, 1, [(0, 10000)], 1, [], 1000, false⟩,
   ⟨p_power_holdup_check, 8, 1, [(0, 1)], 1, [], 1, false⟩,
   ⟨p_power_core_uv_pct, 1, 1, [(1, 10)], 1, [], 5, false⟩,
   ⟨p_power_sram_uv_pct, 1, 1, [(1, 10)], 1, [], 5, false⟩,
   ⟨p_power_aon_uv_pct, 1, 1, [(1, 10)], 1, [], 5, false⟩]

/-- Definitions of prefix `power`, part 1. -/
def pdefs_power1 : List PDef :=
  [⟨p_power_sds09_uv_pct, 1, 1, [(1, 10)], 1, [], 5, false⟩,
   ⟨p_power_sds12_uv_pct, 1, 1, [(1, 10)], 1, [], 5, false⟩,
   ⟨p_power_hbm_uv_pct, 1, 1, [(1, 10)], 1, [], 5, false⟩,
   ⟨p_power_hbmq_uv_pct, 1, 1, [(1, 10)], 1, [], 5, false⟩,
   ⟨p_power_hbmpp_uv_pct, 1, 1, [(1, 10)], 1, [], 5, false⟩,
   ⟨p_power_fio_uv_pct, 1, 1, [(1, 10)], 1, [], 5, false⟩,
   ⟨p_power_io_uv_pct, 1, 1, [(1, 10)], 1, [], 5, false⟩,
   ⟨p_power_otp_uv_pct, 1, 1, [(1, 10)], 1, [], 5, false⟩,
   ⟨p_power_core_ov_pct, 1, 1, [(1, 10)], 1, [], 5, false⟩,
   ⟨p_power_sram_ov_pct, 1, 1, [(1, 10)], 1, [], 5, false⟩,
   ⟨p_power_aon_ov_pct, 1, 1, [(1, 10)], 1, [], 5, false⟩,
   ⟨p_power_sds09_ov_pct, 1, 1, [(1, 10)], 1, [], 5, false⟩]

/-- Definitions of prefix `power`, part 2. -/
def pdefs_power2 : List PDef :=
  [⟨p_power_sds12_ov_pct, 1, 1, [(1, 10)], 1, [], 5, false⟩,
   ⟨p_power_hbm_ov_pct, 1, 1, [(1, 10)], 1, [], 5, false⟩,
   ⟨p_power_hbmq_ov_pct, 1, 1, [(1, 10)], 1, [], 5, false⟩,
   ⟨p_power_hbmpp_ov_pct, 1, 1, [(1, 10)], 1, [], 5, false⟩,
   ⟨p_power_fio_ov_pct, 1, 1, [(1, 10)], 1, [], 5, false⟩,
   ⟨p_power_io_ov_pct, 1, 1, [(1, 10)], 1, [], 5, false⟩,
   ⟨p_power_otp_ov_pct, 1, 1, [(1, 10)], 1, [], 5, false⟩,
   ⟨p_power_core_filter_us, 2, 1, [(1, 1000)], 1, [], 10, false⟩,
   ⟨p_power_sram_filter_us, 2, 1, [(1, 1000)], 1, [], 10, false⟩,
   ⟨p_power_aon_filter_us, 2, 1, [(1, 1000)], 1, [], 10, false⟩,
   ⟨p_power_sds09_filter_us, 2, 1, [(1, 1000)], 1, [], 10, false⟩,
   ⟨p_power_sds12_filter_us, 2, 1, [(1, 1000)], 1, [], 10, false⟩]

/-- Definitions of prefix `power`, part 3. -/
def pdefs_power3 : List PDef :=
  [⟨p_power_hbm_filter_us, 2, 1, [(1, 1000)], 1, [], 10, false⟩,
   ⟨p_power_hbmq_filter_us, 2, 1, [(1, 1000)], 1, [], 10, false⟩,
   ⟨p_power_hbmpp_filter_us, 2, 1, [(1, 1000)], 1, [], 10, false⟩,
   ⟨p_power_fio_filter_us, 2, 1, [(1, 1000)], 1, [], 10, false⟩,
   ⟨p_power_io_filter_us, 2, 1, [(1, 1000)], 1, [], 10, false⟩,
   ⟨p_power_otp_filter_us, 2, 1, [(1, 1000)], 1, [], 10, false⟩,
   ⟨p_power_sds_cap_pct, 1, 1, [(10, 100)], 1, [], 100, false⟩,
   ⟨p_power_engines_cap_pct, 1, 1, [(10, 100)], 1, [], 100, false⟩,
   ⟨p_power_press_cap_pct, 1, 1, [(10, 100)], 1, [], 100, false⟩,
   ⟨p_power_cipher_cap_pct, 1, 1, [(10, 100)], 1, [], 100, false⟩,
   ⟨p_power_digest_cap_pct, 1, 1, [(10, 100)], 1, [], 100, false⟩,
   ⟨p_power_match_cap_pct, 1, 1, [(10, 100)], 1, [], 100, false⟩]

/-- Definitions of prefix `power`, part 4. -/
def pdefs_power4 : List PDef :=
  [⟨p_power_mc_cap_pct, 1, 1, [(10, 100)], 1, [], 100, false⟩,
   ⟨p_power_hbm_cap_pct, 1, 1, [(10, 100)], 1, [], 100, false⟩,
   ⟨p_power_hem_cap_pct, 1, 1, [(10, 100)], 1, [], 100, false⟩,
   ⟨p_power_io_cap_pct, 1, 1, [(10, 100)], 1, [], 100, false⟩,
   ⟨p_power_fabric_cap_pct, 1, 1, [(10, 100)], 1, [], 100, false⟩,
   ⟨p_power_pd_idle_gate, 8, 50, [(0, 1)], 1, [], 1, false⟩,
   ⟨p_power_ec_freq_mhz, 2, 8, [(1100, 2200)], 1, [], 2200, false⟩,
   ⟨p_power_spoke_tx_mv, 2, 64, [(600, 1200)], 1, [], 1000, false⟩,
   ⟨p_power_seam_tx_mv, 2, 16, [(600, 1200)], 1, [], 1000, false⟩,
   ⟨p_power_fp_tx_mv, 2, 16, [(600, 1200)], 1, [], 1000, false⟩,
   ⟨p_power_fc_drive, 7, 32, [(0, 0), (1, 1), (2, 2)], 1, [], 1, false⟩,
   ⟨p_power_fc_odt, 7, 32, [(0, 0), (1, 1), (2, 2), (3, 3)], 1, [], 2, false⟩]

/-- Definitions of prefix `thermal`, part 0. -/
def pdefs_thermal0 : List PDef :=
  [⟨p_thermal_warn_c, 1, 64, [(60, 105)], 1, [], 95, false⟩,
   ⟨p_thermal_crit_c, 1, 64, [(70, 110)], 1, [], 103, false⟩,
   ⟨p_thermal_offset_dc, 5, 64, [(-50, 50)], 1, [], 0, false⟩,
   ⟨p_thermal_hbm_warn_c, 1, 4, [(60, 95)], 1, [], 85, false⟩,
   ⟨p_thermal_hbm_crit_c, 1, 4, [(70, 105)], 1, [], 95, false⟩,
   ⟨p_thermal_sds_limit_c, 1, 2, [(70, 110)], 1, [], 100, false⟩,
   ⟨p_thermal_trip_c, 1, 1, [(108, 125)], 1, [], 115, false⟩,
   ⟨p_thermal_hyst_c, 1, 1, [(1, 10)], 1, [], 3, false⟩,
   ⟨p_thermal_throttle_enable, 8, 1, [(0, 1)], 1, [], 1, false⟩,
   ⟨p_thermal_throttle_ingest_gbps, 1, 1, [(0, 200)], 1, [], 100, false⟩,
   ⟨p_thermal_throttle_read_gbps, 2, 1, [(0, 400)], 1, [], 200, false⟩,
   ⟨p_thermal_sds_throttle_pct, 1, 1, [(10, 100)], 1, [], 60, false⟩]

/-- Definitions of prefix `thermal`, part 1. -/
def pdefs_thermal1 : List PDef :=
  [⟨p_thermal_engines_throttle_pct, 1, 1, [(10, 100)], 1, [], 60, false⟩,
   ⟨p_thermal_press_throttle_pct, 1, 1, [(10, 100)], 1, [], 60, false⟩,
   ⟨p_thermal_cipher_throttle_pct, 1, 1, [(10, 100)], 1, [], 60, false⟩,
   ⟨p_thermal_digest_throttle_pct, 1, 1, [(10, 100)], 1, [], 60, false⟩,
   ⟨p_thermal_match_throttle_pct, 1, 1, [(10, 100)], 1, [], 60, false⟩,
   ⟨p_thermal_mc_throttle_pct, 1, 1, [(10, 100)], 1, [], 60, false⟩,
   ⟨p_thermal_hbm_throttle_pct, 1, 1, [(10, 100)], 1, [], 60, false⟩,
   ⟨p_thermal_hem_throttle_pct, 1, 1, [(10, 100)], 1, [], 60, false⟩,
   ⟨p_thermal_io_throttle_pct, 1, 1, [(10, 100)], 1, [], 60, false⟩,
   ⟨p_thermal_fabric_throttle_pct, 1, 1, [(10, 100)], 1, [], 60, false⟩]

/-- Every parameter definition, in ascending order of ID. -/
def paramDefs : List PDef :=
  pdefs_epoch ++ pdefs_time ++ pdefs_boot ++ pdefs_image ++ pdefs_ledger ++ pdefs_attest ++ pdefs_engine ++
  pdefs_mc ++ pdefs_hbm ++ pdefs_hem ++ pdefs_pcie ++ pdefs_nvme ++ pdefs_ns ++ pdefs_ingest ++
  pdefs_dedupe ++ pdefs_digest ++ pdefs_match ++ pdefs_press ++ pdefs_cipher ++ pdefs_key ++
  pdefs_read ++ pdefs_snap ++ pdefs_stripe ++ pdefs_glade ++ pdefs_darn ++ pdefs_refold ++ pdefs_rinse ++
  pdefs_seam ++ pdefs_lease ++ pdefs_spoke ++ pdefs_ftl ++ pdefs_shelf ++ pdefs_flash ++ pdefs_ldpc ++
  pdefs_eth ++ pdefs_rdma ++ pdefs_repl0 ++ pdefs_repl1 ++ pdefs_event ++ pdefs_mgmt ++ pdefs_power0 ++
  pdefs_power1 ++ pdefs_power2 ++ pdefs_power3 ++ pdefs_power4 ++ pdefs_thermal0 ++ pdefs_thermal1
  

/-- The definition of an ID, where the firmware knows it. -/
def paramDef (id : Nat) : Option PDef := paramDefs.find? (·.id == id)

/-- One record of a parameter block as the part holds it: ID, instance, type code and value bytes (R76). -/
structure PRec where
  id : Nat
  inst : Nat
  ty : Nat
  val : Bytes
  deriving DecidableEq, Repr

/-- The number a value of a numeric type stands for (R77). -/
def pvalInt (ty : Nat) (v : Bytes) : Int :=
  let n := leNat v
  if ty = 5 then (if n < 0x8000 then (n : Int) else n - 0x10000)
  else if ty = 6 then (if n < 0x80000000 then (n : Int) else n - 0x100000000)
  else n

/-- The value length of a type, where it is fixed (R77). -/
def ptySize (ty : Nat) : Option Nat :=
  if ty = 1 ∨ ty = 8 then some 1 else if ty = 2 ∨ ty = 5 ∨ ty = 7 then some 2
  else if ty = 3 ∨ ty = 6 then some 4 else if ty = 4 then some 8 else none

/-- Continuation bytes of UTF-8: `n` bytes of 0x80 to 0xBF. -/
def utf8Cont : Nat → Bytes → Option Bytes
  | 0, bs => some bs
  | _ + 1, [] => none
  | n + 1, b :: bs => if 0x80 ≤ b.toNat ∧ b.toNat < 0xC0 then utf8Cont n bs else none

/-- Whether a byte string is valid UTF-8 (`fuel` at least its length). -/
def utf8Go : Nat → Bytes → Bool
  | _, [] => true
  | 0, _ => false
  | fuel + 1, b :: bs =>
    let x := b.toNat
    let y := (bs.headD 0).toNat
    if x < 0x80 then utf8Go fuel bs
    else if 0xC2 ≤ x ∧ x < 0xE0 then (match utf8Cont 1 bs with | some r => utf8Go fuel r | none => false)
    else if 0xE0 ≤ x ∧ x < 0xF0 then
      (if (x = 0xE0 ∧ y < 0xA0) ∨ (x = 0xED ∧ 0xA0 ≤ y) then false
       else match utf8Cont 2 bs with | some r => utf8Go fuel r | none => false)
    else if 0xF0 ≤ x ∧ x < 0xF5 then
      (if (x = 0xF0 ∧ y < 0x90) ∨ (x = 0xF4 ∧ 0x90 ≤ y) then false
       else match utf8Cont 3 bs with | some r => utf8Go fuel r | none => false)
    else false

/-- Whether a byte string is valid UTF-8 (R578). -/
def utf8Ok (bs : Bytes) : Bool := utf8Go (bs.length + 1) bs

/-- Whether a record satisfies its own definition: type, length, instance and range (R79, R578). -/
def precOk (r : PRec) : Bool :=
  match paramDef r.id with
  | none => false
  | some d =>
    d.ty == r.ty && decide (r.inst < d.insts) &&
    (match ptySize r.ty with
     | some n => r.val.length == n && d.ranges.any (fun g => decide (g.1 ≤ pvalInt r.ty r.val ∧ pvalInt r.ty r.val ≤ g.2))
        && decide (pvalInt r.ty r.val % d.step = 0)
     | none => d.ranges.any (fun g => decide (g.1 ≤ (r.val.length : Int) ∧ (r.val.length : Int) ≤ g.2))
        && (r.ty != 10 || utf8Ok r.val))

/-- Read `count` records off a byte string; none where one is cut short or padded with a byte that is not zero (R76, R79). -/
def parseRecs : Nat → Bytes → Option (List PRec)
  | 0, bs => if bs.isEmpty then some [] else none
  | n + 1, bs =>
    let len := num bs 4 2
    let padded := (len + 7) / 8 * 8
    if bs.length < 8 + padded then none
    else if allZero (sub bs (8 + len) (padded - len)) then
      (parseRecs n (bs.drop (8 + padded))).map (⟨num bs 0 2, num bs 2 2, num bs 6 2, sub bs 8 len⟩ :: ·)
    else none

/-- Whether records stand in strictly ascending order of (ID, instance). -/
def recsAscend : List PRec → Bool
  | a :: b :: r => decide (a.id * 65536 + a.inst < b.id * 65536 + b.inst) && recsAscend (b :: r)
  | _ => true

/-- The records of a parameter block that passes R79 and R577 to R579; none where it fails with ST_BOOT_SCHEMA. -/
def parseParams (blk : Bytes) : Option (List PRec) :=
  let rev := num blk 4 2
  if blk.length < 16 ∨ sub blk 0 4 ≠ [0x4B, 0x50, 0x41, 0x52] ∨ ¬ (1 ≤ rev ∧ rev ≤ 3) ∨ ¬ allZero (sub blk 6 2)
      ∨ num blk 12 4 ≠ blk.length then none
  else
    match parseRecs (num blk 8 4) (blk.drop 16) with
    | none => none
    | some rs =>
      if recsAscend rs && rs.all precOk &&
          paramDefs.all (fun d => !d.must || rs.any (fun r => r.id == d.id && r.inst == 0)) then some rs
      else none

/-- The value in force of a numeric parameter: its record, or its default (R578). -/
def paramInt (ps : List PRec) (id inst : Nat) : Int :=
  match ps.find? (fun r => r.id == id && r.inst == inst) with
  | some r => pvalInt r.ty r.val
  | none =>
    match paramDef id with
    | none => 0
    | some d => d.firsts.getD inst d.dflt

/-- The same as a Nat, for parameters that are never negative. -/
def paramNat (ps : List PRec) (id inst : Nat) : Nat := (paramInt ps id inst).toNat

/-- The bytes of a bytes or string parameter; an absent address reads as the unspecified IPv6 address (R579). -/
def paramBytes (ps : List PRec) (id inst : Nat) : Bytes :=
  match ps.find? (fun r => r.id == id && r.inst == inst) with
  | some r => r.val
  | none => zeros 16

end Sys2Proof.Machine
end

