-- ==== Sys2Proof/Blocks/Base.lean ====
section
/-! DEFINITION. State of the pins, straps, OTP, boot, ledger, time, events, management, JTAG and power blocks. Each field's
comment names the rule that gives it. Defaults are the reset values; a value marked with a log number is the model's. -/

namespace Sys2Proof.Machine

/-- Pin levels the part sees and drives, and the straps it sampled (R2, R3, R611, R615, R617, R624). -/
structure Pins where
  /-- POR_N high (R615). At reset it is still low: DESIGN CHOICE (log 1). -/
  porN : Bool := false
  /-- WARM_RST_N high (R615). -/
  warmN : Bool := true
  /-- PERST_N high (R180, R615). -/
  perstN : Bool := false
  /-- SYSCLK present (R617). -/
  sysclk : Bool := true
  /-- SDS_REFCLK0 and SDS_REFCLK1 present (R617). -/
  sds0 : Bool := true
  sds1 : Bool := true
  /-- HP_REFCLK present (R617). -/
  hpClk : Bool := true
  /-- THERMTRIP_N high (R624). -/
  thermtripN : Bool := true
  /-- ROLE_SEL[1:0] as sampled (R2); nothing is sampled before the first release of POR_N. -/
  roleSel : Nat := 0
  /-- SITE_ID[5:0] as sampled (R2). -/
  siteId : Nat := 0
  /-- Whether the straps have been sampled (R2). -/
  sampled : Bool := false
  deriving DecidableEq, Repr

/-- One owner key slot of OTP (R75, R314): 0 blank, 1 programmed, 2 revoked; the key digest and the wrapping key. -/
structure OtpSlot where
  st : Nat := 0
  digest : Bytes := []
  wrapKey : Bytes := []
  deriving DecidableEq, Repr

/-- The OTP (R75, R88). The identity keys, certificates and die secret are fused at test and never read: Config holds what
follows from them. -/
structure Otp where
  owner : List OtpSlot := [{}, {}, {}, {}]
  /-- The raw 64 bits of the rollback floor (R88). -/
  floor : Nat := 0
  deriving DecidableEq, Repr

/-- The current boot control record (R81), as held after SELECT. -/
structure Bcr where
  generation : Nat := 0
  confirmedSeq : Nat := 0
  trialSeq : Nat := 0
  trialCopy : Nat := 0xFF
  attempts : Nat := 0
  schemaFailA : Bytes := zeros 48
  schemaFailB : Bytes := zeros 48
  /-- The slot (0 or 1) that holds it; 1 where neither record is valid, so that the next write goes to slot 0. -/
  slot : Nat := 1
  deriving DecidableEq, Repr

/-- The manager's barrier (R90, R91): the epoch B and the step reached (0 waiting for B, 1 admission stopped, 2 sealed and
closed, 3 pages written and B recorded, 4 released). -/
structure Barrier where
  b : Nat
  step : Nat
  startT : Nat
  /-- Step 3: the epoch as of whose phase 0 the dirty pages are written. -/
  flushEpn : Nat := 0
  deriving DecidableEq, Repr

/-- Boot state (R64 to R93). -/
structure BootSt where
  /-- BOOT_STATUS.STAGE, default 1 (R93). -/
  stage : Stage := .romStart
  /-- BOOT_STATUS.COPY (R93). -/
  copy : Copy := .a
  /-- BOOT_STATUS.TRIAL (R93). -/
  trial : Bool := false
  /-- BOOT_STATUS.COPY_A_ST and COPY_B_ST (R93). -/
  copyASt : Nat := 0
  copyBSt : Nat := 0
  /-- IMAGE_SEQ, SEC_VERSION, REPLAY_ID, OTP_FLOOR (R93): written by the ROM at every boot; zero before (log 2). -/
  imageSeq : Nat := 0
  secVersion : Nat := 0
  replayId : Bytes := zeros 16
  otpFloor : Nat := 0
  fwVersion : Bytes := zeros 8
  /-- A lower-ranked copy was booted (R82). -/
  fallback : Bool := false
  /-- The part is held in boot ROM by R4. -/
  strapHeld : Bool := false
  bcr : Bcr := {}
  /-- The sections that LOAD copied into engine memory (R84): firmware, profile tables, parameter block, key envelopes. -/
  firmware : Bytes := []
  profile : Bytes := []
  paramBlock : Bytes := []
  keyEnv : Bytes := []
  /-- Header bytes 0 to 251 of the booted copy (R82). -/
  header : Bytes := []
  /-- xSPI runs 8D-8D-8D (R65). -/
  xspi8d : Bool := false
  /-- Conditions that hold the part out of service at JOIN (R85): alarm codes. -/
  holds : List Nat := []
  /-- A rebase is due after a change of the epoch parameters (R38): the highest EPN that JOIN found recorded; and one was fixed in this boot. -/
  rebaseDue : Option Nat := none
  rebased : Bool := false
  barrier : Option Barrier := none
  /-- Failed read-back attempts of phase 2 in this boot (R108). -/
  commitFails : Nat := 0
  /-- Stage JOIN is done: the ledger commit and READY follow (R84, R108). -/
  joined : Bool := false
  /-- READY has been reached in this boot (R84, R88, R614). -/
  readyDone : Bool := false
  deriving DecidableEq, Repr

/-- The measurements of LOAD (R101). -/
structure Meas where
  rom : Bytes := zeros 48
  fw : Bytes := zeros 48
  profile : Bytes := zeros 48
  param : Bytes := zeros 48
  keyEnv : Bytes := zeros 48
  ystmt : Bytes := zeros 48
  ownerKey : Bytes := zeros 48
  deriving DecidableEq, Repr

/-- A record that the manager collected (R110): role, site, status, sequence, record bytes. -/
structure Collected where
  role : Nat
  site : Nat
  status : Nat
  seq : Nat
  record : Bytes
  deriving DecidableEq, Repr

/-- The ledger staging class of the Hem (R103, R106, R107): kept over every restart. -/
structure LedgerStaging where
  /-- Whether the Hem holds ledger state (R104). -/
  present : Bool := false
  /-- 0 idle, 1 BEGUN, 2 COMMITTED. -/
  state : Nat := 0
  /-- The staged body, bytes 0 to SIG_OFF - 1. -/
  body : Bytes := []
  target : Nat := 0
  bootCount : Nat := 0
  lastSeq : Nat := 0
  lastDigest : Bytes := zeros 48
  /-- The slot that holds the last committed record, which LastSeq and lastDigest name. -/
  lastSlot : Nat := 0
  nextSlot : Nat := 0
  /-- INCOMPLETE_COUNT of the staged body. -/
  incomplete : Nat := 0
  deriving DecidableEq, Repr

/-- Ledger registers and the manager's collection (R110, R117). -/
structure LedgerSt where
  /-- LEDGER_STATUS fields, NEWEST_SEQ and BOOT_COUNT (R117): kept over a warm reset. -/
  nextSlot : Nat := 0
  state : Nat := 0
  prevIncomplete : Bool := false
  chainBroken : Bool := false
  newestSeq : Nat := 0
  bootCount : Nat := 0
  meas : Meas := {}
  /-- Whether a type 2 collection is open, and what has arrived (R110). -/
  collecting : Bool := false
  collected : List Collected := []
  /-- A type 2 record has been appended in this boot; the parts it lists with STATUS 0, as role and site. -/
  arrayDone : Bool := false
  listed : List (Nat × Nat) := []
  /-- Records collected for the newest type 2 record, in entry order (R116). -/
  lastCollected : List Collected := []
  /-- Records of parts that restarted while the collection was open (R112), and those that type 3 records have named since (R111). -/
  later : List Collected := []
  joins : List Collected := []
  /-- T at which the collection that is open began (R110). -/
  since : Option Nat := none
  deriving DecidableEq, Repr

/-- Epoch and time state (R32 to R62). -/
structure TimeSt where
  /-- ARRAY_TIME (R61): 0 at reset, kept over a warm reset. -/
  t : Nat := 0
  /-- Ticks with power, and those in which an I/O command was outstanding, over all runs (R201, log 71). -/
  up : Nat := 0
  busy : Nat := 0
  /-- T has been set in this run (R36). -/
  tSet : Bool := false
  /-- `epoch.length_us` as last in force: it holds EPN over a warm reset until the parameters are loaded again (R61). -/
  lenUs : Nat := 20
  /-- t_base and e_base of R37, R38. -/
  tBase : Nat := 0
  eBase : Nat := 0
  /-- TIME_STATUS fields (R62). -/
  state : TimeState := .acquiring
  sourcePtp : Bool := false
  slewing : Bool := false
  quality : Quality := .freeRun
  skewNs : Nat := 0
  /-- The own reference is valid (R35): not yet at reset (log 2). -/
  refValid : Bool := false
  /-- TIME_REF shows edges (R35). -/
  refEdges : Bool := false
  /-- Consecutive TIME_PPS edges off the expected tick, and on it (R35). -/
  ppsOut : Nat := 0
  ppsGood : Nat := 0
  /-- Consecutive Sync intervals with a message (R35). -/
  syncGood : Nat := 0
  /-- The TAI second number held, and one written by TIME_SET (R33). -/
  second : Option Nat := none
  written : Option Nat := none
  /-- Offset of T to the own reference in ns, positive where T is ahead (R41). -/
  refOff : Int := 0
  /-- Offset of T to the T it follows in ns: a head's to its peer's (R42, R46), a shelf's to its source's marks (R49). -/
  followOff : Int := 0
  /-- What the slew has gained and not yet corrected, in 1/100,000 ns (R40). -/
  slewFrac : Nat := 0
  /-- The head followed in PEER has been in service meanwhile: its leaving service ends PEER (R41). -/
  followedUp : Bool := false
  /-- TAI-UTC offset from PTP, where valid (R34). -/
  utcPtp : Option Int := none
  /-- Consecutive epochs with the skew beyond and within its threshold (R47, R63). -/
  skewOver : Nat := 0
  skewWithin : Nat := 0
  /-- PEER was entered under R47. -/
  skewPeer : Bool := false
  /-- Shelf: the mark source, and the epoch in which the last mark from each head was received (R49). -/
  markSrc : Option Nat := none
  markEpn : List (Option Nat) := [none, none]
  /-- Activities deferred to the next epoch (R54): their window numbers. -/
  deferred : List Nat := []
  /-- Windows whose activity has run in this epoch (R54). -/
  ran : List Nat := []
  /-- Highest EPN recorded before this run (R39). -/
  recorded : Nat := 0
  deriving DecidableEq, Repr

/-- An event record of the ring (R551). -/
structure EvRec where
  code : Nat
  source : Nat
  /-- 1 event, 2 trace, 3 loss, 4 alarm transition. -/
  kind : Nat
  coalesced : Bool
  clear : Bool
  count : Nat
  seq : Nat
  firstT : Nat
  lastT : Nat
  epn : Nat
  arg : Bytes
  deriving DecidableEq, Repr

/-- An alarm table entry (R549). -/
structure AlEntry where
  code : Nat
  source : Nat
  raised : Bool
  isNew : Bool
  count : Nat
  clears : Nat
  firstT : Nat
  lastT : Nat
  deriving DecidableEq, Repr

/-- A summary entry (R553). -/
structure EvSum where
  first : EvRec
  newest : EvRec
  total : Nat
  dropped : Nat
  deriving DecidableEq, Repr

/-- Event store and alarm table (R549 to R554): empty at the start of every boot. -/
structure EvSt where
  /-- In the order of the first raise. -/
  alarms : List AlEntry := []
  /-- Oldest first. -/
  ring : List EvRec := []
  lastSeq : Nat := 0
  readMark : Nat := 0
  summary : SMap EvSum := []
  tracesStopped : Bool := false
  /-- Records lost per code since the last phase 0 (R554). -/
  losses : SMap Nat := []
  /-- The 90 % notice has been sent and occupancy has not fallen below since (R556). -/
  noticed : Bool := false
  deriving DecidableEq, Repr

/-- Management interface state (R558 to R564). -/
structure MgmtSt where
  /-- Commands of R559 still running, by command number (COMPLETION 4). -/
  running : List Nat := []
  /-- SPDM connection: version agreed, capabilities read, algorithms agreed (R113). -/
  spdmVersion : Bool := false
  spdmCaps : Bool := false
  spdmAlgs : Bool := false
  deriving DecidableEq, Repr

/-- The JTAG instruction in force (R563). -/
inductive JtagIr where
  | idcode | bypass | samplePreload | extest | extestPulse | extestTrain | engineDebug
  deriving DecidableEq, Repr

/-- JTAG state (R563); the instruction after power-up is IDCODE, as IEEE 1149.1 has it: PRESUMED (log 3). -/
structure JtagSt where
  ir : JtagIr := .idcode
  /-- The boundary register's update latches, as a bit pattern. -/
  boundary : Nat := 0
  deriving DecidableEq, Repr

/-- Power-domain state (R607, R628): 0 off, 1 powering up, 2 on, 3 powering down. -/
structure PdSt where
  state : Nat := 0
  offReq : Bool := false
  roleUse : Bool := false
  upCount : Nat := 0
  avgMw : Nat := 0
  peakMw : Nat := 0
  deriving DecidableEq, Repr

/-- A temperature sensor (R622, R628): readings in tenths of a degree. -/
structure TsSt where
  temp : Int := 0
  valid : Bool := false
  warn : Bool := false
  crit : Bool := false
  max : Int := 0
  min : Int := 0
  deriving DecidableEq, Repr

/-- The power-fail record of Hem slot 7 (R614); `blank` is a Hem that never held one (R156). -/
inductive PfRecord where
  | blank | armed | asserted | met | reset
  deriving DecidableEq, Repr

/-- Power block (R602 to R628). -/
structure PowerSt where
  /-- PWR_STATUS.RESET_CAUSE, default 1 (R628). -/
  resetCause : Nat := 1
  /-- PWR_STATUS.PF_ASSERTED (R628): POWER_FAIL_N asserted after its filter. -/
  pfAsserted : Bool := false
  holdupFail : Bool := false
  throttledBudget : Bool := false
  throttledTherm : Bool := false
  avs : Bool := false
  /-- PWR_STATUS.VCORE_MV, default 750 (R628). -/
  vcoreMv : Nat := 750
  railFault : BitVec 11 := 0
  pkgDw : Nat := 0
  hbmC : List Int := [0, 0, 0, 0]
  sdsC : List Int := [0, 0]
  pd : List PdSt := List.replicate 50 {}
  ts : List TsSt := List.replicate 64 {}
  /-- Admission cap factor and consumer rate steps in force from R610, in percent lowered. -/
  budgetCut : Nat := 0
  /-- The hold-up note of R614: the last power-down was not covered. -/
  noted : Bool := false
  /-- Every clock but PD00's stopped by R624. -/
  tripped : Bool := false
  /-- POWER_FAIL_N was released in this epoch: a head admits again from the next boundary on (R611). -/
  resuming : Bool := false
  deriving DecidableEq, Repr

end Sys2Proof.Machine
end

