-- ==== Sys2Proof/Blocks/Engine.lean ====
section
/-! DEFINITION. State of the engines, rings, jobs, memories, metadata cache and Hem. Defaults are the reset values; a value
marked with a log number is the model's. -/

namespace Sys2Proof.Machine

/-! ### Engines -/

/-- What an engine waits for (R123, R125). -/
inductive EngWait where
  | no
  | ring (rd ring deadline : Nat)
  | epn (rd n : Nat)
  deriving DecidableEq, Repr

/-- One engine (R119, R123 to R125, R150), as far as this manual gives it: its integer registers as the Yildom instructions
write them, its phase timer, its waits, interrupts and exceptions. Registers are zero at reset: DESIGN CHOICE (log 2). -/
structure EngSt where
  started : Bool := false
  parked : Bool := false
  /-- Armed phase-timer value; 0 disarmed (R123). -/
  timerArm : Nat := 0
  timerIrq : Bool := false
  ringIrq : Bool := false
  /-- Interrupts that the firmware has enabled (R125): it does so with standard RISC-V instructions, which no row of the table names; both
  enabled, DESIGN CHOICE (log 19). -/
  timerOn : Bool := true
  ringOn : Bool := true
  wait : EngWait := .no
  /-- Integer registers by number; x0 is never listed. -/
  x : SMap Nat := []
  /-- Exception taken: 0 none, otherwise the RISC-V cause plus one: 3 illegal instruction, 6 load access fault (PRESUMED, log 18). -/
  exc : Nat := 0
  deriving DecidableEq, Repr

/-! ### Rings and jobs -/

/-- A completion (R132) before its PHASE bit is known. -/
structure Cpl where
  tag : Nat
  status : Nat
  consumed : Nat
  produced : Nat
  deriving DecidableEq, Repr

/-- One ring entry (R128), and what its serving block holds for it (R129, R132, R133). The entries' default is not stated:
zero, DESIGN CHOICE (log 2). -/
structure Ring where
  base : Nat := 0
  log2 : Nat := 0
  /-- CTRL with ENABLE in bit 0. -/
  ctrl : Nat := 0
  target : Nat := 0
  cq : Nat := 0
  head : Nat := 0
  tail : Nat := 0
  /-- A clear of ENABLE waits for the boundary (R129). -/
  clearing : Bool := false
  /-- The ring behaves as disabled because its block's domain is off (R630). -/
  domainOff : Bool := false
  /-- PHASE bit of the next completion (R132). -/
  phase : Bool := true
  /-- The entry was written while enabled, or HEAD passed TAIL: fetches and completions are unpredictable (R587). -/
  wild : Bool := false
  deriving DecidableEq, Repr

/-- A completion that its CQ cannot take yet (R133): the CQ, whether the descriptor had NOTIFY, the completion. -/
structure HeldCpl where
  cq : Nat
  notify : Bool
  cpl : Cpl
  deriving DecidableEq, Repr

/-- Where a fetched descriptor stands (R131, R249, R299, R300). -/
inductive JobSt where
  | waiting
  | running (unit : Nat)
  | preempted (unit : Nat)
  | done (status consumed produced : Nat)
  deriving DecidableEq, Repr

/-- A descriptor that its block has fetched (R131). -/
structure Job where
  ring : Nat
  block : Nat
  inst : Nat
  desc : Bytes
  st : JobSt
  deriving DecidableEq, Repr

/-- Rings and jobs. `rotate` is the ring from which each block instance (block x 256 + instance) last fetched (R131). -/
structure RingSt where
  rings : SMap Ring := []
  jobs : SMap Job := []
  nextJob : Nat := 0
  rotate : SMap Nat := []
  /-- The cipher queue last fetched from (R299). -/
  queueLast : Option Nat := none
  /-- Completions held (R133), in completion order. -/
  held : List HeldCpl := []
  deriving DecidableEq, Repr

/-! ### Memories and the metadata cache -/

/-- A line of the metadata cache (R137): its 256 bytes, dirty, locked, and when it was last used. -/
structure McLine where
  data : Bytes
  dirty : Bool
  locked : Bool
  used : Nat
  deriving DecidableEq, Repr

/-- A command slot of the metadata cache (R141). -/
structure McSlot where
  cmd : Nat := 0
  addr : Nat := 0
  len : Nat := 0
  status : Nat := 0
  busy : Bool := false
  deriving DecidableEq, Repr

/-- The metadata cache (R137 to R148). Slot registers have no stated default: zero, DESIGN CHOICE (log 2). -/
structure McSt where
  enable : Bool := false
  invDone : Bool := false
  lastSt : Nat := 0
  slots : List McSlot := List.replicate 8 {}
  /-- Lines by line number (address / 256). -/
  lines : SMap McLine := []
  /-- Locked empty ways per set (R140, R142). -/
  emptyLocked : SMap Nat := []
  /-- Victim buffer (R139), oldest first: line number, bytes, dirty. -/
  victim : List (Nat × Bytes × Bool) := []
  clock : Nat := 0
  deriving DecidableEq, Repr

/-- What a region of HBM is for (R136). -/
inductive HbmUse where
  | firmware | rings | events | writeBuffer | queueContexts | volumeMap | powerSafe | stripMap | indexTags
  deriving DecidableEq, Repr

/-- A region of HBM as the firmware placed it (R136): bytes from `base` on. -/
structure HbmRegion where
  use : HbmUse
  base : Nat
  size : Nat
  deriving DecidableEq, Repr

/-- HBM and scratch (R126, R134). Bytes nothing has written read as zero: DESIGN CHOICE (log 4). -/
structure MemSt where
  hbm : Mem := []
  /-- By engine address. -/
  scratch : Mem := []
  /-- Poisoned 32-byte words of HBM, as address / 32, ascending (R134). -/
  poison : List Nat := []
  /-- The stacks in service (R135). -/
  stackUp : List Bool := [false, false, false, false]
  /-- A stack has failed since the reset: the part stays at its boot stage (R135). -/
  stackFailed : Bool := false
  /-- The regions that stage FIRMWARE placed (R136). -/
  regions : List HbmRegion := []
  deriving DecidableEq, Repr

/-! ### The Hem -/

/-- A DIRECTORY copy (R157). -/
structure DirRec where
  format : Nat
  role : Nat
  site : Nat
  arrayId : Bytes
  deriving DecidableEq, Repr

/-- A journal batch (R161); `wrote` is the epoch in which this head wrote it (R631). -/
structure Batch where
  stream : Nat
  cls : Nat
  units : Nat
  epn : Nat
  ringSeq : Nat
  recs : List JRec
  bodyCrc : Nat
  firstUnit : Nat
  wrote : Nat := 0
  deriving DecidableEq, Repr

/-- A sub-ring of the journal (R157, R163): its batches oldest first, those released that still stand whole in it, the newest RING_SEQ, the next
unit to write, the newest RING_SEQ flushed to the shelves and released. -/
structure SubRing where
  batches : List Batch := []
  freed : List Batch := []
  lastSeq : Nat := 0
  nextUnit : Nat := 0
  flushed : Nat := 0
  released : Nat := 0
  deriving DecidableEq, Repr

/-- A checkpoint (R160): its sequence among its kind and its content as numbers. -/
structure Ckpt where
  seq : Nat
  vals : List Nat
  deriving DecidableEq, Repr

/-- The two slot groups of one checkpoint kind, written alternately (R160). -/
structure CkptPair where
  g0 : Option Ckpt := none
  g1 : Option Ckpt := none
  deriving DecidableEq, Repr

/-- One entry of page 0xC1 (R632). -/
structure GrantRec where
  epn : Nat
  free : Nat
  grant : List Nat
  demand : List Nat
  used : Nat
  deriving DecidableEq, Repr

/-- A SIF record (R353). -/
structure SifRec where
  stripeId : Nat
  state : Nat
  k : Nat
  m : Nat
  flags : Nat
  openEpn : Nat
  sites : List Nat
  closeEpn : Nat
  acked : Nat
  deriving DecidableEq, Repr

/-- Credits of one stream (R165 to R167, R632): the epoch's free units, grants, demands and units used by class in class
order, the page history newest first, and the counts of R167. `held` is what a class has taken and not yet written. -/
structure CreditSt where
  free : Nat := 0
  grant : List Nat := [0, 0, 0, 0, 0]
  demand : List Nat := [0, 0, 0, 0, 0]
  /-- Records counted against each class's grant in this epoch. -/
  recs : List Nat := [0, 0, 0, 0, 0]
  hist : List GrantRec := []
  lowEpochs : Nat := 0
  aboveEpochs : Nat := 0
  stallEpochs : Nat := 0
  deriving DecidableEq, Repr

/-- The Hem (R152 to R172). A part leaves test with every unit zero (R156), and the content outlives every restart. -/
structure HemSt where
  /-- The 8 MiB by offset, zero where unlisted. -/
  raw : Mem := []
  /-- The hidden CRC-32C of units whose stored CRC is not the one their content gives (R153, R155): unit, stored CRC, and the CRC that the
  content of that moment gives. Every other unit, and one whose content has been written anew since, holds the CRC of its content. -/
  badCrc : SMap (Nat × Nat) := []
  /-- Units stored by address although a record of the firmware stands there: the CRC of what the record shows there. The store stands until
  the firmware writes the unit anew. -/
  stored : SMap Nat := []
  /-- What was written since the last phase 0 and is not yet durable (R154): SIF records with what stood before, checkpoints by kind, stream
  and group. -/
  looseSif : SMap (Option SifRec) := []
  looseCk : List (Nat × Nat × Bool) := []
  /-- Records that a loss of power left without a valid commit unit; stage HEM finds them (R160). -/
  torn : List HemRec := []
  /-- HEM_STATUS.CRC_ERRS and SCAN_DONE (R172). -/
  crcErrs : Nat := 0
  scanDone : Bool := false
  /-- The classes were zeroed at this boot (R159). -/
  fresh : Bool := false
  dir0 : Option DirRec := none
  dir1 : Option DirRec := none
  staging : LedgerStaging := {}
  pf : PfRecord := .blank
  s0 : SubRing := {}
  s1 : SubRing := {}
  /-- SIF records by index 0 to 8,191 (R157, R353). -/
  sif : SMap SifRec := []
  /-- Bundle headers by index 0 to 2,047 (R157). -/
  bundles : SMap BundleHdr := []
  /-- Darning and Refold checkpoints of stream 0 and of stream 1 (R365, R371). -/
  darn : CkptPair := {}
  darn1 : CkptPair := {}
  refold : CkptPair := {}
  refold1 : CkptPair := {}
  repl : CkptPair := {}
  epoch : CkptPair := {}
  c0 : CreditSt := {}
  c1 : CreditSt := {}
  deriving DecidableEq, Repr

end Sys2Proof.Machine
end

