-- ==== Sys2Proof/Blocks/Frame.lean ====
section
/-! DEFINITION. Messages of the Seam (R386, R387) and frames of the spokes (R419, R420) as plain data, and the state of the spoke
ports and of what a head has sent to shelves (R415 to R437). -/

namespace Sys2Proof.Machine

/-- The body of a Seam message (R387). -/
inductive SeamBody where
  | heartbeat (h : Heartbeat)
  /-- DURABLE: bits SEAL, BODY, INGEST batch. -/
  | durable (bits : Nat)
  | resendReq (kind : Nat)
  | release (lastEpn nextSsn : Nat)
  | sect (hdr : BundleHdr) (items : List Item)
  | catchupReq (epn0 epn1 : Nat)
  | fwdCmd (cmd : CmdId) (op : FwdOp) (pi : List PiBlock)
  | fwdDone (cmd : CmdId) (st : NvmeSt) (dw0 : Nat)
  | adminFwd (cmd : CmdId) (op : AdminOp)
  | repairReq (domain : Nat) (fp : Bytes)
  | repairReply (domain : Nat) (fp data : Bytes)
  | ledgerRec (record : Bytes)
  | fwdRead (cmd : CmdId) (nsid slba nlb : Nat)
  | readData (cmd : CmdId) (st : NvmeSt) (data : Bytes)
  deriving DecidableEq, Repr

/-- A Seam message: the epoch, the stream, the sender's site and the lease generation of its header (R386), and its body. -/
structure SeamMsg where
  epn : Nat
  /-- 0, 1, or 255 for none. -/
  stream : Nat
  sender : Nat
  leaseGen : Nat
  body : SeamBody
  deriving DecidableEq, Repr

/-- What a reply frame carries after STATUS and RESULT (R420, R428, R429, R432). -/
inductive ReplyBody where
  | none
  | named (chunkId : Nat)
  | lease (r : LeaseRec) (portsUp : BitVec 2)
  /-- A CLAIM accepted: the lost head's GRANT_UNTIL before the fence too (R401). -/
  | claimed (r : LeaseRec) (portsUp : BitVec 2) (prior : Nat)
  | sectors (failMask : BitVec 16) (data : List Bytes)
  | bytes (b : Bytes)
  | list (entries : List (Tag × AppendHead))
  deriving DecidableEq, Repr

/-- The payload of a frame, by opcode (R420). -/
inductive FrameOp where
  | hello (h : Hello)
  | linkAck
  | nak (lsn : Nat)
  | credit (w q : Nat)
  | mark (epn t quality : Nat)
  | hbRelay (origin : Nat) (h : Heartbeat)
  | renew (r : LeaseReq)
  | claim (r : LeaseReq)
  | release (r : LeaseReq)
  | append (h : AppendHead) (img : Bytes)
  | close (h : StripHead) (checks : List Nat) (ssns : List Nat)
  | stripWrite (h : StripHead) (payload : Bytes)
  | sectorRead (sla count : Nat)
  | drop
  | discard (sla : Nat)
  | idxQuery (domain : Nat) (fp : Bytes)
  | idxOp (op domain range chunkId old : Nat) (fp : Bytes)
  | health
  | ledgerGet (seq : Nat)
  | bufferList (first : Nat)
  | bufferRead
  | ack (es : List AckEntry)
  | done (es : List AckEntry)
  | reply (op status result : Nat) (body : ReplyBody)
  /-- The bytes of a frame that a SEND descriptor names, header first (R435). -/
  | raw (b : Bytes)
  deriving DecidableEq, Repr

/-- A frame without the fields the port fills in (R435): tag, flags, generation, request identifier, payload. -/
structure Frame where
  tag : Tag
  single : Bool
  purge : Bool
  streamGen : Nat
  reqId : Nat
  op : FrameOp
  deriving DecidableEq, Repr

/-- A spoke port (R416 to R424, R433, R437). STATE: 0 DOWN, 1 TRAINING, 2 HELLO, 3 UP, 4 IDLE. -/
structure SpokePort where
  state : Nat := 0
  admitted : Bool := false
  peerSite : Nat := 0
  peerRole : Nat := 0
  retrains : Nat := 0
  frameErrs : Nat := 0
  delayNs : Nat := 0
  /-- Credits a head holds. -/
  w : Nat := 0
  q : Nat := 0
  /-- Credits a shelf has ready to return. -/
  wBack : Nat := 0
  qBack : Nat := 0
  linkEpoch : Nat := 0
  hellosRx : Nat := 0
  hellosTx : Nat := 0
  delays : List Nat := []
  lastTTx : Nat := 0
  /-- LINK_EPOCH of the other end's HELLOs, at the training before this one and now (R417). -/
  peerEpochs : Nat × Nat := (0, 0)
  /-- LSN of the next frame sent and of the next one expected; the oldest frame not acknowledged is the first of `replay`. -/
  txLsn : Nat := 0
  rxLsn : Nat := 0
  replay : List (Nat × Frame) := []
  resends : Nat := 0
  /-- T when the port went down. -/
  downAt : Nat := 0
  /-- Control frames sent in this epoch (R424). -/
  control : Nat := 0
  /-- SEND descriptors whose frames are not acknowledged: LSN, job (R435). -/
  sends : List (Nat × Nat) := []
  deriving DecidableEq, Repr

/-- A tagged write or a request that a head sent to a shelf and that is not finished: the site, the frame, its bytes, whether
it was acknowledged (R229, R429, R433). -/
structure Sent where
  site : Nat
  frame : Frame
  bytes : Nat
  acked : Bool := false
  deriving DecidableEq, Repr

end Sys2Proof.Machine
end

