-- ==== Sys2Proof/Blocks/Head.lean ====
section
/-! DEFINITION. What a head holds of the array: the map, chunk records, stripes, snapshots, the two streams, the manager's
records and the passes (R208 to R239, R321 to R377). -/

namespace Sys2Proof.Machine

/-! ### The map -/

/-- A leaf entry (R322): STATE 0 UNMAPPED, 1 MAPPED, 2 ZERO. -/
structure Leaf where
  st : Nat := 0
  chunkId : Nat := 0
  appTag : Nat := 0
  birth : Nat := 0
  deriving DecidableEq, Repr

/-- A preserved entry (R341), with the namespace index of its page. -/
structure Pres where
  nsIndex : Nat
  chunkNo : Nat
  death : Nat
  leaf : Leaf
  deriving DecidableEq, Repr

/-- A chunk record (R323). REFS is kept as its changes by epoch of the bundle that records them (R327). -/
structure ChunkRec where
  fp : Bytes
  domain : Nat
  live : Bool := true
  raw : Bool
  lost : Bool := false
  pending : Bool
  dying : Bool := false
  lostBlocks : Nat := 0
  imageLen : Nat
  granule : Nat
  strip : Nat
  stripeId : Nat
  refs : List (Nat × Int) := []
  matchIndex : Option Nat := none
  deriving DecidableEq, Repr

/-- A stripe record (R349). `kept` lists, per data strip, the chunk IDs of its images in packing order. -/
structure StripeRec where
  k : Nat
  m : Nat
  /-- 1 OPEN, 2 CLOSED, 3 LOST, 4 RETIRED. -/
  state : Nat
  flags : Nat := 0
  layoutGen : Nat := 0
  openEpn : Nat
  sites : List Nat
  empty : Nat := 0
  missing : Nat := 0
  closeEpn : Nat := 0
  kept : List (List Nat) := []
  /-- USED_GRANULES of each data strip as its header has it (R348), the members whose headers have REBUILT, and members that were rebuilt away from a
  failed shelf, with its site (R361). -/
  used : List Nat := []
  rebuilt : Nat := 0
  former : List (Nat × Nat) := []
  /-- Images placed while open: staging SSN, chunk ID, strip, granule, bytes. -/
  placed : List (Nat × Nat × Nat × Nat × Nat) := []
  /-- Metadata written into a metadata stripe: next free granule of the strip in use. -/
  fill : Nat := 0
  deriving DecidableEq, Repr

/-- A snapshot (R338): hidden once deleted (R343). -/
structure Snap where
  epn : Nat
  nsids : List Nat
  quality : Nat := 0
  hidden : Bool := false
  /-- NSIDs of the clones that remain of it (R342, R343), and of those gone through which a snapshot still reads it. -/
  clones : List Nat := []
  deriving DecidableEq, Repr

/-- A clone that was deleted, formatted or erased whole (R342): its NSID, its domain, the epochs of its creation and end, its snapshot and the
namespace of it. Snapshots of the clone taken between read through to it. -/
structure OldClone where
  nsid : Nat
  domain : Nat
  born : Nat
  till : Nat
  snap : Nat
  src : Nat
  deriving DecidableEq, Repr

/-- A move of a shard range (R267): target site; the manager rebuilds it, one chunk at a time. -/
structure ShardMove where
  range : Nat
  site : Nat
  /-- Chunk IDs sent so far. -/
  sent : List Nat := []
  deriving DecidableEq, Repr

/-- The replayed metadata of the array: equal at both heads up to the epochs both have applied (R327). -/
structure MetaSt where
  /-- Leaf entries by namespace index x 2^40 + CHUNK_NO; an unlisted one is UNMAPPED. -/
  leaves : SMap Leaf := []
  pres : List Pres := []
  chunks : SMap ChunkRec := []
  stripes : SMap StripeRec := []
  snaps : SMap Snap := []
  oldClones : List OldClone := []
  scheds : SMap UtcSched := []
  /-- Schedule entries with instances already recorded: snapshot ID, count. -/
  schedDone : SMap Nat := []
  /-- Shard ranges that a decision moved: range, site; and N at the first array boot, 0 before it (R261). -/
  shard : SMap Nat := []
  shardN : Nat := 0
  moves : List ShardMove := []
  /-- FAIL and ABSENT sites, the epoch of each absence's start time T, and the spare set (R361 to R363). -/
  failed : List Nat := []
  absent : List (Nat × Nat) := []
  spares : List Nat := []
  /-- Layout generation in force and the layout it names: k, m, N, retire_from (R369). -/
  layoutGen : Nat := 0
  layout : List Nat := []
  refolding : Bool := false
  /-- A failed shelf rejoined: a rebalancing Refold is to start (R360). -/
  rebalance : Bool := false
  refoldTotal : Nat := 0
  refoldDone : Nat := 0
  /-- LOST stripes, newest first (R377). -/
  lost : List Nat := []
  /-- Pages changed and not yet written: page kind x 2^60 + number, and the epoch they became dirty (R324). -/
  dirty : SMap Nat := []
  /-- Redirections applied: chunk, the chunk in its place, epoch and stream of the bundle; kept while a bundle that the order of R327 puts before
  one can still come. -/
  moved : List (Nat × Nat × Nat × Nat) := []
  /-- Partner session state recorded by SYNC records (R535). -/
  syncOff : Bool := false
  /-- Replication key generation recorded, and the two wrapped session keys (R527). -/
  replGen : Nat := 0
  replKeys : List Bytes := []
  /-- The parts that the array record of this run and the join records since name: role, site, STATUS, LEDGER_SEQ (R23, R111). -/
  audit : Option (List (Nat × Nat × Nat × Nat)) := none
  deriving DecidableEq, Repr

/-! ### The write path -/

/-- No chunk ID: one more than 48 bits hold (R225). -/
def noChunk : Nat := 2 ^ 48

/-- What a chunk record says of its chunk (R215, R221). -/
inductive Outcome where
  | forming
  | zero
  | hitStored (t : Nat)
  | hitPending (ssn : Nat)
  | pending
  | unique
  deriving DecidableEq, Repr

/-- A dedupe decision (R223). -/
inductive Decision where
  | unique
  | uniqueLate
  | dup (t : Nat)
  deriving DecidableEq, Repr

/-- One chunk record SSN at the head that sequences its stream, or a staged image at the replaying head. -/
structure ChunkWork where
  epn : Nat
  nsIndex : Nat
  chunkNo : Nat
  domain : Nat
  /-- The C bytes in the write buffer (R217), until released (R213). -/
  content : Bytes
  appTag : Nat := 0
  lostBlocks : Nat := 0
  outcome : Outcome := .forming
  fp : Bytes := []
  chunkId : Nat := noChunk
  image : Bytes := []
  raw : Bool := false
  stripe : Nat := 0
  strip : Nat := 0
  granule : Nat := 0
  staged : Bool := false
  landAck : Bool := false
  mirrorAck : Bool := false
  /-- The reply to its query: none yet, ABSENT, or DUP(T). -/
  reply : Option (Option Nat) := none
  decision : Option Decision := none
  /-- Epoch whose bundle holds the decision (R234). -/
  decidedEpn : Nat := 0
  dropSent : Bool := false
  /-- Its drop is sent and its chunk ID was freed (R234). -/
  freed : Bool := false
  released : Bool := false
  /-- The index of its hot entry (R259), and the granule that the close of its stripe gives it (R235). -/
  matchIndex : Option Nat := none
  packed : Option Nat := none
  /-- Restaged under R337: its chunk ID was there before. -/
  repair : Bool := false
  /-- An extent SSN (R209): chunk count and DEALLOC; its outcome is ZERO from the start (R218). -/
  extent : Option (Nat × Bool) := none
  deriving DecidableEq, Repr

/-- A command that waits for admission (R210, R211), in fetch order. -/
structure WaitCmd where
  cmd : CmdId
  /-- The sender's site: the peer's for a forwarded command. -/
  fromPeer : Bool
  op : FwdOp
  /-- Fetched entries of one queue hold back later ones of it (R211). -/
  boundaries : Nat := 0
  /-- Fills still awaited: chunk numbers, and fills obtained: chunk number, bytes, lost blocks (R219). -/
  fillsWanted : List Nat := []
  fills : List (Nat × Bytes × Nat) := []
  /-- Data is wholly in the write buffer: moved in once there is room for the whole command (R210). -/
  data : Bool := true
  pi : List PiBlock := []
  /-- Its place in the order of fetching (R211). -/
  no : Nat := 0
  deriving DecidableEq, Repr

/-- An admitted command (R212, R231). -/
structure AdmCmd where
  cmd : CmdId
  fromPeer : Bool
  epn : Nat
  firstSsn : Nat
  count : Nat
  item : CmdItem
  st : NvmeSt
  /-- The Compare of a fused pair: its identifier and its status. -/
  cmp : Option (Nat × NvmeSt) := none
  deriving DecidableEq, Repr

/-- One epoch's bundle of a stream in HBM staging (R214, R215): its sections, its headers once completed, and which of SEAL,
BODY and INGEST batch are durable here and at the peer. -/
structure Bundle where
  sealItems : List Item := []
  sealed : Bool := false
  sealHdr : Option BundleHdr := none
  bodyItems : List Item := []
  bodied : Bool := false
  bodyHdr : Option BundleHdr := none
  durSeal : Bool := false
  durBody : Bool := false
  durBatch : Bool := false
  peerDur : Bool := false
  /-- The partner acknowledged receipt (R231 condition 6). -/
  partner : Bool := false
  /-- SEAL: fields fixed at the seal. -/
  firstSsn : Nat := 0
  ssnCount : Nat := 0
  commands : Nat := 0
  flags : Nat := 0
  sealT : Nat := 0
  released : Nat := 0
  /-- Records of the classes DARN to SORT that the epoch's grants took at the seal, and the units that the epoch's batches will hold
  (R164, R165). -/
  taken : List (Nat × JRec) := []
  reserve : Nat := 0
  /-- BODY: RING_SEQ of the INGEST batch, and array time at body completion. -/
  batchSeq : Nat := 0
  bodyT : Nat := 0
  /-- Sealed by this head; and applied to the state (R327). -/
  own : Bool := false
  applied : Bool := false
  /-- Bits of the peer's DURABLE (R387). -/
  peerBits : Nat := 0
  deriving DecidableEq, Repr

/-- A stream (R208 to R239, R389 to R393). -/
structure StreamSt where
  /-- This head sequences the stream, and from which epoch it admits. -/
  mine : Bool := false
  admitFrom : Nat := 0
  /-- First epoch into which it takes no more commands: handback (R408) or standing down (R404). -/
  admitUntil : Option Nat := none
  /-- Handed back to this head, which has not replayed SEAL H−1 yet (R408). -/
  awaitSeal : Bool := false
  /-- STREAM_GEN, as this head knows it (R399). -/
  gen : Nat := 0
  nextSsn : Nat := 1
  epochFirst : Nat := 1
  epochBytes : Nat := 0
  cmds : List AdmCmd := []
  waiting : List WaitCmd := []
  work : SMap ChunkWork := []
  bundles : SMap Bundle := []
  /-- Last epoch sealed, last applied to the state (R327), last whose BODY is complete here or was accepted, and last SEAL seen. -/
  sealedEpn : Nat := 0
  replayed : Nat := 0
  bodySeen : Nat := 0
  sealSeen : Nat := 0
  /-- SECTION_DIGEST of the newest header in the chain (R216). -/
  prevDigest : Bytes := List.replicate 32 0
  /-- Sections that have failed their checks once and are not accepted since, by epoch and kind (R391). -/
  badOnce : List (Nat × Nat) := []
  takeoverNext : Bool := false
  /-- Items recorded since the previous seal: merges, manager records, LOST marks. -/
  sealQueue : List Item := []
  /-- OPEN items for the next body, and records of the classes DARN, REFOLD, REPL, SORT for the next batches. -/
  opens : List Nat := []
  classRecs : List (Nat × JRec) := []
  /-- Next number of STRIPE_ID and of chunk IDs (R225, R347). -/
  nextStripe : Nat := 1
  /-- Two BUNDLE headers were free at phase 0 of this epoch (R166). -/
  headersFree : Bool := false
  /-- Candidates of the Sort: L, S; the second in which merges are counted, and their count (R236). -/
  sortCands : List (Nat × Nat) := []
  sortEpoch : Nat := 0
  sortCount : Nat := 0
  /-- Journal strips sent (R631): last RING_SEQ, landing and first parity site, and which of the two acknowledged. -/
  strips : List (Nat × Nat × Nat × Bool × Bool) := []
  /-- LBA ranges received in a SEAL and not yet replayed (R332): epoch, namespace index, first chunk, count. -/
  sealOnly : List (Nat × Nat × Nat × Nat) := []
  /-- Handback recorded: the epoch H (R408). -/
  handback : Option Nat := none
  idleSeals : Nat := 0
  deriving DecidableEq, Repr

/-! ### Passes and manager duties -/

/-- Darning of one stream (R364, R365). -/
structure DarnSt where
  /-- Next STRIPE_ID of the sweep, tier, skipped stripes, and those among them that wait for a target (R366). -/
  cursor : Nat := 0
  tier : Nat := 0
  moved : Bool := false
  skipped : List Nat := []
  noSpare : List Nat := []
  done : Nat := 0
  /-- Rebuilt members awaiting the target's acknowledgement: stripe, member, site; and those acknowledged whose MEMBER record is not applied yet. -/
  waiting : List (Nat × Nat × Nat) := []
  acked : List (Nat × Nat × Nat) := []
  deriving DecidableEq, Repr

/-- Refold of one stream (R370, R371). -/
structure RefoldSt where
  boundary : Nat := 0
  ckptBoundary : Nat := 0
  /-- Stripes that the boundary passed since the newest durable checkpoint (R371). -/
  ahead : Nat := 0
  moved : Bool := false
  /-- The target stripe being built: its STRIPE_ID and the images packed: strip, granule, chunk ID, image. -/
  target : Option Nat := none
  packed : List (Nat × Nat × Nat × Bytes) := []
  /-- Targets written, with the members whose acknowledgement is awaited. -/
  writing : List (Nat × List Nat) := []
  /-- Chunks moved: chunk, the stripe it came from, and the epoch of the body that carries its RELOC record, once applied (R336, R370). -/
  origin : List (Nat × Nat × Option Nat) := []
  /-- The metadata stripe whose pages are being written anew, and since which epoch. -/
  metaAt : Option (Nat × Nat) := none
  deriving DecidableEq, Repr

/-- Rinse of one stream (R375, R376). -/
structure RinseSt where
  cursor : Nat := 0
  cycleEpn : Nat := 0
  done : Nat := 0
  deriving DecidableEq, Repr

/-- One chunk of a read (R334): its content with lost blocks and application tag, the chunk that must be read, or unreadable. -/
inductive PartSt where
  | have (content : Bytes) (lost app : Nat)
  | chunk (id app : Nat)
  | gone
  deriving DecidableEq, Repr

/-- What a read is for (R185): data to the host, with PRACT; checking only; comparing; reporting reservations. -/
inductive ReadKind where
  | read (pract : Bool)
  | verify
  | compare (data : Bytes)
  /-- Reservation Report (R209), with extended data structures. -/
  | report (extended : Bool)
  deriving DecidableEq, Repr

/-- A read under way (R27, R334): from the peer, sent to the owner, not started because of a power state (R196), its chunks by number. -/
structure WaitRead where
  cmd : CmdId
  kind : ReadKind
  nsid : Nat
  slba : Nat
  nlb : Nat
  fromPeer : Bool
  remote : Bool := false
  held : Bool := false
  /-- Application tag and mask to check stored tags against, where PRCHK asks (R187). -/
  check : Option (Nat × Nat) := none
  parts : List (Nat × PartSt) := []
  deriving DecidableEq, Repr

/-- The sectors of one chunk being read (R334, R335, R358): its record as the lookup found it (R336), by reconstruction or not, first sector and
count, members asked with their request, and what came: member, a mask of its sectors that failed, and the bytes. -/
structure Fetch where
  id : Nat
  chunk : ChunkRec
  recon : Bool
  first : Nat
  count : Nat
  need : List (Nat × Nat)
  got : List (Nat × Nat × Bytes)
  deriving DecidableEq, Repr

/-- A repair request under way (R337): chunk, when it was asked. -/
structure RepairReq where
  chunkId : Nat
  domain : Nat
  fp : Bytes
  startT : Nat
  fromPeer : Bool
  deriving DecidableEq, Repr

/-- What a head knows of a shelf from its health entry and replies. -/
structure ShelfView where
  /-- The 64-byte health entry (R469). -/
  health : Bytes := []
  free : Nat := 0
  capacity : Nat := 0
  readOnly : Bool := false
  /-- EPN through which it believes its grant current there (R400). -/
  grant : Nat := 0
  portsUp : BitVec 2 := 3
  /-- Claim answer: none, accepted with the lost head's grant, refused. -/
  claim : Option (Option Nat) := none
  /-- Its port at this head is down since T; zero when up. -/
  downSince : Option Nat := none
  /-- It did not answer at array boot (R18). -/
  silent : Bool := false
  /-- The port at the other head is down too, as renewals show. -/
  record : Option LeaseRec := none
  deriving DecidableEq, Repr

/-- The head as a whole. -/
structure HeadSt where
  md : MetaSt := {}
  st0 : StreamSt := {}
  st1 : StreamSt := {}
  darn0 : DarnSt := {}
  darn1 : DarnSt := {}
  refold0 : RefoldSt := {}
  refold1 : RefoldSt := {}
  rinse0 : RinseSt := {}
  rinse1 : RinseSt := {}
  rinseRepairs : Nat := 0
  rinseUnresolved : Nat := 0
  /-- Stripes waiting for a spare (R366). -/
  waitingSpare : Bool := false
  shelves : SMap ShelfView := []
  /-- Sent and unfinished; sends that wait for a shelf's budget (R229) or a credit (R424), in order. -/
  sent : List Sent := []
  queue : List Sent := []
  nextReq : Nat := 1
  /-- Commands fetched so far that wait or have waited for admission (R211). -/
  fetchNo : Nat := 0
  /-- Queries under way: request, stream, SSN (R222); insert operations are named by chunk ID. -/
  queries : List (Nat × Nat × Nat) := []
  reads : List WaitRead := []
  fetches : List Fetch := []
  repairs : List RepairReq := []
  /-- Sites whose pages the manager purges (R317): kept in cipher. -/
  readPoint : Nat := 0
  /-- Qualities of array time at the boundaries of epochs whose snapshots may yet become known here (R338): epoch, quality. -/
  quals : List (Nat × Nat) := []
  /-- Array time from which the manager records the next release step (R343). -/
  releaseAt : Nat := 0
  /-- Planned restarts asked for and not permitted yet (R362): tag of the request, shelf site. -/
  permits : List (Nat × Nat) := []
  /-- Images of open metadata stripes: stripe, staging key, bytes (R349). -/
  metaImgs : List (Nat × Nat × Bytes) := []
  /-- Root record pages written: stripe, strip, epoch they reflect (R317, R321). -/
  roots : List (Nat × Nat × Nat) := []
  deriving DecidableEq, Repr

end Sys2Proof.Machine
end

