-- ==== Sys2Proof/Blocks/Nvme.lean ====
section
/-! DEFINITION. State of the host interface: controllers, queues, namespaces, power states, firmware download, self-test and
logs (R174 to R207). Defaults are the reset values; a value marked with a log number is the model's. -/

namespace Sys2Proof.Machine

/-- A submission queue: entries, head and tail as doorbells and fetches move them, its completion queue, and whether its
deletion waits for the boundary (R183), with the identifier of the delete command. -/
structure Sq where
  size : Nat
  cqid : Nat
  head : Nat := 0
  tail : Nat := 0
  deleting : Option Nat := none
  /-- Deleted: it is fetched from no more, and what it fetched before still completes (R183). -/
  gone : Bool := false
  deriving DecidableEq, Repr

/-- A host completion (R205): command, status, Dword 0 and the data transferred to the host. -/
structure NvCpl where
  cmd : CmdId
  st : NvmeSt
  dw0 : Nat
  data : Bytes
  deriving DecidableEq, Repr

/-- A completion queue: completions that find it full wait in order. -/
structure Cq where
  size : Nat
  head : Nat := 0
  tail : Nat := 0
  held : List NvCpl := []
  deriving DecidableEq, Repr

/-- A copy of a vendor page held for one controller (R202, R557). -/
inductive LogCopy where
  | bytes (b : Bytes)
  /-- The ledger ring as it was (R116), and the EPN. -/
  | ledger (nor : List (Nat × BitVec 8))
  /-- A ring copy: a range of SEQ values, first and last, and the EPN it was taken at. -/
  | ring (first last epn : Nat)
  deriving DecidableEq, Repr

/-- A read of a vendor page at offset 0 that waits for the next boundary (R202): its command, page x 4 + selection, length, and
whether it leaves the page's notice masked. -/
structure LogWait where
  cmd : CmdId
  key : Nat
  len : Nat
  rae : Bool
  deriving DecidableEq, Repr

/-- One controller (R175, R179, R181, R182, R195, R202, R556). -/
structure Ctrl where
  /-- CC.EN. -/
  en : Bool := false
  /-- Host NQN bound by Connect (R181). -/
  hostNqn : Option Bytes := none
  hostId : Nat := 0
  /-- I/O queue pairs allocated by Set Features Number of Queues (R182). -/
  allocated : Nat := 0
  sqs : SMap Sq := []
  cqs : SMap Cq := []
  /-- Feature values set, by feature identifier (R186). -/
  feats : SMap Nat := []
  /-- Power state requested, and the operational one requested last (R195). -/
  ps : Nat := 0
  psOp : Nat := 0
  /-- Keep-alive timeout in ms (R181); 0 is none. -/
  kato : Nat := 0
  /-- T at the last restart of that timer. -/
  kaAt : Nat := 0
  /-- Outstanding Asynchronous Event Requests, oldest first (R556). -/
  aers : List CmdId := []
  /-- Notices waiting, as Dword 0 of the completion (event type, information x 256, log page x 65536), and those masked until the
  page is read. -/
  notices : List Nat := []
  masked : List Nat := []
  /-- Copies of vendor pages by page x 4 + selection (R202). -/
  copies : SMap LogCopy := []
  /-- Newest SEQ of the copy fixed by the previous ring read at offset 0 (R557). -/
  ringSeen : Option Nat := none
  /-- CSTS.NSSRO (R200). -/
  nssro : Bool := false
  /-- Reservation notifications and changed namespaces to report (R186, R192). -/
  resvNotes : List (Nat × Nat) := []
  changedNs : List Nat := []
  deriving DecidableEq, Repr

/-- Reservation state of a namespace (R192): registrants as host identifier and key, the type and the holder. -/
structure Resv where
  regs : SMap Nat := []
  rtype : Nat := 0
  holder : Option Nat := none
  gen : Nat := 0
  ptpl : Bool := false
  deriving DecidableEq, Repr

/-- A namespace (R187 to R192). -/
structure Ns where
  nsze : Nat
  lbaf : Nat
  /-- Over PCIe the metadata is interleaved in the data (R181): FLBAS bit 4. -/
  ext : Bool := false
  domain : Nat
  attached : List Nat := []
  resv : Resv := {}
  /-- A format runs on it (R205). -/
  formatting : Bool := false
  /-- A clone: the snapshot and the namespace of it that positions never written read through to (R342); none once it is formatted or erased
  whole. -/
  cloneOf : Option (Nat × Nat) := none
  /-- Epoch of the bundle that created it. -/
  born : Nat := 0
  deriving DecidableEq, Repr

/-- A running self-test (R193, R194). -/
structure SelfTest where
  code : Nat
  nsid : Nat
  cntlid : Nat
  /-- Epochs in which it posted work. -/
  posted : Nat := 0
  /-- The Hem did not read back well. -/
  bad : Bool := false
  deriving DecidableEq, Repr

/-- A Firmware Commit whose NOR write runs (R199). -/
structure FwCommit where
  cmd : CmdId
  action : Nat
  slot : Copy
  img : Bytes
  deriving DecidableEq, Repr

/-- A power-state transition in progress (R195, R196): entering a state, or leaving PS1 or PS2 for a lower number. -/
inductive PsMove where
  | none
  | entry (target doneEpn : Nat)
  | exit (target doneEpn : Nat)
  deriving DecidableEq, Repr

/-- A manager command forwarded or recorded and not yet completed (R189). -/
structure AdminWait where
  cmd : CmdId
  op : AdminOp
  /-- Epoch whose bundle records it, once recorded. -/
  epn : Option Nat
  /-- Namespace identifier a Create was given. -/
  nsid : Nat
  /-- The command arrived at the co-head, which is answered over the Seam (R189). -/
  fromPeer : Bool
  deriving DecidableEq, Repr

/-- The host interface. -/
structure NvmeSub where
  /-- Controllers by CNTLID; an unlisted one is in its reset state. -/
  ctrls : SMap Ctrl := []
  numVfs : Nat := 0
  /-- The PCIe endpoint is enabled: on a head, from stage DOMAINS on (R84). -/
  hpOn : Bool := false
  /-- HP: up now, trained once, rate and width (R177, R207). -/
  hpUp : Bool := false
  hpOnce : Bool := false
  hpGen : Nat := 0
  hpWidth : Nat := 0
  /-- The link runs in FLIT mode: at Gen6 (R177). -/
  hpFlit : Bool := false
  ns : SMap Ns := []
  /-- ANA state last reported per group and change counts (R191): 1 Optimized, 2 Non-optimized, 3 Inaccessible, 4 Persistent
  Loss, 15 Change. -/
  ana : List Nat := [4, 4]
  anaCount : Nat := 0
  anaCounts : List Nat := [0, 0]
  /-- Firmware staging (R198). -/
  fwOwner : Option Nat := none
  fwPieces : List (Nat × Bytes) := []
  fwCommit : Option FwCommit := none
  test : Option SelfTest := none
  /-- Results of self-tests, newest first: code and result. -/
  testLog : List (Nat × Nat) := []
  /-- Commands sent to the owner and not yet answered (R26). -/
  fwd : List CmdId := []
  logWait : List LogWait := []
  psCur : Nat := 0
  psMove : PsMove := .none
  /-- Sanitize: running, and how many completed (R190). -/
  sanitizing : Bool := false
  sanitizes : Nat := 0
  adminWait : List AdminWait := []
  /-- Error log entries, newest first: Error Count, command, status; the newest count. -/
  errors : List (Nat × CmdId × NvmeSt) := []
  errCount : Nat := 0
  /-- SMART counters of this head (R201), in bytes and commands. -/
  hostReads : Nat := 0
  hostWrites : Nat := 0
  powerCycles : Nat := 0
  bytesRead : Nat := 0
  bytesWritten : Nat := 0
  mediaErrors : Nat := 0
  /-- The hold-up self-check failed at boot (R201 bit 4). -/
  holdupWarn : Bool := false
  deriving DecidableEq, Repr

end Sys2Proof.Machine
end

