-- ==== Sys2Proof/Blocks/Join.lean ====
section
/-! DEFINITION. What stage JOIN finds outside the part: the peer, the shelves' lease records, and the metadata that a head loads from
the shelves and from the peer's Hem (R38, R58, R86, R238, R326, R355, R399, R406, R407, R410, R411). -/

namespace Sys2Proof.Machine

/-- A serving head as a joining part finds it (R38, R58, R86). -/
structure PeerFound where
  arrayId : Bytes
  replayId : Bytes
  epochUs : Nat
  originTai : Nat
  deriving DecidableEq, Repr

/-- A chunk image in a shelf's open-strip buffer or mirror (R238, R355, R411), with the chunk fields of its append. -/
structure Buffered where
  stream : Nat
  ssn : Nat
  stripe : Nat
  strip : Nat
  head : AppendHead
  image : Bytes
  deriving DecidableEq, Repr

/-- A stream as the shelves and the peer's Hem show it. -/
structure StreamFound where
  /-- Epoch of the newest batch that the loaded pages and journal strips hold, and what follows it in the chain. -/
  loaded : Nat
  nextSsn : Nat
  prevDigest : Bytes
  nextStripe : Nat
  /-- RING_SEQ of the newest batch in the journal strips loaded (R163). -/
  ringSeq : Nat := 0
  /-- Headers and batches of this stream in the peer's Hem. -/
  peerHdrs : List BundleHdr
  peerBatches : List Batch
  /-- Every image of the bodies through this epoch was acknowledged power-safe at its landing shelf and as a mirror. -/
  safe : Nat
  deriving DecidableEq, Repr

/-- What stage JOIN finds. -/
structure JoinFound where
  /-- The serving peer of a head, or the head that a shelf hears. -/
  peer : Option PeerFound
  /-- Lease records of the shelves that answered, by site. -/
  leases : List (Nat × LeaseRec)
  /-- Highest EPN in the peer's Hem, and its SIF records; none where that Hem cannot be read. -/
  peerHigh : Option Nat
  peerSif : SMap SifRec
  md : MetaSt
  ns : SMap Ns
  keys : List KeyRec
  s0 : StreamFound
  s1 : StreamFound
  buffered : List Buffered
  /-- Data strips of CLOSING stripes as read: stripe, payload areas in member order. -/
  strips : List (Nat × List Bytes)
  /-- Where no Hem survives (R355): strip headers whose CLOSE_EPN is later than the newest written stripe-table page. -/
  headers : List StripHead := []
  /-- Stripes behind a checkpointed Refold boundary whose strip headers were read, in ascending order, and whether a member holds one that names the
  stripe (R372). -/
  refoldHeads : List (Nat × Bool) := []
  deriving DecidableEq, Repr

end Sys2Proof.Machine
end

