-- ==== Sys2Proof/Syntax.lean ====
section
/-! DEFINITION. The commands: one constructor per row of spec/opcode_table.json, in the table's order. An operand is what the
command's sender says, or what the world outside shows the part at that step. -/

namespace Sys2Proof

open Sys2Proof.Machine

/-- A command to the block. -/
inductive Instr where
  /-- POR_N_RELEASE (R2). -/
  | porNRelease (roleSel : Fin 4) (siteId : Fin 64)
  /-- POR_N_ASSERT (R612). -/
  | porNAssert (railsGood : Bool)
  /-- WARM_RST_N_RELEASE (R615). -/
  | warmRstNRelease
  /-- WARM_RST_N_ASSERT (R612). -/
  | warmRstNAssert (railsGood : Bool)
  /-- READY_WATCHDOG_EXPIRY (R85). -/
  | readyWatchdogExpiry
  /-- BOOT_ROM_START (R84). -/
  | bootRomStart (sfdp8d : Bool)
  /-- BOOT_SELECT (R82). -/
  | bootSelect
  /-- BOOT_LOAD (R84). -/
  | bootLoad
  /-- BOOT_DOMAINS (R84). -/
  | bootDomains
  /-- LEDGER_BEGIN (R106). -/
  | ledgerBegin
  /-- BOOT_MEMORY (R84). -/
  | bootMemory (trained : BitVec 4)
  /-- BOOT_HEM (R170). -/
  | bootHem (bad : List (HemRec × Nat)) (torn : List HemRec)
  /-- BOOT_FIRMWARE (R84). -/
  | bootFirmware (k : KatResult)
  /-- BOOT_LINKS (R84). -/
  | bootLinks (f : LinksFound)
  /-- BOOT_WAIT_TIME (R33). -/
  | bootWaitTime
  /-- BOOT_RECOVERY (R466). -/
  | bootRecovery
  /-- BOOT_JOIN (R86). -/
  | bootJoin (j : JoinFound)
  /-- BOOT_READY (R84). -/
  | bootReady (fails : Fin 4) (vpp : Bool)
  /-- BARRIER_ABORT (R91). -/
  | barrierAbort
  /-- TIME_PPS_EDGE (R33). -/
  | timePpsEdge (err gap off : Int) (peerSecond : Nat)
  /-- TIME_REF_LOSS (R35). -/
  | timeRefLoss
  /-- TIME_PPS_TIMEOUT (R35). -/
  | timePpsTimeout
  /-- PTP_SYNC (R34). -/
  | ptpSync (off : Int) (m : PtpSeen)
  /-- PTP_SYNC_TIMEOUT (R35). -/
  | ptpSyncTimeout
  /-- HOLDOVER_EXPIRY (R41). -/
  | holdoverExpiry
  /-- SLEW_DONE (R45). -/
  | slewDone
  /-- SKEW_ALARM (R47). -/
  | skewAlarm
  /-- EPOCH_BOUNDARY (R52). -/
  | epochBoundary (late : List (Fin 8)) (pkgDw : Nat) (cons mw : List Nat) (testEnd : Option (Fin 16))
  /-- HEARTBEAT_WINDOW (R396). -/
  | heartbeatWindow
  /-- LEASE_RENEWAL_WINDOW (R400). -/
  | leaseRenewalWindow
  /-- CHECKPOINT_WINDOW (R52). -/
  | checkpointWindow
  /-- RINSE_SLICE (R375). -/
  | rinseSlice (i : Fin 2) (reads : List StripRead)
  /-- CLEARING_SLICE (R458). -/
  | clearingSlice
  /-- FTL_JOURNAL_FLUSH (R457). -/
  | ftlJournalFlush
  /-- HEALTH_SAMPLING (R469). -/
  | healthSampling (logic hbm sds : List Int) (nand : Option Int)
  /-- MARK_LOSS (R51). -/
  | markLoss
  /-- DPOST (R124). -/
  | dpost (e : Fin 48) (rd : Fin 32) (rs1 rs2 : Nat)
  /-- RWAIT (R125). -/
  | rwait (e : Fin 48) (rd : Fin 32) (rs1 rs2 : Nat)
  /-- EWAIT (R125). -/
  | ewait (e : Fin 48) (rd : Fin 32) (rs1 : Nat)
  /-- PHTIME (R123). -/
  | phtime (e : Fin 48) (rd : Fin 32) (cyc : Fin 22)
  /-- PHTARM (R125). -/
  | phtarm (e : Fin 48) (rs1 : Nat)
  /-- PHASE_TIMER_INTERRUPT (R125). -/
  | phaseTimerInterrupt (e : Fin 48)
  /-- YILDOM_ILLEGAL_INSTRUCTION (R123). -/
  | yildomIllegalInstruction (e : Fin 48) (w : BitVec 32)
  /-- ENGINE_TRAP (R150). -/
  | engineTrap (e : Fin 48) (cause : Fin 64)
  /-- CSR_WRITE (R9). -/
  | csrWrite (e : Fin 48) (pc addr : Nat) (v : Bytes)
  /-- RING_ENABLE (R630). -/
  | ringEnable (n : Fin 4096) (ctrl : Fin 128)
  /-- RING_DISABLE (R129). -/
  | ringDisable (n : Fin 4096)
  /-- COMPLETION_RING_HEAD_ADVANCE (R133). -/
  | completionRingHeadAdvance (n : Fin 4096) (head : BitVec 16)
  /-- DESCRIPTOR_FETCH (R131). -/
  | descriptorFetch (block inst : Fin 256)
  /-- DESCRIPTOR_COMPLETION (R132). -/
  | descriptorCompletion (what : CplOf)
  /-- MC_INV_ALL (R141). -/
  | mcInvAll (slot : Fin 8)
  /-- MC_INV_RANGE (R141). -/
  | mcInvRange (slot : Fin 8) (addr len : Nat)
  /-- MC_CLEAN_RANGE (R141). -/
  | mcCleanRange (slot : Fin 8) (addr len : Nat)
  /-- MC_CLEAN_INV_RANGE (R141). -/
  | mcCleanInvRange (slot : Fin 8) (addr len : Nat)
  /-- MC_LOCK_FILL (R143). -/
  | mcLockFill (slot : Fin 8) (addr len : Nat)
  /-- MC_UNLOCK_RANGE (R141). -/
  | mcUnlockRange (slot : Fin 8) (addr len : Nat)
  /-- MC_CLEAN_ALL (R141). -/
  | mcCleanAll (slot : Fin 8)
  /-- MC_ENABLE (R146). -/
  | mcEnable
  /-- MC_DISABLE (R147). -/
  | mcDisable
  /-- HBM_PATROL_SCRUB (R134). -/
  | hbmPatrolScrub (corrected uncorrectable : List Nat)
  /-- HBM_STACK_FATAL (R135). -/
  | hbmStackFatal (k : Fin 4)
  /-- HEM_DURABLE (R154). -/
  | hemDurable (i : Fin 2) (n : Nat) (what : Fin 3)
  /-- HEM_CREDIT_LOW (R167). -/
  | hemCreditLow (i : Fin 2)
  /-- HEM_ADMIT_STALL (R167). -/
  | hemAdmitStall (i : Fin 2)
  /-- PERST_N_ASSERT (R180). -/
  | perstNAssert
  /-- PERST_N_RELEASE (R179). -/
  | perstNRelease
  /-- HOT_RESET (R180). -/
  | hotReset
  /-- FUNCTION_LEVEL_RESET (R180). -/
  | functionLevelReset (fn : Fin 16)
  /-- CC_EN_SET (R179). -/
  | ccEnSet (cntlid sqSize cqSize : Nat)
  /-- CC_EN_CLEAR (R180). -/
  | ccEnClear (cntlid : Nat)
  /-- NSSR_WRITE (R200). -/
  | nssrWrite (cntlid : Nat)
  /-- SQ_TAIL_DOORBELL (R178). -/
  | sqTailDoorbell (cntlid sqid tail : Nat)
  /-- CQ_HEAD_DOORBELL (R178). -/
  | cqHeadDoorbell (cntlid cqid head : Nat)
  /-- KEEP_ALIVE_EXPIRY (R180). -/
  | keepAliveExpiry (cntlid : Nat)
  /-- FABRICS_CONNECT (R181). -/
  | fabricsConnect (cmd : CmdId) (sqSize : Nat) (hostNqn : Bytes) (hostId kato : Nat)
  /-- NVME_READ (R334). -/
  | nvmeRead (cmd : CmdId) (nsid slba nlb : Nat) (pract : Bool) (prchk : BitVec 3) (tag mask ref : Nat)
  /-- NVME_WRITE (R208). -/
  | nvmeWrite (cmd : CmdId) (nsid slba nlb : Nat) (data : Bytes) (pract : Bool) (prchk : BitVec 3) (tag mask : Nat) (pi : List PiBlock)
  /-- NVME_WRITE_ZEROES (R209). -/
  | nvmeWriteZeroes (cmd : CmdId) (nsid slba nlb : Nat) (deac : Bool)
  /-- NVME_DATASET_MANAGEMENT (R209). -/
  | nvmeDatasetManagement (cmd : CmdId) (nsid : Nat) (deallocate : Bool) (ranges : List LbaRange)
  /-- NVME_FLUSH (R185). -/
  | nvmeFlush (cmd : CmdId) (nsid : Nat)
  /-- NVME_COMPARE (R185). -/
  | nvmeCompare (cmd : CmdId) (nsid slba nlb : Nat) (data : Bytes) (prchk : BitVec 3) (tag mask ref : Nat)
  /-- NVME_COMPARE_AND_WRITE (R185). -/
  | nvmeCompareAndWrite (cmp cmd : CmdId) (nsid slba nlb : Nat) (expect data : Bytes) (pract : Bool) (prchk : BitVec 3) (tag mask : Nat) (pi : List PiBlock)
  /-- NVME_VERIFY (R334). -/
  | nvmeVerify (cmd : CmdId) (nsid slba nlb : Nat) (prchk : BitVec 3) (tag mask ref : Nat)
  /-- NVME_COPY (R185). -/
  | nvmeCopy (cmd : CmdId) (nsid fmt sdlba : Nat) (ranges : List CopyRange)
  /-- RESERVATION_REGISTER (R192). -/
  | reservationRegister (cmd : CmdId) (nsid action cur new : Nat) (opts : RegOpts)
  /-- RESERVATION_ACQUIRE (R192). -/
  | reservationAcquire (cmd : CmdId) (nsid action rtype cur preempt : Nat)
  /-- RESERVATION_RELEASE (R192). -/
  | reservationRelease (cmd : CmdId) (nsid action rtype cur : Nat)
  /-- RESERVATION_REPORT (R209). -/
  | reservationReport (cmd : CmdId) (nsid : Nat) (extended : Bool)
  /-- NVME_UNSUPPORTED_OPCODE (R185). -/
  | nvmeUnsupportedOpcode (cmd : CmdId)
  /-- IDENTIFY (R186). -/
  | identify (cmd : CmdId) (cns nsid cntid : Nat)
  /-- CREATE_IO_SQ (R182). -/
  | createIoSq (cmd : CmdId) (qid size cqid : Nat)
  /-- CREATE_IO_CQ (R182). -/
  | createIoCq (cmd : CmdId) (qid size vector : Nat)
  /-- DELETE_IO_SQ (R183). -/
  | deleteIoSq (cmd : CmdId) (qid : Nat)
  /-- DELETE_IO_CQ (R186). -/
  | deleteIoCq (cmd : CmdId) (qid : Nat)
  /-- NVME_ABORT (R184). -/
  | nvmeAbort (cmd : CmdId) (sqid cid : Nat)
  /-- GET_FEATURES (R186). -/
  | getFeatures (cmd : CmdId) (fid nsid sel : Nat)
  /-- SET_FEATURES (R186). -/
  | setFeatures (cmd : CmdId) (fid nsid value : Nat) (data : Bytes)
  /-- SET_FEATURES_NUMBER_OF_QUEUES (R182). -/
  | setFeaturesNumberOfQueues (cmd : CmdId) (nsq ncq : Nat)
  /-- GET_LOG_PAGE (R186). -/
  | getLogPage (cmd : CmdId) (lid lsp off len : Nat) (rae : Bool)
  /-- LOG_ARRAY_STATUS (R204). -/
  | logArrayStatus (cmd : CmdId) (lsp off len : Nat) (rae : Bool)
  /-- LOG_ADMISSION_AND_HEM (R632). -/
  | logAdmissionAndHem (cmd : CmdId) (lsp off len : Nat) (rae : Bool)
  /-- LOG_SHELF_HEALTH (R469). -/
  | logShelfHealth (cmd : CmdId) (lsp off len : Nat) (rae : Bool)
  /-- LOG_STRIPE_PASSES (R377). -/
  | logStripePasses (cmd : CmdId) (lsp off len : Nat) (rae : Bool)
  /-- LOG_BOOT_LEDGER (R116). -/
  | logBootLedger (cmd : CmdId) (off len : Nat) (rae : Bool)
  /-- LOG_BOOT_LEDGER_COLLECTED (R116). -/
  | logBootLedgerCollected (cmd : CmdId) (off len : Nat) (rae : Bool)
  /-- LOG_EVENT_RING (R557). -/
  | logEventRing (cmd : CmdId) (off len : Nat) (rae : Bool)
  /-- LOG_EVENT_SUMMARY (R557). -/
  | logEventSummary (cmd : CmdId) (off len : Nat) (rae : Bool)
  /-- LOG_EVENT_RING_MARK (R557). -/
  | logEventRingMark (cmd : CmdId) (off len : Nat) (rae : Bool)
  /-- LOG_ALARMS (R549). -/
  | logAlarms (cmd : CmdId) (lsp off len : Nat) (rae : Bool)
  /-- LOG_REPLICATION (R541). -/
  | logReplication (cmd : CmdId) (lsp off len : Nat) (rae : Bool)
  /-- DEVICE_SELF_TEST_SHORT (R193). -/
  | deviceSelfTestShort (cmd : CmdId) (nsid : Nat)
  /-- DEVICE_SELF_TEST_EXTENDED (R193). -/
  | deviceSelfTestExtended (cmd : CmdId) (nsid : Nat)
  /-- DEVICE_SELF_TEST_ABORT (R193). -/
  | deviceSelfTestAbort (cmd : CmdId)
  /-- NAMESPACE_MANAGEMENT (R189). -/
  | namespaceManagement (cmd : CmdId) (create : Bool) (nsid nsze lbaf domain : Nat)
  /-- NAMESPACE_ATTACHMENT (R189). -/
  | namespaceAttachment (cmd : CmdId) (attach : Bool) (nsid : Nat) (ctrls : List Nat)
  /-- FORMAT_NVM (R190). -/
  | formatNvm (cmd : CmdId) (nsid lbaf ses : Nat)
  /-- SANITIZE (R190). -/
  | sanitize (cmd : CmdId) (action : Nat)
  /-- FIRMWARE_IMAGE_DOWNLOAD (R198). -/
  | firmwareImageDownload (cmd : CmdId) (off : Nat) (data : Bytes)
  /-- FW_COMMIT_REPLACE (R199). -/
  | fwCommitReplace (cmd : CmdId) (slot action : Nat)
  /-- FW_COMMIT_REPLACE_ACTIVATE (R199). -/
  | fwCommitReplaceActivate (cmd : CmdId) (slot : Nat)
  /-- FW_COMMIT_ACTIVATE (R199). -/
  | fwCommitActivate (cmd : CmdId) (slot : Nat)
  /-- FW_SLOT_WRITE_DONE (R199). -/
  | fwSlotWriteDone
  /-- ASYNC_EVENT_REQUEST (R556). -/
  | asyncEventRequest (cmd : CmdId)
  /-- KEEP_ALIVE (R181). -/
  | keepAlive (cmd : CmdId)
  /-- COMMAND_ADMIT (R210). -/
  | commandAdmit (cmd : CmdId)
  /-- FILL_OBTAINED (R219). -/
  | fillObtained (cmd : CmdId) (chunkNo : Nat) (bytes : Bytes) (lost : BitVec 2)
  /-- BODY_COMPLETE (R215). -/
  | bodyComplete (i : Fin 2) (n : Nat)
  /-- SECTION_DIGEST_RETURN (R390). -/
  | sectionDigestReturn (i : Fin 2) (n : Nat) (body : Bool)
  /-- WRITE_COMPLETION_POST (R231). -/
  | writeCompletionPost (cmd : CmdId)
  /-- STRIPE_OPEN (R352). -/
  | stripeOpen (stream : Fin 2) (isMeta : Bool)
  /-- SORT_MERGE (R236). -/
  | sortMerge (l t : Nat)
  /-- POWER_STATE_ENTRY_DONE (R195). -/
  | powerStateEntryDone
  /-- POWER_STATE_EXIT_DONE (R196). -/
  | powerStateExitDone
  /-- DIGEST (R246). -/
  | digest (n : Nat) (data : Bytes)
  /-- SLOT_LOAD (R250). -/
  | slotLoad (n : Nat)
  /-- MATCH_SEARCH (R253). -/
  | matchSearch (n : Nat) (flips : List (Fin 524288 × Fin 144)) (bad : List (Fin 524288))
  /-- MATCH_WRITE (R256). -/
  | matchWrite (n : Nat)
  /-- MATCH_INVALIDATE (R255). -/
  | matchInvalidate (n : Nat)
  /-- MATCH_READ (R255). -/
  | matchRead (n : Nat)
  /-- MATCH_REGIONS_LOCK (R252). -/
  | matchRegionsLock
  /-- MATCH_HALF_FATAL (R257). -/
  | matchHalfFatal (h : Fin 2)
  /-- IDX_QUERY (R264). -/
  | idxQuery (h : FrameHdr) (domain : Nat) (fp : Bytes)
  /-- IDX_INSERT (R265). -/
  | idxInsert (h : FrameHdr) (domain chunkId : Nat) (fp : Bytes)
  /-- IDX_DELETE (R265). -/
  | idxDelete (h : FrameHdr) (domain chunkId : Nat) (fp : Bytes)
  /-- IDX_REPLACE (R265). -/
  | idxReplace (h : FrameHdr) (domain chunkId old : Nat) (fp : Bytes)
  /-- IDX_REBUILD_INSERT (R263). -/
  | idxRebuildInsert (h : FrameHdr) (domain chunkId : Nat) (fp : Bytes)
  /-- IDX_RANGE_READY (R263). -/
  | idxRangeReady (h : FrameHdr) (range : BitVec 16)
  /-- IDX_RANGE_DROP (R263). -/
  | idxRangeDrop (h : FrameHdr) (range : BitVec 16)
  /-- IDX_QUERY_REPLY (R264). -/
  | idxQueryReply (h : FrameHdr) (result chunkId : Nat)
  /-- IDX_OP_REPLY (R265). -/
  | idxOpReply (h : FrameHdr) (op chunkId result named : Nat)
  /-- PENDING_WRITE_BACK (R265). -/
  | pendingWriteBack (strip : Nat)
  /-- SHARD_TAG_REBUILD_DONE (R266). -/
  | shardTagRebuildDone
  /-- SHARD_RANGE_REBUILD (R267). -/
  | shardRangeRebuild (range : BitVec 16)
  /-- COMPRESS (R284). -/
  | compress (n : Nat)
  /-- RESUME (R287). -/
  | resume (n : Nat)
  /-- DECOMPRESS (R291). -/
  | decompress (n : Nat)
  /-- CHANNEL_RESET (R278). -/
  | channelReset (n : Nat)
  /-- PRESS_LANE_FATAL (R290). -/
  | pressLaneFatal (decomp : Bool) (lane : Fin 64)
  /-- XTS_ENC (R303). -/
  | xtsEnc (n : Nat) (mismatch : Bool) (data : Bytes)
  /-- XTS_DEC (R303). -/
  | xtsDec (n : Nat) (mismatch : Bool) (data : Bytes)
  /-- GCM_ENC (R304). -/
  | gcmEnc (n : Nat) (mismatch : Bool) (data : Bytes)
  /-- GCM_DEC (R304). -/
  | gcmDec (n : Nat) (mismatch : Bool) (data : Bytes)
  /-- KEY_WRAP (R307). -/
  | keyWrap (n : Nat) (mismatch : Bool)
  /-- KEY_UNWRAP (R307). -/
  | keyUnwrap (n : Nat) (mismatch : Bool)
  /-- KEY_GEN (R309). -/
  | keyGen (n : Nat) (entropyOk : Bool)
  /-- KEY_REVOKE (R310). -/
  | keyRevoke (n : Nat)
  /-- KEY_SLOT_ZEROED (R310). -/
  | keySlotZeroed (slot : Fin 4096)
  /-- DOMAIN_KEY_CREATE (R316). -/
  | domainKeyCreate (d : Fin 256) (entropyOk : Bool)
  /-- CRYPTO_ERASE_COMPLETE (R317). -/
  | cryptoEraseComplete (domain : Fin 256)
  /-- CRYPTO_ERASE_PURGE_LATE (R317). -/
  | cryptoErasePurgeLate (domain : Fin 256)
  /-- PARTNER_REPAIR_TIMEOUT (R337). -/
  | partnerRepairTimeout (domain : Nat) (fp : Bytes)
  /-- MAP_PAGE_WRITE (R324). -/
  | mapPageWrite (i : Fin 2) (kind page : Nat)
  /-- SNAPSHOT_SCHEDULE_INSTANCE (R340). -/
  | snapshotScheduleInstance (entry : Nat)
  /-- SNAPSHOT_RELEASE_STEP (R343). -/
  | snapshotReleaseStep (id nsid page : Nat)
  /-- PARITY_ENCODE (R351). -/
  | parityEncode (n : Nat)
  /-- PARITY_RECONSTRUCT (R351). -/
  | parityReconstruct (n : Nat)
  /-- PARITY_CHECK (R351). -/
  | parityCheck (n : Nat)
  /-- SHELF_LINK_LOSS_FAIL (R361). -/
  | shelfLinkLossFail (site : Fin 64)
  /-- PLANNED_ABSENCE_EXPIRY (R361). -/
  | plannedAbsenceExpiry (site : Fin 64)
  /-- DARNING_REBUILD_STRIP (R364). -/
  | darningRebuildStrip (i : Fin 2) (reads : List StripRead)
  /-- REFOLD_RELOCATE (R370). -/
  | refoldRelocate (i : Fin 2) (chunkId : Nat) (img : Bytes)
  /-- SEAM_FLIT_BAD (R384). -/
  | seamFlitBad
  /-- SEAM_LANE_RETIRE (R384). -/
  | seamLaneRetire (lane : Fin 16)
  /-- SEAM_HEARTBEAT (R397). -/
  | seamHeartbeat (h : Heartbeat)
  /-- SEAM_DURABLE (R392). -/
  | seamDurable (i : Fin 2) (n : Nat) (bits : BitVec 3)
  /-- SEAM_RESEND_REQ (R391). -/
  | seamResendReq (i : Fin 2) (n kind : Nat)
  /-- SEAM_RELEASE (R404). -/
  | seamRelease (i : Fin 2) (lastEpn nextSsn : Nat)
  /-- SEAL_SECTION (R391). -/
  | sealSection (i : Fin 2) (hdrOk : Bool) (h : BundleHdr) (items : List Item)
  /-- BODY_SECTION (R392). -/
  | bodySection (i : Fin 2) (hdrOk : Bool) (h : BundleHdr) (items : List Item)
  /-- CATCHUP_REQ (R407). -/
  | catchupReq (e0 e1 : Nat)
  /-- FWD_CMD (R26). -/
  | fwdCmd (cmd : CmdId) (op : FwdOp) (pi : List PiBlock)
  /-- FWD_DONE (R232). -/
  | fwdDone (cmd : CmdId) (st : NvmeSt) (dw0 : Nat)
  /-- ADMIN_FWD (R189). -/
  | adminFwd (cmd : CmdId) (op : AdminOp)
  /-- SEAM_REPAIR_REQ (R337). -/
  | seamRepairReq (domain : Nat) (fp : Bytes) (reply : Option Bytes)
  /-- LEDGER_REC (R110). -/
  | ledgerRec (record : Bytes)
  /-- FWD_READ (R27). -/
  | fwdRead (cmd : CmdId) (nsid slba nlb : Nat)
  /-- READ_DATA (R27). -/
  | readData (cmd : CmdId) (st : NvmeSt) (data : Bytes)
  /-- SEAM_UNKNOWN_TYPE (R387). -/
  | seamUnknownType (len : Nat)
  /-- HB_LOSS_PATH_B (R398). -/
  | hbLossPathB
  /-- HB_LOSS_PATH_A (R398). -/
  | hbLossPathA
  /-- PEER_LOST (R398). -/
  | peerLost
  /-- HB_PATH_RESTORED (R398). -/
  | hbPathRestored (b : Bool)
  /-- SUSPECT_DECLARE (R395). -/
  | suspectDeclare (site : Fin 2) (count : Nat)
  /-- LEASE_CLAIM_WON (R401). -/
  | leaseClaimWon
  /-- LEASE_CLAIM_TIMEOUT (R401). -/
  | leaseClaimTimeout
  /-- LEASE_GRANT_EXPIRY (R402). -/
  | leaseGrantExpiry
  /-- TAKEOVER_ADMIT_START (R405). -/
  | takeoverAdmitStart (i : Fin 2)
  /-- REJOIN_ENTER_SERVICE (R407). -/
  | rejoinEnterService
  /-- MANAGER_BOOT_WAIT_EXPIRY (R410). -/
  | managerBootWaitExpiry
  /-- SPOKE_TRAINING_DONE (R416). -/
  | spokeTrainingDone (p : Fin 64)
  /-- SPOKE_TRAINING_RETRY (R416). -/
  | spokeTrainingRetry (p : Fin 64)
  /-- HELLO (R416). -/
  | hello (p : Fin 64) (h : Hello) (round : Nat)
  /-- LINK_ACK (R423). -/
  | linkAck (p : Fin 64) (ackLsn : Nat)
  /-- NAK (R423). -/
  | nak (p : Fin 64) (ackLsn : Nat)
  /-- CREDIT (R424). -/
  | credit (h : FrameHdr) (w q : Nat)
  /-- MARK (R49). -/
  | mark (h : FrameHdr) (n t quality : Nat)
  /-- HB_RELAY (R431). -/
  | hbRelay (h : FrameHdr) (origin : Fin 2) (b : Heartbeat)
  /-- RENEW (R400). -/
  | renew (h : FrameHdr) (q : LeaseReq)
  /-- CLAIM (R401). -/
  | claim (h : FrameHdr) (q : LeaseReq)
  /-- LEASE_RELEASE (R404). -/
  | leaseRelease (h : FrameHdr) (q : LeaseReq)
  /-- RENEW_REPLY (R400). -/
  | renewReply (h : FrameHdr) (status : Nat) (rec : LeaseRec) (ports : BitVec 2)
  /-- CLAIM_REPLY (R401). -/
  | claimReply (h : FrameHdr) (status : Nat) (rec : LeaseRec) (ports : BitVec 2) (prior : Nat)
  /-- APPEND (R427). -/
  | append (h : FrameHdr) (a : AppendHead) (img : Bytes)
  /-- CLOSE (R426). -/
  | close (h : FrameHdr) (head : StripHead) (checks : List Nat) (ssns : List Nat)
  /-- STRIP_WRITE (R427). -/
  | stripWrite (h : FrameHdr) (head : StripHead) (sectors : List Sector)
  /-- SECTOR_READ (R428). -/
  | sectorRead (h : FrameHdr) (sla count : Nat) (bad : BitVec 16)
  /-- SECTOR_READ_REPLY (R428). -/
  | sectorReadReply (h : FrameHdr) (status : Nat) (failMask : BitVec 16) (data : List Bytes)
  /-- DROP (R428). -/
  | drop (h : FrameHdr)
  /-- DISCARD (R428). -/
  | discard (h : FrameHdr) (sla : Nat)
  /-- HEALTH (R469). -/
  | health (h : FrameHdr) (entry : Bytes)
  /-- LEDGER_GET (R420). -/
  | ledgerGet (h : FrameHdr) (seq : Nat)
  /-- LEDGER_GET_REPLY (R110). -/
  | ledgerGetReply (h : FrameHdr) (status : Nat) (record : Bytes)
  /-- LEDGER_COLLECT_TIMEOUT (R110). -/
  | ledgerCollectTimeout
  /-- BUFFER_LIST (R420). -/
  | bufferList (h : FrameHdr) (first : Nat)
  /-- BUFFER_READ (R420). -/
  | bufferRead (h : FrameHdr)
  /-- SPOKE_ACK (R429). -/
  | spokeAck (h : FrameHdr) (es : List AckEntry)
  /-- SPOKE_DONE (R429). -/
  | spokeDone (h : FrameHdr) (es : List AckEntry)
  /-- SPOKE_UNKNOWN_OPCODE (R420). -/
  | spokeUnknownOpcode (h : FrameHdr) (opcode : Byte)
  /-- SPOKE_FRAME_BAD (R421). -/
  | spokeFrameBad (p : Fin 64)
  /-- LINK_ACK_TIMER (R423). -/
  | linkAckTimer (p : Fin 64)
  /-- SPOKE_REPLAY_TIMEOUT (R423). -/
  | spokeReplayTimeout (p : Fin 64)
  /-- CREDIT_RETURN_TIMER (R424). -/
  | creditReturnTimer (p : Fin 64)
  /-- SPOKE_PORT_SILENCE (R433). -/
  | spokePortSilence (p : Fin 64)
  /-- SPOKE_PCS_LOCK_LOSS (R433). -/
  | spokePcsLockLoss (p : Fin 64)
  /-- SPOKE_PORT_FAIL_TIMEOUT (R434). -/
  | spokePortFailTimeout (p : Fin 64)
  /-- SPOKE_SEND (R435). -/
  | spokeSend (n : Nat)
  /-- SHELF_WRITE_POWER_SAFE (R451). -/
  | shelfWritePowerSafe (t : Tag)
  /-- POWER_FAIL_N_ASSERT (R611). -/
  | powerFailNAssert
  /-- DUMP_DONE (R453). -/
  | dumpDone
  /-- POWER_FAIL_N_RELEASE (R611). -/
  | powerFailNRelease
  /-- HOLDUP_MET (R614). -/
  | holdupMet
  /-- HEALTH_RECORD_WRITE (R470). -/
  | healthRecordWrite
  /-- FR_READ (R489). -/
  | frRead (e : Fin 48) (r : FlashReq)
  /-- FR_READ_RETRY (R490). -/
  | frReadRetry (e : Fin 48) (r : FlashReq)
  /-- FR_PROGRAM (R491). -/
  | frProgram (e : Fin 48) (r : FlashReq) (data metas : Bytes)
  /-- FR_ERASE (R492). -/
  | frErase (e : Fin 48) (r : FlashReq) (reason : Fin 5)
  /-- FR_SUSPEND (R493). -/
  | frSuspend (e : Fin 48) (r : FlashReq)
  /-- FR_RESUME (R493). -/
  | frResume (e : Fin 48) (r : FlashReq)
  /-- FR_STATUS (R488). -/
  | frStatus (e : Fin 48) (r : FlashReq)
  /-- FR_FEATURE (R495). -/
  | frFeature (e : Fin 48) (r : FlashReq)
  /-- FR_FEATURE_CH_ENABLE (R495). -/
  | frFeatureChEnable (e : Fin 48) (r : FlashReq)
  /-- FR_FEATURE_CH_STATUS (R495). -/
  | frFeatureChStatus (e : Fin 48) (r : FlashReq)
  /-- FLASH_OP_COMPLETE (R485). -/
  | flashOpComplete (c : Fin 32) (ce lun : Fin 4) (d : DieResult)
  /-- FLASH_OP_TIMEOUT (R505). -/
  | flashOpTimeout (c : Fin 32) (ce lun : Fin 4) (answers : Bool)
  /-- FRONT_PORT_LINK_UP (R517). -/
  | frontPortLinkUp (p : Fin 16)
  /-- FRONT_PORT_LINK_DOWN (R517). -/
  | frontPortLinkDown (p : Fin 16)
  /-- FRONT_PORT_DOWN_ALARM (R517). -/
  | frontPortDownAlarm (p : Fin 16)
  /-- FRONT_PORT_NEIGHBOUR (R507). -/
  | frontPortNeighbour (p : Fin 16) (kind : Fin 3)
  /-- PFC_PAUSE_FRAME (R507). -/
  | pfcPauseFrame (p : Fin 16) (named pause : BitVec 8)
  /-- RDMA_CM_CONNECT (R509). -/
  | rdmaCmConnect (qpn : Nat) (p : Fin 16) (use : QpUse) (rxPsn txPsn : Fin 16777216) (rq : List (Nat × Nat)) (credits : Nat)
  /-- RDMA_SEND (R513). -/
  | rdmaSend (p : RdmaPkt)
  /-- RDMA_WRITE (R515). -/
  | rdmaWrite (p : RdmaPkt) (addr len : Nat)
  /-- RDMA_READ (R509). -/
  | rdmaRead (p : RdmaPkt) (key : Bool) (off len : Nat)
  /-- RDMA_FETCH_AND_ADD (R514). -/
  | rdmaFetchAndAdd (p : RdmaPkt) (key : Bool) (addr add : Nat)
  /-- RDMA_COMPARE_AND_SWAP (R514). -/
  | rdmaCompareAndSwap (p : RdmaPkt) (key : Bool) (addr cmp swap : Nat)
  /-- RDMA_ACK (R513). -/
  | rdmaAck (qpn : Nat) (psn : Fin 16777216) (credits : Nat) (resp : Option Bytes)
  /-- RDMA_NAK (R512). -/
  | rdmaNak (qpn : Nat) (psn : Fin 16777216) (kind : Fin 4)
  /-- RDMA_ACK_TIMEOUT (R512). -/
  | rdmaAckTimeout (qpn : Nat)
  /-- RDMA_CONTEXT_FETCH_DONE (R511). -/
  | rdmaContextFetchDone (qpn : Nat)
  /-- RDMA_CNP (R516). -/
  | rdmaCnp (qpn : Nat)
  /-- RDMA_RATE_RESTORE (R516). -/
  | rdmaRateRestore (qpn : Nat)
  /-- SPRAY_HOLE_TIMEOUT (R524). -/
  | sprayHoleTimeout (qpn : Nat) (psn : Fin 16777216)
  /-- RDMA_DEVICE_FATAL (R517). -/
  | rdmaDeviceFatal
  /-- REPL_SESSION (R530). -/
  | replSession (h : ReplHdr) (array : Bytes) (format : Nat) (w0 w1 : Bytes)
  /-- SESSION_ACK (R537). -/
  | sessionAck (h : ReplHdr) (partner : Bytes) (point r0 r1 : Nat) (pulls : List (PullEntry × Option Bytes))
  /-- RBUNDLE (R533). -/
  | rbundle (h : ReplHdr) (recs : List ReplRec)
  /-- POINT (R534). -/
  | point (h : ReplHdr) (snap quality : Nat) (last : List Nat)
  /-- REPLICA_POINT_CUT (R534). -/
  | replicaPointCut
  /-- KEYREC (R529). -/
  | keyrec (h : ReplHdr) (r : KeyRec)
  /-- PULL (R532). -/
  | pull (h : ReplHdr) (entries : List (PullEntry × Option Bytes))
  /-- REPL_CHUNK (R532). -/
  | replChunk (h : ReplHdr) (c : ReplChunk)
  /-- PUSH (R535). -/
  | push (h : ReplHdr) (cs : List ReplChunk)
  /-- RECEIPT (R535). -/
  | receipt (h : ReplHdr)
  /-- APPLIED (R534). -/
  | applied (h : ReplHdr)
  /-- REPL_REPAIR_REQ (R539). -/
  | replRepairReq (h : ReplHdr) (domain : Nat) (fp : Bytes) (read : Option Bytes)
  /-- REPAIR_DATA (R539). -/
  | repairData (h : ReplHdr) (c : ReplChunk)
  /-- RDIFF (R536). -/
  | rdiff (h : ReplHdr) (recs : List ReplRec)
  /-- REPL_SYNC_TIMEOUT (R535). -/
  | replSyncTimeout
  /-- REPL_REKEY (R527). -/
  | replRekey
  /-- REPL_LAG_ALARM (R540). -/
  | replLagAlarm
  /-- REPL_LOOKUP_TIMEOUT (R532). -/
  | replLookupTimeout
  /-- STATUS_GET (R559). -/
  | statusGet (tag : Byte)
  /-- ALARM_READ (R559). -/
  | alarmRead (tag : Byte) (first : Nat) (count : Byte) (ack : Bool)
  /-- ALARM_ACK (R550). -/
  | alarmAck (tag : Byte) (code source : Nat)
  /-- EVENT_READ (R559). -/
  | eventRead (tag : Byte) (firstSeq : Nat) (count : Byte) (mark : Bool)
  /-- SUMMARY_READ (R559). -/
  | summaryRead (tag : Byte) (first : Nat) (count : Byte)
  /-- LEDGER_READ (R115). -/
  | ledgerRead (tag : Byte) (seq : Nat) (count : Byte)
  /-- IMAGE_WRITE (R559). -/
  | imageWrite (tag : Byte) (copy : Copy) (final : Bool) (off : Nat) (data : Bytes)
  /-- TIME_SET (R33). -/
  | timeSet (tag : Byte) (second : Nat)
  /-- MGMT_RESTART (R559). -/
  | mgmtRestart (tag : Byte)
  /-- OTP_KEY_PROGRAM (R75). -/
  | otpKeyProgram (tag slot : Byte) (digest wrapKey : Bytes) (vpp : Bool)
  /-- OTP_KEY_REVOKE (R75). -/
  | otpKeyRevoke (tag slot : Byte) (vpp : Bool)
  /-- HEALTH_READ (R559). -/
  | healthRead (tag piece : Byte)
  /-- MCTP_UNKNOWN_COMMAND (R558). -/
  | mctpUnknownCommand (cmd tag : Byte)
  /-- SNAPSHOT_DEFINE (R339). -/
  | snapshotDefine (tag : Byte) (id e : Nat) (nsids : List Nat)
  /-- SNAPSHOT_DELETE (R343). -/
  | snapshotDelete (tag : Byte) (id : Nat)
  /-- SNAPSHOT_CLONE (R342). -/
  | snapshotClone (tag : Byte) (id nsid : Nat)
  /-- UTC_SCHEDULE_EDIT (R340). -/
  | utcScheduleEdit (tag : Byte) (add : Bool) (e : UtcSched)
  /-- PLANNED_SHELF_RESTART (R362). -/
  | plannedShelfRestart (tag : Byte) (site : Fin 64)
  /-- BARRIER_START (R90). -/
  | barrierStart (tag : Byte)
  /-- MANAGER_LEASE_MOVE (R409). -/
  | managerLeaseMove (tag : Byte)
  /-- GROUP_HANDBACK (R408). -/
  | groupHandback (tag : Byte)
  /-- SPDM_GET_VERSION (R113). -/
  | spdmGetVersion
  /-- SPDM_GET_CAPABILITIES (R113). -/
  | spdmGetCapabilities
  /-- SPDM_NEGOTIATE_ALGORITHMS (R113). -/
  | spdmNegotiateAlgorithms
  /-- SPDM_GET_DIGESTS (R113). -/
  | spdmGetDigests
  /-- SPDM_GET_CERTIFICATE (R113). -/
  | spdmGetCertificate (slot : Byte) (off len : Nat)
  /-- SPDM_CHALLENGE (R113). -/
  | spdmChallenge (nonce : Bytes)
  /-- SPDM_GET_MEASUREMENTS (R114). -/
  | spdmGetMeasurements (index : Byte) (nonce : Bytes) (signed : Bool)
  /-- SMBUS_ALERT_RESPONSE (R564). -/
  | smbusAlertResponse
  /-- NVME_MI_BASIC_MANAGEMENT (R562). -/
  | nvmeMiBasicManagement
  /-- NVME_MI_READ_DATA_STRUCTURE (R562). -/
  | nvmeMiReadDataStructure (dtyp cntlid : Nat)
  /-- NVME_MI_SUBSYSTEM_HEALTH_POLL (R562). -/
  | nvmeMiSubsystemHealthPoll
  /-- NVME_MI_CONTROLLER_HEALTH_POLL (R562). -/
  | nvmeMiControllerHealthPoll (first : Nat)
  /-- NVME_MI_CONFIGURATION_GET (R562). -/
  | nvmeMiConfigurationGet (config : Nat)
  /-- JTAG_BYPASS (R563). -/
  | jtagBypass
  /-- JTAG_IDCODE (R563). -/
  | jtagIdcode
  /-- JTAG_SAMPLE_PRELOAD (R563). -/
  | jtagSamplePreload (pattern : Nat)
  /-- JTAG_EXTEST (R563). -/
  | jtagExtest (pattern : Nat)
  /-- JTAG_EXTEST_PULSE (R563). -/
  | jtagExtestPulse (pattern : Nat)
  /-- JTAG_EXTEST_TRAIN (R563). -/
  | jtagExtestTrain (pattern : Nat)
  /-- JTAG_ENGINE_DEBUG (R563). -/
  | jtagEngineDebug (request : Nat)
  /-- RAIL_FAULT (R604). -/
  | railFault (r : Fin 11) (mv : Nat)
  /-- PD_OFF_REQ (R608). -/
  | pdOffReq (d : Fin 50)
  /-- PD_ON_REQ (R608). -/
  | pdOnReq (d : Fin 50)
  /-- POWER_BUDGET_ALARM (R610). -/
  | powerBudgetAlarm
  /-- CLOCK_INPUT_LOSS (R617). -/
  | clockInputLoss (c : Fin 4)
  /-- SYSCLK_RETURN (R617). -/
  | sysclkReturn
  /-- CLOCK_INPUT_RESTORED (R617). -/
  | clockInputRestored (c : Fin 4)
  /-- RAIL_WITHIN_WINDOW (R629). -/
  | railWithinWindow (r : Fin 11)
  /-- HP_LINK_DOWN (R207). -/
  | hpLinkDown
  /-- HP_LINK_UP (R177). -/
  | hpLinkUp (gen width : Nat)
  /-- SEAM_LINK_UP (R384). -/
  | seamLinkUp (lanes : BitVec 16)
  /-- SEAM_FLIT_NAK (R384). -/
  | seamFlitNak (seq : Fin 16777216)
  /-- APST_IDLE_TIMEOUT (R195). -/
  | apstIdleTimeout (cntlid : Nat)
  /-- PTP_ANNOUNCE (R34). -/
  | ptpAnnounce (m : PtpUtc) (valid : Bool)
  /-- RDMA_CM_DISCONNECT (R180). -/
  | rdmaCmDisconnect (qpn : Nat)
  /-- GET_VENDOR_DEFINED_MESSAGE_SUPPORT (R558). -/
  | getVendorDefinedMessageSupport
  /-- NUMVFS_SET (R178). -/
  | numvfsSet (n : Fin 16)
  deriving DecidableEq, Repr

end Sys2Proof
end

