-- ==== Sys2Proof/Machine/Aes.lean ====
section
/-! DEFINITION. AES-256 and the modes the cipher engine runs: XTS (R303), GCM (R304) and key wrap KW (R307). The functions
are the standards' own, which the spec names. PRESUMED (log 20). -/

namespace Sys2Proof.Machine

/-- The AES substitution box as one number: the byte for x is its byte x, counted from the lowest. -/
def aesSbox : Nat :=
  0x16bb54b00f2d99416842e6bf0d89a18cdf2855cee9871e9b948ed9691198f8e19e1dc186b95735610ef6034866b53e708a8bbd4b1f74dde8c6b4a61c2e2578ba08ae7a65eaf4566ca94ed58d6d37c8e779e4959162acd3c25c2406490a3a32e0db0b5ede14b8ee4688902a22dc4f816073195d643d7ea7c41744975fec130ccdd2f3ff1021dab6bcf5389d928f40a351a89f3c507f02f94585334d43fbaaefd0cf584c4a39becb6a5bb1fc20ed00d153842fe329b3d63b52a05a6e1b1a2c830975b227ebe28012079a059618c323c7041531d871f1e5a534ccf73f362693fdb7c072a49cafa2d4adf04759fa7dc982ca76abd7fe2b670130c56f6bf27b777c63

/-- The inverse substitution box, in the same form. -/
def aesInvSbox : Nat :=
  0x7d0c2155631469e126d677ba7e042b17619953833cbbebc8b0f52aae4d3be0a0ef9cc9939f7ae52d0d4ab519a97f51605fec8027591012b131c7078833a8dd1ff45acd78fec0db9a2079d2c64b3e56fc1bbe18aa0e62b76f89c5291d711af1476edf751ce837f9e28535ade72274ac9673e6b4f0cecff297eadc674f4111913a6b8a130103bdafc1020f3fca8f1e2cd00645b3b80558e4f70ad3bc8c00abd890849d8da75746155edab9edfd5048706c92b6655dcc5ca4d41698688664f6f87225d18b6d49a25b76b224d92866a12e084ec3fa420b954cee3d23c2a632947b54cbe9dec444438e3487ff2f9b8239e37cfbd7f3819ea340bf38a53630d56a0952

/-- Substitute one byte. -/
def subByte (t : Nat) (b : Byte) : Byte := BitVec.ofNat 8 (t / 2 ^ (8 * b.toNat))

/-- Multiply by x in the AES field. -/
def xtime (b : Byte) : Byte := if b.msb then (b <<< 1) ^^^ 0x1B else b <<< 1

/-- Multiply in the AES field by a small constant, given as bits lowest first. -/
def aesMul : List Bool → Byte → Byte
  | [], _ => 0
  | c :: cs, b => (if c then b else 0) ^^^ aesMul cs (xtime b)

/-- The AES-256 key schedule: from the words so far (newest first), `n` more words. -/
def aesExpand : Nat → Nat → Byte → List Bytes → List Bytes
  | 0, _, _, ws => ws
  | n + 1, i, rcon, ws =>
    let prev := ws.headD []
    let back := ws.getD 7 []
    let t :=
      if i % 8 = 0 then
        match (prev.drop 1 ++ prev.take 1).map (subByte aesSbox) with
        | a :: r => (a ^^^ rcon) :: r
        | [] => []
      else if i % 8 = 4 then prev.map (subByte aesSbox) else prev
    aesExpand n (i + 1) (if i % 8 = 0 then xtime rcon else rcon) (xorBytes back t :: ws)

/-- The fifteen round keys of a 32-byte key. -/
def aesRoundKeys (key : Bytes) : List Bytes :=
  chunksOf 16 (aesExpand 52 8 1 (chunksOf 4 key).reverse).reverse.flatten

/-- ShiftRows on a 16-byte state held column by column. -/
def shiftRows (b : Bytes) : Bytes := (List.range 16).map fun i => b.getD ((i + 4 * (i % 4)) % 16) 0

/-- The inverse of ShiftRows. -/
def invShiftRows (b : Bytes) : Bytes := (List.range 16).map fun i => b.getD ((i + 16 - 4 * (i % 4)) % 16) 0

/-- One column times a circulant matrix whose first row is given as constants. -/
def mixColumn (cs : List (List Bool)) (c : Bytes) : Bytes :=
  (List.range 4).map fun i =>
    (List.range 4).foldl (fun acc j => acc ^^^ aesMul (cs.getD ((j + 4 - i) % 4) []) (c.getD j 0)) 0

/-- MixColumns. -/
def mixColumns (b : Bytes) : Bytes :=
  (chunksOf 4 b).flatMap (mixColumn [[false, true], [true, true], [true], [true]])

/-- The inverse of MixColumns. -/
def invMixColumns (b : Bytes) : Bytes :=
  (chunksOf 4 b).flatMap (mixColumn [[false, true, true, true], [true, true, false, true],
    [true, false, true, true], [true, false, false, true]])

/-- Encryption rounds after the first key addition. -/
def aesRounds : List Bytes → Bytes → Bytes
  | [], b => b
  | [k], b => xorBytes (shiftRows (b.map (subByte aesSbox))) k
  | k :: k2 :: ks, b => aesRounds (k2 :: ks) (xorBytes (mixColumns (shiftRows (b.map (subByte aesSbox)))) k)

/-- Decryption rounds, round keys last first. -/
def aesInvRounds : List Bytes → Bytes → Bytes
  | [], b => b
  | [k], b => xorBytes ((invShiftRows b).map (subByte aesInvSbox)) k
  | k :: k2 :: ks, b =>
    aesInvRounds (k2 :: ks) (invMixColumns (xorBytes ((invShiftRows b).map (subByte aesInvSbox)) k))

/-- Encrypt one block under a 32-byte key. -/
def aesEnc (key blk : Bytes) : Bytes :=
  match aesRoundKeys key with
  | [] => blk
  | k0 :: ks => aesRounds ks (xorBytes (padTo 16 blk) k0)

/-- Decrypt one block under a 32-byte key. -/
def aesDec (key blk : Bytes) : Bytes :=
  match (aesRoundKeys key).reverse with
  | [] => blk
  | k0 :: ks => aesInvRounds ks (xorBytes (padTo 16 blk) k0)

/-! ### XTS -/

/-- Multiply the tweak by x. -/
def xtsMulX (t : Bytes) : Bytes :=
  let v := leNat t * 2
  le 16 (if v < 2 ^ 128 then v else Nat.xor (v - 2 ^ 128) 0x87)

/-- Whole blocks of one data unit, block function `f`; answers the output and the next tweak. -/
def xtsBlocks (f : Bytes → Bytes) : List Bytes → Bytes → Bytes × Bytes
  | [], t => ([], t)
  | b :: bs, t =>
    let r := xtsBlocks f bs (xtsMulX t)
    (xorBytes (f (xorBytes b t)) t ++ r.1, r.2)

/-- The tweak of a data unit number under key 2. -/
def xtsTweak (key2 : Bytes) (dun : Nat) : Bytes := aesEnc key2 (le 16 dun)

/-- XTS-AES-256 encryption of one data unit of 16 bytes or more, with ciphertext stealing for a short last block. -/
def xtsEnc (key1 key2 : Bytes) (dun : Nat) (data : Bytes) : Bytes :=
  let whole := data.length / 16
  let r := data.length % 16
  let t := xtsTweak key2 dun
  if r = 0 then (xtsBlocks (aesEnc key1) (chunksOf 16 data) t).1
  else
    let a := xtsBlocks (aesEnc key1) (chunksOf 16 (data.take (16 * (whole - 1)))) t
    let t1 := a.2
    let t2 := xtsMulX t1
    let cc := xorBytes (aesEnc key1 (xorBytes (sub data (16 * (whole - 1)) 16) t1)) t1
    let last := data.drop (16 * whole) ++ cc.drop r
    a.1 ++ xorBytes (aesEnc key1 (xorBytes last t2)) t2 ++ cc.take r

/-- XTS-AES-256 decryption. -/
def xtsDec (key1 key2 : Bytes) (dun : Nat) (data : Bytes) : Bytes :=
  let whole := data.length / 16
  let r := data.length % 16
  let t := xtsTweak key2 dun
  if r = 0 then (xtsBlocks (aesDec key1) (chunksOf 16 data) t).1
  else
    let a := xtsBlocks (aesDec key1) (chunksOf 16 (data.take (16 * (whole - 1)))) t
    let t1 := a.2
    let t2 := xtsMulX t1
    let pp := xorBytes (aesDec key1 (xorBytes (sub data (16 * (whole - 1)) 16) t2)) t2
    let last := data.drop (16 * whole) ++ pp.drop r
    a.1 ++ xorBytes (aesDec key1 (xorBytes last t1)) t1 ++ pp.take r

/-! ### GCM -/

/-- Carry-less product in the GHASH field, bits most significant first: `n` bits of `x` left. -/
def ghMulGo : Nat → Nat → Nat → Nat → Nat
  | 0, _, _, z => z
  | n + 1, x, v, z =>
    let z' := if bit x n then Nat.xor z v else z
    let v' := if v % 2 = 1 then Nat.xor (v / 2) (0xE1 * 2 ^ 120) else v / 2
    ghMulGo n x v' z'

/-- GHASH field product. -/
def ghMul (x y : Nat) : Nat := ghMulGo 128 x y 0

/-- Fold blocks into a GHASH accumulator. -/
def ghash (h : Nat) (acc : Nat) (bs : Bytes) : Nat :=
  (chunksOf 16 bs).foldl (fun a b => ghMul (Nat.xor a (beNat (padTo 16 b))) h) acc

/-- Counter mode from a 12-byte nonce and a first 32-bit counter. -/
def gcmCtr (key iv : Bytes) : Nat → List Bytes → Bytes
  | _, [] => []
  | c, b :: bs => xorBytes b (aesEnc key (iv ++ be 4 c)) ++ gcmCtr key iv (c + 1) bs

/-- The GHASH key. -/
def gcmH (key : Bytes) : Nat := beNat (aesEnc key (zeros 16))

/-- The tag from a finished accumulator. -/
def gcmTag (key iv : Bytes) (acc : Nat) : Bytes := xorBytes (be 16 acc) (aesEnc key (iv ++ be 4 1))

/-- AES-256-GCM encryption: ciphertext and tag. -/
def gcmSeal (key iv aad pt : Bytes) : Bytes × Bytes :=
  let ct := gcmCtr key iv 2 (chunksOf 16 pt)
  let h := gcmH key
  let acc := ghash h (ghash h (ghash h 0 aad) ct) (be 8 (8 * aad.length) ++ be 8 (8 * ct.length))
  (ct, gcmTag key iv acc)

/-- AES-256-GCM decryption: the plaintext where the tag agrees. -/
def gcmOpen (key iv aad ct tag : Bytes) : Option Bytes :=
  let h := gcmH key
  let acc := ghash h (ghash h (ghash h 0 aad) ct) (be 8 (8 * aad.length) ++ be 8 (8 * ct.length))
  if gcmTag key iv acc = tag then some (gcmCtr key iv 2 (chunksOf 16 ct)) else none

/-! ### Key wrap (KW) -/

/-- One pass of the wrap over the blocks: step number `t`. -/
def kwPass (key : Bytes) : Nat → Bytes → List Bytes → Bytes × List Bytes
  | _, a, [] => (a, [])
  | t, a, r :: rs =>
    let b := aesEnc key (a ++ r)
    let p := kwPass key (t + 1) (xorBytes (b.take 8) (be 8 t)) rs
    (p.1, b.drop 8 :: p.2)

/-- `n` passes. -/
def kwPasses (key : Bytes) : Nat → Nat → Bytes → List Bytes → Bytes × List Bytes
  | 0, _, a, rs => (a, rs)
  | n + 1, t, a, rs =>
    let p := kwPass key t a rs
    kwPasses key n (t + rs.length) p.1 p.2

/-- AES-256 key wrap of a byte string of whole 8-byte blocks. -/
def kwWrap (key data : Bytes) : Bytes :=
  let p := kwPasses key 6 1 (List.replicate 8 0xA6) (chunksOf 8 data)
  p.1 ++ p.2.flatten

/-- One inverse pass over the blocks, last block first, step number `t` falling. -/
def kwInvPass (key : Bytes) : Nat → Bytes → List Bytes → Bytes × List Bytes
  | _, a, [] => (a, [])
  | t, a, r :: rs =>
    let b := aesDec key (xorBytes a (be 8 t) ++ r)
    let p := kwInvPass key (t - 1) (b.take 8) rs
    (p.1, b.drop 8 :: p.2)

/-- `n` inverse passes. -/
def kwInvPasses (key : Bytes) : Nat → Nat → Bytes → List Bytes → Bytes × List Bytes
  | 0, _, a, rs => (a, rs)
  | n + 1, t, a, rs =>
    let p := kwInvPass key t a rs
    kwInvPasses key n (t - rs.length) p.1 p.2

/-- AES-256 key unwrap: the key data where the integrity value checks. -/
def kwUnwrap (key data : Bytes) : Option Bytes :=
  let rs := (chunksOf 8 (data.drop 8)).reverse
  let p := kwInvPasses key 6 (6 * rs.length) (data.take 8) rs
  if p.1 = List.replicate 8 0xA6 then some p.2.reverse.flatten else none

end Sys2Proof.Machine
end

