-- ==== Sys2Proof/Machine/Sha.lean ====
section
/-! DEFINITION. SHA-256, SHA-384 and SHA-512, and HMAC over them (R98, R241, R244, R245). The functions are FIPS 180-4's and
FIPS 198-1's own, which the spec names. PRESUMED (log 20). -/

namespace Sys2Proof.Machine

/-- The primes below 410: the first eighty. -/
def shaPrimes : List Nat := (List.range 410).filter fun n => decide (2 ≤ n) && (List.range' 2 19).all fun d => n == d || n % d != 0

/-- The greatest number whose power `k` is at most `n`, from its 68 bits, highest first. -/
def rootFloor (k n : Nat) : Nat := (List.range 68).foldr (fun i r => if (r + 2 ^ i) ^ k ≤ n then r + 2 ^ i else r) 0

/-- The first 64 bits of the fraction of a prime's root: FIPS 180-4 takes its constants from there. -/
def rootBits (k p : Nat) : Nat := rootFloor k (p * 2 ^ (64 * k)) % 2 ^ 64

/-- Round constants of SHA-512 and SHA-384: from the cube roots of the first eighty primes. -/
def sha512K : List Nat := shaPrimes.map (rootBits 3)

/-- Round constants of SHA-256: the leading 32 bits of the first sixty-four of them. -/
def sha256K : List Nat := (sha512K.take 64).map (· / 2 ^ 32)

/-- Initial state of SHA-512: from the square roots of the first eight primes. -/
def sha512H0 : List Nat := (shaPrimes.take 8).map (rootBits 2)

/-- Initial state of SHA-384: from those of the ninth to the sixteenth prime. -/
def sha384H0 : List Nat := ((shaPrimes.drop 8).take 8).map (rootBits 2)

/-- Initial state of SHA-256: the leading 32 bits of SHA-512's. -/
def sha256H0 : List Nat := sha512H0.map (· / 2 ^ 32)

/-- Rotate right within `w` bits. -/
def rotr (w x n : Nat) : Nat := Nat.lor (x / 2 ^ n) (x * 2 ^ (w - n) % 2 ^ w)

/-- What differs between the two word sizes: word bits, rounds constants, and the shifts of the four sigmas. -/
structure ShaKind where
  w : Nat
  ks : List Nat
  s0 : Nat × Nat × Nat
  s1 : Nat × Nat × Nat
  e0 : Nat × Nat × Nat
  e1 : Nat × Nat × Nat

/-- The 32-bit kind. -/
def sha32 : ShaKind := ⟨32, sha256K, (7, 18, 3), (17, 19, 10), (2, 13, 22), (6, 11, 25)⟩

/-- The 64-bit kind. -/
def sha64 : ShaKind := ⟨64, sha512K, (1, 8, 7), (19, 61, 6), (28, 34, 39), (14, 18, 41)⟩

/-- The message-schedule sigma: two rotations and a shift. -/
def smallSigma (w : Nat) (t : Nat × Nat × Nat) (x : Nat) : Nat :=
  Nat.xor (Nat.xor (rotr w x t.1) (rotr w x t.2.1)) (x / 2 ^ t.2.2)

/-- The round sigma: three rotations. -/
def bigSigma (w : Nat) (t : Nat × Nat × Nat) (x : Nat) : Nat :=
  Nat.xor (Nat.xor (rotr w x t.1) (rotr w x t.2.1)) (rotr w x t.2.2)

/-- One round on the eight working words, for round constant plus schedule word `kw`. -/
def shaRound (k : ShaKind) (v : List Nat) (kw : Nat) : List Nat :=
  match v with
  | [a, b, c, d, e, f, g, h] =>
    let m := 2 ^ k.w
    let ch := Nat.xor (Nat.land e f) (Nat.land (m - 1 - e) g)
    let t1 := (h + bigSigma k.w k.e1 e + ch + kw) % m
    let maj := Nat.xor (Nat.xor (Nat.land a b) (Nat.land a c)) (Nat.land b c)
    let t2 := (bigSigma k.w k.e0 a + maj) % m
    [(t1 + t2) % m, a, b, c, (d + t1) % m, e, f, g]
  | _ => v

/-- The rounds over a sliding window of sixteen schedule words. -/
def shaRounds (k : ShaKind) : List Nat → List Nat → List Nat → List Nat
  | [], _, v => v
  | kc :: ks, win, v =>
    let m := 2 ^ k.w
    let v' := shaRound k v (kc + win.headD 0)
    let nw := (smallSigma k.w k.s1 (win.getD 14 0) + win.getD 9 0 + smallSigma k.w k.s0 (win.getD 1 0)
      + win.headD 0) % m
    shaRounds k ks (win.tail ++ [nw]) v'

/-- One compression of a block into the state. -/
def shaBlock (k : ShaKind) (st : List Nat) (blk : Bytes) : List Nat :=
  let win := (List.range 16).map fun i => beNat (sub blk (i * (k.w / 8)) (k.w / 8))
  List.zipWith (fun a b => (a + b) % 2 ^ k.w) st (shaRounds k k.ks win st)

/-- Absorb whole blocks; bytes short of a block are left out. -/
def shaAbsorb (k : ShaKind) (st : List Nat) (bs : Bytes) : List Nat :=
  ((chunksOf (2 * k.w) bs).filter (·.length == 2 * k.w)).foldl (shaBlock k) st

/-- The padding of a message of `n` bytes. -/
def shaPad (k : ShaKind) (n : Nat) : Bytes :=
  let blk := 2 * k.w
  let lenB := k.w / 4
  let z := (blk - (n + 1 + lenB) % blk) % blk
  0x80 :: (zeros z ++ be lenB (8 * n))

/-- The digest bytes of a state. -/
def shaOut (k : ShaKind) (st : List Nat) : Bytes := st.flatMap (be (k.w / 8))

/-- SHA-256. -/
def sha256 (bs : Bytes) : Bytes := shaOut sha32 (shaAbsorb sha32 sha256H0 (bs ++ shaPad sha32 bs.length))

/-- SHA-384. -/
def sha384 (bs : Bytes) : Bytes := (shaOut sha64 (shaAbsorb sha64 sha384H0 (bs ++ shaPad sha64 bs.length))).take 48

/-- SHA-512. -/
def sha512 (bs : Bytes) : Bytes := shaOut sha64 (shaAbsorb sha64 sha512H0 (bs ++ shaPad sha64 bs.length))

/-- HMAC over a hash with block size `blk`. -/
def hmacWith (h : Bytes → Bytes) (blk : Nat) (key msg : Bytes) : Bytes :=
  let k0 := padTo blk (if key.length > blk then h key else key)
  h (k0.map (· ^^^ 0x5C) ++ h (k0.map (· ^^^ 0x36) ++ msg))

/-- HMAC-SHA-256 (R241). -/
def hmac256 (key msg : Bytes) : Bytes := hmacWith sha256 64 key msg

end Sys2Proof.Machine
end

