-- ==== Sys2Proof/Machine/Ecdsa.lean ====
section
/-! DEFINITION. Verification of ECDSA signatures on P-384 with SHA-384 (R72, R74), as SEC 1 and FIPS 186 define it; the curve's constants
are SEC 2's. -/

namespace Sys2Proof.Machine

/-- Field prime, group order, curve coefficient b and base point of P-384; the coefficient a is -3. -/
def p384P : Nat := 0xfffffffffffffffffffffffffffffffffffffffffffffffffffffffffffffffeffffffff0000000000000000ffffffff
def p384N : Nat := 0xffffffffffffffffffffffffffffffffffffffffffffffffc7634d81f4372ddf581a0db248b0a77aecec196accc52973
def p384B : Nat := 0xb3312fa7e23ee7e4988e056be3f82d19181d9c6efe8141120314088f5013875ac656398d8a2ed19d2a85c8edd3ec2aef
def p384Gx : Nat := 0xaa87ca22be8b05378eb1c71ef320ad746e1d3b628ba79b9859f741e082542a385502f25dbf55296c3a545e3872760ab7
def p384Gy : Nat := 0x3617de4a96262c6f5d9e98bf9292dc29f8f41dbd289a147ce9da3113b5f0b8c00a60b1ce1d7e819d7a431d7c90ea0e5f

/-- `b` to the power `e` modulo `m`, for an exponent of at most `fuel` bits. -/
def powMod (m : Nat) : Nat → Nat → Nat → Nat
  | 0, _, _ => 1 % m
  | fuel + 1, b, e =>
    let r := powMod m fuel (b * b % m) (e / 2)
    if e % 2 = 1 then r * b % m else r

/-- The inverse modulo a prime of at most 384 bits (Fermat). -/
def invMod (m x : Nat) : Nat := powMod m 384 (x % m) (m - 2)

/-- A point in Jacobian coordinates, x / z^2 and y / z^3; z = 0 is the point at infinity. -/
structure JPoint where
  x : Nat
  y : Nat
  z : Nat
  deriving DecidableEq, Repr

/-- The difference modulo the field prime of two reduced numbers. -/
def fSub (a b : Nat) : Nat := (a + p384P - b) % p384P

/-- Twice a point, on a curve with a = -3. -/
def JPoint.dbl (q : JPoint) : JPoint :=
  let delta := q.z * q.z % p384P
  let gamma := q.y * q.y % p384P
  let beta := q.x * gamma % p384P
  let alpha := 3 * (fSub q.x delta * ((q.x + delta) % p384P)) % p384P
  let x3 := fSub (alpha * alpha % p384P) (8 * beta % p384P)
  ⟨x3, fSub (alpha * fSub (4 * beta % p384P) x3 % p384P) (8 * gamma * gamma % p384P), 2 * q.y * q.z % p384P⟩

/-- The sum of two points. -/
def JPoint.add (a b : JPoint) : JPoint :=
  if a.z = 0 then b
  else if b.z = 0 then a
  else
    let za := a.z * a.z % p384P
    let zb := b.z * b.z % p384P
    let u1 := a.x * zb % p384P
    let u2 := b.x * za % p384P
    let s1 := a.y * b.z * zb % p384P
    let s2 := b.y * a.z * za % p384P
    if u1 = u2 then (if s1 = s2 then a.dbl else ⟨1, 1, 0⟩)
    else
      let h := fSub u2 u1
      let r := fSub s2 s1
      let hh := h * h % p384P
      let hhh := h * hh % p384P
      let v := u1 * hh % p384P
      let x3 := fSub (fSub (r * r % p384P) hhh) (2 * v % p384P)
      ⟨x3, fSub (r * fSub v x3 % p384P) (s1 * hhh % p384P), h * a.z * b.z % p384P⟩

/-- `k` times a point, for a multiplier of at most `fuel` bits. -/
def JPoint.mul : Nat → Nat → JPoint → JPoint
  | 0, _, _ => ⟨1, 1, 0⟩
  | fuel + 1, k, q =>
    let r := JPoint.mul fuel (k / 2) q.dbl
    if k % 2 = 1 then r.add q else r

/-- A public key: the uncompressed point 0x04, X, Y on the curve (SEC 1). -/
def ecPoint (pub : Bytes) : Option JPoint :=
  let x := beNat (sub pub 1 48)
  let y := beNat (sub pub 49 48)
  if pub.length = 97 ∧ pub.headD 0 = 4 ∧ x < p384P ∧ y < p384P ∧ y * y % p384P = (x * x * x + (p384P - 3) * x + p384B) % p384P then
    some ⟨x, y, 1⟩
  else none

/-- ECDSA P-384 verification with SHA-384: public key, message, signature r then s (R72, R74). -/
def ecdsaVerify (pub msg sig : Bytes) : Bool :=
  let r := beNat (sub sig 0 48)
  let s := beNat (sub sig 48 48)
  if r = 0 ∨ s = 0 ∨ p384N ≤ r ∨ p384N ≤ s ∨ sig.length ≠ 96 then false
  else match ecPoint pub with
    | none => false
    | some q =>
      let e := beNat (sha384 msg)
      let w := invMod p384N s
      let sum := (JPoint.mul 384 (e * w % p384N) ⟨p384Gx, p384Gy, 1⟩).add (JPoint.mul 384 (r * w % p384N) q)
      if sum.z = 0 then false
      else
        let zi := invMod p384P sum.z
        sum.x * zi % p384P * zi % p384P % p384N == r

end Sys2Proof.Machine
end

