-- ==== Sys2Proof/Machine/Mldsa.lean ====
section
/-! DEFINITION. Verification of ML-DSA-65 signatures in pure mode with an empty context string (R72, R74), as FIPS 204 defines it, over
the SHAKE functions of FIPS 202. -/

namespace Sys2Proof.Machine

/-! ### SHAKE (FIPS 202) -/

/-- Round constants of Keccak-f[1600]. -/
def keccakRc : List Nat :=
  [0x0000000000000001, 0x0000000000008082, 0x800000000000808a, 0x8000000080008000, 0x000000000000808b, 0x0000000080000001] ++
  [0x8000000080008081, 0x8000000000008009, 0x000000000000008a, 0x0000000000000088, 0x0000000080008009, 0x000000008000000a] ++
  [0x000000008000808b, 0x800000000000008b, 0x8000000000008089, 0x8000000000008003, 0x8000000000008002, 0x8000000000000080] ++
  [0x000000000000800a, 0x800000008000000a, 0x8000000080008081, 0x8000000000008080, 0x0000000080000001, 0x8000000080008008]

/-- Rotations of the lanes, lane x + 5 y. -/
def keccakRho : List Nat := [0, 1, 62, 28, 27] ++ [36, 44, 6, 55, 20] ++ [3, 10, 43, 25, 39] ++ [41, 45, 15, 21, 8] ++ [18, 2, 61, 56, 14]

/-- Rotate a lane left. -/
def rotl64 (x n : Nat) : Nat := x * 2 ^ n % 2 ^ 64 + x / 2 ^ (64 - n)

/-- One round on the 25 lanes: theta, rho and pi, chi, iota. -/
def keccakRound (a : List Nat) (rc : Nat) : List Nat :=
  let lane := fun (l : List Nat) (i : Nat) => l.getD i 0
  let c := (List.range 5).map (fun x => [5, 10, 15, 20].foldl (fun v o => Nat.xor v (lane a (x + o))) (lane a x))
  let d := (List.range 5).map (fun x => Nat.xor (lane c ((x + 4) % 5)) (rotl64 (lane c ((x + 1) % 5)) 1))
  let t := (List.range 25).map (fun i => rotl64 (Nat.xor (lane a i) (lane d (i % 5))) (lane keccakRho i))
  let b := (List.range 25).map (fun i => lane t ((i % 5 + 3 * (i / 5)) % 5 + 5 * (i % 5)))
  let e := (List.range 25).map (fun i =>
    let y := i / 5 * 5
    Nat.xor (lane b i) (Nat.land (2 ^ 64 - 1 - lane b (y + (i + 1) % 5)) (lane b (y + (i + 2) % 5))))
  match e with
  | [] => []
  | x :: xs => Nat.xor x rc :: xs

/-- The permutation. -/
def keccakF (a : List Nat) : List Nat := keccakRc.foldl keccakRound a

/-- Absorb one block of the rate into the lanes. -/
def keccakBlock (a : List Nat) (blk : Bytes) : List Nat :=
  keccakF ((List.range 25).map (fun i => Nat.xor (a.getD i 0) (num blk (8 * i) 8)))

/-- Message and padding of SHAKE: 1F, zeros, 80 at the end of the last block. -/
def shakePad (rate : Nat) (msg : Bytes) : Bytes :=
  let n := rate - msg.length % rate
  msg ++ (if n = 1 then [0x9F] else [0x1F] ++ zeros (n - 2) ++ [0x80])

/-- The state after absorbing a message. -/
def shakeAbsorb (rate : Nat) (msg : Bytes) : List Nat := (chunksOf rate (shakePad rate msg)).foldl keccakBlock (List.replicate 25 0)

/-- One block of output. -/
def shakeOut (rate : Nat) (a : List Nat) : Bytes := (a.flatMap (le 8)).take rate

/-- Output blocks. -/
def shakeBlocks (rate : Nat) : Nat → List Nat → Bytes
  | 0, _ => []
  | n + 1, a => shakeOut rate a ++ shakeBlocks rate n (keccakF a)

/-- SHAKE256 with `len` bytes of output. -/
def shake256 (msg : Bytes) (len : Nat) : Bytes := (shakeBlocks 136 (len / 136 + 1) (shakeAbsorb 136 msg)).take len

/-! ### The ring and its transform (FIPS 204, sections 2.5 and 7.5) -/

/-- The modulus. -/
def dsaQ : Nat := 8380417

/-- The bits of a byte reversed. -/
def brv8 (k : Nat) : Nat := (List.range 8).foldl (fun a i => a + k / 2 ^ i % 2 * 2 ^ (7 - i)) 0

/-- The power of 1753 that butterfly `k` uses, and its inverse. -/
def zeta (k : Nat) : Nat := powMod dsaQ 9 1753 (brv8 k)
def zetaInv (k : Nat) : Nat := powMod dsaQ 9 1753 (512 - brv8 k)

/-- Sum and difference of coefficients. -/
def polyAdd (a b : List Nat) : List Nat := List.zipWith (fun x y => (x + y) % dsaQ) a b
def polySub (a b : List Nat) : List Nat := List.zipWith (fun x y => (x + dsaQ - y) % dsaQ) a b

/-- Product by a number, and product coefficient by coefficient. -/
def polyScale (k : Nat) (a : List Nat) : List Nat := a.map (fun x => x * k % dsaQ)
def polyMul (a b : List Nat) : List Nat := List.zipWith (fun x y => x * y % dsaQ) a b

/-- The transform of 2^d coefficients from butterfly `k` on. -/
def nttGo : Nat → Nat → List Nat → List Nat
  | 0, _, w => w
  | d + 1, k, w =>
    let lo := w.take (2 ^ d)
    let hi := polyScale (zeta k) (w.drop (2 ^ d))
    nttGo d (2 * k) (polyAdd lo hi) ++ nttGo d (2 * k + 1) (polySub lo hi)

/-- Its inverse, times 2^d. -/
def nttInvGo : Nat → Nat → List Nat → List Nat
  | 0, _, w => w
  | d + 1, k, w =>
    let a := nttInvGo d (2 * k) (w.take (2 ^ d))
    let b := nttInvGo d (2 * k + 1) (w.drop (2 ^ d))
    polyAdd a b ++ polyScale (zetaInv k) (polySub a b)

/-- NTT and its inverse; 8347681 is the inverse of 256. -/
def ntt (w : List Nat) : List Nat := nttGo 8 1 w
def nttInv (w : List Nat) : List Nat := polyScale 8347681 (nttInvGo 8 1 w)

/-! ### Encodings (FIPS 204, section 7.1) -/

/-- The `n` values of `w` bits that bytes hold, least significant bits first. -/
def unpackBits (w n : Nat) (b : Bytes) : List Nat :=
  let v := leNat b
  (List.range n).map (fun i => v / 2 ^ (w * i) % 2 ^ w)

/-- t1 of a public key: six polynomials of 10-bit coefficients after the seed. -/
def dsaT1 (pk : Bytes) : List (List Nat) := (List.range 6).map (fun i => unpackBits 10 256 (sub pk (32 + 320 * i) 320))

/-- z of a signature: five polynomials, coefficient 2^19 less a 20-bit value. -/
def dsaZ (sig : Bytes) : List (List Int) :=
  (List.range 5).map (fun i => (unpackBits 20 256 (sub sig (48 + 640 * i) 640)).map (fun v => (524288 : Int) - v))

/-- Whether numbers rise strictly. -/
def rising : List Nat → Bool
  | [] => true
  | x :: xs => (match xs with | [] => true | y :: _ => decide (x < y)) && rising xs

/-- The hint: the places of the ones of each of the six polynomials; none where the encoding is not the only one. -/
def dsaHint (y : List Nat) : Option (List (List Nat)) :=
  let ends := (List.range 6).map (fun i => y.getD (55 + i) 0)
  let starts := 0 :: ends.dropLast
  let parts := (List.zip starts ends).map (fun e => (y.drop e.1).take (e.2 - e.1))
  let ordered := (List.zip starts ends).all (fun e => decide (e.1 ≤ e.2 ∧ e.2 ≤ 55))
  let rest := ((y.take 55).drop (ends.getLastD 0)).all (· == 0)
  if ordered && rest && parts.all rising then some parts else none

/-! ### Sampling (FIPS 204, section 7.3) -/

/-- Coefficients below the modulus among three-byte values of 23 bits. -/
def rejNtt (b : Bytes) : List Nat :=
  (chunksOf 3 b).filterMap (fun c =>
    let v := leNat c % 2 ^ 23
    if c.length = 3 ∧ v < dsaQ then some v else none)

/-- Blocks of SHAKE128 until 256 coefficients are found; `fuel` blocks at most. -/
def rejGo : Nat → List Nat → List Nat → List Nat
  | 0, _, acc => acc
  | fuel + 1, a, acc => if 256 ≤ acc.length then acc else rejGo fuel (keccakF a) (acc ++ rejNtt (shakeOut 168 a))

/-- One polynomial of the matrix, in the transformed domain. -/
def expandA (rho : Bytes) (r s : Nat) : List Nat := (rejGo 64 (shakeAbsorb 168 (rho ++ le 1 s ++ le 1 r)) []).take 256

/-- Places of the challenge's coefficients: each of the last 49 takes the value of a place at or before it that the stream names, which then
takes one or minus one as the next sign bit says. -/
def ballGo (signs : Nat) : Nat → Nat → Bytes → List Nat → List Nat
  | 0, _, _, c => c
  | fuel + 1, i, b, c =>
    if 256 ≤ i then c
    else match b with
      | [] => c
      | x :: rest =>
        let j := x.toNat
        if i < j then ballGo signs fuel i rest c
        else ballGo signs fuel (i + 1) rest ((c.set i (c.getD j 0)).set j (if signs / 2 ^ (i - 207) % 2 = 1 then dsaQ - 1 else 1))

/-- The challenge polynomial of a seed. -/
def sampleInBall (seed : Bytes) : List Nat :=
  let b := shake256 seed 2048
  ballGo (num b 0 8) 2048 207 (b.drop 8) (List.replicate 256 0)

/-! ### Verification (FIPS 204, sections 5.3, 6.3 and 7.4) -/

/-- The high bits of a coefficient, corrected by its hint. -/
def useHint (h : Bool) (r : Nat) : Nat :=
  let g : Nat := 523776
  let low := r % g
  let r0 : Int := if g / 2 < low then (low : Int) - g else low
  let top := decide ((r : Int) - r0 = 8380416)
  let r1 := if top then 0 else (((r : Int) - r0) / g).toNat
  let pos := decide (0 < (if top then r0 - 1 else r0))
  if !h then r1 else if pos then (r1 + 1) % 16 else (r1 + 15) % 16

/-- The high bits of six polynomials in 4 bits each. -/
def w1Encode (w : List (List Nat)) : Bytes := w.flatMap (fun p => le 128 (p.foldr (fun v a => v + 16 * a) 0))

/-- A coefficient as a residue. -/
def residue (x : Int) : Nat := (x % (dsaQ : Int)).toNat

/-- ML-DSA-65 verification: public key, message, signature. -/
def mldsaVerify (pk msg sig : Bytes) : Bool :=
  if pk.length ≠ 1952 ∨ sig.length ≠ 3309 then false
  else match dsaHint ((sub sig 3248 61).map (·.toNat)) with
    | none => false
    | some hint =>
      let z := dsaZ sig
      let mu := shake256 (shake256 pk 64 ++ [0, 0] ++ msg) 64
      let c := ntt (sampleInBall (sub sig 0 48))
      let zh := z.map (fun p => ntt (p.map residue))
      let w1 := (List.range 6).map (fun r =>
        let az := (List.range 5).foldl (fun acc k => polyAdd acc (polyMul (expandA (sub pk 0 32) r k) (zh.getD k []))) (List.replicate 256 0)
        let ct := polyMul c (ntt (polyScale 8192 ((dsaT1 pk).getD r [])))
        let w := nttInv (polySub az ct)
        (List.range 256).map (fun i => useHint ((hint.getD r []).contains i) (w.getD i 0)))
      z.all (fun p => p.all (fun x => decide (x.natAbs < 524288 - 196))) && sub sig 0 48 == shake256 (mu ++ w1Encode w1) 48

end Sys2Proof.Machine
end

