-- ==== Sys2Proof/Config.lean ====
section
/-! DEFINITION. What one part fixes and the manual does not publish, and the values the manual leaves open. Every one is an
opaque constant: no proof can see what it is, so a claim holds whatever it is. -/

namespace Sys2Proof.Config

/-- The free value handed out under a counter (log 6): a number nothing constrains. -/
opaque freeNat : Nat → Nat

/-- The free byte string handed out under a counter, by index (log 6). -/
opaque freeByte : Nat → Nat → Byte

/-- Whether what is written through the bypass alias to a line that the MC holds survives in HBM (R148, R587, log 11): free values handed
out so far, array time, line, bytes. -/
opaque bypassLands : Nat → Nat → Nat → Bytes → Bool

/-- The ledger signer's P-384 signature of a message; the counter is its nonce (R95, R96, R101). -/
opaque ecdsaSign : Nat → Bytes → Bytes

/-- The ledger signer's ML-DSA-65 signature of a message (R101). -/
opaque mldsaSign : Nat → Bytes → Bytes

/-- SHA-384 of the Yildom release keys, held in boot ROM (R75). -/
opaque yildomKeyDigest : Bytes

/-- SHA-384 of the boot ROM (R101). -/
opaque romDigest : Bytes

/-- The part's identity public keys: the uncompressed P-384 point and the ML-DSA-65 key (R95, R98). -/
opaque ecPub : Bytes
opaque mldsaPub : Bytes

/-- Root and intermediate certificates of the two chains, in boot ROM, the same for every part (R97). -/
opaque rootEc : Bytes
opaque rootMldsa : Bytes
opaque caEc : Bytes
opaque caMldsa : Bytes

/-- The part's leaf certificates before and after the subject serial number (R97, R98). -/
opaque leafEcHead : Bytes
opaque leafEcTail : Bytes
opaque leafMldsaHead : Bytes
opaque leafMldsaTail : Bytes

/-- The signer's signature of an SPDM response under SPDM's signing context (R96, R113); the counter is its nonce. -/
opaque spdmSign : Nat → Bytes → Bytes

/-- The signature and certificate-chain check of a record another part made (R110). -/
opaque recordGenuine : Bytes → Bool

/-- The VDD_CORE target in mV of the fused voltage-frequency table at a temperature in tenths of a degree (R603). -/
opaque avsTable : Int → Nat

/-- Yildom's IANA enterprise number (R558) and JEDEC manufacturer identity (R563). -/
opaque ianaNumber : Nat
opaque jedecId : Nat

/-- The token choice of the part's PF1 encoder for a class and a unit (R283, R284): one byte string per token. -/
opaque pressTokens : Bool → Bytes → List Bytes

/-- The wrapping secret fused into OTP at test, 32 bytes, which DIE_KEK holds (R308). -/
opaque dieKek : Bytes

/-- The number of a MANAGER record's kind (R388), by the kind's place in MgrRec: the manual numbers none (log 57). -/
opaque mgrKind : Nat → Nat

/-- The bytes of a MANAGER record after its kind (R388): its formats are not all given (log 57). -/
opaque mgrBytes : MgrRec → Bytes

/-- The TAG that a head gives a Seam request (R386), by the numbers that name it: the requester's own choice (log 114). -/
opaque seamTag : List Nat → Nat

/-- The submission entries and the completion entry that a Seam message carries (R387): of a command the model keeps what it says, and of its
entry's 64 bytes, as of a completion entry's 16, not more (log 114). -/
opaque fwdEntry : CmdId → FwdOp → Bytes
opaque adminEntry : CmdId → AdminOp → Bytes
opaque readEntry : CmdId → Nat → Nat → Nat → Bytes
opaque cplEntry : CmdId → NvmeSt → Nat → Bytes

/-- Default value of an NVMe feature, by feature identifier, where the manual gives none (R186). -/
opaque featDefault : Nat → Nat

/-- The bytes of a Hem record whose layout the manual does not give (R157, R158): class number, its content as numbers (log 87). -/
opaque hemRecord : Nat → List Nat → Bytes

/-- Offset of the range record in the write-buffer region, by first SSN (R333): the firmware's own, which the manual does not give. -/
opaque rangeRecord : Nat → Nat

/-- The host identifier that a head knows for a controller of the other head (R192, log 89). -/
opaque peerHost : Nat → Nat

end Sys2Proof.Config
end

