-- ==== Sys2Proof/Machine/Crc.lean ====
section
/-! DEFINITION. The cyclic checks the spec names: CRC-32C (R67, R153, R280 and others) and the NVMe 64b Guard CRC-64
(R330, R383, R419, R497). The polynomials are the named standards' own. PRESUMED (log 20): the spec names them only. -/

namespace Sys2Proof.Machine

/-- One bit of a reflected CRC with polynomial `poly`. -/
def crcBit (poly r : Nat) : Nat := if r % 2 = 1 then Nat.xor (r / 2) poly else r / 2

/-- One byte of a reflected CRC. -/
def crcByte (poly r : Nat) (b : Byte) : Nat :=
  let r0 := Nat.xor r b.toNat
  crcBit poly (crcBit poly (crcBit poly (crcBit poly (crcBit poly (crcBit poly (crcBit poly (crcBit poly r0)))))))

/-- CRC-32C (Castagnoli) of a byte string. -/
def crc32c (bs : Bytes) : Nat := Nat.xor (bs.foldl (crcByte 0x82F63B78) 0xFFFFFFFF) 0xFFFFFFFF

/-- CRC-64 of the NVMe 64b Guard. -/
def crc64 (bs : Bytes) : Nat :=
  Nat.xor (bs.foldl (crcByte 0x9A6C9329AC4BC9B5) 0xFFFFFFFFFFFFFFFF) 0xFFFFFFFFFFFFFFFF

end Sys2Proof.Machine
end

