-- ==== Sys2Proof/Machine/Codes.lean ====
section
/-! DEFINITION. Every status, event and alarm code, under the name the spec gives it (R11 to R14, R548). The three spaces are
separate: one number may be a status, an event and an alarm. -/

namespace Sys2Proof.Machine

/-! ### Status codes -/

/-- R78 step 1. -/
abbrev ST_BOOT_HEADER_BAD : Nat := 0x0E01
/-- R78 step 2. -/
abbrev ST_BOOT_MANIFEST_BAD : Nat := 0x0E02
/-- R78 step 3. -/
abbrev ST_BOOT_SIG_YILDOM : Nat := 0x0E03
/-- R78 step 4. -/
abbrev ST_BOOT_SIG_OWNER : Nat := 0x0E04
/-- R78 step 5. -/
abbrev ST_BOOT_DIGEST : Nat := 0x0E05
/-- R78 step 6. -/
abbrev ST_BOOT_ROLLBACK : Nat := 0x0E06
/-- R78 step 7. -/
abbrev ST_BOOT_ROLE : Nat := 0x0E07
/-- R79. -/
abbrev ST_BOOT_SCHEMA : Nat := 0x0E08
/-- R82. -/
abbrev ST_BOOT_TRIAL_EXHAUSTED : Nat := 0x0E09
/-- R89. -/
abbrev ST_BOOT_RESTART_REFUSED : Nat := 0x0E0A
/-- Descriptor unfetched when its ring or block was disabled (R129). -/
abbrev ST_ENGINE_CANCELLED : Nat := 0x1301
/-- Ring full at DPOST. -/
abbrev ST_ENGINE_RING_FULL : Nat := 0x1302
/-- Ring disabled at DPOST. -/
abbrev ST_ENGINE_RING_OFF : Nat := 0x1303
/-- Descriptor named an address not reachable by DMA (R126). -/
abbrev ST_ENGINE_ADDR_FAULT : Nat := 0x1304
/-- Descriptor BLOCK differs from its ring's TARGET block, or its OPCODE is undefined where the block names no status of its own (R130). -/
abbrev ST_ENGINE_HEADER : Nat := 0x1305
/-- Command slot busy (R144). -/
abbrev ST_MC_BUSY : Nat := 0x0F01
/-- Enable without a prior INV_ALL (R146). -/
abbrev ST_MC_NOT_INVALIDATED : Nat := 0x0F02
/-- Locked fill found no way (R143). -/
abbrev ST_MC_LOCK_LIMIT : Nat := 0x0F03
/-- Descriptor read a poisoned HBM word (R134). -/
abbrev ST_MC_POISON : Nat := 0x0F04
/-- Descriptor read a unit failing CRC (R155). -/
abbrev ST_HEM_CRC : Nat := 0x0201
/-- Stream ended before DECL_LEN (R248). -/
abbrev ST_DIGEST_LEN_SHORT : Nat := 0x0301
/-- Stream exceeded DECL_LEN (R248). -/
abbrev ST_DIGEST_LEN_LONG : Nat := 0x0302
/-- Named HMAC slot empty (R250). -/
abbrev ST_DIGEST_SLOT_EMPTY : Nat := 0x0303
/-- COMPARE found a different result (R246). -/
abbrev ST_DIGEST_MISMATCH : Nat := 0x0304
/-- Index outside the named region (R255). -/
abbrev ST_MATCH_INDEX_RANGE : Nat := 0x0401
/-- Region not valid (R255). -/
abbrev ST_MATCH_REGION_OFF : Nat := 0x0402
/-- ORIG_LEN exceeds the output limit (R291). -/
abbrev ST_PRESS_LIMIT : Nat := 0x0501
/-- Stream-class output space exhausted on a resumable channel (R286). -/
abbrev ST_PRESS_OUT_FULL : Nat := 0x0502
/-- Output space exhausted on a whole-job channel (R289). -/
abbrev ST_PRESS_OVERFLOW : Nat := 0x0503
/-- Data-class output not smaller than DST_LEN (R285). -/
abbrev ST_PRESS_NO_GAIN : Nat := 0x0504
/-- Invalid header or token stream, or length not as expected (R291). -/
abbrev ST_PRESS_FORMAT : Nat := 0x0505
/-- Output CRC-32C differs from CHECK (R291). -/
abbrev ST_PRESS_CHECK : Nat := 0x0506
/-- Source shorter than its tokens (R291). -/
abbrev ST_PRESS_LEN_SHORT : Nat := 0x0507
/-- Source longer than its padded stream (R291). -/
abbrev ST_PRESS_LEN_LONG : Nat := 0x0508
/-- RESUME on a channel not SUSPENDED (R288). -/
abbrev ST_PRESS_NO_STATE : Nat := 0x0509
/-- Descriptor field outside the limits of R273 or R279. -/
abbrev ST_PRESS_FIELD : Nat := 0x050A
/-- Compress lane's check decoder disagreed, or a decompress lane reported a fatal error (R290). -/
abbrev ST_PRESS_SELF_CHECK : Nat := 0x050B
/-- Named slot EMPTY (R302, R310). -/
abbrev ST_CIPHER_SLOT_EMPTY : Nat := 0x0601
/-- Type, use or length does not suit the operation (R302). -/
abbrev ST_CIPHER_KEY_TYPE : Nat := 0x0602
/-- TARGET not EMPTY (R302). -/
abbrev ST_CIPHER_SLOT_BUSY : Nat := 0x0603
/-- KW integrity check failed (R307). -/
abbrev ST_CIPHER_UNWRAP_FAIL : Nat := 0x0604
/-- GCM tag mismatch (R304). -/
abbrev ST_CIPHER_TAG : Nat := 0x0605
/-- Pair check failed (R297). -/
abbrev ST_CIPHER_PAIR_MISMATCH : Nat := 0x0606
/-- Stream ended before DECL_LEN (R306). -/
abbrev ST_CIPHER_LEN_SHORT : Nat := 0x0607
/-- Stream exceeded DECL_LEN (R306). -/
abbrev ST_CIPHER_LEN_LONG : Nat := 0x0608
/-- Descriptor field outside its limits (R302). -/
abbrev ST_CIPHER_FIELD : Nat := 0x0609
/-- Entropy health tests failing (R309). -/
abbrev ST_CIPHER_DRBG : Nat := 0x060A
/-- Request outside the limits of R351. -/
abbrev ST_PARITY_FIELD : Nat := 0x0701
/-- CHECK found a difference (R351). -/
abbrev ST_PARITY_MISMATCH : Nat := 0x0702
/-- Lease move asked of the co-head (R409). -/
abbrev ST_SEAM_NOT_MANAGER : Nat := 0x0C01
/-- Lease move to a head not in service (R409). -/
abbrev ST_SEAM_PEER_NOT_READY : Nat := 0x0C02
/-- Write without a current grant, or from a FENCED head (R427). -/
abbrev ST_SPOKE_NO_GRANT : Nat := 0x0801
/-- Stream generation below the record's (R427). -/
abbrev ST_SPOKE_GEN_STALE : Nat := 0x0802
/-- Check field or packed-strip check failed (R426, R427). -/
abbrev ST_SPOKE_CHECK : Nat := 0x0803
/-- CLOSE names an image not held (R426). -/
abbrev ST_SPOKE_CLOSE_GAP : Nat := 0x0804
/-- Read of a strip not stored (R428). -/
abbrev ST_SPOKE_NOT_STORED : Nat := 0x0805
/-- Unknown opcode or wrong payload length (R420). -/
abbrev ST_SPOKE_FIELD : Nat := 0x0806
/-- Lease frame with another ARRAY_ID (R432). -/
abbrev ST_SPOKE_ARRAY_ID : Nat := 0x0807
/-- Lease frame from a FENCED head (R432). -/
abbrev ST_SPOKE_FENCED : Nat := 0x0808
/-- LEASE_GEN below the record's (R432). -/
abbrev ST_SPOKE_LEASE_STALE : Nat := 0x0809
/-- SEND on a port that is down (R433). -/
abbrev ST_SPOKE_LINK_DOWN : Nat := 0x080A
/-- Write refused in READ_ONLY (R464). -/
abbrev ST_FTL_SHELF_FULL : Nat := 0x0A01
/-- No PLB room (R452). -/
abbrev ST_FTL_BUFFER_FULL : Nat := 0x0A02
/-- Clearing copy's target failed (R461). -/
abbrev ST_FTL_COPY_RETARGET : Nat := 0x0A03
/-- Die reported program failure (R491). -/
abbrev ST_FLASH_PROG_FAIL : Nat := 0x0901
/-- Die reported erase failure. -/
abbrev ST_FLASH_ERASE_FAIL : Nat := 0x0902
/-- A sector failed to decode or read erased (R489). -/
abbrev ST_FLASH_UNCORR : Nat := 0x0903
/-- Every requested sector or plane erased (R489). -/
abbrev ST_FLASH_ERASED : Nat := 0x0904
/-- Block's erase is suspended (R489, R493). -/
abbrev ST_FLASH_BLOCK_ERASING : Nat := 0x0905
/-- Decoded sector failed a check (R498). -/
abbrev ST_FLASH_CHECK : Nat := 0x0906
/-- CRC-64 differs from the data (R497). -/
abbrev ST_FLASH_CHECK_WRITE : Nat := 0x0907
/-- Operation exceeded twice its profile time; die reset. -/
abbrev ST_FLASH_TIMEOUT : Nat := 0x0908
/-- Nothing to suspend or resume (R493). -/
abbrev ST_FLASH_NO_ERASE : Nat := 0x0909
/-- Queued at POWER_FAIL_N (R500). -/
abbrev ST_FLASH_POWER_FAIL : Nat := 0x090A
/-- LUN queue full (R485). -/
abbrev ST_FLASH_QUEUE_FULL : Nat := 0x090B
/-- Channel not enabled (R485, R499). -/
abbrev ST_FLASH_CHANNEL_OFF : Nat := 0x090C
/-- Die absent (R485). -/
abbrev ST_FLASH_NO_DIE : Nat := 0x090D
/-- Retries exhausted (R512). -/
abbrev ST_RDMA_RETRY_EXCEEDED : Nat := 0x0B01
/-- Data exceeded its declared length (R515). -/
abbrev ST_RDMA_LEN_LONG : Nat := 0x0B02
/-- Data fell short of its declared length (R515). -/
abbrev ST_RDMA_LEN_SHORT : Nat := 0x0B03
/-- NAK Invalid Request or Remote Access Error received. -/
abbrev ST_RDMA_REMOTE_ERROR : Nat := 0x0B04
/-- Outstanding work on a QP in error. -/
abbrev ST_RDMA_FLUSHED : Nat := 0x0B05
/-- Operation not allowed on a spray QP (R519). -/
abbrev ST_RDMA_SPRAY_OP : Nat := 0x0B06

/-! ### Event codes -/

/-- Head entered LOCKED. -/
abbrev EV_EPOCH_REF_ACQUIRED : Nat := 0x0101
/-- A slew reached its target. -/
abbrev EV_EPOCH_SLEW_DONE : Nat := 0x0102
/-- An activity was deferred by R54. -/
abbrev EV_EPOCH_SLICE_DEFERRED : Nat := 0x0103
/-- Shelf saw the other head's mark beyond the threshold (R50). -/
abbrev EV_EPOCH_MARK_SKEW : Nat := 0x0104
/-- A lower-ranked copy was booted. -/
abbrev EV_BOOT_COPY_FALLBACK : Nat := 0x0E01
/-- Part reached READY. -/
abbrev EV_BOOT_READY : Nat := 0x0E02
/-- Rollback floor raised (R88). -/
abbrev EV_BOOT_FLOOR_RAISED : Nat := 0x0E03
/-- Store to a sequencer from outside the flash-ROM range (R121). -/
abbrev EV_ENGINE_SEQ_WRITE_BLOCKED : Nat := 0x1301
/-- Single-bit error corrected in HBM or the MC. -/
abbrev EV_MC_CORRECTED : Nat := 0x0F01
/-- A unit failed CRC. -/
abbrev EV_HEM_CRC : Nat := 0x0201
/-- INGEST granted less than its demand (R167). -/
abbrev EV_HEM_ADMIT_THROTTLED : Nat := 0x0202
/-- Uncommitted record discarded (R160). -/
abbrev EV_HEM_TORN : Nat := 0x0203
/-- Hem reinitialised (R159). -/
abbrev EV_HEM_REINIT : Nat := 0x0204
/-- An RDMA association ended by disconnect or keep-alive expiry (R180). -/
abbrev EV_NVME_ASSOC_END : Nat := 0x0D01
/-- A Firmware Commit wrote a slot (R199). -/
abbrev EV_NVME_FW_COMMITTED : Nat := 0x0D02
/-- NVM Subsystem Reset ignored because the peer is not in service (R200). -/
abbrev EV_NVME_RESTART_REFUSED : Nat := 0x0D03
/-- The head's effective power state changed (R195). -/
abbrev EV_NVME_PS_CHANGE : Nat := 0x0D04
/-- A request was preempted (R249). -/
abbrev EV_DIGEST_PREEMPT : Nat := 0x0301
/-- Key matched, verify failed (R253). -/
abbrev EV_MATCH_FALSE_HIT : Nat := 0x0401
/-- Uncorrectable verify record; entry invalidated (R253). -/
abbrev EV_MATCH_VERIFY_ECC : Nat := 0x0402
/-- Mirrored copies disagreed (R254). -/
abbrev EV_MATCH_MIRROR_DIFF : Nat := 0x0403
/-- Shard insert dropped (R265). -/
abbrev EV_MATCH_INSERT_DROPPED : Nat := 0x0404
/-- Shelf shard rebuild completed (R266). -/
abbrev EV_MATCH_SHARD_READY : Nat := 0x0405
/-- A SUSPENDED channel's state was discarded by a COMPRESS (R288). -/
abbrev EV_PRESS_STATE_DISCARDED : Nat := 0x0501
/-- A GCM request was preempted (R300). -/
abbrev EV_CIPHER_PREEMPT : Nat := 0x0601
/-- A slot was zeroed after revocation (R310). -/
abbrev EV_CIPHER_KEY_REVOKED : Nat := 0x0602
/-- A crypto-erase completed (R317). -/
abbrev EV_CIPHER_DOMAIN_ERASED : Nat := 0x0603
/-- FAIL recorded (R361). -/
abbrev EV_STRIPE_MEMBER_FAILED : Nat := 0x1101
/-- No MISSING member remains (R365). -/
abbrev EV_STRIPE_DARN_DONE : Nat := 0x1102
/-- A stripe was marked LOST (R367). -/
abbrev EV_STRIPE_LOST : Nat := 0x1103
/-- REFOLD_DONE recorded (R374). -/
abbrev EV_STRIPE_REFOLD_DONE : Nat := 0x1104
/-- Rinse rewrote a member (R376). -/
abbrev EV_STRIPE_RINSE_REPAIR : Nat := 0x1105
/-- An open stripe was closed at recovery (R355). -/
abbrev EV_STRIPE_RECOVERED_CLOSE : Nat := 0x1106
/-- A read-only shelf holds no strip (R368). -/
abbrev EV_STRIPE_EVACUATED : Nat := 0x1107
/-- A lane was retired (R384). -/
abbrev EV_SEAM_LANE_DOWN : Nat := 0x0C01
/-- Both copies passed, digests differed (R394). -/
abbrev EV_SEAM_DIGEST_DIFF : Nat := 0x0C02
/-- A copy failed its check field (R394). -/
abbrev EV_SEAM_CHECK_FAIL : Nat := 0x0C03
/-- Survivor admitted the lost group (R405). -/
abbrev EV_SEAM_TAKEOVER : Nat := 0x0C04
/-- Handback took effect (R408). -/
abbrev EV_SEAM_HANDBACK : Nat := 0x0C05
/-- Manager lease moved (R409). -/
abbrev EV_SEAM_LEASE_MOVED : Nat := 0x0C06
/-- A rejoining head entered service (R407). -/
abbrev EV_SEAM_REJOINED : Nat := 0x0C07
/-- A section or message was requested again, or discarded (R387, R391). -/
abbrev EV_SEAM_RESEND : Nat := 0x0C08
/-- Frame discarded (R421). -/
abbrev EV_SPOKE_FRAME_BAD : Nat := 0x0801
/-- Port retrained (R433). -/
abbrev EV_SPOKE_RETRAIN : Nat := 0x0802
/-- Resend on timeout (R423). -/
abbrev EV_SPOKE_REPLAY : Nat := 0x0803
/-- Resent tag with a different digest (R427). -/
abbrev EV_SPOKE_TAG_REUSE : Nat := 0x0804
/-- Block marked GROWN_BAD (R461, R463). -/
abbrev EV_FTL_GROWN_BAD : Nat := 0x0A01
/-- Power-safe item dropped at recovery (R468). -/
abbrev EV_FTL_ITEM_LOST : Nat := 0x0A02
/-- Page not applied at tag scan (R467). -/
abbrev EV_FTL_PARTIAL_PAGE : Nat := 0x0A03
/-- Dump completed (R453). -/
abbrev EV_FTL_DUMP_DONE : Nat := 0x0A04
/-- RECOVERY stage completed (R466). -/
abbrev EV_FTL_RECOVERED : Nat := 0x0A05
/-- A read needed soft decoding (R490). -/
abbrev EV_FLASH_SOFT_DECODE : Nat := 0x0901
/-- A die was reset after a timeout. -/
abbrev EV_FLASH_DIE_RESET : Nat := 0x0902
/-- Link up (R517). -/
abbrev EV_RDMA_PORT_UP : Nat := 0x0B01
/-- Link down (R517). -/
abbrev EV_RDMA_PORT_DOWN : Nat := 0x0B02
/-- QP entered error (R517). -/
abbrev EV_RDMA_QP_FATAL : Nat := 0x0B03
/-- Packet dropped at a full quota on a priority without PFC (R511). -/
abbrev EV_RDMA_PARK_DROP : Nat := 0x0B04
/-- Packet beyond the spray window (R522). -/
abbrev EV_RDMA_SPRAY_WINDOW_DROP : Nat := 0x0B05
/-- Session established (R530). -/
abbrev EV_REPL_SESSION_UP : Nat := 0x1201
/-- Duplicate or stale message discarded (R530, R537). -/
abbrev EV_REPL_DUP_DISCARD : Nat := 0x1202
/-- Key generation changed (R527). -/
abbrev EV_REPL_REKEY : Nat := 0x1203
/-- Replica point applied (R534). -/
abbrev EV_REPL_POINT : Nat := 0x1204
/-- RESYNC applied (R536). -/
abbrev EV_REPL_RESYNC_DONE : Nat := 0x1205
/-- POWER_FAIL_N took effect (R611). -/
abbrev EV_POWER_PF_ASSERT : Nat := 0x1001
/-- POWER_FAIL_N released with rails within tolerance (R611). -/
abbrev EV_POWER_PF_RELEASE : Nat := 0x1002
/-- Throttling began or ended (R610, R623). -/
abbrev EV_POWER_THROTTLE : Nat := 0x1003
/-- A domain was switched (R608). -/
abbrev EV_POWER_DOMAIN : Nat := 0x1004

/-! ### Alarm codes -/

/-- Own reference faulty (R35). -/
abbrev AL_EPOCH_REF_LOST : Nat := 0x0101
/-- Array quality FREE_RUN. -/
abbrev AL_EPOCH_FREE_RUN : Nat := 0x0102
/-- Skew beyond threshold (R47). -/
abbrev AL_EPOCH_SKEW : Nat := 0x0103
/-- Epoch length or origin differs from the peer's (R38). -/
abbrev AL_EPOCH_CONFIG_MISMATCH : Nat := 0x0104
/-- Derived EPN not above the recorded EPN (R39). -/
abbrev AL_EPOCH_BACKWARD : Nat := 0x0105
/-- Shelf without marks for 1 s (R51). -/
abbrev AL_EPOCH_MARK_LOSS : Nat := 0x0106
/-- Replay-compatibility identifier differs from the peer's (R58). -/
abbrev AL_EPOCH_REPLAY_ID : Nat := 0x0107
/-- Recovery mode (R83). -/
abbrev AL_BOOT_NO_IMAGE : Nat := 0x0E01
/-- Trial exhausted (R82). -/
abbrev AL_BOOT_TRIAL_FAILED : Nat := 0x0E02
/-- Array identifier differs (R86). -/
abbrev AL_BOOT_ARRAY_ID : Nat := 0x0E03
/-- VPP_OTP absent (R88). -/
abbrev AL_BOOT_FLOOR_DEFERRED : Nat := 0x0E04
/-- Barrier not completed in time (R91). -/
abbrev AL_BOOT_BARRIER_ABORT : Nat := 0x0E05
/-- An engine took an exception that the firmware does not expect; the engine is parked. -/
abbrev AL_ENGINE_TRAP : Nat := 0x1301
/-- Uncorrectable HBM word poisoned. -/
abbrev AL_MC_HBM_UNCORR : Nat := 0x0F01
/-- Stack failed training or reported a fatal error (R135). -/
abbrev AL_MC_HBM_STACK_FAIL : Nat := 0x0F02
/-- A committed record failed CRC. -/
abbrev AL_HEM_CRC : Nat := 0x0201
/-- Free units below the low water (R167). -/
abbrev AL_HEM_CREDIT_LOW : Nat := 0x0202
/-- No INGEST credits (R167). -/
abbrev AL_HEM_ADMIT_STALL : Nat := 0x0203
/-- HP trained below `pcie.max_gen` or `pcie.max_width`, or is down after training once. -/
abbrev AL_NVME_LINK_DEGRADED : Nat := 0x0D01
/-- A pipe failed its known-answer test (R269). -/
abbrev AL_DIGEST_PIPE_FAULT : Nat := 0x0301
/-- A Match Array half reported a fatal error (R257). -/
abbrev AL_MATCH_HALF_FAIL : Nat := 0x0401
/-- A lane failed its self-check or known-answer test, or reported a fatal error (R290). -/
abbrev AL_PRESS_LANE_FAULT : Nat := 0x0501
/-- A pair failed its check or known-answer test (R297). -/
abbrev AL_CIPHER_PAIR_FAULT : Nat := 0x0601
/-- KEK envelope missing or not unwrappable (R315). -/
abbrev AL_CIPHER_ENVELOPE : Nat := 0x0602
/-- Crypto-erase not complete in time (R317). -/
abbrev AL_CIPHER_PURGE_LATE : Nat := 0x0603
/-- Entropy health tests failing (R309). -/
abbrev AL_CIPHER_DRBG : Nat := 0x0604
/-- Known-answer test failed (R379). -/
abbrev AL_PARITY_KAT_FAIL : Nat := 0x0701
/-- A stripe has a MISSING member (R361). -/
abbrev AL_STRIPE_DEGRADED : Nat := 0x1101
/-- A stripe is LOST (R367). -/
abbrev AL_STRIPE_LOST : Nat := 0x1102
/-- Available Spare below `glade.warn_pct` (R359). -/
abbrev AL_STRIPE_GLADE_LOW : Nat := 0x1103
/-- No eligible replacement or target (R356, R366). -/
abbrev AL_STRIPE_NO_SPARE : Nat := 0x1104
/-- Fewer than m+4 shelves accept new strips (R357). -/
abbrev AL_STRIPE_FULL : Nat := 0x1105
/-- Mismatch not attributable to one member (R376). -/
abbrev AL_STRIPE_RINSE_UNRESOLVED : Nat := 0x1106
/-- Path A silent, path B heard (R398). -/
abbrev AL_SEAM_LINK_DOWN : Nat := 0x0C01
/-- Path B silent (R398). -/
abbrev AL_SEAM_PATH_B_LOST : Nat := 0x0C02
/-- Both paths silent (R398). -/
abbrev AL_SEAM_PEER_LOST : Nat := 0x0C03
/-- A head reached the suspect limit (R395). -/
abbrev AL_SEAM_SUSPECT : Nat := 0x0C04
/-- A section failed its checks twice (R391). -/
abbrev AL_SEAM_BUNDLE_BAD : Nat := 0x0C05
/-- Replayed batch differs from the owner's (R392). -/
abbrev AL_SEAM_REPLAY_DIVERGE : Nat := 0x0C06
/-- Grants at no majority (R402). -/
abbrev AL_SEAM_LEASE_LOST : Nat := 0x0C07
/-- Recovery without a Hem (R411). -/
abbrev AL_SEAM_HEM_LOST : Nat := 0x0C08
/-- Shelf site N or above (R418). -/
abbrev AL_SPOKE_SITE_RANGE : Nat := 0x0801
/-- Identity check failed (R418). -/
abbrev AL_SPOKE_MISWIRE : Nat := 0x0802
/-- Head's link to a shelf down (R433). -/
abbrev AL_SPOKE_LINK_DOWN : Nat := 0x0803
/-- Shelf port down beyond `spoke.port_fail_ms` (R434). -/
abbrev AL_SPOKE_PORT_DOWN : Nat := 0x0804
/-- READ_ONLY entered (R464). -/
abbrev AL_FTL_READ_ONLY : Nat := 0x0A01
/-- Spare pool empty (R461). -/
abbrev AL_FTL_CLEARING_PAUSED : Nat := 0x0A02
/-- Dump missing at recovery (R468). -/
abbrev AL_FTL_DUMP_INCOMPLETE : Nat := 0x0A03
/-- Spare below threshold (R470). -/
abbrev AL_FTL_SPARE_LOW : Nat := 0x0A04
/-- Raw capacity below 32 TB (R441). -/
abbrev AL_FTL_TOO_SMALL : Nat := 0x0A05
/-- NAND temperature above threshold (R470). -/
abbrev AL_FTL_TEMP : Nat := 0x0A06
/-- Dies match no single profile entry (R476). -/
abbrev AL_FLASH_PROFILE_MISSING : Nat := 0x0901
/-- Channel below its profile rate (R476). -/
abbrev AL_FLASH_CHANNEL_DEGRADED : Nat := 0x0902
/-- Die unresponsive or missing (R477). -/
abbrev AL_FLASH_DIE_FAIL : Nat := 0x0903
/-- No die of a channel answers (R476, R477). -/
abbrev AL_FLASH_CHANNEL_FAULT : Nat := 0x0904
/-- Enabled port down for 1 s (R506, R517). -/
abbrev AL_RDMA_PORT_DOWN : Nat := 0x0B01
/-- Engine fatal error (R517). -/
abbrev AL_RDMA_DEVICE_FATAL : Nat := 0x0B02
/-- No session (R540). -/
abbrev AL_REPL_DOWN : Nat := 0x1201
/-- Replication behind (R540). -/
abbrev AL_REPL_LAG : Nat := 0x1202
/-- Synchronous mode degraded (R535). -/
abbrev AL_REPL_SYNC_LOST : Nat := 0x1203
/-- Conflicting message or content (R532, R537). -/
abbrev AL_REPL_DIVERGE : Nat := 0x1204
/-- Partner refused or unsuited (R530). -/
abbrev AL_REPL_PARTNER_MISMATCH : Nat := 0x1205
/-- A rail left its window (R604). -/
abbrev AL_POWER_RAIL : Nat := 0x1001
/-- The last power-down was not covered (R614). -/
abbrev AL_POWER_HOLDUP : Nat := 0x1002
/-- Warning threshold reached (R623). -/
abbrev AL_POWER_THERM_WARN : Nat := 0x1003
/-- Critical threshold reached (R623). -/
abbrev AL_POWER_THERM_CRIT : Nat := 0x1004
/-- Cap exceeded for 1 s (R610). -/
abbrev AL_POWER_BUDGET : Nat := 0x1005
/-- Clock input absent or off frequency (R617). -/
abbrev AL_POWER_CLOCK : Nat := 0x1006
/-- The previous run ended in a thermal trip (R624). -/
abbrev AL_POWER_THERMTRIP : Nat := 0x1007

end Sys2Proof.Machine
end

