-- ==== Sys2Proof/Machine/Events.lean ====
section
/-! DEFINITION. The event store and the alarm table as operations on their own state (R549 to R554). -/

namespace Sys2Proof.Machine

/-- Records of 64 bytes the ring holds (R551). -/
def ringCap : Nat := 4177920

/-- Occupancy at which traces stop and the notice is sent, and below which traces resume (R554). -/
def ringHigh : Nat := 3760128
def ringLow : Nat := 3342336

/-- Ring records whose SEQ is above READ_MARK (R554). -/
def EvSt.occupancy (e : EvSt) : Nat := (e.ring.filter (fun r => decide (e.readMark < r.seq))).length

/-- Remove the first record a test accepts. -/
def dropFirst (p : EvRec → Bool) : List EvRec → List EvRec
  | [] => []
  | r :: rs => if p r then rs else r :: dropFirst p rs

/-- The record a full ring gives up (R554): the oldest not of KIND 4 while KIND 4 fills at most 1/16, else the oldest. -/
def EvSt.victim (e : EvSt) : Option EvRec :=
  if (e.ring.filter (·.kind == 4)).length * 16 ≤ ringCap then
    match e.ring.find? (·.kind != 4) with
    | some r => some r
    | none => e.ring.head?
  else e.ring.head?

/-- Overwrite one record of a full ring: one overwritten before it was read counts in DROPPED and as a loss (R553, R554). -/
def EvSt.overwrite (e : EvSt) : EvSt :=
  match e.victim with
  | none => e
  | some v =>
    let e1 := { e with ring := dropFirst (fun r => r.seq == v.seq) e.ring }
    if e.readMark < v.seq then
      { e1 with
        summary := SMap.modify e1.summary v.code (fun m => { m with dropped := m.dropped + v.count })
        losses := SMap.set e1.losses v.code (SMap.getD e1.losses v.code 0 + 1) }
    else e1

/-- Append a record under the next SEQ. -/
def EvSt.append (e : EvSt) (r : EvRec) : EvSt :=
  let e1 := if e.ring.length < ringCap then e else e.overwrite
  let e2 := { e1 with ring := e1.ring ++ [{ r with seq := e1.lastSeq + 1 }], lastSeq := e1.lastSeq + 1 }
  { e2 with tracesStopped := e2.tracesStopped || decide (ringHigh ≤ e2.occupancy) }

/-- Fold an occurrence into a record (R552). -/
def EvRec.again (r : EvRec) (t : Nat) : EvRec :=
  { r with count := satInc 16 r.count, lastT := t, coalesced := true }

/-- The record of (code, source) young enough to take another occurrence (R552); deferrals are coalesced per activity (R54), which ARG
names (log 75). -/
def EvSt.young (e : EvSt) (code src : Nat) (arg : Bytes) (epn window : Nat) : Option EvRec :=
  e.ring.reverse.find? (fun r => r.kind == 1 && r.code == code && r.source == src && decide (epn < r.epn + window)
    && (code != EV_EPOCH_SLICE_DEFERRED || r.arg == padTo 20 arg))

/-- Count an occurrence in the summary (R553): `r` is the record that now holds it. -/
def EvSt.summarise (e : EvSt) (r : EvRec) : EvSt :=
  match SMap.get e.summary r.code with
  | none => { e with summary := SMap.set e.summary r.code ⟨r, r, 1, 0⟩ }
  | some m =>
    let m' := { m with first := if m.first.seq = r.seq then r else m.first, newest := r, total := m.total + 1 }
    { e with summary := SMap.set e.summary r.code m' }

/-- One occurrence of an event (R552). -/
def EvSt.event (e : EvSt) (code src : Nat) (arg : Bytes) (t epn window : Nat) : EvSt :=
  match e.young code src arg epn window with
  | some r =>
    let r' := r.again t
    EvSt.summarise { e with ring := e.ring.map (fun x => if x.seq = r.seq then r' else x) } r'
  | none =>
    let e1 := e.append ⟨code, src, 1, false, false, 1, 0, t, t, epn, padTo 20 arg⟩
    EvSt.summarise e1 ⟨code, src, 1, false, false, 1, e1.lastSeq, t, t, epn, padTo 20 arg⟩

/-- The record of an alarm transition, KIND 4 (R550). -/
def transRec (code src t epn : Nat) (clear : Bool) : EvRec := ⟨code, src, 4, false, clear, 1, 0, t, t, epn, zeros 20⟩

/-- Raise an alarm (R550); the Bool tells whether its STATE changed. -/
def EvSt.raise (e : EvSt) (code src t epn : Nat) : EvSt × Bool :=
  match e.alarms.find? (fun a => a.code == code && a.source == src) with
  | some a =>
    let upd (f : AlEntry → AlEntry) := e.alarms.map (fun x => if x.code = code ∧ x.source = src then f x else x)
    if a.raised then ({ e with alarms := upd (fun x => { x with count := satInc 32 x.count, lastT := t }) }, false)
    else
      let f := fun (x : AlEntry) => { x with raised := true, isNew := true, count := satInc 32 x.count, lastT := t }
      (EvSt.append { e with alarms := upd f } (transRec code src t epn false), true)
  | none =>
    (EvSt.append { e with alarms := e.alarms ++ [⟨code, src, true, true, 1, 0, t, t⟩] } (transRec code src t epn false), true)

/-- Clear an alarm (R550); the Bool tells whether its STATE changed. -/
def EvSt.clear (e : EvSt) (code src t epn : Nat) : EvSt × Bool :=
  if e.alarms.any (fun a => a.code == code && a.source == src && a.raised) then
    let f := fun (x : AlEntry) => { x with raised := false, isNew := true, clears := satInc 32 x.clears, lastT := t }
    let al := e.alarms.map (fun x => if x.code = code ∧ x.source = src then f x else x)
    (EvSt.append { e with alarms := al } (transRec code src t epn true), true)
  else (e, false)

/-- ALARM_ACK (R550): a CLEARED entry is removed, a RAISED one loses NEW. -/
def EvSt.ack (e : EvSt) (code src : Nat) : EvSt :=
  let kept := e.alarms.filter (fun a => !(a.code == code && a.source == src && !a.raised))
  { e with alarms := kept.map (fun a => if a.code = code ∧ a.source = src then { a with isNew := false } else a) }

/-- Whether an alarm is RAISED. -/
def EvSt.isRaised (e : EvSt) (code src : Nat) : Bool := e.alarms.any (fun a => a.code == code && a.source == src && a.raised)

/-- Move READ_MARK within its bounds (R554); traces resume below 80 %. -/
def EvSt.setMark (e : EvSt) (v : Nat) : EvSt :=
  let e1 := { e with readMark := max e.readMark (min v e.lastSeq) }
  if e1.occupancy < ringLow then { e1 with tracesStopped := false, noticed := false } else e1

/-- The loss records of phase 0 (R554): one of KIND 3 per code that lost records. -/
def EvSt.lossRecords (e : EvSt) (t epn : Nat) : EvSt :=
  e.losses.foldl (fun acc l => acc.append ⟨l.1, 0, 3, false, false, min l.2 65535, 0, t, t, epn, zeros 20⟩)
    { e with losses := [] }

/-- The 64 bytes of a record (R551). -/
def EvRec.bytes (r : EvRec) : Bytes :=
  let body := le 2 r.code ++ le 2 r.source ++ le 1 r.kind ++ le 1 (b2n r.coalesced + 2 * b2n r.clear) ++ le 2 r.count
    ++ le 8 r.seq ++ le 8 r.firstT ++ le 8 r.lastT ++ le 8 r.epn ++ padTo 20 r.arg
  body ++ le 4 (crc32c body)

/-- The 32 bytes of an alarm entry (R549). -/
def AlEntry.bytes (a : AlEntry) : Bytes :=
  le 2 a.code ++ le 2 a.source ++ le 1 (if a.raised then 1 else 2) ++ le 1 (b2n a.isNew) ++ zeros 2 ++ le 4 a.count
    ++ le 4 a.clears ++ le 8 a.firstT ++ le 8 a.lastT

/-- The index of an event code in the summary table (R553). -/
def sumIndex (code : Nat) : Nat := 256 * (code / 256 - 1) + code % 256

/-- The event code at an index of the summary table. -/
def codeOfIndex (i : Nat) : Nat := 256 * (i / 256 + 1) + i % 256

/-- The 192 bytes of the summary entry of a code (R553); zeros where the code has not occurred. -/
def EvSt.sumBytes (e : EvSt) (code : Nat) : Bytes :=
  match SMap.get e.summary code with
  | none => zeros 192
  | some m => m.first.bytes ++ m.newest.bytes ++ le 8 m.total ++ le 8 m.dropped ++ zeros 48

end Sys2Proof.Machine
end

