-- ==== Sys2Proof/Blocks/Accel.lean ====
section
/-! DEFINITION. State of the digest engine, the Match Array, the Press, the cipher engine and its keys, and the parity engine
(R241 to R320, R350, R351). Defaults are the reset values; a value marked with a log number is the model's. -/

namespace Sys2Proof.Machine

/-- An HMAC slot (R250): the hash it serves and the key bytes its two states follow from. -/
structure HmacSlot where
  alg : Nat
  key : Bytes
  deriving DecidableEq, Repr

/-- A load or a clear that waits for the boundary (R250): the slot's new content, none for a clear. -/
structure SlotChange where
  slot : Nat
  content : Option HmacSlot
  deriving DecidableEq, Repr

/-- The digest engine. -/
structure DigestSt where
  /-- DIGEST_STATUS.PIPE_OK, default 0 (R269). -/
  pipeOk : BitVec 4 := 0
  /-- HMAC slots by number; an unlisted one is empty (SLOT_STATE 0). -/
  slots : SMap HmacSlot := []
  changes : List SlotChange := []
  /-- Slots a clear took effect on: requests fetched afterwards complete as cancelled, until loaded again (R250). -/
  cleared : List Nat := []
  /-- The slot content each fetched request uses, fixed at its fetch, by job (R250). -/
  bound : SMap HmacSlot := []
  /-- Where each preempted request stands, by job: state words, bytes done since INIT, source bytes and tail blocks processed (R249). -/
  saved : SMap (List Nat × Nat × Nat × Nat) := []
  deriving DecidableEq, Repr

/-- An entry of the Match Array (R251): 144-bit key and care mask, 256-bit full key, 64-bit result, valid bit. -/
structure MEnt where
  key : BitVec 144 := 0
  mask : BitVec 144 := 0
  full : BitVec 256 := 0
  result : BitVec 64 := 0
  valid : Bool := false
  deriving DecidableEq, Repr

/-- A region of the table of R269. Its default is not stated: zero, DESIGN CHOICE (log 2). -/
structure Region where
  base : Nat := 0
  count : Nat := 0
  flags : Nat := 0
  vmask : BitVec 256 := 0
  deriving DecidableEq, Repr

/-- The Match Array (R251 to R259). -/
structure MatchSt where
  locked : Bool := false
  regions : List Region := List.replicate 16 {}
  /-- Entries by index; an unlisted one is invalid. -/
  ents : SMap MEnt := []
  /-- A half reported a fatal error (R257). -/
  fatal : List Bool := [false, false]
  falseHits : Nat := 0
  mirrorDiffs : Nat := 0
  /-- The firmware's cyclic cursors of hot regions 1 and 2 (R259). -/
  cursors : List Nat := [0, 0]
  /-- What must be rebuilt from its shadow before a command is admitted (R257). -/
  rebuild : Bool := false
  /-- The firmware's HBM shadow of the mirrored region (R254). -/
  shadow : SMap MEnt := []
  deriving DecidableEq, Repr

/-- A stopped stream-class sequence of a Press channel (R286, R287): the source and first destination, the tokens still to be
written, source bytes covered and the header that completes the stream. -/
structure PressSeq where
  src : Nat
  srcLen : Nat
  dst : Nat
  tokens : List Bytes
  covered : Nat
  header : Bytes
  deriving DecidableEq, Repr

/-- The Press (R272 to R294). -/
structure PressSt where
  /-- Lanes in service: 64 compress, 64 decompress (R294); no default is stated: zero, DESIGN CHOICE (log 2). -/
  clOk : BitVec 64 := 0
  dlOk : BitVec 64 := 0
  /-- SUSPENDED channels. -/
  seqs : SMap PressSeq := []
  /-- Channels whose state goes (R276) once the jobs below a number, fetched before, are done (R129). -/
  drops : List (Nat × Nat) := []
  selfChecks : Nat := 0
  formatErrs : Nat := 0
  /-- The channel each compress lane last served, for its rotation among 0 to 247 (R274); an unlisted lane begins at channel 0. -/
  lastServed : SMap Nat := []
  deriving DecidableEq, Repr

/-- A cipher key slot (R308, R319): STATE, TYPE, USE and the key. -/
structure KeySlot where
  /-- 0 EMPTY, 1 LOADED, 2 REVOKING. -/
  state : Nat := 0
  type : Nat := 0
  use : Nat := 0
  key : Bytes := []
  /-- A boundary has passed since the revocation: no new requests (R310). -/
  closed : Bool := false
  deriving DecidableEq, Repr

/-- A step of replay that waits for the exit from PS2 (R313). -/
inductive KeyStep where
  | unwrap (r : KeyRec)
  | erase (d g : Nat)
  | hmacLoad (d slot : Nat)
  | repl (g : Nat) (w0 w1 : Bytes)
  deriving DecidableEq, Repr

/-- A crypto-erase in progress (R317): domain, the new generation, its EPN, when it began, and what is still awaited. -/
structure Erase where
  domain : Nat
  gen : Nat
  epn : Nat
  started : Nat
  /-- Root record pages whose strips were purged: stripe, strip. -/
  purges : List (Nat × Nat) := []
  /-- The new record has gone to the partner. -/
  partner : Bool := false
  late : Bool := false
  /-- Pages and batches are flushed, and the older sections discarded. -/
  swept : Bool := false
  deriving DecidableEq, Repr

/-- The cipher engine and the keys (R296 to R319). -/
structure CipherSt where
  /-- PAIR_OK, default 0 (R319). -/
  pairOk : BitVec 16 := 0
  drbgOk : Bool := false
  mismatches : Nat := 0
  slots : SMap KeySlot := []
  /-- Ring entries, as ring and index, that a revocation found still queued at its boundary (R310). -/
  cancels : List (Nat × Nat) := []
  /-- The parameter block each preempted GCM request started from, by job (R300). -/
  saved : SMap Bytes := []
  /-- Domain key records held, newest per domain (R316), and the KEY_ID of the ARRAY_KEK. -/
  recs : SMap KeyRec := []
  kekId : Nat := 0
  partnerKekId : Nat := 0
  /-- Wrapped copies of slots 0 to 3,071 held in HBM during PS2 (R312): slot, type, use, wrapped bytes. -/
  ps2 : SMap (Nat × Nat × Bytes) := []
  steps : List KeyStep := []
  /-- Domains whose keys a manager in PS2 creates once it has left it (R313). -/
  keyWait : List Nat := []
  erases : List Erase := []
  /-- Domain key records recorded whose EPN has not come (R316, R317). -/
  pendingKeys : List KeyRec := []
  deriving DecidableEq, Repr

/-- The parity engine (R379): requests run in fetch order. -/
structure ParitySt where
  katOk : Bool := false
  mismatches : Nat := 0
  deriving DecidableEq, Repr

end Sys2Proof.Machine
end

