-- ==== Sys2Proof/Blocks/Net.lean ====
section
/-! DEFINITION. State of the front Ethernet ports, the RoCEv2 engine and the replication session (R506 to R545). -/

namespace Sys2Proof.Machine

/-- A front port (R506, R507, R511, R517, R543). -/
structure FrontPort where
  up : Bool := false
  /-- Speed in effect, as `eth.port_speed` counts. -/
  speed : Nat := 0
  /-- Priorities for which the port sends pause, and for which the neighbour paused it. -/
  paused : BitVec 8 := 0
  held : BitVec 8 := 0
  /-- Bytes parked (R511). -/
  parked : Nat := 0
  drops : Nat := 0
  downAt : Nat := 0
  /-- Stops at the next boundary (R518). -/
  stopping : Bool := false
  deriving DecidableEq, Repr

/-- A work request sent and not acknowledged: its number, first PSN, packets, message number, how often resent (R512, R521). -/
structure WorkReq where
  wr : Nat
  psn : Nat
  packets : Nat
  msgNo : Nat
  resent : Nat
  deriving DecidableEq, Repr

/-- What a queue pair receives at present (R515): the buffer, its length, and the bytes placed of it. -/
structure Incoming where
  write : Bool
  addr : Nat
  len : Nat
  placed : Nat
  deriving DecidableEq, Repr

/-- Spray state of a receiver (R522, R523): oldest PSN not placed, PSNs placed above it, SEALs held as first PSN, own PSN and message,
the next message whose SEAL may take effect. -/
structure SprayRx where
  base : Nat := 0
  placed : List Nat := []
  seals : List (Nat × Nat × Nat) := []
  nextMsg : Nat := 0
  highest : Nat := 0
  /-- Missing PSNs below the highest one received, with T since when (R524). -/
  holes : List (Nat × Nat) := []
  deriving DecidableEq, Repr

/-- A queue pair's context (R510). -/
structure Qp where
  use : QpUse
  port : Nat
  /-- 1 in service, 2 error. -/
  state : Nat := 1
  /-- To enter the error state at the next boundary (R517). -/
  failing : Bool := false
  expPsn : Nat := 0
  nextPsn : Nat := 0
  nakSent : Bool := false
  /-- Receive entries posted: address and length. -/
  rq : List (Nat × Nat) := []
  incoming : Option Incoming := none
  unacked : List WorkReq := []
  credits : Nat := 0
  nextWr : Nat := 0
  nextMsg : Nat := 0
  retries : Nat := 0
  /-- Send rate in 1/65,536 of line rate (R516). -/
  rate : Nat := 65536
  /-- T of the last notification sent and of the last received, or of the last restoring step (R516). -/
  cnpSent : Option Nat := none
  cnpGot : Option Nat := none
  /-- T at which the local ACK timer last started (R512). -/
  timerAt : Nat := 0
  spray : Option SprayRx := none
  /-- NVMe/RDMA (R181): 0 no Connect answered over it, 1 it carries its controller's association, 2 it carries none. -/
  assoc : Nat := 0
  deriving DecidableEq, Repr

/-- A packet that waits for its context (R511). -/
inductive Parked where
  | send (p : RdmaPkt)
  | write (p : RdmaPkt) (addr len : Nat)
  deriving DecidableEq, Repr

/-- The RoCEv2 engine. -/
structure RdmaSt where
  qps : SMap Qp := []
  /-- Contexts in the cache, least recently used first (R510). -/
  cache : List Nat := []
  parked : List (Nat × Parked) := []
  misses : Nat := 0
  /-- Context fetches of the last whole epoch (R543). -/
  lastMisses : Nat := 0
  /-- Sends that a paused port holds (R507): QPN, first PSN, ports. -/
  txHeld : List (Nat × Nat × List Nat) := []
  fatal : Bool := false
  /-- Work completions: QPN, work request, status. -/
  done : List (Nat × Nat × Nat) := []
  deriving DecidableEq, Repr

/-- An RBUNDLE: its stream, epoch, predecessor and records (R528, R531). -/
structure RBundle where
  stream : Nat
  epn : Nat
  prev : Nat
  recs : List ReplRec
  part : Nat := 0
  parts : Nat := 1
  deriving DecidableEq, Repr

/-- A record of the target that waits for its chunk (R532): where it goes, since when, whether looked up or pulled, and the chunk found. -/
structure TargetRec where
  stream : Nat
  epn : Nat
  item : ReplRec
  since : Nat
  /-- 0 looking up under request `ssn`, 1 pulled, 2 found, 4 staged under `ssn`, 5 to be pulled, 6 namespace change recorded. -/
  st : Nat := 0
  chunkId : Nat := 0
  ssn : Nat := 0
  lost : Nat := 0
  deriving DecidableEq, Repr

/-- An RBUNDLE whose records the target admitted (R533): the count of REPL records up to its last one, the SSNs its chunks were staged
under, the target's epoch that holds the last record once written. -/
structure Admitted where
  stream : Nat
  epn : Nat
  upTo : Option Nat := none
  ssns : List Nat
  inEpn : Option Nat := none
  deriving DecidableEq, Repr

/-- A PULL entry outstanding at the target. -/
structure Pull where
  reqNo : Nat
  domain : Nat
  fp : Bytes
  fails : Nat := 0
  deriving DecidableEq, Repr

/-- A replica point (R534): C, snapshot ID, quality, last RBUNDLE per stream. -/
structure Point where
  epn : Nat
  snap : Nat
  quality : Nat
  last : List Nat
  /-- EPN of the snapshot cut for it at the target. -/
  cutAt : Option Nat := none
  deriving DecidableEq, Repr

/-- A message received, for R537: TYPE, STREAM, PART, ID and its tag. -/
structure SeenMsg where
  type : Nat
  stream : Nat
  part : Nat
  ident : Nat
  tag : Bytes
  deriving DecidableEq, Repr

/-- The replication session (R525 to R541). -/
structure ReplSt where
  /-- 0 off, 1 connecting, 2 streaming, 3 resync, 4 down. -/
  state : Nat := 0
  keyGen : Nat := 0
  claim : Nat := 0
  partnerId : Bytes := List.replicate 16 0
  replicated : Nat := 0
  receipts : List Nat := [0, 0]
  quality : Nat := 0
  /-- Source: EPN of the last RBUNDLE built per stream, RBUNDLEs retained, points sent and not applied. -/
  last : List Nat := [0, 0]
  /-- Last epoch of each stream examined for RBUNDLEs, and of POINTs. -/
  cursor : List Nat := [0, 0]
  pointAt : Nat := 0
  /-- Array time quality at the epoch boundaries from `pointAt` on (R44): epoch, quality. -/
  quals : List (Nat × Nat) := []
  /-- The session word as read, and the word a Compare-and-Swap under way would put there (R530). -/
  taking : Option (Nat × Nat) := none
  /-- The session word was read in PS2, on a queue pair: new keys wait for the exit (R313). -/
  wantKeys : Option (Nat × Nat) := none
  kept : List RBundle := []
  points : List Point := []
  /-- RBUNDLEs sent and not receipted, with T at sending (R535). -/
  sentAt : List (Nat × Nat × Nat) := []
  resyncEpn : Nat := 0
  /-- T at which the generation was made, and at which the session went down. -/
  keyedAt : Nat := 0
  downAt : Nat := 0
  /-- A RECEIPT or APPLIED advanced the checkpoint in this epoch (R537). -/
  moved : Bool := false
  /-- This head holds the session; the EPN from which a resynchronised stream goes on, once its RDIFF is sent. -/
  held : Bool := false
  diffSent : Bool := false
  /-- Chunks pushed ahead of their RBUNDLE: stream, epoch. -/
  inbox : List (Nat × Nat × ReplChunk) := []
  /-- Target: the session word, what has been received, RBUNDLEs that wait for their predecessor, records being resolved, RBUNDLEs
  admitted and not receipted, points waiting. -/
  word : Nat := 0
  seen : List SeenMsg := []
  arrived : List RBundle := []
  recs : List TargetRec := []
  admitted : List Admitted := []
  /-- REPL records admitted so far, and SSNs staged for the RBUNDLE in hand of each stream. -/
  queued : Nat := 0
  /-- Last RBUNDLE of each stream whose records are all admitted. -/
  done : List Nat := [0, 0]
  targetPoints : List Point := []
  pulls : List Pull := []
  /-- Either: numbers of PULL and REPAIR_REQ entries, and repairs asked: REQ_NO, chunk, domain, fingerprint. -/
  nextReq : Nat := 1
  asks : List (Nat × Nat × Nat × Bytes) := []
  bytesSent : Nat := 0
  pulled : Nat := 0
  pushed : Nat := 0
  repairsOk : Nat := 0
  repairsFailed : Nat := 0
  dups : Nat := 0
  deriving DecidableEq, Repr

end Sys2Proof.Machine
end

