-- ==== Sys2Proof/Blocks/Out.lean ====
section
/-! DEFINITION. What the part sends to the world outside it, one constructor per kind of message. State.out lists them oldest
first (log 5). -/

namespace Sys2Proof.Machine

/-- A message, completion or signal that leaves the part. -/
inductive Out where
  /-- A stage value on the UART (R92, R555). -/
  | uartStage (v : Nat)
  /-- An alarm transition on the UART (R555). -/
  | uartAlarm (code source : Nat) (raised : Bool)
  /-- A completion to a host (R205, R232). -/
  | nvme (c : NvCpl)
  /-- A response to a management message (R558): command, tag, COMPLETION, STATUS where the command names one, body. -/
  | mgmt (cmd tag completion : Nat) (status : Option Nat) (body : Bytes)
  /-- An NVMe-MI response (R562): the command and its bytes. -/
  | mi (cmd : Nat) (body : Bytes)
  /-- What a JTAG register shifts out (R563): its width and value. -/
  | jtag (width value : Nat)
  /-- The Get Vendor Defined Message Support response: Yildom's number, big-endian (R558). -/
  | mctpVendor (number : Bytes)
  /-- The SMBus Alert Response: the part's own address (R564). -/
  | smbusAlert (addr : Nat)
  /-- An SPDM response (R113, R114): the request it answers, its fields as bytes, and its signature where it has one. -/
  | spdm (req : Nat) (body sig : Bytes)
  /-- An SPDM error response, by error code. -/
  | spdmError (code : Nat)
  /-- A Seam message, with the sequence number and the ACK of its first flit (R383); the lanes in service and the place among them of the lane
  that takes that flit (R382). -/
  | seam (seq ack : Nat) (lanes : BitVec 16) (lane : Nat) (m : SeamMsg)
  /-- Flits sent again from a sequence number on (R384), and a NAK naming the flit expected. -/
  | seamResend (seq : Nat)
  | seamNak (seq : Nat)
  /-- A shelf's report to both heads that names one of them (R394), by event code; the manual gives it no frame (log 115). -/
  | report (code site : Nat)
  /-- A frame on a spoke port with its LSN and ACK_LSN (R419). -/
  | frame (port lsn ackLsn : Nat) (f : Frame)
  /-- A replication message as its Send carries it (R528). -/
  | repl (msg : Bytes)
  /-- RoCEv2: packets of a request from a PSN on, with the port of each (R521); an ACK with credits, a NAK, an RNR NAK, a read or
  atomic response, a congestion notification. -/
  | rdmaSend (qpn psn : Nat) (ports : List Nat)
  | rdmaAck (qpn psn credits : Nat)
  | rdmaNak (qpn psn kind : Nat)
  | rdmaRead (qpn psn : Nat) (data : Bytes)
  | rdmaCnp (qpn : Nat)
  /-- A requester's RDMA Read, and its Compare-and-Swap with compare and swap values (R530). -/
  | rdmaReadReq (qpn psn len : Nat)
  | rdmaCas (qpn psn cmp swap : Nat)
  /-- A front port's answer to ARP, neighbour discovery or echo (R507), and a PFC pause frame by priority mask. -/
  | portAnswer (port kind : Nat)
  | pfc (port : Nat) (prios : BitVec 8)
  deriving DecidableEq, Repr

end Sys2Proof.Machine
end

