-- ==== Sys2Proof/Blocks/Seam.lean ====
section
/-! DEFINITION. State of the Seam block, the peer and the leases as a head sees them (R382 to R414). -/

namespace Sys2Proof.Machine

/-- A claim under way (R401): when it was sent, its generation, the lost streams, and whether it has been won. -/
structure ClaimSt where
  epn : Nat
  gen : Nat
  /-- Per lost stream: its number, e and RESUME_SSN. -/
  streams : List (Nat × Nat × Nat)
  won : Bool := false
  /-- The highest grant of the lost head that an accepting shelf returned (R405). -/
  maxGrant : Nat := 0
  /-- The peer released its stream, so no loss was declared (R404). -/
  released : Bool := false
  deriving DecidableEq, Repr

/-- A change the manager's next renewals carry (R432). -/
inductive RenewSet where
  | owner (stream site gen resume : Nat)
  | manager (site : Nat)
  | clearFence (site : Nat)
  | base (e t : Nat)
  | barrier (epn : Nat)
  deriving DecidableEq, Repr

/-- The Seam block of a head. -/
structure SeamSt where
  /-- SEAM_STATUS fields (R413). -/
  lanesUp : BitVec 16 := 0
  linkUp : Bool := false
  pathA : Bool := false
  pathB : Bool := false
  /-- 0 in service, 1 absent (default), 2 replaying, 3 out of service; and, of one that replays, whether it has asked for what it lacks (R407). -/
  peerState : Nat := 1
  peerCaught : Bool := false
  /-- This head is the manager (R21, R22), and it is fenced (R413). -/
  manager : Bool := false
  fenced : Bool := false
  /-- Reports of the last 65,536 epochs that name a head (R395): site, epoch, number. -/
  reports : List (Nat × Nat × Nat) := []
  /-- Epochs in which the peer was heard on neither path (R397). -/
  silent : Nat := 0
  /-- LEASE_GEN (R413): this head's view. -/
  leaseGen : Nat := 0
  /-- The peer's time state from its newest heartbeat (R44, R396). -/
  peerTime : Option TimeState := none
  /-- The head's own STATE for heartbeats: 0 in service, 1 standing down, 2 replaying, 3 out of service (R396). -/
  own : Nat := 3
  /-- Flits sent and received so far in each direction, and the replay buffer: first flit, flits, message (R383, R384). -/
  txSeq : Nat := 0
  rxSeq : Nat := 0
  replay : List (Nat × Nat × SeamMsg) := []
  /-- Messages that wait on a contended link, oldest first; the flits of this epoch that are taken; and what each channel has had of its share
  while the link was contended (R385). -/
  waiting : List SeamMsg := []
  flits : Nat := 0
  share : List Nat := [0, 0, 0, 0]
  /-- The place among the lanes in service that takes the next flit (R382). -/
  lane : Nat := 0
  /-- One more than the epoch in which the newest heartbeat heard on each path was sent, 0 for none; epochs silent and heard in
  a row (R397, R398). -/
  hbEpnA : Nat := 0
  hbEpnB : Nat := 0
  silentA : Nat := 0
  silentB : Nat := 0
  heardA : Nat := 0
  heardB : Nat := 0
  /-- T1 of the peer's last path-A heartbeat and when it arrived (R396). -/
  lastT1 : Nat := 0
  lastRx : Nat := 0
  claim : Option ClaimSt := none
  /-- First epoch of which the rejoined peer's DURABLE is required (R407). -/
  peerFrom : Nat := 0
  /-- First epoch this head reports DURABLE for, after it rejoined (R407). -/
  reportFrom : Nat := 0
  /-- This head is rejoining, and from which epoch it reports (R407). -/
  rejoining : Bool := false
  /-- CATCHUP_REQ has been sent (R407). -/
  asked : Bool := false
  /-- Standing down (R404): its RELEASE is still to come; and the restart that follows it, where R395 asks for one. -/
  standing : Bool := false
  thenRestart : Bool := false
  /-- The peer's SEALED and REPLAYED of its newest heartbeat. -/
  peerSealed : Nat := 0
  peerReplayed : List Nat := [0, 0]
  sets : List RenewSet := []
  /-- LEASE_MOVE recorded: site, epoch M (R409). -/
  leaseMove : Option (Nat × Nat) := none
  /-- Grants cover no majority: nothing is admitted or posted (R402). -/
  leaseLost : Bool := false
  /-- The own boot record has gone to the peer that is manager (R110, R111). -/
  recSent : Bool := false
  /-- The peer has come into service and its record has not been taken since (R111). -/
  peerNew : Bool := false
  /-- The peer released every volume at a barrier to this head, which R58 held: it loads the array state as of B (R90). -/
  inheriting : Bool := false
  /-- Host I/O stopped by a claim not won in time (R401). -/
  ioStopped : Bool := false
  deriving DecidableEq, Repr

end Sys2Proof.Machine
end

