-- ==== Sys2Proof/Blocks/Shelf.lean ====
section
/-! DEFINITION. State of a shelf: its lease record, power-safe buffer, strip map, blocks, flash channels and dies, and its part of the
dedupe index (R262 to R267, R394, R399, R439 to R505). -/

namespace Sys2Proof.Machine

/-! ### Flash -/

/-- A programmed page of one plane (R442, R480): four sectors and the page tag. A page that failed to program decodes no more
(R491, R501). -/
structure FlPage where
  sectors : List Sector
  tag : Bytes
  good : Bool := true
  deriving DecidableEq, Repr

/-- The operations of the routines (R488). -/
inductive FlOp where
  | read | readRetry | program | erase | suspend | resume | status | feature
  deriving DecidableEq, Repr

/-- A posted operation (R485): number, request, and for a program the pages its DATA and META held when it was posted. -/
structure FlReq where
  op : FlOp
  req : FlashReq
  pages : List FlPage := []
  /-- A program whose pages break R491 or R496: what it leaves is free. -/
  wild : Bool := false
  /-- A program whose check fields differ from its data (R497). -/
  badCheck : Bool := false
  deriving DecidableEq, Repr

/-- A LUN (R486, R493, R504). -/
structure LunSt where
  /-- What runs on the die, and what waits. -/
  running : Option FlReq := none
  queue : List FlReq := []
  /-- The suspended erase, and whether power failure suspended it (R493, R500). -/
  suspended : Option FlReq := none
  byPower : Bool := false
  /-- T at which the running erase was issued or last resumed (R494). -/
  since : Nat := 0
  /-- Feature values set, by address (R495). -/
  feats : SMap Nat := []
  failed : Bool := false
  deriving DecidableEq, Repr

/-- A channel (R474 to R477, R503). -/
structure ChanSt where
  enable : Bool := false
  /-- ENABLE cleared, to take effect at the next boundary (R499). -/
  clearing : Bool := false
  std : Nat := 0
  lpddr : Bool := false
  rate : Nat := 0
  /-- CH_STATUS: 0 off, 1 enumerating, 2 training, 3 ready. -/
  state : Nat := 0
  present : BitVec 16 := 0
  degraded : Bool := false
  uncorr : Nat := 0
  luns : SMap LunSt := []
  /-- A completion waits on this full ring: nothing is issued (R485). -/
  stalled : Option Nat := none
  deriving DecidableEq, Repr

/-- Flash: channels, the pages programmed since their block's last erase by page key, and the profile in use (R476, R479). -/
structure FlashSt where
  chans : List ChanSt := List.replicate 32 {}
  pages : SMap FlPage := []
  profile : Option Nat := none
  deriving DecidableEq, Repr

/-! ### Blocks and the map -/

/-- A block (R446, R462): 0 FREE, 1 OPEN, 2 FULL, 3 ERASE_QUEUED, 4 GROWN_BAD. -/
structure BlkSt where
  st : Nat := 0
  mode : Nat := 0
  /-- Next page address to program, the flush number at which it became FULL, its erase count in hundredths of a native cycle. -/
  next : Nat := 0
  fullAt : Nat := 0
  count : Nat := 0
  /-- Takes no further programs (R467). -/
  closed : Bool := false
  deriving DecidableEq, Repr

/-- A Hem journal record of the FTL (R455). -/
inductive FtlRec where
  | discard (strip seq : Nat)
  | bad (block seq : Nat)
  | readOnly (reason : Nat)
  | dump (sectors seq : Nat)
  | flush (n : Nat)
  deriving DecidableEq, Repr

/-- An erase intent (R463): 1 OPEN, 2 DONE. -/
structure Intent where
  state : Nat
  reason : Nat
  mode : Nat
  block : Nat
  seq : Nat
  epn : Nat
  count : Nat
  deriving DecidableEq, Repr

/-- The power-safe buffer's copy of a kept write (R449): an image, a packed strip with the SSNs it took, or a whole strip. -/
inductive PlbBody where
  | image (h : AppendHead) (img : Bytes)
  | packed (h : StripHead) (strip : Bytes) (took : List Tag)
  | strip (h : StripHead) (bytes : Bytes)
  deriving DecidableEq, Repr

/-- An item of the power-safe buffer (R449 to R451). -/
structure PlbItem where
  tag : Tag
  op : Nat
  gen : Nat
  len : Nat
  first : Nat
  sectors : Nat
  digest : Bytes
  body : PlbBody
  safe : Bool := false
  single : Bool := false
  deriving DecidableEq, Repr

/-- What the shelf remembers of a tag's first copy (R394): who sent it, when, its digest and generation, whether it passed. -/
structure Kept where
  tag : Tag
  site : Nat
  epn : Nat
  digest : Bytes
  gen : Nat
  passed : Bool
  bytes : Nat
  acked : Bool := false
  doneSent : Bool := false
  /-- RESULT and chunk ID of an index operation's reply (R429). -/
  result : Nat := 0
  named : Nat := 0
  deriving DecidableEq, Repr

/-! ### The dedupe index -/

/-- An entry of the shard (R262). -/
structure IdxEntry where
  fp : Bytes
  domain : Nat
  chunkId : Nat
  deriving DecidableEq, Repr

/-- The shard in HBM (R262, R265, R266): the pending table, whether the tag rows are built, and the tags of each bucket's row. -/
structure ShardSt where
  pending : List IdxEntry := []
  rows : Bool := false
  tags : SMap (List Nat) := []
  deriving DecidableEq, Repr

/-- A purge under way (R428): strip, blocks still to erase, and the reply owed: port, frame head. -/
structure Purge where
  strip : Nat
  blocks : List Nat
  port : Nat
  tag : Tag
  reqId : Nat
  deriving DecidableEq, Repr

/-! ### Health -/

/-- Lifetime counters of the health entry and record (R469, R470). -/
structure HealthSt where
  retries : Nat := 0
  softs : Nat := 0
  sectorFails : Nat := 0
  progFails : Nat := 0
  eraseFails : Nat := 0
  powerLosses : Nat := 0
  tempNow : Int := 0
  tempMax : Int := -128
  tempMin : Int := 127
  cbitHist : List Nat := List.replicate 64 0
  retryHist : List Nat := List.replicate 17 0
  tempHist : List Nat := List.replicate 24 0
  pairs : List (Int × Int) := []
  hourIndex : Nat := 0
  /-- Minimum and maximum of the current hour. -/
  hourMin : Int := 127
  hourMax : Int := -128
  gen : Nat := 0
  lastRead : Nat := 0
  deriving DecidableEq, Repr

/-- A shelf's volatile state: HBM and firmware. -/
structure ShelfSt where
  plb : List PlbItem := []
  plbNext : Nat := 0
  kept : List Kept := []
  /-- Appends dropped, and the epoch (R428). -/
  drops : List (Tag × Nat) := []
  /-- The strip map (R445): strip number to entry. -/
  map : SMap Nat := []
  blocks : SMap BlkSt := []
  /-- Map changes since the last flush, counted in records (R457). -/
  changes : Nat := 0
  shard : ShardSt := {}
  /-- Strips under copy (R459), the victim they come from, and the frames held for them. -/
  copying : List Nat := []
  victim : Option Nat := none
  paused : Bool := false
  /-- Dump areas erased: the two of R453. -/
  dumpErased : List Bool := [true, true]
  dumping : Bool := false
  dumpPending : Bool := false
  dumpIncomplete : Bool := false
  purges : List Purge := []
  /-- Relays sent, by origin: the epoch (R431). -/
  relayed : SMap Nat := []
  slcTarget : Nat := 0
  sparePool : Nat := 0
  spareInit : Nat := 0
  /-- 0 recovering, 1 in service, 2 READ_ONLY full, 3 READ_ONLY worn. -/
  state : Nat := 0
  health : HealthSt := {}
  /-- The health entry as last sampled (R469). -/
  sample : Option Bytes := none
  /-- Discards held back while their strip is copied (R459), and whether each purges. -/
  heldDiscards : List (Purge × Bool) := []
  deriving DecidableEq, Repr

/-- What a shelf keeps over power loss: its Hem classes, and what its flash system area holds. -/
structure ShelfKeep where
  /-- LEASE (R399): none until the shelf first writes it; the record in the other slot group; how often one was written. -/
  lease : Option LeaseRec := none
  leaseOld : Option LeaseRec := none
  leaseNo : Nat := 0
  /-- ERASE_INTENT (R463), by record. -/
  intents : SMap Intent := []
  /-- FTL_JOURNAL (R456): flush number, SHELF_SEQ, checkpoint cursor, OPEN blocks, records since the last flush, dies counted. -/
  flushNo : Nat := 0
  seq : Nat := 0
  cursor : Nat := 0
  openBlocks : List Nat := []
  records : List FtlRec := []
  /-- Ring position of the first of those records; how often the journal head was written, and the head in the other slot group: flush number,
  SHELF_SEQ, cursor, OPEN blocks (R456). -/
  ringPos : Nat := 0
  headNo : Nat := 0
  oldHead : Option (Nat × Nat × Nat × List Nat) := none
  dies : Option Nat := none
  /-- READ_ONLY, as recorded (R464, R465): 0 none. -/
  readOnly : Nat := 0
  /-- PLB_INDEX (R450) as the items it names: tag, sectors, CRC, first sector. -/
  plbIndex : List (Tag × Nat × Nat × Nat) := []
  /-- The map and the blocks as of the last flush (R457). -/
  map : SMap Nat := []
  blocks : SMap BlkSt := []
  /-- The dump area's content (R453). -/
  dump : List PlbItem := []
  /-- Bucket sectors (R262); ranges that became ready here after a move, and ranges dropped from here (R267). -/
  buckets : SMap (List IdxEntry) := []
  gained : List Nat := []
  dropped : List Nat := []
  /-- N when the shelf first came into service, 0 before it: what the first array boot gives it (R261). -/
  shardN : Nat := 0
  /-- The health detail record's lifetime part (R470), as last written to NOR. -/
  health : HealthSt := {}
  deriving DecidableEq, Repr

end Sys2Proof.Machine
end

