-- ==== Sys2Proof/Machine/State.lean ====
section
/-! DEFINITION. The machine's state, the ways a step can stop, and the state right after reset. -/

namespace Sys2Proof.Machine

structure State where
  pins : Pins
  otp : Otp
  /-- The NOR (R66): an erased byte reads 0xFF. -/
  nor : Mem
  boot : BootSt
  ledger : LedgerSt
  /-- The parameters in force: records of the loaded block once R79 has passed, none before (R565). -/
  params : List PRec
  time : TimeSt
  ev : EvSt
  mgmt : MgmtSt
  jtag : JtagSt
  power : PowerSt
  eng : List EngSt
  mem : MemSt
  ring : RingSt
  mc : McSt
  hem : HemSt
  nvme : NvmeSub
  seam : SeamSt
  digest : DigestSt
  cam : MatchSt
  press : PressSt
  cipher : CipherSt
  parity : ParitySt
  /-- Spoke ports SP00 to SP63; a shelf uses the first two. -/
  port : List SpokePort
  head : HeadSt
  /-- Front ports FP00 to FP15, the RoCEv2 engine, the replication session. -/
  front : List FrontPort
  rdma : RdmaSt
  repl : ReplSt
  flash : FlashSt
  sh : ShelfSt
  /-- What a shelf keeps over power loss. -/
  keep : ShelfKeep
  /-- Free values handed out so far (log 6). -/
  free : Nat
  /-- Everything the part has sent, oldest first (log 5). -/
  out : List Out
  /-- Commands waiting, first in first out. -/
  pending : List Instr
  deriving DecidableEq, Repr

/-- Why a step stops with a fault. No meaning of this model raises one. -/
inductive Fault where
  /-- Raised by nothing: kept so that the type is inhabited. Safe. -/
  | none
  deriving DecidableEq, Repr

/-- Why a step is refused. -/
inductive Refusal where
  /-- Raised by an arm of exec whose meaning is not written yet. Safe. -/
  | notModelled (mnemonic : String)
  deriving DecidableEq, Repr

/-- The machine right after power-up, POR_N still low: every register at its default (R10). -/
def State.reset : State :=
  { pins := {}, otp := {}, nor := [], boot := {}, ledger := {}, params := [], time := {}, ev := {}, mgmt := {}, jtag := {},
    power := {}, eng := List.replicate 48 {}, mem := {}, ring := {}, mc := {}, hem := {}, nvme := {}, seam := {},
    digest := {}, cam := {}, press := {}, cipher := {}, parity := {}, port := List.replicate 64 {}, head := {}
    front := List.replicate 16 {}, rdma := {}, repl := {}, flash := {}, sh := {}, keep := {}, free := 0, out := [],
    pending := [] }

end Sys2Proof.Machine
end

