-- ==== Sys2Proof/Machine/Ops.lean ====
section
/-! DEFINITION. The operations that every family shares: whether the part runs and in which role, time and epochs, parameters,
events and alarms, host completions and notices, free values. -/

namespace Sys2Proof.Machine

/-- The outcome of a meaning. -/
abbrev Res := Host.Outcome State Fault Refusal

/-- Take a change where a step can come about in the state; a step that cannot come about changes nothing (log 8). -/
def onlyIf (c : Bool) (s : State) (f : State → State) : Res := .next (if c then f s else s)

/-- Follow a meaning's next state with a further change. -/
def thenDo (r : Res) (f : State → State) : Res :=
  match r with
  | .next s => .next (f s)
  | .fault e => .fault e
  | .refused e => .refused e

/-! ### Role and run state -/

/-- The part runs: no reset input asserted, SYSCLK present, not tripped (R615, R617, R624). -/
def State.live (s : State) : Bool := s.pins.porN && s.pins.warmN && s.pins.sysclk && !s.power.tripped

/-- Strapped as a head (R3). -/
def State.isHead (s : State) : Bool := s.pins.sampled && s.pins.roleSel == 0 && decide (s.pins.siteId < 2)

/-- Strapped as a shelf (R3). -/
def State.isShelf (s : State) : Bool := s.pins.sampled && s.pins.roleSel == 2

/-- The site of the part; the peer's site of a head. -/
def State.site (s : State) : Nat := s.pins.siteId
def State.peerSite (s : State) : Nat := 1 - s.pins.siteId

/-- The numeric value of a stage (R84). -/
def stageNum : Stage → Nat
  | .romStart => 1 | .select => 2 | .load => 3 | .domains => 4 | .ledgerBegin => 5 | .memory => 6 | .hem => 7
  | .firmware => 8 | .links => 9 | .waitTime => 10 | .recovery => 11 | .join => 12 | .ready => 13 | .recoveryMode => 15

/-- The stages after LOAD in which the domains are up: not recovery mode. -/
def State.stageFrom (s : State) (g : Stage) : Bool :=
  decide (stageNum g ≤ stageNum s.boot.stage) && s.boot.stage != .recoveryMode

/-- The firmware runs: past stage FIRMWARE. -/
def State.fw (s : State) : Bool := s.live && s.stageFrom .links

/-- The part has reached READY. -/
def State.ready (s : State) : Bool := s.live && s.boot.stage == .ready

/-- POWER_FAIL_N does not hold the part's service (R611). -/
def State.serving (s : State) : Bool := s.ready && !s.power.pfAsserted

/-- A head in service. -/
def State.headUp (s : State) : Bool := s.serving && s.isHead

/-- A shelf in service. -/
def State.shelfUp (s : State) : Bool := s.serving && s.isShelf

/-- The straps are valid: a part with any other combination is held in boot ROM (R3, R4). -/
def State.strapsOk (s : State) : Bool := s.isHead || s.isShelf

/-- The part answers its management interfaces beyond STATUS_GET: not held by R4, not in recovery mode (R560). -/
def State.mgmtUp (s : State) : Bool := s.live && s.strapsOk && s.boot.stage != .recoveryMode

/-- The part runs and is at a boot stage that it may leave: no HBM stack has failed (R135). -/
def State.atStage (s : State) (g : Stage) : Bool := s.live && s.boot.stage == g && !s.mem.stackFailed

/-- The manager head (R21): it holds the manager lease while its grants are current at a majority (R402, R410). -/
def State.isManager (s : State) : Bool := s.headUp && s.seam.manager && !s.seam.leaseLost

/-- It does a manager's duties at JOIN already, where the lease is taken (R110, R410): what it collects needs no service. -/
def State.leads (s : State) : Bool := s.fw && s.isHead && s.seam.manager && !s.seam.leaseLost

/-- No condition of R85 holds the part, and its ledger commit has not failed (R108): and every HBM stack serves
(R135): it may take volumes, leases and strips. -/
def State.fit (s : State) : Bool := s.boot.holds.isEmpty && decide (s.boot.commitFails < 3) && !s.mem.stackFailed

/-- Both heads are in service, as this head sees it. -/
def State.peerUp (s : State) : Bool := s.seam.peerState == 0

/-- Numeric values of the time state and the quality (R62). -/
def timeStateNum : TimeState → Nat
  | .acquiring => 0 | .locked => 1 | .peer => 2 | .holdover => 3 | .freeRun => 4 | .markFollow => 5 | .markLost => 6
def qualityNum : Quality → Nat
  | .locked => 0 | .holdover => 1 | .freeRun => 2

/-! ### Parameters, time and epochs -/

/-- A parameter's value in force, instance `i`. -/
def State.pi (s : State) (id i : Nat) : Nat := paramNat s.params id i

/-- A parameter's value in force, instance 0. -/
def State.p (s : State) (id : Nat) : Nat := paramNat s.params id 0

/-- L of R37: ticks per epoch; before the parameters are loaded, the one last in force (R61). -/
def State.epochLen (s : State) : Nat := (if s.params.isEmpty then s.time.lenUs else s.p p_epoch_length_us) * 100

/-- The epoch number at a time (R37): the floor of the quotient, also before t_base. -/
def State.epnAt (s : State) (t : Nat) : Nat :=
  if t < s.time.tBase then s.time.eBase - (s.time.tBase - t + s.epochLen - 1) / s.epochLen
  else s.time.eBase + (t - s.time.tBase) / s.epochLen

/-- EPN (R37, R61). -/
def State.epn (s : State) : Nat := s.epnAt s.time.t

/-- The time an epoch begins (R37). -/
def State.epochStart (s : State) (n : Nat) : Nat :=
  if n < s.time.eBase then s.time.tBase - (s.time.eBase - n) * s.epochLen else s.time.tBase + (n - s.time.eBase) * s.epochLen

/-- The phase of T in its epoch (R37): T minus the beginning of its epoch, before t_base as well. -/
def State.phase (s : State) : Nat :=
  if s.time.t < s.time.tBase then (s.epochLen - (s.time.tBase - s.time.t) % s.epochLen) % s.epochLen
  else (s.time.t - s.time.tBase) % s.epochLen

/-- The phase timer at a tick: the phase x 22 (R125). -/
def State.phaseTimer (s : State) : Nat := s.phase * 22

/-- A ring's entry; an unwritten one holds zeros. -/
def State.ringOf (s : State) (n : Nat) : Ring := SMap.getD s.ring.rings n {}

/-- Write an engine register; x0 is hard-wired (the RISC-V zero register). -/
def EngSt.put (e : EngSt) (rd v : Nat) : EngSt := if rd = 0 then e else { e with x := SMap.set e.x rd (v % 2 ^ 64) }

/-- A head is in service, or its standing down is not over: out of service it renews no lease (R400, R404). -/
def State.stillServes (s : State) : Bool := s.seam.own != 3 || s.seam.standing

/-- An engine register's value. -/
def EngSt.get (e : EngSt) (r : Nat) : Nat := SMap.getD e.x r 0

/-- An enabled interrupt is pending. -/
def EngSt.interrupted (e : EngSt) : Bool := e.timerIrq && e.timerOn || e.ringIrq && e.ringOn

/-- End an engine's wait where its condition holds, or an enabled interrupt is pending (R123, R125). A deadline that lies inside a tick is
reached in that tick (log 19). -/
def EngSt.wake (e : EngSt) (unread : Nat → Bool) (timer epn : Nat) : EngSt :=
  match e.wait with
  | .no => e
  | .ring rd ring deadline =>
    if unread ring then { e.put rd 1 with wait := .no }
    else if e.interrupted || (deadline != 0 && decide (deadline / 22 * 22 ≤ timer)) then { e.put rd 0 with wait := .no }
    else e
  | .epn rd n => if e.interrupted || decide (n ≤ epn) then { e.put rd epn with wait := .no } else e

/-- Re-examine every waiting engine. -/
def State.wake (s : State) : State :=
  { s with eng := s.eng.map (fun e =>
      e.wake (fun r => (s.ringOf r).head != (s.ringOf r).tail) s.phaseTimer s.epn) }

/-- The offset of T that is corrected at present, in ns, positive where T is ahead: a shelf's to its source's marks (R49), a head's to the
peer it follows in PEER (R42, R47), unless its own valid reference draws it back (R41, R45), else to its own valid reference. -/
def State.slewOff (s : State) : Int :=
  if s.isShelf then s.time.followOff
  else if s.time.state == .peer && (s.time.skewPeer || !s.time.refValid) then s.time.followOff
  else if s.time.refValid then s.time.refOff
  else 0

/-- Which T a slew makes for: a shelf's source 0, the peer 1, the own reference 2, none 3 (R42, R45, R47, R49). -/
def State.slewKind (s : State) : Nat :=
  if s.isShelf then 0
  else if s.time.state == .peer && (s.time.skewPeer || !s.time.refValid) then 1
  else if s.time.refValid then 2
  else 3

/-- The target of a slew has changed from `k`: the slew toward the old one is given up, and SLEWING stands where a new one begins (R45, R62). -/
def State.retarget (s : State) (k : Nat) : State :=
  if s.slewKind = k then s else { s with time := { s.time with slewing := s.time.tSet && s.slewOff != 0 } }

/-- An I/O command is outstanding at this head (R201). -/
def State.ioBusy (s : State) : Bool :=
  !s.head.st0.waiting.isEmpty || !s.head.st1.waiting.isEmpty || !s.head.st0.cmds.isEmpty || !s.head.st1.cmds.isEmpty || !s.head.reads.isEmpty
    || !s.nvme.fwd.isEmpty

/-- Time passes until T is `t`. The tick rate is off by at most `time.slew_max_ppm` (R40), so the offset that is corrected shrinks with the
ticks that pass, and T itself neither steps nor stands: per tick of 10 ns by the parameter's value in 1/100,000 ns. -/
def State.passTo (s : State) (t : Nat) : TimeSt :=
  let n := s.time.slewFrac + (t - s.time.t) * s.p p_time_slew_max_ppm
  let c := min (n / 100000) s.slewOff.natAbs
  let d : Int := if s.slewOff < 0 then c else -c
  { s.time with
    t := t, up := s.time.up + (t - s.time.t), busy := s.time.busy + (if s.ioBusy then t - s.time.t else 0), slewFrac := if s.slewOff = 0 then 0 else n % 100000, refOff := s.time.refOff + d, followOff := s.time.followOff + d }

/-- Raise an engine's timer interrupt where the phase timer has come to its armed value, and disarm it (R125). -/
def EngSt.fire (e : EngSt) (timer : Nat) : EngSt :=
  if e.timerArm ≠ 0 ∧ e.timerArm / 22 * 22 ≤ timer then { e with timerArm := 0, timerIrq := true } else e

/-- Every armed phase timer that the present phase has reached fires (R125). -/
def State.fireAll (s : State) : State := { s with eng := s.eng.map (fun (e : EngSt) => e.fire s.phaseTimer) }

/-- Let time pass until T is `t`: armed phase timers fire, and the engines that the new value releases go on. -/
def State.setT (s : State) (t : Nat) : State := (State.fireAll { s with time := s.passTo t }).wake

/-- Move T forward to a window that begins `num` eighths into the epoch (R52): array time never runs back (R36). -/
def State.toWindow (s : State) (eighth : Nat) : State :=
  s.setT (max s.time.t (s.epochStart s.epn + s.epochLen * eighth / 8))

/-- A window that closes at an eighth of the epoch has not closed yet (R52, R54). -/
def State.notPast (s : State) (last : Nat) : Bool := s.time.tSet && decide (s.phase * 8 < last * s.epochLen)

/-- A window of R52, from its first eighth to the eighth at which it closes, is still to come or open in this epoch, and its activity has not
run in it: a late one waits for the next epoch, and none runs twice (R54). -/
def State.windowOpen (s : State) (first last : Nat) : Bool := s.notPast last && !s.time.ran.contains first

/-- Enter a window: the activity of number `act` has run in this epoch; a window with one activity has its first eighth as that number. -/
def State.inWindowAs (s : State) (first act : Nat) : State :=
  let s1 := s.toWindow first
  { s1 with time := { s1.time with ran := insNat s1.time.ran act } }
def State.inWindow (s : State) (first : Nat) : State := s.inWindowAs first first

/-- N, the shelves of the array (R15). -/
def State.nShelves (s : State) : Nat := s.p p_spoke_shelves

/-! ### Free values -/

/-- Take a free number (log 6). -/
def State.takeFree (s : State) : Nat × State := (Config.freeNat s.free, { s with free := s.free + 1 })

/-- One of a list of statuses, free (R586). -/
def State.takeStatus (s : State) (sts : List Nat) : Nat × State :=
  let f := s.takeFree
  (sts.getD (f.1 % max sts.length 1) 0, f.2)

/-- Take a free byte string of `n` bytes (log 6). -/
def State.takeFreeBytes (s : State) (n : Nat) : Bytes × State :=
  ((List.range n).map (Config.freeByte s.free), { s with free := s.free + 1 })

/-! ### What leaves the part -/

/-- Send something out. -/
def State.emit (s : State) (o : Out) : State := { s with out := s.out ++ [o] }

/-! ### Host completions and notices -/

/-- A controller's state; an unlisted one is in its reset state. -/
def State.ctrl (s : State) (c : Nat) : Ctrl := SMap.getD s.nvme.ctrls c {}

/-- Store a controller's state. -/
def State.setCtrl (s : State) (c : Nat) (v : Ctrl) : State :=
  { s with nvme := { s.nvme with ctrls := SMap.set s.nvme.ctrls c v } }

/-- The completion queue of a command: its submission queue's, 0 for the admin queue. -/
def Ctrl.cqOf (k : Ctrl) (sqid : Nat) : Nat :=
  match SMap.get k.sqs sqid with
  | some q => q.cqid
  | none => 0

/-- Whether a completion queue has room: one entry always stays free. -/
def Cq.room (q : Cq) : Bool := (q.tail + 1) % max q.size 1 != q.head

/-- Enter a completion with an error in the Error log of the last 64 (R186). -/
def State.logError (s : State) (c : NvCpl) : State :=
  if c.st.sct = 0 ∧ c.st.sc = 0 then s
  else
    let n := s.nvme.errCount + 1
    { s with nvme := { s.nvme with errors := ((n, c.cmd, c.st) :: s.nvme.errors).take 64, errCount := n } }

/-- Reports of the last 65,536 epochs that name a head (R395, R413). -/
def State.suspectCount (s : State) (site : Nat) : Nat :=
  (s.seam.reports.filter (fun e => e.1 == site && decide (s.epn < e.2.1 + 65536))).foldl (fun a e => a + e.2.2) 0

/-- A head whose grants cover no majority, or whose claim was not won in time (R401, R402). -/
def State.silenced (s : State) : Bool := s.seam.leaseLost || s.seam.ioStopped

/-- Such a head posts no completion (R402) but those that say so: of the admin queue, and of a path that is Inaccessible (R191, log 114). -/
def State.silencedFor (s : State) (cqid : Nat) (st : NvmeSt) : Bool := s.silenced && cqid != 0 && st.sct != 3

/-- Post a completion on its controller (R232): discarded where the controller was reset since (R180), held where the queue is
full or POWER_FAIL_N is asserted (R611). -/
def State.post (s0 : State) (c : NvCpl) : State :=
  let s := s0.logError c
  let k := s.ctrl c.cmd.cntlid
  let q := k.cqOf c.cmd.sqid
  match SMap.get k.cqs q with
  | none => s
  | some cq =>
    if cq.room && !s.power.pfAsserted && !s.silencedFor q c.st && (cq.held.isEmpty || s.silenced) then
      (s.setCtrl c.cmd.cntlid { k with cqs := SMap.set k.cqs q { cq with tail := (cq.tail + 1) % cq.size } }).emit (.nvme c)
    else s.setCtrl c.cmd.cntlid { k with cqs := SMap.set k.cqs q { cq with held := cq.held ++ [c] } }

/-- Release held completions of one queue while there is room (`fuel` at most its length). -/
def State.drainCq (s : State) (cntlid q : Nat) : Nat → State
  | 0 => s
  | fuel + 1 =>
    let k := s.ctrl cntlid
    match SMap.get k.cqs q with
    | none => s
    | some cq =>
      match cq.held with
      | [] => s
      | c :: rest =>
        if cq.room && !s.power.pfAsserted && !s.silencedFor q c.st then
          ((s.setCtrl cntlid { k with
              cqs := SMap.set k.cqs q { cq with tail := (cq.tail + 1) % cq.size, held := rest } }).emit (.nvme c)).drainCq
            cntlid q fuel
        else s

/-- Status Success. -/
def nvOk : NvmeSt := ⟨0, 0, false⟩

/-- Complete a command with a status and no data. -/
def State.finish (s : State) (cmd : CmdId) (st : NvmeSt) : State := s.post ⟨cmd, st, 0, []⟩

/-- Give one controller a notice (R556): sent on an outstanding request, else kept; a masked one waits for its page. -/
def State.noticeTo (s : State) (cntlid v : Nat) : State :=
  let k := s.ctrl cntlid
  if !k.en then s
  else if k.masked.contains v then s.setCtrl cntlid { k with notices := if k.notices.contains v then k.notices else k.notices ++ [v] }
  else
    match k.aers with
    | [] => s.setCtrl cntlid { k with notices := if k.notices.contains v then k.notices else k.notices ++ [v] }
    | a :: rest =>
      (s.setCtrl cntlid { k with aers := rest, masked := k.masked ++ [v], notices := k.notices.filter (· != v) }).post
        ⟨a, nvOk, v, []⟩

/-- Give every enabled controller a notice. -/
def State.noticeAll (s : State) (v : Nat) : State := (SMap.keys s.nvme.ctrls).foldl (fun acc c => acc.noticeTo c v) s

/-- Dword 0 of the vendor notices of R556: alarm change, page 0xC6; occupancy, page 0xC5. -/
def noticeAlarm : Nat := 0xC60007
def noticeRing : Nat := 0xC50107

/-- Dword 0 of the NVMe notices: Namespace Attribute Changed, ANA Change (R189, R191). -/
def noticeNs : Nat := 0x040002
def noticeAna : Nat := 0x0C0302

/-! ### Events and alarms -/

/-- The vendor notice of R556, where the parameter permits it and the part is a head. -/
def State.vendorNotice (s : State) (v : Nat) : State :=
  if s.isHead && s.p p_mgmt_nvme_alarm_aen == 1 then s.noticeAll v else s

/-- Send the occupancy notice once per crossing of 90 % (R556). -/
def State.ringNotice (s : State) : State :=
  if s.ev.tracesStopped && !s.ev.noticed then
    ({ s with ev := { s.ev with noticed := true } }).vendorNotice noticeRing
  else s

/-- An event with an argument (R552). -/
def State.eventArg (s : State) (code src : Nat) (arg : Bytes) : State :=
  ({ s with ev := s.ev.event code src arg s.time.t s.epn (s.p p_event_coalesce_epochs) }).ringNotice

/-- An event without an argument. -/
def State.event (s : State) (code src : Nat) : State := s.eventArg code src []

/-- Follow a change of an alarm's STATE: notice and UART (R555, R556). -/
def State.alarmMoved (s : State) (code src : Nat) (raised : Bool) : State :=
  let s1 := (s.ringNotice).vendorNotice noticeAlarm
  if s1.p p_boot_uart_log == 2 then s1.emit (.uartAlarm code src raised) else s1

/-- Raise an alarm (R550). -/
def State.alarm (s : State) (code src : Nat) : State :=
  let r := s.ev.raise code src s.time.t s.epn
  let s1 := { s with ev := r.1 }
  if r.2 then s1.alarmMoved code src true else s1

/-- Clear an alarm where it is raised (R550). -/
def State.clearAlarm (s : State) (code src : Nat) : State :=
  let r := s.ev.clear code src s.time.t s.epn
  let s1 := { s with ev := r.1 }
  if r.2 then s1.alarmMoved code src false else s1

/-- A source of R547. -/
def srcOf (kind idx : Nat) : Nat := kind * 4096 + idx

/-- ALERT_N asserted: some alarm entry has NEW set (R564). -/
def State.alertAsserted (s : State) : Bool := s.ev.alarms.any (·.isNew)

/-- The start of stage `g`: reported in BOOT_STATUS and, at `boot.uart_log` 1 or 2, on the UART (R84, R92). -/
def State.toStage (s : State) (g : Stage) : State :=
  let s1 := { s with boot := { s.boot with stage := g } }
  if s1.p p_boot_uart_log == 0 then s1 else s1.emit (.uartStage (stageNum g))

/-! ### Hem records -/

/-- Store the firmware's bytes into the Hem by offset: whole units, so a unit written again has a matching CRC (R153). -/
def State.hemPut (s : State) (off : Nat) (bs : Bytes) : State :=
  let first := off / 64
  let last := (off + bs.length + 63) / 64
  { s with hem := { s.hem with
      raw := Mem.writeBytes 0 s.hem.raw off bs
      badCrc := SMap.keep s.hem.badCrc (fun u _ => decide (u < first ∨ last ≤ u)) } }

/-- Offset of a Hem slot (R152). -/
def hemSlot (n : Nat) : Nat := n * 1024

end Sys2Proof.Machine
end

