-- ==== Sys2Proof/Machine/Image.lean ====
section
/-! DEFINITION. The NOR, the Kimar image and the boot control records, to the byte (R66 to R82, R88). -/

namespace Sys2Proof.Machine

/-- An erased NOR byte. PRESUMED (log 9). -/
def norErased : Byte := 0xFF

/-- Read NOR bytes. -/
def norRead (nor : Mem) (off len : Nat) : Bytes := Mem.readBytes norErased nor off len

/-- Erase a range, then program it. -/
def norWrite (nor : Mem) (off : Nat) (bs : Bytes) : Mem := Mem.writeBytes norErased nor off bs

/-- Erase a range of the NOR. -/
def norErase (nor : Mem) (off len : Nat) : Mem := Mem.clear nor off len

/-- Where a copy begins (R66), and the length of its range. -/
def copyBase : Copy → Nat
  | .a => 0
  | .b => 0x4000000
def copyLen : Nat := 0x4000000

/-- The boot control record slots and the ledger region (R66). -/
def bcrBase : Nat := 0xC000000
def ledgerBase : Nat := 0x8000000

/-! ### Header and manifest -/

/-- A manifest entry (R70). -/
structure MEntry where
  type : Nat
  head : Bool
  shelf : Bool
  owner : Bool
  zeroOk : Bool
  off : Nat
  len : Nat
  digest : Bytes
  raw : Bytes
  deriving DecidableEq, Repr

/-- Read a manifest entry. -/
def mentry (b : Bytes) : MEntry :=
  let f := num b 2 2
  ⟨num b 0 2, bit f 0, bit f 1, bit f 2, decide (f < 8) && allZero (sub b 14 2), num b 4 4, num b 8 4, sub b 16 48, b⟩

/-- Step 1 of R78. -/
def headerOk (h : Bytes) : Bool :=
  sub h 0 4 == [0x4B, 0x4D, 0x52, 0x31] && num h 4 2 == 1 && num h 6 2 == 256 && num h 252 4 == crc32c (h.take 252)
    && decide (num h 8 4 ≤ copyLen)

/-- Entries rise by offset and do not overlap; each begins at a multiple of 4,096, from `lo` on, and ends by `hi` (R68, R70). -/
def entriesOrdered (hi : Nat) : Nat → List MEntry → Bool
  | lo, [] => decide (lo ≤ hi)
  | lo, e :: es => decide (lo ≤ e.off) && e.off % 4096 == 0 && decide (e.off + e.len ≤ hi) && entriesOrdered hi (e.off + e.len) es

/-- How many entries of a type. -/
def countType (es : List MEntry) (t : Nat) : Nat := (es.filter (·.type == t)).length

/-- The types, signers and counts of R71; one firmware entry serves one role. DEDUCED (log 10). -/
def typesOk (es : List MEntry) : Bool :=
  es.all (fun e => e.zeroOk &&
    ((e.type == 1 && !e.owner && (e.head != e.shelf)) || (e.type == 2 && !e.owner)
      || (e.type == 0x10 && e.owner) || (e.type == 0x11 && e.owner)))
  && decide (1 ≤ countType es 1) && decide ((es.filter (fun e => e.type == 1 && e.head)).length ≤ 1)
  && decide ((es.filter (fun e => e.type == 1 && e.shelf)).length ≤ 1)
  && countType es 0x10 == 1 && decide (countType es 0x11 ≤ 1) && decide (countType es 2 ≤ 1)
  && (!es.any (fun e => e.type == 1 && e.shelf) || countType es 2 == 1)

/-- The manifest entries of an image read through `rd`. -/
def manifestOf (rd : Nat → Nat → Bytes) (h : Bytes) : List MEntry :=
  ((chunksOf 64 (rd (num h 24 4) (num h 20 2 * 64))).take (num h 20 2)).map mentry

/-- Step 2 of R78: manifest digest, entries, layout and FLAGS. -/
def manifestOk (rd : Nat → Nat → Bytes) (h : Bytes) : Bool :=
  let len := num h 8 4
  let count := num h 20 2
  let moff := num h 24 4
  let es := manifestOf rd h
  let flags := num h 22 2
  decide (1 ≤ count) && decide (count ≤ 64) && num h 28 4 == count * 64 && moff % 4096 == 0 && decide (256 ≤ moff)
    && decide (moff + count * 64 ≤ len) && sha384 (rd moff (count * 64)) == sub h 80 48 && typesOk es
    && num h 60 4 == 5600 && num h 68 4 == 5472 && num h 56 4 % 4096 == 0 && num h 64 4 % 4096 == 0
    && entriesOrdered (num h 56 4) (moff + count * 64) es && decide (num h 56 4 + 5600 ≤ num h 64 4)
    && len == num h 64 4 + 5472
    && bit flags 0 == es.any (fun e => e.type == 1 && e.head) && bit flags 1 == es.any (fun e => e.type == 1 && e.shelf)

/-! ### Signature blocks -/

/-- The digest that names a signing key (R75). -/
def keyDigest (blk : Bytes) : Bytes := sha384 (sub blk 8 97 ++ sub blk 112 1952)

/-- Both signatures of a block verify on one message (R74), under the layout of R72. DESIGN CHOICE (log 109): a block whose MAGIC, KIND or STMT_LEN
is not as R72 has it is refused too, and R72's zero bytes are not looked at. -/
def sigOk (blk : Bytes) (kind stmt : Nat) (msg : Bytes) : Bool :=
  sub blk 0 4 == [0x4B, 0x53, 0x49, 0x47] && num blk 4 2 == kind && num blk 6 2 == stmt
    && ecdsaVerify (sub blk 8 97) msg (sub blk 2064 96)
    && mldsaVerify (sub blk 112 1952) msg (sub blk 2160 3309)

/-- Step 3 of R78: the Yildom block and its statement (R73). -/
def yildomOk (rd : Nat → Nat → Bytes) (h : Bytes) : Bool :=
  let blk := rd (num h 56 4) 5600
  let st := sub blk 5472 128
  let ys := (manifestOf rd h).filter (fun e => !e.owner)
  sha384 blk == sub h 128 48 && keyDigest blk == Config.yildomKeyDigest && sigOk blk 1 128 st
    && sub st 0 8 == sub h 48 8 && num st 8 4 == num h 16 4 && num st 12 4 == ys.length && sub st 16 16 == sub h 32 16
    && sub st 32 48 == sha384 (ys.flatMap (·.raw))

/-- The owner key slot whose digest signed the owner block, where one is programmed and not revoked (R75). -/
def ownerSlot (slots : List OtpSlot) (d : Bytes) : Option OtpSlot := slots.find? (fun o => o.st == 1 && o.digest == d)

/-- Step 4 of R78. -/
def ownerOk (rd : Nat → Nat → Bytes) (h : Bytes) (slots : List OtpSlot) : Bool :=
  let blk := rd (num h 64 4) 5472
  (ownerSlot slots (keyDigest blk)).isSome && sigOk blk 2 0 (h.take 252)

/-- F of R88: the set bits of the rollback floor. -/
def floorValue (raw : Nat) : Nat := ((List.range 64).filter (bit raw)).length

/-- Steps 1 to 7 of R78 on an image read through `rd`, for a role (head true); 0 where it is valid. -/
def imageStatus (rd : Nat → Nat → Bytes) (otp : Otp) (head : Bool) : Nat :=
  let h := rd 0 256
  if !headerOk h then ST_BOOT_HEADER_BAD
  else if !manifestOk rd h then ST_BOOT_MANIFEST_BAD
  else if !yildomOk rd h then ST_BOOT_SIG_YILDOM
  else if !ownerOk rd h otp.owner then ST_BOOT_SIG_OWNER
  else if !(manifestOf rd h).all (fun e => sha384 (rd e.off e.len) == e.digest) then ST_BOOT_DIGEST
  else if num h 16 4 < floorValue otp.floor then ST_BOOT_ROLLBACK
  else if !(manifestOf rd h).any (fun e => e.type == 1 && (if head then e.head else e.shelf)) then ST_BOOT_ROLE
  else 0

/-- Read within a NOR copy. -/
def copyRead (nor : Mem) (c : Copy) (off len : Nat) : Bytes := norRead nor (copyBase c + off) len

/-- The image sequence of a copy's header (R69). -/
def copySeq (nor : Mem) (c : Copy) : Nat := num (copyRead nor c 0 256) 12 4

/-- SHA-384 of header bytes 0 to 251 of a copy (R81). -/
def headerHash (nor : Mem) (c : Copy) : Bytes := sha384 (copyRead nor c 0 252)

/-! ### Boot control records -/

/-- Read one boot control record, where it is valid (R81). -/
def bcrRead (nor : Mem) (slot : Nat) : Option Bcr :=
  let b := norRead nor (bcrBase + 4096 * slot) 4096
  if sub b 0 4 == [0x4B, 0x42, 0x43, 0x52] && num b 4092 4 == crc32c (b.take 4092) then
    some ⟨num b 8 4, num b 12 4, num b 16 4, num b 20 1, num b 21 1, sub b 24 48, sub b 72 48, slot⟩
  else none

/-- The current record: the valid one with the higher generation (R81). -/
def bcrCurrent (nor : Mem) : Bcr :=
  match bcrRead nor 0, bcrRead nor 1 with
  | some a, some b => if a.generation < b.generation then b else a
  | some a, none => a
  | none, some b => b
  | none, none => {}

/-- The 4,096 bytes of a record (R81). -/
def bcrBytes (r : Bcr) : Bytes :=
  let body := [0x4B, 0x42, 0x43, 0x52] ++ le 2 1 ++ zeros 2 ++ le 4 r.generation ++ le 4 r.confirmedSeq ++ le 4 r.trialSeq
    ++ le 1 r.trialCopy ++ le 1 r.attempts ++ zeros 2 ++ padTo 48 r.schemaFailA ++ padTo 48 r.schemaFailB ++ zeros 3972
  body ++ le 4 (crc32c body)

/-- Write the next record: the other slot, generation one higher, sector erased first (R81). -/
def State.bcrWrite (s : State) (r : Bcr) : State :=
  let r1 := { r with generation := s.boot.bcr.generation + 1, slot := 1 - s.boot.bcr.slot }
  let base := bcrBase + 4096 * r1.slot
  { s with
    nor := norWrite (norErase s.nor base 4096) base (bcrBytes r1)
    boot := { s.boot with bcr := r1 } }

/-- A copy as TRIAL_COPY holds it (R81). -/
def copyNum : Copy → Nat
  | .a => 0
  | .b => 1

/-- The status of a copy at SELECT: R78, then the schema failure its record remembers (R82). -/
def copyStatus (s : State) (c : Copy) : Nat :=
  let st := imageStatus (copyRead s.nor c) s.otp s.isHead
  let fail := match c with | .a => s.boot.bcr.schemaFailA | .b => s.boot.bcr.schemaFailB
  if st = 0 ∧ ¬ allZero fail ∧ headerHash s.nor c = fail then ST_BOOT_SCHEMA else st

/-- Copies in ranking order: IMAGE_SEQ descending, A before B on equal sequences (R82). -/
def ranked (nor : Mem) (cs : List Copy) : List Copy :=
  match cs with
  | [x, y] => if copySeq nor x < copySeq nor y then [y, x] else [x, y]
  | l => l

/-- A section of a copy for a role, by type: its manifest entry has the role's flag (R70, R84). -/
def sectionOf (nor : Mem) (c : Copy) (head : Bool) (type : Nat) : Option MEntry :=
  (manifestOf (copyRead nor c) (copyRead nor c 0 256)).find? fun e =>
    e.type == type && (if head then e.head else e.shelf)

/-- The bytes of a section; empty where the image has none. -/
def sectionBytes (nor : Mem) (c : Copy) (head : Bool) (type : Nat) : Bytes :=
  match sectionOf nor c head type with
  | some e => copyRead nor c e.off e.len
  | none => []

end Sys2Proof.Machine
end

