-- ==== Sys2Proof/Machine/Mc.lean ====
section
/-! DEFINITION. HBM and the metadata cache (R134, R137 to R148): reads and writes of HBM by address, and the MC operations. -/

namespace Sys2Proof.Machine

/-- What an HBM byte that nothing has written reads as: DESIGN CHOICE (log 4). -/
def hbmDefault : Byte := 0

/-- The set of a line, A[22:8] (R137). -/
def mcSet (line : Nat) : Nat := line % 32768

/-- The lines of a set that are held, locked ones included. -/
def McSt.setLines (m : McSt) (set : Nat) : List (Nat × McLine) := m.lines.filter (fun e => mcSet e.1 == set)

/-- Locked ways of a set: lines in locked ways and empty locked ways (R140). -/
def McSt.lockedWays (m : McSt) (set : Nat) : Nat :=
  ((m.setLines set).filter (·.2.locked)).length + SMap.getD m.emptyLocked set 0

/-- Write a line's 256 bytes to HBM (R137). -/
def hbmPutLine (h : Mem) (line : Nat) (data : Bytes) : Mem := Mem.writeBytes hbmDefault h (line * 256) (data.take 256)

/-- The least recently used unlocked line of a set. -/
def McSt.lruLine (m : McSt) (set : Nat) : Option (Nat × McLine) :=
  ((m.setLines set).filter (fun e => !e.2.locked)).foldl
    (fun acc e => match acc with
      | none => some e
      | some b => if e.2.used < b.2.used then some e else acc) none

/-- Move an evicted line into the victim buffer; the oldest leaves when 64 are held, a dirty one to HBM (R139). -/
def evictTo (mem : MemSt) (m : McSt) (line : Nat) (l : McLine) : MemSt × McSt :=
  let v := m.victim ++ [(line, l.data, l.dirty)]
  if 64 < v.length then
    match v with
    | (ln, d, dirty) :: rest =>
      ((if dirty then { mem with hbm := hbmPutLine mem.hbm ln d } else mem), { m with victim := rest })
    | [] => (mem, m)
  else (mem, { m with victim := v })

/-- Make room for one line in a set whose ways are all taken (R137): the least recently used unlocked line is evicted. -/
def makeRoom (mem : MemSt) (m : McSt) (set : Nat) : MemSt × McSt :=
  if (m.setLines set).length + SMap.getD m.emptyLocked set 0 < 16 then (mem, m)
  else
    match m.lruLine set with
    | none => (mem, m)
    | some (ln, l) => evictTo mem { m with lines := SMap.del m.lines ln } ln l

/-- Bring a line into the MC (R138, R139): a hit stays, a victim is recalled with its dirty state, a miss reads HBM. -/
def mcBring (mem : MemSt) (m : McSt) (line : Nat) : MemSt × McSt :=
  let m1 := { m with clock := m.clock + 1 }
  match SMap.get m1.lines line with
  | some l => (mem, { m1 with lines := SMap.set m1.lines line { l with used := m1.clock } })
  | none =>
    let hit := m1.victim.find? (fun v => v.1 == line)
    let m2 := { m1 with victim := m1.victim.filter (fun v => v.1 != line) }
    let r := makeRoom mem m2 (mcSet line)
    let l : McLine := match hit with
      | some v => ⟨v.2.1, v.2.2, false, m1.clock⟩
      | none => ⟨Mem.readBytes hbmDefault mem.hbm (line * 256) 256, false, false, m1.clock⟩
    (r.1, { r.2 with lines := SMap.set r.2.lines line l })

/-- Read one byte of HBM as a requester on the MC address range sees it. -/
def hbmPeek (mem : MemSt) (m : McSt) (a : Nat) : Byte :=
  if m.enable then
    match SMap.get m.lines (a / 256) with
    | some l => l.data.getD (a % 256) 0
    | none =>
      match m.victim.find? (fun v => v.1 == a / 256) with
      | some v => v.2.1.getD (a % 256) 0
      | none => Mem.read hbmDefault mem.hbm a
  else Mem.read hbmDefault mem.hbm a

/-- The lines a byte range touches. -/
def linesOf (a n : Nat) : List Nat := if n = 0 then [] else (List.range ((a + n - 1) / 256 - a / 256 + 1)).map (a / 256 + ·)

/-- Read `n` bytes of HBM at an MC-range address, filling lines where the MC is enabled. -/
def State.hbmRead (s : State) (a n : Nat) : Bytes × State :=
  let bs := (List.range n).map (fun i => hbmPeek s.mem s.mc (a + i))
  if s.mc.enable then
    let r := (linesOf a n).foldl (fun acc ln => mcBring acc.1 acc.2 ln) (s.mem, s.mc)
    (bs, { s with mem := r.1, mc := r.2 })
  else (bs, s)

/-- The source of a poisoned word's alarm: the stack, address bits [13:12] (R134, R547). -/
def stackSrc (a : Nat) : Nat := srcOf 8 (a / 4096 % 4)

/-- Words of 32 bytes that lie wholly in a range. -/
def wholeWords (a n : Nat) : List Nat :=
  (List.range (n / 32 + 2)).filterMap fun i =>
    let w := a / 32 + i
    if a ≤ w * 32 ∧ w * 32 + 32 ≤ a + n then some w else none

/-- Rewriting a poisoned word mends it; the alarm of its stack clears with the last one (R134, R151). -/
def State.mend (s : State) (a n : Nat) : State :=
  let ws := wholeWords a n
  let hit := s.mem.poison.filter (fun w => ws.contains w)
  if hit.isEmpty then s
  else
    let left := s.mem.poison.filter (fun w => !ws.contains w)
    hit.foldl (fun acc w =>
        if left.any (fun v => v * 32 / 4096 % 4 == w * 32 / 4096 % 4) then acc
        else acc.clearAlarm AL_MC_HBM_UNCORR (stackSrc (w * 32)))
      { s with mem := { s.mem with poison := left } }

/-- Write bytes of one line through the MC. -/
def mcWriteByte (m : McSt) (a : Nat) (b : Byte) : McSt :=
  { m with lines := SMap.modify m.lines (a / 256) (fun l => { l with data := l.data.set (a % 256) b, dirty := true }) }

/-- Write each byte in turn, bringing lines as needed; a write uses its line (R137). -/
def mcWriteGo (mem : MemSt) (m : McSt) : Nat → Bytes → MemSt × McSt
  | _, [] => (mem, m)
  | a, b :: bs =>
    let r := mcBring mem m (a / 256)
    mcWriteGo r.1 (mcWriteByte r.2 a b) (a + 1) bs

/-- Write HBM at an MC-range address: through the MC where it is enabled (R145). -/
def State.hbmWrite (s : State) (a : Nat) (bs : Bytes) : State :=
  let s1 :=
    if s.mc.enable then
      let r := mcWriteGo s.mem s.mc a bs
      { s with mem := r.1, mc := r.2 }
    else { s with mem := { s.mem with hbm := Mem.writeBytes hbmDefault s.mem.hbm a bs } }
  s1.mend a bs.length

/-- Whether a range meets a poisoned word (R134). -/
def State.poisoned (s : State) (a n : Nat) : Bool :=
  n != 0 && s.mem.poison.any (fun w => decide (w * 32 < a + n ∧ a < w * 32 + 32))

/-- Put bytes into HBM from an address on, those of the lines that `lands` takes. -/
def bypassPut (lands : Nat → Bool) (h : Mem) : Nat → Bytes → Mem
  | _, [] => h
  | a, b :: bs => bypassPut lands (if lands (a / 256) then Mem.write hbmDefault h a b else h) (a + 1) bs

/-- A line valid in the MC, or in its victim buffer. -/
def McSt.holds (m : McSt) (line : Nat) : Bool := SMap.has m.lines line || m.victim.any (·.1 == line)

/-- Write through the bypass alias (R148): HBM only, and not seen by the MC. Of a line that the MC holds, whether the data survives is
open (R587): Config says whether it lands (log 11), and the line's next write-back overwrites it. -/
def State.bypassWrite (s : State) (a : Nat) (bs : Bytes) : State :=
  let lands := fun line => !s.mc.holds line || Config.bypassLands s.free s.time.t line bs
  ({ s with mem := { s.mem with hbm := bypassPut lands s.mem.hbm a bs } }).mend a bs.length

/-! ### MC operations (R141) -/

/-- Lines and victims of a range, given as first line and count; `all` takes every one. -/
def inLines (first count : Nat) (ln : Nat) : Bool := decide (first ≤ ln ∧ ln < first + count)

/-- INV_ALL: every line and victim invalid, dirty data discarded, locks kept (R141). -/
def McSt.invAll (m : McSt) : McSt :=
  let keep := (m.lines.filter (·.2.locked)).foldl (fun acc e => SMap.set acc (mcSet e.1) (SMap.getD acc (mcSet e.1) 0 + 1))
    m.emptyLocked
  { m with lines := [], victim := [], emptyLocked := keep, invDone := m.invDone || !m.enable }

/-- Invalidate lines (R141, R142): a locked way stays locked and empty. -/
def McSt.invLines (m : McSt) (p : Nat → Bool) : McSt :=
  let gone := m.lines.filter (fun e => p e.1)
  let keep := (gone.filter (·.2.locked)).foldl (fun acc e => SMap.set acc (mcSet e.1) (SMap.getD acc (mcSet e.1) 0 + 1))
    m.emptyLocked
  { m with lines := m.lines.filter (fun e => !p e.1), victim := m.victim.filter (fun v => !p v.1), emptyLocked := keep }

/-- Write the dirty lines and victims that `p` takes to HBM; they stay, clean (R141). -/
def cleanLines (mem : MemSt) (m : McSt) (p : Nat → Bool) : MemSt × McSt :=
  let h1 := m.lines.foldl (fun h e => if p e.1 && e.2.dirty then hbmPutLine h e.1 e.2.data else h) mem.hbm
  let h2 := m.victim.foldl (fun h v => if p v.1 && v.2.2 then hbmPutLine h v.1 v.2.1 else h) h1
  ({ mem with hbm := h2 },
   { m with
     lines := m.lines.map (fun e => if p e.1 then (e.1, { e.2 with dirty := false }) else e)
     victim := m.victim.map (fun v => if p v.1 then (v.1, v.2.1, false) else v) })

/-- Lock one line (R143): into a locked empty way, or into a new locked way while fewer than four are locked. None where the
set already has four locked ways, none of them empty. A line already locked stays. -/
def lockLine (mem : MemSt) (m : McSt) (line : Nat) : Option (MemSt × McSt) :=
  let set := mcSet line
  match SMap.get m.lines line with
  | some l =>
    if l.locked then some (mem, m)
    else if 0 < SMap.getD m.emptyLocked set 0 then
      some (mem, { m with
        lines := SMap.set m.lines line { l with locked := true }
        emptyLocked := SMap.set m.emptyLocked set (SMap.getD m.emptyLocked set 0 - 1) })
    else if m.lockedWays set < 4 then
      some (mem, { m with lines := SMap.set m.lines line { l with locked := true } })
    else none
  | none =>
    if 0 < SMap.getD m.emptyLocked set 0 then
      let m1 := { m with emptyLocked := SMap.set m.emptyLocked set (SMap.getD m.emptyLocked set 0 - 1) }
      let r := mcBring mem m1 line
      some (r.1, { r.2 with lines := SMap.modify r.2.lines line (fun l => { l with locked := true }) })
    else if m.lockedWays set < 4 then
      let r := mcBring mem m line
      some (r.1, { r.2 with lines := SMap.modify r.2.lines line (fun l => { l with locked := true }) })
    else none

/-- Lock lines in order; the line at which it stopped, where it did (R143). -/
def lockGo : List Nat → MemSt → McSt → MemSt × McSt × Option Nat
  | [], mem, m => (mem, m, none)
  | ln :: lns, mem, m =>
    match lockLine mem m ln with
    | some r => lockGo lns r.1 r.2
    | none => (mem, m, some ln)

/-- Unlock, in every set the range touches, the locked ways holding a line of the range and every empty locked way (R141). -/
def McSt.unlock (m : McSt) (first count : Nat) : McSt :=
  let sets := if 32768 ≤ count then List.range 32768 else (List.range count).map (fun i => mcSet (first + i))
  { m with
    lines := m.lines.map (fun e => if inLines first count e.1 then (e.1, { e.2 with locked := false }) else e)
    emptyLocked := m.emptyLocked.filter (fun e => !sets.contains e.1) }

/-- A slot's registers. -/
def McSt.slot (m : McSt) (i : Nat) : McSlot := m.slots.getD i {}

/-- Store a slot's registers. -/
def McSt.setSlot (m : McSt) (i : Nat) (v : McSlot) : McSt := { m with slots := m.slots.set i v }

/-- First line and line count of a range rounded outward to whole lines (R141). A range of length 0 takes no line: DESIGN CHOICE (log 83). -/
def rangeLines (addr len : Nat) : Nat × Nat :=
  if len = 0 then (addr / 256, 0) else (addr / 256, (addr + len - 1) / 256 - addr / 256 + 1)

/-- Run one operation in a slot to its end (R141, R144): each row of the table is one whole step, so no slot stays busy between steps, and
operations in different slots act in the order of their steps (log 86). Every operation acts on the lines also while ENABLE is 0, LOCK_FILL
too: DESIGN CHOICE (log 83). -/
def State.mcRun (s : State) (i op addr len : Nat) : State :=
  let m0 := s.mc.setSlot i ⟨op, addr, len, 0, false⟩
  let r := rangeLines addr len
  let p := inLines r.1 r.2
  if op = 1 then { s with mc := m0.invAll }
  else if op = 2 then { s with mc := m0.invLines p }
  else if op = 3 then
    let c := cleanLines s.mem m0 p
    { s with mem := c.1, mc := c.2 }
  else if op = 4 then
    let c := cleanLines s.mem m0 p
    { s with mem := c.1, mc := c.2.invLines p }
  else if op = 5 then
    let q := lockGo ((List.range r.2).map (r.1 + ·)) s.mem m0
    { s with
      mem := q.1
      mc := match q.2.2 with
        | none => q.2.1
        | some ln => q.2.1.setSlot i ⟨op, ln * 256, len, ST_MC_LOCK_LIMIT, false⟩ }
  else if op = 6 then { s with mc := m0.unlock r.1 r.2 }
  else if op = 7 then
    let c := cleanLines s.mem m0 (fun _ => true)
    { s with mem := c.1, mc := c.2 }
  else { s with mc := m0 }

/-- A write to MC_CMD: the operation, or, while the slot is busy, ST_MC_BUSY and nothing else (R144). -/
def State.mcCmd (s : State) (i op addr len : Nat) : State :=
  let k := s.mc.slot i
  if k.busy then { s with mc := s.mc.setSlot i { k with status := ST_MC_BUSY } } else s.mcRun i op addr len

/-- A write of 1 to ENABLE (R146). -/
def McSt.enableWrite (m : McSt) : McSt :=
  if m.enable then m
  else if m.invDone then { m with enable := true, invDone := false }
  else { m with lastSt := ST_MC_NOT_INVALIDATED }

/-- For one dirty line discarded when ENABLE is cleared: each 32-byte word of HBM keeps its old data or takes the new, as a
free bit of `pick` says (R147). -/
def mixLine (h : Mem) (line : Nat) (data : Bytes) (pick : Nat) : Mem :=
  (List.range 8).foldl (fun acc w =>
    if bit pick w then Mem.writeBytes hbmDefault acc (line * 256 + 32 * w) (sub data (32 * w) 32) else acc) h

/-- A write of 0 to ENABLE (R147): every line is discarded; dirty words survive or not as free values say. -/
def State.mcDisable (s : State) : State :=
  if !s.mc.enable then s
  else
    let dirty := (s.mc.lines.filter (·.2.dirty)).map (fun e => (e.1, e.2.data))
      ++ (s.mc.victim.filter (·.2.2)).map (fun v => (v.1, v.2.1))
    let r := dirty.foldl (fun (acc : Mem × Nat) d => (mixLine acc.1 d.1 d.2 (Config.freeNat acc.2), acc.2 + 1)) (s.mem.hbm, s.free)
    let m1 := McSt.invAll { s.mc with enable := false, invDone := false }
    { s with
      mem := { s.mem with hbm := r.1 }
      free := r.2
      mc := { m1 with invDone := false } }

/-! ### Meanings -/

/-- MC operations act while the part's firmware or ROM runs with the cache powered: from stage MEMORY on. -/
def State.mcUp (s : State) : Bool := s.live && s.stageFrom .memory

/-- MC_INV_ALL (R141). -/
def execMcInvAll (slot : Fin 8) (s : State) : Res := onlyIf s.mcUp s (fun s => s.mcCmd slot 1 (s.mc.slot slot).addr (s.mc.slot slot).len)

/-- MC_INV_RANGE (R141, R142). -/
def execMcInvRange (slot : Fin 8) (addr len : Nat) (s : State) : Res := onlyIf s.mcUp s (fun s => s.mcCmd slot 2 addr len)

/-- MC_CLEAN_RANGE (R141). -/
def execMcCleanRange (slot : Fin 8) (addr len : Nat) (s : State) : Res := onlyIf s.mcUp s (fun s => s.mcCmd slot 3 addr len)

/-- MC_CLEAN_INV_RANGE (R141, R142). -/
def execMcCleanInvRange (slot : Fin 8) (addr len : Nat) (s : State) : Res := onlyIf s.mcUp s (fun s => s.mcCmd slot 4 addr len)

/-- MC_LOCK_FILL (R143). -/
def execMcLockFill (slot : Fin 8) (addr len : Nat) (s : State) : Res := onlyIf s.mcUp s (fun s => s.mcCmd slot 5 addr len)

/-- MC_UNLOCK_RANGE (R141). -/
def execMcUnlockRange (slot : Fin 8) (addr len : Nat) (s : State) : Res := onlyIf s.mcUp s (fun s => s.mcCmd slot 6 addr len)

/-- MC_CLEAN_ALL (R141). -/
def execMcCleanAll (slot : Fin 8) (s : State) : Res := onlyIf s.mcUp s (fun s => s.mcCmd slot 7 (s.mc.slot slot).addr (s.mc.slot slot).len)

/-- MC_ENABLE (R146). -/
def execMcEnable (s : State) : Res := onlyIf s.mcUp s (fun s => { s with mc := s.mc.enableWrite })

/-- MC_DISABLE (R147). -/
def execMcDisable (s : State) : Res := onlyIf s.mcUp s State.mcDisable

/-- HBM_PATROL_SCRUB (R134): the words a scrub pass found with a single-bit error, and those it could not correct. -/
def execHbmPatrolScrub (corrected uncorrectable : List Nat) (s : State) : Res :=
  onlyIf s.mcUp s fun s =>
    let s1 := corrected.foldl (fun acc w => acc.event EV_MC_CORRECTED (stackSrc (w * 32))) s
    uncorrectable.foldl (fun acc w =>
      State.alarm { acc with mem := { acc.mem with poison := insNat acc.mem.poison w } }
        AL_MC_HBM_UNCORR (stackSrc (w * 32))) s1

/-- A failed stack takes the part out of service: it leaves READY, or stays at its stage (R135). The stage it reports once it has left READY
is JOIN: DESIGN CHOICE (log 79). -/
def State.stackFail (s : State) (k : Nat) : State :=
  let s1 := (State.alarm { s with mem := { s.mem with stackUp := s.mem.stackUp.set k false, stackFailed := true } } AL_MC_HBM_STACK_FAIL (srcOf 8 k))
  if s1.boot.stage = .ready then { s1 with boot := { s1.boot with stage := .join } } else s1

/-- HBM_STACK_FATAL (R135). -/
def execHbmStackFatal (k : Fin 4) (s : State) : Res := onlyIf s.mcUp s (fun s => s.stackFail k)

end Sys2Proof.Machine
end

