-- ==== Sys2Proof/Machine/Boot.lean ====
section
/-! DEFINITION. Boot stages ROM_START to MEMORY (R64, R65, R78 to R84, R607), power domains, recovery mode. -/

namespace Sys2Proof.Machine

/-! ### Power domains -/

/-- Whether a domain is in a head's set, and in a shelf's (R607). -/
def pdHead (d : Nat) : Bool := decide (d ≤ 44 ∨ d = 49)
def pdShelf (d : Nat) : Bool :=
  decide (d ≤ 17 ∨ d = 28 ∨ d = 29 ∨ d = 36 ∨ (45 ≤ d ∧ d ≤ 49))

/-- Whether a domain is in the role's set. -/
def State.pdRole (s : State) (d : Nat) : Bool := (s.isHead && pdHead d) || (s.isShelf && pdShelf d)

/-- A domain's state. -/
def State.pdOf (s : State) (d : Nat) : PdSt := s.power.pd.getD d {}

/-- Whether a domain is on. -/
def State.pdOn (s : State) (d : Nat) : Bool := (s.pdOf d).state == 2

/-- Store a domain's state. -/
def State.setPd (s : State) (d : Nat) (v : PdSt) : State := { s with power := { s.power with pd := s.power.pd.set d v } }

/-- Power a domain up: UP_COUNT counts it (R628). -/
def State.pdUp (s : State) (d : Nat) : State :=
  let v := s.pdOf d
  if v.state = 2 then s else s.setPd d { v with state := 2, upCount := satInc 16 v.upCount }

/-- Power a domain down. -/
def State.pdDown (s : State) (d : Nat) : State := s.setPd d { s.pdOf d with state := 0 }

/-- The domains a stage powers: PD00, PD01 and PD03 from ROM_START (R4, R83), the role's others at DOMAINS (R84). -/
def romDomains : List Nat := [0, 1, 3]

/-- ROLE_USE follows the straps (R628). -/
def State.markRoleUse (s : State) : State :=
  { s with power := { s.power with
      pd := (List.range 50).map (fun d => { s.pdOf d with roleUse := s.pdRole d }) } }

/-! ### Stages -/

/-- BOOT_ROM_START (R2, R4, R65, R93): the ROM writes OTP_FLOOR at every boot; invalid straps hold the part in boot ROM; otherwise xSPI runs in the mode its tables
declare. -/
def execBootRomStart (sfdp8d : Bool) (s : State) : Res :=
  onlyIf (s.live && s.boot.stage == .romStart && !s.boot.strapHeld) s fun s0 =>
    let s := { s0 with boot := { s0.boot with otpFloor := s0.otp.floor } }
    let s1 := romDomains.foldl State.pdUp s.markRoleUse
    if !s.isHead && !s.isShelf then { s1 with boot := { s1.boot with strapHeld := true } }
    else State.toStage { s1 with boot := { s1.boot with xspi8d := sfdp8d } } .select

/-- The selection loop of R82: the copy booted, the trial fields, and the copies skipped as exhausted trials. -/
def selectGo (nor : Mem) : List Copy → Bcr → List Copy → Option Copy × Bcr × List Copy
  | [], r, ex => (none, r, ex)
  | c :: cs, r, ex =>
    let seq := copySeq nor c
    let same := seq == r.trialSeq && r.trialCopy == copyNum c
    if same && decide (3 ≤ r.attempts) then selectGo nor cs r (ex ++ [c])
    else if seq = r.confirmedSeq then (some c, r, ex)
    else (some c, { r with trialSeq := seq, trialCopy := copyNum c, attempts := (if same then r.attempts else 0) + 1 }, ex)

/-- Recovery mode (R83): only PD00, PD01 and PD03 stay powered. -/
def State.enterRecovery (s : State) : State :=
  let s1 := { s with power := { s.power with
      pd := (List.range 50).map (fun d => if romDomains.contains d then s.pdOf d else { s.pdOf d with state := 0 }) } }
  (s1.alarm AL_BOOT_NO_IMAGE 0).toStage .recoveryMode

/-- Set the statuses of both copies (R93). -/
def State.copySts (s : State) (a b : Nat) : State := { s with boot := { s.boot with copyASt := a, copyBSt := b } }

/-- BOOT_SELECT (R78, R81, R82, R83). -/
def execBootSelect (s : State) : Res :=
  onlyIf (s.live && s.boot.stage == .select) s fun s0 =>
    let s := { s0 with boot := { s0.boot with bcr := bcrCurrent s0.nor } }
    let sa := copyStatus s .a
    let sb := copyStatus s .b
    let cands := ranked s.nor ([Copy.a, Copy.b].filter (fun c => (if c = .a then sa else sb) == 0))
    let r := selectGo s.nor cands s.boot.bcr []
    let stOf (c : Copy) (st : Nat) := if r.2.2.contains c then ST_BOOT_TRIAL_EXHAUSTED else st
    let s1 := s.copySts (stOf .a sa) (stOf .b sb)
    let s2 := if r.2.2.isEmpty then s1 else s1.alarm AL_BOOT_TRIAL_FAILED 0
    match r.1 with
    | none => s2.enterRecovery
    | some c =>
      let rank := ranked s.nor ([Copy.a, Copy.b].filter (fun c => headerOk (copyRead s.nor c 0 256)))
      let fb := rank.head? != some c
      let s3 := s2.bcrWrite r.2.1
      let trial := r.2.1.trialSeq == copySeq s.nor c && r.2.1.trialCopy == copyNum c
      let s4 := { s3 with boot := { s3.boot with
          copy := c, trial := trial, fallback := fb, header := copyRead s.nor c 0 252 } }
      (if fb then s4.event EV_BOOT_COPY_FALLBACK 0 else s4).toStage .load

/-- A section's manifest digest; zero where the image has none (R101). -/
def sectionDigest (nor : Mem) (c : Copy) (head : Bool) (type : Nat) : Bytes :=
  match sectionOf nor c head type with
  | some e => e.digest
  | none => zeros 48

/-- BOOT_LOAD (R84, R93, R101): the role's sections into engine memory, the ROM's registers, the measurements. -/
def execBootLoad (s : State) : Res :=
  onlyIf (s.live && s.boot.stage == .load) s fun s =>
    let c := s.boot.copy
    let h := copyRead s.nor c 0 256
    let blk := copyRead s.nor c (num h 56 4) 5600
    let s1 := { s with
      boot := { s.boot with
        imageSeq := num h 12 4, secVersion := num h 16 4, replayId := sub h 32 16, fwVersion := sub h 48 8
        firmware := sectionBytes s.nor c s.isHead 1, profile := sectionBytes s.nor c s.isHead 2
        paramBlock := sectionBytes s.nor c s.isHead 0x10, keyEnv := sectionBytes s.nor c s.isHead 0x11 }
      ledger := { s.ledger with
        meas := {
          rom := Config.romDigest, fw := sectionDigest s.nor c s.isHead 1, profile := sectionDigest s.nor c s.isHead 2
          param := sectionDigest s.nor c s.isHead 0x10, keyEnv := sectionDigest s.nor c s.isHead 0x11
          ystmt := sha384 (sub blk 5472 128), ownerKey := keyDigest (copyRead s.nor c (num h 64 4) 5472) } } }
    s1.toStage .domains

/-- BOOT_DOMAINS (R84, R607): the role's domains come on, and a head's PCIe endpoint is enabled. -/
def execBootDomains (s : State) : Res :=
  onlyIf (s.live && s.boot.stage == .domains) s fun s =>
    let s1 := ((List.range 50).filter s.pdRole).foldl State.pdUp s
    State.toStage { s1 with nvme := { s1.nvme with hpOn := s1.isHead } } .ledgerBegin

/-- A parameter of the loaded block before R79 has run, for the ROM's own use at MEMORY and HEM: its value where the block
passes, else its default. DEDUCED (log 12). -/
def State.romParams (s : State) : List PRec := (parseParams s.boot.paramBlock).getD []

/-- BOOT_MEMORY (R84, R135, R146): every stack must train; then INV_ALL and, with `mc.enable` 1, enable. -/
def execBootMemory (trained : BitVec 4) (s : State) : Res :=
  onlyIf (s.atStage .memory) s fun s =>
    let bad := (List.range 4).filter (fun k => !trained.getLsbD k)
    let s1 := { s with mem := { s.mem with stackUp := (List.range 4).map trained.getLsbD } }
    if !bad.isEmpty then bad.foldl State.stackFail s1
    else
      let m := s1.mc.invAll
      let s2 := { s1 with mc := if paramNat s1.romParams p_mc_enable 0 = 1 then m.enableWrite else m }
      s2.toStage .hem

end Sys2Proof.Machine
end

