-- ==== Sys2Proof/Machine/Section.lean ====
section
/-! DEFINITION. The bytes of bundle sections, bundle headers, journal records and batches, stripe heads and strip headers
(R161, R216, R325, R348, R349, R388). -/

namespace Sys2Proof.Machine

/-! ### Journal records and batches -/

/-- The 128-bit value of a journal record (R325). -/
def jrecValue : JRec → Nat
  | .map ns no id app lost => 1 + ns * 2 ^ 8 + no * 2 ^ 22 + id * 2 ^ 62 + app * 2 ^ 110 + lost * 2 ^ 126
  | .extent ns no count dealloc => 2 + b2n dealloc * 2 ^ 4 + ns * 2 ^ 8 + no * 2 ^ 22 + (count - 1) * 2 ^ 62
  | .resv ns action rtype key => 3 + ns * 2 ^ 8 + action * 2 ^ 22 + rtype * 2 ^ 25 + key * 2 ^ 28
  | .merge l s => 4 + l * 2 ^ 4 + s * 2 ^ 52
  | .reloc id stripe strip granule => 5 + id * 2 ^ 4 + stripe * 2 ^ 52 + strip * 2 ^ 100 + granule * 2 ^ 105
  | .member stripe idx site => 6 + stripe * 2 ^ 4 + idx * 2 ^ 52 + site * 2 ^ 57
  | .repair id => 7 + id * 2 ^ 4

/-- The 16 bytes of a journal record. -/
def jrecBytes (r : JRec) : Bytes := le 16 (jrecValue r)

/-- Record units of a number of records: four to a unit (R161). -/
def recUnits (n : Nat) : Nat := (n + 3) / 4

/-- Units of a class's batch: its header and its record units (R164). -/
def batchUnits (n : Nat) : Nat := 1 + recUnits n

/-- The record units of a batch in order, the last one filled with zeros. -/
def recBytes (rs : List JRec) : Bytes := padTo (64 * recUnits rs.length) (rs.flatMap jrecBytes)

/-- The header unit of a batch (R161). -/
def Batch.header (b : Batch) : Bytes :=
  padTo 64 ([0x48, 0x4A, 0x42, 0x31] ++ le 1 b.stream ++ le 1 b.cls ++ le 2 b.units ++ le 8 b.epn ++ le 8 b.ringSeq
    ++ le 4 b.recs.length ++ le 4 b.bodyCrc ++ le 4 b.firstUnit)

/-! ### Stripes -/

/-- The 24 SITES bytes: 0xFF beyond the members. -/
def sitesBytes (sites : List Nat) : Bytes := (sites.map (BitVec.ofNat 8) ++ List.replicate 24 0xFF).take 24

/-- Bytes 0 to 47 of a stripe record (R349). -/
def stripeHeadBytes (h : StripeHead) : Bytes :=
  le 6 h.stripeId ++ le 1 h.k ++ le 1 h.m ++ le 1 h.state ++ le 1 h.flags ++ zeros 2 ++ le 4 h.layoutGen ++ le 8 h.openEpn
    ++ sitesBytes h.sites

/-- The 256 bytes of a strip header (R348). -/
def stripHeadBytes (h : StripHead) : Bytes :=
  let body := [0x53, 0x54, 0x48, 0x31] ++ le 2 1 ++ le 1 h.member
    ++ le 1 (b2n h.parity + 2 * b2n h.metadata + 4 * b2n h.rebuilt + 8 * b2n h.recovered) ++ le 6 h.stripeId ++ le 1 h.k
    ++ le 1 h.m ++ le 4 h.layoutGen ++ le 4 h.usedGranules ++ le 8 h.closeEpn ++ sitesBytes h.sites ++ le 4 h.empty ++ zeros 188
  body ++ le 4 (crc32c body) ++ zeros 4

/-! ### Section items -/

/-- KIND of a section item (R388). -/
def itemKind : Item → Nat
  | .command _ => 0x01
  | .decision _ _ _ => 0x02
  | .close _ _ _ => 0x03
  | .merge _ _ => 0x04
  | .free _ => 0x05
  | .manager _ => 0x06
  | .openStripe _ => 0x10
  | .chunk _ => 0x11
  | .image _ _ => 0x12
  | .batch _ _ _ => 0x13
  | .records _ _ => 0x14

/-- KIND of R325 that a record SSN carries: MAP, EXTENT or RESV. -/
def recKindNum : RecKind → Nat
  | .chunk _ => 1
  | .extent _ _ _ => 2
  | .resv _ _ _ => 3

/-- Two bits per SSN, lowest first (R388). -/
def kindBits : List RecKind → Nat
  | [] => 0
  | r :: rs => recKindNum r + 4 * kindBits rs

/-- A COMMAND item's payload (R388). -/
def cmdPayload (c : CmdItem) : Bytes :=
  le 4 c.nsid ++ le 1 c.opcode ++ le 1 c.fuse ++ le 2 c.ranges.length ++ le 8 c.firstSsn ++ le 4 c.recs.length ++ le 2 c.cntlid
    ++ zeros 2 ++ c.ranges.flatMap (fun r => le 8 r.slba ++ le 4 r.nlb ++ zeros 4) ++ le ((c.recs.length + 3) / 4) (kindBits c.recs)

/-- A CHUNK item's payload (R388). -/
def chunkPayload (c : ChunkItem) : Bytes :=
  le 8 c.ssn ++ le 1 c.outcome ++ le 1 (b2n c.raw) ++ le 2 c.imageLen ++ le 6 c.chunkId ++ le 6 c.stripeId ++ le 1 c.strip ++ zeros 3
    ++ le 8 c.stagingSsn ++ padTo 32 c.fp

/-- The 160 bytes of a domain key record (R316). -/
def keyRecBytes (r : KeyRec) : Bytes :=
  let body := [0x4B, 0x4B, 0x52, 0x31] ++ le 1 r.domain ++ zeros 3 ++ le 8 r.generation ++ le 8 r.epn ++ padTo 72 r.wrappedData
    ++ padTo 40 r.wrappedFp ++ le 4 r.kekId ++ zeros 16
  body ++ le 4 (crc32c body)

/-- The place of a MANAGER record's kind in MgrRec. -/
def mgrKindNo : MgrRec → Nat
  | .fail _ => 0
  | .absent _ => 1
  | .present _ => 2
  | .spareSet _ => 3
  | .lost _ _ => 4
  | .refoldStart _ _ _ _ _ => 5
  | .refoldDone => 6
  | .shardMove _ _ => 7
  | .shardMoveDone _ => 8
  | .nsCreate _ => 9
  | .nsDelete _ => 10
  | .nsAttach _ _ _ => 11
  | .nsFormat _ => 12
  | .sanitize => 13
  | .domainKey _ => 14
  | .snapDefine _ => 15
  | .snapDelete _ => 16
  | .snapClone _ _ _ => 17
  | .snapRelease _ _ _ => 18
  | .schedAdd _ => 19
  | .schedRemove _ => 20
  | .handback _ _ => 21
  | .leaseMove _ _ => 22
  | .syncOff => 23
  | .syncOn => 24
  | .replKeyGen _ _ _ => 25
  | .ckptDarn _ _ => 26
  | .ckptRefold _ _ _ => 27
  | .ckptRepl _ _ _ _ _ => 28
  | .ledgerArray _ => 29
  | .ledgerJoin _ _ _ _ => 30

/-- A MANAGER record: its kind and the record (R388). The kinds' numbers and the records' layouts are open (log 57) but for the domain key
record's (R316). -/
def mgrPayload (r : MgrRec) : Bytes :=
  le 2 (Config.mgrKind (mgrKindNo r)) ++ (match r with | .domainKey k => keyRecBytes k | _ => Config.mgrBytes r)

/-- The payload of an item (R388). -/
def itemPayload : Item → Bytes
  | .command c => cmdPayload c
  | .decision ssn outcome t => le 8 ssn ++ le 1 outcome ++ le 6 t ++ zeros 1
  | .close h epn ssns => stripeHeadBytes h ++ le 8 epn ++ ssns.flatMap (fun l => le 2 l.length ++ l.flatMap (le 8))
  | .merge l s => le 6 l ++ le 6 s ++ zeros 4
  | .free id => le 6 id ++ zeros 2
  | .manager r => mgrPayload r
  | .openStripe h => stripeHeadBytes h
  | .chunk c => chunkPayload c
  | .image ssn img => le 8 ssn ++ img
  | .batch cls records crc => le 1 cls ++ zeros 3 ++ le 4 records ++ le 4 crc ++ zeros 4
  | .records cls rs => le 1 cls ++ zeros 7 ++ rs.flatMap jrecBytes

/-- An item: its 8-byte head and its payload padded to whole words (R388). -/
def itemBytes (index : Nat) (i : Item) : Bytes :=
  let p := itemPayload i
  let words := (p.length + 7) / 8
  le 1 (itemKind i) ++ zeros 1 ++ le 2 words ++ le 4 index ++ padTo (8 * words) p

/-- The bytes of the items from an index on. -/
def itemsFrom : Nat → List Item → Bytes
  | _, [] => []
  | i, x :: xs => itemBytes i x ++ itemsFrom (i + 1) xs

/-- The bytes of a section. -/
def bundleBytes (items : List Item) : Bytes := itemsFrom 0 items

/-- ITEMS of a header (R216): for a SEAL its decision, close and merge records, for a BODY its chunk records. -/
def countItems (kind : Nat) (items : List Item) : Nat :=
  (items.filter (fun i => if kind = 1 then decide (itemKind i = 2 ∨ itemKind i = 3 ∨ itemKind i = 4) else itemKind i == 0x11)).length

/-! ### Bundle headers -/

/-- The 256 bytes of a bundle header (R216). -/
def bundleHdrBytes (h : BundleHdr) : Bytes :=
  let body := [0x42, 0x44, 0x48, 0x31] ++ le 1 h.stream ++ le 1 h.kind
    ++ le 2 (b2n h.empty + 2 * b2n h.takeover + 4 * b2n h.qualityLow) ++ le 8 h.epn ++ le 8 h.firstSsn ++ le 4 h.ssnCount
    ++ le 4 h.commands ++ le 4 h.items ++ zeros 4 ++ le 8 h.batchSeq ++ le 8 h.releasedSeq ++ le 8 h.sectionLen
    ++ padTo 32 h.sectionDigest ++ padTo 32 h.prevDigest ++ le 8 h.arrayTime ++ zeros 56 ++ [0x42, 0x44, 0x43, 0x31]
  body ++ le 4 (crc32c body) ++ zeros 56

end Sys2Proof.Machine
end

