-- ==== Sys2Proof/Machine/HemView.lean ====
section
/-! DEFINITION. The Hem as bytes (R152, R153, R157, R158, R161, R216, R353, R399, R450, R463, R614): where each record of the firmware's
classes lies, and the hidden CRC of a unit. -/

namespace Sys2Proof.Machine

/-! ### Records at their slots -/

/-- A SIF record (R353). -/
def SifRec.bytes (r : SifRec) : Bytes :=
  [0x53, 0x49, 0x46, 0x31] ++ le 1 r.state ++ le 1 r.k ++ le 1 r.m ++ le 1 r.flags ++ le 6 r.stripeId ++ zeros 2 ++ le 8 r.openEpn
    ++ sitesBytes r.sites ++ le 8 r.closeEpn ++ le 4 r.acked ++ zeros 4

/-- A lease record (R399). -/
def LeaseRec.bytes (r : LeaseRec) : Bytes :=
  let body := [0x4C, 0x53, 0x52, 0x31] ++ zeros 4 ++ le 8 r.leaseGen ++ padTo 16 r.arrayId ++ le 1 r.manager ++ le 1 r.fenced.toNat
    ++ le 1 r.owner0 ++ le 1 r.owner1 ++ zeros 4 ++ le 8 r.grantUntil0 ++ le 8 r.grantUntil1 ++ le 4 r.streamGen0 ++ le 4 r.streamGen1
    ++ le 8 r.resumeSsn0 ++ le 8 r.resumeSsn1 ++ le 8 r.eBase ++ le 8 r.tBase ++ le 8 r.barrierEpn ++ le 8 r.highEpn ++ zeros 136
    ++ [0x4C, 0x53, 0x43, 0x31]
  body ++ le 4 (crc32c body)

/-- An erase-intent record (R463). -/
def Intent.bytes (r : Intent) : Bytes :=
  let body := [0x45, 0x49, 0x52, 0x31] ++ le 1 r.state ++ le 1 r.reason ++ le 1 r.mode ++ zeros 1 ++ le 4 r.block ++ zeros 4 ++ le 8 r.seq
    ++ le 8 r.epn ++ le 4 r.count ++ zeros 24
  body ++ le 4 (crc32c body)

/-- CLASS and STREAM bytes of a tag (R422). -/
def classNum : TagClass → Nat
  | .none => 0 | .append => 1 | .close => 2 | .parity => 3 | .metaPage => 4 | .index => 5 | .drop => 6 | .discard => 7

/-- The PLB_INDEX entry of an item's first sector (R450). -/
def plbEntry (c stream sectors crc seq : Nat) : Bytes := le 1 1 ++ le 1 c ++ le 1 stream ++ le 1 sectors ++ le 4 crc ++ le 8 seq

/-- The PLB_INDEX entries of an item (R450): its first sector's, then the continuations'. -/
def plbEntries (x : Tag × Nat × Nat × Nat) : Bytes :=
  plbEntry (classNum x.1.cls) x.1.stream x.2.1 x.2.2.1 x.1.seq
    ++ (List.range (x.2.1 - 1)).flatMap (fun _ => le 1 2 ++ zeros 3 ++ le 4 x.2.2.2 ++ zeros 8)

/-- An FTL journal record's 16 bytes (R455). -/
def FtlRec.bytes : FtlRec → Bytes
  | .discard strip seq => le 16 (2 + strip % 2 ^ 50 * 2 ^ 4 + seq % 2 ^ 56 * 2 ^ 54)
  | .bad block seq => le 16 (3 + block % 2 ^ 24 * 2 ^ 4 + seq % 2 ^ 56 * 2 ^ 28)
  | .readOnly reason => le 16 (4 + reason % 16 * 2 ^ 4)
  | .dump sectors seq => le 16 (5 + sectors % 2 ^ 32 * 2 ^ 12 + seq % 2 ^ 56 * 2 ^ 44)
  | .flush n => le 16 (6 + n % 2 ^ 60 * 2 ^ 4)

/-- A record with the offset and the bytes of a part of it. -/
abbrev HemItem := HemRec × Nat × Bytes

/-- Record and header units of a sub-ring (R157). -/
def subRingUnits : Nat := 55296

/-- Two batches share a unit of their sub-ring. -/
def Batch.meets (a b : Batch) : Bool :=
  decide ((b.firstUnit + subRingUnits - a.firstUnit) % subRingUnits < a.units + 1 ∨ (a.firstUnit + subRingUnits - b.firstUnit) % subRingUnits < b.units + 1)

/-- The batches that still stand whole in a sub-ring, oldest first. -/
def SubRing.standing (r : SubRing) : List Batch := r.freed ++ r.batches

/-- A batch in its sub-ring (R161): record units from FIRST_UNIT on, wrapping, then the header unit. -/
def Batch.placed (b : Batch) (base units : Nat) : List HemItem :=
  let us := chunksOf 64 (recBytes b.recs) ++ [b.header]
  us.zipIdx.map (fun (x : Bytes × Nat) => (HemRec.batch b.stream b.ringSeq, base + 64 * ((b.firstUnit + x.2) % units), x.1))

/-- Write a checkpoint into the group that does not hold the newest (R160). -/
def CkptPair.put (c : CkptPair) (vals : List Nat) : CkptPair :=
  match c.g0, c.g1 with
  | none, none => { c with g0 := some ⟨1, vals⟩ }
  | some a, none => { c with g1 := some ⟨a.seq + 1, vals⟩ }
  | none, some b => { c with g0 := some ⟨b.seq + 1, vals⟩ }
  | some a, some b => if a.seq < b.seq then { c with g0 := some ⟨b.seq + 1, vals⟩ } else { c with g1 := some ⟨a.seq + 1, vals⟩ }

/-- The group that the next checkpoint of a kind goes to. -/
def CkptPair.next (c : CkptPair) : Bool :=
  match c.g0, c.g1 with
  | none, _ => false
  | some _, none => true
  | some a, some b => decide (b.seq ≤ a.seq)

/-- The newest checkpoint of a kind. -/
def CkptPair.newest (c : CkptPair) : Option Ckpt :=
  match c.g0, c.g1 with
  | none, x => x
  | some a, none => some a
  | some a, some b => if a.seq < b.seq then some b else some a

/-- The values of the newest checkpoint of a pair; none is all zero. -/
def CkptPair.val (c : CkptPair) (i : Nat) : Nat :=
  match c.newest with
  | some k => k.vals.getD i 0
  | none => 0

/-- A checkpoint kind's two slot groups of `n` slots (R160); the manual gives no layout of the content (log 87). -/
def CkptPair.placed (c : CkptPair) (k i kind g0 g1 n : Nat) : List HemItem :=
  [(false, g0, c.g0), (true, g1, c.g1)].filterMap (fun x => x.2.2.map (fun v =>
    (HemRec.ckpt k i x.1, hemSlot x.2.1, (Config.hemRecord kind (v.seq :: v.vals)).take (1024 * n))))

/-- A DIRECTORY copy (R157); the manual gives no layout (log 87). -/
def DirRec.bytes (d : DirRec) : Bytes := Config.hemRecord 0 [d.format, d.role, d.site, leNat d.arrayId]

/-- The power-fail record's state as a number (R614). -/
def PfRecord.num : PfRecord → Nat
  | .blank => 0
  | .armed => 1
  | .asserted => 2
  | .met => 3
  | .reset => 4

/-- DIRECTORY copies and the power-fail record, the last unit of slot 7 (R157, R614). -/
def HemSt.common (h : HemSt) : List HemItem :=
  [(false, 0, h.dir0), (true, 4, h.dir1)].filterMap (fun x => x.2.2.map (fun d => (HemRec.dir x.1, hemSlot x.2.1, (DirRec.bytes d).take 3072)))
    ++ (if h.pf = .blank then [] else [(HemRec.powerFail, hemSlot 8 - 64, (Config.hemRecord 1 [h.pf.num]).take 64)])

/-- The classes of a head (R157). -/
def HemSt.headRecs (h : HemSt) : List HemItem :=
  h.darn.placed 0 0 2 32 64 16 ++ h.darn1.placed 0 1 2 48 80 16 ++ h.refold.placed 1 0 3 96 128 16 ++ h.refold1.placed 1 1 3 112 144 16
    ++ h.repl.placed 2 0 4 160 192 32 ++ h.epoch.placed 3 0 5 224 232 8
    ++ h.sif.map (fun e => (HemRec.sif e.1, hemSlot 256 + 64 * e.1, SifRec.bytes e.2))
    ++ h.bundles.map (fun e => (HemRec.bundle e.1, hemSlot 768 + 256 * e.1, bundleHdrBytes e.2))
    ++ h.s0.standing.flatMap (fun b => b.placed (hemSlot 1280) subRingUnits) ++ h.s1.standing.flatMap (fun b => b.placed (hemSlot 4736) subRingUnits)

/-- Records of the FTL journal's ring (R456): slots 3,168 to 8,191. -/
def ftlRing : Nat := 64 * 5024

/-- A journal head in one of its two slot groups (R456); the manual names its content and gives no layout (log 87). -/
def headPlaced (group : Nat) (h : Nat × Nat × Nat × List Nat) : HemItem :=
  (HemRec.ftlHead, hemSlot (3136 + 16 * group), (Config.hemRecord 6 ([h.1, h.2.1, h.2.2.1] ++ h.2.2.2)).take 16384)

/-- A lease record in one of its two slot groups (R399). -/
def leasePlaced (old : Bool) (no : Nat) (r : LeaseRec) : HemItem := (HemRec.lease old, hemSlot (32 + 16 * (no % 2)), LeaseRec.bytes r)

/-- The classes of a shelf (R158): nothing stands in the FTL journal before its head is first written. -/
def ShelfKeep.recs (k : ShelfKeep) : List HemItem :=
  (match k.leaseOld with | some r => [leasePlaced true k.leaseNo r] | none => [])
    ++ (match k.lease with | some r => [leasePlaced false (k.leaseNo + 1) r] | none => [])
    ++ k.intents.map (fun e => (HemRec.intent e.1, hemSlot 64 + 64 * e.1, Intent.bytes e.2))
    ++ k.plbIndex.zipIdx.map (fun x => (HemRec.plb x.2, hemSlot 1088 + 16 * x.1.2.2.2, plbEntries x.1))
    ++ (match k.oldHead with | some h => [headPlaced ((k.headNo + 1) % 2) h] | none => [])
    ++ (if k.headNo = 0 then [] else [headPlaced (k.headNo % 2) (k.flushNo, k.seq, k.cursor, k.openBlocks)])
    ++ k.records.zipIdx.map (fun x => (HemRec.ftl x.2, hemSlot 3168 + 16 * ((k.ringPos + x.2) % ftlRing), FtlRec.bytes x.1))

/-- The journal head is written, into the group that does not hold the newest (R456): `k` is what stood before. -/
def ShelfKeep.headFrom (n k : ShelfKeep) : ShelfKeep :=
  { n with headNo := k.headNo + 1, oldHead := if k.headNo = 0 then none else some (k.flushNo, k.seq, k.cursor, k.openBlocks) }

/-- Every record of the firmware's classes by offset. -/
def State.hemItems (s : State) : List HemItem :=
  s.hem.common ++ (if s.isShelf then s.keep.recs else s.hem.headRecs)
def State.hemRecs (s : State) : List (Nat × Bytes) := s.hemItems.map (·.2)

/-- A sub-ring. -/
def State.ringHem (s : State) (i : Nat) : SubRing := if i = 0 then s.hem.s0 else s.hem.s1

/-- Store it. -/
def State.setRingHem (s : State) (i : Nat) (r : SubRing) : State :=
  if i = 0 then { s with hem := { s.hem with s0 := r } } else { s with hem := { s.hem with s1 := r } }

/-! ### Bytes and hidden CRCs -/

/-- The Hem's bytes with the firmware's records where one stands. -/
def State.hemShown (s : State) (off n : Nat) : Bytes :=
  let near := s.hemRecs.filter (fun r => decide (r.1 < off + n ∧ off < r.1 + r.2.length))
  Mem.readBytes 0 (near.foldl (fun m r => Mem.writeBytes 0 m r.1 r.2) s.hem.raw) off n

/-- The hidden CRC-32C of a unit's content: its 64 bytes, then its index in 4 bytes (R153). -/
def hemUnitCrc (u : Nat) (bs : Bytes) : Nat := crc32c (bs ++ le 4 u)

/-- Units of a range that were stored by address over a record which the firmware has not written since. -/
def State.overIn (s : State) (off n : Nat) : List Nat :=
  (s.hem.stored.filter (fun e => decide (e.1 * 64 < off + n ∧ off < e.1 * 64 + 64) && e.2 == hemUnitCrc e.1 (s.hemShown (64 * e.1) 64))).map (·.1)

/-- Bytes of the Hem as a load or a descriptor reads them: the firmware's records where one stands (log 87), what was stored by address
elsewhere and over them. -/
def State.hemBytes (s : State) (off n : Nat) : Bytes :=
  let su := s.overIn off n
  let m := Mem.writeBytes 0 [] off (s.hemShown off n)
  let put := fun (m : Mem) (u : Nat) =>
    let a := max off (64 * u)
    Mem.writeBytes 0 m a (Mem.readBytes 0 s.hem.raw a (min (off + n) (64 * u + 64) - a))
  if su.isEmpty then s.hemShown off n else Mem.readBytes 0 (su.foldl put m) off n

/-- The CRC stored beside a unit (R153). -/
def State.hemStoredCrc (s : State) (u : Nat) : Nat :=
  let now := hemUnitCrc u (s.hemBytes (64 * u) 64)
  match SMap.get s.hem.badCrc u with
  | some c => if now = c.2 then c.1 else now
  | none => now

/-- A unit whose CRC does not match (R155). -/
def State.unitBad (s : State) (u : Nat) : Bool := s.hemStoredCrc u != hemUnitCrc u (s.hemBytes (64 * u) 64)

/-- The bytes of some records stay behind where they stand, under whatever takes their place: a unit keeps its content until it is written
anew (R153). -/
def State.leaveItems (s : State) (items : List (Nat × Bytes)) : State :=
  { s with hem := { s.hem with raw := items.foldl (fun m x => Mem.writeBytes 0 m x.1 (s.hemBytes x.1 x.2.length)) s.hem.raw } }

/-- The records that `p` takes leave their bytes behind. -/
def State.leave (s : State) (p : HemRec → Bool) : State :=
  s.leaveItems ((s.hemItems.filter (fun x => p x.1)).map (·.2))

/-- A record of the classes that a rejoining head discards (R407). -/
def isJoinRec : HemRec → Bool
  | .batch _ _ | .sif _ | .bundle _ => true
  | .dir _ | .powerFail | .ledger | .ckpt _ _ _ | .lease _ | .intent _ | .plb _ | .ftlHead | .ftl _ | .unit _ _ => false

/-- The JOURNAL, BUNDLE and SIF classes are discarded (R407); what a unit holds it holds until it is written anew. -/
def State.dropJoinRecs (s : State) : State :=
  let s1 := s.leave isJoinRec
  let h := s1.hem
  { s1 with hem := { h with
      s0 := { h.s0 with batches := [], freed := [] }, s1 := { h.s1 with batches := [], freed := [] }, sif := [], looseSif := [], bundles := [] } }

/-- Bundle headers are discarded, leaving their bytes. -/
def State.dropHeaders (s : State) (p : BundleHdr → Bool) : State :=
  let s1 := s.leave (fun r => match r with
    | .bundle i => (match SMap.get s.hem.bundles i with | some h => p h | none => false)
    | .dir _ | .powerFail | .ledger | .batch _ _ | .sif _ | .ckpt _ _ _ | .lease _ | .intent _ | .plb _ | .ftlHead | .ftl _ | .unit _ _ => false)
  { s1 with hem := { s1.hem with bundles := SMap.keep s1.hem.bundles (fun _ h => !p h) } }

/-- Batches are discarded from a sub-ring, leaving their bytes. -/
def State.dropBatches (s : State) (i : Nat) (p : Batch → Bool) : State :=
  let s1 := s.leave (fun r => match r with
    | .batch j q => i == j && (s.ringHem i).standing.any (fun b => b.ringSeq == q && p b)
    | .dir _ | .powerFail | .ledger | .bundle _ | .sif _ | .ckpt _ _ _ | .lease _ | .intent _ | .plb _ | .ftlHead | .ftl _ | .unit _ _ => false)
  let r := s1.ringHem i
  s1.setRingHem i { r with batches := r.batches.filter (fun b => !p b), freed := r.freed.filter (fun b => !p b) }

/-- The reserved slots of a head's Hem hold zeros, whatever is stored there (R157). -/
def State.hemReserve (s : State) : State :=
  { s with hem := { s.hem with raw := s.hem.raw.filter (fun c => !decide (hemSlot 240 ≤ c.1 ∧ c.1 < hemSlot 256)) } }

/-- Store bytes into the Hem by address (R153): a partly written unit keeps its other bytes, every unit written has a matching CRC, and a unit
of a record of the firmware is marked as stored over. A head's reserved slots stay zero (R157). -/
def State.hemStore (s : State) (off : Nat) (bs : Bytes) : State :=
  let first := off / 64
  let last := (off + bs.length + 63) / 64
  let held := fun (u : Nat) => s.hemRecs.any (fun r => decide (r.1 < 64 * u + 64 ∧ 64 * u < r.1 + r.2.length))
  let us := ((List.range (last - first)).map (· + first)).filter held
  let s1 := us.foldl (fun acc u => acc.hemPut (64 * u) (s.hemBytes (64 * u) 64)) s
  let s2 := s1.hemPut off bs
  let s3 := if s2.isHead then s2.hemReserve else s2
  { s3 with hem := { s3.hem with stored := us.foldl (fun m u => SMap.set m u (hemUnitCrc u (s3.hemShown (64 * u) 64))) s3.hem.stored } }

/-- The records that a unit belongs to. -/
def State.recsAt (s : State) (u : Nat) : List HemRec :=
  ((s.hemItems.filter (fun r => decide (r.2.1 < 64 * u + 64 ∧ 64 * u < r.2.1 + r.2.2.length))).map (·.1)).eraseDups
    ++ (if s.hem.staging.present ∧ hemSlot 8 ≤ 64 * u ∧ 64 * u < hemSlot 8 + 4880 then [HemRec.ledger] else [])

/-- Units of a range whose CRC does not match (R155); only a unit with a CRC stored otherwise can be one. -/
def State.badIn (s : State) (off n : Nat) : List Nat :=
  if n = 0 then [] else (SMap.keys s.hem.badCrc).filter (fun u => decide (u * 64 < off + n ∧ off < u * 64 + 64) && s.unitBad u)

/-- Whether a range meets a Hem unit whose CRC does not match (R155). -/
def State.hemBad (s : State) (off n : Nat) : Bool := !(s.badIn off n).isEmpty

/-- A unit lies in a record of the firmware or in the ledger class: a committed record (R155). -/
def State.inRecord (s : State) (u : Nat) : Bool :=
  decide (hemSlot 8 ≤ 64 * u ∧ 64 * u < hemSlot 32) || s.hemRecs.any (fun r => decide (r.1 < 64 * u + 64 ∧ 64 * u < r.1 + r.2.length))

/-- A read found units whose CRC does not match: each counted and reported, with the alarm where it belongs to a committed record (R155,
R172). -/
def State.hemCrc (s : State) (us : List Nat) : State :=
  us.foldl (fun acc u =>
    let a := State.event { acc with hem := { acc.hem with crcErrs := satInc 16 acc.hem.crcErrs } } EV_HEM_CRC 0
    if a.inRecord u then a.alarm AL_HEM_CRC 0 else a) s

end Sys2Proof.Machine
end

