-- ==== Sys2Proof/Machine/MemMap.lean ====
section
/-! DEFINITION. The physical address map (R126, R127) and block DMA: reads and writes by address, with the statuses a descriptor
ends with where a read fails. -/

namespace Sys2Proof.Machine

/-- The areas of R126. -/
inductive Area where
  | hbm | hem | csr | scratch | rom | bypass | absent
  deriving DecidableEq, Repr

/-- HBM bytes, 192 GiB. -/
def hbmSize : Nat := 0x3000000000

/-- Starts of the areas of R126. -/
def hemBase : Nat := 0x4000000000
def csrBase : Nat := 0x5000000000
def scratchBase : Nat := 0x6000000000
def romBase : Nat := 0x7000000000
def bypassBase : Nat := 0x8000000000

/-- The area an address lies in (R126); of each scratch MiB the first 256 KiB are populated. -/
def areaOf (a : Nat) : Area :=
  if a < hbmSize then .hbm
  else if hemBase ≤ a ∧ a < hemBase + 0x800000 then .hem
  else if csrBase ≤ a ∧ a < csrBase + 0x100000000 then .csr
  else if scratchBase ≤ a ∧ a < scratchBase + 0x3000000 ∧ a % 0x100000 < 0x40000 then .scratch
  else if romBase ≤ a ∧ a < romBase + 0x100000 then .rom
  else if bypassBase ≤ a ∧ a < bypassBase + hbmSize then .bypass
  else .absent

/-- Whether a byte range lies wholly in one area (and, in scratch, in one engine's). -/
def inOneArea (a n : Nat) : Bool :=
  n == 0 || (areaOf a == areaOf (a + n - 1) && (areaOf a != .scratch || a / 0x100000 == (a + n - 1) / 0x100000))

/-- Whether block DMA reaches every byte of a range (R126). -/
def dmaReach (a n : Nat) : Bool :=
  n == 0 || (inOneArea a n &&
    (match areaOf a with
     | .hbm => true | .hem => true | .scratch => true | .bypass => true
     | .csr => false | .rom => false | .absent => false))

/-- Whether a range lies wholly in HBM through the MC, or wholly in one engine's scratch (R124, R630). An address of the bypass alias is none
of HBM's here: DESIGN CHOICE (log 98). -/
def inHbmOrScratch (a n : Nat) : Bool := inOneArea a n && (areaOf a == .hbm || areaOf a == .scratch)

/-- Read a reachable range by DMA: status (0, ST_MC_POISON, ST_HEM_CRC), bytes, and the state with any filled lines. An empty range
names no address. -/
def State.dmaRead (s : State) (a n : Nat) : Nat × Bytes × State :=
  if n = 0 then (0, [], s)
  else match areaOf a with
  | .hbm =>
    if s.poisoned a n then (ST_MC_POISON, [], s)
    else
      let r := s.hbmRead a n
      (0, r.1, r.2)
  | .bypass =>
    if s.poisoned (a - bypassBase) n then (ST_MC_POISON, [], s)
    else (0, Mem.readBytes hbmDefault s.mem.hbm (a - bypassBase) n, s)
  | .hem =>
    if s.hemBad (a - hemBase) n then (ST_HEM_CRC, [], s.hemCrc (s.badIn (a - hemBase) n))
    else (0, s.hemBytes (a - hemBase) n, s)
  | .scratch => (0, Mem.readBytes 0 s.mem.scratch a n, s)
  | .csr => (ST_ENGINE_ADDR_FAULT, [], s)
  | .rom => (ST_ENGINE_ADDR_FAULT, [], s)
  | .absent => (ST_ENGINE_ADDR_FAULT, [], s)

/-- Write bytes by DMA to a reachable range. What is written to the Hem stands from then on, also where power is lost before the completion
is posted: DESIGN CHOICE (log 96). -/
def State.dmaWrite (s : State) (a : Nat) (bs : Bytes) : State :=
  match areaOf a with
  | .hbm => s.hbmWrite a bs
  | .bypass => s.bypassWrite (a - bypassBase) bs
  | .hem => s.hemStore (a - hemBase) bs
  | .scratch => { s with mem := { s.mem with scratch := Mem.writeBytes 0 s.mem.scratch a bs } }
  | .csr => s
  | .rom => s
  | .absent => s

/-- Read a list of ranges in order; the first failing status ends it. -/
def dmaReadGo (s : State) : List (Nat × Nat) → Bytes → Nat × Bytes × State
  | [], acc => (0, acc, s)
  | (a, n) :: rest, acc =>
    let r := s.dmaRead a n
    if r.1 = 0 then dmaReadGo r.2.2 rest (acc ++ r.2.1) else (r.1, [], r.2.2)

/-- Read a list of ranges as one byte string. -/
def State.dmaGather (s : State) (rs : List (Nat × Nat)) : Nat × Bytes × State := dmaReadGo s rs []

/-- Write one byte string over a list of ranges in order. -/
def dmaWriteGo : State → List (Nat × Nat) → Bytes → State
  | s, [], _ => s
  | s, (a, n) :: rest, bs => dmaWriteGo (s.dmaWrite a (bs.take n)) rest (bs.drop n)

/-- Read without a check of poison or CRC, for what the hardware holds elsewhere. -/
def State.peek (s : State) (a n : Nat) : Bytes :=
  match areaOf a with
  | .hbm => (List.range n).map (fun i => hbmPeek s.mem s.mc (a + i))
  | .bypass => Mem.readBytes hbmDefault s.mem.hbm (a - bypassBase) n
  | .hem => s.hemBytes (a - hemBase) n
  | .scratch => Mem.readBytes 0 s.mem.scratch a n
  | .csr => zeros n
  | .rom => zeros n
  | .absent => zeros n

/-- A read of a reachable range ends with a status of its own: a poisoned word (R134), a Hem unit whose CRC does not match (R155). -/
def State.readFails (s : State) (a n : Nat) : Bool :=
  match areaOf a with
  | .hbm => s.poisoned a n
  | .bypass => s.poisoned (a - bypassBase) n
  | .hem => s.hemBad (a - hemBase) n
  | .scratch => false
  | .csr => false
  | .rom => false
  | .absent => false

/-- Whether two byte ranges share a byte. -/
def overlap (x n y m : Nat) : Bool := n != 0 && m != 0 && decide (x < y + m ∧ y < x + n)

/-! ### The regions of HBM (R136) -/

/-- Regions of a role with their sizes in MiB, in the table's order (R136). -/
def regionSizes (head : Bool) : List (HbmUse × Nat) :=
  [(.firmware, 2048), (.rings, 1024), (.events, 256)]
    ++ (if head then [(.writeBuffer, 16384), (.queueContexts, 2048), (.volumeMap, 174848)]
        else [(.powerSafe, 8192), (.stripMap, 32768), (.indexTags, 152320)])

/-- Place regions one behind another. -/
def placeRegions : Nat → List (HbmUse × Nat) → List HbmRegion
  | _, [] => []
  | a, (u, n) :: rest => ⟨u, a, n * 1048576⟩ :: placeRegions (a + n * 1048576) rest

/-- The firmware places its regions at stage FIRMWARE and does not move them (R136). The rule fixes no addresses: in the table's order from
address 0, DESIGN CHOICE (log 85). -/
def State.placeHbm (s : State) : State := { s with mem := { s.mem with regions := placeRegions 0 (regionSizes s.isHead) } }

/-- The CSR instance an address names (R127): block, instance, offset. -/
def csrAt (a : Nat) : Nat × Nat × Nat :=
  ((a - csrBase) / 0x1000000, (a - csrBase) / 0x10000 % 256, (a - csrBase) % 0x10000)

end Sys2Proof.Machine
end

