-- ==== Sys2Proof/Machine/Rings.lean ====
section
/-! DEFINITION. Engines, rings and completions (R119 to R133, R630): the Yildom instructions, ring entries, posting, completion
rings, and the descriptors a block has fetched. -/

namespace Sys2Proof.Machine

/-! ### Ring entries -/

/-- Store a ring's entry. -/
def State.setRing (s : State) (n : Nat) (r : Ring) : State :=
  { s with ring := { s.ring with rings := SMap.set s.ring.rings n r } }

/-- Entries of a ring. -/
def Ring.size (r : Ring) : Nat := 2 ^ r.log2

/-- CTRL.COMPLETION (R128). -/
def Ring.isCq (r : Ring) : Bool := bit r.ctrl 1

/-- The ring takes part in posting and completing: ENABLE set, or cleared with the clear still to take effect (R129). -/
def Ring.on (r : Ring) : Bool := (bit r.ctrl 0 || r.clearing) && !r.domainOff

/-- Entries held: from HEAD to TAIL, wrapping. -/
def Ring.held (r : Ring) : Nat := (r.tail + r.size - r.head % r.size) % r.size

/-- A ring is full when it holds one entry fewer than its size (R124, R133). -/
def Ring.full (r : Ring) : Bool := r.held + 1 == r.size

/-- Instances a block provides, in each role, by its number: those that its registers (R585, R628) or its rings (R131, R273, R299, R435) name,
none where the role leaves the block unpowered (R20), and none of FLASH, which fetches from no ring (R483). That the blocks with neither count
(NVME, STRIPE) provide none, and that a shelf provides the two spoke instances that its links use, are DEDUCED (log 97). -/
def State.ringInstances (s : State) (block : Nat) : Nat :=
  let head := fun n => if s.isHead then n else 0
  if block = 4 || block = 5 then head 2
  else if block = 6 then head 64
  else if block = 8 then (if s.isHead then 64 else 2)
  else if block = 11 then head 16
  else if block = 12 || block = 0x12 then head 1
  else if block = 10 then (if s.isHead then 0 else 1)
  else if block = 0x10 then 128
  else if [1, 2, 3, 7, 14, 15, 0x13].contains block then 1
  else 0

/-- An instance of a block that a ring's TARGET may name (R630): POWER's are 0, 1 to 50 for its domains and 64 to 127 for its sensors (R628). -/
def State.ringTarget (s : State) (block inst : Nat) : Bool :=
  decide (inst < s.ringInstances block) && !(block == 0x10 && decide (50 < inst ∧ inst < 64))

/-- A block instance's power domains are off (R251, R272, R308, R607): both Match halves, every Press cluster, the cipher quad that holds the
key slots, the octet of a spoke port, the quad of an Ethernet port. -/
def State.instOff (s : State) (block inst : Nat) : Bool :=
  if block = 4 then !s.pdOn 18 && !s.pdOn 19
  else if block = 5 then [20, 21, 22, 23].all (fun d => !s.pdOn d)
  else if block = 6 then !s.pdOn 24
  else if block = 8 then !s.pdOn (36 + inst / 8)
  else if block = 11 then !s.pdOn (32 + inst / 4)
  else false

/-- Whether an entry is fit for use (R630). -/
def State.ringFit (s : State) (r : Ring) : Bool :=
  decide (6 ≤ r.log2 ∧ r.log2 ≤ 16 ∧ r.ctrl < 4) && r.base % 64 == 0
    && inHbmOrScratch r.base (r.size * (if r.isCq then 16 else 64))
    && (r.isCq || s.ringTarget (r.target / 256) (r.target % 256))

/-- The 16 bytes of an entry (R128). -/
def Ring.bytes (r : Ring) : Bytes :=
  le 6 r.base ++ le 1 r.log2 ++ le 1 r.ctrl ++ le 2 r.target ++ le 2 r.cq ++ le 2 r.head ++ le 2 r.tail

/-- An entry with the fields of 16 bytes, HEAD kept (RO). -/
def Ring.ofBytes (r : Ring) (b : Bytes) : Ring :=
  { r with base := num b 0 6, log2 := num b 6 1, ctrl := num b 7 1, target := num b 8 2, cq := num b 10 2, tail := num b 14 2 }

/-! ### Completions -/

/-- Whether a completion ring can take a completion (R133). -/
def Ring.takes (r : Ring) : Bool := r.on && r.isCq && !r.full

/-- The 16 bytes of a completion (R132). -/
def Cpl.bytes (c : Cpl) (phase : Bool) : Bytes :=
  le 4 c.tag ++ le 2 c.status ++ le 1 (b2n phase) ++ le 1 0 ++ le 4 c.consumed ++ le 4 c.produced

/-- Write one completion at a completion ring's TAIL (R132): PHASE flips as the ring wraps; NOTIFY interrupts the engines that
wait on it (R131); on a ring misused under R587 the bytes are free. -/
def State.writeCpl (s : State) (h : HeldCpl) : State :=
  let r := s.ringOf h.cq
  let bs := if r.wild then s.takeFreeBytes 16 else (h.cpl.bytes r.phase, s)
  let s1 := bs.2.dmaWrite (r.base + 16 * (r.tail % r.size)) bs.1
  let wrap := (r.tail + 1) % r.size == 0
  let s2 := s1.setRing h.cq { r with tail := (r.tail + 1) % r.size, phase := if wrap then !r.phase else r.phase }
  let s3 := if h.notify then
      { s2 with eng := s2.eng.map (fun e =>
          match e.wait with
          | .ring _ ring _ => if ring = h.cq then { e with ringIrq := true } else e
          | .no => e
          | .epn _ _ => e) }
    else s2
  s3.wake

/-- Hand a completion to its ring, or hold it (R133). -/
def State.pushCpl (s : State) (h : HeldCpl) : State :=
  if (s.ringOf h.cq).takes && !(s.ring.held.any (·.cq == h.cq)) then s.writeCpl h
  else { s with ring := { s.ring with held := s.ring.held ++ [h] } }

/-- Hand over, in completion order, the held completions of a list (R133). -/
def drainHeld : List HeldCpl → State → State
  | [], s => s
  | h :: rest, s => drainHeld rest (s.pushCpl h)

/-- Release what rings can take now. -/
def State.drainCpls (s : State) : State := drainHeld s.ring.held { s with ring := { s.ring with held := [] } }

/-! ### Jobs -/

/-- A fetched descriptor by its number. -/
def State.job (s : State) (n : Nat) : Option Job := SMap.get s.ring.jobs n

/-- Change a job's standing. -/
def State.setJob (s : State) (n : Nat) (st : JobSt) : State :=
  { s with ring := { s.ring with jobs := SMap.modify s.ring.jobs n (fun j => { j with st := st }) } }

/-- End a job's operation: its completion waits to be written. -/
def State.endJob (s : State) (n status consumed produced : Nat) : State := s.setJob n (.done status consumed produced)

/-- Whether a job runs. -/
def Job.isRunning (j : Job) : Bool :=
  match j.st with
  | .running _ => true
  | .waiting => false
  | .preempted _ => false
  | .done _ _ _ => false

/-- The unit a job runs on. -/
def Job.unit (j : Job) : Option Nat :=
  match j.st with
  | .running u => some u
  | .waiting => none
  | .preempted _ => none
  | .done _ _ _ => none

/-- The jobs of a block instance that are not done. -/
def State.jobsOf (s : State) (block inst : Nat) : List (Nat × Job) :=
  s.ring.jobs.filter (fun e => e.2.block == block && e.2.inst == inst
    && (match e.2.st with | .done _ _ _ => false | .waiting => true | .preempted _ => true | .running _ => true))

/-- Run an operation on a running job of a block whose descriptor carries one of the opcodes; anything else is no step. -/
def State.onJob (s : State) (n block : Nat) (ops : List Nat) (f : Job → State → State) : Res :=
  match s.job n with
  | none => .next s
  | some j => onlyIf (s.fw && j.block == block && j.isRunning && ops.contains (num j.desc 0 2)) s (f j)

/-! ### Posting -/

/-- Whether a ring's STAMP flag (header FLAGS bit 2) is set in a descriptor. -/
def descStamp (d : Bytes) : Bool := bit (num d 3 1) 2

/-- Replace bytes of a string from an offset. -/
def overlay (bs : Bytes) (off : Nat) (v : Bytes) : Bytes := bs.take off ++ v ++ bs.drop (off + v.length)

/-- The 64 bytes a post copies (R124): from an aligned source in scratch or HBM; any other source gives free bytes (R587). -/
def State.postSource (s : State) (src : Nat) : Bytes × State :=
  if src % 64 = 0 && inHbmOrScratch src 64 then
    let r := s.dmaRead src 64
    (r.2.1, r.2.2)
  else s.takeFreeBytes 64

/-- DPOST's effect on a ring, and the status left in rd (R124). -/
def State.dpost (s : State) (src ring : Nat) : Nat × State :=
  let r := s.ringOf ring
  if !r.on || r.isCq then (ST_ENGINE_RING_OFF, s)
  else if r.full then (ST_ENGINE_RING_FULL, s)
  else
    let d := s.postSource src
    let d1 := if descStamp d.1 then overlay d.1 12 (le 4 d.2.epn) else d.1
    let s1 := d.2.dmaWrite (r.base + 64 * (r.tail % r.size)) d1
    (0, s1.setRing ring { r with tail := (r.tail + 1) % r.size })

/-- An engine. -/
def State.engine (s : State) (e : Nat) : EngSt := s.eng.getD e {}

/-- Store an engine. -/
def State.setEngine (s : State) (e : Nat) (v : EngSt) : State := { s with eng := s.eng.set e v }

/-- An engine can execute: started, not parked, not waiting. -/
def State.engRuns (s : State) (e : Nat) : Bool :=
  s.fw && (s.engine e).started && !(s.engine e).parked && (s.engine e).wait == .no

/-- Whether an engine's load of a post's source takes an access fault: a poisoned word (R134), an address that the map does not list (R126),
a Hem unit whose CRC does not match (R155). -/
def State.postFaults (s : State) (src : Nat) : Bool :=
  areaOf src == .absent || s.readFails src 64

/-- DPOST (R123, R124): rs1 and rs2 are the values of the two source registers. An access fault on the source comes before the statuses of the
ring: DESIGN CHOICE (log 19). -/
def execDpost (e : Fin 48) (rd : Fin 32) (rs1 rs2 : Nat) (s : State) : Res :=
  onlyIf (s.engRuns e) s fun s =>
    if s.postFaults rs1 then
      let s1 := if areaOf rs1 = .hem then s.hemCrc (s.badIn (rs1 - hemBase) 64) else s
      s1.setEngine e { s1.engine e with exc := 6 }
    else
      let r := s.dpost rs1 (rs2 % 4096)
      r.2.setEngine e ((r.2.engine e).put rd r.1)

/-- RWAIT (R123, R125): ends at once where an entry is unread, the deadline has passed or a timer interrupt is pending. A new RWAIT acknowledges
a ring-completion interrupt, PHTARM a timer interrupt, and nothing else does: DESIGN CHOICE (log 19). -/
def execRwait (e : Fin 48) (rd : Fin 32) (rs1 rs2 : Nat) (s : State) : Res :=
  onlyIf (s.engRuns e) s fun s =>
    (s.setEngine e { s.engine e with wait := .ring rd (rs1 % 4096) rs2, ringIrq := false }).wake

/-- EWAIT (R123, R125). -/
def execEwait (e : Fin 48) (rd : Fin 32) (rs1 : Nat) (s : State) : Res :=
  onlyIf (s.engRuns e) s fun s => (s.setEngine e { s.engine e with wait := .epn rd rs1 }).wake

/-- PHTIME (R123, R125): `cyc` is how many engine cycles have passed since the last tick. -/
def execPhtime (e : Fin 48) (rd : Fin 32) (cyc : Fin 22) (s : State) : Res :=
  onlyIf (s.engRuns e) s fun s => s.setEngine e ((s.engine e).put rd (s.phaseTimer + cyc))

/-- PHTARM (R123, R125): arms the phase-timer interrupt, 0 disarms; a pending one is withdrawn (log 19). -/
def execPhtarm (e : Fin 48) (rs1 : Nat) (s : State) : Res :=
  onlyIf (s.engRuns e) s fun s => s.setEngine e { s.engine e with timerArm := rs1, timerIrq := false }

/-- PHASE_TIMER_INTERRUPT (R125): the timer equals or passes the armed value, at or above L x 22 not in this epoch. T is then at
least the tick of that value. -/
def execPhaseTimerInterrupt (e : Fin 48) (s : State) : Res :=
  onlyIf (s.fw && s.time.tSet && (s.engine e).timerArm != 0 && decide ((s.engine e).timerArm < s.epochLen * 22)) s fun s =>
    let at' := s.epochStart s.epn + (s.engine e).timerArm / 22
    let s1 := s.setEngine e { s.engine e with timerArm := 0, timerIrq := true }
    s1.setT (max s.time.t at')

/-- A register field of an instruction word: five bits from the lowest given. -/
def regField (w : BitVec 32) (low : Nat) : Fin 32 := ⟨w.toNat / 2 ^ low % 32, Nat.mod_lt _ (by decide)⟩

/-- The command that a Yildom word is on an engine (R123): opcode, funct3 and funct7 name it, rd the result register, rs1 and rs2 the registers
whose values it takes. `cyc` is where the engine's cycle stands for PHTIME. A word that the table does not list is none. -/
def yildomOf (e : Fin 48) (v : EngSt) (cyc : Fin 22) (w : BitVec 32) : Option Instr :=
  let rd := regField w 7
  let rs1 := v.get (regField w 15)
  let rs2 := v.get (regField w 20)
  if w.toNat / 2 ^ 25 ≠ 0 then none
  else match w.toNat % 128, w.toNat / 4096 % 8 with
    | 0x0B, 0 => some (.dpost e rd rs1 rs2)
    | 0x0B, 1 => some (.rwait e rd rs1 rs2)
    | 0x2B, 0 => some (.ewait e rd rs1)
    | 0x2B, 1 => some (.phtime e rd cyc)
    | 0x2B, 2 => some (.phtarm e rs1)
    | _, _ => none

/-- The Yildom word is one the table of R123 defines. -/
def yildomDefined (w : BitVec 32) : Bool := (yildomOf 0 {} 0 w).isSome

/-- The word lies in one of the two custom opcode spaces (R123). -/
def yildomSpace (w : BitVec 32) : Bool := w.toNat % 128 == 0x0B || w.toNat % 128 == 0x2B

/-- YILDOM_ILLEGAL_INSTRUCTION (R123): an undefined word of the two spaces raises an illegal-instruction exception. -/
def execYildomIllegalInstruction (e : Fin 48) (w : BitVec 32) (s : State) : Res :=
  onlyIf (s.engRuns e && yildomSpace w && !yildomDefined w) s fun s => s.setEngine e { s.engine e with exc := 3 }

/-- The source of an engine (R547). -/
def engSrc (e : Nat) : Nat := srcOf 5 e

/-- ENGINE_TRAP (R150): the engine takes an exception its firmware does not expect, and is parked. -/
def execEngineTrap (e : Fin 48) (cause : Fin 64) (s : State) : Res :=
  onlyIf (s.fw && (s.engine e).started) s fun s =>
    (s.setEngine e { s.engine e with exc := cause + 1, parked := true, wait := .no }).alarm AL_ENGINE_TRAP (engSrc e)

/-! ### Ring control -/

/-- Write the entry's bytes from an offset (R128, R129, R587, R630). While a clear waits, only HEAD of a completion ring moves.
While ENABLE is 1, a write that clears ENABLE and changes nothing else waits for the boundary; any other write leaves the ring's
fetches and completions unpredictable. The PHASE of a completion ring runs on over a disable: DESIGN CHOICE (log 82). -/
def State.ringWrite (s : State) (n off : Nat) (v : Bytes) : State :=
  let r := s.ringOf n
  let new := r.ofBytes (overlay r.bytes off v)
  let headTo := num (overlay r.bytes off v) 12 2
  let headOnly := off == 12 && v.length == 2 && r.isCq
  if headOnly && r.on then
    let h := headTo % r.size
    let moved := (h + r.size - r.head) % r.size
    (s.setRing n { r with head := h, wild := r.wild || decide (r.held < moved) }).drainCpls
  else if r.clearing then s
  else if bit r.ctrl 0 then
    if new = { r with ctrl := new.ctrl } ∧ new.ctrl + 1 = r.ctrl then s.setRing n { r with ctrl := new.ctrl, clearing := true }
    else s.setRing n { new with wild := true }
  else if bit new.ctrl 0 then
    if s.ringFit new then
      let off := !new.isCq && s.instOff (new.target / 256) (new.target % 256)
      (s.setRing n { new with wild := false, domainOff := off }).drainCpls
    else s.setRing n { new with ctrl := new.ctrl - 1 }
  else s.setRing n new

/-- RING_ENABLE (R630): a write of CTRL with ENABLE set; `ctrl` gives its other bits. -/
def execRingEnable (n : Fin 4096) (ctrl : Fin 128) (s : State) : Res :=
  onlyIf s.fw s fun s => s.ringWrite n 7 (le 1 (2 * ctrl + 1))

/-- RING_DISABLE (R129). -/
def execRingDisable (n : Fin 4096) (s : State) : Res :=
  onlyIf s.fw s fun s => s.ringWrite n 7 (le 1 ((s.ringOf n).ctrl - (s.ringOf n).ctrl % 2))

/-- COMPLETION_RING_HEAD_ADVANCE (R133). -/
def execCompletionRingHeadAdvance (n : Fin 4096) (head : BitVec 16) (s : State) : Res :=
  onlyIf (s.fw && (s.ringOf n).isCq) s fun s => s.ringWrite n 12 (le 2 head.toNat)

/-- The unfetched descriptors of a ring complete with ST_ENGINE_CANCELLED, in ring order (`count` of them), R129. -/
def cancelGo (n : Nat) : Nat → State → State
  | 0, s => s
  | k + 1, s =>
    let r := s.ringOf n
    let d := s.peek (r.base + 64 * (r.head % r.size)) 64
    let s1 := s.setRing n { r with head := (r.head + 1) % r.size }
    cancelGo n k (s1.pushCpl ⟨r.cq, bit (num d 3 1) 1, ⟨num d 8 4, ST_ENGINE_CANCELLED, 0, 0⟩⟩)

/-- A submission ring's clear takes effect; a completion ring's leaves it disabled (R129). -/
def State.ringOff (s : State) (n : Nat) : State :=
  let r := s.ringOf n
  let s1 := if r.isCq then s else cancelGo n r.held s
  s1.setRing n { s1.ringOf n with clearing := false }

/-- Phase 0: every clear that waits takes effect (R129). -/
def State.ringClears (s : State) : State :=
  (s.ring.rings.filter (·.2.clearing)).foldl (fun acc e => acc.ringOff e.1) s

/-- The channel of a Press descriptor (R277). -/
def pressCh (d : Bytes) : Nat := num d 16 1

/-- A fetched Press job below a number names a channel and is not done. -/
def State.pressBusy (s : State) (ch below : Nat) : Bool :=
  (s.jobsOf 5 0).any (fun e => decide (e.1 < below) && pressCh e.2.desc == ch)

/-- The channel states that are to go (R276) do once the jobs fetched before, which complete normally (R129), are done. -/
def State.pressSettle (s : State) : State :=
  let gone := s.press.drops.filter (fun e => !s.pressBusy e.1 e.2)
  { s with press := { s.press with
      seqs := SMap.keep s.press.seqs (fun c _ => !(gone.any (·.1 == c))), drops := s.press.drops.filter (fun e => s.pressBusy e.1 e.2) } }

/-- Channel states are to go (R276): those of the channels named, after the jobs fetched so far. -/
def State.pressDrop (s : State) (chs : List Nat) : State :=
  State.pressSettle { s with press := { s.press with drops := s.press.drops ++ chs.map (fun c => (c, s.ring.nextJob)) } }

/-- The Press channels that the descriptors still in a ring of its instance 0 name hold no state once those are cancelled (R276). -/
def State.dropChannels (s : State) (n : Nat) : State :=
  let r := s.ringOf n
  if r.target = 5 * 256 then
    s.pressDrop ((List.range r.held).map (fun i => pressCh (s.peek (r.base + 64 * ((r.head + i) % r.size)) 64)))
  else s

/-- Rings of a block instance whose domain switches off behave as disabled (R129, R630); on again, as before. -/
def State.ringsOfDomain (s : State) (p : Nat → Nat → Bool) (off : Bool) : State :=
  (s.ring.rings.filter (fun e => !e.2.isCq && p (e.2.target / 256) (e.2.target % 256))).foldl
    (fun acc e =>
      if off then
        let s1 := cancelGo e.1 (acc.ringOf e.1).held (acc.dropChannels e.1)
        s1.setRing e.1 { s1.ringOf e.1 with domainOff := true }
      else acc.setRing e.1 { acc.ringOf e.1 with domainOff := false }) s

end Sys2Proof.Machine
end

