-- ==== Sys2Proof/Machine/Cipher.lean ====
section
/-! DEFINITION. The cipher engine (R296 to R311): XTS, GCM, key wrap, key slots, revocation. -/

namespace Sys2Proof.Machine

/-! ### Key slots (R308, R319) -/

/-- A slot. -/
def State.keySlot (s : State) (n : Nat) : KeySlot := SMap.getD s.cipher.slots n {}

/-- Store a slot; an EMPTY one is unlisted. -/
def State.setKeySlot (s : State) (n : Nat) (k : KeySlot) : State :=
  { s with cipher := { s.cipher with
      slots := if k.state = 0 then SMap.del s.cipher.slots n else SMap.set s.cipher.slots n k } }

/-- DIE_KEK's slot. -/
def dieSlot : Nat := 4095

/-- Every slot zeroed, then DIE_KEK loaded (R308). -/
def State.keysReset (s : State) : State :=
  { s with cipher := { s.cipher with
      slots := [(dieSlot, { state := 1, type := 1, use := 2, key := padTo 32 Config.dieKek })] } }

/-- A slot takes requests: LOADED, or REVOKING before its boundary (R308, R310). -/
def KeySlot.live (k : KeySlot) : Bool := k.state == 1 || (k.state == 2 && !k.closed)

/-- Bytes of a key of a type: 32 for AES-256, 64 for XTS-AES-256, either for an HMAC key (R319). -/
def typeLen (type len : Nat) : Bool := (type == 1 && len == 32) || (type == 2 && len == 64) || (type == 3 && (len == 32 || len == 64))

/-! ### Descriptors (R301, R302) -/

def cKey (d : Bytes) : Nat := num d 16 2
def cPrio (d : Bytes) : Nat := num d 18 1 % 4
def cInit (d : Bytes) : Bool := bit (num d 19 1) 0
def cFinal (d : Bytes) : Bool := bit (num d 19 1) 1
def cStream (d : Bytes) : Bool := bit (num d 19 1) 2
def cLen (d : Bytes) : Nat := num d 20 4
def cSrc (d : Bytes) : Nat := num d 24 8
def cDst (d : Bytes) : Nat := num d 32 8
def cDun (d : Bytes) : Nat := num d 40 8
def cParam (d : Bytes) : Nat := num d 48 8
def cTarget (d : Bytes) : Nat := num d 56 2
def cType (d : Bytes) : Nat := num d 58 1 % 4
def cUse (d : Bytes) : Nat := num d 58 1 / 4 % 8

/-- The requirement on KEY_SLOT: EMPTY, or of another type or use (R302). -/
def State.keyNeeds (s : State) (d : Bytes) (type use : Nat) : Nat :=
  let k := s.keySlot (cKey d)
  if 4096 ≤ cKey d then ST_CIPHER_FIELD
  else if !k.live then ST_CIPHER_SLOT_EMPTY
  else if k.type ≠ type ∨ !bit k.use use then ST_CIPHER_KEY_TYPE
  else 0

/-- The first failing status of a list. -/
def firstBad : List Nat → Nat
  | [] => 0
  | x :: xs => if x = 0 then firstBad xs else x

/-- The bits and bytes of R301 that are zero are zero, PARAM is 64-byte aligned, and DUN and PARAM are zero where the operation has none. -/
def cFieldsOk (d : Bytes) : Bool :=
  let op := num d 0 2
  decide (num d 18 1 < 4 ∧ num d 19 1 < 8 ∧ num d 58 1 < 32 ∧ num d 59 5 = 0 ∧ cParam d % 64 = 0)
    && (decide (op ≤ 2) || cDun d == 0) && (op == 3 || op == 4 || cParam d == 0)

/-- The TARGET of KEY_GEN and KEY_UNWRAP: EMPTY; one revoked before the last boundary is found EMPTY as every request finds it (R310). -/
def KeySlot.emptyCheck (t : KeySlot) : Nat :=
  if t.state = 0 then 0 else if t.state = 2 ∧ t.closed then ST_CIPHER_SLOT_EMPTY else ST_CIPHER_SLOT_BUSY

/-- The checks of R302. Their order is not stated: slot, type, length, target, then other fields. DEDUCED (log 23). -/
def State.cipherCheck (s : State) (d : Bytes) : Nat :=
  let op := num d 0 2
  let t := s.keySlot (cTarget d)
  let targetOk := if 4096 ≤ cTarget d then ST_CIPHER_FIELD else 0
  let notDie := if cTarget d = dieSlot then ST_CIPHER_FIELD else targetOk
  let len := fun (ok : Bool) => if ok then 0 else ST_CIPHER_KEY_TYPE
  let fields := if cFieldsOk d then 0 else ST_CIPHER_FIELD
  if op = 1 ∨ op = 2 then firstBad [s.keyNeeds d 2 0, len (decide (cLen d % 16 = 0 ∧ 16 ≤ cLen d ∧ cLen d ≤ 65536)), fields]
  else if op = 3 ∨ op = 4 then
    firstBad [s.keyNeeds d 1 0, len (decide (cLen d ≤ 65536)), if cParam d = 0 then ST_CIPHER_FIELD else fields]
  else if op = 5 then firstBad [s.keyNeeds d 1 1, notDie, if t.live then 0 else ST_CIPHER_SLOT_EMPTY, fields]
  else if op = 6 then
    firstBad [s.keyNeeds d 1 1, targetOk, len (decide (8 ≤ cLen d) && typeLen (cType d) (cLen d - 8)), t.emptyCheck, fields]
  else if op = 7 then firstBad [targetOk, len (typeLen (cType d) (cLen d)), t.emptyCheck, fields]
  else if op = 8 then firstBad [notDie, fields]
  else ST_CIPHER_FIELD

/-- Ranges named (R126); a parameter block that cannot be read names no AAD: the request ends with the read's status. -/
def State.cipherRanges (s : State) (d : Bytes) : List (Nat × Nat) :=
  let op := num d 0 2
  let src := if cStream d then [] else [(cSrc d, cLen d)]
  if op = 1 ∨ op = 2 then src ++ [(cDst d, cLen d)]
  else if op = 3 ∨ op = 4 then
    let p := s.peek (cParam d) 128
    src ++ [(cDst d, cLen d), (cParam d, 128)] ++ (if cInit d && !s.readFails (cParam d) 128 then [(num p 16 8, num p 24 4)] else [])
  else if op = 5 then [(cDst d, 8 + (s.keySlot (cTarget d)).key.length)]
  else if op = 6 then src
  else []

/-- A request names a slot (R310). -/
def cNames (d : Bytes) (slot : Nat) : Bool :=
  let op := num d 0 2
  (decide (op ≤ 6) && cKey d == slot) || (decide (5 ≤ op) && cTarget d == slot)

/-- Whether source, destination and parameter block share bytes: outputs are then free (R587). -/
def cWild (d : Bytes) : Bool :=
  let op := num d 0 2
  let so := !cStream d && overlap (cSrc d) (cLen d) (cDst d) (cLen d)
  if op ≤ 2 then so
  else so || overlap (cParam d) 128 (cDst d) (cLen d) || (!cStream d && overlap (cParam d) 128 (cSrc d) (cLen d))

/-- Statuses an XTS or GCM request that runs can return (R320). -/
def cipherStatuses : List Nat := [0, ST_CIPHER_TAG, ST_CIPHER_LEN_SHORT, ST_CIPHER_LEN_LONG]

/-- Free output over DST and PARAM, a free status and free counts (R586, R587). -/
def State.cipherFree (s : State) (n : Nat) (d : Bytes) : State :=
  let f := s.takeFreeBytes (cLen d + 128)
  let c := f.2.takeFree
  let s1 := c.2.dmaWrite (cDst d) (f.1.take (cLen d))
  let s2 := if num d 0 2 ≤ 2 then s1 else s1.dmaWrite (cParam d) (f.1.drop (cLen d))
  let p := s2.takeFree
  let st := p.2.takeStatus cipherStatuses
  st.2.endJob n st.1 (c.1 % 2 ^ 32) (p.1 % 2 ^ 32)

/-! ### Pair checking (R297) -/

/-- A pair mismatch: nothing written, the pair leaves service. -/
def State.pairMismatch (s : State) (n : Nat) (j : Job) : State :=
  let p := j.unit.getD 0
  let s1 := { s with cipher := { s.cipher with
      pairOk := s.cipher.pairOk &&& ~~~ (1#16 <<< p), mismatches := satInc 16 s.cipher.mismatches } }
  (s1.alarm AL_CIPHER_PAIR_FAULT (srcOf 7 p)).endJob n ST_CIPHER_PAIR_MISMATCH 0 0

/-- The source bytes of a request: from memory, or the whole blocks a stream delivered, with the length status of R306. -/
def State.cipherSource (s : State) (d data : Bytes) : Nat × Bytes × Nat × State :=
  if cStream d then
    if data.length < cLen d then (0, data.take (data.length / 16 * 16), ST_CIPHER_LEN_SHORT, s)
    else (0, data.take (cLen d), if cLen d < data.length then ST_CIPHER_LEN_LONG else 0, s)
  else
    let r := s.dmaRead (cSrc d) (cLen d)
    (r.1, r.2.1, 0, r.2.2)

/-- Run an XTS request (R303, R306). -/
def State.xtsRun (s : State) (n : Nat) (j : Job) (data : Bytes) (f : Bytes → Bytes → Nat → Bytes → Bytes) : State :=
  let d := j.desc
  let r := s.cipherSource d data
  if r.1 ≠ 0 then r.2.2.2.endJob n r.1 0 0
  else
    let k := (s.keySlot (cKey d)).key
    let out := f (k.take 32) (k.drop 32) (cDun d) r.2.1
    (r.2.2.2.dmaWrite (cDst d) out).endJob n r.2.2.1 r.2.1.length out.length

/-- XTS_ENC (R297, R303): `mismatch` is what the pair check shows; `data` what the input stream delivers where STREAM is set. -/
def execXtsEnc (n : Nat) (mismatch : Bool) (data : Bytes) (s : State) : Res :=
  s.onJob n 6 [1] (fun j s =>
    if mismatch then s.pairMismatch n j else if cWild j.desc then s.cipherFree n j.desc else s.xtsRun n j data xtsEnc)

/-- XTS_DEC (R297, R303). -/
def execXtsDec (n : Nat) (mismatch : Bool) (data : Bytes) (s : State) : Res :=
  s.onJob n 6 [2] (fun j s =>
    if mismatch then s.pairMismatch n j else if cWild j.desc then s.cipherFree n j.desc else s.xtsRun n j data xtsDec)

/-! ### GCM (R304 to R306) -/

/-- The parameter block a request starts from: the one a preempted request began with, or memory's (R300). -/
def State.gcmParam (s : State) (n : Nat) (d : Bytes) : Nat × Bytes × State :=
  match SMap.get s.cipher.saved n with
  | some p => (0, p, s)
  | none => s.dmaRead (cParam d) 128

/-- State written to the parameter block: GHASH, next counter, bytes done, flags (R305). -/
def gcmSave (p : Bytes) (acc ctr done flags : Nat) : Bytes :=
  p.take 48 ++ be 16 acc ++ p.take 12 ++ be 4 ctr ++ le 8 done ++ le 1 flags ++ zeros 39

/-- What a GCM request computes before it ends: GHASH accumulator, counter, bytes done before it, with INIT's AAD hashed. -/
def State.gcmBegin (s : State) (d p : Bytes) (h : Nat) : Nat × (Nat × Nat × Nat) × State :=
  if cInit d then
    let r := s.dmaRead (num p 16 8) (num p 24 4)
    (r.1, (ghash h 0 r.2.1, 2, 0), r.2.2)
  else (0, (beNat (sub p 48 16), beNat (sub p 76 4), num p 80 8), s)

/-- The tag at the end of a message. -/
def gcmFinal (key p : Bytes) (h acc done : Nat) : Bytes :=
  gcmTag key (p.take 12) (ghash h acc (be 8 (8 * num p 24 4) ++ be 8 (8 * done)))

/-- Run a GCM request (R304). Of a request without FINAL whose data ends inside a block the saved GHASH
and COUNTER are free: SP 800-38D gives none. -/
def State.gcmRun (s : State) (n : Nat) (j : Job) (data : Bytes) (enc : Bool) : State :=
  let d := j.desc
  let key := (s.keySlot (cKey d)).key
  let h := gcmH key
  let pr := s.gcmParam n d
  let r := pr.2.2.cipherSource d data
  let b := r.2.2.2.gcmBegin d pr.2.1 h
  if pr.1 ≠ 0 then pr.2.2.endJob n pr.1 0 0
  else if r.1 ≠ 0 then r.2.2.2.endJob n r.1 0 0
  else if b.1 ≠ 0 then b.2.2.endJob n b.1 0 0
  else
    let p := pr.2.1
    let out := gcmCtr key (p.take 12) b.2.1.2.1 (chunksOf 16 r.2.1)
    let acc := ghash h b.2.1.1 (if enc then out else r.2.1)
    let done := b.2.1.2.2 + out.length
    let ctr := b.2.1.2.1 + (out.length + 15) / 16
    let short := r.2.2.1 == ST_CIPHER_LEN_SHORT
    let s1 := b.2.2
    if short || !cFinal d then
      let sv := if out.length % 16 = 0 then (gcmSave p acc ctr done (2 * b2n short), s1)
        else
          let f := s1.takeFreeBytes 32
          (p.take 48 ++ f.1 ++ le 8 done ++ le 1 0 ++ zeros 39, f.2)
      ((sv.2.dmaWrite (cDst d) out).dmaWrite (cParam d) sv.1).endJob n r.2.2.1 out.length out.length
    else
      let tag := gcmFinal key p h acc done
      if enc then
        ((s1.dmaWrite (cDst d) out).dmaWrite (cParam d + 32) tag).endJob n r.2.2.1 out.length out.length
      else if tag = sub p 32 16 then (s1.dmaWrite (cDst d) out).endJob n r.2.2.1 out.length out.length
      else s1.endJob n ST_CIPHER_TAG out.length 0

/-- Forget what a preempted request held. -/
def State.cipherDone (s : State) (n : Nat) : State := { s with cipher := { s.cipher with saved := SMap.del s.cipher.saved n } }

/-- GCM_ENC (R297, R304). -/
def execGcmEnc (n : Nat) (mismatch : Bool) (data : Bytes) (s : State) : Res :=
  s.onJob n 6 [3] (fun j s =>
    (if mismatch then s.pairMismatch n j else if cWild j.desc then s.cipherFree n j.desc else s.gcmRun n j data true).cipherDone n)

/-- GCM_DEC (R297, R304). -/
def execGcmDec (n : Nat) (mismatch : Bool) (data : Bytes) (s : State) : Res :=
  s.onJob n 6 [4] (fun j s =>
    (if mismatch then s.pairMismatch n j else if cWild j.desc then s.cipherFree n j.desc else s.gcmRun n j data false).cipherDone n)

/-- A request may be preempted (R300). -/
def gcmPreemptible (d : Bytes) : Bool := (num d 0 2 == 3 || num d 0 2 == 4) && cParam d != 0 && !cStream d

/-- Preempt a running GCM request at a 16-byte boundary (R300): how far it has come is free; its parameter block shows the
state. -/
def State.gcmPreempt (s : State) (n unit : Nat) (d : Bytes) : State :=
  let key := (s.keySlot (cKey d)).key
  let h := gcmH key
  let f := s.takeFree
  let pr := f.2.gcmParam n d
  let b := pr.2.2.gcmBegin d pr.2.1 h
  let rd := b.2.2.dmaRead (cSrc d) (cLen d)
  let part := rd.2.1.take (f.1 % (cLen d / 16 + 1) * 16)
  let out := gcmCtr key (pr.2.1.take 12) b.2.1.2.1 (chunksOf 16 part)
  let acc := ghash h b.2.1.1 (if num d 0 2 = 3 then out else part)
  let s1 := { rd.2.2 with cipher := { rd.2.2.cipher with saved := SMap.set rd.2.2.cipher.saved n pr.2.1 } }
  ((s1.dmaWrite (cParam d) (gcmSave pr.2.1 acc (b.2.1.2.1 + part.length / 16) (b.2.1.2.2 + part.length) 1)).setJob n
    (.preempted unit)).event EV_CIPHER_PREEMPT (srcOf 0 0)

/-! ### Key operations (R307 to R310) -/

/-- KEY_WRAP (R307). -/
def execKeyWrap (n : Nat) (mismatch : Bool) (s : State) : Res :=
  s.onJob n 6 [5] (fun j s =>
    let d := j.desc
    if mismatch then s.pairMismatch n j
    else
      let out := kwWrap (s.keySlot (cKey d)).key (s.keySlot (cTarget d)).key
      (s.dmaWrite (cDst d) out).endJob n 0 0 out.length)

/-- KEY_UNWRAP (R307, R309). The target may have been filled since the fetch by another request: then it is not EMPTY. -/
def execKeyUnwrap (n : Nat) (mismatch : Bool) (s : State) : Res :=
  s.onJob n 6 [6] (fun j s =>
    let d := j.desc
    let r := s.dmaRead (cSrc d) (cLen d)
    if mismatch then s.pairMismatch n j
    else if r.1 ≠ 0 then r.2.2.endJob n r.1 0 0
    else if (s.keySlot (cTarget d)).state ≠ 0 then r.2.2.endJob n ST_CIPHER_SLOT_BUSY 0 0
    else
      match kwUnwrap (s.keySlot (cKey d)).key r.2.1 with
      | some k => (r.2.2.setKeySlot (cTarget d) ⟨1, cType d, cUse d, k, false⟩).endJob n 0 (cLen d) 0
      | none => r.2.2.endJob n ST_CIPHER_UNWRAP_FAIL (cLen d) 0)

/-- KEY_GEN (R309): the key is a free value; `entropyOk` is whether the entropy health tests pass. -/
def execKeyGen (n : Nat) (entropyOk : Bool) (s : State) : Res :=
  s.onJob n 6 [7] (fun j s =>
    let d := j.desc
    let s0 := { s with cipher := { s.cipher with drbgOk := entropyOk } }
    if !entropyOk then (s0.alarm AL_CIPHER_DRBG (srcOf 0 0)).endJob n ST_CIPHER_DRBG 0 0
    else
      let s1 := s0.clearAlarm AL_CIPHER_DRBG (srcOf 0 0)
      if (s1.keySlot (cTarget d)).state ≠ 0 then s1.endJob n ST_CIPHER_SLOT_BUSY 0 0
      else
        let f := s1.takeFreeBytes (cLen d)
        (f.2.setKeySlot (cTarget d) ⟨1, cType d, cUse d, f.1, false⟩).endJob n 0 0 0)

/-- Make a slot REVOKING (R310). -/
def State.revoke (s : State) (slot : Nat) : State :=
  let k := s.keySlot slot
  if k.state = 1 ∧ slot ≠ dieSlot then s.setKeySlot slot { k with state := 2, closed := false } else s

/-- KEY_REVOKE (R310). -/
def execKeyRevoke (n : Nat) (s : State) : Res :=
  s.onJob n 6 [8] (fun j s => (s.revoke (cTarget j.desc)).endJob n 0 0 0)

/-- The entries of cipher rings, from HEAD to TAIL, that name a slot (R310). -/
def State.queuedFor (s : State) (slot : Nat) : List (Nat × Nat) :=
  (s.ring.rings.filter (fun e => e.2.target / 256 == 6 && !e.2.isCq)).flatMap (fun e =>
    ((List.range e.2.held).map (fun i => (e.2.head + i) % e.2.size)).filterMap (fun i =>
      if cNames (s.peek (e.2.base + 64 * i) 64) slot then some (e.1, i) else none))

/-- Phase 0: revocations take effect: the slot takes no new request, and requests still queued are cancelled (R310). -/
def State.revokeBoundary (s : State) : State :=
  (s.cipher.slots.filter (fun e => e.2.state == 2 && !e.2.closed)).foldl (fun acc e =>
    let q := acc.queuedFor e.1
    let a1 := acc.setKeySlot e.1 { e.2 with closed := true }
    { a1 with cipher := { a1.cipher with cancels := a1.cipher.cancels ++ q } }) s

/-- KEY_SLOT_ZEROED (R310): no fetched request names the revoked slot any more. -/
def execKeySlotZeroed (slot : Fin 4096) (s : State) : Res :=
  onlyIf (s.fw && s.isHead && (s.keySlot slot).state == 2 && (s.keySlot slot).closed
    && !(s.ring.jobs.any (fun e => e.2.block == 6 && cNames e.2.desc slot))) s fun s =>
    (s.setKeySlot slot {}).event EV_CIPHER_KEY_REVOKED (srcOf 0 0)

end Sys2Proof.Machine
end

