-- ==== Sys2Proof/Machine/Match.lean ====
section
/-! DEFINITION. The Match Array (R251 to R258): regions, searches, writes, mirrored copies. -/

namespace Sys2Proof.Machine

/-- Entries of one half (R251). -/
def matchHalf : Nat := 262144

/-- Half a power domain and fatal errors leave usable (R257, R269). -/
def State.halfOk (s : State) (h : Nat) : Bool := s.pdOn (18 + h) && !(s.cam.fatal.getD h false)

/-- A region of the table. -/
def State.region (s : State) (r : Nat) : Region := s.cam.regions.getD r {}
def Region.valid (r : Region) : Bool := bit r.flags 0
def Region.mirror (r : Region) : Bool := bit r.flags 1

/-- Whether a region is defined as R252 forbids: overlapping another valid region, or mirrored and not wholly in half 0. Its
search results are then free (R587). -/
def State.regionWild (s : State) (r : Nat) : Bool :=
  let g := s.region r
  (g.mirror && decide (matchHalf < g.base + g.count))
    || (List.range 16).any (fun q => q != r && (s.region q).valid && overlap g.base g.count (s.region q).base (s.region q).count)

/-- An entry as the array holds it; one in a half out of service counts as invalid (R257). -/
def State.ment (s : State) (i : Nat) : MEnt :=
  if s.halfOk (i / matchHalf) then SMap.getD s.cam.ents i {} else {}

/-- Whether an entry matches a key (R253). -/
def MEnt.hits (e : MEnt) (key : BitVec 144) : Bool := e.valid && ((e.key ^^^ key) &&& e.mask) == 0

/-- Whether a verify record agrees with a full key under a region's mask (R253). -/
def MEnt.verifies (e : MEnt) (full vmask : BitVec 256) : Bool := ((e.full ^^^ full) &&& vmask) == 0

/-- The running outcome of a search: false hits so far, whether a mirror disagreed, and the state. -/
structure Scan where
  fh : Nat := 0
  diff : Bool := false
  hit : Option (Nat × BitVec 64) := none
  /-- Indexes at which the copies disagreed (R254). -/
  diffs : List Nat := []

/-- Store an entry. -/
def State.setMent (s : State) (i : Nat) (e : MEnt) : State :=
  { s with cam := { s.cam with ents := if e.valid || e != {} then SMap.set s.cam.ents i e else SMap.del s.cam.ents i } }

/-- Count one false hit (R253). -/
def State.falseHit (s : State) (r : Nat) : State :=
  State.event { s with cam := { s.cam with falseHits := satInc 16 s.cam.falseHits } } EV_MATCH_FALSE_HIT (srcOf 0 r)

/-- Clear the valid bit of an entry, and of both copies in a mirrored region (R253, R254). -/
def State.unsetMent (s : State) (r i : Nat) : State :=
  let off := fun (a : State) (k : Nat) => a.setMent k { (SMap.getD a.cam.ents k {}) with valid := false }
  if (s.region r).mirror then off (off s i) (i + matchHalf) else off s i

/-- Examine one candidate index of a region; `bad` are the indexes whose verify record is uncorrectable. In a mirrored region the record of half
0 serves, or half 1's where half 0 has none that is correctable (R254). That an uncorrectable record counts as a false hit in the event and in the
FALSE_HITS register too, as it does in fh, is a DESIGN CHOICE (log 113). -/
def State.scanOne (s : State) (r : Nat) (key : BitVec 144) (full : BitVec 256) (bad : List Nat) (acc : Scan) (i : Nat) :
    State × Scan :=
  let g := s.region r
  let e0 := s.ment i
  let e1 := s.ment (i + matchHalf)
  let m0 := e0.hits key
  let m1 := g.mirror && e1.hits key
  if !m0 && !m1 then (s, acc)
  else
    let diff := g.mirror && m0 != m1
    let s1 := if diff then
        State.eventArg { s with cam := { s.cam with mirrorDiffs := satInc 16 s.cam.mirrorDiffs } } EV_MATCH_MIRROR_DIFF (srcOf 0 0)
          (le 4 i)
      else s
    let acc1 := { acc with diff := acc.diff || diff, diffs := if diff then acc.diffs ++ [i] else acc.diffs }
    let ok := fun (e : MEnt) (k : Nat) => e.valid && !bad.contains k
    let v := if ok e0 i then some e0 else if g.mirror && ok e1 (i + matchHalf) then some e1 else none
    match v with
    | none =>
      let s2 := (s1.unsetMent r i).event EV_MATCH_VERIFY_ECC (srcOf 0 0)
      (s2.falseHit r, { acc1 with fh := acc1.fh + 1 })
    | some e =>
      if e.verifies full g.vmask then (s1, { acc1 with hit := some (i, e.result) })
      else (s1.falseHit r, { acc1 with fh := acc1.fh + 1 })

/-- Search ascending until a hit (R253). -/
def State.scan (s : State) (r : Nat) (key : BitVec 144) (full : BitVec 256) (bad : List Nat) : List Nat → Scan → State × Scan
  | [], acc => (s, acc)
  | i :: is, acc =>
    if acc.hit.isSome then (s, acc)
    else
      let x := s.scanOne r key full bad acc i
      x.1.scan r key full bad is x.2

/-- Listed indexes of a region, ascending: only these can match. A mirrored region's second copies count at their index less
262,144. -/
def State.listed (s : State) (r : Nat) : List Nat :=
  let g := s.region r
  (SMap.keys s.cam.ents).foldl (fun acc k =>
    let a1 := if g.base ≤ k ∧ k < g.base + g.count then insNat acc k else acc
    if g.mirror ∧ matchHalf ≤ k ∧ g.base ≤ k - matchHalf ∧ k - matchHalf < g.base + g.count then insNat a1 (k - matchHalf) else a1) []

/-- One search of a region (R253, R254). -/
def State.search (s : State) (r : Nat) (key : BitVec 144) (full : BitVec 256) (bad : List Nat) : State × Scan :=
  s.scan r key full bad (s.listed r) {}

/-- Write one entry and its mirror (R254, R256). -/
def State.writeMent (s : State) (r i : Nat) (e : MEnt) : State :=
  let s1 := s.setMent i e
  if (s.region r).mirror then
    let s2 := s1.setMent (i + matchHalf) e
    { s2 with cam := { s2.cam with shadow := SMap.set s2.cam.shadow i e } }
  else s1

/-- Invalidate one entry and its mirror. -/
def State.dropMent (s : State) (r i : Nat) : State :=
  let s1 := s.unsetMent r i
  if (s.region r).mirror then { s1 with cam := { s1.cam with shadow := SMap.del s1.cam.shadow i } } else s1

/-- The firmware rewrites both copies of a mirrored entry from its shadow (R254, R257); without one there the entry is invalid. -/
def State.rewriteMent (s : State) (i : Nat) : State :=
  let e := SMap.getD s.cam.shadow i { (SMap.getD s.cam.ents i {}) with valid := false }
  (s.setMent i e).setMent (i + matchHalf) e

/-! ### Descriptors (R255) -/

/-- Region and count of a descriptor. -/
def matchRegion (d : Bytes) : Nat := num d 16 1
def matchCount (d : Bytes) : Nat := num d 20 4

/-- An entry record (R255): its index and entry. -/
def entryRec (b : Bytes) : Nat × MEnt :=
  (num b 0 4,
   { key := BitVec.ofNat 144 (num b 8 18), mask := BitVec.ofNat 144 (num b 26 18), full := BitVec.ofNat 256 (num b 48 32)
     result := BitVec.ofNat 64 (num b 80 8), valid := true })

/-- The 128 bytes of an entry record. -/
def MEnt.record (e : MEnt) (i : Nat) : Bytes :=
  le 4 i ++ zeros 4 ++ le 18 e.key.toNat ++ le 18 e.mask.toNat ++ zeros 4 ++ le 32 e.full.toNat ++ le 8 e.result.toNat ++ zeros 40

/-- Bytes of a descriptor's records or keys. -/
def matchBytes (d : Bytes) : Nat :=
  let op := num d 0 2
  if op = 1 then 64 * matchCount d else 128 * matchCount d

/-- Checks at fetch (R130, R255): the opcode, then the region, then, for a range in the descriptor itself, its indexes. -/
def State.matchCheck (s : State) (d : Bytes) : Nat :=
  let op := num d 0 2
  let g := s.region (matchRegion d)
  let first := num d 24 4
  let inside := decide (g.base ≤ first ∧ first + matchCount d ≤ g.base + g.count)
  if op < 1 ∨ 4 < op then ST_ENGINE_HEADER
  else if 16 ≤ matchRegion d ∨ !g.valid then ST_MATCH_REGION_OFF
  else if (op = 3 ∨ op = 4) ∧ !inside then ST_MATCH_INDEX_RANGE
  else 0

/-- The ranges a descriptor names (R126). -/
def matchRanges (d : Bytes) : List (Nat × Nat) :=
  let op := num d 0 2
  if op = 1 then [(num d 24 8, 64 * matchCount d), (num d 32 8, 16 * matchCount d)]
  else if op = 2 then [(num d 24 8, 128 * matchCount d)]
  else if op = 4 then [(num d 32 8, 128 * matchCount d)]
  else []

/-- The limits the table gives COUNT. Outside them the manual names no status: the outputs are free (log 21). -/
def matchCountOk (d : Bytes) : Bool :=
  let op := num d 0 2
  let c := matchCount d
  op == 3 || decide (1 ≤ c ∧ c ≤ (if op = 1 then 1024 else 256))

/-- A result record (R255). -/
def Scan.bytes (x : Scan) : Bytes :=
  match x.hit with
  | some (i, res) => le 4 i ++ le 2 (min x.fh 65535) ++ le 1 (1 + 2 * b2n x.diff) ++ zeros 1 ++ le 8 res.toNat
  | none => le 4 0xFFFFFFFF ++ le 2 (min x.fh 65535) ++ le 1 (2 * b2n x.diff) ++ zeros 1 ++ zeros 8

/-- One search, after which the firmware mends the entries whose copies disagreed: at once, as a search is one step (R254, log 8). -/
def State.searchMend (s : State) (r : Nat) (key : BitVec 144) (full : BitVec 256) (bad : List Nat) : State × Scan :=
  let x := s.search r key full bad
  (x.2.diffs.foldl State.rewriteMent x.1, x.2)

/-- Search each key record of a list, collecting result records. -/
def searchGo (r : Nat) (bad : List Nat) : List Bytes → State → Bytes → State × Bytes
  | [], s, acc => (s, acc)
  | k :: ks, s, acc =>
    let x := s.searchMend r (BitVec.ofNat 144 (num k 0 18)) (BitVec.ofNat 256 (num k 24 32)) bad
    searchGo r bad ks x.1 (acc ++ x.2.bytes)

/-- Flip key bits that soft errors changed in the array: index and bit (R253, R254). -/
def State.upset (s : State) (fs : List (Fin 524288 × Fin 144)) : State :=
  fs.foldl (fun acc f =>
    match SMap.get acc.cam.ents f.1 with
    | some e => acc.setMent f.1 { e with key := e.key ^^^ (1#144 <<< f.2.val) }
    | none => acc) s

/-- Statuses of the Match Array (R271). -/
def matchStatuses : List Nat := [0, ST_MATCH_INDEX_RANGE, ST_MATCH_REGION_OFF]

/-- End a use that R587 leaves unpredictable: a free status and free counts (R586). -/
def State.matchFree (s : State) (n : Nat) : State :=
  let c := s.takeFree
  let p := c.2.takeFree
  let st := p.2.takeStatus matchStatuses
  st.2.endJob n st.1 (c.1 % 2 ^ 32) (p.1 % 2 ^ 32)

/-- MATCH_SEARCH (R253, R254, R255): `flips` are the key bits that soft errors changed since the last search, `bad` the verify
records that are uncorrectable. Regions defined against R252 give free results (R587). -/
def execMatchSearch (n : Nat) (flips : List (Fin 524288 × Fin 144)) (bad : List (Fin 524288)) (s : State) : Res :=
  s.onJob n 4 [1] (fun j s =>
    let d := j.desc
    let r := matchRegion d
    let rd := s.dmaRead (num d 24 8) (64 * matchCount d)
    if rd.1 ≠ 0 then rd.2.2.endJob n rd.1 0 0
    else
      let out := 16 * matchCount d
      if s.regionWild r || !matchCountOk d then
        let f := rd.2.2.takeFreeBytes out
        (f.2.dmaWrite (num d 32 8) f.1).matchFree n
      else
        let x := searchGo r (bad.map (·.val)) (chunksOf 64 rd.2.1) (rd.2.2.upset flips) []
        (x.1.dmaWrite (num d 32 8) x.2).endJob n 0 (64 * matchCount d) out)

/-- An index the records of one WRITE name twice: which record it holds is free (R587). -/
def pickRec (f i : Nat) (recs : List (Nat × MEnt)) : Option MEnt :=
  let same := recs.filter (·.1 == i)
  match same[f % max same.length 1]? with
  | some r => some r.2
  | none => none

/-- MATCH_WRITE (R254, R255, R256). With COUNT outside its limits how many records are written is free (log 21). -/
def execMatchWrite (n : Nat) (s : State) : Res :=
  s.onJob n 4 [2] (fun j s =>
    let d := j.desc
    let r := matchRegion d
    let g := s.region r
    let rd := s.dmaRead (num d 24 8) (128 * matchCount d)
    if rd.1 ≠ 0 then rd.2.2.endJob n rd.1 0 0
    else
      let recs := (chunksOf 128 rd.2.1).map entryRec
      if recs.any (fun e => decide (e.1 < g.base ∨ g.base + g.count ≤ e.1)) then rd.2.2.endJob n ST_MATCH_INDEX_RANGE 0 0
      else
        let f := rd.2.2.takeFree
        let recs := if matchCountOk d then recs else recs.take (f.1 % (recs.length + 1))
        let s1 := (recs.map (·.1)).eraseDups.foldl (fun acc i =>
          match pickRec f.1 i recs with
          | some e => acc.writeMent r i e
          | none => acc) f.2
        if noDup (recs.map (·.1)) && matchCountOk d then s1.endJob n 0 (128 * matchCount d) 0 else s1.matchFree n)

/-- MATCH_INVALIDATE (R255). -/
def execMatchInvalidate (n : Nat) (s : State) : Res :=
  s.onJob n 4 [3] (fun j s =>
    let first := num j.desc 24 4
    let inR := (SMap.keys s.cam.ents).filter (fun i => decide (first ≤ i ∧ i < first + matchCount j.desc))
    (inR.foldl (fun acc i => acc.dropMent (matchRegion j.desc) i) s).endJob n 0 0 0)

/-- MATCH_READ (R255); with COUNT outside its limits the output is free (log 21). -/
def execMatchRead (n : Nat) (s : State) : Res :=
  s.onJob n 4 [4] (fun j s =>
    let first := num j.desc 24 4
    let out := (List.range (matchCount j.desc)).flatMap (fun i => (s.ment (first + i)).record (first + i))
    if matchCountOk j.desc then (s.dmaWrite (num j.desc 32 8) out).endJob n 0 0 out.length
    else
      let f := s.takeFreeBytes out.length
      (f.2.dmaWrite (num j.desc 32 8) f.1).matchFree n)

/-- MATCH_REGIONS_LOCK (R252, R269). -/
def execMatchRegionsLock (s : State) : Res :=
  onlyIf (s.fw && s.isHead) s fun s => { s with cam := { s.cam with locked := true } }

/-- MATCH_HALF_FATAL (R257). -/
def execMatchHalfFatal (h : Fin 2) (s : State) : Res :=
  onlyIf (s.fw && s.isHead && s.pdOn (18 + h)) s fun s =>
    State.alarm { s with cam := { s.cam with fatal := s.cam.fatal.set h true } } AL_MATCH_HALF_FAIL (srcOf 0 0)

/-- A half powers up: every entry of it is invalid (R257). -/
def State.halfPowered (s : State) (h : Nat) : State :=
  { s with cam := { s.cam with ents := SMap.keep s.cam.ents (fun i _ => i / matchHalf != h) } }

/-! ### The firmware's regions (R258) -/

/-- The regions at stage FIRMWARE; `vm` is region 0's verify mask (R333). -/
def State.setRegions (s : State) : State :=
  let e := s.p p_match_lba_entries
  let ones : BitVec 256 := BitVec.ofNat 256 (2 ^ 256 - 1)
  let r0 : Region := ⟨matchHalf - e, e, 3, BitVec.ofNat 256 (2 ^ 54 - 2 ^ 40)⟩
  let r1 : Region := ⟨0, matchHalf - e, 1, ones⟩
  let r2 : Region := ⟨matchHalf, matchHalf - e, 1, ones⟩
  { s with cam := { s.cam with regions := [r0, r1, r2] ++ s.cam.regions.drop 3 } }

/-- A hot entry (R258): prefix and domain as key, F as full key, the chunk ID and PENDING as result. -/
def hotEntry (domain : Nat) (fp : Bytes) (chunkId : Nat) (pending : Bool) : MEnt :=
  { key := BitVec.ofNat 144 (num fp 0 6 + domain * 2 ^ 48), mask := BitVec.ofNat 144 (2 ^ 60 - 1)
    full := BitVec.ofNat 256 (leNat (fp.take 32)), result := BitVec.ofNat 64 (chunkId + (if pending then 2 ^ 48 else 0)), valid := true }

/-- The hot region of a fingerprint (R258). -/
def hotRegion (fp : Bytes) : Nat := if (fp.headD 0).toNat % 2 = 0 then 1 else 2

/-- Look a fingerprint up in the hot regions (R221): the chunk ID and PENDING flag it names, and its index. -/
def State.hotFind (s : State) (domain : Nat) (fp : Bytes) : State × Option (Nat × Nat × Bool) :=
  let x := s.search (hotRegion fp) (hotEntry domain fp 0 false).key (hotEntry domain fp 0 false).full []
  (x.1, x.2.hit.map (fun h => (h.1, h.2.toNat % 2 ^ 48, bit h.2.toNat 48)))

/-- Enter a hot entry at the region's cyclic cursor (R259); answers its index. -/
def State.hotEnter (s : State) (domain : Nat) (fp : Bytes) (chunkId : Nat) : State × Nat :=
  let r := hotRegion fp
  let g := s.region r
  let c := s.cam.cursors.getD (r - 1) 0
  let i := g.base + c % max g.count 1
  let s1 := s.writeMent r i (hotEntry domain fp chunkId true)
  ({ s1 with cam := { s1.cam with cursors := s1.cam.cursors.set (r - 1) ((c + 1) % max g.count 1) } }, i)

end Sys2Proof.Machine
end

