-- ==== Sys2Proof/Machine/Pf1.lean ====
section
/-! DEFINITION. The PF1 stream (R280 to R284, R291): header, tokens, decoding, and the part's encoder as far as the manual fixes
it. -/

namespace Sys2Proof.Machine

/-- Bytes of a token that begins with control byte `t`, and bytes it produces, given the bytes after `t` (R281). -/
def tokenSize (t : Nat) : Nat := if t < 0x80 then t + 2 else if t < 0xC0 then 2 else if t < 0xE0 then 3 else 4

/-- Length and offset of a match token (R281). -/
def tokenMatch (t b1 b2 b3 : Nat) : Nat × Nat :=
  if t < 0xC0 then (t / 8 % 8 + 4, t % 8 * 256 + b1 + 1)
  else if t < 0xE0 then (t % 32 + 4, b1 + 256 * b2 + 1)
  else (t % 32 * 256 + b1 + 36, b2 + 256 * b3 + 1)

/-- Copy `len` bytes one at a time from `off` back; `out` is held newest first. -/
def copyBack (off : Nat) : Nat → Bytes → Bytes
  | 0, out => out
  | n + 1, out => copyBack off n (out.getD (off - 1) 0 :: out)

/-- How a token stream ended: every token decoded, or the bytes of the tokens before the failing one. -/
inductive Tokens where
  | done (out : Bytes)
  | bad (consumed : Nat)
  deriving DecidableEq, Repr

/-- Decode tokens (`fuel` at least their bytes); `out` newest first, `used` token bytes so far, `n` the bytes produced (R282,
R291 step 5). -/
def decodeTokens (orig : Nat) : Nat → Bytes → Bytes → Nat → Nat → Tokens
  | 0, _, out, _, _ => .done out
  | fuel + 1, bs, out, used, n =>
    match bs with
    | [] => .done out
    | b :: rest =>
      let t := b.toNat
      if bs.length < tokenSize t then .bad used
      else if t < 0x80 then
        if orig < n + t + 1 then .bad used
        else decodeTokens orig fuel (rest.drop (t + 1)) ((rest.take (t + 1)).reverse ++ out) (used + t + 2) (n + t + 1)
      else
        let m := tokenMatch t (rest.getD 0 0).toNat (rest.getD 1 0).toNat (rest.getD 2 0).toNat
        if n < m.2 ∨ orig < n + m.1 then .bad used
        else decodeTokens orig fuel (rest.drop (tokenSize t - 1)) (copyBack m.2 m.1 out) (used + tokenSize t) (n + m.1)

/-- The unit a token string produces, where it is valid and whole. -/
def expandTokens (orig : Nat) (bs : Bytes) : Option Bytes :=
  match decodeTokens orig (bs.length + 1) bs [] 0 0 with
  | .done out => if out.length = orig then some out.reverse else none
  | .bad _ => none

/-- The header (R280). -/
def pf1Header (stream : Bool) (src : Bytes) (tokLen : Nat) : Bytes :=
  [0x50, 0x46, 0x01] ++ le 1 (b2n stream) ++ le 4 src.length ++ le 4 tokLen ++ le 4 (crc32c src)

/-- Literal runs of at most 128 bytes. -/
def literalTokens (src : Bytes) : List Bytes := (chunksOf 128 src).map (fun c => le 1 (c.length - 1) ++ c)

/-- A token as the part's encoder may emit it: a literal run, or a match at least one byte longer than its token (R283). -/
def tokenAllowed (tk : Bytes) : Bool :=
  match tk with
  | [] => false
  | b :: rest =>
    let t := b.toNat
    tk.length == tokenSize t
      && (decide (t < 0x80)
        || decide (tk.length < (tokenMatch t (rest.getD 0 0).toNat (rest.getD 1 0).toNat (rest.getD 2 0).toNat).1))

/-- A literal run shorter than 128 bytes is followed by no further literals (R283): two runs in a row only where the first is full. -/
def fullRuns : List Bytes → Bool
  | [] => true
  | a :: rest =>
    (match a, rest with
     | x :: _, (y :: _) :: _ => decide (x.toNat = 127 ∨ 128 ≤ x.toNat ∨ 128 ≤ y.toNat)
     | _, _ => true) && fullRuns rest

/-- The tokens of the part's encoder (R283, R284): a function of the source and the class, fixed but not published. Where the
opaque choice would break the limits the manual sets, literal runs stand in, which never do (log 22). -/
def pf1Tokens (stream : Bool) (src : Bytes) : List Bytes :=
  let t := Config.pressTokens stream src
  if t.all tokenAllowed && fullRuns t && decide (t.flatten.length ≤ src.length + (src.length + 127) / 128)
      && expandTokens src.length t.flatten == some src then t
  else literalTokens src

/-- A whole stream, unpadded. -/
def pf1Stream (stream : Bool) (src : Bytes) : Bytes :=
  let t := (pf1Tokens stream src).flatten
  pf1Header stream src t.length ++ t

/-- Pad with zeros to a multiple of 64 (R285). -/
def pad64 (bs : Bytes) : Bytes := bs ++ zeros ((64 - bs.length % 64) % 64)

/-- The image of a chunk (R226): the padded data-class stream, or the raw bytes where that would be no shorter; with the raw
flag. -/
def imageOf (compress : Bool) (chunk : Bytes) : Bytes × Bool :=
  let p := pad64 (pf1Stream false chunk)
  if !compress || decide (chunk.length ≤ p.length) then (chunk, true) else (p, false)

/-- What a DECOMPRESS answers (R291): status, CONSUMED, and the output it writes. `limit` is DST_LEN, `expect` EXPECT_LEN. -/
def pf1Decode (stream : Bool) (src : Bytes) (limit expect : Nat) : Nat × Nat × Option Bytes :=
  let orig := num src 4 4
  let tok := num src 8 4
  let bad := src.take 3 != [0x50, 0x46, 0x01] || decide (2 ≤ num src 3 1) || decide (orig < 1 ∨ 65536 < orig)
    || (num src 3 1 == 1) != stream
  if bad then (ST_PRESS_FORMAT, 0, none)
  else if limit < orig then (ST_PRESS_LIMIT, 0, none)
  else if expect ≠ 0 ∧ expect ≠ orig then (ST_PRESS_FORMAT, 0, none)
  else if src.length < 16 + tok then (ST_PRESS_LEN_SHORT, src.length, none)
  else
    match decodeTokens orig (tok + 1) (sub src 16 tok) [] 0 0 with
    | .bad used => (ST_PRESS_FORMAT, 16 + used, none)
    | .done out =>
      if out.length ≠ orig then (ST_PRESS_FORMAT, 16 + tok, none)
      else if crc32c out.reverse ≠ num src 12 4 then (ST_PRESS_CHECK, 16 + tok, none)
      else if (16 + tok + 63) / 64 * 64 < src.length then (ST_PRESS_LEN_LONG, 16 + tok, some out.reverse)
      else (0, 16 + tok, some out.reverse)

end Sys2Proof.Machine
end

