-- ==== Sys2Proof/Machine/Meta.lean ====
section
/-! DEFINITION. The map and the chunk records (R321 to R329), snapshot views (R338 to R343): reading and changing them. -/

namespace Sys2Proof.Machine

/-- Key of a leaf entry (R321): NSID - 1 and CHUNK_NO. -/
def leafKey (nsIndex chunkNo : Nat) : Nat := nsIndex * 2 ^ 40 + chunkNo

/-- A leaf entry; an unlisted position is UNMAPPED. -/
def MetaSt.leaf (m : MetaSt) (nsIndex chunkNo : Nat) : Leaf := SMap.getD m.leaves (leafKey nsIndex chunkNo) {}

/-- A chunk record. -/
def MetaSt.chunk (m : MetaSt) (id : Nat) : Option ChunkRec := SMap.get m.chunks id

/-- REFS in the state through epoch `e` (R327). -/
def ChunkRec.refsAt (c : ChunkRec) (e : Nat) : Int := (c.refs.filter (fun r => decide (r.1 ≤ e))).foldl (fun a r => a + r.2) 0

/-- REFS now. -/
def ChunkRec.refsNow (c : ChunkRec) : Int := c.refs.foldl (fun a r => a + r.2) 0

/-- Note that a page changed in an epoch (R324). -/
def MetaSt.touch (m : MetaSt) (kind page epoch : Nat) : MetaSt :=
  let k := kind * 2 ^ 60 + page
  if SMap.has m.dirty k then m else { m with dirty := SMap.set m.dirty k epoch }

/-- The map page of a position becomes dirty (R324). -/
def MetaSt.touchLeaf (m : MetaSt) (nsIndex chunkNo epoch : Nat) : MetaSt := m.touch 1 (nsIndex * 2 ^ 28 + chunkNo / 4096) epoch

/-- Preserved entries of the positions of one map page, oldest first. -/
def MetaSt.presOf (m : MetaSt) (nsIndex page : Nat) : List Pres :=
  (m.pres.filter (fun p => p.nsIndex == nsIndex && p.chunkNo / 4096 == page)).reverse

/-- The pages of a namespace's preserved entries become dirty (R321, R343): 2,048 entries a page, their numbers following those of the map pages
(log 105). -/
def MetaSt.touchPres (m : MetaSt) (nsIndex chunkNo epoch : Nat) : MetaSt :=
  (List.range ((m.presOf nsIndex (chunkNo / 4096)).length / 2048 + 1)).foldl
    (fun a c => a.touch 1 (2 ^ 59 + c * 2 ^ 42 + nsIndex * 2 ^ 28 + chunkNo / 4096) epoch) m

/-- Change a chunk record; its page becomes dirty. -/
def MetaSt.setChunk (m : MetaSt) (id : Nat) (c : ChunkRec) (epoch : Nat) : MetaSt :=
  ({ m with chunks := SMap.set m.chunks id c }).touch 2 (id / 1024) epoch

/-- Add to the references of a chunk, in the epoch of the bundle that records it (R327). -/
def MetaSt.addRef (m : MetaSt) (id epoch : Nat) (d : Int) : MetaSt :=
  match m.chunk id with
  | some c => m.setChunk id { c with refs := (epoch, d) :: c.refs } epoch
  | none => m

/-- A snapshot still keeps its preserved entries: not deleted, or with clones left (R343). -/
def Snap.keeps (x : Snap) : Bool := !x.hidden || !x.clones.isEmpty

/-- Whether an entry born in epoch `b` and replaced in epoch `d` is visible to a snapshot of its namespace (R341). -/
def MetaSt.visible (m : MetaSt) (nsIndex b d : Nat) : Bool :=
  m.snaps.any (fun e => e.2.keeps && e.2.nsids.contains (nsIndex + 1) && decide (b < e.2.epn ∧ e.2.epn ≤ d))

/-- Whether a leaf entry names a chunk. -/
def Leaf.mapped (l : Leaf) : Bool := l.st == 1

/-- Replace a leaf entry by a write admitted in epoch `d` (R341): the old entry is preserved where a snapshot sees it, else its
reference is removed; the new one takes a reference. -/
def MetaSt.setLeaf (m : MetaSt) (nsIndex chunkNo : Nat) (l : Leaf) (d : Nat) : MetaSt :=
  let old := m.leaf nsIndex chunkNo
  let had := SMap.has m.leaves (leafKey nsIndex chunkNo)
  let m1 :=
    if had && m.visible nsIndex old.birth d then { m with pres := Pres.mk nsIndex chunkNo d old :: m.pres }.touchPres nsIndex chunkNo d
    else if old.mapped then m.addRef old.chunkId d (-1)
    else m
  let m2 := if l.mapped then m1.addRef l.chunkId d 1 else m1
  ({ m2 with leaves := SMap.set m2.leaves (leafKey nsIndex chunkNo) l }).touchLeaf nsIndex chunkNo d

/-- The order in which bundles form the state (R327): epoch by epoch, stream 0 before stream 1. -/
def bundleUpTo (e i e' i' : Nat) : Bool := decide (e < e' ∨ e = e' ∧ i ≤ i')

/-- Point leaf and preserved entries of chunk `l` to chunk `t`, with its references (R221, R236): those that the order of R327 puts before
the bundle of `stream` and `epoch`; `site` tells the stream of a namespace index. -/
def MetaSt.redirect (m : MetaSt) (l t epoch stream : Nat) (site : Nat → Nat) : MetaSt :=
  let hit := fun (ns : Nat) (x : Leaf) => x.mapped && x.chunkId == l && bundleUpTo x.birth (site ns) epoch stream
  let es := m.leaves.filter (fun e => hit (e.1 / 2 ^ 40) e.2)
  let ps := m.pres.filter (fun p => hit p.nsIndex p.leaf)
  let n : Int := Int.ofNat (es.length + ps.length)
  let m1 := { m with
    leaves := SMap.mapV m.leaves (fun k x => if hit (k / 2 ^ 40) x then { x with chunkId := t } else x)
    pres := m.pres.map (fun (p : Pres) => if hit p.nsIndex p.leaf then { p with leaf := { p.leaf with chunkId := t } } else p)
    moved := (l, t, epoch, stream) :: m.moved }
  let m2 := es.foldl (fun acc e => acc.touchLeaf (e.1 / 2 ^ 40) (e.1 % 2 ^ 40) epoch) m1
  let m3 := ps.foldl (fun acc (p : Pres) => acc.touchPres p.nsIndex p.chunkNo epoch) m2
  (m3.addRef l epoch (-n)).addRef t epoch n

/-- The chunk that a record of a bundle names once the redirections that the order of R327 puts after it are applied. -/
def MetaSt.renamed (m : MetaSt) (epoch stream id : Nat) : Nat :=
  m.moved.foldr (fun r acc => if r.1 = acc ∧ bundleUpTo r.2.2.1 r.2.2.2 epoch stream = false then r.2.1 else acc) id

/-- The view of a namespace's position at a snapshot epoch `e` (R341): BIRTH < E ≤ DEATH. -/
def MetaSt.viewAt (m : MetaSt) (nsIndex chunkNo e : Nat) : Leaf :=
  let cur := m.leaf nsIndex chunkNo
  if SMap.has m.leaves (leafKey nsIndex chunkNo) && decide (cur.birth < e) then cur
  else
    match m.pres.find? (fun p => p.nsIndex == nsIndex && p.chunkNo == chunkNo && decide (p.leaf.birth < e ∧ e ≤ p.death)) with
    | some p => p.leaf
    | none => {}

/-- What a clone's positions never written read through to (R342): the snapshot and its namespace; at a snapshot epoch, those of the clone that the
NSID was then. -/
def State.cloneSource (s : State) (nsid : Nat) (at' : Option Nat) : Option (Nat × Nat) :=
  let now := (SMap.get s.nvme.ns nsid).bind (fun x => if (match at' with | some e => decide (x.born < e) | none => true) then x.cloneOf else none)
  match now, at' with
  | some c, _ => some c
  | none, none => none
  | none, some e => (s.head.md.oldClones.find? (fun o => o.nsid == nsid && decide (o.born < e ∧ e ≤ o.till))).map (fun o => (o.snap, o.src))

/-- What a position reads: its own entry, or, where a clone has never written it, the snapshot's view of its source (R342).
`fuel` bounds clones of clones: a snapshot is older than its clones, so none is met twice. -/
def State.readLeafGo (s : State) : Nat → Nat → Nat → Option Nat → Leaf
  | 0, _, _, _ => {}
  | fuel + 1, nsid, chunkNo, at' =>
    let m := s.head.md
    let own := match at' with
      | some e => m.viewAt (nsid - 1) chunkNo e
      | none => m.leaf (nsid - 1) chunkNo
    if own != {} || SMap.has m.leaves (leafKey (nsid - 1) chunkNo) && at'.isNone then own
    else
      match s.cloneSource nsid at' with
      | some (snap, src) =>
        match SMap.get m.snaps snap with
        | some x => s.readLeafGo fuel src chunkNo (some x.epn)
        | none => {}
      | none => own

/-- What a position of a namespace reads now. -/
def State.readLeaf (s : State) (nsid chunkNo : Nat) : Leaf := s.readLeafGo (s.nvme.ns.length + s.head.md.oldClones.length + 1) nsid chunkNo none

/-- A chunk counts as live for a reference recorded in the bundle of epoch `e` (R260, R328): live, not dying, referenced in the
state through e - 3, not lost, of the same domain and fingerprint; the state must be complete at this head. -/
def State.liveFor (s : State) (id e domain : Nat) (fp : Bytes) : Bool :=
  match s.head.md.chunk id with
  | none => false
  | some c =>
    c.live && !c.dying && decide (0 < c.refsAt (e - 3)) && c.lostBlocks == 0 && !c.lost && c.domain == domain && c.fp == fp
      && decide (e ≤ s.head.st0.replayed + 3 ∧ e ≤ s.head.st1.replayed + 3)

/-- C of a domain in bytes (R240). -/
def State.chunkSize (s : State) (domain : Nat) : Nat := if s.pi p_dedupe_chunk_size domain = 1 then 4096 else 8192

/-- A domain is replicated (R525). -/
def State.replicated (s : State) (domain : Nat) : Bool := s.p p_repl_role != 0 && s.pi p_repl_domain_enable domain == 1

/-- The site of a range in the map in force: where a decision moved it, else r mod N of the first array boot (R261). -/
def MetaSt.rangeSite (m : MetaSt) (n r : Nat) : Nat := SMap.getD m.shard r (r % max (if m.shardN = 0 then n else m.shardN) 1)
def State.rangeSite (s : State) (r : Nat) : Nat := s.head.md.rangeSite s.nShelves r

/-- A namespace. -/
def State.ns (s : State) (nsid : Nat) : Option Ns := SMap.get s.nvme.ns nsid

/-- Data bytes of a logical block (R187). -/
def lbaBytes (lbaf : Nat) : Nat := if lbaf = 3 then 512 else 4096

/-- The format carries protection information (R187). -/
def hasPi (lbaf : Nat) : Bool := lbaf == 1 || lbaf == 2

/-- Chunk size of a namespace. -/
def State.nsChunk (s : State) (n : Ns) : Nat := s.chunkSize n.domain

/-- Mapped positions of a namespace (R322). -/
def State.nuse (s : State) (nsid : Nat) : Nat :=
  (s.head.md.leaves.filter (fun e => e.1 / 2 ^ 40 + 1 == nsid && e.2.mapped)).length

/-- A chunk record is created (R325). -/
def MetaSt.create (m : MetaSt) (id : Nat) (c : ChunkRec) (epoch : Nat) : MetaSt := m.setChunk id c epoch

/-- Free a chunk (R329): LIVE cleared, the identifier free for reuse. -/
def MetaSt.free (m : MetaSt) (id : Nat) (epoch : Nat) : MetaSt :=
  ({ m with chunks := SMap.del m.chunks id }).touch 2 (id / 1024) epoch

/-- A stripe record. -/
def MetaSt.stripe (m : MetaSt) (id : Nat) : Option StripeRec := SMap.get m.stripes id

/-- Store a stripe record; its page becomes dirty (R349). -/
def MetaSt.setStripe (m : MetaSt) (id : Nat) (r : StripeRec) (epoch : Nat) : MetaSt :=
  ({ m with stripes := SMap.set m.stripes id r }).touch 3 (id / 512) epoch

/-- Live chunks whose image lies in a stripe. -/
def MetaSt.liveIn (m : MetaSt) (id : Nat) : List (Nat × ChunkRec) := m.chunks.filter (fun e => e.2.stripeId == id && e.2.live && !e.2.lost)

/-- Stream of a stripe or a chunk: bit 47 (R225, R347). -/
def streamOf (id : Nat) : Nat := id / 2 ^ 47 % 2

/-- Store the metadata. -/
def State.setMd (s : State) (m : MetaSt) : State := { s with head := { s.head with md := m } }

end Sys2Proof.Machine
end

