-- ==== Sys2Proof/Machine/Parity.lean ====
section
/-! DEFINITION. The parity engine (R350, R351): GF(2^8) Reed–Solomon over Cauchy coefficients, ENCODE, RECONSTRUCT, CHECK. -/

namespace Sys2Proof.Machine

/-! ### GF(2^8), polynomial 0x11D (R350) -/

/-- Multiply by x. -/
def gfX (a : Byte) : Byte := if a.msb then (a <<< 1) ^^^ 0x1D else a <<< 1

/-- Product: `n` bits of the second factor, lowest first. -/
def gfMulGo : Nat → Byte → Nat → Byte
  | 0, _, _ => 0
  | n + 1, x, y => (if y % 2 = 1 then x else 0) ^^^ gfMulGo n (gfX x) (y / 2)

/-- Product in the field. -/
def gfMul (x y : Byte) : Byte := gfMulGo 8 x y.toNat

/-- Power by squaring through eight bits: x^254 is the inverse. -/
def gfInv (x : Byte) : Byte :=
  let x2 := gfMul x x
  let x4 := gfMul x2 x2
  let x8 := gfMul x4 x4
  let x16 := gfMul x8 x8
  let x32 := gfMul x16 x16
  let x64 := gfMul x32 x32
  let x128 := gfMul x64 x64
  gfMul (gfMul (gfMul x2 x4) (gfMul x8 x16)) (gfMul (gfMul x32 x64) x128)

/-- The Cauchy coefficient a(j, i) (R350). -/
def coef (j i : Nat) : Byte := gfInv (BitVec.ofNat 8 (Nat.xor j (4 + i)))

/-- A member string times a coefficient. -/
def gfScale (c : Byte) (bs : Bytes) : Bytes := bs.map (gfMul c)

/-- A linear combination of member strings, each `len` bytes. -/
def gfSum (len : Nat) : List (Byte × Bytes) → Bytes
  | [] => zeros len
  | (c, bs) :: rest => xorBytes (gfScale c (padTo len bs)) (gfSum len rest)

/-- Row of the generator matrix for member `i` of k data members: the unit row, or the Cauchy row. -/
def genRow (k i : Nat) : List Byte :=
  (List.range k).map (fun c => if i < k then (if i = c then 1 else 0) else coef (i - k) c)

/-- One elimination step: clear the pivot column of a row by the pivot row. -/
def clearRow (col : Nat) (pivot row : List Byte) : List Byte :=
  let c := row.getD col 0
  if c = 0 then row else List.zipWith (fun x y => x ^^^ gfMul c y) row pivot

/-- Scale a row so that its pivot entry is 1. -/
def normRow (col : Nat) (row : List Byte) : List Byte := row.map (gfMul (gfInv (row.getD col 0)))

/-- Gauss–Jordan elimination over columns `col ..`, `fuel` of them left; rows done so far come first. -/
def gaussGo : Nat → Nat → List (List Byte) → List (List Byte)
  | 0, _, rows => rows
  | fuel + 1, col, rows =>
    let done := rows.take col
    let todo := rows.drop col
    match todo.find? (fun r => r.getD col 0 != 0) with
    | none => rows
    | some p0 =>
      let p := normRow col p0
      let rest := todo.erase p0
      gaussGo fuel (col + 1) (done.map (clearRow col p) ++ [p] ++ rest.map (clearRow col p))

/-- The inverse of the k rows that belong to `used` members: each answer row gives a data member from the used members. -/
def invRows (k : Nat) (used : List Nat) : List (List Byte) :=
  let aug := (List.range k).map (fun r =>
    genRow k (used.getD r 0) ++ (List.range k).map (fun c => if c = r then (1 : Byte) else 0))
  (gaussGo k 0 aug).map (fun r => r.drop k)

/-- Compute one member from `used` members and their strings (R350). -/
def memberFrom (k len : Nat) (used : List Nat) (bufs : List Bytes) (want : Nat) : Bytes :=
  let inv := invRows k used
  let dataRow := genRow k want
  let row := (List.range k).map (fun c =>
    (List.range k).foldl (fun acc d => acc ^^^ gfMul (dataRow.getD d 0) ((inv.getD d []).getD c 0)) (0 : Byte))
  gfSum len (List.zip row bufs)

/-- Parity member k+j of data members' strings (R350). -/
def parityOf (k len j : Nat) (data : List Bytes) : Bytes :=
  gfSum len ((List.range k).map (fun i => (coef j i, data.getD i [])))

/-! ### Requests (R351) -/

def paK (d : Bytes) : Nat := num d 16 1
def paM (d : Bytes) : Nat := num d 17 1
def paLen (d : Bytes) : Nat := num d 20 4
def paList (d : Bytes) : Nat := num d 24 8
def paAvail (d : Bytes) : List Nat := (List.range 32).filter (bit (num d 32 4))
def paWant (d : Bytes) : List Nat := (List.range 32).filter (bit (num d 36 4))
def paResult (d : Bytes) : Nat := num d 40 8

/-- Members read: the k data members, the k lowest available, or those outside WANT and the checked ones. -/
def paUsed (d : Bytes) : List Nat :=
  if num d 0 2 = 3 then ((paAvail d).filter (fun i => !(paWant d).contains i)).take (paK d) else (paAvail d).take (paK d)

/-- Field checks (R351). -/
def parityCheck (d : Bytes) : Nat :=
  let op := num d 0 2
  let k := paK d
  let m := paM d
  let lim := decide (4 ≤ k ∧ k ≤ 20 ∧ 1 ≤ m ∧ m ≤ 4 ∧ k + m ≤ 24)
    && decide (paLen d % 64 = 0 ∧ 64 ≤ paLen d ∧ paLen d ≤ 65536)
    && (paAvail d).all (fun i => decide (i < k + m)) && (paWant d).all (fun i => decide (i < k + m))
  let rule :=
    if op = 1 then paAvail d == List.range k && (paWant d).all (fun i => decide (k ≤ i))
    else if op = 2 then decide (k ≤ (paAvail d).length) && (paWant d).all (fun i => !(paAvail d).contains i)
    else if op = 3 then (paWant d).all (fun i => (paAvail d).contains i)
      && decide (k ≤ ((paAvail d).filter (fun i => !(paWant d).contains i)).length)
    else false
  if lim && rule then 0 else ST_PARITY_FIELD

/-- Address of a member's buffer. -/
def State.paBuf (s : State) (d : Bytes) (i : Nat) : Nat := leNat (s.peek (paList d + 8 * i) 8)

/-- Ranges named (R126); a LIST that cannot be read names no buffers: the request ends with the read's status. -/
def State.parityRanges (s : State) (d : Bytes) : List (Nat × Nat) :=
  (paList d, 192) :: (if num d 0 2 = 3 then [(paResult d, 8)] else [])
    ++ (if s.readFails (paList d) 192 then [] else (paUsed d ++ paWant d).map (fun i => (s.paBuf d i, paLen d)))

/-- Run a request on its buffers once LIST is read, as any other input (R134, R155). -/
def State.withList (s : State) (n : Nat) (d : Bytes) (f : State → State) : State :=
  let l := s.dmaRead (paList d) 192
  if l.1 ≠ 0 then l.2.2.endJob n l.1 0 0 else f l.2.2

/-- Statuses a parity request that runs can return (R351). -/
def parityStatuses : List Nat := [0, ST_PARITY_MISMATCH]

/-- Two member buffers overlap: written members and RESULT are free (R587). -/
def State.paWild (s : State) (d : Bytes) : Bool :=
  let l := (paUsed d ++ paWant d).map (s.paBuf d)
  !noDup l || l.any (fun x => l.any (fun y => x != y && overlap x (paLen d) y (paLen d)))

/-- Read members in order; the first failing status ends it. -/
def paReadGo (d : Bytes) : List Nat → State → List Bytes → Nat × List Bytes × State
  | [], s, acc => (0, acc, s)
  | i :: is, s, acc =>
    let r := s.dmaRead (s.paBuf d i) (paLen d)
    if r.1 = 0 then paReadGo d is r.2.2 (acc ++ [r.2.1]) else (r.1, [], r.2.2)

/-- Free bytes in each written member, a free status and free counts (R586, R587). -/
def State.paFree (s : State) (n : Nat) (d : Bytes) : State :=
  let f := s.takeFreeBytes (paLen d)
  let c := f.2.takeFree
  let s1 := (paWant d).foldl (fun acc i => if num d 0 2 = 3 then acc else acc.dmaWrite (acc.paBuf d i) f.1) c.2
  let s2 := if num d 0 2 = 3 then s1.dmaWrite (paResult d) (f.1.take 8) else s1
  let p := s2.takeFree
  let st := p.2.takeStatus parityStatuses
  st.2.endJob n st.1 (c.1 % 2 ^ 32) (p.1 % 2 ^ 32)

/-- Write the wanted members (R351). -/
def State.paProduce (s : State) (n : Nat) (d : Bytes) (out : List (Nat × Bytes)) : State :=
  (out.foldl (fun acc e => acc.dmaWrite (acc.paBuf d e.1) e.2) s).endJob n 0 (paLen d * paK d) (paLen d * out.length)

/-- PARITY_ENCODE (R350, R351). -/
def execParityEncode (n : Nat) (s : State) : Res :=
  s.onJob n 7 [1] (fun j s =>
    let d := j.desc
    s.withList n d (fun s =>
      let r := paReadGo d (paUsed d) s []
      if s.paWild d then s.paFree n d
      else if r.1 ≠ 0 then r.2.2.endJob n r.1 0 0
      else r.2.2.paProduce n d ((paWant d).map (fun w => (w, parityOf (paK d) (paLen d) (w - paK d) r.2.1)))))

/-- PARITY_RECONSTRUCT (R350, R351). -/
def execParityReconstruct (n : Nat) (s : State) : Res :=
  s.onJob n 7 [2] (fun j s =>
    let d := j.desc
    s.withList n d (fun s =>
      let r := paReadGo d (paUsed d) s []
      if s.paWild d then s.paFree n d
      else if r.1 ≠ 0 then r.2.2.endJob n r.1 0 0
      else r.2.2.paProduce n d ((paWant d).map (fun w => (w, memberFrom (paK d) (paLen d) (paUsed d) r.2.1 w)))))

/-- The first index at which two strings differ. -/
def firstDiff : Nat → Bytes → Bytes → Nat
  | i, x :: xs, y :: ys => if x = y then firstDiff (i + 1) xs ys else i
  | i, [], _ => i
  | i, _, [] => i

/-- PARITY_CHECK (R351). -/
def execParityCheck (n : Nat) (s : State) : Res :=
  s.onJob n 7 [3] (fun j s =>
    let d := j.desc
    s.withList n d (fun s =>
      let r := paReadGo d (paUsed d) s []
      let w := paReadGo d (paWant d) r.2.2 []
      if s.paWild d then s.paFree n d
      else if r.1 ≠ 0 then r.2.2.endJob n r.1 0 0
      else if w.1 ≠ 0 then w.2.2.endJob n w.1 0 0
      else
        let bad := ((paWant d).zip w.2.1).filterMap (fun e =>
          let c := memberFrom (paK d) (paLen d) (paUsed d) r.2.1 e.1
          if c = e.2 then none else some (e.1, firstDiff 0 c e.2))
        let bits := bad.foldl (fun acc e => acc + 2 ^ e.1) 0
        let off := (bad.headD (0, 0)).2
        let s1 := w.2.2.dmaWrite (paResult d) (le 4 bits ++ le 4 off)
        let used := paLen d * ((paUsed d).length + (paWant d).length)
        if bad.isEmpty then s1.endJob n 0 used 0
        else State.endJob { s1 with parity := { s1.parity with mismatches := satInc 16 s1.parity.mismatches } } n ST_PARITY_MISMATCH used 0))

end Sys2Proof.Machine
end

