-- ==== Sys2Proof/Machine/Send.lean ====
section
/-! DEFINITION. Sending: Seam messages with their flits (R384, R386), frames on spoke ports with link numbers, credits and the
per-stream shelf budget (R229, R419 to R424). -/

namespace Sys2Proof.Machine

/-! ### Streams -/

/-- A stream of this head. -/
def State.stream (s : State) (i : Nat) : StreamSt := if i = 0 then s.head.st0 else s.head.st1

/-- Store a stream. -/
def State.setStream (s : State) (i : Nat) (v : StreamSt) : State :=
  if i = 0 then { s with head := { s.head with st0 := v } } else { s with head := { s.head with st1 := v } }

/-- This head sequences epoch `n` of a stream (R24, R405, R408). -/
def StreamSt.owns (st : StreamSt) (n : Nat) : Bool :=
  st.mine && decide (st.admitFrom ≤ n) && (match st.admitUntil with | some e => decide (n < e) | none => true)

/-- This head takes the commands of a stream's group at epoch `n`: its owner, or about to be (R405, R408). -/
def StreamSt.takes (st : StreamSt) (n : Nat) : Bool :=
  st.mine && (match st.admitUntil with | some e => decide (n < e) | none => true)

/-- Streams this head sequences. -/
def State.myStreams (s : State) : List Nat := [0, 1].filter (fun i => (s.stream i).mine)

/-! ### The Seam -/

/-- Bytes of a FWD_CMD: its entry, its CNTLID and its data (R387). -/
def fwdLen : FwdOp → Nat
  | .write _ _ _ d => 66 + d.length
  | .writeZeroes _ _ _ _ => 66
  | .deallocate _ rs => 66 + 16 * rs.length
  | .copy _ _ rs => 66 + 32 * rs.length
  | .compareWrite _ _ _ _ c d => 66 + c.length + d.length
  | .resv _ _ _ _ _ => 82

/-- Data of a command of R189 as NVMe 2.0 gives it: the namespace of a create, the controller list of an attachment. -/
def adminLen : AdminOp → Nat
  | .create _ _ _ => 4096
  | .attach _ _ => 4096
  | .detach _ _ => 4096
  | .delete _ => 0
  | .format _ _ _ => 0
  | .sanitizeCrypto => 0

/-- Bytes after the header of a message (R387). -/
def SeamBody.len : SeamBody → Nat
  | .heartbeat _ => 64
  | .durable _ => 1
  | .resendReq _ => 1
  | .release _ _ => 16
  | .sect h _ => h.sectionLen + 256
  | .catchupReq _ _ => 16
  | .fwdCmd _ op pi => fwdLen op + 16 * pi.length
  | .fwdDone _ _ _ => 16
  | .adminFwd _ op => 64 + adminLen op
  | .repairReq _ _ => 33
  | .repairReply _ _ d => 33 + d.length
  | .ledgerRec r => r.length
  | .fwdRead _ _ _ _ => 64
  | .readData _ _ d => 16 + d.length

/-- Flits of a message: 240 payload bytes each (R383). -/
def SeamBody.flits (b : SeamBody) : Nat := (32 + b.len + 239) / 240

/-- The virtual channel of a message (R387). -/
def SeamBody.vc : SeamBody → Nat
  | .heartbeat _ => 0
  | .durable _ => 0
  | .resendReq _ => 0
  | .release _ _ => 0
  | .sect _ _ => 1
  | .catchupReq _ _ => 1
  | .fwdCmd _ _ _ => 2
  | .fwdDone _ _ _ => 2
  | .adminFwd _ _ => 2
  | .repairReq _ _ => 2
  | .repairReply _ _ _ => 2
  | .ledgerRec _ => 2
  | .fwdRead _ _ _ _ => 3
  | .readData _ _ _ => 3

/-- TYPE of a message (R387). -/
def SeamBody.type : SeamBody → Nat
  | .heartbeat _ => 0x0001
  | .durable _ => 0x0002
  | .resendReq _ => 0x0003
  | .release _ _ => 0x0004
  | .sect h _ => if h.kind = 2 then 0x0011 else 0x0010
  | .catchupReq _ _ => 0x0012
  | .fwdCmd _ _ _ => 0x0020
  | .fwdDone _ _ _ => 0x0021
  | .adminFwd _ _ => 0x0022
  | .repairReq _ _ => 0x0023
  | .repairReply _ _ _ => 0x0023
  | .ledgerRec _ => 0x0024
  | .fwdRead _ _ _ _ => 0x0030
  | .readData _ _ _ => 0x0031

/-- The numbers of a command identifier. -/
def cmdNums (c : CmdId) : List Nat := [c.cntlid, c.sqid, c.cid]

/-- TAG (R386): the requester's value, and in the reply the same; of a message that is neither request nor reply zero (log 114). -/
def SeamBody.tag : SeamBody → Nat
  | .fwdCmd c _ _ => Config.seamTag (cmdNums c)
  | .fwdDone c _ _ => Config.seamTag (cmdNums c)
  | .adminFwd c _ => Config.seamTag (cmdNums c)
  | .fwdRead c _ _ _ => Config.seamTag (cmdNums c)
  | .readData c _ _ => Config.seamTag (cmdNums c)
  | .repairReq d fp => Config.seamTag [d, leNat fp]
  | .repairReply d fp _ => Config.seamTag [d, leNat fp]
  | .heartbeat _ => 0
  | .durable _ => 0
  | .resendReq _ => 0
  | .release _ _ => 0
  | .sect _ _ => 0
  | .catchupReq _ _ => 0
  | .ledgerRec _ => 0

/-- The 32-byte header of a message (R386); no type defines a flag (R387). -/
def SeamMsg.header (m : SeamMsg) : Bytes :=
  let b := le 2 m.body.type ++ zeros 2 ++ le 4 m.body.len ++ le 8 m.epn ++ le 4 m.body.tag ++ le 1 m.stream ++ le 1 m.sender ++ zeros 2
    ++ le 4 m.leaseGen
  b ++ le 4 (crc32c b)

/-- The 64 bytes of a heartbeat (R396). -/
def heartbeatBytes (h : Heartbeat) : Bytes :=
  le 8 h.t1 ++ le 8 h.t2Echo ++ le 8 h.t3Echo ++ le 1 h.state ++ le 1 (timeStateNum h.timeState) ++ le 1 (b2n h.manager + 2 * b2n h.pathBHeard)
    ++ zeros 5 ++ le 8 h.sealed ++ le 4 h.replayed0 ++ le 4 h.replayed1 ++ zeros 16

/-- The data of a forwarded command (R387): what its host's buffers hold for it, as NVMe 2.0 lays it out. -/
def fwdBytes : FwdOp → Bytes
  | .write _ _ _ d => d
  | .writeZeroes _ _ _ _ => []
  | .deallocate _ rs => rs.flatMap (fun r => zeros 4 ++ le 4 r.nlb ++ le 8 r.slba)
  | .copy _ _ rs => rs.flatMap (fun r => zeros 8 ++ le 8 r.slba ++ le 2 (r.nlb - 1) ++ zeros 14)
  | .compareWrite _ _ _ _ c d => c ++ d
  | .resv _ _ _ cur key => le 8 cur ++ le 8 key

/-- The data of a forwarded command of R189: NSZE and the format of a create, a controller list. -/
def adminData : AdminOp → Bytes
  | .create nsze lbaf _ => padTo 4096 (le 8 nsze ++ zeros 18 ++ le 1 lbaf)
  | .attach _ cs => padTo 4096 (le 2 cs.length ++ cs.flatMap (le 2))
  | .detach _ cs => padTo 4096 (le 2 cs.length ++ cs.flatMap (le 2))
  | .delete _ => []
  | .format _ _ _ => []
  | .sanitizeCrypto => []

/-- The bytes of a message after its header (R387). -/
def SeamBody.bytes : SeamBody → Bytes
  | .heartbeat h => heartbeatBytes h
  | .durable b => le 1 b
  | .resendReq k => le 1 k
  | .release e n => le 8 e ++ le 8 n
  | .sect h items => bundleBytes items ++ bundleHdrBytes h
  | .catchupReq a b => le 8 a ++ le 8 b
  | .fwdCmd c op pi => padTo 64 (Config.fwdEntry c op) ++ le 2 c.cntlid ++ fwdBytes op ++ pi.flatMap (fun p => le 8 p.guard ++ le 2 p.appTag ++ le 6 p.refTag)
  | .fwdDone c st dw0 => padTo 16 (Config.cplEntry c st dw0)
  | .adminFwd c op => padTo 64 (Config.adminEntry c op) ++ adminData op
  | .repairReq d fp => le 1 d ++ padTo 32 fp
  | .repairReply d fp data => le 1 d ++ padTo 32 fp ++ data
  | .ledgerRec r => r
  | .fwdRead c ns slba nlb => padTo 64 (Config.readEntry c ns slba nlb)
  | .readData c st data => data ++ padTo 16 (Config.cplEntry c st 0)

/-- A message's bytes (R386). -/
def SeamMsg.bytes (m : SeamMsg) : Bytes := m.header ++ m.body.bytes

/-- A flit's header (R383). -/
def flitHeader (seq ack vc : Nat) (som eom nak : Bool) : Nat :=
  seq % 2 ^ 24 + 2 ^ 24 * (ack % 2 ^ 24) + 2 ^ 48 * (vc % 4) + 2 ^ 50 * b2n som + 2 ^ 51 * b2n eom + 2 ^ 52 * b2n nak

/-- A flit (R383): its header, 240 payload bytes, the CRC-64 of both. -/
def flitBytes (hdr : Nat) (payload : Bytes) : Bytes :=
  let b := le 8 hdr ++ padTo 240 payload
  b ++ le 8 (crc64 b)

/-- A flit whose CRC holds (R383, R384). -/
def flitOk (f : Bytes) : Bool := f.length == 256 && num f 248 8 == crc64 (f.take 248)

/-- Flit `j` of a message whose first flit has number `seq` (R383). -/
def SeamMsg.flit (m : SeamMsg) (seq ack j : Nat) : Bytes :=
  flitBytes (flitHeader (seq + j) ack m.body.vc (j == 0) (j + 1 == m.body.flits) false) ((m.bytes.drop (240 * j)).take 240)

/-- Lanes in service among the sixteen. -/
def laneCount (l : BitVec 16) : Nat := ((List.range 16).filter (fun i => l.getLsbD i)).length

/-- The lane that takes a flit (R382): round robin over the lanes in service. -/
def flitLane (lanes : BitVec 16) (place : Nat) : Nat :=
  let ls := (List.range 16).filter (fun i => lanes.getLsbD i)
  ls.getD (place % ls.length) 0

/-- What leaves on the lanes for a message, flit by flit: the lane and the 256 bytes (R382, R383). -/
def Out.flits : Out → List (Nat × Bytes)
  | .seam seq ack lanes lane m => (List.range m.body.flits).map (fun j => (flitLane lanes (lane + j), m.flit seq ack j))
  | _ => []

/-- Flits that the lanes in service carry in one epoch of `epoch.length_us` (R382: 106.25 Gb/s per lane, less the FEC overhead). -/
def State.seamFlits (s : State) : Nat :=
  laneCount s.seam.lanesUp * s.p p_epoch_length_us * 106250 * 514 / (544 * 2048)

/-- A message has come in: the flits it took (R383). -/
def State.rxSeam (s : State) (b : SeamBody) : State := { s with seam := { s.seam with rxSeq := s.seam.rxSeq + b.flits } }

/-- What a message sent now is on the lanes. -/
def State.seamOut (s : State) (m : SeamMsg) : Out := .seam (s.seam.txSeq % 2 ^ 24) (s.seam.rxSeq % 2 ^ 24) s.seam.lanesUp s.seam.lane m

/-- A message leaves on the lanes: it takes the next flits, and stays in the replay buffer of 8,192 flits (R384). -/
def State.putSeam (s : State) (m : SeamMsg) : State :=
  let n := m.body.flits
  let keep := s.seam.replay.filter (fun e => decide (s.seam.txSeq + n ≤ e.1 + e.2.1 + 8192))
  State.emit { s with seam := { s.seam with
      txSeq := s.seam.txSeq + n, replay := keep ++ [(s.seam.txSeq, n, m)], flits := s.seam.flits + n
      lane := (s.seam.lane + n) % max 1 (laneCount s.seam.lanesUp) } } (s.seamOut m)

/-- The link still has room in this epoch: a message that begins in it may end in a later one, whose flits it then takes (log 77). -/
def State.seamRoom (s : State) : Bool := s.seam.flits == 0 || decide (s.seam.flits < s.seamFlits)

/-- A message on this channel leaves at once (R385): channel 0 has strict priority; another waits behind its own channel's messages, and
while the link is contended. -/
def State.seamFree (s : State) (b : SeamBody) : Bool :=
  s.seam.linkUp && (b.vc == 0 || (s.seamRoom && !s.seam.waiting.any (fun m => m.body.vc == b.vc)))

/-- A message of this head (R386). -/
def State.seamMsg (s : State) (stream epn : Nat) (b : SeamBody) : SeamMsg := ⟨epn, stream, s.site, s.seam.leaseGen % 2 ^ 32, b⟩

/-- Send a message over the Seam, where the link is up; on a contended link it waits in its virtual channel (R385). -/
def State.sendSeam (s : State) (stream epn : Nat) (b : SeamBody) : State :=
  let m := s.seamMsg stream epn b
  if s.seamFree b then s.putSeam m
  else if s.seam.linkUp then { s with seam := { s.seam with waiting := s.seam.waiting ++ [m] } }
  else s

/-- The weight of a channel's share: half of the link for channel 1, a quarter each for channels 2 and 3 (R385). -/
def vcWeight (vc : Nat) : Nat := if vc = 1 then 1 else 2

/-- The oldest message that waits in each channel. -/
def State.seamHeads (s : State) : List SeamMsg := [1, 2, 3].filterMap (fun vc => s.seam.waiting.find? (fun m => m.body.vc == vc))

/-- The waiting message whose channel has had the least of its share (R385). -/
def State.nextSeam (s : State) : Option SeamMsg :=
  s.seamHeads.foldl (fun (a : Option SeamMsg) m =>
    match a with
    | none => some m
    | some k => if s.seam.share.getD m.body.vc 0 < s.seam.share.getD k.body.vc 0 then some m else a) none

/-- Send what waits, by the channels' shares, as far as the epoch's flits go; an unused share passes to the others (R385). -/
def seamGo : Nat → State → State
  | 0, s => s
  | f + 1, s =>
    match (if s.seamRoom then s.nextSeam else none) with
    | none => s
    | some m =>
      let vc := m.body.vc
      seamGo f (State.putSeam { s with seam := { s.seam with
        waiting := s.seam.waiting.erase m, share := s.seam.share.set vc (s.seam.share.getD vc 0 + m.body.flits * vcWeight vc) } } m)

/-- The shares at the start of an epoch: what the channels that wait have had counts from the one that has had least, and a channel that did not
use its share saves none of it up (R385). -/
def State.sharesNow (s : State) : List Nat :=
  match s.seamHeads.map (fun m => s.seam.share.getD m.body.vc 0) with
  | [] => [0, 0, 0, 0]
  | x :: xs => s.seam.share.map (fun v => v - xs.foldl min x)

/-- A new epoch of the link: the flits that a message still takes come off it, and what waits goes first (R385). -/
def State.seamDrain (s : State) : State :=
  seamGo s.seam.waiting.length { s with seam := { s.seam with flits := s.seam.flits - s.seamFlits, share := s.sharesNow } }

/-! ### Spoke ports -/

/-- A port. -/
def State.portOf (s : State) (p : Nat) : SpokePort := s.port.getD p {}

/-- Store a port. -/
def State.setPort (s : State) (p : Nat) (v : SpokePort) : State := { s with port := s.port.set p v }

/-- A port carries frames other than HELLO: UP, with the identity checks passed (R416, R418). -/
def SpokePort.up (p : SpokePort) : Bool := p.state == 3 && p.admitted

/-- Payload bytes of a frame (R420 to R432). -/
def FrameOp.len : FrameOp → Nat
  | .hello _ => 64
  | .linkAck => 0
  | .nak _ => 0
  | .credit _ _ => 8
  | .mark _ _ _ => 24
  | .hbRelay _ _ => 72
  | .renew _ => 128
  | .claim _ => 128
  | .release _ => 128
  | .append _ img => 128 + img.length
  | .close _ checks ssns => 16 + 256 + 16 * checks.length + 8 * ssns.length
  | .stripWrite _ _ => 65792
  | .sectorRead _ _ => 16
  | .drop => 0
  | .discard _ => 8
  | .idxQuery _ _ => 40
  | .idxOp _ _ _ _ _ _ => 52
  | .health => 0
  | .ledgerGet _ => 8
  | .bufferList _ => 4
  | .bufferRead => 0
  | .ack es => 8 + 24 * es.length
  | .done es => 8 + 24 * es.length
  | .reply _ _ _ b =>
    match b with
    | .none => 16
    | .named _ => 16
    | .lease _ _ => 272
    | .claimed _ _ _ => 272
    | .sectors _ d => 16 + 4112 * d.length
    | .bytes d => 16 + d.length
    | .list es => 16 + 152 * es.length
  | .raw b => b.length - 48

/-- Credits of a frame (R420, R424): W credits, Q credits. -/
def FrameOp.credits (o : FrameOp) : Nat × Nat :=
  match o with
  | .append _ _ => ((o.len + 4095) / 4096, 0)
  | .close _ _ _ => ((o.len + 4095) / 4096, 0)
  | .stripWrite _ _ => ((o.len + 4095) / 4096, 0)
  | .sectorRead _ _ => (0, 1)
  | .drop => (0, 1)
  | .discard _ => (0, 1)
  | .idxQuery _ _ => (0, 1)
  | .idxOp _ _ _ _ _ _ => (0, 1)
  | .health => (0, 1)
  | .ledgerGet _ => (0, 1)
  | .bufferList _ => (0, 1)
  | .bufferRead => (0, 1)
  | .hello _ => (0, 0)
  | .linkAck => (0, 0)
  | .nak _ => (0, 0)
  | .credit _ _ => (0, 0)
  | .mark _ _ _ => (0, 0)
  | .hbRelay _ _ => (0, 0)
  | .renew _ => (0, 0)
  | .claim _ => (0, 0)
  | .release _ => (0, 0)
  | .ack _ => (0, 0)
  | .done _ => (0, 0)
  | .reply _ _ _ _ => (0, 0)
  | .raw b =>
    let op := num b 0 1
    if op = 0x20 ∨ op = 0x21 ∨ op = 0x22 then ((b.length - 48 + 4095) / 4096, 0)
    else if 0x30 ≤ op ∧ op ≤ 0x53 then (0, 1) else (0, 0)

/-- The control frames of which a head sends at most 16 per epoch (R424). -/
def FrameOp.control : FrameOp → Bool
  | .mark _ _ _ => true
  | .hbRelay _ _ => true
  | .renew _ => true
  | .claim _ => true
  | .release _ => true
  | _ => false

/-- A frame that takes a tag: a write in the sense of R422. -/
def Frame.tagged (f : Frame) : Bool := f.tag.cls != .none

/-- Tag of untagged frames. -/
def noTag : Tag := ⟨.none, 255, 0, 0⟩

/-- A head whose replay-compatibility identifier differs from the serving peer's: it sends nothing to shelves (R58). -/
def State.barred (s : State) : Bool := s.isHead && s.boot.holds.contains AL_EPOCH_REPLAY_ID

/-- Every frame leaves here, with its LSN and the acknowledgement it carries (R419, R423); a barred head sends none. -/
def State.putFrame (s : State) (p lsn ack : Nat) (f : Frame) : State := if s.barred then s else s.emit (.frame p lsn ack f)

/-- Put a frame on a port: the next LSN, a place in the replay buffer, its credits (R419, R423, R424). -/
def State.txFrame (s : State) (p : Nat) (f : Frame) : State :=
  let q := s.portOf p
  let c := f.op.credits
  let q1 := { q with
    txLsn := q.txLsn + 1
    replay := q.replay ++ [(q.txLsn, f)]
    w := if s.isHead then q.w - c.1 else q.w
    q := if s.isHead then q.q - c.2 else q.q
    control := q.control + b2n f.op.control }
  (s.setPort p q1).putFrame p q.txLsn q.rxLsn f

/-- Put a frame that is not numbered or kept: HELLO, LINK_ACK, NAK. -/
def State.txBare (s : State) (p : Nat) (o : FrameOp) : State :=
  let q := s.portOf p
  s.putFrame p q.txLsn q.rxLsn ⟨noTag, false, false, 0, 0, o⟩

/-- Bytes of a stream at a site that are not yet on flash, as this head counts them (R229). -/
def State.budgetUsed (s : State) (site stream : Nat) : Nat :=
  (s.head.sent.filter (fun e => e.site == site && e.frame.tag.stream == stream && e.frame.tagged)).foldl (fun a e => a + e.bytes) 0

/-- The half of the budget that one stream may hold at a shelf (R229). -/
def State.budgetHalf (s : State) : Nat := s.p p_shelf_pls_budget_mib * 1048576 / 2

/-- Sectors an item of `len` payload bytes takes in the power-safe buffer (R449). -/
def itemSectors (len : Nat) : Nat := (64 + len + 4095) / 4096

/-- Bytes a tagged write counts against the budget (R229): those of the buffer item it becomes, whole sectors (R449). DROP, DISCARD and an
index operation become none. -/
def budgetBytes (o : FrameOp) : Nat :=
  match o with
  | .append _ _ => 4096 * itemSectors o.len
  | .close _ _ _ => 4096 * itemSectors o.len
  | .stripWrite _ _ => 4096 * itemSectors o.len
  | _ => 0

/-- Whether a frame can leave now for a site: the port UP, its credits there, its stream's budget not exceeded,
POWER_FAIL_N released (R611). -/
def State.canSend (s : State) (site : Nat) (f : Frame) : Bool :=
  let q := s.portOf site
  let c := f.op.credits
  q.up && !s.power.pfAsserted && decide (c.1 ≤ q.w ∧ c.2 ≤ q.q) && (!f.op.control || decide (q.control < 16))
    && (budgetBytes f.op == 0 || decide (s.budgetUsed site f.tag.stream + budgetBytes f.op ≤ s.budgetHalf))

/-- Record a frame as sent and unfinished, where an acknowledgement or a reply is due. -/
def State.track (s : State) (site : Nat) (f : Frame) : State :=
  let c := f.op.credits
  if f.tagged ∨ 0 < c.2 then
    { s with head := { s.head with sent := s.head.sent ++ [⟨site, f, budgetBytes f.op, false⟩] } }
  else s

/-- Send a frame to a shelf site, or let it wait for room (R229, R424). Frames of one site stay in order. A failed shelf is sent nothing
but control frames: marks go to every active port (R48, R361). -/
def State.toShelf (s : State) (site : Nat) (f : Frame) : State :=
  if s.barred || (s.head.md.failed.contains site && !f.op.control) then s
  else if f.op.control then (if s.canSend site f then s.txFrame site f else s)
  else if s.canSend site f && !(s.head.queue.any (·.site == site)) then (s.txFrame site f).track site f
  else { s with head := { s.head with queue := s.head.queue ++ [⟨site, f, budgetBytes f.op, false⟩] } }

/-- Send what waits, in order, as far as room allows. -/
def pumpGo : List Sent → State → State
  | [], s => s
  | e :: rest, s => pumpGo rest (s.toShelf e.site e.frame)

/-- Try the waiting sends again. -/
def State.pump (s : State) : State := pumpGo s.head.queue { s with head := { s.head with queue := [] } }

/-- A request identifier. -/
def State.reqId (s : State) : Nat × State :=
  (s.head.nextReq, { s with head := { s.head with nextReq := s.head.nextReq + 1 } })

/-- Send an untagged request; answers its identifier. -/
def State.request (s : State) (site : Nat) (op : FrameOp) : Nat × State :=
  let r := s.reqId
  (r.1, r.2.toShelf site ⟨noTag, false, false, 0, r.1, op⟩)

/-- Sites of the array. -/
def State.sites (s : State) : List Nat := List.range s.nShelves

/-- Send one frame to every shelf whose port is up. -/
def State.toAll (s : State) (f : Frame) : State := s.sites.foldl (fun acc i => acc.toShelf i f) s

/-- An untagged frame without a request identifier. -/
def bareFrame (op : FrameOp) : Frame := ⟨noTag, false, false, 0, 0, op⟩

/-- ITEM of a strip (R422). -/
def stripItem (stripe member : Nat) : Nat := stripe * 256 + member

/-- A tagged write of a stream. -/
def State.tagged (s : State) (cls : TagClass) (stream seq item : Nat) (single : Bool) (op : FrameOp) : Frame :=
  ⟨⟨cls, stream, seq, item⟩, single, false, (s.stream stream).gen, 0, op⟩

/-! ### What a head knows of a shelf -/

/-- A shelf as the head sees it. -/
def State.shelf (s : State) (site : Nat) : ShelfView := SMap.getD s.head.shelves site {}

/-- Store it. -/
def State.setShelf (s : State) (site : Nat) (v : ShelfView) : State :=
  { s with head := { s.head with shelves := SMap.set s.head.shelves site v } }

end Sys2Proof.Machine
end

