-- ==== Sys2Proof/Machine/Stripe.lean ====
section
/-! DEFINITION. Stripes at a head: the layout, which shelves accept strips, opening, placing, SIF records and closing (R227, R235,
R345 to R357). -/

namespace Sys2Proof.Machine

/-! ### Layout and placement -/

/-- The array layout k + m by the parameters (R345). -/
def State.paramLayout (s : State) : Nat × Nat :=
  let k := s.p p_stripe_k
  let m := s.p p_stripe_m
  if k = 0 ∧ m = 0 then (if 28 ≤ s.nShelves then (20, 4) else (12, 3)) else (k, m)

/-- The layout that new stripes take: the one of the newest REFOLD_START, else the parameters' (R369). -/
def State.layoutKM (s : State) : Nat × Nat :=
  match s.head.md.layout with
  | k :: m :: _ => (k, m)
  | _ => s.paramLayout

/-- A shelf site is treated as failed (R361). -/
def State.isFailed (s : State) (site : Nat) : Bool := s.head.md.failed.contains site

/-- A shelf is absent for a planned restart (R362). -/
def State.isAbsent (s : State) (site : Nat) : Bool := s.head.md.absent.any (·.1 == site)

/-- Sites at or above it take no new strips (R357); 64 and more is none. -/
def State.retireFrom (s : State) : Nat := s.p p_refold_retire_from

/-- Free stored space exceeds the Glade reserve of (G / N) x capacity (R357, R359). -/
def State.aboveReserve (s : State) (v : ShelfView) : Bool :=
  decide (s.p p_glade_spare_centi * v.capacity < v.free * 100 * max s.nShelves 1)

/-- A shelf accepts new strips (R357). -/
def State.accepts (s : State) (site : Nat) : Bool :=
  SMap.has s.head.shelves site && !s.isFailed site && !s.isAbsent site && !(s.shelf site).readOnly && !(s.shelf site).silent
    && decide (site < s.retireFrom) && s.aboveReserve (s.shelf site)

/-- Put a site into a list ordered by falling free space, ties to the lower site. -/
def insByFree (free : Nat → Nat) : List Nat → Nat → List Nat
  | [], x => [x]
  | y :: ys, x => if free y < free x then x :: y :: ys else y :: insByFree free ys x

/-- The accepting shelves in the order an opening stream takes them (R357). -/
def State.acceptOrder (s : State) : List Nat :=
  (s.sites.filter s.accepts).foldl (insByFree (fun i => (s.shelf i).free)) []

/-! ### SIF records -/

/-- The lowest free key below a limit. -/
def freeKey {α : Type} (m : SMap α) (limit : Nat) : Option Nat := (List.range limit).find? (fun i => !SMap.has m i)

/-- SIF records in the Hem (R157). -/
def sifCap : Nat := 8192

/-- The index of a stripe's SIF record. -/
def State.sifOf (s : State) (stripe : Nat) : Option Nat := (s.hem.sif.find? (fun e => e.2.stripeId == stripe)).map (·.1)

/-- A SIF record changes: what stood there is noted until the change is durable (R154). -/
def looseFrom (sif : SMap SifRec) (loose : SMap (Option SifRec)) (i : Nat) : SMap (Option SifRec) :=
  if SMap.has loose i then loose else SMap.set loose i (SMap.get sif i)

/-- Write a SIF record. -/
def State.putSif (s : State) (i : Nat) (r : SifRec) : State :=
  { s with hem := { s.hem with sif := SMap.set s.hem.sif i r, looseSif := looseFrom s.hem.sif s.hem.looseSif i } }

/-- Free a stripe's SIF record. -/
def State.freeSif (s : State) (stripe : Nat) : State :=
  let gone := (s.hem.sif.filter (fun e => e.2.stripeId == stripe)).map (·.1)
  { s with hem := { s.hem with
      sif := SMap.keep s.hem.sif (fun _ r => r.stripeId != stripe), looseSif := gone.foldl (looseFrom s.hem.sif) s.hem.looseSif } }

/-- Take a SIF record for a stripe, where there is one free (R352). -/
def State.takeSif (s : State) (id : Nat) (r : StripeRec) : State :=
  match freeKey s.hem.sif sifCap with
  | some i => s.putSif i ⟨id, 1, r.k, r.m, r.flags % 2 + 2 * (r.flags / 8 % 2), r.openEpn, r.sites, 0, 0⟩
  | none => s

/-- Bytes 0 to 47 of a stripe record as section items carry them (R349). -/
def StripeRec.head (r : StripeRec) (id : Nat) : StripeHead := ⟨id, r.k, r.m, r.state, r.flags, r.layoutGen, r.openEpn, r.sites⟩

/-- METADATA and REFOLD_TARGET of a stripe's FLAGS (R349). -/
def StripeRec.isMeta (r : StripeRec) : Bool := bit r.flags 0
def StripeRec.isTarget (r : StripeRec) : Bool := bit r.flags 3

/-- Every stripe that a stream keeps open (R227). -/
def State.openCount (s : State) (stream : Nat) : Nat := (s.head.md.stripes.filter (fun e => e.2.state == 1 && streamOf e.1 == stream)).length

/-- Open stripes of a stream of one sort. -/
def State.openStripes (s : State) (stream : Nat) (isMeta : Bool) : List (Nat × StripeRec) :=
  s.head.md.stripes.filter (fun e => e.2.state == 1 && streamOf e.1 == stream && e.2.isMeta == isMeta && !e.2.isTarget)

/-- Make a new stripe of a stream: its STRIPE_ID, its members by R357 and its SIF record (R352). None where no SIF record is free,
fewer than m + 4 shelves accept, or the stream keeps `ingest.open_stripes` open (R227). -/
def State.newStripe (s : State) (stream flags : Nat) : Option (Nat × State) :=
  let km := s.layoutKM
  let acc := s.acceptOrder
  if acc.length < km.2 + 4 || (freeKey s.hem.sif sifCap).isNone || decide (s.p p_ingest_open_stripes ≤ s.openCount stream) then none
  else
    let k := min km.1 (acc.length - km.2)
    let st := s.stream stream
    let id := stream * 2 ^ 47 + st.nextStripe
    let r : StripeRec := { k := k, m := km.2, state := 1, flags := flags + (if k < km.1 then 4 else 0)
                           layoutGen := s.head.md.layoutGen, openEpn := s.epn, sites := acc.take (k + km.2) }
    let s1 := s.setStream stream { st with nextStripe := st.nextStripe + 1, opens := st.opens ++ [id] }
    some (id, (s1.setMd (s1.head.md.setStripe id r s.epn)).takeSif id r)

/-- Raise an alarm where its condition holds and it is not raised, clear it where the condition has ended (R511). -/
def State.followAlarm (s : State) (code : Nat) (on : Bool) : State :=
  if on = s.ev.isRaised code 0 then s else if on then s.alarm code 0 else s.clearAlarm code 0

/-- Follow the count of accepting shelves: AL_STRIPE_FULL (R357). -/
def State.fullCheck (s : State) : State := s.followAlarm AL_STRIPE_FULL (decide (s.acceptOrder.length < s.layoutKM.2 + 4))

/-- STRIPE_OPEN: a stream opens a stripe once a SIF record is free (R227, R352); metadata stripes use the same layout (R349). -/
def execStripeOpen (stream : Fin 2) (isMeta : Bool) (s : State) : Res :=
  onlyIf (s.headUp && (s.stream stream).mine) s
    (fun s =>
      let s1 := s.fullCheck
      match s1.newStripe stream (b2n isMeta) with
      | some r => r.2
      | none => s1)

/-! ### Placing images -/

/-- Granules of the payload area of a strip (R346). -/
def stripGranules : Nat := 1020

/-- Granules of a number of bytes. -/
def granules (len : Nat) : Nat := (len + 63) / 64

/-- The next free granule of a data strip of an open stripe. -/
def StripeRec.next (r : StripeRec) (strip : Nat) : Nat :=
  (r.placed.filter (fun p => p.2.2.1 == strip)).foldl (fun a p => max a (p.2.2.2.1 + granules p.2.2.2.2)) 0

/-- The first data strip with room for an image (R227). -/
def StripeRec.room (r : StripeRec) (len : Nat) : Option Nat :=
  (List.range r.k).find? (fun i => decide (r.next i + granules len ≤ stripGranules))

/-- Where an image of a stream goes: stripe, strip, granule; none where no open stripe has room. The first with room: DESIGN CHOICE (R59,
log 30). -/
def State.placeFor (s : State) (stream : Nat) (isMeta : Bool) (len : Nat) : Option (Nat × Nat × Nat) :=
  (s.openStripes stream isMeta).findSome? (fun e => (e.2.room len).map (fun i => (e.1, i, e.2.next i)))

/-- Note an image's place in its stripe: staging key, chunk ID, strip, granule, bytes. -/
def State.notePlace (s : State) (stripe : Nat) (p : Nat × Nat × Nat × Nat × Nat) : State :=
  match s.head.md.stripe stripe with
  | some r => s.setMd (s.head.md.setStripe stripe { r with placed := r.placed ++ [p] } s.epn)
  | none => s

/-- The site of a member. -/
def StripeRec.site (r : StripeRec) (i : Nat) : Nat := r.sites.getD i 255

/-- Send one image twice: to the landing shelf and, as the mirror, to the first parity shelf (R228). -/
def State.sendImage (s : State) (tag : Tag) (gen : Nat) (r : StripeRec) (strip : Nat) (h : AppendHead) (img : Bytes) : State :=
  let s1 := s.toShelf (r.site strip) ⟨tag, false, false, gen, 0, .append { h with mirror := false } img⟩
  s1.toShelf (r.site r.k) ⟨tag, false, false, gen, 0, .append { h with mirror := true } img⟩

/-! ### Closing -/

/-- Check field application tag and reference tag of a strip's sectors: STRIPE_ID and 0xFFFF (R426); its CRC-64s follow from its
bytes. -/
def sectorChecks (bs : Bytes) : List Nat := (chunksOf 4096 bs).map crc64

/-- The payload area of a data strip: images packed from granule 0, zeros after the last (R235). -/
def packed (imgs : List Bytes) : Bytes := padTo 65280 (imgs.flatMap (fun b => padTo (64 * granules b.length) b))

/-- A strip's header as its stripe record gives it (R346, R348). -/
def StripeRec.header (r : StripeRec) (id member used : Nat) (rebuilt : Bool) : StripHead :=
  { member := member, parity := decide (r.k ≤ member), metadata := r.isMeta, rebuilt := rebuilt, recovered := bit r.flags 1
    stripeId := id, k := r.k, m := r.m, layoutGen := r.layoutGen, usedGranules := if r.k ≤ member then stripGranules else used
    closeEpn := r.closeEpn, sites := r.sites, empty := r.empty }

/-- Kept images of each data strip: staging key and chunk ID in packing order, from a test on the staging key. -/
def StripeRec.keptOf (r : StripeRec) (keep : Nat → Bool) : List (List (Nat × Nat × Nat)) :=
  (List.range r.k).map (fun i =>
    (r.placed.filter (fun p => p.2.2.1 == i && keep p.1)).map (fun p => (p.1, p.2.1, granules p.2.2.2.2)))

/-- Set the packed granules of a strip's chunks, in order; a chunk staged again under R337 is LOST no more. -/
def repackGo (epoch stripe strip : Nat) : List (Nat × Nat × Nat) → Nat → MetaSt → MetaSt
  | [], _, m => m
  | (_, id, n) :: rest, g, m =>
    repackGo epoch stripe strip rest (g + n)
      (match m.chunk id with
       | some c => if c.stripeId = stripe then m.setChunk id { c with granule := g, strip := strip, lost := false } epoch else m
       | none => m)

/-- Set the packed granules of every strip. -/
def repack (epoch stripe : Nat) : Nat → List (List (Nat × Nat × Nat)) → MetaSt → MetaSt
  | _, [], m => m
  | i, l :: rest, m => repack epoch stripe (i + 1) rest (repackGo epoch stripe i l 0 m)

/-- Granules that a strip's kept images use. -/
def usedOf (l : List (Nat × Nat × Nat)) : Nat := l.foldl (fun a e => a + e.2.2) 0

/-- Send a stripe's closes and parity strips (R354): `img` gives a staging key's image. -/
def State.sendClose (s : State) (id stream : Nat) (r : StripeRec) (kept : List (List (Nat × Nat × Nat))) (img : Nat → Bytes) : State :=
  let gen := (s.stream stream).gen
  let payloads := kept.map (fun l => packed (l.map (fun e => img e.1)))
  let s1 := (List.range r.k).foldl (fun acc i =>
    let l := kept.getD i []
    if l.isEmpty then acc
    else
      let h := r.header id i (usedOf l) false
      acc.toShelf (r.site i) ⟨⟨.close, stream, r.closeEpn, stripItem id i⟩, false, false, gen, 0,
        .close h (sectorChecks (stripHeadBytes h ++ payloads.getD i [])) (l.map (fun e => if r.isMeta then e.1 / 65536 else e.1))⟩) s
  (List.range r.m).foldl (fun acc j =>
    let h := r.header id (r.k + j) 0 false
    acc.toShelf (r.site (r.k + j)) ⟨⟨.parity, stream, r.closeEpn, stripItem id (r.k + j)⟩, false, false, gen, 0,
      .stripWrite h (parityOf r.k 65280 j payloads)⟩) s1

/-- Close a stripe in the seal of an epoch (R235, R354): the record, the chunks' packed places, the SIF record CLOSING, the closes
and the parity. -/
def State.closeStripe (s : State) (id epoch : Nat) (kept : List (List (Nat × Nat × Nat))) (img : Nat → Bytes) : State :=
  match s.head.md.stripe id with
  | none => s
  | some r0 =>
    let empty := ((List.range r0.k).filter (fun i => (kept.getD i []).isEmpty)).foldl (fun a i => a + 2 ^ i) 0
    let r := { r0 with state := 2, closeEpn := epoch, empty := empty, kept := kept.map (·.map (·.2.1)), used := kept.map usedOf, placed := [] }
    let s1 := s.setMd ((repack epoch id 0 kept s.head.md).setStripe id r epoch)
    let s2 := match s1.sifOf id with
      | some i => s1.putSif i ⟨id, 2, r.k, r.m, r.flags % 2 + 2 * (r.flags / 8 % 2), r.openEpn, r.sites, epoch, 0⟩
      | none => s1
    s2.sendClose id (streamOf id) r kept img

/-- A member acknowledged its final strip power-safe (R354): its ACKED bit, and the SIF record freed once every member that is
not EMPTY has. -/
def State.memberAcked (s : State) (id member : Nat) : State :=
  match s.sifOf id with
  | none => s
  | some i =>
    match SMap.get s.hem.sif i with
    | none => s
    | some f =>
      if f.state != 2 then s
      else
        let acked := if bit f.acked member then f.acked else f.acked + 2 ^ member
        let empty := match s.head.md.stripe id with
          | some r => r.empty
          | none => 0
        if (List.range (f.k + f.m)).all (fun x => bit acked x || bit empty x) then s.freeSif id
        else s.putSif i { f with acked := acked }

end Sys2Proof.Machine
end

