-- ==== Sys2Proof/Machine/Time.lean ====
section
/-! DEFINITION. Sources of time, time states, quality and skew of a head (R32 to R47), and the marks a shelf follows (R49 to
R51). -/

namespace Sys2Proof.Machine

/-- The peer is LOCKED, as its heartbeats say, whether or not it is in service (R33, R41, R44). -/
def State.peerLocked (s : State) : Bool := s.seam.peerTime == some .locked

/-- The own reference is usable (R41): valid, and T within 1 µs of it. -/
def State.ownUsable (s : State) : Bool := s.time.refValid && decide (s.time.refOff.natAbs ≤ 1000)

/-- What a time state counts as, apart from PEER (R44). -/
def countState : TimeState → Quality
  | .locked => .locked
  | .holdover => .holdover
  | _ => .freeRun

/-- The worse of two qualities, and the quality of a list of counted states: LOCKED where one is (R44). -/
def worse : Quality → Quality → Quality
  | .freeRun, _ => .freeRun
  | _, .freeRun => .freeRun
  | .holdover, _ => .holdover
  | _, q => q
def qualityOf (qs : List Quality) : Quality :=
  if qs.contains .locked then .locked
  else match qs with
    | [] => .freeRun
    | q :: r => r.foldl worse q

/-- The array time quality a head computes (R44): its own state, and the peer's while the peer is in service; a head in PEER
counts as the state of the head it follows. -/
def State.headQuality (s : State) : Quality :=
  let peerBase := match s.seam.peerTime with
    | some st => countState st
    | none => .freeRun
  let own := if s.time.state = .peer then peerBase else countState s.time.state
  let other := match s.seam.peerTime with
    | some .peer => countState s.time.state
    | some st => countState st
    | none => .freeRun
  if s.peerUp then qualityOf [own, other] else qualityOf [own]

/-- Report the quality; AL_EPOCH_FREE_RUN follows it (R63). -/
def State.setQuality (s : State) (q : Quality) : State :=
  let s1 := { s with time := { s.time with quality := q } }
  match q with
  | .freeRun => if s1.ev.isRaised AL_EPOCH_FREE_RUN 0 then s1 else s1.alarm AL_EPOCH_FREE_RUN 0
  | .locked => s1.clearAlarm AL_EPOCH_FREE_RUN 0
  | .holdover => s1

/-- Enter a time state; LOCKED raises EV_EPOCH_REF_ACQUIRED (R63), and leaving a PEER of R47 forgets it. -/
def State.enterTime (s : State) (st : TimeState) : State :=
  let s1 := { s with time := { s.time with state := st, skewPeer := s.time.skewPeer && st == .peer, followedUp := false } }
  if st = .locked ∧ s.time.state ≠ .locked then s1.event EV_EPOCH_REF_ACQUIRED 0 else s1

/-- A slew is in progress while a valid reference lies more than 1 µs away (R45). -/
def State.slewFlag (s : State) : State :=
  if s.time.refValid && decide (1000 < s.time.refOff.natAbs) then { s with time := { s.time with slewing := true } } else s

/-- The followed head has left service (R41). -/
def State.followedLeft (s : State) : Bool := s.time.followedUp && !s.peerUp

/-- The transitions of R41 and R47 out of a head's present state. -/
def State.timeMove (s : State) : State :=
  match s.time.state with
  | .locked => if s.ownUsable then s else if s.peerLocked then s.enterTime .peer else s.enterTime .holdover
  | .peer =>
    if s.time.skewPeer then
      if s.time.refValid && decide (s.time.refOff.natAbs ≤ s.p p_time_skew_max_ns) then s.enterTime .locked
      else if s.followedLeft then s.enterTime .holdover else s
    else if s.ownUsable then s.enterTime .locked
    else if s.peerLocked && !s.followedLeft then s else s.enterTime .holdover
  | .holdover => if s.ownUsable then s.enterTime .locked else if s.peerLocked then s.enterTime .peer else s
  | .freeRun => if s.ownUsable then s.enterTime .locked else if s.peerLocked then s.enterTime .peer else s
  | _ => s

/-- A head in PEER notes that the head it follows is in service. -/
def State.noteFollowed (s : State) : State :=
  { s with time := { s.time with followedUp := s.time.state == .peer && (s.time.followedUp || s.peerUp) } }

/-- Re-evaluate state, slew and quality of a head after anything that bears on them. -/
def State.timeEval (s : State) : State :=
  let s1 := (s.slewFlag.timeMove.retarget s.slewKind).noteFollowed
  s1.setQuality s1.headQuality

/-- Set T once, as it leaves ACQUIRING (R36). -/
def State.startT (s : State) (t : Nat) (st : TimeState) : State :=
  State.enterTime { s with time := { s.time with t := t, tSet := true } } st

/-- Declare the own reference faulty (R35). -/
def State.refFault (s : State) : State :=
  let s1 := { s with time := { s.time with refValid := false, ppsGood := 0, syncGood := 0, ppsOut := 0 } }
  ((s1.retarget s.slewKind).alarm AL_EPOCH_REF_LOST 0).timeEval

/-- The own reference is valid (again): T's offset to it counts from now (R35), and a head whose T runs slews toward it (R45). -/
def State.refGood (s : State) (off : Int) : State :=
  let s1 := { s with time := { s.time with
    refValid := true, ppsOut := 0, refOff := off, slewing := s.time.slewing || s.time.tSet && off != 0 } }
  (s1.retarget s.slewKind).clearAlarm AL_EPOCH_REF_LOST 0

/-- A head whose firmware runs, under REF_PPS or PTP (R32). -/
def State.headPps (s : State) : Bool := s.fw && s.isHead && !s.time.sourcePtp
def State.headPtp (s : State) : Bool := s.fw && s.isHead && s.time.sourcePtp

/-- Whether an edge or interval is within 100 ns (R35). -/
def within100 (ns : Int) : Bool := decide (ns.natAbs ≤ 100)

/-- Whole TAI seconds from the previous edge to one that comes `gap` ns after a second of TIME_REF: a spurious edge counts none, and an edge
after a missed one counts the seconds that passed. -/
def secondsOf (gap : Int) : Nat := ((gap + 1500000000) / 1000000000).toNat

/-- The second number at an edge (R33): at WAIT_TIME taken from a LOCKED peer, else as written; one held counts on by the seconds passed. -/
def State.edgeSecond (s : State) (gap : Int) (peerSecond : Nat) : State :=
  match s.time.second with
  | some n => { s with time := { s.time with second := some (n + secondsOf gap) } }
  | none =>
    if s.boot.stage ≠ .waitTime then s
    else if s.peerLocked then { s with time := { s.time with second := some peerSecond, written := none } }
    else { s with time := { s.time with second := s.time.written, written := none } }

/-- The reference's validity at an edge (R35). -/
def State.edgeValid (s : State) (err gap off : Int) : State :=
  if s.time.refValid then
    if within100 err then { s with time := { s.time with ppsOut := 0, refOff := if s.time.tSet then off else 0 } }
    else if s.time.ppsOut = 2 then s.refFault
    else { s with time := { s.time with ppsOut := s.time.ppsOut + 1 } }
  else
    let s2 := { s with time := { s.time with refEdges := true } }
    if within100 gap then
      if s2.time.ppsGood = 2 then
        State.refGood { s2 with time := { s2.time with ppsGood := 3 } } (if s.time.tSet then off else 0)
      else { s2 with time := { s2.time with ppsGood := s2.time.ppsGood + 1 } }
    else { s2 with time := { s2.time with ppsGood := 0 } }

/-- TIME_PPS_EDGE (R33, R35, R36): `err` from the expected tick, `gap` from one second of TIME_REF after the previous edge,
`off` of T to the reference, and the second number of a LOCKED peer. An edge of a valid reference beyond 100 ns is ignored, but for its count
toward the fault. T starts at the second's multiple; a second number below `time.origin_tai_s` starts it at 0, DESIGN CHOICE (log 76). -/
def execTimePpsEdge (err gap off : Int) (peerSecond : Nat) (s : State) : Res :=
  onlyIf s.headPps s fun s =>
    let ignored := s.time.refValid && !within100 err
    let s1 := (if ignored then s else s.edgeSecond gap peerSecond).edgeValid err gap off
    match s1.time.state, s1.time.second with
    | .acquiring, some n =>
      if s1.time.refValid && !ignored then (s1.startT ((n - s1.p p_time_origin_tai_s) * 100000000) .locked).timeEval else s1.timeEval
    | _, _ => s1.timeEval

/-- TIME_REF_LOSS (R35): no edge for 1 µs. -/
def execTimeRefLoss (s : State) : Res :=
  onlyIf s.headPps s (fun s => State.refFault { s with time := { s.time with refEdges := false } })

/-- TIME_PPS_TIMEOUT (R35): no TIME_PPS edge for 1.1 s. -/
def execTimePpsTimeout (s : State) : Res := onlyIf s.headPps s State.refFault

/-- A PTP message of the port and domain that the head listens to (R34). -/
def State.ptpMine (s : State) (port dom : Nat) : Bool := s.headPtp && s.p p_time_ptp_port == port && s.p p_time_ptp_domain == dom

/-- PTP_SYNC (R34 to R36): the servo's offset in ns, and what the message brings. -/
def execPtpSync (off : Int) (m : PtpSeen) (s : State) : Res :=
  onlyIf (s.ptpMine m.port m.dom) s fun s =>
    let good := if m.missed = 0 then s.time.syncGood else 0
    let s1 :=
      if s.time.refValid then
        if 1000 < off.natAbs then s.refFault else { s with time := { s.time with refOff := off } }
      else if good = 2 then State.refGood { s with time := { s.time with syncGood := 3 } } off
      else { s with time := { s.time with syncGood := good + 1 } }
    if s1.time.state = .acquiring ∧ s1.time.refValid ∧ s1.boot.stage = .waitTime then
      let s2 := { s1 with time := { s1.time with
          second := some (m.acquired / 100000000 + s1.p p_time_origin_tai_s), refOff := 0 } }
      (s2.startT m.acquired .locked).timeEval
    else s1.timeEval

/-- PTP_SYNC_TIMEOUT (R35): three Sync intervals without a message. -/
def execPtpSyncTimeout (s : State) : Res := onlyIf s.headPtp s State.refFault

/-- HOLDOVER_EXPIRY (R41): 10 s of HOLDOVER. -/
def execHoldoverExpiry (s : State) : Res :=
  onlyIf (s.fw && s.isHead && s.time.state == .holdover) s (fun s => (s.enterTime .freeRun).timeEval)

/-- SLEW_DONE (R45, R63): the slew has reached its target, no offset being left to correct. -/
def execSlewDone (s : State) : Res :=
  onlyIf (s.fw && s.time.slewing && s.slewOff == 0) s fun s =>
    let s1 := State.event { s with time := { s.time with slewing := false } } EV_EPOCH_SLEW_DONE 0
    if s1.isHead then s1.timeEval else s1

/-- SKEW_ALARM (R47): 64 consecutive epochs beyond the threshold; the co-head enters PEER and follows the manager. -/
def execSkewAlarm (s : State) : Res :=
  onlyIf (s.fw && s.isHead && !s.seam.manager && decide (64 ≤ s.time.skewOver)) s fun s =>
    let s1 := (s.alarm AL_EPOCH_SKEW 0).enterTime .peer
    let s2 := State.noteFollowed (State.retarget { s1 with time := { s1.time with skewPeer := true } } s.slewKind)
    s2.setQuality s2.headQuality

/-- One epoch's skew measurement in ns (R46, R47, R62): SKEW_NS, and the run counts behind the alarm and its clearing. -/
def State.skewSample (s : State) (ns : Nat) : State :=
  let big := decide (s.p p_time_skew_max_ns < ns)
  let s1 := { s with time := { s.time with
      skewNs := min ns 0xFFFF
      skewOver := if big then s.time.skewOver + 1 else 0
      skewWithin := if big then 0 else s.time.skewWithin + 1 } }
  if 64 ≤ s1.time.skewWithin then s1.clearAlarm AL_EPOCH_SKEW 0 else s1

/-- BOOT_WAIT_TIME (R33, R41, R84): a head goes on once it holds its time and is LOCKED or PEER. -/
def execBootWaitTime (s : State) : Res :=
  onlyIf (s.atStage .waitTime && s.isHead && s.time.tSet
      && (s.time.state == .locked || s.time.state == .peer)) s (fun s => s.toStage .join)

/-- PTP_ANNOUNCE (R34): currentUtcOffset where its flag is valid. -/
def execPtpAnnounce (m : PtpUtc) (valid : Bool) (s : State) : Res :=
  onlyIf (s.ptpMine m.port m.dom) s (fun s => { s with time := { s.time with utcPtp := if valid then some m.offset else none } })

/-- The TAI-UTC offset in force (R34). -/
def State.utcOffset (s : State) : Int :=
  match s.time.utcPtp with
  | some n => n
  | none => paramInt s.params p_time_utc_offset_s 0

/-- The EPN of a UTC instant in ticks since 1970 UTC (R55). -/
def State.utcEpn (s : State) (utcTicks : Nat) : Nat :=
  let tai : Int := (utcTicks : Int) + s.utcOffset * 100000000
  let t : Int := tai - (s.p p_time_origin_tai_s : Int) * 100000000
  ((s.time.eBase : Int) + (t - s.time.tBase).fdiv s.epochLen + 1).toNat

/-! ### Epoch marks at a shelf -/

/-- T's distance in ns to a T received, as what it follows from now on (R42, R49): a slew is in progress until it is gone; where one was and
no distance is left, it is done (R63). -/
def State.follow (s : State) (off : Int) : State :=
  let s1 := { s with time := { s.time with followOff := off, slewing := off != 0 } }
  if s.time.slewing && off == 0 then s1.event EV_EPOCH_SLEW_DONE 0 else s1

/-- A mark from the source head, its T corrected for the link delay (R49, R51). After a loss T steps forward to a mark ahead of it; any other
difference is slewed. A shelf whose T has not started in this run, as after a boot, takes its first mark as it takes one after a loss:
DESIGN CHOICE (log 76). -/
def State.followMark (s : State) (target : Nat) (q : Quality) : State :=
  let s1 := State.setQuality { s with time := { s.time with state := .markFollow, tSet := true } } q
  let off : Int := 10 * ((s.time.t : Int) - target)
  if !s.time.tSet || s.time.state == .markLost then
    let s2 := if s.time.t < target then { s1 with time := { s1.time with t := target, followOff := 0, slewing := false } } else s1.follow off
    s2.clearAlarm AL_EPOCH_MARK_LOSS 0
  else s1.follow off

/-- MARK_LOSS (R51): no mark from either head for 1 s. -/
def execMarkLoss (s : State) : Res :=
  onlyIf (s.fw && s.isShelf && s.time.state != .markLost) s
    (fun s => State.alarm { s with time := { s.time with state := .markLost } } AL_EPOCH_MARK_LOSS 0)

/-- TIME_STATUS as a register image (R62). -/
def TimeSt.status (t : TimeSt) : Nat :=
  timeStateNum t.state + 8 * b2n t.sourcePtp + 16 * b2n t.slewing + 32 * qualityNum t.quality + 2 ^ 16 * t.skewNs

end Sys2Proof.Machine
end

