-- ==== Sys2Proof/Machine/Write.lean ====
section
/-! DEFINITION. The write path up to staging: what a command records (R209), fills and admission (R210 to R212, R219), forming a
chunk's record (R217 to R226) and staging its image (R227, R228). -/

namespace Sys2Proof.Machine

/-! ### Ownership and reservations -/

/-- The stream (site) of a namespace's configured owner (R188). -/
def State.nsStream (s : State) (nsid : Nat) : Nat :=
  let p := s.p p_ns_owner_policy
  if p = 0 then (if nsid % 2 = 1 then 0 else 1) else if p = 1 then 0 else 1

/-- The identity a reservation counts a controller's host by: its host identifier, or one of its own where this head knows none
(log 29). -/
def State.hostOf (s : State) (cntlid : Nat) : Nat :=
  if cntlid / 0x800 = s.peerSite then Config.peerHost cntlid
  else
    let h := (s.ctrl cntlid).hostId
    if h = 0 then 2 ^ 128 + cntlid else h

/-- Whether a reservation lets a host through (R192): types 1 to 6 are Write Exclusive, Exclusive Access, then the two
Registrants Only and the two All Registrants forms. -/
def Resv.allows (r : Resv) (host : Nat) (write : Bool) : Bool :=
  let reg := SMap.has r.regs host
  if r.rtype = 0 then true
  else if r.rtype = 1 then !write || r.holder == some host
  else if r.rtype = 2 then r.holder == some host
  else if r.rtype = 3 ∨ r.rtype = 5 then !write || reg
  else reg

/-! ### What a command records -/

/-- One record of a command before it has its SSN (R209): bytes of a chunk from an offset, a chunk of which a part from an offset comes
from elsewhere with its fill, a reference to a source chunk, an extent, a reservation change. -/
inductive Plan where
  | data (chunkNo off : Nat) (bytes : Bytes)
  | content (chunkNo off len : Nat)
  | ref (chunkNo srcNsid srcChunk : Nat)
  | extent (chunkNo count : Nat) (dealloc : Bool)
  | resv (action rtype key : Nat)
  deriving DecidableEq, Repr

/-- The chunks that a byte range touches: first, count. -/
def touched (c start len : Nat) : List Nat :=
  if len = 0 then [] else (List.range ((start + len - 1) / c + 1 - start / c)).map (· + start / c)

/-- A run of bytes as chunk records (R209). -/
def planBytes (c start : Nat) (data : Bytes) : List Plan :=
  (touched c start data.length).map (fun i =>
    let lo := max start (i * c)
    let hi := min (start + data.length) ((i + 1) * c)
    .data i (lo - i * c) (sub data (lo - start) (hi - lo)))

/-- Whole chunks as extents of at most 65,536 blocks (R209, log 24); `fuel` bounds their number. -/
def planExtents (per : Nat) (dealloc : Bool) : Nat → Nat → Nat → List Plan
  | 0, _, _ => []
  | fuel + 1, first, count =>
    if count = 0 then [] else .extent first (min count per) dealloc :: planExtents per dealloc fuel (first + min count per) (count - min count per)

/-- A zeroed range (R209): its extents, then the chunks it covers only in part, with zeros. A range that covers no whole chunk has no extent,
as an extent record covers whole chunks: DESIGN CHOICE, as R209's table counts one for each (log 24). -/
def planZero (c b slba nlb : Nat) (dealloc : Bool) : List Plan :=
  let start := slba * b
  let len := nlb * b
  let first := (start + c - 1) / c
  let last := (start + len) / c
  let per := max 1 (65536 * b / c)
  planExtents per dealloc (last - first) first (last - first)
    ++ (planBytes c start (zeros len)).filter (fun p => match p with
        | .data _ _ d => decide (d.length < c)
        | .content _ _ _ => true
        | .ref _ _ _ => true
        | .extent _ _ _ => true
        | .resv _ _ _ => true)

/-- Where a byte of a Copy's destination comes from, counting from its first byte: source namespace, byte position, bytes left in
its range. -/
def copySource (b : Nat) : List CopyRange → Nat → Option (Nat × Nat × Nat)
  | [], _ => none
  | r :: rest, rel =>
    if rel < r.nlb * b then some (r.nsid, r.slba * b + rel, r.nlb * b - rel) else copySource b rest (rel - r.nlb * b)

/-- A Copy's records (R185, R209): a destination chunk that one whole chunk of the same domain makes up is a reference, any other
is read and rewritten. -/
def State.planCopy (s : State) (n : Ns) (c b sdlba : Nat) (ranges : List CopyRange) : List Plan :=
  let len := ranges.foldl (fun a r => a + r.nlb * b) 0
  (touched c (sdlba * b) len).map (fun i =>
    let start := sdlba * b
    let lo := max start (i * c)
    let part := Plan.content i (lo - i * c) (min (start + len) ((i + 1) * c) - lo)
    if i * c < start ∨ start + len < (i + 1) * c then part
    else
      match copySource b ranges (i * c - start) with
      | some (src, pos, left) =>
        match s.ns src with
        | some m => if m.domain = n.domain ∧ pos % c = 0 ∧ c ≤ left then .ref i src (pos / c) else part
        | none => part
      | none => part)

/-- Records of a command in SSN order (R209). -/
def State.plans (s : State) (op : FwdOp) : List Plan :=
  match op with
  | .write nsid slba _ data =>
    match s.ns nsid with
    | some n => planBytes (s.nsChunk n) (slba * lbaBytes n.lbaf) data
    | none => []
  | .writeZeroes nsid slba nlb deac =>
    match s.ns nsid with
    | some n => planZero (s.nsChunk n) (lbaBytes n.lbaf) slba nlb deac
    | none => []
  | .deallocate nsid ranges =>
    match s.ns nsid with
    | some n => ranges.flatMap (fun r => planZero (s.nsChunk n) (lbaBytes n.lbaf) r.slba r.nlb true)
    | none => []
  | .copy nsid sdlba ranges =>
    match s.ns nsid with
    | some n => s.planCopy n (s.nsChunk n) (lbaBytes n.lbaf) sdlba ranges
    | none => []
  | .compareWrite nsid slba _ _ _ data =>
    match s.ns nsid with
    | some n => planBytes (s.nsChunk n) (slba * lbaBytes n.lbaf) data
    | none => []
  | .resv _ action rtype _ key => [.resv action rtype key]

/-- The namespace of a command. -/
def opNsid : FwdOp → Nat
  | .write n _ _ _ => n
  | .writeZeroes n _ _ _ => n
  | .deallocate n _ => n
  | .copy n _ _ => n
  | .compareWrite n _ _ _ _ _ => n
  | .resv n _ _ _ _ => n

/-- The opcode of a command (R185). -/
def opCode : FwdOp → Nat
  | .write _ _ _ _ => 0x01
  | .writeZeroes _ _ _ _ => 0x08
  | .deallocate _ _ => 0x09
  | .copy _ _ _ => 0x19
  | .compareWrite _ _ _ _ _ _ => 0x01
  | .resv _ a _ _ _ => if a ≤ 2 then 0x0D else if a ≤ 4 then 0x11 else 0x15

/-- Ranges a COMMAND item lists (R388). -/
def opRanges : FwdOp → List LbaRange
  | .write _ a n _ => [⟨a, n⟩]
  | .writeZeroes _ a n _ => [⟨a, n⟩]
  | .deallocate _ rs => rs
  | .copy _ a rs => [⟨a, rs.foldl (fun t r => t + r.nlb) 0⟩]
  | .compareWrite _ a n _ _ _ => [⟨a, n⟩]
  | .resv _ _ _ _ _ => []

/-- Bytes admitted with a command, as the epoch cap counts them (R210): its data, and what a Copy reads to rewrite. -/
def State.opBytes (s : State) (op : FwdOp) : Nat :=
  match op with
  | .write _ _ _ d => d.length
  | .writeZeroes _ _ _ _ => 0
  | .deallocate _ _ => 0
  | .copy _ _ _ => (s.plans op).foldl (fun a p => match p with | .content _ _ n => a + n | _ => a) 0
  | .compareWrite _ _ _ _ _ d => d.length
  | .resv _ _ _ _ _ => 0

/-- The chunk a record rewrites, where it is one. -/
def Plan.chunkNo : Plan → Option Nat
  | .data i _ _ => some i
  | .content i _ _ => some i
  | .ref i _ _ => some i
  | .extent _ _ _ => none
  | .resv _ _ _ => none

/-! ### The write buffer -/

/-- Chunk positions of an entry. -/
def ChunkWork.span (w : ChunkWork) : Nat := match w.extent with | some e => e.1 | none => 1

/-- A work entry says something of a run of chunk positions. -/
def ChunkWork.meets (w : ChunkWork) (nsIndex first count : Nat) : Bool :=
  w.nsIndex == nsIndex && decide (w.chunkNo < first + count ∧ first < w.chunkNo + w.span)

/-- The write-buffer entry of a chunk position: the one of the highest SSN, unless that has left the buffer and the map tells its content
(R212, R331, R333). -/
def StreamSt.newest (st : StreamSt) (nsIndex no : Nat) : Option (Nat × ChunkWork) :=
  ((st.work.filter (fun e => e.2.meets nsIndex no 1)).getLast?).filter (fun e => !e.2.released)

/-- The bytes of a HIT on another SSN of the stream, while the write buffer holds that one; `fuel` bounds the chain. -/
def StreamSt.bytesGo (st : StreamSt) : Nat → Nat → Option (Bytes × Nat)
  | 0, _ => none
  | fuel + 1, p =>
    match SMap.get st.work p with
    | none => none
    | some w =>
      if !w.content.isEmpty then some (w.content, w.lostBlocks)
      else match w.outcome with
        | .hitPending q => st.bytesGo fuel q
        | _ => none

/-- The bytes of an entry where the write buffer holds them, with their lost blocks. -/
def StreamSt.bytesOf (st : StreamSt) (w : ChunkWork) : Option (Bytes × Nat) :=
  if !w.content.isEmpty then some (w.content, w.lostBlocks)
  else match w.outcome with
    | .hitPending p => st.bytesGo (st.work.length + 1) p
    | _ => none

/-- Whose chunk a HIT on another SSN of the stream comes down to (R221); `fuel` bounds the chain. -/
def StreamSt.resolveGo (st : StreamSt) : Nat → Nat → Outcome
  | 0, _ => .forming
  | fuel + 1, p =>
    match SMap.get st.work p with
    | none => .forming
    | some w =>
      match w.decision with
      | some (.dup t) => .hitStored t
      | _ =>
        match w.outcome with
        | .hitPending q => st.resolveGo fuel q
        | .pending => .hitStored w.chunkId
        | .unique => .hitStored w.chunkId
        | .forming => .forming
        | .zero => .zero
        | .hitStored t => .hitStored t

/-- The outcome of an SSN once what it rests on is known. -/
def StreamSt.resolve (st : StreamSt) (w : ChunkWork) : Outcome :=
  match w.outcome with
  | .hitPending p => st.resolveGo (st.work.length + 1) p
  | .forming => .forming
  | .zero => .zero
  | .hitStored t => .hitStored t
  | .pending => .pending
  | .unique => .unique

/-- Content that needs no read: held in the write buffer, or zeros of a position that is not mapped; with its lost blocks. -/
def State.heldContent (s : State) (nsid no : Nat) : Option (Bytes × Nat) :=
  match s.ns nsid with
  | none => none
  | some n =>
    let st := s.stream (s.nsStream nsid)
    match st.newest (nsid - 1) no with
    | some (_, w) => if w.extent.isSome || st.resolve w == .zero then some (zeros (s.nsChunk n), 0) else st.bytesOf w
    | none => if (s.readLeaf nsid no).mapped then none else some (zeros (s.nsChunk n), 0)

/-- Key generation of a domain (R316). -/
def State.keyGen (s : State) (d : Nat) : Nat :=
  match SMap.get s.cipher.recs d with
  | some r => r.generation
  | none => 0

/-- The data key slot of a domain and generation (R312). -/
def dataSlot (d g : Nat) : Nat := 2 * d + g % 2

/-- The fingerprint key slot of a domain and generation (R312). -/
def fpSlot (d g : Nat) : Nat := 512 + 2 * d + g % 2

/-- The tweak number of a chunk's image (R303). -/
def dunOf (d id : Nat) : Nat := d * 2 ^ 48 + id

/-- Encrypt an image under the domain's data key (R226, R303). -/
def State.sealImage (s : State) (d id : Nat) (img : Bytes) : Bytes :=
  let k := (s.keySlot (dataSlot d (s.keyGen d))).key
  xtsEnc (k.take 32) (k.drop 32) (dunOf d id) img

/-- Decrypt one. -/
def State.openImage (s : State) (d id : Nat) (img : Bytes) : Bytes :=
  let k := (s.keySlot (dataSlot d (s.keyGen d))).key
  xtsDec (k.take 32) (k.drop 32) (dunOf d id) img

/-- The chunk that an image holds (R334 steps 5 and 6); none where it is corrupt. -/
def State.plainOf (s : State) (d id : Nat) (raw : Bool) (img : Bytes) : Option Bytes :=
  let plain := s.openImage d id img
  if raw then some plain
  else
    let x := pf1Decode false plain (s.chunkSize d) (s.chunkSize d)
    if x.1 = 0 ∨ x.1 = ST_PRESS_LEN_LONG then x.2.2 else none

/-- Content of a chunk that a write buffer still holds, or that follows from an image held there (R213, R333). -/
def State.heldChunk (s : State) (id : Nat) : Option (Bytes × Nat) :=
  match (s.head.st0.work ++ s.head.st1.work).find? (fun e => e.2.chunkId == id && !e.2.dropSent && (!e.2.content.isEmpty || !e.2.image.isEmpty)) with
  | none => none
  | some (_, w) =>
    if !w.content.isEmpty then some (w.content, w.lostBlocks)
    else (s.plainOf w.domain id w.raw w.image).map (fun b => (b, w.lostBlocks))

/-- Application tag that a chunk position has now (R330). -/
def State.tagAt (s : State) (nsid no : Nat) : Nat :=
  match (s.stream (s.nsStream nsid)).newest (nsid - 1) no with
  | some (_, w) => w.appTag
  | none => (s.readLeaf nsid no).appTag

/-- Application tags of a command's records (R187, R330): those that came with its blocks; a Copy keeps those of its sources. -/
def State.opTags (s : State) (n : Ns) (op : FwdOp) (pi : List PiBlock) : List Nat :=
  match op with
  | .copy _ sdlba ranges =>
    let b := lbaBytes n.lbaf
    let c := s.nsChunk n
    if hasPi n.lbaf then
      (s.plans op).map (fun p => match p.chunkNo.bind (fun i => copySource b ranges (i * c - sdlba * b)) with
        | some (src, pos, _) => s.tagAt src (pos / c)
        | none => 0)
    else []
  | _ => pi.map (·.appTag)

/-- The content a waiting command finds in a chunk before its first SSN (R219): what is held, else its fill. -/
def State.before (s : State) (w : WaitCmd) (no : Nat) : Option (Bytes × Nat) :=
  match s.heldContent (opNsid w.op) no with
  | some x => some x
  | none => (w.fills.find? (·.1 == no)).map (·.2)

/-- LOST_BLOCKS left after bytes `off` to `off + len` are written: a wholly rewritten block is no longer lost. -/
def lostAfter (lost off len : Nat) : Nat :=
  (List.range 2).foldl (fun a i =>
    if bit lost i && !(decide (off ≤ i * 4096) && decide ((i + 1) * 4096 ≤ off + len)) then a + 2 ^ i else a) 0

/-- The lost blocks among bytes `off` to `off + len`. -/
def lostIn (lost off len : Nat) : Nat :=
  (List.range 2).foldl (fun a i => if bit lost i && decide (off < (i + 1) * 4096 ∧ i * 4096 < off + len) then a + 2 ^ i else a) 0

/-- The C bytes a record gives its chunk (R217), with lost blocks; none while its fill is awaited. `keep` writes nothing: a
Compare and Write whose compare failed. -/
def State.planContent (s : State) (w : WaitCmd) (c : Nat) (keep : Bool) : Plan → Option (Bytes × Nat)
  | .data i off d =>
    if d.length = c ∧ !keep then some (d, 0)
    else (s.before w i).map (fun x =>
      if keep then x else (x.1.take off ++ d ++ x.1.drop (off + d.length), lostAfter x.2 off d.length))
  | .content i off len =>
    (w.fills.find? (·.1 == i)).map (fun f =>
      match if len = c then none else s.heldContent (opNsid w.op) i with
      | some x => (x.1.take off ++ sub f.2.1 off len ++ x.1.drop (off + len), lostAfter x.2 off len ||| lostIn f.2.2 off len)
      | none => f.2)
  | .ref _ _ _ => some ([], 0)
  | .extent _ _ _ => some ([], 0)
  | .resv _ _ _ => some ([], 0)

/-- Chunks of a waiting command whose content must still be read (R219). -/
def State.missingFills (s : State) (w : WaitCmd) : List Nat :=
  match s.ns (opNsid w.op) with
  | none => []
  | some n =>
    let cmp := opCode w.op == 1 && (match w.op with | .compareWrite _ _ _ _ _ _ => true | _ => false)
    (s.plans w.op).filterMap (fun p =>
      if (s.planContent w (s.nsChunk n) cmp p).isNone then p.chunkNo else none)

/-! ### Admission -/

/-- The power state lets commands be admitted (R195, R196): PS0 or PS1, and no entry to PS2 or exit running. -/
def State.psAdmits (s : State) : Bool :=
  decide (s.nvme.psCur ≤ 1) && (match s.nvme.psMove with
    | .none => true
    | .entry t _ => decide (t ≤ 1)
    | .exit _ _ => false)

/-- The epoch cap in bytes (R210): `ingest.cap_gbps`, lowered by PS1 (R195), by the power budget (R610) and by the thermal
throttle (R623); none where nothing caps. -/
def State.epochCap (s : State) : Option Nat :=
  let base := s.p p_ingest_cap_gbps
  let caps := (if base = 0 then [] else [base]) ++ (if s.nvme.psCur = 1 then [100] else [])
    ++ (if s.power.throttledTherm then [s.p p_thermal_throttle_ingest_gbps] else [])
    ++ (if s.power.throttledBudget then [(if base = 0 then 200 else base) * (100 - s.power.budgetCut) / 100] else [])
  match caps with
  | [] => none
  | c :: cs => some (cs.foldl min c * s.p p_epoch_length_us * 1000)

/-- The credits of a stream (R165). -/
def State.credits (s : State) (i : Nat) : CreditSt := if i = 0 then s.hem.c0 else s.hem.c1

/-- Store them. -/
def State.setCredits (s : State) (i : Nat) (c : CreditSt) : State :=
  if i = 0 then { s with hem := { s.hem with c0 := c } } else { s with hem := { s.hem with c1 := c } }

/-- This head admits a stream's commands into the current epoch (R24, R38, R90, R257, R401, R402, R404, R408, R611). -/
def State.admitting (s : State) (i : Nat) : Bool :=
  let st := s.stream i
  s.headUp && !s.power.resuming && st.owns s.epn && !st.awaitSeal && !s.seam.leaseLost && !s.seam.ioStopped && s.psAdmits && !s.cam.rebuild
    && s.boot.rebaseDue.isNone && (match s.boot.barrier with | some b => decide (b.step = 0 ∨ 4 ≤ b.step) | none => true)

/-- The INGEST grant covers a command's records beside those already admitted (R166). -/
def CreditSt.covers (c : CreditSt) (n : Nat) : Bool := decide (batchUnits (c.recs.headD 0 + n) ≤ c.grant.headD 0)

/-- The write buffer's size (R136, R213). -/
def bufferSize : Nat := 2 ^ 34

/-- Bytes that a command moves into the write buffer (R210, R217): its data, and the chunks it forms. -/
def State.bufferNeed (s : State) (op : FwdOp) : Nat :=
  match s.ns (opNsid op) with
  | none => 0
  | some n => s.nsChunk n * ((s.plans op).filter (fun p => match p with
      | .data _ _ _ => true
      | .content _ _ _ => true
      | .ref _ _ _ => false
      | .extent _ _ _ => false
      | .resv _ _ _ => false)).length

/-- Bytes of the write buffer that a stream's chunks and waiting commands hold (R213). -/
def State.bufferUsed (s : State) (st : StreamSt) : Nat :=
  st.waiting.foldl (fun a w => if w.data then a + s.bufferNeed w.op else a) (st.work.foldl (fun a e => a + e.2.content.length) 0)

/-- The buffer has room for the whole command (R210). -/
def State.bufferRoom (s : State) (op : FwdOp) : Bool :=
  decide (s.bufferUsed s.head.st0 + s.bufferUsed s.head.st1 + s.bufferNeed op ≤ bufferSize)

/-- Move in the data of the waiting commands, in order, as far as there is room (R210). One for which there is none yet does not keep room from a
later one: DESIGN CHOICE (log 111). -/
def State.moveIn (s : State) (i : Nat) : State :=
  (s.stream i).waiting.foldl (fun acc w =>
    if w.data || !acc.bufferRoom w.op then acc
    else
      let st := acc.stream i
      acc.setStream i { st with waiting := st.waiting.map (fun x => if x.cmd = w.cmd then { x with data := true } else x) }) s

/-- No waiting command before it holds it back (R211): none of its own queue, and none that has waited two boundaries. -/
def notHeldBack (cmd : CmdId) (earlier : List WaitCmd) : Bool :=
  earlier.all (fun w => !(w.cmd.cntlid == cmd.cntlid && w.cmd.sqid == cmd.sqid) && decide (w.boundaries < 2))

/-- A waiting command and those fetched before it, in either stream (R211). -/
def State.fetchedBefore (s : State) (i : Nat) (cmd : CmdId) : Option (List WaitCmd × WaitCmd) :=
  ((s.stream i).waiting.find? (fun w => w.cmd == cmd)).map (fun w =>
    ((s.head.st0.waiting ++ s.head.st1.waiting).filter (fun x => decide (x.no < w.no)), w))

/-- Whether a waiting command meets every condition of R210. -/
def State.canAdmit (s : State) (i : Nat) (w : WaitCmd) : Bool :=
  let n := (s.plans w.op).length
  w.data && (s.missingFills w).isEmpty && (s.credits i).covers n && (s.stream i).headersFree
    && (match s.epochCap with | some c => decide ((s.stream i).epochBytes + s.opBytes w.op ≤ c) | none => true)

/-- A command is completed where it arrived: on its controller, or by FWD_DONE (R232). -/
def State.reply (s : State) (cmd : CmdId) (fromPeer : Bool) (st : NvmeSt) : State :=
  if fromPeer then s.sendSeam 255 s.epn (.fwdDone cmd st 0) else s.finish cmd st

/-- Statuses of R205. -/
def nvConflict : NvmeSt := ⟨0, 0x83, true⟩
def nvFusedFail : NvmeSt := ⟨0, 0x09, true⟩
def nvCompare : NvmeSt := ⟨2, 0x85, true⟩
def nvField : NvmeSt := ⟨0, 0x02, true⟩
def nvOpcode : NvmeSt := ⟨0, 0x01, true⟩
def nvSgl : NvmeSt := ⟨0, 0x0F, true⟩
def nvSqDel : NvmeSt := ⟨0, 0x08, false⟩
def nvNs : NvmeSt := ⟨0, 0x0B, true⟩
def nvSeq : NvmeSt := ⟨0, 0x0C, true⟩
def nvSanitize : NvmeSt := ⟨0, 0x1D, false⟩
def nvRange : NvmeSt := ⟨0, 0x80, true⟩
def nvCapacity : NvmeSt := ⟨0, 0x81, true⟩
def nvFormat : NvmeSt := ⟨0, 0x84, false⟩
def nvLost : NvmeSt := ⟨2, 0x81, false⟩

/-- The current key of a registration that ignores the existing key (NVMe): no 64-bit key equals it. -/
def ignoreKey : Nat := 2 ^ 64

/-- Whether the reservation lets a waiting command through (NVMe 2.0, R192); Register and Release carry their own key checks. -/
def State.resvOk (s : State) (w : WaitCmd) : Bool :=
  match s.ns (opNsid w.op) with
  | none => true
  | some n =>
    let host := s.hostOf w.cmd.cntlid
    match w.op with
    | .resv _ action rtype cur key =>
      let reg := SMap.get n.resv.regs host
      if action = 0 then reg.isNone || reg == some key
      else if action = 1 ∨ action = 2 then reg.isSome && (cur == ignoreKey || reg == some cur)
      else if action = 3 then
        reg == some cur && (n.resv.rtype == 0 || (n.resv.rtype == rtype && (n.resv.holder == some host || decide (5 ≤ rtype))))
      else if action = 4 then reg == some cur && ((key == 0 && decide (5 ≤ n.resv.rtype)) || n.resv.regs.any (fun e => e.2 == key))
      else if action = 7 then true
      else reg == some cur
    | .write _ _ _ _ => n.resv.allows host true
    | .writeZeroes _ _ _ _ => n.resv.allows host true
    | .deallocate _ _ => n.resv.allows host true
    | .copy _ _ _ => n.resv.allows host true
    | .compareWrite _ _ _ _ _ _ => n.resv.allows host true

/-- What a record writes, as the COMMAND item tells it. -/
def Plan.kind : Plan → RecKind
  | .data i _ _ => .chunk i
  | .content i _ _ => .chunk i
  | .ref i _ _ => .chunk i
  | .extent i n d => .extent i n d
  | .resv a t k => .resv a t k

/-- The write-buffer entry of a record at its SSN. A reference rests on the source's SSN in the same stream, whose bytes stay where they are
(R213, R221); of the other stream it takes the bytes this head still holds, else the stored chunk. -/
def State.workOf (s : State) (nsid epn : Nat) (n : Ns) (app : Nat) (content : Bytes × Nat) : Plan → Option ChunkWork
  | .data i _ _ => some { epn := epn, nsIndex := nsid - 1, chunkNo := i, domain := n.domain, content := content.1, lostBlocks := content.2, appTag := app }
  | .content i _ _ => some { epn := epn, nsIndex := nsid - 1, chunkNo := i, domain := n.domain, content := content.1, lostBlocks := content.2, appTag := app }
  | .ref i src srcChunk =>
    let w : ChunkWork := { epn := epn, nsIndex := nsid - 1, chunkNo := i, domain := n.domain, content := [], appTag := app }
    let st := s.stream (s.nsStream src)
    let byLeaf : ChunkWork :=
      let l := s.readLeaf src srcChunk
      { w with outcome := if l.mapped then .hitStored l.chunkId else .zero }
    match st.newest (src - 1) srcChunk with
    | some (ssn, v) =>
      if v.extent.isSome then some { w with outcome := .zero }
      else if s.nsStream src = s.nsStream nsid then some { w with outcome := .hitPending ssn }
      else
        let id := match st.resolve v with
          | .hitStored t => some t
          | .pending => some v.chunkId
          | .unique => some v.chunkId
          | _ => none
        match (match st.bytesOf v with | some x => some x | none => id.bind s.heldChunk), id with
        | some x, _ => some { w with content := x.1, lostBlocks := x.2 }
        | none, some t => some { w with outcome := .hitStored t }
        | none, none => some (if st.resolve v == .zero then { w with outcome := .zero } else byLeaf)
    | none => some byLeaf
  | .extent i k d => some { epn := epn, nsIndex := nsid - 1, chunkNo := i, domain := n.domain, content := [], outcome := .zero, extent := some (k, d) }
  | .resv _ _ _ => none

/-- Enter the records of a command under consecutive SSNs (R212), each with the content that the records before it leave (R217); a
reference takes its source as `s0` has it, before the command. -/
def enterWork (s0 : State) (x : WaitCmd) (keep : Bool) (epn : Nat) (n : Ns) : List Nat → List Plan → Nat → State → Nat → State
  | _, [], _, s, _ => s
  | ts, p :: rest, ssn, s, i =>
    let st := s.stream i
    let c := (s.planContent x (s.nsChunk n) keep p).getD ([], 0)
    enterWork s0 x keep epn n ts.tail rest (ssn + 1)
      (match s0.workOf (opNsid x.op) epn n (ts.headD 0) c p with
       | some w => s.setStream i { st with work := SMap.set st.work ssn w }
       | none => s) i

/-- The greatest P whose aligned run of 2^P positions starts at `a` and has at most `n` of them (R333). -/
def runSize (a n : Nat) : Nat := ((List.range 41).reverse.find? (fun p => decide (a % 2 ^ p = 0 ∧ 2 ^ p ≤ n))).getD 0

/-- The fewest aligned runs that make up a range of chunk positions (R333): first position, P; `fuel` bounds their number. -/
def alignedRuns : Nat → Nat → Nat → List (Nat × Nat)
  | 0, _, _ => []
  | fuel + 1, a, n => if n = 0 then [] else let p := runSize a n; (a, p) :: alignedRuns fuel (a + 2 ^ p) (n - 2 ^ p)

/-- An entry of the open-epoch region (R333). -/
def openEntry (ns first p ssn : Nat) (sealOnly : Bool) : MEnt :=
  { key := BitVec.ofNat 144 (first + ns * 2 ^ 40), mask := BitVec.ofNat 144 (2 ^ 54 - 2 ^ p)
    full := BitVec.ofNat 256 (first + ns * 2 ^ 40 + p * 2 ^ 54 + ssn * 2 ^ 64)
    result := BitVec.ofNat 64 (Config.rangeRecord ssn % 2 ^ 40 + b2n sealOnly * 2 ^ 63), valid := true }

/-- Enter a run at the lowest free index of the open-epoch region; where none is free the write-buffer table alone serves it (R333, log
88). -/
def State.enterRun (s : State) (e : MEnt) : State :=
  let g := s.region 0
  let used := s.cam.ents.filter (fun x => x.2.valid && decide (g.base ≤ x.1 ∧ x.1 < g.base + g.count))
  match (List.range (used.length + 1)).find? (fun k => !used.any (fun x => x.1 == g.base + k)) with
  | some k => if k < g.count && g.valid then s.writeMent 0 (g.base + k) e else s
  | none => s

/-- Enter ranges of chunk positions in the open-epoch region (R212, R332, R333). -/
def State.enterOpen (s : State) (ns ssn : Nat) (sealOnly : Bool) (ranges : List (Nat × Nat)) : State :=
  ranges.foldl (fun acc r => (alignedRuns 80 r.1 r.2).foldl (fun a x => a.enterRun (openEntry ns x.1 x.2 ssn sealOnly)) acc) s

/-- Chunk positions that block ranges touch: first, count. -/
def rangeChunks (c b : Nat) (rs : List LbaRange) : List (Nat × Nat) :=
  (rs.filter (fun r => r.nlb != 0)).map (fun r => (r.slba * b / c, ((r.slba + r.nlb) * b - 1) / c + 1 - r.slba * b / c))

/-- Enter a command's ranges in the open-epoch region under its first SSN (R212, R332, R333). -/
def State.enterCmd (s : State) (c : CmdItem) (sealOnly : Bool) : State :=
  match s.ns c.nsid with
  | none => s
  | some n => s.enterOpen (c.nsid - 1) c.firstSsn sealOnly (rangeChunks (s.nsChunk n) (lbaBytes n.lbaf) c.ranges)

/-- A fill taken before a command that touches its chunk was admitted is discarded (R219). -/
def dropFills (nsid : Nat) (nos : List Nat) (w : WaitCmd) : WaitCmd :=
  if opNsid w.op = nsid then { w with fills := w.fills.filter (fun f => !nos.contains f.1) } else w

/-- Chunks that a record list touches, extents counted by each of their chunks. -/
def planChunks (ps : List Plan) : List Nat :=
  ps.flatMap (fun p => match p with
    | .data i _ _ => [i]
    | .content i _ _ => [i]
    | .ref i _ _ => [i]
    | .extent i n _ => (List.range n).map (· + i)
    | .resv _ _ _ => [])

/-- The compare of a fused pair meets a block that could not be read (R205, R219). -/
def State.compareLost (s : State) (w : WaitCmd) (n : Ns) : Bool :=
  match w.op with
  | .compareWrite _ slba _ _ cmp _ =>
    (planBytes (s.nsChunk n) (slba * lbaBytes n.lbaf) cmp).any (fun p => match p with
      | .data i off d => (match s.before w i with | some x => lostIn x.2 off d.length != 0 | none => false)
      | .content _ _ _ => false
      | .ref _ _ _ => false
      | .extent _ _ _ => false
      | .resv _ _ _ => false)
  | .write _ _ _ _ => false
  | .writeZeroes _ _ _ _ => false
  | .deallocate _ _ => false
  | .copy _ _ _ => false
  | .resv _ _ _ _ _ => false

/-- The compare of a fused pair against the state at admission (R185): whether it holds. -/
def State.compareHolds (s : State) (w : WaitCmd) (n : Ns) : Bool :=
  match w.op with
  | .compareWrite _ slba _ _ cmp _ =>
    (planBytes (s.nsChunk n) (slba * lbaBytes n.lbaf) cmp).all (fun p => match p with
      | .data i off d =>
        (match s.before w i with
         | some x => sub x.1 off d.length == d
         | none => false)
      | .content _ _ _ => true
      | .ref _ _ _ => true
      | .extent _ _ _ => true
      | .resv _ _ _ => true)
  | .write _ _ _ _ => true
  | .writeZeroes _ _ _ _ => true
  | .deallocate _ _ => true
  | .copy _ _ _ => true
  | .resv _ _ _ _ _ => true

/-- Admit a waiting command into the current epoch (R212). -/
def State.admitCmd (s : State) (i : Nat) (w : WaitCmd) : State :=
  let nsid := opNsid w.op
  match s.ns nsid with
  | none => s
  | some n =>
    let st := s.stream i
    let ps := s.plans w.op
    let lost := s.compareLost w n
    let ok := s.compareHolds w n && !lost
    let apps := s.opTags n w.op w.pi
    let item : CmdItem := ⟨nsid, opCode w.op, (match w.op with | .compareWrite _ _ _ _ _ _ => 2 | _ => 0), w.cmd.cntlid, st.nextSsn,
      opRanges w.op, ps.map Plan.kind, apps⟩
    let cmp := match w.op with
      | .compareWrite _ _ _ c _ _ => some (c, if ok then nvOk else if lost then nvLost else nvCompare)
      | _ => none
    let adm : AdmCmd := ⟨w.cmd, w.fromPeer, s.epn, st.nextSsn, ps.length, item, if ok then nvOk else nvFusedFail, cmp⟩
    let s1 := (enterWork s w (!ok) s.epn n apps ps st.nextSsn s i).enterCmd item false
    let st1 := s1.stream i
    let s2 := s1.setStream i { st1 with
      waiting := (st1.waiting.filter (fun x => x.cmd != w.cmd)).map (dropFills nsid (planChunks ps))
      cmds := st1.cmds ++ [adm], nextSsn := st1.nextSsn + ps.length
      epochBytes := st1.epochBytes + s.opBytes w.op }
    let c := s2.credits i
    s2.setCredits i { c with recs := (c.recs.headD 0 + ps.length) :: c.recs.tail }

/-- The stream in which a command waits. -/
def State.waitsIn (s : State) (cmd : CmdId) : Option Nat := [0, 1].find? (fun i => (s.stream i).waiting.any (·.cmd == cmd))

/-- A waiting command completes without being admitted: its Compare too, where it is a fused pair (R205). -/
def State.turnAway (s : State) (i : Nat) (w : WaitCmd) (st : NvmeSt) : State :=
  let x := s.stream i
  let s1 := s.setStream i { x with waiting := x.waiting.filter (·.cmd != w.cmd) }
  match w.op with
  | .compareWrite _ _ _ cid _ _ => (s1.reply { w.cmd with cid := cid } w.fromPeer st).reply w.cmd w.fromPeer nvFusedFail
  | _ => s1.reply w.cmd w.fromPeer st

/-- COMMAND_ADMIT (R210 to R212): a command that its namespace's reservation forbids completes with Reservation Conflict instead
(R205). -/
def execCommandAdmit (cmd : CmdId) (s0 : State) : Res :=
  .next (match s0.waitsIn cmd with
    | none => s0
    | some i =>
      let s := s0.moveIn i
      match s.fetchedBefore i cmd with
      | none => s
      | some (earlier, w) =>
        if !(s.admitting i && notHeldBack cmd earlier) then s
        else if !s.resvOk w then s.turnAway i w nvConflict
        else if s.canAdmit i w then s.admitCmd i w else s)

/-- A block's bytes with zeros where a read found a block lost (R219). -/
def zeroLost (lost : Nat) (bs : Bytes) : Bytes :=
  (chunksOf 4096 bs).zipIdx.flatMap (fun x => if bit lost x.2 then zeros x.1.length else x.1)

/-- FILL_OBTAINED (R219): the content of one chunk as a read found it, with the blocks it could not read, which hold zeros. -/
def execFillObtained (cmd : CmdId) (chunkNo : Nat) (bytes : Bytes) (lost : BitVec 2) (s : State) : Res :=
  onlyIf s.headUp s (fun s =>
    match s.waitsIn cmd with
    | none => s
    | some i =>
      let st := s.stream i
      s.setStream i { st with waiting := st.waiting.map (fun (w : WaitCmd) =>
        if w.cmd == cmd && (s.missingFills w).contains chunkNo then
          match s.ns (opNsid w.op) with
          | some n => { w with fills := w.fills ++ [(chunkNo, zeroLost lost.toNat (padTo (s.nsChunk n) bytes), lost.toNat)] }
          | none => w
        else w) })

/-! ### Chunk records -/

/-- Chunk IDs that a stream's work still uses: a dropped chunk's is free once its record is (R225, R234). -/
def StreamSt.workIds (st : StreamSt) : List Nat :=
  st.work.filterMap (fun e => if e.2.chunkId ≠ noChunk ∧ !e.2.dropSent then some e.2.chunkId else none)

/-- The lowest number from `k` on that is not taken; `fuel` bounds the search. -/
def lowestFree (taken : Nat → Bool) : Nat → Nat → Nat
  | 0, k => k
  | fuel + 1, k => if taken k then lowestFree taken fuel (k + 1) else k

/-- A new chunk ID of a stream (R225): bit 47 its site, the lowest free number below. -/
def State.newChunkId (s : State) (i : Nat) : Nat :=
  let st := s.stream i
  let ids := st.workIds
  i * 2 ^ 47 + lowestFree (fun k => SMap.has s.head.md.chunks (i * 2 ^ 47 + k) || ids.contains (i * 2 ^ 47 + k))
    (s.head.md.chunks.length + ids.length) 0

/-- Fingerprint of a chunk (R220, R241): HMAC slot d holds domain d's key (R250). -/
def State.fingerprint (s : State) (d : Nat) (content : Bytes) : Bytes :=
  hmac256 (match SMap.get s.digest.slots d with | some k => k.key | none => []) content

/-- Shard site of a fingerprint (R241, R261). -/
def State.shardSite (s : State) (fp : Bytes) : Nat := s.rangeSite (num fp 0 2)

/-- Send the one query of a PENDING chunk (R222); to a failed shelf it counts as unanswered. -/
def State.sendQuery (s : State) (i ssn domain : Nat) (fp : Bytes) : State :=
  let site := s.shardSite fp
  if s.isFailed site then s
  else
    let r := s.request site (.idxQuery domain fp)
    { r.2 with head := { r.2.head with queries := r.2.head.queries ++ [(r.1, i, ssn)] } }

/-- Store a work entry. -/
def State.setWork (s : State) (i ssn : Nat) (w : ChunkWork) : State :=
  let st := s.stream i
  s.setStream i { st with work := SMap.set st.work ssn w }

/-- A work entry. -/
def State.work (s : State) (i ssn : Nat) : Option ChunkWork := SMap.get (s.stream i).work ssn

/-- What the hot lookup says of a chunk (R221): a stored live chunk, a PENDING chunk of the same stream with a lower SSN, or
nothing. -/
def State.hotOutcome (s : State) (i ssn epn domain : Nat) (fp : Bytes) : State × Option Outcome :=
  let r := s.hotFind domain fp
  (r.1, match r.2 with
    | none => none
    | some (_, id, pend) =>
      if pend then
        match (s.stream i).work.find? (fun e => e.2.chunkId == id && e.2.outcome == .pending && e.2.decision.isNone && decide (e.1 < ssn)
            && e.2.domain == domain && e.2.fp == fp) with
        | some p => some (.hitPending p.1)
        | none => none
      else if s.liveFor id epn domain fp then some (.hitStored id) else none)

/-- Give a chunk its ID and its image (R225, R226): compressed where the domain's `press.data_enable` is 1 (R293). -/
def State.reduce (s : State) (i : Nat) (w : ChunkWork) : ChunkWork :=
  let id := if w.chunkId = noChunk then s.newChunkId i else w.chunkId
  let im := imageOf (s.pi p_press_data_enable w.domain == 1) w.content
  { w with chunkId := id, image := s.sealImage w.domain id im.1, raw := im.2 }

/-- Form a chunk's record (R217 to R226): ZERO or HIT, which leave the write buffer at once (R213), UNIQUE without dedupe, whose record
carries an F all the same (R323, log 64), or PENDING with its query. A chunk with lost blocks is neither ZERO nor a HIT (log 28). -/
def State.formChunk (s : State) (i ssn : Nat) (w : ChunkWork) : State :=
  if s.p p_ingest_zero_detect == 1 && allZero w.content && w.lostBlocks == 0 then s.setWork i ssn { w with outcome := .zero, content := [] }
  else if s.pi p_dedupe_enable w.domain ≠ 1 then
    s.setWork i ssn { s.reduce i w with outcome := .unique, fp := s.fingerprint w.domain w.content }
  else
    let fp := s.fingerprint w.domain w.content
    let r := if w.lostBlocks = 0 then s.hotOutcome i ssn w.epn w.domain fp else (s, none)
    match r.2 with
    | some o => r.1.setWork i ssn { w with outcome := o, fp := fp, content := [] }
    | none =>
      let w1 := { r.1.reduce i w with outcome := .pending, fp := fp }
      let h := r.1.hotEnter w.domain fp w1.chunkId
      (h.1.setWork i ssn { w1 with matchIndex := some h.2 }).sendQuery i ssn w.domain fp

/-- The append head of an image (R425). -/
def ChunkWork.head (w : ChunkWork) : AppendHead :=
  { imageLen := w.image.length, granule := w.granule, raw := w.raw, mirror := false, domain := w.domain, nsIndex := w.nsIndex
    chunkNo := w.chunkNo, chunkId := w.chunkId, appTag := w.appTag, birth := w.epn, fp := padTo 32 w.fp, crc64 := crc64 w.image
    refTag := w.chunkId, checkApp := w.domain, lostBlocks := w.lostBlocks }

/-- Send both appends of a staged image with the stream's tag (R228). -/
def State.sendAppends (s : State) (i ssn : Nat) (w : ChunkWork) : State :=
  match s.head.md.stripe w.stripe with
  | none => s
  | some r => s.sendImage ⟨.append, i, ssn, stripItem w.stripe w.strip⟩ (s.stream i).gen r w.strip w.head w.image

/-- Whether a chunk's image is staged at all: PENDING chunks, and UNIQUE ones of domains without dedupe (R226). -/
def Outcome.staged : Outcome → Bool
  | .pending => true
  | .unique => true
  | .forming => false
  | .zero => false
  | .hitStored _ => false
  | .hitPending _ => false

/-- Stage an image: its place in an open stripe, and its two appends (R227, R228). Nothing where no open stripe has room. -/
def State.stageChunk (s : State) (i ssn : Nat) (w : ChunkWork) : State :=
  match s.placeFor i false w.image.length with
  | none => s
  | some (stripe, strip, g) =>
    let w1 := { w with stripe := stripe, strip := strip, granule := g, staged := true }
    ((s.setWork i ssn w1).notePlace stripe (ssn, w.chunkId, strip, g, w.image.length)).sendAppends i ssn w1

/-- The work of the reduction pipeline on one chunk record SSN, in epoch n + 1 or later: its record is formed, and its image
staged. -/
def State.pipeline (s : State) (i ssn : Nat) : State :=
  match s.work i ssn with
  | none => s
  | some w =>
    if s.epn ≤ w.epn then s
    else
      let s1 := if w.outcome = .forming then s.formChunk i ssn w else s
      match s1.work i ssn with
      | none => s1
      | some w1 => if w1.outcome.staged && !w1.staged then s1.stageChunk i ssn w1 else s1

end Sys2Proof.Machine
end

