-- ==== Sys2Proof/Machine/Manager.lean ====
section
/-! DEFINITION. Manager records and what both heads do when they apply one (R22, R189, R261, R316, R317, R339 to R343, R361 to
R374, R408, R409), member replacement (R356) and the ANA states (R25, R191). -/

namespace Sys2Proof.Machine

/-! ### ANA -/

/-- The ANA state of a group, by its stream, at this head (R25, R179, R402): 1 Optimized, 2 Non-optimized, 3 Inaccessible, 4
Persistent Loss, 15 Change. -/
def State.anaOf (s : State) (g : Nat) : Nat :=
  let st := s.stream g
  if s.seam.rejoining then 3
  else if !(s.ready && s.isHead) then 4
  else if s.seam.leaseLost || s.seam.ioStopped then 3
  else if (match s.seam.claim with | some c => c.streams.any (·.1 == g) | none => false) then 15
  else if (match st.handback with | some h => decide (s.epn < h) | none => false) then 15
  else if st.takes s.epn then 1
  else if s.peerUp then 2
  else 3

/-- Report changes of the ANA states: counts and the ANA Change Notice (R191). -/
def State.anaUpdate (s : State) : State :=
  let now := [s.anaOf 0, s.anaOf 1]
  if now = s.nvme.ana then s
  else
    let counts := List.zipWith (fun (a : Nat × Nat) c => if a.1 = a.2 then c else c + 1) (List.zip now s.nvme.ana) s.nvme.anaCounts
    State.noticeAll { s with nvme := { s.nvme with ana := now, anaCount := s.nvme.anaCount + 1, anaCounts := counts } } noticeAna

/-- Release the completions that POWER_FAIL_N or the want of a majority held (R402, R611). -/
def State.drainAll (s : State) : State :=
  s.nvme.ctrls.foldl (fun acc e => e.2.cqs.foldl (fun a q => a.drainCq e.1 q.1 q.2.held.length) acc) s

/-! ### Checkpoints of the Hem -/

/-- A checkpoint is written: not durable before the next phase 0, the one before it of its kind durable (R154, R160, log 96). -/
def State.looseCkpt (s : State) (k i : Nat) (c : CkptPair) : List (Nat × Nat × Bool) :=
  s.hem.looseCk.filter (fun x => !(x.1 == k && x.2.1 == i)) ++ [(k, i, c.next)]

/-- The slot group that a checkpoint is written into holds its old content until then (R153, R160). -/
def State.overCkpt (s : State) (k i : Nat) (c : CkptPair) : State := s.leave (· == .ckpt k i c.next)

/-- Write a Darning checkpoint of a stream (R365): tier, cursor, FAIL set. -/
def State.ckptDarn (s : State) (i : Nat) (v : List Nat) : State :=
  let h := s.hem
  let s1 := s.overCkpt 0 i (if i = 0 then h.darn else h.darn1)
  if i = 0 then { s1 with hem := { s1.hem with looseCk := s.looseCkpt 0 0 h.darn, darn := h.darn.put v } }
  else { s1 with hem := { s1.hem with looseCk := s.looseCkpt 0 1 h.darn1, darn1 := h.darn1.put v } }

/-- Write a Refold checkpoint of a stream (R371): generation, boundary, stripes done. -/
def State.ckptRefold (s : State) (i : Nat) (v : List Nat) : State :=
  let h := s.hem
  let s1 := s.overCkpt 1 i (if i = 0 then h.refold else h.refold1)
  if i = 0 then { s1 with hem := { s1.hem with looseCk := s.looseCkpt 1 0 h.refold, refold := h.refold.put v } }
  else { s1 with hem := { s1.hem with looseCk := s.looseCkpt 1 1 h.refold1, refold1 := h.refold1.put v } }

/-- Write a replication checkpoint (R537): G, claim count, replicated EPN, newest RECEIPT per stream. -/
def State.ckptRepl (s : State) (v : List Nat) : State :=
  let h := s.hem
  let s1 := s.overCkpt 2 0 h.repl
  { s1 with hem := { s1.hem with looseCk := s.looseCkpt 2 0 h.repl, repl := h.repl.put v } }

/-! ### Shelf members -/

/-- Indices of a value in a list. -/
def idxOf (l : List Nat) (x : Nat) : Option Nat := (List.range l.length).find? (fun i => l.getD i 0 == x)

/-- Set MISSING for a failed site in every stripe record (R361). -/
def MetaSt.markMissing (m : MetaSt) (site epoch : Nat) : MetaSt :=
  m.stripes.foldl (fun acc e =>
    match idxOf e.2.sites site with
    | some i => if bit e.2.missing i then acc else acc.setStripe e.1 { e.2 with missing := e.2.missing + 2 ^ i } epoch
    | none => acc) m

/-- No MISSING member remains in any stripe that is not retired (R361, R365). -/
def MetaSt.whole (m : MetaSt) : Bool := m.stripes.all (fun e => e.2.missing == 0 || e.2.state == 4)

/-- Send again every append of a replaced member, from the write buffer (R356). -/
def State.resendMember (s : State) (i stripe idx : Nat) : State :=
  match s.head.md.stripe stripe with
  | none => s
  | some r =>
    (s.stream i).work.foldl (fun acc e =>
      let w := e.2
      if w.stripe == stripe && w.staged && (decide (w.strip = idx) || decide (idx = r.k)) then
        let f : Frame := ⟨⟨.append, i, e.1, stripItem stripe w.strip⟩, false, false, (s.stream i).gen, 0,
          .append { w.head with mirror := decide (idx = r.k) } w.image⟩
        (acc.setWork i e.1 (if idx = r.k then { w with mirrorAck := false } else { w with landAck := false })).toShelf (r.site idx) f
      else acc) s

/-- A shelf holds a strip of a stripe: an EMPTY data strip is not written (R348). -/
def StripeRec.holds (r : StripeRec) (site : Nat) : Bool :=
  r.state != 4 && (List.range (r.k + r.m)).any (fun i => r.site i == site && !(decide (i < r.k) && bit r.empty i))

/-- A strip has gone from a shelf: a read-only one that holds none any more is evacuated (R368). -/
def State.evacCheck (s : State) (site : Nat) : State :=
  if (s.shelf site).readOnly && !(s.head.md.stripes.any (fun e => e.2.holds site)) then s.event EV_STRIPE_EVACUATED (srcOf 3 site) else s

/-- Move a member of a stripe to a site (R356, R364): its stripe record and its SIF record. The strip of a closed stripe was rebuilt there. -/
def State.moveMember (s : State) (stripe idx site epoch : Nat) : State :=
  match s.head.md.stripe stripe with
  | none => s
  | some r =>
    let left := r.sites.getD idx 255
    let r1 := { r with
      sites := r.sites.set idx site, missing := if bit r.missing idx then r.missing - 2 ^ idx else r.missing
      rebuilt := if r.state = 1 ∨ bit r.rebuilt idx then r.rebuilt else r.rebuilt + 2 ^ idx
      former := if s.isFailed left then r.former ++ [(idx, left)] else r.former }
    let s0 := s.setMd (s.head.md.setStripe stripe r1 epoch)
    let s1 := if r.holds left then s0.evacCheck left else s0
    match s1.sifOf stripe with
    | some i =>
      match SMap.get s1.hem.sif i with
      | some f => s1.putSif i { f with sites := r1.sites }
      | none => s1
    | none => s1

/-- Replace a failed member of one open stripe (R356): the owner chooses, records a MEMBER record and resends; where no shelf
qualifies the appends wait. -/
def State.replaceMember (s : State) (stripe site : Nat) : State :=
  match s.head.md.stripe stripe with
  | none => s
  | some r =>
    let i := streamOf stripe
    match idxOf r.sites site with
    | none => s
    | some idx =>
      if !(s.stream i).mine || r.state != 1 then s
      else
        match (s.acceptOrder.filter (fun x => !r.sites.contains x)).head? with
        | none => s.followAlarm AL_STRIPE_NO_SPARE true
        | some to' =>
          let st := s.stream i
          let s1 := s.setStream i { st with classRecs := st.classRecs ++ [(1, .member stripe idx to')] }
          (s1.moveMember stripe idx to' s.epn).resendMember i stripe idx

/-- Replace a site in every open stripe (R356). -/
def State.replaceSite (s : State) (site : Nat) : State :=
  (s.head.md.stripes.filter (fun e => e.2.state == 1)).foldl (fun acc e => acc.replaceMember e.1 site) s

/-! ### Namespaces and snapshots -/

/-- Deallocate every position of a namespace (R190): none has been written from then on (R342). -/
def MetaSt.deallocNs (m : MetaSt) (nsIndex epoch : Nat) : MetaSt :=
  let m1 := (m.leaves.filter (fun e => e.1 / 2 ^ 40 == nsIndex)).foldl (fun acc e =>
    acc.setLeaf nsIndex (e.1 % 2 ^ 40) { birth := epoch } epoch) m
  { m1 with leaves := SMap.keep m1.leaves (fun k _ => k / 2 ^ 40 != nsIndex) }

/-- Delete a snapshot (R343): hidden at once. -/
def MetaSt.hideSnap (m : MetaSt) (id : Nat) : MetaSt := { m with snaps := SMap.modify m.snaps id (fun x => { x with hidden := true }) }

/-- A release step (R343): preserved entries of one page of a namespace that no snapshot sees lose their references. -/
def MetaSt.release (m : MetaSt) (nsIndex page epoch : Nat) : MetaSt :=
  let go := fun (p : Pres) => p.nsIndex == nsIndex && p.chunkNo / 4096 == page && !m.visible nsIndex p.leaf.birth p.death
  let gone := m.pres.filter go
  let m0 := { m with pres := m.pres.filter (fun p => !go p) }
  let m1 := if gone.isEmpty then m0 else m0.touchPres nsIndex (4096 * page) epoch
  gone.foldl (fun acc p => if p.leaf.mapped then acc.addRef p.leaf.chunkId epoch (-1) else acc) m1

/-- A snapshot reads through a clone that is gone. -/
def MetaSt.readsOld (m : MetaSt) (o : OldClone) : Bool :=
  m.snaps.any (fun e => e.2.keeps && e.2.nsids.contains o.nsid && decide (o.born < e.2.epn ∧ e.2.epn ≤ o.till))

/-- A clone ends (R342, R343): what reads through it later are its snapshots alone. -/
def MetaSt.endClone (m : MetaSt) (nsid n : Nat) (x : Ns) : MetaSt :=
  match x.cloneOf with
  | some (snap, src) => { m with oldClones := m.oldClones ++ [⟨nsid, x.domain, x.born, n, snap, src⟩] }
  | none => m

/-- Clones gone that nothing reads through no longer hold their snapshots (R343). -/
def MetaSt.dropOld (m : MetaSt) : MetaSt :=
  let gone := m.oldClones.filter (fun o => !m.readsOld o)
  { m with
    oldClones := m.oldClones.filter m.readsOld
    snaps := gone.foldl (fun a o => SMap.modify a o.snap (fun x => { x with clones := x.clones.erase o.nsid })) m.snaps }

/-- Deleted snapshots go once nothing of them is left to release (R343); a snapshot let go can let go what it read through. -/
def MetaSt.dropHidden (m0 : MetaSt) : MetaSt :=
  let m := (List.range m0.oldClones.length).foldl (fun a _ => a.dropOld) m0
  if m.pres.all (fun p => m.visible p.nsIndex p.leaf.birth p.death) then { m with snaps := SMap.keep m.snaps (fun _ x => x.keeps) } else m

/-- Tell the controllers a namespace is attached to, or of `ctrls`, that it changed (R189). -/
def State.nsNotice (s : State) (nsid : Nat) (ctrls : List Nat) : State :=
  ctrls.foldl (fun acc c =>
    let k := acc.ctrl c
    (acc.setCtrl c { k with changedNs := if k.changedNs.contains nsid then k.changedNs else k.changedNs ++ [nsid] }).noticeTo c noticeNs) s

/-- Controllers of this head that a namespace is attached to. -/
def State.attachedTo (s : State) (nsid : Nat) : List Nat :=
  match s.ns nsid with
  | some n => n.attached
  | none => []

/-- Store a namespace. -/
def State.setNs (s : State) (nsid : Nat) (n : Ns) : State := { s with nvme := { s.nvme with ns := SMap.set s.nvme.ns nsid n } }

/-! ### Domain keys -/

/-- A head in PS2 holds its key steps (R313). -/
def State.inPs2 (s : State) : Bool := s.nvme.psCur == 2

/-- Begin to stand down (R404 step 1): nothing is admitted from the next boundary on. -/
def State.standDown (s : State) : State :=
  if s.seam.standing then s
  else
    let s1 := s.myStreams.foldl (fun acc i =>
      let st := acc.stream i
      acc.setStream i { st with admitUntil := some (match st.admitUntil with | some e => min e (acc.epn + 1) | none => acc.epn + 1) }) s
    { s1 with seam := { s1.seam with standing := true, own := 1 } }

/-- Unwrap a domain key record into its slots (R312, R316); an unwrap that fails raises AL_CIPHER_ENVELOPE and takes the head out of
service (R315). -/
def State.unwrapRec (s : State) (r : KeyRec) : State :=
  let kek := (s.keySlot 1024).key
  match kwUnwrap kek r.wrappedData, kwUnwrap kek r.wrappedFp with
  | some d, some f =>
    (s.setKeySlot (dataSlot r.domain r.generation) { state := 1, type := 2, use := 1, key := d }).setKeySlot
      (fpSlot r.domain r.generation) { state := 1, type := 3, use := 4, key := f }
  | _, _ =>
    let s1 := (s.alarm AL_CIPHER_ENVELOPE 0).standDown
    { s1 with seam := { s1.seam with own := 3 }, boot := { s1.boot with holds := insNat s1.boot.holds AL_CIPHER_ENVELOPE } }

/-- Unwrap a replication key generation under a KEK into its two slots (R312, R527); a wrapped key that does not unwrap leaves its slot. -/
def State.loadRepl (s : State) (kek g : Nat) (w0 w1 : Bytes) : State :=
  let put := fun (acc : State) (d : Nat) (w : Bytes) =>
    match kwUnwrap (acc.keySlot kek).key w with
    | some k => acc.setKeySlot (1026 + 2 * (g % 2) + d) { state := 1, type := 1, use := 1, key := k }
    | none => acc
  put (put s 0 w0) 1 w1

/-- Apply a step of replay that needs the key slots (R313): an HMAC slot whose record's EPN has not come takes its key at that boundary
(R250, R317). -/
def State.applyStep (s : State) (k : KeyStep) : State :=
  match k with
  | .unwrap r => s.unwrapRec r
  | .erase d g => (s.revoke (dataSlot d g)).revoke (fpSlot d g)
  | .repl g w0 w1 => s.loadRepl 1024 g w0 w1
  | .hmacLoad d slot =>
    let h : HmacSlot := ⟨1, (s.keySlot slot).key.take 32⟩
    if s.cipher.pendingKeys.any (fun r => r.domain == d && fpSlot d r.generation == slot) then
      { s with digest := { s.digest with changes := s.digest.changes ++ [⟨d, some h⟩] } }
    else { s with digest := { s.digest with slots := SMap.set s.digest.slots d h } }

/-- A slot can take a key: it is EMPTY, or holds that key. -/
def State.slotTakes (s : State) (n : Nat) (key : Bytes) : Bool := (s.keySlot n).state == 0 || (s.keySlot n).key == key

/-- A step must wait: an unwrap until its slots are EMPTY, as KEY_UNWRAP asks (R302), and the HMAC load behind it. -/
def State.stepWaits (s : State) (k : KeyStep) : Bool :=
  match k with
  | .unwrap r =>
    (match kwUnwrap (s.keySlot 1024).key r.wrappedData, kwUnwrap (s.keySlot 1024).key r.wrappedFp with
     | some d, some f => !(s.slotTakes (dataSlot r.domain r.generation) d && s.slotTakes (fpSlot r.domain r.generation) f)
     | _, _ => false)
  | .hmacLoad _ slot => s.cipher.steps.any (fun x => match x with | .unwrap r => fpSlot r.domain r.generation == slot | _ => false)
  | .erase _ _ => false
  | .repl _ _ _ => false

/-- Apply the steps in order; what must wait stays on the list. -/
def State.applySteps (s : State) : State :=
  s.cipher.steps.foldl (fun acc k =>
    if acc.stepWaits k then { acc with cipher := { acc.cipher with steps := acc.cipher.steps ++ [k] } } else acc.applyStep k)
    { s with cipher := { s.cipher with steps := [] } }

/-- A step of replay that needs the key slots: in PS2 it waits for the exit (R313). -/
def State.addSteps (s : State) (ks : List KeyStep) : State :=
  let s1 := { s with cipher := { s.cipher with steps := s.cipher.steps ++ ks } }
  if s1.inPs2 then s1 else s1.applySteps

/-- Apply a domain key record at replay (R313, R316, R317). -/
def State.takeKeyRec (s : State) (r : KeyRec) : State :=
  State.addSteps { s with cipher := { s.cipher with pendingKeys := s.cipher.pendingKeys ++ [r] } }
    [.unwrap r, .hmacLoad r.domain (fpSlot r.domain r.generation)]

/-! ### Manager records -/

/-- Everything but the first of two records of one range. -/
def dropMove (range : Nat) (l : List ShardMove) : List ShardMove := l.filter (fun m => m.range != range)

/-- Chunk IDs whose fingerprint lies in a range (R267). -/
def MetaSt.inRange (m : MetaSt) (range : Nat) : List Nat :=
  (m.chunks.filter (fun e => e.2.live && num e.2.fp 0 2 == range)).map (·.1)

/-- A range goes to another shard: what its old shard said of the chunks it held is no ground for a merge any more (R236, log 104). -/
def State.dropCands (s : State) (range : Nat) : State :=
  let stays := fun (l : Nat) => match s.head.md.chunk l with | some c => num c.fp 0 2 != range | none => true
  [0, 1].foldl (fun (acc : State) i =>
    let st := acc.stream i
    acc.setStream i { st with
      sortCands := st.sortCands.filter (fun c => stays c.1)
      classRecs := st.classRecs.filter (fun r => match r.2 with | .merge l _ => stays l | _ => true) }) s

/-- Sectors of its strip that hold a chunk's image, behind the 256-byte header (R346). -/
def ChunkRec.sectors (c : ChunkRec) : List Nat :=
  let first := (256 + 64 * c.granule) / 4096
  let last := (256 + 64 * c.granule + c.imageLen - 1) / 4096
  (List.range (last + 1 - first)).map (first + ·)

/-- Mark a stripe LOST (R367): its live chunks become LOST. -/
def MetaSt.loseStripe (m : MetaSt) (id : Nat) (sectors : List Nat) (epoch : Nat) : MetaSt :=
  match m.stripe id with
  | none => m
  | some r =>
    let m1 := m.setStripe id { r with state := 3 } epoch
    let touches := fun (c : ChunkRec) => c.stripeId == id && (c.sectors.any (fun o => sectors.contains (16 * c.strip + o)))
    let m2 := (m1.chunks.filter (fun e => touches e.2)).foldl (fun acc e => acc.setChunk e.1 { e.2 with lost := true } epoch) m1
    { m2 with lost := id :: m2.lost.filter (· != id) }

/-- Stripes of an older layout generation that are not retired (R369, R374). -/
def MetaSt.older (m : MetaSt) : List (Nat × StripeRec) :=
  m.stripes.filter (fun e => decide (e.2.layoutGen < m.layoutGen) && e.2.state != 4)

/-- The peer's Refold has passed a boundary (R370): the older stripes of its stream through it that hold no live chunk are retired. -/
def MetaSt.retireTo (m : MetaSt) (stream boundary n : Nat) : MetaSt :=
  let gone := m.older.filter (fun e => streamOf e.1 == stream && decide (e.1 ≤ boundary) && (e.2.state == 2 || e.2.state == 3) && (m.liveIn e.1).isEmpty)
  let m1 := gone.foldl (fun a e => a.setStripe e.1 { e.2 with state := 4 } n) m
  { m1 with refoldDone := m1.refoldDone + b2n m.refolding * gone.length }

/-- A failed shelf that answers again has its strips discarded (R361), those of members rebuilt elsewhere too: each stream's head discards those of its
stripes. -/
def State.discardSite (s : State) (site n : Nat) : State :=
  let m := s.head.md
  let s0 := s.setMd { m with failed := m.failed.filter (· != site) }
  let at' := fun (r : StripeRec) => match idxOf r.sites site with
    | some x => some x
    | none => (r.former.find? (fun (f : Nat × Nat) => f.2 == site)).map Prod.fst
  (m.stripes.filter (fun e => (at' e.2).isSome)).foldl (fun acc e =>
    let i := streamOf e.1
    let idx := (at' e.2).getD 0
    if (acc.stream i).takes acc.epn then
      acc.toShelf site (acc.tagged .discard i n (stripItem e.1 idx) true (.discard (16 * e.1)))
    else acc) s0

/-- The manager sends RANGE_DROP (R267): to the old shelf after a move, and to the new one before it, where a range moved is not ready. -/
def State.rangeDrop (s : State) (range site : Nat) : State := if s.isManager then (s.request site (.idxOp 6 0 range 0 0 [])).2 else s

/-- A shelf that comes back drops the ranges that moved away while it was treated as failed (R267). -/
def State.staleRanges (s : State) (site : Nat) : State :=
  let n := max s.head.md.shardN 1
  (s.head.md.shard.filter (fun e => e.2 != site && e.1 % n == site)).foldl (fun acc e => acc.rangeDrop e.1 site) s

/-- The time quality of a snapshot that becomes known (R338): where its boundary has passed here, that of the boundary. A restart since then leaves it
open (log 6). -/
def State.cutQuality (s : State) (e : Nat) : Nat × State :=
  if s.epn < e then (0, s)
  else match s.head.quals.find? (fun x => x.1 == e) with
    | some x => (x.2, s)
    | none => let r := s.takeFree; (r.1 % 4, r.2)

/-- Apply a manager record that a SEAL of a stream's epoch `n` carries (R23). -/
def State.applyMgr (s : State) (stream n : Nat) (r : MgrRec) : State :=
  let m := s.head.md
  match r with
  | .fail site =>
    let s1 := s.setMd ({ m with failed := insNat m.failed site, absent := m.absent.filter (·.1 != site) }.markMissing site n)
    let s2 := (s1.event EV_STRIPE_MEMBER_FAILED (srcOf 3 site)).alarm AL_STRIPE_DEGRADED 0
    let d := fun (x : DarnSt) => { x with cursor := 0, tier := 0, done := 0, skipped := [], noSpare := [] }
    State.replaceSite { s2 with head := { s2.head with darn0 := d s2.head.darn0, darn1 := d s2.head.darn1 } } site
  | .absent site => s.setMd { m with absent := m.absent ++ [(site, s.time.t)] }
  | .present site =>
    let s1 := if m.failed.contains site then s.discardSite site n else s
    s1.staleRanges site |>.setMd { s1.head.md with
      absent := m.absent.filter (·.1 != site), failed := m.failed.filter (· != site), rebalance := m.rebalance || m.failed.contains site }
  | .spareSet sites => s.setMd { m with spares := sites }
  | .lost id secs => ((s.setMd (m.loseStripe id secs n)).event EV_STRIPE_LOST 0).alarm AL_STRIPE_LOST 0
  | .refoldStart gen k pm nn retire =>
    let m1 := { m with layoutGen := gen, layout := [k, pm, retire, nn], refolding := true, rebalance := false, refoldDone := 0 }
    let f := fun (x : RefoldSt) => { x with boundary := 0, ckptBoundary := 0, ahead := 0, moved := false }
    State.setMd { s with head := { s.head with refold0 := f s.head.refold0, refold1 := f s.head.refold1 } } { m1 with refoldTotal := m1.older.length }
  | .refoldDone => (s.setMd { m with refolding := false }).event EV_STRIPE_REFOLD_DONE 0
  | .shardMove range site =>
    let old := s.rangeSite range
    let m1 := { m with moves := dropMove range m.moves ++ [⟨range, site, []⟩] }
    let s1 := (s.dropCands range).setMd (if m.failed.contains old then { m1 with shard := SMap.set m1.shard range site } else m1)
    s1.rangeDrop range site
  | .shardMoveDone range =>
    (match m.moves.find? (·.range == range) with
     | none => s
     | some mv =>
       let old := s.rangeSite range
       let s1 := s.setMd { m with moves := dropMove range m.moves, shard := SMap.set m.shard range mv.site }
       if old != mv.site then (s1.dropCands range).rangeDrop range old else s1.dropCands range)
  | .nsCreate d => s.setNs d.nsid { nsze := d.nsze, lbaf := d.lbaf % 16, ext := decide (16 ≤ d.lbaf), domain := d.domain, born := n }
  | .nsDelete nsid =>
    let s1 := s.nsNotice nsid (s.attachedTo nsid)
    let m1 := s1.head.md.deallocNs (nsid - 1) n
    let s2 := s1.setMd (match s1.ns nsid with | some x => (m1.endClone nsid n x).dropHidden | none => m1)
    { s2 with nvme := { s2.nvme with ns := SMap.del s2.nvme.ns nsid } }
  | .nsAttach nsid ctrls att =>
    (match s.ns nsid with
     | none => s
     | some x =>
       let rest := x.attached.filter (fun c => !ctrls.contains c)
       (s.setNs nsid { x with attached := if att then rest ++ ctrls else rest }).nsNotice nsid ctrls)
  | .nsFormat d =>
    (match s.ns d.nsid with
     | none => s
     | some x =>
       let s1 := s.setMd ((m.deallocNs (d.nsid - 1) n).endClone d.nsid n x).dropHidden
       (s1.setNs d.nsid { x with cloneOf := none, lbaf := d.lbaf % 16, ext := decide (16 ≤ d.lbaf), formatting := false, nsze := d.nsze }).nsNotice d.nsid x.attached)
  | .sanitize =>
    let s1 := s.setMd ((SMap.keys m.snaps).foldl MetaSt.hideSnap m)
    s1.nvme.ns.foldl (fun acc e => acc.nsNotice e.1 e.2.attached) { s1 with nvme := { s1.nvme with sanitizing := true } }
  | .domainKey k => s.takeKeyRec k
  | .snapDefine d =>
    let done := (m.scheds.filter (fun e => decide (e.2.snapId ≤ d.id ∧ d.id < e.2.snapId + e.2.count))).foldl
      (fun a e => SMap.set a e.1 (d.id - e.2.snapId + 1)) m.schedDone
    let q := s.cutQuality d.epn
    q.2.setMd { m with snaps := SMap.set m.snaps d.id { epn := d.epn, nsids := d.nsids, quality := q.1 }, schedDone := done }
  | .snapDelete id => s.setMd (m.hideSnap id).dropHidden
  | .snapClone snap src nsid =>
    (match s.ns src with
     | none => s
     | some x =>
       let s1 := s.setMd { m with snaps := SMap.modify m.snaps snap (fun y => { y with clones := y.clones ++ [nsid] }) }
       s1.setNs nsid { nsze := x.nsze, lbaf := x.lbaf, ext := x.ext, domain := x.domain, cloneOf := some (snap, src), born := n })
  | .snapRelease _ nsid page => s.setMd (m.release (nsid - 1) page n).dropHidden
  | .schedAdd e => s.setMd { m with scheds := SMap.set m.scheds e.snapId e }
  | .schedRemove id => s.setMd { m with scheds := SMap.del m.scheds id, schedDone := SMap.del m.schedDone id }
  | .handback st h =>
    let x := s.stream st
    (s.setStream st { x with handback := some h, admitUntil := if x.mine then some h else x.admitUntil }).anaUpdate
  | .leaseMove site e => { s with seam := { s.seam with leaseMove := some (site, e) } }
  | .syncOff => s.setMd { m with syncOff := true }
  | .syncOn => s.setMd { m with syncOff := false }
  | .replKeyGen g w0 w1 => (s.setMd { m with replGen := g, replKeys := [w0, w1] }).addSteps [.repl g w0 w1]
  | .ckptDarn cursor tier => if (s.stream stream).owns n then s else s.ckptDarn stream ([tier, cursor] ++ m.failed)
  | .ckptRefold gen boundary done => if (s.stream stream).owns n then s else (s.setMd (m.retireTo stream boundary n)).ckptRefold stream [gen, boundary, done]
  | .ledgerArray l => s.setMd { m with audit := some l }
  | .ledgerJoin role site status seq => s.setMd { m with audit := some (m.audit.getD [] ++ [(role, site, status, seq)]) }
  | .ckptRepl g claim epn r0 r1 =>
    if (s.stream stream).owns n then s
    else
      let q := s.repl
      State.ckptRepl { s with repl := { q with
        keyGen := g, claim := claim, replicated := max q.replicated epn
        receipts := [max (q.receipts.getD 0 0) r0, max (q.receipts.getD 1 0) r1] } } [g, claim, epn, r0, r1]

/-- The stream whose SEALs carry the manager's records: that of the manager's own site, or the other where only that one is the manager's
to sequence. The spec does not say which: DESIGN CHOICE (log 76). -/
def State.mgrStream (s : State) : Nat :=
  if !(s.stream s.site).mine && (s.stream s.peerSite).mine then s.peerSite else s.site

/-- Queue a manager decision for the next SEAL (R22, R23). -/
def State.record (s : State) (r : MgrRec) : State :=
  let st := s.stream s.mgrStream
  s.setStream s.mgrStream { st with sealQueue := st.sealQueue ++ [.manager r] }

end Sys2Proof.Machine
end

