-- ==== Sys2Proof/Machine/Ledger.lean ====
section
/-! DEFINITION. The boot ledger: record layout, the two-phase append, the manager's records and the reading paths that do not
belong to a transport (R95 to R118). -/

namespace Sys2Proof.Machine

/-- The ledger magic and the commit word (R101). -/
def ledgerMagic : Bytes := [0x4B, 0x4C, 0x44, 0x47]
def ledgerCommit : Bytes := [0x4B, 0x43, 0x4F, 0x4D, 0x4D, 0x49, 0x54, 0x21]

/-- Slots of the ring (R99). -/
def ledgerSlots : Nat := 16384

/-- Address of a ledger slot in the NOR. -/
def slotAddr (i : Nat) : Nat := ledgerBase + 4096 * i

/-- The bytes of the record that begins in a slot, where it is committed (R100). -/
def committedAt (nor : Mem) (i : Nat) : Option Bytes :=
  let one := norRead nor (slotAddr i) 4096
  if one.take 4 != ledgerMagic then none
  else if num one 7 1 = 2 then
    let two := norRead nor (slotAddr i) 8192
    if i + 1 < ledgerSlots ∧ two.drop 8184 = ledgerCommit then some two else none
  else if one.drop 4088 = ledgerCommit then some one else none

/-- Slots that hold any programmed byte: the only ones that can hold a record. -/
def touchedSlots (nor : Mem) : List Nat :=
  (nor.filter (fun c => decide (ledgerBase ≤ c.1 ∧ c.1 < ledgerBase + 4096 * ledgerSlots))).foldl
    (fun acc c => insNat acc ((c.1 - ledgerBase) / 4096)) []

/-- Fields of a record (R101). -/
def recSeq (r : Bytes) : Nat := num r 8 8
def recType (r : Bytes) : Nat := num r 6 1
def recBootCount (r : Bytes) : Nat := num r 16 8

/-- Put a record into a list kept in sequence order. -/
def insRec (x : Nat × Bytes) : List (Nat × Bytes) → List (Nat × Bytes)
  | [] => [x]
  | y :: ys => if recSeq x.2 < recSeq y.2 then x :: y :: ys else y :: insRec x ys

/-- The committed records of the ring with their slots, in sequence order. -/
def ledgerRecords (nor : Mem) : List (Nat × Bytes) :=
  (touchedSlots nor).foldl (fun acc i => match committedAt nor i with
    | some r => insRec (i, r) acc
    | none => acc) []

/-- The newest committed record of a type, with its slot (R114). -/
def newestOf (nor : Mem) (type : Nat) : Option (Nat × Bytes) := ((ledgerRecords nor).filter (fun x => recType x.2 == type)).getLast?

/-- A flag of the newest part-boot record (R117). -/
def newestFlag (nor : Mem) (i : Nat) : Bool :=
  match newestOf nor 1 with
  | some x => bit (num x.2 24 4) i
  | none => false

/-- The record digest: everything but COMMIT (R102). -/
def recDigest (r : Bytes) : Bytes := sha384 (r.take (r.length - 8))

/-- DEVICE_ID (R98). -/
def deviceId : Bytes := sha384 (Config.ecPub ++ Config.mldsaPub)

/-- The fields of a record body that differ between types and boots. -/
structure RecFields where
  type : Nat
  slots : Nat
  seq : Nat
  bootCount : Nat
  flags : Nat
  incomplete : Nat
  prevDigest : Bytes
  prevAttempt : Bytes
  entries : List Bytes

/-- An entry of R105. -/
def ledgerEntry (role site status seq : Nat) (digest : Bytes) : Bytes :=
  le 1 role ++ le 1 site ++ le 1 status ++ zeros 1 ++ le 4 seq ++ padTo 48 digest

/-- Bytes 0 to SIG_OFF - 1 of a record (R101); array time and quality are filled when it is signed. -/
def State.ledgerBody (s : State) (f : RecFields) : Bytes :=
  let b := s.boot
  let m := s.ledger.meas
  padTo (4096 * f.slots - 3416)
    (ledgerMagic ++ le 2 1 ++ le 1 f.type ++ le 1 f.slots ++ le 8 f.seq ++ le 8 f.bootCount ++ le 4 f.flags
      ++ le 1 (if s.isHead then 0 else 1) ++ le 1 s.site ++ zeros 2 ++ zeros 8 ++ le 4 f.incomplete ++ le 4 b.imageSeq
      ++ deviceId ++ padTo 48 f.prevDigest ++ le 4 b.secVersion ++ zeros 4 ++ le 8 b.otpFloor ++ padTo 8 b.fwVersion
      ++ padTo 16 b.replayId ++ padTo 16 (paramBytes s.romParams p_image_array_id 0) ++ le 2 b.copyASt ++ le 2 b.copyBSt
      ++ le 2 f.entries.length ++ zeros 2 ++ padTo 48 m.rom ++ padTo 48 m.fw ++ padTo 48 m.profile ++ padTo 48 m.param
      ++ padTo 48 m.keyEnv ++ padTo 48 m.ystmt ++ padTo 48 m.ownerKey ++ padTo 48 f.prevAttempt ++ zeros 16
      ++ f.entries.flatten)

/-- Fill TIME_QUALITY and ARRAY_TIME into a body (R106). -/
def fillTime (q t : Nat) (body : Bytes) : Bytes := body.take 30 ++ le 1 q ++ sub body 31 1 ++ le 8 t ++ body.drop 40

/-- A whole record: body, both signatures, COMMIT (R101, R102). -/
def signRecord (nonce : Nat) (body : Bytes) : Bytes :=
  body ++ padTo 96 (Config.ecdsaSign nonce body) ++ padTo 3309 (Config.mldsaSign nonce body) ++ zeros 3 ++ ledgerCommit

/-- FLAGS bits 3 to 5 (R104). -/
def State.ledgerFlags (s : State) (prevInc genesis broken : Bool) : Nat :=
  b2n prevInc + 2 * b2n genesis + 4 * b2n broken + 8 * b2n s.boot.trial + 16 * copyNum s.boot.copy + 32 * b2n s.boot.fallback

/-- The Hem's ledger state brought up to a committed record (R106, R107). -/
def LedgerStaging.complete (g : LedgerStaging) (slot : Nat) (r : Bytes) : LedgerStaging :=
  { g with
    state := 2, lastSeq := recSeq r, lastDigest := recDigest r, lastSlot := slot
    nextSlot := (slot + r.length / 4096) % ledgerSlots }

/-- Store the staging class, and its bytes at slot 8 of the Hem. DESIGN CHOICE (log 87): the manual gives the class no layout; the model's has its
fields one after another, eight bytes each, the digest 48, and the staged record behind them. -/
def State.setStaging (s : State) (g : LedgerStaging) : State :=
  State.hemPut { s with hem := { s.hem with staging := g } } (hemSlot 8)
    (le 8 g.state ++ le 8 g.target ++ le 8 g.bootCount ++ le 8 g.lastSeq ++ padTo 48 g.lastDigest ++ le 8 g.lastSlot
      ++ le 8 g.nextSlot ++ padTo 4776 g.body)

/-- What the NOR still holds where the Hem has no ledger state: the newest record, if any. DEDUCED (log 13). -/
def adoptNor (nor : Mem) (g : LedgerStaging) : LedgerStaging :=
  match (ledgerRecords nor).getLast? with
  | some (i, r) => { g.complete i r with state := 0, bootCount := recBootCount r, present := true }
  | none => g

/-- LEDGER_BEGIN (R103, R104, R106 phase 1, R107). A part that never committed a record has no ledger to break: GENESIS alone. -/
def execLedgerBegin (s : State) : Res :=
  onlyIf (s.atStage .ledgerBegin) s fun s =>
    let g0 := if s.hem.staging.present then s.hem.staging else adoptNor s.nor s.hem.staging
    let begun := g0.state == 1
    let doneBefore := match committedAt s.nor g0.target with
      | some r => begun && recBootCount r == g0.bootCount
      | none => false
    let g1 := match committedAt s.nor g0.target with
      | some r => if doneBefore then g0.complete g0.target r else g0
      | none => g0
    let prevInc := begun && !doneBefore
    let genesis0 := g1.lastSeq == 0
    let holds := match committedAt s.nor g1.lastSlot with
      | some r => recSeq r == g1.lastSeq && recDigest r == g1.lastDigest
      | none => false
    let broken := !genesis0 && !holds
    let inc := if prevInc then g1.incomplete + 1 else 0
    let target := if prevInc then g1.target else g1.nextSlot
    let bc := g1.bootCount + 1
    let body := s.ledgerBody
      { type := 1, slots := 1, seq := g1.lastSeq + 1, bootCount := bc
        flags := s.ledgerFlags prevInc (genesis0 || broken) broken
        incomplete := inc
        prevDigest := if genesis0 then zeros 48 else g1.lastDigest
        prevAttempt := if prevInc then sha384 g1.body else zeros 48
        entries := [] }
    let s1 := s.setStaging { g1 with
      present := true, state := 1, body := body, target := target, bootCount := bc, incomplete := inc }
    State.toStage { s1 with ledger := { s1.ledger with
        nextSlot := target, state := 1, newestSeq := g1.lastSeq, bootCount := bc
        prevIncomplete := newestFlag s.nor 0, chainBroken := newestFlag s.nor 2 } } .memory

/-- Where a record of `n` slots goes: a two-slot record never starts in the last slot, which is then erased (R99). -/
def placeRecord (nor : Mem) (next n : Nat) : Nat × Mem :=
  if n = 2 ∧ next = ledgerSlots - 1 then (0, norErase nor (slotAddr next) 4096) else (next, nor)

/-- Append a signed record to the ring: erase its slots, program it (R99, R106). -/
def appendRecord (nor : Mem) (slot : Nat) (r : Bytes) : Mem :=
  norWrite (norErase nor (slotAddr slot) r.length) (slotAddr slot) r

/-- Phase 2 of the part-boot append (R106): fill the time, sign, erase, program, commit, advance the Hem. -/
def State.ledgerCommit (s : State) : State :=
  let g := s.hem.staging
  let body := fillTime (qualityNum s.time.quality) s.time.t g.body
  let r := signRecord s.free body
  let s1 := { s with nor := appendRecord s.nor g.target r, free := s.free + 1 }
  let g1 := g.complete g.target r
  let s2 := s1.setStaging g1
  { s2 with ledger := { s2.ledger with
      nextSlot := g1.nextSlot, state := 2, newestSeq := g1.lastSeq
      prevIncomplete := bit (num body 24 4) 0, chainBroken := bit (num body 24 4) 2 } }

/-- Append a type 2 or type 3 record on the manager's ledger (R109 to R111). Its TRIAL bit is the status of the moment, which READY has
cleared: R104 does not say what such a record copies of a trial that succeeded: DESIGN CHOICE (log 80). Its PREV_ATTEMPT is zero, also in a
boot that follows an incomplete one: R107 fills the field in the part-boot record and says nothing of other types: DESIGN CHOICE (log 80). -/
def State.appendManager (s : State) (type slots : Nat) (entries : List Bytes) : State :=
  let g := s.hem.staging
  let place := placeRecord s.nor g.nextSlot slots
  let body := s.ledgerBody
    { type := type, slots := slots, seq := g.lastSeq + 1, bootCount := g.bootCount
      flags := s.ledgerFlags false false false, incomplete := 0, prevDigest := g.lastDigest, prevAttempt := zeros 48
      entries := entries }
  let r := signRecord s.free (fillTime (qualityNum s.time.quality) s.time.t body)
  let s1 := { s with nor := appendRecord place.2 place.1 r, free := s.free + 1 }
  let g1 := g.complete place.1 r
  let s2 := s1.setStaging g1
  { s2 with ledger := { s2.ledger with
      nextSlot := g1.nextSlot, newestSeq := g1.lastSeq } }

/-- The part's own newest committed part-boot record (R110). -/
def State.ownRecord (s : State) : Bytes :=
  match newestOf s.nor 1 with
  | some x => x.2
  | none => []

/-- The STATUS of a record another part sent (R105): verified, invalid, or of another array. -/
def State.recordStatus (s : State) (r : Bytes) : Nat :=
  if !Config.recordGenuine r then 2
  else if sub r 184 16 ≠ paramBytes s.params p_image_array_id 0 then 3 else 0

/-- The entry of a collected record (R105); an absent part has zeros. -/
def Collected.entry (c : Collected) : Bytes :=
  if c.status = 1 then ledgerEntry c.role c.site 1 0 [] else ledgerEntry c.role c.site c.status (c.seq % 2 ^ 32) (recDigest c.record)

/-- The parts a type 2 collection waits for: the peer, then the shelves in site order (R110). -/
def State.expected (s : State) : List (Nat × Nat) := (0, s.peerSite) :: (List.range s.nShelves).map (fun i => (1, i))

/-- Whether every expected part has answered. -/
def State.allCollected (s : State) : Bool :=
  s.expected.all (fun e => s.ledger.collected.any (fun c => c.role == e.1 && c.site == e.2))

/-- What a bundle says of a part that a record names (R23): role, site, STATUS, LEDGER_SEQ. -/
def Collected.audit (c : Collected) : Nat × Nat × Nat × Nat := (c.role, c.site, c.status, c.seq)

/-- A record of this run, by this manager or one before it, names that very record of the part: the part has not reached READY since (R111). -/
def State.namedRec (s : State) (c : Collected) : Bool :=
  ((s.ledger.lastCollected ++ s.ledger.joins).map Collected.audit ++ s.head.md.audit.getD []).any
    (fun (x : Nat × Nat × Nat × Nat) => x.1 == c.role && x.2.1 == c.site && x.2.2.1 != 1 && x.2.2.2 == c.seq)

/-- Append a type 3 record for a part that reached READY while the array is in service, and record it (R23, R111): where `ledger.join_records` is
1, and no record of this run names that boot of the part. -/
def State.appendJoin (s : State) (c : Collected) : State :=
  if s.p p_ledger_join_records = 1 ∧ !s.namedRec c then
    let s1 := s.appendManager 3 1 [c.entry]
    State.record { s1 with ledger := { s1.ledger with joins := s1.ledger.joins ++ [c] } } (.ledgerJoin c.role c.site c.status c.seq)
  else s

/-- Append the type 3 records that waited: for the type 2 record (R112), or for the part's own record (R109). -/
def State.appendLater (s : State) : State :=
  s.ledger.later.foldl State.appendJoin { s with ledger := { s.ledger with later := [] } }

/-- Append the type 2 record from the collection and record it: the manager's own record first, absent parts with STATUS 1 (R23, R110). Type 3
records follow for the parts that restarted while it was open (R112). -/
def State.appendArray (s : State) : State :=
  let own := s.ownRecord
  let mine : Collected := ⟨0, s.site, 0, recSeq own, own⟩
  let all : List Collected := mine :: s.expected.map fun e =>
    match s.ledger.collected.find? (fun c => c.role == e.1 && c.site == e.2) with
    | some c => c
    | none => ⟨e.1, e.2, 1, 0, []⟩
  let s1 := s.appendManager 2 2 (all.map Collected.entry)
  let s2 := { s1 with ledger := { s1.ledger with
      collecting := false, collected := [], arrayDone := true, lastCollected := all, joins := []
      listed := (all.filter (fun (c : Collected) => c.status == 0)).map (fun (c : Collected) => (c.role, c.site)) } }
  (s2.record (.ledgerArray (all.map Collected.audit))).appendLater

/-- The wait for the parts of the open collection is over (R110). -/
def State.collectOver (s : State) : Bool :=
  match s.ledger.since with
  | some t => decide (t + s.p p_ledger_collect_timeout_s * 100000000 ≤ s.time.t)
  | none => false

/-- The manager appends what it may now: the array record, where every expected part has answered or the wait is over, else the join records
that waited. Appends are serialized, so they wait for the part's own record (R109, R110). -/
def State.appendCollected (s : State) : State :=
  if !(s.leads && s.boot.readyDone) then s
  else if s.ledger.collecting then (if s.allCollected || s.collectOver then s.appendArray else s)
  else if s.ledger.arrayDone then s.appendLater
  else s

/-- A record arrives while the collection is open (R110): a part already collected that sends another has restarted (R112). -/
def State.collect (s : State) (c : Collected) : State :=
  if s.ledger.collected.any (fun x => x.role == c.role && x.site == c.site && x.seq != c.seq) then
    { s with ledger := { s.ledger with later := s.ledger.later ++ [c] } }
  else
    let rest := s.ledger.collected.filter (fun x => !(x.role == c.role && x.site == c.site))
    State.appendCollected { s with ledger := { s.ledger with collected := rest ++ [c] } }

/-- The manager receives a record: into the open collection, or, of a part that newly reached READY (`new`), for a type 3 record (R110 to
R112). -/
def State.takeRecord (s : State) (role site : Nat) (new : Bool) (r : Bytes) : State :=
  let c : Collected := ⟨role, site, s.recordStatus r, recSeq r, r⟩
  if s.ledger.collecting then s.collect c
  else if s.ledger.arrayDone && new then
    (if s.boot.readyDone then s.appendJoin c else { s with ledger := { s.ledger with later := s.ledger.later ++ [c] } })
  else s

/-- Committed records from a sequence on, at most `n` (R115), and whether older ones were lost (GAP, R559). -/
def State.recordsFrom (s : State) (seq n : Nat) : Nat × List Bytes :=
  let rs := ((ledgerRecords s.nor).map (·.2)).filter (fun r => decide (seq ≤ recSeq r))
  let gap := match rs with
    | r :: _ => b2n (decide (seq < recSeq r))
    | [] => 0
  (gap, rs.take n)

/-- LEDGER_STATUS as a register image (R117). -/
def LedgerSt.status (l : LedgerSt) : Nat :=
  l.nextSlot + 2 ^ 14 * l.state + 2 ^ 16 * b2n l.prevIncomplete + 2 ^ 17 * b2n l.chainBroken

end Sys2Proof.Machine
end

