-- ==== Sys2Proof/Machine/Mgmt.lean ====
section
/-! DEFINITION. Management messages that concern the part alone (R558 to R560, R564) and the SPDM responder (R113, R114). -/

namespace Sys2Proof.Machine

/-- Answer a management message (R558). -/
def State.respond (s : State) (cmd tag : Nat) (completion : Nat) (status : Option Nat) (body : Bytes) : State :=
  s.emit (.mgmt cmd tag completion status body)

/-- Whether a command is accepted in the part's boot state (R560): a part held by R4 takes only STATUS_GET, one in recovery
mode only STATUS_GET, IMAGE_WRITE, OTP_KEY and RESTART. -/
def State.mgmtAccepts (s : State) (cmd : Nat) : Bool :=
  if !s.strapsOk then cmd == 1
  else if s.boot.stage == .recoveryMode then cmd == 1 || cmd == 7 || cmd == 9 || cmd == 10
  else true

/-- A management command on a running part: COMPLETION 3 where R560 refuses it, else its effect. -/
def State.mgmtCmd (s : State) (cmd tag : Nat) (f : State → State) : Res :=
  onlyIf s.live s (fun s => if s.mgmtAccepts cmd then f s else s.respond cmd tag 3 none [])

/-- BOOT_STATUS as a register image (R93). -/
def BootSt.status (b : BootSt) : Nat :=
  stageNum b.stage + 16 * copyNum b.copy + 32 * b2n b.trial + 2 ^ 8 * b.copyASt + 2 ^ 32 * b.copyBSt

/-- STATUS_GET (R559): BOOT_STATUS, straps, IMAGE_SEQ, time state; the widths in the body are the model's (log 14). -/
def execStatusGet (tag : Byte) (s : State) : Res :=
  s.mgmtCmd 1 tag.toNat fun s => s.respond 1 tag.toNat 0 none
    (le 8 s.boot.status ++ le 1 s.pins.roleSel ++ le 1 s.pins.siteId ++ le 4 s.boot.imageSeq
      ++ le 1 (timeStateNum s.time.state))

/-- ALARM_READ (R559). -/
def execAlarmRead (tag : Byte) (first : Nat) (count : Byte) (ack : Bool) (s : State) : Res :=
  s.mgmtCmd 2 tag.toNat fun s =>
    if count.toNat = 0 ∨ 32 < count.toNat then s.respond 2 tag.toNat 2 none []
    else
      let es := (s.ev.alarms.drop first).take count.toNat
      let s1 := s.respond 2 tag.toNat 0 none (es.flatMap AlEntry.bytes)
      if ack then
        { s1 with ev := { s1.ev with alarms := s1.ev.alarms.map (fun a =>
            if es.any (fun e => e.code == a.code && e.source == a.source) then { a with isNew := false } else a) } }
      else s1

/-- ALARM_ACK (R550, R559). -/
def execAlarmAck (tag : Byte) (code source : Nat) (s : State) : Res :=
  s.mgmtCmd 3 tag.toNat fun s => State.respond { s with ev := s.ev.ack code source } 3 tag.toNat 0 none []

/-- EVENT_READ (R559): records from the first retained SEQ at or above the one named. -/
def execEventRead (tag : Byte) (firstSeq : Nat) (count : Byte) (mark : Bool) (s : State) : Res :=
  s.mgmtCmd 4 tag.toNat fun s =>
    if count.toNat = 0 ∨ 64 < count.toNat then s.respond 4 tag.toNat 2 none []
    else
      let rs := (s.ev.ring.filter (fun r => decide (firstSeq ≤ r.seq))).take count.toNat
      let s1 := s.respond 4 tag.toNat 0 none (rs.flatMap EvRec.bytes)
      if mark then { s1 with ev := s1.ev.setMark (firstSeq - 1) } else s1

/-- SUMMARY_READ (R553, R559). -/
def execSummaryRead (tag : Byte) (first : Nat) (count : Byte) (s : State) : Res :=
  s.mgmtCmd 5 tag.toNat fun s =>
    if count.toNat = 0 ∨ 16 < count.toNat then s.respond 5 tag.toNat 2 none []
    else s.respond 5 tag.toNat 0 none ((List.range count.toNat).flatMap (fun i => s.ev.sumBytes (codeOfIndex (first + i))))

/-- LEDGER_READ (R115, R559). -/
def execLedgerRead (tag : Byte) (seq : Nat) (count : Byte) (s : State) : Res :=
  s.mgmtCmd 6 tag.toNat fun s =>
    if count.toNat = 0 ∨ 8 < count.toNat then s.respond 6 tag.toNat 2 none []
    else
      let r := s.recordsFrom seq count.toNat
      s.respond 6 tag.toNat 0 none (le 1 r.2.length ++ le 1 r.1 ++ zeros 6 ++ r.2.flatten)

/-- IMAGE_WRITE (R67, R83, R559, R560): refused for the booted copy outside recovery mode; with FINAL the STATUS is that of
checks 1 to 7 of R78. -/
def execImageWrite (tag : Byte) (copy : Copy) (final : Bool) (off : Nat) (data : Bytes) (s : State) : Res :=
  s.mgmtCmd 7 tag.toNat fun s =>
    if s.boot.stage ≠ .recoveryMode ∧ s.boot.copy = copy then s.respond 7 tag.toNat 3 none []
    else if off % 4096 ≠ 0 ∨ 4096 < data.length ∨ (data.length < 4096 ∧ ¬ final) ∨ copyLen < off + data.length then
      s.respond 7 tag.toNat 2 none []
    else
      let base := copyBase copy + off
      let s1 := { s with nor := norWrite (norErase s.nor base 4096) base data }
      s1.respond 7 tag.toNat 0 (if final then some (imageStatus (copyRead s1.nor copy) s1.otp s1.isHead) else none) []

/-- TIME_SET (R33, R559, R560): refused on a shelf and on a head that holds its second number. -/
def execTimeSet (tag : Byte) (second : Nat) (s : State) : Res :=
  s.mgmtCmd 8 tag.toNat fun s =>
    if s.isShelf || s.time.second.isSome then s.respond 8 tag.toNat 3 none []
    else State.respond { s with time := { s.time with written := some second } } 8 tag.toNat 0 none []

/-- An owner key slot action (R75, R559, R560): in recovery mode and with VPP_OTP only. A slot once programmed or revoked is
not programmed again: DESIGN CHOICE (log 15). -/
def State.otpKey (s : State) (tag : Nat) (slot : Nat) (vpp : Bool) (ok : OtpSlot → Bool) (f : OtpSlot → OtpSlot) : State :=
  if s.boot.stage ≠ .recoveryMode ∨ ¬ vpp then s.respond 10 tag 3 none []
  else if 4 ≤ slot then s.respond 10 tag 2 none []
  else if ok (s.otp.owner.getD slot {}) then
    State.respond { s with otp := { s.otp with owner := s.otp.owner.modify slot f } } 10 tag 0 none []
  else s.respond 10 tag 3 none []

/-- OTP_KEY_PROGRAM (R75, R314): the key digest and the wrapping key. -/
def execOtpKeyProgram (tag slot : Byte) (digest wrapKey : Bytes) (vpp : Bool) (s : State) : Res :=
  s.mgmtCmd 10 tag.toNat fun s =>
    s.otpKey tag.toNat slot.toNat vpp (fun o => o.st == 0) (fun _ => ⟨1, padTo 48 digest, padTo 32 wrapKey⟩)

/-- OTP_KEY_REVOKE (R75): any slot, a blank one too, which then is never programmed: DESIGN CHOICE (log 15). -/
def execOtpKeyRevoke (tag slot : Byte) (vpp : Bool) (s : State) : Res :=
  s.mgmtCmd 10 tag.toNat fun s => s.otpKey tag.toNat slot.toNat vpp (fun _ => true) (fun o => { o with st := 2 })

/-- MCTP_UNKNOWN_COMMAND (R558): COMPLETION 1 for a number R559 does not list; in recovery mode and on a part held by R4
every command but the accepted ones is refused with 3 (R560). -/
def execMctpUnknownCommand (cmd tag : Byte) (s : State) : Res :=
  onlyIf (s.live && (cmd == 0 || decide (0x0C < cmd.toNat))) s fun s =>
    s.respond cmd.toNat tag.toNat (if s.mgmtAccepts cmd.toNat then 1 else 3) none []

/-- GET_VENDOR_DEFINED_MESSAGE_SUPPORT (R558): a part held by R4 answers nothing but STATUS_GET. -/
def execGetVendorDefinedMessageSupport (s : State) : Res :=
  onlyIf (s.live && s.strapsOk) s (fun s => s.emit (.mctpVendor (be 4 Config.ianaNumber)))

/-- SMBUS_ALERT_RESPONSE (R564): answered while ALERT_N is asserted. -/
def execSmbusAlertResponse (s : State) : Res :=
  onlyIf (s.live && s.strapsOk && s.alertAsserted) s (fun s => s.emit (.smbusAlert (s.p p_mgmt_smbus_addr)))

/-! ### SPDM -/

/-- The responder runs (R113). -/
def State.spdmUp (s : State) : Bool := s.mgmtUp && s.p p_attest_spdm_enable == 1

/-- A request that needs the negotiation of SPDM 1.3 first; without it the answer is UnexpectedRequest (code 4): PRESUMED
(log 16). -/
def State.spdmReq (s : State) (need : Bool) (f : State → State) : Res :=
  onlyIf s.spdmUp s (fun s => if need then f s else s.emit (.spdmError 4))

/-- SPDM_GET_VERSION (R113): version 1.3. -/
def execSpdmGetVersion (s : State) : Res :=
  onlyIf s.spdmUp s fun s =>
    State.emit { s with mgmt := { s.mgmt with spdmVersion := true, spdmCaps := false, spdmAlgs := false } }
      (.spdm 0x84 [0x00, 0x13] [])

/-- SPDM_GET_CAPABILITIES (R113): certificates, challenge, and measurements with signature. -/
def execSpdmGetCapabilities (s : State) : Res :=
  s.spdmReq s.mgmt.spdmVersion fun s =>
    State.emit { s with mgmt := { s.mgmt with spdmCaps := true } } (.spdm 0xE1 (le 4 0x16) [])

/-- SPDM_NEGOTIATE_ALGORITHMS (R113): ECDSA P-384 (bit 7) with SHA-384 (bit 1). -/
def execSpdmNegotiateAlgorithms (s : State) : Res :=
  s.spdmReq s.mgmt.spdmCaps fun s =>
    State.emit { s with mgmt := { s.mgmt with spdmAlgs := true } } (.spdm 0xE3 (le 4 0x80 ++ le 4 0x02) [])

/-- The part's leaf certificates (R97, R98), as they stand in the certificate area of OTP: each carries DEVICE_ID, in hexadecimal, as its
subject serial number (log 81). -/
def leafEc : Bytes := Config.leafEcHead ++ hexText deviceId ++ Config.leafEcTail
def leafMldsa : Bytes := Config.leafMldsaHead ++ hexText deviceId ++ Config.leafMldsaTail

/-- The certificate area of OTP (R97): 12 KiB. -/
def certArea : Bytes := padTo 12288 (leafEc ++ leafMldsa)

/-- The leaf certificates as read from that area. -/
def areaEc : Bytes := certArea.take leafEc.length
def areaMldsa : Bytes := (certArea.drop leafEc.length).take leafMldsa.length

/-- The two chains (R97): root and intermediate out of boot ROM, then the part's leaf. -/
def chainEc : Bytes := Config.rootEc ++ Config.caEc ++ areaEc
def chainMldsa : Bytes := Config.rootMldsa ++ Config.caMldsa ++ areaMldsa

/-- The chain of slot 0 as SPDM carries it (R113): its length, two zero bytes, the digest of the root, the certificates. PRESUMED, from SPDM
1.3 (log 16). -/
def spdmChain : Bytes := le 2 (52 + chainEc.length) ++ zeros 2 ++ sha384 Config.rootEc ++ chainEc

/-- SPDM_GET_DIGESTS (R113): slot 0 only. -/
def execSpdmGetDigests (s : State) : Res :=
  s.spdmReq s.mgmt.spdmAlgs (fun s => s.emit (.spdm 0x81 (le 1 1 ++ sha384 spdmChain) []))

/-- SPDM_GET_CERTIFICATE (R113): a piece of the chain of slot 0; another slot is refused as InvalidRequest (code 1). -/
def execSpdmGetCertificate (slot : Byte) (off len : Nat) (s : State) : Res :=
  s.spdmReq s.mgmt.spdmAlgs fun s =>
    if slot ≠ 0 then s.emit (.spdmError 1) else s.emit (.spdm 0x82 (sub spdmChain off len) [])

/-- SPDM_CHALLENGE (R96, R113): the chain's digest, the responder's own nonce of 32 bytes and the requester's, signed by the ledger
signer. -/
def execSpdmChallenge (nonce : Bytes) (s : State) : Res :=
  s.spdmReq s.mgmt.spdmAlgs fun s =>
    let r := s.takeFreeBytes 32
    let body := sha384 spdmChain ++ r.1 ++ nonce
    State.emit { r.2 with free := r.2.free + 1 } (.spdm 0x83 body (Config.spdmSign r.2.free body))

/-- A measurement block of the DMTF specification: index, specification 1, size, then the value with its type and size; bit 7 of the type
marks a raw bit stream. The type numbers are PRESUMED, from SPDM 1.3 (log 16). -/
def dmtfBlock (index type : Nat) (v : Bytes) : Bytes := le 1 index ++ le 1 1 ++ le 2 (v.length + 3) ++ le 1 type ++ le 2 v.length ++ v

/-- A record block: raw, or its digest where `attest.raw_records` is 0 (R114). -/
def State.recBlock (s : State) (index : Nat) (r : Bytes) : Nat × Bytes :=
  (index, if s.p p_attest_raw_records = 1 then dmtfBlock index 0x83 r else dmtfBlock index 0x03 (sha384 r))

/-- The measurement blocks present (R114), by index. -/
def State.measBlocks (s : State) : List (Nat × Bytes) :=
  let m := s.ledger.meas
  ([(1, 0, m.rom), (2, 1, m.fw), (3, 3, m.profile), (4, 3, m.param), (5, 3, m.keyEnv), (6, 3, m.ystmt)] : List (Nat × Nat × Bytes)).map
    (fun x => (x.1, dmtfBlock x.1 x.2.1 x.2.2))
  ++ (match newestOf s.nor 1 with
      | some x => [s.recBlock 7 x.2]
      | none => [])
  ++ (match newestOf s.nor 2 with
      | some x => if s.seam.manager then [s.recBlock 8 x.2] else []
      | none => [])

/-- SPDM_GET_MEASUREMENTS (R113, R114): index 0 asks for the count, 0xFF for all; the blocks, the responder's own nonce of 32 bytes, and,
where asked for, a signature over the requester's nonce and them. -/
def execSpdmGetMeasurements (index : Byte) (nonce : Bytes) (signed : Bool) (s : State) : Res :=
  s.spdmReq s.mgmt.spdmAlgs fun s =>
    let bs := s.measBlocks
    let picked := if index = 0xFF then bs else bs.filter (fun b => b.1 == index.toNat)
    if index ≠ 0 ∧ picked.isEmpty then s.emit (.spdmError 1)
    else
      let r := s.takeFreeBytes 32
      let body := (if index = 0 then le 1 bs.length else picked.flatMap (·.2)) ++ r.1
      State.emit { r.2 with free := r.2.free + 1 } (.spdm 0xE0 body (if signed then Config.spdmSign r.2.free (nonce ++ body) else []))

end Sys2Proof.Machine
end

