-- ==== Sys2Proof/Machine/Digest.lean ====
section
/-! DEFINITION. The digest engine (R243 to R250): DIGEST and SLOT_LOAD descriptors, their checks, results and preemption. -/

namespace Sys2Proof.Machine

/-! ### Algorithms -/

/-- The hash kind of an ALG value: 1 SHA-256, 2 SHA-384, 3 SHA-512 (R245). -/
def algKind (alg : Nat) : ShaKind := if alg = 1 then sha32 else sha64

/-- Initial state, block size and result length of an ALG value. -/
def algInit (alg : Nat) : List Nat := if alg = 1 then sha256H0 else if alg = 2 then sha384H0 else sha512H0
def algBlock (alg : Nat) : Nat := if alg = 1 then 64 else 128
def algLen (alg : Nat) : Nat := if alg = 1 then 32 else if alg = 2 then 48 else 64

/-- A key extended to a block and combined with a pad byte (FIPS 198-1); keys of a slot are at most one block long. -/
def hmacPad (alg : Nat) (key : Bytes) (p : Byte) : Bytes := (padTo (algBlock alg) key).map (· ^^^ p)

/-- A slot's inner state (R244). -/
def HmacSlot.inner (k : HmacSlot) : List Nat := shaBlock (algKind k.alg) (algInit k.alg) (hmacPad k.alg k.key 0x36)

/-- The outer step from the inner result (R244). -/
def HmacSlot.outer (k : HmacSlot) (inner : Bytes) : Bytes :=
  let kind := algKind k.alg
  let st := shaBlock kind (algInit k.alg) (hmacPad k.alg k.key 0x5C)
  let lenB := kind.w / 4
  let z := algBlock k.alg - (inner.length + 1 + lenB)
  let blk := inner ++ [0x80] ++ zeros z ++ be lenB (8 * (algBlock k.alg + inner.length))
  (shaOut kind (shaBlock kind st blk)).take (algLen k.alg)

/-! ### Descriptor fields (R245) -/

structure DigestDesc where
  alg : Nat
  hmac : Bool
  slot : Nat
  prio : Nat
  init : Bool
  final : Bool
  compare : Bool
  stream : Bool
  tails : Nat
  src : Nat
  len : Nat
  tail : Nat
  ctx : Nat
  result : Nat

/-- Read the fields of a descriptor. A MODE other than 1 is a hash: DESIGN CHOICE for 2 to 255, which R245 does not list (log 113). -/
def digestDesc (d : Bytes) : DigestDesc :=
  let f := num d 20 2
  { alg := num d 16 1, hmac := num d 17 1 == 1, slot := num d 18 1, prio := num d 19 1 % 4, init := bit f 0, final := bit f 1
    compare := bit f 2, stream := bit f 3, tails := num d 22 1, src := num d 24 8, len := num d 32 4, tail := num d 40 8
    ctx := num d 48 8, result := num d 56 8 }

/-- ALG is one the engine computes. -/
def DigestDesc.known (x : DigestDesc) : Bool := decide (1 ≤ x.alg ∧ x.alg ≤ 3)

/-- The source and tail are whole blocks (R244). -/
def DigestDesc.whole (x : DigestDesc) : Bool := x.len % algBlock x.alg == 0 && decide (x.tails ≤ 2)

/-- The engine's own checks at fetch (R130, R250). -/
def State.digestCheck (s : State) (d : Bytes) : Nat :=
  let op := num d 0 2
  let x := digestDesc d
  if op ≠ 1 ∧ op ≠ 2 then ST_ENGINE_HEADER
  else if op = 1 ∧ x.hmac then
    if s.digest.cleared.contains x.slot then ST_ENGINE_CANCELLED
    else if SMap.has s.digest.slots x.slot then 0 else ST_DIGEST_SLOT_EMPTY
  else 0

/-- The ranges a DIGEST names (R126). -/
def digestRanges (d : Bytes) : List (Nat × Nat) :=
  let x := digestDesc d
  if num d 0 2 = 2 then []
  else
    (if x.stream then [] else [(x.src, x.len)]) ++ (if x.tails = 0 then [] else [(x.tail, x.tails * algBlock x.alg)])
      ++ (if x.ctx = 0 then [] else [(x.ctx, 128)]) ++ (if x.final then [(x.result, algLen x.alg)] else [])

/-! ### Context areas (R247) -/

/-- The 128 bytes of a context area. -/
def ctxBytes (x : DigestDesc) (flags done : Nat) (st : List Nat) (remain tailDone : Nat) : Bytes :=
  [0x44, 0x43, 0x58, 0x31] ++ le 1 x.alg ++ le 1 (b2n x.hmac) ++ le 1 x.slot ++ le 1 flags ++ le 8 done
    ++ padTo 64 (st.flatMap (le ((algKind x.alg).w / 8))) ++ le 4 remain ++ le 1 tailDone ++ zeros 43

/-- The state words of a context area. -/
def ctxState (alg : Nat) (b : Bytes) : List Nat :=
  let n := (algKind alg).w / 8
  (List.range 8).map (fun i => num b (16 + n * i) n)

/-! ### Running a request -/

/-- Where a request starts: state, bytes done since INIT, source bytes and tail blocks already processed; with the status of a failed read.
Without INIT and with CTX 0 the state is read at address 0: DESIGN CHOICE (log 113). -/
def State.digestStart (s : State) (n : Nat) (x : DigestDesc) : Nat × (List Nat × Nat × Nat × Nat) × State :=
  match SMap.get s.digest.saved n with
  | some v => (0, v, s)
  | none =>
    if x.init then
      match (if x.hmac then SMap.get s.digest.bound n else none) with
      | some k => (0, (k.inner, algBlock x.alg, 0, 0), s)
      | none => (0, (algInit x.alg, 0, 0, 0), s)
    else
      let r := s.dmaRead x.ctx 128
      (r.1, (ctxState x.alg r.2.1, num r.2.1 8 8, 0, 0), r.2.2)

/-- The result of a finished computation. -/
def State.digestResult (s : State) (n : Nat) (x : DigestDesc) (st : List Nat) : Bytes :=
  let inner := (shaOut (algKind x.alg) st).take (algLen x.alg)
  match (if x.hmac then SMap.get s.digest.bound n else none) with
  | some k => k.outer inner
  | none => inner

/-- Forget what a request held. -/
def State.digestDone (s : State) (n : Nat) : State :=
  { s with digest := { s.digest with bound := SMap.del s.digest.bound n, saved := SMap.del s.digest.saved n } }

/-- Deliver a result: write it, or compare it (R246). -/
def State.digestDeliver (s : State) (n : Nat) (x : DigestDesc) (res : Bytes) (consumed st0 : Nat) : State :=
  if x.compare then
    let r := s.dmaRead x.result (algLen x.alg)
    if r.1 ≠ 0 then r.2.2.endJob n r.1 0 0
    else if r.2.1 = res then r.2.2.endJob n st0 consumed 0 else r.2.2.endJob n ST_DIGEST_MISMATCH consumed 0
  else (s.dmaWrite x.result res).endJob n st0 consumed res.length

/-- Statuses a DIGEST that runs can return (R270). -/
def digestStatuses : List Nat := [0, ST_DIGEST_LEN_SHORT, ST_DIGEST_LEN_LONG, ST_DIGEST_MISMATCH]

/-- A use that R587 leaves unpredictable, or an ALG the manual gives no meaning: free status, result, context and counts (R586, log 63). -/
def State.digestFree (s : State) (n : Nat) (x : DigestDesc) : State :=
  let f := s.takeFreeBytes 192
  let c := f.2.takeFree
  let s1 := if x.final && !x.compare then c.2.dmaWrite x.result (f.1.take (algLen x.alg)) else c.2
  let s2 := if !x.final && x.ctx != 0 then s1.dmaWrite x.ctx (f.1.drop 64) else s1
  let st := s2.takeStatus digestStatuses
  let p := st.2.takeFree
  p.2.endJob n st.1 (c.1 % 2 ^ 32) (p.1 % 2 ^ 32)

/-- A DIGEST request with its source bytes: `data` is what the port delivered where STREAM is set (R246, R248). -/
def State.digestRun (s : State) (n : Nat) (x : DigestDesc) (data : Bytes) : State :=
  let blk := algBlock x.alg
  let kind := algKind x.alg
  let rd := if x.stream then (0, data.take x.len, s) else s.dmaRead x.src x.len
  let st0 := rd.2.2.digestStart n x
  let tl := st0.2.2.dmaRead x.tail (x.tails * blk)
  if rd.1 ≠ 0 then rd.2.2.endJob n rd.1 0 0
  else if st0.1 ≠ 0 then st0.2.2.endJob n st0.1 0 0
  else if x.stream && decide (data.length < x.len) then
    let whole := data.length / blk * blk
    let st := shaAbsorb kind st0.2.1.1 (data.take whole)
    let s1 := if x.ctx = 0 then st0.2.2
      else st0.2.2.dmaWrite x.ctx (ctxBytes x 2 (st0.2.1.2.1 + whole) st 0 0)
    s1.endJob n ST_DIGEST_LEN_SHORT whole 0
  else if tl.1 ≠ 0 then tl.2.2.endJob n tl.1 0 0
  else
    let st1 := shaAbsorb kind st0.2.1.1 (rd.2.1.drop st0.2.1.2.2.1)
    let st2 := shaAbsorb kind st1 (tl.2.1.drop (st0.2.1.2.2.2 * blk))
    let used := x.len + x.tails * blk
    let status := if x.stream && decide (x.len < data.length) then ST_DIGEST_LEN_LONG else 0
    if x.final then tl.2.2.digestDeliver n x (tl.2.2.digestResult n x st2) used status
    else
      let done := st0.2.1.2.1 + (x.len - st0.2.1.2.2.1) + (x.tails - st0.2.1.2.2.2) * blk
      let s1 := if x.ctx = 0 then tl.2.2 else tl.2.2.dmaWrite x.ctx (ctxBytes x 0 done st2 0 x.tails)
      s1.endJob n status used 0

/-- DIGEST (R246, R248): a request on a pipe runs to its end; `data` is what its input stream delivers where STREAM is set. An
ALG other than the hash its HMAC slot serves has free results: DESIGN CHOICE (log 113). -/
def execDigest (n : Nat) (data : Bytes) (s : State) : Res :=
  s.onJob n 3 [1] (fun j s =>
    let x := digestDesc j.desc
    let ok := x.known && x.whole
      && (match SMap.get s.digest.bound n with | some k => !x.hmac || k.alg == x.alg | none => true)
    (if ok then s.digestRun n x data else s.digestFree n x).digestDone n)

/-- A key slot's 64 bytes: zeros where it is EMPTY (R308). -/
def State.keyBits (s : State) (slot : Nat) : Bytes := padTo 64 (SMap.getD s.cipher.slots slot {}).key

/-- The content a SLOT_LOAD gives its HMAC slot (R250): none clears it; a length above 64 names no key bytes, so they are free. -/
def State.slotLoadTo (s : State) (d : Bytes) : Option HmacSlot × State :=
  let x := digestDesc d
  if x.len = 0 then (none, s)
  else if x.len ≤ 64 then (some ⟨x.alg, (s.keyBits (x.src % 65536)).take x.len⟩, s)
  else
    let f := s.takeFreeBytes 64
    (some ⟨x.alg, f.1⟩, f.2)

/-- SLOT_LOAD (R250): the load or clear takes effect at the next boundary. -/
def execSlotLoad (n : Nat) (s : State) : Res :=
  s.onJob n 3 [2] (fun j s =>
    let r := s.slotLoadTo j.desc
    State.endJob { r.2 with digest := { r.2.digest with
        changes := r.2.digest.changes ++ [⟨num j.desc 18 1, r.1⟩] } } n 0 0 0)

/-- Phase 0: loads and clears take effect, in order (R250). -/
def DigestSt.boundary (g : DigestSt) : DigestSt :=
  g.changes.foldl (fun acc c =>
    match c.content with
    | some k => { acc with slots := SMap.set acc.slots c.slot k, cleared := acc.cleared.filter (· != c.slot) }
    | none => { acc with slots := SMap.del acc.slots c.slot, cleared := insNat acc.cleared c.slot })
    { g with changes := [] }

/-- Bind a fetched request to the slot content it uses (R250). -/
def State.digestBind (s : State) (n : Nat) (d : Bytes) : State :=
  let x := digestDesc d
  match SMap.get s.digest.slots x.slot with
  | some k => if num d 0 2 = 1 ∧ x.hmac then { s with digest := { s.digest with bound := SMap.set s.digest.bound n k } } else s
  | none => s

/-- A request may be preempted: CTX not 0 and no STREAM (R249). -/
def digestPreemptible (d : Bytes) : Bool :=
  num d 0 2 == 1 && (digestDesc d).ctx != 0 && !(digestDesc d).stream

/-- Preempt a running request at a block boundary of its source or its tail (R249); how far it has come is free. Its context is written with
PREEMPTED set. -/
def State.digestPreempt (s : State) (n unit : Nat) (d : Bytes) : State :=
  let x := digestDesc d
  let blk := algBlock x.alg
  let f := s.takeFree
  let st0 := f.2.digestStart n x
  let from' := st0.2.1.2.2.1
  let tail0 := st0.2.1.2.2.2
  let left := (x.len - from') / blk
  let more := f.1 % (left + (x.tails - tail0) + 1)
  let upTo := from' + min more left * blk
  let tails := tail0 + (more - left)
  let rd := st0.2.2.dmaRead x.src x.len
  let tl := rd.2.2.dmaRead x.tail (x.tails * blk)
  let st := shaAbsorb (algKind x.alg) (shaAbsorb (algKind x.alg) st0.2.1.1 ((rd.2.1.take upTo).drop from'))
    ((tl.2.1.take (tails * blk)).drop (tail0 * blk))
  let done := st0.2.1.2.1 + more * blk
  let s1 := { tl.2.2 with digest := { tl.2.2.digest with saved := SMap.set tl.2.2.digest.saved n (st, done, upTo, tails) } }
  ((s1.dmaWrite x.ctx (ctxBytes x 1 done st (x.len - upTo) tails)).setJob n (.preempted unit)).event EV_DIGEST_PREEMPT (srcOf 0 0)

end Sys2Proof.Machine
end

