-- ==== Sys2Proof/Machine/Press.lean ====
section
/-! DEFINITION. The Press (R272 to R292): COMPRESS, RESUME, DECOMPRESS, CHANNEL_RESET, lanes and their faults. -/

namespace Sys2Proof.Machine

/-- Fields of a Press descriptor (R277). -/
def pressClass (d : Bytes) : Nat := num d 17 1
def pressSrcLen (d : Bytes) : Nat := num d 20 4
def pressSrc (d : Bytes) : Nat := num d 24 8
def pressDst (d : Bytes) : Nat := num d 32 8
def pressDstLen (d : Bytes) : Nat := num d 40 4
def pressExpect (d : Bytes) : Nat := num d 44 4

/-- Field checks (R273, R279). -/
def pressCheck (inst : Nat) (d : Bytes) : Nat :=
  let op := num d 0 2
  let bad :=
    (if inst = 0 then !(op == 1 || op == 2 || op == 4) else op != 3)
      || decide (1 < pressClass d)
      || (op == 1 && decide (pressSrcLen d < 1 ∨ 65536 < pressSrcLen d))
      || ((op == 1 || op == 2) && decide (pressDstLen d < 256))
      || (((op == 1 && pressClass d == 0) || op == 2) && decide (248 ≤ pressCh d))
      || (op == 3 && decide (pressSrcLen d < 16))
  if bad then ST_PRESS_FIELD else 0

/-- Ranges named (R126). -/
def pressRanges (d : Bytes) : List (Nat × Nat) :=
  let op := num d 0 2
  if op = 1 ∨ op = 3 then [(pressSrc d, pressSrcLen d), (pressDst d, pressDstLen d)]
  else if op = 2 then [(pressDst d, pressDstLen d)]
  else []

/-- Forget a channel's state. -/
def State.pressForget (s : State) (ch : Nat) : State :=
  { s with press := { s.press with seqs := SMap.del s.press.seqs ch } }

/-- Run a Press operation on a running job; the states that wait for the job's end go with it (R276). -/
def State.onPress (s : State) (n : Nat) (ops : List Nat) (f : Job → State → State) : Res :=
  s.onJob n 5 ops (fun j s => (f j s).pressSettle)

/-- A COMPRESS discards the state its channel holds, with an event (R288). -/
def State.pressDiscard (s : State) (d : Bytes) : State :=
  if SMap.has s.press.seqs (pressCh d) then (s.pressForget (pressCh d)).event EV_PRESS_STATE_DISCARDED (srcOf 0 0) else s

/-- A channel is SUSPENDED: it holds a state, and no job of it runs (R286, R294). -/
def State.suspended (s : State) (ch : Nat) : Bool :=
  SMap.has s.press.seqs ch && !(s.jobsOf 5 0).any (fun e => e.2.isRunning && pressCh e.2.desc == ch)

/-- A COMPRESS fetched on a SUSPENDED channel discards its state (R288). -/
def State.pressFetched (s : State) (d : Bytes) : State :=
  if num d 0 2 = 1 ∧ s.suspended (pressCh d) then s.pressDiscard d else s

/-- The whole tokens that fit in a space, and the rest. -/
def fitTokens : Nat → List Bytes → Bytes → Bytes × List Bytes
  | _, [], acc => (acc, [])
  | room, t :: ts, acc => if t.length ≤ room then fitTokens (room - t.length) ts (acc ++ t) else (acc, t :: ts)

/-- Source bytes that a token covers (R281). -/
def tokenCovers (tk : Bytes) : Nat :=
  match tk with
  | [] => 0
  | b :: rest =>
    let t := b.toNat
    if t < 0x80 then t + 1 else (tokenMatch t (rest.getD 0 0).toNat (rest.getD 1 0).toNat (rest.getD 2 0).toNat).1

/-- Source bytes that tokens cover. -/
def tokensCover (ts : List Bytes) : Nat := ts.foldl (fun a t => a + tokenCovers t) 0

/-- Whether source and destination share a byte: output and counts are then free (R587). -/
def pressWild (d : Bytes) : Bool := overlap (pressSrc d) (pressSrcLen d) (pressDst d) (pressDstLen d)

/-- Statuses a Press job that runs can return (R295). -/
def pressStatuses : List Nat :=
  [0, ST_PRESS_LIMIT, ST_PRESS_OUT_FULL, ST_PRESS_OVERFLOW, ST_PRESS_NO_GAIN, ST_PRESS_FORMAT, ST_PRESS_CHECK, ST_PRESS_LEN_SHORT,
   ST_PRESS_LEN_LONG]

/-- Free bytes over a destination, a free status and free counts (R586, R587). -/
def State.pressFree (s : State) (n dst len : Nat) : State :=
  let f := s.takeFreeBytes len
  let c := f.2.takeFree
  let p := c.2.takeFree
  let st := p.2.takeStatus pressStatuses
  (st.2.dmaWrite dst f.1).endJob n st.1 (c.1 % 2 ^ 32) (p.1 % 2 ^ 32)

/-- Free bytes over a destination, with a status and counts (R285, R289, R290). -/
def State.pressSpoil (s : State) (n dst len status consumed : Nat) : State :=
  let f := s.takeFreeBytes len
  (f.2.dmaWrite dst f.1).endJob n status consumed 0

/-- A data-class COMPRESS (R285). -/
def State.compressData (s : State) (n : Nat) (d src : Bytes) : State :=
  let out := pad64 (pf1Stream false src)
  if pressDstLen d ≤ out.length then s.pressSpoil n (pressDst d) (pressDstLen d) ST_PRESS_NO_GAIN src.length
  else (s.dmaWrite (pressDst d) out).endJob n 0 src.length out.length

/-- A channel's state lasts while PD20 is on (R276): of a job that ends after it went off, until the jobs fetched by then are done. -/
def State.keepState (s : State) (ch : Nat) : State := if s.pdOn 20 then s else s.pressDrop [ch]

/-- A stream-class COMPRESS (R286, R289). -/
def State.compressStream (s : State) (n : Nat) (d src : Bytes) : State :=
  let ts := pf1Tokens true src
  let head := pf1Header true src ts.flatten.length
  let fit := fitTokens (pressDstLen d - 16) ts []
  if fit.2.isEmpty then (s.dmaWrite (pressDst d) (head ++ fit.1)).endJob n 0 src.length (16 + fit.1.length)
  else if 248 ≤ pressCh d then s.pressSpoil n (pressDst d) (pressDstLen d) ST_PRESS_OVERFLOW 0
  else
    let cov := tokensCover ts - tokensCover fit.2
    let q : PressSeq := ⟨pressSrc d, pressSrcLen d, pressDst d, fit.2, cov, head⟩
    let s1 := State.keepState { s with press := { s.press with seqs := SMap.set s.press.seqs (pressCh d) q } } (pressCh d)
    (s1.dmaWrite (pressDst d) (zeros 16 ++ fit.1)).endJob n ST_PRESS_OUT_FULL cov (16 + fit.1.length)

/-- COMPRESS (R284 to R286, R289). A state that an earlier job of the channel left after this one was fetched is discarded as it starts: DEDUCED
(log 100). -/
def execCompress (n : Nat) (s : State) : Res :=
  s.onPress n [1] (fun j s =>
    let d := j.desc
    let rd := (s.pressDiscard d).dmaRead (pressSrc d) (pressSrcLen d)
    if rd.1 ≠ 0 then rd.2.2.endJob n rd.1 0 0
    else if pressWild d then rd.2.2.pressFree n (pressDst d) (pressDstLen d)
    else if pressClass d = 0 then rd.2.2.compressData n d rd.2.1
    else rd.2.2.compressStream n d rd.2.1)

/-- Continue a SUSPENDED sequence (R287). A changed source or first destination leaves its destinations free (R587): the tokens
are those fixed when the sequence began, unless the source no longer holds those bytes. -/
def State.resumeSeq (s : State) (n : Nat) (d : Bytes) (q : PressSeq) : State :=
  let src := s.peek q.src q.srcLen
  let same := crc32c src == num q.header 12 4 && s.peek q.dst 16 == zeros 16
  let fit := fitTokens (pressDstLen d) q.tokens []
  let cov := tokensCover q.tokens - tokensCover fit.2
  let bytes := if same then (fit.1, s) else s.takeFreeBytes fit.1.length
  let s1 := bytes.2.dmaWrite (pressDst d) bytes.1
  if fit.2.isEmpty then
    ((s1.dmaWrite q.dst q.header).pressForget (pressCh d)).endJob n 0 cov fit.1.length
  else
    let q1 := { q with tokens := fit.2, covered := q.covered + cov }
    State.endJob (State.keepState { s1 with press := { s1.press with seqs := SMap.set s1.press.seqs (pressCh d) q1 } } (pressCh d)) n ST_PRESS_OUT_FULL cov
      fit.1.length

/-- RESUME (R287, R288). -/
def execResume (n : Nat) (s : State) : Res :=
  s.onPress n [2] (fun j s =>
    match SMap.get s.press.seqs (pressCh j.desc) with
    | none => s.endJob n ST_PRESS_NO_STATE 0 0
    | some q => s.resumeSeq n j.desc q)

/-- DECOMPRESS (R291, R292). -/
def execDecompress (n : Nat) (s : State) : Res :=
  s.onPress n [3] (fun j s =>
    let d := j.desc
    let rd := s.dmaRead (pressSrc d) (pressSrcLen d)
    if rd.1 ≠ 0 then rd.2.2.endJob n rd.1 0 0
    else if pressWild d then rd.2.2.pressFree n (pressDst d) (pressDstLen d)
    else
      let r := pf1Decode (pressClass d == 1) rd.2.1 (pressDstLen d) (pressExpect d)
      let late := 16 ≤ r.2.1 ∧ (r.1 = ST_PRESS_FORMAT ∨ r.1 = ST_PRESS_CHECK)
      let s1 := if late then { rd.2.2 with press := { rd.2.2.press with formatErrs := satInc 16 rd.2.2.press.formatErrs } } else rd.2.2
      match r.2.2 with
      | some out => (s1.dmaWrite (pressDst d) out).endJob n r.1 r.2.1 out.length
      | none => s1.endJob n r.1 r.2.1 0)

/-- CHANNEL_RESET (R278, R288). -/
def execChannelReset (n : Nat) (s : State) : Res :=
  s.onPress n [4] (fun j s => (s.pressForget (pressCh j.desc)).endJob n 0 0 0)

/-- The job that runs on a lane. -/
def State.laneJob (s : State) (inst lane : Nat) : Option (Nat × Job) :=
  (s.jobsOf 5 inst).find? (fun e => e.2.unit == some lane)

/-- The source of a lane (R547): bit 11 set for a decompress lane. -/
def laneSrc (decomp : Bool) (lane : Nat) : Nat := srcOf 6 (lane + (if decomp then 2048 else 0))

/-- PRESS_LANE_FATAL (R290): a compress lane's check decoder disagrees with the source, or a decompress lane reports a fatal
error. The lane leaves service; a job running on it completes with ST_PRESS_SELF_CHECK; on a compress lane its destination is
unpredictable and the channel holds no state. That SELF_CHECK_FAILS counts the faults of both kinds of lane that end a job is a DESIGN CHOICE
(log 111): R294 names self-check failures, which R290 states of both. -/
def execPressLaneFatal (decomp : Bool) (lane : Fin 64) (s : State) : Res :=
  onlyIf (s.fw && s.isHead) s fun s =>
    let mask : BitVec 64 := ~~~ (1#64 <<< lane.val)
    let s1 := { s with press := (if decomp then { s.press with dlOk := s.press.dlOk &&& mask }
      else { s.press with clOk := s.press.clOk &&& mask }) }
    let s2 := s1.alarm AL_PRESS_LANE_FAULT (laneSrc decomp lane)
    match s2.laneJob (b2n decomp) lane with
    | none => s2
    | some (n, j) =>
      let s3 := { s2 with press := { s2.press with selfChecks := satInc 16 s2.press.selfChecks } }
      State.pressSettle (if decomp then s3.endJob n ST_PRESS_SELF_CHECK 0 0
      else (s3.pressForget (pressCh j.desc)).pressSpoil n (pressDst j.desc) (pressDstLen j.desc) ST_PRESS_SELF_CHECK 0)

end Sys2Proof.Machine
end

