-- ==== Sys2Proof/Machine/Fetch.lean ====
section
/-! DEFINITION. A block fetches descriptors, schedules them on its units and completes them (R131 to R133, R249, R274, R298 to
R300). -/

namespace Sys2Proof.Machine

/-! ### Fetching -/

/-- Jobs of a block instance that are fetched and not started. -/
def State.waitingJobs (s : State) (block inst : Nat) : List (Nat × Job) :=
  (s.jobsOf block inst).filter (fun e => e.2.st == .waiting)

/-- Whether a block can fetch from a ring now: an unfetched entry, no FENCE that waits, and no completion held for its completion
ring (R131, R133). -/
def State.fetchable (s : State) (n : Nat) (r : Ring) : Bool :=
  r.on && !r.isCq && r.head % r.size != r.tail % r.size && !(s.ring.held.any (·.cq == r.cq))
    && !(bit (num (s.peek (r.base + 64 * (r.head % r.size)) 64) 3 1) 0 && s.ring.jobs.any (fun e => e.2.ring == n))

/-- The rings a block instance can fetch from, ascending. -/
def State.fetchRings (s : State) (block inst : Nat) : List Nat :=
  (s.ring.rings.filter (fun e => e.2.target == block * 256 + inst && s.fetchable e.1 e.2)).map Prod.fst

/-- The next ring in rotation after the one last fetched from (R131). -/
def nextRing (last : Option Nat) (rings : List Nat) : Option Nat :=
  match last with
  | none => rings.head?
  | some l => (rings.find? (fun n => decide (l < n))).or rings.head?

/-- The queues of the cipher engine it can fetch from, ascending (R299). -/
def State.cipherQueues (s : State) : List Nat := (List.range 64).filter (fun q => !(s.fetchRings 6 q).isEmpty)

/-- It is an instance's turn: the cipher engine fetches from its queues in rotation (R299); the other blocks' instances fetch each for itself. -/
def State.queueTurn (s : State) (block inst : Nat) : Bool := block != 6 || nextRing s.ring.queueLast s.cipherQueues == some inst

/-- The Press holds at most 1,024 fetched jobs not started per unit number (R274). -/
def State.fetchRoom (s : State) (block inst : Nat) : Bool :=
  block != 5 || decide ((s.waitingJobs block inst).length < 1024)

/-- A block's own checks (R131 point 2), in the chapter's order. A block whose chapter defines no descriptor defines no opcode (R130). -/
def State.blockCheck (s : State) (block inst : Nat) (d : Bytes) : Nat :=
  if block = 3 then s.digestCheck d
  else if block = 4 then s.matchCheck d
  else if block = 5 then pressCheck inst d
  else if block = 6 then s.cipherCheck d
  else if block = 7 then parityCheck d
  else if block = 8 ∧ num d 0 2 = 1 then 0 else ST_ENGINE_HEADER

/-- The address ranges a descriptor names. -/
def State.blockRanges (s : State) (block : Nat) (d : Bytes) : List (Nat × Nat) :=
  if block = 3 then digestRanges d
  else if block = 4 then matchRanges d
  else if block = 5 then pressRanges d
  else if block = 6 then s.cipherRanges d
  else if block = 7 then s.parityRanges d
  else [(num d 24 8, num d 20 4)]

/-- The status of the first failing check (R131): header, fields, addresses. -/
def State.fetchStatus (s : State) (block inst : Nat) (d : Bytes) : Nat :=
  if num d 2 1 ≠ block then ST_ENGINE_HEADER
  else
    let st := s.blockCheck block inst d
    if st ≠ 0 then st
    else if (s.blockRanges block d).all (fun r => dmaReach r.1 r.2) then 0 else ST_ENGINE_ADDR_FAULT

/-! ### Units -/

/-- The unit that a preempted request waits for. -/
def Job.heldUnit (j : Job) : Option Nat :=
  match j.st with
  | .preempted u => some u
  | .waiting => none
  | .running _ => none
  | .done _ _ _ => none

/-- The job of highest priority; among equals a preempted one first, then the lowest number: the one fetched first. -/
def bestJob (prio : Job → Nat) : List (Nat × Job) → Option (Nat × Job)
  | [] => none
  | e :: rest =>
    match bestJob prio rest with
    | none => some e
    | some b =>
      if prio e.2 > prio b.2 then some e
      else if prio e.2 < prio b.2 then some b
      else if b.2.heldUnit.isSome && !e.2.heldUnit.isSome then some b else some e

/-- The job of lowest priority; among equals the one started first. -/
def worstJob (prio : Job → Nat) : List (Nat × Job) → Option (Nat × Job)
  | [] => none
  | e :: rest =>
    match worstJob prio rest with
    | none => some e
    | some b => if prio b.2 < prio e.2 then some b else some e

/-- Units below `k` that no running job of a list holds. -/
def freeUnits (k : Nat) (ok : Nat → Bool) (js : List (Nat × Job)) : List Nat :=
  (List.range k).filter (fun u => ok u && !(js.any (fun e => e.2.unit == some u)))

/-- PRIO of a DIGEST or SLOT_LOAD. -/
def dPrio (j : Job) : Nat := (digestDesc j.desc).prio

/-- One assignment of a digest pipe (R249): a free pipe takes the best request; while none is free, a waiting request preempts
the lowest running one below its priority. -/
def State.digestAssign (s : State) : State :=
  let js := s.jobsOf 3 0
  let idle := js.filter (fun e => !e.2.isRunning)
  match bestJob dPrio idle with
  | none => s
  | some (n, j) =>
    match freeUnits 4 (fun u => bit s.digest.pipeOk.toNat u) js with
    | u :: _ => s.setJob n (.running u)
    | [] =>
      match worstJob dPrio (js.filter (fun e => e.2.isRunning && digestPreemptible e.2.desc && decide (dPrio e.2 < dPrio j))) with
      | none => s
      | some (m, b) => if j.heldUnit.isSome then s else (s.digestPreempt m (b.unit.getD 0) b.desc).setJob n (.running (b.unit.getD 0))

/-- The jobs of one Press unit number that are ready: the oldest of its channel, with no job of the channel running (R274). -/
def State.pressReady (s : State) (inst : Nat) : List (Nat × Job) :=
  let js := s.jobsOf 5 inst
  if inst = 0 then
    (js.filter (fun e => e.2.st == .waiting)).filter (fun e =>
      !(js.any (fun o => pressCh o.2.desc == pressCh e.2.desc && (o.2.isRunning || decide (o.1 < e.1)))))
  else js.filter (fun e => e.2.st == .waiting)

/-- How far a channel lies after the one last served, in rotation among 0 to 247 (R274). -/
def chanAfter (last ch : Nat) : Nat := (ch + 247 - last) % 248

/-- The ready job that a free lane takes (R274): the channels rotate from the one after that which this lane last served. -/
def State.pressPick (s : State) (inst lane : Nat) : Option (Nat × Job) :=
  let rs := s.pressReady inst
  if inst = 0 then
    (rs.find? (fun e => decide (248 ≤ pressCh e.2.desc))).or
      (worstJob (fun j => chanAfter (SMap.getD s.press.lastServed lane 247) (pressCh j.desc)) rs)
  else rs.head?

/-- Units of a domain that is on, four or sixteen of them to a domain from the first; with every domain off, those that finish what was fetched
before (R129). -/
def State.unitPowered (s : State) (first per u : Nat) : Bool :=
  s.pdOn (first + u / per) || [0, 1, 2, 3].all (fun k => !s.pdOn (first + k))

/-- One assignment of a Press lane of a powered domain. Of several free lanes the lowest takes the job: DESIGN CHOICE (log 111). -/
def State.pressAssign (s : State) (inst : Nat) : State :=
  let ok := fun u => bit (if inst = 0 then s.press.clOk else s.press.dlOk).toNat u && s.unitPowered 20 16 u
  match freeUnits 64 ok (s.jobsOf 5 inst) with
  | [] => s
  | u :: _ =>
    match s.pressPick inst u with
    | none => s
    | some (n, j) =>
      let s1 : State := if inst = 0 ∧ pressCh j.desc < 248 then
        { s with press := { s.press with lastServed := SMap.set s.press.lastServed u (pressCh j.desc) } } else s
      s1.setJob n (.running u)

/-- Jobs of the cipher engine that are not done: its 64 queues share the pairs. -/
def State.cipherJobs (s : State) : List (Nat × Job) :=
  s.ring.jobs.filter (fun e => e.2.block == 6
    && (match e.2.st with | .done _ _ _ => false | .waiting => true | .preempted _ => true | .running _ => true))

/-- An encrypt request that R298 limits: XTS_ENC, since GCM requests are named as free of the limit. DEDUCED (log 73). -/
def isEnc (j : Job) : Bool := num j.desc 0 2 == 1

/-- PRIO of a cipher job. -/
def jPrio (j : Job) : Nat := cPrio j.desc

/-- One assignment of a cipher pair (R298 to R300). A preempted request resumes on its own pair; a pair holds at most one.
One whose pair leaves service stays preempted: DESIGN CHOICE (log 111). -/
def State.cipherAssign (s : State) : State :=
  let js := s.cipherJobs
  let encs := (js.filter (fun e => e.2.isRunning && isEnc e.2)).length
  let ok := fun u => bit s.cipher.pairOk.toNat u && s.unitPowered 24 4 u
  let freeU := freeUnits 16 ok js
  let mayRun := fun (e : Nat × Job) => !isEnc e.2 || decide (encs < s.p p_cipher_enc_pairs_max)
  let idle := js.filter (fun e =>
    (e.2.st == .waiting && mayRun e) || (match e.2.heldUnit with | some u => freeU.contains u | none => false))
  match bestJob jPrio idle with
  | none => s
  | some (n, j) =>
    match j.heldUnit with
    | some u => s.setJob n (.running u)
    | none =>
      match freeU with
      | u :: _ => s.setJob n (.running u)
      | [] =>
        let holds := fun u => js.any (fun e => e.2.heldUnit == some u)
        match worstJob jPrio (js.filter (fun e => e.2.isRunning && gcmPreemptible e.2.desc && decide (jPrio e.2 < jPrio j)
            && !(holds (e.2.unit.getD 0)))) with
        | none => s
        | some (m, b) => (s.gcmPreempt m (b.unit.getD 0) b.desc).setJob n (.running (b.unit.getD 0))

/-- One assignment of the parity engine: one request at a time, in fetch order (R351). -/
def State.parityAssign (s : State) : State :=
  let js := s.jobsOf 7 0
  if js.any (fun e => e.2.isRunning) then s
  else match js with
    | [] => s
    | e :: _ => s.setJob e.1 (.running 0)

/-- One assignment of a unit of a block. The Match Array and the spoke ports start each request as it is fetched. -/
def State.assignOne (s : State) (block inst : Nat) : State :=
  if block = 3 then s.digestAssign
  else if block = 5 then s.pressAssign inst
  else if block = 6 then s.cipherAssign
  else if block = 7 then s.parityAssign
  else (s.waitingJobs block inst).foldl (fun (acc : State) (e : Nat × Job) => acc.setJob e.1 (.running 0)) s

/-- Assign up to `k` units. -/
def State.assign (block inst : Nat) : Nat → State → State
  | 0, s => s
  | k + 1, s => State.assign block inst k (s.assignOne block inst)

/-- Assign every unit that can start a job: no block has more than 64. -/
def State.assignAll (s : State) (block inst : Nat) : State := State.assign block inst 64 s

/-! ### The two steps -/

/-- The 64 bytes fetched, with the status of the read (R134, R155); on a misused ring they are free (R587). -/
def State.fetchBytes (s : State) (r : Ring) : Nat × Bytes × State :=
  if r.wild then
    let f := s.takeFreeBytes 64
    (0, f.1, f.2)
  else s.dmaRead (r.base + 64 * (r.head % r.size)) 64

/-- Fetch the next descriptor of a ring (R131). -/
def State.fetchFrom (s : State) (n : Nat) : State :=
  let r := s.ringOf n
  let block := r.target / 256
  let inst := r.target % 256
  let f := s.fetchBytes r
  let d := f.2.1
  let s1 := f.2.2
  let j := s1.ring.nextJob
  let cut := s1.cipher.cancels.contains (n, r.head % r.size)
  let st := if cut then ST_ENGINE_CANCELLED else if f.1 ≠ 0 then f.1 else s1.fetchStatus block inst d
  let s2 : State := { s1.setRing n { r with head := (r.head + 1) % r.size } with
    cipher := { s1.cipher with cancels := s1.cipher.cancels.filter (· != (n, r.head % r.size)) } }
  let job : Job := ⟨n, block, inst, d, if st = 0 then .waiting else .done st 0 0⟩
  let s3 : State := { s2 with ring := { s2.ring with
    nextJob := j + 1, jobs := SMap.set s2.ring.jobs j job, rotate := SMap.set s2.ring.rotate r.target n
    queueLast := if block = 6 then some inst else s2.ring.queueLast } }
  let s4 := if st ≠ 0 then s3 else if block = 3 then s3.digestBind j d else if block = 5 then s3.pressFetched d else s3
  s4.assignAll block inst

/-- DESCRIPTOR_FETCH (R131, R299): a block fetches the next descriptor in rotation. -/
def execDescriptorFetch (block inst : Fin 256) (s : State) : Res :=
  onlyIf (s.fw && s.fetchRoom block inst && s.queueTurn block inst) s fun s =>
    match nextRing (SMap.get s.ring.rotate (block * 256 + inst)) (s.fetchRings block inst) with
    | none => s
    | some n => s.fetchFrom n

/-- Complete a job whose operation has ended (R132): one completion, and its unit serves the next. -/
def State.completeJob (s : State) (n : Nat) : State :=
  match s.job n with
  | none => s
  | some j =>
    match j.st with
    | .waiting => s
    | .running _ => s
    | .preempted _ => s
    | .done st c p =>
      let s1 : State := { s with ring := { s.ring with jobs := SMap.del s.ring.jobs n } }
      (s1.pushCpl ⟨(s.ringOf j.ring).cq, bit (num j.desc 3 1) 1, ⟨num j.desc 8 4, st, c, p⟩⟩).assignAll j.block j.inst

/-- DESCRIPTOR_COMPLETION (R132): a job's completion is written; `work` names a chunk record by stream and SSN whose reduction
step the firmware's own descriptors end with it (R218 to R228). -/
def execDescriptorCompletion (what : CplOf) (s : State) : Res :=
  match what with
  | .job n => onlyIf s.fw s fun s => s.completeJob n
  | .work stream ssn => onlyIf (s.fw && s.isHead) s fun s => s.pipeline stream ssn

end Sys2Proof.Machine
end

