-- ==== Sys2Proof/Machine/Power.lean ====
section
/-! DEFINITION. Rails, voltage, domains, budget and temperature (R602 to R610, R622, R623). What a power failure, a trip or a
reset does stands in Machine/Reset.lean. -/

namespace Sys2Proof.Machine

/-- Nominal rail voltages in mV, in the order of R602; VDD_CORE is its target. -/
def State.railNominal (s : State) (r : Nat) : Nat :=
  if r = 0 then s.power.vcoreMv else [0, 850, 800, 900, 1200, 1100, 400, 1800, 1200, 1800, 2500].getD r 0

/-- Whether a reading lies below, and above, a rail's window (R604). -/
def State.railUnder (s : State) (r mv : Nat) : Bool :=
  decide (mv * 100 < s.railNominal r * (100 - s.p (p_power_core_uv_pct + r)))
def State.railOver (s : State) (r mv : Nat) : Bool :=
  decide (s.railNominal r * (100 + s.p (p_power_core_ov_pct + r)) < mv * 100)

/-- Rails whose undervoltage acts as POWER_FAIL_N: VDD_CORE, VDD_SRAM, VDD_HBM, VDDQ_HBM (R604). -/
def pfRails : List Nat := [0, 1, 5, 6]

/-- A rail's source (R604): the part, index the rail. -/
def railSrc (r : Nat) : Nat := srcOf 0 r

/-- A rail outside its window for its filter time (R604); an absent VPP_OTP reads 0 V and raises nothing (R602). -/
def State.railOut (s : State) (r : Fin 11) (mv : Nat) : State :=
  if r.val = 10 ∧ mv = 0 then s
  else if s.railUnder r mv || s.railOver r mv then
    State.alarm { s with power := { s.power with railFault := s.power.railFault ||| (1#11 <<< r.val) } } AL_POWER_RAIL (railSrc r)
  else s

/-- RAIL_WITHIN_WINDOW (R629): the alarm clears; RAIL_FAULT keeps its bit (R628). -/
def execRailWithinWindow (r : Fin 11) (s : State) : Res := onlyIf s.live s (fun s => s.clearAlarm AL_POWER_RAIL (railSrc r))

/-! ### Domains -/

/-- Domains software may switch: PD18 to PD27 (R608). -/
def pdSwitchable (d : Nat) : Bool := decide (18 ≤ d ∧ d ≤ 27)

/-- PD_OFF_REQ (R608): ignored outside PD18 to PD27; the switch follows at the boundary (R129). -/
def execPdOffReq (d : Fin 50) (s : State) : Res :=
  onlyIf (s.live && pdSwitchable d) s (fun s => s.setPd d { s.pdOf d with offReq := true })

/-- PD_ON_REQ (R608). -/
def execPdOnReq (d : Fin 50) (s : State) : Res :=
  onlyIf (s.live && pdSwitchable d) s (fun s => s.setPd d { s.pdOf d with offReq := false })

/-! ### Voltage -/

/-- Bound a target by the AVS limits (R603). -/
def State.avsBound (s : State) (mv : Nat) : Nat := max (s.p p_power_vcore_min_mv) (min (s.p p_power_vcore_max_mv) mv)

/-- The hottest logic reading. -/
def State.hottest (s : State) : Int := s.power.ts.foldl (fun a t => if t.valid && decide (a < t.temp) then t.temp else a) 0

/-- The VDD_CORE target from stage FIRMWARE on (R603). -/
def State.setVcore (s : State) : State :=
  if s.p p_power_vcore_mode = 1 then
    { s with power := { s.power with avs := true, vcoreMv := s.avsBound (Config.avsTable s.hottest) } }
  else { s with power := { s.power with avs := false, vcoreMv := s.p p_power_vcore_fixed_mv } }

/-- One epoch's AVS step: toward the table's target by at most 10 mV (R603). -/
def State.avsStep (s : State) : State :=
  if s.power.avs then
    let want := s.avsBound (Config.avsTable s.hottest)
    let now := s.power.vcoreMv
    let next := if now + 10 < want then now + 10 else if want + 10 < now then now - 10 else want
    { s with power := { s.power with vcoreMv := next } }
  else s

/-! ### Budget -/

/-- Maximum power of the role in W, and each consumer's share, in the order of R609. -/
def State.roleMaxW (s : State) : Nat := if s.isHead then 340 else 165
def State.shareW (s : State) (c : Nat) : Nat :=
  if s.isHead then [57, 77, 45, 28, 10, 22, 12, 48, 2, 14, 25].getD c 0 else [2, 60, 0, 0, 10, 0, 12, 48, 2, 20, 11].getD c 0

/-- Consumer c's limit in W x 100: its share times its cap percentage (R610). -/
def State.capOf (s : State) (c : Nat) : Nat := s.shareW c * s.p (p_power_sds_cap_pct + c)

/-- Whether the package (in 0.1 W) or a consumer (in 0.1 W) exceeds its limit (R610). -/
def State.overBudget (s : State) (pkgDw : Nat) (cons : List Nat) : Bool :=
  decide (min (s.p p_power_budget_w) s.roleMaxW * 10 < pkgDw) ||
    (List.range 11).any (fun c => decide (s.capOf c < cons.getD c 0 * 10))

/-- The budget at a boundary (R610): while over, the admission cap falls by a free step (log 6), with an event at the start
and at the end. -/
def State.budgetStep (s : State) (pkgDw : Nat) (cons : List Nat) : State :=
  let s1 := { s with power := { s.power with pkgDw := pkgDw } }
  if s1.overBudget pkgDw cons then
    let f := s1.takeFree
    let cut := f.2.power.budgetCut + (1 + f.1 % 100) * (100 - f.2.power.budgetCut) / 100
    let s2 := { f.2 with power := { f.2.power with budgetCut := min 99 cut, throttledBudget := true } }
    if s.power.throttledBudget then s2 else s2.event EV_POWER_THROTTLE 0
  else if s.power.throttledBudget then
    State.event { s1 with power := { s1.power with throttledBudget := false, budgetCut := 0 } } EV_POWER_THROTTLE 0
      |>.clearAlarm AL_POWER_BUDGET 0
  else s1

/-- POWER_BUDGET_ALARM (R610): a limit still exceeded after 1 s. -/
def execPowerBudgetAlarm (s : State) : Res := onlyIf (s.live && s.power.throttledBudget) s (fun s => s.alarm AL_POWER_BUDGET 0)

/-! ### Temperature -/

/-- One logic sensor's new reading, corrected (R622), with its flags and extremes (R628). -/
def State.tsRead (s : State) (i : Nat) (raw : Int) : TsSt :=
  let t := s.power.ts.getD i {}
  let v := raw + paramInt s.params p_thermal_offset_dc i
  { temp := v, valid := true
    warn := decide ((s.pi p_thermal_warn_c i : Int) * 10 ≤ v), crit := decide ((s.pi p_thermal_crit_c i : Int) * 10 ≤ v)
    max := if t.valid then max t.max v else v, min := if t.valid then min t.min v else v }

/-- Store a round of readings: logic sensors in tenths, stacks and SerDes dies in degrees (R622). -/
def State.temps (s : State) (logic hbm sds : List Int) : State :=
  { s with power := { s.power with
      ts := (List.range 64).map (fun i => s.tsRead i (logic.getD i 0))
      hbmC := (List.range 4).map (fun k => hbm.getD k 0)
      sdsC := (List.range 2).map (fun k => sds.getD k 0) } }

/-- Whether the readings reach the warning thresholds less `h` degrees, and the critical ones (R623). -/
def State.warnAt (s : State) (h : Int) : Bool :=
  (List.range 64).any (fun i => decide (((s.pi p_thermal_warn_c i : Int) - h) * 10 ≤ (s.power.ts.getD i {}).temp
    ∧ (s.power.ts.getD i {}).valid))
  || (List.range 4).any (fun k => decide ((s.pi p_thermal_hbm_warn_c k : Int) - h ≤ s.power.hbmC.getD k 0))
def State.critAt (s : State) (h : Int) : Bool :=
  (List.range 64).any (fun i => decide (((s.pi p_thermal_crit_c i : Int) - h) * 10 ≤ (s.power.ts.getD i {}).temp
    ∧ (s.power.ts.getD i {}).valid))
  || (List.range 4).any (fun k => decide ((s.pi p_thermal_hbm_crit_c k : Int) - h ≤ s.power.hbmC.getD k 0))
  || (List.range 2).any (fun k => decide ((s.pi p_thermal_sds_limit_c k : Int) - h ≤ s.power.sdsC.getD k 0))

/-- Whether any reading reaches the trip threshold (R624). -/
def State.tripAt (s : State) : Bool :=
  let t : Int := s.p p_thermal_trip_c
  s.power.ts.any (fun x => x.valid && decide (t * 10 ≤ x.temp)) || s.power.hbmC.any (fun x => decide (t ≤ x))
    || s.power.sdsC.any (fun x => decide (t ≤ x))

/-- Act on the thresholds (R623): raise, keep between threshold and hysteresis, clear. -/
def State.thermalAct (s : State) : State :=
  let h : Int := s.p p_thermal_hyst_c
  let s1 := if s.warnAt 0 then (if s.ev.isRaised AL_POWER_THERM_WARN 0 then s else s.alarm AL_POWER_THERM_WARN 0)
    else if s.warnAt h then s else s.clearAlarm AL_POWER_THERM_WARN 0
  if s1.critAt 0 then
    let s2 := if s1.ev.isRaised AL_POWER_THERM_CRIT 0 then s1 else s1.alarm AL_POWER_THERM_CRIT 0
    if s2.p p_thermal_throttle_enable = 1 ∧ ¬ s2.power.throttledTherm then
      State.event { s2 with power := { s2.power with throttledTherm := true } } EV_POWER_THROTTLE 0
    else s2
  else if s1.critAt h then s1
  else
    let s2 := s1.clearAlarm AL_POWER_THERM_CRIT 0
    if s2.power.throttledTherm then
      State.event { s2 with power := { s2.power with throttledTherm := false } } EV_POWER_THROTTLE 0
    else s2

end Sys2Proof.Machine
end

