-- ==== Sys2Proof/Machine/Domain.lean ====
section
/-! DEFINITION. Switching power domains (R129, R607, R608, R630), the key slots over PS2 (R312, R313), creating domain keys (R316) and a
crypto-erase at its boundary (R317). -/

namespace Sys2Proof.Machine

/-! ### Power domains -/

/-- Rings follow the power of their blocks (R129, R630). -/
def State.followPower (s : State) : State :=
  let a := s.ringsOfDomain (fun block inst => !s.instOff block inst) false
  a.ringsOfDomain (fun block inst => a.instOff block inst) true

/-- Switch a domain off (R608): with PD24 the key slots hold zeros (R308), with PD20 the channel states go, once the jobs fetched
before are done (R129, R276). -/
def State.switchOff (s : State) (d : Nat) : State :=
  if s.pdOn d then
    let s1 := (s.pdDown d).event EV_POWER_DOMAIN 0
    let s2 := s1.followPower
    if d = 24 then { s2 with cipher := { s2.cipher with slots := [] } }
    else if d = 20 then s2.pressDrop (List.range 248)
    else s2
  else s

/-- The mirrored open-epoch region is rebuilt from its shadow, both copies (R257). -/
def State.restoreRegion (s : State) : State :=
  let s1 := (SMap.keys s.cam.shadow).foldl State.rewriteMent s
  { s1 with cam := { s1.cam with rebuild := false } }

/-- The units that a domain brings back take the jobs that wait. -/
def State.unitsBack (s : State) (d : Nat) : State :=
  if d ∈ [20, 21, 22, 23] then (s.assignAll 5 0).assignAll 5 1
  else if d ∈ [24, 25, 26, 27] then s.assignAll 6 0
  else s

/-- Switch a domain on: a Match half comes up invalid and the mirrored region is rebuilt (R257); PD24 comes up with DIE_KEK alone (R308). -/
def State.switchOn (s : State) (d : Nat) : State :=
  if s.pdOn d then s
  else
    let s1 := (s.pdUp d).event EV_POWER_DOMAIN 0
    (if d = 18 ∨ d = 19 then (s1.halfPowered (d - 18)).restoreRegion
     else if d = 24 then s1.keysReset
     else s1).followPower.unitsBack d

/-- Phase 0: OFF_REQ of PD18 to PD27 takes effect (R129, R608); in PS2 they stay off (R195). -/
def State.switchDomains (s : State) : State :=
  ((List.range 10).map (· + 18)).foldl (fun acc d =>
    if !s.pdRole d then acc
    else if (acc.pdOf d).offReq then acc.switchOff d
    else if acc.inPs2 then acc
    else acc.switchOn d) s

/-! ### Keys over PS2 (R312, R313) -/

/-- The key in DIE_KEK's slot. -/
def State.dieKey (s : State) : Bytes := (s.keySlot dieSlot).key

/-- Enter PS2: every LOADED slot from 0 to 3,071 is wrapped under DIE_KEK, then the domains go off. -/
def State.enterPs2 (s : State) : State :=
  let kept := (s.cipher.slots.filter (fun e => decide (e.1 < 3072) && e.2.state == 1)).map (fun e =>
    (e.1, (e.2.type, e.2.use, kwWrap s.dieKey e.2.key)))
  ((List.range 10).map (· + 18)).foldl State.switchOff { s with cipher := { s.cipher with ps2 := kept } }

/-- Unwrap one wrapped copy. -/
def State.unwrapCopy (s : State) (e : Nat × Nat × Nat × Bytes) : State :=
  match kwUnwrap s.dieKey e.2.2.2 with
  | some k => s.setKeySlot e.1 { state := 1, type := e.2.1, use := e.2.2.1, key := k }
  | none => s

/-- Leave PS2: the domains come on, the wrapped copies are unwrapped, then the waiting steps are applied in order. -/
def State.leavePs2 (s : State) : State :=
  let s1 := (((List.range 10).map (· + 18)).filter (fun d => !(s.pdOf d).offReq)).foldl State.switchOn s
  let s2 := s1.cipher.ps2.foldl State.unwrapCopy s1
  State.applySteps { s2 with cipher := { s2.cipher with ps2 := [] } }

/-! ### Domain keys (R316) -/

/-- Generate and wrap a new pair of keys for a domain (R309, R316): the keys are free values; both land in their slots. -/
def State.newKeyRec (s : State) (d gen epn : Nat) : KeyRec × State :=
  let a := s.takeFreeBytes 64
  let b := a.2.takeFreeBytes 32
  let kek := (s.keySlot 1024).key
  let s1 := (b.2.setKeySlot (dataSlot d gen) { state := 1, type := 2, use := 1, key := a.1 }).setKeySlot (fpSlot d gen)
    { state := 1, type := 3, use := 4, key := b.1 }
  (⟨d, gen, epn, kwWrap kek a.1, kwWrap kek b.1, s.cipher.kekId⟩, s1)

/-- The key records of a domain that stand recorded: in force, before their EPN, in a bundle or waiting for one (R316). -/
def State.recordedKeys (s : State) (d : Nat) : List KeyRec :=
  let items := fun (st : StreamSt) => st.sealQueue ++ st.bundles.flatMap (fun e => e.2.sealItems)
  (SMap.vals s.cipher.recs ++ s.cipher.pendingKeys
    ++ (items s.head.st0 ++ items s.head.st1).filterMap (fun x => match x with | .manager (.domainKey k) => some k | _ => none)).filter (·.domain == d)

/-- The newest generation recorded; 0 for none. -/
def State.lastKeyGen (s : State) (d : Nat) : Nat := (s.recordedKeys d).foldl (fun a r => max a r.generation) 0

/-- The slots of the next generation of a domain are free at both heads: no erase of the domain is under way, no generation waits for its EPN,
and they are EMPTY. An erase before that waits: DESIGN CHOICE (log 112). -/
def State.keysFree (s : State) (d : Nat) : Bool :=
  !s.cipher.erases.any (·.domain == d) && (s.recordedKeys d).all (fun r => decide (r.generation ≤ s.keyGen d))
    && [dataSlot d (s.keyGen d + 1), fpSlot d (s.keyGen d + 1)].all (fun k => (s.keySlot k).state == 0)

/-- Record new keys of a domain: in force two epochs on, the epoch after the bundle that records them (R189, R317). While the entropy health
tests fail none are made (R309). -/
def State.recordKeys (s : State) (d : Nat) : State :=
  if s.cipher.drbgOk then
    let r := s.newKeyRec d (s.lastKeyGen d + 1) (s.epn + 2)
    r.2.record (.domainKey r.1)
  else s.alarm AL_CIPHER_DRBG 0

/-- A domain has keys, in force or recorded. -/
def State.hasKeys (s : State) (d : Nat) : Bool := !(s.recordedKeys d).isEmpty

/-- The manager holds an ARRAY_KEK: in its slot, or in PS2 as a wrapped copy. -/
def State.hasKek (s : State) : Bool := if s.inPs2 then SMap.has s.cipher.ps2 1024 else (s.keySlot 1024).live

/-- DOMAIN_KEY_CREATE (R309, R316): the manager finds an enabled domain without a key record; `entropyOk` is whether the entropy health
tests pass. A manager in PS2 leaves it first (R313): the keys wait for the exit. -/
def execDomainKeyCreate (d : Fin 256) (entropyOk : Bool) (s : State) : Res :=
  onlyIf (s.isManager && s.pi p_key_domain_enable d == 1 && !s.hasKeys d && s.hasKek) s (fun s =>
    let s1 := { s with cipher := { s.cipher with drbgOk := entropyOk } }
    if !entropyOk then s1.alarm AL_CIPHER_DRBG 0
    else
      let s2 := s1.clearAlarm AL_CIPHER_DRBG 0
      if s2.inPs2 then { s2 with cipher := { s2.cipher with keyWait := insNat s2.cipher.keyWait d } } else s2.recordKeys d)

/-- After the exit from PS2 the manager makes the keys that waited for it (R313, R316). -/
def State.makeWaitingKeys (s : State) : State :=
  (s.cipher.keyWait.filter (fun d => s.isManager && !s.hasKeys d)).foldl State.recordKeys { s with cipher := { s.cipher with keyWait := [] } }

/-! ### Crypto-erase at its boundary (R317) -/

/-- A leaf entry names a chunk of a domain. -/
def MetaSt.leafIn (m : MetaSt) (d : Nat) (l : Leaf) : Bool :=
  l.mapped && (match m.chunk l.chunkId with | some c => c.domain == d | none => false)

/-- A view of namespaces at `e` holds chunks of a domain: an entry that it sees names one, of theirs or, through clones, of what they read
through to. `fuel` bounds clones of clones. -/
def State.viewHolds (s : State) (d : Nat) : Nat → List Nat → Nat → Bool
  | 0, _, _ => false
  | fuel + 1, nsids, e =>
    let m := s.head.md
    m.leaves.any (fun x => nsids.contains (x.1 / 2 ^ 40 + 1) && m.leafIn d x.2 && decide (x.2.birth < e))
      || m.pres.any (fun p => nsids.contains (p.nsIndex + 1) && m.leafIn d p.leaf && decide (p.leaf.birth < e ∧ e ≤ p.death))
      || nsids.any (fun n => match s.cloneSource n (some e) with
        | some (snap, src) => (match SMap.get m.snaps snap with | some x => s.viewHolds d fuel [src] x.epn | none => false)
        | none => false)

/-- Deallocate the namespaces of a domain and delete the snapshots that hold its chunks. -/
def State.dropDomain (s : State) (d x : Nat) : State :=
  let ids := (s.nvme.ns.filter (fun e => e.2.domain == d)).map (·.1)
  let m := s.head.md
  let depth := s.nvme.ns.length + m.oldClones.length + 1
  let gone := (m.snaps.filter (fun e => s.viewHolds d depth e.2.nsids e.2.epn)).map (·.1)
  let m1 := gone.foldl MetaSt.hideSnap m
  let m2 := ids.foldl (fun a n => match SMap.get s.nvme.ns n with | some y => (a.deallocNs (n - 1) x).endClone n x y | none => a) m1
  State.setMd { s with nvme := { s.nvme with ns := SMap.mapV s.nvme.ns (fun _ y => if y.domain = d then { y with cloneOf := none } else y) } }
    m2.dropHidden

/-- A pending step holds the wrapped keys of a generation, or loads from its slot (R313). -/
def KeyStep.unwraps (k : KeyStep) (d g : Nat) : Bool :=
  match k with
  | .unwrap r => r.domain == d && r.generation == g
  | .hmacLoad e slot => e == d && slot == fpSlot d g
  | .erase _ _ => false
  | .repl _ _ _ => false

/-- Revoke the slots of a superseded generation: at a head in PS2 its wrapped copies go at once, those on the pending list too (R313). -/
def State.revokeGen (s : State) (d g : Nat) : State :=
  if s.inPs2 then
    { s with cipher := { s.cipher with
        ps2 := SMap.del (SMap.del s.cipher.ps2 (dataSlot d g)) (fpSlot d g)
        steps := s.cipher.steps.filter (fun k => !k.unwraps d g) ++ [.erase d g] } }
  else (s.revoke (dataSlot d g)).revoke (fpSlot d g)

/-- One key record comes into force at phase 0 of epoch `x`. -/
def State.keyInForce (s : State) (x : Nat) (r : KeyRec) : State :=
  let old := SMap.get s.cipher.recs r.domain
  let s1 := { s with cipher := { s.cipher with recs := SMap.set s.cipher.recs r.domain r } }
  match old with
  | none => s1
  | some o =>
    if r.generation ≤ o.generation then s
    else
      let s2 := (s1.dropDomain r.domain x).revokeGen r.domain o.generation
      { s2 with cipher := { s2.cipher with erases := s2.cipher.erases ++ [({ domain := r.domain, gen := r.generation, epn := r.epn, started := s.time.t } : Erase)] } }

/-- Phase 0 of epoch `x`: every record whose EPN has come (R316, R317). -/
def State.keysInForce (s : State) (x : Nat) : State :=
  let due := s.cipher.pendingKeys.filter (fun r => decide (r.epn ≤ x))
  due.foldl (fun acc r => acc.keyInForce x r)
    { s with cipher := { s.cipher with pendingKeys := s.cipher.pendingKeys.filter (fun r => decide (x < r.epn)) } }

end Sys2Proof.Machine
end

