-- ==== Sys2Proof/Machine/Link.lean ====
section
/-! DEFINITION. Taking frames from a spoke link: ports in use, acknowledgement, order (R419, R423). -/

namespace Sys2Proof.Machine

/-- Ports a part uses in its role (R16, R17). -/
def State.portThere (s : State) (p : Nat) : Bool := if s.isHead then decide (p < 64) else s.isShelf && decide (p < 2)

/-- Frames before an LSN are acknowledged; SEND descriptors whose frames they were complete (R423, R435). -/
def State.linkAcked (s : State) (p lsn : Nat) : State :=
  let q := s.portOf p
  let gone := q.sends.filter (fun e => decide (e.1 < lsn))
  let s1 := s.setPort p { q with
    replay := q.replay.filter (fun e => decide (lsn ≤ e.1)), sends := q.sends.filter (fun e => decide (lsn ≤ e.1))
    resends := if q.replay.any (fun e => decide (e.1 < lsn)) then 0 else q.resends }
  gone.foldl (fun acc e =>
    match acc.job e.2 with
    | some j => acc.endJob e.2 0 (num j.desc 20 4) 0
    | none => acc) s1

/-- A frame arrives (R423): taken in LSN order; one taken already is dropped silently, one beyond the next is answered NAK. -/
def onFrame (h : FrameHdr) (s : State) (f : State → State) : Res :=
  onlyIf (s.fw && s.portThere h.port && (s.portOf h.port).up) s fun s =>
    let s1 := s.linkAcked h.port h.ackLsn
    let q := s1.portOf h.port
    if h.lsn = q.rxLsn then f (s1.setPort h.port { q with rxLsn := q.rxLsn + 1 })
    else if h.lsn < q.rxLsn then s1
    else s1.txBare h.port (.nak q.rxLsn)

end Sys2Proof.Machine
end

