-- ==== Sys2Proof/Machine/Bundle.lean ====
section
/-! DEFINITION. Bundles: what both heads do when they apply a BODY and a SEAL (R221 to R237, R325 to R329, R388), the owner's
body, its headers and its Hem records (R161 to R163, R214 to R216, R389), and the completion of a command (R231). -/

namespace Sys2Proof.Machine

/-! ### Chunk outcomes -/

/-- The CHUNK item of an SSN (R388). -/
def StreamSt.chunkItem (st : StreamSt) (ssn : Nat) (w : ChunkWork) : ChunkItem :=
  let base : ChunkItem := ⟨ssn, 5, w.raw, w.image.length, w.chunkId, w.stripe, w.strip, ssn, w.granule, w.fp, w.lostBlocks, w.domain, w.repair⟩
  match st.resolve w with
  | .hitStored t =>
    { base with outcome := 4, chunkId := t, stagingSsn := (match w.outcome with | .hitPending p => p | _ => ssn) }
  | .pending => { base with outcome := 6 }
  | .unique => { base with outcome := 1 }
  | .zero => { base with chunkId := 0 }
  | .forming => { base with chunkId := 0 }
  | .hitPending _ => { base with chunkId := 0 }

/-- A chunk record SSN of the epoch is formed, and staged where it is to be (R215). -/
def ChunkWork.ready (w : ChunkWork) : Bool := w.extent.isSome || (w.outcome != .forming && (!w.outcome.staged || w.staged))

/-- Chunk work of an epoch, in SSN order. -/
def StreamSt.epochWork (st : StreamSt) (n : Nat) : List (Nat × ChunkWork) := st.work.filter (fun e => e.2.epn == n)

/-! ### The INGEST batch -/

/-- Journal record of one record SSN (R325). -/
def recOf (nsid : Nat) (chunks : List ChunkItem) (ssn app : Nat) (k : RecKind) : JRec :=
  match k with
  | .extent no count dealloc => .extent (nsid - 1) no count dealloc
  | .resv action rtype key => .resv (nsid - 1) action (if action ≤ 2 then 0 else rtype) key
  | .chunk no =>
    match chunks.find? (·.ssn == ssn) with
    | some c => if c.outcome = 5 then .extent (nsid - 1) no 1 false else .map (nsid - 1) no c.chunkId app c.lostBlocks
    | none => .extent (nsid - 1) no 1 false

/-- Journal records of a command. -/
def recsGo (nsid : Nat) (chunks : List ChunkItem) : Nat → List Nat → List RecKind → List JRec
  | _, _, [] => []
  | ssn, apps, k :: ks => recOf nsid chunks ssn (apps.headD 0) k :: recsGo nsid chunks (ssn + 1) apps.tail ks

/-- The INGEST records of an epoch (R392), from the SEAL's commands and the BODY's chunks; a chunk restaged under R337 adds a
REPAIR record. -/
def ingestRecs (cmds : List CmdItem) (chunks : List ChunkItem) : List JRec :=
  let covered := fun (ssn : Nat) => cmds.any (fun c => decide (c.firstSsn ≤ ssn ∧ ssn < c.firstSsn + c.recs.length))
  cmds.flatMap (fun c => recsGo c.nsid chunks c.firstSsn c.appTags c.recs)
    ++ (chunks.filter (fun c => !covered c.ssn && c.repair)).map (fun c => .repair c.chunkId)

/-! ### The journal of the Hem -/

/-- Units that a sub-ring's batches hold. -/
def SubRing.used (r : SubRing) : Nat := r.batches.foldl (fun a b => a + b.units + 1) 0

/-- Append a batch (R161); answers its RING_SEQ and BODY_CRC. A released batch whose units it takes stands whole no longer. -/
def State.writeBatch (s : State) (i cls n : Nat) (recs : List JRec) : State × Nat × Nat :=
  let r := s.ringHem i
  let crc := crc32c (recBytes recs)
  let b : Batch := ⟨i, cls, recUnits recs.length, n, r.lastSeq + 1, recs, crc, r.nextUnit, s.epn⟩
  let s1 := if r.freed.any (b.meets ·) then s.leave (fun x => match x with
      | .batch j q => i == j && r.freed.any (fun y => y.ringSeq == q && b.meets y)
      | .dir _ | .powerFail | .ledger | .bundle _ | .sif _ | .ckpt _ _ _ | .lease _ | .intent _ | .plb _ | .ftlHead | .ftl _ | .unit _ _ => false)
    else s
  (s1.setRingHem i { r with
    batches := r.batches ++ [b], freed := r.freed.filter (fun y => !b.meets y), lastSeq := r.lastSeq + 1
    nextUnit := (r.nextUnit + batchUnits recs.length) % subRingUnits }, r.lastSeq + 1, crc)

/-- Free the units and headers that a bundle releases (R163). A released batch stands in its units until others take them. -/
def State.releaseTo (s : State) (i seq : Nat) : State :=
  let r := s.ringHem i
  let kept := r.batches.filter (fun b => decide (seq < b.ringSeq))
  let gone := r.batches.filter (fun b => decide (b.ringSeq ≤ seq))
  let done := fun (h : BundleHdr) => h.stream == i && gone.any (·.epn == h.epn) && !kept.any (·.epn == h.epn)
  (s.setRingHem i { r with batches := kept, freed := r.freed ++ gone, released := max r.released seq }).dropHeaders done

/-- Bundle headers in the Hem (R157). -/
def bundleCap : Nat := 2048

/-- Write a bundle header (R216). -/
def State.putHeader (s : State) (h : BundleHdr) : State :=
  match freeKey s.hem.bundles bundleCap with
  | some i => { s with hem := { s.hem with bundles := SMap.set s.hem.bundles i h } }
  | none => s

/-! ### Applying a BODY -/

/-- Every Hem write of a stream in progress is durable (R154). -/
def StreamSt.settled (st : StreamSt) : StreamSt :=
  { st with bundles := SMap.mapV st.bundles (fun _ b =>
      { b with durSeal := b.durSeal || b.sealHdr.isSome, durBody := b.durBody || b.bodyHdr.isSome, durBatch := b.durBatch || b.bodied }) }

/-- A bundle of a stream. -/
def State.bundle (s : State) (i n : Nat) : Bundle := SMap.getD (s.stream i).bundles n {}

/-- Store it. -/
def State.setBundle (s : State) (i n : Nat) (b : Bundle) : State :=
  let st := s.stream i
  s.setStream i { st with bundles := SMap.set st.bundles n b }

/-- The commands of a SEAL. -/
def sealCmds (items : List Item) : List CmdItem := items.filterMap (fun x => match x with | .command c => some c | _ => none)

/-- The chunks of a BODY. -/
def bodyChunks (items : List Item) : List ChunkItem := items.filterMap (fun x => match x with | .chunk c => some c | _ => none)

/-- Set the entries of an extent (R322). -/
def extentLeaves (ns no count : Nat) (dealloc : Bool) (n : Nat) (m : MetaSt) : MetaSt :=
  (List.range count).foldl (fun acc j => acc.setLeaf ns (no + j) { st := if dealloc then 0 else 2, birth := n } n) m

/-- Apply one record SSN to the map in epoch `n` (R322, R325, R341). -/
def applyRec (nsid domain n : Nat) (chunks : List ChunkItem) (m : MetaSt) (ssn app : Nat) (k : RecKind) : MetaSt :=
  match k with
  | .extent no count dealloc => extentLeaves (nsid - 1) no count dealloc n m
  | .resv _ _ _ => m
  | .chunk no =>
    match chunks.find? (·.ssn == ssn) with
    | none => m
    | some c =>
      if c.outcome = 5 then m.setLeaf (nsid - 1) no { st := 2, birth := n } n
      else
        let m1 :=
          if (c.outcome = 6 ∨ c.outcome = 1) ∧ !SMap.has m.chunks c.chunkId then
            m.create c.chunkId { fp := c.fp, domain := domain, raw := c.raw, pending := c.outcome == 6, lostBlocks := c.lostBlocks
                                 imageLen := c.imageLen, granule := c.granule, strip := c.strip, stripeId := c.stripeId
                                 refs := if c.outcome = 6 then [(n, 1)] else [] } n
          else m
        m1.setLeaf (nsid - 1) no { st := 1, chunkId := c.chunkId, appTag := app, birth := n } n

/-- Apply a command's records in SSN order. -/
def applyRecs (nsid domain n : Nat) (chunks : List ChunkItem) : Nat → List Nat → List RecKind → MetaSt → MetaSt
  | _, _, [], m => m
  | ssn, apps, k :: ks, m =>
    applyRecs nsid domain n chunks (ssn + 1) apps.tail ks (applyRec nsid domain n chunks m ssn (apps.headD 0) k)

/-- Dedupe domain of a namespace. -/
def State.domainOf (s : State) (nsid : Nat) : Nat :=
  match s.ns nsid with
  | some x => x.domain
  | none => 0

/-- A chunk that no command of its epoch writes: one restaged under R337 takes the new place, LOST until that stripe's close; one staged for the
partner's records (R532) gets its record. -/
def restage (n : Nat) (m : MetaSt) (c : ChunkItem) : MetaSt :=
  match m.chunk c.chunkId with
  | some x => m.setChunk c.chunkId { x with lostBlocks := 0, raw := c.raw, imageLen := c.imageLen, granule := c.granule
                                            strip := c.strip, stripeId := c.stripeId } n
  | none =>
    if c.outcome = 6 ∨ c.outcome = 1 then
      m.create c.chunkId { fp := c.fp, domain := c.domain, raw := c.raw, pending := c.outcome == 6, lostBlocks := c.lostBlocks
                           imageLen := c.imageLen, granule := c.granule, strip := c.strip, stripeId := c.stripeId
                           refs := if c.outcome = 6 then [(n, 1)] else [] } n
    else m

/-- Apply the map records of an epoch of a stream (R327): a chunk that a HIT names takes the redirections that come after. -/
def State.applyMap (s : State) (i n : Nat) (cmds : List CmdItem) (items : List ChunkItem) : State :=
  let chunks := items.map (fun c => if c.outcome = 4 then { c with chunkId := s.head.md.renamed n i c.chunkId } else c)
  let m := cmds.foldl (fun acc c => applyRecs c.nsid (s.domainOf c.nsid) n chunks c.firstSsn c.appTags c.recs acc) s.head.md
  let covered := fun (ssn : Nat) => cmds.any (fun c => decide (c.firstSsn ≤ ssn ∧ ssn < c.firstSsn + c.recs.length))
  s.setMd ((chunks.filter (fun c => !covered c.ssn)).foldl (restage n) m)

/-- Note the epoch of the body with a chunk's RELOC record (R336). -/
def State.noteReloc (s : State) (id n : Nat) : State :=
  let f := fun (r : RefoldSt) => { r with origin := r.origin.map (fun o => if o.1 = id then (o.1, o.2.1, some n) else o) }
  if streamOf id = 0 then { s with head := { s.head with refold0 := f s.head.refold0 } } else { s with head := { s.head with refold1 := f s.head.refold1 } }

/-- A MEMBER record is applied: what Darning waited for there is done (R364). -/
def State.noteMember (s : State) (stripe idx : Nat) : State :=
  let f := fun (d : DarnSt) => { d with acked := d.acked.filter (fun w => !(w.1 == stripe && w.2.1 == idx)) }
  if streamOf stripe = 0 then { s with head := { s.head with darn0 := f s.head.darn0 } } else { s with head := { s.head with darn1 := f s.head.darn1 } }

/-- Apply a MEMBER record (R356, R364): the peer of the owner resends the appends of an open stripe to the replacement too. -/
def State.applyMember (s : State) (n stripe idx site : Nat) : State :=
  let fresh := match s.head.md.stripe stripe with
    | some r => r.state == 1 && r.site idx != site
    | none => false
  let s1 := (s.moveMember stripe idx site n).noteMember stripe idx
  if fresh then s1.resendMember (streamOf stripe) stripe idx else s1

/-- Apply one record of a class other than INGEST (R325, R364, R370, R533). -/
def State.applyJRec (s : State) (n : Nat) (r : JRec) : State :=
  match r with
  | .member stripe idx site => s.applyMember n stripe idx site
  | .reloc id stripe strip granule =>
    (match s.head.md.chunk id with
     | some c => (s.setMd (s.head.md.setChunk id { c with stripeId := stripe, strip := strip, granule := granule } n)).noteReloc id n
     | none => s)
  | .map ns no id app _ => s.setMd (s.head.md.setLeaf ns no { st := 1, chunkId := id, appTag := app, birth := n } n)
  | .extent ns no count dealloc => s.setMd (extentLeaves ns no count dealloc n s.head.md)
  | .resv _ _ _ _ => s
  | .merge _ _ => s
  | .repair _ => s

/-! ### Applying a SEAL -/

/-- An index operation that both heads send (R224, R263): tagged INDEX with the epoch of its seal. -/
def State.indexOp (s : State) (n op domain id old : Nat) (fp : Bytes) : State :=
  let i := streamOf id
  s.toShelf (s.shardSite fp) ⟨⟨.index, i, n, op * 2 ^ 56 + id⟩, false, false, (s.stream i).gen, 0,
    .idxOp op domain (num fp 0 2) id old fp⟩

/-- The hot entry at a chunk's index still names the chunk: no later one was placed over it (R259). -/
def State.hotHolds (s : State) (i domain : Nat) (fp : Bytes) (id : Nat) : Bool :=
  let e := s.ment i
  e.valid && e.full == (hotEntry domain fp id false).full && e.key == (hotEntry domain fp id false).key && e.result.toNat % 2 ^ 48 == id

/-- Rewrite the owner's hot entry of a chunk so that it names `to'`, PENDING clear; none where it has no entry (R259). -/
def State.hotRewrite (s : State) (index : Option Nat) (domain : Nat) (fp : Bytes) (id to' : Nat) : State :=
  match index with
  | some i => if s.hotHolds i domain fp id then s.writeMent (hotRegion fp) i (hotEntry domain fp to' false) else s
  | none => s

/-- Invalidate the hot entries that name a chunk (R259): its own, and those that were rewritten to it, which a record's one index need not name.
A head drops those it wrote for the other stream's chunks too, so that no entry outlives the ID: DEDUCED (log 113). -/
def State.hotDrop (s : State) (domain : Nat) (fp : Bytes) (id : Nat) : State :=
  let g := s.region (hotRegion fp)
  ((SMap.keys s.cam.ents).filter (fun i => decide (g.base ≤ i ∧ i < g.base + g.count) && s.hotHolds i domain fp id)).foldl
    (fun acc i => acc.dropMent (hotRegion fp) i) s

/-- Point the entries of a chunk to another in the bundle of a stream and an epoch (R221, R236, R327). -/
def State.redirect (s : State) (i n l t : Nat) : State := s.setMd (s.head.md.redirect l t n i (fun ns => s.nsStream (ns + 1)))

/-- The entry of a chunk decided DUP now names T: T's record holds its index where it holds none (R259). -/
def MetaSt.noteIndex (m : MetaSt) (t : Nat) (index : Option Nat) : MetaSt :=
  { m with chunks := SMap.modify m.chunks t (fun (c : ChunkRec) => if c.matchIndex.isNone then { c with matchIndex := index } else c) }

/-- The number of a decision's outcome (R388). -/
def decisionNum : Decision → Nat
  | .unique => 1
  | .uniqueLate => 2
  | .dup _ => 3

/-- What a decision of epoch `n` does to the chunk's record, its hot entry and its shard (R223, R224, R234, R259). -/
def State.decideChunk (s : State) (i n : Nat) (w : ChunkWork) (d : Decision) : State :=
  let m := s.head.md.addRef w.chunkId n (-1)
  let m1 := match m.chunk w.chunkId with
    | some c => m.setChunk w.chunkId { c with pending := false } n
    | none => m
  let mine := (s.stream i).mine
  match d with
  | .dup t =>
    let s2 := (s.setMd m1).redirect i n w.chunkId t
    if mine && w.matchIndex.isSome then
      let s3 := s2.hotRewrite w.matchIndex w.domain w.fp w.chunkId t
      if s3.hotHolds (w.matchIndex.getD 0) w.domain w.fp t then s3.setMd (s3.head.md.noteIndex t w.matchIndex) else s3
    else s2
  | _ =>
    let s2 := s.setMd m1
    let s3 := if mine then s2.hotRewrite w.matchIndex w.domain w.fp w.chunkId w.chunkId else s2
    s3.indexOp n 1 w.domain w.chunkId 0 w.fp

/-- Apply a decision. The record of a chunk whose body is not complete yet follows with its body (log 32). -/
def State.applyDecision (s : State) (i n ssn outcome t : Nat) : State :=
  match s.work i ssn with
  | none => s
  | some w =>
    let d : Decision := if outcome = 3 then .dup t else if outcome = 2 then .uniqueLate else .unique
    let s1 := s.setWork i ssn { w with decision := some d, decidedEpn := n }
    if SMap.has s1.head.md.chunks w.chunkId then s1.decideChunk i n w d else s1

/-- The decisions recorded before their chunks' body was complete take effect with it. -/
def State.decideLate (s : State) (i n : Nat) : State :=
  ((s.stream i).epochWork n).foldl (fun acc e => match e.2.decision with
    | some d => acc.decideChunk i e.2.decidedEpn e.2 d
    | none => acc) s

/-- The image of a staging key of a stripe. -/
def State.imgOf (s : State) (stripe : Nat) (isMeta : Bool) (key : Nat) : Bytes :=
  if isMeta then (match s.head.metaImgs.find? (fun x => x.1 == stripe && x.2.1 == key) with | some x => x.2.2 | none => [])
  else (match s.work (streamOf stripe) key with | some w => w.image | none => [])

/-- A stripe takes no more images: it is no longer OPEN. -/
def State.stripeShut (s : State) (stripe : Nat) : Bool :=
  match s.head.md.stripe stripe with
  | some r => r.state != 1
  | none => false

/-- Release the write-buffer bytes of a closed stripe's chunks (R213). One whose leaf its body has not applied yet stays until it has (R331). -/
def State.releaseStripe (s : State) (stripe : Nat) : State :=
  let i := streamOf stripe
  let st := s.stream i
  s.setStream i { st with work := SMap.mapV st.work (fun _ w =>
    if w.stripe = stripe ∧ w.staged ∧ w.epn ≤ st.replayed then { w with content := [], released := true } else w) }

/-- Apply the close record of a Refold target (R370): its strips are written already; its lists name chunk IDs. -/
def State.closeTarget (s : State) (n : Nat) (id : Nat) (r : StripeRec) (ids : List (List Nat)) : State :=
  let empty := ((List.range r.k).filter (fun i => (ids.getD i []).isEmpty)).foldl (fun a i => a + 2 ^ i) 0
  let len := fun (l : List Nat) => l.foldl (fun a c => a + (match s.head.md.chunk c with | some x => granules x.imageLen | none => 0)) 0
  let used := if r.used.isEmpty then ids.map len else r.used
  (s.setMd (s.head.md.setStripe id { r with state := 2, closeEpn := n, empty := empty, kept := ids, used := used, placed := [] } n)).freeSif id

/-- A stripe that the peer opened becomes known (R352): its record, and this head's own SIF record. -/
def State.learnStripe (s : State) (n : Nat) (h : StripeHead) : State :=
  let r : StripeRec := { k := h.k, m := h.m, state := 1, flags := h.flags, layoutGen := h.layoutGen, openEpn := h.openEpn, sites := h.sites }
  let i := streamOf h.stripeId
  let st := s.stream i
  let a := s.setStream i { st with nextStripe := max st.nextStripe (h.stripeId % 2 ^ 47 + 1) }
  (a.setMd (a.head.md.setStripe h.stripeId r n)).takeSif h.stripeId r

/-- The granules at which the kept images of a strip are packed, by staging key (R235). -/
def packedAt : Nat → List (Nat × Nat × Nat) → List (Nat × Nat)
  | _, [] => []
  | g, (key, _, n) :: rest => (key, g) :: packedAt (g + n) rest

/-- Note where a close packs each image, for the chunks whose body is not complete yet. -/
def State.notePacked (s : State) (i : Nat) (kept : List (List (Nat × Nat × Nat))) : State :=
  (kept.flatMap (packedAt 0)).foldl (fun acc p => match acc.work i p.1 with
    | some w => acc.setWork i p.1 { w with packed := some p.2 }
    | none => acc) s

/-- Apply a close record (R235, R354); that of a Refold target carries its stripe record (R370). -/
def State.applyClose (s0 : State) (n : Nat) (h : StripeHead) (ssns : List (List Nat)) : State :=
  let s := if bit h.flags 3 && (s0.head.md.stripe h.stripeId).isNone then s0.learnStripe n h else s0
  match s.head.md.stripe h.stripeId with
  | none => s
  | some r =>
    if r.isTarget then s.closeTarget n h.stripeId r ssns
    else
      let kept := (List.range r.k).map (fun i => (ssns.getD i []).filterMap (fun k =>
        (r.placed.find? (fun p => p.1 == k && p.2.2.1 == i)).map (fun p => (p.1, p.2.1, granules p.2.2.2.2))))
      let s1 := (s.closeStripe h.stripeId n kept (s.imgOf h.stripeId r.isMeta)).releaseStripe h.stripeId
      if r.isMeta then s1 else s1.notePacked (streamOf h.stripeId) kept

/-- Apply a FREE (R225, R234, R329): the record goes, its hot entries, its shard entry by DELETE. -/
def State.applyFree (s : State) (n id : Nat) : State :=
  match s.head.md.chunk id with
  | none => s
  | some c =>
    let i := streamOf id
    let s1 := s.hotDrop c.domain c.fp id
    let s2 := (s1.indexOp n 2 c.domain id 0 c.fp).setMd (s.head.md.free id n)
    let st := s2.stream i
    s2.setStream i { st with work := SMap.mapV st.work (fun _ w => if w.chunkId = id ∧ w.dropSent then { w with freed := true } else w) }

/-- Change Persist Through Power Loss State of a Register: 0 no change, 2 clear, 3 set; 1 is reserved (NVMe 2.0). -/
def Resv.cptpl (r : Resv) (x : Nat) : Resv := { r with ptpl := if x = 2 then false else if x = 3 then true else r.ptpl }

/-- One reservation action on a namespace (R192), the record's key in hand; a Register's record carries CPTPL in place of a type,
and action 7 is Set Features 83h (log 89). A preempt names the holder's key, or under All Registrants 0, to take the reservation (NVMe 2.0). -/
def Resv.act (r : Resv) (host action rtype key : Nat) : Resv :=
  let g := { (if action ≤ 2 then r.cptpl rtype else r) with gen := r.gen + 1 }
  let drop := fun (x : Resv) (h : Nat) =>
    let regs := SMap.del x.regs h
    if x.holder = some h ∨ (5 ≤ x.rtype ∧ regs.isEmpty) then { x with regs := regs, holder := none, rtype := 0 }
    else { x with regs := regs }
  if action = 0 ∨ action = 2 then { g with regs := SMap.set r.regs host key }
  else if action = 1 then drop g host
  else if action = 3 then (if r.rtype = 0 then { r with rtype := rtype, holder := some host } else r)
  else if action = 4 then
    let all := decide (5 ≤ r.rtype)
    let out := (r.regs.filter (fun e => e.1 != host && (e.2 == key || (all && key == 0)))).map (·.1)
    let x := out.foldl drop g
    let takes := if all then key == 0 else match r.holder with | some h => SMap.get r.regs h == some key | none => false
    if takes then { x with rtype := rtype, holder := some host } else x
  else if action = 5 then (if r.holder = some host ∨ (5 ≤ r.rtype ∧ SMap.has r.regs host) then { r with rtype := 0, holder := none } else r)
  else if action = 7 then { r with ptpl := decide (rtype ≠ 0) }
  else { g with regs := [], rtype := 0, holder := none }

/-- Tell the hosts that a change took away from (R192): 1 registration preempted, 2 reservation released, 3 reservation
preempted. -/
def State.resvNotes (s : State) (nsid host action : Nat) (old new : Resv) : State :=
  let kind := if action = 4 then (if old.rtype ≠ 0 ∧ new.holder = some host ∧ old.holder ≠ some host then 3 else 1) else if action = 5 then 2 else if action = 6 then 3 else 0
  if kind = 0 then s
  else
    (SMap.keys s.nvme.ctrls).foldl (fun acc c =>
      let k := acc.ctrl c
      let h := acc.hostOf c
      if h ≠ host ∧ SMap.has old.regs h ∧ (kind == 2 || !SMap.has new.regs h) then
        (acc.setCtrl c { k with resvNotes := k.resvNotes ++ [(kind, nsid)] }).noticeTo c 0x800006
      else acc) s

/-- Apply the reservation records of a command (R192). -/
def State.applyResv (s : State) (c : CmdItem) : State :=
  c.recs.foldl (fun acc k =>
    match k with
    | .resv action rtype key =>
      (match acc.ns c.nsid with
       | none => acc
       | some x =>
         let host := acc.hostOf c.cntlid
         let r := x.resv.act host action rtype key
         (acc.setNs c.nsid { x with resv := r }).resvNotes c.nsid host action x.resv r)
    | .chunk _ => acc
    | .extent _ _ _ => acc) s

/-- Apply one item of a SEAL of epoch `n` (R223 to R237). -/
def State.applySealItem (s : State) (i n : Nat) (x : Item) : State :=
  match x with
  | .command c => s.applyResv c
  | .decision ssn outcome t => s.applyDecision i n ssn outcome t
  | .close h _ ssns => s.applyClose n h ssns
  | .merge l t => s.redirect i n l t
  | .free id => s.applyFree n id
  | .manager r => s.applyMgr i n r
  | .openStripe _ => s
  | .chunk _ => s
  | .image _ _ => s
  | .batch _ _ _ => s
  | .records _ _ => s

/-- Mark chunks whose references are gone in the state through some epoch up to `e`, in the bundle of epoch `n` (R329): the epochs in which REFS
changed tell. -/
def MetaSt.markDying (m : MetaSt) (e n : Nat) : MetaSt :=
  (m.chunks.filter (fun x => !x.2.dying && x.2.refs.any (fun r => decide (r.1 ≤ e) && x.2.refsAt r.1 == 0))).foldl
    (fun acc x => acc.setChunk x.1 { x.2 with dying := true } n) m

/-- Apply a SEAL's items. -/
def State.applySeal (s : State) (i n : Nat) (items : List Item) : State :=
  let s1 := items.foldl (fun acc x => acc.applySealItem i n x) s
  let e := min s1.head.st0.replayed s1.head.st1.replayed
  let m := s1.head.md.markDying e n
  s1.setMd { m with moved := m.moved.filter (fun r => decide (e ≤ r.2.2.1)) }

/-! ### Drops and clean-up -/

/-- The journal flush that carries a decision of an epoch is durable (R234, R631). -/
def State.flushed (s : State) (i n : Nat) : Bool :=
  let r := s.ringHem i
  decide (n ≤ (s.stream i).replayed) && r.batches.all (fun b => decide (n < b.epn) || decide (b.ringSeq ≤ r.flushed))

/-- Send the drops of chunks decided DUP whose flush is durable (R234). -/
def State.sendDrops (s : State) (i : Nat) : State :=
  (s.stream i).work.foldl (fun acc e =>
    let w := e.2
    match w.decision with
    | some (.dup _) =>
      if w.dropSent || !w.staged || !s.flushed i w.decidedEpn then acc
      else
        match acc.head.md.stripe w.stripe with
        | none => acc
        | some r =>
          let f : Frame := ⟨⟨.drop, i, e.1, stripItem w.stripe w.strip⟩, false, false, (s.stream i).gen, 0, .drop⟩
          ((acc.setWork i e.1 { w with dropSent := true, content := [], released := true }).toShelf (r.site w.strip) f).toShelf (r.site r.k) f
    | _ => acc) s

/-- An SSN that an unposted command holds, or that a HIT of another SSN rests on. -/
def StreamSt.needs (st : StreamSt) (ssn : Nat) : Bool :=
  st.cmds.any (fun c => decide (c.firstSsn ≤ ssn ∧ ssn < c.firstSsn + c.count)) || st.work.any (fun e => e.2.outcome == .hitPending ssn)

/-- A work entry that nothing needs any more: released, its body applied, its staging settled or its drop sent. -/
def StreamSt.spent (st : StreamSt) (ssn : Nat) (w : ChunkWork) : Bool :=
  w.released && decide (w.epn ≤ st.replayed) && !st.needs ssn && (!w.staged || (w.landAck && w.mirrorAck) || w.dropSent)

/-- A work entry is still wanted although it is spent: an older entry of its positions is still held, which it supersedes (R333); its stripe is
open, which names the images that are kept (R235); or its query is unanswered, whose late answer goes to the Sort (R223, R236). -/
def State.wanted (s : State) (i ssn : Nat) (w : ChunkWork) : Bool :=
  (s.stream i).work.any (fun e => decide (e.1 < ssn) && !e.2.released && e.2.meets w.nsIndex w.chunkNo w.span)
    || (w.staged && (match s.head.md.stripe w.stripe with | some r => r.state == 1 | none => false))
    || (w.decision == some .uniqueLate && s.head.queries.any (fun q => q.2.1 == i && q.2.2 == ssn))

/-- Some position of a run of chunks is held in a write buffer under an SSN from `ssn` on (R213). -/
def State.runHeld (s : State) (ns first count ssn : Nat) : Bool :=
  (s.head.st0.work ++ s.head.st1.work).any (fun e => !e.2.released && decide (ssn ≤ e.1) && e.2.meets ns first count)

/-- Some position of a run of chunks lies in a SEAL not yet replayed (R332). -/
def State.runSealed (s : State) (ns first count : Nat) : Bool :=
  (s.head.st0.sealOnly ++ s.head.st1.sealOnly).any (fun r => r.2.1 == ns && decide (r.2.2.1 < first + count ∧ first < r.2.2.1 + r.2.2.2))

/-- What an entry of the open-epoch region stands for is still there (R213, R332, R333): its own write or a newer one to the same bytes in the
write buffer; for SEAL_ONLY the body to be replayed. -/
def State.entryHeld (s : State) (e : MEnt) : Bool :=
  let k := e.key.toNat
  let f := e.full.toNat
  let count := 2 ^ (f / 2 ^ 54 % 64)
  if bit e.result.toNat 63 then s.runSealed (k / 2 ^ 40 % 2 ^ 14) (k % 2 ^ 40) count
  else s.runHeld (k / 2 ^ 40 % 2 ^ 14) (k % 2 ^ 40) count (f / 2 ^ 64 % 2 ^ 64)

/-- Entries of the open-epoch region that no write holds there any more leave it (R213, R332). -/
def State.leaveOpen (s : State) : State :=
  let g := s.region 0
  let mine := s.cam.ents.filter (fun e => e.2.valid && decide (g.base ≤ e.1 ∧ e.1 < g.base + g.count))
  mine.foldl (fun acc e => if s.entryHeld e.2 then acc else acc.dropMent 0 e.1) s

/-- Forget spent work. -/
def State.sweep (s : State) (i : Nat) : State :=
  let st := s.stream i
  State.leaveOpen (s.setStream i { st with work := SMap.keep st.work (fun k w => !st.spent k w || s.wanted i k w) })

/-- Forget sections below the newest flushed batch whose commands are posted (R407). -/
def State.prune (s : State) (i : Nat) : State :=
  let st := s.stream i
  s.setStream i { st with bundles := SMap.keep st.bundles (fun n _ =>
    !s.flushed i n || st.cmds.any (fun c => decide (c.epn ≤ n)) || decide (st.replayed ≤ n)) }

/-! ### The body -/

/-- HIT and ZERO chunks of an epoch leave the open-epoch region once their leaf entries are applied (R213, R331). -/
def State.releaseFormed (s : State) (i n : Nat) : State :=
  let st := s.stream i
  State.leaveOpen (s.setStream i { st with work := SMap.mapV st.work (fun _ w =>
    if w.epn = n ∧ (!w.outcome.staged ∨ (w.staged ∧ s.stripeShut w.stripe)) then { w with content := [], released := true } else w) })

/-- What this head alone knows of the chunks of an epoch goes into their records: the index of the hot entry, and the packed place where the
stripe closed before the body was complete (R235, R259). -/
def State.placeFormed (s : State) (i n : Nat) : State :=
  ((s.stream i).epochWork n).foldl (fun acc e =>
    match (if e.2.outcome.staged then acc.head.md.chunk e.2.chunkId else none) with
    | some c => acc.setMd (acc.head.md.setChunk e.2.chunkId { c with
        matchIndex := if e.2.matchIndex.isSome then e.2.matchIndex else c.matchIndex, granule := e.2.packed.getD c.granule, lost := c.lost && e.2.packed.isNone } n)
    | none => acc) s

/-- Records of a class that fit its grant (R164, R165). -/
def State.classBatch (s : State) (i c : Nat) : List JRec :=
  let all := ((s.stream i).classRecs.filter (·.1 == c)).map (·.2)
  let g := (s.credits i).grant.getD c 0
  all.take (4 * (g - 1))

/-- At the seal the epoch's grants take their records (R165): the records of the classes DARN to SORT, those that wait on, and the units of
all the epoch's batches. -/
def State.takeClasses (s : State) (i : Nat) : List (Nat × JRec) × List (Nat × JRec) × Nat :=
  let rs := (s.stream i).classRecs
  let got := fun (c : Nat) => s.classBatch i c
  let taken := [1, 2, 3, 4].flatMap (fun c => (got c).map (fun r => (c, r)))
  let left := [1, 2, 3, 4].flatMap (fun c => (rs.filter (·.1 == c)).drop (got c).length)
  let units := fun (c : Nat) => let k := (got c).length; if k = 0 then 0 else batchUnits k
  (taken, left, batchUnits ((s.credits i).recs.headD 0) + units 1 + units 2 + units 3 + units 4)

/-- Class records of a stream whose batches are not written: those that wait for a grant, and those an epoch has taken. -/
def StreamSt.classWaiting (st : StreamSt) : List (Nat × JRec) :=
  st.classRecs ++ st.bundles.flatMap (fun e => if e.2.bodied then [] else e.2.taken)

/-- Units of a sub-ring that sealed epochs hold and whose batches are not written (R165). -/
def StreamSt.reserved (st : StreamSt) : Nat :=
  st.bundles.foldl (fun a e => if e.2.sealed && !e.2.bodied then a + e.2.reserve else a) 0

/-- A REPL record that names a chunk since decided DUP names what stands in its place (R223, R533). -/
def StreamSt.fixRec (st : StreamSt) (r : JRec) : JRec :=
  match r with
  | .map ns no id app lost =>
    (match st.work.find? (fun e => e.2.chunkId == id && !e.2.freed) with
     | some (_, w) => (match w.decision with | some (.dup t) => .map ns no t app lost | _ => r)
     | none => r)
  | _ => r

/-- Write the batches of the other classes for an epoch: their BATCH and RECORDS items (R163, R388). -/
def State.writeClasses (s : State) (i n : Nat) : List Nat → State × List Item × List Item
  | [] => (s, [], [])
  | c :: cs =>
    let recs := (((s.bundle i n).taken.filter (·.1 == c)).map (·.2)).map (s.stream i).fixRec
    if recs.isEmpty then s.writeClasses i n cs
    else
      let w := s.writeBatch i c n recs
      let r := w.1.writeClasses i n cs
      (r.1, .batch c recs.length w.2.2 :: r.2.1, .records c recs :: r.2.2)

/-- The OPEN items of stripes a body is the first to use (R352). -/
def State.openItems (s : State) (i n : Nat) : List Item :=
  (s.stream i).opens.filterMap (fun id =>
    match s.head.md.stripe id with
    | some r => if r.isMeta || r.isTarget || (s.stream i).work.any (fun e => e.2.stripe == id && e.2.epn == n) then some (.openStripe ({ r with state := 1 : StripeRec }.head id)) else none
    | none => none)

/-- The BATCH item of a class. -/
def batchItem (items : List Item) (cls : Nat) : Option (Nat × Nat) :=
  items.findSome? (fun x => match x with | .batch c n crc => if c = cls then some (n, crc) else none | _ => none)

/-- The RECORDS items of a body, by class. -/
def recordItems (items : List Item) : List (Nat × List JRec) :=
  items.filterMap (fun x => match x with | .records c rs => some (c, rs) | _ => none)

/-- Apply the bundle of a stream and an epoch to the state (R327): of the other head's, the SEAL's items too, which its owner applied at the seal. -/
def State.applyBundle (s : State) (i n : Nat) : State :=
  let b := s.bundle i n
  let cmds := sealCmds b.sealItems
  let s1 := if b.own then s else (s.applySeal i n b.sealItems).sendDrops i
  let s2 := ((recordItems b.bodyItems).flatMap (·.2)).foldl (fun acc r => acc.applyJRec n r) s1
  let s3 := s2.applyMap i n cmds (bodyChunks b.bodyItems)
  let s4 := s3.setBundle i n { b with applied := true }
  let st := s4.stream i
  let s5 := s4.setStream i { st with replayed := max st.replayed n, sealOnly := st.sealOnly.filter (fun r => decide (n < r.1)) }
  if b.own then ((s5.placeFormed i n).decideLate i n).releaseFormed i n
  else (((cmds.foldl (fun acc c => acc.enterCmd c false) s5.leaveOpen).sweep i).prune i)

/-- Epochs of a stream after the newest SEAL seen, up to `lim`, are sealed by some head in service. -/
def State.moreTo (s : State) (j lim : Nat) : Bool :=
  let st := s.stream j
  let m := max (st.sealSeen + 1) (if st.mine then st.admitFrom else 0)
  decide (m ≤ lim) && (st.owns m || (s.peerUp && !(st.mine && st.admitUntil.isNone)))

/-- Every bundle of a stream through epoch `lim` has been applied. -/
def State.appliedTo (s : State) (j lim : Nat) : Bool :=
  (s.stream j).bundles.all (fun e => decide (lim < e.1) || e.2.applied) && !s.moreTo j lim

/-- The next bundle in the order of R327: epoch by epoch, stream 0 before stream 1. -/
def State.nextInOrder (s : State) : Option (Nat × Nat) :=
  let cand := fun (i : Nat) =>
    match (s.stream i).bundles.find? (fun e => !e.2.applied) with
    | some (n, b) => if b.bodied && s.appliedTo (1 - i) (if i = 0 then n - 1 else n) then some (i, n) else none
    | none => none
  match cand 0 with
  | some x => some x
  | none => cand 1

/-- Apply what the order of R327 lets be applied. -/
def applyGo : Nat → State → State
  | 0, s => s
  | f + 1, s =>
    match s.nextInOrder with
    | some (i, n) => applyGo f (s.applyBundle i n)
    | none => s

/-- Apply every bundle whose turn has come. -/
def State.applyReady (s : State) : State := applyGo (s.head.st0.bundles.length + s.head.st1.bundles.length) s

/-- Complete a body (R215): its items and the Hem batches; the state takes it in its turn (R327). -/
def State.completeBody (s : State) (i n : Nat) : State :=
  let st := s.stream i
  let b := s.bundle i n
  let ws := (st.epochWork n).filter (fun e => e.2.extent.isNone)
  let chunks := ws.map (fun e => st.chunkItem e.1 e.2)
  let imgs := (ws.filter (fun e => e.2.outcome.staged)).map (fun e => Item.image e.1 e.2.image)
  let opens := s.openItems i n
  let opened := opens.filterMap (fun x => match x with | .openStripe h => some h.stripeId | _ => none)
  let recs := ingestRecs (sealCmds b.sealItems) chunks
  let w := s.writeBatch i 0 n recs
  let c := w.1.writeClasses i n [1, 2, 3, 4]
  let items := opens ++ chunks.map Item.chunk ++ imgs ++ [Item.batch 0 recs.length w.2.2] ++ c.2.1 ++ c.2.2
  let s2 := c.1.setBundle i n { b with bodyItems := items, bodied := true, batchSeq := w.2.1, bodyT := s.time.t }
  let st2 := s2.stream i
  let used := batchUnits recs.length + (c.1.ringHem i).used - (w.1.ringHem i).used
  let cr := s2.credits i
  ((s2.setStream i { st2 with opens := st2.opens.filter (fun x => !opened.contains x), bodySeen := max st2.bodySeen n }).setCredits i
    { cr with hist := cr.hist.map (fun (g : GrantRec) => if g.epn = n then { g with used := used } else g) }).applyReady

/-- BODY_COMPLETE (R215, R162): every chunk record of the epoch formed, every image staged; epochs complete in order. -/
def bodyComplete (i : Fin 2) (n : Nat) (s : State) : Res :=
  let st := s.stream i
  let b := s.bundle i n
  onlyIf (s.headUp && st.owns n && b.sealed && !b.bodied && (st.epochWork n).all (fun e => e.2.ready)
      && st.bundles.all (fun e => decide (n ≤ e.1) || e.2.bodied)) s
    (fun s => s.completeBody i n)

/-! ### Headers -/

/-- The header of a section, complete but for nothing (R216). -/
def State.header (s : State) (i n : Nat) (b : Bundle) (body : Bool) : BundleHdr :=
  let items := if body then b.bodyItems else b.sealItems
  let bs := bundleBytes items
  { stream := i, kind := if body then 2 else 1, empty := bit b.flags 0, takeover := bit b.flags 1, qualityLow := bit b.flags 2, epn := n
    firstSsn := b.firstSsn, ssnCount := b.ssnCount, commands := b.commands, items := countItems (if body then 2 else 1) items
    batchSeq := if body then b.batchSeq else 0, releasedSeq := b.released, sectionLen := bs.length, sectionDigest := sha256 bs
    prevDigest := (s.stream i).prevDigest, arrayTime := if body then b.bodyT else b.sealT }

/-- Bytes 0 and 1 of the header's place in the chain (R389): the section before it has its header. -/
def State.chainReady (s : State) (i n : Nat) (body : Bool) : Bool :=
  let st := s.stream i
  if body then (s.bundle i n).sealHdr.isSome
  else st.bundles.all (fun e => decide (n ≤ e.1) || e.2.bodyHdr.isSome)

/-- The peer takes sections: it is in service, or replays and has asked for what it lacks (R19, R390, R407). -/
def State.peerTakes (s : State) : Bool := decide (s.seam.peerState = 0 ∨ (s.seam.peerState = 2 ∧ s.seam.peerCaught))

/-- SECTION_DIGEST_RETURN (R389, R390): the header is completed, written to the Hem, and sent as the end of its message; while the
peer is not in service the section only passes the hash in loopback. -/
def execSectionDigestReturn (i : Fin 2) (n : Nat) (body : Bool) (s : State) : Res :=
  let b := s.bundle i n
  onlyIf (s.headUp && (s.stream i).owns n && (if body then b.bodied && b.bodyHdr.isNone else b.sealed && b.sealHdr.isNone)
      && s.chainReady i n body) s
    (fun s =>
      let h := s.header i n b body
      let s1 := s.setBundle i n (if body then { b with bodyHdr := some h } else { b with sealHdr := some h })
      let st := s1.stream i
      let s2 := (s1.setStream i { st with prevDigest := h.sectionDigest }).putHeader h
      if s2.peerTakes then s2.sendSeam i n (.sect h (if body then b.bodyItems else b.sealItems)) else s2)

/-- The three Hem records of an epoch are durable here (R392). -/
def Bundle.durable (b : Bundle) : Bool := b.durSeal && b.durBody && b.durBatch

/-- HEM_DURABLE (R154, R392): a record of an epoch, 0 SEAL header, 1 BODY header, 2 INGEST batch, becomes durable; the peer reports
DURABLE once all three are. -/
def hemDurable (i : Fin 2) (n : Nat) (what : Fin 3) (s : State) : Res :=
  let b := s.bundle i n
  let there := if what.val = 0 then b.sealHdr.isSome else if what.val = 1 then b.bodyHdr.isSome else b.bodied
  onlyIf (s.fw && s.isHead && there) s
    (fun s =>
      let b1 := if what.val = 0 then { b with durSeal := true } else if what.val = 1 then { b with durBody := true } else { b with durBatch := true }
      let s1 := s.setBundle i n b1
      if !(s.stream i).owns n && b1.durable && !b.durable && !s.seam.rejoining && decide (s.seam.reportFrom ≤ n) then
        s1.sendSeam i n (.durable 7)
      else s1)

/-! ### Completion -/

/-- Condition 6 of R231 applies: the array is a source whose session is synchronous (R535). -/
def State.syncRepl (s : State) : Bool := s.p p_repl_role == 1 && s.p p_repl_mode == 1 && !s.head.md.syncOff

/-- Landing and mirror copies of an SSN are acknowledged, or nothing of it is staged (R231 conditions 4 and 5); `fuel` bounds the
chain of HITs. -/
def StreamSt.safe (st : StreamSt) : Nat → Nat → Bool
  | 0, _ => false
  | fuel + 1, ssn =>
    match SMap.get st.work ssn with
    | none => true
    | some w =>
      match w.outcome with
      | .hitPending p => st.safe fuel p
      | .pending => w.landAck && w.mirrorAck
      | .unique => w.landAck && w.mirrorAck
      | .forming => false
      | .zero => true
      | .hitStored _ => true

/-- A command is durable (R231). -/
def State.isDurable (s : State) (i : Nat) (c : AdmCmd) : Bool :=
  let st := s.stream i
  let b := s.bundle i c.epn
  decide (c.epn + 3 ≤ s.epn) && b.durable && (!s.peerUp || decide (c.epn < s.seam.peerFrom) || b.peerDur)
    && (List.range c.count).all (fun j => st.safe (st.work.length + 1) (c.firstSsn + j)) && (!s.syncRepl || b.partner)

/-- WRITE_COMPLETION_POST (R231, R232): both commands of a fused pair complete together. Only what is durable is posted, and State.recoverStream
keeps whole epochs of it, so a discarded write was never completed and is absent whole (R239). -/
def execWriteCompletionPost (cmd : CmdId) (s : State) : Res :=
  .next (match [0, 1].find? (fun i => (s.stream i).cmds.any (·.cmd == cmd)) with
    | none => s
    | some i =>
      match (s.stream i).cmds.find? (·.cmd == cmd) with
      | none => s
      | some c =>
        if !(s.headUp && s.isDurable i c && !s.seam.leaseLost && !s.seam.ioStopped) then s
        else
          let st := s.stream i
          let s1 := s.setStream i { st with cmds := st.cmds.filter (fun x => x.cmd != cmd) }
          let s2 := match c.cmp with
            | some (cid, cs) => s1.reply { cmd with cid := cid } c.fromPeer cs
            | none => s1
          ((s2.reply cmd c.fromPeer c.st).sweep i).prune i)

end Sys2Proof.Machine
end

