-- ==== Sys2Proof/Machine/Seal.lean ====
section
/-! DEFINITION. Phase 0 at an owner (R165 to R167, R214, R223, R235, R329, R631): decisions, closes, frees, the seal, the credits
of the new epoch and the journal flush; the Sort (R236); the replies of index operations (R222, R264, R265). -/

namespace Sys2Proof.Machine

/-! ### Decisions, closes, frees -/

/-- The decision of a PENDING chunk at phase 0 of epoch `x` (R223). -/
def State.decide? (s : State) (i x : Nat) (late : Bool) (w : ChunkWork) : Option (Nat × Nat) :=
  if w.outcome != .pending || w.decision.isSome || decide (x ≤ w.epn) then none
  else if late then some (2, 0)
  else
    match w.reply with
    | some (some t) => if s.liveFor t (x - 1) w.domain w.fp then some (3, t) else some (1, 0)
    | some none => some (1, 0)
    | none => if w.epn + s.p p_dedupe_decide_epochs ≤ x then some (2, 0) else none

/-- The DECISION items of a seal (R223). -/
def State.decisions (s : State) (i x : Nat) : List Item :=
  let st := s.stream i
  st.work.filterMap (fun e => (s.decide? i x st.takeoverNext e.2).map (fun d => .decision e.1 d.1 d.2))

/-- Work placed in a stripe. -/
def State.placedWork (s : State) (id : Nat) : List (Nat × ChunkWork) :=
  (s.stream (streamOf id)).work.filter (fun e => e.2.stripe == id && e.2.staged)

/-- C of R235 for a stripe: the chunk size of the images it holds, the greatest where they differ; 8 KiB where it holds none (log 33). -/
def State.imageRoom (s : State) (id : Nat) (r : StripeRec) : Nat :=
  match (s.placedWork id).map (fun e => s.chunkSize e.2.domain)
      ++ r.placed.filterMap (fun p => (s.head.md.chunk p.2.1).map (fun c => s.chunkSize c.domain)) with
  | [] => 8192
  | c :: cs => cs.foldl max c

/-- No data strip has room for another C-byte image (R235). -/
def State.full (s : State) (id : Nat) (r : StripeRec) : Bool := (r.room (if r.isMeta then 8192 else s.imageRoom id r)).isNone

/-- A work entry lets its stripe close (R235): it is not PENDING, and its drop is sent where it is decided DUP. -/
def ChunkWork.settled (w : ChunkWork) : Bool :=
  match w.decision with
  | none => w.outcome != .pending
  | some (.dup _) => w.dropSent
  | some .unique => true
  | some .uniqueLate => true

/-- A stripe names a shelf that is absent for a planned restart (R362). -/
def State.namesAbsent (s : State) (r : StripeRec) : Bool := r.sites.any s.isAbsent

/-- A barrier closes an open stripe (R90): in step 2 every one, and once the pages are written those that took them. -/
def State.barrierCloses (s : State) : Bool :=
  match s.boot.barrier with
  | some b => b.step == 1 || decide (3 ≤ b.step)
  | none => false

/-- Whether an open stripe closes at phase 0 of epoch `x` (R90, R235, R355, R362): a recovered one at the first seal. -/
def State.closes? (s : State) (x id : Nat) (r : StripeRec) : Bool :=
  r.state == 1 && !r.isTarget
    && (s.full id r || bit r.flags 1 || decide (r.openEpn + s.p p_stripe_close_epochs ≤ x) || s.namesAbsent r
      || s.barrierCloses)
    && (r.isMeta || (s.placedWork id).all (fun e => e.2.settled))

/-- A staging key is kept at a close: its chunk is not decided DUP (R235). -/
def State.kept? (s : State) (id : Nat) (r : StripeRec) (key : Nat) : Bool :=
  r.isMeta || (match s.work (streamOf id) key with
    | some w => (match w.decision with | some (.dup _) => false | _ => true)
    | none => true)

/-- The CLOSE items of a seal of epoch `n`. -/
def State.closeItems (s : State) (i x n : Nat) : List Item :=
  (s.head.md.stripes.filter (fun e => streamOf e.1 == i && s.closes? x e.1 e.2)).map (fun e =>
    .close ({ e.2 with state := 2 : StripeRec }.head e.1) n ((e.2.keptOf (s.kept? e.1 e.2)).map (·.map (·.1))))

/-- A chunk may be freed at phase 0 of epoch `x` (R329). -/
def State.freeable (s : State) (x : Nat) (c : ChunkRec) : Bool :=
  !c.pending && c.refs.any (fun r => decide (r.1 + 5 ≤ x)) && c.refsAt (x - 5) == 0 && c.refsAt (x - 4) == 0 && c.refsAt (x - 3) == 0
    && decide (x ≤ s.head.st0.replayed + 3 ∧ x ≤ s.head.st1.replayed + 3)

/-- Chunk IDs of a stream to free: dropped ones, each once (R234), and those without references (R329). One decided DUP is freed
after its drop alone. -/
def State.freeItems (s : State) (i x : Nat) : List Item :=
  let dropped := (s.stream i).work.filterMap (fun e =>
    if e.2.dropSent && !e.2.freed && SMap.has s.head.md.chunks e.2.chunkId then some e.2.chunkId else none)
  let undropped := fun (id : Nat) => (s.stream i).work.any (fun e =>
    e.2.chunkId == id && (match e.2.decision with | some (.dup _) => !e.2.dropSent | _ => false))
  let dead := (s.head.md.chunks.filter (fun e => streamOf e.1 == i && s.freeable x e.2 && !undropped e.1)).map (·.1)
  ((dropped ++ dead).eraseDups).map Item.free

/-! ### The seal -/

/-- FLAGS of a SEAL header (R216): EMPTY, TAKEOVER, QUALITY_LOW. -/
def State.sealFlags (s : State) (st : StreamSt) (cmds : Nat) : Nat :=
  b2n (cmds == 0) + 2 * b2n st.takeoverNext + 4 * b2n (s.time.quality != .locked)

/-- A chunk is live now (R236): its record live, referenced, not lost. -/
def State.isLive (s : State) (id : Nat) : Bool :=
  match s.head.md.chunk id with
  | some c => s.liveFor id s.epn c.domain c.fp
  | none => false

/-- A merge may be recorded in the bundle of epoch `e` (R236, R328): both chunks live and alike. -/
def State.mayMerge (s : State) (e l t : Nat) : Bool :=
  match s.head.md.chunk l, s.head.md.chunk t with
  | some a, some b => a.fp == b.fp && a.domain == b.domain && s.liveFor l e a.domain a.fp && s.liveFor t e a.domain a.fp
  | _, _ => false

/-- Merges that may no longer be recorded at this seal are forgotten (R236). -/
def State.dropMerges (s : State) (i : Nat) : State :=
  let st := s.stream i
  s.setStream i { st with classRecs := st.classRecs.filter (fun r => match r.2 with | .merge l t => s.mayMerge (s.epn - 1) l t | _ => true) }

/-- Seal a stream's epoch before the current one (R214). The merges sealed are those whose journal records the SORT grant takes (R236). The
closes are those of the state before this seal's decisions, so a chunk decided here still counts as PENDING for them: DESIGN CHOICE (R235, log
103). -/
def State.sealStream (s0 : State) (i : Nat) : State :=
  let s := s0.dropMerges i
  let x := s.epn
  let n := x - 1
  let st := s.stream i
  let until' := match st.admitUntil with
    | some e => decide (n < e)
    | none => true
  if !(st.mine && decide (st.admitFrom ≤ n ∧ st.sealedEpn < n) && until' && s.headUp && s.boot.rebaseDue.isNone) then s0
  else
    let cmds := st.cmds.filter (·.epn == n)
    let cl := s.takeClasses i
    let merges := cl.1.filterMap (fun r => match r.2 with | .merge l t => some (Item.merge l t) | _ => none)
    let items := cmds.map (fun c => Item.command c.item) ++ s.decisions i x ++ s.closeItems i x n ++ merges ++ st.sealQueue ++ s.freeItems i x
    let b : Bundle := { taken := cl.1, reserve := cl.2.2, sealItems := items, sealed := true, own := true, firstSsn := st.epochFirst, ssnCount := st.nextSsn - st.epochFirst
                        commands := cmds.length, flags := s.sealFlags st cmds.length, sealT := s.time.t
                        released := (s.ringHem i).flushed }
    let s1 := s.setStream i { st with
      bundles := SMap.set st.bundles n b, sealedEpn := n, sealSeen := n, takeoverNext := false, epochFirst := st.nextSsn, epochBytes := 0
      sealQueue := [], classRecs := cl.2.1 }
    ((((s1.releaseTo i b.released).applySeal i n items).sendDrops i).sweep i).prune i

/-! ### Credits -/

/-- Second step of R165: what each class may still take, in priority order. -/
def creditRest (f : Nat) : List (Nat × Nat × Nat) → Nat → List Nat
  | [], _ => []
  | (d, g, ceil) :: cs, rest =>
    let add := min (min (d - g) (f * ceil / 100 - g)) rest
    (g + add) :: creditRest f cs (rest - add)

/-- Grants of an epoch (R165): from f, the demands, the floors and the ceilings. -/
def creditGrants (f : Nat) (d floors ceils : List Nat) : List Nat :=
  let g := List.zipWith (fun x fl => min x (f * fl / 100)) d floors
  creditRest f (List.zipWith (fun x (y : Nat × Nat) => (x, y.1, y.2)) d (List.zip g ceils)) (f - g.foldl (· + ·) 0)

/-- Grant the credits of the new epoch (R165), check the bundle headers (R166), and count for R167. -/
def State.grantCredits (s : State) (i : Nat) : State :=
  let st := s.stream i
  if !(st.owns s.epn && s.headUp) then s
  else
    let f := subRingUnits - (s.ringHem i).used - st.reserved
    let ing := s.p p_hem_ingest_epoch_units
    let d0 := if ing = 0 then 8 * s.p p_epoch_length_us else ing
    let want := fun c => let k := (st.classRecs.filter (·.1 == c)).length; if k = 0 then 0 else batchUnits k
    let d := [d0, want 1, want 2, want 3, want 4]
    let per := fun (p : Nat) => (List.range 5).map (s.pi p)
    let g := creditGrants f d (per p_hem_floor_pct) (per p_hem_ceil_pct)
    let c := s.credits i
    let low := decide (f * 100 < s.p p_hem_low_water_pct * subRingUnits)
    let g0 := g.headD 0
    let c1 := { c with
      free := f, grant := g, demand := d, recs := [0, 0, 0, 0, 0], hist := (⟨s.epn, f, g, d, 0⟩ :: c.hist).take 256
      lowEpochs := if low then c.lowEpochs + 1 else 0, aboveEpochs := if low then 0 else c.aboveEpochs + 1
      stallEpochs := if g0 = 0 then c.stallEpochs + 1 else 0 }
    let s1 := (s.setCredits i c1).setStream i { st with headersFree := decide ((s.hem.bundles.length) + 2 ≤ bundleCap) }
    let s2 := if g0 < d0 then s1.event EV_HEM_ADMIT_THROTTLED (srcOf 12 i) else s1
    let s3 := if 64 ≤ c1.aboveEpochs then s2.clearAlarm AL_HEM_CREDIT_LOW (srcOf 12 i) else s2
    if 0 < g0 then s3.clearAlarm AL_HEM_ADMIT_STALL (srcOf 12 i) else s3

/-- HEM_CREDIT_LOW (R167): f below the low water for 64 consecutive epochs. -/
def execHemCreditLow (i : Fin 2) (s : State) : Res :=
  onlyIf (s.headUp && decide (64 ≤ (s.credits i).lowEpochs)) s (fun s => s.alarm AL_HEM_CREDIT_LOW (srcOf 12 i))

/-- HEM_ADMIT_STALL (R167): INGEST granted 0 for `hem.stall_alarm_epochs` consecutive epochs. -/
def execHemAdmitStall (i : Fin 2) (s : State) : Res :=
  onlyIf (s.headUp && decide (s.p p_hem_stall_alarm_epochs ≤ (s.credits i).stallEpochs ∧ 0 < (s.credits i).stallEpochs)) s
    (fun s => s.alarm AL_HEM_ADMIT_STALL (srcOf 12 i))

/-! ### Metadata appends and the journal flush -/

/-- The 64 bytes of a chunk record (R323); REFS and MATCH_INDEX as this head holds them. -/
def chunkRecBytes (id : Nat) (c : ChunkRec) : Bytes :=
  let flags := b2n c.live + 2 * b2n c.raw + 4 * b2n c.lost + 8 * b2n c.pending + 16 * b2n c.dying + 32 * (c.lostBlocks % 4)
  let body := padTo 32 c.fp ++ le 6 id ++ le 1 c.domain ++ le 1 flags ++ le 2 c.imageLen ++ le 2 c.granule ++ le 1 c.strip ++ zeros 1
    ++ le 6 c.stripeId ++ le 4 c.refsNow.toNat ++ le 4 (c.matchIndex.getD 0xFFFFFFFF)
  body ++ le 4 (crc32c body)

/-- Chunk records that a batch creates: those its MAP records name and whose first epoch is the batch's (R326). -/
def MetaSt.batchChunks (m : MetaSt) (b : Batch) : Bytes :=
  b.recs.flatMap (fun r => match r with
    | .map _ _ id _ _ =>
      (match m.chunk id with
       | some c => if c.refs.all (fun x => decide (b.epn ≤ x.1)) then chunkRecBytes id { c with matchIndex := none } else []
       | none => [])
    | _ => [])

/-- A batch as a journal strip carries it (R631). -/
def MetaSt.stripBatch (m : MetaSt) (b : Batch) : Bytes := b.header ++ recBytes b.recs ++ m.batchChunks b

/-- Pack whole batches into strips of at most 65,280 bytes, in order: the bytes and the batches of each. -/
def packStrips (m : MetaSt) : List Batch → Bytes → List Batch → List (Bytes × List Batch)
  | [], acc, bs => if bs.isEmpty then [] else [(acc, bs)]
  | b :: rest, acc, bs =>
    let x := m.stripBatch b
    if bs.isEmpty ∨ acc.length + x.length ≤ 65280 then packStrips m rest (acc ++ x) (bs ++ [b])
    else (acc, bs) :: packStrips m rest x [b]

/-- The owner opens a metadata stripe where none of a stream's has room for an image (R227, R324), as far as R227 and R352 let it. -/
def State.metaRoom (s : State) (i len : Nat) : State :=
  if (s.stream i).mine && (s.placeFor i true len).isNone then (match s.newStripe i 1 with | some r => r.2 | none => s) else s

/-- Send one metadata append of a stream (R324, R631): SEQ and ITEM of its tag, its bytes; none where no metadata stripe has room and none can be
opened. Answers the landing and first parity sites. -/
def State.sendMeta (s0 : State) (i seq item : Nat) (bs : Bytes) : Option (Nat × Nat × State) :=
  let img := padTo (64 * granules bs.length) bs
  let s := s0.metaRoom i img.length
  match s.placeFor i true img.length with
  | none => none
  | some (stripe, strip, g) =>
    match s.head.md.stripe stripe with
    | none => none
    | some r =>
      let key := seq * 65536 + r.placed.length
      let h : AppendHead := { imageLen := img.length, granule := g, raw := true, mirror := false, domain := 0xFF, nsIndex := 0, chunkNo := 0
                              chunkId := 0, appTag := 0, birth := s.epn, fp := zeros 32, crc64 := crc64 img, refTag := item % 2 ^ 48
                              checkApp := 0xFFFF, lostBlocks := 0 }
      let s1 := s.notePlace stripe (key, item, strip, g, img.length)
      let s2 := { s1 with head := { s1.head with metaImgs := s1.head.metaImgs ++ [(stripe, key, img)] } }
      some (r.site strip, r.site r.k, s2.sendImage ⟨.metaPage, i, seq, item⟩ (s.stream i).gen r strip h img)

/-- Send journal strips, each with its batches (R631): a strip that is not full only once its oldest batch is 8 epochs old. -/
def flushGo (i : Nat) : List (Bytes × List Batch) → State → State
  | [], s => s
  | (bs, batches) :: rest, s =>
    let old := match batches with
      | [] => false
      | b :: _ => decide (b.wrote + 8 ≤ s.epn)
    if rest.isEmpty && !old then s
    else
      let last := (batches.getLast?.map (·.ringSeq)).getD 0
      match s.sendMeta i last (4 * 2 ^ 60) bs with
      | none => s
      | some (land, mir, s1) =>
        let st := s1.stream i
        flushGo i rest (s1.setStream i { st with strips := st.strips ++ [(last, land, mir, false, false)] })

/-- The journal flush of a stream at phase 0 (R631); both heads apply it. -/
def State.journalFlush (s : State) (i : Nat) : State :=
  let r := s.ringHem i
  let last := ((s.stream i).strips.getLast?.map (·.1)).getD r.flushed
  flushGo i (packStrips s.head.md (r.batches.filter (fun b => decide (last < b.ringSeq))) [] []) s

/-- Strips acknowledged from the oldest on move the flushed mark (R163, R631). -/
def flushedGo : List (Nat × Nat × Nat × Bool × Bool) → Nat → List (Nat × Nat × Nat × Bool × Bool) × Nat
  | [], f => ([], f)
  | e :: rest, f => if e.2.2.2.1 && e.2.2.2.2 then flushedGo rest e.1 else (e :: rest, f)

/-- A journal strip's append is acknowledged by a site (R631). -/
def State.stripAcked (s : State) (i seq site : Nat) : State :=
  let st := s.stream i
  let strips := st.strips.map (fun e => if e.1 = seq then
    (e.1, e.2.1, e.2.2.1, e.2.2.2.1 || e.2.1 == site, e.2.2.2.2 || e.2.2.1 == site) else e)
  let r := s.ringHem i
  let x := flushedGo strips r.flushed
  ((s.setStream i { st with strips := x.1 }).setRingHem i { r with flushed := x.2 }).sendDrops i

/-! ### The Sort and the index replies -/

/-- Hand a late duplicate to the Sort (R236). -/
def State.sortCandidate (s : State) (l t : Nat) : State :=
  let i := streamOf l
  let st := s.stream i
  s.setStream i { st with sortCands := if st.sortCands.contains (l, t) then st.sortCands else st.sortCands ++ [(l, t)] }

/-- Merges of a stream in the second of array time that runs. -/
def State.sorted (s : State) (st : StreamSt) : Nat := if st.sortEpoch = s.time.t / 100000000 then st.sortCount else 0

/-- SORT_MERGE (R236, R237): the Sort takes a candidate, both chunks live and alike, within its rate. The merge and its SORT record go into the
seal whose grant takes them. -/
def execSortMerge (l t : Nat) (s : State) : Res :=
  let i := streamOf l
  let st := s.stream i
  onlyIf (s.headUp && st.mine && st.sortCands.contains (l, t) && decide (s.sorted st < s.p p_dedupe_sort_rate_per_s)) s
    (fun s =>
      let rest := st.sortCands.filter (· != (l, t))
      if s.mayMerge s.epn l t then
        s.setStream i { st with sortCands := rest, sortEpoch := s.time.t / 100000000, sortCount := s.sorted st + 1
                                classRecs := st.classRecs ++ [(4, .merge l t)] }
      else s.setStream i { st with sortCands := rest })

/-- Take a request off the list of unfinished sends. -/
def State.replied (s : State) (site req : Nat) : State :=
  { s with head := { s.head with sent := s.head.sent.filter (fun e => !(e.site == site && e.frame.reqId == req && e.frame.tag.cls == .none)) } }

/-- The answer to a look-up for a replication record (R532): a live chunk is found, otherwise F is to be pulled. -/
def State.replLooked (s : State) (req result chunkId : Nat) : State :=
  let upd := fun (r : TargetRec) =>
    if r.st = 0 ∧ r.ssn = req ∧ result ≠ 2 then
      (if result = 1 ∧ s.liveFor chunkId (s.epn - 1) r.item.domain r.item.fp then { r with st := 2, chunkId := chunkId, ssn := 0 }
       else { r with st := 5, ssn := 0 })
    else r
  { s with repl := { s.repl with recs := s.repl.recs.map upd } }

/-- IDX_QUERY_REPLY (R222, R223, R264): RESULT 0 ABSENT, 1 DUP, 2 NOT_READY, which counts as no reply; a reply after the decision is
discarded, but a DUP for a UNIQUE_LATE chunk goes to the Sort. -/
def idxQueryReply (h : FrameHdr) (result chunkId : Nat) (s : State) : Res :=
  onFrame h s (fun s0 =>
    let s := s0.replied h.port h.reqId
    match s.head.queries.find? (·.1 == h.reqId) with
    | none => s
    | some (_, i, ssn) =>
      let s1 := { s with head := { s.head with queries := s.head.queries.filter (·.1 != h.reqId) } }
      if i = 2 then s1.replLooked ssn result chunkId
      else
      match s1.work i ssn with
      | none => s1
      | some w =>
        match w.decision with
        | none => if result = 2 then s1 else s1.setWork i ssn { w with reply := some (if result = 1 then some chunkId else none) }
        | some .uniqueLate => if result = 1 then s1.sortCandidate w.chunkId chunkId else s1
        | some .unique => s1
        | some (.dup _) => s1)

/-- IDX_OP_REPLY (R265): a LATE_DUP(S) with S not live under R260 leads to REPLACE, otherwise the pair goes to the Sort. RESULT
3 is LATE_DUP. -/
def execIdxOpReply (h : FrameHdr) (op chunkId result named : Nat) (s : State) : Res :=
  onFrame h s (fun s =>
    let s1 := State.pump { s with head := { s.head with sent := s.head.sent.filter (fun e =>
      !(e.site == h.port.val && (if e.frame.tag.cls = .index then e.frame.tag.item == op * 2 ^ 56 + chunkId else e.frame.reqId == h.reqId))) } }
    if op ≠ 1 ∨ result ≠ 3 ∨ !s1.headUp then s1
    else
      match s1.head.md.chunk chunkId with
      | none => s1
      | some c =>
        let live := match s1.head.md.chunk named with
          | some x => x.live && !x.dying && x.domain == c.domain && x.fp == c.fp
          | none => false
        if live then s1.sortCandidate chunkId named else s1.indexOp (s1.epn - 1) 3 c.domain chunkId named c.fp)

end Sys2Proof.Machine
end

