-- ==== Sys2Proof/Machine/Replay.lean ====
section
/-! DEFINITION. Replay of the peer's sections (R391 to R393), standing down (R404), resends, catch-up and DURABLE (R387, R391, R392,
R407), and manager commands forwarded and completed (R189). -/

namespace Sys2Proof.Machine

/-! ### Standing down -/

/-- ANA statuses (R191): Persistent Loss, Inaccessible, Transition. -/
def nvAnaLoss : NvmeSt := ⟨3, 0x01, true⟩
def nvAnaInacc : NvmeSt := ⟨3, 0x02, false⟩
def nvAnaTrans : NvmeSt := ⟨3, 0x03, false⟩

/-- The body of a stream's last admitted epoch is complete and reported, where the link lets it be (R404 step 2). -/
def State.lastDone (s : State) (i : Nat) : Bool :=
  let st := s.stream i
  st.bundles.all (fun e => e.2.bodied && e.2.bodyHdr.isSome && (!s.peerTakes || !s.seam.linkUp || e.2.peerDur))
    && (match st.admitUntil with | some e => decide (e ≤ s.epn ∧ e ≤ st.sealedEpn + 1) | none => false)

/-- `image.array_id` (R86). -/
def State.arrayId (s : State) : Bytes := padTo 16 (paramBytes s.params p_image_array_id 0)

/-- A lease frame's payload from this head's view (R432). -/
def State.leaseReq (s : State) (gen : Nat) : LeaseReq :=
  { arrayId := s.arrayId, leaseGen := gen, epn := s.epn, setOwner := false, setManager := false, clearFence := false
    setBase := false, setBarrier := false, siteArg := 0, streamArg := 0, ownerArg := 0, streamGen := 0, resumeSsn := 0, eBase := 0
    tBase := 0, barrierEpn := 0 }

/-- Release a stream (R404 steps 3 and 4): RELEASE over the Seam and to every shelf, the waiting commands answered. -/
def State.releaseStream (s : State) (i : Nat) : State :=
  let st := s.stream i
  let gen := s.seam.leaseGen + 1
  let s1 := s.sendSeam i s.epn (.release ((st.admitUntil.getD s.epn) - 1) st.nextSsn)
  let s2 := s1.toAll (bareFrame (.release { s1.leaseReq gen with
    siteArg := s1.site, streamArg := i, ownerArg := s1.peerSite, streamGen := st.gen + 1, resumeSsn := st.nextSsn }))
  let s3 := st.waiting.foldl (fun acc w => acc.reply w.cmd w.fromPeer nvAnaTrans) s2
  State.setStream { s3 with seam := { s3.seam with leaseGen := gen } } i { s3.stream i with mine := false, waiting := [] }

/-- What a head that is manager no more had collected is no one's (R23, R112). -/
def State.dropCollection (s : State) : State := { s with ledger := { s.ledger with collecting := false, collected := [], later := [], since := none } }

/-- Finish standing down at a boundary, once every stream's last body is done (R404). -/
def State.finishStanding (s : State) : State :=
  if s.seam.standing && s.myStreams.all s.lastDone then
    let s1 := s.myStreams.foldl State.releaseStream s
    ({ s1.dropCollection with seam := { s1.seam with standing := false, own := 3, manager := false } }).anaUpdate
  else s

/-! ### Accepting sections -/

/-- A message comes in over the Seam (R384): its flits are counted whatever it says, and what it asks is done where `ok`. -/
def onSeam (s : State) (b : SeamBody) (ok : State → Bool) (f : State → State) : Res :=
  onlyIf (s.fw && s.isHead) s (fun s0 =>
    let s := s0.rxSeam b
    if ok s then f s else s)

/-- The peer is one whose sections count: in service or replaying (R19, R391). -/
def State.peerThere (s : State) : Bool := decide (s.seam.peerState = 0 ∨ s.seam.peerState = 2)

/-- The section's header and content pass R391 for stream `i`. The first SEAL that a head sees since the array started has no SEAL before it: its
EPN is that of the owner's first epoch, and the rest follows what the recovery ended with (R238, log 35). -/
def StreamSt.accepts (st : StreamSt) (i : Nat) (hdrOk : Bool) (h : BundleHdr) (items : List Item) (body : Bool) : Bool :=
  let bs := bundleBytes items
  let first := st.sealSeen == 0
  hdrOk && h.stream == i && h.kind == (if body then 2 else 1) && h.sectionLen == bs.length && h.sectionDigest == sha256 bs
    && h.prevDigest == st.prevDigest
    && (if body then decide (st.bodySeen < st.sealSeen) && h.epn == st.sealSeen
        else decide (st.bodySeen = st.sealSeen) && h.firstSsn == st.epochFirst
              && (first || h.epn == st.sealSeen + 1 || (h.takeover && decide (st.sealSeen < h.epn))))

/-- A section failed its checks (R391): RESEND_REQ at first; at the second failure the head stops replaying, stands out of service
and releases its own stream. -/
def State.badSection (s : State) (i n kind : Nat) : State :=
  let st := s.stream i
  if st.badOnce.contains (n, kind) then
    let s1 := s.alarm AL_SEAM_BUNDLE_BAD 0
    let s2 := s1.standDown
    { s2 with seam := { s2.seam with own := 3 } }
  else (State.sendSeam (s.setStream i { st with badOnce := st.badOnce ++ [(n, kind)] }) i n (.resendReq kind)).event EV_SEAM_RESEND 0

/-- A head that replays the peer's sections: it runs, and has not stopped replaying (R391). -/
def State.replaying (s : State) : Bool := s.fw && s.isHead && s.stageFrom .join && decide (s.seam.own = 0 ∨ s.seam.own = 2)

/-- LBA ranges of a SEAL as chunk runs of each namespace (R332). -/
def State.sealRuns (s : State) (n : Nat) (cmds : List CmdItem) : List (Nat × Nat × Nat × Nat) :=
  cmds.flatMap (fun c =>
    match s.ns c.nsid with
    | none => []
    | some x =>
      let b := lbaBytes x.lbaf
      let sz := s.nsChunk x
      c.ranges.filterMap (fun r =>
        if r.nlb = 0 then none
        else some (n, c.nsid - 1, r.slba * b / sz, ((r.slba + r.nlb) * b - 1) / sz + 1 - r.slba * b / sz)))

/-- Take an accepted SEAL (R332): its items take effect with its BODY, so that a SEAL without one can be discarded (R403). -/
def State.takeSeal (s : State) (i : Nat) (h : BundleHdr) (items : List Item) : State :=
  let st := s.stream i
  let b : Bundle := { sealItems := items, sealed := true, sealHdr := some h, firstSsn := h.firstSsn, ssnCount := h.ssnCount
                      commands := h.commands, released := h.releasedSeq, sealT := h.arrayTime }
  let s1 := s.setStream i { st with
    bundles := SMap.set st.bundles h.epn b, sealSeen := h.epn, prevDigest := h.sectionDigest, badOnce := st.badOnce.filter (· != (h.epn, 1))
    awaitSeal := st.awaitSeal && decide (h.epn + 1 < st.admitFrom)
    epochFirst := h.firstSsn + h.ssnCount, nextSsn := h.firstSsn + h.ssnCount
    sealOnly := st.sealOnly ++ s.sealRuns h.epn (sealCmds items) }
  ((sealCmds items).foldl (fun acc c => acc.enterCmd c true) s1).putHeader h

/-- SEAL_SECTION (R388, R390, R391). -/
def execSealSection (i : Fin 2) (hdrOk : Bool) (h : BundleHdr) (items : List Item) (s : State) : Res :=
  onSeam s (.sect h items) (fun s => s.replaying && !(s.stream i).owns h.epn && s.peerThere)
    (fun s => if (s.stream i).accepts i hdrOk h items false then s.takeSeal i h items else s.badSection i h.epn 1)

/-! ### Replaying a body -/

/-- Stripes that a body opens (R352): the record and the peer's own SIF record. -/
def State.takeOpens (s : State) (n : Nat) (items : List Item) : State :=
  items.foldl (fun acc x => match x with
    | .openStripe h => acc.learnStripe n h
    | _ => acc) s

/-- The image of an SSN among a body's items. -/
def imageFor (items : List Item) (ssn : Nat) : Bytes :=
  (items.findSome? (fun x => match x with | .image k b => if k = ssn then some b else none | _ => none)).getD []

/-- Namespace index, chunk number and APP_TAG of a record SSN of a SEAL. -/
def placeOf (cmds : List CmdItem) (ssn : Nat) : Nat × Nat × Nat :=
  match cmds.find? (fun c => decide (c.firstSsn ≤ ssn ∧ ssn < c.firstSsn + c.recs.length)) with
  | none => (0, 2 ^ 40, 0)
  | some c =>
    let j := ssn - c.firstSsn
    (c.nsid - 1, (match c.recs.getD j (.chunk 0) with | .chunk no => no | .extent no _ _ => no | .resv _ _ _ => 0), c.appTags.getD j 0)

/-- Take a replayed chunk record: the map tells of a HIT or ZERO, which supersedes what older records left of its position (R333); an image is
staged at the same place by the same appends with the owner's tag (R393). -/
def State.takeChunk (s : State) (i n : Nat) (cmds : List CmdItem) (items : List Item) (c : ChunkItem) : State :=
  let p := placeOf cmds c.ssn
  if c.outcome ≠ 6 ∧ c.outcome ≠ 1 then
    s.setWork i c.ssn { epn := n, nsIndex := p.1, chunkNo := p.2.1, domain := c.domain, content := [], appTag := p.2.2
                        outcome := if c.outcome = 4 then .hitStored c.chunkId else .zero, released := true }
  else
    let w : ChunkWork := { epn := n, nsIndex := p.1, chunkNo := p.2.1, domain := c.domain, content := [], appTag := p.2.2
                           lostBlocks := c.lostBlocks, outcome := if c.outcome = 6 then .pending else .unique, fp := c.fp
                           chunkId := c.chunkId, image := imageFor items c.ssn, raw := c.raw, stripe := c.stripeId, strip := c.strip
                           granule := c.granule, staged := true }
    ((s.setWork i c.ssn w).notePlace c.stripeId (c.ssn, c.chunkId, c.strip, c.granule, w.image.length)).sendAppends i c.ssn w

/-- Take the extents of a replayed SEAL: they supersede what older records left of their positions (R333). -/
def State.takeExtents (s : State) (i n : Nat) (cmds : List CmdItem) : State :=
  (cmds.flatMap (fun c => c.recs.zipIdx.map (fun r => (c, r.1, c.firstSsn + r.2)))).foldl (fun acc x =>
    match x.2.1 with
    | .extent no count dealloc =>
      acc.setWork i x.2.2 { epn := n, nsIndex := x.1.nsid - 1, chunkNo := no, domain := acc.domainOf x.1.nsid, content := [], outcome := .zero
                            extent := some (count, dealloc), released := true }
    | .chunk _ => acc
    | .resv _ _ _ => acc) s

/-- Write the replayed batches of a body and compare each with its BATCH item (R392): whether all agree. -/
def State.takeBatches (s : State) (i n : Nat) (items : List Item) : List (Nat × List JRec) → Bool → State × Bool
  | [], ok => (s, ok)
  | (c, rs) :: rest, ok =>
    let w := s.writeBatch i c n rs
    let same := batchItem items c == some (rs.length, w.2.2)
    w.1.takeBatches i n items rest (ok && same)

/-- Take an accepted BODY (R332, R333, R392, R393): its batches and images, and then its place in the order of R327. Its ranges are SEAL_ONLY until it
is applied. -/
def State.takeBody (s : State) (i : Nat) (h : BundleHdr) (items : List Item) : State :=
  let n := h.epn
  let b := s.bundle i n
  let cmds := sealCmds b.sealItems
  let chunks := bodyChunks items
  let s1 := (s.releaseTo i b.released).takeOpens n items
  let s2 := (chunks.foldl (fun acc c => acc.takeChunk i n cmds items c) s1).takeExtents i n cmds
  let w := s2.takeBatches i n items ((0, ingestRecs cmds chunks) :: recordItems items) true
  let s3 := (w.1.putHeader h).setBundle i n { b with bodyItems := items, bodied := true, bodyHdr := some h, batchSeq := h.batchSeq }
  let st := s3.stream i
  let s4 := s3.setStream i { st with prevDigest := h.sectionDigest, bodySeen := n, badOnce := st.badOnce.filter (· != (n, 2)) }
  let s5 := s4.applyReady
  if w.2 then s5
  else
    let s6 := (s5.alarm AL_SEAM_REPLAY_DIVERGE 0).standDown
    { s6 with seam := { s6.seam with own := 3 } }

/-- BODY_SECTION (R388, R390 to R393). -/
def bodySection (i : Fin 2) (hdrOk : Bool) (h : BundleHdr) (items : List Item) (s : State) : Res :=
  onSeam s (.sect h items) (fun s => s.replaying && !(s.stream i).owns h.epn && s.peerThere)
    (fun s => if (s.stream i).accepts i hdrOk h items true then s.takeBody i h items else s.badSection i h.epn 2)

/-! ### Resends, DURABLE and catch-up -/

/-- Send a section again with its header, where this head has it. -/
def State.shipAgain (s : State) (i n : Nat) (body : Bool) : State :=
  let b := s.bundle i n
  match (if body then b.bodyHdr else b.sealHdr) with
  | some h => s.sendSeam i n (.sect h (if body then b.bodyItems else b.sealItems))
  | none => s

/-- SEAM_RESEND_REQ (R387, R391): KIND 1 SEAL, 2 BODY. -/
def execSeamResendReq (i : Fin 2) (n kind : Nat) (s : State) : Res :=
  onSeam s (.resendReq kind) (fun s => (s.stream i).owns n) (fun s => (s.shipAgain i n (kind == 2)).event EV_SEAM_RESEND 0)

/-- Manager commands recorded and replayed by both in-service heads complete (R189). -/
def State.adminCheck (s : State) : State :=
  let ok := fun (a : AdminWait) => match a.epn with
    | some e => !s.silenced && decide (e < s.epn) && (!s.peerUp || decide (e ≤ s.seam.peerReplayed.getD s.site 0))
    | none => false
  let s1 := { s with nvme := { s.nvme with adminWait := s.nvme.adminWait.filter (fun a => !ok a) } }
  (s.nvme.adminWait.filter ok).foldl (fun acc a =>
    if a.fromPeer then acc.sendSeam 255 acc.epn (.fwdDone a.cmd nvOk a.nsid) else acc.post ⟨a.cmd, nvOk, a.nsid, []⟩) s1

/-- The manager records the handback of the rejoined peer's configured group (R21, R408): H lies two epochs after the seal that records it. -/
def State.startHandback (s : State) : State :=
  if s.isManager && (s.stream s.peerSite).mine && (s.stream s.peerSite).handback.isNone then s.record (.handback s.peerSite (s.epn + 3)) else s

/-- The peer has rejoined (R398, R408): its alarms clear, and its group goes back where `seam.auto_handback` is 1. -/
def State.peerBack (s : State) : State :=
  let s1 := (s.clearAlarm AL_SEAM_PEER_LOST 0).clearAlarm AL_SEAM_SUSPECT (srcOf 10 s.peerSite)
  if s1.p p_seam_auto_handback = 1 then s1.startHandback else s1

/-- SEAM_DURABLE (R387, R392): bits SEAL, BODY, INGEST batch, each durable at the peer; all three satisfy condition 3 of R231, whether one message
bears them or several do (log 35). A peer that rejoins counts from its first report of all three on (R407). -/
def seamDurable (i : Fin 2) (n : Nat) (bits : BitVec 3) (s : State) : Res :=
  onSeam s (.durable bits.toNat) (fun s => (s.stream i).owns n && SMap.has (s.stream i).bundles n) (fun s =>
    let all := (s.bundle i n).peerBits ||| bits.toNat
    if all ≠ 7 then s.setBundle i n { s.bundle i n with peerBits := all } else
    let s1 := s.setBundle i n { s.bundle i n with peerBits := 7, peerDur := true }
    let s2 := if s1.seam.peerState = 2 then
        State.peerBack { s1 with seam := { s1.seam with
          peerState := 0, peerFrom := n, sets := s1.seam.sets ++ [RenewSet.clearFence s1.peerSite] } }
      else s1
    let r := s2.seam.peerReplayed
    (State.adminCheck { s2 with seam := { s2.seam with peerReplayed := r.set i (max (r.getD i 0) n) } }).anaUpdate)

/-- Ship the retained sections of a stream from an epoch on, in chain order (R407). -/
def State.shipFrom (s : State) (i first : Nat) : State :=
  ((s.stream i).bundles.filter (fun e => decide (first ≤ e.1))).foldl (fun acc e => (acc.shipAgain i e.1 false).shipAgain i e.1 true) s

/-- CATCHUP_REQ (R407): the first epoch wanted of each stream. -/
def execCatchupReq (e0 e1 : Nat) (s : State) : Res :=
  onSeam s (.catchupReq e0 e1) State.headUp (fun s =>
    (State.shipFrom { s with seam := { s.seam with peerState := 2, peerCaught := true } } 0 e0).shipFrom 1 e1)

/-! ### Forwarded commands -/

/-- Put a command among those waiting for admission at its owner (R26, R208). -/
def State.hold (s : State) (w : WaitCmd) : State :=
  let i := s.nsStream (opNsid w.op)
  let st := s.stream i
  let s1 := s.setStream i { st with waiting := st.waiting ++ [{ w with no := s.head.fetchNo, data := s.bufferRoom w.op }] }
  { s1 with head := { s1.head with fetchNo := s.head.fetchNo + 1 } }

/-- FWD_CMD (R26, R90, R196, R208): the owner takes a command forwarded by the peer; so does a head that inherits every volume at a barrier,
before it is in service. -/
def execFwdCmd (cmd : CmdId) (op : FwdOp) (pi : List PiBlock) (s : State) : Res :=
  onSeam s (.fwdCmd cmd op pi) (fun s => (s.headUp && (s.stream (s.nsStream (opNsid op))).takes s.epn) || s.seam.inheriting)
    (fun s => s.hold { cmd := cmd, fromPeer := true, op := op, pi := pi })

/-- FWD_DONE (R180, R232): the completion is posted on the controller that received the command, unless it was reset since. -/
def execFwdDone (cmd : CmdId) (st : NvmeSt) (dw0 : Nat) (s : State) : Res :=
  onSeam s (.fwdDone cmd st dw0) (fun s => s.nvme.fwd.contains cmd)
    (fun s => State.post { s with nvme := { s.nvme with fwd := s.nvme.fwd.filter (· != cmd) } } ⟨cmd, st, dw0, []⟩)

/-- SEAM_UNKNOWN_TYPE (R387): a message of `len` bytes after its header. -/
def execSeamUnknownType (len : Nat) (s : State) : Res :=
  onlyIf (s.fw && s.isHead) s
    (fun s => State.event { s with seam := { s.seam with rxSeq := s.seam.rxSeq + (32 + len + 239) / 240 } } EV_SEAM_RESEND 0)

end Sys2Proof.Machine
end

