-- ==== Sys2Proof/Machine/Seam.lean ====
section
/-! DEFINITION. The Seam link (R382 to R385), heartbeats and the time exchange (R46, R396 to R398), suspicion (R395), the leases as a
head holds them (R400 to R405, R409, R410), rejoining (R406, R407) and the checkpoints of a head (R365, R371, R537). -/

namespace Sys2Proof.Machine

/-! ### The link -/

/-- A head with its Seam trained: past stage LINKS. -/
def State.seamOn (s : State) : Bool := s.fw && s.isHead

/-- SEAM_FLIT_BAD (R384): a flit fails its CRC or its order; it is dropped and NAK names the flit expected. -/
def execSeamFlitBad (s : State) : Res := onlyIf (s.seamOn && s.seam.linkUp) s (fun s => s.emit (.seamNak (s.seam.rxSeq % 2 ^ 24)))

/-- SEAM_FLIT_NAK (R384): everything from the named flit on is sent again, out of the replay buffer. -/
def execSeamFlitNak (seq : Fin 16777216) (s : State) : Res :=
  onlyIf (s.seamOn && s.seam.linkUp
      && s.seam.replay.any (fun e => decide ((seq.val + 2 ^ 24 - e.1 % 2 ^ 24) % 2 ^ 24 < e.2.1))) s
    (fun s => s.emit (.seamResend seq))

/-- Set the lanes in service: the link is down below `seam.min_lanes` (R384), and what waits for it is lost. -/
def State.setLanes (s : State) (l : BitVec 16) : State :=
  let up := decide (s.p p_seam_min_lanes ≤ laneCount l)
  { s with seam := { s.seam with lanesUp := l, linkUp := up, waiting := if up then s.seam.waiting else [] } }

/-- SEAM_LANE_RETIRE (R384). -/
def execSeamLaneRetire (lane : Fin 16) (s : State) : Res :=
  onlyIf (s.seamOn && s.seam.lanesUp.getLsbD lane) s
    (fun s => (s.setLanes (s.seam.lanesUp &&& ~~~(BitVec.ofNat 16 (2 ^ lane.val)))).event EV_SEAM_LANE_DOWN (srcOf 9 lane))

/-- SEAM_LINK_UP (R384): the lanes train again, and both directions count flits from zero. -/
def execSeamLinkUp (lanes : BitVec 16) (s : State) : Res :=
  onlyIf s.seamOn s (fun s => State.setLanes { s with seam := { s.seam with txSeq := 0, rxSeq := 0, replay := [], waiting := [] } } lanes)

/-! ### Rebase (R38) -/

/-- Highest EPN recorded in the own Hem before this run: its epoch checkpoint and its bundle headers, neither written before JOIN has passed
(R39). -/
def State.hemHigh (s : State) : Nat :=
  s.hem.bundles.foldl (fun a e => max a e.2.epn) (s.hem.epoch.val 2)

/-- Write the epoch checkpoint: e_base, t_base, the highest EPN, and the parameters that R38 compares (log 72): as long as a rebase is due,
those of before the change. -/
def State.ckptEpoch (s : State) (high : Nat) : State :=
  let due := s.boot.rebaseDue.isSome
  let s1 := s.overCkpt 3 0 s.hem.epoch
  { s1 with hem := { s1.hem with
      looseCk := s.looseCkpt 3 0 s.hem.epoch
      epoch := s.hem.epoch.put [s.time.eBase, s.time.tBase, high,
        if due then s.hem.epoch.val 3 else s.p p_epoch_length_us, if due then s.hem.epoch.val 4 else s.p p_time_origin_tai_s] } }

/-- The first epoch into which a head that starts now admits: the running one, or e_base where T has not come to t_base yet (R38, R39). -/
def State.firstEpoch (s : State) : Nat := if s.time.t < s.time.tBase then s.time.eBase else s.epn

/-- The own streams admit and seal from the first epoch of a rebase on. -/
def State.startStreams (s : State) : State :=
  [0, 1].foldl (fun acc i =>
    let st := acc.stream i
    if st.mine then acc.setStream i { st with admitFrom := acc.firstEpoch, sealedEpn := acc.firstEpoch - 1 } else acc) s

/-- The manager fixes a rebase that is due (R38): t_base the first multiple of the new L after T, e_base one more than the highest EPN
recorded in a Hem or a lease record; its renewals carry both. -/
def State.rebase (s : State) : State :=
  match s.boot.rebaseDue with
  | none => s
  | some h =>
    let high := s.sites.foldl (fun a i => max a (match (s.shelf i).record with | some r => r.highEpn | none => 0)) (max h s.hemHigh)
    let l := s.epochLen
    let t := (s.time.t / l + 1) * l
    (State.ckptEpoch { s with
      boot := { s.boot with rebaseDue := none, rebased := true }, time := { s.time with eBase := high + 1, tBase := t }
      seam := { s.seam with sets := s.seam.sets ++ [RenewSet.base (high + 1) t] } } high).startStreams

/-! ### The manager lease and the grants -/

/-- Ranges that the map in force places at a site. -/
def State.rangesAt (s : State) (site : Nat) : List Nat := (List.range 65536).filter (fun r => s.rangeSite r == site)

/-- Record the move of every range of a site to the in-service shelves, in rotation by site (R267). -/
def State.moveShard (s : State) (site : Nat) : State :=
  let to' := s.sites.filter (fun x => x != site && !s.isFailed x && !s.isAbsent x && !(s.shelf x).readOnly && decide (x < s.retireFrom))
  if to'.isEmpty then s
  else (((s.rangesAt site).zip (List.range 65536)).foldl (fun acc x => acc.record (.shardMove x.1 (to'.getD (x.2 % to'.length) 0))) s)

/-- The manager records FAIL, the spare set and the shard moves (R267, R361, R363). -/
def State.noteFail (s : State) (site : Nat) : State :=
  ((s.record (.fail site)).record (.spareSet (s.sites.filter (fun x => x != site && s.accepts x)))).moveShard site

/-- The manager records a failed shelf once (R361). -/
def State.recordFail (s : State) (site : Nat) : State :=
  let queued := (s.stream s.mgrStream).sealQueue.any (fun x => match x with | .manager (.fail f) => f == site | _ => false)
  if !s.isManager || s.isFailed site || queued then s
  else s.noteFail site

/-- A shelf that did not answer at array boot is a failed shelf (R18, R361). -/
def State.failSilent (s : State) : State :=
  (s.sites.filter (fun i => (s.shelf i).silent && !s.isFailed i)).foldl State.noteFail s

/-- Take up the manager's duties (R23, R38, R110, R112): the collection starts at array boot, and afresh where the lease moves before a type 2
record was committed, as the bundles tell; else the duties of R111 go on (log 36). -/
def State.becomeManager (s : State) : State :=
  if s.seam.manager then s
  else
    let s1 := (State.failSilent { s with seam := { s.seam with manager := true } }).rebase
    if s1.ledger.arrayDone || s1.head.md.audit.isSome then
      State.dropCollection { s1 with ledger := { s1.ledger with arrayDone := true } }
    else
      let s2 := { s1 with ledger := { s1.ledger with collecting := true, collected := [], later := [], since := some s1.time.t } }
      s2.sites.foldl (fun acc i => (acc.request i (.ledgerGet 0)).2) s2

/-- Shelf sites that pass a test are a majority (R400, R401). -/
def State.majority (s : State) (p : ShelfView → Bool) : Bool :=
  decide (s.nShelves < 2 * (s.sites.filter (fun i => p (s.shelf i))).length)

/-- This head's grants are current at a majority (R400). -/
def State.granted (s : State) : Bool := s.majority (fun v => decide (s.epn ≤ v.grant))

/-- GRANT_UNTIL of a head site in a lease record. -/
def grantOf (r : LeaseRec) (site : Nat) : Nat := if site = 0 then r.grantUntil0 else r.grantUntil1

/-- OWNER of a stream in a lease record. -/
def ownerOf (r : LeaseRec) (stream : Nat) : Nat := if stream = 0 then r.owner0 else r.owner1

/-- A majority of records names this head manager, with its grant current there (R410). -/
def State.namedManager (s : State) : Bool :=
  s.majority (fun v => match v.record with
    | some r => r.manager == s.site && decide (s.epn ≤ grantOf r s.site)
    | none => false)

/-- A majority of records names some manager (R410). -/
def State.managerKnown (s : State) : Bool :=
  s.majority (fun v => match v.record with | some r => r.manager != 255 | none => false)

/-- What a lease reply tells of its shelf (R432). -/
def State.noteLease (s : State) (site : Nat) (rec : LeaseRec) (ports : BitVec 2) : State :=
  let s1 := s.setShelf site { s.shelf site with record := some rec, portsUp := ports, grant := grantOf rec s.site, silent := false }
  { s1 with seam := { s1.seam with leaseGen := max s1.seam.leaseGen rec.leaseGen } }

/-- Refused as FENCED (R402): discard the volatile state and the Hem classes of R407, and rejoin. -/
def State.rejoin (s0 : State) : State :=
  let s := s0.dropJoinRecs
  (State.anaUpdate { s.dropCollection with
    head := { shelves := SMap.mapV s.head.shelves (fun _ v => { v with grant := 0, claim := none }), nextReq := s.head.nextReq
              rinseRepairs := s.head.rinseRepairs, rinseUnresolved := s.head.rinseUnresolved }
    nvme := { s.nvme with ns := [], adminWait := [] }
    boot := { s.boot with stage := .join, joined := false, barrier := none }
    seam := { s.seam with
      fenced := true, own := 2, rejoining := true, asked := false, manager := false, claim := none, standing := false, leaseLost := false
      ioStopped := false, sets := [], leaseMove := none } })

/-! ### Taking over -/

/-- The survivor's FENCE before it names e: what it has replayed of a stream is durable (R154, log 35). -/
def State.fenceStream (s : State) (i : Nat) : State := s.setStream i (s.stream i).settled

/-- The bundle of the first epoch after `e` that a stream's SEAL sections have reached. -/
def State.sealAfter (s : State) (i e : Nat) : Option (Nat × Bundle) :=
  (s.stream i).bundles.find? (fun x => decide (e < x.1) && x.2.sealHdr.isSome)

/-- e and RESUME_SSN of a stream (R403): the last epoch taken whose SEAL header, BODY header and INGEST batch are durable, as are those of the
epochs before it (log 35), and the SSN after its own. -/
def State.resumePoint (s : State) (i : Nat) : Nat × Nat :=
  let st := s.stream i
  let late := (st.bundles.filter (fun x => decide (x.1 ≤ st.bodySeen) && !x.2.durable)).map (·.1)
  let e := late.foldl (fun a n => min a (n - 1)) st.bodySeen
  (e, match s.sealAfter i e with | some x => x.2.firstSsn | none => st.epochFirst)

/-- Discard every section of a stream after e (R403). -/
def State.discardAfter (s : State) (i e resume : Nat) : State :=
  let st := s.stream i
  let digest := match (s.sealAfter i e).bind (·.2.sealHdr) with
    | some h => h.prevDigest
    | none => st.prevDigest
  State.setStream (s.dropHeaders (fun h => h.stream == i && decide (e < h.epn))) i
    { st with bundles := SMap.keep st.bundles (fun n _ => decide (n ≤ e)), sealSeen := e, bodySeen := e, prevDigest := digest, badOnce := []
              nextSsn := resume, epochFirst := resume, sealOnly := [] }

/-- Resume a stream's passes from the mirrored checkpoints (R364, R365, R372). -/
def State.resumePasses (s : State) (i : Nat) : State :=
  let dk := if i = 0 then s.hem.darn else s.hem.darn1
  let rk := if i = 0 then s.hem.refold else s.hem.refold1
  let d : DarnSt := { tier := dk.val 0, cursor := dk.val 1 }
  let r : RefoldSt := { boundary := if rk.val 0 = s.head.md.layoutGen then rk.val 1 else 0, ckptBoundary := if rk.val 0 = s.head.md.layoutGen then rk.val 1 else 0 }
  if i = 0 then { s with head := { s.head with darn0 := d, refold0 := r } } else { s with head := { s.head with darn1 := d, refold1 := r } }

/-- A Refold target is given up: its strips are discarded and its STRIPE_ID abandoned (R355). -/
def State.abandon (s : State) (id count : Nat) (sites : List Nat) : State :=
  let i := streamOf id
  let s1 := (List.range count).foldl (fun acc m =>
    acc.toShelf (sites.getD m 255) (acc.tagged .discard i acc.epn (stripItem id m) true (.discard (16 * id)))) s
  (s1.setMd { s1.head.md with stripes := SMap.del s1.head.md.stripes id }).freeSif id

/-- The targets that a lost head had open are given up (R355, R372): its images were in that head alone. -/
def State.dropTargets (s : State) (i : Nat) : State :=
  (s.head.md.stripes.filter (fun e => e.2.state == 1 && e.2.isTarget && streamOf e.1 == i)).foldl (fun acc e => acc.abandon e.1 (e.2.k + e.2.m) e.2.sites) s

/-- A claim won, or the other head's release (R403, R404): its streams end at e, and this head holds the manager lease. -/
def State.takeOver (s : State) (c : ClaimSt) : State :=
  let s1 := (c.streams.foldl (fun acc x => ((acc.discardAfter x.1 x.2.1 x.2.2).resumePasses x.1).dropTargets x.1) s).applyReady
  let s2 := State.becomeManager { s1 with seam := { s1.seam with
    claim := if c.streams.isEmpty then none else some { c with won := true }, leaseGen := c.gen, ioStopped := false } }
  s2.drainAll.adminCheck.anaUpdate

/-- Streams the peer sequences. -/
def State.peerStreams (s : State) : List Nat := [0, 1].filter (fun i => !(s.stream i).takes s.epn)

/-- Streams the peer sequences, as a claim names them. -/
def State.lostStreams (s : State) : List (Nat × Nat × Nat) := s.peerStreams.map (fun i => (i, s.resumePoint i))

/-- One CLAIM to every shelf (R401): `stream` 255 where the lost head sequenced none. -/
def State.sendClaim (s : State) (gen stream streamGen resume : Nat) : State :=
  s.toAll (bareFrame (.claim { s.leaseReq gen with
    siteArg := s.peerSite, streamArg := stream, ownerArg := s.site, streamGen := streamGen, resumeSsn := resume }))

/-- Send a claim (R401): one CLAIM per lost stream to every shelf. -/
def State.sendClaims (s : State) (gen : Nat) : List (Nat × Nat × Nat) → State
  | [] => s
  | x :: xs => State.sendClaims (s.sendClaim gen x.1 ((s.stream x.1).gen + 1) x.2.2) gen xs

/-- PEER_LOST (R398, R401): both paths silent for `seam.hb_loss_epochs`, and nothing claimed yet; the peer is in service or sequences a
stream. -/
def execPeerLost (s0 : State) : Res :=
  onlyIf (s0.headUp && decide (s0.p p_seam_hb_loss_epochs ≤ s0.seam.silent) && s0.seam.claim.isNone && (s0.peerUp || !s0.peerStreams.isEmpty)) s0 fun s0 =>
    let s := s0.peerStreams.foldl State.fenceStream s0
    let lost := s.lostStreams
    let s1 := State.alarm { s with seam := { s.seam with peerState := 1, peerTime := none } } AL_SEAM_PEER_LOST 0
    let gen := s1.seam.leaseGen + 1
    let s2 := { s1 with
      seam := { s1.seam with claim := some { epn := s1.epn, gen := gen, streams := lost } }
      head := { s1.head with shelves := SMap.mapV s1.head.shelves (fun _ v => { v with claim := none }) } }
    ((if lost.isEmpty then s2.sendClaim gen 255 0 0 else s2.sendClaims gen lost).anaUpdate).timeEval

/-- CLAIM_REPLY (R401, R432): a shelf's answer, with the lost head's grant as it stood before the fence. -/
def execClaimReply (h : FrameHdr) (status : Nat) (rec : LeaseRec) (ports : BitVec 2) (prior : Nat) (s : State) : Res :=
  onFrame h s fun s0 =>
    let site := h.port.val
    let s := s0.replied site h.reqId
    match (if s.headUp then s.seam.claim else none) with
    | none => s
    | some c =>
      if status = 0 then
        let s1 := s.noteLease site rec ports
        let s2 := s1.setShelf site { s1.shelf site with claim := some (some prior) }
        { s2 with seam := { s2.seam with claim := some { c with maxGrant := max c.maxGrant prior } } }
      else if status = ST_SPOKE_FENCED then s.rejoin
      else s.setShelf site { s.shelf site with claim := some none }

/-- LEASE_CLAIM_WON (R401, R403, R112). -/
def execLeaseClaimWon (s : State) : Res :=
  .next (match s.seam.claim with
    | some c => if s.headUp && !c.won && s.majority (fun v => match v.claim with | some (some _) => true | _ => false) then s.takeOver c else s
    | none => s)

/-- LEASE_CLAIM_TIMEOUT (R401): not won within `lease.term_epochs`. -/
def execLeaseClaimTimeout (s : State) : Res :=
  .next (match s.seam.claim with
    | some c =>
      if s.headUp && !c.won && decide (c.epn + s.p p_lease_term_epochs ≤ s.epn) then
        (State.alarm { s with seam := { s.seam with ioStopped := true } } AL_SEAM_LEASE_LOST 0).anaUpdate
      else s
    | none => s)

/-- The peer's release reaches a head that R58 holds: the barrier is at its last step, and this head inherits every volume (R90). It may
join now. -/
def State.inherit (s : State) : State :=
  State.timeEval { s with seam := { s.seam with inheriting := true, peerState := 3 }
                          boot := { s.boot with holds := s.boot.holds.filter (· != AL_EPOCH_REPLAY_ID) } }

/-- SEAM_RELEASE (R404): the other head releases a stream, naming its last admitted epoch and its next SSN. -/
def execSeamRelease (i : Fin 2) (lastEpn nextSsn : Nat) (s : State) : Res :=
  onSeam s (.release lastEpn nextSsn) (fun s => (s.headUp && !(s.stream i).takes s.epn) || s.barred) fun s0 =>
    let s := s0.fenceStream i
    if s.barred then s.inherit else
    let p := s.resumePoint i
    let more := match s.seam.claim with | some c => c.streams.filter (·.1 != i.val) | none => []
    let gen := s.seam.leaseGen + 1
    (State.takeOver { s with seam := { s.seam with peerState := 3 } }
      { epn := s.epn, gen := gen, streams := more ++ [(i.val, p)], released := true }).timeEval

/-- The highest STREAM_GEN of a stream in the lease records, as last seen (R399). -/
def State.recordGen (s : State) (i : Nat) : Nat :=
  s.head.shelves.foldl (fun a e => match e.2.record with | some r => max a (if i = 0 then r.streamGen0 else r.streamGen1) | none => a) 0

/-- TAKEOVER_ADMIT_START (R24, R405): the first boundary, so at phase 0, after the claim is won, replay is complete and every grant of the
lost head has passed. -/
def execTakeoverAdmitStart (i : Fin 2) (s : State) : Res :=
  .next (match s.seam.claim with
    | none => s
    | some c =>
      if !(s.headUp && c.won && s.phase == 0 && decide (c.maxGrant < s.epn) && c.streams.any (·.1 == i.val)) then s
      else
        let st := s.stream i
        let rest := c.streams.filter (·.1 != i.val)
        let s1 := s.setStream i { st with
          mine := true, admitFrom := s.epn, admitUntil := none, awaitSeal := false, sealedEpn := s.epn - 1, takeoverNext := true, handback := none
          gen := max (st.gen + 1) (s.recordGen i) }
        let s2 := { s1 with seam := { s1.seam with claim := if rest.isEmpty then none else some { c with streams := rest } } }
        (s2.event EV_SEAM_TAKEOVER (srcOf 12 i)).anaUpdate)

/-! ### Renewals -/

/-- A change that still fits a renewal's fields (R432). -/
def setFits (q : LeaseReq) : RenewSet → Bool
  | .owner _ _ _ _ => !q.setOwner
  | .manager _ => !q.setManager && !q.clearFence
  | .clearFence _ => !q.setManager && !q.clearFence
  | .base _ _ => !q.setBase
  | .barrier _ => !q.setBarrier

/-- Put a change into a renewal. -/
def setPut (q : LeaseReq) : RenewSet → LeaseReq
  | .owner st site gen resume => { q with setOwner := true, streamArg := st, ownerArg := site, streamGen := gen, resumeSsn := resume }
  | .manager site => { q with setManager := true, siteArg := site }
  | .clearFence site => { q with clearFence := true, siteArg := site }
  | .base e t => { q with setBase := true, eBase := e, tBase := t }
  | .barrier n => { q with setBarrier := true, barrierEpn := n }

/-- The changes one renewal carries, and those left for the next. -/
def carry : List RenewSet → LeaseReq → LeaseReq × List RenewSet
  | [], q => (q, [])
  | x :: xs, q =>
    if setFits q x then carry xs (setPut q x)
    else let r := carry xs q; (r.1, x :: r.2)

/-- What the old manager's renewals set while a move of the lease is not yet recorded at a majority (R409). -/
def State.movedLease (s : State) : List RenewSet :=
  match s.seam.leaseMove with
  | some (site, m) => if m ≤ s.epn ∧ site ≠ s.site then [.manager site] else []
  | none => []

/-- The base of a rebase, as long as a shelf's record, as last seen, does not hold it (R38): every record comes to hold it, also that of a
shelf that was down or refused a renewal. -/
def State.baseDue (s : State) : List RenewSet :=
  let has := fun (v : ShelfView) => match v.record with | some r => decide (s.time.eBase ≤ r.eBase) | none => false
  if s.time.eBase == 0 || s.sites.all (fun i => has (s.shelf i)) || s.seam.sets.any (fun x => match x with | .base _ _ => true | _ => false) then []
  else [.base s.time.eBase s.time.tBase]

/-- Send a renewal to every shelf. -/
def State.sendRenewal (s : State) : State :=
  let r := carry (if s.seam.manager then s.seam.sets ++ s.baseDue else s.movedLease) (s.leaseReq s.seam.leaseGen)
  State.toAll { s with seam := { s.seam with sets := if s.seam.manager then r.2 else s.seam.sets } } (bareFrame (.renew r.1))

/-- LEASE_RENEWAL_WINDOW (R52, R400): each head in service renews at every shelf. -/
def execLeaseRenewalWindow (s : State) : Res := onlyIf (s.headUp && s.stillServes && s.windowOpen 1 2) s (fun s => (s.inWindow 1).sendRenewal)

/-- A majority of records names this head OWNER of a stream it does not sequence: the other head released it while the Seam was down
(R404). -/
def State.releasedTo (s : State) (i : Nat) : Bool :=
  s.headUp && !(s.stream i).takes s.epn && s.seam.claim.isNone && (s.stream i).handback.isNone
    && s.majority (fun v => match v.record with | some r => ownerOf r i == s.site | none => false)

/-- Take such a stream (R403, R404). -/
def State.takeReleased (s0 : State) (i : Nat) : State :=
  let s := if s0.releasedTo i then s0.fenceStream i else s0
  if s0.releasedTo i then
    (State.takeOver { s with seam := { s.seam with peerState := 3 } }
      { epn := s.epn, gen := s.seam.leaseGen, streams := [(i, s.resumePoint i)], released := true }).timeEval
  else s

/-- The rebase values that a lease record carries, where they are newer than this head's: both heads' Hems come to hold them, and a rebase
that was due is fixed (R38). -/
def State.takeBase (s : State) (rec : LeaseRec) : State :=
  if s.time.eBase < rec.eBase then
    let s1 := { s with
      time := { s.time with eBase := rec.eBase, tBase := rec.tBase }
      boot := { s.boot with rebaseDue := none, rebased := s.boot.rebased || s.boot.rebaseDue.isSome } }
    if s.boot.rebaseDue.isSome then s1.startStreams else s1
  else s

/-- RENEW_REPLY (R400, R402, R404, R410, R432). -/
def execRenewReply (h : FrameHdr) (status : Nat) (rec : LeaseRec) (ports : BitVec 2) (s : State) : Res :=
  onFrame h s fun s =>
    let site := h.port.val
    if !(s.isHead && s.stageFrom .join) then s
    else if status = ST_SPOKE_FENCED then (if s.seam.rejoining then s else s.rejoin)
    else if status = ST_SPOKE_LEASE_STALE then { s with seam := { s.seam with leaseGen := max s.seam.leaseGen rec.leaseGen } }
    else if status ≠ 0 then s
    else
      let s1 := (s.noteLease site rec ports).takeBase rec
      let s0 := if s1.headUp && s1.granted then
          (State.clearAlarm { s1 with seam := { s1.seam with leaseLost := false } } AL_SEAM_LEASE_LOST 0).drainAll.anaUpdate
        else s1
      let s3 := (s0.takeReleased 0).takeReleased 1
      let s2 := if !s3.seam.manager && !s3.namedManager && !s3.movedLease.isEmpty then
          { s3 with seam := { s3.seam with leaseMove := none } } else s3
      if s2.fit && s2.namedManager && s2.seam.leaseMove.isNone && s2.seam.sets.all (fun x => match x with | .manager _ => false | _ => true)
      then s2.becomeManager else s2

/-- LEASE_GRANT_EXPIRY (R402). -/
def execLeaseGrantExpiry (s : State) : Res :=
  onlyIf (s.headUp && !s.granted && !s.seam.leaseLost) s
    (fun s => (State.alarm { s with seam := { s.seam with leaseLost := true } } AL_SEAM_LEASE_LOST 0).anaUpdate)

/-- MANAGER_BOOT_WAIT_EXPIRY (R410): Head B claims the manager lease, no manager being recorded at a majority. A head that is held, or whose
ledger commit failed, takes no lease (R38, R58, R86, R108). -/
def execManagerBootWaitExpiry (s : State) : Res :=
  onlyIf (s.seamOn && s.stageFrom .join && s.site == 1 && s.fit && !s.seam.manager && !s.managerKnown && !s.seam.rejoining) s
    (fun s => s.toAll (bareFrame (.renew { s.leaseReq s.seam.leaseGen with setManager := true, siteArg := s.site })))

/-! ### Heartbeats -/

/-- The heartbeat body of this head (R396). -/
def State.heartbeat (s : State) : Heartbeat :=
  { t1 := s.time.t, t2Echo := s.seam.lastRx, t3Echo := s.seam.lastT1, state := s.seam.own, timeState := s.time.state
    manager := s.seam.manager, pathBHeard := s.seam.pathB, sealed := (s.stream s.site).sealedEpn
    replayed0 := s.head.st0.replayed % 2 ^ 32, replayed1 := s.head.st1.replayed % 2 ^ 32 }

/-- HEARTBEAT_WINDOW (R52, R396): over the Seam, and to every shelf for relay. -/
def execHeartbeatWindow (s : State) : Res :=
  onlyIf (s.seamOn && s.stageFrom .join && s.windowOpen 0 1 && !s.power.pfAsserted) s fun s =>
    let s1 := s.inWindow 0
    (s1.sendSeam 255 s1.epn (.heartbeat s1.heartbeat)).toAll (bareFrame (.hbRelay s1.site s1.heartbeat))

/-- Bring a 32-bit epoch number up to the full width near a known one (R396). -/
def widen (known low : Nat) : Nat :=
  let base := known / 2 ^ 32 * 2 ^ 32 + low
  if base + 2 ^ 31 < known then base + 2 ^ 32 else if known + 2 ^ 31 < base ∧ 2 ^ 32 ≤ base then base - 2 ^ 32 else base

/-- The peer's state as its heartbeat says (R396, R413): one that was declared lost, or whose stream was taken, comes back only by
rejoining. -/
def State.peerStateBy (s : State) (st : Nat) : Nat :=
  if st = 2 then 2
  else if st = 3 then 3
  else if (s.seam.peerState = 1 ∧ s.seam.claim.isNone ∧ !(s.stream s.peerSite).mine) ∨ s.seam.peerState = 0 then 0
  else s.seam.peerState

/-- What a heartbeat says of the peer, on either path; a peer that is manager is sent the own boot record (R110, R111). -/
def State.peerSays (s : State) (h : Heartbeat) : State :=
  let s1 := { s with
    seam := { s.seam with
      peerTime := some h.timeState, peerState := s.peerStateBy h.state
      peerCaught := s.seam.peerCaught && s.seam.peerState == 2 && s.peerStateBy h.state == 2, peerSealed := max s.seam.peerSealed h.sealed
      peerReplayed := [widen s.epn h.replayed0, widen s.epn h.replayed1], recSent := s.seam.recSent && h.manager
      peerNew := s.seam.peerNew || (s.seam.peerState != 0 && h.state == 0) } }
  if h.manager && s1.ready && !s1.seam.recSent then
    State.sendSeam { s1 with seam := { s1.seam with recSent := true } } 255 s1.epn (.ledgerRec s1.ownRecord)
  else s1

/-- The time exchange of a path-A heartbeat (R46, R397): the skew of the peer, half the difference in ns, so that no half tick is lost; in
PEER, T follows the peer's (R42, R47). -/
def State.exchange (s : State) (h : Heartbeat) : State :=
  if h.t2Echo = 0 then s
  else
    let d : Int := (((h.t2Echo : Int) - h.t3Echo) - ((s.time.t : Int) - h.t1)) * 5
    let s1 := if s.time.tSet then s.skewSample d.natAbs else s
    if s1.time.state = .peer then s1.follow (-d) else s1

/-- T taken from a LOCKED peer in ACQUIRING, the own reference being faulty (R36, R41, log 37). -/
def State.acquirePeer (s : State) (h : Heartbeat) : State :=
  if s.time.state = .acquiring ∧ s.peerLocked ∧ s.ev.isRaised AL_EPOCH_REF_LOST 0 ∧ !s.time.tSet then s.startT h.t1 .peer else s

/-- SEAM_HEARTBEAT (R396, R397): a path-A heartbeat arrives at T. -/
def execSeamHeartbeat (h : Heartbeat) (s : State) : Res :=
  onSeam s (.heartbeat h) (fun s => s.seam.linkUp) fun s0 =>
    let s := s0.peerSays h
    let s1 := s.acquirePeer h
    let s2 := if s.time.tSet then s1.exchange h else s1
    let s3 := { s2 with seam := { s2.seam with lastT1 := h.t1, lastRx := s2.time.t, hbEpnA := max s2.seam.hbEpnA (s2.epnAt h.t1 + 1) } }
    (s3.timeEval.adminCheck).anaUpdate

/-- A relayed heartbeat of the peer, path B (R397). -/
def State.pathBHeard (s : State) (h : Heartbeat) : State :=
  let s1 := s.peerSays h
  (State.timeEval { s1 with seam := { s1.seam with hbEpnB := max s1.seam.hbEpnB (s1.epnAt h.t1 + 1) } }).adminCheck.anaUpdate

/-- Count silence at the end of epoch `n` (R397, R413). -/
def State.hbBoundary (s : State) (n : Nat) : State :=
  let q := s.seam
  let a := decide (n < q.hbEpnA)
  let b := decide (n < q.hbEpnB)
  { s with seam := { q with
    pathA := a, pathB := b, silentA := if a then 0 else q.silentA + 1, silentB := if b then 0 else q.silentB + 1
    heardA := if a then q.heardA + 1 else 0, heardB := if b then q.heardB + 1 else 0, silent := if a || b then 0 else q.silent + 1 } }

/-- HB_LOSS_PATH_B (R398). -/
def execHbLossPathB (s : State) : Res :=
  onlyIf (s.headUp && decide (s.p p_seam_hb_loss_epochs ≤ s.seam.silentB ∧ s.p p_seam_hb_loss_epochs ≤ s.seam.heardA)) s (fun s => s.alarm AL_SEAM_PATH_B_LOST 0)

/-- HB_LOSS_PATH_A (R398, R404): the co-head stands down. -/
def execHbLossPathA (s : State) : Res :=
  onlyIf (s.headUp && decide (s.p p_seam_hb_loss_epochs ≤ s.seam.silentA ∧ s.p p_seam_hb_loss_epochs ≤ s.seam.heardB)) s fun s =>
    let s1 := s.alarm AL_SEAM_LINK_DOWN 0
    if s1.seam.manager then s1 else s1.standDown

/-- HB_PATH_RESTORED (R398): a path heard for 64 epochs; `b` names path B. -/
def execHbPathRestored (b : Bool) (s : State) : Res :=
  onlyIf (s.seamOn && decide (64 ≤ if b then s.seam.heardB else s.seam.heardA)) s
    (fun s => s.clearAlarm (if b then AL_SEAM_PATH_B_LOST else AL_SEAM_LINK_DOWN) 0)

/-! ### Suspicion, rejoining -/

/-- Reports that name a head come in (R395). -/
def State.countReports (s : State) (site count : Nat) : State :=
  { s with seam := { s.seam with reports := s.seam.reports.filter (fun e => decide (s.epn < e.2.1 + 65536)) ++ [(site, s.epn, count)] } }

/-- SUSPECT_DECLARE (R394, R395): `count` reports that name a head come in. Once those of 65,536 epochs reach the limit it is suspect. -/
def execSuspectDeclare (site : Fin 2) (count : Nat) (s0 : State) : Res :=
  onlyIf s0.headUp s0 fun s0 =>
    let s := s0.countReports site count
    if s.suspectCount site < s.p p_seam_suspect_limit then s
    else
      let s1 := s.alarm AL_SEAM_SUSPECT (srcOf 10 site)
      if site.val = s1.site then State.standDown { s1 with seam := { s1.seam with thenRestart := s1.p p_seam_suspect_restart == 1 } } else s1

/-- The rejoiner enters service (R407): it renews, sends to shelves again, sets STATE 0 and reports DURABLE from the next epoch on. -/
def State.enterService (s : State) : State :=
  let s1 := { s with seam := { s.seam with rejoining := false, asked := false, fenced := false, own := 0, reportFrom := s.epn + 1 } }
  (((s1.sendRenewal.clearAlarm AL_SEAM_SUSPECT (srcOf 10 s1.site)).event EV_SEAM_REJOINED 0).anaUpdate).timeEval

/-- REJOIN_ENTER_SERVICE (R108, R407): replay is within `seam.catchup_epochs` of the live seal. At boot JOIN has passed then, and the head
enters service at READY, with its boot record committed. -/
def execRejoinEnterService (s : State) : Res :=
  onlyIf (s.seamOn && s.seam.rejoining && s.seam.asked && s.seam.own == 2 && !s.boot.joined
      && [0, 1].all (fun i => decide (max s.seam.peerSealed (s.stream i).sealSeen ≤ (s.stream i).replayed + s.p p_seam_catchup_epochs))) s
    fun s =>
      let s1 := { s with boot := { s.boot with joined := true } }
      if s1.boot.readyDone then ((if s1.boot.stage = .join then s1.toStage .ready else s1).enterService) else s1

/-- LEDGER_REC (R110, R111): the manager receives the peer's committed record. -/
def execLedgerRec (record : Bytes) (s : State) : Res :=
  onSeam s (.ledgerRec record) State.leads fun s =>
    State.takeRecord { s with seam := { s.seam with peerNew := false } } 0 s.peerSite s.seam.peerNew record

/-! ### Checkpoints -/

/-- Write and record the Darning checkpoint of one of this head's streams, where its cursor moved (R365). -/
def State.darnCkpt (s : State) (i : Nat) : State :=
  let d := if i = 0 then s.head.darn0 else s.head.darn1
  if !((s.stream i).owns s.epn && d.moved) then s
  else
    let s1 := s.ckptDarn i ([d.tier, d.cursor] ++ s.head.md.failed)
    let st := s1.stream i
    let s2 := s1.setStream i { st with sealQueue := st.sealQueue ++ [.manager (.ckptDarn d.cursor d.tier)] }
    let d1 := { d with moved := false }
    if i = 0 then { s2 with head := { s2.head with darn0 := d1 } } else { s2 with head := { s2.head with darn1 := d1 } }

/-- The Refold checkpoint likewise (R371). -/
def State.refoldCkpt (s : State) (i : Nat) : State :=
  let d := if i = 0 then s.head.refold0 else s.head.refold1
  if !((s.stream i).owns s.epn && d.moved) then s
  else
    let m := s.head.md
    let s1 := s.ckptRefold i [m.layoutGen, d.boundary, m.refoldDone]
    let st := s1.stream i
    let s2 := s1.setStream i { st with sealQueue := st.sealQueue ++ [.manager (.ckptRefold m.layoutGen d.boundary m.refoldDone)] }
    let d1 := { d with moved := false, ckptBoundary := d.boundary, ahead := 0 }
    if i = 0 then { s2 with head := { s2.head with refold0 := d1 } } else { s2 with head := { s2.head with refold1 := d1 } }

end Sys2Proof.Machine
end

