-- ==== Sys2Proof/Machine/Spoke.lean ====
section
/-! DEFINITION. The spoke link at either end (R415 to R424, R433 to R435): training, HELLO, acknowledgement and resending, credits, a
port going down, and the SEND descriptor. -/

namespace Sys2Proof.Machine

/-- Send one HELLO (R416, R417). -/
def State.sendHello (s : State) (p : Nat) : State :=
  let q := s.portOf p
  let grant := fun id => if s.isShelf then s.p id else 0
  let h : Hello := { role := b2n s.isShelf, site := s.site, port := p, linkEpoch := q.linkEpoch, tTx := s.time.t, tEcho := q.lastTTx
                     turnNs := 0, wGrant := grant p_spoke_write_credits, qGrant := grant p_spoke_request_credits }
  (s.setPort p { q with hellosTx := q.hellosTx + 1 }).txBare p (.hello h)

/-- A port has trained: a new LINK_EPOCH and the first HELLO (R416, R417, R423). -/
def State.spokeTrained (s : State) (p : Nat) : State :=
  let q := s.portOf p
  State.sendHello (s.setPort p { q with
    state := 2, admitted := false, linkEpoch := q.linkEpoch + 1, hellosRx := 0, hellosTx := 0, delays := [], lastTTx := 0
    txLsn := 0, rxLsn := 0, replay := [], resends := 0, w := 0, q := 0, wBack := 0, qBack := 0 }) p

/-- SPOKE_TRAINING_DONE (R416): a port in training, in a powered octet (R17). -/
def execSpokeTrainingDone (p : Fin 64) (s : State) : Res :=
  onlyIf (s.fw && s.portThere p && s.pdOn (36 + p.val / 8) && (s.portOf p).state == 1) s (fun s => s.spokeTrained p)

/-- SPOKE_TRAINING_RETRY (R416): a failed training is repeated, without limit. -/
def execSpokeTrainingRetry (p : Fin 64) (s : State) : Res :=
  onlyIf (s.fw && s.portThere p && s.pdOn (36 + p.val / 8) && decide ((s.portOf p).state ≤ 1)) s
    (fun s => s.setPort p { s.portOf p with state := 1 })

/-! ### Acknowledgement and resending -/

/-- A control frame whose time has passed: it is not sent again (R430, R431, R432). -/
def State.stale (s : State) (f : Frame) : Bool :=
  match f.op with
  | .mark n _ _ => decide (n < s.epn)
  | .hbRelay _ h => decide (s.epnAt h.t1 < s.epn)
  | .renew r => decide (r.epn < s.epn ∨ s.epochLen ≤ 4 * s.phase)
  | .claim r => decide (r.epn < s.epn ∨ s.epochLen ≤ 4 * s.phase)
  | .release r => decide (r.epn < s.epn ∨ s.epochLen ≤ 4 * s.phase)
  | _ => false

/-- Send the unacknowledged frames again, in order (R423); stale control frames are left out (log 39). -/
def State.resendPort (s : State) (p : Nat) : State :=
  let q := s.portOf p
  let live := q.replay.filter (fun e => !s.stale e.2)
  live.foldl (fun acc e => acc.putFrame p e.1 q.rxLsn e.2) (s.setPort p { q with replay := live })

/-- LINK_ACK (R423). -/
def execLinkAck (p : Fin 64) (ackLsn : Nat) (s : State) : Res :=
  onlyIf (s.fw && s.portThere p && (s.portOf p).state == 3) s (fun s => s.linkAcked p ackLsn)

/-- NAK (R423): resend from the named frame. -/
def execNak (p : Fin 64) (ackLsn : Nat) (s : State) : Res :=
  onlyIf (s.fw && s.portThere p && (s.portOf p).state == 3) s (fun s => (s.linkAcked p ackLsn).resendPort p)

/-- LINK_ACK_TIMER (R423). -/
def execLinkAckTimer (p : Fin 64) (s : State) : Res :=
  onlyIf (s.fw && s.portThere p && (s.portOf p).state == 3) s (fun s => s.txBare p .linkAck)

/-- CREDIT (R424): a head takes back credits. -/
def execCredit (h : FrameHdr) (w q : Nat) (s : State) : Res :=
  onFrame h s (fun s =>
    if s.isHead then (s.setPort h.port { s.portOf h.port with w := (s.portOf h.port).w + w, q := (s.portOf h.port).q + q }).pump else s)

/-- Return credits that are ready (R424). -/
def State.sendCredit (s : State) (p : Nat) : State :=
  let q := s.portOf p
  if q.wBack = 0 ∧ q.qBack = 0 then s
  else (s.setPort p { q with wBack := 0, qBack := 0 }).txFrame p ⟨noTag, false, false, 0, 0, .credit q.wBack q.qBack⟩

/-- A shelf has credits to return: at once when they reach one eighth of a grant (R424). -/
def State.giveCredit (s : State) (p w q : Nat) : State :=
  let t := s.portOf p
  let s1 := s.setPort p { t with wBack := t.wBack + w, qBack := t.qBack + q }
  if s.p p_spoke_write_credits ≤ 8 * (t.wBack + w) ∨ s.p p_spoke_request_credits ≤ 8 * (t.qBack + q) then s1.sendCredit p else s1

/-- CREDIT_RETURN_TIMER (R424): 1 µs after a return. -/
def execCreditReturnTimer (p : Fin 64) (s : State) : Res :=
  onlyIf (s.fw && s.isShelf && s.portThere p && (s.portOf p).up) s (fun s => s.sendCredit p)

/-- SPOKE_FRAME_BAD (R421): discarded unprocessed, and answered NAK (R423); a port that only exchanges HELLO sends no other frame
(R17, R416). -/
def execSpokeFrameBad (p : Fin 64) (s : State) : Res :=
  onlyIf (s.fw && s.portThere p && decide (2 ≤ (s.portOf p).state ∧ (s.portOf p).state ≤ 3)) s fun s =>
    let q := s.portOf p
    let s1 := s.setPort p { q with frameErrs := satInc 16 q.frameErrs }
    (if q.state = 3 then s1.txBare p (.nak q.rxLsn) else s1).event EV_SPOKE_FRAME_BAD (srcOf 1 p)

/-! ### A port goes down and comes up -/

/-- A port goes down and retrains (R433): replay buffers are discarded, SEND descriptors end. -/
def State.portDown (s : State) (p : Nat) : State :=
  let q := s.portOf p
  let s1 := s.setPort p { q with
    state := 1, admitted := false, retrains := satInc 16 q.retrains, replay := [], sends := [], w := 0, q := 0, wBack := 0, qBack := 0
    resends := 0, downAt := s.time.t }
  let s2 := q.sends.foldl (fun acc e => acc.endJob e.2 ST_SPOKE_LINK_DOWN 0 0) s1
  let s3 := s2.event EV_SPOKE_RETRAIN (srcOf 1 p)
  if s3.isHead then (s3.setShelf p { s3.shelf p with downSince := some s3.time.t }).alarm AL_SPOKE_LINK_DOWN (srcOf 3 p) else s3

/-- The port carries a link. -/
def SpokePort.linked (q : SpokePort) : Bool := decide (q.state = 2 ∨ q.state = 3)

/-- SPOKE_PORT_SILENCE (R433): nothing received for 200 µs. -/
def execSpokePortSilence (p : Fin 64) (s : State) : Res :=
  onlyIf (s.fw && s.portThere p && (s.portOf p).linked) s (fun s => s.portDown p)

/-- SPOKE_PCS_LOCK_LOSS (R433). -/
def execSpokePcsLockLoss (p : Fin 64) (s : State) : Res :=
  onlyIf (s.fw && s.portThere p && (s.portOf p).linked) s (fun s => s.portDown p)

/-- SPOKE_REPLAY_TIMEOUT (R423, R433): no acknowledgement advanced; the eighth resend in a row takes the port down. -/
def execSpokeReplayTimeout (p : Fin 64) (s : State) : Res :=
  onlyIf (s.fw && s.portThere p && (s.portOf p).state == 3 && !(s.portOf p).replay.isEmpty) s fun s =>
    let q := s.portOf p
    let s1 := ((s.setPort p { q with resends := q.resends + 1 }).resendPort p).event EV_SPOKE_REPLAY (srcOf 1 p)
    if 8 ≤ q.resends + 1 then s1.portDown p else s1

/-- Insert into an ascending list, keeping repeats. -/
def insSort : List Nat → Nat → List Nat
  | [], x => [x]
  | y :: ys, x => if x ≤ y then x :: y :: ys else y :: insSort ys x

/-- The median of the delay measurements (R416). -/
def median (l : List Nat) : Nat := (l.foldl insSort []).getD (l.length / 2) 0

/-- At a head, resend to a shelf whose link is new every request without a reply and every tagged write without an ACK (R433). -/
def State.resendSite (s : State) (site : Nat) : State :=
  let again := s.head.sent.filter (fun e => e.site == site && !e.acked)
  State.pump { s with head := { s.head with
    sent := s.head.sent.filter (fun e => !(e.site == site && !e.acked)), queue := again ++ s.head.queue } }

/-- The other end of a port has restarted since its training before this one: its LINK_EPOCH, which every training raises, starts anew with it
(R417): DEDUCED (log 116). -/
def SpokePort.peerRestarted (q : SpokePort) : Bool := decide (0 < q.peerEpochs.1 ∧ q.peerEpochs.2 ≤ q.peerEpochs.1)

/-- A shelf answers again: the manager records PRESENT of one that was absent or had failed (R360 to R362), FAIL first of one that restarted
without being planned (R89, R361), and asks for the record of its boot, also where the open collection holds an older one (R111, R112). -/
def State.shelfBack (s0 : State) (site : Nat) : State :=
  let unplanned := (s0.portOf site).peerRestarted && !s0.isAbsent site && !s0.isFailed site
  let s := if unplanned then s0.recordFail site else s0
  let s1 := if s.isManager && (s.isAbsent site || s.isFailed site || unplanned) then s.record (.present site) else s
  let asked := s1.ledger.arrayDone || s1.ledger.collecting && s1.ledger.collected.any (fun c => c.role == 1 && c.site == site)
  if s1.leads && asked && s1.p p_ledger_join_records == 1 then (s1.request site (.ledgerGet 0)).2 else s1

/-- The link is UP and the other end's identity passes (R416, R418, R424, R433). -/
def State.portUp (s : State) (p : Nat) (h : Hello) : State :=
  let q := s.portOf p
  let q1 := { q with state := 3, admitted := true, peerSite := h.site, peerRole := h.role, delayNs := median q.delays, w := h.wGrant, q := h.qGrant }
  let s1 := (s.setPort p q1).clearAlarm AL_SPOKE_MISWIRE (srcOf 1 p)
  if s1.isHead then
    let s2 := (s1.setShelf p { s1.shelf p with downSince := none }).clearAlarm AL_SPOKE_LINK_DOWN (srcOf 3 p)
    (s2.resendSite p).shelfBack p
  else s1.clearAlarm AL_SPOKE_PORT_DOWN (srcOf 1 p)

/-- The identity checks after HELLO (R17, R18, R418). -/
def State.identify (s : State) (p : Nat) (h : Hello) : State :=
  let q := s.portOf p
  let note := s.setPort p { q with peerSite := h.site, peerRole := h.role, delayNs := median q.delays }
  if s.isHead then
    if s.nShelves ≤ p then
      if h.role = 1 ∧ s.nShelves ≤ h.site then note.alarm AL_SPOKE_SITE_RANGE (srcOf 1 p) else note.alarm AL_SPOKE_MISWIRE (srcOf 1 p)
    else if h.role = 1 ∧ h.site = p then s.portUp p h
    else note.alarm AL_SPOKE_MISWIRE (srcOf 1 p)
  else if h.role = 0 ∧ h.site = p then s.portUp p h
  else note.alarm AL_SPOKE_MISWIRE (srcOf 1 p)

/-- HELLO (R416 to R418): `round` is how long ago, in ns, this end sent the HELLO that this one echoes. -/
def execHello (p : Fin 64) (h : Hello) (round : Nat) (s : State) : Res :=
  onlyIf (s.fw && s.portThere p && (s.portOf p).state == 2) s fun s =>
    let q := s.portOf p
    let s1 := s.setPort p { q with
      hellosRx := q.hellosRx + 1, lastTTx := h.tTx, peerEpochs := if q.hellosRx = 0 then (q.peerEpochs.2, h.linkEpoch) else (q.peerEpochs.1, h.linkEpoch)
      delays := if q.delays.length < 16 then q.delays ++ [(round - h.turnNs) / 2] else q.delays }
    let s2 := if q.hellosTx < 16 then s1.sendHello p else s1
    let q2 := s2.portOf p
    if 16 ≤ q2.hellosRx ∧ 16 ≤ q2.hellosTx then s2.identify p h else s2

/-! ### SEND -/

/-- SPOKE_SEND (R424, R433, R435): the frame bytes a descriptor names leave on the port; one that waits for credits is no step
yet, nor is one of a head that sends nothing to shelves (R58). -/
def execSpokeSend (n : Nat) (s : State) : Res :=
  s.onJob n 8 [1] fun j s =>
    let p := j.inst
    let q := s.portOf p
    if !q.up then s.endJob n ST_SPOKE_LINK_DOWN 0 0
    else if s.barred then s
    else
      let r := s.dmaRead (num j.desc 24 8) (num j.desc 20 4)
      if r.1 ≠ 0 then r.2.2.endJob n r.1 0 0
      else
        let c := (FrameOp.raw r.2.1).credits
        if s.isHead && decide (q.w < c.1 ∨ q.q < c.2) then s
        else if q.sends.any (·.2 == n) then s
        else
          let s1 := r.2.2.txFrame p ⟨noTag, false, false, 0, 0, .raw r.2.1⟩
          s1.setPort p { s1.portOf p with sends := (s1.portOf p).sends ++ [(q.txLsn, n)] }

end Sys2Proof.Machine
end

