-- ==== Sys2Proof/Machine/Ftl.lean ====
section
/-! DEFINITION. Shelf media management (R439 to R472): capacity, page tags, the strip map, blocks, the power-safe buffer, and what the
shelf firmware does when programs and erases end. -/

namespace Sys2Proof.Machine

/-- A shelf whose firmware runs. -/
def State.shelfOn (s : State) : Bool := s.fw && s.isShelf

/-! ### The profile, capacity -/

/-- Bytes of the profile entry in use (R479). -/
def State.prof (s : State) (off len : Nat) : Nat :=
  match s.flash.profile with
  | some i => num s.boot.profile (16 + 512 * i + off) len
  | none => 0

/-- Planes, cell bits, blocks per plane, native and SLC pages of the dies (R479). -/
def State.planes (s : State) : Nat := s.prof 21 1
def State.cellBits (s : State) : Nat := s.prof 20 1
def State.dieBlocks (s : State) : Nat := s.prof 24 2
def State.pagesOf (s : State) (mode : Nat) : Nat := if mode = 0 then s.prof 28 2 else s.prof 26 2

/-- Dies present (R475). -/
def State.dies (s : State) : Nat :=
  s.flash.chans.foldl (fun a c => a + ((List.range 16).filter (fun i => c.present.getLsbD i)).length) 0

/-- R: main bytes of the dies in native mode (R440, log 38). -/
def State.rawBytes (s : State) : Nat := s.dies * s.planes * s.dieBlocks * s.pagesOf 1 * 16384

/-- B, the buckets of a shard (R262). -/
def shardBuckets : Nat := 518327673

/-- The stored capacity (R440). -/
def State.storedBytes (s : State) : Nat :=
  let cut := s.p p_ftl_slc_base_permille * 1000 + s.p p_ftl_spare_block_pct * 10000 + s.p p_ftl_op_pct * 10000 + 3000
  (s.rawBytes * (1000000 - cut) / 1000000 - shardBuckets * 4096) / 65536 * 65536

/-- First strip number of the index area (R439). -/
def indexStrip : Nat := 2 ^ 48

/-- FREE_BYTES (R440). -/
def State.freeBytes (s : State) : Nat :=
  if s.sh.paused ∨ 2 ≤ s.sh.state then 0
  else s.storedBytes - 65536 * (s.sh.map.filter (fun e => decide (e.1 < indexStrip))).length

/-- The SLC target in native-mode raw bytes (R447). -/
def State.slcGoal (s : State) : Nat :=
  let r := s.rawBytes
  min (r * s.p p_ftl_slc_base_permille / 1000 + s.freeBytes * s.p p_ftl_slc_free_pct / 100) (r * s.p p_ftl_slc_cap_pct / 100)

/-- SLC bytes the buffer may hold: a third or a quarter of the target (R447). -/
def State.slcBytes (s : State) : Nat := s.sh.slcTarget / max s.cellBits 1

/-! ### Addresses -/

/-- A block address (R445): channel, chip enable, LUN, block. -/
def blockAddr (ch ce lun blk : Nat) : Nat := ch + 32 * ce + 128 * lun + 512 * blk

/-- A map entry (R445). -/
def mapEntry (block page mode : Nat) : Nat := block + 2 ^ 24 * page + 2 ^ 36 * mode

/-- The fields of an entry. -/
def entryBlock (e : Nat) : Nat := e % 2 ^ 24
def entryPage (e : Nat) : Nat := e / 2 ^ 24 % 2 ^ 12
def entryMode (e : Nat) : Nat := e / 2 ^ 36 % 4

/-- Where a plane's page of a block lies. -/
def pageKey (block plane page : Nat) : Nat := (block * 4 + plane) * 4096 + page

/-- The four pages of a strip that begins at a page address of a block (R442, R480): plane and page. -/
def stripPlaces (planes page : Nat) : List (Nat × Nat) :=
  if planes = 2 then [(0, page), (1, page), (0, page + 1), (1, page + 1)] else [(0, page), (1, page), (2, page), (3, page)]

/-- A page of a block. -/
def State.page (s : State) (block plane page : Nat) : Option FlPage := SMap.get s.flash.pages (pageKey block plane page)

/-- The pages of a mapped strip. -/
def State.stripPages (s : State) (e : Nat) : List (Option FlPage) :=
  (stripPlaces s.planes (entryPage e)).map (fun p => s.page (entryBlock e) p.1 p.2)

/-! ### Page tags -/

/-- Fields of a page tag (R443). -/
def tagKind (t : Bytes) : Nat := num t 2 1
def tagSeq (t : Bytes) : Nat := num t 4 8
def tagSla (t : Bytes) : Nat := num t 17 7
def tagFlags (t : Bytes) : Nat := num t 24 2

/-- A page tag that passes its CRC (R443, R467). -/
def tagOk (t : Bytes) : Bool := t.length == 32 && sub t 0 2 == [0x50, 0x54] && num t 28 4 == crc32c (t.take 28)

/-! ### Blocks -/

/-- A block; an unlisted one is FREE. -/
def State.block (s : State) (b : Nat) : BlkSt := SMap.getD s.sh.blocks b {}

/-- Store a block. -/
def State.setBlock (s : State) (b : Nat) (v : BlkSt) : State := { s with sh := { s.sh with blocks := SMap.set s.sh.blocks b v } }

/-- Blocks of the shelf, and those FREE. -/
def State.allBlocks (s : State) : Nat := s.dies * s.dieBlocks
def State.freeBlocks (s : State) : Nat := s.allBlocks - (s.sh.blocks.filter (fun e => e.2.st != 0)).length

/-- A map entry names a page of a block. -/
def State.named (s : State) (b : Nat) : Bool := s.sh.map.any (fun e => entryMode e.2 != 3 && entryBlock e.2 == b)

/-- Add a Hem journal record (R455). -/
def State.ftlRec (s : State) (r : FtlRec) : State := { s with keep := { s.keep with records := s.keep.records ++ [r] } }

/-- Change the map (R455): a SET is counted for the next flush. -/
def State.mapSet (s : State) (strip e : Nat) : State :=
  { s with sh := { s.sh with map := SMap.set s.sh.map strip e, changes := s.sh.changes + 1 } }

/-- Mark a block GROWN_BAD (R461, R463): a spare takes its place; an empty pool pauses Clearing. -/
def State.growBad (s : State) (b : Nat) : State :=
  let s1 := (s.setBlock b { s.block b with st := 4, closed := true }).ftlRec (.bad b (s.keep.seq % 2 ^ 56))
  let left := s1.sh.sparePool - 1
  let s2 := State.event { s1 with sh := { s1.sh with sparePool := left, paused := s1.sh.paused || left == 0 } } EV_FTL_GROWN_BAD
    (srcOf 4 (b % 32))
  if left = 0 then s2.alarm AL_FTL_CLEARING_PAUSED 0 else s2

/-- Follow the spare pool's threshold alarm (R470). -/
def State.sparePct (s : State) : Nat := if s.sh.spareInit = 0 then 100 else 100 * s.sh.sparePool / s.sh.spareInit

/-! ### The power-safe buffer -/

/-- PLB sectors (R449). -/
def State.plbSectors (s : State) : Nat := s.p p_shelf_pls_budget_mib * 256

/-- Sectors in use. -/
def State.plbUsed (s : State) : Nat := s.sh.plb.foldl (fun a i => a + i.sectors) 0

/-- Whether a run of sectors is free. -/
def State.plbFits (s : State) (start n : Nat) : Bool :=
  decide (start + n ≤ s.plbSectors) && s.sh.plb.all (fun i => decide (start + n ≤ i.first ∨ i.first + i.sectors ≤ start))

/-- Where an item goes: at the ring's cursor, else behind some item (R449). -/
def State.plbPlace (s : State) (n : Nat) : Option Nat :=
  ([s.sh.plbNext, 0] ++ s.sh.plb.map (fun i => i.first + i.sectors)).find? (fun a => s.plbFits a n)

/-- The item of a tag. -/
def State.plbItem (s : State) (t : Tag) : Option PlbItem := s.sh.plb.find? (fun i => i.tag == t)

/-- Change what is remembered of a tag. -/
def State.updKept (s : State) (t : Tag) (f : Kept → Kept) : State :=
  { s with sh := { s.sh with kept := s.sh.kept.map (fun k => if k.tag = t then f k else k) } }

/-- Send a frame to every head with a link UP (R429). -/
def State.toHeads (s : State) (op : FrameOp) : State :=
  [0, 1].foldl (fun acc p => if (acc.portOf p).up then acc.txFrame p (bareFrame op) else acc) s

/-- Free an item's sectors and send DONE (R451). -/
def State.plbFree (s : State) (t : Tag) : State :=
  match s.plbItem t with
  | none => s
  | some i =>
    let s1 := { s with
      sh := { s.sh with plb := s.sh.plb.filter (fun x => x.tag != t) }
      keep := { s.keep with plbIndex := s.keep.plbIndex.filter (fun x => x.1 != t) } }
    (s1.updKept t (fun k => { k with doneSent := true })).toHeads (.done [⟨t, 4096 * i.sectors⟩])

/-- Free the items of a list of tags. -/
def State.plbFreeAll (s : State) (ts : List Tag) : State := ts.foldl State.plbFree s

/-- Mirrors that a power-safe parity strip 0 releases (R354, R451): those of its stripe, and of a metadata stripe those of its stream
sent up to its close (log 40). -/
def mirrorOf (h : StripHead) (t : Tag) (i : PlbItem) : Bool :=
  match i.body with
  | .image a _ =>
    a.mirror && (if i.tag.cls = .append then i.tag.stream == t.stream && i.tag.item / 256 == h.stripeId
      else h.metadata && i.tag.stream == t.stream && decide (i.tag.seq ≤ h.closeEpn))
  | .packed _ _ _ => false
  | .strip _ _ => false

/-- SHELF_WRITE_POWER_SAFE (R354, R429, R451): an item is wholly in the PLB with its index durable, and a dump area is erased. -/
def execShelfWritePowerSafe (t : Tag) (s : State) : Res :=
  .next (match s.plbItem t with
    | none => s
    | some i =>
      if !(s.shelfOn && !i.safe && s.sh.dumpErased.any id && !s.power.pfAsserted) then s
      else
        let crc := crc32c i.digest
        let s1 := { s with
          sh := { s.sh with plb := s.sh.plb.map (fun (x : PlbItem) => if x.tag = t then { x with safe := true } else x) }
          keep := { s.keep with plbIndex := s.keep.plbIndex ++ [(t, i.sectors, crc, i.first)] } }
        let s2 := (s1.updKept t (fun k => { k with acked := true })).toHeads (.ack [⟨t, 4096 * i.sectors⟩])
        match i.body with
        | .image _ _ => s2
        | .packed h _ _ => s2.mapSet h.stripeId (mapEntry i.first 0 3)
        | .strip h _ =>
          let s3 := s2.mapSet h.stripeId (mapEntry i.first 0 3)
          if h.member = h.k then s3.plbFreeAll ((s3.sh.plb.filter (mirrorOf h t)).map (·.tag)) else s3)

/-! ### Full and worn (R464, R465) -/

/-- Strips a block holds in SLC mode. -/
def State.stripsPerBlock (s : State) : Nat := s.pagesOf 0 * s.planes / 4

/-- The floor of R464: FREE blocks to program every PLB item, and one dump area. -/
def State.floorBlocks (s : State) : Nat :=
  let n := max s.stripsPerBlock 1
  ((s.plbUsed + 15) / 16 + n - 1) / n + (s.plbSectors / 16 + n - 1) / n

/-- Whether a tagged write can still be placed. -/
def State.canPlace (s : State) : Bool := decide (s.floorBlocks < s.freeBlocks)

/-- Enter READ_ONLY (R464). -/
def State.enterReadOnly (s : State) : State :=
  let reason := if s.sh.sparePool = 0 then 2 else 1
  let s1 := { s with sh := { s.sh with state := reason + 1 }, keep := { s.keep with readOnly := reason } }
  (s1.ftlRec (.readOnly reason)).alarm AL_FTL_READ_ONLY 0

/-- Leave READ_ONLY where R465 lets it. -/
def State.leaveReadOnly (s : State) : State :=
  let empty := s.sh.map.all (fun e => decide (indexStrip ≤ e.1))
  let regained := decide (s.p p_ftl_spare_block_pct * s.allBlocks ≤ 100 * s.sh.sparePool)
  if (s.sh.state = 2 ∧ empty) ∨ (s.sh.state = 3 ∧ empty ∧ regained) then
    State.clearAlarm { s with sh := { s.sh with state := 1 }, keep := { s.keep with readOnly := 0 } } AL_FTL_READ_ONLY 0
  else s

/-- Drop a strip from the map (R428, R455). -/
def State.unmapStrip (s : State) (strip : Nat) : State :=
  if SMap.has s.sh.map strip then
    State.leaveReadOnly (State.ftlRec { s with sh := { s.sh with map := SMap.del s.sh.map strip } } (.discard strip (s.keep.seq % 2 ^ 56)))
  else s

/-! ### Programs -/

/-- The buffered whole strip of a strip number: its item, and the images it took. -/
def State.plbStrip (s : State) (strip : Nat) : Option (Tag × List Tag) :=
  (s.sh.plb.find? (fun i => match i.body with
    | .image _ _ => false
    | .packed h _ _ => h.stripeId == strip
    | .strip h _ => h.stripeId == strip)).map (fun i => (i.tag, match i.body with | .packed _ _ ts => ts | .image _ _ => [] | .strip _ _ => []))

/-- A strip's program is verified (R460): the map switches, and the buffer items it holds are freed. -/
def State.stripProgrammed (s : State) (strip e : Nat) : State :=
  let s1 := s.mapSet strip e
  match s1.plbStrip strip with
  | some (t, took) => (s1.plbFree t).plbFreeAll took
  | none => s1

/-- A reply frame to a request (R420). -/
def State.replyTo (s : State) (port : Nat) (tag : Tag) (reqId op status result : Nat) (body : ReplyBody) : State :=
  s.txFrame port ⟨tag, false, false, 0, reqId, .reply op status result body⟩

/-- Blocks that hold a page of a strip, the mapped one and older ones (R428). -/
def State.blocksHolding (s : State) (strip : Nat) : List Nat :=
  ((s.flash.pages.filter (fun e => tagKind e.2.tag == 0 && tagSla e.2.tag / 16 == strip)).map (fun e => e.1 / 16384)).eraseDups

/-- Discard a strip (R428): with PURGE the reply waits until every block that held it is erased. -/
def State.discardStrip (s : State) (p : Purge) (purge : Bool) : State :=
  let s0 := match s.plbStrip p.strip with
    | some (t, took) => (s.plbFree t).plbFreeAll took
    | none => s
  let s1 := s0.unmapStrip p.strip
  let blocks := if purge then s1.blocksHolding p.strip else []
  if blocks.isEmpty then (s1.replyTo p.port p.tag p.reqId 0x32 0 5 .none).giveCredit p.port 0 1
  else { s1 with sh := { s1.sh with purges := s1.sh.purges ++ [{ p with blocks := blocks }] } }

/-- Discards held back for a strip whose copy ended (R459). -/
def State.releaseDiscards (s : State) (strip : Nat) : State :=
  let mine := s.sh.heldDiscards.filter (fun x => x.1.strip == strip)
  mine.foldl (fun acc x => acc.discardStrip x.1 x.2)
    { s with sh := { s.sh with heldDiscards := s.sh.heldDiscards.filter (fun x => x.1.strip != strip) } }

/-- A Clearing copy is verified (R459, R460): the map switches where it still names the victim. -/
def State.copyProgrammed (s : State) (strip e : Nat) : State :=
  let s0 := { s with sh := { s.sh with copying := s.sh.copying.filter (· != strip) } }
  (match SMap.get s0.sh.map strip with
   | some old => if entryMode old ≠ 3 ∧ s0.sh.victim = some (entryBlock old) then s0.mapSet strip e else s0
   | none => s0).releaseDiscards strip

/-- Whether a strip's four pages stand programmed from a page address on, each with its tag (R442, R443). -/
def State.stripAt (s : State) (block page strip : Nat) : Bool :=
  ((stripPlaces s.planes page).zip (List.range 4)).all (fun x =>
    match s.page block x.1.1 x.1.2 with
    | some g => g.good && tagOk g.tag && tagKind g.tag == 0 && tagSla g.tag == 16 * strip + 4 * x.2
    | none => false)

/-- Strips whose last page a program wrote: strip, first page, whether it is a Clearing copy. -/
def State.stripsDone (s : State) (block : Nat) (pages : List Nat) : List (Nat × Nat × Bool) :=
  pages.filterMap (fun p =>
    let plane := if s.planes = 2 then 1 else 3
    match s.page block plane p with
    | some g =>
      let strip := tagSla g.tag / 16
      let first := if s.planes = 2 then p - 1 else p
      if tagKind g.tag = 0 ∧ tagSla g.tag % 16 = 12 ∧ s.stripAt block first strip then some (strip, first, bit (tagFlags g.tag) 1) else none
    | none => none)

/-- What the FTL does once a program of pages of a block is verified (R444, R446, R460). -/
def State.programmed (s : State) (block mode : Nat) (pages : List Nat) (seq : Nat) : State :=
  let b := s.block block
  let next := pages.foldl (fun a p => max a (p + 1)) b.next
  let full := decide (s.pagesOf mode ≤ next)
  let s1 := s.setBlock block { b with st := if full then 2 else 1, mode := mode, next := next, fullAt := if full then s.keep.flushNo else b.fullAt }
  let k := { s1.keep with seq := max s1.keep.seq seq }
  let s2 := { s1 with keep :=
      if k.openBlocks.contains block then k else ShelfKeep.headFrom { k with openBlocks := k.openBlocks ++ [block] } s1.keep }
  (s2.stripsDone block pages).foldl (fun acc x =>
    let e := mapEntry block x.2.1 mode
    if x.2.2 then acc.copyProgrammed x.1 e else acc.stripProgrammed x.1 e) s2

/-! ### Erases -/

/-- The next free erase-intent record (R463): never one that is OPEN. -/
def State.intentSlot (s : State) : Option Nat :=
  (List.range 16384).find? (fun i => match SMap.get s.keep.intents i with | some r => r.state != 1 | none => true)

/-- Write an OPEN intent (R463). -/
def State.openIntent (s : State) (block mode reason : Nat) : Option State :=
  s.intentSlot.map (fun i =>
    let c := (s.block block).count + (if mode = 0 then s.prof 36 2 else 100)
    { s with keep := { s.keep with intents := SMap.set s.keep.intents i ⟨1, reason, mode, block, s.keep.seq, s.epn, c⟩ } })

/-- Rewrite a block's OPEN intent as DONE (R463). -/
def State.closeIntent (s : State) (block : Nat) : State :=
  { s with keep := { s.keep with intents := SMap.mapV s.keep.intents (fun _ r =>
      if r.state = 1 ∧ r.block = block then { r with state := 2 } else r) } }

/-- OPEN intents, by block (R472). -/
def State.openIntents (s : State) : List Intent := (SMap.vals s.keep.intents).filter (·.state == 1)

/-- A purge loses a block; the reply goes once none is left (R428). -/
def State.purgeErased (s : State) (block : Nat) : State :=
  let ps := s.sh.purges.map (fun p => { p with blocks := p.blocks.filter (· != block) })
  let s1 := { s with sh := { s.sh with purges := ps.filter (fun p => !p.blocks.isEmpty) } }
  (ps.filter (fun p => p.blocks.isEmpty)).foldl (fun acc p =>
    (acc.replyTo p.port p.tag p.reqId 0x32 0 5 .none).giveCredit p.port 0 1) s1

/-- An erase ended OK (R446, R453, R463): the block is FREE with no page programmed; a dump area is erased under reason 2. -/
def State.erased (s : State) (block mode : Nat) (planes : List Nat) : State :=
  let intent := s.openIntents.find? (fun r => r.block == block)
  let n := match intent with | some r => r.count | none => (s.block block).count
  let keepPage := fun (k : Nat) (_ : FlPage) => !(k / 16384 == block && planes.contains (k / 4096 % 4))
  let s1 := { s with flash := { s.flash with pages := SMap.keep s.flash.pages keepPage } }
  let s2 := ((s1.setBlock block { st := 0, mode := mode, count := n }).closeIntent block).purgeErased block
  let s3 := { s2 with sh := { s2.sh with victim := if s2.sh.victim = some block then none else s2.sh.victim } }
  match intent with
  | some r => if r.reason = 2 then { s3 with sh := { s3.sh with dumpErased := [true, true], dumpPending := false } } else s3
  | none => s3

/-! ### Flush and Clearing -/

/-- FTL_JOURNAL_FLUSH (R446, R447, R453, R457): journal pages, checkpoint segments and a new head; blocks that nothing names any more
become ERASE_QUEUED. It is due in the epochs of R53, in the epoch after a deferral (R54), and in the next epoch once 4 MiB of records have gathered. -/
def execFtlJournalFlush (s : State) : Res :=
  onlyIf (s.shelfOn && decide (1 ≤ s.sh.state) && s.windowOpen 6 7
      && (decide (s.epn % 256 = 4 * s.site % 256) || s.time.deferred.contains 6 || decide (262144 ≤ s.sh.changes + s.keep.records.length))) s fun s =>
    let s0 := s.inWindow 6
    let n := s0.keep.flushNo + 1
    let pages := (16 * (s0.sh.changes + s0.keep.records.length) + 65535) / 65536 + 16 * s0.p p_ftl_ckpt_segments
    let blocks := SMap.mapV s0.sh.blocks (fun b v => if v.st = 2 ∧ !s0.named b then { v with st := 3 } else v)
    { s0 with
      sh := { s0.sh with blocks := blocks, changes := 0, slcTarget := s0.slcGoal }
      keep := ShelfKeep.headFrom { s0.keep with
        flushNo := n, records := [.flush n], ringPos := s0.keep.ringPos + s0.keep.records.length, openBlocks := (blocks.filter (fun e => e.2.st == 1)).map (·.1), cursor := (s0.keep.cursor + s0.p p_ftl_ckpt_segments) % 32768, map := s0.sh.map, blocks := blocks
        seq := s0.keep.seq + pages } s0.keep }

/-- SLC bytes in use (R448). -/
def State.slcUsed (s : State) : Nat :=
  65536 * (s.sh.map.filter (fun e => entryMode e.2 == 0)).length

/-- Strips a block holds that the map names. -/
def State.validIn (s : State) (b : Nat) : List Nat :=
  (s.sh.map.filter (fun e => entryMode e.2 != 3 && entryBlock e.2 == b)).map (·.1)

/-- The victim order of R458: valid strips x (1 + age / 1,024). -/
def State.victimScore (s : State) (b : Nat) (v : BlkSt) : Nat :=
  (s.validIn b).length * (1024 + (s.keep.flushNo - v.fullAt)) * 4096 / max (s.pagesOf v.mode * s.planes / 4) 1

/-- The block of least score. -/
def leastBy (f : Nat × BlkSt → Nat) : List (Nat × BlkSt) → Option Nat
  | [] => none
  | x :: xs =>
    match leastBy f xs with
    | none => some x.1
    | some y =>
      match xs.find? (·.1 == y) with
      | some z => if f x ≤ f z then some x.1 else some y
      | none => some x.1

/-- Spread of the erase counts beyond `ftl.wl_delta_pct` of the rated cycles (R462). -/
def State.wornApart (s : State) : Bool :=
  let counts := s.sh.blocks.map (·.2.count)
  let hi := counts.foldl max 0
  let lo := if counts.length < s.allBlocks then 0 else counts.foldl min hi
  decide (s.p p_ftl_wl_delta_pct * s.prof 32 4 < hi - lo)

/-- The Clearing victim (R448, R458, R462, R467): a block that takes no further programs first, then SLC blocks to fold, then the least
score while FREE blocks are few, then wear levelling. -/
def State.clearingVictim (s : State) : Option Nat :=
  let full := s.sh.blocks.filter (fun e => e.2.st == 2 || (e.2.st == 1 && e.2.closed))
  let score := fun (e : Nat × BlkSt) => s.victimScore e.1 e.2
  match full.find? (·.2.closed) with
  | some e => some e.1
  | none =>
    let slc := full.filter (·.2.mode == 0)
    if s.slcBytes < s.slcUsed ∧ !slc.isEmpty then leastBy (fun e => e.2.fullAt) slc
    else if s.freeBlocks * 100 < s.p p_ftl_clearing_free_pct * s.allBlocks then leastBy score full
    else if s.wornApart then leastBy (fun e => e.2.count) full
    else none

/-- CLEARING_SLICE (R448, R458, R459, R462): in the window from 1/4, take a victim and put its mapped strips under copy, as many as
`ftl.clearing_max_gbps` allows an epoch. The copies are programs whose tags carry FLAGS bit 1. -/
def execClearingSlice (s : State) : Res :=
  onlyIf (s.shelfOn && decide (1 ≤ s.sh.state) && !s.sh.paused && !s.power.pfAsserted && s.windowOpen 2 6) s fun s =>
    let s0 := s.inWindow 2
    let v := match s0.sh.victim with
      | some b => some b
      | none => s0.clearingVictim
    match v with
    | none => s0
    | some b =>
      let most := s0.p p_ftl_clearing_max_gbps * 1000 * s0.p p_epoch_length_us / 65536
      let want := ((s0.validIn b).filter (fun x => !s0.sh.copying.contains x)).take (max most 1 - s0.sh.copying.length)
      { s0 with sh := { s0.sh with victim := some b, copying := s0.sh.copying ++ want } }

end Sys2Proof.Machine
end

