-- ==== Sys2Proof/Machine/Flash.lean ====
section
/-! DEFINITION. Flash channels and the ROM flash routines (R474 to R505): calling, queues, suspends, and the end of each operation. -/

namespace Sys2Proof.Machine

/-! ### Channels and LUNs -/

/-- A channel; store one. -/
def State.chan (s : State) (c : Nat) : ChanSt := s.flash.chans.getD c {}
def State.setChan (s : State) (c : Nat) (v : ChanSt) : State := { s with flash := { s.flash with chans := s.flash.chans.set c v } }

/-- Index of a die in its channel. -/
def dieIdx (ce lun : Nat) : Nat := 4 * ce + lun

/-- A LUN; store one. -/
def State.lun (s : State) (c d : Nat) : LunSt := SMap.getD (s.chan c).luns d {}
def State.setLun (s : State) (c d : Nat) (v : LunSt) : State := s.setChan c { s.chan c with luns := SMap.set (s.chan c).luns d v }

/-- The block a request names (R445). -/
def reqBlock (r : FlashReq) : Nat := blockAddr r.channel r.ce r.lun (r.block % 32768)

/-- Post a completion on the request's ring (R132, R485); a full ring stalls the channel. -/
def State.flashCpl (s : State) (r : FlashReq) (status consumed produced : Nat) : State :=
  let s1 := s.pushCpl ⟨r.ring, r.notify, ⟨r.tag, status, consumed, produced⟩⟩
  if s1.ring.held.any (·.cq == r.ring.val) then s1.setChan r.channel { s1.chan r.channel with stalled := some r.ring } else s1

/-- The channel may issue: no completion of it waits on a full ring (R485). -/
def State.issues (s : State) (c : Nat) : Bool :=
  match (s.chan c).stalled with
  | some r => !(s.ring.held.any (·.cq == r))
  | none => true

/-- The kinds of routine that touch a block's data. -/
def FlOp.isErase (o : FlOp) : Bool := o == .erase
def FlOp.writes (o : FlOp) : Bool := o == .erase || o == .program

/-- Start what a LUN can start (R486, R493): suspends and resumes stand first; a program or erase waits while an erase is suspended by
FR_SUSPEND, and what is behind it waits too. -/
def State.startLun (s : State) (c d : Nat) : Nat → State
  | 0 => s
  | fuel + 1 =>
    let l := s.lun c d
    if !s.issues c then s
    else
      match l.queue with
      | [] => s
      | x :: rest =>
        let running := match l.running with
          | some r => r.op.isErase
          | none => false
        match x.op with
        | .suspend =>
          if running then
            ((s.setLun c d { l with running := none, suspended := l.running, byPower := false, queue := rest }).flashCpl x.req 0 0 0).startLun c d fuel
          else if l.running.isNone then ((s.setLun c d { l with queue := rest }).flashCpl x.req ST_FLASH_NO_ERASE 0 0).startLun c d fuel
          else s
        | .resume =>
          if l.running.isSome then
            (if running then ((s.setLun c d { l with queue := rest }).flashCpl x.req ST_FLASH_NO_ERASE 0 0).startLun c d fuel else s)
          else if l.suspended.isSome then
            ((s.setLun c d { l with running := l.suspended, suspended := none, since := s.time.t, queue := rest }).flashCpl x.req 0 0 0).startLun c d fuel
          else ((s.setLun c d { l with queue := rest }).flashCpl x.req ST_FLASH_NO_ERASE 0 0).startLun c d fuel
        | _ =>
          if l.running.isSome || (x.op.writes && l.suspended.isSome && !l.byPower) then s
          else (s.setLun c d { l with running := some x, since := s.time.t, queue := rest }).startLun c d fuel

/-- Start with enough steps for the queue. -/
def State.kick (s : State) (c d : Nat) : State := s.startLun c d ((s.lun c d).queue.length + 2)

/-- Kick every LUN of every channel. -/
def State.kickAll (s : State) : State :=
  (List.range 32).foldl (fun acc c => (SMap.keys (acc.chan c).luns).foldl (fun a d => a.kick c d) acc) s

/-! ### Calling (R483 to R485) -/

/-- a0 as the call returns (R485). -/
def State.frStatus (s : State) (r : FlashReq) : Nat :=
  let ch := s.chan r.channel
  let d := dieIdx r.ce r.lun
  if !ch.enable && !ch.clearing then ST_FLASH_CHANNEL_OFF
  else if 4 ≤ r.ce ∨ !ch.present.getLsbD d then ST_FLASH_NO_DIE
  else if 32 ≤ (s.lun r.channel d).queue.length then ST_FLASH_QUEUE_FULL
  else 0

/-- Leave the status in a0 (x10). -/
def State.a0 (s : State) (e status : Nat) : State := s.setEngine e ((s.engine e).put 10 status)

/-- The suspended block of a LUN is the one a request names (R493). -/
def LunSt.erasing (l : LunSt) (r : FlashReq) : Bool :=
  match l.suspended with
  | some x => !l.byPower && x.req.block % 32768 == r.block % 32768
  | none => false

/-- Call a routine: post the operation (R485, R486); a read or program of the suspended block ends at once (R493). -/
def State.frPost (s : State) (e : Nat) (x : FlReq) : State :=
  let r := x.req
  let d := dieIdx r.ce r.lun
  let st := s.frStatus r
  if st ≠ 0 then s.a0 e st
  else
    let l := s.lun r.channel d
    if l.erasing r && (x.op == .read || x.op == .readRetry || x.op == .program) then (s.flashCpl r ST_FLASH_BLOCK_ERASING 0 0).a0 e 0
    else
      let first := x.op == .suspend || x.op == .resume
      let isFirst := fun (y : FlReq) => y.op == .suspend || y.op == .resume
      let q := if first then l.queue.filter isFirst ++ [x] ++ l.queue.filter (fun y => !isFirst y) else l.queue ++ [x]
      ((s.setLun r.channel d { l with queue := q }).kick r.channel d).a0 e 0

/-- A routine can be called: an engine of a shelf runs (R121, R483). -/
def frCall (e : Fin 48) (s : State) (f : State → State) : Res := onlyIf (s.engRuns e && s.isShelf) s f

/-- FR_READ (R484, R485, R489). -/
def execFrRead (e : Fin 48) (r : FlashReq) (s : State) : Res := frCall e s (fun s => s.frPost e { op := .read, req := r })

/-- FR_READ_RETRY (R484, R485, R490). -/
def execFrReadRetry (e : Fin 48) (r : FlashReq) (s : State) : Res := frCall e s (fun s => s.frPost e { op := .readRetry, req := r })

/-- The shipped firmware posts FR_SUSPEND on a LUN: an erase that runs there has had its slice (R494, log 92). -/
def State.maySuspend (s : State) (r : FlashReq) : Bool :=
  let l := s.lun r.channel (dieIdx r.ce r.lun)
  match l.running with
  | some x => !x.op.isErase || decide (l.since + s.p p_flash_erase_min_slice_us * 100 ≤ s.time.t)
  | none => true

/-- The shipped firmware posts FR_RESUME on a LUN: no read waits there (R494, log 92). -/
def State.mayResume (s : State) (r : FlashReq) : Bool :=
  let l := s.lun r.channel (dieIdx r.ce r.lun)
  (l.running.toList ++ l.queue).all (fun x => x.op != .read && x.op != .readRetry)

/-- FR_SUSPEND (R493, R494). -/
def execFrSuspend (e : Fin 48) (r : FlashReq) (s : State) : Res :=
  frCall e s (fun s => if s.maySuspend r then s.frPost e { op := .suspend, req := r } else s)

/-- FR_RESUME (R493, R494). -/
def execFrResume (e : Fin 48) (r : FlashReq) (s : State) : Res :=
  frCall e s (fun s => if s.mayResume r then s.frPost e { op := .resume, req := r } else s)

/-- FR_STATUS (R488). -/
def execFrStatus (e : Fin 48) (r : FlashReq) (s : State) : Res := frCall e s (fun s => s.frPost e { op := .status, req := r })

/-- Bit o of SECTORS. -/
def reqWants (r : FlashReq) (o : Nat) : Bool := r.sectors.getLsbD o

/-- Planes a program or sentinel read names: any sector bit of the plane (R489, R491). -/
def reqPlanes (r : FlashReq) (planes : Nat) : List Nat :=
  (List.range planes).filter (fun p => (List.range 4).any (fun i => reqWants r (4 * p + i)))

/-- Page addresses a program drives (R491). -/
def State.progPages (s : State) (r : FlashReq) : List Nat :=
  if r.mode = 0 then (if s.planes = 2 ∧ reqWants r 8 then [r.page, r.page + 1] else [r.page])
  else (List.range s.cellBits).map (r.page + ·)

/-- Planes a program drives: on a 2-plane die in SLC mode sectors 8 to 15 stand for the next page address (R480, R491). -/
def State.progPlanes (s : State) (r : FlashReq) : List Nat :=
  if s.planes = 2 then [0, 1].filter (fun p => reqWants r (4 * p) || reqWants r (8 + 4 * p)) else reqPlanes r 4

/-- The four sectors of a page from its data and META bytes (R491, R497). -/
def pageOf (data meta_ : Bytes) : FlPage :=
  { sectors := (List.range 4).map (fun j =>
      { data := sub data (4096 * j) 4096, crc64 := num meta_ (16 * j) 8, refTag := num meta_ (16 * j + 8) 6, appTag := num meta_ (16 * j + 14) 2 })
    tag := sub meta_ 64 32 }

/-- The misuses of R496 that a program can show: outside the geometry, a page not erased or out of order, another mode, SECTORS that
break R491. -/
def State.progWild (s : State) (r : FlashReq) : Bool :=
  let b := s.block (reqBlock r)
  let ps := s.progPages r
  !((List.range 4).all (fun p => (List.range 4).all (fun i => reqWants r (4 * p + i) == reqWants r (4 * p))))
    || decide (s.dieBlocks ≤ r.block % 32768) || ps.any (fun p => decide (s.pagesOf r.mode ≤ p))
    || (r.mode != 0 && r.page % max s.cellBits 1 != 0) || decide (b.st ≠ 0 ∧ b.mode ≠ r.mode) || decide (r.page < b.next)
    || ps.any (fun p => (s.progPlanes r).any (fun pl => (s.page (reqBlock r) pl p).isSome))

/-- FR_PROGRAM (R491, R497): `data` and `metas` are what DATA and META hold when the routine reads them, a page at a time. -/
def execFrProgram (e : Fin 48) (r : FlashReq) (data metas : Bytes) (s : State) : Res :=
  frCall e s (fun s =>
    let n := (s.progPages r).length * (s.progPlanes r).length
    let pages := (List.range n).map (fun i => pageOf (sub data (16384 * i) 16384) (sub metas (96 * i) 96))
    s.frPost e { op := .program, req := r, pages := pages, wild := s.progWild r
                 badCheck := pages.any (fun p => p.sectors.any (fun x => crc64 x.data != x.crc64)) })

/-- FR_ERASE (R463, R492): the shelf writes the erase intent first; with no free record it waits. -/
def execFrErase (e : Fin 48) (r : FlashReq) (reason : Fin 5) (s : State) : Res :=
  frCall e s (fun s =>
    if s.frStatus r ≠ 0 then s.frPost e { op := .erase, req := r }
    else
      match s.openIntent (reqBlock r) r.mode reason with
      | some s1 => s1.frPost e { op := .erase, req := r }
      | none => s)

/-! ### Channel features (R495, R499) -/

/-- A channel-level call ends at once with OK. -/
def State.chanCall (s : State) (e : Nat) (r : FlashReq) (produced : Nat) : State := (s.flashCpl r 0 0 produced).a0 e 0

/-- Channel feature 0x01 with SET (R495, R499): ENABLE from bit 0 of ARG; a clear waits for the boundary. -/
def State.chanEnable (s : State) (e : Nat) (r : FlashReq) : State :=
  let c := s.chan r.channel
  let on := r.arg.getLsbD 0
  let c1 := if c.clearing then c else if on then { c with enable := true } else if c.enable then { c with enable := false, clearing := true } else c
  (s.setChan r.channel c1).chanCall e r 0

/-- FR_FEATURE_CH_ENABLE (R495, R499). -/
def execFrFeatureChEnable (e : Fin 48) (r : FlashReq) (s : State) : Res := frCall e s (fun s => s.chanEnable e r)

/-- Operations queued on a channel (R503). -/
def ChanSt.queued (c : ChanSt) : Nat := c.luns.foldl (fun a l => a + l.2.queue.length) 0

/-- CH_STATUS (R503). -/
def ChanSt.status (c : ChanSt) : Nat :=
  c.state + 4 * c.present.toNat + 2 ^ 18 * b2n c.degraded + 2 ^ 32 * c.queued + 2 ^ 48 * c.uncorr

/-- CH_CTRL (R503). -/
def ChanSt.ctrl (c : ChanSt) : Nat := b2n c.enable + 2 * c.std + 16 * b2n c.lpddr + 2 ^ 16 * c.rate

/-- LUN_STATE (R504). -/
def LunSt.status (l : LunSt) : Nat :=
  let op := match l.running with
    | some x => (match x.op with | .read => 1 | .readRetry => 1 | .program => 2 | .erase => 3 | _ => 0)
    | none => 0
  let susp := match l.suspended with | some x => 4 + 8 * (x.req.block % 32768) | none => 0
  op + susp + 2 ^ 32 * l.queue.length

/-- Channel feature 0x02 without SET (R495): CH_STATUS bits 31 to 0 into META. -/
def State.chanStatus (s : State) (e : Nat) (r : FlashReq) : State := (s.dmaWrite r.metaAddr (le 4 ((s.chan r.channel).status % 2 ^ 32))).chanCall e r 4

/-- FR_FEATURE_CH_STATUS (R495). -/
def execFrFeatureChStatus (e : Fin 48) (r : FlashReq) (s : State) : Res := frCall e s (fun s => s.chanStatus e r)

/-- FR_FEATURE (R495): of a die; with CE 0xFF of the channel, where a feature other than those two completes OK and changes nothing. -/
def execFrFeature (e : Fin 48) (r : FlashReq) (s : State) : Res :=
  frCall e s (fun s =>
    if r.ce ≠ 0xFF then s.frPost e { op := .feature, req := r }
    else if r.set ∧ r.sel = 1 then s.chanEnable e r
    else if ¬ r.set ∧ r.sel = 2 then s.chanStatus e r
    else s.chanCall e r (if r.set then 0 else 4))

/-! ### Reads -/

/-- Where a strip sector lies from a page address on (R480): plane, page, codeword. -/
def State.sectorAt (s : State) (page o : Nat) : Nat × Nat × Nat :=
  if s.planes = 2 then (o / 4 % 2, page + o / 8, o % 4) else (o / 4, page, o % 4)

/-- What a read found of one sector. -/
structure SectorRead where
  o : Nat
  sector : Option Sector
  erased : Bool
  checkFail : Bool

/-- Read one requested sector (R481, R489, R498). -/
def State.readOne (s : State) (r : FlashReq) (d : DieResult) (o : Nat) : SectorRead :=
  let w := s.sectorAt r.page o
  match s.page (reqBlock r) w.1 w.2.1 with
  | none => ⟨o, none, !d.undecoded.getLsbD o, false⟩
  | some g =>
    if !g.good || d.undecoded.getLsbD o then ⟨o, none, false, false⟩
    else
      match g.sectors[w.2.2]? with
      | none => ⟨o, none, false, false⟩
      | some x =>
        let bad := (r.chkCrc && crc64 x.data != x.crc64) || (r.chkRef && x.refTag != r.refTag) || (r.chkApp && x.appTag != r.appTag)
        ⟨o, some x, false, bad⟩

/-- A bit mask from a list of reads. -/
def maskOf (l : List SectorRead) (p : SectorRead → Bool) : Nat := (l.filter p).foldl (fun a x => a + 2 ^ x.o) 0

/-- The 16-byte check field of a sector (R497). -/
def sectorBytes (x : Sector) : Bytes := le 8 x.crc64 ++ le 6 x.refTag ++ le 2 x.appTag

/-- A hard or retried read ends (R487, R489, R490). -/
def State.endRead (s : State) (x : FlReq) (d : DieResult) : State :=
  let r := x.req
  let want := (List.range 16).filter (reqWants r)
  let rs := want.map (s.readOne r d)
  let fail := maskOf rs (fun y => y.sector.isNone)
  let erasedM := maskOf rs (·.erased)
  let check := maskOf rs (fun y => y.sector.isSome && y.checkFail)
  let setNo := if x.op = .readRetry then d.set else 0
  let data := rs.flatMap (fun y => match y.sector with | some v => if y.checkFail then zeros 4096 else v.data | none => zeros 4096)
  let fields := rs.flatMap (fun y => match y.sector with | some v => sectorBytes v | none => zeros 16)
  let places := (want.map (fun o => let w := s.sectorAt r.page o; (w.1, w.2.1))).eraseDups
  let tags := if r.wantTag then places.flatMap (fun p => match s.page (reqBlock r) p.1 p.2 with | some g => padTo 32 g.tag | none => zeros 32) else []
  let res := le 2 fail ++ le 2 erasedM ++ le 2 check ++ le 1 setNo ++ le 1 (min d.maxCbits 255) ++ zeros 8
  let status := if !want.isEmpty ∧ rs.all (·.erased) then ST_FLASH_ERASED else if fail ≠ 0 then ST_FLASH_UNCORR
    else if check ≠ 0 then ST_FLASH_CHECK else 0
  let s1 := (s.dmaWrite r.data data).dmaWrite r.metaAddr (res ++ fields ++ tags)
  let c := s1.chan r.channel
  let s2 := if status = ST_FLASH_UNCORR then s1.setChan r.channel { c with uncorr := satInc 16 c.uncorr } else s1
  let h := s2.sh.health
  let soft := decide (x.op = .readRetry ∧ setNo = 17)
  let bin := fun (l : List Nat) i => l.set i (l.getD i 0 + 1)
  let h1 := { h with
    retries := if x.op = .readRetry then satInc 32 h.retries else h.retries
    softs := if soft then satInc 32 h.softs else h.softs
    sectorFails := if x.op = .readRetry then satAdd 32 h.sectorFails ((rs.filter (fun y => y.sector.isNone)).length) else h.sectorFails
    cbitHist := if fail = 0 then bin h.cbitHist (min d.maxCbits 63) else h.cbitHist
    retryHist := if x.op = .readRetry ∧ fail = 0 ∧ setNo ≠ 0 then bin h.retryHist (setNo - 1) else h.retryHist }
  let s3 := { s2 with sh := { s2.sh with health := h1 } }
  let s4 := if soft then s3.event EV_FLASH_SOFT_DECODE (srcOf 4 r.channel) else s3
  s4.flashCpl r status 0 (4096 * want.length)

/-- A sentinel read ends (R489): nothing is decoded, whole planes read erased or not. -/
def State.endSentinel (s : State) (x : FlReq) (d : DieResult) : State :=
  let r := x.req
  let ps := reqPlanes r s.planes
  let isErased := fun p => (s.page (reqBlock r) p r.page).isNone && !d.undecoded.getLsbD (4 * p)
  let mask := (ps.filter isErased).foldl (fun a p => a + 15 * 2 ^ (4 * p)) 0
  let res := zeros 2 ++ le 2 mask ++ zeros 2 ++ zeros 2 ++ le 4 (min d.zeros (2 ^ 32 - 1)) ++ zeros 4
  (s.dmaWrite r.metaAddr res).flashCpl r (if !ps.isEmpty ∧ ps.all isErased then ST_FLASH_ERASED else 0) 0 0

/-! ### Programs and erases -/

/-- The page places a program drives, in DATA order. -/
def State.progPlaces (s : State) (r : FlashReq) : List (Nat × Nat) :=
  (s.progPages r).flatMap (fun p => (s.progPlanes r).map (fun pl => (pl, p)))

/-- Store pages at their places. -/
def storePages (block : Nat) : List ((Nat × Nat) × FlPage) → SMap FlPage → SMap FlPage
  | [], m => m
  | (p, g) :: rest, m => storePages block rest (SMap.set m (pageKey block p.1 p.2) g)

/-- A page with free content (R491, R496): it decodes or not as the die then shows. -/
def State.freePage (s : State) (good : Bool) : FlPage × State :=
  let b := s.takeFreeBytes 16512
  ({ sectors := (List.range 4).map (fun j =>
       { data := sub b.1 (4096 * j) 4096, crc64 := num b.1 (16384 + 16 * j) 8, refTag := num b.1 (16392 + 16 * j) 6, appTag := num b.1 (16398 + 16 * j) 2 })
     tag := sub b.1 16448 32, good := good }, b.2)

/-- Free pages for a list of places. -/
def freePages (good : Bool) : List (Nat × Nat) → State → List ((Nat × Nat) × FlPage) × State
  | [], s => ([], s)
  | p :: rest, s =>
    let g := s.freePage good
    let r := freePages good rest g.2
    ((p, g.1) :: r.1, r.2)

/-- A program ends (R460, R461, R491, R497). -/
def State.endProgram (s : State) (x : FlReq) (d : DieResult) : State :=
  let r := x.req
  let b := reqBlock r
  let places := s.progPlaces r
  if x.badCheck then s.flashCpl r ST_FLASH_CHECK_WRITE 0 0
  else if d.failed then
    let f := freePages false places s
    let h := f.2.sh.health
    let s1 := { f.2 with
      flash := { f.2.flash with pages := storePages b f.1 f.2.flash.pages }
      sh := { f.2.sh with health := { h with progFails := satInc 16 h.progFails } } }
    (s1.growBad b).flashCpl r ST_FLASH_PROG_FAIL (16384 * x.pages.length) 0
  else
    let f := if x.wild then freePages true places s else (places.zip x.pages, s)
    let s1 := { f.2 with flash := { f.2.flash with pages := storePages b f.1 f.2.flash.pages } }
    let seq := f.1.foldl (fun a e => if tagOk e.2.tag then max a (tagSeq e.2.tag) else a) 0
    let s2 := if x.wild then s1 else s1.programmed b r.mode (s.progPages r) seq
    s2.flashCpl r 0 (16384 * x.pages.length) 0

/-- An erase ends (R446, R463, R492): planes whose bit 4p is set. -/
def State.endErase (s : State) (x : FlReq) (d : DieResult) : State :=
  let r := x.req
  let b := reqBlock r
  if d.failed then
    let h := s.sh.health
    let s1 := { s with sh := { s.sh with health := { h with eraseFails := satInc 16 h.eraseFails } } }
    (s1.growBad b).flashCpl r ST_FLASH_ERASE_FAIL 0 0
  else (s.erased b r.mode ((List.range s.planes).filter (fun p => reqWants r (4 * p)))).flashCpl r 0 0 0

/-- FLASH_OP_COMPLETE (R485 to R498): the operation running on a die ends. -/
def execFlashOpComplete (c : Fin 32) (ce lun : Fin 4) (d : DieResult) (s : State) : Res :=
  let k := dieIdx ce lun
  .next (if !s.shelfOn then s
    else match (s.lun c k).running with
    | none => s
    | some x =>
      let r := x.req
      let s0 := s.setLun c k { s.lun c k with running := none }
      let s1 := match x.op with
        | .read => if r.sentinel then s0.endSentinel x d else s0.endRead x d
        | .readRetry => if r.sentinel then s0.endSentinel x d else s0.endRead x d
        | .program => s0.endProgram x d
        | .erase => s0.endErase x d
        | .status =>
          (s0.dmaWrite r.metaAddr (padTo 1 d.bytes ++ zeros 7 ++ le 8 (s0.lun c k).status)).flashCpl r 0 0 16
        | .feature =>
          if r.set then
            (s0.setLun c k { s0.lun c k with feats := SMap.set (s0.lun c k).feats r.sel r.arg.toNat }).flashCpl r 0 0 0
          else (s0.dmaWrite r.metaAddr (padTo 4 d.bytes)).flashCpl r 0 0 4
        | .suspend => s0
        | .resume => s0
      s1.kick c k)

/-- FLASH_OP_TIMEOUT (R477, R505): twice the profile time has passed; the die is reset, and may not answer. -/
def execFlashOpTimeout (c : Fin 32) (ce lun : Fin 4) (answers : Bool) (s : State) : Res :=
  let k := dieIdx ce lun
  .next (if !s.shelfOn then s
    else match (s.lun c k).running with
    | none => s
    | some x =>
      let s0 := (s.setLun c k { s.lun c k with running := none, failed := !answers }).event EV_FLASH_DIE_RESET (srcOf 4 c)
      let s1 := if x.op.writes then s0.growBad (reqBlock x.req) else s0
      let s2 := s1.flashCpl x.req ST_FLASH_TIMEOUT 0 0
      let s3 := if answers then s2 else s2.alarm AL_FLASH_DIE_FAIL (srcOf 4 c)
      let ch := s3.chan c
      let dead := (List.range 16).all (fun i => !ch.present.getLsbD i || (SMap.getD ch.luns i {}).failed)
      (if dead then s3.alarm AL_FLASH_CHANNEL_FAULT (srcOf 4 c) else s3).kick c k)

/-! ### Disabling and power failure -/

/-- End every queued operation of a LUN with a status. -/
def State.flushLun (s : State) (c d status : Nat) : State :=
  let l := s.lun c d
  l.queue.foldl (fun acc x => acc.flashCpl x.req status 0 0) (s.setLun c d { l with queue := [] })

/-- At a boundary, clears of ENABLE take effect (R499): queued operations are cancelled, a suspended erase runs on. -/
def State.flashClears (s : State) : State :=
  (List.range 32).foldl (fun acc c =>
    if (acc.chan c).clearing then
      let s1 := (SMap.keys (acc.chan c).luns).foldl (fun a d =>
        let l := a.lun c d
        let a1 := if l.suspended.isSome && l.running.isNone then a.setLun c d { l with running := l.suspended, suspended := none, since := a.time.t } else a
        a1.flushLun c d ST_ENGINE_CANCELLED) acc
      s1.setChan c { s1.chan c with clearing := false }
    else acc) s

/-- POWER_FAIL_N asserted (R500): running erases are suspended, queued operations end having done nothing. -/
def State.flashPowerFail (s : State) : State :=
  (List.range 32).foldl (fun acc c =>
    (SMap.keys (acc.chan c).luns).foldl (fun a d =>
      let l := a.lun c d
      let a1 := match l.running with
        | some x => if x.op.isErase then a.setLun c d { l with running := none, suspended := some x, byPower := true } else a
        | none => a
      a1.flushLun c d ST_FLASH_POWER_FAIL) acc) s

/-- POWER_FAIL_N released with power kept (R500): the erases it suspended run on. -/
def State.flashPowerBack (s : State) : State :=
  (List.range 32).foldl (fun acc c =>
    (SMap.keys (acc.chan c).luns).foldl (fun a d =>
      let l := a.lun c d
      if l.byPower && l.suspended.isSome && l.running.isNone then
        a.setLun c d { l with running := l.suspended, suspended := none, byPower := false, since := a.time.t }
      else a) acc) s

end Sys2Proof.Machine
end

