-- ==== Sys2Proof/Machine/Shelf.lean ====
section
/-! DEFINITION. What a shelf does with the frames of the heads (R394, R399 to R404, R422 to R434, R449 to R452): marks, relays, leases,
tagged writes, reads. -/

namespace Sys2Proof.Machine

/-- A frame at a shelf past stage RECOVERY; before that the frame waits in the receive ring (R435). -/
def onShelf0 (h : FrameHdr) (s : State) (f : State → State) : Res :=
  if s.isShelf && s.stageFrom .join then onFrame h s f else .next s

/-- A frame that only a shelf of the array serves: one that is held, or whose ledger commit failed, grants no lease and takes no strip
(R85, R108, R441, R476); the frame waits. -/
def onShelf (h : FrameHdr) (s : State) (f : State → State) : Res := if s.fit then onShelf0 h s f else .next s

/-- A frame at a head. -/
def onHead (h : FrameHdr) (s : State) (f : State → State) : Res := onFrame h s (fun s => if s.isHead then f s else s)

/-! ### The lease record (R399) -/

/-- The record before anything is written: no manager, each stream owned by the head whose site it bears (R410). -/
def State.lease (s : State) : LeaseRec :=
  match s.keep.lease with
  | some r => r
  | none =>
    { leaseGen := 0, arrayId := s.arrayId, manager := 255, fenced := 0, owner0 := 0, owner1 := 1, grantUntil0 := 0, grantUntil1 := 0
      streamGen0 := 0, streamGen1 := 0, resumeSsn0 := 1, resumeSsn1 := 1, eBase := 0, tBase := 0, barrierEpn := 0, highEpn := 0 }

/-- Make a record durable, in the slot group that does not hold the newest (R399, R432). -/
def State.putLease (s : State) (r : LeaseRec) : State :=
  { s with keep := { s.keep with lease := some r, leaseOld := s.keep.lease, leaseNo := s.keep.leaseNo + 1 } }

/-- Whether a head site is fenced; a record with it fenced, or not. -/
def leaseFenced (r : LeaseRec) (site : Nat) : Bool := r.fenced.getLsbD site
def leaseFence (r : LeaseRec) (site : Nat) (b : Bool) : LeaseRec :=
  let m := BitVec.ofNat 2 (2 ^ site)
  { r with fenced := if b then r.fenced ||| m else r.fenced &&& ~~~m }

/-- A record with a head's grant. -/
def leaseGrant (r : LeaseRec) (site n : Nat) : LeaseRec := if site = 0 then { r with grantUntil0 := n } else { r with grantUntil1 := n }

/-- Generation and RESUME_SSN of a stream. -/
def leaseStreamGen (r : LeaseRec) (stream : Nat) : Nat := if stream = 0 then r.streamGen0 else r.streamGen1
def leaseStream (r : LeaseRec) (stream owner gen resume : Nat) : LeaseRec :=
  if stream = 0 then { r with owner0 := owner, streamGen0 := gen, resumeSsn0 := resume }
  else { r with owner1 := owner, streamGen1 := gen, resumeSsn1 := resume }

/-- A head may write here: its grant current, not fenced (R400). -/
def State.mayWrite (s : State) (site : Nat) : Bool := !leaseFenced s.lease site && decide (s.epn ≤ grantOf s.lease site)

/-- Bits [1:0] of a lease reply: the ports that are UP (R432). -/
def State.portsUp (s : State) : BitVec 2 := BitVec.ofNat 2 (b2n (s.portOf 0).up + 2 * b2n (s.portOf 1).up)

/-- Why a lease frame is refused, in the order of R432; 0 where it is not. -/
def State.leaseRefusal (s : State) (site : Nat) (q : LeaseReq) : Nat :=
  if q.arrayId != s.arrayId then ST_SPOKE_ARRAY_ID
  else if leaseFenced s.lease site then ST_SPOKE_FENCED
  else if q.leaseGen < s.lease.leaseGen then ST_SPOKE_LEASE_STALE
  else 0

/-- A shelf accepts this head as manager: no manager is recorded, or one without a current grant (R410). -/
def State.managerFree (s : State) : Bool :=
  s.lease.manager == 255 || (decide (s.lease.manager < 2) && decide (grantOf s.lease s.lease.manager < s.epn))

/-- The SET bits of a granted renewal (R432). -/
def applySets (q : LeaseReq) (r : LeaseRec) : LeaseRec :=
  let r1 := if q.setOwner then leaseStream r q.streamArg q.ownerArg q.streamGen q.resumeSsn else r
  let r2 := if q.setManager then { r1 with manager := q.siteArg } else r1
  let r3 := if q.clearFence then leaseFence r2 q.siteArg false else r2
  let r4 := if q.setBase then { r3 with eBase := q.eBase, tBase := q.tBase } else r3
  if q.setBarrier then { r4 with barrierEpn := q.barrierEpn } else r4

/-- The rebase values that a granted renewal of the manager sets: the shelf counts its epochs by them from then on (R37, R38). -/
def State.setBaseBy (s : State) (site : Nat) (q : LeaseReq) : State :=
  if q.setBase && s.lease.manager == site then { s with time := { s.time with eBase := q.eBase, tBase := q.tBase } } else s

/-- RENEW (R38, R400, R410, R432). -/
def execRenew (h : FrameHdr) (q : LeaseReq) (s : State) : Res :=
  onShelf h s fun s =>
    let site := h.port.val
    let st := s.leaseRefusal site q
    let s1 :=
      if st ≠ 0 then s
      else
        let free := s.managerFree
        let s0 := s.setBaseBy site q
        let r := leaseGrant s.lease site (s0.epn + s.p p_lease_term_epochs)
        let r1 := { r with highEpn := max r.highEpn q.epn }
        s0.putLease (if r.manager = site then applySets q r1
          else if q.setManager ∧ q.siteArg = site ∧ free then { r1 with manager := site } else r1)
    s1.replyTo h.port h.tag h.reqId 0x12 st 0 (.lease s1.lease s1.portsUp)

/-- Buffered appends of a stream that a claim supersedes (R401). -/
def staleItem (stream gen resume : Nat) (i : PlbItem) : Bool :=
  i.tag.cls == .append && i.tag.stream == stream && decide (i.gen < gen ∧ resume ≤ i.tag.seq)

/-- A claim of the record's own generation repeats what the record holds of a stream: the frame was resent (R423). -/
def leaseRepeats (r : LeaseRec) (winner : Nat) (q : LeaseReq) : Bool :=
  r.leaseGen == q.leaseGen && ownerOf r q.streamArg == winner && decide (q.streamGen ≤ leaseStreamGen r q.streamArg)
    && (if q.streamArg = 0 then r.resumeSsn0 else r.resumeSsn1) == q.resumeSsn

/-- The generation that a claim gives its stream: raised above the record's (R401). -/
def leaseClaimGen (r : LeaseRec) (winner : Nat) (q : LeaseReq) : Nat :=
  if leaseRepeats r winner q then leaseStreamGen r q.streamArg else max (leaseStreamGen r q.streamArg + 1) q.streamGen

/-- What an accepted claim of `winner` against `lost` does (R401). One that names no stream fences and takes the lease alone: the lost head
sequenced none (R398). -/
def State.claimLease (s : State) (winner lost : Nat) (q : LeaseReq) : State :=
  let r := leaseGrant (leaseFence s.lease lost true) lost 0
  let gen := leaseClaimGen s.lease winner q
  let r1 := if q.streamArg < 2 then leaseStream r q.streamArg winner gen q.resumeSsn else r
  let s1 := s.putLease { r1 with leaseGen := q.leaseGen, owner0 := winner, owner1 := winner, manager := winner }
  if q.streamArg < 2 then s1.plbFreeAll ((s1.sh.plb.filter (staleItem q.streamArg gen q.resumeSsn)).map (·.tag)) else s1

/-- CLAIM (R401, R432): the reply gives the lost head's grant as it stood before the fence. -/
def execClaim (h : FrameHdr) (q : LeaseReq) (s : State) : Res :=
  onShelf h s fun s =>
    let st := s.leaseRefusal h.port q
    let prior := grantOf s.lease q.siteArg
    let s1 := if st ≠ 0 then s else s.claimLease h.port q.siteArg q
    s1.replyTo h.port h.tag h.reqId 0x13 st 0 (.claimed s1.lease s1.portsUp prior)

/-- LEASE_RELEASE (R404, R432): the same effect as the other head's claim against the sender. -/
def execLeaseRelease (h : FrameHdr) (q : LeaseReq) (s : State) : Res :=
  onShelf h s fun s =>
    let st := s.leaseRefusal h.port q
    let s1 := if st ≠ 0 then s else s.claimLease (1 - h.port) h.port q
    s1.replyTo h.port h.tag h.reqId 0x14 st 0 (.lease s1.lease s1.portsUp)

/-! ### Marks and relays -/

/-- A shelf has a mark of a head in the current or the previous epoch (R49). -/
def State.markRecent (s : State) (site : Nat) : Bool :=
  match s.time.markEpn.getD site none with
  | some n => decide (s.epn ≤ n + 1)
  | none => false

/-- A mark of a head has been received in this epoch. -/
def State.markFrom (s : State) (site : Nat) : State := { s with time := { s.time with markEpn := s.time.markEpn.set site (some s.epn) } }

/-- The head whose marks a shelf follows (R49). -/
def State.markSource (s : State) : Option Nat :=
  let m := s.lease.manager
  if decide (m < 2) && decide (s.epn ≤ grantOf s.lease m) && s.markRecent m then some m
  else if s.markRecent 0 then some 0
  else if s.markRecent 1 then some 1
  else none

/-- The quality a mark carries (R62, R430). -/
def qualityFrom (n : Nat) : Quality := if n = 0 then .locked else if n = 1 then .holdover else .freeRun

/-- MARK (R49 to R51, R430): `t` is the mark's T; the link delay is added to it. -/
def execMark (h : FrameHdr) (_n t quality : Nat) (s : State) : Res :=
  if !s.isShelf then .next s
  else onFrame h s fun s =>
    let site := h.port.val
    let target := t + (s.portOf h.port).delayNs / 10
    let s1 := s.markFrom site
    let follow := fun (_ : Unit) => State.followMark { s1 with time := { s1.time with markSrc := some site } } target (qualityFrom quality)
    if !(s1.time.tSet && s1.time.state != .markLost) then (follow ()).markFrom site
    else if s1.markSource = some site then follow ()
    else
      let apart := if target < s1.time.t then s1.time.t - target else target - s1.time.t
      if s1.p p_time_skew_max_ns < 10 * apart then s1.event EV_EPOCH_MARK_SKEW (srcOf 10 site) else s1

/-- HB_RELAY (R52, R54, R397, R431): a shelf relays it to the other head within the window 0 to 1/8, one per origin per epoch; a head hears
its peer on path B. -/
def execHbRelay (h : FrameHdr) (origin : Fin 2) (b : Heartbeat) (s : State) : Res :=
  onFrame h s fun s =>
    if s.isHead then (if origin.val = s.peerSite then s.pathBHeard b else s)
    else
      let other := 1 - h.port.val
      let sent := match SMap.get s.sh.relayed origin with | some e => decide (s.epn ≤ e) | none => false
      if origin.val = h.port.val ∧ (s.portOf other).up ∧ !sent ∧ s.notPast 1 then
        State.txFrame { s with sh := { s.sh with relayed := SMap.set s.sh.relayed origin s.epn } } other (bareFrame (.hbRelay origin b))
      else s

/-! ### Tagged writes -/

/-- The digest of a tagged write (R422). -/
def writeDigest (opcode : Nat) (t : Tag) (payload : Bytes) : Bytes :=
  sha256 (le 1 opcode ++ le 1 (classNum t.cls) ++ le 1 t.stream ++ le 1 0 ++ le 4 payload.length ++ le 8 t.seq ++ le 8 t.item ++ payload)

/-- The 128 bytes of an append head (R425). -/
def appendHeadBytes (a : AppendHead) : Bytes :=
  le 2 a.imageLen ++ le 2 a.granule ++ le 1 (b2n a.raw + 2 * b2n a.mirror) ++ le 1 a.domain ++ le 2 a.nsIndex ++ le 8 a.chunkNo
    ++ le 6 a.chunkId ++ le 2 a.appTag ++ le 8 a.birth ++ padTo 32 a.fp ++ le 8 a.crc64 ++ le 6 a.refTag ++ le 2 a.checkApp
    ++ le 1 a.lostBlocks ++ zeros 47

/-- What is remembered of a tag within the compare window (R394). -/
def State.keptOf (s : State) (t : Tag) : Option Kept :=
  s.sh.kept.find? (fun k => k.tag == t && decide (s.epn ≤ k.epn + s.p p_seam_pair_window_epochs))

/-- Remember a copy. -/
def State.remember (s : State) (k : Kept) : State :=
  { s with sh := { s.sh with kept := s.sh.kept.filter (fun x => x.tag != k.tag) ++ [k] } }

/-- A tagged write as it came: who sent it, what it is. -/
structure Copied where
  port : Nat
  tag : Tag
  opcode : Nat
  gen : Nat
  reqId : Nat
  single : Bool
  payload : Bytes
  /-- Its check fields agree. -/
  passes : Bool
  /-- The buffer copy it would be kept as; none for an index operation. -/
  body : Option PlbBody

/-- Refuse a write with a status: nothing is applied (R427). -/
def State.refuse (s : State) (c : Copied) (st : Nat) : State := s.replyTo c.port c.tag c.reqId c.opcode st 0 .none

/-- Put a copy into the power-safe buffer in place of any item of its tag (R449, R452, R453, R464). -/
def State.bufferCopy (s : State) (c : Copied) (b : PlbBody) : State :=
  let s0 := { s with sh := { s.sh with plb := s.sh.plb.filter (fun x => x.tag != c.tag) }
                     keep := { s.keep with plbIndex := s.keep.plbIndex.filter (fun x => x.1 != c.tag) } }
  let n := itemSectors c.payload.length
  if !s.canPlace then s.enterReadOnly.refuse c ST_FTL_SHELF_FULL
  else
    match s0.plbPlace n with
    | none => s.refuse c ST_FTL_BUFFER_FULL
    | some a =>
      let d := writeDigest c.opcode c.tag c.payload
      let item : PlbItem := { tag := c.tag, op := c.opcode, gen := c.gen, len := c.payload.length, first := a, sectors := n
                              digest := d, body := b, single := c.single }
      State.remember { s0 with sh := { s0.sh with plb := s0.sh.plb ++ [item], plbNext := a + n } }
        { tag := c.tag, site := c.port, epn := s.epn, digest := d, gen := c.gen, passed := true, bytes := 4096 * n }

/-- Repeat the ACK of a resent write and, where it is due, the DONE (R427). -/
def State.repeatAck (s : State) (c : Copied) (k : Kept) : State :=
  let s1 := if k.acked then s.txFrame c.port (bareFrame (.ack [⟨k.tag, k.bytes⟩])) else s
  let s2 := if k.doneSent then s1.txFrame c.port (bareFrame (.done [⟨k.tag, k.bytes⟩])) else s1
  if k.digest = writeDigest c.opcode c.tag c.payload then s2 else s2.event EV_SPOKE_TAG_REUSE (srcOf 1 c.port)

/-- A copy whose check fields fail, as the first of its tag or beside one that failed: remembered so that the pair can be told (R394). -/
def State.failCopy (s : State) (c : Copied) : State :=
  State.refuse (s.remember { tag := c.tag, site := c.port, epn := s.epn, digest := [], gen := c.gen, passed := false, bytes := 0 }) c ST_SPOKE_CHECK

/-- An event of R394 that names a head, reported to both heads (log 115). -/
def State.reportHead (s : State) (code site : Nat) : State := (s.event code (srcOf 10 site)).emit (.report code site)

/-- EV_SEAM_CHECK_FAIL naming a head (R394). -/
def State.checkFail (s : State) (site : Nat) : State := s.reportHead EV_SEAM_CHECK_FAIL site

/-- Both copies passed and differ (R394): the other head than the stream's owner is suspect. -/
def State.digestDiff (s : State) (stream : Nat) : State := s.reportHead EV_SEAM_DIGEST_DIFF (1 - ownerOf s.lease stream)

/-- Keep a copy: `keep` says how. -/
def State.keepCopy (s : State) (c : Copied) (keep : State → State) : State := if c.passes then keep s else s.failCopy c

/-- A passed copy of the tag from the other head, of the same generation, has another digest (R394). -/
def State.differs (s : State) (c : Copied) : Bool :=
  match s.keptOf c.tag with
  | some k => k.passed && k.site != c.port && !c.single && decide (c.gen ≤ k.gen) && k.digest != writeDigest c.opcode c.tag c.payload
  | none => false

/-- Handle a copy against what is kept of its tag (R394, R427); `again` repeats the answer to a resend, `keep` takes the copy. -/
def State.compareCopy (s : State) (c : Copied) (again : Kept → State → State) (keep : State → State) : State :=
  match s.keptOf c.tag with
  | none => s.keepCopy c keep
  | some k =>
    let d := writeDigest c.opcode c.tag c.payload
    if k.site = c.port then
      if k.passed ∧ (!c.single ∨ k.digest = d) then again k s else s.keepCopy c keep
    else if c.single ∨ k.gen < c.gen then s.keepCopy c keep
    else if k.passed then
      if !c.passes then (s.checkFail c.port).refuse c ST_SPOKE_CHECK
      else if k.digest = d then s
      else
        let s1 := s.digestDiff c.tag.stream
        if ownerOf s.lease c.tag.stream = c.port then keep s1 else s1
    else if c.passes then keep (s.checkFail k.site)
    else ((s.checkFail k.site).checkFail c.port).failCopy c

/-- The refusals of R427 and of READ_ONLY (R464), then the rest. -/
def State.onTagged (s : State) (c : Copied) (f : State → State) : State :=
  if !s.mayWrite c.port then s.refuse c ST_SPOKE_NO_GRANT
  else if c.gen < leaseStreamGen s.lease c.tag.stream then s.refuse c ST_SPOKE_GEN_STALE
  else if c.body.isSome ∧ 2 ≤ s.sh.state then s.refuse c ST_FTL_SHELF_FULL
  else if c.body.isSome ∧ !(s.sh.dumpErased.any id) then s.refuse c ST_FTL_BUFFER_FULL
  else f s

/-- W credits of a payload, returned once it is taken (R424). -/
def wCredits (c : Copied) : Nat := (c.payload.length + 4095) / 4096

/-- A write that becomes a buffer item. -/
def State.takeWrite (s : State) (c : Copied) (b : PlbBody) : State :=
  State.giveCredit (s.onTagged c (fun s => s.compareCopy c (fun k s => s.repeatAck c k) (fun s => s.bufferCopy c b))) c.port (wCredits c) 0

/-- POWER_FAIL_N stops frame payloads: those not power-safe are discarded without an ACK (R453). -/
def onWrite (h : FrameHdr) (s : State) (f : State → State) : Res := onShelf h s (fun s => if s.power.pfAsserted then s else f s)

/-- The tag was dropped within the window: a later APPEND of it is acknowledged and discarded (R428). -/
def State.dropped (s : State) (t : Tag) : Bool :=
  s.sh.drops.any (fun x => x.1 == t && decide (s.epn ≤ x.2 + s.p p_seam_pair_window_epochs))

/-- APPEND (R425, R427, R428). -/
def execAppend (h : FrameHdr) (a : AppendHead) (img : Bytes) (s : State) : Res :=
  onWrite h s fun s =>
    let item := h.tag.cls == .metaPage
    let ok := crc64 img == a.crc64 && a.refTag == (if item then h.tag.item % 2 ^ 48 else a.chunkId)
      && a.checkApp == (if item then 0xFFFF else a.domain)
    let c : Copied := { port := h.port, tag := h.tag, opcode := 0x20, gen := h.streamGen, reqId := h.reqId, single := h.single
                        payload := appendHeadBytes a ++ img, passes := ok, body := some (.image a img) }
    if img.length ≠ a.imageLen then (s.refuse c ST_SPOKE_FIELD).giveCredit c.port (wCredits c) 0
    else if s.dropped h.tag then
      State.giveCredit (s.onTagged c (fun s =>
        let e : AckEntry := ⟨h.tag, 4096 * itemSectors c.payload.length⟩
        (s.toHeads (.ack [e])).toHeads (.done [e]))) c.port (wCredits c) 0
    else s.takeWrite c (.image a img)

/-- The buffered images that a CLOSE names, in its order: tags and bytes (R426); none where one is missing. -/
def takeImages (isMeta : Bool) (stream item : Nat) : List Nat → List PlbItem → List Tag → Option (List (Tag × Bytes))
  | [], _, _ => some []
  | ssn :: rest, plb, took =>
    let fits := fun (i : PlbItem) => match i.body with
      | .image _ _ => i.tag.stream == stream && i.tag.seq == ssn && !took.contains i.tag
          && (if isMeta then i.tag.cls == .metaPage else i.tag.cls == .append && i.tag.item == item)
      | .packed _ _ _ => false
      | .strip _ _ => false
    match plb.find? fits with
    | none => none
    | some i =>
      let img := match i.body with | .image _ b => b | .packed _ _ _ => [] | .strip _ _ => []
      (takeImages isMeta stream item rest plb (took ++ [i.tag])).map (fun l => (i.tag, img) :: l)

/-- CLOSE (R426): the images packed from granule 0, the header placed, the sixteen checks computed and compared. -/
def execClose (h : FrameHdr) (head : StripHead) (checks : List Nat) (ssns : List Nat) (s : State) : Res :=
  onWrite h s fun s =>
    let field := fun (x : Nat) => le 8 x ++ le 6 head.stripeId ++ le 2 0xFFFF
    let payload := le 2 ssns.length ++ zeros 14 ++ stripHeadBytes head ++ checks.flatMap field ++ ssns.flatMap (le 8)
    let c : Copied := { port := h.port, tag := h.tag, opcode := 0x21, gen := h.streamGen, reqId := h.reqId, single := h.single
                        payload := payload, passes := true, body := none }
    if checks.length ≠ 16 then (s.refuse c ST_SPOKE_FIELD).giveCredit c.port (wCredits c) 0
    else
      match takeImages head.metadata h.tag.stream h.tag.item ssns s.sh.plb [] with
      | none =>
        if (match s.keptOf h.tag with | some k => k.passed && k.digest == writeDigest 0x21 h.tag payload | none => false) then
          s.takeWrite { c with body := some (.packed head [] []) } (.packed head [] [])
        else State.giveCredit (s.onTagged { c with body := some (.packed head [] []) } (fun s =>
          (if s.differs c then s.digestDiff c.tag.stream else s).refuse c ST_SPOKE_CLOSE_GAP)) c.port (wCredits c) 0
      | some imgs =>
        let strip := stripHeadBytes head ++ packed (imgs.map (·.2))
        let b : PlbBody := .packed head strip (imgs.map (·.1))
        s.takeWrite { c with body := some b, passes := sectorChecks strip == checks } b

/-- STRIP_WRITE (R426, R427, R452): sixteen stored sectors, whose first holds the strip header. -/
def execStripWrite (h : FrameHdr) (head : StripHead) (sectors : List Sector) (s : State) : Res :=
  if sectors.length == 16 && sectors.all (fun x => x.data.length == 4096)
      && (match sectors with | x :: _ => x.data.take 256 == stripHeadBytes head | [] => false) then
    onWrite h s fun s =>
      let ok := sectors.all (fun x => crc64 x.data == x.crc64 && x.refTag == head.stripeId && x.appTag == 0xFFFF)
      let b : PlbBody := .strip head (sectors.flatMap (·.data))
      s.takeWrite { port := h.port, tag := h.tag, opcode := 0x22, gen := h.streamGen, reqId := h.reqId, single := h.single
                    payload := sectors.flatMap (fun x => x.data ++ sectorBytes x), passes := ok, body := some b } b
  else .next s

/-! ### DROP and DISCARD -/

/-- A tagged request without a payload copy. -/
def plainCopy (h : FrameHdr) (opcode : Nat) : Copied :=
  { port := h.port, tag := h.tag, opcode := opcode, gen := h.streamGen, reqId := h.reqId, single := h.single, payload := [], passes := true
    body := none }

/-- DROP (R428): the buffered append that its tag names goes; one not held completes OK. -/
def execDrop (h : FrameHdr) (s : State) : Res :=
  onShelf h s fun s =>
    let t : Tag := { h.tag with cls := .append }
    (s.onTagged (plainCopy h 0x31) (fun s =>
      let s1 := { s with sh := { s.sh with drops := s.sh.drops.filter (fun (x : Tag × Nat) => x.1 != t) ++ [(t, s.epn)] } }
      (s1.plbFree t).replyTo h.port h.tag h.reqId 0x31 0 5 .none)).giveCredit h.port 0 1

/-- DISCARD (R428, R459): a strip under copy is held back. -/
def execDiscard (h : FrameHdr) (sla : Nat) (s : State) : Res :=
  onShelf h s fun s =>
    let c := plainCopy h 0x32
    let strip := sla / 16
    if !s.mayWrite c.port then (s.refuse c ST_SPOKE_NO_GRANT).giveCredit c.port 0 1
    else if c.gen < leaseStreamGen s.lease c.tag.stream then (s.refuse c ST_SPOKE_GEN_STALE).giveCredit c.port 0 1
    else
      let p : Purge := { strip := strip, blocks := [], port := h.port, tag := h.tag, reqId := h.reqId }
      if s.sh.copying.contains strip then { s with sh := { s.sh with heldDiscards := s.sh.heldDiscards ++ [(p, h.purge)] } }
      else s.discardStrip p h.purge

/-! ### Reads -/

/-- The sectors of a strip's bytes with their check fields (R426). -/
def sectorsOf (stripe : Nat) (bs : Bytes) : List Sector :=
  (chunksOf 4096 bs).map (fun d => { data := d, crc64 := crc64 d, refTag := stripe, appTag := 0xFFFF })

/-- The sixteen sectors of a stored strip as far as they read, from the buffer where it is BUFFERED; none where the strip is not
stored (R428, R451). -/
def State.stripSectors (s : State) (strip : Nat) : Option (List (Option Sector)) :=
  match SMap.get s.sh.map strip with
  | none => none
  | some e =>
    if entryMode e = 3 then
      (s.sh.plb.find? (fun i => match i.body with
        | .image _ _ => false
        | .packed h _ _ => h.stripeId == strip
        | .strip h _ => h.stripeId == strip)).map (fun i =>
          (sectorsOf strip (match i.body with | .image _ _ => [] | .packed _ b _ => b | .strip _ b => b)).map some)
    else
      some ((List.range 16).map (fun o =>
        match (s.stripPages e).getD (o / 4) none with
        | some g => if g.good then g.sectors[o % 4]? else none
        | none => none))

/-- SECTOR_READ (R420, R428): `bad` marks the sectors that failed their read. -/
def execSectorRead (h : FrameHdr) (sla count : Nat) (bad : BitVec 16) (s : State) : Res :=
  onShelf h s fun s =>
    (if count = 0 ∨ 16 < sla % 16 + count then s.replyTo h.port h.tag h.reqId 0x30 ST_SPOKE_FIELD 0 .none
     else
      match s.stripSectors (sla / 16) with
      | none => s.replyTo h.port h.tag h.reqId 0x30 ST_SPOKE_NOT_STORED 0 .none
      | some l =>
        let want := (List.range count).map (fun i =>
          match l.getD (sla % 16 + i) none with
          | some x => if bad.getLsbD i || crc64 x.data != x.crc64 then none else some x
          | none => none)
        let mask := ((List.range count).filter (fun i => (want.getD i none).isNone)).foldl (fun a i => a + 2 ^ i) 0
        let data := want.map (fun x => match x with | some v => v.data ++ sectorBytes v | none => zeros 4112)
        s.replyTo h.port h.tag h.reqId 0x30 0 0 (.sectors (BitVec.ofNat 16 mask) data)).giveCredit h.port 0 1

/-- BUFFER_LIST (R420, R431): up to 64 buffered appends from an index on. -/
def execBufferList (h : FrameHdr) (first : Nat) (s : State) : Res :=
  onShelf h s fun s =>
    let l := s.sh.plb.filterMap (fun i => match i.body with
      | .image a _ => some (i.tag, a)
      | .packed _ _ _ => none
      | .strip _ _ => none)
    (s.replyTo h.port h.tag h.reqId 0x52 0 0 (.list ((l.drop first).take 64))).giveCredit h.port 0 1

/-- BUFFER_READ (R420): the payload of the append that the tag names. -/
def execBufferRead (h : FrameHdr) (s : State) : Res :=
  onShelf h s fun s =>
    (match s.plbItem h.tag with
     | some i =>
       (match i.body with
        | .image a img => s.replyTo h.port h.tag h.reqId 0x53 0 0 (.bytes (appendHeadBytes a ++ img))
        | .packed _ _ _ => s.replyTo h.port h.tag h.reqId 0x53 ST_SPOKE_NOT_STORED 0 .none
        | .strip _ _ => s.replyTo h.port h.tag h.reqId 0x53 ST_SPOKE_NOT_STORED 0 .none)
     | none => s.replyTo h.port h.tag h.reqId 0x53 ST_SPOKE_NOT_STORED 0 .none).giveCredit h.port 0 1

/-- SPOKE_UNKNOWN_OPCODE (R420): an opcode the table lacks, or a payload length it does not allow; nothing is applied. -/
def execSpokeUnknownOpcode (h : FrameHdr) (opcode : Byte) (s : State) : Res :=
  onFrame h s (fun s => s.replyTo h.port h.tag h.reqId opcode.toNat ST_SPOKE_FIELD 0 .none)

/-! ### Ledger and health -/

/-- LEDGER_GET (R110, R420): the record of a sequence number, or the newest part-boot record for 0. A number that no record bears is
answered with ST_SPOKE_FIELD. The frame waits until the record of this boot is committed, or the boot goes no further (log 36). -/
def execLedgerGet (h : FrameHdr) (seq : Nat) (s : State) : Res :=
  if !s.boot.readyDone && s.fit then .next s
  else onShelf0 h s fun s =>
    let r := if seq = 0 then some s.ownRecord else ((s.recordsFrom seq 1).2.find? (fun r => recSeq r == seq))
    (match r with
     | some b => s.replyTo h.port h.tag h.reqId 0x51 0 0 (.bytes (padTo 4096 b))
     | none => s.replyTo h.port h.tag h.reqId 0x51 ST_SPOKE_FIELD 0 .none).giveCredit h.port 0 1

/-- A signed byte. -/
def s8 (x : Int) : Bytes := le 1 ((max (-128) (min 127 x) % 256).toNat)

/-- The health entry of a shelf (R469). -/
def State.healthEntry (s : State) : Bytes :=
  let h := s.sh.health
  let flags := b2n (!s.sh.shard.rows) + 2 * b2n s.sh.paused + 4 * b2n s.sh.dumpIncomplete
  let counts := s.sh.blocks.foldl (fun a e => a + e.2.count) 0
  let wear := counts / max (s.allBlocks * s.prof 32 4) 1
  let bad := (s.sh.blocks.filter (fun e => e.2.st == 4)).length
  let body := le 1 s.site ++ le 1 s.sh.state ++ le 1 flags ++ le 1 (s.flash.profile.getD 0) ++ le 2 s.dies ++ le 1 (min s.sparePct 255)
    ++ le 1 (min wear 255) ++ le 8 s.rawBytes ++ le 8 s.storedBytes ++ le 8 s.freeBytes ++ le 4 (s.slcBytes / 1048576)
    ++ le 4 h.retries ++ le 4 h.softs ++ le 4 h.sectorFails ++ le 2 h.progFails ++ le 2 h.eraseFails ++ le 2 (min bad 65535)
    ++ le 2 h.powerLosses ++ s8 h.tempNow ++ s8 h.tempMax ++ s8 h.tempMin ++ le 1 0
  body ++ le 4 (crc32c body)

/-- What a head takes from a health entry (R357, R359, R469). -/
def State.noteHealth (s : State) (site : Nat) (e : Bytes) : State :=
  s.setShelf site { s.shelf site with
    health := e, free := num e 24 8, capacity := num e 16 8, readOnly := decide (2 ≤ num e 1 1) }

/-! ### The window -/

/-- At a boundary a shelf forgets copies and drops whose window has passed (R394, R428). -/
def State.shelfWindow (s : State) : State :=
  let w := s.p p_seam_pair_window_epochs
  { s with sh := { s.sh with
      kept := s.sh.kept.filter (fun k => decide (s.epn ≤ k.epn + w)), drops := s.sh.drops.filter (fun x => decide (s.epn ≤ x.2 + w)) } }

end Sys2Proof.Machine
end

