-- ==== Sys2Proof/Machine/Index.lean ====
section
/-! DEFINITION. The dedupe shard of a shelf (R261 to R267), and what heads do with the acknowledgements, ledger records and failures of
shelves (R110, R361, R363, R429, R434). -/

namespace Sys2Proof.Machine

/-! ### The shard -/

/-- Range of a fingerprint, and its bucket (R241, R262). -/
def fpRange (fp : Bytes) : Nat := num fp 0 2
def fpBucket (fp : Bytes) : Nat := num fp 2 6 % shardBuckets

/-- Tag of a fingerprint (R241). -/
def fpTag (fp : Bytes) : Nat := if num fp 10 3 = 0 then 1 else num fp 10 3

/-- A range is ready on this shelf (R261, R264, R267). -/
def State.rangeReady (s : State) (r : Nat) : Bool :=
  let n := if s.keep.shardN = 0 then s.nShelves else s.keep.shardN
  s.sh.shard.rows && (s.keep.gained.contains r || (r % max n 1 == s.site && !s.keep.dropped.contains r))

/-- An entry is for a fingerprint and a domain. -/
def idxFor (domain : Nat) (fp : Bytes) (e : IdxEntry) : Bool := e.fp == fp && e.domain == domain

/-- Entries of a bucket sector. -/
def State.bucket (s : State) (b : Nat) : List IdxEntry := SMap.getD s.keep.buckets b []

/-- Store a bucket sector. -/
def State.setBucket (s : State) (b : Nat) (l : List IdxEntry) : State :=
  { s with keep := { s.keep with buckets := if l.isEmpty then SMap.del s.keep.buckets b else SMap.set s.keep.buckets b l } }

/-- Store the pending table. -/
def State.setIdxPending (s : State) (l : List IdxEntry) : State := { s with sh := { s.sh with shard := { s.sh.shard with pending := l } } }

/-- The 4,096 bytes of a bucket sector (R262). -/
def bucketBytes (b : Nat) (l : List IdxEntry) : Bytes :=
  padTo 4096 (padTo 64 ([0x49, 0x58, 0x42, 0x31] ++ le 4 b ++ le 1 l.length)
    ++ (l.take 100).flatMap (fun e => padTo 32 e.fp ++ le 6 e.chunkId ++ le 1 e.domain ++ le 1 1))

/-- The tags of a bucket's row, and the row's 304 bytes (R262). -/
def State.tagRow (s : State) (b : Nat) : List Nat := SMap.getD s.sh.shard.tags b []
def tagRowBytes (ts : List Nat) : Bytes := padTo 300 ((ts.take 100).flatMap (le 3)) ++ le 1 ts.length ++ zeros 3

/-- The tags that a bucket's entries and its pending entries give its row (R265, R266). -/
def State.tagsOf (s : State) (b : Nat) : List Nat :=
  (s.bucket b ++ s.sh.shard.pending.filter (fun e => fpBucket e.fp == b)).map (fun e => fpTag e.fp)

/-- Bring the row of a bucket up to its entries. -/
def State.retag (s : State) (b : Nat) : State :=
  let ts := s.tagsOf b
  let m := s.sh.shard.tags
  { s with sh := { s.sh with shard := { s.sh.shard with tags := if ts.isEmpty then SMap.del m b else SMap.set m b ts } } }

/-- Build every row again (R266). -/
def State.retagAll (s : State) : State :=
  ((SMap.keys s.keep.buckets) ++ s.sh.shard.pending.map (fun e => fpBucket e.fp)).foldl State.retag
    { s with sh := { s.sh with shard := { s.sh.shard with tags := [] } } }

/-- A row holds a tag, or the pending table an entry, of a fingerprint: the bucket must be read (R264 step 2). -/
def State.mayHold (s : State) (domain : Nat) (fp : Bytes) : Bool :=
  (s.tagRow (fpBucket fp)).contains (fpTag fp) || s.sh.shard.pending.any (idxFor domain fp)

/-- The entry of a fingerprint: in bucket order, then in pending-table order (R264). -/
def State.idxFind (s : State) (domain : Nat) (fp : Bytes) : Option IdxEntry :=
  match (s.bucket (fpBucket fp)).find? (idxFor domain fp) with
  | some e => some e
  | none => s.sh.shard.pending.find? (idxFor domain fp)

/-- Entries the 2 GiB pending table holds at 40 bytes each (R262, log 43). -/
def pendingCap : Nat := 53687091

/-- No room for another entry in the bucket (R265). -/
def State.idxFull (s : State) (fp : Bytes) : Bool :=
  let b := fpBucket fp
  decide (100 ≤ (s.bucket b).length + (s.sh.shard.pending.filter (fun e => fpBucket e.fp == b)).length)
    || decide (pendingCap ≤ s.sh.shard.pending.length)

/-- Answers of the shard (R429). -/
def idxAbsent : Nat := 0
def idxDup : Nat := 1
def idxNotReady : Nat := 2
def idxLateDup : Nat := 3
def idxDropped : Nat := 4
def idxOk : Nat := 5
def idxStale : Nat := 6

/-- IDX_QUERY (R264): RESULT and the chunk ID named. -/
def execIdxQuery (h : FrameHdr) (domain : Nat) (fp : Bytes) (s : State) : Res :=
  onShelf h s fun s =>
    let r := if !s.rangeReady (fpRange fp) then (idxNotReady, 0)
      else if !s.mayHold domain fp then (idxAbsent, 0)
      else match s.idxFind domain fp with
        | some e => (idxDup, e.chunkId)
        | none => (idxAbsent, 0)
    (s.replyTo h.port h.tag h.reqId 0x40 0 r.1 (.named r.2)).giveCredit h.port 0 1

/-- An insert (R265): RESULT, chunk ID named, and the state after: the entry pending, its tag in the row. -/
def State.idxInsert (s : State) (domain chunkId : Nat) (fp : Bytes) : Nat × Nat × State :=
  match s.idxFind domain fp with
  | some e => (idxLateDup, e.chunkId, s)
  | none =>
    if 2 ≤ s.sh.state then (idxDropped, 0, s)
    else if s.idxFull fp then (idxDropped, 0, s.event EV_MATCH_INSERT_DROPPED 0)
    else (idxOk, 0, (s.setIdxPending (s.sh.shard.pending ++ [⟨fp, domain, chunkId⟩])).retag (fpBucket fp))

/-- An insert of a range that is ready; otherwise NOT_READY (R263). -/
def State.idxInsertReady (s : State) (domain chunkId : Nat) (fp : Bytes) : Nat × Nat × State :=
  if s.rangeReady (fpRange fp) then s.idxInsert domain chunkId fp else (idxNotReady, 0, s)

/-- A delete: the matching entry goes (R265). -/
def State.idxDelete (s : State) (domain chunkId : Nat) (fp : Bytes) : Nat × Nat × State :=
  let keep := fun (e : IdxEntry) => !(idxFor domain fp e && e.chunkId == chunkId)
  let b := fpBucket fp
  let s1 := if (s.bucket b).all keep then s else s.setBucket b ((s.bucket b).filter keep)
  (idxOk, 0, (s1.setIdxPending (s1.sh.shard.pending.filter keep)).retag b)

/-- A replace: the entry is rewritten only while it still names the old chunk (R265). -/
def State.idxReplace (s : State) (domain new old : Nat) (fp : Bytes) : Nat × Nat × State :=
  match s.idxFind domain fp with
  | some e =>
    if e.chunkId = old then
      let upd := fun (x : IdxEntry) => if idxFor domain fp x && x.chunkId == old then { x with chunkId := new } else x
      let b := fpBucket fp
      let s1 := if (s.bucket b).any (idxFor domain fp) then s.setBucket b ((s.bucket b).map upd) else s
      (idxOk, 0, s1.setIdxPending (s1.sh.shard.pending.map upd))
    else (idxStale, 0, s)
  | none => (idxStale, 0, s)

/-- The 52 payload bytes of an index operation (R420). -/
def idxPayload (op domain range chunkId old : Nat) (fp : Bytes) : Bytes :=
  le 1 op ++ le 1 domain ++ le 2 range ++ le 6 chunkId ++ le 6 old ++ zeros 4 ++ padTo 32 fp

/-- Answer a both-sent operation: to the head whose stream owns the chunk (R263, R429). -/
def State.idxReply (s : State) (c : Copied) (chunkId result named : Nat) : State :=
  s.replyTo (ownerOf s.lease (streamOf chunkId) % 2) c.tag c.reqId 0x41 0 result (.named named)

/-- A both-sent, tagged operation (R263, R394): applied once, from the first copy kept. -/
def idxTagged (h : FrameHdr) (op domain chunkId old : Nat) (fp : Bytes) (s : State) (f : State → Nat × Nat × State) : Res :=
  onShelf h s fun s =>
    let c : Copied := { port := h.port, tag := h.tag, opcode := 0x41, gen := h.streamGen, reqId := h.reqId, single := h.single
                        payload := idxPayload op domain 0 chunkId old fp, passes := true, body := none }
    let d := writeDigest c.opcode c.tag c.payload
    (s.onTagged c (fun s => s.compareCopy c
      (fun k s =>
        let s1 := if k.digest = d then s else s.event EV_SPOKE_TAG_REUSE (srcOf 1 c.port)
        s1.idxReply c chunkId k.result k.named)
      (fun s =>
        let r := f s
        (r.2.2.remember { tag := c.tag, site := c.port, epn := s.epn, digest := d, gen := c.gen, passed := true, bytes := 0, acked := true
                          doneSent := true, result := r.1, named := r.2.1 }).idxReply c chunkId r.1 r.2.1))).giveCredit c.port 0 1

/-- IDX_INSERT (R265). -/
def execIdxInsert (h : FrameHdr) (domain chunkId : Nat) (fp : Bytes) (s : State) : Res :=
  idxTagged h 1 domain chunkId 0 fp s (fun s => s.idxInsertReady domain chunkId fp)

/-- IDX_DELETE (R265). -/
def execIdxDelete (h : FrameHdr) (domain chunkId : Nat) (fp : Bytes) (s : State) : Res :=
  idxTagged h 2 domain chunkId 0 fp s (fun s => s.idxDelete domain chunkId fp)

/-- IDX_REPLACE (R265): the entry from `old` to `chunkId`. -/
def execIdxReplace (h : FrameHdr) (domain chunkId old : Nat) (fp : Bytes) (s : State) : Res :=
  idxTagged h 3 domain chunkId old fp s (fun s => s.idxReplace domain chunkId old fp)

/-- A manager's untagged index operation (R263). -/
def idxPlain (h : FrameHdr) (s : State) (f : State → Nat × Nat × State) : Res :=
  onShelf h s fun s =>
    let r := f s
    (r.2.2.replyTo h.port h.tag h.reqId 0x41 0 r.1 (.named r.2.1)).giveCredit h.port 0 1

/-- IDX_REBUILD_INSERT (R263, R267): an entry already there stands. -/
def execIdxRebuildInsert (h : FrameHdr) (domain chunkId : Nat) (fp : Bytes) (s : State) : Res :=
  idxPlain h s (fun s =>
    let r := s.idxInsert domain chunkId fp
    (if r.1 = idxLateDup then idxOk else r.1, 0, r.2.2))

/-- IDX_RANGE_READY (R267). -/
def execIdxRangeReady (h : FrameHdr) (range : BitVec 16) (s : State) : Res :=
  idxPlain h s (fun s =>
    (idxOk, 0, { s with keep := { s.keep with
      gained := insNat s.keep.gained range.toNat, dropped := s.keep.dropped.filter (· != range.toNat) } }))

/-- IDX_RANGE_DROP (R267): the range's entries go. -/
def execIdxRangeDrop (h : FrameHdr) (range : BitVec 16) (s : State) : Res :=
  idxPlain h s (fun s =>
    let stay := fun (e : IdxEntry) => fpRange e.fp != range.toNat
    let b := (SMap.mapV s.keep.buckets (fun _ l => l.filter stay))
    (idxOk, 0, State.retagAll (State.setIdxPending { s with keep := { s.keep with
      buckets := SMap.keep b (fun _ l => !l.isEmpty), gained := s.keep.gained.filter (· != range.toNat)
      dropped := insNat s.keep.dropped range.toNat } } (s.sh.shard.pending.filter stay))))

/-- Write pending entries into their bucket sectors (R265). -/
def writePending : List IdxEntry → State → State
  | [], s => s
  | e :: rest, s => writePending rest (s.setBucket (fpBucket e.fp) (s.bucket (fpBucket e.fp) ++ [e]))

/-- Before a planned restart a shelf writes every pending entry to its bucket (R266); none in READ_ONLY (R464). -/
def State.writeShard (s : State) : State :=
  if s.sh.state = 1 ∧ !s.power.pfAsserted then (writePending s.sh.shard.pending s).setIdxPending [] else s

/-- PENDING_WRITE_BACK (R265, R439): the pending entries of one index strip of sixteen buckets; none in READ_ONLY (R464). -/
def execPendingWriteBack (strip : Nat) (s : State) : Res :=
  onlyIf (s.shelfOn && s.sh.state == 1) s fun s =>
    let mine := fun (e : IdxEntry) => fpBucket e.fp / 16 == strip
    (writePending (s.sh.shard.pending.filter mine) s).setIdxPending (s.sh.shard.pending.filter (fun e => !mine e))

/-- SHARD_TAG_REBUILD_DONE (R266): the tag rows are rebuilt from every bucket sector. -/
def execShardTagRebuildDone (s : State) : Res :=
  onlyIf (s.shelfOn && s.stageFrom .join && !s.sh.shard.rows) s
    (fun s => (State.retagAll { s with sh := { s.sh with shard := { s.sh.shard with rows := true } } }).event EV_MATCH_SHARD_READY 0)

/-! ### Moves of ranges (R267) -/

/-- SHARD_RANGE_REBUILD (R267): the manager sends the next live chunk of a moved range to its new shelf, those that have become live since the
move among them; after the last one RANGE_READY,
and it records the move complete. -/
def execShardRangeRebuild (range : BitVec 16) (s : State) : Res :=
  .next (match s.head.md.moves.find? (·.range == range.toNat) with
    | none => s
    | some mv =>
      if !(s.isManager && decide (0 < s.p p_match_shard_rebuild_per_s)) then s
      else
        let m := s.head.md
        match (m.inRange mv.range).find? (fun id => s.isLive id && !mv.sent.contains id) with
        | none => (s.request mv.site (.idxOp 5 0 mv.range 0 0 [])).2.record (.shardMoveDone mv.range)
        | some id =>
          let s1 := s.setMd { m with moves := m.moves.map (fun x => if x.range = mv.range then { x with sent := x.sent ++ [id] } else x) }
          match m.chunk id with
          | some c => (s1.request mv.site (.idxOp 4 c.domain mv.range id 0 c.fp)).2
          | none => s1)

/-- SHELF_LINK_LOSS_FAIL (R361): a shelf's links to both heads are down for `glade.fail_ms`: this head's own since then; that the other head's is
too comes with the command, since no message of the spec carries it: DESIGN CHOICE (log 55). -/
def execShelfLinkLossFail (site : Fin 64) (s : State) : Res :=
  onlyIf (s.isManager && decide (site.val < s.nShelves) && (match (s.shelf site).downSince with
    | some t => decide (t + s.p p_glade_fail_ms * 100000 ≤ s.time.t)
    | none => false)) s (fun s => s.recordFail site)

/-- SPOKE_PORT_FAIL_TIMEOUT (R361, R434): at a shelf a port is down beyond `spoke.port_fail_ms`; the manager takes one down to itself, or
one that the shelf reports in its renewal replies, for the shelf's fatal alarm. -/
def execSpokePortFailTimeout (p : Fin 64) (s : State) : Res :=
  onlyIf (s.fw && s.portThere p) s fun s =>
    let q := s.portOf p
    let late := !q.up && decide (q.downAt + s.p p_spoke_port_fail_ms * 100000 ≤ s.time.t)
    if s.isShelf then (if late then s.alarm AL_SPOKE_PORT_DOWN (srcOf 1 p) else s)
    else if p.val < s.nShelves ∧ (late ∨ !(s.shelf p).portsUp.getLsbD s.peerSite) then s.recordFail p
    else s

/-- PLANNED_ABSENCE_EXPIRY (R361, R362): absent longer than `darn.planned_grace_s`. -/
def execPlannedAbsenceExpiry (site : Fin 64) (s : State) : Res :=
  onlyIf (s.isManager && s.head.md.absent.any (fun a => a.1 == site.val && decide (a.2 + s.p p_darn_planned_grace_s * 100000000 ≤ s.time.t))) s
    (fun s => s.recordFail site)

/-- A shelf that turns READ_ONLY: its members of open stripes are replaced, the manager moves its ranges (R356, R368). -/
def State.shelfReadOnly (s : State) (site : Nat) : State :=
  let s1 := s.replaceSite site
  if s1.isManager then s1.moveShard site else s1

/-- G / N of a stored capacity, in hundredths (R359). -/
def State.availableSpare (s : State) : Nat :=
  let live := s.sites.filter (fun x => !s.isFailed x && !s.isAbsent x)
  let free := live.foldl (fun a x => a + (s.shelf x).free) 0
  let cap := live.foldl (fun a x => a + (s.shelf x).capacity) 0
  let need := s.p p_glade_spare_centi * cap
  if need = 0 then 100 else min 100 (100 * free * 100 * live.length / need)

/-- Follow the Glade alarm (R359). -/
def State.gladeCheck (s : State) : State :=
  if s.availableSpare < s.p p_glade_warn_pct then s.alarm AL_STRIPE_GLADE_LOW 0 else s.clearAlarm AL_STRIPE_GLADE_LOW 0

/-- HEALTH (R420, R469): a shelf answers with its entry as sampled; a head keeps the entry received. -/
def execHealth (h : FrameHdr) (entry : Bytes) (s : State) : Res :=
  onFrame h s fun s =>
    if s.isShelf then
      (s.replyTo h.port h.tag h.reqId 0x50 0 0 (.bytes (s.sh.sample.getD s.healthEntry))).giveCredit h.port 0 1
    else
      let s1 := (s.replied h.port h.reqId).pump
      let s2 := s1.noteHealth h.port (padTo 64 entry)
      let s3 := if !(s1.shelf h.port).readOnly && (s2.shelf h.port).readOnly then s2.shelfReadOnly h.port else s2
      s3.gladeCheck

/-! ### Acknowledgements at a head (R229, R230, R354, R364, R370, R429, R631) -/

/-- An append of an image is power-safe at its landing shelf or at the mirror. -/
def State.appendAcked (s : State) (t : Tag) (site : Nat) : State :=
  match s.work t.stream t.seq, s.head.md.stripe (t.item / 256) with
  | some w, some r =>
    if w.stripe ≠ t.item / 256 then s
    else
      let w1 := { w with landAck := w.landAck || r.site w.strip == site, mirrorAck := w.mirrorAck || r.site r.k == site }
      s.setWork t.stream t.seq w1
  | _, _ => s

/-- A member stands at its new site: a MEMBER record for the next DARN batch (R364). -/
def State.recordMember (s : State) (stripe member site : Nat) : State :=
  let i := streamOf stripe
  let d := if i = 0 then s.head.darn0 else s.head.darn1
  let d1 := { d with
    waiting := d.waiting.filter (· != (stripe, member, site)), acked := d.acked ++ [(stripe, member, site)], done := d.done + 1 }
  let st := s.stream i
  let s1 := if i = 0 then { s with head := { s.head with darn0 := d1 } } else { s with head := { s.head with darn1 := d1 } }
  s1.setStream i { st with classRecs := st.classRecs ++ [(1, .member stripe member site)] }

/-- A rebuilt or evacuated member is power-safe at its target (R364). -/
def State.darnAcked (s : State) (stripe member site : Nat) : State :=
  let d := if streamOf stripe = 0 then s.head.darn0 else s.head.darn1
  if d.waiting.contains (stripe, member, site) then s.recordMember stripe member site else s

/-- A member of a Refold target is power-safe (R370). -/
def State.refoldAcked (s : State) (stripe member : Nat) : State :=
  let i := streamOf stripe
  let r := if i = 0 then s.head.refold0 else s.head.refold1
  let upd := r.writing.map (fun x => if x.1 = stripe then (x.1, x.2.filter (· != member)) else x)
  let r1 := { r with writing := upd }
  if i = 0 then { s with head := { s.head with refold0 := r1 } } else { s with head := { s.head with refold1 := r1 } }

/-- One entry of an ACK frame. -/
def State.ackEntry (s : State) (site : Nat) (t : Tag) : State :=
  let s0 := { s with head := { s.head with sent := s.head.sent.map (fun e =>
    if e.site = site ∧ e.frame.tag = t then { e with acked := true } else e) } }
  match t.cls with
  | .append => s0.appendAcked t site
  | .close => ((s0.memberAcked (t.item / 256) (t.item % 256)).darnAcked (t.item / 256) (t.item % 256) site).refoldAcked (t.item / 256) (t.item % 256)
  | .parity => ((s0.memberAcked (t.item / 256) (t.item % 256)).darnAcked (t.item / 256) (t.item % 256) site).refoldAcked (t.item / 256) (t.item % 256)
  | .metaPage => if t.item / 2 ^ 60 = 4 then s0.stripAcked t.stream t.seq site else s0
  | .none => s0
  | .index => s0
  | .drop => s0
  | .discard => s0

/-- SPOKE_ACK (R429): tagged writes are power-safe at a shelf; what that makes durable or lets go follows. -/
def spokeAck (h : FrameHdr) (es : List AckEntry) (s : State) : Res :=
  onHead h s (fun s =>
    let s1 := es.foldl (fun acc e => acc.ackEntry h.port e.tag) s
    ((s1.sweep 0).sweep 1).pump)

/-- SPOKE_DONE (R229, R429): tagged writes are on flash or discarded; they no longer count against the budget. -/
def execSpokeDone (h : FrameHdr) (es : List AckEntry) (s : State) : Res :=
  onHead h s (fun s =>
    State.pump { s with head := { s.head with sent := s.head.sent.filter (fun e =>
      !(e.site == h.port.val && es.any (fun x => x.tag == e.frame.tag))) } })

/-! ### The ledger collection (R110) -/

/-- LEDGER_GET_REPLY (R110, R111): a shelf's newest part-boot record. -/
def execLedgerGetReply (h : FrameHdr) (status : Nat) (record : Bytes) (s : State) : Res :=
  onHead h s (fun s =>
    let s1 := (s.replied h.port h.reqId).pump
    if status = 0 ∧ s1.leads then s1.takeRecord 1 h.port true record else s1)

/-- LEDGER_COLLECT_TIMEOUT (R109, R110): `ledger.collect_timeout_s` is over; parts that did not answer are listed with STATUS 1. The part's
own record goes first. -/
def execLedgerCollectTimeout (s : State) : Res := onlyIf (s.leads && s.ledger.collecting && s.boot.readyDone) s
  State.appendArray

end Sys2Proof.Machine
end

