-- ==== Sys2Proof/Machine/ReplMsg.lean ====
section
/-! DEFINITION. Replication messages (R527 to R531): the header, encryption, the payloads, sending. -/

namespace Sys2Proof.Machine

/-- Source, target (R525). -/
def State.isSource (s : State) : Bool := s.isHead && s.p p_repl_role == 1
def State.isTarget (s : State) : Bool := s.isHead && s.p p_repl_role == 2

/-- The session is in service: streaming or in resync (R541). -/
def State.session (s : State) : Bool := s.repl.state == 2 || s.repl.state == 3

/-- The key slot of a generation and direction: 0 source to target (R527). -/
def replSlot (g d : Nat) : Nat := 1026 + 2 * (g % 2) + d

/-- The direction in which this array sends. -/
def State.replDir (s : State) : Nat := if s.isSource then 0 else 1

/-- The 48-byte message header (R528). -/
def replHdr (site claim type stream part g len ident prev parts flags : Nat) : Bytes :=
  le 1 site ++ le 3 claim ++ zeros 4 ++ [0x52, 0x50, 0x4C, 0x31] ++ le 1 type ++ le 1 stream ++ le 2 part ++ le 4 g ++ le 4 len
    ++ le 8 ident ++ le 8 prev ++ le 2 parts ++ le 2 flags ++ zeros 4

/-- Seal a message: SESSION as it is, everything else under GCM with header bytes 8 to 47 as additional data (R528). -/
def State.replSeal (s : State) (hdr payload : Bytes) (type stream part ident : Nat) : Bytes :=
  if type = 1 then hdr ++ payload
  else
    let k := (s.keySlot (replSlot s.repl.keyGen s.replDir)).key
    let r := gcmSeal k (le 1 type ++ le 1 stream ++ le 2 part ++ le 8 ident) (hdr.drop 8) payload
    hdr ++ r.1 ++ r.2

/-- The replication QPs of a use. -/
def State.replQps (s : State) (u : QpUse) : List (Nat × Qp) := s.rdma.qps.filter (fun e => e.2.use == u && e.2.state == 1)

/-- Ports of the spray set: those of `repl.spray_ports` that are up, ascending (R521). -/
def State.sprayPorts (s : State) : List Nat := (List.range 16).filter (fun p => bit (s.p p_repl_spray_ports) p && (s.front.getD p {}).up)

/-- Payload bytes of a packet (R542). -/
def State.pmtu (s : State) : Nat := 1024 * 2 ^ s.p p_rdma_pmtu

/-- Ports of packets `j` on of a message: position (MSG_NO + j + r) mod PORTS of the spray set (R521), or the QP's own port. -/
def State.portsFor (s : State) (q : Qp) (w : WorkReq) : List Nat :=
  if q.spray.isSome then
    let set := s.sprayPorts
    (List.range w.packets).map (fun j => set.getD ((w.msgNo + j + w.resent) % max set.length 1) 0)
  else List.replicate w.packets q.port

/-- A port that PFC holds for the RoCEv2 priority (R507). -/
def State.portPaused (s : State) (p : Nat) : Bool := bit (s.front.getD p {}).held.toNat (s.p p_eth_rdma_priority)

/-- Send packets; a paused port holds them back (R507). -/
def State.sendPkts (s : State) (n psn : Nat) (ports : List Nat) : State :=
  if ports.any s.portPaused then { s with rdma := { s.rdma with txHeld := s.rdma.txHeld ++ [(n, psn, ports)] } }
  else s.emit (.rdmaSend n psn ports)

/-- Post a Send of `len` bytes on a QP (R509, R513, R521): sent while credits last and at most 4,096 packets of a spray QP stand
unacknowledged. -/
def State.postSend (s : State) (n len : Nat) : State :=
  match SMap.get s.rdma.qps n with
  | none => s
  | some q =>
    let k := max 1 ((len + s.pmtu - 1) / s.pmtu)
    let w : WorkReq := { wr := q.nextWr, psn := q.nextPsn, packets := k, msgNo := q.nextMsg, resent := 0 }
    let q1 := { q with nextWr := q.nextWr + 1, nextPsn := (q.nextPsn + k) % 2 ^ 24, nextMsg := q.nextMsg + 1, unacked := q.unacked ++ [w]
                       credits := q.credits - 1, timerAt := if q.unacked.isEmpty then s.time.t else q.timerAt }
    State.sendPkts { s with rdma := { s.rdma with qps := SMap.set s.rdma.qps n q1 } } n w.psn (s.portsFor q w)

/-- Send a message: SESSION, POINT, RECEIPT and the like on the control QP, data on a data QP (R526). -/
def State.sendRepl (s : State) (data : Bool) (type stream part parts ident prev flags : Nat) (payload : Bytes) : State :=
  let hdr := replHdr s.site s.repl.claim type stream part s.repl.keyGen payload.length ident prev parts flags
  let msg := s.replSeal hdr payload type stream part ident
  let s1 := State.emit { s with repl := { s.repl with bytesSent := s.repl.bytesSent + payload.length } } (.repl msg)
  let qs := s1.replQps (if data then .data else .control)
  let pick := match qs.find? (fun e => e.2.credits != 0) with | some e => some e.1 | none => qs.head?.map (·.1)
  match pick with
  | some n => s1.postSend n msg.length
  | none => s1

/-- A replication record's 64 bytes (R531). -/
def replRecBytes (r : ReplRec) : Bytes :=
  le 1 r.kind ++ le 1 r.domain ++ le 1 r.flags ++ le 1 0 ++ le 4 r.nsid ++ le 8 r.chunkNo ++ le 4 r.count ++ le 2 r.appTag ++ zeros 2
    ++ le 8 r.ssn ++ padTo 32 r.fp

/-- One PULL entry; a REPAIR_REQ's payload is the same less the number (R529). -/
def pullBytes (e : PullEntry) : Bytes := le 8 e.reqNo ++ le 1 e.domain ++ zeros 7 ++ padTo 32 e.fp

/-- One chunk of CHUNK, PUSH and REPAIR_DATA (R529): a PF1 stream-class unit where that is smaller and `press.repl_compress` is 1 (R293), else
raw. -/
def chunkUnit (compress : Bool) (domain : Nat) (missing : Bool) (lost : Nat) (fp content : Bytes) : Bytes :=
  let u := pf1Stream true content
  let raw := !compress || decide (content.length ≤ u.length)
  let body := if missing then [] else if raw then content else u
  le 1 domain ++ le 1 (b2n missing + 2 * b2n (raw && !missing)) ++ le 1 lost ++ zeros 5 ++ padTo 32 fp ++ body

/-- `press.repl_compress` is 1 (R293). -/
def State.replPf1 (s : State) : Bool := s.p p_press_repl_compress == 1

/-- The next number of a PULL or REPAIR_REQ entry (R529). -/
def State.replReq (s : State) : Nat × State := (s.repl.nextReq, { s with repl := { s.repl with nextReq := s.repl.nextReq + 1 } })

/-- Ask the partner for a chunk (R337, R539). -/
def State.askPartner (s : State) (chunkId domain : Nat) (fp : Bytes) : State :=
  let r := s.replReq
  let s1 := { r.2 with repl := { r.2.repl with asks := r.2.repl.asks ++ [(r.1, chunkId, domain, fp)] } }
  s1.sendRepl false 0x40 255 0 1 r.1 0 0 (le 1 domain ++ zeros 7 ++ padTo 32 fp)

end Sys2Proof.Machine
end

