-- ==== Sys2Proof/Machine/ReadPath.lean ====
section
/-! DEFINITION. The read path (R27, R331 to R337, R358): resolving the chunks of a read, reading their sectors or reconstructing them,
decoding, repair from the partner, completion. -/

namespace Sys2Proof.Machine

/-! ### Protection information (R187, R330) -/

/-- One byte of the T10 CRC-16 of the 16-bit guard. -/
def crc16Byte (r : Nat) (b : Byte) : Nat :=
  (List.range 8).foldl (fun a _ => if 0x8000 ≤ a then Nat.xor (2 * a % 65536) 0x8BB7 else 2 * a) (Nat.xor r (256 * b.toNat))

/-- The guard of a block: CRC-16 T10-DIF in LBAF 1, the 64b guard in LBAF 2. -/
def guardOf (lbaf : Nat) (bs : Bytes) : Nat := if lbaf = 1 then bs.foldl crc16Byte 0 else crc64 bs

/-- The protection information of a block: guard, application tag, reference tag, big-endian. -/
def piBytes (lbaf lba app : Nat) (bs : Bytes) : Bytes :=
  if lbaf = 1 then be 2 (guardOf 1 bs) ++ be 2 app ++ be 4 (lba % 2 ^ 32)
  else be 8 (guardOf 2 bs) ++ be 2 app ++ be 6 (lba % 2 ^ 48)

/-! ### Decoding a chunk (R334 steps 5 to 7) -/

/-- Whether this chunk's fingerprint is checked: `read.fp_verify_pct` percent are; which ones is open (log 6). -/
def State.fpSample (s : State) : Bool × State :=
  let p := s.p p_read_fp_verify_pct
  if p = 0 then (false, s)
  else if 100 ≤ p then (true, s)
  else let r := s.takeFree; (decide (r.1 % 100 < p), r.2)

/-- The chunk that an image holds; none where it is corrupt. -/
def State.decodeImage (s : State) (id : Nat) (c : ChunkRec) (img : Bytes) : Option Bytes × State :=
  match s.plainOf c.domain id c.raw img with
  | none => (none, s)
  | some b =>
    let v := s.fpSample
    if v.1 && s.fingerprint c.domain b != c.fp then (none, v.2) else (some b, v.2)

/-! ### What a chunk position holds -/

/-- What a reference to a chunk reads as. -/
def State.partOf (s : State) (id app : Nat) : PartSt :=
  match s.heldChunk id with
  | some x => .have x.1 x.2 app
  | none => .chunk id app

/-- Steps 2 to 7 of R334 for a chunk that a leaf entry names and whose image this head holds: one that is LOST is not served from it, and the
sample of step 7 is taken of it. -/
def State.mappedPart (s : State) (id app : Nat) : State × PartSt :=
  match s.heldChunk id, s.head.md.chunk id with
  | some x, some c =>
    if c.lost then (s, .chunk id app)
    else
      let v := s.fpSample
      (v.2, if v.1 && s.fingerprint c.domain x.1 != c.fp then .chunk id app else .have x.1 x.2 app)
  | _, _ => (s, .chunk id app)

/-- Step 2 of R334 for one chunk position: what its leaf entry says. -/
def State.leafPart (s : State) (nsid no : Nat) : State × PartSt :=
  match s.ns nsid with
  | none => (s, .gone)
  | some n =>
    let leaf := s.readLeaf nsid no
    if leaf.mapped then s.mappedPart leaf.chunkId leaf.appTag else (s, .have (zeros (s.nsChunk n)) 0 0xFFFF)

/-- Step 1 of R334 for one chunk position on a hit: what the write-buffer chunk table says; none where it has no entry: the map says it (R333). -/
def State.resolvePart (s : State) (nsid no : Nat) : Option PartSt :=
  match s.ns nsid with
  | none => some .gone
  | some n =>
    let zero := PartSt.have (zeros (s.nsChunk n)) 0 0xFFFF
    let st := s.stream (s.nsStream nsid)
    match st.newest (nsid - 1) no with
    | none => none
    | some (_, w) =>
      if w.extent.isSome then some zero
      else match st.bytesOf w with
        | some x => some (.have x.1 x.2 w.appTag)
        | none =>
          match st.resolve w with
          | .zero => some zero
          | .hitStored t => some (s.partOf t w.appTag)
          | .pending => some (s.partOf w.chunkId w.appTag)
          | .unique => some (s.partOf w.chunkId w.appTag)
          | .forming => none
          | .hitPending _ => none

/-- The search of the open-epoch region for one chunk position (R333, R334): whether the chunk table is to be asked. Of a range for which the
region had no room nothing stands in the shadow, and the table alone serves it (log 88). -/
def State.openHit (s : State) (nsid no : Nat) : State × Bool :=
  let k := openEntry (nsid - 1) no 0 0 false
  let g := s.region 0
  let entered := s.cam.shadow.any (fun e => decide (g.base ≤ e.1 ∧ e.1 < g.base + g.count) && e.2.hits k.key)
  let x := s.searchMend 0 k.key k.full []
  (x.1, x.2.hit.isSome || !entered)

/-- Steps 1 and 2 of R334 for the chunk positions of a read, in order. -/
def State.findParts (s : State) (nsid : Nat) : List Nat → State × List (Nat × PartSt)
  | [] => (s, [])
  | no :: rest =>
    let x := s.openHit nsid no
    let p := match (if x.2 then s.resolvePart nsid no else none) with
      | some v => (x.1, v)
      | none => x.1.leafPart nsid no
    let r := p.1.findParts nsid rest
    (r.1, (no, p.2) :: r.2)

/-! ### Reading sectors (R334 step 4, R358) -/

/-- A member of a stripe that can be asked. -/
def State.memberReadable (s : State) (r : StripeRec) (i : Nat) : Bool := !bit r.missing i && !s.isFailed (r.site i) && !s.isAbsent (r.site i)

/-- Store a fetch in place of one of its chunk. -/
def State.putFetch (s : State) (f : Fetch) : State :=
  { s with head := { s.head with fetches := s.head.fetches.filter (fun x => x.id != f.id) ++ [f] } }

/-- Ask members for the sectors of a fetch. -/
def askMembers (stripe first count : Nat) (r : StripeRec) : List Nat → State → List (Nat × Nat) × State
  | [], s => ([], s)
  | i :: rest, s =>
    let q := s.request (r.site i) (.sectorRead (16 * stripe + first) count)
    let x := askMembers stripe first count r rest q.2
    ((i, q.1) :: x.1, x.2)

/-- A mask of every sector of a fetch. -/
def Fetch.allFailed (f : Fetch) : Nat := 2 ^ f.count - 1

/-- Members whose sector `o` of the chunk came, ascending. -/
def Fetch.usable (f : Fetch) (o : Nat) : List Nat := ((f.got.filter (fun e => !bit e.2.1 o)).map (·.1)).foldl insNat []

/-- Members still wanted for sector `o`: none where it is there, or k members have it (R358). -/
def Fetch.wants (f : Fetch) (k o : Nat) : Nat := if (f.usable o).contains f.chunk.strip then 0 else k - (f.usable o).length

/-- Members still wanted for the chunk. -/
def Fetch.short (f : Fetch) (k : Nat) : Nat := (List.range f.count).foldl (fun a o => max a (f.wants k o)) 0

/-- A member was asked, or its content is known. -/
def Fetch.tried (f : Fetch) (i : Nat) : Bool := f.got.any (·.1 == i) || f.need.any (·.1 == i)

/-- Readable members not asked yet, ascending. -/
def State.moreMembers (s : State) (r : StripeRec) (f : Fetch) : List Nat :=
  (List.range (r.k + r.m)).filter (fun i => !f.tried i && s.memberReadable r i)

/-- A fetch that reconstructs: a data strip with its EMPTY bit set counts as zeros and is not asked (R348, R358). -/
def Fetch.begun (f : Fetch) (r : StripeRec) : Fetch :=
  { f with recon := true, got := f.got ++ ((List.range r.k).filter (fun i => bit r.empty i && !f.tried i)).map (fun i => (i, 0, zeros (4096 * f.count))) }

/-- Ask the lowest-indexed readable members for the sectors that are wanted (R358); none where fewer than k remain for one of them. -/
def State.reconstruct (s : State) (f0 : Fetch) (r : StripeRec) : Option State :=
  let f := f0.begun r
  let n := f.short r.k
  let l := (s.moreMembers r f).take n
  if l.length < n then none
  else
    let x := askMembers f.chunk.stripeId f.first f.count r l s
    some (x.2.putFetch { f with need := x.1 })

/-- Sector `o` of the chunk: read, or from the k lowest-indexed members that have it. -/
def Fetch.sector (f : Fetch) (k o : Nat) : Bytes :=
  let part := fun (i : Nat) => match f.got.find? (·.1 == i) with | some e => sub e.2.2 (4096 * o) 4096 | none => zeros 4096
  if (f.usable o).contains f.chunk.strip then part f.chunk.strip
  else
    let used := (f.usable o).take k
    memberFrom k 4096 used (used.map part) f.chunk.strip

/-- The sectors of data strips that more than m failures make unreadable (R367), as member x 16 + sector: those for which fewer than k members
are left, counting as left what was not read because its shelf is absent for a planned restart (R362). -/
def State.goneOf (s : State) (f : Fetch) (r : StripeRec) : List Nat :=
  let away := (List.range (r.k + r.m)).filter (fun i => !f.tried i && !bit r.missing i && !s.isFailed (r.site i))
  (List.range f.count).flatMap (fun o =>
    if (f.usable o).contains f.chunk.strip || decide (r.k ≤ (f.usable o).length + away.length) then []
    else ((List.range r.k).filter (fun i => !(f.usable o).contains i && !away.contains i)).map (fun i => 16 * i + f.first + o))

/-! ### Completing reads -/

/-- Give a chunk's content, or none, to every read that waits for it. -/
def State.deliver (s : State) (id : Nat) (content : Option (Bytes × Nat)) : State :=
  let give := fun (p : Nat × PartSt) => match p.2 with
    | .chunk x app => if x = id then (p.1, match content with | some v => PartSt.have v.1 v.2 app | none => .gone) else p
    | .have _ _ _ => p
    | .gone => p
  { s with head := { s.head with
      fetches := s.head.fetches.filter (fun f => f.id != id)
      reads := s.head.reads.map (fun r => { r with parts := r.parts.map give }) } }

/-- Every chunk of a read is there or given up. -/
def WaitRead.ready (r : WaitRead) : Bool :=
  !r.remote && !r.held && r.parts.all (fun p => match p.2 with | .chunk _ _ => false | .have _ _ _ => true | .gone => true)

/-- The 4 KiB blocks of a chunk that an LBA range touches; whether one of them is lost. -/
def partBad (c start len : Nat) (p : Nat × PartSt) : Bool :=
  match p.2 with
  | .gone => true
  | .chunk _ _ => true
  | .have _ lost _ =>
    (List.range (c / 4096)).any (fun i =>
      let a := p.1 * c + 4096 * i
      bit lost i && decide (a < start + len ∧ start < a + 4096))

/-- The bytes of a finished read. -/
def WaitRead.bytes (r : WaitRead) : Bytes :=
  r.parts.flatMap (fun p => match p.2 with | .have b _ _ => b | .chunk _ _ => [] | .gone => [])

/-- The blocks of a read with their protection information where the host asks for it (R187, R330). -/
def withPi (lbaf : Nat) (pract : Bool) (apps : List Nat) : Nat → List Bytes → List Nat → Bytes
  | _, [], _ => []
  | lba, b :: rest, as =>
    (if hasPi lbaf && !pract then b ++ piBytes lbaf lba (as.headD 0xFFFF) b else b) ++ withPi lbaf pract apps (lba + 1) rest as.tail

/-- End-to-end check errors (R205): guard, application tag, reference tag. -/
def nvGuard : NvmeSt := ⟨2, 0x82, true⟩
def nvAppTag : NvmeSt := ⟨2, 0x83, true⟩
def nvRefTag : NvmeSt := ⟨2, 0x84, true⟩

/-- Count a host read command that completes, and the bytes it returned (R201, log 71). -/
def State.countRead (s : State) (bytes : Nat) : State :=
  { s with nvme := { s.nvme with bytesRead := s.nvme.bytesRead + bytes, hostReads := s.nvme.hostReads + 1 } }

/-- Complete a read that is ready (R205, R334 step 8). -/
def State.completeRead (s : State) (r : WaitRead) : State :=
  match s.ns r.nsid with
  | none => s.reply r.cmd r.fromPeer nvNs
  | some n =>
    let b := lbaBytes n.lbaf
    let c := s.nsChunk n
    let start := r.slba * b
    let len := r.nlb * b
    let bad := r.parts.any (partBad c start len)
    let data := sub r.bytes (start % c) len
    let apps := r.parts.map (fun p => match p.2 with | .have _ _ a => a | .chunk _ a => a | .gone => 0xFFFF)
    if bad then
      let s1 := { s with nvme := { s.nvme with mediaErrors := s.nvme.mediaErrors + 1 } }
      if r.fromPeer then s1.sendSeam 255 s1.epn (.readData r.cmd nvLost []) else s1.finish r.cmd nvLost
    else
      let wrong := match r.check with
        | some (tag, mask) => apps.any (fun a => a != 0xFFFF && decide (Nat.land a mask ≠ Nat.land tag mask))
        | none => false
      if wrong then s.reply r.cmd r.fromPeer nvAppTag
      else
      match r.kind with
      | .report _ => s.reply r.cmd r.fromPeer nvOk
      | .verify => s.reply r.cmd r.fromPeer nvOk
      | .compare d => (if r.fromPeer then s else s.countRead 0).reply r.cmd r.fromPeer (if d = data then nvOk else nvCompare)
      | .read pract =>
        let out := withPi n.lbaf pract apps r.slba (chunksOf b data) apps
        if r.fromPeer then s.sendSeam 255 s.epn (.readData r.cmd nvOk out)
        else (s.countRead len).post ⟨r.cmd, nvOk, 0, out⟩

/-- Complete every read that is ready. -/
def State.finishReads (s : State) : State :=
  let done := s.head.reads.filter WaitRead.ready
  done.foldl (fun acc r => acc.completeRead r) { s with head := { s.head with reads := s.head.reads.filter (fun r => !r.ready) } }

/-! ### Lost chunks (R335, R337) -/

/-- Partner repair can be tried for a chunk. -/
def State.repairable (s : State) (c : ChunkRec) : Bool := s.p p_read_repair_enable == 1 && s.session && c.lostBlocks == 0

/-- Ask for a chunk's content: the manager asks the partner, the other head asks the manager. Further reads wait on the same request. -/
def State.askRepair (s : State) (id domain : Nat) (fp : Bytes) (fromPeer : Bool) : State :=
  if s.head.repairs.any (fun r => r.chunkId == id && r.fromPeer == fromPeer) then s
  else
    let s1 := { s with head := { s.head with repairs := s.head.repairs ++ [(⟨id, domain, fp, s.time.t, fromPeer⟩ : RepairReq)] } }
    if s1.isManager then s1.askPartner id domain fp else s1.sendSeam 255 s1.epn (.repairReq domain fp)

/-- A chunk that cannot be read: its LOST flag is set, page 0xC3 lists its stripe (R335), and R337 applies. -/
def State.loseChunk (s : State) (id : Nat) : State :=
  match s.head.md.chunk id with
  | none => s.deliver id none
  | some c =>
    let m := s.head.md.setChunk id { c with lost := true } s.epn
    let s1 := s.setMd { m with lost := if m.lost.contains c.stripeId then m.lost else c.stripeId :: m.lost }
    let s2 := { s1 with head := { s1.head with fetches := s1.head.fetches.filter (fun f => f.id != id) } }
    if s2.repairable c then s2.askRepair id c.domain c.fp false else s2.deliver id none

/-- More than m failures met in the stripe of an unreadable chunk: the head of its stream records LOST, with the sectors found unreadable (R367). -/
def State.noteLost (s : State) (f : Fetch) (r : StripeRec) : State :=
  let id := f.chunk.stripeId
  let i := streamOf id
  let st := s.stream i
  let gone := s.goneOf f r
  if !st.mine || r.state == 3 || gone.isEmpty || st.sealQueue.any (fun x => match x with | .manager (.lost l _) => l == id | _ => false) then s
  else s.setStream i { st with sealQueue := st.sealQueue ++ [.manager (.lost id gone)] }

/-- Reconstruct, or give the chunk up (R335). -/
def State.goOn (s : State) (f : Fetch) (r : StripeRec) : State :=
  match s.reconstruct f r with
  | some t => t
  | none => (s.noteLost (f.begun r) r).loseChunk f.id

/-- A fetch of a chunk before anything is asked. -/
def fetchOf (id : Nat) (c : ChunkRec) : Fetch :=
  { id := id, chunk := c, recon := false, first := c.sectors.headD 0, count := c.sectors.length, need := [], got := [] }

/-- Begin reading a chunk (R334 steps 3 and 4): from its member, or by reconstruction where that is not readable. -/
def State.startFetch (s : State) (id : Nat) : State :=
  if s.head.fetches.any (fun f => f.id == id) || s.head.repairs.any (fun r => r.chunkId == id && !r.fromPeer) then s
  else
    match s.head.md.chunk id with
    | none => s.deliver id none
    | some c =>
      if c.lost then (if s.repairable c then s.askRepair id c.domain c.fp false else s.deliver id none)
      else
        match s.head.md.stripe c.stripeId with
        | none => s.loseChunk id
        | some r =>
          let f := fetchOf id c
          if s.memberReadable r c.strip then
            let x := askMembers c.stripeId f.first f.count r [c.strip] s
            x.2.putFetch { f with need := x.1 }
          else s.goOn { f with got := [(c.strip, f.allFailed, [])] } r

/-- The image of a chunk from the bytes of its sectors. -/
def imageIn (c : ChunkRec) (bs : Bytes) : Bytes := sub bs ((256 + 64 * c.granule) % 4096) c.imageLen

/-- The image of a fetch that has its sectors. -/
def Fetch.image (f : Fetch) (k : Nat) : Bytes := imageIn f.chunk ((List.range f.count).flatMap (f.sector k))

/-- A fetch has all it asked for (R334 steps 4 to 7, R335): failed sectors are reconstructed, then the image is decoded; a corrupt one that the
chunk's own member gave is reconstructed without it, once, and its failure leads to R337. The place is that of the record at the lookup (R336). -/
def State.endFetch (s : State) (f : Fetch) : State :=
  let c := f.chunk
  match s.head.md.stripe c.stripeId with
  | none => s.loseChunk f.id
  | some r =>
    if 0 < f.short r.k then s.goOn f r
    else
      let d := s.decodeImage f.id c (f.image r.k)
      match d.1 with
      | some b => d.2.deliver f.id (some (b, c.lostBlocks))
      | none =>
        if (List.range f.count).any (fun o => (f.usable o).contains c.strip) then
          d.2.goOn { f with got := f.got.filter (fun e => e.1 != c.strip) ++ [(c.strip, f.allFailed, [])] } r
        else d.2.loseChunk f.id

/-- SECTOR_READ_REPLY (R335, R358, R428): sectors of 4,112 bytes each with FAIL_MASK: the sectors that failed there; every one, where the status is
not OK. -/
def execSectorReadReply (h : FrameHdr) (status : Nat) (failMask : BitVec 16) (data : List Bytes) (s : State) : Res :=
  onHead h s (fun s =>
    let s1 := (s.replied h.port h.reqId).pump
    match s1.head.fetches.find? (fun f => f.need.any (·.2 == h.reqId)) with
    | none => s1
    | some f =>
      match f.need.find? (·.2 == h.reqId) with
      | none => s1
      | some (member, _) =>
        let ok := decide (status = 0) && data.length == f.count
        let f1 := { f with
          need := f.need.filter (fun e => e.2 != h.reqId)
          got := f.got ++ [(member, if ok then failMask.toNat else f.allFailed, data.flatMap (fun x => padTo 4096 (x.take 4096)))] }
        let s2 := s1.putFetch f1
        (if f1.need.isEmpty then s2.endFetch f1 else s2).finishReads)

/-! ### Starting a read -/

/-- A read at this head must go to the owner: it touches a range sealed and not yet replayed here, or a reservation change of its
namespace is not replayed yet (R27, R192, R332). -/
def State.readForwards (s : State) (nsid slba nlb : Nat) : Bool :=
  match s.ns nsid with
  | none => false
  | some n =>
    let i := s.nsStream nsid
    let st := s.stream i
    let b := lbaBytes n.lbaf
    let c := s.nsChunk n
    let cs := touched c (slba * b) (nlb * b)
    let resv := st.bundles.any (fun e => decide (st.replayed < e.1) && e.2.sealItems.any (fun x => match x with
      | .command k => k.nsid == nsid && k.recs.any (fun r => match r with | .resv _ _ _ => true | .chunk _ => false | .extent _ _ _ => false)
      | _ => false))
    !st.takes s.epn && (resv || st.sealOnly.any (fun x => x.2.1 == nsid - 1 && cs.any (fun no => decide (x.2.2.1 ≤ no ∧ no < x.2.2.1 + x.2.2.2))))

/-- Resolve the chunks of a read and begin their fetches (R331, R334). -/
def State.beginRead (s : State) (r : WaitRead) : State :=
  match s.ns r.nsid with
  | none => s.completeRead r
  | some n =>
    let b := lbaBytes n.lbaf
    let x := s.findParts r.nsid (touched (s.nsChunk n) (r.slba * b) (r.nlb * b))
    let parts := x.2
    let s1 := { x.1 with head := { x.1.head with reads := x.1.head.reads ++ [{ r with held := false, parts := parts }] } }
    let ids := parts.filterMap (fun p => match p.2 with | .chunk id _ => some id | .have _ _ _ => none | .gone => none)
    (ids.eraseDups.foldl State.startFetch s1).finishReads

/-- Take a read: held in PS2 or during its entry or exit (R196), sent to the owner, or begun. -/
def State.takeRead (s : State) (r : WaitRead) : State :=
  if !s.psAdmits then { s with head := { s.head with reads := s.head.reads ++ [{ r with held := true }] } }
  else if !r.fromPeer && s.readForwards r.nsid r.slba r.nlb then
    State.sendSeam { s with head := { s.head with reads := s.head.reads ++ [{ r with remote := true }] } } 255 s.epn
      (.fwdRead r.cmd r.nsid r.slba r.nlb)
  else s.beginRead r

/-- Begin the reads that a power state held (R196). -/
def State.beginHeld (s : State) : State :=
  (s.head.reads.filter (·.held)).foldl (fun acc r => acc.takeRead { r with held := false })
    { s with head := { s.head with reads := s.head.reads.filter (fun r => !r.held) } }

/-- The Reservation Status data structure of a namespace (NVMe 2.0, R192): generation, type, registrants. A registrant's controller is
one of this head's that its host uses, else the dynamic value 0xFFFF (log 29). -/
def State.resvReport (s : State) (nsid : Nat) (extended : Bool) : Bytes :=
  match s.ns nsid with
  | none => []
  | some n =>
    let r := n.resv
    let ctl := fun (h : Nat) => ((SMap.keys s.nvme.ctrls).find? (fun c => (s.ctrl c).en && s.hostOf c == h)).getD 0xFFFF
    let one := fun (e : Nat × Nat) =>
      let holds := r.holder == some e.1 || decide (5 ≤ r.rtype)
      if extended then le 2 (ctl e.1) ++ le 1 (b2n holds) ++ zeros 5 ++ le 8 e.2 ++ le 16 e.1 ++ zeros 32
      else le 2 (ctl e.1) ++ le 1 (b2n holds) ++ zeros 5 ++ le 8 e.1 ++ le 8 e.2
    le 4 r.gen ++ le 1 r.rtype ++ le 2 r.regs.length ++ zeros 2 ++ le 1 (b2n r.ptpl) ++ zeros (if extended then 54 else 14) ++ r.regs.flatMap one

/-- The reservation of a namespace lets a controller's host read (R192). -/
def State.mayRead (s : State) (nsid cntlid : Nat) : Bool :=
  match s.ns nsid with
  | some n => n.resv.allows (s.hostOf cntlid) false
  | none => true

/-- FWD_READ (R27, R192, R332): the owner serves a whole read that the peer sends, where the reservation lets it through; no blocks stand for
a Reservation Report, SLBA 1 for its extended form. -/
def execFwdRead (cmd : CmdId) (nsid slba nlb : Nat) (s : State) : Res :=
  onSeam s (.fwdRead cmd nsid slba nlb) State.headUp (fun s1 =>
    if nlb = 0 then s1.sendSeam 255 s1.epn (.readData cmd nvOk (s1.resvReport nsid (slba == 1)))
    else if !s1.mayRead nsid cmd.cntlid then
      s1.sendSeam 255 s1.epn (.readData cmd nvConflict [])
    else s1.takeRead { cmd := cmd, kind := .read false, nsid := nsid, slba := slba, nlb := nlb, fromPeer := true })

/-- Bytes of protection information per block (R187). -/
def piLen (lbaf : Nat) : Nat := if lbaf = 1 then 8 else if lbaf = 2 then 16 else 0

/-- The application tag of a block that carries its protection information. -/
def tagIn (lbaf b : Nat) (x : Bytes) : Nat := beNat (sub x (b + (if lbaf = 1 then 2 else 8)) 2)

/-- What a read makes of the owner's answer: the blocks with their protection information. -/
def State.finishRemote (s : State) (r : WaitRead) (lbaf : Nat) (data : Bytes) : State :=
  let b := lbaBytes lbaf
  let blocks := chunksOf (b + piLen lbaf) data
  let plain := blocks.flatMap (fun x => x.take b)
  let wrong := match r.check with
    | some (tag, mask) => hasPi lbaf && blocks.any (fun x => tagIn lbaf b x != 0xFFFF && decide (Nat.land (tagIn lbaf b x) mask ≠ Nat.land tag mask))
    | none => false
  if wrong then s.finish r.cmd nvAppTag
  else
    match r.kind with
    | .report _ => s.post ⟨r.cmd, nvOk, 0, data⟩
    | .verify => s.finish r.cmd nvOk
    | .compare d => (s.countRead 0).finish r.cmd (if d = plain then nvOk else nvCompare)
    | .read pract =>
      (s.countRead plain.length).post ⟨r.cmd, nvOk, 0, if pract then plain else data⟩

/-- READ_DATA (R27): the owner's answer; a Compare or Verify is finished here. -/
def execReadData (cmd : CmdId) (st : NvmeSt) (data : Bytes) (s : State) : Res :=
  onSeam s (.readData cmd st data) (fun _ => true) (fun s =>
    match s.head.reads.find? (fun r => r.cmd == cmd && r.remote) with
    | none => s
    | some r =>
      let s1 := { s with head := { s.head with reads := s.head.reads.filter (fun x => !(x.cmd == cmd && x.remote)) } }
      if st ≠ nvOk then State.finish { s1 with nvme := { s1.nvme with mediaErrors := s1.nvme.mediaErrors + b2n (st == nvLost) } } cmd st
      else
        match s1.ns r.nsid with
        | none => s1.finish cmd nvNs
        | some n => s1.finishRemote r n.lbaf data)

/-! ### Partner repair (R337) -/

/-- A chunk of an own stream is reduced and staged again under its chunk ID, LOST until the close of the new stripe (R337). -/
def State.restageChunk (s : State) (id : Nat) (c : ChunkRec) (data : Bytes) : State :=
  let i := streamOf id
  let st := s.stream i
  let w := s.reduce i { epn := s.epn, nsIndex := 0, chunkNo := 2 ^ 40, domain := c.domain, content := data, outcome := .unique, fp := c.fp
                        chunkId := id, repair := true }
  let s1 := s.setMd (s.head.md.setChunk id { c with lost := true } s.epn)
  (s1.setStream i { st with nextSsn := st.nextSsn + 1, work := SMap.set st.work st.nextSsn w }).stageChunk i st.nextSsn w

/-- Chunks of own streams that a repair is for: of the domain and F, not being staged again already; the LOST ones, or, where none is LOST here,
what the other head could not read. -/
def State.repairTargets (s : State) (domain : Nat) (fp : Bytes) : List (Nat × ChunkRec) :=
  let all := s.head.md.chunks.filter (fun e => e.2.live && e.2.domain == domain && e.2.fp == fp && e.2.lostBlocks == 0
    && (s.stream (streamOf e.1)).mine
    && !((s.stream (streamOf e.1)).work.any (fun w => w.2.repair && w.2.chunkId == e.1 && !w.2.released)))
  let lost := all.filter (fun e => e.2.lost)
  if lost.isEmpty then all else lost

/-- A repair's bytes came, or its failure: checked under the fingerprint key, handed to the reads that wait and to the other head where it
asked or owns the chunk's stream; a chunk of an own stream is staged again. -/
def State.repaired (s : State) (domain : Nat) (fp : Bytes) (data : Option Bytes) : State :=
  let good := match data with | some d => s.fingerprint domain d == fp | none => false
  let mine := s.head.repairs.filter (fun r => r.domain == domain && r.fp == fp)
  let s0 := { s with
    head := { s.head with repairs := s.head.repairs.filter (fun r => !(r.domain == domain && r.fp == fp)) }
    repl := if mine.isEmpty then s.repl else if good then { s.repl with repairsOk := s.repl.repairsOk + 1 } else { s.repl with repairsFailed := s.repl.repairsFailed + 1 } }
  let s1 := mine.foldl (fun acc r =>
    if r.fromPeer then acc.sendSeam 255 acc.epn (.repairReply domain fp (if good then data.getD [] else []))
    else acc.deliver r.chunkId (if good then data.map (fun d => (d, 0)) else none)) s0
  let forOther := good && s.isManager && !mine.any (·.fromPeer) && mine.any (fun r => !(s.stream (streamOf r.chunkId)).mine)
  let s2 := if forOther then s1.sendSeam 255 s1.epn (.repairReply domain fp (data.getD [])) else s1
  (if good then (s2.repairTargets domain fp).foldl (fun acc e => acc.restageChunk e.1 e.2 (data.getD [])) s2 else s2).finishReads

/-- SEAM_REPAIR_REQ (R337): the other head asks the manager for a chunk by domain and F; with `reply`, the manager's answer, whose data
are empty where the repair failed. -/
def execSeamRepairReq (domain : Nat) (fp : Bytes) (reply : Option Bytes) (s : State) : Res :=
  onSeam s (match reply with | none => .repairReq domain fp | some d => .repairReply domain fp d) State.headUp fun s =>
    match reply with
    | none =>
      if s.isManager && s.session then s.askRepair (2 ^ 48 + s.repl.nextReq) domain fp true
      else s.sendSeam 255 s.epn (.repairReply domain fp [])
    | some d => s.repaired domain fp (if d.isEmpty then none else some d)

/-- PARTNER_REPAIR_TIMEOUT (R337): no bytes within `read.repair_timeout_ms`; every waiting read returns Unrecovered Read Error. -/
def execPartnerRepairTimeout (domain : Nat) (fp : Bytes) (s : State) : Res :=
  onlyIf (s.headUp && s.head.repairs.any (fun r => r.domain == domain && r.fp == fp
      && decide (r.startT + s.p p_read_repair_timeout_ms * 100000 ≤ s.time.t))) s
    (fun s => s.repaired domain fp none)

end Sys2Proof.Machine
end

