-- ==== Sys2Proof/Machine/Nvme.lean ====
section
/-! DEFINITION. Controllers and queues of the host interface: PCIe resets, enabling, doorbells, Connect, queue creation and deletion,
keep-alive (R174 to R184). -/

namespace Sys2Proof.Machine

/-! ### Controllers (R175, R178, R182) -/

/-- First controller identifier of this head, less one (R175). -/
def State.ctrlBase (s : State) : Nat := 0x800 * s.site

/-- What a controller identifier names at this head (R175): physical function, virtual function, RDMA controller, discovery. -/
inductive CtrlKind where
  | pf | vf | rdma | discovery | none
  deriving DecidableEq, Repr

/-- The kind of a controller identifier. -/
def State.ctrlKind (s : State) (c : Nat) : CtrlKind :=
  let o := c - s.ctrlBase
  if c < s.ctrlBase ∨ 0x800 ≤ o then .none
  else if o = 1 then .pf
  else if 2 ≤ o ∧ o < 2 + s.nvme.numVfs then .vf
  else if 0x11 ≤ o ∧ o < 0x11 + s.p p_nvme_rdma_ctrls then .rdma
  else if o = 0x7FF then .discovery
  else .none

/-- A controller on HP. -/
def CtrlKind.pcie (k : CtrlKind) : Bool := k == .pf || k == .vf

/-- A controller reached over RDMA. -/
def CtrlKind.fabric (k : CtrlKind) : Bool := k == .rdma || k == .discovery

/-- Controllers of HP that exist: the physical function and the virtual functions. -/
def State.hpCtrls (s : State) : List Nat := (List.range (1 + s.nvme.numVfs)).map (fun i => s.ctrlBase + 1 + i)

/-- I/O queue pairs that a controller may have (R182): reserved ones, or for RDMA what the pool has left, at most 1,024. The pool
counts every virtual function that `pcie.total_vfs` admits (log 44). -/
def State.queueCap (s : State) (c : Nat) : Nat :=
  match s.ctrlKind c with
  | .pf => 4096
  | .vf => s.p p_pcie_vf_ioq
  | .rdma =>
    let pool := 65536 - 4096 - s.p p_pcie_total_vfs * s.p p_pcie_vf_ioq
    let used := (s.nvme.ctrls.filter (fun e => e.1 != c && s.ctrlKind e.1 == .rdma)).foldl (fun a e => a + e.2.allocated) 0
    min 1024 (pool - used)
  | .discovery => 0
  | .none => 0

/-- CSTS.RDY (R179): enabled, and the head has reached READY or stands out of service under R38, R58 or R86. -/
def State.rdy (s : State) (c : Nat) : Bool :=
  (s.ctrl c).en && s.fw && s.isHead
    && (s.boot.stage == .ready || (s.boot.stage == .join
      && s.boot.holds.any (fun a => [AL_EPOCH_CONFIG_MISMATCH, AL_EPOCH_REPLAY_ID, AL_BOOT_ARRAY_ID].contains a)))

/-! ### What the functions of HP and the controllers present (R177, R178, R179, R182) -/

/-- Registers and places that a function of HP presents: identifiers, the size of BAR0/1, offsets in it, and MSI-X vectors. -/
structure HpFunction where
  classCode : Nat
  vendorId : Nat
  deviceId : Nat
  barLen : Nat
  doorbells : Nat
  msixTable : Nat
  msixPba : Nat
  vectors : Nat
  deriving DecidableEq, Repr

/-- The physical function, and a virtual one (R178). -/
def hpFunction (virtual : Bool) : HpFunction :=
  if virtual then ⟨0x010802, 0x1F7D, 0x7265, 65536, 0x1000, 0x8000, 0xE000, 1025⟩
  else ⟨0x010802, 0x1F7D, 0x7264, 262144, 0x1000, 0x20000, 0x30000, 2048⟩

/-- Place of a queue's doorbell in BAR0/1: submission tails at even multiples of the stride of 4 bytes, completion heads at odd ones. -/
def doorbellAt (cq : Bool) (qid : Nat) : Nat := 0x1000 + (2 * qid + b2n cq) * 4

/-- CAP.MQES and CAP.TO (R179, R182): queues of up to 4,096 entries, 120 s in units of 500 ms. -/
def capMqes : Nat := 4095
def capTo : Nat := 240

/-- What CAP gives of R178, R179, R182 and R200: MQES, TO, DSTRD 0, NSSRS and the NVM Command Set. -/
def capWord : Nat := capMqes + capTo * 2 ^ 24 + 0 * 2 ^ 32 + 2 ^ 36 + 2 ^ 37

/-- A queue size within the limit. -/
def sizeOk (n : Nat) : Bool := decide (2 ≤ n ∧ n ≤ capMqes + 1)

/-- What HP presents of its link (R177). -/
structure HpLink where
  maxPayload : Nat := 512
  maxReadRequest : Nat := 4096
  tagBits : Nat
  aer : Bool := true
  ecrc : Bool := true
  ari : Bool := true
  ats : Bool := false
  pasid : Bool := false
  /-- Completion status that a peer-to-peer request gets: Unsupported Request, numbered as PCI Express numbers it. -/
  peerStatus : Nat := 1
  deriving DecidableEq, Repr

/-- HP's link now: 14-bit tags in FLIT mode. -/
def State.hpLink (s : State) : HpLink := { tagBits := if s.nvme.hpFlit then 14 else 10 }

/-- A configuration request may be answered with Configuration Request Retry Status (R179). -/
def State.hpMayRetry (s : State) : Bool := s.pins.perstN && !s.nvme.hpOn

/-! ### Fetching -/

/-- A submission queue has an entry to fetch: a tail ahead of its head over PCIe; over RDMA each command comes as a capsule. -/
def State.canFetch (s : State) (cmd : CmdId) : Bool :=
  match SMap.get (s.ctrl cmd.cntlid).sqs cmd.sqid with
  | none => false
  | some q => !q.gone && q.deleting.isNone && ((s.ctrlKind cmd.cntlid).fabric || q.head != q.tail)

/-- Take an entry off its submission queue. -/
def State.takeEntry (s : State) (cmd : CmdId) : State :=
  let k := s.ctrl cmd.cntlid
  if (s.ctrlKind cmd.cntlid).fabric then s
  else s.setCtrl cmd.cntlid { k with sqs := SMap.modify k.sqs cmd.sqid (fun q => { q with head := (q.head + 1) % max q.size 1 }) }

/-- Fetch a command and act on it: its controller is ready, its queue has an entry, and POWER_FAIL_N has not parked the engines
(R611). -/
def State.fetch (s : State) (cmd : CmdId) (f : State → State) : Res :=
  onlyIf (s.rdy cmd.cntlid && s.ctrlKind cmd.cntlid != .none && !s.power.pfAsserted && s.canFetch cmd) s (fun s => f (s.takeEntry cmd))

/-- An admin command: queue 0. -/
def State.fetchAdmin (s : State) (cmd : CmdId) (f : State → State) : Res :=
  s.fetch cmd (fun s => if cmd.sqid = 0 then f s else s.finish cmd nvOpcode)

/-- An I/O command: another queue. -/
def State.fetchIo (s : State) (cmd : CmdId) (f : State → State) : Res :=
  s.fetch cmd (fun s => if cmd.sqid = 0 then s.finish cmd nvOpcode else f s)

/-- Statuses of the queue commands (NVMe, R182): Completion Queue Invalid, Invalid Queue Identifier, Invalid Queue Size, Invalid
Interrupt Vector, Invalid Queue Deletion, Asynchronous Event Request Limit Exceeded, Connect Invalid Parameters, Command Abort
Requested. -/
def nvCqInvalid : NvmeSt := ⟨1, 0x00, true⟩
def nvQid : NvmeSt := ⟨1, 0x01, true⟩
def nvQsize : NvmeSt := ⟨1, 0x02, true⟩
def nvVector : NvmeSt := ⟨1, 0x08, true⟩
def nvQdel : NvmeSt := ⟨1, 0x0C, true⟩
def nvAerLimit : NvmeSt := ⟨1, 0x05, true⟩
def nvConnect : NvmeSt := ⟨1, 0x82, true⟩
def nvAborted : NvmeSt := ⟨0, 0x07, false⟩

/-! ### Resets (R180) -/

/-- The identifier under which a command goes on whose completion is discarded (R180): a controller that never exists. -/
def orphan (cmd : CmdId) : CmdId := { cmd with cntlid := 0xFFFF }

/-- A command of a controller that this head received itself. -/
def ownCmd (c : Nat) (cmd : CmdId) (fromPeer : Bool) : Bool := cmd.cntlid == c && !fromPeer

/-- Discard what a controller had fetched in a stream and not admitted; what it had admitted goes on without a completion. -/
def StreamSt.dropCtrl (st : StreamSt) (c : Nat) : StreamSt :=
  { st with
    waiting := st.waiting.filter (fun w => !ownCmd c w.cmd w.fromPeer)
    cmds := st.cmds.map (fun a => if ownCmd c a.cmd a.fromPeer then { a with cmd := orphan a.cmd } else a) }

/-- Reset one controller (R180, R198). A command sent to the owner is forgotten here and admitted there, since R387 has no message that calls it
back: DESIGN CHOICE (log 107). -/
def State.resetCtrl (s : State) (c : Nat) : State :=
  let h := s.head
  let n := s.nvme
  { s with
    head := { h with st0 := h.st0.dropCtrl c, st1 := h.st1.dropCtrl c, reads := h.reads.filter (fun r => !ownCmd c r.cmd r.fromPeer) }
    nvme := { n with
      ctrls := SMap.set n.ctrls c { (s.ctrl c) with
        en := false, sqs := [], cqs := [], allocated := 0, feats := [], ps := 0, psOp := 0, aers := [], notices := [], masked := []
        copies := [], ringSeen := none }
      fwd := n.fwd.filter (fun x => x.cntlid != c)
      logWait := n.logWait.filter (fun w => w.cmd.cntlid != c)
      adminWait := n.adminWait.map (fun (a : AdminWait) => if ownCmd c a.cmd a.fromPeer then { a with cmd := orphan a.cmd } else a)
      fwOwner := if n.fwOwner = some c then none else n.fwOwner
      fwPieces := if n.fwOwner = some c then [] else n.fwPieces
      fwCommit := n.fwCommit.map (fun (f : FwCommit) => if f.cmd.cntlid = c then { f with cmd := orphan f.cmd } else f) } }

/-- A queue pair's part in the association of a controller. -/
def Qp.inAssoc (q : Qp) (c : Nat) : Bool := q.use == .host c && q.assoc == 1

/-- The queue pairs of a controller's association carry none any more. -/
def State.unbindQps (s : State) (c : Nat) : State :=
  { s with rdma := { s.rdma with qps := s.rdma.qps.map (fun e => if e.2.inAssoc c then (e.1, { e.2 with assoc := 2 }) else e) } }

/-- End an RDMA association, where one stands (R180, R181): the controller is reset and its host binding ends, and its queue pairs carry none. -/
def State.endAssoc (s : State) (c : Nat) : State :=
  if (s.ctrl c).hostNqn.isNone then s
  else
    let s1 := s.resetCtrl c
    ((s1.setCtrl c { (s1.ctrl c) with hostNqn := none, hostId := 0, kato := 0 }).unbindQps c).event EV_NVME_ASSOC_END 0

/-- The queue pair that a Connect to a controller came over: the lowest-numbered one of that controller which has answered none yet (log 108). It
carries the association, or after a refusal none. -/
def State.bindQp (s : State) (c : Nat) (ok : Bool) : State :=
  match s.rdma.qps.find? (fun e => e.2.use == .host c && e.2.assoc == 0) with
  | some e => { s with rdma := { s.rdma with qps := SMap.set s.rdma.qps e.1 { e.2 with assoc := if ok then 1 else 2 } } }
  | none => s

/-- Reset every controller of HP; the virtual functions go. -/
def State.resetHp (s : State) : State :=
  let s1 := s.hpCtrls.foldl State.resetCtrl s
  { s1 with nvme := { s1.nvme with numVfs := 0 } }

/-- PERST_N_ASSERT (R180). -/
def execPerstNAssert (s : State) : Res :=
  onlyIf s.pins.perstN s (fun s => State.resetHp { s with pins := { s.pins with perstN := false } })

/-- PERST_N_RELEASE (R179). -/
def execPerstNRelease (s : State) : Res := onlyIf (!s.pins.perstN) s (fun s => { s with pins := { s.pins with perstN := true } })

/-- HOT_RESET (R180). -/
def execHotReset (s : State) : Res := onlyIf (s.live && s.pins.perstN && s.isHead) s State.resetHp

/-- FUNCTION_LEVEL_RESET (R180): function 0 is the physical function. -/
def execFunctionLevelReset (fn : Fin 16) (s : State) : Res :=
  onlyIf (s.live && s.pins.perstN && s.isHead && decide (fn.val ≤ s.nvme.numVfs)) s (fun s => s.resetCtrl (s.ctrlBase + 1 + fn.val))

/-- NUMVFS_SET (R178): at most TotalVFs; a virtual function that goes is reset first. -/
def execNumvfsSet (n : Fin 16) (s : State) : Res :=
  onlyIf (s.fw && s.pins.perstN && s.isHead && decide (n.val ≤ s.p p_pcie_total_vfs)) s (fun s =>
    let s1 := (s.hpCtrls.drop (1 + n.val)).foldl State.resetCtrl s
    { s1 with nvme := { s1.nvme with numVfs := n.val } })

/-! ### Enabling -/

/-- CC_EN_SET (R179): accepted at any boot stage; the admin queues take the sizes of AQA, at most 4,096 entries (R182). Over RDMA the
association comes first (R181). -/
def execCcEnSet (cntlid sqSize cqSize : Nat) (s : State) : Res :=
  let k := s.ctrlKind cntlid
  onlyIf (s.live && s.isHead && !(s.ctrl cntlid).en && ((k.pcie && s.pins.perstN) || (k.fabric && (s.ctrl cntlid).hostNqn.isSome))
      && sizeOk sqSize && sizeOk cqSize) s
    (fun s =>
      let x := s.ctrl cntlid
      s.setCtrl cntlid { x with en := true, sqs := SMap.set x.sqs 0 { size := sqSize, cqid := 0 }, cqs := SMap.set x.cqs 0 { size := cqSize } })

/-- CC_EN_CLEAR (R180). Over RDMA the association stays. -/
def execCcEnClear (cntlid : Nat) (s : State) : Res :=
  onlyIf (s.live && s.isHead && (s.ctrl cntlid).en && s.ctrlKind cntlid != .none) s (fun s => s.resetCtrl cntlid)

/-- SQ_TAIL_DOORBELL (R178). -/
def execSqTailDoorbell (cntlid sqid tail : Nat) (s : State) : Res :=
  let k := s.ctrl cntlid
  onlyIf (s.live && k.en && (s.ctrlKind cntlid).pcie
      && (match SMap.get k.sqs sqid with | some q => !q.gone && decide (tail < q.size) | none => false)) s
    (fun s => s.setCtrl cntlid { k with sqs := SMap.modify k.sqs sqid (fun q => { q with tail := tail }) })

/-- CQ_HEAD_DOORBELL (R178): entries are freed, and completions held for want of room are posted. -/
def execCqHeadDoorbell (cntlid cqid head : Nat) (s : State) : Res :=
  let k := s.ctrl cntlid
  match SMap.get k.cqs cqid with
  | none => .next s
  | some q =>
    onlyIf (s.live && k.en && s.ctrlKind cntlid != .none && decide (head < q.size)) s (fun s =>
      (s.setCtrl cntlid { k with cqs := SMap.set k.cqs cqid { q with head := head } }).drainCq cntlid cqid q.held.length)

/-! ### NVMe over RDMA (R181) -/

/-- Connect is answered where no queue exists yet: the capsule response goes to the host directly. -/
def State.answer (s : State) (cmd : CmdId) (st : NvmeSt) (dw0 : Nat) : State :=
  (s.bindQp cmd.cntlid (st == nvOk)).emit (.nvme ⟨cmd, st, dw0, []⟩)

/-- FABRICS_CONNECT (R175, R181, R182): the admin queue binds an existing controller to the first host NQN; an I/O queue must lie
within the allocation. Queue identifiers are those of `cmd`. -/
def execFabricsConnect (cmd : CmdId) (sqSize : Nat) (hostNqn : Bytes) (hostId kato : Nat) (s : State) : Res :=
  onlyIf (s.fw && s.isHead && !s.power.pfAsserted && s.stageFrom .join) s (fun s =>
    let c := cmd.cntlid
    let k := s.ctrl c
    if !(s.ctrlKind c).fabric ∨ !sizeOk sqSize ∨ (k.hostNqn.isSome ∧ k.hostNqn ≠ some hostNqn) then s.answer cmd nvConnect 0
    else if cmd.sqid = 0 then
      if SMap.has k.sqs 0 then s.answer cmd nvConnect 0
      else
        State.answer (s.setCtrl c { k with
          hostNqn := some hostNqn, hostId := hostId, kato := (kato + 99) / 100 * 100, kaAt := s.time.t
          sqs := [(0, { size := sqSize, cqid := 0 })], cqs := [(0, { size := sqSize })] }) cmd nvOk c
    else if !k.en ∨ k.hostNqn.isNone ∨ k.allocated < cmd.sqid ∨ SMap.has k.sqs cmd.sqid then s.answer cmd nvConnect 0
    else
      State.answer (s.setCtrl c { k with
        sqs := SMap.set k.sqs cmd.sqid { size := sqSize, cqid := cmd.sqid }, cqs := SMap.set k.cqs cmd.sqid { size := sqSize } }) cmd nvOk c)

/-- KEEP_ALIVE (R181): the timer starts again. -/
def execKeepAlive (cmd : CmdId) (s : State) : Res :=
  s.fetchAdmin cmd (fun s => State.finish (s.setCtrl cmd.cntlid { (s.ctrl cmd.cntlid) with kaAt := s.time.t }) cmd nvOk)

/-- KEEP_ALIVE_EXPIRY (R180): the timeout passed since the last Keep Alive of an association. -/
def execKeepAliveExpiry (cntlid : Nat) (s : State) : Res :=
  let k := s.ctrl cntlid
  onlyIf (s.fw && (s.ctrlKind cntlid).fabric && k.hostNqn.isSome && k.kato != 0 && decide (k.kaAt + k.kato * 100000 ≤ s.time.t)) s
    (fun s => s.endAssoc cntlid)

/-! ### I/O queues (R182, R183) -/

/-- SET_FEATURES_NUMBER_OF_QUEUES (R182): the pairs asked for, as counts less one, bounded by what the controller may have. With I/O
queues in place it is refused as NVMe has it (log 45). -/
def State.setQueueCount (s : State) (cmd : CmdId) (nsq ncq : Nat) : State :=
  let k := s.ctrl cmd.cntlid
  let cap := s.queueCap cmd.cntlid
  if k.sqs.any (fun e => e.1 != 0 && !e.2.gone) || k.cqs.any (fun e => e.1 != 0) then s.finish cmd nvSeq
  else if 65535 ≤ nsq ∨ 65535 ≤ ncq ∨ cap = 0 then s.finish cmd nvField
  else
    let n := min (max nsq ncq + 1) cap
    State.post (s.setCtrl cmd.cntlid { k with allocated := n }) ⟨cmd, nvOk, (n - 1) * 65536 + (n - 1), []⟩

/-- SET_FEATURES_NUMBER_OF_QUEUES (R182). -/
def execSetFeaturesNumberOfQueues (cmd : CmdId) (nsq ncq : Nat) (s : State) : Res := s.fetchAdmin cmd (fun s => s.setQueueCount cmd nsq ncq)

/-- CREATE_IO_CQ (R178, R182): within the allocation, the size limit and the vectors of the function. -/
def execCreateIoCq (cmd : CmdId) (qid size vector : Nat) (s : State) : Res :=
  s.fetchAdmin cmd (fun s =>
    let k := s.ctrl cmd.cntlid
    if qid = 0 ∨ k.allocated < qid ∨ SMap.has k.cqs qid then s.finish cmd nvQid
    else if !sizeOk size then s.finish cmd nvQsize
    else if (hpFunction (s.ctrlKind cmd.cntlid != .pf)).vectors ≤ vector then s.finish cmd nvVector
    else State.finish (s.setCtrl cmd.cntlid { k with cqs := SMap.set k.cqs qid { size := size } }) cmd nvOk)

/-- CREATE_IO_SQ (R182). -/
def execCreateIoSq (cmd : CmdId) (qid size cqid : Nat) (s : State) : Res :=
  s.fetchAdmin cmd (fun s =>
    let k := s.ctrl cmd.cntlid
    let taken : Bool := match SMap.get k.sqs qid with | some q => !q.gone | none => false
    if qid = 0 ∨ k.allocated < qid ∨ taken then s.finish cmd nvQid
    else if !sizeOk size then s.finish cmd nvQsize
    else if cqid = 0 ∨ !SMap.has k.cqs cqid then s.finish cmd nvCqInvalid
    else State.finish (s.setCtrl cmd.cntlid { k with sqs := SMap.set k.sqs qid { size := size, cqid := cqid } }) cmd nvOk)

/-- DELETE_IO_SQ (R183): takes effect at the next epoch boundary, where the command completes. -/
def execDeleteIoSq (cmd : CmdId) (qid : Nat) (s : State) : Res :=
  s.fetchAdmin cmd (fun s =>
    let k := s.ctrl cmd.cntlid
    match SMap.get k.sqs qid with
    | none => s.finish cmd nvQid
    | some q =>
      if qid = 0 ∨ q.gone ∨ q.deleting.isSome then s.finish cmd nvQid
      else s.setCtrl cmd.cntlid { k with sqs := SMap.set k.sqs qid { q with deleting := some cmd.cid } })

/-- DELETE_IO_CQ (R186): refused while a submission queue uses it. -/
def execDeleteIoCq (cmd : CmdId) (qid : Nat) (s : State) : Res :=
  s.fetchAdmin cmd (fun s =>
    let k := s.ctrl cmd.cntlid
    if qid = 0 ∨ !SMap.has k.cqs qid then s.finish cmd nvQid
    else if k.sqs.any (fun e => !e.2.gone && e.2.cqid == qid) then s.finish cmd nvQdel
    else State.finish (s.setCtrl cmd.cntlid { k with cqs := SMap.del k.cqs qid }) cmd nvOk)

/-- Take commands out of a stream's waiting list. -/
def State.dropWaiting (s : State) (p : WaitCmd → Bool) : State :=
  let go := fun (st : StreamSt) => { st with waiting := st.waiting.filter (fun w => !p w) }
  { s with head := { s.head with st0 := go s.head.st0, st1 := go s.head.st1 } }

/-- The commands of a waiting entry: a fused pair is two, the Compare first (R185). -/
def WaitCmd.ids (w : WaitCmd) : List CmdId :=
  match w.op with
  | .compareWrite _ _ _ cid _ _ => [{ w.cmd with cid := cid }, w.cmd]
  | _ => [w.cmd]

/-- Commands that a queue had fetched and that are not admitted: waiting ones and reads under way. One sent to the owner is out of this head's
hands (log 107). -/
def State.unadmitted (s : State) (c sqid : Nat) : List CmdId :=
  ((s.head.st0.waiting ++ s.head.st1.waiting).filter (fun w => ownCmd c w.cmd w.fromPeer && w.cmd.sqid == sqid)).flatMap WaitCmd.ids
    ++ (s.head.reads.filter (fun r => ownCmd c r.cmd r.fromPeer && r.cmd.sqid == sqid)).map (·.cmd)

/-- The other command of a waiting fused pair. -/
def State.partner (s : State) (cmd : CmdId) : List CmdId :=
  match (s.head.st0.waiting ++ s.head.st1.waiting).find? (fun w => !w.fromPeer && w.ids.contains cmd) with
  | some w => w.ids.filter (· != cmd)
  | none => []

/-- Take back a command that is not admitted; a fused pair goes whole. -/
def State.withdraw (s : State) (cmd : CmdId) : State :=
  let s1 := s.dropWaiting (fun w => w.ids.contains cmd && !w.fromPeer)
  { s1 with head := { s1.head with reads := s1.head.reads.filter (fun r => !(r.cmd == cmd && !r.fromPeer)) } }

/-- The deletion of one submission queue takes effect (R183): unadmitted commands complete with Command Aborted due to SQ Deletion. -/
def State.deleteSq (s : State) (c qid cid : Nat) : State :=
  let s1 := (s.unadmitted c qid).foldl (fun acc cmd => (acc.withdraw cmd).finish cmd nvSqDel) s
  let k := s1.ctrl c
  State.finish (s1.setCtrl c { k with sqs := SMap.modify k.sqs qid (fun q => { q with gone := true, deleting := none }) }) ⟨c, 0, cid⟩ nvOk

/-- Every deletion that waits for the boundary (R183). -/
def State.deleteSqs (s : State) : State :=
  s.nvme.ctrls.foldl (fun acc e => e.2.sqs.foldl (fun a q => match q.2.deleting with | some cid => a.deleteSq e.1 q.1 cid | none => a) acc) s

/-- NVME_ABORT (R184): bit 0 of Dword 0 is set where the command is not one fetched and not yet admitted here. The other command of a fused
pair ends as one whose pair failed (R205). -/
def execNvmeAbort (cmd : CmdId) (sqid cid : Nat) (s : State) : Res :=
  s.fetchAdmin cmd (fun s =>
    let target : CmdId := ⟨cmd.cntlid, sqid, cid⟩
    if (s.unadmitted cmd.cntlid sqid).contains target then
      let s1 := (s.withdraw target).finish target nvAborted
      ((s.partner target).foldl (fun acc o => acc.finish o nvFusedFail) s1).post ⟨cmd, nvOk, 0, []⟩
    else s.post ⟨cmd, nvOk, 1, []⟩)

/-! ### HP (R177, R207) -/

/-- The link trains at a rate and a width within the parameters, at Gen6 in FLIT mode (R177, R207); the alarm clears at full rate and width. -/
def State.hpTrained (s : State) (gen width : Nat) : State :=
  let g := min gen (s.p p_pcie_max_gen)
  let w := min width (s.p p_pcie_max_width)
  let s1 := { s with nvme := { s.nvme with hpUp := true, hpOnce := true, hpGen := g, hpWidth := w, hpFlit := g == 6 } }
  if g < s.p p_pcie_max_gen ∨ w < s.p p_pcie_max_width then s1.alarm AL_NVME_LINK_DEGRADED 0 else s1.clearAlarm AL_NVME_LINK_DEGRADED 0

/-- HP_LINK_UP (R177, R207). -/
def execHpLinkUp (gen width : Nat) (s : State) : Res :=
  onlyIf (s.fw && s.isHead && s.nvme.hpOn && s.pins.perstN && decide (3 ≤ gen) && (width == 4 || width == 8 || width == 16)) s (fun s => s.hpTrained gen width)

/-- HP_LINK_DOWN (R207). -/
def execHpLinkDown (s : State) : Res :=
  onlyIf (s.fw && s.isHead && s.nvme.hpUp) s (fun s => State.alarm { s with nvme := { s.nvme with hpUp := false } } AL_NVME_LINK_DEGRADED 0)

end Sys2Proof.Machine
end

