-- ==== Sys2Proof/Machine/NvmeIo.lean ====
section
/-! DEFINITION. I/O commands (R185, R187, R191, R192, R205, R208, R330, R334): the checks in common, the reads, the writes, the
reservation commands. -/

namespace Sys2Proof.Machine

/-! ### Checks -/

/-- Statuses of NVMe 2.0 for limits that R185 states: Atomic Write Unit Exceeded, Command Size Limit Exceeded, a fused pair without its
second command, a write-protected namespace (R525). -/
def nvAtomic : NvmeSt := ⟨0, 0x14, true⟩
def nvCmdSize : NvmeSt := ⟨1, 0x83, true⟩
def nvNoFused : NvmeSt := ⟨0, 0x0A, true⟩
def nvProtected : NvmeSt := ⟨0, 0x20, true⟩

/-- The status with which an ANA state turns I/O commands away (R191). -/
def anaStatus (a : Nat) : Option NvmeSt :=
  if a = 3 then some nvAnaInacc else if a = 4 then some nvAnaLoss else if a = 15 then some nvAnaTrans else none

/-- Why an I/O command to a namespace is turned away before its fields are looked at (R191, R205). -/
def State.ioStatus (s : State) (c nsid : Nat) : Option NvmeSt :=
  match s.ns nsid with
  | none => some nvNs
  | some n =>
    if !n.attached.contains c then some nvNs
    else if s.nvme.sanitizing then some nvSanitize
    else if n.formatting then some nvFormat
    else anaStatus (s.anaOf (s.nsStream nsid))

/-- A controller in a non-operational state goes back to the operational one it asked for last when a command comes (R195, NVMe). -/
def State.wakePs (s : State) (c : Nat) : State :=
  let k := s.ctrl c
  if k.ps = 2 then s.setCtrl c { k with ps := k.psOp } else s

/-- Fetch an I/O command on a namespace, turn it away where it must be, or act on it. -/
def State.io (s : State) (cmd : CmdId) (nsid : Nat) (f : Ns → State → State) : Res :=
  s.fetchIo cmd (fun s0 =>
    let s := s0.wakePs cmd.cntlid
    match s.ioStatus cmd.cntlid nsid, s.ns nsid with
    | some st, _ => s.finish cmd st
    | none, some n => f n s
    | none, none => s.finish cmd nvNs)

/-- A block range lies in a namespace (R205). -/
def Ns.inRange (n : Ns) (slba nlb : Nat) : Bool := decide (slba + nlb ≤ n.nsze)

/-- A transfer within MDTS (R182). -/
def Ns.inMdts (n : Ns) (nlb : Nat) : Bool := decide (nlb * lbaBytes n.lbaf ≤ 1048576)

/-- Checks of one block's protection information (R187, R330): guard and reference tag always, the application tag where PRCHK asks. -/
def piBlockStatus (lbaf lba : Nat) (chkApp : Bool) (tag mask : Nat) (b : Bytes) (p : PiBlock) : Option NvmeSt :=
  if p.guard ≠ guardOf lbaf b then some nvGuard
  else if chkApp && decide (Nat.land p.appTag mask ≠ Nat.land tag mask) then some nvAppTag
  else if p.refTag ≠ lba % (if lbaf = 1 then 2 ^ 32 else 2 ^ 48) then some nvRefTag
  else none

/-- The first failure among the blocks of a write. -/
def piStatus (lbaf : Nat) (chkApp : Bool) (tag mask : Nat) : Nat → List Bytes → List PiBlock → Option NvmeSt
  | _, [], _ => none
  | _, _ :: _, [] => none
  | lba, b :: bs, p :: ps =>
    match piBlockStatus lbaf lba chkApp tag mask b p with
    | some st => some st
    | none => piStatus lbaf chkApp tag mask (lba + 1) bs ps

/-- Protection information that the controller makes for blocks written with PRACT 1. -/
def piMade (lbaf tag : Nat) : Nat → List Bytes → List PiBlock
  | _, [] => []
  | lba, b :: bs => ⟨guardOf lbaf b, tag, lba % (if lbaf = 1 then 2 ^ 32 else 2 ^ 48)⟩ :: piMade lbaf tag (lba + 1) bs

/-- The protection information of a write to a namespace: the status that turns it away, or what is stored (R187, R330). -/
def Ns.writePi (n : Ns) (pract : Bool) (prchk : BitVec 3) (tag mask slba : Nat) (data : Bytes) (pi : List PiBlock) : NvmeSt ⊕ List PiBlock :=
  if !hasPi n.lbaf then .inr []
  else
    let blocks := chunksOf (lbaBytes n.lbaf) data
    if pract then .inr (piMade n.lbaf tag slba blocks)
    else if pi.length ≠ blocks.length then .inl nvSgl
    else match piStatus n.lbaf (prchk.getLsbD 1) tag mask slba blocks pi with
      | some st => .inl st
      | none => .inr pi

/-- The array is full (R205, R357): too few shelves accept strips. -/
def State.arrayFull (s : State) : Bool := decide (s.acceptOrder.length < s.layoutKM.2 + 4)

/-- A replica namespace of a target (R525). -/
def State.replica (s : State) (n : Ns) : Bool := s.isTarget && s.replicated n.domain

/-! ### Writes -/

/-- What a command counts as a host write command (R201, log 71). -/
def opWrites : FwdOp → Nat
  | .write _ _ _ _ => 1
  | .compareWrite _ _ _ _ _ _ => 1
  | .writeZeroes _ _ _ _ => 0
  | .deallocate _ _ => 0
  | .copy _ _ _ => 0
  | .resv _ _ _ _ _ => 0

/-- Take a command that changes a namespace (R26, R208): held for admission at the owner, else sent to it; where the Seam is down it
cannot go there, and is answered as in transition (log 46). -/
def State.routeWrite (s0 : State) (cmd : CmdId) (op : FwdOp) (pi : List PiBlock) : State :=
  let s := { s0 with nvme := { s0.nvme with bytesWritten := s0.nvme.bytesWritten + s0.opBytes op, hostWrites := s0.nvme.hostWrites + opWrites op } }
  if (s.stream (s.nsStream (opNsid op))).takes s.epn then s.hold { cmd := cmd, fromPeer := false, op := op, pi := pi }
  else if !s.seam.linkUp then s.finish cmd nvAnaTrans
  else
    let ids := match op with | .compareWrite _ _ _ cid _ _ => [cmd, { cmd with cid := cid }] | _ => [cmd]
    State.sendSeam { s with nvme := { s.nvme with fwd := s.nvme.fwd ++ ids } } 255 s.epn (.fwdCmd cmd op pi)

/-- Records that the commands fetched and waiting in a stream count (R209). -/
def State.waitRecs (s : State) (i : Nat) : Nat := (s.stream i).waiting.foldl (fun a w => a + (s.plans w.op).length) 0

/-- The grant of the current epoch covers a command's records beside those of the commands fetched before it (R166, R209); at a head that
does not sequence the stream the owner judges. -/
def State.covered (s : State) (op : FwdOp) : Bool :=
  let i := s.nsStream (opNsid op)
  !(s.stream i).takes s.epn || (s.credits i).covers (s.waitRecs i + (s.plans op).length)

/-- Leave an entry in its submission queue, unfetched (R166). Over RDMA the capsule stays in its receive buffer: the queue has no head to put
back, and the command that fetches the capsule comes again (log 107). -/
def State.untake (s : State) (cmd : CmdId) : State :=
  let k := s.ctrl cmd.cntlid
  if (s.ctrlKind cmd.cntlid).fabric then s
  else s.setCtrl cmd.cntlid { k with sqs := SMap.modify k.sqs cmd.sqid (fun q => { q with head := (q.head + q.size - 1) % max q.size 1 }) }

/-- Turn a write away, or take it; a command that the grant does not cover stays in its queue (R166). -/
def State.writeOr (s : State) (cmd : CmdId) (n : Ns) (space : Bool) (st : Option NvmeSt) (op : FwdOp) (pi : List PiBlock) : State :=
  if s.replica n then s.finish cmd nvProtected
  else match st with
    | some x => s.finish cmd x
    | none =>
      if space && s.arrayFull then s.finish cmd nvCapacity
      else if s.covered op then s.routeWrite cmd op pi else s.untake cmd

/-- Range and transfer size of a command with data. -/
def Ns.dataStatus (n : Ns) (slba nlb len : Nat) : Option NvmeSt :=
  if nlb = 0 ∨ !n.inMdts nlb then some nvField
  else if !n.inRange slba nlb then some nvRange
  else if len ≠ nlb * lbaBytes n.lbaf then some nvSgl
  else none

/-- NVME_WRITE (R26, R185, R187, R208, R330): `pi` is the protection information beside the data. -/
def execNvmeWrite (cmd : CmdId) (nsid slba nlb : Nat) (data : Bytes) (pract : Bool) (prchk : BitVec 3) (tag mask : Nat) (pi : List PiBlock)
    (s : State) : Res :=
  s.io cmd nsid (fun n s =>
    match n.dataStatus slba nlb data.length with
    | some st => s.writeOr cmd n true (some st) (.write nsid slba nlb data) []
    | none =>
      match n.writePi pract prchk tag mask slba data pi with
      | .inl st => s.writeOr cmd n true (some st) (.write nsid slba nlb data) []
      | .inr p => s.writeOr cmd n true none (.write nsid slba nlb data) p)

/-- NVME_WRITE_ZEROES (R185, R209): up to 65,536 blocks. -/
def execNvmeWriteZeroes (cmd : CmdId) (nsid slba nlb : Nat) (deac : Bool) (s : State) : Res :=
  s.io cmd nsid (fun n s =>
    s.writeOr cmd n false (if nlb = 0 ∨ 65536 < nlb then some nvField else if !n.inRange slba nlb then some nvRange else none)
      (.writeZeroes nsid slba nlb deac) [])

/-- NVME_DATASET_MANAGEMENT (R185, R209): without the Deallocate attribute it changes nothing. -/
def execNvmeDatasetManagement (cmd : CmdId) (nsid : Nat) (deallocate : Bool) (ranges : List LbaRange) (s : State) : Res :=
  s.io cmd nsid (fun n s =>
    let st := if ranges.isEmpty ∨ 256 < ranges.length then some nvField
      else if ranges.any (fun r => !n.inRange r.slba r.nlb) then some nvRange else none
    if !deallocate then s.finish cmd (st.getD nvOk) else s.writeOr cmd n false st (.deallocate nsid ranges) [])

/-- The limits of a Copy (R185): descriptor formats 0 and 2, 128 ranges of at most 65,536 blocks, 1,048,576 blocks in all. -/
def State.copyLimits (s : State) (c : Nat) (n : Ns) (nsid fmt sdlba : Nat) (ranges : List CopyRange) : Option NvmeSt :=
  let total := ranges.foldl (fun a r => a + r.nlb) 0
  if (fmt ≠ 0 ∧ fmt ≠ 2) ∨ n.lbaf = 2 ∨ ranges.isEmpty then some nvField
  else if 128 < ranges.length ∨ ranges.any (fun r => decide (65536 < r.nlb ∨ r.nlb = 0)) ∨ 1048576 < total then some nvCmdSize
  else if !n.inRange sdlba total then some nvRange
  else
    let bad := ranges.findSome? (fun r =>
      let src := if fmt = 0 then nsid else r.nsid
      match s.ioStatus c src, s.ns src with
      | some st, _ => some st
      | none, some m => if m.lbaf = 2 ∨ lbaBytes m.lbaf ≠ lbaBytes n.lbaf then some nvField
        else if !m.inRange r.slba r.nlb then some nvRange
        else if !m.resv.allows (s.hostOf c) false then some nvConflict else none
      | none, none => some nvNs)
    bad

/-- NVME_COPY (R185, R208, R209). -/
def execNvmeCopy (cmd : CmdId) (nsid fmt sdlba : Nat) (ranges : List CopyRange) (s : State) : Res :=
  s.io cmd nsid (fun n s =>
    s.writeOr cmd n true (s.copyLimits cmd.cntlid n nsid fmt sdlba ranges)
      (.copy nsid sdlba (ranges.map (fun r => if fmt = 0 then { r with nsid := nsid } else r))) [])

/-- NVME_COMPARE_AND_WRITE (R185): two entries of one queue, the Compare first; at most one chunk. -/
def execNvmeCompareAndWrite (cmp cmd : CmdId) (nsid slba nlb : Nat) (expect data : Bytes) (pract : Bool) (prchk : BitVec 3) (tag mask : Nat)
    (pi : List PiBlock) (s : State) : Res :=
  s.fetchIo cmp (fun s0 =>
    if cmp.cntlid ≠ cmd.cntlid ∨ cmp.sqid ≠ cmd.sqid ∨ !s0.canFetch cmd then s0.finish cmp nvNoFused
    else
      let s := (s0.takeEntry cmd).wakePs cmd.cntlid
      let both := fun (st : NvmeSt) => (s.finish cmp st).finish cmd nvFusedFail
      match s.ioStatus cmd.cntlid nsid, s.ns nsid with
      | some st, _ => both st
      | none, none => both nvNs
      | none, some n =>
        if s.replica n then both nvProtected
        else match n.dataStatus slba nlb data.length with
          | some st => both st
          | none =>
            if s.nsChunk n < nlb * lbaBytes n.lbaf then both nvAtomic
            else if expect.length ≠ data.length then both nvSgl
            else match n.writePi pract prchk tag mask slba data pi with
              | .inl st => both st
              | .inr p =>
                let op := FwdOp.compareWrite nsid slba nlb cmp.cid expect data
                if s.arrayFull then both nvCapacity else if s.covered op then s.routeWrite cmd op p else (s.untake cmd).untake cmp)

/-! ### Reads -/

/-- NVME_FLUSH (R185): completes without waiting; the broadcast namespace identifier names every namespace. -/
def execNvmeFlush (cmd : CmdId) (nsid : Nat) (s : State) : Res :=
  if nsid = 0xFFFFFFFF then s.fetchIo cmd (fun s => s.finish cmd nvOk) else s.io cmd nsid (fun _ s => s.finish cmd nvOk)

/-- Turn a read away, or take it (R192, R205); the owner judges the reservation for a read that goes to it. -/
def State.readOr (s : State) (n : Ns) (st : Option NvmeSt) (r : WaitRead) : State :=
  match st with
  | some x => s.finish r.cmd x
  | none =>
    if s.readForwards r.nsid r.slba r.nlb || n.resv.allows (s.hostOf r.cmd.cntlid) false then s.takeRead r else s.finish r.cmd nvConflict

/-- Range of a read. -/
def Ns.readStatus (n : Ns) (slba nlb : Nat) (transfer : Bool) (prchk : BitVec 3) (ref : Nat) : Option NvmeSt :=
  if nlb = 0 ∨ (transfer && !n.inMdts nlb) then some nvField
  else if !n.inRange slba nlb then some nvRange
  else if hasPi n.lbaf && prchk.getLsbD 0 && decide (ref ≠ slba % (if n.lbaf = 1 then 2 ^ 32 else 2 ^ 48)) then some nvRefTag
  else none

/-- The application tag check of a read (R187). -/
def Ns.tagCheck (n : Ns) (prchk : BitVec 3) (tag mask : Nat) : Option (Nat × Nat) :=
  if hasPi n.lbaf && prchk.getLsbD 1 then some (tag, mask) else none

/-- NVME_READ (R27, R185, R331 to R334). -/
def execNvmeRead (cmd : CmdId) (nsid slba nlb : Nat) (pract : Bool) (prchk : BitVec 3) (tag mask ref : Nat) (s : State) : Res :=
  s.io cmd nsid (fun n s =>
    s.readOr n (n.readStatus slba nlb true prchk ref)
      { cmd := cmd, kind := .read pract, nsid := nsid, slba := slba, nlb := nlb, fromPeer := false, check := n.tagCheck prchk tag mask })

/-- NVME_VERIFY (R185, R334): reads and checks, transfers nothing. -/
def execNvmeVerify (cmd : CmdId) (nsid slba nlb : Nat) (prchk : BitVec 3) (tag mask ref : Nat) (s : State) : Res :=
  s.io cmd nsid (fun n s =>
    s.readOr n (n.readStatus slba nlb false prchk ref)
      { cmd := cmd, kind := .verify, nsid := nsid, slba := slba, nlb := nlb, fromPeer := false, check := n.tagCheck prchk tag mask })

/-- NVME_COMPARE (R185, R334). -/
def execNvmeCompare (cmd : CmdId) (nsid slba nlb : Nat) (data : Bytes) (prchk : BitVec 3) (tag mask ref : Nat) (s : State) : Res :=
  s.io cmd nsid (fun n s =>
    let st := match n.readStatus slba nlb true prchk ref with
      | some x => some x
      | none => if data.length ≠ nlb * lbaBytes n.lbaf then some nvSgl else none
    s.readOr n st
      { cmd := cmd, kind := .compare data, nsid := nsid, slba := slba, nlb := nlb, fromPeer := false, check := n.tagCheck prchk tag mask })

/-! ### Reservations (R192) -/

/-- RESERVATION_REGISTER (R192): action 0 register, 1 unregister, 2 replace. -/
def execReservationRegister (cmd : CmdId) (nsid action cur new : Nat) (opts : RegOpts) (s : State) : Res :=
  s.io cmd nsid (fun n s =>
    let op := FwdOp.resv nsid action opts.cptpl.val (if opts.ignore then ignoreKey else cur) (if action = 1 then cur else new)
    let ok := decide (action ≤ 2) && opts.cptpl.val != 1
    s.writeOr cmd n false (if ok then none else some nvField) op [])

/-- RESERVATION_ACQUIRE (R192): action 0 acquire, 1 preempt, 2 preempt and abort; the commands that the last would abort run on to their
own completions (log 47). -/
def execReservationAcquire (cmd : CmdId) (nsid action rtype cur preempt : Nat) (s : State) : Res :=
  s.io cmd nsid (fun n s =>
    s.writeOr cmd n false (if 2 < action ∨ rtype = 0 ∨ 6 < rtype then some nvField else none)
      (.resv nsid (if action = 0 then 3 else 4) rtype cur (if action = 0 then cur else preempt)) [])

/-- RESERVATION_RELEASE (R192): action 0 release, 1 clear; a release names the type in force. -/
def execReservationRelease (cmd : CmdId) (nsid action rtype cur : Nat) (s : State) : Res :=
  s.io cmd nsid (fun n s =>
    let held := decide (n.resv.rtype ≠ 0 ∧ rtype ≠ n.resv.rtype)
    s.writeOr cmd n false (if 1 < action ∨ (action = 0 ∧ held) then some nvField else none)
      (.resv nsid (if action = 0 then 5 else 6) rtype cur cur) [])

/-- RESERVATION_REPORT (R192, R209): not admitted; a head whose replay lacks a reservation change asks the owner. -/
def execReservationReport (cmd : CmdId) (nsid : Nat) (extended : Bool) (s : State) : Res :=
  s.io cmd nsid (fun _ s =>
    if s.readForwards nsid 0 0 && s.seam.linkUp then
      State.sendSeam { s with head := { s.head with
        reads := s.head.reads ++ [{ cmd := cmd, kind := .report extended, nsid := nsid, slba := b2n extended, nlb := 0, fromPeer := false, remote := true }] } }
        255 s.epn (.fwdRead cmd nsid (b2n extended) 0)
    else s.post ⟨cmd, nvOk, 0, s.resvReport nsid extended⟩)

/-- NVME_UNSUPPORTED_OPCODE (R185, R205). -/
def execNvmeUnsupportedOpcode (cmd : CmdId) (s : State) : Res := s.fetch cmd (fun s => s.finish cmd nvOpcode)

end Sys2Proof.Machine
end

