-- ==== Sys2Proof/Machine/NvmeLog.lean ====
section
/-! DEFINITION. Log pages: the standard ones (R186, R201), the vendor pages 0xC0 to 0xC7 and their copies (R116, R202 to R204, R377, R469,
R541, R549, R557, R632). -/

namespace Sys2Proof.Machine

/-! ### Building pages -/

/-- Write fields over a base: offset and bytes. -/
def putFields (base : Bytes) (fields : List (Nat × Bytes)) : Bytes :=
  fields.foldl (fun a f => a.take f.1 ++ f.2 ++ a.drop (f.1 + f.2.length)) base

/-- A page of which the spec gives only some fields: the others are free (log 6). -/
def State.openPage (s : State) (n : Nat) (fields : List (Nat × Bytes)) : Bytes × State :=
  let r := s.takeFreeBytes n
  (putFields r.1 fields, r.2)

/-- Bytes of a string in a field, zeros after it. -/
def State.subnqn (s : State) (n : Nat) : Bytes := padTo n (paramBytes s.params p_nvme_subnqn 0)

/-- The header of a vendor page (R202). -/
def vendorHead (page len epn : Nat) : Bytes := [0x4B, 0x4C, 0x50] ++ le 1 page ++ le 2 1 ++ zeros 2 ++ le 4 len ++ le 4 (epn % 2 ^ 32)

/-- A whole vendor page of a fixed length: its fields after the header, zeros behind. -/
def State.vendorPage (s : State) (page len : Nat) (body : Bytes) : Bytes := padTo len (vendorHead page len s.epn ++ body)

/-! ### The vendor pages -/

/-- A bit per shelf site that passes a test. -/
def State.siteBits (s : State) (p : Nat → Bool) : Nat := (s.sites.filter p).foldl (fun a i => a + 2 ^ i) 0

/-- A shelf is in service as this head sees it: answering, in service or read-only, not failed. -/
def State.shelfIn (s : State) (i : Nat) : Bool :=
  !s.isFailed i && !s.isAbsent i && (s.portOf i).up && num (s.shelf i).health 1 1 != 0

/-- Raw capacity of the shelves in service (R204). -/
def State.arrayRaw (s : State) : Nat := (s.sites.filter s.shelfIn).foldl (fun a i => a + num (s.shelf i).health 8 8) 0

/-- Stored bytes still free after spare and parity (R204, R345, R359, log 48): each shelf's free space above its reserve, less the parity
share. -/
def State.arrayFree (s : State) : Nat :=
  let km := s.layoutKM
  let one := fun (i : Nat) =>
    let v := s.shelf i
    v.free - s.p p_glade_spare_centi * v.capacity / (100 * max s.nShelves 1)
  (s.sites.filter s.shelfIn).foldl (fun a i => a + one i) 0 * km.1 / max (km.1 + km.2) 1

/-- Stripes LOST and not RETIRED; stripes with a MISSING member. -/
def State.lostCount (s : State) : Nat := (s.head.md.stripes.filter (fun e => e.2.state == 3)).length
def State.degraded (s : State) : Nat := (s.head.md.stripes.filter (fun e => e.2.missing != 0 && e.2.state != 4)).length

/-- Page 0xC0 (R204). -/
def State.pageStatus (s : State) : Bytes :=
  s.vendorPage 0xC0 128 (le 1 s.site ++ le 1 (b2n s.seam.manager) ++ le 1 s.seam.peerState ++ le 1 (timeStateNum s.time.state)
    ++ le 1 (qualityNum s.time.quality) ++ le 1 s.nShelves ++ zeros 2 ++ le 8 s.epn ++ le 8 s.time.t ++ padTo 16 s.boot.replayId
    ++ padTo 8 s.boot.fwVersion ++ le 8 (s.siteBits s.shelfIn) ++ le 8 (s.siteBits (fun i => (s.shelf i).readOnly))
    ++ le 8 (s.siteBits s.isFailed) ++ le 8 s.arrayRaw ++ le 8 s.arrayFree ++ le 8 s.lostCount
    ++ le 4 (s.ev.alarms.filter (·.raised)).length)

/-- One entry of page 0xC1 (R632). -/
def GrantRec.bytes (g : GrantRec) : Bytes :=
  let got := g.grant.headD 0
  let u16s := fun (l : List Nat) => (List.range 5).flatMap (fun i => le 2 (min (l.getD i 0) 0xFFFF))
  le 4 (g.epn % 2 ^ 32) ++ le 2 (min g.free 0xFFFF) ++ le 1 (b2n (decide (got < g.demand.headD 0)) + 2 * b2n (got == 0)) ++ zeros 1
    ++ u16s g.grant ++ u16s g.demand ++ le 2 (min g.used 0xFFFF) ++ zeros 2

/-- Page 0xC1 (R632). -/
def State.pageAdmission (s : State) : Bytes :=
  let half := fun (c : CreditSt) => padTo 8192 ((c.hist.take 256).flatMap GrantRec.bytes)
  s.vendorPage 0xC1 16416 (le 1 s.site ++ le 1 (b2n (s.head.st0.owns s.epn) + 2 * b2n (s.head.st1.owns s.epn)) ++ le 2 (min s.hem.c0.hist.length 256)
    ++ le 2 (min s.hem.c1.hist.length 256) ++ zeros 10 ++ half s.hem.c0 ++ half s.hem.c1)

/-- Page 0xC2 (R469): each site's entry as last received. -/
def State.pageHealth (s : State) : Bytes :=
  s.vendorPage 0xC2 4112 ((List.range 64).flatMap (fun i => padTo 64 (if i < s.nShelves then (s.shelf i).health else [])))

/-- Strips of a closed stripe that Darning has still to rebuild or to copy (R377). -/
def State.toPlace (s : State) (id : Nat) (r : StripeRec) : Nat :=
  let d := if streamOf id = 0 then s.head.darn0 else s.head.darn1
  ((List.range (r.k + r.m)).filter (fun x =>
    (bit r.missing x || ((s.shelf (r.site x)).readOnly && !(decide (x < r.k) && bit r.empty x))) && !d.acked.any (fun w => w.1 == id && w.2.1 == x))).length

/-- Rinse has a stripe of an own stream to take (R375). -/
def State.rinses (s : State) : Bool :=
  s.head.md.stripes.any (fun e => e.2.state == 2 && e.2.missing == 0 && (s.stream (streamOf e.1)).mine)

/-- Page 0xC3 (R335, R377): its list names LOST stripes, and stripes that hold a LOST chunk. -/
def State.pagePasses (s : State) : Bytes :=
  let m := s.head.md
  let h := s.head
  let left := fun (i : Nat) => (m.stripes.filter (fun e => streamOf e.1 == i && e.2.state == 2)).foldl (fun a e => a + s.toPlace e.1 e.2) 0
  let todo := left 0 + left 1
  let darn := if h.waitingSpare then 2 else if 0 < todo then 1 else 0
  let mine := s.myStreams.map (fun i => if i = 0 then h.rinse0.cycleEpn else h.rinse1.cycleEpn)
  let refold := if m.refolding then 1 else if h.refold0.target.isSome || h.refold1.target.isSome then 2 else 0
  let lost := m.lost.filter (fun id => match m.stripe id with
    | some r => r.state == 3 || m.chunks.any (fun c => c.2.live && c.2.lost && c.2.stripeId == id)
    | none => false)
  s.vendorPage 0xC3 4096 (le 1 darn ++ le 1 refold ++ le 1 (b2n (decide (0 < s.p p_rinse_max_gbps) && s.rinses)) ++ le 1 m.failed.length ++ le 4 m.layoutGen
    ++ le 8 (h.darn0.done + h.darn1.done + todo) ++ le 8 (h.darn0.done + h.darn1.done) ++ le 8 h.refold0.boundary ++ le 8 h.refold1.boundary
    ++ le 8 m.refoldTotal ++ le 8 m.refoldDone ++ le 8 (mine.foldl min (mine.headD 0)) ++ le 8 (h.rinse0.done + h.rinse1.done)
    ++ le 8 h.rinseRepairs ++ le 8 h.rinseUnresolved ++ le 8 s.degraded ++ le 8 s.lostCount ++ le 4 (min lost.length 496) ++ zeros 4
    ++ (lost.take 496).flatMap (le 8))

/-- Bytes of page 0xC4 (R116) from a ledger ring: a header of 4,096 bytes, then the slots from the oldest on. -/
def ledgerImage (nor : Mem) (off len : Nat) : Bytes :=
  let recs := ledgerRecords nor
  let oldest := recs.head?
  let head := padTo 4096 ([0x4B, 0x4C, 0x50, 0x48] ++ zeros 4 ++ le 8 ((oldest.map (fun r => recSeq r.2)).getD 0)
    ++ le 8 ((recs.getLast?.map (fun r => recSeq r.2)).getD 0) ++ le 4 ((oldest.map (·.1)).getD 0) ++ le 4 recs.length)
  (List.range len).map (fun j =>
    let a := off + j
    if a < 4096 then head.getD a 0
    else if a < 4096 * 16385 then
      let i := (a - 4096) / 4096
      (norRead nor (slotAddr (((oldest.map (·.1)).getD 0 + i) % ledgerSlots) + a % 4096) 1).headD 0
    else 0)

/-- Page 0xC4 with LSP 1 (R116): the records collected for the newest type 2 record, 4,096 bytes each, absent ones 0xFF. Where this part has
collected none since its restart, though its NOR may hold a type 2 record, the page has no record and reads as zeros: DESIGN CHOICE, as R116 does not
say what it shows then (log 106). -/
def State.pageCollected (s : State) : Bytes :=
  s.ledger.lastCollected.flatMap (fun c => if c.record.isEmpty then List.replicate 4096 0xFF else padTo 4096 (c.record.take 4096))

/-- Ring records of a range of SEQ values (R557): one overwritten since reads as zeros. -/
def EvSt.ringBytes (e : EvSt) (first last : Nat) : Bytes :=
  ((List.range (last + 1 - first)).map (· + first)).flatMap (fun n =>
    match e.ring.find? (·.seq == n) with
    | some r => r.bytes
    | none => zeros 64)

/-- A ring copy's page (R557). -/
def State.pageRing (s : State) (first last epn : Nat) : Bytes :=
  let b := s.ev.ringBytes first last
  vendorHead 0xC5 (16 + b.length) epn ++ b

/-- The summary page (R553, R557). -/
def State.pageSummary (s : State) : Bytes :=
  let b := (List.range 4864).flatMap (fun i => s.ev.sumBytes (codeOfIndex i))
  vendorHead 0xC5 (16 + b.length) s.epn ++ b

/-- Page 0xC6 (R203, R549). -/
def State.pageAlarms (s : State) : Bytes :=
  let b := s.ev.alarms.flatMap AlEntry.bytes
  vendorHead 0xC6 (16 + b.length) s.epn ++ b

/-- Page 0xC7 (R541). -/
def State.pageRepl (s : State) : Bytes :=
  let r := s.repl
  let mode := if s.p p_repl_mode = 0 then 0 else if s.head.md.syncOff then 2 else 1
  s.vendorPage 0xC7 4096 (le 1 (s.p p_repl_role) ++ le 1 mode ++ le 1 r.state ++ le 1 r.quality ++ le 4 r.keyGen
    ++ le 8 (min (r.receipts.getD 0 0) (r.receipts.getD 1 0)) ++ le 8 r.replicated ++ le 8 ((s.time.t - s.epochStart r.replicated) * 10)
    ++ le 8 r.bytesSent ++ le 8 r.pulled ++ le 8 r.pushed ++ le 8 r.repairsOk ++ le 8 r.repairsFailed ++ le 8 r.dups
    ++ padTo 16 r.partnerId ++ le 8 r.resyncEpn)

/-! ### Copies (R202, R557) -/

/-- The key of a page and a selection: on page 0xC5 LSP 0 and 2 select the ring, on page 0xC4 LSP 1 the collected records. -/
def logKey (page lsp : Nat) : Nat := page * 4 + (if page = 0xC5 then (if lsp = 1 then 1 else 0) else if page = 0xC4 then lsp else 0)

/-- The copy that a read at offset 0 takes. -/
def State.copyNow (s : State) (key : Nat) : LogCopy :=
  let page := key / 4
  if page = 0xC0 then .bytes s.pageStatus
  else if page = 0xC1 then .bytes s.pageAdmission
  else if page = 0xC2 then .bytes s.pageHealth
  else if page = 0xC3 then .bytes s.pagePasses
  else if page = 0xC4 then (if key % 4 = 1 then .bytes s.pageCollected
    else .ledger (s.nor.filter (fun c => decide (ledgerBase ≤ c.1 ∧ c.1 < ledgerBase + 4096 * ledgerSlots))))
  else if page = 0xC5 then (if key % 4 = 1 then .bytes s.pageSummary else .ring (s.ev.readMark + 1) s.ev.lastSeq s.epn)
  else if page = 0xC6 then .bytes s.pageAlarms
  else .bytes s.pageRepl

/-- Bytes of a copy; a read past its LENGTH gives zeros. -/
def State.readCopy (s : State) (c : LogCopy) (off len : Nat) : Bytes :=
  match c with
  | .bytes b => padTo len (sub b off len)
  | .ledger nor => ledgerImage nor off len
  | .ring first last epn => padTo len (sub (s.pageRing first last epn) off len)

/-- A page is read with RAE cleared (R556): its notice is unmasked, and a change kept meanwhile is reported. -/
def State.unmask (s : State) (c v : Nat) : State :=
  let k := s.ctrl c
  let s1 := s.setCtrl c { k with masked := k.masked.filter (· != v), notices := k.notices.filter (· != v) }
  if k.notices.contains v then s1.noticeTo c v else s1

/-- The notice that names a vendor page. -/
def pageNotice (page : Nat) : Option Nat := if page = 0xC6 then some noticeAlarm else if page = 0xC5 then some noticeRing else none

/-- Complete a vendor page read. -/
def State.logDone (s : State) (cmd : CmdId) (key : Nat) (rae : Bool) (data : Bytes) : State :=
  let s1 := match pageNotice (key / 4) with
    | some v => if rae then s else s.unmask cmd.cntlid v
    | none => s
  s1.post ⟨cmd, nvOk, 0, data⟩

/-- The boundary fixes the copies that reads at offset 0 wait for (R202). -/
def State.takeLogCopies (s : State) : State :=
  s.nvme.logWait.foldl (fun acc w =>
    let c := acc.copyNow w.key
    let k := acc.ctrl w.cmd.cntlid
    let seen := match c with | .ring _ last _ => some last | .bytes _ => k.ringSeen | .ledger _ => k.ringSeen
    let a := acc.setCtrl w.cmd.cntlid { k with copies := SMap.set k.copies w.key c, ringSeen := seen }
    a.logDone w.cmd w.key w.rae (a.readCopy c 0 w.len)) { s with nvme := { s.nvme with logWait := [] } }

/-- Log Specific Parameter values of a vendor page (R202). -/
def lspOk (page lsp : Nat) : Bool := if page = 0xC4 then decide (lsp ≤ 1) else if page = 0xC5 then decide (lsp ≤ 2) else lsp == 0

/-- Read a vendor page (R202): at offset 0 a new copy at the next boundary; elsewhere the copy taken before, and where there is none its
content is open (log 6). LSP 2 on page 0xC5 moves READ_MARK at once (R557). -/
def State.vendorRead (s : State) (cmd : CmdId) (page lsp off len : Nat) (rae : Bool) : State :=
  if !lspOk page lsp ∨ off % 4 ≠ 0 then s.finish cmd nvField
  else
    let key := logKey page lsp
    let k := s.ctrl cmd.cntlid
    if off = 0 then
      let s1 := match (if page = 0xC5 ∧ lsp = 2 then k.ringSeen else none) with
        | some n => { s with ev := s.ev.setMark n }
        | none => s
      { s1 with nvme := { s1.nvme with logWait := s1.nvme.logWait ++ [⟨cmd, key, len, rae⟩] } }
    else match SMap.get k.copies key with
      | some c => s.logDone cmd key rae (s.readCopy c off len)
      | none => let f := s.takeFreeBytes len; f.2.logDone cmd key rae f.1

/-- LOG_ARRAY_STATUS (R204). -/
def execLogArrayStatus (cmd : CmdId) (lsp off len : Nat) (rae : Bool) (s : State) : Res := s.fetchAdmin cmd (fun s => s.vendorRead cmd 0xC0 lsp off len rae)
/-- LOG_ADMISSION_AND_HEM (R632). -/
def execLogAdmissionAndHem (cmd : CmdId) (lsp off len : Nat) (rae : Bool) (s : State) : Res := s.fetchAdmin cmd (fun s => s.vendorRead cmd 0xC1 lsp off len rae)
/-- LOG_SHELF_HEALTH (R469). -/
def execLogShelfHealth (cmd : CmdId) (lsp off len : Nat) (rae : Bool) (s : State) : Res := s.fetchAdmin cmd (fun s => s.vendorRead cmd 0xC2 lsp off len rae)
/-- LOG_STRIPE_PASSES (R377). -/
def execLogStripePasses (cmd : CmdId) (lsp off len : Nat) (rae : Bool) (s : State) : Res := s.fetchAdmin cmd (fun s => s.vendorRead cmd 0xC3 lsp off len rae)
/-- LOG_BOOT_LEDGER (R116): LSP 0. -/
def execLogBootLedger (cmd : CmdId) (off len : Nat) (rae : Bool) (s : State) : Res := s.fetchAdmin cmd (fun s => s.vendorRead cmd 0xC4 0 off len rae)
/-- LOG_BOOT_LEDGER_COLLECTED (R116): LSP 1. -/
def execLogBootLedgerCollected (cmd : CmdId) (off len : Nat) (rae : Bool) (s : State) : Res := s.fetchAdmin cmd (fun s => s.vendorRead cmd 0xC4 1 off len rae)
/-- LOG_EVENT_RING (R557): LSP 0. -/
def execLogEventRing (cmd : CmdId) (off len : Nat) (rae : Bool) (s : State) : Res := s.fetchAdmin cmd (fun s => s.vendorRead cmd 0xC5 0 off len rae)
/-- LOG_EVENT_SUMMARY (R557): LSP 1. -/
def execLogEventSummary (cmd : CmdId) (off len : Nat) (rae : Bool) (s : State) : Res := s.fetchAdmin cmd (fun s => s.vendorRead cmd 0xC5 1 off len rae)
/-- LOG_EVENT_RING_MARK (R557): LSP 2. -/
def execLogEventRingMark (cmd : CmdId) (off len : Nat) (rae : Bool) (s : State) : Res := s.fetchAdmin cmd (fun s => s.vendorRead cmd 0xC5 2 off len rae)
/-- LOG_ALARMS (R549). -/
def execLogAlarms (cmd : CmdId) (lsp off len : Nat) (rae : Bool) (s : State) : Res := s.fetchAdmin cmd (fun s => s.vendorRead cmd 0xC6 lsp off len rae)
/-- LOG_REPLICATION (R541). -/
def execLogReplication (cmd : CmdId) (lsp off len : Nat) (rae : Bool) (s : State) : Res := s.fetchAdmin cmd (fun s => s.vendorRead cmd 0xC7 lsp off len rae)

/-! ### Standard pages (R186, R201) -/

/-- Status bits of a completion, as the Error log gives them. -/
def statusWord (st : NvmeSt) : Nat := (st.sc + 256 * st.sct + 16384 * b2n st.dnr) * 2

/-- Error Information: entries of this controller, newest first. -/
def State.logErrors (s : State) (c : Nat) : Bytes × State :=
  (s.nvme.errors.filter (fun e => e.2.1.cntlid == c)).foldl (fun acc e =>
    let r := acc.2.openPage 64 [(0, le 8 e.1 ++ le 2 e.2.1.sqid ++ le 2 e.2.1.cid ++ le 2 (statusWord e.2.2))]
    (acc.1 ++ r.1, r.2)) ([], s)

/-- This head's hottest reading in Kelvin. -/
def State.kelvin (s : State) : Nat := ((s.hottest + 2732) / 10).toNat

/-- The composite temperature lies beyond a threshold that the controller's host has set (NVMe 2.0, feature 04h): over, or under. One not set warns
of nothing: DESIGN CHOICE (log 71). -/
def State.tempBeyond (s : State) (c : Nat) : Bool :=
  let th := fun (fid : Nat) => SMap.get (s.ctrl c).feats fid
  (match th 0x04 with | some v => decide (v % 65536 ≤ s.kelvin) | none => false)
    || (match th 0x104 with | some v => decide (s.kelvin ≤ v % 65536) | none => false)

/-- Critical Warning (R201). -/
def State.criticalWarning (s : State) (c : Nat) : Nat :=
  b2n (decide (s.availableSpare < s.p p_glade_warn_pct)) + 2 * b2n (s.tempBeyond c) + 4 * b2n (decide (0 < s.lostCount + s.degraded))
    + 8 * b2n (s.arrayFull || s.sites.all (fun i => (s.shelf i).readOnly)) + 16 * b2n s.nvme.holdupWarn

/-- Highest wear used that any shelf reports (R201). -/
def State.wearUsed (s : State) : Nat := s.sites.foldl (fun a i => max a (num (s.shelf i).health 7 1)) 0

/-- NVMe data units: thousands of 512 bytes, rounded up. -/
def dataUnits (n : Nat) : Nat := (n + 511999) / 512000

/-- SMART / Health Information (R201); the counts it does not list are those of NVMe 2.0 that State holds (log 71). -/
def State.logSmart (s : State) (c : Nat) : Bytes × State :=
  s.openPage 512 [(0, le 1 (s.criticalWarning c) ++ le 2 s.kelvin ++ le 1 s.availableSpare ++ le 1 (s.p p_glade_warn_pct) ++ le 1 s.wearUsed ++ le 1 0),
    (32, le 16 (dataUnits s.nvme.bytesRead) ++ le 16 (dataUnits s.nvme.bytesWritten) ++ le 16 s.nvme.hostReads ++ le 16 s.nvme.hostWrites
      ++ le 16 (s.time.busy / 6000000000) ++ le 16 s.nvme.powerCycles ++ le 16 (s.time.up / 360000000000)), (160, le 16 s.nvme.mediaErrors ++ le 16 s.nvme.errCount)]

/-- Firmware Slot Information (R197): the booted copy, the copy that R82 would select next, and the revisions of valid copies. -/
def State.logFirmware (s : State) : Bytes × State :=
  let ok := fun (c : Copy) => copyStatus s c == 0
  let next := (ranked s.nor ([Copy.a, Copy.b].filter ok)).head?
  let num' := fun (c : Copy) => copyNum c + 1
  let rev := fun (c : Copy) => if ok c then sub (copyRead s.nor c 0 256) 48 8 else zeros 8
  s.openPage 512 [(0, le 1 (num' s.boot.copy + 16 * (next.map num').getD 0)), (8, rev .a ++ rev .b)]

/-- Changed Namespace List: up to 1,024 identifiers, ascending; more are told by FFFFFFFFh alone (NVMe 2.0). -/
def Ctrl.changedList (k : Ctrl) : Bytes :=
  let ids := k.changedNs.foldl insNat []
  padTo 4096 (if 1024 < ids.length then le 4 0xFFFFFFFF else ids.flatMap (le 4))

/-- Device Self-test (R193): the operation running, and the last 20 results, newest first; result Fh marks an entry
not used (NVMe 2.0). -/
def State.logSelfTest (s : State) : Bytes × State :=
  let pct := s.takeFree
  let cur := match s.nvme.test with
    | some t => le 1 t.code ++ le 1 (pct.1 % 100)
    | none => zeros 2
  let all := (s.nvme.testLog.take 20).foldl (fun acc e =>
    let r := acc.2.openPage 28 [(0, le 1 (e.2 + 16 * e.1))]
    (acc.1 ++ r.1, r.2)) (cur ++ zeros 2, pct.2)
  (all.1 ++ (List.replicate (20 - s.nvme.testLog.length) (le 1 0x0F ++ zeros 27)).flatten, all.2)

/-- ANA states as NVMe numbers them are the model's (R25, R191). -/
def State.logAna (s : State) (groupsOnly : Bool) : Bytes :=
  let one := fun (g : Nat) =>
    let ids := ((SMap.keys s.nvme.ns).filter (fun n => s.nsStream n == g)).foldl insNat []
    let l := if groupsOnly then [] else ids
    le 4 (g + 1) ++ le 4 l.length ++ le 8 (s.nvme.anaCounts.getD g 0) ++ le 1 (s.nvme.ana.getD g 4) ++ zeros 15 ++ l.flatMap (le 4)
  le 8 s.nvme.anaCount ++ le 2 2 ++ zeros 6 ++ one 0 ++ one 1

/-- Reservation Notification: the oldest note of a controller. -/
def Ctrl.resvPage (k : Ctrl) : Bytes :=
  match k.resvNotes with
  | [] => zeros 64
  | n :: rest => padTo 64 (le 8 (rest.length + 1) ++ le 1 n.1 ++ le 1 (min rest.length 255) ++ zeros 2 ++ le 4 n.2)

/-- Sanitize Status (R190): progress while it runs is open. -/
def State.logSanitize (s : State) : Bytes × State :=
  let f := s.takeFree
  let prog := if s.nvme.sanitizing then f.1 % 65535 else 65535
  let st := if s.nvme.sanitizing then 2 else if s.nvme.sanitizes = 0 then 0 else 1
  f.2.openPage 512 [(0, le 2 prog ++ le 2 st)]

/-- A number as decimal text. -/
def decText (n : Nat) : Bytes := (toString n).toList.map (fun c => BitVec.ofNat 8 c.toNat)

/-- Text in a field, spaces after it. -/
def spaced (n : Nat) (b : Bytes) : Bytes := (b ++ List.replicate (n - b.length) 0x20).take n

/-- A hexadecimal digit as text. -/
def hexDigit (n : Nat) : Byte := BitVec.ofNat 8 (if n < 10 then 48 + n else 87 + n)

/-- An IPv6 address as text: eight groups of four digits. The form with nothing left out is a DESIGN CHOICE (log 91). -/
def ip6Text (b : Bytes) : Bytes :=
  (List.range 8).flatMap (fun i =>
    let g := beNat (sub b (2 * i) 2)
    (if i = 0 then [] else [0x3A]) ++ [hexDigit (g / 4096 % 16), hexDigit (g / 256 % 16), hexDigit (g / 16 % 16), hexDigit (g % 16)])

/-- Discovery (R181): one entry per enabled port, each naming the subsystem and the service identifier; the static controller model has
CNTLID FFFEh. TRADDR is the port's `eth.ip_addr`. -/
def State.logDiscovery (s : State) : Bytes × State :=
  let ports := (List.range 16).filter (bit (s.p p_nvme_rdma_port_mask))
  let h := s.openPage 1024 [(8, le 8 ports.length ++ le 2 0)]
  ports.foldl (fun acc p =>
    let r := acc.2.openPage 1024 [(0, le 1 1 ++ le 1 2 ++ le 1 2), (4, le 2 p ++ le 2 0xFFFE ++ le 2 4096),
      (32, spaced 32 (decText (s.p p_nvme_rdma_svcid))), (256, s.subnqn 256),
      (512, spaced 256 (ip6Text (padTo 16 (paramBytes s.params p_eth_ip_addr p))))]
    (acc.1 ++ r.1, r.2)) h

/-- The content of a standard page, with what reading it changes. -/
def State.stdPage (s : State) (c lid lsp : Nat) (rae : Bool) : Option (Bytes × State) :=
  let k := s.ctrl c
  if lid = 0x01 then some (s.logErrors c)
  else if lid = 0x02 then some (s.logSmart c)
  else if lid = 0x03 then some s.logFirmware
  else if lid = 0x04 then
    let s1 := if rae then s else (s.setCtrl c { k with changedNs := [] }).unmask c noticeNs
    some (k.changedList, s1)
  else if lid = 0x06 then some s.logSelfTest
  else if lid = 0x0C then some (s.logAna (lsp % 2 == 1), if rae then s else s.unmask c noticeAna)
  else if lid = 0x70 ∧ s.ctrlKind c = .discovery then some s.logDiscovery
  else if lid = 0x80 then
    let s1 := if rae then s else (s.setCtrl c { k with resvNotes := k.resvNotes.drop 1 }).unmask c 0x800006
    some (k.resvPage, s1)
  else if lid = 0x81 then some s.logSanitize
  else none

/-- GET_LOG_PAGE (R186): a standard page; a vendor page is read by its own rule; any other is refused (R186, R205). -/
def execGetLogPage (cmd : CmdId) (lid lsp off len : Nat) (rae : Bool) (s : State) : Res :=
  s.fetchAdmin cmd (fun s =>
    if 0xC0 ≤ lid ∧ lid ≤ 0xC7 then s.vendorRead cmd lid lsp off len rae
    else match s.stdPage cmd.cntlid lid lsp rae with
      | some (b, s1) => s1.post ⟨cmd, nvOk, 0, padTo len (sub b off len)⟩
      | none => s.finish cmd nvField)

end Sys2Proof.Machine
end

