-- ==== Sys2Proof/Machine/NvmeAdmin.lean ====
section
/-! DEFINITION. Admin commands of the manager (R176, R187 to R190, R330), features (R186, R195), asynchronous events (R186, R556),
self-test (R193, R194), power states (R195, R196, R312, R313). -/

namespace Sys2Proof.Machine

/-! ### Namespace management, attachment, format, sanitize (R176, R189, R190) -/

/-- Statuses of NVMe 2.0 that these commands return beyond R205 (log 45): Namespace Identifier Unavailable, Already Attached, Not Attached,
Controller List Invalid, Internal Error. -/
def nvNsUnavail : NvmeSt := ⟨1, 0x16, true⟩
def nvAttached : NvmeSt := ⟨1, 0x18, true⟩
def nvNotAttached : NvmeSt := ⟨1, 0x1A, true⟩
def nvCtrlList : NvmeSt := ⟨1, 0x1C, true⟩
def nvInternal : NvmeSt := ⟨0, 0x06, false⟩

/-- A command of R176 on a virtual function is refused, as is any admin command that the discovery controller does not have. -/
def State.pfOnly (s : State) (cmd : CmdId) (f : State → State) : Res :=
  s.fetchAdmin cmd (fun s =>
    if s.ctrlKind cmd.cntlid = .vf ∨ s.ctrlKind cmd.cntlid = .discovery then s.finish cmd nvOpcode else f s)

/-- An admin command of every I/O controller. -/
def State.ioCtrl (s : State) (cmd : CmdId) (f : State → State) : Res :=
  s.fetchAdmin cmd (fun s => if s.ctrlKind cmd.cntlid = .discovery then s.finish cmd nvOpcode else f s)

/-- A CNTLID names an I/O controller of either head (R175, R189). -/
def State.ioCntlid (s : State) (c : Nat) : Bool :=
  let o := c % 0x800
  decide (c < 0x1000 ∧ 1 ≤ o ∧ o < 0x11 + s.p p_nvme_rdma_ctrls)

/-- Identifiers that commands already recorded will create. -/
def State.pendingNs (s : State) : List Nat :=
  s.nvme.adminWait.filterMap (fun a => match a.op with | .create _ _ _ => some a.nsid | _ => none)
    ++ (s.head.st0.sealQueue ++ s.head.st1.sealQueue).filterMap (fun x => match x with
      | .manager (.snapClone _ _ nsid) => some nsid
      | .manager (.nsCreate d) => some d.nsid
      | _ => none)

/-- The identifier of a new namespace: the lowest free one (log 50). -/
def State.newNsid (s : State) : Nat :=
  lowestFree (fun n => SMap.has s.nvme.ns n || s.pendingNs.contains n) (s.nvme.ns.length + s.pendingNs.length) 1

/-- The domain a Create names: zero selects the default (R189). -/
def State.createDomain (s : State) (d : Nat) : Nat := if d = 0 then s.p p_ns_default_domain else d

/-- Namespaces of a domain. -/
def State.nsOfDomain (s : State) (d : Nat) : List Nat := (s.nvme.ns.filter (fun e => e.2.domain == d)).map (·.1)

/-- A format operand is none of the table's (R187): its low four bits name the format, bit 4 asks for interleaved metadata over PCIe (R181). -/
def lbafBad (lbaf : Nat) : Bool := decide (3 < lbaf % 16 ∨ 31 < lbaf)

/-- An LBA format a domain cannot have (R330). -/
def State.badLbaf (s : State) (lbaf d : Nat) : Bool := hasPi lbaf && s.chunkSize d != 4096

/-- Why the manager refuses a command, if it does (R187, R189, R190, R205, R330). -/
def State.adminStatus (s : State) (op : AdminOp) : Option NvmeSt :=
  if s.nvme.sanitizing then some nvSanitize
  else match op with
  | .create nsze lbaf domain =>
    let d := s.createDomain domain
    if 16384 ≤ s.nvme.ns.length + s.pendingNs.length then some nvNsUnavail
    else if lbafBad lbaf ∨ nsze = 0 ∨ 2 ^ 40 < nsze ∨ 255 < d ∨ !SMap.has s.cipher.recs d ∨ s.badLbaf (lbaf % 16) d then some nvField
    else none
  | .delete nsid => if nsid = 0xFFFFFFFF ∨ SMap.has s.nvme.ns nsid then none else some nvNs
  | .attach nsid ctrls =>
    (match s.ns nsid with
     | none => some nvNs
     | some n =>
       if ctrls.isEmpty ∨ !ctrls.all s.ioCntlid then some nvCtrlList
       else if ctrls.any n.attached.contains then some nvAttached else none)
  | .detach nsid ctrls =>
    (match s.ns nsid with
     | none => some nvNs
     | some n =>
       if ctrls.isEmpty ∨ !ctrls.all s.ioCntlid then some nvCtrlList
       else if !ctrls.all n.attached.contains then some nvNotAttached else none)
  | .format nsid lbaf ses =>
    (match s.ns nsid with
     | none => some nvNs
     | some n =>
       if n.formatting then some nvFormat
       else if lbafBad lbaf ∨ 2 < ses ∨ s.badLbaf (lbaf % 16) n.domain ∨ 2 ^ 40 < n.nsze * lbaBytes n.lbaf / lbaBytes (lbaf % 16) ∨ (ses = 2 ∧ s.nsOfDomain n.domain ≠ [nsid]) then some nvField
       else none)
  | .sanitizeCrypto => if s.p p_nvme_sanitize_enable = 1 then none else some nvField

/-- A command that makes new keys (R190). -/
def needsKeys : AdminOp → Bool
  | .format _ _ ses => ses == 2
  | .sanitizeCrypto => true
  | .create _ _ _ => false
  | .delete _ => false
  | .attach _ _ => false
  | .detach _ _ => false

/-- The domains that a command makes new keys for (R190). -/
def State.newKeysOf (s : State) (op : AdminOp) : List Nat :=
  if !needsKeys op then []
  else match op with
    | .format n _ _ => (match s.ns n with | some x => [x.domain] | none => [])
    | _ => (List.range 256).filter (fun d => s.pi p_key_domain_enable d == 1 || SMap.has s.cipher.recs d)

/-- Record a command's decisions (R189, R190, R317). A format keeps the namespace's size in bytes (log 51). -/
def State.recordAdmin (s : State) (op : AdminOp) (nsid : Nat) : State :=
  match op with
  | .create nsze lbaf domain => s.record (.nsCreate ⟨nsid, nsze, lbaf, s.createDomain domain⟩)
  | .delete n => (if n = 0xFFFFFFFF then SMap.keys s.nvme.ns else [n]).foldl (fun acc k => acc.record (.nsDelete k)) s
  | .attach n ctrls => s.record (.nsAttach n ctrls true)
  | .detach n ctrls => s.record (.nsAttach n ctrls false)
  | .format n lbaf ses =>
    (match s.ns n with
     | none => s
     | some x =>
       let s1 := s.setNs n { x with formatting := true }
       let s2 := if ses = 2 then s1.recordKeys x.domain else s1
       s2.record (.nsFormat ⟨n, x.nsze * lbaBytes x.lbaf / lbaBytes (lbaf % 16), lbaf, x.domain⟩))
  | .sanitizeCrypto =>
    ((s.newKeysOf .sanitizeCrypto).foldl State.recordKeys s).record .sanitize

/-- The manager takes a command: refused at once, held while PS2 keeps the keys away (R313), no key can be generated (R309) or the slots of an
earlier erase are not EMPTY yet (log 112), or recorded in its next bundle. -/
def State.doAdmin (s : State) (cmd : CmdId) (op : AdminOp) (fromPeer : Bool) : State :=
  match s.adminStatus op with
  | some st => s.reply cmd fromPeer st
  | none =>
    if needsKeys op && !(s.psAdmits && s.cipher.drbgOk && (s.newKeysOf op).all s.keysFree) then
      let s1 := if s.psAdmits && !s.cipher.drbgOk then s.alarm AL_CIPHER_DRBG 0 else s
      { s1 with nvme := { s1.nvme with adminWait := s1.nvme.adminWait ++ [⟨cmd, op, none, 0, fromPeer⟩] } }
    else
      let id := match op with | .create _ _ _ => s.newNsid | _ => 0
      let s1 := s.recordAdmin op id
      { s1 with nvme := { s1.nvme with adminWait := s1.nvme.adminWait ++ [⟨cmd, op, some s.epn, id, fromPeer⟩] } }

/-- Take a command at the head that received it: the manager acts on it, the co-head forwards it (R189); with the Seam down it cannot
(log 46). -/
def State.routeAdmin (s : State) (cmd : CmdId) (op : AdminOp) : State :=
  if s.isManager then s.doAdmin cmd op false
  else if !s.seam.linkUp then s.finish cmd nvInternal
  else State.sendSeam { s with nvme := { s.nvme with fwd := s.nvme.fwd ++ [cmd] } } 255 s.epn (.adminFwd cmd op)

/-- A held command is taken again: by the manager alone (R21). Where the lease has moved meanwhile, one of an own host goes to the new manager,
and one that the peer forwarded ends as one that cannot be forwarded (log 46). -/
def State.retakeAdmin (s : State) (a : AdminWait) : State :=
  if s.isManager then s.doAdmin a.cmd a.op a.fromPeer
  else if a.fromPeer then s.reply a.cmd true nvInternal
  else s.routeAdmin a.cmd a.op

/-- The commands that PS2 or failing entropy tests held are taken again. A manager without its grants goes on holding them (R21, R402). -/
def State.takeHeldAdmin (s : State) : State :=
  if s.seam.manager && !s.isManager then s
  else (s.nvme.adminWait.filter (·.epn.isNone)).foldl State.retakeAdmin
    { s with nvme := { s.nvme with adminWait := s.nvme.adminWait.filter (·.epn.isSome) } }

/-- NAMESPACE_MANAGEMENT (R176, R189): create with a size, a format and a domain, or delete. -/
def execNamespaceManagement (cmd : CmdId) (create : Bool) (nsid nsze lbaf domain : Nat) (s : State) : Res :=
  s.pfOnly cmd (fun s => s.routeAdmin cmd (if create then .create nsze lbaf domain else .delete nsid))

/-- NAMESPACE_ATTACHMENT (R189): CNTLIDs of either head. -/
def execNamespaceAttachment (cmd : CmdId) (attach : Bool) (nsid : Nat) (ctrls : List Nat) (s : State) : Res :=
  s.ioCtrl cmd (fun s => s.routeAdmin cmd (if attach then .attach nsid ctrls else .detach nsid ctrls))

/-- FORMAT_NVM (R181, R189, R190): the format with MSET in bit 4, secure erase setting 0, 1 or 2. -/
def execFormatNvm (cmd : CmdId) (nsid lbaf ses : Nat) (s : State) : Res := s.ioCtrl cmd (fun s => s.routeAdmin cmd (.format nsid lbaf ses))

/-- SANITIZE (R176, R189, R190): action 4 is Crypto Erase; the others are refused. -/
def execSanitize (cmd : CmdId) (action : Nat) (s : State) : Res :=
  s.pfOnly cmd (fun s => if action = 4 then s.routeAdmin cmd .sanitizeCrypto else s.finish cmd nvField)

/-- ADMIN_FWD (R189): the manager receives a forwarded command. -/
def execAdminFwd (cmd : CmdId) (op : AdminOp) (s : State) : Res :=
  onSeam s (.adminFwd cmd op) State.isManager (fun s => s.doAdmin cmd op true)

/-! ### Features (R186) -/

/-- Features the part has. Features of endurance groups, NVM sets and predictable latency are refused (R186); the list of the others
is NVMe 2.0's: PRESUMED (log 53). -/
def featureIds : List Nat := [0x01, 0x02, 0x04, 0x05, 0x07, 0x08, 0x09, 0x0A, 0x0B, 0x0C, 0x0F, 0x16, 0x81, 0x82, 0x83]

/-- The current value of a feature, and its data. -/
def State.featNow (s : State) (c fid nsid : Nat) : Nat × Bytes :=
  let k := s.ctrl c
  if fid = 0x02 then (k.ps, [])
  else if fid = 0x07 then ((k.allocated - 1) * 65536 + (k.allocated - 1), [])
  else if fid = 0x0C then (SMap.getD k.feats 0x0C (Config.featDefault 0x0C), le 256 (SMap.getD k.feats 0x10C 0))
  else if fid = 0x0F then (k.kato, [])
  else if fid = 0x81 then (0, le 16 k.hostId)
  else if fid = 0x83 then ((match s.ns nsid with | some n => b2n n.resv.ptpl | none => 0), [])
  else if fid = 0x16 then (0, le 512 (SMap.getD k.feats 0x16 0))
  else (SMap.getD k.feats fid (Config.featDefault fid), [])

/-- GET_FEATURES (R186): current, default, saved values and capabilities; what the manual does not give is open (log 6). -/
def execGetFeatures (cmd : CmdId) (fid nsid sel : Nat) (s : State) : Res :=
  s.fetchAdmin cmd (fun s =>
    if !featureIds.contains fid ∨ 3 < sel then s.finish cmd nvField
    else if sel = 0 then
      let v := s.featNow cmd.cntlid fid nsid
      s.post ⟨cmd, nvOk, v.1, v.2⟩
    else if sel = 3 then let f := s.takeFree; f.2.post ⟨cmd, nvOk, f.1 % 8, []⟩
    else s.post ⟨cmd, nvOk, (if fid = 0x02 then 0 else Config.featDefault fid), []⟩)

/-- Set a feature. The persistence of a namespace's reservation (83h) goes to the owner as a reservation change of the model's own action 7, so
that it is recorded (R192, log 89). -/
def State.setFeature (s : State) (cmd : CmdId) (fid nsid value : Nat) (data : Bytes) : State :=
  let k := s.ctrl cmd.cntlid
  let put := fun (k1 : Ctrl) => State.finish (s.setCtrl cmd.cntlid k1) cmd nvOk
  if !featureIds.contains fid then s.finish cmd nvField
  else if fid = 0x02 then
    let p := value % 32
    if 2 < p then s.finish cmd nvField else put { k with ps := p, psOp := if p ≤ 1 then p else k.psOp }
  else if fid = 0x07 then s.setQueueCount cmd (value % 65536) (value / 65536 % 65536)
  else if fid = 0x0C then put { k with feats := SMap.set (SMap.set k.feats 0x0C (value % 2)) 0x10C (leNat (padTo 256 data)) }
  else if fid = 0x0F then put { k with kato := (value + 99) / 100 * 100, kaAt := s.time.t }
  else if fid = 0x16 then put { k with feats := SMap.set k.feats 0x16 (leNat (padTo 512 data)) }
  else if fid = 0x81 then put { k with hostId := leNat (data.take 16) }
  else if fid = 0x83 then
    (match s.ns nsid with
     | none => s.finish cmd nvNs
     | some n => s.writeOr cmd n false none (.resv nsid 7 (value % 2) 0 0) [])
  else if fid = 0x04 then put { k with feats := SMap.set k.feats (if value / 2 ^ 20 % 4 = 1 then 0x104 else 0x04) value }
  else put { k with feats := SMap.set k.feats fid value }

/-- SET_FEATURES (R186, R195): a power state takes effect at an epoch boundary. -/
def execSetFeatures (cmd : CmdId) (fid nsid value : Nat) (data : Bytes) (s : State) : Res :=
  s.fetchAdmin cmd (fun s => s.setFeature cmd fid nsid value data)

/-- ASYNC_EVENT_REQUEST (R186, R556): at most 16 outstanding (AERL 15); a notice that waits is sent at once. -/
def execAsyncEventRequest (cmd : CmdId) (s : State) : Res :=
  s.fetchAdmin cmd (fun s =>
    let k := s.ctrl cmd.cntlid
    if 16 ≤ k.aers.length then s.finish cmd nvAerLimit
    else match k.notices.find? (fun v => !k.masked.contains v) with
      | none => s.setCtrl cmd.cntlid { k with aers := k.aers ++ [cmd] }
      | some v =>
        State.post (s.setCtrl cmd.cntlid { k with notices := k.notices.filter (· != v), masked := k.masked ++ [v] }) ⟨cmd, nvOk, v, []⟩)

/-! ### Self-test (R193, R194) -/

/-- Device Self-test in Progress (R205). -/
def nvTestRuns : NvmeSt := ⟨1, 0x1D, true⟩

/-- Start a test: at most one runs per head. -/
def State.startTest (s : State) (cmd : CmdId) (code nsid : Nat) : State :=
  if s.nvme.test.isSome then s.finish cmd nvTestRuns
  else if nsid ≠ 0 ∧ nsid ≠ 0xFFFFFFFF ∧ !SMap.has s.nvme.ns nsid then s.finish cmd nvNs
  else State.finish { s with nvme := { s.nvme with test := some { code := code, nsid := nsid, cntlid := cmd.cntlid } } } cmd nvOk

/-- DEVICE_SELF_TEST_SHORT (R193): code 1. -/
def execDeviceSelfTestShort (cmd : CmdId) (nsid : Nat) (s : State) : Res := s.ioCtrl cmd (fun s => s.startTest cmd 1 nsid)

/-- DEVICE_SELF_TEST_EXTENDED (R193): code 2. -/
def execDeviceSelfTestExtended (cmd : CmdId) (nsid : Nat) (s : State) : Res := s.ioCtrl cmd (fun s => s.startTest cmd 2 nsid)

/-- The running test ends with a result (R193, R194): 0 passed, 1 aborted by command, 2 aborted by a Controller Level Reset, others
failures as NVMe numbers them. -/
def State.endTest (s : State) (result : Nat) : State :=
  match s.nvme.test with
  | none => s
  | some t => { s with nvme := { s.nvme with test := none, testLog := ((t.code, result) :: s.nvme.testLog).take 20 } }

/-- DEVICE_SELF_TEST_ABORT (R193): code 0xF. -/
def execDeviceSelfTestAbort (cmd : CmdId) (s : State) : Res := s.ioCtrl cmd (fun s => (s.endTest 1).finish cmd nvOk)

/-- What a self-test reads back of the Hem (R193): a unit of the directory or of a checkpoint whose CRC does not match. -/
def State.readBackBad (s : State) : Bool :=
  (SMap.keys s.hem.badCrc).any (fun u => s.unitBad u && (s.recsAt u).any (fun r =>
    match r with
    | .dir _ => true
    | .ckpt _ _ _ => true
    | .powerFail | .ledger | .batch _ _ | .sif _ | .bundle _ | .lease _ | .intent _ | .plb _ | .ftlHead | .ftl _ | .unit _ _ => false))

/-- Phase 0 (R194): a running test posts work in an epoch in which no command fetched by this head awaits admission: none waits here, and the
owner has answered every one sent to it (log 90). The descriptors it posts go to the ends of their rings and change nothing but its result; the
first of its epochs reads the Hem back. -/
def State.testStep (s : State) : State :=
  match s.nvme.test with
  | none => s
  | some t =>
    let waits := (s.head.st0.waiting ++ s.head.st1.waiting).any (fun w => !w.fromPeer) || !s.nvme.fwd.isEmpty
    if waits then s else { s with nvme := { s.nvme with test := some { t with
      posted := t.posted + 1, bad := if t.posted = 0 then s.readBackBad else t.bad } } }

/-- A test whose work is complete (R193, R194): it has posted work. `r` is what the engines and the check-field reads showed; where they showed
nothing, a bad unit of the Hem is a failed segment that is not known, as NVMe numbers it (log 90). -/
def State.testDone (s : State) (r : Nat) : State :=
  match s.nvme.test with
  | none => s
  | some t => if t.posted = 0 then s else s.endTest (if r = 0 ∧ t.bad then 6 else r)

/-! ### Power states (R195, R196) -/

/-- The effective power state: the lowest requested by an enabled controller; PS0 where none is (log 54). -/
def State.psEffective (s : State) : Nat :=
  match (s.nvme.ctrls.filter (·.2.en)).map (·.2.ps) with
  | [] => 0
  | p :: ps => ps.foldl min p

/-- A command is held by the power state (R196): a host's or the peer's, a read, or a manager's command that needs keys; or a domain's keys wait
(R313). -/
def State.psHolds (s : State) : Bool :=
  !s.head.st0.waiting.isEmpty || !s.head.st1.waiting.isEmpty || s.head.reads.any (·.held) || s.nvme.adminWait.any (·.epn.isNone)
    || !s.cipher.keyWait.isEmpty || s.repl.wantKeys.isSome

/-- The state to go to: out of PS2 while a command is held. R196 names no target: PS0, DESIGN CHOICE (log 111). -/
def State.psWanted (s : State) : Nat :=
  let e := s.psEffective
  if s.psHolds && decide (1 < e) then 0 else e

/-- A latency in µs as whole epochs. -/
def State.epochsOf (s : State) (us : Nat) : Nat := (us * 100 + s.epochLen - 1) / max s.epochLen 1

/-- Phase 0: an entry or an exit begins where the state wanted differs (R195): entry 100 µs to PS1, 400 µs to PS2; exit 100 µs from PS1,
600 µs from PS2. -/
def State.psStep (s : State) : State :=
  let want := s.psWanted
  let cur := s.nvme.psCur
  if s.nvme.psMove != .none || want == cur then s
  else
    let m : PsMove := if cur < want then .entry want (s.epn + s.epochsOf (if want = 1 then 100 else 400))
      else .exit want (s.epn + s.epochsOf (if cur = 1 then 100 else 600))
    { s with nvme := { s.nvme with psMove := m } }

/-- The head is in a power state now. -/
def State.psReached (s : State) (p : Nat) : State :=
  State.event { s with nvme := { s.nvme with psCur := p, psMove := .none } } EV_NVME_PS_CHANGE 0

/-- What follows the end of an entry or exit (R195, R196): at phase 0 the next change begins at once; within an epoch the boundary begins it. -/
def State.psNext (s : State) : State := if s.phase = 0 then s.psStep else s

/-- POWER_STATE_ENTRY_DONE (R195, R196, R312): a held command starts the exit at this boundary, or at the next one. -/
def execPowerStateEntryDone (s : State) : Res :=
  .next (match s.nvme.psMove with
    | .entry t e =>
      if s.headUp && decide (e ≤ s.epn) then
        let s1 := if t = 2 then s.enterPs2 else s
        (s1.psReached t).psNext
      else s
    | .exit _ _ => s
    | .none => s)

/-- POWER_STATE_EXIT_DONE (R195, R196, R257, R308, R312, R313): keys first, then what was held. -/
def execPowerStateExitDone (s : State) : Res :=
  .next (match s.nvme.psMove with
    | .exit t e =>
      if s.headUp && decide (e ≤ s.epn) then
        let s1 := if s.nvme.psCur = 2 then s.leavePs2 else s
        (((s1.psReached t).beginHeld).makeWaitingKeys.takeHeldAdmin).psNext
      else s
    | .entry _ _ => s
    | .none => s)

/-- Idle Transition Power State of an APST table for a power state, where the table has one (NVMe). -/
def apstTarget (table ps : Nat) : Option Nat :=
  let e := table / 2 ^ (64 * ps) % 2 ^ 64
  let t := e / 8 % 32
  if t = 0 ∨ 2 < t ∨ e / 256 % 2 ^ 24 = 0 then none else some t

/-- APST_IDLE_TIMEOUT (R195): an idle controller's idle time passes, and it requests the state its table names. -/
def execApstIdleTimeout (cntlid : Nat) (s : State) : Res :=
  let k := s.ctrl cntlid
  .next (match apstTarget (SMap.getD k.feats 0x10C 0) k.ps with
    | some t => if s.headUp && k.en && SMap.getD k.feats 0x0C 0 == 1 then s.setCtrl cntlid { k with ps := t } else s
    | none => s)

end Sys2Proof.Machine
end

