-- ==== Sys2Proof/Machine/NvmeFw.lean ====
section
/-! DEFINITION. Identify (R174, R175, R186 to R191, R195, R197, R198) and firmware download and commit (R197 to R199). -/

namespace Sys2Proof.Machine

/-! ### Identify -/

/-- A power state descriptor (R195): maximum power in hundredths of a watt, non-operational, latencies in µs where given. -/
def psd (p : Nat) : List (Nat × Bytes) :=
  let o := 2048 + 32 * p
  if p = 0 then [(o, le 2 34000), (o + 3, le 1 0)]
  else if p = 1 then [(o, le 2 27000), (o + 3, le 1 0 ++ le 4 100 ++ le 4 100)]
  else [(o, le 2 24000), (o + 3, le 1 2 ++ le 4 400 ++ le 4 600)]

/-- In-capsule data accepted over RDMA (R181); larger data moves by RDMA Read and Write. -/
def inCapsule : Nat := 8192

/-- Identify Controller: the fields the manual gives, at their NVMe 2.0 places; the rest is open (log 6). CTRATT tells 128-bit host
identifiers and extended LBA formats; ACWU holds for every namespace, so it is one block; OACS, ONCS, LPA and ELPE follow from the commands and
pages of R185, R186 and R202, CMIC from R175 and R191, ANACAP from R191, FNA from R190 (log 91). -/
def State.idCtrl (s : State) (c : Nat) : Bytes × State :=
  let sani := s.p p_nvme_sanitize_enable
  s.openPage 4096 ([(0, le 2 0x1F7D), (64, padTo 8 s.boot.fwVersion), (76, le 1 (if s.ctrlKind c = .vf then 15 else 11) ++ le 1 8 ++ le 2 c ++ le 4 0x20000), (92, le 4 0x900 ++ le 4 0x8001),
    (111, le 1 (if s.ctrlKind c = .discovery then 2 else 1)), (256, le 2 0x1E), (259, le 1 15 ++ le 1 4 ++ le 1 4 ++ le 1 63), (263, le 1 2), (265, le 1 1), (316, le 2 15),
    (319, le 1 1 ++ le 2 1), (328, le 4 sani), (338, zeros 4 ++ le 1 10 ++ le 1 0x5F), (344, le 4 2 ++ le 4 2), (516, le 4 16384 ++ le 2 0x1AD ++ le 2 1 ++ le 1 0x0C), (525, le 1 0),
    (532, le 2 0 ++ le 2 5), (540, le 4 16384), (768, s.subnqn 256)]
    ++ (if (s.ctrlKind c).fabric then [(1792, le 4 ((64 + inCapsule) / 16) ++ le 4 1)] else []) ++ psd 0 ++ psd 1 ++ psd 2)

/-- The four LBA formats of R187: metadata size and data size exponent. -/
def lbafBytes : Bytes := le 4 (12 * 65536) ++ le 4 (8 + 12 * 65536) ++ le 4 (16 + 12 * 65536) ++ le 4 (9 * 65536)

/-- Identify Namespace (R185, R187, R189, R191, R192): NUSE in blocks of mapped chunks; NSFEAT tells thin provisioning and that NACWU is the
namespace's own. Over RDMA the metadata is part of an extended LBA, over PCIe where the format says so (R181).
DPC tells Type 1 in the last bytes of the metadata; DLFEAT that deallocated blocks read as zeros with the guard of zeros, and DEAC (R185, R330). MSSRL has 16 bits and cannot hold 65,536: it is open (log 91). -/
def State.idNs (s : State) (c nsid : Nat) (n : Ns) : Bytes × State :=
  let used := min n.nsze (s.nuse nsid * s.nsChunk n / lbaBytes n.lbaf)
  let acwu := s.nsChunk n / lbaBytes n.lbaf - 1
  s.openPage 4096 [(0, le 8 n.nsze ++ le 8 n.nsze ++ le 8 used ++ le 1 3 ++ le 1 3
      ++ le 1 (n.lbaf + if ((s.ctrlKind c).fabric || n.ext) && hasPi n.lbaf then 16 else 0) ++ le 1 3 ++ le 1 0x11),
    (29, le 1 (b2n (hasPi n.lbaf)) ++ le 1 1 ++ le 1 0x7F), (33, le 1 0x19), (38, le 2 acwu), (76, le 4 1048576 ++ le 1 127),
    (92, le 4 (s.nsStream nsid + 1)), (128, lbafBytes)]

/-- A namespace page for an identifier; an absent one reads as zeros. -/
def State.idNsOr (s : State) (c nsid : Nat) (here : Ns → Bool) : Bytes × State :=
  match s.ns nsid with
  | some n => if here n then s.idNs c nsid n else (zeros 4096, s)
  | none => (zeros 4096, s)

/-- A list of namespace identifiers above one, ascending, at most 1,024. -/
def State.nsList (s : State) (above : Nat) (p : Ns → Bool) : Bytes :=
  let ids := (s.nvme.ns.filter (fun e => decide (above < e.1) && p e.2)).map (·.1)
  padTo 4096 ((ids.take 1024).flatMap (le 4))

/-- A controller list from an identifier on. -/
def ctrlList (ids : List Nat) (first : Nat) : Bytes :=
  let l := ((ids.filter (fun c => decide (first ≤ c))).foldl insNat []).take 2047
  padTo 4096 (le 2 l.length ++ l.flatMap (le 2))

/-- Controllers of the subsystem: this head's, and the other's physical function and RDMA controllers, which are laid out alike
(R175, log 52). -/
def State.subsysCtrls (s : State) : List Nat :=
  let rdma := fun (b : Nat) => (List.range (s.p p_nvme_rdma_ctrls)).map (· + b + 0x11)
  let other := 0x800 * s.peerSite
  s.hpCtrls ++ rdma s.ctrlBase ++ [other + 1] ++ rdma other

/-- Identify Namespace of the NVM Command Set: the extended formats, of which format 2 has the 64b Guard (R187). -/
def State.idNvmNs (s : State) (nsid : Nat) : Bytes × State :=
  if SMap.has s.nvme.ns nsid then s.openPage 4096 [(12, zeros 8 ++ le 4 256 ++ zeros 4)] else (zeros 4096, s)

/-- Identify Namespace that no command set owns: sharing, reservations, the ANA group, ready. -/
def State.idAnyNs (s : State) (nsid : Nat) : Bytes × State :=
  if SMap.has s.nvme.ns nsid then
    s.openPage 4096 [(1, le 1 1 ++ le 1 0x7F), (4, le 4 (s.nsStream nsid + 1)), (10, zeros 4 ++ le 1 1)]
  else (zeros 4096, s)

/-- The Secondary Controller List: the virtual functions, those that the host enabled online (R178). -/
def State.idSecondary (s : State) (first : Nat) : Bytes :=
  let base := s.ctrlBase + 1
  let vfs := ((List.range (s.p p_pcie_total_vfs)).map (· + 1)).filter (fun i => decide (first ≤ base + i))
  padTo 4096 (le 1 vfs.length ++ zeros 31 ++ vfs.flatMap (fun i =>
    let on := decide (i ≤ s.nvme.numVfs)
    le 2 (base + i) ++ le 2 base ++ le 1 (b2n on) ++ zeros 3 ++ le 2 (if on then i else 0) ++ zeros 22))

/-- The page of a CNS value (R186), where NVMe 2.0 defines it for the NVM Command Set or for namespace management; what no rule gives is
open (log 91). `cntid` is the controller identifier, and for a format's page the format's index. -/
def State.idPage (s : State) (c cns nsid cntid : Nat) : Option (Bytes × State) :=
  if cns = 0x00 then some (if nsid = 0xFFFFFFFF then s.openPage 4096 [(25, le 1 3), (128, lbafBytes)] else s.idNsOr c nsid (·.attached.contains c))
  else if cns = 0x01 then some (s.idCtrl c)
  else if cns = 0x02 ∨ cns = 0x07 then some (s.nsList nsid (·.attached.contains c), s)
  else if cns = 0x10 ∨ cns = 0x1A then some (s.nsList nsid (fun _ => true), s)
  else if cns = 0x05 ∨ cns = 0x1B then some (s.idNvmNs nsid)
  else if cns = 0x08 then some (s.idAnyNs nsid)
  else if cns = 0x09 then (if cntid ≤ 3 then some (s.openPage 4096 [(25, le 1 3), (128, lbafBytes)]) else none)
  else if cns = 0x0A then (if cntid ≤ 3 then some (s.openPage 4096 [(12, zeros 8 ++ le 4 256 ++ zeros 4)]) else none)
  else if cns = 0x11 then some (s.idNsOr c nsid (fun _ => true))
  else if cns = 0x12 then some (ctrlList (s.attachedTo nsid) cntid, s)
  else if cns = 0x13 then some (ctrlList s.subsysCtrls cntid, s)
  else if cns = 0x14 then some (s.openPage 4096 [(0, le 2 (s.ctrlBase + 1)), (4, le 1 0)])
  else if cns = 0x15 then some (s.idSecondary cntid, s)
  else if cns = 0x1C then some (le 8 1 ++ zeros 4088, s)
  else if cns = 0x03 then some (s.openPage 4096 [(0, [4, 1, 0, 0, 0])])
  else if cns = 0x06 then some (s.openPage 4096 [(0, le 1 0), (2, le 1 0 ++ le 1 0 ++ le 4 0 ++ le 8 0 ++ zeros 4080)])
  else if cns = 0x16 then some (s.openPage 4096 [(5, zeros 27), (288, zeros 3808)])
  else none

/-- IDENTIFY (R174, R186). -/
def execIdentify (cmd : CmdId) (cns nsid cntid : Nat) (s : State) : Res :=
  s.fetchAdmin cmd (fun s =>
    if s.ctrlKind cmd.cntlid = .discovery ∧ cns ≠ 1 then s.finish cmd nvField
    else if [0x03, 0x05, 0x08].contains cns && !SMap.has s.nvme.ns nsid then s.finish cmd nvNs
    else match s.idPage cmd.cntlid cns nsid cntid with
      | some (b, s1) => s1.post ⟨cmd, nvOk, 0, b⟩
      | none => s.finish cmd nvField)

/-! ### Firmware download (R198) -/

/-- Overlapping Range, Invalid Firmware Slot, Invalid Firmware Image, Firmware Activation Requires NVM Subsystem Reset (R205). -/
def nvOverlap : NvmeSt := ⟨1, 0x14, true⟩
def nvFwSlot : NvmeSt := ⟨1, 0x06, true⟩
def nvFwImage : NvmeSt := ⟨1, 0x07, true⟩
def nvFwReset : NvmeSt := ⟨1, 0x10, true⟩

/-- Bytes of the staging area (R198). -/
def stagingLen : Nat := 64 * 1048576

/-- Why a piece is refused: it overlaps, it reaches beyond the area, its granularity is wrong, or a piece that is no multiple of 4 KiB
is not the last. -/
def pieceStatus (pieces : List (Nat × Bytes)) (off : Nat) (data : Bytes) : Option NvmeSt :=
  let endAt := off + data.length
  if off % 4096 ≠ 0 ∨ data.isEmpty ∨ stagingLen < endAt then some nvField
  else if pieces.any (fun p => decide (off < p.1 + p.2.length ∧ p.1 < endAt)) then some nvOverlap
  else if pieces.any (fun p => decide (p.2.length % 4096 ≠ 0 ∧ p.1 < off) || decide (data.length % 4096 ≠ 0 ∧ off < p.1)) then some nvField
  else none

/-- FIRMWARE_IMAGE_DOWNLOAD (R176, R198). -/
def execFirmwareImageDownload (cmd : CmdId) (off : Nat) (data : Bytes) (s : State) : Res :=
  s.pfOnly cmd (fun s =>
    let other : Bool := match s.nvme.fwOwner with | some c => c != cmd.cntlid | none => false
    if other then s.finish cmd nvSeq
    else match pieceStatus s.nvme.fwPieces off data with
      | some st => s.finish cmd st
      | none =>
        State.finish { s with nvme := { s.nvme with fwOwner := some cmd.cntlid, fwPieces := s.nvme.fwPieces ++ [(off, data)] } } cmd nvOk)

/-! ### Firmware commit (R199) -/

/-- The image that pieces make, where they cover it from 0 on without a gap; `fuel` is their number. -/
def assemble (pieces : List (Nat × Bytes)) : Nat → Bytes → Bytes
  | 0, acc => acc
  | fuel + 1, acc =>
    match pieces.find? (fun p => p.1 == acc.length) with
    | some p => assemble pieces fuel (acc ++ p.2)
    | none => acc

/-- The checks of R199 on an image read through `rd`: R78, R79 where its schema revision is known, and for actions 1 and 2 a newer image
sequence. -/
def State.fwGood (s : State) (rd : Nat → Nat → Bytes) (action : Nat) : Bool :=
  let h := rd 0 256
  let blk := match (manifestOf rd h).find? (fun e => e.type == 0x10) with | some e => rd e.off e.len | none => []
  let rev := num blk 4 2
  imageStatus rd s.otp true == 0 && (!decide (1 ≤ rev ∧ rev ≤ 3) || (parseParams blk).isSome)
    && (action == 0 || decide (s.boot.imageSeq < num h 12 4))

/-- The slot a commit names: 0 is the one not booted (R199). -/
def State.fwTarget (s : State) (slot : Nat) : Option Copy :=
  let other := if s.boot.copy = .a then Copy.b else .a
  if slot = 0 then some other else if slot = 1 then some .a else if slot = 2 then some .b else none

/-- The staging area is its controller's until that controller's Commit (R198). -/
def State.fwRelease (s : State) (c : Nat) : State :=
  if s.nvme.fwOwner = some c then { s with nvme := { s.nvme with fwOwner := none, fwPieces := [] } } else s

/-- Firmware Commit (R199): what it answers, or the write it begins. While one is outstanding another is out of sequence (log 45). -/
def State.fwCommitDo (s : State) (cmd : CmdId) (action slot : Nat) : State :=
  if 2 < action then s.finish cmd nvField
  else if s.nvme.fwCommit.isSome then s.finish cmd nvSeq
  else match s.fwTarget slot with
    | none => s.finish cmd nvFwSlot
    | some c =>
      if c = s.boot.copy then s.finish cmd (if action = 2 then nvOk else nvFwSlot)
      else if action = 2 then s.finish cmd (if s.fwGood (copyRead s.nor c) 2 then nvFwReset else nvFwImage)
      else if s.nvme.fwOwner ≠ some cmd.cntlid then s.finish cmd (if s.nvme.fwOwner.isSome then nvSeq else nvFwImage)
      else
        let ps := s.nvme.fwPieces
        let img := assemble ps ps.length []
        let whole := ps.all (fun p => decide (p.1 + p.2.length ≤ img.length))
        if whole && s.fwGood (fun off len => sub img off len) action then
          { s with nvme := { s.nvme with fwCommit := some ⟨cmd, action, c, img⟩ } }
        else s.finish cmd nvFwImage

/-- Firmware Commit: its controller's staging area is free after it, whatever it answers (R198, R199). -/
def State.fwCommitAct (s : State) (cmd : CmdId) (action slot : Nat) : State := (s.fwCommitDo cmd action slot).fwRelease cmd.cntlid

/-- FW_COMMIT_REPLACE (R199): action 000; `action` lets a host name an action that no other command of the table has. -/
def execFwCommitReplace (cmd : CmdId) (slot action : Nat) (s : State) : Res := s.pfOnly cmd (fun s => s.fwCommitAct cmd action slot)

/-- FW_COMMIT_REPLACE_ACTIVATE (R199): action 001. -/
def execFwCommitReplaceActivate (cmd : CmdId) (slot : Nat) (s : State) : Res := s.pfOnly cmd (fun s => s.fwCommitAct cmd 1 slot)

/-- FW_COMMIT_ACTIVATE (R199): action 010. -/
def execFwCommitActivate (cmd : CmdId) (slot : Nat) (s : State) : Res := s.pfOnly cmd (fun s => s.fwCommitAct cmd 2 slot)

/-- A copy written with an image: erased, then programmed (R66). -/
def writeCopy (nor : Mem) (c : Copy) (img : Bytes) : Mem := norWrite (norErase nor (copyBase c) copyLen) (copyBase c) (img.take copyLen)

/-- FW_SLOT_WRITE_DONE (R199, R207). -/
def execFwSlotWriteDone (s : State) : Res :=
  .next (match s.nvme.fwCommit with
    | none => s
    | some f =>
      if s.fw && s.isHead then
        let s1 := { s with nor := writeCopy s.nor f.slot f.img, nvme := { s.nvme with fwCommit := none } }
        (s1.event EV_NVME_FW_COMMITTED 0).finish f.cmd (if f.action = 0 then nvOk else nvFwReset)
      else s)

end Sys2Proof.Machine
end

