-- ==== Sys2Proof/Machine/Passes.lean ====
section
/-! DEFINITION. The passes of a head over its stripes: Darning and evacuation (R363 to R368), Refold (R369 to R374), Rinse (R375,
R376), the checkpoint window (R52). What a pass reads from shelves comes with its step (log 55). -/

namespace Sys2Proof.Machine

/-! ### Sectors of a strip (R346) -/

/-- The part of the payload area in sector `o`: first byte and length; sector 0 begins with the header. -/
def payloadPart (o : Nat) : Nat × Nat := if o = 0 then (0, 3840) else (4096 * o - 256, 4096)

/-- Members whose sector `o` can be used: an EMPTY data strip counts as zeros, a MISSING one does not. -/
def StripeRec.usable (r : StripeRec) (reads : List StripRead) (o : Nat) : List Nat :=
  (List.range (r.k + r.m)).filter (fun i =>
    !bit r.missing i && ((decide (i < r.k) && bit r.empty i) || reads.any (fun x => x.1 == i && !x.2.1.getLsbD o)))

/-- A member's bytes of a part of the payload area. -/
def partBytes (reads : List StripRead) (i off len : Nat) : Bytes :=
  match reads.find? (·.1 == i) with
  | some x => padTo len (sub x.2.2 off len)
  | none => zeros len

/-- Rebuild a member's payload area sector by sector from the k lowest-indexed usable members (R358, R364). -/
def StripeRec.rebuild (r : StripeRec) (reads : List StripRead) (member : Nat) : Bytes :=
  (List.range 16).flatMap (fun o =>
    let p := payloadPart o
    let used := ((r.usable reads o).filter (· != member)).take r.k
    memberFrom r.k p.2 used (used.map (fun i => partBytes reads i p.1 p.2)) member)

/-- Sectors of data strips that cannot be recovered, as member x 16 + sector: fewer than k members are usable there (R367). -/
def StripeRec.gone (r : StripeRec) (reads : List StripRead) : List Nat :=
  (List.range 16).flatMap (fun o =>
    let ok := r.usable reads o
    if r.k ≤ ok.length then [] else ((List.range r.k).filter (fun i => !ok.contains i)).map (fun i => 16 * i + o))

/-- Send a whole strip by this head alone (R364, R370, R376), its header from the stripe record (R348). -/
def State.sendStrip (s : State) (id member site : Nat) (r : StripeRec) (rebuilt : Bool) (payload : Bytes) : State :=
  let i := streamOf id
  let h := r.header id member (r.used.getD member 0) rebuilt
  s.toShelf site (s.tagged .parity i r.closeEpn (stripItem id member) true (.stripWrite h payload))

/-- Record a stripe as LOST, once (R367). -/
def State.recordLost (s : State) (id : Nat) (sectors : List Nat) : State :=
  let i := streamOf id
  let st := s.stream i
  if st.sealQueue.any (fun x => match x with | .manager (.lost k _) => k == id | _ => false) then s
  else s.setStream i { st with sealQueue := st.sealQueue ++ [.manager (.lost id sectors)] }

/-! ### Darning (R363 to R366) -/

/-- Darning of a stream. -/
def State.darn (s : State) (i : Nat) : DarnSt := if i = 0 then s.head.darn0 else s.head.darn1

/-- Store it. -/
def State.setDarn (s : State) (i : Nat) (d : DarnSt) : State :=
  if i = 0 then { s with head := { s.head with darn0 := d } } else { s with head := { s.head with darn1 := d } }

/-- Members of a stripe under way to a new site: stripe, member, site. -/
def DarnSt.moving (d : DarnSt) : List (Nat × Nat × Nat) := d.waiting ++ d.acked

/-- Members of a stripe to rebuild, or else to copy off read-only shelves (R364, R368), that are not under way. -/
def State.darnMembers (s : State) (i id : Nat) (r : StripeRec) : List Nat :=
  let waits := (s.darn i).moving
  let free := fun (m : Nat) => !waits.any (fun w => w.1 == id && w.2.1 == m)
  if r.missing != 0 then (List.range (r.k + r.m)).filter (fun m => bit r.missing m && free m)
  else (List.range (r.k + r.m)).filter (fun m => (s.shelf (r.site m)).readOnly && !(decide (m < r.k) && bit r.empty m) && free m)

/-- Members MISSING. -/
def StripeRec.lacks (r : StripeRec) : Nat := ((List.range (r.k + r.m)).filter (bit r.missing)).length

/-- The tier of a stripe (R364, R368): metadata before data, more MISSING members before fewer, and so for evacuation, after them. -/
def StripeRec.tier (r : StripeRec) : Nat := (if r.missing = 0 then 64 else 0) + (if r.isMeta then 0 else 32) + (24 - r.lacks)

/-- Stripes with work for Darning: closed, not lost, not skipped. -/
def State.darnWork (s : State) (i : Nat) : List (Nat × StripeRec) :=
  s.head.md.stripes.filter (fun e =>
    e.2.state == 2 && streamOf e.1 == i && !(s.darn i).skipped.contains e.1 && !(s.darnMembers i e.1 e.2).isEmpty)

/-- The stripe of the highest tier that comes first (R364). -/
def State.darnNext (s : State) (i : Nat) : Option (Nat × StripeRec) :=
  match s.darnWork i with
  | [] => none
  | e :: es => some (es.foldl (fun a b => if b.2.tier < a.2.tier then b else a) e)

/-- The spare set (R363); where no FAIL has recorded one, the accepting shelves in site order (R368): DEDUCED (log 116). -/
def State.spareSet (s : State) : List Nat := if s.head.md.spares.isEmpty then s.sites.filter s.accepts else s.head.md.spares

/-- The target of a member (R363): the first shelf of the spare set, from position (STRIPE_ID + i), that is not a member and has free
space; nor one that another member of the stripe is on its way to (R345). -/
def State.darnTarget (s : State) (id member : Nat) (r : StripeRec) : Option Nat :=
  let l := s.spareSet
  let at' := (id + member) % max l.length 1
  let taken := (s.darn (streamOf id)).moving.any
  (l.drop at' ++ l.take at').find? (fun x => !r.sites.contains x && !taken (fun w => w.1 == id && w.2.2 == x) && !s.isFailed x
    && decide (0 < (s.shelf x).free) && !(s.shelf x).readOnly)

/-- DARNING_REBUILD_STRIP (R363 to R368): the next member of a stripe is rebuilt from what the others read, or copied off a read-only
shelf, and written to its target; an EMPTY one is only recorded there, since it is not written (R348). -/
def execDarningRebuildStrip (i : Fin 2) (reads : List StripRead) (s : State) : Res :=
  .next (match (if s.headUp && (s.stream i).mine && decide (0 < s.p p_darn_rate_gbps) then s.darnNext i else none) with
    | none => s
    | some (id, r) =>
      match s.darnMembers i id r with
      | [] => s
      | m :: _ =>
        let d := s.darn i
        let lost := r.gone reads
        let empty := decide (m < r.k) && bit r.empty m
        if r.missing != 0 && !empty && !lost.isEmpty then (s.recordLost id lost).setDarn i { d with skipped := d.skipped ++ [id] }
        else match s.darnTarget id m r with
          | none =>
            let s1 := s.setDarn i { d with skipped := d.skipped ++ [id], noSpare := insNat d.noSpare id }
            State.alarm { s1 with head := { s1.head with waitingSpare := true } } AL_STRIPE_NO_SPARE 0
          | some site =>
            let s1 := s.setDarn i { d with cursor := id, tier := r.tier, moved := true }
            if empty then s1.recordMember id m site
            else
              let payload := if r.missing != 0 then r.rebuild reads m else partBytes reads m 0 65280
              (s1.setDarn i { s1.darn i with waiting := d.waiting ++ [(id, m, site)] }).sendStrip id m site r true payload)

/-- A closed stripe that Darning skipped can go on: some member of it has a target now (R366). -/
def State.canDarn (s : State) (i id : Nat) : Bool :=
  match s.head.md.stripe id with
  | some r => r.state == 2 && (s.darnMembers i id r).any (fun m => (s.darnTarget id m r).isSome)
  | none => false

/-- A closed stripe still has a member to place, or one under way. -/
def State.unplaced (s : State) (i id : Nat) : Bool :=
  match s.head.md.stripe id with
  | some r => r.state == 2 && (!(s.darnMembers i id r).isEmpty || (s.darn i).moving.any (·.1 == id))
  | none => false

/-- Phase 0: skipped stripes of a stream for which a shelf now has room are tried again (R366). -/
def State.darnRetry (s : State) (i : Nat) : State :=
  let d := s.darn i
  s.setDarn i { d with skipped := d.skipped.filter (fun id => !s.canDarn i id), noSpare := d.noSpare.filter (s.unplaced i) }

/-- Members of the own streams' open stripes whose shelf failed or went read-only without a replacement yet (R356): stripe, site. -/
def State.unreplaced (s : State) : List (Nat × Nat) :=
  (s.head.md.stripes.filter (fun e => e.2.state == 1 && !e.2.isTarget && (s.stream (streamOf e.1)).mine)).flatMap (fun e =>
    (e.2.sites.filter (fun x => s.isFailed x || (s.shelf x).readOnly)).map (fun x => (e.1, x)))

/-- Phase 0: Darning is done once no member is MISSING (R365); where a shelf now has room, skipped stripes and open stripes are tried again
(R356, R366); the alarms of R381 follow their conditions. -/
def State.darnCheck (s : State) : State :=
  let done := s.ev.isRaised AL_STRIPE_DEGRADED 0 && s.head.md.whole
  let s1 := (if done then s.event EV_STRIPE_DARN_DONE 0 else s).followAlarm AL_STRIPE_DEGRADED (!s.head.md.whole)
  let s2 := s1.followAlarm AL_STRIPE_LOST (s1.head.md.stripes.any (fun e => e.2.state == 3))
  let s3 := s2.unreplaced.foldl (fun acc x => acc.replaceMember x.1 x.2) s2
  let s4 := (s3.darnRetry 0).darnRetry 1
  let wants := !(s4.darn 0).noSpare.isEmpty || !(s4.darn 1).noSpare.isEmpty || !s4.unreplaced.isEmpty
  let s5 := State.followAlarm { s4 with head := { s4.head with waitingSpare := wants } } AL_STRIPE_NO_SPARE wants
  if s5.headUp then s5.fullCheck else s5

/-! ### Refold (R369 to R374) -/

/-- Refold of a stream. -/
def State.refold (s : State) (i : Nat) : RefoldSt := if i = 0 then s.head.refold0 else s.head.refold1

/-- Store it. -/
def State.setRefold (s : State) (i : Nat) (r : RefoldSt) : State :=
  if i = 0 then { s with head := { s.head with refold0 := r } } else { s with head := { s.head with refold1 := r } }

/-- Granules of live images, and granules used, of a data stripe (R349, R373). -/
def MetaSt.liveGranules (m : MetaSt) (id : Nat) : Nat := (m.liveIn id).foldl (fun a e => a + granules e.2.imageLen) 0

/-- Stripes for Refold in order (R370, R373): while a reshape runs those of an older generation, ascending; else LOST ones, then those
with too few live granules of the granules used. Compaction leaves metadata stripes, which hold no chunk image: DEDUCED (log 116). -/
def State.refoldWork (s : State) (i : Nat) : List Nat :=
  let m := s.head.md
  let mine := m.stripes.filter (fun e => streamOf e.1 == i && (e.2.state == 2 || e.2.state == 3))
  if m.refolding then (mine.filter (fun e => decide (e.2.layoutGen < m.layoutGen))).map (·.1)
  else
    let data := mine.filter (fun e => !e.2.isMeta)
    let thin := fun (e : Nat × StripeRec) => decide (m.liveGranules e.1 * 100 < s.p p_refold_compact_pct * e.2.used.foldl (· + ·) 0)
    ((data.filter (fun e => e.2.state == 3)) ++ data.filter (fun e => e.2.state == 2 && thin e)).map (·.1)

/-- Send a full target's members (R370): whole strips, single-sent; their acknowledgements are awaited. The close is sealed after them, so the headers'
CLOSE_EPN is the epoch of the writing, and the record's stays zero: DESIGN CHOICE (R348, R349, log 116). -/
def State.writeTarget (s : State) (i id : Nat) : State :=
  match s.head.md.stripe id with
  | none => s
  | some r0 =>
    let f := s.refold i
    let strips := (List.range r0.k).map (fun x => (f.packed.filter (·.1 == x)).map (·.2.2.2))
    let empty := ((List.range r0.k).filter (fun x => (strips.getD x []).isEmpty)).foldl (fun a x => a + 2 ^ x) 0
    let r1 := { r0 with
      empty := empty, kept := (List.range r0.k).map (fun x => (f.packed.filter (·.1 == x)).map (·.2.2.1))
      used := strips.map (fun l => l.foldl (fun a b => a + granules b.length) 0) }
    let r := { r1 with closeEpn := s.epn }
    let payloads := strips.map packed
    let members := (List.range (r.k + r.m)).filter (fun x => !(decide (x < r.k) && bit empty x))
    let s1 := members.foldl (fun (acc : State) (x : Nat) =>
      acc.sendStrip id x (r.site x) r false (if x < r.k then payloads.getD x [] else parityOf r.k 65280 (x - r.k) payloads))
      (s.setMd (s.head.md.setStripe id r1 s.epn))
    s1.setRefold i { f with target := none, packed := [], writing := f.writing ++ [(id, members)] }

/-- Put an image into the stream's target, opening one where there is none (R370). -/
def State.packImage (s : State) (i id : Nat) (img : Bytes) : State :=
  let s0 := match (s.refold i).target with
    | some _ => s
    | none => match s.newStripe i 8 with
      | some (t, s1) => s1.setRefold i { s1.refold i with target := some t, packed := [] }
      | none => s
  match (s0.refold i).target with
  | none => s0
  | some t =>
    match s0.head.md.stripe t with
    | none => s0
    | some r =>
      match r.room img.length with
      | none => s0
      | some x =>
        let s1 := s0.notePlace t (id, id, x, r.next x, img.length)
        let f := s1.refold i
        let from' := match s1.head.md.chunk id with | some c => c.stripeId | none => 0
        let s2 := s1.setRefold i { f with packed := f.packed ++ [(x, r.next x, id, img)], origin := f.origin ++ [(id, from', none)] }
        match s2.head.md.stripe t with
        | some r1 => if s2.full t r1 then s2.writeTarget i t else s2
        | none => s2

/-- A chunk is being moved already. -/
def State.moving (s : State) (i id : Nat) : Bool :=
  let f := s.refold i
  f.packed.any (fun e => e.2.2.1 == id)
    || f.writing.any (fun w => match s.head.md.stripe w.1 with | some r => r.kept.any (·.contains id) | none => false)
    || (s.stream i).classWaiting.any (fun r => match r.2 with | .reloc c _ _ _ => c == id | _ => false)

/-- The stripe whose chunks Refold moves now (R370): the first in order with a live chunk that is not on its way. -/
def State.refoldNext (s : State) (i : Nat) : Option Nat :=
  (s.refoldWork i).find? (fun id => (s.head.md.liveIn id).any (fun e => !s.moving i e.1))

/-- REFOLD_RELOCATE (R370, R373): a chunk of the next stripe, with its image as read, goes into the target. -/
def execRefoldRelocate (i : Fin 2) (chunkId : Nat) (img : Bytes) (s : State) : Res :=
  .next (match (if s.headUp && (s.stream i).mine && decide (0 < s.p p_refold_rate_gbps) then s.refoldNext i else none) with
    | none => s
    | some id =>
      match s.head.md.chunk chunkId with
      | none => s
      | some c =>
        if c.stripeId == id && c.live && !c.lost && !c.pending && img.length == c.imageLen && !s.moving i chunkId then s.packImage i chunkId img
        else s)

/-- A chunk came from a stripe, as far as this head knows: of one moved before a takeover it does not. -/
def RefoldSt.cameFrom (f : RefoldSt) (id c : Nat) : Bool :=
  match f.origin.find? (·.1 == c) with
  | some o => o.2.1 == id
  | none => true

/-- A RELOC record of a stripe's chunks not yet flushed in a journal strip (R370). -/
def State.relocsOpen (s : State) (i id : Nat) : Bool :=
  let isReloc := fun (r : JRec) => match r with | .reloc c _ _ _ => (s.refold i).cameFrom id c | _ => false
  let h := s.ringHem i
  (s.stream i).classWaiting.any (fun r => isReloc r.2) || h.batches.any (fun b => decide (h.flushed < b.ringSeq) && b.recs.any isReloc)

/-- Seal the closes of targets whose members have all acknowledged, with a RELOC record per chunk (R370). -/
def State.closeTargets (s : State) (i : Nat) : State :=
  ((s.refold i).writing.filter (fun w => w.2.isEmpty)).foldl (fun acc w =>
    match acc.head.md.stripe w.1 with
    | none => acc
    | some r =>
      let st := acc.stream i
      let recs := r.placed.map (fun p => (2, JRec.reloc p.2.1 w.1 p.2.2.1 p.2.2.2.1))
      acc.setStream i { st with
        sealQueue := st.sealQueue ++ [.close ({ r with state := 2 : StripeRec }.head w.1) acc.epn r.kept], classRecs := st.classRecs ++ recs })
    (s.setRefold i { s.refold i with writing := (s.refold i).writing.filter (fun w => !w.2.isEmpty) })

/-- The peer has applied every RELOC record of a stripe's chunks (R336). -/
def State.relocsSeen (s : State) (i id : Nat) : Bool :=
  !s.peerUp || (s.refold i).origin.all (fun o => o.2.1 != id || (match o.2.2 with
    | some n => decide (n ≤ s.seam.peerReplayed.getD i 0)
    | none => true))

/-- A metadata stripe of an older generation has its pages written anew, with all that were dirty before (R349, R370): which pages those are.
DESIGN CHOICE (log 116): the spec moves live chunks and does not say what becomes of pages. -/
def State.metaAnew (s : State) (i id : Nat) (r : StripeRec) : State :=
  let f := s.refold i
  if (match f.metaAt with | some x => x.1 == id | none => false) then s
  else
    let keys := r.kept.flatten.filter (fun k => decide (1 ≤ k / 2 ^ 60 ∧ k / 2 ^ 60 ≠ 4))
    (s.setMd (keys.foldl (fun a k => a.touch (k / 2 ^ 60) (k % 2 ^ 60) s.epn) s.head.md)).setRefold i { f with metaAt := some (id, s.epn) }

/-- Those pages are written, and power-safe. -/
def State.metaMoved (s : State) (i id : Nat) : Bool :=
  (match (s.refold i).metaAt with
   | some x => x.1 == id && s.head.md.dirty.all (fun d => decide (x.2 < d.2))
   | none => false)
    && (s.head.sent ++ s.head.queue).all (fun x => !(x.frame.tag.cls == .metaPage && x.frame.tag.stream == i && !x.acked))

/-- Nothing of a stripe is needed any more (R336, R370): no live chunk lies in it, every RELOC record is flushed and the peer has applied them. -/
def State.refolded (s : State) (i id : Nat) (r : StripeRec) : Bool :=
  if r.isMeta then s.metaMoved i id else (s.head.md.liveIn id).isEmpty && !s.relocsOpen i id && s.relocsSeen i id

/-- Retire the first stripe in order once nothing of it is needed: its strips are discarded, and a reshape's boundary passes it (R336, R370). The
boundary is at most 256 stripes ahead of the newest durable checkpoint, and waits for the next (R371). -/
def State.retireNext (s0 : State) (i : Nat) : State :=
  match (s0.refoldWork i).head? with
  | none => s0
  | some id =>
    match s0.head.md.stripe id with
    | none => s0
    | some r =>
      let s := if r.isMeta then s0.metaAnew i id r else s0
      if !s.refolded i id r || (s.head.md.refolding && decide (256 ≤ (s.refold i).ahead)) then s
      else
        let m := s.head.md.setStripe id { r with state := 4 } s.epn
        let s1 := s.setMd { m with refoldDone := m.refoldDone + b2n m.refolding }
        let s2 := (List.range (r.k + r.m)).foldl (fun acc x =>
          acc.toShelf (r.site x) (acc.tagged .discard i acc.epn (stripItem id x) true (.discard (16 * id)))) s1
        let s3 := (r.sites.filter r.holds).foldl State.evacCheck s2
        let f := s3.refold i
        let f1 := { f with origin := f.origin.filter (fun o => o.2.1 != id), metaAt := if r.isMeta then none else f.metaAt }
        s3.setRefold i (if m.refolding then { f1 with boundary := id, ahead := f1.ahead + 1, moved := true } else f1)

/-- The layout that the parameters name differs from the one in force (R369, log 59). -/
def State.layoutMoved (s : State) : Bool :=
  let km := s.paramLayout
  match s.head.md.layout with
  | [k, m, retire, n] => decide (k ≠ km.1 ∨ m ≠ km.2 ∨ retire ≠ s.p p_refold_retire_from ∨ n ≠ s.nShelves)
  | _ => false

/-- Start a Refold (R360, R369): the new generation's layout. The spec does not say how the manager learns the values that the other head carries:
whether it carries them too is a free value, asked for at each boundary (log 59). -/
def State.startRefold (s : State) : State :=
  let km := s.paramLayout
  let params := MgrRec.refoldStart (s.head.md.layoutGen + 1) km.1 km.2 s.nShelves (s.p p_refold_retire_from)
  let c := if s.layoutMoved && s.peerUp then s.takeFree else (0, s)
  if c.1 % 2 = 1 then c.2.record params
  else if s.head.md.rebalance then
    c.2.record (match s.head.md.layout with
      | [k, m, retire, n] => .refoldStart (s.head.md.layoutGen + 1) k m n retire
      | _ => params)
  else c.2

/-- A manager record of a kind waits for the seal. -/
def State.queuedMgr (s : State) (p : MgrRec → Bool) : Bool :=
  (s.stream s.mgrStream).sealQueue.any (fun x => match x with | .manager r => p r | _ => false)

/-- Where Refold has added shelves, the manager moves ranges to them, one at a time (R267): the lowest range r for which r mod N names a new shelf
that does not hold it yet. Which ranges move is a DESIGN CHOICE (log 102). -/
def State.moveRange (s : State) : State :=
  let m := s.head.md
  if m.shardN = 0 ∨ s.nShelves ≤ m.shardN ∨ !m.moves.isEmpty ∨ s.queuedMgr (fun r => match r with | .shardMove _ _ => true | _ => false) then s
  else
    match (List.range 65536).find? (fun r =>
        let x := r % s.nShelves
        decide (m.shardN ≤ x) && s.rangeSite r != x && !s.isFailed x && !s.isAbsent x && !(s.shelf x).readOnly) with
    | some r => s.record (.shardMove r (r % s.nShelves))
    | none => s

/-- Once a Refold retires sites, the manager moves their ranges as those of a failed shelf (R267, R374). -/
def State.retireShards (s : State) : State :=
  let m := s.head.md
  let queued := s.queuedMgr (fun r => match r with | .shardMove _ _ => true | _ => false)
  if !m.refolding || !m.moves.isEmpty || queued then s
  else ((s.sites.filter (fun x => decide (s.retireFrom ≤ x))).find? (fun x => !(s.rangesAt x).isEmpty)).elim s s.moveShard

/-- An open target is to be written: `stripe.close_epochs` have passed, or a member is absent for a planned restart (R362, R370). -/
def State.targetDue (s : State) (i : Nat) : Bool :=
  match (s.refold i).target.bind s.head.md.stripe with
  | some r => !r.placed.isEmpty && (decide (r.openEpn + s.p p_stripe_close_epochs ≤ s.epn) || s.namesAbsent r)
  | none => false

/-- Phase 0: Refold of this head's streams, and the manager's REFOLD_START and REFOLD_DONE (R369, R374). -/
def State.refoldBoundary (s : State) : State :=
  let one := fun (acc : State) (i : Nat) =>
    if !(acc.stream i).mine then acc
    else
      let a1 := if acc.targetDue i then acc.writeTarget i ((acc.refold i).target.getD 0) else acc
      (a1.closeTargets i).retireNext i
  let s1 := one (one s 0) 1
  if !s1.isManager then s1
  else
    let starting := s1.queuedMgr (fun r => match r with | .refoldStart _ _ _ _ _ => true | _ => false)
    let s2 := if starting then s1 else s1.startRefold
    let ending := s2.queuedMgr (fun r => match r with | .refoldDone => true | _ => false)
    (if s2.head.md.refolding && s2.head.md.older.isEmpty && !ending && !starting then s2.record .refoldDone else s2).retireShards.moveRange

/-! ### Rinse (R375, R376) -/

/-- Rinse of a stream. -/
def State.rinse (s : State) (i : Nat) : RinseSt := if i = 0 then s.head.rinse0 else s.head.rinse1

/-- Store it. -/
def State.setRinse (s : State) (i : Nat) (r : RinseSt) : State :=
  if i = 0 then { s with head := { s.head with rinse0 := r } } else { s with head := { s.head with rinse1 := r } }

/-- Stripes that Rinse takes: closed, nothing MISSING, not ahead of a running Refold's boundary. -/
def State.rinseWork (s : State) (i : Nat) : List (Nat × StripeRec) :=
  let m := s.head.md
  m.stripes.filter (fun e => e.2.state == 2 && streamOf e.1 == i && e.2.missing == 0
    && !(m.refolding && decide (e.2.layoutGen < m.layoutGen ∧ (s.refold i).boundary < e.1)))

/-- The members of a list agree: all follow from the k lowest-indexed of them (R351). -/
def StripeRec.agree (r : StripeRec) (reads : List StripRead) (l : List Nat) : Bool :=
  let used := l.take r.k
  let bufs := used.map (fun i => partBytes reads i 0 65280)
  (l.drop r.k).all (fun i => memberFrom r.k 65280 used bufs i == partBytes reads i 0 65280)

/-- Rewrite a member in place (R376). -/
def State.rinseRewrite (s : State) (id member : Nat) (r : StripeRec) (payload : Bytes) : State :=
  let s1 := s.sendStrip id member (r.site member) r (bit r.rebuilt member) payload
  State.event { s1 with head := { s1.head with rinseRepairs := s1.head.rinseRepairs + 1 } } EV_STRIPE_RINSE_REPAIR 0

/-- A live chunk of a stripe whose image fails its checks (R334 steps 5 to 7, R376). -/
def State.badChunk (s : State) (reads : List StripRead) (e : Nat × ChunkRec) : Bool :=
  match s.plainOf e.2.domain e.1 e.2.raw (sub (partBytes reads e.2.strip 0 65280) (64 * e.2.granule) e.2.imageLen) with
  | some b => s.fingerprint e.2.domain b != e.2.fp
  | none => true

/-- What Rinse finds of a stripe, and does (R376). -/
def State.rinseStripe (s : State) (id : Nat) (r : StripeRec) (reads : List StripRead) : State :=
  let all := List.range (r.k + r.m)
  let broken := all.filter (fun i => !(decide (i < r.k) && bit r.empty i) && !(reads.any (fun x => x.1 == i && x.2.1 == 0)))
  let lost := r.gone reads
  if !lost.isEmpty then s.recordLost id lost
  else if !broken.isEmpty then broken.foldl (fun acc i => acc.rinseRewrite id i r (r.rebuild reads i)) s
  else if r.agree reads all then s
  else
    let one := all.filter (fun i => r.agree reads (all.filter (· != i)))
    match (if 2 ≤ r.m then one else []) with
    | [i] =>
      let used := (all.filter (· != i)).take r.k
      s.rinseRewrite id i r (memberFrom r.k 65280 used (used.map (fun x => partBytes reads x 0 65280)) i)
    | _ =>
      let bad := (s.head.md.liveIn id).filter (s.badChunk reads)
      let s1 := bad.foldl (fun acc e => acc.loseChunk e.1) s
      let data := (List.range r.k).map (fun i => partBytes reads i 0 65280)
      let s2 := (List.range r.m).foldl (fun acc j => acc.sendStrip id (r.k + j) (r.site (r.k + j)) r (bit r.rebuilt (r.k + j)) (parityOf r.k 65280 j data)) s1
      State.alarm { s2 with head := { s2.head with rinseUnresolved := s2.head.rinseUnresolved + 1 } } AL_STRIPE_RINSE_UNRESOLVED 0

/-- RINSE_SLICE (R52, R375, R376): the next stripe of a stream in ascending STRIPE_ID; past the last one a new cycle begins. -/
def execRinseSlice (i : Fin 2) (reads : List StripRead) (s : State) : Res :=
  onlyIf (s.headUp && (s.stream i).mine && decide (0 < s.p p_rinse_max_gbps) && s.notPast 6 && !s.time.ran.contains (4 + 8 * i.val)) s fun s0 =>
    let s := s0.inWindowAs 4 (4 + 8 * i.val)
    let c := s.rinse i
    match (s.rinseWork i).find? (fun e => decide (c.cursor < e.1)) with
    | some (id, r) => (s.setRinse i { c with cursor := id, done := c.done + 1 }).rinseStripe id r reads
    | none => s.setRinse i { cursor := 0, cycleEpn := s.epn, done := 0 }

/-! ### Checkpoints (R52, R365, R371, R537) -/

/-- Write and record the replication checkpoint where a RECEIPT or APPLIED advanced it (R537). -/
def State.replCkpt (s : State) : State :=
  let r := s.repl
  if !(r.moved && s.isManager) then s
  else
    let s1 := { s with repl := { r with moved := false } }
    (s1.ckptRepl [r.keyGen, r.claim, r.replicated, r.receipts.getD 0 0, r.receipts.getD 1 0]).record
      (.ckptRepl r.keyGen r.claim r.replicated (r.receipts.getD 0 0) (r.receipts.getD 1 0))

/-- CHECKPOINT_WINDOW (R52): replication, Darning and Refold checkpoints. -/
def execCheckpointWindow (s : State) : Res :=
  onlyIf (s.headUp && s.windowOpen 2 4) s fun s0 =>
    let s := (s0.inWindow 2).replCkpt
    (((s.darnCkpt 0).darnCkpt 1).refoldCkpt 0).refoldCkpt 1

end Sys2Proof.Machine
end

