-- ==== Sys2Proof/Machine/ArrayCtrl.lean ====
section
/-! DEFINITION. What an operator asks of the manager (R561): snapshots (R338 to R343), planned shelf restarts (R89, R362), the barrier
(R90, R91), moving the manager lease and a group (R408, R409). Writing metadata pages (R324), the course of a crypto-erase (R317), the
health detail record of a shelf (R470), NVMe-MI (R562). -/

namespace Sys2Proof.Machine

/-! ### ARRAY_CTRL (R560, R561) -/

/-- Answer an ARRAY_CTRL with a STATUS and a body. -/
def State.ctrlDone (s : State) (tag : Byte) (status : Nat) (body : Bytes) : State := s.respond 0x0C tag.toNat 0 (some status) body

/-- Answer an ARRAY_CTRL with a COMPLETION: 2 a field outside its limits, 3 not permitted in the present state (R558, log 60). -/
def State.ctrlNo (s : State) (tag : Byte) (completion : Nat) : State := s.respond 0x0C tag.toNat completion none []

/-- An ARRAY_CTRL operation: only the manager has it. -/
def State.arrayCtrl (s : State) (tag : Byte) (f : State → State) : Res :=
  s.mgmtCmd 0x0C tag.toNat (fun s =>
    if !s.isHead then s.ctrlNo tag 3
    else if !s.isManager then s.ctrlDone tag ST_SEAM_NOT_MANAGER []
    else f s)

/-! ### Snapshots (R338 to R343) -/

/-- The least E that a definition recorded now may have (R339). -/
def State.leastE (s : State) : Nat := s.epn + s.p p_snap_min_lead_epochs

/-- Snapshots in the table or about to be: ID and namespaces. -/
def State.snapsAhead (s : State) : List (Nat × List Nat) :=
  s.head.md.snaps.map (fun e => (e.1, e.2.nsids))
    ++ (s.stream s.mgrStream).sealQueue.filterMap (fun x => match x with
      | .manager (.snapDefine d) => if SMap.has s.head.md.snaps d.id then none else some (d.id, d.nsids)
      | _ => none)

/-- Their IDs. -/
def State.snapIds (s : State) : List Nat := s.snapsAhead.map (·.1)

/-- Limits of a snapshot definition (R338, R339). -/
def State.snapOk (s : State) (id e : Nat) (nsids : List Nat) : Bool :=
  decide (id < 1048576) && decide (1 ≤ nsids.length ∧ nsids.length ≤ 1024) && nsids.all (SMap.has s.nvme.ns) && decide (s.leastE ≤ e)
    && !s.snapIds.contains id && decide (s.snapIds.length < 1048576)
    && nsids.all (fun n => decide ((s.snapsAhead.filter (fun x => x.2.contains n)).length < s.p p_snap_max_per_volume))

/-- SNAPSHOT_DEFINE (R339): E 0 takes the least permitted. -/
def execSnapshotDefine (tag : Byte) (id e : Nat) (nsids : List Nat) (s : State) : Res :=
  s.arrayCtrl tag (fun s =>
    let e1 := if e = 0 then s.leastE else e
    if s.snapOk id e1 nsids then (s.record (.snapDefine ⟨id, e1, nsids⟩)).ctrlDone tag 0 [] else s.ctrlNo tag 2)

/-- A snapshot that is there and not deleted. -/
def State.snapThere (s : State) (id : Nat) : Bool :=
  match SMap.get s.head.md.snaps id with
  | some x => !x.hidden
  | none => false

/-- SNAPSHOT_DELETE (R343). -/
def execSnapshotDelete (tag : Byte) (id : Nat) (s : State) : Res :=
  s.arrayCtrl tag (fun s => if s.snapThere id then (s.record (.snapDelete id)).ctrlDone tag 0 [] else s.ctrlNo tag 2)

/-- SNAPSHOT_CLONE (R342): the clone's identifier is the lowest free one (log 50), in the response's body. -/
def execSnapshotClone (tag : Byte) (id nsid : Nat) (s : State) : Res :=
  s.arrayCtrl tag (fun s =>
    let ok := match SMap.get s.head.md.snaps id with
      | some x => !x.hidden && x.nsids.contains nsid && decide (x.epn ≤ s.epn)
      | none => false
    if !ok || !SMap.has s.nvme.ns nsid || decide (16384 ≤ s.nvme.ns.length + s.pendingNs.length) then s.ctrlNo tag 2
    else (s.record (.snapClone id nsid s.newNsid)).ctrlDone tag 0 (le 4 s.newNsid))

/-- UTC_SCHEDULE_EDIT (R340): add an entry under the ID of its first snapshot, or remove it. -/
def execUtcScheduleEdit (tag : Byte) (add : Bool) (e : UtcSched) (s : State) : Res :=
  s.arrayCtrl tag (fun s =>
    let there := SMap.has s.head.md.scheds e.snapId
    if add then
      if there || e.periodS == 0 || e.count == 0 || !decide (e.snapId + e.count ≤ 1048576)
          || !decide (1 ≤ e.nsids.length ∧ e.nsids.length ≤ 1024) then s.ctrlNo tag 2
      else (s.record (.schedAdd e)).ctrlDone tag 0 []
    else if there then (s.record (.schedRemove e.snapId)).ctrlDone tag 0 []
    else s.ctrlNo tag 2)

/-- The UTC instant of an instance of a schedule entry, in ticks. -/
def instantOf (e : UtcSched) (k : Nat) : Nat := (e.firstUtcS + e.periodS * k) * 100000000

/-- UTC now, in ticks (R34, R36). -/
def State.utcNow (s : State) : Int := (s.time.t : Int) + ((s.p p_time_origin_tai_s : Int) - s.utcOffset) * 100000000

/-- The next instance of an entry: the first after those recorded that is not passed over. One that no longer meets R339 never meets it
again, so every manager passes over the same ones from the recorded state alone (R23). -/
def State.nextInstance (s : State) (e : UtcSched) (done : Nat) : Nat :=
  (((List.range (e.count - done)).map (done + ·)).find? (fun k =>
    s.utcNow + 100000000 ≤ (instantOf e k : Int) || s.snapOk (e.snapId + k) (s.utcEpn (instantOf e k)) e.nsids)).getD e.count

/-- SNAPSHOT_SCHEDULE_INSTANCE (R55, R340): the next instance of an entry lies less than 1 s ahead; its ID is the entry's plus its number
(log 61). -/
def execSnapshotScheduleInstance (entry : Nat) (s : State) : Res :=
  .next (match (if s.isManager then SMap.get s.head.md.scheds entry else none) with
    | none => s
    | some e =>
      let k := s.nextInstance e (SMap.getD s.head.md.schedDone entry 0)
      let at' := instantOf e k
      let defined := s.queuedMgr (fun r => match r with | .snapDefine d => d.id == e.snapId + k | _ => false)
      if e.count ≤ k ∨ defined ∨ s.utcNow + 100000000 ≤ (at' : Int) then s
      else s.record (.snapDefine ⟨e.snapId + k, s.utcEpn at', e.nsids⟩))

/-- Phase 0 at the manager (R55, R340): a change of the TAI-UTC offset moves instances not yet cut, where old and new E both still meet
R339. -/
def State.schedRecheck (s : State) : State :=
  if !s.isManager then s
  else s.head.md.scheds.foldl (fun acc x =>
    let e := x.2
    let k := SMap.getD acc.head.md.schedDone x.1 0
    if k = 0 then acc
    else
      let id := e.snapId + (k - 1)
      let new := acc.utcEpn (instantOf e (k - 1))
      let queued := acc.queuedMgr (fun r => match r with | .snapDefine d => d.id == id | _ => false)
      match SMap.get acc.head.md.snaps id with
      | some v => if !queued ∧ v.epn ≠ new ∧ acc.leastE ≤ v.epn ∧ acc.leastE ≤ new then acc.record (.snapDefine ⟨id, new, e.nsids⟩) else acc
      | none => acc) s

/-- Phase 0 of epoch `x`: snapshots are cut with the time quality of the moment (R52, R338, R339). -/
def State.cutSnaps (s : State) (x : Nat) : State :=
  s.setMd { s.head.md with
    snaps := SMap.mapV s.head.md.snaps (fun _ v => if v.epn = x then { v with quality := qualityNum s.time.quality } else v) }

/-- Preserved entries of a page that no snapshot sees. -/
def MetaSt.releasable (m : MetaSt) (nsid page : Nat) : Nat :=
  (m.pres.filter (fun p => p.nsIndex + 1 == nsid && p.chunkNo / 4096 == page && !m.visible p.nsIndex p.leaf.birth p.death)).length

/-- SNAPSHOT_RELEASE_STEP (R343): the manager records a step for one preserved page of which no snapshot sees some entry. After a step of n
positions the next comes no sooner than n / `snap.release_per_s` seconds later (log 50). -/
def execSnapshotReleaseStep (id nsid page : Nat) (s : State) : Res :=
  let n := s.head.md.releasable nsid page
  onlyIf (s.isManager && decide (0 < n ∧ s.head.releaseAt ≤ s.time.t)
      && !s.queuedMgr (fun r => match r with | .snapRelease _ n p => n == nsid && p == page | _ => false)) s
    (fun s => State.record { s with head := { s.head with
      releaseAt := s.time.t + (100000000 * n + s.p p_snap_release_per_s - 1) / max (s.p p_snap_release_per_s) 1 } } (.snapRelease id nsid page))

/-! ### Planned restart of a shelf (R89, R362) -/

/-- Every stripe would still tolerate one further failure with a shelf absent (R89): of the stripes that are not retired, each. -/
def State.tolerates (s : State) (site : Nat) : Bool :=
  s.head.md.stripes.all (fun e =>
    let r := e.2
    let gone := (List.range (r.k + r.m)).filter (fun i => bit r.missing i || r.site i == site || s.isAbsent (r.site i) || s.isFailed (r.site i))
    r.state == 4 || decide (gone.length < r.m))

/-- PLANNED_SHELF_RESTART (R89, R362): ABSENT is recorded; the answer, which permits the restart, follows once no OPEN stripe names the shelf:
DEDUCED (log 60). -/
def execPlannedShelfRestart (tag : Byte) (site : Fin 64) (s : State) : Res :=
  s.arrayCtrl tag (fun s =>
    if s.nShelves ≤ site.val then s.ctrlNo tag 2
    else if !s.tolerates site || s.isFailed site || s.isAbsent site then s.ctrlDone tag ST_BOOT_RESTART_REFUSED []
    else State.record { s with head := { s.head with permits := s.head.permits ++ [(tag.toNat, site.val)] } } (.absent site))

/-- No OPEN stripe names an absent shelf any more (R362). -/
def State.mayRestart (s : State) (site : Nat) : Bool :=
  s.isAbsent site && s.head.md.stripes.all (fun e => e.2.state != 1 || !e.2.sites.contains site)

/-- Phase 0: the planned restarts asked for are permitted, each once no OPEN stripe names its shelf (R362); one whose shelf has failed since is
refused. -/
def State.permitRestarts (s : State) : State :=
  let done := fun (x : Nat × Nat) => s.isFailed x.2 || s.mayRestart x.2
  (s.head.permits.filter done).foldl (fun acc x => acc.ctrlDone (BitVec.ofNat 8 x.1) (if s.isFailed x.2 then ST_BOOT_RESTART_REFUSED else 0) [])
    { s with head := { s.head with permits := s.head.permits.filter (fun x => !done x) } }

/-! ### Barrier (R90, R91) -/

/-- The co-head stands out of service under R58, as far as this head is told: its heartbeats say STATE 3 (R396), and none comes by a shelf,
since it sends nothing to shelves (DEDUCED, log 93). -/
def State.peerHeld (s : State) : Bool := s.seam.peerState == 3 && !s.seam.pathB

/-- BARRIER_START (R90): the co-head stands out of service under R58, no Refold runs; B is the next epoch. -/
def execBarrierStart (tag : Byte) (s : State) : Res :=
  s.arrayCtrl tag (fun s =>
    if s.peerHeld ∧ !s.head.md.refolding ∧ s.boot.barrier = none then
      State.ctrlDone { s with boot := { s.boot with barrier := some ⟨s.epn + 1, 0, s.time.t, 0⟩ } } tag 0 []
    else s.ctrlNo tag 3)

/-- Step 4 of R90: this head releases the lease and every volume and stands out of service; then the held commands go to the new head, which
takes them into its first epoch. -/
def State.barrierRelease (s : State) : State :=
  let held := s.myStreams.flatMap (fun i => (s.stream i).waiting)
  let free := fun (acc : State) (i : Nat) => (acc.setStream i { acc.stream i with waiting := [], admitUntil := some acc.epn }).releaseStream i
  let s1 := s.myStreams.foldl free s
  let s2 := held.foldl (fun (a : State) (w : WaitCmd) =>
    State.sendSeam { a with nvme := { a.nvme with fwd := a.nvme.fwd ++ [w.cmd] } } 255 a.epn (.fwdCmd w.cmd w.op w.pi)) s1
  (State.clearAlarm { s2.dropCollection with seam := { s2.seam with own := 3, manager := false }, boot := { s2.boot with barrier := none } }
    AL_BOOT_BARRIER_ABORT 0).anaUpdate

/-- Phase 0 of epoch `x`: the barrier's steps (R90), as long as this head is manager. Step 3 writes the pages that were dirty as of the close of
step 2, and closes the metadata stripes that took them (log 95). The lease goes only once every shelf's record holds B:
renewals carry it until their replies say so; a shelf that failed or is away has no record to write (log 95). -/
def State.barrierStep (s : State) (x : Nat) : State :=
  match s.boot.barrier with
  | none => s
  | some b =>
    let to' := fun (n : Nat) (s : State) => { s with boot := { s.boot with barrier := some { b with step := n, flushEpn := x } } }
    if !s.isManager then s
    else if b.step = 0 then (if b.b ≤ x then to' 1 s else s)
    else if b.step = 1 then
      let closed := s.head.md.stripes.all (fun e => e.2.state != 1 || e.2.isTarget)
      let sealedAll := s.myStreams.all (fun i => decide (b.b ≤ (s.stream i).sealedEpn + 1))
      if closed && sealedAll then to' 2 s else s
    else if b.step = 2 then
      if s.head.md.dirty.all (fun d => decide (b.flushEpn < d.2)) then to' 3 { s with seam := { s.seam with sets := s.seam.sets ++ [RenewSet.barrier b.b] } } else s
    else if s.sites.all (fun i => s.isFailed i || s.isAbsent i || (match (s.shelf i).record with | some r => r.barrierEpn == b.b | none => false)) then
      (if s.head.md.stripes.all (fun e => e.2.state != 1 || e.2.isTarget) then s.barrierRelease else s)
    else if s.seam.sets.any (fun x => match x with | .barrier _ => true | _ => false) then s
    else { s with seam := { s.seam with sets := s.seam.sets ++ [RenewSet.barrier b.b] } }

/-- Renewals carry no B any more: one that shelves may have recorded is taken back (R91). -/
def State.dropBarrier (s : State) : State :=
  let left := s.seam.sets.filter (fun x => match x with | .barrier _ => false | _ => true)
  { s with seam := { s.seam with sets := left ++ [RenewSet.barrier 0] }, boot := { s.boot with barrier := none } }

/-- BARRIER_ABORT (R91): not completed within `image.barrier_max_ms` of B. -/
def execBarrierAbort (s : State) : Res :=
  .next (match s.boot.barrier with
    | some b =>
      if s.headUp && decide (s.epochStart b.b + s.p p_image_barrier_max_ms * 100000 ≤ s.time.t) then
        s.dropBarrier.alarm AL_BOOT_BARRIER_ABORT 0
      else s
    | none => s)

/-! ### Moving the lease and a group (R408, R409) -/

/-- MANAGER_LEASE_MOVE (R409): M lies two epochs after the seal that records it. -/
def execManagerLeaseMove (tag : Byte) (s : State) : Res :=
  s.arrayCtrl tag (fun s =>
    if s.seam.peerState ≠ 0 then s.ctrlDone tag ST_SEAM_PEER_NOT_READY []
    else (s.record (.leaseMove s.peerSite (s.epn + 3))).ctrlDone tag 0 [])

/-- GROUP_HANDBACK (R408): the other head's configured group goes back to it. -/
def execGroupHandback (tag : Byte) (s : State) : Res :=
  s.arrayCtrl tag (fun s => if s.seam.peerState ≠ 0 then s.ctrlDone tag ST_SEAM_PEER_NOT_READY [] else s.startHandback.ctrlDone tag 0 [])

/-- Phase 0 of epoch `x` (R409): a recorded move of the lease takes effect. The old manager's renewals name the new site until a
majority of records does. -/
def State.leaseMoves (s : State) (x : Nat) : State :=
  match s.seam.leaseMove with
  | none => s
  | some (site, m) =>
    if x < m then s
    else if site = s.site then
      (State.becomeManager { s with seam := { s.seam with leaseMove := none } }).event EV_SEAM_LEASE_MOVED 0
    else if s.seam.manager then
      State.event { s.dropCollection with seam := { s.seam with manager := false } } EV_SEAM_LEASE_MOVED 0
    else s

/-! ### Metadata pages (R321 to R324, R349) -/

/-- A leaf entry's 16 bytes (R322). -/
def Leaf.bytes (l : Leaf) : Bytes := le 16 (l.chunkId % 2 ^ 48 + l.st * 2 ^ 48 + l.appTag % 2 ^ 16 * 2 ^ 52 + l.birth % 2 ^ 60 * 2 ^ 68)

/-- A stripe record's 128 bytes (R349). -/
def MetaSt.stripeBytes (m : MetaSt) (id : Nat) (r : StripeRec) : Bytes :=
  let body := le 6 id ++ le 1 r.k ++ le 1 r.m ++ le 1 r.state ++ le 1 r.flags ++ zeros 2 ++ le 4 r.layoutGen ++ le 8 r.openEpn
    ++ (List.range 24).flatMap (fun i => le 1 (r.sites.getD i 255)) ++ le 4 r.empty ++ le 4 r.missing ++ le 8 r.closeEpn
    ++ le 4 (m.liveGranules id) ++ zeros 56
  body ++ le 4 (crc32c body)

/-- A preserved entry's 32 bytes (R341). -/
def Pres.bytes (p : Pres) : Bytes := le 8 p.chunkNo ++ le 8 p.death ++ p.leaf.bytes

/-- The bytes of a page: 1 map page or a namespace's preserved entries of the same chunk numbers, 2 chunk-record page, 3 stripe-table page (R324,
R341, R349). Both heads write the same bytes (R422), so MATCH_INDEX, which only the owner has, goes out as none: DESIGN CHOICE (log 101). -/
def MetaSt.pageBytes (m : MetaSt) (kind page : Nat) : Bytes :=
  if kind = 1 ∧ 2 ^ 59 ≤ page then
    padTo 65536 ((((m.presOf (page % 2 ^ 42 / 2 ^ 28) (page % 2 ^ 28)).drop (2048 * (page % 2 ^ 59 / 2 ^ 42))).take 2048).flatMap Pres.bytes)
  else if kind = 1 then (List.range 4096).flatMap (fun j => (m.leaf (page / 2 ^ 28) (page % 2 ^ 28 * 4096 + j)).bytes)
  else if kind = 2 then (List.range 1024).flatMap (fun j => match m.chunk (1024 * page + j) with | some c => chunkRecBytes (1024 * page + j) { c with matchIndex := none } | none => zeros 64)
  else (List.range 512).flatMap (fun j => match m.stripe (512 * page + j) with | some r => m.stripeBytes (512 * page + j) r | none => zeros 128)

/-- The newest domain key record of each domain (R316, R321). -/
def State.newestKeys (s : State) : List KeyRec :=
  SMap.vals ((SMap.vals s.cipher.recs ++ s.cipher.pendingKeys).foldl (fun (a : SMap KeyRec) r => SMap.set a r.domain r) [])

/-- A root record: the newest domain key records, then the namespace and snapshot tables, whose layouts are not given: their bytes are open
(R316, R321, log 110). -/
def State.rootBytes (s : State) : Bytes × State :=
  let r := s.takeFreeBytes 4096
  (s.newestKeys.flatMap keyRecBytes ++ r.1, r.2)

/-- The image of a page, or of a root record (kind 5): one stream-class unit (R324). -/
def State.pageImage (s : State) (kind page : Nat) : Bytes × State :=
  let r := if kind = 5 then s.rootBytes else (s.head.md.pageBytes kind page, s)
  (pad64 (pf1Stream true r.1), r.2)

/-- Write a page of a stream, or its root record (kind 5), into a metadata stripe, one opened where none has room; nothing where none can be opened
(R227, R324, R422). -/
def State.writePage (s0 : State) (i kind page : Nat) : State :=
  let key := kind * 2 ^ 60 + page
  let r := (s0.metaRoom i (s0.pageImage kind page).1.length).pageImage kind page
  let s := r.2
  let img := r.1
  let e := min s.head.st0.replayed s.head.st1.replayed
  match s.placeFor i true img.length, s.sendMeta i e key img with
  | some (stripe, strip, _), some (_, _, s1) =>
    let s2 := s1.setMd { s1.head.md with dirty := SMap.del s1.head.md.dirty key }
    if kind = 5 then { s2 with head := { s2.head with roots := s2.head.roots ++ [(stripe, strip, e)] } } else s2
  | _, _ => s0

/-- The stream of a page: that of its namespace, its chunks or its stripes; a root record's is its number. -/
def State.pageStream (s : State) (kind page : Nat) : Nat :=
  if kind = 1 then s.nsStream (page % 2 ^ 42 / 2 ^ 28 + 1) else if kind = 5 then page else streamOf (page * (if kind = 2 then 1024 else 512))

/-- MAP_PAGE_WRITE (R321, R324, R422): a dirty page of a stream, or its root record. -/
def execMapPageWrite (i : Fin 2) (kind page : Nat) (s : State) : Res :=
  onlyIf (s.headUp && ((decide (1 ≤ kind ∧ kind ≤ 3) && s.pageStream kind page == i.val && SMap.has s.head.md.dirty (kind * 2 ^ 60 + page)) || (kind == 5 && page == i.val))) s
    fun s => s.writePage i kind page

/-- A dirty page is due: after `read.map_flush_epochs` epochs (R324), or in a barrier's step 3 (R90). -/
def State.pageDue (s : State) (since : Nat) : Bool :=
  decide (since + s.p p_read_map_flush_epochs ≤ s.epn)
    || (match s.boot.barrier with | some b => b.step == 2 && decide (since ≤ b.flushEpn) | none => false)

/-- Phase 0: the pages that are due are written (R90, R324). -/
def State.flushPages (s : State) : State :=
  if !s.headUp then s
  else
    (s.head.md.dirty.filter (fun e => s.pageDue e.2)).foldl (fun acc e =>
      let kind := e.1 / 2 ^ 60
      let page := e.1 % 2 ^ 60
      acc.writePage (acc.pageStream kind page) kind page) s

/-! ### The course of a crypto-erase (R317) -/

/-- Every page and batch from before an epoch is flushed. -/
def State.flushedTo (s : State) (e : Nat) : Bool :=
  s.head.md.dirty.all (fun d => decide (e ≤ d.2))
    && [0, 1].all (fun i => (s.ringHem i).batches.all (fun b => decide (e ≤ b.epn ∨ b.ringSeq ≤ (s.ringHem i).flushed)) && decide (e ≤ (s.stream i).replayed))

/-- Phase 0: once pages and batches are flushed, both heads discard the older sections, and the manager has the older root record
pages purged (R317). -/
def State.eraseStep (s : State) : State :=
  s.cipher.erases.foldl (fun acc (e : Erase) =>
    if e.swept || !acc.flushedTo e.epn then acc
    else
      let drop := fun (st : StreamSt) => { st with bundles := SMap.keep st.bundles (fun n _ => decide (e.epn ≤ n)) }
      let old := acc.head.roots.filter (fun r => decide (r.2.2 < e.epn))
      let a1 := { acc with head := { acc.head with
        st0 := drop acc.head.st0, st1 := drop acc.head.st1, roots := acc.head.roots.filter (fun r => decide (e.epn ≤ r.2.2)) } }
      let purge := fun (a : State) (r : Nat × Nat × Nat) =>
        match a.head.md.stripe r.1 with
        | none => a
        | some x => a.toShelf (x.site r.2.1) { (a.tagged .discard (streamOf r.1) e.epn (stripItem r.1 r.2.1) true (.discard (16 * r.1))) with purge := true }
      let a2 := if a1.isManager then old.foldl purge a1 else a1
      { a2 with cipher := { a2.cipher with erases := a2.cipher.erases.map (fun (x : Erase) =>
          if x.domain = e.domain ∧ x.gen = e.gen then { x with swept := true, purges := old.map (fun r => (r.1, r.2.1)) } else x) } }) s

/-- The slots of the generation before hold nothing any more (R317): EMPTY, and no wrapped copy at a head in PS2,
kept or on its pending list (R313). -/
def State.slotsGone (s : State) (e : Erase) : Bool :=
  [dataSlot e.domain (e.gen - 1), fpSlot e.domain (e.gen - 1)].all (fun k => (s.keySlot k).state == 0 && !SMap.has s.cipher.ps2 k)
    && !s.cipher.steps.any (fun k => match k with | .unwrap r => r.domain == e.domain && decide (r.generation < e.gen) | _ => false)

/-- Every purge of an erase is acknowledged: no frame of one is still unanswered or waits to be sent. -/
def State.purged (s : State) (e : Erase) : Bool :=
  (s.head.sent ++ s.head.queue).all (fun x => !(x.frame.purge && e.purges.any (fun r => x.frame.tag.item == stripItem r.1 r.2)))

/-- CRYPTO_ERASE_COMPLETE (R190, R317): every purge is acknowledged and the other head has done its part, which the command reports (log 99); the
manager has sent the record to the partner; a running sanitize ends with its last domain. -/
def execCryptoEraseComplete (domain : Fin 256) (s : State) : Res :=
  .next (match s.cipher.erases.find? (fun (e : Erase) => e.domain == domain.val) with
    | none => s
    | some e =>
      if !(s.headUp && e.swept && s.slotsGone e && s.purged e && (e.partner || !(s.isSource && s.isManager && s.replicated e.domain))) then s
      else
        let rest := s.cipher.erases.filter (fun (x : Erase) => !(x.domain == e.domain && x.gen == e.gen))
        let s1 := State.event { s with cipher := { s.cipher with erases := rest } } EV_CIPHER_DOMAIN_ERASED (srcOf 11 e.domain)
        let s2 := if e.late then s1.clearAlarm AL_CIPHER_PURGE_LATE (srcOf 11 e.domain) else s1
        if s2.nvme.sanitizing && rest.isEmpty then
          { s2 with nvme := { s2.nvme with sanitizing := false, sanitizes := s2.nvme.sanitizes + 1 } }
        else s2)

/-- CRYPTO_ERASE_PURGE_LATE (R317): not complete within `key.purge_max_s` of the record's EPN. -/
def execCryptoErasePurgeLate (domain : Fin 256) (s : State) : Res :=
  let late := fun (e : Erase) => e.domain == domain.val && !e.late && decide (s.epochStart e.epn + s.p p_key_purge_max_s * 100000000 ≤ s.time.t)
  onlyIf (s.headUp && s.cipher.erases.any late) s fun s =>
    State.alarm { s with cipher := { s.cipher with erases := s.cipher.erases.map (fun (e : Erase) => if late e then { e with late := true } else e) } }
      AL_CIPHER_PURGE_LATE (srcOf 11 domain)

/-! ### Health detail record of a shelf (R470, R559) -/

/-- The record's bytes. -/
def HealthSt.bytes (h : HealthSt) (entry : Bytes) : Bytes :=
  let pair := fun (p : Nat) =>
    let age := (h.hourIndex + 8760 - p) % 8760
    match h.pairs[age]? with
    | some x => s8 x.1 ++ s8 x.2
    | none => zeros 2
  let body := [0x53, 0x48, 0x44, 0x31] ++ le 2 1 ++ zeros 2 ++ padTo 64 entry ++ le 4 h.hourIndex ++ le 4 (min h.pairs.length 8760)
    ++ h.cbitHist.flatMap (le 8) ++ h.retryHist.flatMap (le 8) ++ h.tempHist.flatMap (le 4) ++ (List.range 8760).flatMap pair
    ++ le 4 h.gen ++ zeros 80
  body ++ le 4 (crc32c body)

/-- Where a copy of the record lies in NOR scratch. -/
def healthAddr (second : Bool) : Nat := if second then 0xC007000 else 0xC002000

/-- Bin of TEMP_HIST for a temperature. -/
def tempBin (t : Int) : Nat := if t < 0 then 0 else min 23 (t.toNat / 5 + 1)

/-- HEALTH_RECORD_WRITE (R470): every hour; the hour is counted in TEMP_HIST by the temperature of the moment (log 62). -/
def execHealthRecordWrite (s : State) : Res :=
  onlyIf s.shelfUp s fun s =>
    let h := s.sh.health
    let b := tempBin h.tempNow
    let h1 := { h with
      pairs := ((h.hourMin, h.hourMax) :: h.pairs).take 8760, hourIndex := h.hourIndex + 1, hourMin := 127, hourMax := -128, gen := h.gen + 1
      tempHist := h.tempHist.set b (h.tempHist.getD b 0 + 1) }
    let s1 := { s with sh := { s.sh with health := h1 }, keep := { s.keep with health := h1 } }
    { s1 with nor := norWrite (norErase s1.nor (healthAddr (h1.gen % 2 == 0)) 20480) (healthAddr (h1.gen % 2 == 0)) (h1.bytes s1.healthEntry) }

/-- A valid copy of the record in NOR, and its GEN. -/
def State.healthCopy (s : State) (second : Bool) : Option (Nat × Bytes) :=
  let b := norRead s.nor (healthAddr second) 18432
  if b.take 4 == [0x53, 0x48, 0x44, 0x31] && num b 18428 4 == crc32c (b.take 18428) then some (num b 18344 4, b) else none

/-- The current copy: the valid one with the higher GEN. -/
def State.healthNow (s : State) : Option Bytes :=
  match s.healthCopy false, s.healthCopy true with
  | some a, some b => some (if a.1 < b.1 then b.2 else a.2)
  | some a, none => some a.2
  | none, some b => some b.2
  | none, none => none

/-- HEALTH_READ (R559): pieces 0 to 4 of 4,096 bytes; a head, and a shelf that has no record yet, answers COMPLETION 3. -/
def execHealthRead (tag piece : Byte) (s : State) : Res :=
  s.mgmtCmd 0x0B tag.toNat (fun s =>
    if s.isHead then s.respond 0x0B tag.toNat 3 none []
    else if 4 < piece.toNat then s.respond 0x0B tag.toNat 2 none []
    else match s.healthNow with
      | some b => s.respond 0x0B tag.toNat 0 none (padTo 4096 (sub b (4096 * piece.toNat) 4096))
      | none => s.respond 0x0B tag.toNat 3 none [])

/-! ### NVMe-MI (R562): the places of the fields are as NVMe-MI has them (PRESUMED, log 25), what it leaves to the part is open (log 6) -/

/-- A head answers NVMe-MI. -/
def State.miUp (s : State) : Bool := s.mgmtUp && s.isHead

/-- Composite temperature as NVMe-MI gives it: degrees Celsius, one byte. -/
def State.miTemp (s : State) : Nat := (s.hottest / 10 % 256).toNat

/-- The critical warnings of the subsystem: those of any controller. -/
def State.miWarning (s : State) : Nat := s.hpCtrls.foldl (fun a c => a ||| s.criticalWarning c) (s.criticalWarning s.ctrlBase)

/-- NVME_MI_BASIC_MANAGEMENT (R562): status flags, critical warnings (inverted), temperature, wear. -/
def execNvmeMiBasicManagement (s : State) : Res :=
  onlyIf s.miUp s fun s =>
    let r := s.openPage 32 [(0, le 1 6), (2, le 1 (255 - s.miWarning) ++ le 1 s.miTemp ++ le 1 s.wearUsed), (8, le 1 22 ++ be 2 0x1F7D)]
    r.2.emit (.mi 0 r.1)

/-- NVME_MI_READ_DATA_STRUCTURE (R562). -/
def execNvmeMiReadDataStructure (dtyp cntlid : Nat) (s : State) : Res :=
  onlyIf s.miUp s fun s =>
    let r := if dtyp = 2 then (ctrlList s.hpCtrls cntlid, s) else s.openPage 32 []
    r.2.emit (.mi 1 r.1)

/-- NVME_MI_SUBSYSTEM_HEALTH_POLL (R562). -/
def execNvmeMiSubsystemHealthPoll (s : State) : Res :=
  onlyIf s.miUp s fun s =>
    let r := s.openPage 8 [(1, le 1 (255 - s.miWarning) ++ le 1 s.miTemp ++ le 1 s.wearUsed)]
    r.2.emit (.mi 2 r.1)

/-- NVME_MI_CONTROLLER_HEALTH_POLL (R562): one entry per controller from an identifier on: ready, spare, wear, warnings. -/
def execNvmeMiControllerHealthPoll (first : Nat) (s : State) : Res :=
  onlyIf s.miUp s fun s =>
    let ids := s.hpCtrls.filter (fun c => decide (first ≤ c))
    let r := ids.foldl (fun (acc : Bytes × State) c =>
      let x := acc.2.openPage 16 [(0, le 2 c ++ le 2 (b2n (acc.2.rdy c))), (6, le 1 acc.2.wearUsed ++ le 1 acc.2.availableSpare ++ le 1 (acc.2.criticalWarning c))]
      (acc.1 ++ x.1, x.2)) ([], s)
    r.2.emit (.mi 3 r.1)

/-- NVME_MI_CONFIGURATION_GET (R562): the spec gives no value of any configuration, so the answer is free for each (log 6). -/
def execNvmeMiConfigurationGet (_config : Nat) (s : State) : Res :=
  onlyIf s.miUp s fun s =>
    let r := s.openPage 4 []
    r.2.emit (.mi 4 r.1)

end Sys2Proof.Machine
end

