-- ==== Sys2Proof/Machine/Hem.lean ====
section
/-! DEFINITION. Stage HEM: the power-fail record, failed records, the directory (R155, R156, R159, R160, R170, R614). -/

namespace Sys2Proof.Machine

/-- Drop one slot group of a checkpoint pair (R160). -/
def CkptPair.drop (c : CkptPair) (second : Bool) : CkptPair := if second then { c with g1 := none } else { c with g0 := none }

/-- Drop a batch of a sub-ring. -/
def SubRing.drop (r : SubRing) (seq : Nat) : SubRing :=
  { r with batches := r.batches.filter (fun b => b.ringSeq != seq), freed := r.freed.filter (fun b => b.ringSeq != seq) }

/-- A sub-ring rebuilt from its valid headers (R161, R170): from the oldest that stands to the newest, released ones too, without the batches
whose records fail BODY_CRC; new batches follow the newest. What was flushed is known once the journal strips are loaded (R163). -/
def SubRing.rebuild (r : SubRing) : SubRing :=
  let bs := r.standing.filter (fun b => b.bodyCrc == crc32c (recBytes b.recs))
  match bs.getLast? with
  | some b => { r with batches := bs, freed := [], lastSeq := b.ringSeq, nextUnit := (b.firstUnit + b.units + 1) % 55296, flushed := 0 }
  | none => { r with batches := [], freed := [], lastSeq := 0, nextUnit := 0, flushed := 0 }

/-- A record that cannot be read is as if it were not there (R160, R170). -/
def State.dropRec (s : State) (r : HemRec) : State :=
  let h := s.hem
  match r with
  | .dir b => { s with hem := if b then { h with dir1 := none } else { h with dir0 := none } }
  | .powerFail => { s with hem := { h with pf := .blank } }
  | .ledger => { s with hem := { h with staging := {} } }
  | .batch i q => { s with hem := if i = 0 then { h with s0 := h.s0.drop q } else { h with s1 := h.s1.drop q } }
  | .sif i => { s with hem := { h with sif := SMap.del h.sif i } }
  | .bundle i => { s with hem := { h with bundles := SMap.del h.bundles i } }
  | .ckpt k i b =>
    { s with hem :=
        if k = 0 then (if i = 0 then { h with darn := h.darn.drop b } else { h with darn1 := h.darn1.drop b })
        else if k = 1 then (if i = 0 then { h with refold := h.refold.drop b } else { h with refold1 := h.refold1.drop b })
        else if k = 2 then { h with repl := h.repl.drop b } else { h with epoch := h.epoch.drop b } }
  | .lease old =>
    { s with keep := if old then { s.keep with leaseOld := none }
                     else { s.keep with lease := s.keep.leaseOld, leaseOld := none, leaseNo := s.keep.leaseNo - 1 } }
  | .intent i => { s with keep := { s.keep with intents := SMap.del s.keep.intents i } }
  | .plb i => { s with keep := { s.keep with plbIndex := s.keep.plbIndex.eraseIdx i } }
  | .ftlHead =>
    let old := s.keep.oldHead.getD (0, 0, 0, [])
    { s with keep := { s.keep with
        flushNo := old.1, seq := old.2.1, cursor := old.2.2.1, openBlocks := old.2.2.2, oldHead := none, headNo := s.keep.headNo - 1
        dies := if s.keep.oldHead.isSome then s.keep.dies else none } }
  | .ftl i => { s with keep := { s.keep with records := s.keep.records.eraseIdx i } }
  | .unit _ _ => s

/-- Units of a record (R157, R158): the CRC of each may fail. Where the manual gives no layout, its first unit. -/
def State.recUnitsOf (s : State) (r : HemRec) : List Nat :=
  let us := (s.hemItems.filter (fun x => x.1 == r)).map (fun x => x.2.1 / 64)
  match r with
  | .bundle _ | .lease _ => us.flatMap (fun u => [u, u + 1, u + 2, u + 3])
  | .ledger => [hemSlot 8 / 64]
  | .dir _ | .powerFail | .batch _ _ | .sif _ | .ckpt _ _ _ | .intent _ | .plb _ | .ftlHead | .ftl _ | .unit _ _ => us

/-- A unit whose CRC fails, with the content it has (R155): the CRC found beside it is free but for that. -/
def State.spoilUnit (s : State) (u : Nat) : State :=
  let r := s.takeFree
  let now := hemUnitCrc u (s.hemBytes (64 * u) 64)
  { r.2 with hem := { r.2.hem with badCrc := SMap.set r.2.hem.badCrc u ((now + 1 + r.1 % (2 ^ 32 - 1)) % 2 ^ 32, now) } }

/-- A record of which some units fail their CRC (R155, R160): each unit is counted and reported, keeps its content and the CRC found beside it,
and the record is as if it were not there; so for each record that a unit named by itself belongs to. -/
def State.crcRec (s : State) (r : HemRec × Nat) : State :=
  match r.1 with
  | .unit u c =>
    let s1 := { s with hem := { s.hem with badCrc := SMap.set s.hem.badCrc u (c, hemUnitCrc u (s.hemBytes (64 * u) 64)) } }
    if s1.unitBad u then (s1.recsAt u).reverse.foldl State.dropRec ((s1.leave (s1.recsAt u).contains).hemCrc [u]) else s1
  | _ =>
    let us := (s.recUnitsOf r.1).take (max 1 r.2)
    let s1 := ((us.foldl State.spoilUnit s).hemCrc us).alarm AL_HEM_CRC 0
    (s1.leave (· == r.1)).dropRec r.1

/-- A record can lack its commit unit (R160): one of several units; of a checkpoint kind the newest alone, since the one before it was
durable when it was written. One that a loss of power tore is noted (HemSt.torn). -/
def State.canTear (s : State) (r : HemRec) : Bool :=
  let newest := fun (c : CkptPair) (b : Bool) => match c.g0, c.g1 with
    | some x, some y => if b then decide (x.seq ≤ y.seq) else decide (y.seq < x.seq)
    | some _, none => false
    | none, some _ => false
    | none, none => false
  match r with
  | .ckpt k i b =>
    newest (if k = 0 then (if i = 0 then s.hem.darn else s.hem.darn1) else if k = 1 then (if i = 0 then s.hem.refold else s.hem.refold1)
      else if k = 2 then s.hem.repl else s.hem.epoch) b
  | .dir _ => true
  | .ledger => true
  | .batch _ _ => true
  | .bundle _ => true
  | .lease old => !old && s.keep.leaseOld.isSome
  | .ftlHead => true
  | .powerFail => false
  | .sif _ => false
  | .intent _ => false
  | .plb _ => false
  | .ftl _ => false
  | .unit _ _ => false

/-- The units of a record but its last, the commit unit (R160). -/
def bodyItems : List (Nat × Bytes) → List (Nat × Bytes)
  | [] => []
  | [x] => [(x.1, x.2.take ((x.2.length - 1) / 64 * 64))]
  | x :: xs => x :: bodyItems xs

/-- A record without a valid commit unit (R160): its other units stand, and the record is ignored. -/
def State.tornRec (s : State) (r : HemRec) : State :=
  ((s.leaveItems (bodyItems ((s.hemItems.filter (fun x => x.1 == r)).map (·.2)))).dropRec r).event EV_HEM_TORN 0

/-- A copy of the directory, or a unit of its slots. -/
def isDirRec : HemRec → Bool
  | .dir _ => true
  | .powerFail => false
  | .ledger => false
  | .batch _ _ => false
  | .sif _ => false
  | .bundle _ => false
  | .ckpt _ _ _ => false
  | .lease _ => false
  | .intent _ => false
  | .plb _ => false
  | .ftlHead => false
  | .ftl _ => false
  | .unit u _ => decide (64 * u < hemSlot 8)

/-- A record stands in the Hem; a unit always does. -/
def State.recThere (s : State) (r : HemRec) : Bool :=
  match r with
  | .unit u _ => decide (u < 131072)
  | .ledger => s.hem.staging.present
  | _ => s.hemItems.any (fun x => x.1 == r)

/-- What is found of the records that stand: units that fail their CRC, and records without a valid commit unit, those among them that a loss
of power tore (R155, R160). -/
def State.sift (s : State) (bad : List (HemRec × Nat)) (torn : List HemRec) : State :=
  ((torn.filter (fun r => s.recThere r && (s.hem.torn.contains r || s.canTear r))).eraseDups.foldl State.tornRec
    ((bad.filter (fun r => s.recThere r.1)).foldl State.crcRec s))

/-- A unit that was stored by address over a record of the firmware, with other bytes than the record's: the record no longer stands (log 87),
and one whose last unit it is lacks its commit unit (R160). -/
def State.overUnit (s : State) (u : Nat) : State :=
  if (s.overIn (64 * u) 64).isEmpty ∨ s.hemBytes (64 * u) 64 = s.hemShown (64 * u) 64 then s
  else
    let rs := s.recsAt u
    let s1 := rs.reverse.foldl State.dropRec (s.leave rs.contains)
    if rs.any (fun r => (s.recUnitsOf r).getLast? == some u) then s1.event EV_HEM_TORN 0 else s1

/-- The directory's role number: 0 head, 1 shelf. -/
def State.roleNum (s : State) : Nat := b2n s.isShelf

/-- The directory fits the straps: some copy is valid, and each valid one names this role and site (R159). -/
def State.dirFits (s : State) : Bool :=
  let ds := [s.hem.dir0, s.hem.dir1].filterMap id
  !ds.isEmpty && ds.all (fun d => d.format == 1 && d.role == s.roleNum && d.site == s.site)

/-- Zeros to every class except LEDGER, and a fresh directory (R159). -/
def State.hemReinit (s : State) : State :=
  let d : DirRec := ⟨1, s.roleNum, s.site, padTo 16 (paramBytes s.romParams p_image_array_id 0)⟩
  State.event { s with
    hem := { raw := s.hem.raw.filter (fun c => decide (hemSlot 8 ≤ c.1 ∧ c.1 < hemSlot 32))
             badCrc := SMap.keep s.hem.badCrc (fun u _ => decide (hemSlot 8 ≤ 64 * u ∧ 64 * u < hemSlot 32)), crcErrs := s.hem.crcErrs
             staging := s.hem.staging, dir0 := some d, dir1 := some d, fresh := true }
    keep := { s.keep with
      lease := none, leaseOld := none, leaseNo := 0, intents := [], flushNo := 0, seq := 0, cursor := 0, openBlocks := [], records := [], ringPos := 0, headNo := 0
      oldHead := none, dies := none, readOnly := 0, plbIndex := [] } } EV_HEM_REINIT 0

/-- The rebase values that the part itself keeps: a head in its epoch checkpoint, a shelf in its lease record (R37, R38). -/
def State.ownBase (s : State) : State :=
  let b := if s.isShelf then (match s.keep.lease with | some r => (r.eBase, r.tBase) | none => (0, 0)) else (s.hem.epoch.val 0, s.hem.epoch.val 1)
  { s with time := { s.time with eBase := b.1, tBase := b.2 } }

/-- BOOT_HEM (R159, R170, R614): `bad` are the records with units that fail their CRC, and how many, `torn` those without a valid commit
unit. The power-fail record is read first; what was found stands until stage FIRMWARE. Then the directory, the records of the classes, and
the sub-rings last. -/
def execBootHem (bad : List (HemRec × Nat)) (torn : List HemRec) (s : State) : Res :=
  onlyIf (s.atStage .hem) s fun s0 =>
    let s := { s0 with power := { s0.power with noted := s0.hem.pf == PfRecord.armed || s0.hem.pf == PfRecord.asserted } }
    let torn := s.hem.torn ++ torn
    let s1 := ((SMap.keys s.hem.stored).foldl State.overUnit s).sift (bad.filter (fun r => isDirRec r.1)) (torn.filter isDirRec)
    let s2 := (if s1.dirFits then s1 else s1.hemReinit).sift (bad.filter (fun r => !isDirRec r.1)) (torn.filter (fun r => !isDirRec r))
    State.toStage (State.ownBase { s2 with hem := { s2.hem with s0 := s2.hem.s0.rebuild, s1 := s2.hem.s1.rebuild, torn := [], scanDone := true } }) .firmware

end Sys2Proof.Machine
end

