-- ==== Sys2Proof/Machine/Rdma.lean ====
section
/-! DEFINITION. The front ports (R506, R507, R517) and the RoCEv2 engine (R509 to R524): receiving, placing, acknowledging, going back. -/

namespace Sys2Proof.Machine

/-! ### Queue pairs -/

/-- Store a queue pair. -/
def State.setQp (s : State) (n : Nat) (q : Qp) : State := { s with rdma := { s.rdma with qps := SMap.set s.rdma.qps n q } }

/-- A work completion (R544). -/
def State.workDone (s : State) (n wr status : Nat) : State := { s with rdma := { s.rdma with done := s.rdma.done ++ [(n, wr, status)] } }

/-- Store a front port. -/
def State.setFront (s : State) (p : Nat) (v : FrontPort) : State := { s with front := s.front.set p v }

/-- A front port. -/
def State.frontOf (s : State) (p : Nat) : FrontPort := s.front.getD p {}

/-- Count a dropped frame (R507, R511, R522, R543). -/
def State.dropFrame (s : State) (p : Nat) : State := s.setFront p { s.frontOf p with drops := satInc 16 (s.frontOf p).drops }

/-- The replication session goes down (R532, R537, R540). -/
def State.sessionDown (s : State) : State :=
  if s.p p_repl_role = 0 ∨ s.repl.state = 4 then s
  else State.alarm { s with repl := { s.repl with state := 4, downAt := s.time.t, taking := none } } AL_REPL_DOWN 0

/-- A queue pair enters the error state (R512, R515, R517): its outstanding work completes, the first with `first` and the rest with
`rest`, and its consumer is told. -/
def State.qpError (s : State) (n first rest : Nat) : State :=
  match SMap.get s.rdma.qps n with
  | none => s
  | some q =>
    if q.state = 2 then s
    else
      let s1 := s.setQp n { q with state := 2, failing := false, incoming := none, unacked := [], spray := none }
      let s2 := match q.unacked with
        | [] => s1
        | w :: ws => ws.foldl (fun (acc : State) (x : WorkReq) => acc.workDone n x.wr rest) (s1.workDone n w.wr first)
      let s3 := s2.eventArg EV_RDMA_QP_FATAL 0 (le 4 n)
      match q.use with
      | .host c => if q.assoc = 1 then s3.endAssoc c else s3
      | .control => s3.sessionDown
      | .data => s3

/-! ### Ports (R506, R507, R517) -/

/-- FRONT_PORT_LINK_UP (R517). -/
def State.frontUp (s : State) (p : Nat) : State :=
  let s1 := s.setFront p { s.frontOf p with up := true, speed := s.pi p_eth_port_speed p }
  (s1.event EV_RDMA_PORT_UP (srcOf 2 p)).clearAlarm AL_RDMA_PORT_DOWN (srcOf 2 p)

/-- FRONT_PORT_LINK_UP (R506, R517): a port that is not Off. -/
def execFrontPortLinkUp (p : Fin 16) (s : State) : Res :=
  onlyIf (s.fw && s.isHead && s.pi p_eth_port_speed p != 0 && !(s.frontOf p).up && !(s.frontOf p).stopping) s (fun s => s.frontUp p)

/-- A port goes down (R180, R517): associations on it end; its other queue pairs enter the error state at the next boundary. -/
def State.frontDown (s : State) (p : Nat) : State :=
  let s1 := s.setFront p { s.frontOf p with up := false, speed := 0, paused := 0, held := 0, downAt := s.time.t }
  let s2 := s1.event EV_RDMA_PORT_DOWN (srcOf 2 p)
  let qs := s2.rdma.qps.filter (fun e => e.2.port == p && e.2.state == 1)
  let s3 := qs.foldl (fun acc e => acc.setQp e.1 { e.2 with failing := true }) s2
  qs.foldl (fun acc e => match e.2.use with | .host c => if e.2.assoc = 1 then acc.endAssoc c else acc | .control => acc | .data => acc) s3

/-- FRONT_PORT_LINK_DOWN (R180, R517). -/
def execFrontPortLinkDown (p : Fin 16) (s : State) : Res :=
  onlyIf (s.fw && s.isHead && (s.frontOf p).up) s (fun s => s.frontDown p)

/-- FRONT_PORT_DOWN_ALARM (R506, R517): an enabled port has been down for 1 s. -/
def execFrontPortDownAlarm (p : Fin 16) (s : State) : Res :=
  onlyIf (s.fw && s.isHead && s.pi p_eth_port_speed p != 0 && !(s.frontOf p).up && decide ((s.frontOf p).downAt + 100000000 ≤ s.time.t)) s
    (fun s => s.alarm AL_RDMA_PORT_DOWN (srcOf 2 p))

/-- FRONT_PORT_NEIGHBOUR (R507): ARP 0, IPv6 neighbour discovery 1, ICMP echo 2, answered by the port. -/
def execFrontPortNeighbour (p : Fin 16) (kind : Fin 3) (s : State) : Res :=
  onlyIf (s.fw && s.isHead && (s.frontOf p).up) s (fun s => s.emit (.portAnswer p kind))

/-- Release the sends whose ports are no longer held, in order (R507). -/
def releaseHeld : List (Nat × Nat × List Nat) → State → State
  | [], s => s
  | e :: rest, s => releaseHeld rest (s.sendPkts e.1 e.2.1 e.2.2)

/-- PFC_PAUSE_FRAME (R507): for each priority named, pause or resume, where `eth.pfc_mask` has its bit. -/
def execPfcPauseFrame (p : Fin 16) (named pause : BitVec 8) (s : State) : Res :=
  onlyIf (s.fw && s.isHead && (s.frontOf p).up) s fun s =>
    let m := named &&& BitVec.ofNat 8 (s.pi p_eth_pfc_mask p)
    let f := s.frontOf p
    let s1 := s.setFront p { f with held := (f.held &&& ~~~m) ||| (m &&& pause) }
    releaseHeld s1.rdma.txHeld { s1 with rdma := { s1.rdma with txHeld := [] } }

/-! ### Connections (R509, R510) -/

/-- The engine serves packets. -/
def State.rdmaOn (s : State) : Bool := s.fw && s.isHead && !s.rdma.fatal

/-- Begin to take the session word at the target (R530): a source manager reads it first. -/
def State.startTaking (s : State) (n : Nat) : State :=
  if s.isManager && s.isSource then
    match SMap.get s.rdma.qps n with
    | none => s
    | some q =>
      let w : WorkReq := { wr := q.nextWr, psn := q.nextPsn, packets := 1, msgNo := q.nextMsg, resent := 0 }
      let s1 := s.setQp n { q with nextWr := q.nextWr + 1, nextPsn := (q.nextPsn + 1) % 2 ^ 24, nextMsg := q.nextMsg + 1, unacked := q.unacked ++ [w]
                                   timerAt := s.time.t }
      State.emit { s1 with repl := { s1.repl with state := 1, taking := none } } (.rdmaReadReq n w.psn 8)
  else s

/-- RDMA_CM_CONNECT (R509, R510, R526): QP1's communication manager sets up a queue pair, with first PSNs of both directions, the receive
entries the firmware posts, and the peer's credits. -/
def execRdmaCmConnect (qpn : Nat) (p : Fin 16) (use : QpUse) (rxPsn txPsn : Fin 16777216) (rq : List (Nat × Nat)) (credits : Nat) (s : State) : Res :=
  let useOk : Bool := match use with
    | .host c => (s.ctrlKind c).fabric && bit (s.p p_nvme_rdma_port_mask) p
    | .control => s.p p_repl_role != 0
    | .data => s.p p_repl_role != 0
  onlyIf (s.rdmaOn && (s.frontOf p).up && decide (2 ≤ qpn ∧ qpn ≤ 262145) && !SMap.has s.rdma.qps qpn && useOk) s fun s =>
    let s1 := s.setQp qpn { use := use, port := p, expPsn := rxPsn, nextPsn := txPsn, rq := rq, credits := credits, timerAt := s.time.t }
    if use = .control then s1.startTaking qpn else s1

/-- Forget a queue pair. -/
def State.dropQp (s : State) (qpn : Nat) : State :=
  { s with rdma := { s.rdma with
    qps := SMap.del s.rdma.qps qpn, cache := s.rdma.cache.filter (· != qpn), parked := s.rdma.parked.filter (·.1 != qpn)
    txHeld := s.rdma.txHeld.filter (·.1 != qpn) } }

/-- RDMA_CM_DISCONNECT (R180): the association that the queue pair carries ends as a controller reset does. -/
def execRdmaCmDisconnect (qpn : Nat) (s : State) : Res :=
  .next (match (if s.rdmaOn then SMap.get s.rdma.qps qpn else none) with
    | none => s
    | some q =>
      let s1 := s.dropQp qpn
      match q.use with
      | .host c => if q.assoc = 1 then s1.endAssoc c else s1
      | .control => s1.sessionDown
      | .data => s1)

/-! ### Receiving -/

/-- How far PSN `a` lies beyond PSN `b`, in the 24-bit circle. -/
def psnDist (a b : Nat) : Nat := (a + 2 ^ 24 - b % 2 ^ 24) % 2 ^ 24

/-- PSN arithmetic. -/
def psnAdd (a k : Nat) : Nat := (a + k) % 2 ^ 24

/-- Answer with NAK Invalid Request and enter the error state (R515). -/
def State.nakInvalid (s : State) (n psn status : Nat) : State := ((s.emit (.rdmaNak n psn 1)).workDone n 0 status).qpError n ST_RDMA_FLUSHED ST_RDMA_FLUSHED

/-- Acknowledge up to a PSN, with the receive entries posted as credits (R513). -/
def State.ack (s : State) (n psn : Nat) : State :=
  match SMap.get s.rdma.qps n with
  | some q => s.emit (.rdmaAck n psn q.rq.length)
  | none => s

/-- Answer a CE mark (R516): at most one notification per queue pair per 50 µs. -/
def State.markCe (s : State) (p : RdmaPkt) : State :=
  match SMap.get s.rdma.qps p.qpn with
  | none => s
  | some q =>
    let due := match q.cnpSent with | some t => decide (t + 5000 ≤ s.time.t) | none => true
    if p.ceMarked && s.p p_rdma_cc_enable == 1 && due then (s.setQp p.qpn { q with cnpSent := some s.time.t }).emit (.rdmaCnp p.qpn) else s

/-- A packet at its expected PSN (R512); a repeated one is acknowledged again, one beyond it gets one NAK per gap. -/
def State.inOrder (s : State) (p : RdmaPkt) (f : Qp → State → State) : State :=
  match SMap.get s.rdma.qps p.qpn with
  | none => s
  | some q =>
    if p.psn = q.expPsn then f q (s.setQp p.qpn { q with expPsn := psnAdd q.expPsn 1, nakSent := false })
    else if psnDist p.psn q.expPsn < 2 ^ 23 then
      if q.nakSent then s else (s.setQp p.qpn { q with nakSent := true }).emit (.rdmaNak p.qpn q.expPsn 0)
    else s.ack p.qpn (psnAdd q.expPsn (2 ^ 24 - 1))

/-- Place a packet of a message that fills its buffer in order (R515): beyond the declared length, or short of it at the end of a Write, it
is an invalid request. The firmware posts a used receive entry again (log 65). -/
def State.placeNext (s : State) (p : RdmaPkt) (q : Qp) (i : Incoming) : State :=
  let n := i.placed + p.payload.length
  if i.len < n then s.nakInvalid p.qpn p.psn ST_RDMA_LEN_LONG
  else
    let s1 := s.dmaWrite (i.addr + i.placed) p.payload
    if !p.last then
      match SMap.get s1.rdma.qps p.qpn with
      | some q1 => s1.setQp p.qpn { q1 with incoming := some { i with placed := n } }
      | none => s1
    else if i.write ∧ n < i.len then s1.nakInvalid p.qpn p.psn ST_RDMA_LEN_SHORT
    else
      match SMap.get s1.rdma.qps p.qpn with
      | some q1 =>
        let rq := if i.write then q.rq else q.rq.tail ++ q.rq.take 1
        let s2 := s1.setQp p.qpn { q1 with incoming := none, rq := rq }
        (if i.write then s2 else s2.workDone p.qpn 0 0).ack p.qpn p.psn
      | none => s1

/-- A Send packet of an ordinary queue pair (R512, R513): without a posted entry, RNR NAK. -/
def State.rxSendRc (s : State) (p : RdmaPkt) : State :=
  match SMap.get s.rdma.qps p.qpn with
  | none => s
  | some q =>
    if p.psn = q.expPsn ∧ p.first ∧ q.rq.isEmpty then s.emit (.rdmaNak p.qpn p.psn 3)
    else s.inOrder p (fun q s =>
      let i : Option Incoming := if p.first then q.rq.head?.map (fun e => ⟨false, e.1, e.2, 0⟩) else q.incoming
      match i with
      | some x => s.placeNext p q x
      | none => s.nakInvalid p.qpn p.psn ST_RDMA_LEN_LONG)

/-- A Write packet of an ordinary queue pair (R515). -/
def State.rxWriteRc (s : State) (p : RdmaPkt) (addr len : Nat) : State :=
  s.inOrder p (fun q s =>
    let i : Option Incoming := if p.first then some ⟨true, addr, len, 0⟩ else q.incoming
    match i with
    | some x => s.placeNext p q x
    | none => s.nakInvalid p.qpn p.psn ST_RDMA_LEN_LONG)

/-! ### Spray reception (R522, R523) -/

/-- The oldest PSN not placed, past those that are; `fuel` is the number placed. -/
def baseGo : Nat → Nat → List Nat → Nat × List Nat
  | 0, b, l => (b, l)
  | fuel + 1, b, l => if l.contains b then baseGo fuel (psnAdd b 1) (l.filter (· != b)) else (b, l)

/-- SEALs that take effect, in order of message: every PSN of the message is placed and every earlier SEAL has taken effect. -/
def sealsGo (n : Nat) : Nat → SprayRx → State → SprayRx × State
  | 0, r, s => (r, s)
  | fuel + 1, r, s =>
    match r.seals.find? (fun e => e.2.2 == r.nextMsg && decide (psnDist r.base e.2.1 ≤ 2 ^ 23 ∧ r.base ≠ e.2.1)) with
    | none => (r, s)
    | some e =>
      sealsGo n fuel { r with seals := r.seals.filter (fun x => x.2.2 != r.nextMsg), nextMsg := r.nextMsg + 1 } ((s.workDone n 0 0).ack n e.2.1)

/-- PSNs newly found missing when one beyond the highest arrives (R524). -/
def newHoles (r : SprayRx) (psn t : Nat) : List (Nat × Nat) :=
  ((List.range (psnDist psn r.highest)).filter (fun j => 0 < j)).map (fun j => (psnAdd r.highest j, t))

/-- A packet of a spray queue pair (R520, R522, R523), to be placed at `addr` within `len` bytes. -/
def State.rxSpray (s : State) (p : RdmaPkt) (q : Qp) (r : SprayRx) (idx msgNo : Nat) (isSeal : Bool) (addr len : Nat) : State :=
  let d := psnDist p.psn r.base
  if 2 ^ 23 ≤ d ∨ r.placed.contains p.psn then (s.dropFrame p.fp).ack p.qpn (psnAdd r.base (2 ^ 24 - 1))
  else if 4096 ≤ d then (s.dropFrame p.fp).event EV_RDMA_SPRAY_WINDOW_DROP (srcOf 2 p.fp)
  else if len < idx * s.pmtu + p.payload.length then s.nakInvalid p.qpn p.psn ST_RDMA_LEN_LONG
  else
    let above := psnDist p.psn r.highest < 2 ^ 23
    let b := baseGo (r.placed.length + 1) r.base (r.placed ++ [p.psn])
    let r1 := { r with
      base := b.1, placed := b.2, highest := if above then p.psn else r.highest
      holes := (r.holes ++ (if above then newHoles r p.psn s.time.t else [])).filter (fun h => h.1 != p.psn)
      seals := if isSeal then r.seals ++ [(psnAdd p.psn (2 ^ 24 - idx), p.psn, msgNo)] else r.seals }
    let x := sealsGo p.qpn r1.seals.length r1 (s.dmaWrite (addr + idx * s.pmtu) p.payload)
    x.2.setQp p.qpn { q with spray := some x.1, expPsn := x.1.base }

/-- A packet whose context is at hand. A Send of a spray queue pair takes receive entry MSG_NO (R522); a packet of the other mode is
malformed (R520). -/
def State.rxPacket (s0 : State) (x : Parked) : State :=
  let p := match x with | .send p => p | .write p _ _ => p
  let s := s0.markCe p
  match SMap.get s.rdma.qps p.qpn with
  | none => s.dropFrame p.fp
  | some q =>
    if q.state ≠ 1 then s
    else
      match q.spray, p.spray with
      | some r, some (msgNo, idx, isSeal) =>
        (match x with
         | .send _ =>
           let e := q.rq.getD (msgNo % max q.rq.length 1) (0, 0)
           if q.rq.isEmpty then s.emit (.rdmaNak p.qpn p.psn 3) else s.rxSpray p q r idx msgNo isSeal e.1 e.2
         | .write _ a l => s.rxSpray p q r idx msgNo isSeal a l)
      | none, none => (match x with | .send _ => s.rxSendRc p | .write _ a l => s.rxWriteRc p a l)
      | _, _ => s.dropFrame p.fp

/-! ### Contexts and parking (R510, R511) -/

/-- Enter a context in the cache, at the recent end; the least recently used of 8,192 leaves. -/
def cacheIn (l : List Nat) (n : Nat) : List Nat :=
  let l1 := l.filter (· != n) ++ [n]
  if 8192 < l1.length then l1.drop 1 else l1

/-- Payload of a parked packet. -/
def Parked.pkt : Parked → RdmaPkt
  | .send p => p
  | .write p _ _ => p

/-- Park a packet (R511): at its quota the port pauses the packet's priority where PFC is enabled for it, else the packet is dropped. -/
def State.park (s : State) (x : Parked) : State :=
  let p := x.pkt
  let f := s.frontOf p.fp
  let n := f.parked + p.payload.length
  let pfc := bit (s.pi p_eth_pfc_mask p.fp) p.priority
  if 262144 < n && !pfc then (s.dropFrame p.fp).event EV_RDMA_PARK_DROP (srcOf 2 p.fp)
  else
    let fetching := s.rdma.parked.any (·.1 == p.qpn)
    let prio := BitVec.ofNat 8 (2 ^ p.priority)
    let stop := pfc && decide (262144 ≤ n)
    let s1 := s.setFront p.fp { f with parked := n, paused := if stop then f.paused ||| prio else f.paused }
    let s2 := { s1 with rdma := { s1.rdma with
      parked := s1.rdma.parked ++ [(p.qpn, x)], misses := if fetching then s1.rdma.misses else satInc 16 s1.rdma.misses } }
    if stop then s2.emit (.pfc p.fp (f.paused ||| prio)) else s2

/-- A packet arrives (R507, R509, R511): one for a queue pair that does not exist is dropped and counted. -/
def State.rxArrive (s : State) (x : Parked) : State :=
  let p := x.pkt
  if !SMap.has s.rdma.qps p.qpn then s.dropFrame p.fp
  else if s.rdma.cache.contains p.qpn then
    State.rxPacket { s with rdma := { s.rdma with cache := cacheIn s.rdma.cache p.qpn } } x
  else s.park x

/-- RDMA_SEND (R507, R509, R511 to R513, R520 to R523): a Send packet arrives. -/
def execRdmaSend (p : RdmaPkt) (s : State) : Res := onlyIf (s.rdmaOn && (s.frontOf p.fp).up) s (fun s => s.rxArrive (.send p))

/-- RDMA_WRITE (R511, R515, R520 to R523): a Write packet arrives; `addr` and `len` are its RETH's. -/
def execRdmaWrite (p : RdmaPkt) (addr len : Nat) (s : State) : Res :=
  onlyIf (s.rdmaOn && (s.frontOf p.fp).up && dmaReach addr len) s (fun s => s.rxArrive (.write p addr len))

/-- Take a packet out of the parking buffer: pause ends below 128 KiB (R511). -/
def State.unpark (s : State) (x : Parked) : State :=
  let p := x.pkt
  let f := s.frontOf p.fp
  let n := f.parked - p.payload.length
  let ends := decide (n < 131072) && f.paused != 0
  let s1 := s.setFront p.fp { f with parked := n, paused := if ends then 0 else f.paused }
  (if ends then s1.emit (.pfc p.fp 0) else s1).rxPacket x

/-- RDMA_CONTEXT_FETCH_DONE (R510, R511): parked packets of the queue pair are processed in arrival order. -/
def execRdmaContextFetchDone (qpn : Nat) (s : State) : Res :=
  onlyIf (s.rdmaOn && s.rdma.parked.any (·.1 == qpn)) s fun s =>
    let mine := s.rdma.parked.filter (·.1 == qpn)
    mine.foldl (fun acc e => acc.unpark e.2)
      { s with rdma := { s.rdma with cache := cacheIn s.rdma.cache qpn, parked := s.rdma.parked.filter (·.1 != qpn) } }

/-! ### Reads and atomics at the responder (R509, R514) -/

/-- The session word is registered at a target (R514, R530). -/
def State.wordReg (s : State) : Bool := s.isTarget

/-- A request of a control queue pair in order, with access to the session word; else NAK Remote Access Error (kind 2). -/
def State.wordOp (s : State) (p : RdmaPkt) (key aligned : Bool) (f : State → State) : State :=
  match SMap.get s.rdma.qps p.qpn with
  | none => s.dropFrame p.fp
  | some q =>
    if q.state ≠ 1 then s
    else s.inOrder p (fun _ s =>
      if !(key && s.wordReg) then (s.emit (.rdmaNak p.qpn p.psn 2)).qpError p.qpn ST_RDMA_FLUSHED ST_RDMA_FLUSHED
      else if !aligned then s.nakInvalid p.qpn p.psn ST_RDMA_LEN_LONG
      else f s)

/-- RDMA_READ (R509, R530): `key` tells whether the request names the session word, `off` and `len` the bytes of it. -/
def execRdmaRead (p : RdmaPkt) (key : Bool) (off len : Nat) (s : State) : Res :=
  onlyIf (s.rdmaOn && (s.frontOf p.fp).up) s (fun s =>
    s.wordOp p (key && decide (off + len ≤ 8)) true (fun s => s.emit (.rdmaRead p.qpn p.psn (sub (le 8 s.repl.word) off len))))

/-- Put the session word and answer with the value before it; new words of another claim end what the old one had (R530). -/
def State.putWord (s : State) (p : RdmaPkt) (new : Nat) : State :=
  State.emit { s with repl := { s.repl with word := new % 2 ^ 64 } } (.rdmaRead p.qpn p.psn (le 8 s.repl.word))

/-- RDMA_FETCH_AND_ADD (R509, R514): on an 8-byte-aligned address; indivisible. -/
def execRdmaFetchAndAdd (p : RdmaPkt) (key : Bool) (addr add : Nat) (s : State) : Res :=
  onlyIf (s.rdmaOn && (s.frontOf p.fp).up) s (fun s => s.wordOp p key (decide (addr % 8 = 0)) (fun s => s.putWord p (s.repl.word + add)))

/-- RDMA_COMPARE_AND_SWAP (R514, R530). -/
def execRdmaCompareAndSwap (p : RdmaPkt) (key : Bool) (addr cmp swap : Nat) (s : State) : Res :=
  onlyIf (s.rdmaOn && (s.frontOf p.fp).up) s (fun s =>
    s.wordOp p key (decide (addr % 8 = 0)) (fun s => s.putWord p (if s.repl.word = cmp then swap else s.repl.word)))

/-! ### The requester (R512, R516, R521, R524) -/

/-- The last PSN of a work request. -/
def WorkReq.lastPsn (w : WorkReq) : Nat := psnAdd w.psn (w.packets - 1)

/-- Complete the work acknowledged up to a PSN, with the credits carried. -/
def State.ackUpTo (s : State) (n psn : Nat) (credits : Option Nat) : State :=
  match SMap.get s.rdma.qps n with
  | none => s
  | some q =>
    let gone := fun (w : WorkReq) => decide (psnDist psn w.lastPsn < 2 ^ 23)
    let s1 := s.setQp n { q with unacked := q.unacked.filter (fun w => !gone w), credits := credits.getD q.credits, timerAt := s.time.t
                                 retries := if q.unacked.any gone then 0 else q.retries }
    (q.unacked.filter gone).foldl (fun (acc : State) (w : WorkReq) => acc.workDone n w.wr 0) s1

/-- Go back to a PSN (R512, R524): every message from it on is sent again, its r raised by one; past `rdma.retry_cnt` the queue pair
fails with ST_RDMA_RETRY_EXCEEDED. -/
def State.goBack (s : State) (n psn : Nat) : State :=
  match SMap.get s.rdma.qps n with
  | none => s
  | some q =>
    if s.p p_rdma_retry_cnt ≤ q.retries then s.qpError n ST_RDMA_RETRY_EXCEEDED ST_RDMA_RETRY_EXCEEDED
    else
      let late := fun (w : WorkReq) => decide (psnDist w.lastPsn psn < 2 ^ 23)
      let ws := q.unacked.map (fun (w : WorkReq) => if late w then { w with resent := w.resent + 1 } else w)
      let q1 := { q with unacked := ws, retries := q.retries + 1, timerAt := s.time.t }
      (ws.filter late).foldl (fun (acc : State) (w : WorkReq) =>
        let skip := if psnDist psn w.psn < w.packets then psnDist psn w.psn else 0
        acc.sendPkts n (psnAdd w.psn skip) ((acc.portsFor q1 w).drop skip)) (s.setQp n q1)

/-- RDMA_NAK (R512, R515, R524): kind 0 sequence error, 1 Invalid Request, 2 Remote Access Error, 3 RNR. -/
def execRdmaNak (qpn : Nat) (psn : Fin 16777216) (kind : Fin 4) (s : State) : Res :=
  onlyIf (s.rdmaOn && (match SMap.get s.rdma.qps qpn with | some q => q.state == 1 | none => false)) s fun s =>
    let s1 := s.ackUpTo qpn (psnAdd psn (2 ^ 24 - 1)) none
    if kind.val = 1 ∨ kind.val = 2 then s1.qpError qpn ST_RDMA_REMOTE_ERROR ST_RDMA_FLUSHED else s1.goBack qpn psn

/-- Ticks of the local ACK timeout (R542): 4.096 µs x 2^value. -/
def State.ackTicks (s : State) : Nat := (4096 * 2 ^ s.p p_rdma_ack_timeout + 9) / 10

/-- RDMA_ACK_TIMEOUT (R512). -/
def execRdmaAckTimeout (qpn : Nat) (s : State) : Res :=
  .next (match (if s.rdmaOn then SMap.get s.rdma.qps qpn else none) with
    | none => s
    | some q =>
      match q.unacked with
      | [] => s
      | w :: _ => if q.state = 1 ∧ q.timerAt + s.ackTicks ≤ s.time.t then s.goBack qpn w.psn else s)

/-- RDMA_CNP (R516): the send rate halves. -/
def execRdmaCnp (qpn : Nat) (s : State) : Res :=
  .next (match (if s.rdmaOn then SMap.get s.rdma.qps qpn else none) with
    | none => s
    | some q =>
      if s.p p_rdma_cc_enable = 1 ∧ q.state = 1 then s.setQp qpn { q with rate := q.rate / 2, cnpGot := some s.time.t } else s)

/-- RDMA_RATE_RESTORE (R516): 1/16 of line rate for every 55 µs without a notification. -/
def execRdmaRateRestore (qpn : Nat) (s : State) : Res :=
  .next (match (if s.rdmaOn then SMap.get s.rdma.qps qpn else none) with
    | none => s
    | some q =>
      match q.cnpGot with
      | some t =>
        if q.state = 1 ∧ q.rate < 65536 ∧ t + 5500 ≤ s.time.t then s.setQp qpn { q with rate := min 65536 (q.rate + 4096), cnpGot := some s.time.t } else s
      | none => s)

/-- SPRAY_HOLE_TIMEOUT (R524): a PSN missing for `rdma.spray_hole_us` is named in a NAK; its timer starts again. -/
def execSprayHoleTimeout (qpn : Nat) (psn : Fin 16777216) (s : State) : Res :=
  .next (match (if s.rdmaOn then SMap.get s.rdma.qps qpn else none) with
    | none => s
    | some q =>
      match q.spray with
      | none => s
      | some r =>
        if r.holes.any (fun h => h.1 == psn.val && decide (h.2 + s.p p_rdma_spray_hole_us * 100 ≤ s.time.t)) then
          (s.setQp qpn { q with spray := some { r with holes := r.holes.map (fun h => if h.1 = psn.val then (h.1, s.time.t) else h) } }).emit
            (.rdmaNak qpn psn 0)
        else s)

/-- RDMA_DEVICE_FATAL (R517): every queue pair enters the error state, and the head leaves service as a failed head. -/
def execRdmaDeviceFatal (s : State) : Res :=
  onlyIf (s.fw && s.isHead) s fun s =>
    let s1 := State.alarm { s with rdma := { s.rdma with fatal := true } } AL_RDMA_DEVICE_FATAL 0
    let s2 := (SMap.keys s1.rdma.qps).foldl (fun acc n => acc.qpError n ST_RDMA_FLUSHED ST_RDMA_FLUSHED) s1
    let s3 := s2.standDown
    State.anaUpdate { s3 with seam := { s3.seam with own := 3 } }

/-- Phase 0 (R517, R518, R543): queue pairs of a lost port fail, a port to be stopped stops, the misses of the epoch are counted. -/
def State.rdmaBoundary (s : State) : State :=
  let bad := (s.rdma.qps.filter (fun e => e.2.failing)).map (·.1)
  let s1 := bad.foldl (fun acc n => acc.qpError n ST_RDMA_FLUSHED ST_RDMA_FLUSHED) s
  let s2 := { s1 with front := s1.front.map (fun (f : FrontPort) => if f.stopping then { f with up := false, speed := 0 } else f) }
  { s2 with rdma := { s2.rdma with lastMisses := s2.rdma.misses, misses := 0 } }

end Sys2Proof.Machine
end

