-- ==== Sys2Proof/Machine/Reset.lean ====
section
/-! DEFINITION. Power failure (R453, R500, R611 to R614), resets and restarts (R10, R64, R85, R200, R559, R560, R612, R615), clock
inputs (R617), rail faults (R604), temperature readings and the thermal trip (R622 to R624). -/

namespace Sys2Proof.Machine

/-! ### Power failure -/

/-- Where the dump goes: an erased dump area (R453). -/
def State.dumpArea (s : State) : Option Nat := (List.range 2).find? (fun j => s.sh.dumpErased.getD j false)

/-- Items not yet power-safe are discarded; the shelf forgets them (R453 step 1). -/
def State.plbDiscard (s : State) : State :=
  let lost := (s.sh.plb.filter (fun i => !i.safe)).map (·.tag)
  { s with sh := { s.sh with plb := s.sh.plb.filter (·.safe), kept := s.sh.kept.filter (fun k => !lost.contains k.tag) } }

/-- The dump is done: the area holds every occupied sector and the DUMP record follows (R453 steps 3 and 4, R455). -/
def State.dumpEnd (s : State) : State :=
  let sectors := s.sh.plb.foldl (fun a i => a + i.sectors) 0
  let s1 := s.ftlRec (.dump sectors s.keep.seq)
  State.event { s1 with
    sh := { s1.sh with dumping := false, dumpPending := true }
    keep := { s1.keep with dump := s1.sh.plb, seq := s1.keep.seq + sectors } } EV_FTL_DUMP_DONE 0

/-- Begin the dump, where there is something to dump (R453). -/
def State.dumpBegin (s : State) : State :=
  match s.dumpArea with
  | some j =>
    if s.sh.plb.isEmpty then s
    else { s with sh := { s.sh with dumping := true, dumpErased := s.sh.dumpErased.set j false } }
  | none => s

/-- Every Hem write in progress becomes durable (R154, R611). -/
def State.hemSettle (s : State) : State :=
  { s with head := { s.head with st0 := s.head.st0.settled, st1 := s.head.st1.settled }, hem := { s.hem with looseSif := [], looseCk := [] } }

/-- A record that was not durable when power went: whether it stands whole is open (R153, R154, R160), and a free value decides it. Either it was
never written, or it is torn, or it stands. -/
def State.cutRec (s : State) (open' : Bool) (drop torn : State → State) : State :=
  if !open' then s
  else
    let r := s.takeFree
    if r.1 % 3 = 0 then drop r.2 else if r.1 % 3 = 1 then torn r.2 else r.2

/-- Stage HEM will find records without a valid commit unit (R160). -/
def State.noteTorn (s : State) (rs : List HemRec) : State := { s with hem := { s.hem with torn := s.hem.torn ++ rs } }

/-- SIF records and checkpoints written since the last phase 0: a SIF record, one unit, keeps its old or its new content; a checkpoint stands, is
torn or was not begun (R153, R160). -/
def State.cutLoose (s : State) : State :=
  let back := fun (e : Nat × Option SifRec) (a : State) => { a with hem := { a.hem with
    sif := match e.2 with | some r => SMap.set a.hem.sif e.1 r | none => SMap.del a.hem.sif e.1 } }
  let sif := fun (acc : State) (e : Nat × Option SifRec) => acc.cutRec true (back e) (back e)
  let ck := fun (acc : State) (x : Nat × Nat × Bool) =>
    acc.cutRec true (fun a => a.dropRec (.ckpt x.1 x.2.1 x.2.2)) (fun a => a.noteTorn [.ckpt x.1 x.2.1 x.2.2])
  let s1 := s.hem.looseCk.foldl ck (s.hem.looseSif.foldl sif s)
  { s1 with hem := { s1.hem with looseSif := [], looseCk := [] } }

/-- What a loss of power may take of a head's Hem: the records of each epoch that are not durable (R154, R160). The batches of the other
classes come before the BODY header, so its FENCE covers them (log 96). -/
def State.hemCut (s : State) : State :=
  let is := fun (i n kind : Nat) (h : BundleHdr) => h.stream == i && h.epn == n && h.kind == kind
  let hdr := fun (i n kind : Nat) (open' : Bool) (a : State) =>
    a.cutRec open' (fun a => { a with hem := { a.hem with bundles := SMap.keep a.hem.bundles (fun _ h => !is i n kind h) } })
      (fun a => a.noteTorn ((a.hem.bundles.filter (fun e => is i n kind e.2)).map (fun e => .bundle e.1)))
  let batch := fun (i seq : Nat) (open' : Bool) (a : State) =>
    a.cutRec open' (fun a => a.setRingHem i ((a.ringHem i).drop seq)) (fun a => a.noteTorn [.batch i seq])
  let cut := fun (i : Nat) (acc : State) (e : Nat × Bundle) =>
    let b := e.2
    batch i b.batchSeq (b.bodied && !b.durBatch) (hdr i e.1 2 (b.bodyHdr.isSome && !b.durBody) (hdr i e.1 1 (b.sealHdr.isSome && !b.durSeal) acc))
  let others := fun (i : Nat) (acc : State) (x : Batch) =>
    let b := acc.bundle i x.epn
    batch i x.ringSeq (x.cls != 0 && b.bodied && !b.durBody) acc
  let s1 := s.head.st1.bundles.foldl (cut 1) (s.head.st0.bundles.foldl (cut 0) s)
  (s1.hem.s1.batches.foldl (others 1) (s1.hem.s0.batches.foldl (others 0) s1)).cutLoose

/-- What a part does when POWER_FAIL_N takes effect (R611; R453 and R500 on a shelf): a head's Hem writes become durable and its engines
park. -/
def State.pfActions (s : State) : State :=
  if s.isShelf then (s.flashPowerFail).plbDiscard.dumpBegin
  else State.hemSettle { s with eng := s.eng.map (fun e => { e with parked := true }) }

/-- POWER_FAIL_N takes effect (R611), with its record (R614). -/
def State.pfAssert (s : State) : State :=
  if s.power.pfAsserted then s
  else
    let s1 := s.event EV_POWER_PF_ASSERT 0
    State.pfActions { s1 with
      power := { s1.power with pfAsserted := true }, hem := { s1.hem with pf := .asserted } }

/-- POWER_FAIL_N_ASSERT (R611). -/
def execPowerFailNAssert (s : State) : Res := onlyIf s.live s State.pfAssert

/-- DUMP_DONE (R453). -/
def execDumpDone (s : State) : Res := onlyIf (s.live && s.isShelf && s.sh.dumping) s State.dumpEnd

/-- HOLDUP_MET (R614): the hold-up time has passed with every rail within tolerance. -/
def execHoldupMet (s : State) : Res :=
  onlyIf (s.live && s.hem.pf == .asserted) s (fun s => { s with hem := { s.hem with pf := .met } })

/-- POWER_FAIL_N_RELEASE (R453, R500, R611), every rail within tolerance. -/
def execPowerFailNRelease (s : State) : Res :=
  onlyIf (s.live && s.power.pfAsserted) s fun s =>
    let s1 := s.event EV_POWER_PF_RELEASE 0
    let s2 := { s1 with power := { s1.power with pfAsserted := false } }
    if s2.isShelf then s2.flashPowerBack.kickAll
    else State.pump (State.drainAll { s2 with
      eng := s2.eng.map (fun e => { e with parked := decide (e.exc ≠ 0) }), power := { s2.power with resuming := true } })

/-- RAIL_FAULT (R604): an undervoltage on some rails acts as POWER_FAIL_N. -/
def execRailFault (r : Fin 11) (mv : Nat) (s : State) : Res :=
  onlyIf s.live s fun s =>
    let s1 := s.railOut r mv
    if pfRails.contains r.val && s.railUnder r mv && !s1.power.pfAsserted then s1.pfAssert else s1

/-! ### Restarts -/

/-- Pages that a program cut by power loss leaves (R501): they decode no more. -/
def State.cutProgram (s : State) (x : FlReq) : State :=
  let f := freePages false (s.progPlaces x.req) s
  { f.2 with flash := { f.2.flash with pages := storePages (reqBlock x.req) f.1 f.2.flash.pages } }

/-- The programs that run on the dies: cut, or run to completion while power lasts (R453). -/
def State.endPrograms (s : State) (cut : Bool) : State :=
  (List.range 32).foldl (fun acc c =>
    (s.chan c).luns.foldl (fun a e => match e.2.running with
      | some x =>
        if x.op != .program then a
        else if cut then a.cutProgram x
        else { a with flash := { a.flash with pages := storePages (reqBlock x.req) ((s.progPlaces x.req).zip x.pages) a.flash.pages } }
      | none => a) acc) s

/-- A Firmware Commit cut by a restart leaves its slot erased, with a free number of the image's first bytes written (log 6). -/
def State.cutCommit (s : State) : State :=
  match s.nvme.fwCommit with
  | none => s
  | some f =>
    let n := s.takeFree
    { n.2 with nor := writeCopy n.2.nor f.slot (f.img.take (n.1 % (f.img.length + 1))) }

/-- What every reset leaves standing: pins, OTP, NOR, the Hem's content (R64), flash pages, a shelf's power-safe classes, lifetime
counters of the host interface (log 71), an interrupted self-test (R194), what has been sent, and the waiting commands. -/
def State.cold (s : State) : State :=
  { State.reset with
    pins := s.pins, otp := s.otp, nor := s.nor, free := s.free, out := s.out, pending := s.pending, keep := s.keep
    hem := { s.hem with scanDone := false, crcErrs := 0, fresh := false, c0 := {}, c1 := {} }
    flash := { pages := s.flash.pages }
    nvme := { test := s.nvme.test, testLog := s.nvme.testLog, sanitizes := s.nvme.sanitizes, bytesRead := s.nvme.bytesRead
              bytesWritten := s.nvme.bytesWritten, mediaErrors := s.nvme.mediaErrors, errCount := s.nvme.errCount
              hostReads := s.nvme.hostReads, hostWrites := s.nvme.hostWrites, powerCycles := s.nvme.powerCycles }
    time := { up := s.time.up, busy := s.time.busy }
    power := { tripped := s.power.tripped, noted := s.power.noted } }

/-- What PD00 keeps beyond that over a warm reset (R10, R61, R117, R172, R628), and the counters counted since the release of POR_N
(log 70). -/
def State.warm (s : State) : State :=
  let c := s.cold
  let l := s.ledger
  { c with
    time := { c.time with t := s.time.t, tBase := s.time.tBase, eBase := s.time.eBase, lenUs := s.epochLen / 100 }
    ledger := { c.ledger with
      nextSlot := l.nextSlot, state := l.state, prevIncomplete := l.prevIncomplete, chainBroken := l.chainBroken, newestSeq := l.newestSeq
      bootCount := l.bootCount }
    hem := { c.hem with crcErrs := s.hem.crcErrs }
    power := { s.power with
      budgetCut := 0, resuming := false, hbmC := [0, 0, 0, 0], sdsC := [0, 0]
      pd := s.power.pd.map (fun v => { upCount := v.upCount, peakMw := v.peakMw })
      ts := s.power.ts.map (fun v => { max := v.max, min := v.min }) }
    cam := { c.cam with falseHits := s.cam.falseHits, mirrorDiffs := s.cam.mirrorDiffs }
    press := { c.press with selfChecks := s.press.selfChecks, formatErrs := s.press.formatErrs }
    cipher := { c.cipher with mismatches := s.cipher.mismatches }
    parity := { c.parity with mismatches := s.parity.mismatches }
    head := { c.head with rinseRepairs := s.head.rinseRepairs, rinseUnresolved := s.head.rinseUnresolved }
    repl := { c.repl with bytesSent := s.repl.bytesSent }
    port := s.port.map (fun q => { retrains := q.retrains })
    flash := { c.flash with chans := s.flash.chans.map (fun (q : ChanSt) => { uncorr := q.uncorr }) } }

/-- The actions before a reset of R612: those of R611, or those of R453 with the dump; then RESET in the power-fail record, unless the
note of R614 still waits. -/
def State.beforeReset (s : State) : State :=
  let s1 := if s.power.pfAsserted then s else s.pfActions
  let s2 := s1.endPrograms false
  let s3 := if s2.sh.dumping then s2.dumpEnd else s2
  { s3 with hem := { s3.hem with pf := if s3.power.noted then s3.hem.pf else .reset } }

/-- Restart the part (R64, R612) for a RESET_CAUSE; a shelf's planned restart writes its shard first (R266). -/
def State.restart (s : State) (cause : Nat) : State :=
  let s0 := if s.isShelf && cause == 4 then s.writeShard else s
  let s1 := s0.beforeReset.cutCommit.warm
  { s1 with power := { s1.power with resetCause := cause } }

/-- An assertion of a reset input: with every rail within tolerance the actions come first (R612); without, power fails on the spot. -/
def State.assertReset (s : State) (railsGood : Bool) : State :=
  if railsGood then s.beforeReset.cutCommit else ((s.endPrograms true).cutCommit).hemCut

/-- POR_N_ASSERT (R612, R615). -/
def execPorNAssert (railsGood : Bool) (s : State) : Res :=
  onlyIf s.pins.porN s fun s =>
    let s1 := (if s.live then s.assertReset railsGood else s).cold
    { s1 with pins := { s1.pins with porN := false, thermtripN := true } }

/-- POR_N_RELEASE (R2, R10, R64, R615, R624): straps are sampled, every register is at its default. -/
def execPorNRelease (roleSel : Fin 4) (siteId : Fin 64) (s : State) : Res :=
  onlyIf (!s.pins.porN) s fun s =>
    let s1 := s.cold
    let trip := s1.power.tripped
    let s2 := { s1 with
      pins := { s1.pins with porN := true, thermtripN := true, roleSel := roleSel, siteId := siteId, sampled := true }
      nvme := { s1.nvme with powerCycles := s1.nvme.powerCycles + 1 }
      power := { s1.power with resetCause := if trip then 5 else 1, tripped := false } }
    if trip then s2.alarm AL_POWER_THERMTRIP 0 else s2

/-- WARM_RST_N_ASSERT (R612, R615). -/
def execWarmRstNAssert (railsGood : Bool) (s : State) : Res :=
  onlyIf (s.pins.porN && s.pins.warmN && !s.power.tripped) s fun s =>
    let s1 := (if s.pins.sysclk then s.assertReset railsGood else s).warm
    { s1 with pins := { s1.pins with warmN := false } }

/-- WARM_RST_N_RELEASE (R10, R64, R615): PD00 keeps its state, the straps are not sampled again. -/
def execWarmRstNRelease (s : State) : Res :=
  onlyIf (s.pins.porN && !s.pins.warmN) s fun s =>
    { s with pins := { s.pins with warmN := true }, power := { s.power with resetCause := 2 } }

/-- The ready watchdog runs (R85): from stage FIRMWARE to JOIN, but not in WAIT_TIME, in RECOVERY or while held. -/
def State.watchdogRuns (s : State) : Bool :=
  s.live && !s.boot.readyDone && (match s.boot.stage with
    | .firmware => true
    | .links => true
    | .join => s.boot.holds.isEmpty
    | _ => false)

/-- READY_WATCHDOG_EXPIRY (R64, R85). -/
def execReadyWatchdogExpiry (s : State) : Res := onlyIf s.watchdogRuns s (fun s => s.restart 3)

/-- MGMT_RESTART (R559, R560): refused for a head whose peer is not in service, except in recovery mode. -/
def execMgmtRestart (tag : Byte) (s : State) : Res :=
  s.mgmtCmd 9 tag.toNat fun s =>
    if s.isHead && s.boot.stage != .recoveryMode && !s.peerUp then s.respond 9 tag.toNat 3 none []
    else (s.respond 9 tag.toNat 0 none []).restart 4

/-- NSSR_WRITE (R89, R200): the register of the physical function, or the property of a Fabrics association. -/
def execNssrWrite (cntlid : Nat) (s : State) : Res :=
  let k := s.ctrlKind cntlid
  onlyIf (s.fw && s.isHead && ((k == .pf && s.pins.perstN) || (k.fabric && (s.ctrl cntlid).hostNqn.isSome))) s fun s =>
    if !s.peerUp then s.event EV_NVME_RESTART_REFUSED 0
    else
      let s1 := s.restart 4
      s1.setCtrl cntlid { s1.ctrl cntlid with nssro := true }

/-! ### Clock inputs (R617) -/

/-- Sources of AL_POWER_CLOCK: the part; the input is not named. -/
def clockSrc : Nat := srcOf 0 0

/-- Spoke ports of a SerDes die (R592). -/
def dieSpokes (d : Nat) : List Nat := if d = 0 then List.range 56 else (List.range 8).map (· + 56)

/-- The lanes of a SerDes die go down (R592, R617). -/
def State.dieDown (s : State) (d : Nat) : State :=
  let s1 := (dieSpokes d).foldl (fun acc p => if s.portThere p && (acc.portOf p).linked then acc.portDown p else acc) s
  if d = 1 ∧ s1.isHead then
    let s2 := (List.range 16).foldl (fun acc p => if (acc.frontOf p).up then acc.frontDown p else acc) s1
    let s3 := s2.setLanes 0
    if s3.nvme.hpUp then State.alarm { s3 with nvme := { s3.nvme with hpUp := false } } AL_NVME_LINK_DEGRADED 0 else s3
  else s1

/-- A clock input: SYSCLK 0, SDS_REFCLK0 1, SDS_REFCLK1 2, HP_REFCLK 3. -/
def Pins.clock (p : Pins) (c : Nat) : Bool := if c = 0 then p.sysclk else if c = 1 then p.sds0 else if c = 2 then p.sds1 else p.hpClk
def Pins.setClock (p : Pins) (c : Nat) (b : Bool) : Pins :=
  if c = 0 then { p with sysclk := b } else if c = 1 then { p with sds0 := b } else if c = 2 then { p with sds1 := b } else { p with hpClk := b }

/-- CLOCK_INPUT_LOSS (R617). -/
def execClockInputLoss (c : Fin 4) (s : State) : Res :=
  onlyIf (s.pins.porN && s.pins.clock c) s fun s =>
    let s1 := State.alarm { s with pins := s.pins.setClock c false } AL_POWER_CLOCK clockSrc
    if c.val = 0 then s1
    else if !s1.fw then s1
    else if c.val = 3 then
      (if s1.isHead && s1.nvme.hpUp then State.alarm { s1 with nvme := { s1.nvme with hpUp := false } } AL_NVME_LINK_DEGRADED 0 else s1)
    else s1.dieDown (c.val - 1)

/-- SYSCLK_RETURN (R617): the part restarts, with RESET_CAUSE 6 (R628). -/
def execSysclkReturn (s : State) : Res :=
  onlyIf (s.pins.porN && !s.pins.sysclk) s fun s =>
    let s1 := ((s.endPrograms true).cutCommit).warm
    { s1 with pins := { s1.pins with sysclk := true }, power := { s1.power with resetCause := 6 } }

/-- CLOCK_INPUT_RESTORED (R617, R629): the alarm clears once every input is within its limits. -/
def execClockInputRestored (c : Fin 4) (s : State) : Res :=
  onlyIf (s.pins.porN && c.val != 0 && !s.pins.clock c) s fun s =>
    let s1 := { s with pins := s.pins.setClock c true }
    if s1.pins.sysclk && s1.pins.sds0 && s1.pins.sds1 && s1.pins.hpClk then s1.clearAlarm AL_POWER_CLOCK clockSrc else s1

/-! ### Temperature (R622 to R624) -/

/-- The thermal trip (R624): the actions of a power failure, then every clock but PD00's stops. -/
def State.trip (s : State) : State :=
  let s1 := (if s.power.pfAsserted then s else s.pfActions).endPrograms false
  let s2 := if s1.sh.dumping then s1.dumpEnd else s1
  { s2 with pins := { s2.pins with thermtripN := false }, power := { s2.power with tripped := true } }

/-- A shelf's NAND readings (R470). -/
def State.nandRead (s : State) (t : Int) : State :=
  let h := s.sh.health
  let v : HealthSt := { h with
    tempNow := t, tempMax := max h.tempMax t, tempMin := min h.tempMin t, hourMin := min h.hourMin t, hourMax := max h.hourMax t }
  let s1 := { s with sh := { s.sh with health := v } }
  let s2 := if decide ((s.p p_shelf_nand_temp_max_c : Int) < t) then s1.alarm AL_FTL_TEMP 0 else s1.clearAlarm AL_FTL_TEMP 0
  let s3 := if s2.sparePct < s2.p p_ftl_spare_warn_pct then s2.alarm AL_FTL_SPARE_LOW 0 else s2.clearAlarm AL_FTL_SPARE_LOW 0
  { s3 with sh := { s3.sh with sample := some s3.healthEntry } }

/-- HEALTH_SAMPLING (R52, R469, R470, R622 to R624): the window 7/8 to 1. A head asks every shelf for its health entry (log 41). -/
def execHealthSampling (logic hbm sds : List Int) (nand : Option Int) (s : State) : Res :=
  onlyIf (s.fw && (!s.time.tSet || s.windowOpen 7 8)) s fun s =>
    let s0 := if s.time.tSet then s.inWindow 7 else s
    let s1 := (s0.temps logic hbm sds).thermalAct
    if s1.tripAt then s1.trip
    else
      match nand with
      | some t => if s1.isShelf then s1.nandRead t else s1
      | none => if s1.isHead then s1.sites.foldl (fun acc i => (acc.request i .health).2) s1 else s1

end Sys2Proof.Machine
end

