-- ==== Sys2Proof/Machine/Start.lean ====
section
/-! DEFINITION. Stages FIRMWARE and LINKS, and a shelf's stage RECOVERY (R76 to R82, R84, R269, R290, R297, R309, R314, R315, R379, R465 to
R468, R474 to R479, R603, R608, R614). -/

namespace Sys2Proof.Machine

/-! ### FIRMWARE -/

/-- Known-answer tests (R269, R290, R297, R309, R379): units that fail never receive work. -/
def State.applyKat (s : State) (k : KatResult) : State :=
  let s1 := { s with
    digest := { s.digest with pipeOk := k.digestPipes }
    cipher := { s.cipher with pairOk := if s.isHead then k.cipherPairs else 0, drbgOk := k.drbg }
    press := { s.press with clOk := if s.isHead then k.compressLanes else 0, dlOk := if s.isHead then k.decompressLanes else 0 }
    parity := { s.parity with katOk := k.parity } }
  let s2 := if k.digestPipes = 15 then s1 else s1.alarm AL_DIGEST_PIPE_FAULT 0
  let s3 := if k.parity then s2 else s2.alarm AL_PARITY_KAT_FAIL 0
  if !s.isHead then s3
  else
    let bad := fun (n : Nat) (ok : Nat → Bool) => (List.range n).filter (fun i => !ok i)
    let s4 := (bad 16 k.cipherPairs.getLsbD).foldl (fun acc p => acc.alarm AL_CIPHER_PAIR_FAULT (srcOf 7 p)) s3
    let s5 := (bad 64 k.compressLanes.getLsbD).foldl (fun acc l => acc.alarm AL_PRESS_LANE_FAULT (laneSrc false l)) s4
    (bad 64 k.decompressLanes.getLsbD).foldl (fun acc l => acc.alarm AL_PRESS_LANE_FAULT (laneSrc true l)) s5

/-- A key envelope entry (R314): kind, owner wrapping key, label, wrapped KEK. -/
def envEntry (b : Bytes) : Nat × Nat × Nat × Bytes := (num b 0 2, num b 2 1, num b 4 4, sub b 16 40)

/-- The entries of the key envelopes section (R314). -/
def envEntries (sec : Bytes) : List (Nat × Nat × Nat × Bytes) :=
  if sub sec 0 4 == [0x4B, 0x45, 0x4E, 0x56] then (List.range (num sec 6 2)).map (fun i => envEntry (sub sec (16 + 64 * i) 64)) else []

/-- Unwrap one entry (R315); none where its owner key is unprogrammed or revoked, or the unwrap fails. -/
def State.unwrapEnv (s : State) (e : Nat × Nat × Nat × Bytes) : Option Bytes :=
  match s.otp.owner[e.2.1]? with
  | some o => if o.st = 1 then kwUnwrap o.wrapKey e.2.2.2 else none
  | none => none

/-- Load a KEK into its slot (R312). -/
def State.loadKek (s : State) (e : Nat × Nat × Nat × Bytes) (key : Bytes) : State :=
  let slot : KeySlot := { state := 1, type := 1, use := 2, key := key }
  if e.1 = 1 then
    let s1 := s.setKeySlot 1024 slot
    { s1 with cipher := { s1.cipher with kekId := e.2.2.1 } }
  else
    let s1 := s.setKeySlot 1025 slot
    { s1 with cipher := { s1.cipher with partnerKekId := e.2.2.1 } }

/-- The envelopes at stage FIRMWARE (R315): a failure holds the head out of service (R85). -/
def State.envelopes (s : State) : State :=
  let es := envEntries s.boot.keyEnv
  let ok := es.all (fun e => (s.unwrapEnv e).isSome) && es.any (·.1 == 1)
  let s1 := es.foldl (fun acc e => match s.unwrapEnv e with | some k => acc.loadKek e k | none => acc) s.keysReset
  if ok then s1
  else
    let s2 := s1.alarm AL_CIPHER_ENVELOPE 0
    { s2 with boot := { s2.boot with holds := [AL_CIPHER_ENVELOPE] } }

/-- The configuration conditions of R607 under which a domain is off. -/
def State.pdIdle (s : State) (d : Nat) : Bool :=
  if 32 ≤ d ∧ d ≤ 35 then (List.range 4).all (fun i => s.pi p_eth_port_speed (4 * (d - 32) + i) == 0)
  else if 36 ≤ d ∧ d ≤ 43 then s.isHead && decide (s.nShelves ≤ 8 * (d - 36))
  else if 45 ≤ d ∧ d ≤ 48 then (List.range 8).all (fun i => !bit (s.p p_flash_channel_mask) (8 * (d - 45) + i))
  else false

/-- Switch idle domains off (R608). -/
def State.idleDomains (s : State) : State :=
  (List.range 50).foldl (fun acc d =>
    if acc.pdRole d && acc.pdIdle d && acc.pi p_power_pd_idle_gate d == 1 then acc.switchOff d else acc) s

/-- Act on the power-fail note (R614). -/
def State.holdupAct (s : State) : State :=
  let fail := s.power.noted && s.p p_power_holdup_check == 1
  let s1 := { s with
    power := { s.power with noted := false, holdupFail := fail }, nvme := { s.nvme with holdupWarn := fail && s.isHead } }
  if fail then s1.alarm AL_POWER_HOLDUP 0 else s1

/-- The parameter block failed R79 (R82): its copy is excluded, and the part restarts with RESET_CAUSE 7. -/
def State.schemaFail (s : State) : State :=
  let h := headerHash s.nor s.boot.copy
  let r := s.boot.bcr
  (s.bcrWrite (if s.boot.copy = .a then { r with schemaFailA := h } else { r with schemaFailB := h })).restart 7

/-- BOOT_FIRMWARE (R79, R82, R84). -/
def execBootFirmware (k : KatResult) (s : State) : Res :=
  onlyIf (s.atStage .firmware) s fun s =>
    match parseParams s.boot.paramBlock with
    | none => s.schemaFail
    | some ps =>
      let s1 := { s with
        params := ps
        eng := s.eng.map (fun (e : EngSt) => { e with started := true, parked := s.power.pfAsserted })
        time := { s.time with sourcePtp := s.isHead && paramNat ps p_time_source 0 == 1, lenUs := paramNat ps p_epoch_length_us 0 } }
      let s2 := s1.placeHbm.holdupAct.setVcore.idleDomains.applyKat k
      let s3 := if s2.isHead then s2.envelopes.setRegions else s2
      s3.toStage .links

/-! ### LINKS -/

/-- The clock of a spoke port's die is there (R592, R617). -/
def State.portClock (s : State) (p : Nat) : Bool := if p < 56 then s.pins.sds0 else s.pins.sds1

/-- The index of the first profile entry that fits a die (R476 step 2). -/
def State.dieProfile (s : State) (d : DieFound) : Option Nat :=
  let f := s.boot.profile
  (List.range (num f 6 2)).find? (fun i =>
    let o := 16 + 512 * i
    (List.range 8).all (fun j =>
        let m := num f (o + 8 + j) 1
        (m &&& num d.idBytes j 1) == (m &&& num f (o + j) 1))
      && num f (o + 21) 1 == d.planes && num f (o + 24) 2 == d.blocks && num f (o + 26) 2 == d.pages)

/-- Train one channel (R474, R476): at the profile's rate, or a lower step that passed, or not at all. -/
def State.trainChan (s : State) (c passed : Nat) (dies : List DieFound) : State :=
  let want := min (min (s.prof 18 2) (s.p p_flash_rate_cap_mts)) 3600
  let v := s.chan c
  if passed = 0 then (s.setChan c { v with state := 0, present := 0 }).alarm AL_FLASH_CHANNEL_FAULT (srcOf 4 c)
  else
    let present := dies.foldl (fun a d => a + 2 ^ dieIdx d.ce d.lun) 0
    let r := min passed want
    let s1 := s.setChan c { v with
      enable := true, state := 3, rate := r, std := s.prof 16 1, lpddr := s.prof 17 1 == 1, present := BitVec.ofNat 16 present
      degraded := decide (r < want) }
    if r < want then s1.alarm AL_FLASH_CHANNEL_DEGRADED (srcOf 4 c) else s1

/-- Enumerate the flash channels (R476). -/
def State.enumerate (s : State) (f : LinksFound) : State :=
  let on := fun (c : Nat) => bit (s.p p_flash_channel_mask) c && s.pdOn (45 + c / 8)
  let dies := f.dies.filter (fun d => on d.channel)
  let ids := (dies.map s.dieProfile).eraseDups
  let s1 := match ids with
    | [some i] => { s with flash := { s.flash with profile := some i } }
    | _ => if dies.isEmpty then s else State.alarm { s with boot := { s.boot with holds := [AL_FLASH_PROFILE_MISSING] } } AL_FLASH_PROFILE_MISSING 0
  (List.range 32).foldl (fun acc c =>
    if on c then acc.trainChan c (match f.channelRates.find? (·.1.val == c) with | some x => x.2 | none => 0) (dies.filter (·.channel.val == c))
    else acc) s1

/-- BOOT_LINKS: the ports in use train, the others are idle (R17, R84, R177, R384, R416, R476, R506). -/
def execBootLinks (f : LinksFound) (s : State) : Res :=
  onlyIf (s.atStage .links) s fun s =>
    let mine := (List.range 64).filter (fun p => s.portThere p && s.pdOn (36 + p / 8))
    let s1 := (List.range 64).foldl (fun acc p => acc.setPort p { acc.portOf p with state := if mine.contains p then 1 else 4 }) s
    let s2 := (mine.filter (fun p => f.spokeTrained.any (·.val == p) && s.portClock p)).foldl State.spokeTrained s1
    if s2.isShelf then (s2.enumerate f).toStage .recovery
    else
      let s3 := if s2.pins.sds1 then s2.setLanes f.seamLanes else s2
      let s4 := (f.frontUp.filter (fun p => s.pi p_eth_port_speed p.val != 0 && s.pins.sds1)).foldl (fun acc p => acc.frontUp p.val) s3
      let hp := s4.nvme.hpOn && s4.pins.perstN && s4.pins.hpClk && decide (3 ≤ f.pcieGen) && (f.pcieWidth == 4 || f.pcieWidth == 8 || f.pcieWidth == 16)
      (if hp then s4.hpTrained f.pcieGen f.pcieWidth else s4).toStage .waitTime

/-! ### RECOVERY -/

/-- Hem journal records since the last FLUSH, applied to the map and the blocks (R466 step 2). -/
def State.recoverRec (s : State) (r : FtlRec) : State :=
  match r with
  | .discard strip _ => { s with sh := { s.sh with map := SMap.del s.sh.map strip } }
  | .bad b _ => s.setBlock b { s.block b with st := 4, closed := true }
  | .readOnly n => { s with keep := { s.keep with readOnly := n } }
  | .dump _ _ => s
  | .flush _ => s

/-- Page addresses of a block before the first page that is not programmed or fails its checks; in native mode whole wordlines only
(R467). -/
def State.goodPages (s : State) (b mode : Nat) : Nat :=
  let ok := fun (p : Nat) => (List.range s.planes).all (fun pl => match s.page b pl p with | some g => g.good && tagOk g.tag | none => false)
  let n := ((List.range (s.pagesOf mode)).takeWhile ok).length
  if mode = 0 then n else n / max s.cellBits 1 * max s.cellBits 1

/-- A page programmed beyond the first bad one, or itself bad: the block takes no more programs (R467). -/
def State.blockHurt (s : State) (b mode : Nat) : Bool :=
  let n := s.goodPages b mode
  (List.range (s.pagesOf mode - n)).any (fun j => (List.range s.planes).any (fun pl => (s.page b pl (n + j)).isSome))

/-- The mode an open block is in, by its first page's tag (R443). -/
def State.modeOf (s : State) (b : Nat) : Nat :=
  match s.page b 0 0 with
  | some g => if bit (tagFlags g.tag) 0 then 0 else 1
  | none => (s.block b).mode

/-- Strips that an open block's good pages hold: SHELF_SEQ, strip number, map entry (R466 step 3, R467). -/
def State.openStrips (s : State) (b : Nat) : List (Nat × Nat × Nat) :=
  let mode := s.modeOf b
  (s.stripsDone b (List.range (s.goodPages b mode))).map (fun x =>
    let seq := match s.page b 0 x.2.1 with | some g => tagSeq g.tag | none => 0
    (seq, x.1, mapEntry b x.2.1 mode))

/-- Insert in ascending SHELF_SEQ. -/
def insSeq (x : Nat × Nat × Nat) : List (Nat × Nat × Nat) → List (Nat × Nat × Nat)
  | [] => [x]
  | y :: ys => if x.1 < y.1 then x :: y :: ys else y :: insSeq x ys

/-- A DISCARD of the strip since the last FLUSH has a higher SHELF_SEQ (R467). -/
def discardedAfter (recs : List FtlRec) (strip seq : Nat) : Bool :=
  recs.any (fun r => match r with | .discard k q => k == strip && decide (seq < q) | _ => false)

/-- Step 3: SET changes from the tags of the open blocks (R466, R467). -/
def State.recoverOpen (s : State) : State :=
  let bs := s.keep.openBlocks.filter (fun b => (s.block b).st != 4)
  let sets := (bs.flatMap s.openStrips).foldl (fun a x => insSeq x a) []
  let s1 := (sets.filter (fun x => !discardedAfter s.keep.records x.2.1 x.1)).foldl (fun acc x => acc.mapSet x.2.1 x.2.2) s
  bs.foldl (fun acc b =>
    let mode := acc.modeOf b
    let n := acc.goodPages b mode
    let hurt := acc.blockHurt b mode
    acc.setBlock b { acc.block b with
      st := if acc.pagesOf mode ≤ n || hurt then 2 else 1, mode := mode, next := n, closed := hurt }) s1

/-- Blocks that hold a page, or that the table lists. -/
def State.knownBlocks (s : State) : List Nat := (SMap.keys s.sh.blocks ++ s.flash.pages.map (fun (e : Nat × FlPage) => e.1 / 16384)).eraseDups

/-- Steps 4 and 5: blocks to erase again, and blocks found erased (R466, R501). -/
def State.recoverBlocks (s : State) : State :=
  let s1 := s.openIntents.foldl (fun acc (r : Intent) => acc.setBlock r.block { acc.block r.block with st := 3 }) s
  s1.knownBlocks.foldl (fun acc b =>
    let v := acc.block b
    if v.st = 4 || v.st = 3 || acc.named b then acc
    else
      let last := acc.pagesOf v.mode - 1
      let dirty := (List.range acc.planes).any (fun pl => (acc.page b pl 0).isSome || (acc.page b pl last).isSome)
      acc.setBlock b { v with st := if dirty then 3 else 0, next := if dirty then v.next else 0, closed := false }) s1

/-- A DUMP record follows the last FLUSH. -/
def State.dumped (s : State) : Bool := s.keep.records.any (fun r => match r with | .dump _ _ => true | _ => false)

/-- The items that come back from the dump (R466 step 6, R468). -/
def State.restored (s : State) : List PlbItem :=
  if s.dumped then s.keep.dump.filter (fun i => s.keep.plbIndex.any (fun x => x.1 == i.tag && x.2.1 == i.sectors && x.2.2.1 == crc32c i.digest)) else []

/-- Step 6: the power-safe buffer (R466, R468). -/
def State.recoverDump (s : State) : State :=
  let back := s.restored
  let lost := s.keep.plbIndex.filter (fun x => !back.any (·.tag == x.1))
  let used := s.dumped || !s.keep.plbIndex.isEmpty
  let s1 := lost.foldl (fun acc _ => acc.event EV_FTL_ITEM_LOST 0) s
  let s2 := { s1 with
    sh := { s1.sh with
      plb := back, plbNext := back.foldl (fun (a : Nat) (i : PlbItem) => max a (i.first + i.sectors)) 0
      dumpErased := if used then [false, true] else [true, true], dumpPending := used
      dumpIncomplete := !s.dumped && !s.keep.plbIndex.isEmpty
      health := { s1.sh.health with powerLosses := if used then satInc 16 s1.sh.health.powerLosses else s1.sh.health.powerLosses } }
    keep := { s1.keep with plbIndex := s1.keep.plbIndex.filter (fun x => back.any (·.tag == x.1)), dump := [] } }
  let s3 := back.foldl (fun acc (i : PlbItem) => match i.body with
    | .image _ _ => acc
    | .packed h _ _ => acc.mapSet h.stripeId (mapEntry i.first 0 3)
    | .strip h _ => acc.mapSet h.stripeId (mapEntry i.first 0 3)) s2
  if s3.sh.dumpIncomplete then s3.alarm AL_FTL_DUMP_INCOMPLETE 0 else s3

/-- Step 7: flush the map (R457, R466). -/
def State.recoverFlush (s : State) : State :=
  let n := s.keep.flushNo + 1
  let spare := s.allBlocks * s.p p_ftl_spare_block_pct / 100
  let bad := (s.sh.blocks.filter (fun e => e.2.st == 4)).length
  let s1 : State := { s with
    sh := { s.sh with
      changes := 0, shard := {}, spareInit := spare, sparePool := spare - bad, paused := decide (0 < bad ∧ spare ≤ bad)
      state := if s.keep.readOnly = 0 then 1 else 1 + s.keep.readOnly }
    keep := ShelfKeep.headFrom { s.keep with
      flushNo := n, records := [.flush n], ringPos := s.keep.ringPos + s.keep.records.length
      openBlocks := (s.sh.blocks.filter (fun (e : Nat × BlkSt) => e.2.st == 1)).map Prod.fst, map := s.sh.map
      blocks := s.sh.blocks, dies := some s.dies } s.keep }
  let s2 : State := { s1 with sh := { s1.sh with slcTarget := State.slcGoal s1 } }
  let s3 := if s2.keep.readOnly = 0 then s2 else s2.alarm AL_FTL_READ_ONLY 0
  (if s3.sh.paused then s3.alarm AL_FTL_CLEARING_PAUSED 0 else s3).event EV_FTL_RECOVERED 0

/-- BOOT_RECOVERY (R465 to R468, R477): a die count that differs from the recorded one holds the shelf here. -/
def execBootRecovery (s : State) : Res :=
  onlyIf (s.atStage .recovery && s.isShelf) s fun s =>
    if s.keep.dies.isSome && s.keep.dies != some s.dies then s.alarm AL_FLASH_DIE_FAIL 0
    else
      let s1 := { s with sh := { s.sh with map := s.keep.map, blocks := s.keep.blocks, health := s.keep.health } }
      let s2 := (s1.keep.records.foldl State.recoverRec s1).recoverOpen.recoverBlocks.recoverDump
      s2.recoverFlush.toStage .join

end Sys2Proof.Machine
end

