-- ==== Sys2Proof/Machine/Join.lean ====
section
/-! DEFINITION. Stages JOIN and READY (R18, R19, R38, R39, R58, R82, R84 to R88, R106, R194, R238, R315, R326, R355, R406, R407, R410, R411,
R441, R614). -/

namespace Sys2Proof.Machine

/-! ### What holds a part at JOIN -/

/-- Highest EPN recorded in either Hem or in any shelf's lease record (R38). -/
def State.arrayHigh (s : State) (j : JoinFound) : Nat :=
  j.leases.foldl (fun a e => max a e.2.highEpn) (max s.hemHigh (j.peerHigh.getD 0))

/-- Load the rebase values in force: the newest in the Hem or in a lease record (R38). -/
def State.loadBase (s : State) (j : JoinFound) : State :=
  let b := j.leases.foldl (fun (a : Nat × Nat) e => if a.1 < e.2.eBase then (e.2.eBase, e.2.tBase) else a) (s.hem.epoch.val 0, s.hem.epoch.val 1)
  { s with time := { s.time with eBase := b.1, tBase := b.2 } }

/-- Conditions whose alarms only a restart clears: once found they hold (R63, R94). -/
def State.stuck (s : State) : List Nat :=
  s.boot.holds.filter (fun c => [AL_EPOCH_CONFIG_MISMATCH, AL_EPOCH_REPLAY_ID, AL_BOOT_ARRAY_ID].contains c)

/-- The derived EPN is not above every EPN recorded (R39): compared at boot, not where a fenced head rejoins in its run. A rebase that is due
or fixed in this boot puts every epoch that admits above them (R38, log 94). -/
def State.epnBehind (s : State) : Bool :=
  !s.seam.fenced && s.boot.rebaseDue.isNone && !s.boot.rebased && decide (s.epn ≤ s.hemHigh)

/-- The conditions of R85 that hold the part at JOIN, as alarm codes. -/
def State.joinHolds (s : State) (j : JoinFound) : List Nat :=
  let peer := fun (f : PeerFound → Bool) => match j.peer with | some p => f p | none => false
  let cipher := if s.boot.holds.contains AL_CIPHER_ENVELOPE then [AL_CIPHER_ENVELOPE] else []
  let arrayId := if peer (fun p => padTo 16 p.arrayId != s.arrayId) then [AL_BOOT_ARRAY_ID] else []
  if s.isHead then
    (s.stuck ++ cipher ++ arrayId
      ++ (if peer (fun p => p.epochUs != s.p p_epoch_length_us || p.originTai != s.p p_time_origin_tai_s) then [AL_EPOCH_CONFIG_MISMATCH] else [])
      ++ (if peer (fun p => p.replayId != s.boot.replayId) then [AL_EPOCH_REPLAY_ID] else [])
      ++ (if s.epnBehind then [AL_EPOCH_BACKWARD] else [])).eraseDups
  else
    (s.stuck ++ arrayId ++ (if s.boot.holds.contains AL_FLASH_PROFILE_MISSING then [AL_FLASH_PROFILE_MISSING] else [])
      ++ (if s.rawBytes < 32000000000000 then [AL_FTL_TOO_SMALL] else [])).eraseDups

/-- Raise what holds, clear what held and no longer does. -/
def State.setHolds (s : State) (l : List Nat) : State :=
  let s1 := (s.boot.holds.filter (fun c => !l.contains c)).foldl (fun acc c => acc.clearAlarm c 0) s
  let s2 := l.foldl (fun acc c => if acc.ev.isRaised c 0 then acc else acc.alarm c 0) s1
  { s2 with boot := { s2.boot with holds := l } }

/-! ### Recovery of the streams at a cold start (R238, R326, R355, R411) -/

/-- What one Hem holds of an epoch of a stream is complete: SEAL and BODY headers, and the INGEST batch (R238). -/
def epochWhole (hs : List BundleHdr) (bs : List Batch) (i n : Nat) : Bool :=
  hs.any (fun h => h.stream == i && h.epn == n && h.kind == 1) && hs.any (fun h => h.stream == i && h.epn == n && h.kind == 2)
    && bs.any (fun b => b.epn == n && b.cls == 0)

/-- e of R238, from the last epoch loaded on. -/
def lastWhole (ok : Nat → Bool) : Nat → Nat → Nat
  | 0, e => e
  | f + 1, e => if ok (e + 1) then lastWhole ok f (e + 1) else e

/-- A recovered chunk's record, from its stored image and chunk fields, with F computed again (R326, R411); the append's F where the image does
not decode. In a domain with dedupe it was PENDING when it was recorded, and holds that reference (R327). -/
def State.rebuilt (s : State) (b : Buffered) (n : Nat) : ChunkRec :=
  let h := b.head
  let pend := s.pi p_dedupe_enable h.domain == 1
  { fp := match s.plainOf h.domain h.chunkId h.raw b.image with | some x => s.fingerprint h.domain x | none => h.fp
    domain := h.domain, raw := h.raw, pending := pend, lostBlocks := h.lostBlocks, imageLen := h.imageLen
    granule := h.granule, strip := b.strip, stripeId := b.stripe, refs := if pend then [(n, 1)] else [] }

/-- The shelves' image of a chunk. -/
def JoinFound.image (j : JoinFound) (id : Nat) : Option Buffered := j.buffered.find? (fun (b : Buffered) => b.head.chunkId == id)

/-- The host of a recovered reservation record (R192, R325): the registrant with its key, else a free identity, since the record names none
(log 89). -/
def State.resvHost (s : State) (r : Resv) (key : Nat) : Nat × State :=
  match r.regs.find? (fun e => e.2 == key) with
  | some e => (e.1, s)
  | none => s.takeFree

/-- Apply one journal record of a Hem-only batch (R326): a chunk it creates is rebuilt from its stored image, a restaged one takes the place of
its new image, a merge redirects, and a reservation changes, as their SEAL did. -/
def State.recoverJRec (s : State) (j : JoinFound) (i n : Nat) (r : JRec) : State :=
  match r with
  | .map _ _ id _ _ =>
    (match s.head.md.chunk id, j.image id with
     | none, some b => (s.setMd (s.head.md.create id (s.rebuilt b n) n)).applyJRec n r
     | _, _ => s.applyJRec n r)
  | .repair id =>
    (match s.head.md.chunk id, j.image id with
     | some c, some b => s.setMd (s.head.md.setChunk id { c with
         raw := b.head.raw, imageLen := b.head.imageLen, granule := b.head.granule, strip := b.strip, stripeId := b.stripe } n)
     | _, _ => s)
  | .merge l t => s.redirect i n l t
  | .resv ns action rtype key =>
    (match s.ns (ns + 1) with
     | none => s
     | some x =>
       let h := s.resvHost x.resv key
       h.2.setNs (ns + 1) { x with resv := x.resv.act h.1 action rtype key })
  | .extent _ _ _ _ => s.applyJRec n r
  | .reloc _ _ _ _ => s.applyJRec n r
  | .member _ _ _ => s.applyJRec n r

/-- Chunks of a stream still PENDING where recovery ends are recorded UNIQUE_LATE in its first seal, those loaded from pages too (R238). -/
def State.decideRecovered (s : State) (j : JoinFound) (i : Nat) : State :=
  let ssns := (s.head.md.chunks.filter (fun e => e.2.pending && streamOf e.1 == i)).filterMap (fun e => (j.image e.1).map (·.ssn))
  let st := s.stream i
  s.setStream i { st with sealQueue := st.sealQueue ++ ssns.map (fun k => Item.decision k 2 0) }

/-- STREAM_GEN of a stream in the lease records found (R399). -/
def JoinFound.streamGen (j : JoinFound) (i : Nat) : Nat := j.leases.foldl (fun a l => max a (if i = 0 then l.2.streamGen0 else l.2.streamGen1)) 0

/-- Recover one stream through e and discard what follows (R238, R239): nothing of a discarded epoch is applied, so a write that was never
completed is absent, never partly present. -/
def State.recoverStream (s : State) (j : JoinFound) (i : Nat) (f : StreamFound) : State :=
  let own := (s.hem.bundles.filter (fun e => e.2.stream == i)).map (·.2)
  let ring := (s.ringHem i).batches
  let ok := fun n => decide (n ≤ f.safe) && (epochWhole own ring i n || epochWhole f.peerHdrs f.peerBatches i n)
  let e := lastWhole ok (own.length + f.peerHdrs.length) f.loaded
  let batchesOf := fun n => if epochWhole own ring i n then ring.filter (·.epn == n) else f.peerBatches.filter (·.epn == n)
  let epochs := (List.range (e - f.loaded)).map (fun d => f.loaded + 1 + d)
  let s1 := (epochs.foldl (fun acc n => (batchesOf n).foldl (fun a b => b.recs.foldl (fun x r => x.recoverJRec j i n r) a) acc) s).decideRecovered j i
  let hs := own ++ f.peerHdrs
  let st := s1.stream i
  let next := match hs.find? (fun h => h.stream == i && h.epn == e && h.kind == 1) with
    | some h => h.firstSsn + h.ssnCount
    | none => f.nextSsn
  let digest := match hs.find? (fun h => h.stream == i && h.epn == e && h.kind == 2) with
    | some h => h.sectionDigest
    | none => f.prevDigest
  let r := s1.ringHem i
  let kept := r.batches.filter (fun b => decide (b.epn ≤ e))
  let s2 := (s1.dropBatches i (fun b => decide (e < b.epn))).setRingHem i { r with
    batches := kept, lastSeq := max f.ringSeq ((kept.getLast?.map (·.ringSeq)).getD 0), flushed := max r.flushed f.ringSeq }
  let s3 := s2.dropHeaders (fun h => h.stream == i && decide (e < h.epn))
  s3.setStream i { st with
    mine := i == s3.site || s3.seam.inheriting, admitFrom := s3.firstEpoch, sealedEpn := s3.firstEpoch - 1, nextSsn := next, epochFirst := next, prevDigest := digest
    nextStripe := max f.nextStripe st.nextStripe
    gen := j.streamGen i }

/-- The work entry that a recovered image makes, so that its stripe can close (R355). -/
def Buffered.work (b : Buffered) (n : Nat) : ChunkWork :=
  { epn := n, nsIndex := b.head.nsIndex, chunkNo := b.head.chunkNo, domain := b.head.domain, content := [], appTag := b.head.appTag
    lostBlocks := b.head.lostBlocks, outcome := .unique, fp := b.head.fp, chunkId := b.head.chunkId, image := b.image, raw := b.head.raw
    stripe := b.stripe, strip := b.strip, granule := b.head.granule, staged := true, landAck := true, mirrorAck := true, released := true }

/-- An OPEN stripe of a SIF record: reopened with the kept images, to close RECOVERED at the stream's first seal (R355). -/
def State.recoverOpenStripe (s : State) (j : JoinFound) (x : SifRec) : State :=
  let i := streamOf x.stripeId
  let imgs := j.buffered.filter (fun b => b.stripe == x.stripeId && SMap.has s.head.md.chunks b.head.chunkId)
  let r : StripeRec := { k := x.k, m := x.m, state := 1, flags := x.flags % 2 + 2, layoutGen := s.head.md.layoutGen, openEpn := x.openEpn
                         sites := x.sites.take (x.k + x.m)
                         placed := imgs.map (fun b => (b.ssn, b.head.chunkId, b.strip, b.head.granule, b.image.length)) }
  let s1 := imgs.foldl (fun acc b => acc.setWork i b.ssn (b.work x.openEpn)) (s.setMd (s.head.md.setStripe x.stripeId r s.epn))
  State.event (if (s1.sifOf x.stripeId).isSome then s1 else s1.takeSif x.stripeId r) EV_STRIPE_RECOVERED_CLOSE 0

/-- The record of a closed stripe that no loaded page has, from its SIF record, its data strips as read and the chunk records that name it (R355):
a strip that reads as zeros holds no image. -/
def State.closedRec (s : State) (x : SifRec) (data : List Bytes) : StripeRec :=
  let strip := fun (i : Nat) => (s.head.md.chunks.filter (fun e => e.2.stripeId == x.stripeId && e.2.strip == i)).foldl
    (fun (a : SMap (Nat × ChunkRec)) e => SMap.set a e.2.granule e) []
  { k := x.k, m := x.m, state := 2, flags := x.flags % 2, layoutGen := s.head.md.layoutGen, openEpn := x.openEpn, sites := x.sites.take (x.k + x.m)
    empty := ((List.range x.k).filter (fun i => (data.getD i []).all (· == 0))).foldl (fun a i => a + 2 ^ i) 0
    closeEpn := x.closeEpn, kept := (List.range x.k).map (fun i => (SMap.vals (strip i)).map (·.1))
    used := (List.range x.k).map (fun i => (SMap.vals (strip i)).foldl (fun a e => max a (e.2.granule + granules e.2.imageLen)) 0) }

/-- A CLOSING stripe: parity is encoded again from its data strips and rewritten (R355). -/
def State.recoverClosing (s : State) (j : JoinFound) (x : SifRec) : State :=
  match j.strips.find? (·.1 == x.stripeId) with
  | some d =>
    let r := (s.head.md.stripe x.stripeId).getD (s.closedRec x d.2)
    let s1 := if (s.head.md.stripe x.stripeId).isSome then s else s.setMd (s.head.md.setStripe x.stripeId r s.epn)
    (List.range r.m).foldl (fun acc p =>
      acc.sendStrip x.stripeId (r.k + p) (r.site (r.k + p)) r (bit r.rebuilt (r.k + p)) (parityOf r.k 65280 p d.2)) s1
  | none => s

/-- A Refold target: its strips are discarded and its STRIPE_ID abandoned (R355). -/
def State.abandonTarget (s : State) (x : SifRec) : State :=
  s.abandon x.stripeId (x.k + x.m) x.sites

/-- The set of R355 where no Hem survives: the stripes of open-strip buffers, whose members are open, and those of the strip headers found, closed
since the newest written stripe-table page. Of an open stripe that no page knows, k, m and the members are nowhere on the shelves: such a
stripe stays as its buffers have it (log 95). -/
def State.sifFromShelves (s : State) (j : JoinFound) : List SifRec :=
  let closing := j.headers.foldl (fun (a : SMap SifRec) h =>
    SMap.set a h.stripeId ⟨h.stripeId, 2, h.k, h.m, b2n h.metadata, 0, h.sites, h.closeEpn, 0⟩) []
  let opened := (j.buffered.map (·.stripe)).eraseDups.filterMap (fun id => match s.head.md.stripe id with
    | some r => if r.state == 1 && !SMap.has closing id then some ⟨id, 1, r.k, r.m, r.flags % 2 + 2 * (r.flags / 8 % 2), r.openEpn, r.sites, 0, 0⟩ else none
    | none => none)
  SMap.vals closing ++ opened

/-- Every stripe that a SIF record of either Hem names, or that the shelves tell of where no Hem survives (R355). -/
def State.recoverStripes (s : State) (j : JoinFound) : State :=
  let own := SMap.vals s.hem.sif
  let hems := own ++ (SMap.vals j.peerSif).filter (fun x => !own.any (·.stripeId == x.stripeId))
  let all := if s.hem.fresh && j.peerHigh.isNone then s.sifFromShelves j else hems
  all.foldl (fun acc x =>
    if bit x.flags 1 then acc.abandonTarget x
    else if x.state = 1 then acc.recoverOpenStripe j x
    else if x.state = 2 then acc.recoverClosing j x else acc) s

/-- After a whole-array reset a stream's Refold passes the stripes behind the checkpointed boundary that were retired: no member holds a header that
names them; the first that one does is the true boundary (R372). -/
def State.passRetired (s : State) (i : Nat) : List (Nat × Bool) → State
  | [] => s
  | (id, held) :: rest =>
    let f := s.refold i
    match s.head.md.stripe id with
    | some r =>
      if streamOf id != i || decide (id ≤ f.boundary) || !s.head.md.refolding || decide (s.head.md.layoutGen ≤ r.layoutGen) then s.passRetired i rest
      else if held then s
      else State.passRetired ((s.setMd (s.head.md.setStripe id { r with state := 4 } s.epn)).setRefold i { f with boundary := id }) i rest
    | none => s.passRetired i rest

/-- No Hem survives (R411): the chunks of open-strip buffers and mirrors are added in SSN order. -/
def State.rebuildFromBuffers (s : State) (j : JoinFound) : State :=
  let order := j.buffered.foldl (fun (a : SMap Buffered) b => SMap.set a (2 * b.ssn + b.stream % 2) b) []
  (SMap.vals order).foldl (fun acc b =>
    if SMap.has acc.head.md.chunks b.head.chunkId then acc
    else
      let m := acc.head.md.create b.head.chunkId { acc.rebuilt b b.head.birth with fp := b.head.fp, pending := false, refs := [] } b.head.birth
      acc.setMd (m.setLeaf b.head.nsIndex b.head.chunkNo { st := 1, chunkId := b.head.chunkId, appTag := b.head.appTag, birth := b.head.birth } b.head.birth))
    (s.alarm AL_SEAM_HEM_LOST 0)

/-! ### A head joins -/

/-- The domain key records found (R316, R317): each is unwrapped into its slots; those whose EPN has come are in force at once, and their HMAC
slots are loaded before the join needs them: DEDUCED (log 112). -/
def State.loadKeys (s : State) (keys : List KeyRec) : State :=
  let due := keys.filter (fun (r : KeyRec) => decide (r.epn ≤ s.epn))
  let s1 := { s with cipher := { s.cipher with
    recs := due.foldl (fun a (r : KeyRec) => SMap.set a r.domain r) s.cipher.recs
    pendingKeys := s.cipher.pendingKeys ++ keys.filter (fun (r : KeyRec) => decide (s.epn < r.epn)) } }
  s1.addSteps (keys.map KeyStep.unwrap ++ keys.map (fun (r : KeyRec) => KeyStep.hmacLoad r.domain (fpSlot r.domain r.generation)))

/-- The layout that the parameters name (R345, R369): k, m, `refold.retire_from`, N. -/
def State.layoutNow (s : State) : List Nat := [s.paramLayout.1, s.paramLayout.2, s.p p_refold_retire_from, s.nShelves]

/-- Load what the shelves hold: pages, namespaces, domain key records (R316, R326). The first array boot fixes the default shard map (R261) and
the layout of generation 0 (R369). -/
def State.loadMeta (s : State) (j : JoinFound) : State :=
  State.loadKeys { s with
    head := { s.head with md := { j.md with shardN := if j.md.shardN = 0 then s.nShelves else j.md.shardN, layout := if j.md.layout.isEmpty then s.layoutNow else j.md.layout } }, nvme := { s.nvme with ns := j.ns } } j.keys

/-- A site that does not answer at array boot: the manager treats it as failed (R18, R361). -/
def State.noteSilent (s : State) (j : JoinFound) : State :=
  (s.sites.filter (fun i => !j.leases.any (·.1 == i))).foldl (fun acc i => acc.setShelf i { acc.shelf i with silent := true }) s

/-- A majority of lease records holds B: the barrier that the reset cut short is complete (R91). -/
def State.barrierHeld (s : State) (j : JoinFound) : Bool :=
  decide (s.nShelves < 2 * (j.leases.filter (fun e => e.2.barrierEpn != 0)).length)

/-- Complete the barrier (R90, R91): the array state as of B is what the shelves hold, and nothing of either Hem adds to it (log 78). -/
def State.asOfB (s : State) : State :=
  s.dropJoinRecs

/-- A stream without what the peer's Hem adds. -/
def StreamFound.asOfB (f : StreamFound) : StreamFound := { f with peerHdrs := [], peerBatches := [] }

/-- The lease records that answered (R399, R410); a site that does not answer is down since now (R18). -/
def State.noteLeases (s : State) (j : JoinFound) : State :=
  let s1 := j.leases.foldl (fun acc e => acc.noteLease e.1 e.2 3) s
  s1.sites.foldl (fun acc i =>
    if j.leases.any (·.1 == i) || (acc.portOf i).up then acc
    else (acc.setShelf i { acc.shelf i with downSince := some acc.time.t }).alarm AL_SPOKE_LINK_DOWN (srcOf 3 i)) s1

/-- An empty sub-ring whose next batch follows a RING_SEQ: the newest one in the journal strips loaded (R163). -/
def SubRing.after (q : Nat) : SubRing := { lastSeq := q, flushed := q, released := q }

/-- The images of open stripes that the pages know, as a rejoining head finds them with the shelves: the peer's decisions and closes name their
SSNs (R393, R407). -/
def State.loadImages (s : State) (j : JoinFound) : State :=
  j.buffered.foldl (fun acc b => match acc.head.md.chunk b.head.chunkId with
    | some c => acc.setWork (b.stream % 2) b.ssn { b.work b.head.birth with outcome := if c.pending then .pending else .unique }
    | none => acc) s

/-- Rejoin a serving peer (R406, R407). -/
def State.joinPeer (s : State) (j : JoinFound) : State :=
  let s1 := (((s.loadMeta j).noteLeases j).loadImages j).dropJoinRecs
  let pos := fun (st : StreamSt) (f : StreamFound) => { st with
    replayed := f.loaded, bodySeen := f.loaded, sealSeen := f.loaded, prevDigest := f.prevDigest, nextSsn := f.nextSsn, epochFirst := f.nextSsn, nextStripe := f.nextStripe }
  let gens := fun (i : Nat) (st : StreamSt) => { st with gen := j.streamGen i }
  let h := s1.hem
  let s2 := { s1 with
    head := { s1.head with st0 := gens 0 (pos s1.head.st0 j.s0), st1 := gens 1 (pos s1.head.st1 j.s1) }
    hem := { h with s0 := SubRing.after j.s0.ringSeq, s1 := SubRing.after j.s1.ringSeq }
    seam := { s1.seam with own := 2, rejoining := true, asked := true, peerState := 0 } }
  ((s2.sendSeam 255 s2.epn (.catchupReq (j.s0.loaded + 1) (j.s1.loaded + 1))).anaUpdate).timeEval

/-- Whether the epoch parameters changed since the array last ran (R38, log 72), and no shelf holds a rebase newer than this Hem's. -/
def State.epochChanged (s : State) : Bool :=
  s.hem.epoch.newest.isSome && s.time.eBase == s.hem.epoch.val 0
    && (s.hem.epoch.val 3 != s.p p_epoch_length_us || s.hem.epoch.val 4 != s.p p_time_origin_tai_s)

/-- At a cold start after a change of the epoch parameters a rebase is due: the head that becomes manager fixes it, and until then nothing
is admitted or sealed (R38). -/
def State.noteChange (s : State) (j : JoinFound) : State :=
  if j.peer.isNone && s.epochChanged then { s with boot := { s.boot with rebaseDue := some (s.arrayHigh j) } } else s

/-- A power-on clears the reservations that do not persist through power loss (R192, NVMe 2.0). -/
def State.clearResv (s : State) : State :=
  if s.power.resetCause = 1 ∨ s.power.resetCause = 5 then
    { s with nvme := { s.nvme with ns := SMap.mapV s.nvme.ns (fun _ n => if n.resv.ptpl then n else { n with resv := {} }) } }
  else s

/-- Start without a serving peer (R19, R38, R91, R238, R355, R410, R411): each head sequences the stream of its site; Head A claims the
manager lease. A head that inherits at a barrier sequences both (R90). -/
def State.joinCold (s : State) (j0 : JoinFound) : State :=
  let whole := s.seam.inheriting || s.barrierHeld j0
  let j1 := if whole then { j0 with s0 := j0.s0.asOfB, s1 := j0.s1.asOfB, peerSif := [], buffered := [] } else j0
  let j := if s.seam.inheriting then j1 else { j1 with md := { j1.md with audit := none } }
  let s0 := if whole then s.asOfB else s
  let s1 := (((s0.loadMeta j).noteLeases j).noteSilent j)
  let lost := s1.hem.fresh && j.peerHigh.isNone && j.leases.any (fun e => decide (0 < e.2.highEpn))
  let s2 := (s1.recoverStream j 0 j.s0).recoverStream j 1 j.s1
  let s3 := ((if lost then s2.rebuildFromBuffers j else s2).recoverStripes j).clearResv
  let s4 := [0, 1].foldl (fun acc i => (acc.resumePasses i).passRetired i j.refoldHeads) { s3 with seam := { s3.seam with peerState := 1 }, boot := { s3.boot with joined := true } }
  let s5 := if j.leases.any (fun e => e.2.barrierEpn != 0) then { s4 with seam := { s4.seam with sets := s4.seam.sets ++ [RenewSet.barrier 0] } } else s4
  ((if s5.site = 0 && !s5.seam.inheriting then s5.toAll (bareFrame (.renew { s5.leaseReq s5.seam.leaseGen with setManager := true, siteArg := 0 }))
   else s5.sendRenewal).anaUpdate).timeEval

/-- BOOT_JOIN of a head. One that cannot unwrap a domain key record takes no volume and no lease (R315). -/
def State.joinHead (s : State) (j : JoinFound) : State :=
  let s2 := (s.loadBase j).noteChange j
  let s3 := s2.setHolds (s2.joinHolds j)
  if !s3.boot.holds.isEmpty then { s3 with seam := { s3.seam with own := 3 } }
  else
    let s4 := if j.peer.isSome then s3.joinPeer j else s3.joinCold j
    if !s4.boot.holds.isEmpty then
      State.alarm { s3 with seam := { s3.seam with own := 3 }, boot := { s3.boot with holds := s4.boot.holds } } AL_CIPHER_ENVELOPE 0
    else s4

/-- BOOT_JOIN of a shelf (R86, R441, R476). -/
def State.joinShelf (s : State) (j : JoinFound) : State :=
  let s1 := s.setHolds (s.joinHolds j)
  { s1 with boot := { s1.boot with joined := s1.boot.holds.isEmpty } }

/-- BOOT_JOIN (R84, R86): a part whose parity engine failed its known-answer test goes no further (R379). -/
def execBootJoin (j : JoinFound) (s : State) : Res :=
  onlyIf (s.atStage .join && !s.boot.joined && !s.seam.asked && s.parity.katOk) s
    (fun s => if s.isHead then s.joinHead j else s.joinShelf j)

/-! ### READY -/

/-- The rollback floor (R88). -/
def State.raiseFloor (s : State) (vpp : Bool) : State :=
  let f := floorValue s.otp.floor
  if s.p p_image_rollback_raise = 1 ∧ f < s.boot.secVersion ∧ f < 64 then
    if vpp then
      let s1 := { s with otp := { s.otp with floor := s.otp.floor ||| (2 ^ (min s.boot.secVersion 64) - 1) } }
      s1.event EV_BOOT_FLOOR_RAISED 0
    else s.alarm AL_BOOT_FLOOR_DEFERRED 0
  else s

/-- The boot control record at READY (R82): the booted sequence is confirmed; a trial that reached READY is over. -/
def State.confirm (s : State) : State :=
  let r := s.boot.bcr
  let seq := s.boot.imageSeq
  let done := r.trialSeq == seq && r.trialCopy == copyNum s.boot.copy
  let s1 := s.bcrWrite (if done then { r with confirmedSeq := seq, trialSeq := 0, trialCopy := 0xFF, attempts := 0 } else { r with confirmedSeq := seq })
  { s1 with boot := { s1.boot with trial := false } }

/-- Phase 2 of the ledger append failed its read-back three times (R108): the slot is erased, STAGE stays JOIN, and the part is out of
service without a lease. -/
def State.commitFailed (s : State) : State :=
  let s1 := s.dropCollection
  { s1 with
    nor := norErase s1.nor (slotAddr s1.hem.staging.target) 4096, boot := { s1.boot with commitFails := 3 }
    seam := { s1.seam with own := 3, manager := false } }

/-- A head that starts cold and finds the other in service by now asks for the sections that it has not seen (R407, log 114). -/
def State.askMissed (s : State) : State :=
  if s.peerUp then s.sendSeam 255 s.epn (.catchupReq (s.head.st0.sealSeen + 1) (s.head.st1.sealSeen + 1)) else s

/-- BOOT_READY (R82, R84, R88, R94, R106, R108, R109, R194, R407, R614): a head that rejoined at boot enters service here. `fails` attempts of phase 2 fail their read-back before one passes, or three;
`vpp` says whether VPP_OTP is present. The rollback floor is raised after READY; a collection that was complete before is appended now. -/
def execBootReady (fails : Fin 4) (vpp : Bool) (s : State) : Res :=
  onlyIf (s.atStage .join && s.boot.joined && !s.boot.readyDone && decide (s.boot.commitFails < 3)) s fun s =>
    if fails.val = 3 then s.commitFailed
    else
      let s0 := { s with boot := { s.boot with commitFails := fails } }
      let s1 := (if s0.boot.trial then s0.clearAlarm AL_BOOT_TRIAL_FAILED 0 else s0).ledgerCommit.confirm
      let s2 := { s1 with boot := { s1.boot with readyDone := true }, hem := { s1.hem with pf := .armed }
                          keep := if s1.isShelf && s1.keep.shardN == 0 then { s1.keep with shardN := s1.nShelves } else s1.keep
                          seam := { s1.seam with inheriting := false } }
      let s3 := ((((s2.endTest 2).toStage .ready).event EV_BOOT_READY 0).raiseFloor vpp).appendCollected
      let s4 := if s3.isHead ∧ s3.p p_repl_role ≠ 0 then s3.alarm AL_REPL_DOWN 0 else s3
      if !s4.isHead then s4
      else if s4.seam.rejoining then s4.enterService
      else State.timeEval (State.anaUpdate ({ s4 with seam := { s4.seam with own := 0 } } : State).askMissed)

end Sys2Proof.Machine
end

