-- ==== Sys2Proof/Machine/ReplSource.lean ====
section
/-! DEFINITION. The source of replication (R525 to R531, R534 to R538, R540): the session word, key generations, RBUNDLEs, points, RESYNC,
and what the partner answers. -/

namespace Sys2Proof.Machine

/-! ### What an epoch says of the replicated namespaces (R531) -/

/-- NSIDs of replicated namespaces. -/
def State.replNs (s : State) : List Nat := (s.nvme.ns.filter (fun e => s.replicated e.2.domain)).map (·.1)

/-- F of a chunk: its item's, or that in the record of the chunk a reference names; every chunk record holds its F, without dedupe too (R323, log
64). -/
def State.replFp (s : State) (c : ChunkItem) : Bytes :=
  if c.fp.isEmpty then (match s.head.md.chunk c.chunkId with | some r => r.fp | none => []) else c.fp

/-- The replication record of one record SSN. -/
def State.replRecOf (s : State) (nsid domain : Nat) (chunks : List ChunkItem) (ssn app : Nat) (k : RecKind) : List ReplRec :=
  match k with
  | .extent no count dealloc => [⟨2, domain, b2n dealloc, nsid, no, count, 0, ssn, zeros 32⟩]
  | .resv _ _ _ => []
  | .chunk no =>
    match chunks.find? (·.ssn == ssn) with
    | some c => if c.outcome = 5 then [⟨2, domain, 0, nsid, no, 1, 0, ssn, zeros 32⟩] else [⟨1, domain, c.lostBlocks, nsid, no, 1, app, ssn, padTo 32 (s.replFp c)⟩]
    | none => []

/-- Records of a command in SSN order. -/
def State.replRecsGo (s : State) (nsid domain : Nat) (chunks : List ChunkItem) : Nat → List Nat → List RecKind → List ReplRec
  | _, _, [] => []
  | ssn, apps, k :: ks => s.replRecOf nsid domain chunks ssn (apps.headD 0) k ++ s.replRecsGo nsid domain chunks (ssn + 1) apps.tail ks

/-- A namespace change as a record. -/
def State.replNsRec (s : State) (r : MgrRec) : List ReplRec :=
  let mk := fun (f : Nat) (d : NsDef) => if s.replicated d.domain then [(⟨3, d.domain, f, d.nsid, 0, 0, 0, 0, padTo 32 (le 8 d.nsze ++ le 1 d.lbaf)⟩ : ReplRec)] else []
  match r with
  | .nsCreate d => mk 1 d
  | .nsDelete nsid => if s.replicated (s.domainOf nsid) then [⟨3, s.domainOf nsid, 2, nsid, 0, 0, 0, 0, zeros 32⟩] else []
  | .nsFormat d => mk 3 d
  | _ => []

/-- The records of a bundle: namespace changes of its SEAL, then its commands in SSN order (R531). -/
def State.replRecs (s : State) (b : Bundle) : List ReplRec :=
  let chunks := bodyChunks b.bodyItems
  b.sealItems.flatMap (fun x => match x with | .manager r => s.replNsRec r | _ => [])
    ++ (sealCmds b.sealItems).flatMap (fun c =>
      if s.replicated (s.domainOf c.nsid) then s.replRecsGo c.nsid (s.domainOf c.nsid) chunks c.firstSsn c.appTags c.recs else [])

/-! ### Sending (R526, R528, R529) -/

/-- Records of one part: 4 MiB of payload. -/
def partRecs : Nat := 65536

/-- Lists of at most `n` entries; `fuel` bounds their number. -/
def splitList {α : Type} (n : Nat) : Nat → List α → List (List α)
  | 0, _ => []
  | fuel + 1, l => if l.isEmpty then [] else l.take n :: splitList n fuel (l.drop n)

/-- Send a list of payload parts under one identity. -/
def sendParts (data : Bool) (type stream ident prev parts : Nat) : List Bytes → Nat → State → State
  | [], _, s => s
  | b :: rest, k, s => sendParts data type stream ident prev parts rest (k + 1) (s.sendRepl data type stream k parts ident prev 0 b)

/-- Send an RBUNDLE (R529). -/
def State.sendRBundle (s : State) (b : RBundle) : State :=
  let ps := (splitList partRecs (b.recs.length + 1) b.recs).map (fun l => l.flatMap replRecBytes)
  sendParts true 0x10 b.stream b.epn b.prev ps.length ps 0 s

/-- Chunks of a bundle that are PENDING, with their content where it is held (R535). -/
def State.pushUnits (s : State) (b : Bundle) : List Bytes :=
  (bodyChunks b.bodyItems).filterMap (fun c =>
    if c.outcome = 6 ∧ s.replicated c.domain then (s.heldChunk c.chunkId).map (fun x => chunkUnit s.replPf1 c.domain false x.2 c.fp x.1) else none)

/-- Send the PUSH of an epoch (R535). -/
def State.sendPush (s : State) (i n : Nat) : State :=
  let us := s.pushUnits (s.bundle i n)
  if us.isEmpty ∨ !s.syncRepl then s
  else
    let ps := (splitList 500 (us.length + 1) us).map List.flatten
    let s1 := sendParts true 0x22 i n 0 ps.length ps 0 s
    { s1 with repl := { s1.repl with pushed := s1.repl.pushed + us.length } }

/-- Send a POINT (R529, R534). -/
def State.sendPoint (s : State) (p : Point) : State :=
  s.sendRepl false 0x11 255 0 1 p.epn 0 0 (le 4 p.snap ++ le 1 p.quality ++ p.last.flatMap (le 8))

/-- A domain key record can be sent: its keys unwrap under ARRAY_KEK, and PARTNER_KEK is there. -/
def State.canSendKey (s : State) (r : KeyRec) : Bool :=
  (kwUnwrap (s.keySlot 1024).key r.wrappedData).isSome && (kwUnwrap (s.keySlot 1024).key r.wrappedFp).isSome && (s.keySlot 1025).live

/-- Send a domain key record, its keys wrapped again under PARTNER_KEK (R316, R529). -/
def State.sendKeyRec (s : State) (r : KeyRec) : State :=
  let kek := (s.keySlot 1024).key
  let pk := (s.keySlot 1025).key
  if !s.canSendKey r then s else
  match kwUnwrap kek r.wrappedData, kwUnwrap kek r.wrappedFp with
  | some d, some f =>
    s.sendRepl false 0x12 255 0 1 (r.domain * 2 ^ 56 + r.generation) 0 0
      (keyRecBytes { r with wrappedData := kwWrap pk d, wrappedFp := kwWrap pk f, kekId := s.cipher.partnerKekId })
  | _, _ => s

/-- The erases whose new record went to the partner are marked (R317): `s` is the state that sent, `t` the one after. -/
def State.markSent (s t : State) : State :=
  let went := fun (e : Erase) => match SMap.get s.cipher.recs e.domain with | some r => s.canSendKey r | none => false
  { t with cipher := { t.cipher with erases := t.cipher.erases.map (fun (e : Erase) => if went e then { e with partner := true } else e) } }

/-- The slots of a superseded replication key generation are revoked; at a head in PS2 its wrapped copies go at once, those on the pending list too
(R313, R527). -/
def State.dropReplGen (s : State) (g : Nat) : State :=
  if s.inPs2 then
    { s with cipher := { s.cipher with
        ps2 := SMap.del (SMap.del s.cipher.ps2 (replSlot g 0)) (replSlot g 1)
        steps := s.cipher.steps.filter (fun k => match k with | .repl x _ _ => x != g | _ => true) } }
  else (s.revoke (replSlot g 0)).revoke (replSlot g 1)

/-! ### RBUNDLEs and points (R531, R534, R536) -/

/-- Set entry `i` of a pair. -/
def put2 (l : List Nat) (i v : Nat) : List Nat := if i = 0 then [v, l.getD 1 0] else [l.getD 0 0, v]

/-- One replayed epoch of a stream (R531, R535): with records an RBUNDLE, kept and, by the session's holder, sent; without, condition 6 of
R231 holds at once. -/
def State.replEpoch (s : State) (i n : Nat) : State :=
  let b := s.bundle i n
  let recs := s.replRecs b
  let s0 := { s with repl := { s.repl with cursor := put2 s.repl.cursor i n } }
  if recs.isEmpty then s0.setBundle i n { b with partner := true }
  else
    let rb : RBundle := { stream := i, epn := n, prev := s.repl.last.getD i 0, recs := recs }
    let s1 := { s0 with repl := { s0.repl with
      last := put2 s0.repl.last i n, kept := s0.repl.kept ++ [rb], sentAt := s0.repl.sentAt ++ [(i, n, s.time.t)] } }
    if s1.repl.held && s1.session then (s1.sendRBundle rb).sendPush i n else s1

/-- Every epoch replayed since. -/
def State.replEpochs (s : State) (i : Nat) : State :=
  ((s.stream i).bundles.filter (fun e => decide (s.repl.cursor.getD i 0 < e.1 ∧ e.1 ≤ (s.stream i).replayed))).foldl
    (fun acc e => acc.replEpoch i e.1) s

/-- EPN of the last RBUNDLE of a stream below C. -/
def State.lastBelow (s : State) (i c : Nat) : Nat :=
  if s.repl.last.getD i 0 < c then s.repl.last.getD i 0
  else ((s.repl.kept.filter (fun b => b.stream == i && decide (b.epn < c))).getLast?.map (·.epn)).getD 0

/-- EPNs at which a POINT is due in a range (R534): the multiples of `repl.ckpt_epochs`, and each snapshot that names a replicated
namespace. -/
def State.pointsDue (s : State) (after upTo : Nat) : List Nat :=
  let k := max 1 (s.p p_repl_ckpt_epochs)
  let ms := (List.range (upTo / k - after / k)).map (fun j => (after / k + 1 + j) * k)
  let ns := s.replNs
  let snaps := (s.head.md.snaps.filter (fun e => decide (after < e.2.epn ∧ e.2.epn ≤ upTo ∧ e.1 < 1048573) && e.2.nsids.any ns.contains)).map (·.2.epn)
  snaps.foldl insNat ms

/-- Snapshot IDs a POINT names; none is 0xFFFFFFFF. -/
def State.pointSnap (s : State) (c : Nat) : Nat :=
  ((s.head.md.snaps.find? (fun e => e.2.epn == c && decide (e.1 < 1048573))).map (·.1)).getD 0xFFFFFFFF

/-- Array time quality at the boundary of an epoch (R44): that of the newest boundary up to it. -/
def State.qualityAt (s : State) (c : Nat) : Nat :=
  match ((s.repl.quals.filter (fun e => decide (e.1 ≤ c))).getLast?) with
  | some e => e.2
  | none => qualityNum s.time.quality

/-- Make the points due: they follow the RBUNDLEs of every epoch below (R534). -/
def State.replPoints (s : State) : State :=
  let upTo := min (s.repl.cursor.getD 0 0) (s.repl.cursor.getD 1 0) + 1
  (s.pointsDue s.repl.pointAt upTo).foldl (fun acc c =>
    let p : Point := { epn := c, snap := acc.pointSnap c, quality := acc.qualityAt c, last := [acc.lastBelow 0 c, acc.lastBelow 1 c] }
    let a := { acc with repl := { acc.repl with points := acc.repl.points ++ [p], pointAt := c, quality := p.quality } }
    if a.repl.held && a.session then a.sendPoint p else a) s

/-- What every source head keeps of replayed epochs; its manager sends it (R526). Before a RESYNC's RDIFF nothing of the epochs from E_r
on is sent. -/
def State.replSource (s : State) : State :=
  if !(s.fw && s.isSource) || (s.repl.resyncEpn != 0 && !s.repl.diffSent) then s
  else
    let s1 := ((s.replEpochs 0).replEpochs 1).replPoints
    let old := fun (n : Nat) => decide (n + s1.p p_repl_retain_epochs < s1.epn)
    { s1 with repl := { s1.repl with kept := s1.repl.kept.filter (fun b => !old b.epn) } }

/-! ### Taking the session (R527, R530) -/

/-- A new key generation (R527): both keys are free values, wrapped under ARRAY_KEK and recorded. -/
def State.newReplGen (s : State) : State :=
  let g := max s.repl.keyGen s.head.md.replGen + 1
  let a := s.takeFreeBytes 32
  let b := a.2.takeFreeBytes 32
  let kek := (s.keySlot 1024).key
  let w0 := kwWrap kek a.1
  let w1 := kwWrap kek b.1
  let s1 := (b.2.loadRepl 1024 g w0 w1).record (.replKeyGen g w0 w1)
  State.event { s1 with repl := { s1.repl with keyGen := g, keyedAt := s1.time.t } } EV_REPL_REKEY 0

/-- Claim count in a session word (R530). -/
def wordClaim (w : Nat) : Nat := w / 2 ^ 40 % 2 ^ 24

/-- The word this head puts: G, its site, one claim more than it read. -/
def State.newWord (s : State) (read : Nat) : Nat := s.repl.keyGen % 2 ^ 32 + s.site * 2 ^ 32 + (wordClaim read + 1) % 2 ^ 24 * 2 ^ 40

/-- Compare-and-Swap the session word from a value. -/
def State.swapWord (s : State) (qpn read : Nat) : State :=
  match SMap.get s.rdma.qps qpn with
  | none => s
  | some q =>
    let w : WorkReq := { wr := q.nextWr, psn := q.nextPsn, packets := 1, msgNo := q.nextMsg, resent := 0 }
    let s1 := s.setQp qpn { q with nextWr := q.nextWr + 1, nextPsn := psnAdd q.nextPsn 1, nextMsg := q.nextMsg + 1, unacked := q.unacked ++ [w], timerAt := s.time.t }
    State.emit { s1 with repl := { s1.repl with taking := some (read, s1.newWord read) } } (.rdmaCas qpn w.psn read (s1.newWord read))

/-- The session word is taken: SESSION, both keys wrapped under PARTNER_KEK (R529, R530). -/
def State.sendSession (s : State) (word : Nat) : State :=
  let pk := (s.keySlot 1025).key
  let w := fun (d : Nat) => kwWrap pk (s.keySlot (replSlot s.repl.keyGen d)).key
  State.sendRepl { s with repl := { s.repl with claim := wordClaim word, taking := none } } false 0x01 255 0 1 s.repl.keyGen 0 0
    (s.arrayId ++ le 2 1 ++ zeros 6 ++ w 0 ++ w 1)

/-- New keys and the swap of the word read (R527, R530): none while the entropy health tests fail (R309); in PS2 the manager leaves it first
(R313). -/
def State.rekeySession (s : State) (qpn v : Nat) : State :=
  if !s.psAdmits then { s with repl := { s.repl with wantKeys := some (qpn, v) } }
  else
    let s1 := { s with repl := { s.repl with wantKeys := none } }
    if s1.cipher.drbgOk then s1.newReplGen.swapWord qpn v else s1.alarm AL_CIPHER_DRBG 0

/-- After the exit from PS2 the session goes on (R313). -/
def State.sessionGoesOn (s : State) : State :=
  match s.repl.wantKeys with
  | some (qpn, v) => if s.psAdmits then s.rekeySession qpn v else s
  | none => s

/-- The answer to a read or an atomic of the session word (R530): first the word as read, then the word as it was before the swap; another
claim in between leads to another swap. A session needs new keys: none while the entropy health tests fail (R309, R527). -/
def State.wordAnswer (s : State) (qpn v : Nat) : State :=
  if s.repl.state ≠ 1 ∨ !(s.isManager && s.isSource) then s
  else
    match s.repl.taking with
    | none => s.rekeySession qpn v
    | some (read, new) => if v = read then s.sendSession new else s.swapWord qpn v

/-- RDMA_ACK (R512, R513, R515): acknowledges up to a PSN and carries credits; a read or atomic response carries its eight bytes, more of
them or fewer are an error of length. -/
def execRdmaAck (qpn : Nat) (psn : Fin 16777216) (credits : Nat) (resp : Option Bytes) (s : State) : Res :=
  onlyIf (s.rdmaOn && (match SMap.get s.rdma.qps qpn with | some q => q.state == 1 | none => false)) s fun s =>
    match resp with
    | none => s.ackUpTo qpn psn (some credits)
    | some b =>
      if 8 < b.length then ((s.emit (.rdmaNak qpn psn 1)).qpError qpn ST_RDMA_LEN_LONG ST_RDMA_FLUSHED)
      else if b.length < 8 then s.qpError qpn ST_RDMA_LEN_SHORT ST_RDMA_FLUSHED
      else (s.ackUpTo qpn psn (some credits)).wordAnswer qpn (leNat b)

/-- Begin a session on a control queue pair, where there is one. -/
def State.beginSession (s : State) : State :=
  match (s.replQps .control).head? with
  | some e => s.startTaking e.1
  | none => s

/-- REPL_REKEY (R527): a new generation after `repl.rekey_hours`. -/
def execReplRekey (s : State) : Res :=
  onlyIf (s.isManager && s.isSource && s.session && s.repl.held && decide (s.repl.keyedAt + s.p p_repl_rekey_hours * 3600 * 100000000 ≤ s.time.t)) s
    (fun s => s.beginSession)

/-! ### RESYNC (R536) -/

/-- Begin a RESYNC: a cut snapshot at E_r (its ID is the model's, log 67) and a new key generation with a new session. -/
def State.startResync (s : State) : State :=
  if s.repl.resyncEpn ≠ 0 ∧ !s.repl.diffSent then s
  else
    let e := s.leastE
    let s1 := s.record (.snapDefine ⟨1048573, e, s.replNs⟩)
    State.beginSession { s1 with repl := { s1.repl with resyncEpn := e, diffSent := false } }

/-- RDIFF records of a namespace: positions whose entry visible at E_r was born at or after the base. -/
def State.diffRecs (s : State) (nsid base e : Nat) : List ReplRec :=
  let m := s.head.md
  let d := s.domainOf nsid
  (m.leaves.filter (fun x => x.1 / 2 ^ 40 + 1 == nsid)).filterMap (fun x =>
    let no := x.1 % 2 ^ 40
    let l := m.viewAt (nsid - 1) no e
    if l.birth < base ∨ (l == {}) then none
    else if l.st = 1 then (m.chunk l.chunkId).map (fun c => (⟨1, d, c.lostBlocks, nsid, no, 1, l.appTag, 0, padTo 32 c.fp⟩ : ReplRec))
    else some ⟨2, d, b2n (l.st == 0), nsid, no, 1, 0, 0, zeros 32⟩)

/-- Send the RDIFF messages of a namespace, 32,768 positions each (R529). -/
def State.sendDiff (s : State) (nsid base e : Nat) : State :=
  let rs := s.diffRecs nsid base e
  let parts := (rs.map (fun r => r.chunkNo / 32768)).eraseDups
  parts.foldl (fun acc k =>
    acc.sendRepl true 0x50 255 (nsid - 1) 1 (k * 32768) 0 0 ((rs.filter (fun r => r.chunkNo / 32768 == k)).flatMap replRecBytes)) s

/-- Steps 2 to 4 of R536, once E_r has come and every epoch below it is replayed: RDIFF, POINT(E_r), then RBUNDLEs from E_r on. -/
def State.resyncStep (s : State) : State :=
  let e := s.repl.resyncEpn
  if e = 0 ∨ s.repl.diffSent ∨ !(s.repl.held && s.session) ∨ s.epn < e ∨ s.head.st0.replayed + 1 < e ∨ s.head.st1.replayed + 1 < e then s
  else
    let s1 := s.replNs.foldl (fun acc n => acc.sendDiff n s.repl.replicated e) s
    let p : Point := { epn := e, snap := 0xFFFFFFFF, quality := s1.qualityAt e, last := [0, 0] }
    (State.sendPoint { s1 with repl := { s1.repl with
      diffSent := true, points := [p], pointAt := e, cursor := [e - 1, e - 1], last := [0, 0], kept := [], state := 3, quality := p.quality } } p).replSource

/-! ### What the partner answers -/

/-- A message of the target under the generation in force; one already received is discarded (R537). -/
def State.fromTarget (s : State) (h : ReplHdr) : Bool := s.rdmaOn && s.isSource && h.keyGen == s.repl.keyGen

/-- Answer PULL entries with CHUNK (R532): each comes with what the read path found, nothing where it could not be read (log 55). -/
def answerPulls : List (PullEntry × Option Bytes) → State → State
  | [], s => s
  | (e, x) :: rest, s =>
    let live := s.head.md.chunks.find? (fun c => c.2.domain == e.domain && padTo 32 c.2.fp == padTo 32 e.fp && c.2.live && !c.2.lost)
    let u := match live, x with
      | some c, some b => chunkUnit s.replPf1 e.domain false c.2.lostBlocks e.fp b
      | _, _ => chunkUnit s.replPf1 e.domain true 0 e.fp []
    let s1 := s.sendRepl true 0x21 255 0 1 e.reqNo 0 0 u
    answerPulls rest { s1 with repl := { s1.repl with pulled := s1.repl.pulled + 1 } }

/-- PULL (R532). -/
def execPull (h : ReplHdr) (entries : List (PullEntry × Option Bytes)) (s : State) : Res :=
  onlyIf (s.fromTarget h && s.isManager) s (fun s => answerPulls entries s)

/-- Send what the target has not receipted and the points it has not applied (R537). -/
def State.resend (s : State) (point : Nat) : State :=
  let s1 := (s.repl.kept.filter (fun b => decide (s.repl.receipts.getD b.stream 0 < b.epn))).foldl
    (fun acc b => (acc.sendRBundle b).sendPush b.stream b.epn) s
  (s1.repl.points.filter (fun p => decide (point < p.epn))).foldl State.sendPoint s1

/-- The target's newest receipt of a stream lies outside the sections kept (R536): it lacks an RBUNDLE that is no longer there. -/
def State.needsResync (s : State) : Bool :=
  (s.repl.replicated == 0 && s.repl.receipts.all (· == 0)) || [0, 1].any (fun i =>
    decide (s.repl.receipts.getD i 0 < s.repl.last.getD i 0)
      && (match s.repl.kept.find? (fun b => b.stream == i) with
          | some b => decide (s.repl.receipts.getD i 0 < b.prev)
          | none => true))

/-- SESSION_ACK (R519, R527, R536 to R538): the session is in service. -/
def execSessionAck (h : ReplHdr) (partner : Bytes) (point r0 r1 : Nat) (pulls : List (PullEntry × Option Bytes)) (s : State) : Res :=
  onlyIf (s.fromTarget h && s.isManager && s.repl.state == 1 && s.repl.taking.isNone && h.ident == s.repl.keyGen) s fun s =>
    let r := s.repl
    let s1 := { s with
      repl := { r with state := if r.resyncEpn ≠ 0 then 3 else 2, held := true, partnerId := padTo 16 partner, replicated := max r.replicated point
                       receipts := [max (r.receipts.getD 0 0) r0, max (r.receipts.getD 1 0) r1], moved := true }
      rdma := { s.rdma with qps := SMap.mapV s.rdma.qps (fun (_ : Nat) (q : Qp) =>
        if q.use = QpUse.data ∧ q.spray.isNone ∧ q.state = 1 then { q with spray := some { base := q.expPsn, highest := psnAdd q.expPsn (2 ^ 24 - 1) } } else q) } }
    let s2 := ((s1.event EV_REPL_SESSION_UP 0).clearAlarm AL_REPL_DOWN 0).clearAlarm AL_REPL_DIVERGE 0
    let s3 := (s2.clearAlarm AL_REPL_PARTNER_MISMATCH 0)
    let s4 := s3.dropReplGen (r.keyGen - 1)
    let s5 := (List.filter (fun (e : Nat × KeyRec) => s4.replicated e.1) s4.cipher.recs).foldl (fun (acc : State) (e : Nat × KeyRec) => acc.sendKeyRec e.2) s4
    let s6 := s4.markSent s5
    let s7 := answerPulls pulls s6
    if s7.repl.resyncEpn ≠ 0 ∧ !s7.repl.diffSent then s7.resyncStep
    else if s7.needsResync then s7.startResync
    else s7.resend point

/-- Receipts lag by less than `repl.ckpt_epochs` (R535). -/
def State.caughtUp (s : State) : Bool :=
  [0, 1].all (fun i => decide (s.repl.last.getD i 0 < s.repl.receipts.getD i 0 + s.p p_repl_ckpt_epochs))

/-- RECEIPT (R533, R535, R537): condition 6 of R231 for the stream's bundles up to its epoch, and the checkpoint moves. -/
def execReceipt (h : ReplHdr) (s : State) : Res :=
  onlyIf (s.fromTarget h && decide (h.stream < 2)) s fun s =>
    let i := h.stream
    let st := s.stream i
    let s1 := s.setStream i { st with bundles := SMap.mapV st.bundles (fun n b => if n ≤ h.ident then { b with partner := true } else b) }
    let r := s1.repl
    let s2 := { s1 with repl := { r with
      receipts := put2 r.receipts i (max (r.receipts.getD i 0) h.ident), moved := r.moved || decide (r.receipts.getD i 0 < h.ident)
      sentAt := r.sentAt.filter (fun e => !(e.1 == i && decide (e.2.1 ≤ h.ident))) } }
    if s2.isManager && s2.head.md.syncOff && s2.caughtUp && !s2.queuedMgr (fun x => match x with | .syncOn => true | _ => false) then
      (s2.record .syncOn).clearAlarm AL_REPL_SYNC_LOST 0
    else s2

/-- The replicated EPN is within the limit of R540. -/
def State.lagOk (s : State) : Bool := decide (s.time.t < s.epochStart s.repl.replicated + s.p p_repl_lag_alarm_s * 100000000)

/-- APPLIED (R534, R536, R537): the replicated EPN advances; the internal snapshot at it is recorded (log 68). -/
def execApplied (h : ReplHdr) (s : State) : Res :=
  onlyIf (s.fromTarget h && s.isManager && s.session) s fun s =>
    let r := s.repl
    let c := h.ident
    let s1 := { s with repl := { r with
      replicated := max r.replicated c, moved := r.moved || decide (r.replicated < c), points := r.points.filter (fun p => decide (c < p.epn)) } }
    let s2 := if r.replicated < c then (s1.record (.snapDefine ⟨1048574, c, s1.replNs⟩)).event EV_REPL_POINT 0 else s1
    let s3 := if s2.lagOk then s2.clearAlarm AL_REPL_LAG 0 else s2
    if r.resyncEpn ≠ 0 ∧ r.diffSent ∧ c = r.resyncEpn then
      State.event { s3 with repl := { s3.repl with resyncEpn := 0, diffSent := false, state := 2 } } EV_REPL_RESYNC_DONE 0
    else s3

/-- REPL_SYNC_TIMEOUT (R535): no RECEIPT for `repl.sync_timeout_ms`; HOLD lets completions wait, DEGRADE records SYNC_OFF. -/
def execReplSyncTimeout (s : State) : Res :=
  onlyIf (s.isManager && s.syncRepl && s.repl.sentAt.any (fun e => decide (e.2.2 + s.p p_repl_sync_timeout_ms * 100000 ≤ s.time.t))
      && !s.queuedMgr (fun x => match x with | .syncOff => true | _ => false)) s
    (fun s => if s.p p_repl_sync_on_loss = 1 then s else (s.record .syncOff).alarm AL_REPL_SYNC_LOST 0)

/-- REPL_LAG_ALARM (R540): the session is down for `repl.lag_alarm_s`, or the replicated EPN is older than that. -/
def execReplLagAlarm (s : State) : Res :=
  onlyIf (s.fw && s.isHead && s.p p_repl_role != 0
      && ((s.repl.state == 4 && decide (s.repl.downAt + s.p p_repl_lag_alarm_s * 100000000 ≤ s.time.t)) || (s.isSource && s.isManager && !s.lagOk))) s
    (fun s => s.alarm AL_REPL_LAG 0)

/-- Phase 0 at a source (R317, R526, R527, R536, R537): a manager without the session takes it; one that holds it sends new domain keys,
replaces discarded sections by a RESYNC, and goes on with a running one. -/
def State.replBoundary (s : State) : State :=
  if !(s.fw && s.isSource) then s
  else if !s.isManager then
    if s.repl.held then { s with repl := { s.repl with held := false, state := 0, taking := none, wantKeys := none } } else s
  else if !s.repl.held || s.repl.state == 4 then
    if s.repl.state = 1 then s.sessionGoesOn else s.beginSession
  else if !s.session then s
  else
    let fresh := s.cipher.erases.filter (fun (e : Erase) => !e.partner && s.replicated e.domain)
    let s1 := fresh.foldl (fun (acc : State) (e : Erase) => match SMap.get acc.cipher.recs e.domain with | some r => acc.sendKeyRec r | none => acc) s
    let s2 := s.markSent s1
    let lost := s2.cipher.erases.any (fun (e : Erase) => e.swept && [0, 1].any (fun i =>
      decide (s2.repl.receipts.getD i 0 < s2.lastBelow i e.epn)))
    let s3 := if lost ∧ s2.repl.resyncEpn = 0 then s2.startResync else s2
    s3.resyncStep.replSource

/-! ### Rows after which a source looks at its streams again -/

/-- BODY_SECTION (R388, R390 to R393, R531). -/
def execBodySection (i : Fin 2) (hdrOk : Bool) (h : BundleHdr) (items : List Item) (s : State) : Res :=
  thenDo (bodySection i hdrOk h items s) State.replSource

end Sys2Proof.Machine
end

