-- ==== Sys2Proof/Machine/ReplTarget.lean ====
section
/-! DEFINITION. The target of replication (R530, R532 to R534, R537, R538): SESSION, the admission of replication records, look-ups, pulls
and pushes, receipts, replica points; and partner repair in either direction (R539). -/

namespace Sys2Proof.Machine

/-! ### Messages (R528, R530, R537) -/

/-- Discard a stale or repeated message. -/
def State.dupDiscard (s : State) : State :=
  State.event { s with repl := { s.repl with dups := s.repl.dups + 1 } } EV_REPL_DUP_DISCARD 0

/-- The header equals the session word (R530). -/
def State.wordMatches (s : State) (h : ReplHdr) : Bool :=
  h.keyGen == s.repl.word % 2 ^ 32 && h.sender == s.repl.word / 2 ^ 32 % 256 && h.claim == wordClaim s.repl.word

/-- Take a message at the target's manager: stale ones are discarded; one whose identity came before is discarded where its tag is equal,
and otherwise the session goes down (R530, R537). -/
def State.onMessage (s : State) (type : Nat) (h : ReplHdr) (f : State → State) : Res :=
  onlyIf (s.rdmaOn && s.isTarget && s.isManager && s.session) s fun s =>
    if !s.wordMatches h then s.dupDiscard
    else
      match s.repl.seen.find? (fun (m : SeenMsg) => m.type == type && m.stream == h.stream && m.part == h.part && m.ident == h.ident) with
      | some m => if m.tag = h.tagBytes then s.dupDiscard else (s.alarm AL_REPL_DIVERGE 0).sessionDown
      | none => f { s with repl := { s.repl with seen := s.repl.seen ++ [(⟨type, h.stream, h.part, h.ident, h.tagBytes⟩ : SeenMsg)] } }

/-- Send a control message on every control queue pair (R526, R533). -/
def State.sendControl (s : State) (type stream ident : Nat) : State :=
  let hdr := replHdr s.site s.repl.claim type stream 0 s.repl.keyGen 0 ident 0 1 0
  let msg := s.replSeal hdr [] type stream 0 ident
  (s.replQps .control).foldl (fun (acc : State) (e : Nat × Qp) => (acc.emit (.repl msg)).postSend e.1 msg.length) s

/-! ### SESSION (R527, R530) -/

/-- Answer SESSION (R529): last replica point, last RECEIPT per stream, the outstanding PULL entries, numbered anew for the generation. -/
def State.ackSession (s : State) : State :=
  let ps := (List.range s.repl.pulls.length).zip s.repl.pulls
  let renum := ps.map (fun (e : Nat × Pull) => { e.2 with reqNo := e.1 + 1 })
  let s1 := { s with repl := { s.repl with pulls := renum, nextReq := renum.length + 1 } }
  let body := s1.arrayId ++ le 8 s1.repl.replicated ++ s1.repl.receipts.flatMap (le 8)
    ++ renum.flatMap (fun (p : Pull) => pullBytes ⟨p.reqNo, p.domain, p.fp⟩)
  s1.sendRepl false 0x02 255 0 1 s1.repl.keyGen 0 0 body

/-- REPL_SESSION (R527, R530): refused where ARRAY_ID is this array's own, the role is not TARGET, or a key does not unwrap under
PARTNER_KEK. -/
def execReplSession (h : ReplHdr) (array : Bytes) (format : Nat) (w0 w1 : Bytes) (s : State) : Res :=
  onlyIf (s.rdmaOn && s.isManager && s.p p_repl_role != 0) s fun s =>
    let pk := (s.keySlot 1025).key
    if s.isTarget && !s.wordMatches h then s.dupDiscard
    else if !s.isTarget || padTo 16 array == s.arrayId || format != 1 || (kwUnwrap pk w0).isNone || (kwUnwrap pk w1).isNone || h.ident != h.keyGen then
      s.alarm AL_REPL_PARTNER_MISMATCH 0
    else
      let old := s.repl.keyGen
      let s1 := (State.loadRepl { s with repl := { s.repl with
        state := 2, keyGen := h.keyGen, claim := h.claim, partnerId := padTo 16 array, seen := [], arrived := [], inbox := [] } } 1025 h.keyGen w0 w1)
      let s2 := { s1 with rdma := { s1.rdma with qps := SMap.mapV s1.rdma.qps (fun (_ : Nat) (q : Qp) =>
        if q.use = QpUse.data ∧ q.spray.isNone ∧ q.state = 1 then { q with spray := some { base := q.expPsn, highest := psnAdd q.expPsn (2 ^ 24 - 1) } } else q) } }
      let s3 := if old ≠ h.keyGen then s2.event EV_REPL_REKEY 0 else s2
      let s4 := ((s3.clearAlarm AL_REPL_DOWN 0).clearAlarm AL_REPL_DIVERGE 0).clearAlarm AL_REPL_PARTNER_MISMATCH 0
      (s4.event EV_REPL_SESSION_UP 0).ackSession

/-- KEYREC (R316, R529): the partner's record, its keys wrapped again under this array's KEK and recorded where its generation is newer
(log 66). -/
def execKeyrec (h : ReplHdr) (r : KeyRec) (s : State) : Res :=
  s.onMessage 0x12 h fun s =>
    let pk := (s.keySlot 1025).key
    match kwUnwrap pk r.wrappedData, kwUnwrap pk r.wrappedFp with
    | some d, some f =>
      if s.lastKeyGen r.domain < r.generation ∧ s.replicated r.domain then
        let kek := (s.keySlot 1024).key
        s.record (.domainKey ⟨r.domain, r.generation, s.epn + 2, kwWrap kek d, kwWrap kek f, s.cipher.kekId⟩)
      else s
    | _, _ => s.alarm AL_REPL_PARTNER_MISMATCH 0

/-! ### Finding and staging chunks (R532) -/

/-- A MAP record that still waits for a chunk. -/
def TargetRec.wants (r : TargetRec) (domain : Nat) (fp : Bytes) : Bool :=
  r.item.kind == 1 && (r.st == 0 || r.st == 1 || r.st == 5) && r.item.domain == domain && r.item.fp == padTo 32 fp

/-- Content of C bytes that the write path stages for the records that want it: one record SSN of the manager's own stream. -/
def State.stageRepl (s : State) (domain lost : Nat) (fp content : Bytes) : State :=
  let i := s.site
  let st := s.stream i
  let w : ChunkWork := { epn := s.epn, nsIndex := 0, chunkNo := 2 ^ 40, domain := domain, content := padTo (s.chunkSize domain) content, lostBlocks := lost }
  let ssn := st.nextSsn
  let s1 := s.setStream i { st with nextSsn := ssn + 1, work := SMap.set st.work ssn w }
  let hit := fun (r : TargetRec) => r.wants domain fp
  let upd := fun (r : TargetRec) => if hit r then { r with st := 4, ssn := ssn, lost := lost } else r
  let names := s.repl.recs.filter hit
  let adm := fun (a : Admitted) => if names.any (fun r => r.stream == a.stream && r.epn == a.epn) then { a with ssns := a.ssns ++ [ssn] } else a
  { s1 with repl := { s1.repl with
      recs := s1.repl.recs.map upd, admitted := s1.repl.admitted.map adm
      pulls := s1.repl.pulls.filter (fun (p : Pull) => !(p.domain == domain && p.fp == padTo 32 fp)) } }

/-- All blocks of a chunk lost. -/
def State.allLost (s : State) (domain : Nat) : Nat := 2 ^ (s.chunkSize domain / 4096) - 1

/-- Whether bytes have the fingerprint F (R532). -/
def State.fpOk (s : State) (c : ReplChunk) : Bool := padTo 32 (s.fingerprint c.domain c.data) == padTo 32 c.fp

/-- Look a new MAP record up: first the hot region, then its shard (R221, R264, R532); a chunk pushed ahead is staged at once. -/
def State.lookUp (s : State) (r : TargetRec) : State :=
  let add := fun (s : State) (r : TargetRec) => { s with repl := { s.repl with recs := s.repl.recs ++ [r] } }
  if r.item.kind ≠ 1 then add s r
  else
    match s.repl.inbox.find? (fun e => e.1 == r.stream && e.2.1 == r.epn && e.2.2.domain == r.item.domain && padTo 32 e.2.2.fp == r.item.fp) with
    | some e => (add s { r with st := 5 }).stageRepl r.item.domain e.2.2.lostBlocks r.item.fp e.2.2.data
    | none =>
      let x := s.hotFind r.item.domain r.item.fp
      let live := match x.2 with
        | some (_, id, pend) => if !pend && x.1.liveFor id (x.1.epn - 1) r.item.domain r.item.fp then some id else none
        | none => none
      match live with
      | some id => add x.1 { r with st := 2, chunkId := id }
      | none =>
        let site := x.1.shardSite r.item.fp
        if x.1.isFailed site then add x.1 { r with st := 5 }
        else
          let q := x.1.request site (.idxQuery r.item.domain r.item.fp)
          add { q.2 with head := { q.2.head with queries := q.2.head.queries ++ [(q.1, 2, q.1)] } } { r with ssn := q.1 }

/-- Ask for the fingerprints to be pulled, each once (R532): entries numbered from the generation's counter. -/
def pullGo : List (Nat × Bytes) → State → List PullEntry → List PullEntry × State
  | [], s, acc => (acc, s)
  | (d, fp) :: rest, s, acc =>
    if s.repl.pulls.any (fun (p : Pull) => p.domain == d && p.fp == fp) then pullGo rest s acc
    else
      let n := s.replReq
      let s1 := { n.2 with repl := { n.2.repl with pulls := n.2.repl.pulls ++ [({ reqNo := n.1, domain := d, fp := fp } : Pull)] } }
      pullGo rest s1 (acc ++ [⟨n.1, d, fp⟩])

/-- Send a PULL for every record whose chunk is to be pulled. -/
def State.sendPulls (s : State) : State :=
  let want := s.repl.recs.filter (fun r => r.st == 5)
  if want.isEmpty ∨ !s.session then s
  else
    let x := pullGo (want.map (fun r => (r.item.domain, r.item.fp))) s []
    let s1 := { x.2 with repl := { x.2.repl with recs := x.2.repl.recs.map (fun (r : TargetRec) => if r.st = 5 then { r with st := 1 } else r) } }
    match x.1 with
    | [] => s1
    | e :: _ => s1.sendRepl false 0x20 255 0 1 e.reqNo 0 0 (x.1.flatMap pullBytes)

/-! ### Admission (R533) -/

/-- Records whose staged chunk's body is complete: the chunk found, or zeros (R215, R218). -/
def State.resolveRecs (s : State) : State :=
  let st := s.stream s.site
  let upd := fun (r : TargetRec) =>
    if r.st ≠ 4 then r
    else match SMap.get st.work r.ssn with
      | none => r
      | some w =>
        if !(s.bundle s.site w.epn).bodied then r
        else match st.resolve w with
          | .hitStored t => { r with st := 2, chunkId := t }
          | .pending => { r with st := 2, chunkId := w.chunkId }
          | .unique => { r with st := 2, chunkId := w.chunkId }
          | .zero => { r with st := 2, item := { r.item with kind := 2, flags := 0, count := 1 } }
          | .forming => r
          | .hitPending _ => r
  { s with repl := { s.repl with recs := s.repl.recs.map upd } }

/-- The journal record of a replication record that is ready. -/
def TargetRec.jrec (r : TargetRec) : Option JRec :=
  if r.item.kind = 1 then (if r.st = 2 then some (.map (r.item.nsid - 1) r.item.chunkNo r.chunkId r.item.appTag r.lost) else none)
  else if r.item.kind = 2 then some (.extent (r.item.nsid - 1) r.item.chunkNo r.item.count (bit r.item.flags 0))
  else none

/-- A namespace change as the manager's record (R531). -/
def nsRecOf (x : ReplRec) : MgrRec :=
  let d : NsDef := ⟨x.nsid, num x.fp 0 8, num x.fp 8 1, x.domain⟩
  if x.flags = 1 then .nsCreate d else if x.flags = 2 then .nsDelete x.nsid else .nsFormat d

/-- Source epochs from which records wait for a point to be cut (R534). -/
def State.pointLimit (s : State) : Option Nat :=
  (s.repl.targetPoints.filter (fun (p : Point) => match p.cutAt with | some e => decide (s.epn < e) | none => true)).foldl
    (fun a p => match a with | some c => some (min c p.epn) | none => some p.epn) none

/-- Admit records in the order of each source stream (R533): one that is not ready holds back its stream. A namespace change is recorded,
and passed once its SEAL is applied. -/
def admitGo (limit : Option Nat) : List TargetRec → List Nat → State → List TargetRec × State
  | [], _, s => ([], s)
  | r :: rest, held, s =>
    let stop := fun (r : TargetRec) (s : State) => let x := admitGo limit rest (r.stream :: held) s; (r :: x.1, x.2)
    if held.contains r.stream || (match limit with | some c => decide (c ≤ r.epn) | none => false) then stop r s
    else if r.item.kind = 3 then
      if r.st = 6 then
        if r.since ≤ (s.stream s.site).sealedEpn then admitGo limit rest held s else stop r s
      else stop { r with st := 6, since := s.epn } (s.record (nsRecOf r.item))
    else
      match r.jrec with
      | none => stop r s
      | some j =>
        let st := s.stream s.site
        let s1 := s.setStream s.site { st with classRecs := st.classRecs ++ [(3, j)] }
        admitGo limit rest held { s1 with repl := { s1.repl with queued := s1.repl.queued + 1 } }

/-- REPL records of this head's stream that stand in a batch. -/
def State.replWritten (s : State) : Nat := s.repl.queued - ((s.stream s.site).classWaiting.filter (·.1 == 3)).length

/-- Note which RBUNDLEs are wholly admitted, and the epoch that holds the last record once it is written. -/
def State.noteAdmitted (s : State) : State :=
  let upd := fun (a : Admitted) =>
    let a1 := if a.upTo.isNone && !s.repl.recs.any (fun r => r.stream == a.stream && r.epn == a.epn) then { a with upTo := some s.repl.queued } else a
    match a1.upTo, a1.inEpn with
    | some k, none => if k ≤ s.replWritten then { a1 with inEpn := some (s.stream s.site).replayed } else a1
    | _, _ => a1
  { s with repl := { s.repl with admitted := s.repl.admitted.map upd } }

/-- An RBUNDLE can be receipted (R533): its records are durable under conditions 2 and 3 of R231, its chunks staged and acknowledged. -/
def State.receiptable (s : State) (a : Admitted) : Bool :=
  match a.inEpn with
  | none => false
  | some n =>
    let st := s.stream s.site
    let durable := match SMap.get st.bundles n with
      | some b => b.durable && (!s.peerUp || decide (n < s.seam.peerFrom) || b.peerDur)
      | none => true
    durable && a.ssns.all (fun k => st.safe (st.work.length + 1) k)

/-- Send the receipts due, in the order of each stream. -/
def receiptGo : List Admitted → List Nat → State → List Admitted × State
  | [], _, s => ([], s)
  | a :: rest, held, s =>
    if held.contains a.stream || !s.receiptable a then
      let x := receiptGo rest (a.stream :: held) s
      (a :: x.1, x.2)
    else
      let s1 := { s with repl := { s.repl with receipts := put2 s.repl.receipts a.stream (max (s.repl.receipts.getD a.stream 0) a.epn), moved := true } }
      receiptGo rest held (if a.epn = 0 then s1 else s1.sendControl 0x30 a.stream a.epn)

/-- Points cut and durable are APPLIED (R529, R534). -/
def State.applyPoints (s : State) : State :=
  let ok := fun (p : Point) => match p.cutAt with
    | some e => decide (e ≤ s.epn) && (match SMap.get (s.stream s.site).bundles (e - 1) with | some b => b.durable && (!s.peerUp || b.peerDur) | none => true)
    | none => false
  let done := s.repl.targetPoints.filter ok
  let s1 := { s with repl := { s.repl with targetPoints := s.repl.targetPoints.filter (fun p => !ok p) } }
  done.foldl (fun (acc : State) (p : Point) =>
    let a := { acc with repl := { acc.repl with replicated := max acc.repl.replicated p.epn, quality := p.quality, moved := true } }
    (a.sendControl 0x31 255 p.epn).event EV_REPL_POINT 0) s1

/-- Go on at the target's manager: resolve, admit, pull, note, receipt, apply. -/
def State.replTarget (s : State) : State :=
  if !(s.isTarget && s.isManager) then s
  else
    let s1 := s.resolveRecs
    let x := admitGo s1.pointLimit s1.repl.recs [] s1
    let s2 := (State.noteAdmitted { x.2 with repl := { x.2.repl with recs := x.1 } }).sendPulls
    let y := receiptGo s2.repl.admitted [] s2
    State.applyPoints { y.2 with repl := { y.2.repl with admitted := y.1 } }

/-! ### RBUNDLE, RDIFF, POINT -/

/-- Enter the records of a whole RBUNDLE (R532, R533). -/
def State.enterRecs (s : State) (stream epn : Nat) (recs : List ReplRec) : State :=
  let s1 := { s with repl := { s.repl with admitted := s.repl.admitted ++ [({ stream := stream, epn := epn, ssns := [] } : Admitted)] } }
  let s2 := recs.foldl (fun (acc : State) (r : ReplRec) =>
    acc.lookUp { stream := stream, epn := epn, item := { r with fp := padTo 32 r.fp }, since := acc.epn }) s1
  { s2 with repl := { s2.repl with inbox := s2.repl.inbox.filter (fun e => !(e.1 == stream && e.2.1 == epn)) } }

/-- The RBUNDLE of a stream that comes next in its chain, with every part of it here (R533): PREV names the one entered last, or nothing. -/
def State.nextBundle (s : State) (i : Nat) : Option RBundle :=
  s.repl.arrived.find? (fun b => b.stream == i && (b.prev == s.repl.done.getD i 0 || b.prev == 0)
    && decide ((s.repl.arrived.filter (fun x => x.stream == i && x.epn == b.epn)).length = b.parts))

/-- Records of an RBUNDLE in the order of its parts. -/
def State.bundleRecs (s : State) (i n parts : Nat) : List ReplRec :=
  (List.range parts).flatMap (fun k => match s.repl.arrived.find? (fun b => b.stream == i && b.epn == n && b.part == k) with | some b => b.recs | none => [])

/-- Enter every RBUNDLE whose turn has come; `fuel` bounds their number. -/
def chainGo (i : Nat) : Nat → State → State
  | 0, s => s
  | fuel + 1, s =>
    match s.nextBundle i with
    | none => s
    | some b =>
      let recs := s.bundleRecs i b.epn b.parts
      chainGo i fuel (State.enterRecs { s with repl := { s.repl with
        arrived := s.repl.arrived.filter (fun x => !(x.stream == i && x.epn == b.epn)), done := put2 s.repl.done i b.epn } } i b.epn recs)

/-- RBUNDLE (R529, R532, R533): one part of it. An epoch already entered is discarded (R538). -/
def execRbundle (h : ReplHdr) (recs : List ReplRec) (s : State) : Res :=
  s.onMessage 0x10 h fun s =>
    if 2 ≤ h.stream ∨ h.ident ≤ s.repl.done.getD h.stream 0 then s.dupDiscard
    else
      let b : RBundle := { stream := h.stream, epn := h.ident, prev := h.prev, recs := recs, part := h.part, parts := max 1 h.parts }
      let s1 := { s with repl := { s.repl with arrived := s.repl.arrived ++ [b] } }
      (chainGo h.stream s1.repl.arrived.length s1).replTarget

/-- RDIFF (R529, R536): the records count as of the epochs below every point. -/
def execRdiff (h : ReplHdr) (recs : List ReplRec) (s : State) : Res :=
  s.onMessage 0x50 h (fun s => (s.enterRecs 0 0 recs).replTarget)

/-- POINT (R534). -/
def execPoint (h : ReplHdr) (snap quality : Nat) (last : List Nat) (s : State) : Res :=
  s.onMessage 0x11 h fun s =>
    if h.ident ≤ s.repl.replicated then s
    else { s with repl := { s.repl with targetPoints := s.repl.targetPoints ++ [({ epn := h.ident, snap := snap, quality := quality, last := last } : Point)] } }

/-- REPLICA_POINT_CUT (R534): every record of epochs below C is admitted and none at or above it; the snapshot is cut at the next permitted
EPN, kept as 1,048,575 and, where the point names one, under that ID. -/
def execReplicaPointCut (s : State) : Res :=
  .next (match (if s.isTarget && s.isManager && s.session then s.repl.targetPoints.head? else none) with
    | none => s
    | some p =>
      let entered := [0, 1].all (fun i => decide (p.last.getD i 0 ≤ s.repl.done.getD i 0))
      let all := entered && s.repl.recs.all (fun r => decide (p.epn ≤ r.epn)) && ((s.stream s.site).classWaiting.all (fun e => e.1 != 3))
      if p.cutAt.isSome || !all then s
      else
        let e := s.leastE
        let ns := s.replNs
        let s1 := s.record (.snapDefine ⟨1048575, e, ns⟩)
        let s2 := if p.snap ≠ 0xFFFFFFFF then s1.record (.snapDefine ⟨p.snap, e, ns⟩) else s1
        { s2 with repl := { s2.repl with targetPoints := { p with cutAt := some e } :: s2.repl.targetPoints.tail } })

/-! ### CHUNK, PUSH, look-up timeout (R532, R535) -/

/-- REPL_CHUNK (R532): the bytes must have the fingerprint asked for; otherwise the target pulls again, and after three failures the session
goes down. A chunk unavailable at the source leaves its blocks lost. -/
def execReplChunk (h : ReplHdr) (c : ReplChunk) (s : State) : Res :=
  s.onMessage 0x21 h fun s =>
    match s.repl.pulls.find? (fun (p : Pull) => p.reqNo == h.ident) with
    | none => s
    | some p =>
      if c.unavailable then (s.stageRepl p.domain (s.allLost p.domain) p.fp []).replTarget
      else if s.fpOk { c with domain := p.domain, fp := p.fp } then (s.stageRepl p.domain c.lostBlocks p.fp c.data).replTarget
      else if 2 ≤ p.fails then (s.alarm AL_REPL_DIVERGE 0).sessionDown
      else
        let n := s.replReq
        let s1 := { n.2 with repl := { n.2.repl with pulls := n.2.repl.pulls.map (fun (x : Pull) =>
          if x.reqNo = p.reqNo then { x with reqNo := n.1, fails := x.fails + 1 } else x) } }
        s1.sendRepl false 0x20 255 0 1 n.1 0 0 (pullBytes ⟨n.1, p.domain, p.fp⟩)

/-- PUSH (R535): chunks of (STREAM, EPN), checked as pulled ones are; those that come before their RBUNDLE wait. -/
def execPush (h : ReplHdr) (cs : List ReplChunk) (s : State) : Res :=
  s.onMessage 0x22 h fun s =>
    (cs.foldl (fun (acc : State) (c : ReplChunk) =>
      if c.unavailable || !acc.fpOk c then acc
      else if acc.repl.recs.any (fun r => r.wants c.domain c.fp) then acc.stageRepl c.domain c.lostBlocks c.fp c.data
      else if h.ident ≤ acc.repl.done.getD h.stream 0 then acc
      else { acc with repl := { acc.repl with inbox := acc.repl.inbox ++ [(h.stream, h.ident, c)] } }) s).replTarget

/-- REPL_LOOKUP_TIMEOUT (R532): no reply within `repl.lookup_epochs`; F is listed in a PULL. -/
def execReplLookupTimeout (s : State) : Res :=
  let late := fun (r : TargetRec) => r.st == 0 && r.item.kind == 1 && decide (r.since + s.p p_repl_lookup_epochs ≤ s.epn)
  onlyIf (s.isTarget && s.isManager && s.session && s.repl.recs.any late) s (fun s =>
    State.sendPulls { s with repl := { s.repl with recs := s.repl.recs.map (fun (r : TargetRec) => if late r then { r with st := 5, ssn := 0 } else r) } })

/-! ### Partner repair (R337, R539) -/

/-- REPL_REPAIR_REQ (R539): the live chunk with that domain and F, as the read path found it (log 55), or NOT_FOUND. -/
def execReplRepairReq (h : ReplHdr) (domain : Nat) (fp : Bytes) (read : Option Bytes) (s : State) : Res :=
  onlyIf (s.rdmaOn && s.isManager && s.session && h.keyGen == s.repl.keyGen) s fun s =>
    let live := s.head.md.chunks.any (fun c => c.2.domain == domain && padTo 32 c.2.fp == padTo 32 fp && c.2.live && !c.2.lost)
    let u := match live, read with
      | true, some b => chunkUnit s.replPf1 domain false 0 fp b
      | _, _ => chunkUnit s.replPf1 domain true 0 fp []
    s.sendRepl true 0x41 255 0 1 h.ident 0 0 u

/-- REPAIR_DATA (R337, R539): the answer to a request of this head, checked before it serves. -/
def execRepairData (h : ReplHdr) (c : ReplChunk) (s : State) : Res :=
  onlyIf (s.rdmaOn && s.isManager && s.session && h.keyGen == s.repl.keyGen) s fun s =>
    match s.repl.asks.find? (fun a => a.1 == h.ident) with
    | none => s
    | some a =>
      State.repaired { s with repl := { s.repl with asks := s.repl.asks.filter (fun x => x.1 != h.ident) } } a.2.2.1 a.2.2.2
        (if c.unavailable then none else some c.data)

/-! ### Rows after which either side goes on -/

/-- Both sides of replication look at the state again; each acts in its role only. -/
def State.replStep (s : State) : State := s.replSource.replTarget

/-- BODY_COMPLETE (R162, R215, R531, R533). -/
def execBodyComplete (i : Fin 2) (n : Nat) (s : State) : Res := thenDo (bodyComplete i n s) State.replStep

/-- HEM_DURABLE (R154, R392, R533). -/
def execHemDurable (i : Fin 2) (n : Nat) (what : Fin 3) (s : State) : Res := thenDo (hemDurable i n what s) State.replTarget

/-- SEAM_DURABLE (R392, R533). -/
def execSeamDurable (i : Fin 2) (n : Nat) (bits : BitVec 3) (s : State) : Res := thenDo (seamDurable i n bits s) State.replTarget

/-- SPOKE_ACK (R429, R533). -/
def execSpokeAck (h : FrameHdr) (es : List AckEntry) (s : State) : Res := thenDo (spokeAck h es s) State.replTarget

/-- IDX_QUERY_REPLY (R222, R223, R264, R532). -/
def execIdxQueryReply (h : FrameHdr) (result chunkId : Nat) (s : State) : Res := thenDo (idxQueryReply h result chunkId s) State.replTarget

end Sys2Proof.Machine
end

