-- ==== Sys2Proof/Machine/Boundary.lean ====
section
/-! DEFINITION. Phase 0 of an epoch (R52): array time passes to the next epoch, and what waits for the boundary takes effect. -/

namespace Sys2Proof.Machine

/-! ### Handback (R408) -/

/-- Phase 0 of epoch `x`: where H has come, the group goes to the rejoined head; the manager's renewals carry the new owner. Commands
of the old owner that are not admitted yet are answered Asymmetric Access Transition (log 46). -/
def State.handbackAt (s : State) (x i : Nat) : State :=
  let st := s.stream i
  match st.handback with
  | none => s
  | some h =>
    if x < h then s
    else
      let owner := if st.mine then s.peerSite else s.site
      let s1 := st.waiting.foldl (fun (acc : State) (w : WaitCmd) => acc.reply w.cmd w.fromPeer nvAnaTrans) s
      let st1 := s1.stream i
      let s2 := s1.setStream i (if st.mine then { st1 with handback := none, waiting := [], gen := st.gen + 1 }
        else { st1 with
          mine := true, admitFrom := h, admitUntil := none, awaitSeal := decide (st.sealSeen + 1 < h), sealedEpn := h - 1, handback := none
          waiting := [], gen := st.gen + 1 })
      let s3 : State := if s2.seam.manager then
          { s2 with seam := { s2.seam with sets := s2.seam.sets ++ [RenewSet.owner i owner (st.gen + 1) st.nextSsn] } } else s2
      s3.event EV_SEAM_HANDBACK (srcOf 12 i)

/-- The old owner is done with a stream handed back once its last body is complete. -/
def State.handbackDone (s : State) (i : Nat) : State :=
  let st := s.stream i
  if st.mine && !s.seam.standing && s.lastDone i then s.setStream i { st with mine := false, admitUntil := none } else s

/-! ### The parts of phase 0 -/

/-- What any part does: cleared enables, loads and revocations take effect, domains switch, and the loss records are written (R129, R250,
R310, R554, R608). -/
def State.partBoundary (s : State) : State :=
  let s1 := s.ringClears
  let s2 : State := { s1 with digest := s1.digest.boundary }
  let s3 := s2.revokeBoundary.switchDomains.avsStep
  State.ringNotice { s3 with
    ev := s3.ev.lossRecords s3.time.t s3.epn
    port := s3.port.map (fun (p : SpokePort) => { p with control := 0 }) }

/-- What a shelf does besides (R394, R428, R499). -/
def State.shelfBoundary (s : State) : State := s.flashClears.kickAll.shelfWindow

/-- Every waiting command has waited through one more boundary (R211). -/
def State.countWaits (s : State) : State :=
  let more := fun (st : StreamSt) => { st with waiting := st.waiting.map (fun (w : WaitCmd) => { w with boundaries := w.boundaries + 1 }) }
  { s with head := { s.head with st0 := more s.head.st0, st1 := more s.head.st1 } }

/-- A head's seals, the group and lease moves, and standing down (R214, R404, R408, R409). -/
def State.sealBoundary (s : State) (x : Nat) : State :=
  let s1 := if s.seamOn then s.hbBoundary (x - 1) else s
  let s2 := ((s1.sealStream 0).sealStream 1).applyReady.countWaits
  let s3 := ((s2.handbackAt x 0).handbackAt x 1).leaseMoves x
  ((s3.handbackDone 0).handbackDone 1).finishStanding

/-- Keys that come into force, erases, credits, the journal flush and the pages due, snapshots, the barrier and the passes (R90, R165, R317, R324,
R339, R365, R374, R631). -/
def State.dataBoundary (s : State) (x : Nat) : State :=
  let s1 := (s.keysInForce x).eraseStep
  let s2 := (s1.grantCredits 0).grantCredits 1
  let s3 := State.flushPages (if s2.headUp then (s2.journalFlush 0).journalFlush 1 else s2)
  ((((s3.schedRecheck.cutSnaps x).barrierStep x).darnCheck).refoldBoundary).permitRestarts

/-- Epoch marks on every active spoke port (R48). -/
def State.sendMarks (s : State) (x : Nat) : State := s.toAll (bareFrame (.mark x s.time.t (qualityNum s.time.quality)))

/-- What the host and the partner see of the boundary (R183, R189, R194, R195, R202, R517, R526); `testEnd` is the result of a self-test
whose work is complete (R193). -/
def State.hostBoundary (s : State) (testEnd : Option (Fin 16)) : State :=
  let s0 := if s.psAdmits && s.cipher.drbgOk then s.takeHeldAdmin else s
  let s1 := s0.deleteSqs.psStep.testStep
  let s2 := match testEnd with
    | some r => s1.testDone r
    | none => s1
  let s3 := (s2.takeLogCopies.adminCheck.rdmaBoundary).replBoundary
  (if s3.isTarget then s3.replTarget else s3).anaUpdate

/-- The epoch of this run becomes the highest one recorded in the Hem, once JOIN has passed: until then the records of the runs before stand
for R38 and R39. An EPN above them ends AL_EPOCH_BACKWARD (R63). -/
def State.noteEpoch (s : State) (x : Nat) : State :=
  if s.boot.joined || s.seam.asked || s.boot.readyDone then s.ckptEpoch (max x s.hemHigh)
  else if s.boot.holds.contains AL_EPOCH_BACKWARD && decide (s.hemHigh < x) then
    State.clearAlarm { s with boot := { s.boot with holds := s.boot.holds.filter (· != AL_EPOCH_BACKWARD) } } AL_EPOCH_BACKWARD 0
  else s

/-- The quality that holds at an epoch boundary, for the points of that epoch (R44). -/
def State.noteQuality (s : State) (x : Nat) : State :=
  if s.isSource then
    { s with repl := { s.repl with quals :=
        (s.repl.quals.filter (fun e => decide (min s.repl.pointAt (x - 1) ≤ e.1))) ++ [(x, qualityNum s.time.quality)] } }
  else s

/-- The quality at this boundary, for the snapshots cut at it that become known here later (R338). -/
def State.noteCut (s : State) (x : Nat) : State :=
  { s with head := { s.head with
      quals := s.head.quals.filter (fun e => decide (min s.head.st0.replayed s.head.st1.replayed < e.1)) ++ [(x, qualityNum s.time.quality)] } }

/-- A head's phase 0 of epoch `x` (R39, R48, R52, R385). What the firmware wrote to the Hem in the epoch that ends is durable by then (R154):
DESIGN CHOICE (log 96). -/
def State.headBoundary (s0 : State) (x : Nat) (testEnd : Option (Fin 16)) : State :=
  let s := { s0 with hem := { s0.hem with looseSif := [], looseCk := [] } }
  ((((((s.noteQuality x).noteCut x).seamDrain.sendMarks x).sealBoundary x).dataBoundary x).hostBoundary testEnd).noteEpoch x

/-- The windows of a role whose activities move to the next epoch where they cannot start (R52, R54): not the heartbeats and the
renewals. -/
def State.deferrable (s : State) (w : Nat) : Bool :=
  if s.isShelf then [2, 6, 7].contains w else [2, 4, 7].contains w

/-- Activities that could not start within their windows, by the window's first eighth (R54): one that has run is not late. -/
def State.defer (s : State) (late : List (Fin 8)) : State :=
  let ws := (late.map (·.val)).filter (fun w => s.deferrable w && !s.time.ran.contains w && !s.time.ran.contains (w + 8))
  ws.foldl (fun (acc : State) (w : Nat) => acc.eventArg EV_EPOCH_SLICE_DEFERRED 0 (le 1 w))
    { s with time := { s.time with deferred := ws, ran := [] } }

/-- The averages of the last 1 ms, in mW per domain (R628). -/
def State.domainPower (s : State) (mw : List Nat) : State :=
  { s with power := { s.power with pd := s.power.pd.mapIdx (fun i (d : PdSt) =>
      let a := min (mw.getD i d.avgMw) 0xFFFF
      { d with avgMw := a, peakMw := max d.peakMw a }) } }

/-- EPOCH_BOUNDARY (R52, R54): `late` names the activities of the ended epoch that did not start in their windows; `pkgDw`, `cons` and
`mw` are what the power meters show: the package and the consumers in 0.1 W (R610), the domains in mW (R628); `testEnd` is the result of
a self-test that has ended. -/
def execEpochBoundary (late : List (Fin 8)) (pkgDw : Nat) (cons mw : List Nat) (testEnd : Option (Fin 16)) (s : State) : Res :=
  onlyIf (s.live && s.time.tSet) s fun s =>
    let x := s.epn + 1
    let s0 := (s.setT (max s.time.t (s.epochStart x - 1))).setT (s.epochStart x)
    let s1 := ((State.domainPower { s0 with power := { s0.power with resuming := false } } mw).budgetStep pkgDw cons)
    if !s1.fw then { s1 with time := { s1.time with ran := [] } }
    else
      let s2 := (s1.defer late).partBoundary
      if s2.isShelf then s2.shelfBoundary
      else
        let s3 := s2.headBoundary x testEnd
        if s1.seam.standing && !s3.seam.standing && s3.seam.thenRestart then s3.restart 4 else s3

end Sys2Proof.Machine
end

