-- ==== Sys2Proof/Machine/Regs.lean ====
section
/-! DEFINITION. The runtime registers as CSR space shows them (R61, R62, R93, R117, R128, R141, R145, R172, R269, R294, R319, R379,
R413, R437, R472, R503, R504, R543, R585, R628): reserved bits read zero. -/

namespace Sys2Proof.Machine

/-- A number in two's complement of `w` bits, saturating (temperatures). -/
def twos (w : Nat) (x : Int) : Nat :=
  let hi : Int := 2 ^ (w - 1) - 1
  let y := max (-hi - 1) (min hi x)
  (if 0 ≤ y then y else y + 2 ^ w).toNat

/-- Bits of a list of Booleans, the first lowest. -/
def bitsOf : List Bool → Nat
  | [] => 0
  | b :: bs => b2n b + 2 * bitsOf bs

/-- The units of a block that run a job. -/
def State.busyUnits (s : State) (block k : Nat) : Nat :=
  bitsOf ((List.range k).map (fun u => s.ring.jobs.any (fun e => e.2.block == block && e.2.unit == some u)))

/-- DIGEST_STATUS (R269). -/
def State.digestStatus (s : State) : Nat := s.digest.pipeOk.toNat + 16 * s.busyUnits 3 4

/-- MATCH_CTRL (R269). -/
def State.matchCtrl (s : State) : Nat :=
  b2n s.cam.locked + 2 * b2n (s.halfOk 0) + 4 * b2n (s.halfOk 1) + 2 ^ 16 * s.cam.falseHits + 2 ^ 32 * s.cam.mirrorDiffs

/-- A region entry of 64 bytes (R269). -/
def Region.bytes (r : Region) : Bytes := le 4 r.base ++ le 4 r.count ++ le 4 r.flags ++ zeros 20 ++ le 32 r.vmask.toNat

/-- A region entry from 64 bytes; the zero bytes stay zero. -/
def Region.ofBytes (b : Bytes) : Region := ⟨num b 0 4, num b 4 4, num b 8 4 % 4, BitVec.ofNat 256 (num b 32 32)⟩

/-- PRESS_STATUS (R294): SEAL_WAITING stands for a job that waits for a lane, not for its channel. -/
def State.pressStatus (s : State) : Nat :=
  ((SMap.keys s.press.seqs).filter s.suspended).length + 2 ^ 8 * b2n ((s.pressReady 0).any (fun e => decide (248 ≤ pressCh e.2.desc)))
    + 2 ^ 16 * s.press.selfChecks + 2 ^ 32 * s.press.formatErrs

/-- CH_STATE of a channel (R294). -/
def State.chState (s : State) (ch : Nat) : Nat :=
  let run := (s.jobsOf 5 0).any (fun e => e.2.isRunning && pressCh e.2.desc == ch)
  match SMap.get s.press.seqs ch with
  | some q => (if s.suspended ch then 2 else 1) + 2 ^ 8 * q.covered
  | none => b2n run

/-- CIPHER_STATUS (R319). -/
def State.cipherStatus (s : State) : Nat :=
  s.cipher.pairOk.toNat + 2 ^ 16 * s.busyUnits 6 16 + 2 ^ 32 * b2n s.cipher.drbgOk
    + 2 ^ 33 * b2n ((s.keySlot dieSlot).state == 1) + 2 ^ 48 * s.cipher.mismatches

/-- SLOT_STATE of a key slot (R319). -/
def KeySlot.status (k : KeySlot) : Nat := k.state + 4 * k.type + 16 * k.use

/-- PARITY_STATUS (R379). -/
def State.parityStatus (s : State) : Nat :=
  b2n s.parity.katOk + 2 * b2n ((s.jobsOf 7 0).any (·.2.isRunning)) + 2 ^ 16 * s.parity.mismatches

/-- HEM_STATUS (R172): the occupancy is known once the scan is done. -/
def State.hemStatus (s : State) : Nat :=
  (if s.isHead && s.hem.scanDone then (subRingUnits - s.hem.s0.used) + 2 ^ 16 * (subRingUnits - s.hem.s1.used) else 0)
    + 2 ^ 32 * s.hem.crcErrs + 2 ^ 48 * b2n s.hem.scanDone

/-- MC_CTRL (R145). -/
def McSt.ctrl (m : McSt) : Nat :=
  b2n m.enable + 2 * b2n m.invDone + 2 ^ 8 * bitsOf (m.slots.map (·.busy)) + 2 ^ 16 * m.lastSt

/-- SEAM_STATUS (R413): `named` reports name this head. -/
def SeamSt.status (m : SeamSt) (named : Nat) : Nat :=
  m.lanesUp.toNat + 2 ^ 16 * b2n m.linkUp + 2 ^ 17 * b2n m.pathA + 2 ^ 18 * b2n m.pathB + 2 ^ 19 * m.peerState
    + 2 ^ 22 * b2n m.manager + 2 ^ 23 * b2n m.fenced + 2 ^ 24 * min named 0xFF + 2 ^ 32 * min m.silent 0xFFFF

/-- PORT_STATUS of a spoke port (R437). -/
def SpokePort.status (q : SpokePort) : Nat :=
  q.state + 8 * b2n q.admitted + 16 * q.peerSite + 2 ^ 10 * q.peerRole + 2 ^ 16 * q.retrains + 2 ^ 32 * q.frameErrs

/-- FTL_STATUS (R472): on a head zero. A flush is one step, so FLUSH_ACTIVE reads 0 (log 8). -/
def State.ftlStatus (s : State) : Nat :=
  if s.isHead then 0
  else s.sh.state + 8 * b2n s.sh.paused + 32 * b2n s.sh.dumpPending + 2 ^ 16 * min s.sh.sparePool 0xFFFF
    + 2 ^ 32 * (if s.sh.state = 0 then 0 else s.openIntents.length)

/-- PORT_STATUS of a front port (R543). -/
def FrontPort.status (q : FrontPort) : Nat :=
  b2n q.up + 2 * q.speed + 16 * q.paused.toNat + 2 ^ 16 * min (q.parked / 1024) 0xFFFF + 2 ^ 32 * q.drops

/-- RDMA_STATUS (R543). -/
def RdmaSt.status (r : RdmaSt) : Nat :=
  (r.qps.filter (fun e => e.2.state == 1)).length + 2 ^ 32 * min r.lastMisses 0xFFFF

/-- REPL_STATUS (R543). -/
def State.replStatus (s : State) : Nat := s.repl.state + 8 * b2n s.head.md.syncOff + 2 ^ 32 * s.repl.keyGen

/-- PWR_STATUS (R628). -/
def PowerSt.status (p : PowerSt) : Nat :=
  p.resetCause + 2 ^ 4 * b2n p.pfAsserted + 2 ^ 5 * b2n p.holdupFail + 2 ^ 6 * b2n (p.throttledBudget || p.throttledTherm)
    + 2 ^ 7 * b2n p.avs + 2 ^ 8 * p.vcoreMv + 2 ^ 18 * p.railFault.toNat + 2 ^ 32 * p.pkgDw

/-- EXT_TEMP (R628). -/
def PowerSt.extTemp (p : PowerSt) : Nat := leNat ((p.hbmC ++ p.sdsC).map (fun c => BitVec.ofNat 8 (twos 8 c)))

/-- PD_STATUS and PD_POWER (R628). -/
def PdSt.status (d : PdSt) : Nat := d.state + 4 * b2n d.roleUse + 2 ^ 16 * min d.upCount 0xFFFF
def PdSt.power (d : PdSt) : Nat := min d.avgMw 0xFFFF + 2 ^ 16 * min d.peakMw 0xFFFF

/-- TS_READ and TS_EXTREMES (R628). -/
def TsSt.read (t : TsSt) : Nat := twos 16 t.temp + 2 ^ 16 * b2n t.valid + 2 ^ 17 * b2n t.warn + 2 ^ 18 * b2n t.crit
def TsSt.extremes (t : TsSt) : Nat := twos 16 t.max + 2 ^ 16 * twos 16 t.min

/-- MC command slot registers, as offset from 0x0100, size and value (R141). -/
def McSlot.reg (k : McSlot) (o : Nat) : Bytes :=
  if o < 0x08 then le 8 k.cmd else if o < 0x10 then le 8 k.addr else if o < 0x18 then le 8 k.len else le 8 k.status

/-- A register image found at an offset: where it begins and its bytes. -/
abbrev RegImg := Option (Nat × Bytes)

/-- A register of `n` bytes at `at'`, where `off` lies in it. -/
def regIn (off at' n v : Nat) : RegImg := if at' ≤ off ∧ off < at' + n then some (at', le n v) else none

/-- The first register of a list that holds the offset. -/
def firstReg : List RegImg → RegImg
  | [] => none
  | some r :: _ => some r
  | none :: rest => firstReg rest

/-- The register of block CSR space that holds a byte: block, instance, offset (R127, R585). -/
def State.regAt (s : State) (block inst off : Nat) : RegImg :=
  if block = 0x01 ∧ inst = 0 then firstReg [regIn off 0 8 s.time.t, regIn off 8 8 s.epn, regIn off 0x10 4 s.time.status]
  else if block = 0x0E ∧ inst = 0 then
    firstReg [regIn off 0 8 s.boot.status, regIn off 8 4 s.boot.imageSeq, regIn off 0x0C 4 s.boot.secVersion,
      regIn off 0x10 16 (leNat s.boot.replayId), regIn off 0x20 8 s.boot.otpFloor, regIn off 0x30 4 s.ledger.status,
      regIn off 0x38 8 s.ledger.newestSeq, regIn off 0x40 8 s.ledger.bootCount]
  else if block = 0x02 ∧ inst = 0 then regIn off 0 8 s.hemStatus
  else if block = 0x03 ∧ inst = 0 then
    firstReg [regIn off 0 8 s.digestStatus,
      if 0x1000 ≤ off ∧ off < 0x1100 then
        regIn off off 1 (match SMap.get s.digest.slots (off - 0x1000) with | some k => k.alg | none => 0)
      else none]
  else if block = 0x04 ∧ inst = 0 then
    firstReg [regIn off 0 8 s.matchCtrl,
      if 0x1000 ≤ off ∧ off < 0x1400 then some (off / 64 * 64, (s.region ((off - 0x1000) / 64)).bytes) else none]
  else if block = 0x05 ∧ inst = 0 then
    firstReg [regIn off 0 8 s.press.clOk.toNat, regIn off 8 8 s.press.dlOk.toNat, regIn off 0x10 8 s.pressStatus,
      if 0x1000 ≤ off ∧ off < 0x1800 then regIn off (off / 8 * 8) 8 (s.chState ((off - 0x1000) / 8)) else none]
  else if block = 0x06 ∧ inst = 0 then
    firstReg [regIn off 0 8 s.cipherStatus,
      if 0x1000 ≤ off ∧ off < 0x2000 then regIn off off 1 (s.keySlot (off - 0x1000)).status else none]
  else if block = 0x07 ∧ inst = 0 then regIn off 0 8 s.parityStatus
  else if block = 0x08 ∧ inst < 64 then
    let q := s.portOf inst
    firstReg [regIn off 0 8 q.status, regIn off 8 4 q.delayNs, regIn off 0x10 8 (q.w + 2 ^ 32 * q.q)]
  else if block = 0x09 ∧ inst < 32 then
    let c := s.chan inst
    firstReg [regIn off 0 8 c.ctrl, regIn off 8 8 c.status,
      if 0x100 ≤ off ∧ off < 0x180 then regIn off (off / 8 * 8) 8 (s.lun inst ((off - 0x100) / 8)).status else none]
  else if block = 0x0A ∧ inst = 0 then
    firstReg [regIn off 0 8 s.ftlStatus, regIn off 8 8 (if s.isHead then 0 else s.freeBytes),
      regIn off 0x10 4 (if s.isHead then 0 else s.plbUsed)]
  else if block = 0x0B ∧ inst < 16 then
    firstReg [regIn off 0 8 (s.front.getD inst {}).status, if inst = 0 then regIn off 0x100 8 s.rdma.status else none]
  else if block = 0x0C ∧ inst = 0 then
    firstReg [regIn off 0 8 (s.seam.status (s.suspectCount s.site)), regIn off 8 8 s.seam.leaseGen, regIn off 0x10 8 (s.stream 0).replayed,
      regIn off 0x18 8 (s.stream 1).replayed]
  else if block = 0x0F ∧ inst = 0 then
    firstReg [regIn off 0 8 s.mc.ctrl,
      if 0x100 ≤ off ∧ off < 0x300 ∧ off % 0x40 < 0x20 then some (off / 8 * 8, (s.mc.slot ((off - 0x100) / 0x40)).reg (off % 0x40))
      else none]
  else if block = 0x10 then
    if inst = 0 then firstReg [regIn off 0 8 s.power.status, regIn off 8 8 s.power.extTemp]
    else if inst ≤ 50 then
      let d := s.pdOf (inst - 1)
      firstReg [regIn off 0 8 (b2n d.offReq), regIn off 8 8 d.status, regIn off 0x10 8 d.power]
    else if 64 ≤ inst ∧ inst < 128 then
      let t := s.power.ts.getD (inst - 64) {}
      firstReg [regIn off 0 8 t.read, regIn off 8 8 t.extremes]
    else none
  else if block = 0x12 ∧ inst = 0 then firstReg [regIn off 0 8 s.replStatus, regIn off 8 8 s.repl.replicated]
  else if block = 0x13 ∧ inst = 0 then some (off / 16 * 16, (s.ringOf (off / 16)).bytes)
  else none

/-- What a load of CSR space returns (R9): the bytes of the register, zero where none lies. -/
def State.csrRead (s : State) (addr n : Nat) : Bytes :=
  let a := csrAt addr
  match s.regAt a.1 a.2.1 a.2.2 with
  | some r => padTo n (r.2.drop (a.2.2 - r.1))
  | none => zeros n

end Sys2Proof.Machine
end

