-- ==== Sys2Proof/Machine/Csr.lean ====
section
/-! DEFINITION. Stores to block CSR space (R9, R121, R128, R141, R145, R269, R503, R608): the writable registers, and the check of
the flash sequencers. -/

namespace Sys2Proof.Machine

/-- The flash-ROM range (R121). -/
def inFlashRom (pc : Nat) : Bool := decide (0x7000080000 ≤ pc ∧ pc ≤ 0x70000FFFFF)

/-- MC registers (R141, R145): ENABLE; a command slot. A command in MC_CMD that is none of the seven does nothing (log 74). -/
def State.mcWrite (s : State) (off : Nat) (v : Bytes) : State :=
  if !s.mcUp then s
  else if off = 0 then (if bit (leNat v) 0 then { s with mc := s.mc.enableWrite } else s.mcDisable)
  else if 0x100 ≤ off ∧ off < 0x300 then
    let i := (off - 0x100) / 0x40
    let o := off % 0x40
    let k := s.mc.slot i
    if o = 0 then s.mcCmd i (leNat v) k.addr k.len
    else if 0x08 ≤ o ∧ o < 0x10 then { s with mc := s.mc.setSlot i { k with addr := leNat (overlay (le 8 k.addr) (o - 0x08) v) } }
    else if 0x10 ≤ o ∧ o < 0x18 then { s with mc := s.mc.setSlot i { k with len := leNat (overlay (le 8 k.len) (o - 0x10) v) } }
    else s
  else s

/-- MATCH registers (R252, R269): the lock, and the region table until it is locked. -/
def State.matchWrite (s : State) (off : Nat) (v : Bytes) : State :=
  if !s.isHead then s
  else if off = 0 then (if bit (leNat v) 0 then { s with cam := { s.cam with locked := true } } else s)
  else if 0x1000 ≤ off ∧ off < 0x1400 ∧ !s.cam.locked then
    let r := (off - 0x1000) / 64
    { s with cam := { s.cam with regions := s.cam.regions.set r (Region.ofBytes (overlay (s.region r).bytes (off % 64) v)) } }
  else s

/-- CH_CTRL (R129, R499, R503). A clear of ENABLE waits for the boundary; until then every write is ignored. -/
def State.chanWrite (s : State) (c off : Nat) (v : Bytes) : State :=
  let k := s.chan c
  if off < 8 ∧ !k.clearing then
    let x := leNat (overlay (le 8 k.ctrl) off v)
    let on := bit x 0
    s.setChan c { k with
      enable := on
      clearing := !on && k.enable
      std := field x 1 3
      lpddr := bit x 4
      rate := field x 16 12 }
  else s

/-- PD_CTRL (R608). -/
def State.pdWrite (s : State) (d off : Nat) (v : Bytes) : State :=
  if off = 0 ∧ pdSwitchable d then s.setPd d { s.pdOf d with offReq := bit (leNat v) 0 } else s

/-- A store that reaches a register (R9): the writable ones change; a read-only or reserved field keeps its value. -/
def State.csrStore (s : State) (block inst off : Nat) (v : Bytes) : State :=
  if block = 0x04 ∧ inst = 0 then s.matchWrite off v
  else if block = 0x09 ∧ inst < 32 then s.chanWrite inst off v
  else if block = 0x0F ∧ inst = 0 then s.mcWrite off v
  else if block = 0x10 ∧ 1 ≤ inst ∧ inst ≤ 50 then s.pdWrite (inst - 1) off v
  else if block = 0x13 ∧ inst = 0 then s.ringWrite (off / 16) (off % 16) v
  else s

/-- A store that CSR space takes: of 1 to 8 bytes, aligned to its length. The spec does not say what any other does; it changes nothing: DESIGN
CHOICE (log 84). -/
def csrSized (addr : Nat) (v : Bytes) : Bool := decide (1 ≤ v.length ∧ v.length ≤ 8 ∧ addr % v.length = 0)

/-- CSR_WRITE (R9, R121, R126): a store of engine `e` at `pc` to an address of block CSR space, of 1 to 8 bytes; at an address that the map
does not list the engine takes a store access fault (cause 7, PRESUMED, log 18). A store to a flash sequencer from outside the flash-ROM
range is dropped and reported: the argument holds the engine number in 1 byte, then the program counter in 8, DESIGN CHOICE (log 84). -/
def execCsrWrite (e : Fin 48) (pc addr : Nat) (v : Bytes) (s : State) : Res :=
  onlyIf (s.engRuns e && ((areaOf addr == .csr && csrSized addr v) || areaOf addr == .absent)) s fun s =>
    let a := csrAt addr
    if areaOf addr = .absent then s.setEngine e { s.engine e with exc := 8 }
    else if a.1 = 0x09 ∧ a.2.1 < 32 ∧ !inFlashRom pc then s.eventArg EV_ENGINE_SEQ_WRITE_BLOCKED (engSrc e) (le 1 e ++ le 8 pc)
    else s.csrStore a.1 a.2.1 a.2.2 v

end Sys2Proof.Machine
end

