-- ==== Sys2Proof/Machine/Jtag.lean ====
section
/-! DEFINITION. JTAG (R563). Shifting is not modelled bit by bit: a row loads an instruction and scans its data register
once. -/

namespace Sys2Proof.Machine

/-- The IDCODE of stepping A1 (R563): version, part number, manufacturer, and the constant 1 of IEEE 1149.1. -/
def idcode : Nat := 0x1 * 2 ^ 28 + 0x7264 * 2 ^ 12 + Config.jedecId % 2 ^ 11 * 2 + 1

/-- Load an instruction. -/
def State.jtagIr (s : State) (ir : JtagIr) : State := { s with jtag := { s.jtag with ir := ir } }

/-- JTAG_BYPASS (R563): acts in every state; one bit, captured as 0. -/
def execJtagBypass (s : State) : Res := .next ((s.jtagIr .bypass).emit (.jtag 1 0))

/-- JTAG_IDCODE (R563): acts in every state. -/
def execJtagIdcode (s : State) : Res := .next ((s.jtagIr .idcode).emit (.jtag 32 idcode))

/-- JTAG_SAMPLE_PRELOAD (R563): acts in every state; the pins as sampled are a free value (log 6), the latches take the
pattern shifted in. -/
def execJtagSamplePreload (pattern : Nat) (s : State) : Res :=
  let f := (s.jtagIr .samplePreload).takeFree
  .next (State.emit { f.2 with jtag := { f.2.jtag with boundary := pattern } } (.jtag 0 f.1))

/-- The three EXTEST instructions act only while POR_N is asserted (R563). -/
def State.extest (s : State) (ir : JtagIr) (pattern : Nat) : State :=
  let f := (s.jtagIr ir).takeFree
  State.emit { f.2 with jtag := { f.2.jtag with boundary := pattern } } (.jtag 0 f.1)

/-- JTAG_EXTEST (R563). -/
def execJtagExtest (pattern : Nat) (s : State) : Res := onlyIf (!s.pins.porN) s (fun s => s.extest .extest pattern)

/-- JTAG_EXTEST_PULSE (R563). -/
def execJtagExtestPulse (pattern : Nat) (s : State) : Res := onlyIf (!s.pins.porN) s (fun s => s.extest .extestPulse pattern)

/-- JTAG_EXTEST_TRAIN (R563). -/
def execJtagExtestTrain (pattern : Nat) (s : State) : Res := onlyIf (!s.pins.porN) s (fun s => s.extest .extestTrain pattern)

/-- JTAG_ENGINE_DEBUG (R563): acts only in recovery mode; what the debug port of an engine answers is not given, so a free
value (log 6). -/
def execJtagEngineDebug (request : Nat) (s : State) : Res :=
  onlyIf (s.live && s.boot.stage == .recoveryMode) s fun s =>
    let f := (s.jtagIr .engineDebug).takeFree
    State.emit { f.2 with jtag := { f.2.jtag with boundary := request } } (.jtag 0 f.1)

end Sys2Proof.Machine
end

