-- ==== Sys2Proof/Machine/Dispatch.lean ====
section
/-! DEFINITION. The dispatch of commands: one arm per constructor. -/

namespace Sys2Proof.Machine

/-- The effect of a command on everything but the queue. -/
def exec (i : Instr) (s : State) : Host.Outcome State Fault Refusal :=
  match i with
  | .porNRelease roleSel siteId => Sys2Proof.Machine.execPorNRelease roleSel siteId s
  | .porNAssert railsGood => Sys2Proof.Machine.execPorNAssert railsGood s
  | .warmRstNRelease => Sys2Proof.Machine.execWarmRstNRelease s
  | .warmRstNAssert railsGood => Sys2Proof.Machine.execWarmRstNAssert railsGood s
  | .readyWatchdogExpiry => Sys2Proof.Machine.execReadyWatchdogExpiry s
  | .bootRomStart sfdp8d => Sys2Proof.Machine.execBootRomStart sfdp8d s
  | .bootSelect => Sys2Proof.Machine.execBootSelect s
  | .bootLoad => Sys2Proof.Machine.execBootLoad s
  | .bootDomains => Sys2Proof.Machine.execBootDomains s
  | .ledgerBegin => Sys2Proof.Machine.execLedgerBegin s
  | .bootMemory trained => Sys2Proof.Machine.execBootMemory trained s
  | .bootHem bad torn => Sys2Proof.Machine.execBootHem bad torn s
  | .bootFirmware k => Sys2Proof.Machine.execBootFirmware k s
  | .bootLinks f => Sys2Proof.Machine.execBootLinks f s
  | .bootWaitTime => Sys2Proof.Machine.execBootWaitTime s
  | .bootRecovery => Sys2Proof.Machine.execBootRecovery s
  | .bootJoin j => Sys2Proof.Machine.execBootJoin j s
  | .bootReady fails vpp => Sys2Proof.Machine.execBootReady fails vpp s
  | .barrierAbort => Sys2Proof.Machine.execBarrierAbort s
  | .timePpsEdge err gap off peerSecond => Sys2Proof.Machine.execTimePpsEdge err gap off peerSecond s
  | .timeRefLoss => Sys2Proof.Machine.execTimeRefLoss s
  | .timePpsTimeout => Sys2Proof.Machine.execTimePpsTimeout s
  | .ptpSync off m => Sys2Proof.Machine.execPtpSync off m s
  | .ptpSyncTimeout => Sys2Proof.Machine.execPtpSyncTimeout s
  | .holdoverExpiry => Sys2Proof.Machine.execHoldoverExpiry s
  | .slewDone => Sys2Proof.Machine.execSlewDone s
  | .skewAlarm => Sys2Proof.Machine.execSkewAlarm s
  | .epochBoundary late pkgDw cons mw testEnd => Sys2Proof.Machine.execEpochBoundary late pkgDw cons mw testEnd s
  | .heartbeatWindow => Sys2Proof.Machine.execHeartbeatWindow s
  | .leaseRenewalWindow => Sys2Proof.Machine.execLeaseRenewalWindow s
  | .checkpointWindow => Sys2Proof.Machine.execCheckpointWindow s
  | .rinseSlice i1 reads => Sys2Proof.Machine.execRinseSlice i1 reads s
  | .clearingSlice => Sys2Proof.Machine.execClearingSlice s
  | .ftlJournalFlush => Sys2Proof.Machine.execFtlJournalFlush s
  | .healthSampling logic hbm sds nand => Sys2Proof.Machine.execHealthSampling logic hbm sds nand s
  | .markLoss => Sys2Proof.Machine.execMarkLoss s
  | .dpost e rd rs1 rs2 => Sys2Proof.Machine.execDpost e rd rs1 rs2 s
  | .rwait e rd rs1 rs2 => Sys2Proof.Machine.execRwait e rd rs1 rs2 s
  | .ewait e rd rs1 => Sys2Proof.Machine.execEwait e rd rs1 s
  | .phtime e rd cyc => Sys2Proof.Machine.execPhtime e rd cyc s
  | .phtarm e rs1 => Sys2Proof.Machine.execPhtarm e rs1 s
  | .phaseTimerInterrupt e => Sys2Proof.Machine.execPhaseTimerInterrupt e s
  | .yildomIllegalInstruction e w => Sys2Proof.Machine.execYildomIllegalInstruction e w s
  | .engineTrap e cause => Sys2Proof.Machine.execEngineTrap e cause s
  | .csrWrite e pc addr v => Sys2Proof.Machine.execCsrWrite e pc addr v s
  | .ringEnable n ctrl => Sys2Proof.Machine.execRingEnable n ctrl s
  | .ringDisable n => Sys2Proof.Machine.execRingDisable n s
  | .completionRingHeadAdvance n head => Sys2Proof.Machine.execCompletionRingHeadAdvance n head s
  | .descriptorFetch block inst => Sys2Proof.Machine.execDescriptorFetch block inst s
  | .descriptorCompletion what => Sys2Proof.Machine.execDescriptorCompletion what s
  | .mcInvAll slot => Sys2Proof.Machine.execMcInvAll slot s
  | .mcInvRange slot addr len => Sys2Proof.Machine.execMcInvRange slot addr len s
  | .mcCleanRange slot addr len => Sys2Proof.Machine.execMcCleanRange slot addr len s
  | .mcCleanInvRange slot addr len => Sys2Proof.Machine.execMcCleanInvRange slot addr len s
  | .mcLockFill slot addr len => Sys2Proof.Machine.execMcLockFill slot addr len s
  | .mcUnlockRange slot addr len => Sys2Proof.Machine.execMcUnlockRange slot addr len s
  | .mcCleanAll slot => Sys2Proof.Machine.execMcCleanAll slot s
  | .mcEnable => Sys2Proof.Machine.execMcEnable s
  | .mcDisable => Sys2Proof.Machine.execMcDisable s
  | .hbmPatrolScrub corrected uncorrectable => Sys2Proof.Machine.execHbmPatrolScrub corrected uncorrectable s
  | .hbmStackFatal k => Sys2Proof.Machine.execHbmStackFatal k s
  | .hemDurable i1 n what => Sys2Proof.Machine.execHemDurable i1 n what s
  | .hemCreditLow i1 => Sys2Proof.Machine.execHemCreditLow i1 s
  | .hemAdmitStall i1 => Sys2Proof.Machine.execHemAdmitStall i1 s
  | .perstNAssert => Sys2Proof.Machine.execPerstNAssert s
  | .perstNRelease => Sys2Proof.Machine.execPerstNRelease s
  | .hotReset => Sys2Proof.Machine.execHotReset s
  | .functionLevelReset fn => Sys2Proof.Machine.execFunctionLevelReset fn s
  | .ccEnSet cntlid sqSize cqSize => Sys2Proof.Machine.execCcEnSet cntlid sqSize cqSize s
  | .ccEnClear cntlid => Sys2Proof.Machine.execCcEnClear cntlid s
  | .nssrWrite cntlid => Sys2Proof.Machine.execNssrWrite cntlid s
  | .sqTailDoorbell cntlid sqid tail => Sys2Proof.Machine.execSqTailDoorbell cntlid sqid tail s
  | .cqHeadDoorbell cntlid cqid head => Sys2Proof.Machine.execCqHeadDoorbell cntlid cqid head s
  | .keepAliveExpiry cntlid => Sys2Proof.Machine.execKeepAliveExpiry cntlid s
  | .fabricsConnect cmd sqSize hostNqn hostId kato => Sys2Proof.Machine.execFabricsConnect cmd sqSize hostNqn hostId kato s
  | .nvmeRead cmd nsid slba nlb pract prchk tag mask ref => Sys2Proof.Machine.execNvmeRead cmd nsid slba nlb pract prchk tag mask ref s
  | .nvmeWrite cmd nsid slba nlb data pract prchk tag mask pi => Sys2Proof.Machine.execNvmeWrite cmd nsid slba nlb data pract prchk tag mask pi s
  | .nvmeWriteZeroes cmd nsid slba nlb deac => Sys2Proof.Machine.execNvmeWriteZeroes cmd nsid slba nlb deac s
  | .nvmeDatasetManagement cmd nsid deallocate ranges => Sys2Proof.Machine.execNvmeDatasetManagement cmd nsid deallocate ranges s
  | .nvmeFlush cmd nsid => Sys2Proof.Machine.execNvmeFlush cmd nsid s
  | .nvmeCompare cmd nsid slba nlb data prchk tag mask ref => Sys2Proof.Machine.execNvmeCompare cmd nsid slba nlb data prchk tag mask ref s
  | .nvmeCompareAndWrite cmp cmd nsid slba nlb expect data pract prchk tag mask pi => Sys2Proof.Machine.execNvmeCompareAndWrite cmp cmd nsid slba nlb expect data pract prchk tag mask pi s
  | .nvmeVerify cmd nsid slba nlb prchk tag mask ref => Sys2Proof.Machine.execNvmeVerify cmd nsid slba nlb prchk tag mask ref s
  | .nvmeCopy cmd nsid fmt sdlba ranges => Sys2Proof.Machine.execNvmeCopy cmd nsid fmt sdlba ranges s
  | .reservationRegister cmd nsid action cur new opts => Sys2Proof.Machine.execReservationRegister cmd nsid action cur new opts s
  | .reservationAcquire cmd nsid action rtype cur preempt => Sys2Proof.Machine.execReservationAcquire cmd nsid action rtype cur preempt s
  | .reservationRelease cmd nsid action rtype cur => Sys2Proof.Machine.execReservationRelease cmd nsid action rtype cur s
  | .reservationReport cmd nsid extended => Sys2Proof.Machine.execReservationReport cmd nsid extended s
  | .nvmeUnsupportedOpcode cmd => Sys2Proof.Machine.execNvmeUnsupportedOpcode cmd s
  | .identify cmd cns nsid cntid => Sys2Proof.Machine.execIdentify cmd cns nsid cntid s
  | .createIoSq cmd qid size cqid => Sys2Proof.Machine.execCreateIoSq cmd qid size cqid s
  | .createIoCq cmd qid size vector => Sys2Proof.Machine.execCreateIoCq cmd qid size vector s
  | .deleteIoSq cmd qid => Sys2Proof.Machine.execDeleteIoSq cmd qid s
  | .deleteIoCq cmd qid => Sys2Proof.Machine.execDeleteIoCq cmd qid s
  | .nvmeAbort cmd sqid cid => Sys2Proof.Machine.execNvmeAbort cmd sqid cid s
  | .getFeatures cmd fid nsid sel => Sys2Proof.Machine.execGetFeatures cmd fid nsid sel s
  | .setFeatures cmd fid nsid value data => Sys2Proof.Machine.execSetFeatures cmd fid nsid value data s
  | .setFeaturesNumberOfQueues cmd nsq ncq => Sys2Proof.Machine.execSetFeaturesNumberOfQueues cmd nsq ncq s
  | .getLogPage cmd lid lsp off len rae => Sys2Proof.Machine.execGetLogPage cmd lid lsp off len rae s
  | .logArrayStatus cmd lsp off len rae => Sys2Proof.Machine.execLogArrayStatus cmd lsp off len rae s
  | .logAdmissionAndHem cmd lsp off len rae => Sys2Proof.Machine.execLogAdmissionAndHem cmd lsp off len rae s
  | .logShelfHealth cmd lsp off len rae => Sys2Proof.Machine.execLogShelfHealth cmd lsp off len rae s
  | .logStripePasses cmd lsp off len rae => Sys2Proof.Machine.execLogStripePasses cmd lsp off len rae s
  | .logBootLedger cmd off len rae => Sys2Proof.Machine.execLogBootLedger cmd off len rae s
  | .logBootLedgerCollected cmd off len rae => Sys2Proof.Machine.execLogBootLedgerCollected cmd off len rae s
  | .logEventRing cmd off len rae => Sys2Proof.Machine.execLogEventRing cmd off len rae s
  | .logEventSummary cmd off len rae => Sys2Proof.Machine.execLogEventSummary cmd off len rae s
  | .logEventRingMark cmd off len rae => Sys2Proof.Machine.execLogEventRingMark cmd off len rae s
  | .logAlarms cmd lsp off len rae => Sys2Proof.Machine.execLogAlarms cmd lsp off len rae s
  | .logReplication cmd lsp off len rae => Sys2Proof.Machine.execLogReplication cmd lsp off len rae s
  | .deviceSelfTestShort cmd nsid => Sys2Proof.Machine.execDeviceSelfTestShort cmd nsid s
  | .deviceSelfTestExtended cmd nsid => Sys2Proof.Machine.execDeviceSelfTestExtended cmd nsid s
  | .deviceSelfTestAbort cmd => Sys2Proof.Machine.execDeviceSelfTestAbort cmd s
  | .namespaceManagement cmd create nsid nsze lbaf domain => Sys2Proof.Machine.execNamespaceManagement cmd create nsid nsze lbaf domain s
  | .namespaceAttachment cmd attach nsid ctrls => Sys2Proof.Machine.execNamespaceAttachment cmd attach nsid ctrls s
  | .formatNvm cmd nsid lbaf ses => Sys2Proof.Machine.execFormatNvm cmd nsid lbaf ses s
  | .sanitize cmd action => Sys2Proof.Machine.execSanitize cmd action s
  | .firmwareImageDownload cmd off data => Sys2Proof.Machine.execFirmwareImageDownload cmd off data s
  | .fwCommitReplace cmd slot action => Sys2Proof.Machine.execFwCommitReplace cmd slot action s
  | .fwCommitReplaceActivate cmd slot => Sys2Proof.Machine.execFwCommitReplaceActivate cmd slot s
  | .fwCommitActivate cmd slot => Sys2Proof.Machine.execFwCommitActivate cmd slot s
  | .fwSlotWriteDone => Sys2Proof.Machine.execFwSlotWriteDone s
  | .asyncEventRequest cmd => Sys2Proof.Machine.execAsyncEventRequest cmd s
  | .keepAlive cmd => Sys2Proof.Machine.execKeepAlive cmd s
  | .commandAdmit cmd => Sys2Proof.Machine.execCommandAdmit cmd s
  | .fillObtained cmd chunkNo bytes lost => Sys2Proof.Machine.execFillObtained cmd chunkNo bytes lost s
  | .bodyComplete i1 n => Sys2Proof.Machine.execBodyComplete i1 n s
  | .sectionDigestReturn i1 n body => Sys2Proof.Machine.execSectionDigestReturn i1 n body s
  | .writeCompletionPost cmd => Sys2Proof.Machine.execWriteCompletionPost cmd s
  | .stripeOpen stream isMeta => Sys2Proof.Machine.execStripeOpen stream isMeta s
  | .sortMerge l t => Sys2Proof.Machine.execSortMerge l t s
  | .powerStateEntryDone => Sys2Proof.Machine.execPowerStateEntryDone s
  | .powerStateExitDone => Sys2Proof.Machine.execPowerStateExitDone s
  | .digest n data => Sys2Proof.Machine.execDigest n data s
  | .slotLoad n => Sys2Proof.Machine.execSlotLoad n s
  | .matchSearch n flips bad => Sys2Proof.Machine.execMatchSearch n flips bad s
  | .matchWrite n => Sys2Proof.Machine.execMatchWrite n s
  | .matchInvalidate n => Sys2Proof.Machine.execMatchInvalidate n s
  | .matchRead n => Sys2Proof.Machine.execMatchRead n s
  | .matchRegionsLock => Sys2Proof.Machine.execMatchRegionsLock s
  | .matchHalfFatal h => Sys2Proof.Machine.execMatchHalfFatal h s
  | .idxQuery h domain fp => Sys2Proof.Machine.execIdxQuery h domain fp s
  | .idxInsert h domain chunkId fp => Sys2Proof.Machine.execIdxInsert h domain chunkId fp s
  | .idxDelete h domain chunkId fp => Sys2Proof.Machine.execIdxDelete h domain chunkId fp s
  | .idxReplace h domain chunkId old fp => Sys2Proof.Machine.execIdxReplace h domain chunkId old fp s
  | .idxRebuildInsert h domain chunkId fp => Sys2Proof.Machine.execIdxRebuildInsert h domain chunkId fp s
  | .idxRangeReady h range => Sys2Proof.Machine.execIdxRangeReady h range s
  | .idxRangeDrop h range => Sys2Proof.Machine.execIdxRangeDrop h range s
  | .idxQueryReply h result chunkId => Sys2Proof.Machine.execIdxQueryReply h result chunkId s
  | .idxOpReply h op chunkId result named => Sys2Proof.Machine.execIdxOpReply h op chunkId result named s
  | .pendingWriteBack strip => Sys2Proof.Machine.execPendingWriteBack strip s
  | .shardTagRebuildDone => Sys2Proof.Machine.execShardTagRebuildDone s
  | .shardRangeRebuild range => Sys2Proof.Machine.execShardRangeRebuild range s
  | .compress n => Sys2Proof.Machine.execCompress n s
  | .resume n => Sys2Proof.Machine.execResume n s
  | .decompress n => Sys2Proof.Machine.execDecompress n s
  | .channelReset n => Sys2Proof.Machine.execChannelReset n s
  | .pressLaneFatal decomp lane => Sys2Proof.Machine.execPressLaneFatal decomp lane s
  | .xtsEnc n mismatch data => Sys2Proof.Machine.execXtsEnc n mismatch data s
  | .xtsDec n mismatch data => Sys2Proof.Machine.execXtsDec n mismatch data s
  | .gcmEnc n mismatch data => Sys2Proof.Machine.execGcmEnc n mismatch data s
  | .gcmDec n mismatch data => Sys2Proof.Machine.execGcmDec n mismatch data s
  | .keyWrap n mismatch => Sys2Proof.Machine.execKeyWrap n mismatch s
  | .keyUnwrap n mismatch => Sys2Proof.Machine.execKeyUnwrap n mismatch s
  | .keyGen n entropyOk => Sys2Proof.Machine.execKeyGen n entropyOk s
  | .keyRevoke n => Sys2Proof.Machine.execKeyRevoke n s
  | .keySlotZeroed slot => Sys2Proof.Machine.execKeySlotZeroed slot s
  | .domainKeyCreate d entropyOk => Sys2Proof.Machine.execDomainKeyCreate d entropyOk s
  | .cryptoEraseComplete domain => Sys2Proof.Machine.execCryptoEraseComplete domain s
  | .cryptoErasePurgeLate domain => Sys2Proof.Machine.execCryptoErasePurgeLate domain s
  | .partnerRepairTimeout domain fp => Sys2Proof.Machine.execPartnerRepairTimeout domain fp s
  | .mapPageWrite i1 kind page => Sys2Proof.Machine.execMapPageWrite i1 kind page s
  | .snapshotScheduleInstance entry => Sys2Proof.Machine.execSnapshotScheduleInstance entry s
  | .snapshotReleaseStep id nsid page => Sys2Proof.Machine.execSnapshotReleaseStep id nsid page s
  | .parityEncode n => Sys2Proof.Machine.execParityEncode n s
  | .parityReconstruct n => Sys2Proof.Machine.execParityReconstruct n s
  | .parityCheck n => Sys2Proof.Machine.execParityCheck n s
  | .shelfLinkLossFail site => Sys2Proof.Machine.execShelfLinkLossFail site s
  | .plannedAbsenceExpiry site => Sys2Proof.Machine.execPlannedAbsenceExpiry site s
  | .darningRebuildStrip i1 reads => Sys2Proof.Machine.execDarningRebuildStrip i1 reads s
  | .refoldRelocate i1 chunkId img => Sys2Proof.Machine.execRefoldRelocate i1 chunkId img s
  | .seamFlitBad => Sys2Proof.Machine.execSeamFlitBad s
  | .seamLaneRetire lane => Sys2Proof.Machine.execSeamLaneRetire lane s
  | .seamHeartbeat h => Sys2Proof.Machine.execSeamHeartbeat h s
  | .seamDurable i1 n bits => Sys2Proof.Machine.execSeamDurable i1 n bits s
  | .seamResendReq i1 n kind => Sys2Proof.Machine.execSeamResendReq i1 n kind s
  | .seamRelease i1 lastEpn nextSsn => Sys2Proof.Machine.execSeamRelease i1 lastEpn nextSsn s
  | .sealSection i1 hdrOk h items => Sys2Proof.Machine.execSealSection i1 hdrOk h items s
  | .bodySection i1 hdrOk h items => Sys2Proof.Machine.execBodySection i1 hdrOk h items s
  | .catchupReq e0 e1 => Sys2Proof.Machine.execCatchupReq e0 e1 s
  | .fwdCmd cmd op pi => Sys2Proof.Machine.execFwdCmd cmd op pi s
  | .fwdDone cmd st dw0 => Sys2Proof.Machine.execFwdDone cmd st dw0 s
  | .adminFwd cmd op => Sys2Proof.Machine.execAdminFwd cmd op s
  | .seamRepairReq domain fp reply => Sys2Proof.Machine.execSeamRepairReq domain fp reply s
  | .ledgerRec record => Sys2Proof.Machine.execLedgerRec record s
  | .fwdRead cmd nsid slba nlb => Sys2Proof.Machine.execFwdRead cmd nsid slba nlb s
  | .readData cmd st data => Sys2Proof.Machine.execReadData cmd st data s
  | .seamUnknownType len => Sys2Proof.Machine.execSeamUnknownType len s
  | .hbLossPathB => Sys2Proof.Machine.execHbLossPathB s
  | .hbLossPathA => Sys2Proof.Machine.execHbLossPathA s
  | .peerLost => Sys2Proof.Machine.execPeerLost s
  | .hbPathRestored b => Sys2Proof.Machine.execHbPathRestored b s
  | .suspectDeclare site count => Sys2Proof.Machine.execSuspectDeclare site count s
  | .leaseClaimWon => Sys2Proof.Machine.execLeaseClaimWon s
  | .leaseClaimTimeout => Sys2Proof.Machine.execLeaseClaimTimeout s
  | .leaseGrantExpiry => Sys2Proof.Machine.execLeaseGrantExpiry s
  | .takeoverAdmitStart i1 => Sys2Proof.Machine.execTakeoverAdmitStart i1 s
  | .rejoinEnterService => Sys2Proof.Machine.execRejoinEnterService s
  | .managerBootWaitExpiry => Sys2Proof.Machine.execManagerBootWaitExpiry s
  | .spokeTrainingDone p => Sys2Proof.Machine.execSpokeTrainingDone p s
  | .spokeTrainingRetry p => Sys2Proof.Machine.execSpokeTrainingRetry p s
  | .hello p h round => Sys2Proof.Machine.execHello p h round s
  | .linkAck p ackLsn => Sys2Proof.Machine.execLinkAck p ackLsn s
  | .nak p ackLsn => Sys2Proof.Machine.execNak p ackLsn s
  | .credit h w q => Sys2Proof.Machine.execCredit h w q s
  | .mark h n t quality => Sys2Proof.Machine.execMark h n t quality s
  | .hbRelay h origin b => Sys2Proof.Machine.execHbRelay h origin b s
  | .renew h q => Sys2Proof.Machine.execRenew h q s
  | .claim h q => Sys2Proof.Machine.execClaim h q s
  | .leaseRelease h q => Sys2Proof.Machine.execLeaseRelease h q s
  | .renewReply h status rec ports => Sys2Proof.Machine.execRenewReply h status rec ports s
  | .claimReply h status rec ports prior => Sys2Proof.Machine.execClaimReply h status rec ports prior s
  | .append h a img => Sys2Proof.Machine.execAppend h a img s
  | .close h head checks ssns => Sys2Proof.Machine.execClose h head checks ssns s
  | .stripWrite h head sectors => Sys2Proof.Machine.execStripWrite h head sectors s
  | .sectorRead h sla count bad => Sys2Proof.Machine.execSectorRead h sla count bad s
  | .sectorReadReply h status failMask data => Sys2Proof.Machine.execSectorReadReply h status failMask data s
  | .drop h => Sys2Proof.Machine.execDrop h s
  | .discard h sla => Sys2Proof.Machine.execDiscard h sla s
  | .health h entry => Sys2Proof.Machine.execHealth h entry s
  | .ledgerGet h seq => Sys2Proof.Machine.execLedgerGet h seq s
  | .ledgerGetReply h status record => Sys2Proof.Machine.execLedgerGetReply h status record s
  | .ledgerCollectTimeout => Sys2Proof.Machine.execLedgerCollectTimeout s
  | .bufferList h first => Sys2Proof.Machine.execBufferList h first s
  | .bufferRead h => Sys2Proof.Machine.execBufferRead h s
  | .spokeAck h es => Sys2Proof.Machine.execSpokeAck h es s
  | .spokeDone h es => Sys2Proof.Machine.execSpokeDone h es s
  | .spokeUnknownOpcode h opcode => Sys2Proof.Machine.execSpokeUnknownOpcode h opcode s
  | .spokeFrameBad p => Sys2Proof.Machine.execSpokeFrameBad p s
  | .linkAckTimer p => Sys2Proof.Machine.execLinkAckTimer p s
  | .spokeReplayTimeout p => Sys2Proof.Machine.execSpokeReplayTimeout p s
  | .creditReturnTimer p => Sys2Proof.Machine.execCreditReturnTimer p s
  | .spokePortSilence p => Sys2Proof.Machine.execSpokePortSilence p s
  | .spokePcsLockLoss p => Sys2Proof.Machine.execSpokePcsLockLoss p s
  | .spokePortFailTimeout p => Sys2Proof.Machine.execSpokePortFailTimeout p s
  | .spokeSend n => Sys2Proof.Machine.execSpokeSend n s
  | .shelfWritePowerSafe t => Sys2Proof.Machine.execShelfWritePowerSafe t s
  | .powerFailNAssert => Sys2Proof.Machine.execPowerFailNAssert s
  | .dumpDone => Sys2Proof.Machine.execDumpDone s
  | .powerFailNRelease => Sys2Proof.Machine.execPowerFailNRelease s
  | .holdupMet => Sys2Proof.Machine.execHoldupMet s
  | .healthRecordWrite => Sys2Proof.Machine.execHealthRecordWrite s
  | .frRead e r => Sys2Proof.Machine.execFrRead e r s
  | .frReadRetry e r => Sys2Proof.Machine.execFrReadRetry e r s
  | .frProgram e r data metas => Sys2Proof.Machine.execFrProgram e r data metas s
  | .frErase e r reason => Sys2Proof.Machine.execFrErase e r reason s
  | .frSuspend e r => Sys2Proof.Machine.execFrSuspend e r s
  | .frResume e r => Sys2Proof.Machine.execFrResume e r s
  | .frStatus e r => Sys2Proof.Machine.execFrStatus e r s
  | .frFeature e r => Sys2Proof.Machine.execFrFeature e r s
  | .frFeatureChEnable e r => Sys2Proof.Machine.execFrFeatureChEnable e r s
  | .frFeatureChStatus e r => Sys2Proof.Machine.execFrFeatureChStatus e r s
  | .flashOpComplete c ce lun d => Sys2Proof.Machine.execFlashOpComplete c ce lun d s
  | .flashOpTimeout c ce lun answers => Sys2Proof.Machine.execFlashOpTimeout c ce lun answers s
  | .frontPortLinkUp p => Sys2Proof.Machine.execFrontPortLinkUp p s
  | .frontPortLinkDown p => Sys2Proof.Machine.execFrontPortLinkDown p s
  | .frontPortDownAlarm p => Sys2Proof.Machine.execFrontPortDownAlarm p s
  | .frontPortNeighbour p kind => Sys2Proof.Machine.execFrontPortNeighbour p kind s
  | .pfcPauseFrame p named pause => Sys2Proof.Machine.execPfcPauseFrame p named pause s
  | .rdmaCmConnect qpn p use rxPsn txPsn rq credits => Sys2Proof.Machine.execRdmaCmConnect qpn p use rxPsn txPsn rq credits s
  | .rdmaSend p => Sys2Proof.Machine.execRdmaSend p s
  | .rdmaWrite p addr len => Sys2Proof.Machine.execRdmaWrite p addr len s
  | .rdmaRead p key off len => Sys2Proof.Machine.execRdmaRead p key off len s
  | .rdmaFetchAndAdd p key addr add => Sys2Proof.Machine.execRdmaFetchAndAdd p key addr add s
  | .rdmaCompareAndSwap p key addr cmp swap => Sys2Proof.Machine.execRdmaCompareAndSwap p key addr cmp swap s
  | .rdmaAck qpn psn credits resp => Sys2Proof.Machine.execRdmaAck qpn psn credits resp s
  | .rdmaNak qpn psn kind => Sys2Proof.Machine.execRdmaNak qpn psn kind s
  | .rdmaAckTimeout qpn => Sys2Proof.Machine.execRdmaAckTimeout qpn s
  | .rdmaContextFetchDone qpn => Sys2Proof.Machine.execRdmaContextFetchDone qpn s
  | .rdmaCnp qpn => Sys2Proof.Machine.execRdmaCnp qpn s
  | .rdmaRateRestore qpn => Sys2Proof.Machine.execRdmaRateRestore qpn s
  | .sprayHoleTimeout qpn psn => Sys2Proof.Machine.execSprayHoleTimeout qpn psn s
  | .rdmaDeviceFatal => Sys2Proof.Machine.execRdmaDeviceFatal s
  | .replSession h array format w0 w1 => Sys2Proof.Machine.execReplSession h array format w0 w1 s
  | .sessionAck h partner point r0 r1 pulls => Sys2Proof.Machine.execSessionAck h partner point r0 r1 pulls s
  | .rbundle h recs => Sys2Proof.Machine.execRbundle h recs s
  | .point h snap quality last => Sys2Proof.Machine.execPoint h snap quality last s
  | .replicaPointCut => Sys2Proof.Machine.execReplicaPointCut s
  | .keyrec h r => Sys2Proof.Machine.execKeyrec h r s
  | .pull h entries => Sys2Proof.Machine.execPull h entries s
  | .replChunk h c => Sys2Proof.Machine.execReplChunk h c s
  | .push h cs => Sys2Proof.Machine.execPush h cs s
  | .receipt h => Sys2Proof.Machine.execReceipt h s
  | .applied h => Sys2Proof.Machine.execApplied h s
  | .replRepairReq h domain fp read => Sys2Proof.Machine.execReplRepairReq h domain fp read s
  | .repairData h c => Sys2Proof.Machine.execRepairData h c s
  | .rdiff h recs => Sys2Proof.Machine.execRdiff h recs s
  | .replSyncTimeout => Sys2Proof.Machine.execReplSyncTimeout s
  | .replRekey => Sys2Proof.Machine.execReplRekey s
  | .replLagAlarm => Sys2Proof.Machine.execReplLagAlarm s
  | .replLookupTimeout => Sys2Proof.Machine.execReplLookupTimeout s
  | .statusGet tag => Sys2Proof.Machine.execStatusGet tag s
  | .alarmRead tag first count ack => Sys2Proof.Machine.execAlarmRead tag first count ack s
  | .alarmAck tag code source => Sys2Proof.Machine.execAlarmAck tag code source s
  | .eventRead tag firstSeq count mark => Sys2Proof.Machine.execEventRead tag firstSeq count mark s
  | .summaryRead tag first count => Sys2Proof.Machine.execSummaryRead tag first count s
  | .ledgerRead tag seq count => Sys2Proof.Machine.execLedgerRead tag seq count s
  | .imageWrite tag copy final off data => Sys2Proof.Machine.execImageWrite tag copy final off data s
  | .timeSet tag second => Sys2Proof.Machine.execTimeSet tag second s
  | .mgmtRestart tag => Sys2Proof.Machine.execMgmtRestart tag s
  | .otpKeyProgram tag slot digest wrapKey vpp => Sys2Proof.Machine.execOtpKeyProgram tag slot digest wrapKey vpp s
  | .otpKeyRevoke tag slot vpp => Sys2Proof.Machine.execOtpKeyRevoke tag slot vpp s
  | .healthRead tag piece => Sys2Proof.Machine.execHealthRead tag piece s
  | .mctpUnknownCommand cmd tag => Sys2Proof.Machine.execMctpUnknownCommand cmd tag s
  | .snapshotDefine tag id e nsids => Sys2Proof.Machine.execSnapshotDefine tag id e nsids s
  | .snapshotDelete tag id => Sys2Proof.Machine.execSnapshotDelete tag id s
  | .snapshotClone tag id nsid => Sys2Proof.Machine.execSnapshotClone tag id nsid s
  | .utcScheduleEdit tag add e => Sys2Proof.Machine.execUtcScheduleEdit tag add e s
  | .plannedShelfRestart tag site => Sys2Proof.Machine.execPlannedShelfRestart tag site s
  | .barrierStart tag => Sys2Proof.Machine.execBarrierStart tag s
  | .managerLeaseMove tag => Sys2Proof.Machine.execManagerLeaseMove tag s
  | .groupHandback tag => Sys2Proof.Machine.execGroupHandback tag s
  | .spdmGetVersion => Sys2Proof.Machine.execSpdmGetVersion s
  | .spdmGetCapabilities => Sys2Proof.Machine.execSpdmGetCapabilities s
  | .spdmNegotiateAlgorithms => Sys2Proof.Machine.execSpdmNegotiateAlgorithms s
  | .spdmGetDigests => Sys2Proof.Machine.execSpdmGetDigests s
  | .spdmGetCertificate slot off len => Sys2Proof.Machine.execSpdmGetCertificate slot off len s
  | .spdmChallenge nonce => Sys2Proof.Machine.execSpdmChallenge nonce s
  | .spdmGetMeasurements index nonce signed => Sys2Proof.Machine.execSpdmGetMeasurements index nonce signed s
  | .smbusAlertResponse => Sys2Proof.Machine.execSmbusAlertResponse s
  | .nvmeMiBasicManagement => Sys2Proof.Machine.execNvmeMiBasicManagement s
  | .nvmeMiReadDataStructure dtyp cntlid => Sys2Proof.Machine.execNvmeMiReadDataStructure dtyp cntlid s
  | .nvmeMiSubsystemHealthPoll => Sys2Proof.Machine.execNvmeMiSubsystemHealthPoll s
  | .nvmeMiControllerHealthPoll first => Sys2Proof.Machine.execNvmeMiControllerHealthPoll first s
  | .nvmeMiConfigurationGet config => Sys2Proof.Machine.execNvmeMiConfigurationGet config s
  | .jtagBypass => Sys2Proof.Machine.execJtagBypass s
  | .jtagIdcode => Sys2Proof.Machine.execJtagIdcode s
  | .jtagSamplePreload pattern => Sys2Proof.Machine.execJtagSamplePreload pattern s
  | .jtagExtest pattern => Sys2Proof.Machine.execJtagExtest pattern s
  | .jtagExtestPulse pattern => Sys2Proof.Machine.execJtagExtestPulse pattern s
  | .jtagExtestTrain pattern => Sys2Proof.Machine.execJtagExtestTrain pattern s
  | .jtagEngineDebug request => Sys2Proof.Machine.execJtagEngineDebug request s
  | .railFault r mv => Sys2Proof.Machine.execRailFault r mv s
  | .pdOffReq d => Sys2Proof.Machine.execPdOffReq d s
  | .pdOnReq d => Sys2Proof.Machine.execPdOnReq d s
  | .powerBudgetAlarm => Sys2Proof.Machine.execPowerBudgetAlarm s
  | .clockInputLoss c => Sys2Proof.Machine.execClockInputLoss c s
  | .sysclkReturn => Sys2Proof.Machine.execSysclkReturn s
  | .clockInputRestored c => Sys2Proof.Machine.execClockInputRestored c s
  | .railWithinWindow r => Sys2Proof.Machine.execRailWithinWindow r s
  | .hpLinkDown => Sys2Proof.Machine.execHpLinkDown s
  | .hpLinkUp gen width => Sys2Proof.Machine.execHpLinkUp gen width s
  | .seamLinkUp lanes => Sys2Proof.Machine.execSeamLinkUp lanes s
  | .seamFlitNak seq => Sys2Proof.Machine.execSeamFlitNak seq s
  | .apstIdleTimeout cntlid => Sys2Proof.Machine.execApstIdleTimeout cntlid s
  | .ptpAnnounce m valid => Sys2Proof.Machine.execPtpAnnounce m valid s
  | .rdmaCmDisconnect qpn => Sys2Proof.Machine.execRdmaCmDisconnect qpn s
  | .getVendorDefinedMessageSupport => Sys2Proof.Machine.execGetVendorDefinedMessageSupport s
  | .numvfsSet n => Sys2Proof.Machine.execNumvfsSet n s

end Sys2Proof.Machine
end

