-- ==== Sys2Proof/Machine/Step.lean ====
section
/-! DEFINITION. One step of the block: the command at the front of the queue, or one tick of array time on an empty queue (log 17). -/

namespace Sys2Proof.Machine

/-- One tick of 10 ns of array time passes (R36, R37): only once T is set, while the part runs, and never over an epoch boundary, which
EPOCH_BOUNDARY takes. -/
def State.tick (s : State) : State :=
  if s.time.tSet && s.live && decide (s.phase + 1 < s.epochLen) then s.setT (s.time.t + 1) else s

/-- Take the command at the front of the queue and run it on the state with the queue's rest; on an empty queue let a tick pass. -/
def step (s : State) : Host.Outcome State Fault Refusal :=
  match s.pending with
  | [] => .next s.tick
  | c :: rest => exec c { s with pending := rest }

/-- The state with the command that a table word spells put at the front of its queue; no row of the table gives bits, so no word spells
one. -/
def State.withFetchWord (s : State) (nbits w : Nat) : State :=
  match decodeTableWord nbits w with
  | some c => { s with pending := c :: s.pending }
  | none => s

end Sys2Proof.Machine
end

