-- ==== Sys2Proof/WellFormed.lean ====
section
/-! DEFINITION. The commands that their senders can spell: every operand fits the field that carries it. The width of a field is the one
the spec's layout of the command gives. An operand that the world shows the part, or that names one of the model's own jobs, is free. -/

namespace Sys2Proof

open Sys2Proof.Machine

/-- A number fits a field of `w` bits. -/
def fits (w n : Nat) : Bool := decide (n < 2 ^ w)

/-- NVMe: 16 bits each. -/
def CmdId.wf (h : CmdId) : Bool :=
  fits 16 h.cntlid && fits 16 h.sqid && fits 16 h.cid

/-- R205, R206. -/
def PiBlock.wf (h : PiBlock) : Bool :=
  fits 64 h.guard && fits 16 h.appTag && fits 48 h.refTag

/-- NVMe Dataset Management range. -/
def LbaRange.wf (h : LbaRange) : Bool :=
  fits 64 h.slba && fits 32 h.nlb

/-- NVMe Copy source range. -/
def CopyRange.wf (h : CopyRange) : Bool :=
  fits 32 h.nsid && fits 64 h.slba && fits 17 h.nlb

/-- R422. -/
def Tag.wf (h : Tag) : Bool :=
  fits 8 h.stream && fits 64 h.seq && fits 64 h.item

/-- R419. -/
def FrameHdr.wf (h : FrameHdr) : Bool :=
  h.tag.wf && fits 32 h.lsn && fits 32 h.ackLsn && fits 32 h.streamGen && fits 32 h.reqId

/-- R429. -/
def AckEntry.wf (h : AckEntry) : Bool :=
  h.tag.wf && fits 32 h.bytes

/-- R528. -/
def ReplHdr.wf (h : ReplHdr) : Bool :=
  fits 8 h.sender && fits 24 h.claim && fits 8 h.stream && fits 16 h.part && fits 16 h.parts && fits 32 h.keyGen && fits 64 h.ident &&
    fits 64 h.prev

/-- R531. -/
def ReplRec.wf (h : ReplRec) : Bool :=
  fits 8 h.kind && fits 8 h.domain && fits 8 h.flags && fits 32 h.nsid && fits 64 h.chunkNo && fits 32 h.count && fits 16 h.appTag &&
    fits 64 h.ssn && h.fp.length == 32

/-- R529. -/
def ReplChunk.wf (h : ReplChunk) : Bool :=
  fits 64 h.reqNo && fits 8 h.domain && fits 2 h.lostBlocks && h.fp.length == 32

/-- R529. -/
def PullEntry.wf (h : PullEntry) : Bool :=
  fits 64 h.reqNo && fits 8 h.domain && h.fp.length == 32

/-- RoCEv2 BTH. -/
def RdmaPkt.wf (h : RdmaPkt) : Bool :=
  fits 24 h.qpn && fits 24 h.psn && fits 3 h.priority

/-- R420. -/
def Sector.wf (h : Sector) : Bool :=
  fits 64 h.crc64 && fits 48 h.refTag && fits 16 h.appTag && h.data.length == 4096

/-- R425. -/
def AppendHead.wf (h : AppendHead) : Bool :=
  fits 16 h.imageLen && fits 16 h.granule && fits 8 h.domain && fits 16 h.nsIndex && fits 64 h.chunkNo && fits 48 h.chunkId &&
    fits 16 h.appTag && fits 64 h.birth && h.fp.length == 32 && fits 64 h.crc64 && fits 48 h.refTag && fits 16 h.checkApp &&
    fits 8 h.lostBlocks

/-- R316. -/
def KeyRec.wf (h : KeyRec) : Bool :=
  fits 8 h.domain && fits 56 h.generation && fits 64 h.epn && fits 32 h.kekId

/-- R484. -/
def FlashReq.wf (h : FlashReq) : Bool :=
  fits 32 h.tag && fits 8 h.ce && fits 8 h.mode && fits 15 h.block && fits 12 h.page && fits 8 h.sel && fits 64 h.data &&
    fits 64 h.metaAddr && fits 48 h.refTag && fits 16 h.appTag

/-- Every operand of a command fits its field. -/
def Instr.wf : Instr → Bool
  | .porNRelease _ _ => true
  | .porNAssert _ => true
  | .warmRstNRelease => true
  | .warmRstNAssert _ => true
  | .readyWatchdogExpiry => true
  | .bootRomStart _ => true
  | .bootSelect => true
  | .bootLoad => true
  | .bootDomains => true
  | .ledgerBegin => true
  | .bootMemory _ => true
  | .bootHem _ _ => true
  | .bootFirmware _ => true
  | .bootLinks _ => true
  | .bootWaitTime => true
  | .bootRecovery => true
  | .bootJoin _ => true
  | .bootReady _ _ => true
  | .barrierAbort => true
  | .timePpsEdge _ _ _ peerSecond => fits 64 peerSecond
  | .timeRefLoss => true
  | .timePpsTimeout => true
  | .ptpSync _ m => fits 64 m.acquired && decide (m.port < 2) && decide (m.dom < 128)
  | .ptpSyncTimeout => true
  | .holdoverExpiry => true
  | .slewDone => true
  | .skewAlarm => true
  | .epochBoundary _ pkgDw _ _ _ => fits 32 pkgDw
  | .heartbeatWindow => true
  | .leaseRenewalWindow => true
  | .checkpointWindow => true
  | .rinseSlice _ _ => true
  | .clearingSlice => true
  | .ftlJournalFlush => true
  | .healthSampling _ _ _ _ => true
  | .markLoss => true
  | .dpost _ _ rs1 rs2 => fits 64 rs1 && fits 64 rs2
  | .rwait _ _ rs1 rs2 => fits 64 rs1 && fits 64 rs2
  | .ewait _ _ rs1 => fits 64 rs1
  | .phtime _ _ _ => true
  | .phtarm _ rs1 => fits 64 rs1
  | .phaseTimerInterrupt _ => true
  | .yildomIllegalInstruction _ _ => true
  | .engineTrap _ _ => true
  | .csrWrite _ pc addr v => fits 64 pc && fits 64 addr && (v.length == 1 || v.length == 2 || v.length == 4 || v.length == 8)
  | .ringEnable _ _ => true
  | .ringDisable _ => true
  | .completionRingHeadAdvance _ _ => true
  | .descriptorFetch _ _ => true
  | .descriptorCompletion _ => true
  | .mcInvAll _ => true
  | .mcInvRange _ addr len => fits 64 addr && fits 64 len
  | .mcCleanRange _ addr len => fits 64 addr && fits 64 len
  | .mcCleanInvRange _ addr len => fits 64 addr && fits 64 len
  | .mcLockFill _ addr len => fits 64 addr && fits 64 len
  | .mcUnlockRange _ addr len => fits 64 addr && fits 64 len
  | .mcCleanAll _ => true
  | .mcEnable => true
  | .mcDisable => true
  | .hbmPatrolScrub _ _ => true
  | .hbmStackFatal _ => true
  | .hemDurable _ _ _ => true
  | .hemCreditLow _ => true
  | .hemAdmitStall _ => true
  | .perstNAssert => true
  | .perstNRelease => true
  | .hotReset => true
  | .functionLevelReset _ => true
  | .ccEnSet cntlid sqSize cqSize => fits 16 cntlid && fits 17 sqSize && fits 17 cqSize
  | .ccEnClear cntlid => fits 16 cntlid
  | .nssrWrite cntlid => fits 16 cntlid
  | .sqTailDoorbell cntlid sqid tail => fits 16 cntlid && fits 16 sqid && fits 16 tail
  | .cqHeadDoorbell cntlid cqid head => fits 16 cntlid && fits 16 cqid && fits 16 head
  | .keepAliveExpiry cntlid => fits 16 cntlid
  | .fabricsConnect cmd sqSize hostNqn hostId kato => cmd.wf && fits 17 sqSize && decide (hostNqn.length ≤ 256) && fits 128 hostId &&
    fits 32 kato
  | .nvmeRead cmd nsid slba nlb _ _ tag mask ref => cmd.wf && fits 32 nsid && fits 64 slba && decide (1 ≤ nlb) &&
    decide (nlb ≤ 65536) && fits 16 tag && fits 16 mask && fits 48 ref
  | .nvmeWrite cmd nsid slba nlb _ _ _ tag mask pi => cmd.wf && fits 32 nsid && fits 64 slba && decide (1 ≤ nlb) &&
    decide (nlb ≤ 65536) && fits 16 tag && fits 16 mask && pi.all (PiBlock.wf ·)
  | .nvmeWriteZeroes cmd nsid slba nlb _ => cmd.wf && fits 32 nsid && fits 64 slba && decide (1 ≤ nlb) && decide (nlb ≤ 65536)
  | .nvmeDatasetManagement cmd nsid _ ranges => cmd.wf && fits 32 nsid && ranges.all (LbaRange.wf ·)
  | .nvmeFlush cmd nsid => cmd.wf && fits 32 nsid
  | .nvmeCompare cmd nsid slba nlb _ _ tag mask ref => cmd.wf && fits 32 nsid && fits 64 slba && decide (1 ≤ nlb) &&
    decide (nlb ≤ 65536) && fits 16 tag && fits 16 mask && fits 48 ref
  | .nvmeCompareAndWrite cmp cmd nsid slba nlb _ _ _ _ tag mask pi => cmp.wf && cmd.wf && fits 32 nsid && fits 64 slba &&
    decide (1 ≤ nlb) && decide (nlb ≤ 65536) && fits 16 tag && fits 16 mask && pi.all (PiBlock.wf ·)
  | .nvmeVerify cmd nsid slba nlb _ tag mask ref => cmd.wf && fits 32 nsid && fits 64 slba && decide (1 ≤ nlb) &&
    decide (nlb ≤ 65536) && fits 16 tag && fits 16 mask && fits 48 ref
  | .nvmeCopy cmd nsid fmt sdlba ranges => cmd.wf && fits 32 nsid && fits 4 fmt && fits 64 sdlba && ranges.all (CopyRange.wf ·)
  | .reservationRegister cmd nsid action cur new _ => cmd.wf && fits 32 nsid && fits 8 action && fits 64 cur && fits 64 new
  | .reservationAcquire cmd nsid action rtype cur preempt => cmd.wf && fits 32 nsid && fits 8 action && fits 8 rtype && fits 64 cur &&
    fits 64 preempt
  | .reservationRelease cmd nsid action rtype cur => cmd.wf && fits 32 nsid && fits 8 action && fits 8 rtype && fits 64 cur
  | .reservationReport cmd nsid _ => cmd.wf && fits 32 nsid
  | .nvmeUnsupportedOpcode cmd => cmd.wf
  | .identify cmd cns nsid cntid => cmd.wf && fits 8 cns && fits 32 nsid && fits 16 cntid
  | .createIoSq cmd qid size cqid => cmd.wf && fits 16 qid && fits 17 size && fits 16 cqid
  | .createIoCq cmd qid size vector => cmd.wf && fits 16 qid && fits 17 size && fits 16 vector
  | .deleteIoSq cmd qid => cmd.wf && fits 16 qid
  | .deleteIoCq cmd qid => cmd.wf && fits 16 qid
  | .nvmeAbort cmd sqid cid => cmd.wf && fits 16 sqid && fits 16 cid
  | .getFeatures cmd fid nsid sel => cmd.wf && fits 8 fid && fits 32 nsid && fits 3 sel
  | .setFeatures cmd fid nsid value _ => cmd.wf && fits 8 fid && fits 32 nsid && fits 32 value
  | .setFeaturesNumberOfQueues cmd nsq ncq => cmd.wf && fits 16 nsq && fits 16 ncq
  | .getLogPage cmd lid lsp off len _ => cmd.wf && fits 8 lid && fits 7 lsp && fits 64 off && fits 33 len
  | .logArrayStatus cmd lsp off len _ => cmd.wf && fits 7 lsp && fits 64 off && fits 64 len
  | .logAdmissionAndHem cmd lsp off len _ => cmd.wf && fits 7 lsp && fits 64 off && fits 64 len
  | .logShelfHealth cmd lsp off len _ => cmd.wf && fits 7 lsp && fits 64 off && fits 64 len
  | .logStripePasses cmd lsp off len _ => cmd.wf && fits 7 lsp && fits 64 off && fits 64 len
  | .logBootLedger cmd off len _ => cmd.wf && fits 64 off && fits 64 len
  | .logBootLedgerCollected cmd off len _ => cmd.wf && fits 64 off && fits 64 len
  | .logEventRing cmd off len _ => cmd.wf && fits 64 off && fits 64 len
  | .logEventSummary cmd off len _ => cmd.wf && fits 64 off && fits 64 len
  | .logEventRingMark cmd off len _ => cmd.wf && fits 64 off && fits 64 len
  | .logAlarms cmd lsp off len _ => cmd.wf && fits 7 lsp && fits 64 off && fits 64 len
  | .logReplication cmd lsp off len _ => cmd.wf && fits 7 lsp && fits 64 off && fits 64 len
  | .deviceSelfTestShort cmd nsid => cmd.wf && fits 32 nsid
  | .deviceSelfTestExtended cmd nsid => cmd.wf && fits 32 nsid
  | .deviceSelfTestAbort cmd => cmd.wf
  | .namespaceManagement cmd _ nsid nsze lbaf domain => cmd.wf && fits 32 nsid && fits 64 nsze && fits 8 lbaf && fits 8 domain
  | .namespaceAttachment cmd _ nsid ctrls => cmd.wf && fits 32 nsid && ctrls.all (fits 16 ·)
  | .formatNvm cmd nsid lbaf ses => cmd.wf && fits 32 nsid && fits 8 lbaf && fits 3 ses
  | .sanitize cmd action => cmd.wf && fits 8 action
  | .firmwareImageDownload cmd off _ => cmd.wf && fits 34 off
  | .fwCommitReplace cmd slot action => cmd.wf && fits 3 slot && fits 8 action
  | .fwCommitReplaceActivate cmd slot => cmd.wf && fits 3 slot
  | .fwCommitActivate cmd slot => cmd.wf && fits 3 slot
  | .fwSlotWriteDone => true
  | .asyncEventRequest cmd => cmd.wf
  | .keepAlive cmd => cmd.wf
  | .commandAdmit cmd => cmd.wf
  | .fillObtained cmd chunkNo _ _ => cmd.wf && fits 64 chunkNo
  | .bodyComplete _ _ => true
  | .sectionDigestReturn _ _ _ => true
  | .writeCompletionPost cmd => cmd.wf
  | .stripeOpen _ _ => true
  | .sortMerge _ t => fits 64 t
  | .powerStateEntryDone => true
  | .powerStateExitDone => true
  | .digest _ _ => true
  | .slotLoad _ => true
  | .matchSearch _ _ _ => true
  | .matchWrite _ => true
  | .matchInvalidate _ => true
  | .matchRead _ => true
  | .matchRegionsLock => true
  | .matchHalfFatal _ => true
  | .idxQuery h domain fp => h.wf && fits 8 domain && fp.length == 32
  | .idxInsert h domain chunkId fp => h.wf && fits 8 domain && fits 48 chunkId && fp.length == 32
  | .idxDelete h domain chunkId fp => h.wf && fits 8 domain && fits 48 chunkId && fp.length == 32
  | .idxReplace h domain chunkId old fp => h.wf && fits 8 domain && fits 48 chunkId && fits 48 old && fp.length == 32
  | .idxRebuildInsert h domain chunkId fp => h.wf && fits 8 domain && fits 48 chunkId && fp.length == 32
  | .idxRangeReady h _ => h.wf
  | .idxRangeDrop h _ => h.wf
  | .idxQueryReply h result chunkId => h.wf && fits 8 result && fits 48 chunkId
  | .idxOpReply h op chunkId result named => h.wf && fits 8 op && fits 48 chunkId && fits 8 result && fits 48 named
  | .pendingWriteBack strip => fits 64 strip
  | .shardTagRebuildDone => true
  | .shardRangeRebuild _ => true
  | .compress _ => true
  | .resume _ => true
  | .decompress _ => true
  | .channelReset _ => true
  | .pressLaneFatal _ _ => true
  | .xtsEnc _ _ _ => true
  | .xtsDec _ _ _ => true
  | .gcmEnc _ _ _ => true
  | .gcmDec _ _ _ => true
  | .keyWrap _ _ => true
  | .keyUnwrap _ _ => true
  | .keyGen _ _ => true
  | .keyRevoke _ => true
  | .keySlotZeroed _ => true
  | .domainKeyCreate _ _ => true
  | .cryptoEraseComplete _ => true
  | .cryptoErasePurgeLate _ => true
  | .partnerRepairTimeout domain fp => fits 8 domain && fp.length == 32
  | .mapPageWrite _ kind page => fits 8 kind && fits 64 page
  | .snapshotScheduleInstance entry => fits 20 entry
  | .snapshotReleaseStep id nsid page => fits 20 id && fits 32 nsid && fits 64 page
  | .parityEncode _ => true
  | .parityReconstruct _ => true
  | .parityCheck _ => true
  | .shelfLinkLossFail _ => true
  | .plannedAbsenceExpiry _ => true
  | .darningRebuildStrip _ _ => true
  | .refoldRelocate _ chunkId _ => fits 48 chunkId
  | .seamFlitBad => true
  | .seamLaneRetire _ => true
  | .seamHeartbeat _ => true
  | .seamDurable _ n _ => fits 64 n
  | .seamResendReq _ n kind => fits 64 n && fits 8 kind
  | .seamRelease _ lastEpn nextSsn => fits 64 lastEpn && fits 64 nextSsn
  | .sealSection _ _ _ _ => true
  | .bodySection _ _ _ _ => true
  | .catchupReq e0 e1 => fits 64 e0 && fits 64 e1
  | .fwdCmd cmd _ pi => cmd.wf && pi.all (PiBlock.wf ·)
  | .fwdDone cmd _ dw0 => cmd.wf && fits 32 dw0
  | .adminFwd cmd _ => cmd.wf
  | .seamRepairReq domain fp _ => fits 8 domain && fp.length == 32
  | .ledgerRec record => record.length == 4096
  | .fwdRead cmd nsid slba nlb => cmd.wf && fits 32 nsid && fits 64 slba && decide (1 ≤ nlb) && decide (nlb ≤ 65536)
  | .readData cmd _ _ => cmd.wf
  | .seamUnknownType len => fits 32 len
  | .hbLossPathB => true
  | .hbLossPathA => true
  | .peerLost => true
  | .hbPathRestored _ => true
  | .suspectDeclare _ count => fits 64 count
  | .leaseClaimWon => true
  | .leaseClaimTimeout => true
  | .leaseGrantExpiry => true
  | .takeoverAdmitStart _ => true
  | .rejoinEnterService => true
  | .managerBootWaitExpiry => true
  | .spokeTrainingDone _ => true
  | .spokeTrainingRetry _ => true
  | .hello _ _ round => fits 64 round
  | .linkAck _ ackLsn => fits 32 ackLsn
  | .nak _ ackLsn => fits 32 ackLsn
  | .credit h w q => h.wf && fits 32 w && fits 32 q
  | .mark h n t quality => h.wf && fits 64 n && fits 64 t && fits 8 quality
  | .hbRelay h _ _ => h.wf
  | .renew h _ => h.wf
  | .claim h _ => h.wf
  | .leaseRelease h _ => h.wf
  | .renewReply h status _ _ => h.wf && fits 16 status
  | .claimReply h status _ _ prior => h.wf && fits 16 status && fits 64 prior
  | .append h a _ => h.wf && a.wf
  | .close h _ _ _ => h.wf
  | .stripWrite h _ sectors => h.wf && sectors.all (Sector.wf ·)
  | .sectorRead h sla count _ => h.wf && fits 64 sla && fits 8 count
  | .sectorReadReply h status _ _ => h.wf && fits 16 status
  | .drop h => h.wf
  | .discard h sla => h.wf && fits 64 sla
  | .health h entry => h.wf && entry.length == 64
  | .ledgerGet h seq => h.wf && fits 64 seq
  | .ledgerGetReply h status record => h.wf && fits 16 status && record.length == 4096
  | .ledgerCollectTimeout => true
  | .bufferList h first => h.wf && fits 32 first
  | .bufferRead h => h.wf
  | .spokeAck h es => h.wf && es.all (AckEntry.wf ·)
  | .spokeDone h es => h.wf && es.all (AckEntry.wf ·)
  | .spokeUnknownOpcode h _ => h.wf
  | .spokeFrameBad _ => true
  | .linkAckTimer _ => true
  | .spokeReplayTimeout _ => true
  | .creditReturnTimer _ => true
  | .spokePortSilence _ => true
  | .spokePcsLockLoss _ => true
  | .spokePortFailTimeout _ => true
  | .spokeSend _ => true
  | .shelfWritePowerSafe t => t.wf
  | .powerFailNAssert => true
  | .dumpDone => true
  | .powerFailNRelease => true
  | .holdupMet => true
  | .healthRecordWrite => true
  | .frRead _ r => r.wf
  | .frReadRetry _ r => r.wf
  | .frProgram _ r _ _ => r.wf
  | .frErase _ r _ => r.wf
  | .frSuspend _ r => r.wf
  | .frResume _ r => r.wf
  | .frStatus _ r => r.wf
  | .frFeature _ r => r.wf
  | .frFeatureChEnable _ r => r.wf
  | .frFeatureChStatus _ r => r.wf
  | .flashOpComplete _ _ _ _ => true
  | .flashOpTimeout _ _ _ _ => true
  | .frontPortLinkUp _ => true
  | .frontPortLinkDown _ => true
  | .frontPortDownAlarm _ => true
  | .frontPortNeighbour _ _ => true
  | .pfcPauseFrame _ _ _ => true
  | .rdmaCmConnect qpn _ _ _ _ _ credits => fits 24 qpn && fits 32 credits
  | .rdmaSend p => p.wf
  | .rdmaWrite p addr len => p.wf && fits 64 addr && fits 32 len
  | .rdmaRead p _ off len => p.wf && fits 64 off && fits 32 len
  | .rdmaFetchAndAdd p _ addr add => p.wf && fits 64 addr && fits 64 add
  | .rdmaCompareAndSwap p _ addr cmp swap => p.wf && fits 64 addr && fits 64 cmp && fits 64 swap
  | .rdmaAck qpn _ credits _ => fits 24 qpn && fits 32 credits
  | .rdmaNak qpn _ _ => fits 24 qpn
  | .rdmaAckTimeout qpn => fits 24 qpn
  | .rdmaContextFetchDone qpn => fits 24 qpn
  | .rdmaCnp qpn => fits 24 qpn
  | .rdmaRateRestore qpn => fits 24 qpn
  | .sprayHoleTimeout qpn _ => fits 24 qpn
  | .rdmaDeviceFatal => true
  | .replSession h array format w0 w1 => h.wf && array.length == 16 && fits 16 format && w0.length == 40 && w1.length == 40
  | .sessionAck h partner point1 r0 r1 pulls => h.wf && partner.length == 16 && fits 64 point1 && fits 64 r0 && fits 64 r1 &&
    pulls.all (·.1.wf)
  | .rbundle h recs => h.wf && recs.all (ReplRec.wf ·)
  | .point h snap quality _ => h.wf && fits 32 snap && fits 8 quality
  | .replicaPointCut => true
  | .keyrec h r => h.wf && r.wf
  | .pull h entries => h.wf && entries.all (·.1.wf)
  | .replChunk h c => h.wf && c.wf
  | .push h cs => h.wf && cs.all (ReplChunk.wf ·)
  | .receipt h => h.wf
  | .applied h => h.wf
  | .replRepairReq h domain fp _ => h.wf && fits 8 domain && fp.length == 32
  | .repairData h c => h.wf && c.wf
  | .rdiff h recs => h.wf && recs.all (ReplRec.wf ·)
  | .replSyncTimeout => true
  | .replRekey => true
  | .replLagAlarm => true
  | .replLookupTimeout => true
  | .statusGet _ => true
  | .alarmRead _ first _ _ => fits 16 first
  | .alarmAck _ code source => fits 16 code && fits 16 source
  | .eventRead _ firstSeq _ _ => fits 64 firstSeq
  | .summaryRead _ first _ => fits 16 first
  | .ledgerRead _ seq _ => fits 64 seq
  | .imageWrite _ _ _ off _ => fits 32 off
  | .timeSet _ second => fits 32 second
  | .mgmtRestart _ => true
  | .otpKeyProgram _ _ digest1 wrapKey _ => digest1.length == 48 && wrapKey.length == 32
  | .otpKeyRevoke _ _ _ => true
  | .healthRead _ _ => true
  | .mctpUnknownCommand _ _ => true
  | .snapshotDefine _ id e nsids => fits 20 id && fits 64 e && nsids.all (fits 32 ·)
  | .snapshotDelete _ id => fits 20 id
  | .snapshotClone _ id nsid => fits 20 id && fits 32 nsid
  | .utcScheduleEdit _ _ _ => true
  | .plannedShelfRestart _ _ => true
  | .barrierStart _ => true
  | .managerLeaseMove _ => true
  | .groupHandback _ => true
  | .spdmGetVersion => true
  | .spdmGetCapabilities => true
  | .spdmNegotiateAlgorithms => true
  | .spdmGetDigests => true
  | .spdmGetCertificate _ off len => fits 16 off && fits 16 len
  | .spdmChallenge nonce => nonce.length == 32
  | .spdmGetMeasurements _ nonce _ => nonce.length == 32
  | .smbusAlertResponse => true
  | .nvmeMiBasicManagement => true
  | .nvmeMiReadDataStructure dtyp cntlid => fits 8 dtyp && fits 16 cntlid
  | .nvmeMiSubsystemHealthPoll => true
  | .nvmeMiControllerHealthPoll first => fits 16 first
  | .nvmeMiConfigurationGet config => fits 8 config
  | .jtagBypass => true
  | .jtagIdcode => true
  | .jtagSamplePreload _ => true
  | .jtagExtest _ => true
  | .jtagExtestPulse _ => true
  | .jtagExtestTrain _ => true
  | .jtagEngineDebug request => fits 64 request
  | .railFault _ mv => fits 16 mv
  | .pdOffReq _ => true
  | .pdOnReq _ => true
  | .powerBudgetAlarm => true
  | .clockInputLoss _ => true
  | .sysclkReturn => true
  | .clockInputRestored _ => true
  | .railWithinWindow _ => true
  | .hpLinkDown => true
  | .hpLinkUp gen width => fits 8 gen && fits 8 width
  | .seamLinkUp _ => true
  | .seamFlitNak _ => true
  | .apstIdleTimeout cntlid => fits 16 cntlid
  | .ptpAnnounce m _ => decide (m.port < 2) && decide (m.dom < 128)
  | .rdmaCmDisconnect qpn => fits 24 qpn
  | .getVendorDefinedMessageSupport => true
  | .numvfsSet _ => true

end Sys2Proof
end

