-- ==== Sys2Proof/Safety.lean ====
section
/-! DEFINITION. What every state that a step leaves must satisfy, and the orders in which what can only grow grows. -/

namespace Sys2Proof.Machine

/-- The form of the tables: 48 engines (R119), 64 spoke ports (R414), 16 front ports (R499), and the byte memories in their canonical
form: the NOR (R66), HBM (R134), the scratch memories and the Hem's raw bytes (R153). -/
structure State.Sound (s : State) : Prop where
  eng : s.eng.length = 48
  port : s.port.length = 64
  front : s.front.length = 16
  nor : Mem.wf norErased s.nor = true
  hbm : Mem.wf hbmDefault s.mem.hbm = true
  scratch : Mem.wf 0 s.mem.scratch = true
  raw : Mem.wf 0 s.hem.raw = true

/-- An owner key slot is blank, programmed with a 48-byte digest and a 32-byte wrapping key, or revoked (R75). -/
def OtpSlot.wf (o : OtpSlot) : Bool := o.st == 0 || (o.st == 1 && o.digest.length == 48 && o.wrapKey.length == 32) || o.st == 2

/-- Four owner slots (R75) and a rollback floor of 64 one-way bits (R88). -/
def Otp.wf (o : Otp) : Bool := o.owner.length == 4 && o.owner.all OtpSlot.wf && decide (o.floor < 2 ^ 64)

/-- What every step keeps: the form of the tables, a legal OTP array, and only well-formed commands waiting. -/
structure State.Inv (s : State) : Prop where
  sound : s.Sound
  otp : s.otp.wf = true
  pending : s.pending.all Instr.wf = true

/-- An owner slot only moves from blank to programmed to revoked, and a programmed digest is never replaced (R75). -/
def OtpSlot.later (a b : OtpSlot) : Prop :=
  (a.st ≠ 0 → b.st ≠ 0) ∧ (a.st = 2 → b.st = 2) ∧ (a.st = 1 → b.digest = a.digest ∧ b.wrapKey = a.wrapKey)

/-- The OTP array only gains: slots move forward, and no bit of the floor is cleared (R75, R88). -/
def Otp.later (a b : Otp) : Prop :=
  (∀ i : Nat, OtpSlot.later (a.owner.getD i {}) (b.owner.getD i {})) ∧ a.floor &&& b.floor = a.floor

/-- A command runs: exec answers a next state, of which `p` holds. -/
def Runs (c : Instr) (s : State) (p : State → Prop) : Prop := ∃ t, exec c s = .next t ∧ p t

/-- An alarm stands raised. -/
def State.raised (s : State) (code src : Nat) : Prop := s.ev.isRaised code src = true


/-! ### Host commands that can be taken and answered -/

/-- The completion queue of a command's submission queue has room, and holds nothing back (R178, R232). -/
def State.cqReady (s : State) (cmd : CmdId) : Bool :=
  match SMap.get (s.ctrl cmd.cntlid).cqs ((s.ctrl cmd.cntlid).cqOf cmd.sqid) with
  | some q => q.room && q.held.isEmpty
  | none => false

/-- A command of the admin queue can be fetched, and its completion can be posted: its controller exists and is ready (R175, R179),
the queue holds an entry (R178), POWER_FAIL_N is not asserted (R611). -/
def State.adminReady (s : State) (cmd : CmdId) : Bool :=
  s.rdy cmd.cntlid && s.ctrlKind cmd.cntlid != .none && !s.power.pfAsserted && s.canFetch cmd && cmd.sqid == 0 && s.cqReady cmd

/-- The same of an I/O queue's command. -/
def State.ioReady (s : State) (cmd : CmdId) : Bool :=
  s.rdy cmd.cntlid && s.ctrlKind cmd.cntlid != .none && !s.power.pfAsserted && s.canFetch cmd && cmd.sqid != 0 && s.cqReady cmd

/-- A command is answered: the completion is the one thing sent from `s` to `t` (R205, R232). -/
def State.answered (s t : State) (cmd : CmdId) (st : NvmeSt) (dw0 : Nat) (data : Bytes) : Prop :=
  t.out = s.out ++ [.nvme ⟨cmd, st, dw0, data⟩]

/-- The register by which a host restarts the part: the physical function's while PERST_N is high, or the property of an association. -/
def State.nssrHere (s : State) (c : Nat) : Bool :=
  (s.ctrlKind c == .pf && s.pins.perstN) || ((s.ctrlKind c).fabric && (s.ctrl c).hostNqn.isSome)

/-- What a read of blocks finds before anything is fetched, and the state then (R334). -/
def State.partsOf (s : State) (nsid slba nlb : Nat) (n : Ns) : State × List (Nat × PartSt) :=
  s.findParts nsid (touched (s.nsChunk n) (slba * lbaBytes n.lbaf) (nlb * lbaBytes n.lbaf))

/-- Every chunk the read touches reads as zeros at once (R332, R334). -/
def State.readsZero (s : State) (nsid slba nlb : Nat) (n : Ns) : Bool :=
  (s.partsOf nsid slba nlb n).2.all (fun p => p.2 == .have (zeros (s.nsChunk n)) 0 0xFFFF)

/-! ### Requests of the engines -/

/-- Request `n` runs on a unit of a block, and its descriptor is `j.desc`, of an opcode (R131). -/
def State.unitRuns (s : State) (n b op : Nat) (j : Job) : Prop :=
  s.fw = true ∧ s.job n = some j ∧ j.block = b ∧ j.isRunning = true ∧ num j.desc 0 2 = op

/-- Request `n` has ended with a status and counts, and its completion waits to be written (R132). -/
def State.ended (t : State) (n : Nat) (j : Job) (status consumed produced : Nat) : Prop :=
  t.job n = some { j with st := .done status consumed produced }

/-! ### Frames of a spoke -/

/-- A frame is taken: its port is up and it is the next in order (R423). -/
def State.frameIn (s : State) (h : FrameHdr) : Bool :=
  s.fw && s.portThere h.port && (s.portOf h.port).up && h.lsn == (s.portOf h.port).rxLsn

/-- A shelf past stage RECOVERY hears a frame (R435). -/
def State.shelfHears (s : State) (h : FrameHdr) : Bool := s.isShelf && s.stageFrom .join && s.frameIn h

/-- A shelf takes a frame that only a member of the array serves: nothing holds it out of the array (R85, R108). -/
def State.shelfTakes (s : State) (h : FrameHdr) : Bool := s.shelfHears h && s.fit

/-- A tagged write of a head that may write, of a current generation, none of whose copies is remembered (R394, R427). -/
def State.firstCopy (s : State) (h : FrameHdr) : Bool :=
  s.mayWrite h.port && decide (leaseStreamGen s.lease h.tag.stream ≤ h.streamGen) && (s.keptOf h.tag).isNone

/-- The first thing sent from `s` to `t` is this frame on port `p`. -/
def State.sentFirst (s t : State) (p : Nat) (f : Frame) : Prop := ∃ n a, (s.out ++ [.frame p n a f]) <+: t.out

/-- The first thing sent is the reply to a frame (R420). -/
def State.repliedFirst (s t : State) (h : FrameHdr) (op status result : Nat) (b : ReplyBody) : Prop :=
  s.sentFirst t h.port ⟨h.tag, false, false, 0, h.reqId, .reply op status result b⟩

/-! ### Messages of the Seam -/

/-- From `s` to `t` one message left over the Seam, or waits last in its virtual channel while the link is contended (R385, log 77). -/
def State.seamSent (s t : State) (stream epn : Nat) (b : SeamBody) : Prop :=
  if s.seamFree b then t.out = s.out ++ [s.seamOut (s.seamMsg stream epn b)]
  else t.out = s.out ∧ t.seam.waiting = s.seam.waiting ++ [s.seamMsg stream epn b]

/-- The message is the first thing sent from `s` to `t`, or the first that waits (R385, log 77). -/
def State.seamFirst (s t : State) (stream epn : Nat) (b : SeamBody) : Prop :=
  if s.seamFree b then (s.out ++ [s.seamOut (s.seamMsg stream epn b)]) <+: t.out
  else (s.seam.waiting ++ [s.seamMsg stream epn b]) <+: t.seam.waiting

/-! ### Manager records -/

/-- From `s` to `t` the manager queued this record for the next SEAL of the stream it records in, and only it (R22, R23, log 76). -/
def State.recorded (s t : State) (r : MgrRec) : Prop :=
  (t.stream s.mgrStream).sealQueue = (s.stream s.mgrStream).sealQueue ++ [.manager r]

/-- The manager takes ARRAY_CTRL (R560, R561). -/
def State.ctrlReady (s : State) : Bool := s.isManager && !s.boot.strapHeld

/-- An ARRAY_CTRL is answered with a STATUS and a body (R558). -/
def State.ctrlAnswered (s t : State) (tag : Byte) (status : Nat) (body : Bytes) : Prop := t.out = s.out ++ [.mgmt 0x0C tag.toNat 0 (some status) body]

/-! ### What a shelf buffers and answers -/

/-- A frame on port `p` is among what has been sent by `t`. -/
def State.frameSent (t : State) (p : Nat) (f : Frame) : Prop := ∃ n a, .frame p n a f ∈ t.out

/-- The reply to a frame is among what has been sent (R420). -/
def State.repliedAmong (t : State) (h : FrameHdr) (op status result : Nat) (b : ReplyBody) : Prop :=
  t.frameSent h.port ⟨h.tag, false, false, 0, h.reqId, .reply op status result b⟩

/-- A shelf takes a payload frame: POWER_FAIL_N is not asserted (R453), it is not READ_ONLY (R464), a dump area is erased (R453). -/
def State.shelfRoom (s : State) : Bool := !s.power.pfAsserted && decide (s.sh.state < 2) && s.sh.dumpErased.any id

/-- Where an item of `n` sectors goes in the power-safe buffer once the item of its tag is gone (R449). -/
def State.placeOf (s : State) (tag : Tag) (n : Nat) : Option Nat :=
  State.plbPlace { s with sh := { s.sh with plb := s.sh.plb.filter (fun x => x.tag != tag) } } n

/-- From `s` to `t` the buffer holds one new item of this tag, in place of any other of it, and it is not power-safe yet (R449). -/
def State.buffered (s t : State) (h : FrameHdr) (b : PlbBody) (first : Nat) : Prop :=
  ∃ x, t.sh.plb = s.sh.plb.filter (fun y => y.tag != h.tag) ++ [x] ∧ x.tag = h.tag ∧ x.body = b ∧ x.first = first ∧ x.gen = h.streamGen ∧ x.safe = false

/-- The check fields of an append agree with its image and its tag (R425). -/
def appendPasses (h : FrameHdr) (a : AppendHead) (img : Bytes) : Bool :=
  crc64 img == a.crc64 && a.refTag == (if h.tag.cls == .metaPage then h.tag.item % 2 ^ 48 else a.chunkId)
    && a.checkApp == (if h.tag.cls == .metaPage then 0xFFFF else a.domain)

/-! ### Flash routines -/

/-- An engine of a shelf calls a routine, and what the request names takes it: a0 answers 0 (R483, R485). -/
def State.flashCall (s : State) (e : Nat) (r : FlashReq) : Bool :=
  s.engRuns e && s.isShelf && s.eng.length == 48 && s.flash.chans.length == 32 && s.frStatus r == 0

/-- Nothing runs, waits or is suspended on the LUN a request names, and the channel may issue (R485, R486). -/
def State.lunIdle (s : State) (r : FlashReq) : Bool :=
  (s.lun r.channel (dieIdx r.ce r.lun)).running.isNone && (s.lun r.channel (dieIdx r.ce r.lun)).suspended.isNone &&
    (s.lun r.channel (dieIdx r.ce r.lun)).queue.isEmpty && s.issues r.channel

/-- The operation runs on its LUN, and a0 holds OK. -/
def State.started (t : State) (e : Nat) (r : FlashReq) (x : FlReq) : Prop :=
  (t.lun r.channel (dieIdx r.ce r.lun)).running = some x ∧ (t.lun r.channel (dieIdx r.ce r.lun)).queue = [] ∧ SMap.get (t.engine e).x 10 = some 0

/-- An operation runs on a die of a shelf, and nothing waits behind it (R485, R486). -/
def State.dieRuns (s : State) (c ce lun : Nat) (x : FlReq) : Prop :=
  s.shelfOn = true ∧ s.flash.chans.length = 32 ∧ (s.lun c (dieIdx ce lun)).running = some x ∧ (s.lun c (dieIdx ce lun)).queue = []

/-- From `s` to `t` the completion of a request is handed to its ring, which takes or holds it (R132, R133, R485). -/
def State.posted (s t : State) (r : FlashReq) (status consumed produced : Nat) : Prop :=
  t.ring = (s.pushCpl ⟨r.ring, r.notify, ⟨r.tag, status, consumed, produced⟩⟩).ring

/-- What a read found of the sectors it asked for. -/
def State.readAll (s : State) (r : FlashReq) (d : DieResult) : List SectorRead := ((List.range 16).filter (reqWants r)).map (s.readOne r d)

/-! ### Queue pairs and replication messages -/

/-- A queue pair in service whose context is cached, and a packet for it on a port that is up, without a CE mark (R511, R516). -/
def State.atQp (s : State) (p : RdmaPkt) (q : Qp) : Prop :=
  s.rdmaOn = true ∧ (s.frontOf p.fp).up = true ∧ SMap.get s.rdma.qps p.qpn = some q ∧ s.rdma.cache.contains p.qpn = true ∧ q.state = 1 ∧ p.ceMarked = false

/-- The first thing sent from `s` to `t` is this replication message (R528). -/
def State.replSent (s t : State) (type stream part parts ident prev : Nat) (payload : Bytes) : Prop :=
  (s.out ++ [.repl (s.replSeal (replHdr s.site s.repl.claim type stream part s.repl.keyGen payload.length ident prev parts 0) payload type stream part ident)])
    <+: t.out

/-- A message that the target's manager has not had, under the session word (R530, R537). -/
def State.freshMsg (s : State) (type : Nat) (h : ReplHdr) : Bool :=
  s.rdmaOn && s.isTarget && s.isManager && s.session && s.wordMatches h
    && (s.repl.seen.find? (fun m => m.type == type && m.stream == h.stream && m.part == h.part && m.ident == h.ident)).isNone

/-! ### What a command may change -/

/-- Parts of the state: the ones named are those that may differ. -/
structure Mask where
  pins : Bool := false
  otp : Bool := false
  nor : Bool := false
  boot : Bool := false
  ledger : Bool := false
  params : Bool := false
  time : Bool := false
  ev : Bool := false
  mgmt : Bool := false
  jtag : Bool := false
  power : Bool := false
  eng : Bool := false
  mem : Bool := false
  ring : Bool := false
  mc : Bool := false
  hem : Bool := false
  nvme : Bool := false
  seam : Bool := false
  digest : Bool := false
  cam : Bool := false
  press : Bool := false
  cipher : Bool := false
  parity : Bool := false
  port : Bool := false
  head : Bool := false
  front : Bool := false
  rdma : Bool := false
  repl : Bool := false
  flash : Bool := false
  sh : Bool := false
  keep : Bool := false
  free : Bool := false
  out : Bool := false

/-- From `s` to `t` every part that the mask does not name is unchanged. -/
structure State.Unchanged (m : Mask) (s t : State) : Prop where
  pins : m.pins = false → t.pins = s.pins
  otp : m.otp = false → t.otp = s.otp
  nor : m.nor = false → t.nor = s.nor
  boot : m.boot = false → t.boot = s.boot
  ledger : m.ledger = false → t.ledger = s.ledger
  params : m.params = false → t.params = s.params
  time : m.time = false → t.time = s.time
  ev : m.ev = false → t.ev = s.ev
  mgmt : m.mgmt = false → t.mgmt = s.mgmt
  jtag : m.jtag = false → t.jtag = s.jtag
  power : m.power = false → t.power = s.power
  eng : m.eng = false → t.eng = s.eng
  mem : m.mem = false → t.mem = s.mem
  ring : m.ring = false → t.ring = s.ring
  mc : m.mc = false → t.mc = s.mc
  hem : m.hem = false → t.hem = s.hem
  nvme : m.nvme = false → t.nvme = s.nvme
  seam : m.seam = false → t.seam = s.seam
  digest : m.digest = false → t.digest = s.digest
  cam : m.cam = false → t.cam = s.cam
  press : m.press = false → t.press = s.press
  cipher : m.cipher = false → t.cipher = s.cipher
  parity : m.parity = false → t.parity = s.parity
  port : m.port = false → t.port = s.port
  head : m.head = false → t.head = s.head
  front : m.front = false → t.front = s.front
  rdma : m.rdma = false → t.rdma = s.rdma
  repl : m.repl = false → t.repl = s.repl
  flash : m.flash = false → t.flash = s.flash
  sh : m.sh = false → t.sh = s.sh
  keep : m.keep = false → t.keep = s.keep
  free : m.free = false → t.free = s.free
  out : m.out = false → t.out = s.out
  pending : t.pending = s.pending

/-- The parts of the state that a command may change: the registers of its own block, and those that raising events and alarms,
sending, writing memory or restarting the part touch. -/
def writes : Instr → Mask
  | .porNRelease _ _ =>
    { pins := true, boot := true, ledger := true, params := true, time := true, ev := true, mgmt := true, jtag := true, power := true,
      eng := true, mem := true, ring := true, mc := true, hem := true, nvme := true, seam := true, digest := true, cam := true,
      press := true, cipher := true, parity := true, port := true, head := true, front := true, rdma := true, repl := true, flash
      := true, sh := true, out := true }
  | .porNAssert _ =>
    { pins := true, nor := true, boot := true, ledger := true, params := true, time := true, ev := true, mgmt := true, jtag := true,
      power := true, eng := true, mem := true, ring := true, mc := true, hem := true, nvme := true, seam := true, digest := true,
      cam := true, press := true, cipher := true, parity := true, port := true, head := true, front := true, rdma := true, repl :=
      true, flash := true, sh := true, keep := true, free := true, out := true }
  | .warmRstNRelease => { pins := true, power := true }
  | .warmRstNAssert _ =>
    { pins := true, nor := true, boot := true, ledger := true, params := true, time := true, ev := true, mgmt := true, jtag := true,
      power := true, eng := true, mem := true, ring := true, mc := true, hem := true, nvme := true, seam := true, digest := true,
      cam := true, press := true, cipher := true, parity := true, port := true, head := true, front := true, rdma := true, repl :=
      true, flash := true, sh := true, keep := true, free := true, out := true }
  | .readyWatchdogExpiry =>
    { nor := true, boot := true, ledger := true, params := true, time := true, ev := true, mgmt := true, jtag := true, power := true,
      eng := true, mem := true, ring := true, mc := true, hem := true, nvme := true, seam := true, digest := true, cam := true,
      press := true, cipher := true, parity := true, port := true, head := true, front := true, rdma := true, repl := true, flash
      := true, sh := true, keep := true, free := true, out := true }
  | .bootRomStart _ => { boot := true, power := true, out := true }
  | .bootSelect => { nor := true, boot := true, ev := true, power := true, nvme := true, out := true }
  | .bootLoad => { boot := true, ledger := true, out := true }
  | .bootDomains => { boot := true, power := true, nvme := true, out := true }
  | .ledgerBegin => { boot := true, ledger := true, hem := true, out := true }
  | .bootMemory _ => { boot := true, ev := true, mem := true, mc := true, nvme := true, out := true }
  | .bootHem _ _ =>
    { boot := true, time := true, ev := true, power := true, hem := true, nvme := true, keep := true, free := true, out := true }
  | .bootFirmware _ =>
    { nor := true, boot := true, ledger := true, params := true, time := true, ev := true, mgmt := true, jtag := true, power := true,
      eng := true, mem := true, ring := true, mc := true, hem := true, nvme := true, seam := true, digest := true, cam := true,
      press := true, cipher := true, parity := true, port := true, head := true, front := true, rdma := true, repl := true, flash
      := true, sh := true, keep := true, free := true, out := true }
  | .bootLinks _ => { boot := true, ev := true, nvme := true, seam := true, port := true, front := true, flash := true, out := true }
  | .bootWaitTime => { boot := true, out := true }
  | .bootRecovery => { boot := true, ev := true, nvme := true, sh := true, keep := true, out := true }
  | .bootJoin _ =>
    { boot := true, time := true, ev := true, hem := true, nvme := true, seam := true, digest := true, cipher := true, port := true,
      head := true, free := true, out := true }
  | .bootReady _ _ =>
    { otp := true, nor := true, boot := true, ledger := true, time := true, ev := true, hem := true, nvme := true, seam := true,
      port := true, head := true, keep := true, free := true, out := true }
  | .barrierAbort => { boot := true, ev := true, nvme := true, seam := true, out := true }
  | .timePpsEdge _ _ _ _ => { time := true, ev := true, nvme := true, out := true }
  | .timeRefLoss => { time := true, ev := true, nvme := true, out := true }
  | .timePpsTimeout => { time := true, ev := true, nvme := true, out := true }
  | .ptpSync _ _ => { time := true, ev := true, nvme := true, out := true }
  | .ptpSyncTimeout => { time := true, ev := true, nvme := true, out := true }
  | .holdoverExpiry => { time := true, ev := true, nvme := true, out := true }
  | .slewDone => { time := true, ev := true, nvme := true, out := true }
  | .skewAlarm => { time := true, ev := true, nvme := true, out := true }
  | .epochBoundary _ _ _ _ _ =>
    { nor := true, boot := true, ledger := true, params := true, time := true, ev := true, mgmt := true, jtag := true, power := true,
      eng := true, mem := true, ring := true, mc := true, hem := true, nvme := true, seam := true, digest := true, cam := true,
      press := true, cipher := true, parity := true, port := true, head := true, front := true, rdma := true, repl := true, flash
      := true, sh := true, keep := true, free := true, out := true }
  | .heartbeatWindow => { time := true, eng := true, seam := true, port := true, head := true, out := true }
  | .leaseRenewalWindow => { time := true, eng := true, seam := true, port := true, head := true, out := true }
  | .checkpointWindow => { time := true, eng := true, hem := true, head := true, repl := true }
  | .rinseSlice _ _ =>
    { time := true, ev := true, eng := true, nvme := true, seam := true, port := true, head := true, rdma := true, repl := true, out
      := true }
  | .clearingSlice => { time := true, eng := true, sh := true }
  | .ftlJournalFlush => { time := true, eng := true, sh := true, keep := true }
  | .healthSampling _ _ _ _ =>
    { pins := true, time := true, ev := true, power := true, eng := true, mem := true, ring := true, mc := true, hem := true, nvme :=
      true, port := true, head := true, flash := true, sh := true, keep := true, free := true, out := true }
  | .markLoss => { time := true, ev := true, nvme := true, out := true }
  | .dpost _ _ _ _ =>
    { ev := true, eng := true, mem := true, ring := true, mc := true, hem := true, nvme := true, free := true, out := true }
  | .rwait _ _ _ _ => { eng := true }
  | .ewait _ _ _ => { eng := true }
  | .phtime _ _ _ => { eng := true }
  | .phtarm _ _ => { eng := true }
  | .phaseTimerInterrupt _ => { time := true, eng := true }
  | .yildomIllegalInstruction _ _ => { eng := true }
  | .engineTrap _ _ => { ev := true, eng := true, nvme := true, out := true }
  | .csrWrite _ _ _ _ =>
    { ev := true, power := true, eng := true, mem := true, ring := true, mc := true, hem := true, nvme := true, cam := true, flash :=
      true, free := true, out := true }
  | .ringEnable _ _ =>
    { ev := true, eng := true, mem := true, ring := true, mc := true, hem := true, nvme := true, free := true, out := true }
  | .ringDisable _ =>
    { ev := true, eng := true, mem := true, ring := true, mc := true, hem := true, nvme := true, free := true, out := true }
  | .completionRingHeadAdvance _ _ =>
    { ev := true, eng := true, mem := true, ring := true, mc := true, hem := true, nvme := true, free := true, out := true }
  | .descriptorFetch _ _ =>
    { ev := true, mem := true, ring := true, mc := true, hem := true, nvme := true, digest := true, press := true, cipher := true,
      free := true, out := true }
  | .descriptorCompletion _ =>
    { ev := true, eng := true, mem := true, ring := true, mc := true, hem := true, nvme := true, digest := true, cam := true, press :=
      true, cipher := true, port := true, head := true, free := true, out := true }
  | .mcInvAll _ => { mem := true, mc := true }
  | .mcInvRange _ _ _ => { mem := true, mc := true }
  | .mcCleanRange _ _ _ => { mem := true, mc := true }
  | .mcCleanInvRange _ _ _ => { mem := true, mc := true }
  | .mcLockFill _ _ _ => { mem := true, mc := true }
  | .mcUnlockRange _ _ _ => { mem := true, mc := true }
  | .mcCleanAll _ => { mem := true, mc := true }
  | .mcEnable => { mc := true }
  | .mcDisable => { mem := true, mc := true, free := true }
  | .hbmPatrolScrub _ _ => { ev := true, mem := true, nvme := true, out := true }
  | .hbmStackFatal _ => { boot := true, ev := true, mem := true, nvme := true, out := true }
  | .hemDurable _ _ _ => { ev := true, nvme := true, seam := true, head := true, rdma := true, repl := true, out := true }
  | .hemCreditLow _ => { ev := true, nvme := true, out := true }
  | .hemAdmitStall _ => { ev := true, nvme := true, out := true }
  | .perstNAssert => { pins := true, nvme := true, head := true }
  | .perstNRelease => { pins := true }
  | .hotReset => { nvme := true, head := true }
  | .functionLevelReset _ => { nvme := true, head := true }
  | .ccEnSet _ _ _ => { nvme := true }
  | .ccEnClear _ => { nvme := true, head := true }
  | .nssrWrite _ =>
    { nor := true, boot := true, ledger := true, params := true, time := true, ev := true, mgmt := true, jtag := true, power := true,
      eng := true, mem := true, ring := true, mc := true, hem := true, nvme := true, seam := true, digest := true, cam := true,
      press := true, cipher := true, parity := true, port := true, head := true, front := true, rdma := true, repl := true, flash
      := true, sh := true, keep := true, free := true, out := true }
  | .sqTailDoorbell _ _ _ => { nvme := true }
  | .cqHeadDoorbell _ _ _ => { nvme := true, out := true }
  | .keepAliveExpiry _ => { ev := true, nvme := true, head := true, rdma := true, out := true }
  | .fabricsConnect _ _ _ _ _ => { nvme := true, rdma := true, out := true }
  | .nvmeRead _ _ _ _ _ _ _ _ _ =>
    { ev := true, nvme := true, seam := true, cam := true, port := true, head := true, rdma := true, repl := true, free := true,
      out := true }
  | .nvmeWrite _ _ _ _ _ _ _ _ _ _ => { nvme := true, seam := true, head := true, out := true }
  | .nvmeWriteZeroes _ _ _ _ _ => { nvme := true, seam := true, head := true, out := true }
  | .nvmeDatasetManagement _ _ _ _ => { nvme := true, seam := true, head := true, out := true }
  | .nvmeFlush _ _ => { nvme := true, out := true }
  | .nvmeCompare _ _ _ _ _ _ _ _ _ =>
    { ev := true, nvme := true, seam := true, cam := true, port := true, head := true, rdma := true, repl := true, free := true,
      out := true }
  | .nvmeCompareAndWrite _ _ _ _ _ _ _ _ _ _ _ _ => { nvme := true, seam := true, head := true, out := true }
  | .nvmeVerify _ _ _ _ _ _ _ _ =>
    { ev := true, nvme := true, seam := true, cam := true, port := true, head := true, rdma := true, repl := true, free := true,
      out := true }
  | .nvmeCopy _ _ _ _ _ => { nvme := true, seam := true, head := true, out := true }
  | .reservationRegister _ _ _ _ _ _ => { nvme := true, seam := true, head := true, out := true }
  | .reservationAcquire _ _ _ _ _ _ => { nvme := true, seam := true, head := true, out := true }
  | .reservationRelease _ _ _ _ _ => { nvme := true, seam := true, head := true, out := true }
  | .reservationReport _ _ _ => { nvme := true, seam := true, head := true, out := true }
  | .nvmeUnsupportedOpcode _ => { nvme := true, out := true }
  | .identify _ _ _ _ => { nvme := true, free := true, out := true }
  | .createIoSq _ _ _ _ => { nvme := true, out := true }
  | .createIoCq _ _ _ _ => { nvme := true, out := true }
  | .deleteIoSq _ _ => { nvme := true, out := true }
  | .deleteIoCq _ _ => { nvme := true, out := true }
  | .nvmeAbort _ _ _ => { nvme := true, head := true, out := true }
  | .getFeatures _ _ _ _ => { nvme := true, free := true, out := true }
  | .setFeatures _ _ _ _ _ => { nvme := true, seam := true, head := true, out := true }
  | .setFeaturesNumberOfQueues _ _ _ => { nvme := true, out := true }
  | .getLogPage _ _ _ _ _ _ => { ev := true, nvme := true, free := true, out := true }
  | .logArrayStatus _ _ _ _ _ => { ev := true, nvme := true, free := true, out := true }
  | .logAdmissionAndHem _ _ _ _ _ => { ev := true, nvme := true, free := true, out := true }
  | .logShelfHealth _ _ _ _ _ => { ev := true, nvme := true, free := true, out := true }
  | .logStripePasses _ _ _ _ _ => { ev := true, nvme := true, free := true, out := true }
  | .logBootLedger _ _ _ _ => { ev := true, nvme := true, free := true, out := true }
  | .logBootLedgerCollected _ _ _ _ => { ev := true, nvme := true, free := true, out := true }
  | .logEventRing _ _ _ _ => { ev := true, nvme := true, free := true, out := true }
  | .logEventSummary _ _ _ _ => { ev := true, nvme := true, free := true, out := true }
  | .logEventRingMark _ _ _ _ => { ev := true, nvme := true, free := true, out := true }
  | .logAlarms _ _ _ _ _ => { ev := true, nvme := true, free := true, out := true }
  | .logReplication _ _ _ _ _ => { ev := true, nvme := true, free := true, out := true }
  | .deviceSelfTestShort _ _ => { nvme := true, out := true }
  | .deviceSelfTestExtended _ _ => { nvme := true, out := true }
  | .deviceSelfTestAbort _ => { nvme := true, out := true }
  | .namespaceManagement _ _ _ _ _ _ => { ev := true, nvme := true, seam := true, cipher := true, head := true, free := true, out := true }
  | .namespaceAttachment _ _ _ _ => { ev := true, nvme := true, seam := true, cipher := true, head := true, free := true, out := true }
  | .formatNvm _ _ _ _ => { ev := true, nvme := true, seam := true, cipher := true, head := true, free := true, out := true }
  | .sanitize _ _ => { ev := true, nvme := true, seam := true, cipher := true, head := true, free := true, out := true }
  | .firmwareImageDownload _ _ _ => { nvme := true, out := true }
  | .fwCommitReplace _ _ _ => { nvme := true, out := true }
  | .fwCommitReplaceActivate _ _ => { nvme := true, out := true }
  | .fwCommitActivate _ _ => { nvme := true, out := true }
  | .fwSlotWriteDone => { nor := true, ev := true, nvme := true, out := true }
  | .asyncEventRequest _ => { nvme := true, out := true }
  | .keepAlive _ => { nvme := true, out := true }
  | .commandAdmit _ => { hem := true, nvme := true, seam := true, cam := true, head := true, out := true }
  | .fillObtained _ _ _ _ => { head := true }
  | .bodyComplete _ _ =>
    { boot := true, ev := true, hem := true, nvme := true, seam := true, digest := true, cam := true, cipher := true, port := true,
      head := true, rdma := true, repl := true, free := true, out := true }
  | .sectionDigestReturn _ _ _ => { hem := true, seam := true, head := true, out := true }
  | .writeCompletionPost _ => { nvme := true, seam := true, cam := true, head := true, out := true }
  | .stripeOpen _ _ => { ev := true, hem := true, nvme := true, head := true, out := true }
  | .sortMerge _ _ => { head := true }
  | .powerStateEntryDone =>
    { ev := true, power := true, eng := true, mem := true, ring := true, mc := true, hem := true, nvme := true, press := true,
      cipher := true, free := true, out := true }
  | .powerStateExitDone =>
    { boot := true, ev := true, power := true, eng := true, mem := true, ring := true, mc := true, hem := true, nvme := true,
      seam := true, digest := true, cam := true, press := true, cipher := true, port := true, head := true, rdma := true,
      repl := true, free := true, out := true }
  | .digest _ _ =>
    { ev := true, mem := true, ring := true, mc := true, hem := true, nvme := true, digest := true, free := true, out := true }
  | .slotLoad _ => { ring := true, digest := true, free := true }
  | .matchSearch _ _ _ =>
    { ev := true, mem := true, ring := true, mc := true, hem := true, nvme := true, cam := true, free := true, out := true }
  | .matchWrite _ =>
    { ev := true, mem := true, ring := true, mc := true, hem := true, nvme := true, cam := true, free := true, out := true }
  | .matchInvalidate _ => { ring := true, cam := true }
  | .matchRead _ => { ev := true, mem := true, ring := true, mc := true, hem := true, nvme := true, free := true, out := true }
  | .matchRegionsLock => { cam := true }
  | .matchHalfFatal _ => { ev := true, nvme := true, cam := true, out := true }
  | .idxQuery _ _ _ => { ring := true, port := true, out := true }
  | .idxInsert _ _ _ _ => { ev := true, ring := true, nvme := true, port := true, sh := true, out := true }
  | .idxDelete _ _ _ _ => { ev := true, ring := true, nvme := true, port := true, sh := true, keep := true, out := true }
  | .idxReplace _ _ _ _ _ => { ev := true, ring := true, nvme := true, port := true, sh := true, keep := true, out := true }
  | .idxRebuildInsert _ _ _ _ => { ev := true, ring := true, nvme := true, port := true, sh := true, out := true }
  | .idxRangeReady _ _ => { ring := true, port := true, keep := true, out := true }
  | .idxRangeDrop _ _ => { ring := true, port := true, sh := true, keep := true, out := true }
  | .idxQueryReply _ _ _ =>
    { ev := true, ring := true, nvme := true, port := true, head := true, rdma := true, repl := true, out := true }
  | .idxOpReply _ _ _ _ _ => { ring := true, port := true, head := true, out := true }
  | .pendingWriteBack _ => { sh := true, keep := true }
  | .shardTagRebuildDone => { ev := true, nvme := true, sh := true, out := true }
  | .shardRangeRebuild _ => { port := true, head := true, out := true }
  | .compress _ =>
    { ev := true, mem := true, ring := true, mc := true, hem := true, nvme := true, press := true, free := true, out := true }
  | .resume _ =>
    { ev := true, mem := true, ring := true, mc := true, hem := true, nvme := true, press := true, free := true, out := true }
  | .decompress _ =>
    { ev := true, mem := true, ring := true, mc := true, hem := true, nvme := true, press := true, free := true, out := true }
  | .channelReset _ => { ring := true, press := true }
  | .pressLaneFatal _ _ =>
    { ev := true, mem := true, ring := true, mc := true, hem := true, nvme := true, press := true, free := true, out := true }
  | .xtsEnc _ _ _ =>
    { ev := true, mem := true, ring := true, mc := true, hem := true, nvme := true, cipher := true, free := true, out := true }
  | .xtsDec _ _ _ =>
    { ev := true, mem := true, ring := true, mc := true, hem := true, nvme := true, cipher := true, free := true, out := true }
  | .gcmEnc _ _ _ =>
    { ev := true, mem := true, ring := true, mc := true, hem := true, nvme := true, cipher := true, free := true, out := true }
  | .gcmDec _ _ _ =>
    { ev := true, mem := true, ring := true, mc := true, hem := true, nvme := true, cipher := true, free := true, out := true }
  | .keyWrap _ _ => { ev := true, mem := true, ring := true, mc := true, hem := true, nvme := true, cipher := true, out := true }
  | .keyUnwrap _ _ => { ev := true, mem := true, ring := true, mc := true, hem := true, nvme := true, cipher := true, out := true }
  | .keyGen _ _ => { ev := true, ring := true, nvme := true, cipher := true, free := true, out := true }
  | .keyRevoke _ => { ring := true, cipher := true }
  | .keySlotZeroed _ => { ev := true, nvme := true, cipher := true, out := true }
  | .domainKeyCreate _ _ => { ev := true, nvme := true, cipher := true, head := true, free := true, out := true }
  | .cryptoEraseComplete _ => { ev := true, nvme := true, cipher := true, out := true }
  | .cryptoErasePurgeLate _ => { ev := true, nvme := true, cipher := true, out := true }
  | .partnerRepairTimeout _ _ => { nvme := true, seam := true, port := true, head := true, repl := true, out := true }
  | .mapPageWrite _ _ _ => { hem := true, port := true, head := true, free := true, out := true }
  | .snapshotScheduleInstance _ => { head := true }
  | .snapshotReleaseStep _ _ _ => { head := true }
  | .parityEncode _ => { ev := true, mem := true, ring := true, mc := true, hem := true, nvme := true, free := true, out := true }
  | .parityReconstruct _ => { ev := true, mem := true, ring := true, mc := true, hem := true, nvme := true, free := true, out := true }
  | .parityCheck _ =>
    { ev := true, mem := true, ring := true, mc := true, hem := true, nvme := true, parity := true, free := true, out := true }
  | .shelfLinkLossFail _ => { head := true }
  | .plannedAbsenceExpiry _ => { head := true }
  | .darningRebuildStrip _ _ => { ev := true, nvme := true, port := true, head := true, out := true }
  | .refoldRelocate _ _ _ => { hem := true, port := true, head := true, out := true }
  | .seamFlitBad => { out := true }
  | .seamLaneRetire _ => { ev := true, nvme := true, seam := true, out := true }
  | .seamHeartbeat _ => { ledger := true, time := true, ev := true, nvme := true, seam := true, out := true }
  | .seamDurable _ _ _ => { ev := true, nvme := true, seam := true, head := true, rdma := true, repl := true, out := true }
  | .seamResendReq _ _ _ => { ev := true, nvme := true, seam := true, out := true }
  | .seamRelease _ _ _ =>
    { boot := true, ledger := true, time := true, ev := true, hem := true, nvme := true, seam := true, digest := true, cam := true,
      cipher := true, port := true, head := true, repl := true, free := true, out := true }
  | .sealSection _ _ _ _ => { ev := true, hem := true, nvme := true, seam := true, cam := true, head := true, out := true }
  | .bodySection _ _ _ _ =>
    { boot := true, ev := true, hem := true, nvme := true, seam := true, digest := true, cam := true, cipher := true, port := true,
      head := true, rdma := true, repl := true, free := true, out := true }
  | .catchupReq _ _ => { seam := true, out := true }
  | .fwdCmd _ _ _ => { seam := true, head := true }
  | .fwdDone _ _ _ => { nvme := true, seam := true, out := true }
  | .adminFwd _ _ => { ev := true, nvme := true, seam := true, cipher := true, head := true, free := true, out := true }
  | .seamRepairReq _ _ _ => { nvme := true, seam := true, port := true, head := true, rdma := true, repl := true, out := true }
  | .ledgerRec _ => { nor := true, ledger := true, hem := true, seam := true, head := true, free := true }
  | .fwdRead _ _ _ _ =>
    { ev := true, nvme := true, seam := true, cam := true, port := true, head := true, rdma := true, repl := true, free := true,
      out := true }
  | .readData _ _ _ => { nvme := true, seam := true, head := true, out := true }
  | .seamUnknownType _ => { ev := true, nvme := true, seam := true, out := true }
  | .hbLossPathB => { ev := true, nvme := true, out := true }
  | .hbLossPathA => { ev := true, nvme := true, seam := true, head := true, out := true }
  | .peerLost => { time := true, ev := true, nvme := true, seam := true, port := true, head := true, out := true }
  | .hbPathRestored _ => { ev := true, nvme := true, out := true }
  | .suspectDeclare _ _ => { ev := true, nvme := true, seam := true, head := true, out := true }
  | .leaseClaimWon =>
    { boot := true, ledger := true, time := true, ev := true, hem := true, nvme := true, seam := true, digest := true, cam := true,
      cipher := true, port := true, head := true, repl := true, free := true, out := true }
  | .leaseClaimTimeout => { ev := true, nvme := true, seam := true, out := true }
  | .leaseGrantExpiry => { ev := true, nvme := true, seam := true, out := true }
  | .takeoverAdmitStart _ => { ev := true, nvme := true, seam := true, head := true, out := true }
  | .rejoinEnterService =>
    { boot := true, ledger := true, time := true, ev := true, nvme := true, seam := true, port := true, head := true, out := true }
  | .managerBootWaitExpiry => { port := true, head := true, out := true }
  | .spokeTrainingDone _ => { port := true, out := true }
  | .spokeTrainingRetry _ => { port := true }
  | .hello _ _ _ => { ev := true, nvme := true, port := true, head := true, out := true }
  | .linkAck _ _ => { ring := true, port := true }
  | .nak _ _ => { ring := true, port := true, out := true }
  | .credit _ _ _ => { ring := true, port := true, head := true, out := true }
  | .mark _ _ _ _ => { time := true, ev := true, ring := true, nvme := true, port := true, out := true }
  | .hbRelay _ _ _ =>
    { ledger := true, time := true, ev := true, ring := true, nvme := true, seam := true, port := true, sh := true, out := true }
  | .renew _ _ => { time := true, ring := true, port := true, keep := true, out := true }
  | .claim _ _ => { ring := true, port := true, sh := true, keep := true, out := true }
  | .leaseRelease _ _ => { ring := true, port := true, sh := true, keep := true, out := true }
  | .renewReply _ _ _ _ =>
    { boot := true, ledger := true, time := true, ev := true, ring := true, hem := true, nvme := true, seam := true, digest := true,
      cam := true, cipher := true, port := true, head := true, repl := true, free := true, out := true }
  | .claimReply _ _ _ _ _ =>
    { boot := true, ledger := true, ring := true, hem := true, nvme := true, seam := true, port := true, head := true, out := true }
  | .append _ _ _ => { ev := true, ring := true, nvme := true, port := true, sh := true, keep := true, out := true }
  | .close _ _ _ _ => { ev := true, ring := true, nvme := true, port := true, sh := true, keep := true, out := true }
  | .stripWrite _ _ _ => { ev := true, ring := true, nvme := true, port := true, sh := true, keep := true, out := true }
  | .sectorRead _ _ _ _ => { ring := true, port := true, out := true }
  | .sectorReadReply _ _ _ _ =>
    { ring := true, nvme := true, seam := true, port := true, head := true, rdma := true, repl := true, free := true, out := true }
  | .drop _ => { ring := true, port := true, sh := true, keep := true, out := true }
  | .discard _ _ => { ev := true, ring := true, nvme := true, port := true, sh := true, keep := true, out := true }
  | .health _ _ => { ev := true, ring := true, hem := true, nvme := true, port := true, head := true, out := true }
  | .ledgerGet _ _ => { ring := true, port := true, out := true }
  | .ledgerGetReply _ _ _ =>
    { nor := true, ledger := true, ring := true, hem := true, port := true, head := true, free := true, out := true }
  | .ledgerCollectTimeout => { nor := true, ledger := true, hem := true, head := true, free := true }
  | .bufferList _ _ => { ring := true, port := true, out := true }
  | .bufferRead _ => { ring := true, port := true, out := true }
  | .spokeAck _ _ =>
    { ev := true, ring := true, hem := true, nvme := true, cam := true, port := true, head := true, rdma := true, repl := true,
      out := true }
  | .spokeDone _ _ => { ring := true, port := true, head := true, out := true }
  | .spokeUnknownOpcode _ _ => { ring := true, port := true, out := true }
  | .spokeFrameBad _ => { ev := true, nvme := true, port := true, out := true }
  | .linkAckTimer _ => { out := true }
  | .spokeReplayTimeout _ => { ev := true, ring := true, nvme := true, port := true, head := true, out := true }
  | .creditReturnTimer _ => { port := true, out := true }
  | .spokePortSilence _ => { ev := true, ring := true, nvme := true, port := true, head := true, out := true }
  | .spokePcsLockLoss _ => { ev := true, ring := true, nvme := true, port := true, head := true, out := true }
  | .spokePortFailTimeout _ => { ev := true, nvme := true, head := true, out := true }
  | .spokeSend _ => { ev := true, mem := true, ring := true, mc := true, hem := true, nvme := true, port := true, out := true }
  | .shelfWritePowerSafe _ => { port := true, sh := true, keep := true, out := true }
  | .powerFailNAssert =>
    { ev := true, power := true, eng := true, mem := true, ring := true, mc := true, hem := true, nvme := true, head := true,
      flash := true, sh := true, free := true, out := true }
  | .dumpDone => { ev := true, nvme := true, sh := true, keep := true, out := true }
  | .powerFailNRelease =>
    { ev := true, power := true, eng := true, mem := true, ring := true, mc := true, hem := true, nvme := true, port := true, head :=
      true, flash := true, free := true, out := true }
  | .holdupMet => { hem := true }
  | .healthRecordWrite => { nor := true, sh := true, keep := true }
  | .frRead _ _ =>
    { ev := true, eng := true, mem := true, ring := true, mc := true, hem := true, nvme := true, flash := true, free := true, out :=
      true }
  | .frReadRetry _ _ =>
    { ev := true, eng := true, mem := true, ring := true, mc := true, hem := true, nvme := true, flash := true, free := true, out :=
      true }
  | .frProgram _ _ _ _ =>
    { ev := true, eng := true, mem := true, ring := true, mc := true, hem := true, nvme := true, flash := true, free := true, out :=
      true }
  | .frErase _ _ _ =>
    { ev := true, eng := true, mem := true, ring := true, mc := true, hem := true, nvme := true, flash := true, keep := true, free :=
      true, out := true }
  | .frSuspend _ _ =>
    { ev := true, eng := true, mem := true, ring := true, mc := true, hem := true, nvme := true, flash := true, free := true, out :=
      true }
  | .frResume _ _ =>
    { ev := true, eng := true, mem := true, ring := true, mc := true, hem := true, nvme := true, flash := true, free := true, out :=
      true }
  | .frStatus _ _ =>
    { ev := true, eng := true, mem := true, ring := true, mc := true, hem := true, nvme := true, flash := true, free := true, out :=
      true }
  | .frFeature _ _ =>
    { ev := true, eng := true, mem := true, ring := true, mc := true, hem := true, nvme := true, flash := true, free := true, out :=
      true }
  | .frFeatureChEnable _ _ =>
    { ev := true, eng := true, mem := true, ring := true, mc := true, hem := true, nvme := true, flash := true, free := true, out :=
      true }
  | .frFeatureChStatus _ _ =>
    { ev := true, eng := true, mem := true, ring := true, mc := true, hem := true, nvme := true, flash := true, free := true, out :=
      true }
  | .flashOpComplete _ _ _ _ =>
    { ev := true, eng := true, mem := true, ring := true, mc := true, hem := true, nvme := true, port := true, flash := true, sh :=
      true, keep := true, free := true, out := true }
  | .flashOpTimeout _ _ _ _ =>
    { ev := true, eng := true, mem := true, ring := true, mc := true, hem := true, nvme := true, flash := true, sh := true, keep :=
      true, free := true, out := true }
  | .frontPortLinkUp _ => { ev := true, nvme := true, front := true, out := true }
  | .frontPortLinkDown _ => { ev := true, nvme := true, head := true, front := true, rdma := true, out := true }
  | .frontPortDownAlarm _ => { ev := true, nvme := true, out := true }
  | .frontPortNeighbour _ _ => { out := true }
  | .pfcPauseFrame _ _ _ => { front := true, rdma := true, out := true }
  | .rdmaCmConnect _ _ _ _ _ _ _ => { rdma := true, repl := true, out := true }
  | .rdmaSend _ =>
    { ev := true, mem := true, mc := true, hem := true, nvme := true, head := true, front := true, rdma := true, repl := true, out :=
      true }
  | .rdmaWrite _ _ _ =>
    { ev := true, mem := true, mc := true, hem := true, nvme := true, head := true, front := true, rdma := true, repl := true, out :=
      true }
  | .rdmaRead _ _ _ _ => { ev := true, nvme := true, head := true, front := true, rdma := true, repl := true, out := true }
  | .rdmaFetchAndAdd _ _ _ _ => { ev := true, nvme := true, head := true, front := true, rdma := true, repl := true, out := true }
  | .rdmaCompareAndSwap _ _ _ _ _ => { ev := true, nvme := true, head := true, front := true, rdma := true, repl := true, out := true }
  | .rdmaAck _ _ _ _ => { ev := true, nvme := true, cipher := true, head := true, rdma := true, repl := true, free := true, out := true }
  | .rdmaNak _ _ _ => { ev := true, nvme := true, head := true, rdma := true, repl := true, out := true }
  | .rdmaAckTimeout _ => { ev := true, nvme := true, head := true, rdma := true, repl := true, out := true }
  | .rdmaContextFetchDone _ =>
    { ev := true, mem := true, mc := true, hem := true, nvme := true, head := true, front := true, rdma := true, repl := true, out :=
      true }
  | .rdmaCnp _ => { rdma := true }
  | .rdmaRateRestore _ => { rdma := true }
  | .sprayHoleTimeout _ _ => { rdma := true, out := true }
  | .rdmaDeviceFatal => { ev := true, nvme := true, seam := true, head := true, rdma := true, repl := true, out := true }
  | .replSession _ _ _ _ _ => { ev := true, nvme := true, cipher := true, rdma := true, repl := true, out := true }
  | .sessionAck _ _ _ _ _ _ => { ev := true, nvme := true, cipher := true, head := true, rdma := true, repl := true, out := true }
  | .rbundle _ _ => { ev := true, nvme := true, cam := true, port := true, head := true, rdma := true, repl := true, out := true }
  | .point _ _ _ _ => { ev := true, nvme := true, repl := true, out := true }
  | .replicaPointCut => { head := true, repl := true }
  | .keyrec _ _ => { ev := true, nvme := true, head := true, repl := true, out := true }
  | .pull _ _ => { rdma := true, repl := true, out := true }
  | .replChunk _ _ => { ev := true, nvme := true, head := true, rdma := true, repl := true, out := true }
  | .push _ _ => { ev := true, nvme := true, head := true, rdma := true, repl := true, out := true }
  | .receipt _ => { ev := true, nvme := true, head := true, repl := true, out := true }
  | .applied _ => { ev := true, nvme := true, head := true, repl := true, out := true }
  | .replRepairReq _ _ _ _ => { rdma := true, repl := true, out := true }
  | .repairData _ _ => { nvme := true, seam := true, port := true, head := true, repl := true, out := true }
  | .rdiff _ _ => { ev := true, nvme := true, cam := true, port := true, head := true, rdma := true, repl := true, out := true }
  | .replSyncTimeout => { ev := true, nvme := true, head := true, out := true }
  | .replRekey => { rdma := true, repl := true, out := true }
  | .replLagAlarm => { ev := true, nvme := true, out := true }
  | .replLookupTimeout => { rdma := true, repl := true, out := true }
  | .statusGet _ => { out := true }
  | .alarmRead _ _ _ _ => { ev := true, out := true }
  | .alarmAck _ _ _ => { ev := true, out := true }
  | .eventRead _ _ _ _ => { ev := true, out := true }
  | .summaryRead _ _ _ => { out := true }
  | .ledgerRead _ _ _ => { out := true }
  | .imageWrite _ _ _ _ _ => { nor := true, out := true }
  | .timeSet _ _ => { time := true, out := true }
  | .mgmtRestart _ =>
    { nor := true, boot := true, ledger := true, params := true, time := true, ev := true, mgmt := true, jtag := true, power := true,
      eng := true, mem := true, ring := true, mc := true, hem := true, nvme := true, seam := true, digest := true, cam := true,
      press := true, cipher := true, parity := true, port := true, head := true, front := true, rdma := true, repl := true, flash
      := true, sh := true, keep := true, free := true, out := true }
  | .otpKeyProgram _ _ _ _ _ => { otp := true, out := true }
  | .otpKeyRevoke _ _ _ => { otp := true, out := true }
  | .healthRead _ _ => { out := true }
  | .mctpUnknownCommand _ _ => { out := true }
  | .snapshotDefine _ _ _ _ => { head := true, out := true }
  | .snapshotDelete _ _ => { head := true, out := true }
  | .snapshotClone _ _ _ => { head := true, out := true }
  | .utcScheduleEdit _ _ _ => { head := true, out := true }
  | .plannedShelfRestart _ _ => { head := true, out := true }
  | .barrierStart _ => { boot := true, out := true }
  | .managerLeaseMove _ => { head := true, out := true }
  | .groupHandback _ => { head := true, out := true }
  | .spdmGetVersion => { mgmt := true, out := true }
  | .spdmGetCapabilities => { mgmt := true, out := true }
  | .spdmNegotiateAlgorithms => { mgmt := true, out := true }
  | .spdmGetDigests => { out := true }
  | .spdmGetCertificate _ _ _ => { out := true }
  | .spdmChallenge _ => { free := true, out := true }
  | .spdmGetMeasurements _ _ _ => { free := true, out := true }
  | .smbusAlertResponse => { out := true }
  | .nvmeMiBasicManagement => { free := true, out := true }
  | .nvmeMiReadDataStructure _ _ => { free := true, out := true }
  | .nvmeMiSubsystemHealthPoll => { free := true, out := true }
  | .nvmeMiControllerHealthPoll _ => { free := true, out := true }
  | .nvmeMiConfigurationGet _ => { free := true, out := true }
  | .jtagBypass => { jtag := true, out := true }
  | .jtagIdcode => { jtag := true, out := true }
  | .jtagSamplePreload _ => { jtag := true, free := true, out := true }
  | .jtagExtest _ => { jtag := true, free := true, out := true }
  | .jtagExtestPulse _ => { jtag := true, free := true, out := true }
  | .jtagExtestTrain _ => { jtag := true, free := true, out := true }
  | .jtagEngineDebug _ => { jtag := true, free := true, out := true }
  | .railFault _ _ =>
    { ev := true, power := true, eng := true, mem := true, ring := true, mc := true, hem := true, nvme := true, head := true,
      flash := true, sh := true, free := true, out := true }
  | .pdOffReq _ => { power := true }
  | .pdOnReq _ => { power := true }
  | .powerBudgetAlarm => { ev := true, nvme := true, out := true }
  | .clockInputLoss _ =>
    { pins := true, ev := true, ring := true, nvme := true, seam := true, port := true, head := true, front := true, rdma := true, out
      := true }
  | .sysclkReturn =>
    { pins := true, nor := true, boot := true, ledger := true, params := true, time := true, ev := true, mgmt := true, jtag := true,
      power := true, eng := true, mem := true, ring := true, mc := true, hem := true, nvme := true, seam := true, digest := true,
      cam := true, press := true, cipher := true, parity := true, port := true, head := true, front := true, rdma := true, repl :=
      true, flash := true, sh := true, free := true }
  | .clockInputRestored _ => { pins := true, ev := true, nvme := true, out := true }
  | .railWithinWindow _ => { ev := true, nvme := true, out := true }
  | .hpLinkDown => { ev := true, nvme := true, out := true }
  | .hpLinkUp _ _ => { ev := true, nvme := true, out := true }
  | .seamLinkUp _ => { seam := true }
  | .seamFlitNak _ => { out := true }
  | .apstIdleTimeout _ => { nvme := true }
  | .ptpAnnounce _ _ => { time := true }
  | .rdmaCmDisconnect _ => { ev := true, nvme := true, head := true, rdma := true, repl := true, out := true }
  | .getVendorDefinedMessageSupport => { out := true }
  | .numvfsSet _ => { nvme := true, head := true }

end Sys2Proof.Machine
end

