-- ==== Sys2Proof/Certificates/Slice0/Obligations.lean ====
section
/-! DEFINITION. The statements for the provers. `Runs c s p` says that exec of `c` in `s` answers a next state of which `p` holds. -/

open Sys2Proof Sys2Proof.Machine

/-- The step takes the command at the front of the queue and runs it with the queue's rest. -/
def Obligations.StepRunsTheFrontCommand : Prop :=
  ∀ (s : State) (c : Instr) (rest : List Instr), s.pending = c :: rest → step s = exec c { s with pending := rest }

/-- The model's choice (log 17): a step on an empty queue lets one tick of 10 ns pass (R36, R37), and never crosses an epoch boundary. -/
def Obligations.IdleStepTicksArrayTime : Prop :=
  (∀ s : State, s.pending = [] → s.time.tSet = true → s.live = true → s.phase + 1 < s.epochLen →
    ∃ t, step s = .next t ∧ t.time.t = s.time.t + 1 ∧ t.pending = []) ∧
  (∀ s : State, s.pending = [] → (s.time.tSet = false ∨ s.live = false ∨ s.epochLen ≤ s.phase + 1) → step s = .next s)

/-- The state right after power-up satisfies the invariant that every step keeps. -/
def Obligations.ResetStateIsLegal : Prop :=
  State.reset.Inv

/-- The invariant stands over every step, whichever command it takes. -/
def Obligations.EveryStepKeepsTheInvariant : Prop :=
  ∀ s t : State, s.Inv → step s = .next t → t.Inv

/-- First in, first out: no command's effect reaches the commands that wait. -/
def Obligations.CommandsLeaveTheQueueAlone : Prop :=
  ∀ (c : Instr) (s t : State), exec c s = .next t → t.pending = s.pending

/-- R2: the straps are sampled at the release of POR_N, and no other command changes what was sampled. -/
def Obligations.StrapsAreSampledOnlyAtPorRelease : Prop :=
  (∀ (s : State) (r : Fin 4) (x : Fin 64), s.pins.porN = false →
    Runs (.porNRelease r x) s fun t => t.pins.roleSel = r.val ∧ t.pins.siteId = x.val) ∧
  (∀ (c : Instr) (s t : State), (∀ r x, c ≠ .porNRelease r x) → exec c s = .next t →
    t.pins.roleSel = s.pins.roleSel ∧ t.pins.siteId = s.pins.siteId)

/-- R75, R88: owner slots are programmed and revoked, and the floor is a thermometer code that is only raised. -/
def Obligations.OtpOnlyGains : Prop :=
  ∀ (c : Instr) (s t : State), exec c s = .next t → Otp.later s.otp t.otp

/-- R75: slots are programmed and revoked only in recovery mode, with VPP_OTP applied. -/
def Obligations.OwnerSlotsChangeOnlyInRecoveryMode : Prop :=
  ∀ (c : Instr) (s t : State), exec c s = .next t → t.otp.owner ≠ s.otp.owner →
    s.boot.stage = .recoveryMode ∧
      ((∃ tag slot d w, c = .otpKeyProgram tag slot d w true) ∨ (∃ tag slot, c = .otpKeyRevoke tag slot true))

/-- No command ends in a fault or a refusal; a step that cannot come about changes nothing (the model's choice, log 8). -/
def Obligations.EveryCommandAnswersANextState : Prop :=
  ∀ (c : Instr) (s : State), ∃ t, exec c s = .next t

/-- R2, R10, R612, R615, R617, R624, R628: the reset inputs and the return of SYSCLK. -/
def Obligations.ResetInputsHoldThePart : Prop :=
  (∀ (s : State) (good : Bool), s.pins.porN = true →
    Runs (.porNAssert good) s fun t => t.pins.porN = false ∧ t.boot = State.reset.boot ∧ t.params = [] ∧ t.otp = s.otp ∧
      t.pins.roleSel = s.pins.roleSel ∧ t.pins.siteId = s.pins.siteId) ∧
  (∀ (s : State) (r : Fin 4) (x : Fin 64), s.pins.porN = false → s.power.tripped = false →
    Runs (.porNRelease r x) s fun t => t.pins.porN = true ∧ t.power.resetCause = 1 ∧ t.boot = State.reset.boot ∧ t.params = [] ∧
      t.nor = s.nor ∧ t.otp = s.otp) ∧
  (∀ (s : State) (r : Fin 4) (x : Fin 64), s.pins.porN = false → s.power.tripped = true →
    Runs (.porNRelease r x) s fun t => t.pins.porN = true ∧ t.power.resetCause = 5 ∧ t.power.tripped = false ∧
      t.raised AL_POWER_THERMTRIP 0) ∧
  (∀ (s : State) (good : Bool), s.pins.porN = true → s.pins.warmN = true → s.power.tripped = false →
    Runs (.warmRstNAssert good) s fun t => t.pins.warmN = false ∧ t.boot = State.reset.boot ∧ t.params = [] ∧ t.otp = s.otp) ∧
  (∀ s : State, s.pins.porN = true → s.pins.warmN = false →
    Runs .warmRstNRelease s fun t => t = { s with pins := { s.pins with warmN := true }, power := { s.power with resetCause := 2 } }) ∧
  (∀ s : State, s.pins.porN = true → s.pins.sysclk = false →
    Runs .sysclkReturn s fun t => t.pins.sysclk = true ∧ t.power.resetCause = 6 ∧ t.boot = State.reset.boot ∧ t.params = [] ∧ t.otp = s.otp)

/-- R64, R85, R89, R200, R559, R560, R628: restarts and their causes. -/
def Obligations.RestartsRecordTheirCause : Prop :=
  (∀ s : State, s.live = true → s.boot.readyDone = false → (s.boot.stage = .firmware ∨ s.boot.stage = .links) →
    Runs .readyWatchdogExpiry s fun t => t.power.resetCause = 3 ∧ t.boot = State.reset.boot ∧ t.params = [] ∧ t.otp = s.otp) ∧
  (∀ (s : State) (tag : Byte), s.live = true → s.strapsOk = true →
    (s.isHead = false ∨ s.boot.stage = .recoveryMode ∨ s.peerUp = true) →
    Runs (.mgmtRestart tag) s fun t => t.power.resetCause = 4 ∧ t.boot = State.reset.boot ∧ t.params = [] ∧ t.otp = s.otp) ∧
  (∀ (s : State) (c : Nat), s.fw = true → s.isHead = true → s.nssrHere c = true → s.peerUp = true →
    Runs (.nssrWrite c) s fun t => t.power.resetCause = 4 ∧ t.boot = State.reset.boot ∧ t.params = [] ∧ t.otp = s.otp ∧
      (t.ctrl c).nssro = true) ∧
  (∀ (s : State) (c : Nat), s.fw = true → s.isHead = true → s.nssrHere c = true → s.peerUp = false →
    Runs (.nssrWrite c) s fun t => t = s.event EV_NVME_RESTART_REFUSED 0)

/-- R2, R4, R82, R83, R84, R106, R135, R170: the stages up to HEM. -/
def Obligations.BootStagesBringThePartUp : Prop :=
  (∀ (s : State) (m : Bool), s.live = true → s.boot.stage = .romStart → s.boot.strapHeld = false → (s.isHead || s.isShelf) = true →
    Runs (.bootRomStart m) s fun t => t.boot = { s.boot with otpFloor := s.otp.floor, xspi8d := m, stage := .select } ∧ t.otp = s.otp ∧
      t.nor = s.nor) ∧
  (∀ (s : State) (m : Bool), s.live = true → s.boot.stage = .romStart → s.boot.strapHeld = false → (s.isHead || s.isShelf) = false →
    Runs (.bootRomStart m) s fun t => t.boot = { s.boot with otpFloor := s.otp.floor, strapHeld := true } ∧ t.otp = s.otp ∧
      t.nor = s.nor) ∧
  (∀ s : State, s.live = true → s.boot.stage = .select →
    Runs .bootSelect s fun t => (t.boot.stage = .load ∨ t.boot.stage = .recoveryMode) ∧
      (∀ c : Copy, (ranked s.nor ([Copy.a, Copy.b].filter (fun d => copyStatus { s with boot := { s.boot with bcr := bcrCurrent s.nor } } d == 0))).head? = some c →
        (copySeq s.nor c = (bcrCurrent s.nor).trialSeq → copyNum c = (bcrCurrent s.nor).trialCopy → (bcrCurrent s.nor).attempts < 3) →
        t.boot.stage = .load ∧ t.boot.copy = c ∧ t.boot.header = copyRead s.nor c 0 252 ∧
        (copySeq s.nor c = (bcrCurrent s.nor).confirmedSeq →
          t.boot.bcr = { bcrCurrent s.nor with generation := (bcrCurrent s.nor).generation + 1, slot := 1 - (bcrCurrent s.nor).slot }) ∧
        (copySeq s.nor c ≠ (bcrCurrent s.nor).confirmedSeq → t.boot.trial = true ∧ t.boot.bcr.trialSeq = copySeq s.nor c ∧ t.boot.bcr.trialCopy = copyNum c))) ∧
  (∀ s : State, s.live = true → s.boot.stage = .select →
    (∀ c : Copy, copyStatus { s with boot := { s.boot with bcr := bcrCurrent s.nor } } c ≠ 0) →
    Runs .bootSelect s fun t => t.boot.stage = .recoveryMode ∧ t.raised AL_BOOT_NO_IMAGE 0 ∧ t.nor = s.nor) ∧
  (∀ s : State, s.live = true → s.boot.stage = .load →
    Runs .bootLoad s fun t => t.boot.stage = .domains ∧ t.boot.imageSeq = num (copyRead s.nor s.boot.copy 0 256) 12 4 ∧
      t.boot.secVersion = num (copyRead s.nor s.boot.copy 0 256) 16 4 ∧ t.boot.otpFloor = s.boot.otpFloor ∧ t.otp = s.otp ∧ t.nor = s.nor) ∧
  (∀ s : State, s.live = true → s.boot.stage = .domains →
    Runs .bootDomains s fun t => t.boot = { s.boot with stage := .ledgerBegin }) ∧
  (∀ s : State, s.atStage .ledgerBegin = true →
    Runs .ledgerBegin s fun t => t.boot.stage = .memory ∧ t.hem.staging.present = true ∧ t.hem.staging.state = 1 ∧
      t.ledger.state = 1 ∧ t.ledger.bootCount = t.hem.staging.bootCount ∧ t.nor = s.nor) ∧
  (∀ s : State, s.atStage .memory = true →
    Runs (.bootMemory 15) s fun t => t.boot = { s.boot with stage := .hem } ∧ t.mem.stackUp = [true, true, true, true] ∧
      t.mem.hbm = s.mem.hbm) ∧
  (∀ (s : State) (bad : List (HemRec × Nat)) (torn : List HemRec), s.atStage .hem = true →
    Runs (.bootHem bad torn) s fun t => t.boot = { s.boot with stage := .firmware } ∧ t.hem.scanDone = true)

/-- R79, R82, R84, R86, R91, R106, R108, R465, R477: the stages from FIRMWARE to READY. -/
def Obligations.LateBootStagesReachReady : Prop :=
  (∀ (s : State) (k : KatResult), s.atStage .firmware = true → parseParams s.boot.paramBlock = none →
    Runs (.bootFirmware k) s fun t => t.power.resetCause = 7 ∧ t.boot = State.reset.boot ∧ t.params = []) ∧
  (∀ (s : State) (k : KatResult) (ps : List PRec), s.atStage .firmware = true → parseParams s.boot.paramBlock = some ps →
    Runs (.bootFirmware k) s fun t => t.boot.stage = .links ∧ t.params = ps) ∧
  (∀ (s : State) (f : LinksFound), s.atStage .links = true → s.isShelf = true →
    Runs (.bootLinks f) s fun t => t.boot.stage = .recovery) ∧
  (∀ (s : State) (f : LinksFound), s.atStage .links = true → s.isShelf = false →
    Runs (.bootLinks f) s fun t => t.boot.stage = .waitTime) ∧
  (∀ s : State, s.atStage .waitTime = true → s.isHead = true → s.time.tSet = true →
    (s.time.state = .locked ∨ s.time.state = .peer) →
    Runs .bootWaitTime s fun t => t.boot = { s.boot with stage := .join } ∧ t.time = s.time) ∧
  (∀ s : State, s.atStage .recovery = true → s.isShelf = true → (s.keep.dies = none ∨ s.keep.dies = some s.dies) →
    Runs .bootRecovery s fun t => t.boot.stage = .join ∧ t.keep.records = [.flush t.keep.flushNo] ∧ t.keep.map = t.sh.map) ∧
  (∀ (s : State) (n : Nat), s.atStage .recovery = true → s.isShelf = true → s.keep.dies = some n → n ≠ s.dies →
    Runs .bootRecovery s fun t => t.boot = s.boot ∧ t.raised AL_FLASH_DIE_FAIL 0) ∧
  (∀ (s : State) (j : JoinFound), s.atStage .join = true → s.isHead = false → s.boot.joined = false →
    s.seam.asked = false → s.parity.katOk = true →
    Runs (.bootJoin j) s fun t => t.boot.holds = s.joinHolds j ∧ t.boot.joined = (s.joinHolds j).isEmpty ∧ t.boot.stage = .join) ∧
  (∀ (s : State) (fails : Fin 4) (vpp : Bool), s.atStage .join = true → s.boot.joined = true → s.boot.readyDone = false →
    s.boot.commitFails < 3 → fails ≠ 3 →
    Runs (.bootReady fails vpp) s fun t => t.boot.stage = .ready ∧ t.boot.readyDone = true ∧ t.hem.pf = .armed ∧ t.ledger.state = 2) ∧
  (∀ (s : State) (vpp : Bool), s.atStage .join = true → s.boot.joined = true → s.boot.readyDone = false →
    s.boot.commitFails < 3 →
    Runs (.bootReady 3 vpp) s fun t => t.boot = { s.boot with commitFails := 3 } ∧ t.hem = s.hem ∧
      t.ledger = { s.ledger with collecting := false, collected := [], later := [], since := none }) ∧
  (∀ (s : State) (b : Barrier), s.headUp = true → s.boot.barrier = some b → s.epochStart b.b + s.p p_image_barrier_max_ms * 100000 ≤ s.time.t →
    Runs .barrierAbort s fun t => t.boot = { s.boot with barrier := none } ∧ t.raised AL_BOOT_BARRIER_ABORT 0)

/-- R33 to R35, R63: the validity of the own reference. -/
def Obligations.ReferenceIsJudgedByItsEdges : Prop :=
  (∀ (s : State) (err gap off : Int) (p : Nat), s.headPps = true → s.time.refValid = false → within100 gap = true → s.time.ppsGood = 2 →
    Runs (.timePpsEdge err gap off p) s fun t => t.time.refValid = true ∧ t.time.ppsGood = 3) ∧
  (∀ (s : State) (err gap off : Int) (p : Nat), s.headPps = true → s.time.refValid = false → within100 gap = true → s.time.ppsGood < 2 →
    Runs (.timePpsEdge err gap off p) s fun t => t.time.refValid = false ∧ t.time.ppsGood = s.time.ppsGood + 1) ∧
  (∀ (s : State) (err gap off : Int) (p : Nat), s.headPps = true → s.time.refValid = false → within100 gap = false →
    Runs (.timePpsEdge err gap off p) s fun t => t.time.refValid = false ∧ t.time.ppsGood = 0) ∧
  (∀ (s : State) (err gap off : Int) (p : Nat), s.headPps = true → s.time.refValid = true → within100 err = false → s.time.ppsOut = 2 →
    Runs (.timePpsEdge err gap off p) s fun t => t.time.refValid = false ∧ t.raised AL_EPOCH_REF_LOST 0) ∧
  (∀ s : State, s.headPps = true →
    Runs .timeRefLoss s fun t => t.time.refValid = false ∧ t.time.t = s.time.t ∧ t.raised AL_EPOCH_REF_LOST 0) ∧
  (∀ s : State, s.headPps = true →
    Runs .timePpsTimeout s fun t => t.time.refValid = false ∧ t.time.t = s.time.t ∧ t.raised AL_EPOCH_REF_LOST 0) ∧
  (∀ (s : State) (off : Int) (m : PtpSeen), s.ptpMine m.port m.dom = true → s.time.refValid = true → 1000 < off.natAbs →
    Runs (.ptpSync off m) s fun t => t.time.refValid = false ∧ t.raised AL_EPOCH_REF_LOST 0) ∧
  (∀ (s : State) (off : Int) (m : PtpSeen), s.ptpMine m.port m.dom = true → s.time.refValid = false → s.time.syncGood = 2 → m.missed = 0 →
    s.time.state ≠ .acquiring →
    Runs (.ptpSync off m) s fun t => t.time.refValid = true ∧ t.time.refOff = off) ∧
  (∀ (s : State) (off : Int) (m : PtpSeen), s.ptpMine m.port m.dom = true → s.time.refValid = false → m.missed ≠ 0 →
    Runs (.ptpSync off m) s fun t => t.time.refValid = false ∧ t.time.syncGood = 1) ∧
  (∀ (s : State) (off : Int) (m : PtpSeen), s.ptpMine m.port m.dom = false →
    Runs (.ptpSync off m) s fun t => t = s) ∧
  (∀ s : State, s.headPtp = true →
    Runs .ptpSyncTimeout s fun t => t.time.refValid = false ∧ t.time.t = s.time.t ∧ t.raised AL_EPOCH_REF_LOST 0)

/-- R33, R34, R41, R45, R47, R51, R63, R559: the rest of the time states. -/
def Obligations.TimeStatesMoveAsTheRulesSay : Prop :=
  (∀ s : State, s.fw = true → s.isHead = true → s.time.state = .holdover → s.ownUsable = false → s.peerLocked = false → s.peerUp = false →
    Runs .holdoverExpiry s fun t => t.time.state = .freeRun ∧ t.time.quality = .freeRun ∧ t.raised AL_EPOCH_FREE_RUN 0 ∧ t.time.t = s.time.t) ∧
  (∀ s : State, s.fw = true → s.isHead = false → s.time.slewing = true → s.slewOff = 0 →
    Runs .slewDone s fun t => t.time = { s.time with slewing := false }) ∧
  (∀ s : State, s.fw = true → s.isHead = true → s.time.slewing = true → s.slewOff = 0 → (s.time.refValid = false ∨ s.time.refOff.natAbs ≤ 1000) →
    Runs .slewDone s fun t => t.time.slewing = false ∧ t.time.t = s.time.t) ∧
  (∀ s : State, s.time.slewing = true → s.slewOff ≠ 0 →
    Runs .slewDone s fun t => t = s) ∧
  (∀ s : State, s.fw = true → s.isHead = true → s.seam.manager = false → 64 ≤ s.time.skewOver →
    Runs .skewAlarm s fun t => t.time.state = .peer ∧ t.time.skewPeer = true ∧ t.raised AL_EPOCH_SKEW 0 ∧ t.time.t = s.time.t) ∧
  (∀ (s : State) (m : PtpUtc) (v : Bool), s.ptpMine m.port m.dom = true →
    Runs (.ptpAnnounce m v) s fun t => t = { s with time := { s.time with utcPtp := if v then some m.offset else none } }) ∧
  (∀ (s : State) (m : PtpUtc) (v : Bool), s.ptpMine m.port m.dom = false →
    Runs (.ptpAnnounce m v) s fun t => t = s) ∧
  (∀ s : State, s.fw = true → s.isShelf = true → s.time.state ≠ .markLost →
    Runs .markLoss s fun t => t.time = { s.time with state := .markLost } ∧ t.raised AL_EPOCH_MARK_LOSS 0) ∧
  (∀ (s : State) (tag : Byte) (n : Nat), s.mgmtUp = true → s.isShelf = false → s.time.second = none →
    Runs (.timeSet tag n) s fun t => t.time = { s.time with written := some n } ∧ t.out = s.out ++ [.mgmt 8 tag.toNat 0 none []]) ∧
  (∀ (s : State) (tag : Byte) (n : Nat), s.mgmtUp = true → s.isShelf = true →
    Runs (.timeSet tag n) s fun t => t = s.emit (.mgmt 8 tag.toNat 3 none []))

/-- R123 to R125, R134, R150: one engine's instructions. The engine's register values are operands (log 19). -/
def Obligations.YildomInstructionsActOnTheirEngine : Prop :=
  (∀ (s : State) (e : Fin 48) (rd : Fin 32) (a b : Nat), s.engRuns e = true → s.postFaults a = false →
    ((s.ringOf (b % 4096)).on = false ∨ (s.ringOf (b % 4096)).isCq = true) →
    Runs (.dpost e rd a b) s fun t => t = s.setEngine e ((s.engine e).put rd ST_ENGINE_RING_OFF)) ∧
  (∀ (s : State) (e : Fin 48) (rd : Fin 32) (a b : Nat), s.engRuns e = true → s.postFaults a = false →
    (s.ringOf (b % 4096)).on = true → (s.ringOf (b % 4096)).isCq = false → (s.ringOf (b % 4096)).full = true →
    Runs (.dpost e rd a b) s fun t => t = s.setEngine e ((s.engine e).put rd ST_ENGINE_RING_FULL)) ∧
  (∀ (s : State) (e : Fin 48) (rd : Fin 32) (a b : Nat), s.engRuns e = true → s.postFaults a = true →
    Runs (.dpost e rd a b) s fun t => t = s.setEngine e { s.engine e with exc := 6 }) ∧
  (∀ (s : State) (e : Fin 48) (rd : Fin 32) (a b : Nat), s.engRuns e = true → s.postFaults a = false →
    (s.ringOf (b % 4096)).on = true → (s.ringOf (b % 4096)).isCq = false → (s.ringOf (b % 4096)).full = false →
    Runs (.dpost e rd a b) s fun t => t.ringOf (b % 4096) =
      { s.ringOf (b % 4096) with tail := ((s.ringOf (b % 4096)).tail + 1) % (s.ringOf (b % 4096)).size }) ∧
  (∀ (s : State) (e : Fin 48) (rd : Fin 32) (a b : Nat), s.eng.length = 48 → s.engRuns e = true →
    (s.ringOf (a % 4096)).head ≠ (s.ringOf (a % 4096)).tail →
    Runs (.rwait e rd a b) s fun t => (t.engine e).wait = .no ∧ (t.engine e).x = ((s.engine e).put rd 1).x) ∧
  (∀ (s : State) (e : Fin 48) (rd : Fin 32) (a : Nat), s.eng.length = 48 → s.engRuns e = true → (s.engine e).timerIrq = false →
    (s.ringOf (a % 4096)).head = (s.ringOf (a % 4096)).tail →
    Runs (.rwait e rd a 0) s fun t => (t.engine e).wait = .ring rd (a % 4096) 0 ∧ (t.engine e).x = (s.engine e).x) ∧
  (∀ (s : State) (e : Fin 48) (rd : Fin 32) (n : Nat), s.eng.length = 48 → s.engRuns e = true → n ≤ s.epn →
    Runs (.ewait e rd n) s fun t => (t.engine e).wait = .no ∧ (t.engine e).x = ((s.engine e).put rd s.epn).x) ∧
  (∀ (s : State) (e : Fin 48) (rd : Fin 32) (c : Fin 22), s.engRuns e = true →
    Runs (.phtime e rd c) s fun t => t = s.setEngine e ((s.engine e).put rd (s.phaseTimer + c))) ∧
  (∀ (s : State) (e : Fin 48) (a : Nat), s.engRuns e = true →
    Runs (.phtarm e a) s fun t => t = s.setEngine e { s.engine e with timerArm := a, timerIrq := false }) ∧
  (∀ (s : State) (e : Fin 48), s.eng.length = 48 → s.fw = true → s.time.tSet = true → (s.engine e).timerArm ≠ 0 →
    (s.engine e).timerArm < s.epochLen * 22 →
    Runs (.phaseTimerInterrupt e) s fun t => (t.engine e).timerIrq = true ∧ (t.engine e).timerArm = 0 ∧ s.time.t ≤ t.time.t) ∧
  (∀ (s : State) (e : Fin 48) (w : BitVec 32), s.engRuns e = true → yildomSpace w = true → yildomDefined w = false →
    Runs (.yildomIllegalInstruction e w) s fun t => t = s.setEngine e { s.engine e with exc := 3 }) ∧
  (∀ (s : State) (e : Fin 48) (c : Fin 64), s.fw = true → (s.engine e).started = true →
    Runs (.engineTrap e c) s fun t => t.eng = (s.setEngine e { s.engine e with exc := c + 1, parked := true, wait := .no }).eng ∧
      t.raised AL_ENGINE_TRAP (engSrc e)) ∧
  (∀ (e : Fin 48) (v : EngSt) (cyc : Fin 22) (rd rs1 rs2 : Fin 32),
    yildomOf e v cyc (BitVec.ofNat 32 (0x0B + 128 * rd.val + 0 + 32768 * rs1.val + 1048576 * rs2.val)) = some (.dpost e rd (v.get rs1) (v.get rs2)) ∧
    yildomOf e v cyc (BitVec.ofNat 32 (0x0B + 128 * rd.val + 4096 + 32768 * rs1.val + 1048576 * rs2.val)) = some (.rwait e rd (v.get rs1) (v.get rs2)) ∧
    yildomOf e v cyc (BitVec.ofNat 32 (0x2B + 128 * rd.val + 0 + 32768 * rs1.val + 1048576 * rs2.val)) = some (.ewait e rd (v.get rs1)) ∧
    yildomOf e v cyc (BitVec.ofNat 32 (0x2B + 128 * rd.val + 4096 + 32768 * rs1.val + 1048576 * rs2.val)) = some (.phtime e rd cyc) ∧
    yildomOf e v cyc (BitVec.ofNat 32 (0x2B + 128 * rd.val + 8192 + 32768 * rs1.val + 1048576 * rs2.val)) = some (.phtarm e (v.get rs1)))

/-- R9, R121, R128 to R133, R608, R630: rings, and stores to block CSR space. -/
def Obligations.RingsAndRegistersFollowTheirControls : Prop :=
  (∀ (s : State) (n : Fin 4096) (c : Fin 128), s.fw = true → s.ring.held = [] → (s.ringOf n).clearing = false →
    bit (s.ringOf n).ctrl 0 = false → s.ringFit ((s.ringOf n).ofBytes (overlay (s.ringOf n).bytes 7 (le 1 (2 * c + 1)))) = true →
    Runs (.ringEnable n c) s fun t => (t.ringOf n).on = true ∧ (t.ringOf n).wild = false ∧ (t.ringOf n).head = (s.ringOf n).head) ∧
  (∀ (s : State) (n : Fin 4096) (c : Fin 128), s.fw = true → (s.ringOf n).clearing = false → bit (s.ringOf n).ctrl 0 = false →
    s.ringFit ((s.ringOf n).ofBytes (overlay (s.ringOf n).bytes 7 (le 1 (2 * c + 1)))) = false →
    Runs (.ringEnable n c) s fun t => bit (t.ringOf n).ctrl 0 = false) ∧
  (∀ (s : State) (n : Fin 4096), s.fw = true → (s.ringOf n).clearing = false → bit (s.ringOf n).ctrl 0 = true →
    (s.ringOf n).base < 2 ^ 48 → (s.ringOf n).log2 < 256 → (s.ringOf n).ctrl < 256 → (s.ringOf n).target < 65536 →
    (s.ringOf n).cq < 65536 → (s.ringOf n).tail < 65536 →
    Runs (.ringDisable n) s fun t => t.ringOf n = { s.ringOf n with ctrl := (s.ringOf n).ctrl - 1, clearing := true }) ∧
  (∀ (s : State) (n : Fin 4096) (v : BitVec 16), s.fw = true → (s.ringOf n).isCq = true → (s.ringOf n).on = true → s.ring.held = [] →
    Runs (.completionRingHeadAdvance n v) s fun t => (t.ringOf n).head = v.toNat % (s.ringOf n).size ∧ (t.ringOf n).tail = (s.ringOf n).tail) ∧
  (∀ (s : State) (b i : Fin 256), s.fw = true → s.fetchRoom b i = true →
    nextRing (SMap.get s.ring.rotate (b * 256 + i)) (s.fetchRings b i) = none →
    Runs (.descriptorFetch b i) s fun t => t = s) ∧
  (∀ (s : State) (b i : Fin 256) (n : Nat), s.fw = true → s.fetchRoom b i = true → s.queueTurn b i = true →
    nextRing (SMap.get s.ring.rotate (b * 256 + i)) (s.fetchRings b i) = some n →
    Runs (.descriptorFetch b i) s fun t => t.ring.nextJob = s.ring.nextJob + 1 ∧
      (t.ringOf n).head = ((s.ringOf n).head + 1) % (s.ringOf n).size) ∧
  (∀ (s : State) (n : Nat) (j : Job) (st c p : Nat), s.fw = true → s.job n = some j → j.st = .done st c p →
    Runs (.descriptorCompletion (.job n)) s fun t => t.job n = none) ∧
  (∀ (s : State) (e : Fin 48) (pc a : Nat) (v : Bytes), s.engRuns e = true → areaOf a = .csr → 1 ≤ v.length → v.length ≤ 8 →
    a % v.length = 0 → (csrAt a).1 = 0x09 → (csrAt a).2.1 < 32 → inFlashRom pc = false →
    Runs (.csrWrite e pc a v) s fun t => t = s.eventArg EV_ENGINE_SEQ_WRITE_BLOCKED (engSrc e) (le 1 e ++ le 8 pc)) ∧
  (∀ (s : State) (e : Fin 48) (pc a : Nat) (v : Bytes), s.engRuns e = true → areaOf a = .csr → 1 ≤ v.length → v.length ≤ 8 →
    a % v.length = 0 → ¬ ((csrAt a).1 = 0x04 ∨ (csrAt a).1 = 0x09 ∨ (csrAt a).1 = 0x0F ∨ (csrAt a).1 = 0x10 ∨ (csrAt a).1 = 0x13) →
    Runs (.csrWrite e pc a v) s fun t => t = s) ∧
  (∀ (s : State) (e : Fin 48) (pc a d : Nat) (v : Bytes), s.engRuns e = true → areaOf a = .csr → 1 ≤ v.length → v.length ≤ 8 →
    a % v.length = 0 → csrAt a = (0x10, d + 1, 0) → d < 50 → pdSwitchable d = true →
    Runs (.csrWrite e pc a v) s fun t => t = s.setPd d { s.pdOf d with offReq := bit (leNat v) 0 })

/-- R137, R141 to R147: the metadata cache. That a slot is never busy between steps is the model's choice: an operation is one step (log 86). -/
def Obligations.MetadataCacheRunsItsOperations : Prop :=
  (∀ (s : State) (i : Fin 8), s.mcUp = true → (s.mc.slot i).busy = false →
    Runs (.mcInvAll i) s fun t => t.mc.lines = [] ∧ t.mc.victim = [] ∧ t.mem = s.mem ∧ t.mc.enable = s.mc.enable ∧ (s.mc.enable = false → t.mc.invDone = true) ∧
      ∀ k, SMap.getD t.mc.emptyLocked k 0 = s.mc.lockedWays k) ∧
  (∀ (s : State) (i : Fin 8) (addr len ln : Nat), s.mcUp = true → (s.mc.slot i).busy = false →
    Runs (.mcInvRange i addr len) s fun t => SMap.get t.mc.lines ln = (if inLines (rangeLines addr len).1 (rangeLines addr len).2 ln then none else SMap.get s.mc.lines ln) ∧ t.mem = s.mem ∧
      t.mc.slots = s.mc.slots.set i ⟨2, addr, len, 0, false⟩) ∧
  (∀ (s : State) (i : Fin 8) (addr len : Nat), s.mcUp = true → (s.mc.slot i).busy = false →
    Runs (.mcCleanRange i addr len) s fun t => t.mc.lines.map (·.1) = s.mc.lines.map (·.1) ∧
      (∀ e ∈ t.mc.lines, inLines (rangeLines addr len).1 (rangeLines addr len).2 e.1 = true → e.2.dirty = false) ∧
      (∀ a, inLines (rangeLines addr len).1 (rangeLines addr len).2 (a / 256) = false → Mem.read hbmDefault t.mem.hbm a = Mem.read hbmDefault s.mem.hbm a) ∧ t.mem.poison = s.mem.poison ∧
      t.mc.slots = s.mc.slots.set i ⟨3, addr, len, 0, false⟩) ∧
  (∀ (s : State) (i : Fin 8) (addr len ln : Nat) (l : McLine), s.mcUp = true → (s.mc.slot i).busy = false → Mem.wf hbmDefault s.mem.hbm = true →
      s.mc.lines.filter (fun e => e.1 == ln) = [(ln, l)] → s.mc.victim.all (fun v => v.1 != ln) = true → l.data.length = 256 → l.dirty = true →
      inLines (rangeLines addr len).1 (rangeLines addr len).2 ln = true →
    Runs (.mcCleanRange i addr len) s fun t => Mem.readBytes hbmDefault t.mem.hbm (ln * 256) 256 = l.data ∧ SMap.get t.mc.lines ln = some { l with dirty := false }) ∧
  (∀ (s : State) (i : Fin 8) (addr len ln : Nat) (l : McLine), s.mcUp = true → (s.mc.slot i).busy = false → Mem.wf hbmDefault s.mem.hbm = true →
      s.mc.lines.filter (fun e => e.1 == ln) = [(ln, l)] → s.mc.victim.all (fun v => v.1 != ln) = true → l.data.length = 256 → l.dirty = true →
      inLines (rangeLines addr len).1 (rangeLines addr len).2 ln = true →
    Runs (.mcCleanInvRange i addr len) s fun t => Mem.readBytes hbmDefault t.mem.hbm (ln * 256) 256 = l.data ∧ SMap.get t.mc.lines ln = none) ∧
  (∀ (s : State) (i : Fin 8) (addr len ln : Nat), s.mcUp = true → (s.mc.slot i).busy = false → inLines (rangeLines addr len).1 (rangeLines addr len).2 ln = true →
    Runs (.mcCleanInvRange i addr len) s fun t => SMap.get t.mc.lines ln = none ∧
      (∀ a, inLines (rangeLines addr len).1 (rangeLines addr len).2 (a / 256) = false → Mem.read hbmDefault t.mem.hbm a = Mem.read hbmDefault s.mem.hbm a) ∧
      t.mc.slots = s.mc.slots.set i ⟨4, addr, len, 0, false⟩) ∧
  (∀ (s : State) (i : Fin 8) (addr : Nat) (l : McLine), s.mcUp = true → (s.mc.slot i).busy = false → SMap.get s.mc.lines (addr / 256) = some l → l.locked = false → SMap.getD s.mc.emptyLocked (mcSet (addr / 256)) 0 = 0 → s.mc.lockedWays (mcSet (addr / 256)) < 4 →
    Runs (.mcLockFill i addr 1) s fun t => SMap.get t.mc.lines (addr / 256) = some { l with locked := true } ∧ t.mem = s.mem ∧
      t.mc.slots = s.mc.slots.set i ⟨5, addr, 1, 0, false⟩) ∧
  (∀ (s : State) (i : Fin 8) (addr : Nat) (l : McLine), s.mcUp = true → (s.mc.slot i).busy = false → SMap.get s.mc.lines (addr / 256) = some l → l.locked = false → SMap.getD s.mc.emptyLocked (mcSet (addr / 256)) 0 = 0 → 4 ≤ s.mc.lockedWays (mcSet (addr / 256)) →
    Runs (.mcLockFill i addr 1) s fun t => t.mc.lines = s.mc.lines ∧ t.mem = s.mem ∧
      t.mc.slots = s.mc.slots.set i ⟨5, addr / 256 * 256, 1, ST_MC_LOCK_LIMIT, false⟩) ∧
  (∀ (s : State) (i : Fin 8) (addr : Nat), s.mcUp = true → (s.mc.slot i).busy = false → SMap.get s.mc.lines (addr / 256) = none → SMap.getD s.mc.emptyLocked (mcSet (addr / 256)) 0 = 0 → s.mc.lockedWays (mcSet (addr / 256)) < 4 →
    Runs (.mcLockFill i addr 1) s fun t => t.mc.slots = s.mc.slots.set i ⟨5, addr, 1, 0, false⟩ ∧
      ∃ l, SMap.get t.mc.lines (addr / 256) = some l ∧ l.locked = true ∧
        l.data = match s.mc.victim.find? (fun v => v.1 == addr / 256) with | some v => v.2.1 | none => Mem.readBytes hbmDefault s.mem.hbm (addr / 256 * 256) 256) ∧
  (∀ (s : State) (i : Fin 8) (addr len : Nat), s.mcUp = true → (s.mc.slot i).busy = false →
    Runs (.mcUnlockRange i addr len) s fun t => t.mc.lines.map (·.1) = s.mc.lines.map (·.1) ∧
      (∀ e ∈ t.mc.lines, inLines (rangeLines addr len).1 (rangeLines addr len).2 e.1 = true → e.2.locked = false) ∧ t.mem = s.mem ∧ t.mc.slots = s.mc.slots.set i ⟨6, addr, len, 0, false⟩ ∧
      ∀ ln, inLines (rangeLines addr len).1 (rangeLines addr len).2 ln = true → SMap.getD t.mc.emptyLocked (mcSet ln) 0 = 0) ∧
  (∀ (s : State) (i : Fin 8), s.mcUp = true → (s.mc.slot i).busy = false →
    Runs (.mcCleanAll i) s fun t => t.mc.lines.map (·.1) = s.mc.lines.map (·.1) ∧ (∀ e ∈ t.mc.lines, e.2.dirty = false) ∧
      (∀ v ∈ t.mc.victim, v.2.2 = false) ∧ t.mem.poison = s.mem.poison) ∧
  (∀ (s : State) (i : Fin 8), s.mcUp = true → (s.mc.slot i).busy = true →
    Runs (.mcInvAll i) s fun t => t = { s with mc := s.mc.setSlot i { s.mc.slot i with status := ST_MC_BUSY } }) ∧
  (∀ (s : State), s.mcUp = true → s.mc.enable = false → s.mc.invDone = true →
    Runs .mcEnable s fun t => t = { s with mc := { s.mc with enable := true, invDone := false } }) ∧
  (∀ (s : State), s.mcUp = true → s.mc.enable = false → s.mc.invDone = false →
    Runs .mcEnable s fun t => t = { s with mc := { s.mc with lastSt := ST_MC_NOT_INVALIDATED } }) ∧
  (∀ (s : State), s.mcUp = true → s.mc.enable = true →
    Runs .mcEnable s fun t => t = s) ∧
  (∀ (s : State), s.mcUp = true → s.mc.enable = true →
    Runs .mcDisable s fun t => t.mc.enable = false ∧ t.mc.invDone = false ∧ t.mc.lines = [] ∧ t.mc.victim = [] ∧ t.mc.slots = s.mc.slots)

/-- R134, R135. -/
def Obligations.HbmFaultsAreMarkedAndReported : Prop :=
  (∀ (s : State) (cor : List Nat) (w : Nat), s.mcUp = true →
    Runs (.hbmPatrolScrub cor [w]) s fun t => t.mem = { s.mem with poison := insNat s.mem.poison w } ∧ t.raised AL_MC_HBM_UNCORR (stackSrc (w * 32))) ∧
  (∀ (s : State) (k : Fin 4), s.mcUp = true →
    Runs (.hbmStackFatal k) s fun t => t.raised AL_MC_HBM_STACK_FAIL (srcOf 8 k) ∧ t.boot.stage ≠ .ready ∧ t.mem.stackUp = s.mem.stackUp.set k false ∧
      t.mem.hbm = s.mem.hbm)

/-- R36, R37, R52, R54. That a boundary comes as a command, and takes T there, is the model's choice (log 17). -/
def Obligations.TheEpochTurnsAtItsBoundary : Prop :=
  (∀ (s : State) (late : List (Fin 8)) (dw : Nat) (cons mw : List Nat) (e : Option (Fin 16)), s.fw = true → s.time.tSet = true → s.seam.standing = false →
    Runs (.epochBoundary late dw cons mw e) s fun t => t.time.t = s.epochStart (s.epn + 1) ∧
      t.time.deferred = (late.map (·.val)).filter (fun w => s.deferrable w && !s.time.ran.contains w) ∧ t.time.ran = [] ∧ t.params = s.params ∧ t.pins = s.pins ∧ t.otp = s.otp ∧ t.nor = s.nor) ∧
  (∀ (s : State) (late : List (Fin 8)) (dw : Nat) (cons mw : List Nat) (e : Option (Fin 16)), s.fw = true → s.time.tSet = true → s.seam.standing = false → 0 < s.epochLen →
    Runs (.epochBoundary late dw cons mw e) s fun t => t.epn = s.epn + 1 ∧ t.phase = 0) ∧
  (∀ (s : State) (late : List (Fin 8)) (dw : Nat) (cons mw : List Nat) (e : Option (Fin 16)), s.live = true → s.fw = false → s.time.tSet = true →
    Runs (.epochBoundary late dw cons mw e) s fun t => t.time.t = s.epochStart (s.epn + 1) ∧ t.time.ran = [])

/-- R36, R52, R53: the windows of an epoch. Where a window lies in the epoch as T moves between commands: log 17. -/
def Obligations.WindowsOpenInTheirEighths : Prop :=
  (∀ (s : State), s.seamOn = true → s.stageFrom .join = true → s.windowOpen 0 1 = true → s.power.pfAsserted = false →
    Runs .heartbeatWindow s fun t => t.time.t = max s.time.t (s.epochStart s.epn + s.epochLen * 0 / 8) ∧ t.hem = s.hem ∧ t.nvme = s.nvme) ∧
  (∀ (s : State), s.headUp = true → s.windowOpen 1 2 = true →
    Runs .leaseRenewalWindow s fun t => t.time.t = max s.time.t (s.epochStart s.epn + s.epochLen * 1 / 8) ∧ t.hem = s.hem ∧ t.nvme = s.nvme) ∧
  (∀ (s : State), s.headUp = true → s.windowOpen 2 4 = true →
    Runs .checkpointWindow s fun t => t.time.t = max s.time.t (s.epochStart s.epn + s.epochLen * 2 / 8) ∧ ((s.repl.moved = true ∧ s.isManager = true) → t.repl = { s.repl with moved := false }) ∧ t.nvme = s.nvme ∧ t.out = s.out) ∧
  (∀ (s : State) (i : Fin 2) (reads : List StripRead), s.headUp = true → (s.stream i).mine = true → 0 < s.p p_rinse_max_gbps → s.notPast 6 = true → s.time.ran.contains (4 + 8 * i.val) = false → (s.rinseWork i).find? (fun e => decide ((s.rinse i).cursor < e.1)) = none →
    Runs (.rinseSlice i reads) s fun t => t.time.t = max s.time.t (s.epochStart s.epn + s.epochLen * 4 / 8) ∧ (t.rinse i).cursor = 0 ∧ (t.rinse i).done = 0 ∧ t.out = s.out) ∧
  (∀ (s : State) (i : Fin 2) (reads : List StripRead) (id : Nat) (r : StripeRec), s.headUp = true → (s.stream i).mine = true → 0 < s.p p_rinse_max_gbps → s.notPast 6 = true → s.time.ran.contains (4 + 8 * i.val) = false → (s.rinseWork i).find? (fun e => decide ((s.rinse i).cursor < e.1)) = some (id, r) →
    Runs (.rinseSlice i reads) s fun t => t.time.t = max s.time.t (s.epochStart s.epn + s.epochLen * 4 / 8) ∧ (t.rinse i).cursor = id ∧ (t.rinse i).done = (s.rinse i).done + 1) ∧
  (∀ (s : State), s.shelfOn = true → 1 ≤ s.sh.state → s.sh.paused = false → s.power.pfAsserted = false → s.windowOpen 2 6 = true → s.sh.victim = none → s.clearingVictim = none →
    Runs .clearingSlice s fun t => t.time.t = max s.time.t (s.epochStart s.epn + s.epochLen * 2 / 8) ∧ t.sh = s.sh) ∧
  (∀ (s : State) (b : Nat), s.shelfOn = true → 1 ≤ s.sh.state → s.sh.paused = false → s.power.pfAsserted = false → s.windowOpen 2 6 = true → s.sh.victim = some b →
    Runs .clearingSlice s fun t => t.time.t = max s.time.t (s.epochStart s.epn + s.epochLen * 2 / 8) ∧ t.sh.victim = some b ∧ t.sh.map = s.sh.map ∧ s.sh.copying <+: t.sh.copying ∧
      ∀ x ∈ t.sh.copying, x ∈ s.sh.copying ∨ x ∈ s.validIn b) ∧
  (∀ (s : State), s.shelfOn = true → 1 ≤ s.sh.state → s.windowOpen 6 7 = true → (s.epn % 256 = 4 * s.site % 256 ∨ 6 ∈ s.time.deferred ∨ 262144 ≤ s.sh.changes + s.keep.records.length) →
    Runs .ftlJournalFlush s fun t => t.time.t = max s.time.t (s.epochStart s.epn + s.epochLen * 6 / 8) ∧ t.keep.flushNo = s.keep.flushNo + 1 ∧ t.keep.records = [.flush (s.keep.flushNo + 1)] ∧ t.sh.changes = 0 ∧
      t.keep.map = s.sh.map ∧ t.sh.map = s.sh.map ∧ t.keep.blocks = t.sh.blocks ∧ t.flash = s.flash) ∧
  (∀ (s : State) (logic hbm sds : List Int), s.fw = true → s.windowOpen 7 8 = true → s.isHead = true → ((s.inWindow 7).temps logic hbm sds).thermalAct.tripAt = false →
    Runs (.healthSampling logic hbm sds none) s fun t => t.time.t = max s.time.t (s.epochStart s.epn + s.epochLen * 7 / 8) ∧ t.power.hbmC = (List.range 4).map (fun k => hbm.getD k 0) ∧ t.power.sdsC = (List.range 2).map (fun k => sds.getD k 0) ∧
      t.power.tripped = s.power.tripped) ∧
  (∀ (s : State) (logic hbm sds : List Int) (nand : Option Int), s.fw = true → s.windowOpen 7 8 = true → ((s.inWindow 7).temps logic hbm sds).thermalAct.tripAt = true →
    Runs (.healthSampling logic hbm sds nand) s fun t => t.power.tripped = true ∧ t.pins.thermtripN = false) ∧
  (∀ (s : State) (logic hbm sds : List Int) (c : Int), s.fw = true → s.windowOpen 7 8 = true → s.isShelf = true → ((s.inWindow 7).temps logic hbm sds).thermalAct.tripAt = false →
    Runs (.healthSampling logic hbm sds (some c)) s fun t => t.time.t = max s.time.t (s.epochStart s.epn + s.epochLen * 7 / 8) ∧ t.sh.health.tempNow = c ∧ t.sh.health.tempMax = max s.sh.health.tempMax c ∧ t.sh.health.tempMin = min s.sh.health.tempMin c) ∧
  (∀ (s : State), s.windowOpen 0 1 = false →
    Runs .heartbeatWindow s fun t => t = s) ∧
  (∀ (s : State), s.windowOpen 1 2 = false →
    Runs .leaseRenewalWindow s fun t => t = s) ∧
  (∀ (s : State), s.windowOpen 2 4 = false →
    Runs .checkpointWindow s fun t => t = s) ∧
  (∀ (s : State) (i : Fin 2) (reads : List StripRead), s.notPast 6 = false →
    Runs (.rinseSlice i reads) s fun t => t = s) ∧
  (∀ (s : State) (i : Fin 2) (reads : List StripRead), s.time.ran.contains (4 + 8 * i.val) = true →
    Runs (.rinseSlice i reads) s fun t => t = s) ∧
  (∀ (s : State), s.windowOpen 2 6 = false →
    Runs .clearingSlice s fun t => t = s) ∧
  (∀ (s : State), s.windowOpen 6 7 = false →
    Runs .ftlJournalFlush s fun t => t = s) ∧
  (∀ (s : State) (logic hbm sds : List Int) (nand : Option Int), s.time.tSet = true → s.windowOpen 7 8 = false →
    Runs (.healthSampling logic hbm sds nand) s fun t => t = s)

/-- R175, R178 to R181, R207. -/
def Obligations.ControllerResetsEndOneControllerOrAll : Prop :=
  (∀ (s : State) (c : Nat), s.pins.perstN = true → c ∈ s.hpCtrls →
    Runs .perstNAssert s fun t => t.pins.perstN = false ∧ t.nvme.numVfs = 0 ∧ (t.ctrl c).en = false ∧ (t.ctrl c).sqs = [] ∧ (t.ctrl c).cqs = [] ∧ t.nvme.ns = s.nvme.ns) ∧
  (∀ (s : State), s.pins.perstN = false →
    Runs .perstNRelease s fun t => t = { s with pins := { s.pins with perstN := true } }) ∧
  (∀ (s : State) (c : Nat), s.live = true → s.pins.perstN = true → s.isHead = true → c ∈ s.hpCtrls →
    Runs .hotReset s fun t => t.nvme.numVfs = 0 ∧ (t.ctrl c).en = false ∧ (t.ctrl c).sqs = [] ∧ (t.ctrl c).cqs = [] ∧ t.nvme.ns = s.nvme.ns) ∧
  (∀ (s : State) (f : Fin 16) (c : Nat), s.live = true → s.pins.perstN = true → s.isHead = true → f.val ≤ s.nvme.numVfs → c ≠ s.ctrlBase + 1 + f.val →
    Runs (.functionLevelReset f) s fun t => (t.ctrl (s.ctrlBase + 1 + f.val)).en = false ∧ (t.ctrl (s.ctrlBase + 1 + f.val)).sqs = [] ∧ (t.ctrl (s.ctrlBase + 1 + f.val)).cqs = [] ∧
      t.ctrl c = s.ctrl c ∧ t.nvme.ns = s.nvme.ns) ∧
  (∀ (s : State) (n : Fin 16), s.fw = true → s.pins.perstN = true → s.isHead = true → n.val ≤ s.p p_pcie_total_vfs →
    Runs (.numvfsSet n) s fun t => t.nvme.numVfs = n.val ∧ t.nvme.ns = s.nvme.ns) ∧
  (∀ (s : State) (c a b : Nat), s.live = true → s.isHead = true → (s.ctrl c).en = false → (s.ctrlKind c).pcie = true → s.pins.perstN = true → 2 ≤ a → a ≤ 4096 → 2 ≤ b → b ≤ 4096 →
    Runs (.ccEnSet c a b) s fun t => (t.ctrl c).en = true ∧ SMap.get (t.ctrl c).sqs 0 = some { size := a, cqid := 0 } ∧ SMap.get (t.ctrl c).cqs 0 = some { size := b } ∧
      ∀ x, x ≠ c → t.ctrl x = s.ctrl x) ∧
  (∀ (s : State) (c x : Nat), s.live = true → s.isHead = true → (s.ctrl c).en = true → s.ctrlKind c ≠ .none → x ≠ c →
    Runs (.ccEnClear c) s fun t => (t.ctrl c).en = false ∧ (t.ctrl c).sqs = [] ∧ (t.ctrl c).cqs = [] ∧ (t.ctrl c).hostNqn = (s.ctrl c).hostNqn ∧ t.ctrl x = s.ctrl x) ∧
  (∀ (s : State) (c : Nat), s.fw = true → (s.ctrlKind c).fabric = true → (s.ctrl c).hostNqn ≠ none → (s.ctrl c).kato ≠ 0 → (s.ctrl c).kaAt + (s.ctrl c).kato * 100000 ≤ s.time.t →
    Runs (.keepAliveExpiry c) s fun t => (t.ctrl c).en = false ∧ (t.ctrl c).hostNqn = none ∧ (t.ctrl c).kato = 0 ∧ (t.ctrl c).sqs = []) ∧
  (∀ (s : State) (g w : Nat), s.fw = true → s.isHead = true → s.nvme.hpOn = true → s.pins.perstN = true → 3 ≤ g → (w = 4 ∨ w = 8 ∨ w = 16) →
    Runs (.hpLinkUp g w) s fun t => t.nvme.hpUp = true ∧ t.nvme.hpGen = min g (s.p p_pcie_max_gen) ∧ t.nvme.hpWidth = min w (s.p p_pcie_max_width) ∧
      (t.raised AL_NVME_LINK_DEGRADED 0 ↔ g < s.p p_pcie_max_gen ∨ w < s.p p_pcie_max_width)) ∧
  (∀ (s : State), s.fw = true → s.isHead = true → s.nvme.hpUp = true →
    Runs .hpLinkDown s fun t => t.nvme.hpUp = false ∧ t.raised AL_NVME_LINK_DEGRADED 0)

/-- R178, R181 to R184, R205. Statuses that R205 does not list are NVMe 2.0's (log 45). -/
def Obligations.QueuesAreMadeRungAndDeleted : Prop :=
  (∀ (s : State) (c i v : Nat) (q : Sq), s.live = true → (s.ctrl c).en = true → (s.ctrlKind c).pcie = true → SMap.get (s.ctrl c).sqs i = some q → q.gone = false → v < q.size →
    Runs (.sqTailDoorbell c i v) s fun t => SMap.get (t.ctrl c).sqs i = some { q with tail := v } ∧ (t.ctrl c).cqs = (s.ctrl c).cqs) ∧
  (∀ (s : State) (c i v : Nat) (q : Cq), s.live = true → (s.ctrl c).en = true → s.ctrlKind c ≠ .none → SMap.get (s.ctrl c).cqs i = some q → q.held = [] → v < q.size →
    Runs (.cqHeadDoorbell c i v) s fun t => SMap.get (t.ctrl c).cqs i = some { q with head := v } ∧ (t.ctrl c).sqs = (s.ctrl c).sqs ∧ t.out = s.out) ∧
  (∀ (s : State) (c i v : Nat) (q : Cq) (x : NvCpl) (l : List NvCpl), s.live = true → (s.ctrl c).en = true → s.ctrlKind c ≠ .none → s.power.pfAsserted = false → SMap.get (s.ctrl c).cqs i = some q → q.held = x :: l → v < q.size → ({ q with head := v } : Cq).room = true → s.silencedFor i x.st = false →
    Runs (.cqHeadDoorbell c i v) s fun t => (s.out ++ [.nvme x]) <+: t.out) ∧
  (∀ (s : State) (cmd : CmdId) (n : Nat) (h : Bytes) (id k : Nat), s.fw = true → s.isHead = true → s.stageFrom .join = true → s.power.pfAsserted = false → (s.ctrlKind cmd.cntlid).fabric = true → 2 ≤ n → n ≤ 4096 → cmd.sqid = 0 → (s.ctrl cmd.cntlid).hostNqn = none → SMap.has (s.ctrl cmd.cntlid).sqs 0 = false →
    Runs (.fabricsConnect cmd n h id k) s fun t => (t.ctrl cmd.cntlid).hostNqn = some h ∧ (t.ctrl cmd.cntlid).hostId = id ∧ SMap.get (t.ctrl cmd.cntlid).sqs 0 = some { size := n, cqid := 0 } ∧
      s.answered t cmd nvOk cmd.cntlid []) ∧
  (∀ (s : State) (cmd : CmdId), s.adminReady cmd = true →
    Runs (.keepAlive cmd) s fun t => (t.ctrl cmd.cntlid).kaAt = s.time.t ∧ s.answered t cmd nvOk 0 []) ∧
  (∀ (s : State) (cmd : CmdId) (a b : Nat), s.adminReady cmd = true → (s.ctrl cmd.cntlid).sqs.all (fun e => e.1 == 0 || e.2.gone) = true → (s.ctrl cmd.cntlid).cqs.all (fun e => e.1 == 0) = true → a < 65535 → b < 65535 → 0 < s.queueCap cmd.cntlid →
    Runs (.setFeaturesNumberOfQueues cmd a b) s fun t => (t.ctrl cmd.cntlid).allocated = min (max a b + 1) (s.queueCap cmd.cntlid) ∧
      s.answered t cmd nvOk ((min (max a b + 1) (s.queueCap cmd.cntlid) - 1) * 65536 + (min (max a b + 1) (s.queueCap cmd.cntlid) - 1)) []) ∧
  (∀ (s : State) (cmd : CmdId) (q n v : Nat), s.adminReady cmd = true → q ≠ 0 → q ≤ (s.ctrl cmd.cntlid).allocated → SMap.has (s.ctrl cmd.cntlid).cqs q = false → 2 ≤ n → n ≤ 4096 → v < 1025 →
    Runs (.createIoCq cmd q n v) s fun t => SMap.get (t.ctrl cmd.cntlid).cqs q = some { size := n } ∧ s.answered t cmd nvOk 0 []) ∧
  (∀ (s : State) (cmd : CmdId) (q n v : Nat), s.adminReady cmd = true → ((q = 0 ∨ (s.ctrl cmd.cntlid).allocated < q ∨ SMap.has (s.ctrl cmd.cntlid).cqs q = true)) →
    Runs (.createIoCq cmd q n v) s fun t => s.answered t cmd nvQid 0 []) ∧
  (∀ (s : State) (cmd : CmdId) (q n c : Nat), s.adminReady cmd = true → q ≠ 0 → q ≤ (s.ctrl cmd.cntlid).allocated → SMap.has (s.ctrl cmd.cntlid).sqs q = false → 2 ≤ n → n ≤ 4096 → c ≠ 0 → SMap.has (s.ctrl cmd.cntlid).cqs c = true →
    Runs (.createIoSq cmd q n c) s fun t => SMap.get (t.ctrl cmd.cntlid).sqs q = some { size := n, cqid := c } ∧ s.answered t cmd nvOk 0 []) ∧
  (∀ (s : State) (cmd : CmdId) (q n c : Nat), s.adminReady cmd = true → q ≠ 0 → q ≤ (s.ctrl cmd.cntlid).allocated → SMap.has (s.ctrl cmd.cntlid).sqs q = false → (n < 2 ∨ 4096 < n) →
    Runs (.createIoSq cmd q n c) s fun t => s.answered t cmd nvQsize 0 []) ∧
  (∀ (s : State) (cmd : CmdId) (i : Nat) (q : Sq), s.adminReady cmd = true → i ≠ 0 → SMap.get (s.ctrl cmd.cntlid).sqs i = some q → q.gone = false → q.deleting = none →
    Runs (.deleteIoSq cmd i) s fun t => SMap.get (t.ctrl cmd.cntlid).sqs i = some { q with deleting := some cmd.cid } ∧ t.out = s.out) ∧
  (∀ (s : State) (cmd : CmdId) (i : Nat), s.adminReady cmd = true → i ≠ 0 → SMap.has (s.ctrl cmd.cntlid).cqs i = true → (s.ctrl cmd.cntlid).sqs.all (fun e => e.2.gone || e.2.cqid != i) = true →
    Runs (.deleteIoCq cmd i) s fun t => SMap.get (t.ctrl cmd.cntlid).cqs i = none ∧ s.answered t cmd nvOk 0 []) ∧
  (∀ (s : State) (cmd : CmdId) (i : Nat), s.adminReady cmd = true → i ≠ 0 → SMap.has (s.ctrl cmd.cntlid).cqs i = true → (s.ctrl cmd.cntlid).sqs.any (fun e => !e.2.gone && e.2.cqid == i) = true →
    Runs (.deleteIoCq cmd i) s fun t => s.answered t cmd nvQdel 0 []) ∧
  (∀ (s : State) (cmd : CmdId) (i x : Nat), s.adminReady cmd = true → (⟨cmd.cntlid, i, x⟩ : CmdId) ∉ s.unadmitted cmd.cntlid i →
    Runs (.nvmeAbort cmd i x) s fun t => s.answered t cmd nvOk 1 [] ∧ t.head = s.head) ∧
  (∀ (s : State) (cmd : CmdId) (i x : Nat), s.adminReady cmd = true → (⟨cmd.cntlid, i, x⟩ : CmdId) ∈ s.unadmitted cmd.cntlid i →
    Runs (.nvmeAbort cmd i x) s fun t => (⟨cmd.cntlid, i, x⟩ : CmdId) ∉ t.unadmitted cmd.cntlid i ∧ t.head.md = s.head.md)

/-- R176, R189, R190, R205, R330. The identifier of a new namespace is the lowest free one (log 50), and which stream holds the manager's records is
the model's choice (log 76). -/
def Obligations.ManagerCommandsAreRecordedInTheBundle : Prop :=
  (∀ (s : State) (cmd : CmdId) (z l d : Nat), s.adminReady cmd = true → (s.ctrlKind cmd.cntlid = .pf ∨ s.ctrlKind cmd.cntlid = .rdma) → s.isManager = true → s.adminStatus (.create z l d) = none →
    Runs (.namespaceManagement cmd true 0 z l d) s fun t => (t.stream s.mgrStream).sealQueue = (s.stream s.mgrStream).sealQueue ++ [.manager (.nsCreate ⟨s.newNsid, z, l, s.createDomain d⟩)] ∧
      t.nvme.adminWait = s.nvme.adminWait ++ [⟨cmd, .create z l d, some s.epn, s.newNsid, false⟩] ∧ t.out = s.out) ∧
  (∀ (s : State) (cmd : CmdId) (n : Nat), s.adminReady cmd = true → (s.ctrlKind cmd.cntlid = .pf ∨ s.ctrlKind cmd.cntlid = .rdma) → s.isManager = true → n ≠ 0xFFFFFFFF → s.adminStatus (.delete n) = none →
    Runs (.namespaceManagement cmd false n 0 0 0) s fun t => (t.stream s.mgrStream).sealQueue = (s.stream s.mgrStream).sealQueue ++ [.manager (.nsDelete n)] ∧ t.nvme.adminWait = s.nvme.adminWait ++ [⟨cmd, .delete n, some s.epn, 0, false⟩]) ∧
  (∀ (s : State) (cmd : CmdId) (n z l d : Nat) (b : Bool) (st : NvmeSt), s.adminReady cmd = true → (s.ctrlKind cmd.cntlid = .pf ∨ s.ctrlKind cmd.cntlid = .rdma) → s.isManager = true → s.adminStatus (if b then .create z l d else .delete n) = some st →
    Runs (.namespaceManagement cmd b n z l d) s fun t => s.answered t cmd st 0 [] ∧ t.head = s.head ∧ t.nvme.adminWait = s.nvme.adminWait) ∧
  (∀ (s : State) (cmd : CmdId) (n z l d : Nat) (b : Bool), s.adminReady cmd = true → s.ctrlKind cmd.cntlid = .vf →
    Runs (.namespaceManagement cmd b n z l d) s fun t => s.answered t cmd nvOpcode 0 [] ∧ t.head = s.head) ∧
  (∀ (s : State) (cmd : CmdId) (n : Nat) (ids : List Nat), s.adminReady cmd = true → s.ctrlKind cmd.cntlid ≠ .discovery → s.isManager = true → s.adminStatus (.attach n ids) = none →
    Runs (.namespaceAttachment cmd true n ids) s fun t => (t.stream s.mgrStream).sealQueue = (s.stream s.mgrStream).sealQueue ++ [.manager (.nsAttach n ids true)] ∧ t.nvme.adminWait = s.nvme.adminWait ++ [⟨cmd, .attach n ids, some s.epn, 0, false⟩]) ∧
  (∀ (s : State) (cmd : CmdId) (n : Nat) (ids : List Nat), s.adminReady cmd = true → s.ctrlKind cmd.cntlid ≠ .discovery → s.isManager = true → s.adminStatus (.detach n ids) = none →
    Runs (.namespaceAttachment cmd false n ids) s fun t => (t.stream s.mgrStream).sealQueue = (s.stream s.mgrStream).sealQueue ++ [.manager (.nsAttach n ids false)] ∧ t.nvme.adminWait = s.nvme.adminWait ++ [⟨cmd, .detach n ids, some s.epn, 0, false⟩]) ∧
  (∀ (s : State) (cmd : CmdId) (n l e : Nat) (x : Ns), s.adminReady cmd = true → s.ctrlKind cmd.cntlid ≠ .discovery → s.isManager = true → e < 2 → s.ns n = some x → s.adminStatus (.format n l e) = none →
    Runs (.formatNvm cmd n l e) s fun t => (t.stream s.mgrStream).sealQueue = (s.stream s.mgrStream).sealQueue ++ [.manager (.nsFormat ⟨n, x.nsze * lbaBytes x.lbaf / lbaBytes l, l, x.domain⟩)] ∧
      t.nvme.adminWait = s.nvme.adminWait ++ [⟨cmd, .format n l e, some s.epn, 0, false⟩] ∧ (t.ns n).map (·.formatting) = some true) ∧
  (∀ (s : State) (cmd : CmdId) (a : Nat), s.adminReady cmd = true → (s.ctrlKind cmd.cntlid = .pf ∨ s.ctrlKind cmd.cntlid = .rdma) → a ≠ 4 →
    Runs (.sanitize cmd a) s fun t => s.answered t cmd nvField 0 [] ∧ t.head = s.head) ∧
  (∀ (s : State) (cmd : CmdId), s.adminReady cmd = true → (s.ctrlKind cmd.cntlid = .pf ∨ s.ctrlKind cmd.cntlid = .rdma) → s.isManager = true → s.adminStatus .sanitizeCrypto = none → s.psAdmits = true → s.cipher.drbgOk = true →
    Runs (.sanitize cmd 4) s fun t => (t.stream s.mgrStream).sealQueue.getLast? = some (.manager .sanitize) ∧ t.nvme.adminWait = s.nvme.adminWait ++ [⟨cmd, .sanitizeCrypto, some s.epn, 0, false⟩]) ∧
  (∀ (s : State) (cmd : CmdId) (n : Nat) (ids : List Nat), s.adminReady cmd = true → s.ctrlKind cmd.cntlid ≠ .discovery → s.isManager = false → s.seam.linkUp = true →
    Runs (.namespaceAttachment cmd true n ids) s fun t => t.nvme.fwd = s.nvme.fwd ++ [cmd] ∧ t.nvme.adminWait = s.nvme.adminWait ∧ t.head = s.head) ∧
  (∀ (s : State) (cmd : CmdId) (op : AdminOp) (st : NvmeSt), s.isManager = true → s.seam.linkUp = true → s.adminStatus op = some st →
    Runs (.adminFwd cmd op) s fun t => t.head = s.head ∧ t.nvme = s.nvme) ∧
  (∀ (s : State) (cmd : CmdId) (n : Nat), s.isManager = true → s.seam.linkUp = true → n ≠ 0xFFFFFFFF → s.adminStatus (.delete n) = none →
    Runs (.adminFwd cmd (.delete n)) s fun t => (t.stream s.mgrStream).sealQueue = (s.stream s.mgrStream).sealQueue ++ [.manager (.nsDelete n)] ∧ t.nvme.adminWait = s.nvme.adminWait ++ [⟨cmd, .delete n, some s.epn, 0, true⟩])

/-- R186, R193 to R196, R556. The feature list is NVMe 2.0's (log 53). -/
def Obligations.FeaturesEventsTestsAndPowerStates : Prop :=
  (∀ (s : State) (cmd : CmdId) (f n : Nat), s.adminReady cmd = true → f ∈ featureIds →
    Runs (.getFeatures cmd f n 0) s fun t => s.answered t cmd nvOk (s.featNow cmd.cntlid f n).1 (s.featNow cmd.cntlid f n).2) ∧
  (∀ (s : State) (cmd : CmdId) (f n x : Nat), s.adminReady cmd = true → (f ∉ featureIds ∨ 3 < x) →
    Runs (.getFeatures cmd f n x) s fun t => s.answered t cmd nvField 0 []) ∧
  (∀ (s : State) (cmd : CmdId) (n v : Nat) (d : Bytes), s.adminReady cmd = true → v % 32 ≤ 2 →
    Runs (.setFeatures cmd 0x02 n v d) s fun t => (t.ctrl cmd.cntlid).ps = v % 32 ∧ s.answered t cmd nvOk 0 [] ∧ t.nvme.psCur = s.nvme.psCur) ∧
  (∀ (s : State) (cmd : CmdId) (n v : Nat) (d : Bytes), s.adminReady cmd = true → 2 < v % 32 →
    Runs (.setFeatures cmd 0x02 n v d) s fun t => s.answered t cmd nvField 0 [] ∧ (t.ctrl cmd.cntlid).ps = (s.ctrl cmd.cntlid).ps) ∧
  (∀ (s : State) (cmd : CmdId), s.adminReady cmd = true → (s.ctrl cmd.cntlid).aers.length < 16 → (s.ctrl cmd.cntlid).notices = [] →
    Runs (.asyncEventRequest cmd) s fun t => (t.ctrl cmd.cntlid).aers = (s.ctrl cmd.cntlid).aers ++ [cmd] ∧ t.out = s.out) ∧
  (∀ (s : State) (cmd : CmdId), s.adminReady cmd = true → 16 ≤ (s.ctrl cmd.cntlid).aers.length →
    Runs (.asyncEventRequest cmd) s fun t => s.answered t cmd nvAerLimit 0 [] ∧ (t.ctrl cmd.cntlid).aers = (s.ctrl cmd.cntlid).aers) ∧
  (∀ (s : State) (cmd : CmdId) (n : Nat), s.adminReady cmd = true → s.ctrlKind cmd.cntlid ≠ .discovery → s.nvme.test = none → (n = 0 ∨ n = 0xFFFFFFFF ∨ SMap.has s.nvme.ns n = true) →
    Runs (.deviceSelfTestShort cmd n) s fun t => t.nvme.test = some { code := 1, nsid := n, cntlid := cmd.cntlid } ∧ s.answered t cmd nvOk 0 []) ∧
  (∀ (s : State) (cmd : CmdId) (n : Nat), s.adminReady cmd = true → s.ctrlKind cmd.cntlid ≠ .discovery → s.nvme.test = none → (n = 0 ∨ n = 0xFFFFFFFF ∨ SMap.has s.nvme.ns n = true) →
    Runs (.deviceSelfTestExtended cmd n) s fun t => t.nvme.test = some { code := 2, nsid := n, cntlid := cmd.cntlid } ∧ s.answered t cmd nvOk 0 []) ∧
  (∀ (s : State) (cmd : CmdId) (n : Nat) (x : SelfTest), s.adminReady cmd = true → s.ctrlKind cmd.cntlid ≠ .discovery → s.nvme.test = some x →
    Runs (.deviceSelfTestShort cmd n) s fun t => t.nvme.test = some x ∧ s.answered t cmd nvTestRuns 0 []) ∧
  (∀ (s : State) (cmd : CmdId) (x : SelfTest), s.adminReady cmd = true → s.ctrlKind cmd.cntlid ≠ .discovery → s.nvme.test = some x →
    Runs (.deviceSelfTestAbort cmd) s fun t => t.nvme.test = none ∧ t.nvme.testLog = ((x.code, 1) :: s.nvme.testLog).take 20 ∧ s.answered t cmd nvOk 0 []) ∧
  (∀ (s : State) (p e : Nat), s.headUp = true → s.nvme.psMove = .entry p e → e ≤ s.epn →
    Runs .powerStateEntryDone s fun t => t.nvme.psCur = p) ∧
  (∀ (s : State) (p e : Nat), s.headUp = true → s.nvme.psMove = .exit p e → e ≤ s.epn →
    Runs .powerStateExitDone s fun t => t.nvme.psCur = p) ∧
  (∀ (s : State) (c p : Nat), s.headUp = true → (s.ctrl c).en = true → SMap.getD (s.ctrl c).feats 0x0C 0 = 1 → apstTarget (SMap.getD (s.ctrl c).feats 0x10C 0) (s.ctrl c).ps = some p →
    Runs (.apstIdleTimeout c) s fun t => t = s.setCtrl c { s.ctrl c with ps := p })

/-- R116, R174, R175, R186, R202, R204, R377, R469, R541, R549, R557, R632. -/
def Obligations.LogPagesAndIdentifyAnswer : Prop :=
  (∀ (s : State) (cmd : CmdId) (n : Nat) (rae : Bool), s.adminReady cmd = true →
    Runs (.logArrayStatus cmd 0 0 n rae) s fun t => t.nvme.logWait = s.nvme.logWait ++ [⟨cmd, 0xc0 * 4 + 0, n, rae⟩] ∧ t.out = s.out) ∧
  (∀ (s : State) (cmd : CmdId) (off n : Nat) (k : LogCopy), s.adminReady cmd = true → off % 4 = 0 → off ≠ 0 → SMap.get (s.ctrl cmd.cntlid).copies (0xc0 * 4 + 0) = some k →
    Runs (.logArrayStatus cmd 0 off n true) s fun t => s.answered t cmd nvOk 0 (s.readCopy k off n)) ∧
  (∀ (s : State) (cmd : CmdId) (n : Nat) (rae : Bool), s.adminReady cmd = true →
    Runs (.logAdmissionAndHem cmd 0 0 n rae) s fun t => t.nvme.logWait = s.nvme.logWait ++ [⟨cmd, 0xc1 * 4 + 0, n, rae⟩] ∧ t.out = s.out) ∧
  (∀ (s : State) (cmd : CmdId) (off n : Nat) (k : LogCopy), s.adminReady cmd = true → off % 4 = 0 → off ≠ 0 → SMap.get (s.ctrl cmd.cntlid).copies (0xc1 * 4 + 0) = some k →
    Runs (.logAdmissionAndHem cmd 0 off n true) s fun t => s.answered t cmd nvOk 0 (s.readCopy k off n)) ∧
  (∀ (s : State) (cmd : CmdId) (n : Nat) (rae : Bool), s.adminReady cmd = true →
    Runs (.logShelfHealth cmd 0 0 n rae) s fun t => t.nvme.logWait = s.nvme.logWait ++ [⟨cmd, 0xc2 * 4 + 0, n, rae⟩] ∧ t.out = s.out) ∧
  (∀ (s : State) (cmd : CmdId) (off n : Nat) (k : LogCopy), s.adminReady cmd = true → off % 4 = 0 → off ≠ 0 → SMap.get (s.ctrl cmd.cntlid).copies (0xc2 * 4 + 0) = some k →
    Runs (.logShelfHealth cmd 0 off n true) s fun t => s.answered t cmd nvOk 0 (s.readCopy k off n)) ∧
  (∀ (s : State) (cmd : CmdId) (n : Nat) (rae : Bool), s.adminReady cmd = true →
    Runs (.logStripePasses cmd 0 0 n rae) s fun t => t.nvme.logWait = s.nvme.logWait ++ [⟨cmd, 0xc3 * 4 + 0, n, rae⟩] ∧ t.out = s.out) ∧
  (∀ (s : State) (cmd : CmdId) (off n : Nat) (k : LogCopy), s.adminReady cmd = true → off % 4 = 0 → off ≠ 0 → SMap.get (s.ctrl cmd.cntlid).copies (0xc3 * 4 + 0) = some k →
    Runs (.logStripePasses cmd 0 off n true) s fun t => s.answered t cmd nvOk 0 (s.readCopy k off n)) ∧
  (∀ (s : State) (cmd : CmdId) (n : Nat) (rae : Bool), s.adminReady cmd = true →
    Runs (.logAlarms cmd 0 0 n rae) s fun t => t.nvme.logWait = s.nvme.logWait ++ [⟨cmd, 0xc6 * 4 + 0, n, rae⟩] ∧ t.out = s.out) ∧
  (∀ (s : State) (cmd : CmdId) (off n : Nat) (k : LogCopy), s.adminReady cmd = true → off % 4 = 0 → off ≠ 0 → SMap.get (s.ctrl cmd.cntlid).copies (0xc6 * 4 + 0) = some k →
    Runs (.logAlarms cmd 0 off n true) s fun t => s.answered t cmd nvOk 0 (s.readCopy k off n)) ∧
  (∀ (s : State) (cmd : CmdId) (n : Nat) (rae : Bool), s.adminReady cmd = true →
    Runs (.logReplication cmd 0 0 n rae) s fun t => t.nvme.logWait = s.nvme.logWait ++ [⟨cmd, 0xc7 * 4 + 0, n, rae⟩] ∧ t.out = s.out) ∧
  (∀ (s : State) (cmd : CmdId) (off n : Nat) (k : LogCopy), s.adminReady cmd = true → off % 4 = 0 → off ≠ 0 → SMap.get (s.ctrl cmd.cntlid).copies (0xc7 * 4 + 0) = some k →
    Runs (.logReplication cmd 0 off n true) s fun t => s.answered t cmd nvOk 0 (s.readCopy k off n)) ∧
  (∀ (s : State) (cmd : CmdId) (n : Nat) (rae : Bool), s.adminReady cmd = true →
    Runs (.logBootLedger cmd 0 n rae) s fun t => t.nvme.logWait = s.nvme.logWait ++ [⟨cmd, 0xc4 * 4 + 0, n, rae⟩] ∧ t.out = s.out) ∧
  (∀ (s : State) (cmd : CmdId) (off n : Nat) (k : LogCopy), s.adminReady cmd = true → off % 4 = 0 → off ≠ 0 → SMap.get (s.ctrl cmd.cntlid).copies (0xc4 * 4 + 0) = some k →
    Runs (.logBootLedger cmd off n true) s fun t => s.answered t cmd nvOk 0 (s.readCopy k off n)) ∧
  (∀ (s : State) (cmd : CmdId) (n : Nat) (rae : Bool), s.adminReady cmd = true →
    Runs (.logBootLedgerCollected cmd 0 n rae) s fun t => t.nvme.logWait = s.nvme.logWait ++ [⟨cmd, 0xc4 * 4 + 1, n, rae⟩] ∧ t.out = s.out) ∧
  (∀ (s : State) (cmd : CmdId) (off n : Nat) (k : LogCopy), s.adminReady cmd = true → off % 4 = 0 → off ≠ 0 → SMap.get (s.ctrl cmd.cntlid).copies (0xc4 * 4 + 1) = some k →
    Runs (.logBootLedgerCollected cmd off n true) s fun t => s.answered t cmd nvOk 0 (s.readCopy k off n)) ∧
  (∀ (s : State) (cmd : CmdId) (n : Nat) (rae : Bool), s.adminReady cmd = true →
    Runs (.logEventRing cmd 0 n rae) s fun t => t.nvme.logWait = s.nvme.logWait ++ [⟨cmd, 0xc5 * 4 + 0, n, rae⟩] ∧ t.out = s.out) ∧
  (∀ (s : State) (cmd : CmdId) (off n : Nat) (k : LogCopy), s.adminReady cmd = true → off % 4 = 0 → off ≠ 0 → SMap.get (s.ctrl cmd.cntlid).copies (0xc5 * 4 + 0) = some k →
    Runs (.logEventRing cmd off n true) s fun t => s.answered t cmd nvOk 0 (s.readCopy k off n)) ∧
  (∀ (s : State) (cmd : CmdId) (n : Nat) (rae : Bool), s.adminReady cmd = true →
    Runs (.logEventSummary cmd 0 n rae) s fun t => t.nvme.logWait = s.nvme.logWait ++ [⟨cmd, 0xc5 * 4 + 1, n, rae⟩] ∧ t.out = s.out) ∧
  (∀ (s : State) (cmd : CmdId) (off n : Nat) (k : LogCopy), s.adminReady cmd = true → off % 4 = 0 → off ≠ 0 → SMap.get (s.ctrl cmd.cntlid).copies (0xc5 * 4 + 1) = some k →
    Runs (.logEventSummary cmd off n true) s fun t => s.answered t cmd nvOk 0 (s.readCopy k off n)) ∧
  (∀ (s : State) (cmd : CmdId) (n : Nat) (rae : Bool), s.adminReady cmd = true →
    Runs (.logEventRingMark cmd 0 n rae) s fun t => t.nvme.logWait = s.nvme.logWait ++ [⟨cmd, 0xc5 * 4 + 0, n, rae⟩] ∧ t.out = s.out) ∧
  (∀ (s : State) (cmd : CmdId) (off n : Nat) (k : LogCopy), s.adminReady cmd = true → off % 4 = 0 → off ≠ 0 → SMap.get (s.ctrl cmd.cntlid).copies (0xc5 * 4 + 0) = some k →
    Runs (.logEventRingMark cmd off n true) s fun t => s.answered t cmd nvOk 0 (s.readCopy k off n)) ∧
  (∀ (s : State) (cmd : CmdId) (l p off n : Nat) (rae : Bool), s.adminReady cmd = true → s.ctrlKind cmd.cntlid ≠ .discovery → l ∉ [0x01, 0x02, 0x03, 0x04, 0x06, 0x0C, 0x80, 0x81] → (l < 0xC0 ∨ 0xC7 < l) →
    Runs (.getLogPage cmd l p off n rae) s fun t => s.answered t cmd nvField 0 []) ∧
  (∀ (s : State) (cmd : CmdId) (p off n : Nat), s.adminReady cmd = true →
    Runs (.getLogPage cmd 0x0C p off n true) s fun t => s.answered t cmd nvOk 0 (padTo n (sub (s.logAna (p % 2 == 1)) off n))) ∧
  (∀ (s : State) (cmd : CmdId) (n x : Nat), s.adminReady cmd = true →
    Runs (.identify cmd 0x01 n x) s fun t => ∃ b : Bytes, s.answered t cmd nvOk 0 b ∧ b.length = 4096 ∧ sub b 0 2 = le 2 0x1F7D ∧ sub b 78 2 = le 2 cmd.cntlid) ∧
  (∀ (s : State) (cmd : CmdId) (n x : Nat), s.adminReady cmd = true → s.ctrlKind cmd.cntlid ≠ .discovery →
    Runs (.identify cmd 0x10 n x) s fun t => s.answered t cmd nvOk 0 (s.nsList n (fun _ => true)) ∧ t.free = s.free) ∧
  (∀ (s : State) (cmd : CmdId) (k n x : Nat), s.adminReady cmd = true → 0x20 ≤ k →
    Runs (.identify cmd k n x) s fun t => s.answered t cmd nvField 0 [])

/-- R66, R176, R198, R199, R205. -/
def Obligations.FirmwareIsStagedCheckedAndWritten : Prop :=
  (∀ (s : State) (cmd : CmdId) (off : Nat) (d : Bytes), s.adminReady cmd = true → (s.ctrlKind cmd.cntlid = .pf ∨ s.ctrlKind cmd.cntlid = .rdma) → (s.nvme.fwOwner = none ∨ s.nvme.fwOwner = some cmd.cntlid) → pieceStatus s.nvme.fwPieces off d = none →
    Runs (.firmwareImageDownload cmd off d) s fun t => t.nvme.fwOwner = some cmd.cntlid ∧ t.nvme.fwPieces = s.nvme.fwPieces ++ [(off, d)] ∧ s.answered t cmd nvOk 0 []) ∧
  (∀ (s : State) (cmd : CmdId) (off : Nat) (d : Bytes) (st : NvmeSt), s.adminReady cmd = true → (s.ctrlKind cmd.cntlid = .pf ∨ s.ctrlKind cmd.cntlid = .rdma) → (s.nvme.fwOwner = none ∨ s.nvme.fwOwner = some cmd.cntlid) → pieceStatus s.nvme.fwPieces off d = some st →
    Runs (.firmwareImageDownload cmd off d) s fun t => t.nvme.fwPieces = s.nvme.fwPieces ∧ s.answered t cmd st 0 []) ∧
  (∀ (s : State) (cmd : CmdId) (off c : Nat) (d : Bytes), s.adminReady cmd = true → (s.ctrlKind cmd.cntlid = .pf ∨ s.ctrlKind cmd.cntlid = .rdma) → s.nvme.fwOwner = some c → c ≠ cmd.cntlid →
    Runs (.firmwareImageDownload cmd off d) s fun t => t.nvme.fwPieces = s.nvme.fwPieces ∧ s.answered t cmd nvSeq 0 []) ∧
  (∀ (s : State) (cmd : CmdId) (x : Nat) (c : Copy), s.adminReady cmd = true → (s.ctrlKind cmd.cntlid = .pf ∨ s.ctrlKind cmd.cntlid = .rdma) → s.nvme.fwCommit = none → s.fwTarget x = some c → c ≠ s.boot.copy → s.nvme.fwOwner = some cmd.cntlid → s.fwGood (fun off len => sub (assemble s.nvme.fwPieces s.nvme.fwPieces.length []) off len) 0 = false →
    Runs (.fwCommitReplace cmd x 0) s fun t => t.nvme.fwPieces = [] ∧ t.nvme.fwOwner = none ∧ t.nvme.fwCommit = none ∧ s.answered t cmd nvFwImage 0 [] ∧ t.nor = s.nor) ∧
  (∀ (s : State) (cmd : CmdId) (x : Nat) (c : Copy), s.adminReady cmd = true → (s.ctrlKind cmd.cntlid = .pf ∨ s.ctrlKind cmd.cntlid = .rdma) → s.nvme.fwCommit = none → s.fwTarget x = some c → c ≠ s.boot.copy → s.nvme.fwOwner = some cmd.cntlid → s.nvme.fwPieces.all (fun p => decide (p.1 + p.2.length ≤ (assemble s.nvme.fwPieces s.nvme.fwPieces.length []).length)) = true → s.fwGood (fun off len => sub (assemble s.nvme.fwPieces s.nvme.fwPieces.length []) off len) 0 = true →
    Runs (.fwCommitReplace cmd x 0) s fun t => t.nvme.fwPieces = [] ∧ t.nvme.fwCommit = some ⟨cmd, 0, c, assemble s.nvme.fwPieces s.nvme.fwPieces.length []⟩ ∧ t.out = s.out ∧ t.nor = s.nor) ∧
  (∀ (s : State) (cmd : CmdId) (x : Nat) (c : Copy), s.adminReady cmd = true → (s.ctrlKind cmd.cntlid = .pf ∨ s.ctrlKind cmd.cntlid = .rdma) → s.nvme.fwCommit = none → s.fwTarget x = some c → c ≠ s.boot.copy → s.nvme.fwOwner = none →
    Runs (.fwCommitReplaceActivate cmd x) s fun t => s.answered t cmd nvFwImage 0 [] ∧ t.nvme.fwCommit = none) ∧
  (∀ (s : State) (cmd : CmdId) (x : Nat) (c : Copy), s.adminReady cmd = true → (s.ctrlKind cmd.cntlid = .pf ∨ s.ctrlKind cmd.cntlid = .rdma) → s.nvme.fwCommit = none → s.fwTarget x = some c → c ≠ s.boot.copy →
    Runs (.fwCommitActivate cmd x) s fun t => s.answered t cmd (if s.fwGood (copyRead s.nor c) 2 = true then nvFwReset else nvFwImage) 0 [] ∧ t.nor = s.nor) ∧
  (∀ (s : State) (cmd : CmdId) (x : Nat), s.adminReady cmd = true → (s.ctrlKind cmd.cntlid = .pf ∨ s.ctrlKind cmd.cntlid = .rdma) → s.fwTarget x = some s.boot.copy → s.nvme.fwCommit = none →
    Runs (.fwCommitReplace cmd x 0) s fun t => s.answered t cmd nvFwSlot 0 [] ∧ t.nor = s.nor) ∧
  (∀ (s : State) (f : FwCommit), s.fw = true → s.isHead = true → s.nvme.fwCommit = some f →
    Runs .fwSlotWriteDone s fun t => t.nor = writeCopy s.nor f.slot f.img ∧ t.nvme.fwCommit = none) ∧
  (∀ (s : State) (cmd : CmdId) (x : Nat) (c : Copy), s.adminReady cmd = true → (s.ctrlKind cmd.cntlid = .pf ∨ s.ctrlKind cmd.cntlid = .rdma) → s.nvme.fwCommit = none → s.fwTarget x = some c → c ≠ s.boot.copy → s.nvme.fwOwner = some cmd.cntlid → s.nvme.fwPieces.all (fun p => decide (p.1 + p.2.length ≤ (assemble s.nvme.fwPieces s.nvme.fwPieces.length []).length)) = true → s.fwGood (fun off len => sub (assemble s.nvme.fwPieces s.nvme.fwPieces.length []) off len) 1 = true →
    Runs (.fwCommitReplaceActivate cmd x) s fun t => t.nvme.fwPieces = [] ∧ t.nvme.fwCommit = some ⟨cmd, 1, c, assemble s.nvme.fwPieces s.nvme.fwPieces.length []⟩ ∧ t.out = s.out ∧ t.nor = s.nor) ∧
  (∀ (s : State) (cmd : CmdId) (x : Nat) (c : Copy), s.adminReady cmd = true → (s.ctrlKind cmd.cntlid = .pf ∨ s.ctrlKind cmd.cntlid = .rdma) → s.nvme.fwCommit = none → s.fwTarget x = some c → c ≠ s.boot.copy → s.nvme.fwOwner = some cmd.cntlid → s.fwGood (fun off len => sub (assemble s.nvme.fwPieces s.nvme.fwPieces.length []) off len) 1 = false →
    Runs (.fwCommitReplaceActivate cmd x) s fun t => t.nvme.fwPieces = [] ∧ t.nvme.fwOwner = none ∧ t.nvme.fwCommit = none ∧ s.answered t cmd nvFwImage 0 [] ∧ t.nor = s.nor)

/-- R26, R166, R185, R187, R191, R192, R205, R208. -/
def Obligations.HostWritesWaitForAdmissionAtTheirOwner : Prop :=
  (∀ (s : State) (cmd : CmdId) (nsid slba nlb : Nat) (d : Bytes) (pr : Bool) (ck : BitVec 3) (tg mk : Nat) (pi : List PiBlock) (st : NvmeSt), s.ioReady cmd = true → s.silenced = false → s.ioStatus cmd.cntlid nsid = some st →
    Runs (.nvmeWrite cmd nsid slba nlb d pr ck tg mk pi) s fun t => s.answered t cmd st 0 [] ∧ t.head = s.head) ∧
  (∀ (s : State) (cmd : CmdId) (nsid slba nlb : Nat) (n : Ns) (d : Bytes) (pr : Bool) (ck : BitVec 3) (tg mk : Nat), s.ioReady cmd = true → s.ioStatus cmd.cntlid nsid = none → s.ns nsid = some n → s.replica n = false → hasPi n.lbaf = false → n.dataStatus slba nlb d.length = none → s.arrayFull = false → (s.stream (s.nsStream nsid)).takes s.epn = true → s.covered (.write nsid slba nlb d) = true →
    Runs (.nvmeWrite cmd nsid slba nlb d pr ck tg mk []) s fun t => (t.stream (s.nsStream nsid)).waiting = (s.stream (s.nsStream nsid)).waiting ++ [{ cmd := cmd, fromPeer := false, op := .write nsid slba nlb d, pi := [], data := s.bufferRoom (.write nsid slba nlb d), no := s.head.fetchNo }] ∧ t.out = s.out) ∧
  (∀ (s : State) (cmd : CmdId) (nsid slba nlb : Nat) (n : Ns) (d : Bytes) (pr : Bool) (ck : BitVec 3) (tg mk : Nat), s.ioReady cmd = true → s.ioStatus cmd.cntlid nsid = none → s.ns nsid = some n → s.replica n = false → hasPi n.lbaf = false → n.dataStatus slba nlb d.length = none → s.arrayFull = false → s.covered (.write nsid slba nlb d) = false →
    Runs (.nvmeWrite cmd nsid slba nlb d pr ck tg mk []) s fun t => t.head = s.head ∧ t.out = s.out ∧ t.nvme.bytesWritten = s.nvme.bytesWritten) ∧
  (∀ (s : State) (cmd : CmdId) (nsid slba nlb : Nat) (n : Ns) (d : Bytes) (pr : Bool) (ck : BitVec 3) (tg mk : Nat) (st : NvmeSt), s.ioReady cmd = true → s.silenced = false → s.ioStatus cmd.cntlid nsid = none → s.ns nsid = some n → s.replica n = false → n.dataStatus slba nlb d.length = some st →
    Runs (.nvmeWrite cmd nsid slba nlb d pr ck tg mk []) s fun t => s.answered t cmd st 0 [] ∧ t.head = s.head) ∧
  (∀ (s : State) (cmd : CmdId) (nsid slba nlb : Nat) (n : Ns) (d : Bytes) (pr : Bool) (ck : BitVec 3) (tg mk : Nat), s.ioReady cmd = true → s.ioStatus cmd.cntlid nsid = none → s.ns nsid = some n → s.replica n = false → hasPi n.lbaf = false → n.dataStatus slba nlb d.length = none → s.arrayFull = false → (s.stream (s.nsStream nsid)).takes s.epn = false → s.seam.linkUp = true →
    Runs (.nvmeWrite cmd nsid slba nlb d pr ck tg mk []) s fun t => t.nvme.fwd = s.nvme.fwd ++ [cmd] ∧ t.head = s.head) ∧
  (∀ (s : State) (cmd : CmdId) (nsid slba nlb : Nat) (n : Ns) (b : Bool), s.ioReady cmd = true → s.ioStatus cmd.cntlid nsid = none → s.ns nsid = some n → s.replica n = false → nlb ≠ 0 → nlb ≤ 65536 → slba + nlb ≤ n.nsze → (s.stream (s.nsStream nsid)).takes s.epn = true → s.covered (.writeZeroes nsid slba nlb b) = true →
    Runs (.nvmeWriteZeroes cmd nsid slba nlb b) s fun t => (t.stream (s.nsStream nsid)).waiting = (s.stream (s.nsStream nsid)).waiting ++ [{ cmd := cmd, fromPeer := false, op := .writeZeroes nsid slba nlb b, pi := [], data := s.bufferRoom (.writeZeroes nsid slba nlb b), no := s.head.fetchNo }] ∧ t.out = s.out) ∧
  (∀ (s : State) (cmd : CmdId) (nsid slba nlb : Nat) (n : Ns) (b : Bool), s.ioReady cmd = true → s.silenced = false → s.ioStatus cmd.cntlid nsid = none → s.ns nsid = some n → s.replica n = false → 0 < nlb → nlb ≤ 65536 → n.nsze < slba + nlb →
    Runs (.nvmeWriteZeroes cmd nsid slba nlb b) s fun t => s.answered t cmd nvRange 0 [] ∧ t.head = s.head) ∧
  (∀ (s : State) (cmd : CmdId) (nsid : Nat) (n : Ns) (rs : List LbaRange), s.ioReady cmd = true → s.ioStatus cmd.cntlid nsid = none → s.ns nsid = some n → s.replica n = false → rs ≠ [] → rs.length ≤ 256 → rs.all (fun r => n.inRange r.slba r.nlb) = true → (s.stream (s.nsStream nsid)).takes s.epn = true → s.covered (.deallocate nsid rs) = true →
    Runs (.nvmeDatasetManagement cmd nsid true rs) s fun t => (t.stream (s.nsStream nsid)).waiting = (s.stream (s.nsStream nsid)).waiting ++ [{ cmd := cmd, fromPeer := false, op := .deallocate nsid rs, pi := [], data := s.bufferRoom (.deallocate nsid rs), no := s.head.fetchNo }] ∧ t.out = s.out) ∧
  (∀ (s : State) (cmd : CmdId) (nsid : Nat) (n : Ns) (rs : List LbaRange), s.ioReady cmd = true → s.silenced = false → s.ioStatus cmd.cntlid nsid = none → s.ns nsid = some n → rs ≠ [] → rs.length ≤ 256 → rs.all (fun r => n.inRange r.slba r.nlb) = true →
    Runs (.nvmeDatasetManagement cmd nsid false rs) s fun t => s.answered t cmd nvOk 0 [] ∧ t.head = s.head) ∧
  (∀ (s : State) (cmd : CmdId) (nsid sd : Nat) (n : Ns) (rs : List CopyRange), s.ioReady cmd = true → s.ioStatus cmd.cntlid nsid = none → s.ns nsid = some n → s.replica n = false → s.arrayFull = false → s.copyLimits cmd.cntlid n nsid 0 sd rs = none → (s.stream (s.nsStream nsid)).takes s.epn = true → s.covered (.copy nsid sd (rs.map (fun r => { r with nsid := nsid }))) = true →
    Runs (.nvmeCopy cmd nsid 0 sd rs) s fun t => (t.stream (s.nsStream nsid)).waiting = (s.stream (s.nsStream nsid)).waiting ++ [{ cmd := cmd, fromPeer := false, op := .copy nsid sd (rs.map (fun r => { r with nsid := nsid })), pi := [], data := s.bufferRoom (.copy nsid sd (rs.map (fun r => { r with nsid := nsid }))), no := s.head.fetchNo }] ∧ t.out = s.out) ∧
  (∀ (s : State) (cmp cmd : CmdId) (nsid slba nlb : Nat) (n : Ns) (e d : Bytes), s.ioReady cmp = true → cmd.cntlid = cmp.cntlid → cmd.sqid = cmp.sqid → (s.takeEntry cmp).canFetch cmd = true → s.ioStatus cmd.cntlid nsid = none → s.ns nsid = some n → s.replica n = false → hasPi n.lbaf = false → n.dataStatus slba nlb d.length = none → nlb * lbaBytes n.lbaf ≤ s.nsChunk n → e.length = d.length → s.arrayFull = false → (s.stream (s.nsStream nsid)).takes s.epn = true → s.covered (.compareWrite nsid slba nlb cmp.cid e d) = true →
    Runs (.nvmeCompareAndWrite cmp cmd nsid slba nlb e d false 0 0 0 []) s fun t => (t.stream (s.nsStream nsid)).waiting = (s.stream (s.nsStream nsid)).waiting ++ [{ cmd := cmd, fromPeer := false, op := .compareWrite nsid slba nlb cmp.cid e d, pi := [], data := s.bufferRoom (.compareWrite nsid slba nlb cmp.cid e d), no := s.head.fetchNo }] ∧ t.out = s.out) ∧
  (∀ (s : State) (cmd : CmdId) (nsid a cur new : Nat) (n : Ns), s.ioReady cmd = true → s.ioStatus cmd.cntlid nsid = none → s.ns nsid = some n → s.replica n = false → a ≤ 2 → (s.stream (s.nsStream nsid)).takes s.epn = true → s.covered (.resv nsid a 0 cur (if a = 1 then cur else new)) = true →
    Runs (.reservationRegister cmd nsid a cur new ⟨false, 0⟩) s fun t => (t.stream (s.nsStream nsid)).waiting = (s.stream (s.nsStream nsid)).waiting ++ [{ cmd := cmd, fromPeer := false, op := .resv nsid a 0 cur (if a = 1 then cur else new), pi := [], data := s.bufferRoom (.resv nsid a 0 cur (if a = 1 then cur else new)), no := s.head.fetchNo }] ∧ t.out = s.out) ∧
  (∀ (s : State) (cmd : CmdId) (nsid r cur pre : Nat) (n : Ns), s.ioReady cmd = true → s.ioStatus cmd.cntlid nsid = none → s.ns nsid = some n → s.replica n = false → 0 < r → r ≤ 6 → (s.stream (s.nsStream nsid)).takes s.epn = true → s.covered (.resv nsid 3 r cur cur) = true →
    Runs (.reservationAcquire cmd nsid 0 r cur pre) s fun t => (t.stream (s.nsStream nsid)).waiting = (s.stream (s.nsStream nsid)).waiting ++ [{ cmd := cmd, fromPeer := false, op := .resv nsid 3 r cur cur, pi := [], data := s.bufferRoom (.resv nsid 3 r cur cur), no := s.head.fetchNo }] ∧ t.out = s.out) ∧
  (∀ (s : State) (cmd : CmdId) (nsid a r cur pre : Nat) (n : Ns), s.ioReady cmd = true → s.silenced = false → s.ioStatus cmd.cntlid nsid = none → s.ns nsid = some n → s.replica n = false → (2 < a ∨ r = 0 ∨ 6 < r) →
    Runs (.reservationAcquire cmd nsid a r cur pre) s fun t => s.answered t cmd nvField 0 [] ∧ t.head = s.head) ∧
  (∀ (s : State) (cmd : CmdId) (nsid r cur : Nat) (n : Ns), s.ioReady cmd = true → s.ioStatus cmd.cntlid nsid = none → s.ns nsid = some n → s.replica n = false → (s.stream (s.nsStream nsid)).takes s.epn = true → s.covered (.resv nsid 6 r cur cur) = true →
    Runs (.reservationRelease cmd nsid 1 r cur) s fun t => (t.stream (s.nsStream nsid)).waiting = (s.stream (s.nsStream nsid)).waiting ++ [{ cmd := cmd, fromPeer := false, op := .resv nsid 6 r cur cur, pi := [], data := s.bufferRoom (.resv nsid 6 r cur cur), no := s.head.fetchNo }] ∧ t.out = s.out) ∧
  (∀ (s : State) (cmd : CmdId), s.ioReady cmd = true → s.silenced = false →
    Runs (.nvmeUnsupportedOpcode cmd) s fun t => s.answered t cmd nvOpcode 0 [] ∧ t.head = s.head)

/-- R27, R185, R192, R196, R205, R331 to R334. -/
def Obligations.HostReadsAndFlushesAreAnswered : Prop :=
  (∀ (s : State) (cmd : CmdId) (nsid slba nlb : Nat) (n : Ns) (pr : Bool), s.ioReady cmd = true → s.silenced = false → s.ioStatus cmd.cntlid nsid = none → s.ns nsid = some n → hasPi n.lbaf = false → n.readStatus slba nlb true 0 0 = none → n.resv.allows (s.hostOf cmd.cntlid) false = true → s.psAdmits = true → s.readForwards nsid slba nlb = false → s.head.reads = [] → s.readsZero nsid slba nlb n = true →
    Runs (.nvmeRead cmd nsid slba nlb pr 0 0 0 0) s fun t => (s.partsOf nsid slba nlb n).1.answered t cmd nvOk 0 (zeros (nlb * lbaBytes n.lbaf)) ∧ t.head.reads = []) ∧
  (∀ (s : State) (cmd : CmdId) (nsid slba nlb : Nat) (n : Ns), s.ioReady cmd = true → s.silenced = false → s.ioStatus cmd.cntlid nsid = none → s.ns nsid = some n → n.readStatus slba nlb false 0 0 = none → n.resv.allows (s.hostOf cmd.cntlid) false = true → s.psAdmits = true → s.readForwards nsid slba nlb = false → s.head.reads = [] → s.readsZero nsid slba nlb n = true →
    Runs (.nvmeVerify cmd nsid slba nlb 0 0 0 0) s fun t => (s.partsOf nsid slba nlb n).1.answered t cmd nvOk 0 []) ∧
  (∀ (s : State) (cmd : CmdId) (nsid slba nlb : Nat) (n : Ns) (d : Bytes), s.ioReady cmd = true → s.silenced = false → s.ioStatus cmd.cntlid nsid = none → s.ns nsid = some n → n.readStatus slba nlb true 0 0 = none → d.length = nlb * lbaBytes n.lbaf → n.resv.allows (s.hostOf cmd.cntlid) false = true → s.psAdmits = true → s.readForwards nsid slba nlb = false → s.head.reads = [] → s.readsZero nsid slba nlb n = true →
    Runs (.nvmeCompare cmd nsid slba nlb d 0 0 0 0) s fun t => (s.partsOf nsid slba nlb n).1.answered t cmd (if d = zeros (nlb * lbaBytes n.lbaf) then nvOk else nvCompare) 0 []) ∧
  (∀ (s : State) (cmd : CmdId) (nsid slba nlb : Nat) (n : Ns) (pr : Bool) (st : NvmeSt), s.ioReady cmd = true → s.silenced = false → s.ioStatus cmd.cntlid nsid = none → s.ns nsid = some n → n.readStatus slba nlb true 0 0 = some st →
    Runs (.nvmeRead cmd nsid slba nlb pr 0 0 0 0) s fun t => s.answered t cmd st 0 [] ∧ t.head = s.head) ∧
  (∀ (s : State) (cmd : CmdId) (nsid slba nlb : Nat) (n : Ns) (pr : Bool), s.ioReady cmd = true → s.silenced = false → s.ioStatus cmd.cntlid nsid = none → s.ns nsid = some n → n.readStatus slba nlb true 0 0 = none → n.resv.allows (s.hostOf cmd.cntlid) false = false → s.readForwards nsid slba nlb = false →
    Runs (.nvmeRead cmd nsid slba nlb pr 0 0 0 0) s fun t => s.answered t cmd nvConflict 0 [] ∧ t.head = s.head) ∧
  (∀ (s : State) (cmd : CmdId) (nsid slba nlb : Nat) (n : Ns) (pr : Bool), s.ioReady cmd = true → s.ioStatus cmd.cntlid nsid = none → s.ns nsid = some n → n.readStatus slba nlb true 0 0 = none → n.resv.allows (s.hostOf cmd.cntlid) false = true → s.psAdmits = false →
    Runs (.nvmeRead cmd nsid slba nlb pr 0 0 0 0) s fun t => t.head.reads.length = s.head.reads.length + 1 ∧ t.out = s.out ∧ t.head.md = s.head.md) ∧
  (∀ (s : State) (cmd : CmdId), s.ioReady cmd = true → s.silenced = false →
    Runs (.nvmeFlush cmd 0xFFFFFFFF) s fun t => s.answered t cmd nvOk 0 [] ∧ t.head = s.head) ∧
  (∀ (s : State) (cmd : CmdId) (nsid : Nat), s.ioReady cmd = true → s.silenced = false → s.ioStatus cmd.cntlid nsid = none →
    Runs (.nvmeFlush cmd nsid) s fun t => s.answered t cmd nvOk 0 [] ∧ t.head = s.head) ∧
  (∀ (s : State) (cmd : CmdId) (nsid : Nat) (n : Ns) (x : Bool), s.ioReady cmd = true → s.silenced = false → s.ioStatus cmd.cntlid nsid = none → s.ns nsid = some n → s.readForwards nsid 0 0 = false →
    Runs (.reservationReport cmd nsid x) s fun t => ∃ b : Bytes, s.answered t cmd nvOk 0 b ∧ sub b 0 7 = le 4 n.resv.gen ++ le 1 n.resv.rtype ++ le 2 n.resv.regs.length ∧ t.head = s.head) ∧
  (∀ (s : State) (cmd : CmdId), s.ioReady cmd = true → s.silencedFor ((s.ctrl cmd.cntlid).cqOf cmd.sqid) nvOk = true →
    Runs (.nvmeFlush cmd 0xFFFFFFFF) s fun t => t.out = s.out ∧ t.head = s.head)

/-- R166, R205, R209 to R212, R219. -/
def Obligations.AdmissionNumbersCommandsInTheCurrentEpoch : Prop :=
  (∀ (s a : State) (cmd : CmdId) (i : Nat) (l : List WaitCmd) (w : WaitCmd) (n : Ns), s.waitsIn cmd = some i → s.moveIn i = a →
    a.fetchedBefore i cmd = some (l, w) → a.admitting i = true → notHeldBack cmd l = true → a.resvOk w = true → a.canAdmit i w = true →
    a.ns (opNsid w.op) = some n →
    Runs (.commandAdmit cmd) s fun t => (t.stream i).nextSsn = (s.stream i).nextSsn + (a.plans w.op).length ∧ (t.stream i).waiting.all (fun x => x.cmd != cmd) = true ∧
      (t.stream i).epochBytes = (s.stream i).epochBytes + a.opBytes w.op ∧ t.out = s.out ∧
      ∃ c : AdmCmd, (t.stream i).cmds = (s.stream i).cmds ++ [c] ∧ c.cmd = cmd ∧ c.epn = s.epn ∧ c.firstSsn = (s.stream i).nextSsn ∧ c.count = (a.plans w.op).length) ∧
  (∀ (s a : State) (cmd : CmdId) (i : Nat) (l : List WaitCmd) (w : WaitCmd), s.waitsIn cmd = some i → s.moveIn i = a →
    a.fetchedBefore i cmd = some (l, w) → a.admitting i = true → notHeldBack cmd l = true → a.resvOk w = false →
    Runs (.commandAdmit cmd) s fun t => (t.stream i).waiting = (a.stream i).waiting.filter (·.cmd != cmd) ∧ (t.stream i).cmds = (s.stream i).cmds ∧ (t.stream i).nextSsn = (s.stream i).nextSsn ∧ t.head.md = s.head.md) ∧
  (∀ (s a : State) (cmd : CmdId) (i : Nat) (l : List WaitCmd) (w : WaitCmd), s.waitsIn cmd = some i → s.moveIn i = a →
    a.fetchedBefore i cmd = some (l, w) → (a.admitting i = false ∨ notHeldBack cmd l = false ∨ (a.resvOk w = true ∧ a.canAdmit i w = false)) →
    Runs (.commandAdmit cmd) s fun t => t = a) ∧
  (∀ (s : State) (cmd : CmdId) (i c : Nat) (w : WaitCmd) (n : Ns) (b : Bytes) (x : BitVec 2), s.headUp = true → s.waitsIn cmd = some i → (s.stream i).waiting = [w] → w.cmd = cmd → c ∈ s.missingFills w → s.ns (opNsid w.op) = some n →
    Runs (.fillObtained cmd c b x) s fun t => (t.stream i).waiting = [{ w with fills := w.fills ++ [(c, zeroLost x.toNat (padTo (s.nsChunk n) b), x.toNat)] }] ∧ t.head.md = s.head.md)

/-- R162, R215, R216, R231, R232, R236, R352, R357, R389, R390, R392. -/
def Obligations.BundlesAreBuiltHeadedAndCompleted : Prop :=
  (∀ (s : State) (i : Fin 2) (n : Nat), s.headUp = true → (s.stream i).owns n = true → (s.bundle i n).sealed = true → (s.bundle i n).bodied = false → ((s.stream i).epochWork n).all (fun e => e.2.ready) = true → (s.stream i).bundles.all (fun e => decide (n ≤ e.1) || e.2.bodied) = true → s.p p_repl_role = 0 →
    Runs (.bodyComplete i n) s fun t => (t.bundle i n).bodied = true ∧ (t.stream i).replayed = max (s.stream i).replayed n ∧ (t.bundle i n).bodyT = s.time.t ∧ (t.bundle i n).sealItems = (s.bundle i n).sealItems) ∧
  (∀ (s : State) (i : Fin 2) (n : Nat), s.headUp = true → (s.stream i).owns n = true → (s.bundle i n).bodied = true → (s.bundle i n).bodyHdr = none → (s.bundle i n).sealHdr ≠ none →
    Runs (.sectionDigestReturn i n true) s fun t => (t.bundle i n).bodyHdr = some (s.header i n (s.bundle i n) true) ∧ (t.stream i).prevDigest = (s.header i n (s.bundle i n) true).sectionDigest ∧
      (s.header i n (s.bundle i n) true).prevDigest = (s.stream i).prevDigest) ∧
  (∀ (s : State) (i : Fin 2) (n : Nat), s.headUp = true → (s.stream i).owns n = true → (s.bundle i n).sealed = true → (s.bundle i n).sealHdr = none → (s.stream i).bundles.all (fun e => decide (n ≤ e.1) || e.2.bodyHdr.isSome) = true →
    Runs (.sectionDigestReturn i n false) s fun t => (t.bundle i n).sealHdr = some (s.header i n (s.bundle i n) false) ∧ (t.stream i).prevDigest = (s.header i n (s.bundle i n) false).sectionDigest) ∧
  (∀ (s : State) (i : Fin 2) (n : Nat), s.fw = true → s.isHead = true → (s.bundle i n).sealHdr ≠ none → s.p p_repl_role = 0 →
    Runs (.hemDurable i n 0) s fun t => (t.bundle i n).durSeal = true ∧ (t.bundle i n).durBody = (s.bundle i n).durBody ∧ (t.bundle i n).durBatch = (s.bundle i n).durBatch) ∧
  (∀ (s : State) (i : Fin 2) (n : Nat), s.fw = true → s.isHead = true → (s.bundle i n).bodied = true → s.p p_repl_role = 0 →
    Runs (.hemDurable i n 2) s fun t => (t.bundle i n).durBatch = true ∧ (t.bundle i n).durSeal = (s.bundle i n).durSeal) ∧
  (∀ (s : State) (i : Fin 2) (n : Nat), s.fw = true → s.isHead = true → (s.stream i).owns n = true → SMap.has (s.stream i).bundles n = true → s.seam.peerState ≠ 2 → s.nvme.adminWait = [] → s.p p_repl_role = 0 →
    Runs (.seamDurable i n 7) s fun t => (t.bundle i n).peerDur = true ∧ t.seam.peerReplayed = s.seam.peerReplayed.set i (max (s.seam.peerReplayed.getD i 0) n)) ∧
  (∀ (s : State) (cmd : CmdId) (i : Nat) (c : AdmCmd), [0, 1].find? (fun i => (s.stream i).cmds.any (·.cmd == cmd)) = some i → (s.stream i).cmds.find? (·.cmd == cmd) = some c → s.headUp = true → s.isDurable i c = true → s.seam.leaseLost = false → s.seam.ioStopped = false → c.fromPeer = false → c.cmp = none → s.cqReady cmd = true →
    Runs (.writeCompletionPost cmd) s fun t => (t.stream i).cmds = (s.stream i).cmds.filter (fun x => x.cmd != cmd) ∧ s.answered t cmd c.st 0 []) ∧
  (∀ (s : State) (cmd : CmdId) (i : Nat) (c : AdmCmd), [0, 1].find? (fun i => (s.stream i).cmds.any (·.cmd == cmd)) = some i → (s.stream i).cmds.find? (·.cmd == cmd) = some c → s.isDurable i c = false →
    Runs (.writeCompletionPost cmd) s fun t => t = s) ∧
  (∀ (s : State) (i : Fin 2) (m : Bool), s.headUp = true → (s.stream i).mine = true → s.openCount i < s.p p_ingest_open_stripes → s.layoutKM.2 + 4 ≤ s.acceptOrder.length → freeKey s.hem.sif sifCap ≠ none →
    Runs (.stripeOpen i m) s fun t => (t.stream i).nextStripe = (s.stream i).nextStripe + 1 ∧
      ∃ r, t.head.md.stripe (i * 2 ^ 47 + (s.stream i).nextStripe) = some r ∧ r.state = 1 ∧ r.openEpn = s.epn ∧ r.isMeta = m ∧
        r.m = s.layoutKM.2 ∧ r.k = min s.layoutKM.1 (s.acceptOrder.length - s.layoutKM.2) ∧ r.sites = s.acceptOrder.take (r.k + r.m)) ∧
  (∀ (s : State) (i : Fin 2) (m : Bool), s.headUp = true → (s.stream i).mine = true → s.acceptOrder.length < s.layoutKM.2 + 4 →
    Runs (.stripeOpen i m) s fun t => t.head = s.head ∧ t.hem = s.hem ∧ t.raised AL_STRIPE_FULL 0) ∧
  (∀ (s : State) (i : Fin 2) (m : Bool), s.headUp = true → (s.stream i).mine = true → s.p p_ingest_open_stripes ≤ s.openCount i →
    Runs (.stripeOpen i m) s fun t => t.head = s.head ∧ t.hem = s.hem) ∧
  (∀ (s : State) (l x : Nat) (a b : ChunkRec), s.headUp = true → (s.stream (streamOf l)).mine = true → (l, x) ∈ (s.stream (streamOf l)).sortCands → s.sorted (s.stream (streamOf l)) < s.p p_dedupe_sort_rate_per_s → s.head.md.chunk l = some a → s.head.md.chunk x = some b → a.fp = b.fp → a.domain = b.domain →
      s.liveFor l s.epn a.domain a.fp = true → s.liveFor x s.epn a.domain a.fp = true →
    Runs (.sortMerge l x) s fun t => (t.stream (streamOf l)).classRecs = (s.stream (streamOf l)).classRecs ++ [(4, .merge l x)] ∧ (l, x) ∉ (t.stream (streamOf l)).sortCands ∧ t.head.md = s.head.md) ∧
  (∀ (s : State) (i : Fin 2), s.headUp = true → 64 ≤ (s.credits i).lowEpochs →
    Runs (.hemCreditLow i) s fun t => t.raised AL_HEM_CREDIT_LOW (srcOf 12 i) ∧ t.hem = s.hem) ∧
  (∀ (s : State) (i : Fin 2), s.headUp = true → s.p p_hem_stall_alarm_epochs ≤ (s.credits i).stallEpochs → 0 < (s.credits i).stallEpochs →
    Runs (.hemAdmitStall i) s fun t => t.raised AL_HEM_ADMIT_STALL (srcOf 12 i) ∧ t.hem = s.hem)

/-- R244, R246, R248, R250. dmaRead gives the bytes of a range and its status. -/
def Obligations.DigestsAreComputedComparedAndBound : Prop :=
  (∀ (s : State) (n : Nat) (data : Bytes) (j : Job) (a b : Bytes), s.unitRuns n 3 1 j → (digestDesc j.desc).known = true → (digestDesc j.desc).whole = true → (digestDesc j.desc).stream = false → (digestDesc j.desc).hmac = false → (digestDesc j.desc).compare = false → s.dmaRead (digestDesc j.desc).src (digestDesc j.desc).len = (0, a, s) → s.dmaRead (digestDesc j.desc).tail ((digestDesc j.desc).tails * algBlock (digestDesc j.desc).alg) = (0, b, s) → SMap.get s.digest.saved n = none → (digestDesc j.desc).init = true → (digestDesc j.desc).final = true →
    Runs (.digest n data) s fun t => t.mem = (s.dmaWrite (digestDesc j.desc).result
      ((shaOut (algKind (digestDesc j.desc).alg) (shaAbsorb (algKind (digestDesc j.desc).alg) (shaAbsorb (algKind (digestDesc j.desc).alg) (algInit (digestDesc j.desc).alg) a) b)).take (algLen (digestDesc j.desc).alg))).mem ∧
      t.ended n j 0 ((digestDesc j.desc).len + (digestDesc j.desc).tails * algBlock (digestDesc j.desc).alg)
      ((shaOut (algKind (digestDesc j.desc).alg) (shaAbsorb (algKind (digestDesc j.desc).alg) (shaAbsorb (algKind (digestDesc j.desc).alg) (algInit (digestDesc j.desc).alg) a) b)).take (algLen (digestDesc j.desc).alg)).length) ∧
  (∀ (s : State) (n : Nat) (data : Bytes) (j : Job) (a b : Bytes) (k : HmacSlot), s.unitRuns n 3 1 j → (digestDesc j.desc).known = true → (digestDesc j.desc).whole = true → (digestDesc j.desc).stream = false → (digestDesc j.desc).hmac = true → SMap.get s.digest.bound n = some k → k.alg = (digestDesc j.desc).alg → (digestDesc j.desc).compare = false → s.dmaRead (digestDesc j.desc).src (digestDesc j.desc).len = (0, a, s) → s.dmaRead (digestDesc j.desc).tail ((digestDesc j.desc).tails * algBlock (digestDesc j.desc).alg) = (0, b, s) → SMap.get s.digest.saved n = none → (digestDesc j.desc).init = true → (digestDesc j.desc).final = true →
    Runs (.digest n data) s fun t => t.mem = (s.dmaWrite (digestDesc j.desc).result (k.outer ((shaOut (algKind (digestDesc j.desc).alg)
      (shaAbsorb (algKind (digestDesc j.desc).alg) (shaAbsorb (algKind (digestDesc j.desc).alg) k.inner a) b)).take (algLen (digestDesc j.desc).alg)))).mem ∧ t.digest.slots = s.digest.slots) ∧
  (∀ (s : State) (n : Nat) (data : Bytes) (j : Job) (a b e : Bytes), s.unitRuns n 3 1 j → (digestDesc j.desc).known = true → (digestDesc j.desc).whole = true → (digestDesc j.desc).stream = false → (digestDesc j.desc).hmac = false → (digestDesc j.desc).compare = true → s.dmaRead (digestDesc j.desc).src (digestDesc j.desc).len = (0, a, s) → s.dmaRead (digestDesc j.desc).tail ((digestDesc j.desc).tails * algBlock (digestDesc j.desc).alg) = (0, b, s) → SMap.get s.digest.saved n = none → (digestDesc j.desc).init = true → (digestDesc j.desc).final = true → s.dmaRead (digestDesc j.desc).result (algLen (digestDesc j.desc).alg) = (0, e, s) →
    Runs (.digest n data) s fun t => t.mem = s.mem ∧ t.mc = s.mc ∧ t.ended n j (if e = ((shaOut (algKind (digestDesc j.desc).alg) (shaAbsorb (algKind (digestDesc j.desc).alg) (shaAbsorb (algKind (digestDesc j.desc).alg) (algInit (digestDesc j.desc).alg) a) b)).take (algLen (digestDesc j.desc).alg)) then 0
      else ST_DIGEST_MISMATCH) ((digestDesc j.desc).len + (digestDesc j.desc).tails * algBlock (digestDesc j.desc).alg) 0) ∧
  (∀ (s : State) (n : Nat) (data : Bytes) (j : Job) (b : Bytes), s.unitRuns n 3 1 j → (digestDesc j.desc).known = true → (digestDesc j.desc).whole = true → (digestDesc j.desc).stream = true → (digestDesc j.desc).init = true → (digestDesc j.desc).ctx = 0 → (digestDesc j.desc).hmac = false → SMap.get s.digest.saved n = none → data.length < (digestDesc j.desc).len →
    Runs (.digest n data) s fun t => t.mem = s.mem ∧ t.mc = s.mc ∧ t.ended n j ST_DIGEST_LEN_SHORT (data.length / algBlock (digestDesc j.desc).alg * algBlock (digestDesc j.desc).alg) 0) ∧
  (∀ (s : State) (n : Nat) (j : Job), s.unitRuns n 3 2 j → (digestDesc j.desc).len = 0 →
    Runs (.slotLoad n) s fun t => t.digest = { s.digest with changes := s.digest.changes ++ [⟨num j.desc 18 1, none⟩] } ∧ t.ended n j 0 0 0) ∧
  (∀ (s : State) (n : Nat) (j : Job), s.unitRuns n 3 2 j → 0 < (digestDesc j.desc).len → (digestDesc j.desc).len ≤ 64 →
    Runs (.slotLoad n) s fun t => t.digest = { s.digest with changes := s.digest.changes ++
      [⟨num j.desc 18 1, some ⟨(digestDesc j.desc).alg, (s.keyBits ((digestDesc j.desc).src % 65536)).take (digestDesc j.desc).len⟩⟩] } ∧ t.ended n j 0 0 0)

/-- R252 to R257. -/
def Obligations.TheMatchArraySearchesWritesAndInvalidates : Prop :=
  (∀ (s : State) (n : Nat) (j : Job) (k : Bytes), s.unitRuns n 4 1 j → matchCount j.desc = 1 → s.regionWild (matchRegion j.desc) = false → (s.region (matchRegion j.desc)).mirror = false → s.dmaRead (num j.desc 24 8) 64 = (0, k, s) → k.length = 64 → (∀ i ∈ s.listed (matchRegion j.desc), (s.ment i).hits (BitVec.ofNat 144 (num k 0 18)) = false) →
    Runs (.matchSearch n [] []) s fun t => t.mem = (s.dmaWrite (num j.desc 32 8) (le 4 0xFFFFFFFF ++ zeros 12)).mem ∧ t.cam = s.cam ∧ t.ended n j 0 64 16) ∧
  (∀ (s : State) (n : Nat) (j : Job) (k : Bytes) (i : Nat) (l : List Nat), s.unitRuns n 4 1 j → matchCount j.desc = 1 → s.regionWild (matchRegion j.desc) = false → (s.region (matchRegion j.desc)).mirror = false → s.dmaRead (num j.desc 24 8) 64 = (0, k, s) → k.length = 64 → s.listed (matchRegion j.desc) = i :: l → (s.ment i).hits (BitVec.ofNat 144 (num k 0 18)) = true → (s.ment i).verifies (BitVec.ofNat 256 (num k 24 32)) (s.region (matchRegion j.desc)).vmask = true →
    Runs (.matchSearch n [] []) s fun t => t.mem = (s.dmaWrite (num j.desc 32 8)
      (le 4 i ++ zeros 2 ++ [1, 0] ++ le 8 (s.ment i).result.toNat)).mem ∧ t.cam = s.cam ∧ t.ended n j 0 64 16) ∧
  (∀ (s : State) (n : Nat) (j : Job) (k : Bytes) (i : Nat), s.unitRuns n 4 1 j → matchCount j.desc = 1 → s.regionWild (matchRegion j.desc) = false → (s.region (matchRegion j.desc)).mirror = false → s.dmaRead (num j.desc 24 8) 64 = (0, k, s) → k.length = 64 → s.listed (matchRegion j.desc) = [i] → (s.ment i).hits (BitVec.ofNat 144 (num k 0 18)) = true → (s.ment i).verifies (BitVec.ofNat 256 (num k 24 32)) (s.region (matchRegion j.desc)).vmask = false →
    Runs (.matchSearch n [] []) s fun t => t.cam = { s.cam with falseHits := satInc 16 s.cam.falseHits } ∧ t.ended n j 0 64 16) ∧
  (∀ (s : State) (n : Nat) (j : Job) (k : Bytes), s.unitRuns n 4 2 j → matchCount j.desc = 1 → (s.region (matchRegion j.desc)).mirror = false → s.dmaRead (num j.desc 24 8) 128 = (0, k, s) → k.length = 128 → (s.region (matchRegion j.desc)).base ≤ num k 0 4 → num k 0 4 < (s.region (matchRegion j.desc)).base + (s.region (matchRegion j.desc)).count →
    Runs (.matchWrite n) s fun t => t.cam = { s.cam with ents := SMap.set s.cam.ents (num k 0 4) (entryRec k).2 } ∧ t.mem = s.mem ∧ t.ended n j 0 128 0) ∧
  (∀ (s : State) (n : Nat) (j : Job) (k : Bytes), s.unitRuns n 4 2 j → matchCount j.desc = 1 → s.dmaRead (num j.desc 24 8) 128 = (0, k, s) → k.length = 128 → ((num k 0 4 < (s.region (matchRegion j.desc)).base ∨ (s.region (matchRegion j.desc)).base + (s.region (matchRegion j.desc)).count ≤ num k 0 4)) →
    Runs (.matchWrite n) s fun t => t.cam = s.cam ∧ t.mem = s.mem ∧ t.ended n j ST_MATCH_INDEX_RANGE 0 0) ∧
  (∀ (s : State) (n : Nat) (j : Job) (i : Nat), s.unitRuns n 4 3 j → (s.region (matchRegion j.desc)).mirror = false →
    Runs (.matchInvalidate n) s fun t => (SMap.getD t.cam.ents i {}).valid = (if num j.desc 24 4 ≤ i ∧ i < num j.desc 24 4 + matchCount j.desc then false
      else (SMap.getD s.cam.ents i {}).valid) ∧ t.mem = s.mem ∧ t.ended n j 0 0 0) ∧
  (∀ (s : State) (n : Nat) (j : Job), s.unitRuns n 4 4 j → matchCount j.desc = 1 →
    Runs (.matchRead n) s fun t => t.mem = (s.dmaWrite (num j.desc 32 8) ((s.ment (num j.desc 24 4)).record (num j.desc 24 4))).mem ∧ t.cam = s.cam ∧
      t.ended n j 0 0 128) ∧
  (∀ (s : State), s.fw = true → s.isHead = true →
    Runs .matchRegionsLock s fun t => t = { s with cam := { s.cam with locked := true } }) ∧
  (∀ (s : State) (h : Fin 2), s.fw = true → s.isHead = true → s.pdOn (18 + h) = true →
    Runs (.matchHalfFatal h) s fun t => t.cam = { s.cam with fatal := s.cam.fatal.set h true } ∧ t.raised AL_MATCH_HALF_FAIL (srcOf 0 0))

/-- R262 to R267, R429. -/
def Obligations.TheShardAnswersAndChanges : Prop :=
  (∀ (s : State) (h : FrameHdr) (domain : Nat) (fp : Bytes) (e : IdxEntry), s.shelfTakes h = true → s.rangeReady (fpRange fp) = true → s.mayHold domain fp = true → s.idxFind domain fp = some e →
    Runs (.idxQuery h domain fp) s fun t => s.repliedFirst t h 0x40 0 1 (.named e.chunkId) ∧ t.sh = s.sh ∧ t.keep = s.keep) ∧
  (∀ (s : State) (h : FrameHdr) (domain : Nat) (fp : Bytes), s.shelfTakes h = true → s.rangeReady (fpRange fp) = true → s.idxFind domain fp = none →
    Runs (.idxQuery h domain fp) s fun t => s.repliedFirst t h 0x40 0 0 (.named 0) ∧ t.sh = s.sh ∧ t.keep = s.keep) ∧
  (∀ (s : State) (h : FrameHdr) (domain : Nat) (fp : Bytes), s.shelfTakes h = true → s.rangeReady (fpRange fp) = false →
    Runs (.idxQuery h domain fp) s fun t => s.repliedFirst t h 0x40 0 2 (.named 0) ∧ t.sh = s.sh ∧ t.keep = s.keep) ∧
  (∀ (s : State) (h : FrameHdr) (domain chunkId : Nat) (fp : Bytes), s.shelfTakes h = true → s.firstCopy h = true → s.rangeReady (fpRange fp) = true → s.idxFind domain fp = none → s.sh.state < 2 → s.idxFull fp = false →
    Runs (.idxInsert h domain chunkId fp) s fun t => t.sh.shard = { s.sh.shard with pending := s.sh.shard.pending ++ [⟨fp, domain, chunkId⟩], tags := t.sh.shard.tags } ∧ fpTag fp ∈ t.tagRow (fpBucket fp) ∧ t.keep = s.keep ∧
      s.sentFirst t (ownerOf s.lease (streamOf chunkId) % 2) ⟨h.tag, false, false, 0, h.reqId, .reply 0x41 0 5 (.named 0)⟩) ∧
  (∀ (s : State) (h : FrameHdr) (domain chunkId : Nat) (fp : Bytes) (e : IdxEntry), s.shelfTakes h = true → s.firstCopy h = true → s.rangeReady (fpRange fp) = true → s.idxFind domain fp = some e →
    Runs (.idxInsert h domain chunkId fp) s fun t => t.sh.shard = s.sh.shard ∧ t.keep = s.keep ∧
      s.sentFirst t (ownerOf s.lease (streamOf chunkId) % 2) ⟨h.tag, false, false, 0, h.reqId, .reply 0x41 0 3 (.named e.chunkId)⟩) ∧
  (∀ (s : State) (h : FrameHdr) (domain chunkId : Nat) (fp : Bytes), s.shelfTakes h = true → s.firstCopy h = true →
    Runs (.idxDelete h domain chunkId fp) s fun t => t.sh.shard.pending = s.sh.shard.pending.filter (fun e => !(idxFor domain fp e && e.chunkId == chunkId)) ∧
      (∀ b, t.bucket b = if b = fpBucket fp then (s.bucket b).filter (fun e => !(idxFor domain fp e && e.chunkId == chunkId)) else s.bucket b) ∧
      s.sentFirst t (ownerOf s.lease (streamOf chunkId) % 2) ⟨h.tag, false, false, 0, h.reqId, .reply 0x41 0 5 (.named 0)⟩) ∧
  (∀ (s : State) (h : FrameHdr) (domain chunkId old : Nat) (fp : Bytes) (e : IdxEntry), s.shelfTakes h = true → s.firstCopy h = true → s.idxFind domain fp = some e → e.chunkId = old →
    Runs (.idxReplace h domain chunkId old fp) s fun t => t.sh.shard.pending = s.sh.shard.pending.map (fun x => if idxFor domain fp x && x.chunkId == old then { x with chunkId := chunkId } else x) ∧
      (∀ b, b ≠ fpBucket fp → t.bucket b = s.bucket b) ∧ s.sentFirst t (ownerOf s.lease (streamOf chunkId) % 2) ⟨h.tag, false, false, 0, h.reqId, .reply 0x41 0 5 (.named 0)⟩) ∧
  (∀ (s : State) (h : FrameHdr) (domain chunkId old : Nat) (fp : Bytes) (e : IdxEntry), s.shelfTakes h = true → s.firstCopy h = true → s.idxFind domain fp = some e → e.chunkId ≠ old →
    Runs (.idxReplace h domain chunkId old fp) s fun t => t.sh.shard = s.sh.shard ∧ t.keep = s.keep ∧ s.sentFirst t (ownerOf s.lease (streamOf chunkId) % 2) ⟨h.tag, false, false, 0, h.reqId, .reply 0x41 0 6 (.named 0)⟩) ∧
  (∀ (s : State) (h : FrameHdr) (domain chunkId : Nat) (fp : Bytes), s.shelfTakes h = true → s.idxFind domain fp = none → s.sh.state < 2 → s.idxFull fp = false →
    Runs (.idxRebuildInsert h domain chunkId fp) s fun t => t.sh.shard = { s.sh.shard with pending := s.sh.shard.pending ++ [⟨fp, domain, chunkId⟩], tags := t.sh.shard.tags } ∧ fpTag fp ∈ t.tagRow (fpBucket fp) ∧ t.keep = s.keep ∧ s.repliedFirst t h 0x41 0 5 (.named 0)) ∧
  (∀ (s : State) (h : FrameHdr) (r : BitVec 16), s.shelfTakes h = true →
    Runs (.idxRangeReady h r) s fun t => t.keep = { s.keep with gained := insNat s.keep.gained r.toNat, dropped := s.keep.dropped.filter (· != r.toNat) } ∧ t.sh.shard = s.sh.shard ∧
      s.repliedFirst t h 0x41 0 5 (.named 0)) ∧
  (∀ (s : State) (h : FrameHdr) (r : BitVec 16), s.shelfTakes h = true →
    Runs (.idxRangeDrop h r) s fun t => t.sh.shard.pending = s.sh.shard.pending.filter (fun e => fpRange e.fp != r.toNat) ∧
      (∀ e ∈ t.keep.buckets, ∀ x ∈ e.2, fpRange x.fp ≠ r.toNat) ∧ t.keep.gained = s.keep.gained.filter (· != r.toNat) ∧ s.repliedFirst t h 0x41 0 5 (.named 0)) ∧
  (∀ (s : State) (strip b : Nat), s.shelfOn = true → s.sh.state = 1 →
    Runs (.pendingWriteBack strip) s fun t => t.bucket b = s.bucket b ++ (if b / 16 = strip then s.sh.shard.pending.filter (fun e => fpBucket e.fp == b) else []) ∧
      t.sh.shard.pending = s.sh.shard.pending.filter (fun e => fpBucket e.fp / 16 != strip)) ∧
  (∀ (s : State), s.shelfOn = true → s.stageFrom .join = true → s.sh.shard.rows = false →
    Runs .shardTagRebuildDone s fun t => t.sh = { s.sh with shard := { s.sh.shard with rows := true, tags := t.sh.shard.tags } } ∧ t.keep = s.keep ∧ ∀ b, ∀ e ∈ s.bucket b, fpTag e.fp ∈ t.tagRow b)

/-- R222, R236, R260, R265, R267. A head of an array without replication. -/
def Obligations.HeadsFollowTheIndexAndMoveRanges : Prop :=
  (∀ (s : State) (h : FrameHdr) (result chunkId q i ssn : Nat) (w : ChunkWork), s.isHead = true → s.p p_repl_role = 0 → s.frameIn h = true → s.head.queries.find? (·.1 == h.reqId) = some (q, i, ssn) → i < 2 → s.work i ssn = some w → w.decision = none → result < 2 →
    Runs (.idxQueryReply h result chunkId) s fun t => t.work i ssn = some { w with reply := some (if result = 1 then some chunkId else none) } ∧ t.head.md = s.head.md) ∧
  (∀ (s : State) (h : FrameHdr) (chunkId q i ssn : Nat) (w : ChunkWork), s.isHead = true → s.p p_repl_role = 0 → s.frameIn h = true → s.head.queries.find? (·.1 == h.reqId) = some (q, i, ssn) → i < 2 → s.work i ssn = some w → w.decision = none →
    Runs (.idxQueryReply h 2 chunkId) s fun t => t.work i ssn = some w) ∧
  (∀ (s : State) (h : FrameHdr) (chunkId q i ssn : Nat) (w : ChunkWork), s.isHead = true → s.p p_repl_role = 0 → s.frameIn h = true → s.head.queries.find? (·.1 == h.reqId) = some (q, i, ssn) → i < 2 → s.work i ssn = some w → w.decision = some .uniqueLate →
    Runs (.idxQueryReply h 1 chunkId) s fun t => (w.chunkId, chunkId) ∈ (t.stream (streamOf w.chunkId)).sortCands) ∧
  (∀ (s : State) (h : FrameHdr) (chunkId named : Nat) (c x : ChunkRec), s.isHead = true → s.p p_repl_role = 0 → s.frameIn h = true → s.headUp = true → s.head.queue = [] → s.head.md.chunk chunkId = some c → s.head.md.chunk named = some x → x.live = true → x.dying = false → x.domain = c.domain → x.fp = c.fp →
    Runs (.idxOpReply h 1 chunkId 3 named) s fun t => (chunkId, named) ∈ (t.stream (streamOf chunkId)).sortCands ∧ t.head.md = s.head.md) ∧
  (∀ (s : State) (r : BitVec 16) (m : ShardMove) (id : Nat), s.isManager = true → s.head.md.moves.find? (·.range == r.toNat) = some m → 0 < s.p p_match_shard_rebuild_per_s →
      (s.head.md.inRange m.range).find? (fun x => s.isLive x && !m.sent.contains x) = some id →
    Runs (.shardRangeRebuild r) s fun t => t.head.md.moves = s.head.md.moves.map (fun x => if x.range = m.range then { x with sent := x.sent ++ [id] } else x)) ∧
  (∀ (s : State) (r : BitVec 16) (m : ShardMove), s.isManager = true → s.head.md.moves.find? (·.range == r.toNat) = some m → 0 < s.p p_match_shard_rebuild_per_s →
      (s.head.md.inRange m.range).find? (fun x => s.isLive x && !m.sent.contains x) = none →
    Runs (.shardRangeRebuild r) s fun t => .manager (.shardMoveDone m.range) ∈ (t.stream s.mgrStream).sealQueue ∧ t.head.md = s.head.md)

/-- R273, R278, R281, R284 to R288, R290, R291. -/
def Obligations.ThePressCompressesResumesAndDecompresses : Prop :=
  (∀ (s : State) (n : Nat) (j : Job) (a : Bytes), s.unitRuns n 5 1 j → s.dmaRead (pressSrc j.desc) (pressSrcLen j.desc) = (0, a, s) → pressWild j.desc = false → pressClass j.desc = 0 →
    Runs (.compress n) s fun t => (if pressDstLen j.desc ≤ (pad64 (pf1Stream false a)).length then t.ended n j ST_PRESS_NO_GAIN a.length 0
      else t.mem = (s.dmaWrite (pressDst j.desc) (pad64 (pf1Stream false a))).mem ∧ t.ended n j 0 a.length (pad64 (pf1Stream false a)).length) ∧ (s.press.drops = [] → t.press = s.press)) ∧
  (∀ (s : State) (n : Nat) (j : Job) (a : Bytes), s.unitRuns n 5 1 j → s.dmaRead (pressSrc j.desc) (pressSrcLen j.desc) = (0, a, s) → pressWild j.desc = false → pressClass j.desc ≠ 0 →
    Runs (.compress n) s fun t => if (fitTokens (pressDstLen j.desc - 16) (pf1Tokens true a) []).2 = [] then
        t.mem = (s.dmaWrite (pressDst j.desc) (pf1Header true a (pf1Tokens true a).flatten.length ++
          (fitTokens (pressDstLen j.desc - 16) (pf1Tokens true a) []).1)).mem ∧
        t.ended n j 0 a.length (16 + (fitTokens (pressDstLen j.desc - 16) (pf1Tokens true a) []).1.length) ∧ (s.press.drops = [] → t.press = s.press)
      else if 248 ≤ pressCh j.desc then t.ended n j ST_PRESS_OVERFLOW 0 0 ∧ (s.press.drops = [] → t.press = s.press)
      else
        t.ended n j ST_PRESS_OUT_FULL (tokensCover (pf1Tokens true a) - tokensCover (fitTokens (pressDstLen j.desc - 16) (pf1Tokens true a) []).2)
          (16 + (fitTokens (pressDstLen j.desc - 16) (pf1Tokens true a) []).1.length) ∧
        (s.pdOn 20 = true → s.press.drops = [] → ∃ q, SMap.get t.press.seqs (pressCh j.desc) = some q ∧
          q.tokens = (fitTokens (pressDstLen j.desc - 16) (pf1Tokens true a) []).2)) ∧
  (∀ (s : State) (n : Nat) (j : Job), s.unitRuns n 5 2 j → SMap.get s.press.seqs (pressCh j.desc) = none →
    Runs (.resume n) s fun t => t.ended n j ST_PRESS_NO_STATE 0 0 ∧ t.mem = s.mem ∧ (s.press.drops = [] → t.press = s.press)) ∧
  (∀ (s : State) (n : Nat) (j : Job) (q : PressSeq), s.unitRuns n 5 2 j → SMap.get s.press.seqs (pressCh j.desc) = some q → (fitTokens (pressDstLen j.desc) q.tokens []).2 = [] →
    Runs (.resume n) s fun t => t.ended n j 0 (tokensCover q.tokens) (fitTokens (pressDstLen j.desc) q.tokens []).1.length ∧ SMap.get t.press.seqs (pressCh j.desc) = none) ∧
  (∀ (s : State) (n : Nat) (j : Job) (q : PressSeq), s.unitRuns n 5 2 j → SMap.get s.press.seqs (pressCh j.desc) = some q → s.pdOn 20 = true → s.press.drops = [] → (fitTokens (pressDstLen j.desc) q.tokens []).2 ≠ [] →
    Runs (.resume n) s fun t => t.ended n j ST_PRESS_OUT_FULL (tokensCover q.tokens - tokensCover (fitTokens (pressDstLen j.desc) q.tokens []).2) (fitTokens (pressDstLen j.desc) q.tokens []).1.length ∧
      ∃ r, SMap.get t.press.seqs (pressCh j.desc) = some r ∧ r.tokens = (fitTokens (pressDstLen j.desc) q.tokens []).2 ∧ r.header = q.header) ∧
  (∀ (s : State) (n : Nat) (j : Job) (a : Bytes), s.unitRuns n 5 3 j → s.dmaRead (pressSrc j.desc) (pressSrcLen j.desc) = (0, a, s) → pressWild j.desc = false →
    Runs (.decompress n) s fun t => match (pf1Decode (pressClass j.desc == 1) a (pressDstLen j.desc) (pressExpect j.desc)).2.2 with
      | some o => t.mem = (s.dmaWrite (pressDst j.desc) o).mem ∧
        t.ended n j (pf1Decode (pressClass j.desc == 1) a (pressDstLen j.desc) (pressExpect j.desc)).1
          (pf1Decode (pressClass j.desc == 1) a (pressDstLen j.desc) (pressExpect j.desc)).2.1 o.length
      | none => t.mem = s.mem ∧ t.mc = s.mc ∧
        t.ended n j (pf1Decode (pressClass j.desc == 1) a (pressDstLen j.desc) (pressExpect j.desc)).1
          (pf1Decode (pressClass j.desc == 1) a (pressDstLen j.desc) (pressExpect j.desc)).2.1 0) ∧
  (∀ (s : State) (n : Nat) (j : Job), s.unitRuns n 5 4 j →
    Runs (.channelReset n) s fun t => (s.press.drops = [] → t.press = { s.press with seqs := SMap.del s.press.seqs (pressCh j.desc) }) ∧
      SMap.get t.press.seqs (pressCh j.desc) = none ∧ t.ended n j 0 0 0 ∧ t.mem = s.mem) ∧
  (∀ (s : State) (lane : Fin 64), s.fw = true → s.isHead = true → s.laneJob 0 lane = none →
    Runs (.pressLaneFatal false lane) s fun t => t.press = { s.press with clOk := s.press.clOk &&& ~~~(1#64 <<< lane.val) } ∧ t.raised AL_PRESS_LANE_FAULT (srcOf 6 lane)) ∧
  (∀ (s : State) (lane : Fin 64) (n : Nat) (j : Job), s.fw = true → s.isHead = true → s.laneJob 1 lane = some (n, j) → s.job n = some j →
    Runs (.pressLaneFatal true lane) s fun t => t.press.dlOk = s.press.dlOk &&& ~~~(1#64 <<< lane.val) ∧ t.press.clOk = s.press.clOk ∧
      t.press.selfChecks = satInc 16 s.press.selfChecks ∧ t.raised AL_PRESS_LANE_FAULT (srcOf 6 (lane + 2048)) ∧ t.ended n j ST_PRESS_SELF_CHECK 0 0)

/-- R297, R303 to R306. -/
def Obligations.CipherRequestsEncryptDecryptAndAuthenticate : Prop :=
  (∀ (s : State) (n : Nat) (j : Job) (data a : Bytes), s.unitRuns n 6 1 j → cWild j.desc = false → cStream j.desc = false → s.dmaRead (cSrc j.desc) (cLen j.desc) = (0, a, s) →
    Runs (.xtsEnc n false data) s fun t => t.mem = (s.dmaWrite (cDst j.desc)
      (xtsEnc ((s.keySlot (cKey j.desc)).key.take 32) ((s.keySlot (cKey j.desc)).key.drop 32) (cDun j.desc) a)).mem ∧ t.ended n j 0 a.length (xtsEnc ((s.keySlot (cKey j.desc)).key.take 32) ((s.keySlot (cKey j.desc)).key.drop 32) (cDun j.desc) a).length) ∧
  (∀ (s : State) (n : Nat) (j : Job) (data : Bytes) (p : Nat), s.unitRuns n 6 1 j → j.unit = some p →
    Runs (.xtsEnc n true data) s fun t => t.mem = s.mem ∧ t.mc = s.mc ∧ t.cipher = { s.cipher with pairOk := s.cipher.pairOk &&& ~~~(1#16 <<< p), mismatches := satInc 16 s.cipher.mismatches } ∧
      t.raised AL_CIPHER_PAIR_FAULT (srcOf 7 p) ∧ t.ended n j ST_CIPHER_PAIR_MISMATCH 0 0) ∧
  (∀ (s : State) (n : Nat) (j : Job) (data a : Bytes), s.unitRuns n 6 2 j → cWild j.desc = false → cStream j.desc = false → s.dmaRead (cSrc j.desc) (cLen j.desc) = (0, a, s) →
    Runs (.xtsDec n false data) s fun t => t.mem = (s.dmaWrite (cDst j.desc)
      (xtsDec ((s.keySlot (cKey j.desc)).key.take 32) ((s.keySlot (cKey j.desc)).key.drop 32) (cDun j.desc) a)).mem ∧ t.ended n j 0 a.length (xtsDec ((s.keySlot (cKey j.desc)).key.take 32) ((s.keySlot (cKey j.desc)).key.drop 32) (cDun j.desc) a).length) ∧
  (∀ (s : State) (n : Nat) (j : Job) (data a : Bytes) (p aad : Bytes), s.unitRuns n 6 3 j → cWild j.desc = false → cStream j.desc = false → SMap.get s.cipher.saved n = none → cInit j.desc = true → cFinal j.desc = true → s.dmaRead (cParam j.desc) 128 = (0, p, s) → s.dmaRead (cSrc j.desc) (cLen j.desc) = (0, a, s) → s.dmaRead (num p 16 8) (num p 24 4) = (0, aad, s) →
    Runs (.gcmEnc n false data) s fun t => t.mem = ((s.dmaWrite (cDst j.desc) (gcmCtr (s.keySlot (cKey j.desc)).key (p.take 12) 2 (chunksOf 16 a))).dmaWrite (cParam j.desc + 32)
      (gcmFinal (s.keySlot (cKey j.desc)).key p (gcmH (s.keySlot (cKey j.desc)).key) (ghash (gcmH (s.keySlot (cKey j.desc)).key) (ghash (gcmH (s.keySlot (cKey j.desc)).key) 0 aad) (gcmCtr (s.keySlot (cKey j.desc)).key (p.take 12) 2 (chunksOf 16 a))) (gcmCtr (s.keySlot (cKey j.desc)).key (p.take 12) 2 (chunksOf 16 a)).length)).mem ∧
      t.ended n j 0 (gcmCtr (s.keySlot (cKey j.desc)).key (p.take 12) 2 (chunksOf 16 a)).length (gcmCtr (s.keySlot (cKey j.desc)).key (p.take 12) 2 (chunksOf 16 a)).length) ∧
  (∀ (s : State) (n : Nat) (j : Job) (data a : Bytes) (p aad : Bytes), s.unitRuns n 6 4 j → cWild j.desc = false → cStream j.desc = false → SMap.get s.cipher.saved n = none → cInit j.desc = true → cFinal j.desc = true → s.dmaRead (cParam j.desc) 128 = (0, p, s) → s.dmaRead (cSrc j.desc) (cLen j.desc) = (0, a, s) → s.dmaRead (num p 16 8) (num p 24 4) = (0, aad, s) →
    Runs (.gcmDec n false data) s fun t => if (gcmFinal (s.keySlot (cKey j.desc)).key p (gcmH (s.keySlot (cKey j.desc)).key) (ghash (gcmH (s.keySlot (cKey j.desc)).key) (ghash (gcmH (s.keySlot (cKey j.desc)).key) 0 aad) a) (gcmCtr (s.keySlot (cKey j.desc)).key (p.take 12) 2 (chunksOf 16 a)).length) = sub p 32 16 then
        t.mem = (s.dmaWrite (cDst j.desc) (gcmCtr (s.keySlot (cKey j.desc)).key (p.take 12) 2 (chunksOf 16 a))).mem ∧
        t.ended n j 0 (gcmCtr (s.keySlot (cKey j.desc)).key (p.take 12) 2 (chunksOf 16 a)).length
          (gcmCtr (s.keySlot (cKey j.desc)).key (p.take 12) 2 (chunksOf 16 a)).length
      else t.mem = s.mem ∧ t.mc = s.mc ∧
        t.ended n j ST_CIPHER_TAG (gcmCtr (s.keySlot (cKey j.desc)).key (p.take 12) 2 (chunksOf 16 a)).length 0)

/-- R307 to R311, R316, R317. A generated key is a free value: nothing is said of its bytes. -/
def Obligations.KeySlotsAreFilledWrappedAndRevoked : Prop :=
  (∀ (s : State) (n : Nat) (j : Job), s.unitRuns n 6 5 j →
    Runs (.keyWrap n false) s fun t => t.mem = (s.dmaWrite (cDst j.desc) (kwWrap (s.keySlot (cKey j.desc)).key (s.keySlot (cTarget j.desc)).key)).mem ∧ t.cipher = s.cipher ∧
      t.ended n j 0 0 (kwWrap (s.keySlot (cKey j.desc)).key (s.keySlot (cTarget j.desc)).key).length) ∧
  (∀ (s : State) (n : Nat) (j : Job) (a : Bytes), s.unitRuns n 6 6 j → s.dmaRead (cSrc j.desc) (cLen j.desc) = (0, a, s) → (s.keySlot (cTarget j.desc)).state = 0 →
    Runs (.keyUnwrap n false) s fun t => match kwUnwrap (s.keySlot (cKey j.desc)).key a with
      | some k => t.keySlot (cTarget j.desc) = ⟨1, cType j.desc, cUse j.desc, k, false⟩ ∧ (∀ x, x ≠ (cTarget j.desc) → t.keySlot x = s.keySlot x) ∧
        t.ended n j 0 (cLen j.desc) 0
      | none => t.cipher = s.cipher ∧ t.ended n j ST_CIPHER_UNWRAP_FAIL (cLen j.desc) 0) ∧
  (∀ (s : State) (n : Nat) (j : Job), s.unitRuns n 6 7 j → (s.keySlot (cTarget j.desc)).state = 0 →
    Runs (.keyGen n true) s fun t => t.keySlot (cTarget j.desc) = ⟨1, cType j.desc, cUse j.desc, (t.keySlot (cTarget j.desc)).key, false⟩ ∧ (∀ x, x ≠ (cTarget j.desc) → t.keySlot x = s.keySlot x) ∧
      t.cipher.drbgOk = true ∧ t.ended n j 0 0 0) ∧
  (∀ (s : State) (n : Nat) (j : Job), s.unitRuns n 6 7 j →
    Runs (.keyGen n false) s fun t => t.cipher = { s.cipher with drbgOk := false } ∧ t.raised AL_CIPHER_DRBG 0 ∧ t.ended n j ST_CIPHER_DRBG 0 0) ∧
  (∀ (s : State) (n : Nat) (j : Job), s.unitRuns n 6 8 j → (s.keySlot (cTarget j.desc)).state = 1 → (cTarget j.desc) ≠ 4095 →
    Runs (.keyRevoke n) s fun t => t.keySlot (cTarget j.desc) = { s.keySlot (cTarget j.desc) with state := 2, closed := false } ∧ (∀ x, x ≠ (cTarget j.desc) → t.keySlot x = s.keySlot x) ∧
      t.ended n j 0 0 0) ∧
  (∀ (s : State) (slot : Fin 4096), s.fw = true → s.isHead = true → (s.keySlot slot).state = 2 → (s.keySlot slot).closed = true → s.ring.jobs.any (fun e => e.2.block == 6 && cNames e.2.desc slot) = false →
    Runs (.keySlotZeroed slot) s fun t => t.keySlot slot = {} ∧ ∀ x, x ≠ slot.val → t.keySlot x = s.keySlot x) ∧
  (∀ (s : State) (d : Fin 256), s.isManager = true → s.pi p_key_domain_enable d = 1 → s.hasKeys d = false → s.inPs2 = false → (s.keySlot 1024).live = true →
    Runs (.domainKeyCreate d true) s fun t => ∃ r, (t.stream s.mgrStream).sealQueue = (s.stream s.mgrStream).sealQueue ++ [.manager (.domainKey r)] ∧ r.domain = d.val ∧ r.generation = s.keyGen d + 1 ∧
      r.epn = s.epn + 2) ∧
  (∀ (s : State) (d : Fin 256), s.isManager = true → s.pi p_key_domain_enable d = 1 → s.hasKeys d = false → s.inPs2 = false → (s.keySlot 1024).live = true →
    Runs (.domainKeyCreate d false) s fun t => t.raised AL_CIPHER_DRBG 0 ∧ t.head = s.head ∧ t.cipher = { s.cipher with drbgOk := false }) ∧
  (∀ (s : State) (d : Fin 256) (e : Erase), s.cipher.erases.find? (fun e => e.domain == d.val) = some e → s.headUp = true → e.swept = true → s.slotsGone e = true → e.partner = true →
    Runs (.cryptoEraseComplete d) s fun t => t.cipher.erases = s.cipher.erases.filter (fun x => !(x.domain == e.domain && x.gen == e.gen)) ∧ t.head = s.head) ∧
  (∀ (s : State) (d : Fin 256) (e : Erase), s.headUp = true → e ∈ s.cipher.erases → e.domain = d.val → e.late = false → s.epochStart e.epn + s.p p_key_purge_max_s * 100000000 ≤ s.time.t →
    Runs (.cryptoErasePurgeLate d) s fun t => t.raised AL_CIPHER_PURGE_LATE (srcOf 11 d) ∧ { e with late := true } ∈ t.cipher.erases)

/-- The frame of every command: `writes c` names, per command, the parts of the state that it may change; every other register, counter, queue and byte of
memory is as it was (log 8: a command that cannot come about changes nothing). -/
def Obligations.EveryCommandChangesOnlyItsParts : Prop :=
  ∀ (c : Instr) (s t : State), exec c s = .next t → State.Unchanged (writes c) s t

/-- R546, R549, R550, R553, R554, R558 to R560, R564. The widths of the STATUS_GET body are the model's (log 14). -/
def Obligations.ManagementMessagesAreAnswered : Prop :=
  (∀ (s : State) (tag : Byte), s.live = true →
    Runs (.statusGet tag) s fun t => t = { s with out := s.out ++ [.mgmt 1 tag.toNat 0 none
      (le 8 s.boot.status ++ le 1 s.pins.roleSel ++ le 1 s.pins.siteId ++ le 4 s.boot.imageSeq ++ le 1 (timeStateNum s.time.state))] }) ∧
  (∀ (s : State) (tag : Byte) (first : Nat) (count : Byte) (ack : Bool), s.live = true → (s.strapsOk = false ∨ s.boot.stage = .recoveryMode) →
    Runs (.alarmRead tag first count ack) s fun t => t = { s with out := s.out ++ [.mgmt 2 tag.toNat 3 none []] }) ∧
  (∀ (s : State) (tag : Byte) (first : Nat) (count : Byte) (ack : Bool), s.live = true → s.mgmtAccepts 2 = true → 1 ≤ count.toNat → count.toNat ≤ 32 →
    Runs (.alarmRead tag first count ack) s fun t =>
      t.out = s.out ++ [.mgmt 2 tag.toNat 0 none (((s.ev.alarms.drop first).take count.toNat).flatMap AlEntry.bytes)] ∧
      t.ev = { s.ev with alarms := s.ev.alarms.map (fun a => if ack = true ∧ ((s.ev.alarms.drop first).take count.toNat).any (fun e => e.code == a.code && e.source == a.source) = true
        then { a with isNew := false } else a) }) ∧
  (∀ (s : State) (tag : Byte) (code source : Nat), s.live = true → s.mgmtAccepts 3 = true →
    Runs (.alarmAck tag code source) s fun t => t.out = s.out ++ [.mgmt 3 tag.toNat 0 none []] ∧
      t.ev.alarms = (s.ev.alarms.filter (fun a => !(a.code == code && a.source == source && !a.raised))).map
        (fun a => if a.code = code ∧ a.source = source then { a with isNew := false } else a) ∧ t.ev.ring = s.ev.ring) ∧
  (∀ (s : State) (tag : Byte) (firstSeq : Nat) (count : Byte) (mark : Bool), s.live = true → s.mgmtAccepts 4 = true → 1 ≤ count.toNat → count.toNat ≤ 64 →
    Runs (.eventRead tag firstSeq count mark) s fun t =>
      t.out = s.out ++ [.mgmt 4 tag.toNat 0 none (((s.ev.ring.filter (fun r => decide (firstSeq ≤ r.seq))).take count.toNat).flatMap EvRec.bytes)] ∧
      t.ev.readMark = (if mark then max s.ev.readMark (min (firstSeq - 1) s.ev.lastSeq) else s.ev.readMark) ∧ t.ev.ring = s.ev.ring ∧ t.ev.alarms = s.ev.alarms) ∧
  (∀ (s : State) (tag : Byte) (first : Nat) (count : Byte), s.live = true → s.mgmtAccepts 5 = true → 1 ≤ count.toNat → count.toNat ≤ 16 →
    Runs (.summaryRead tag first count) s fun t => t = { s with out := s.out ++ [.mgmt 5 tag.toNat 0 none
      ((List.range count.toNat).flatMap (fun i => s.ev.sumBytes (codeOfIndex (first + i))))] }) ∧
  (∀ (s : State) (tag : Byte) (seq : Nat) (count : Byte), s.live = true → s.mgmtAccepts 6 = true → 1 ≤ count.toNat → count.toNat ≤ 8 →
    Runs (.ledgerRead tag seq count) s fun t => t = { s with out := s.out ++ [.mgmt 6 tag.toNat 0 none
      (le 1 (s.recordsFrom seq count.toNat).2.length ++ le 1 (s.recordsFrom seq count.toNat).1 ++ zeros 6 ++ (s.recordsFrom seq count.toNat).2.flatten)] }) ∧
  (∀ (s : State) (tag : Byte) (copy : Copy) (final : Bool) (off : Nat) (data : Bytes), s.live = true → s.mgmtAccepts 7 = true → (s.boot.stage = .recoveryMode ∨ s.boot.copy ≠ copy) →
      off % 4096 = 0 → data.length ≤ 4096 → (data.length = 4096 ∨ final = true) → off + data.length ≤ copyLen →
    Runs (.imageWrite tag copy final off data) s fun t => t.nor = norWrite (norErase s.nor (copyBase copy + off) 4096) (copyBase copy + off) data ∧
      t.out = s.out ++ [.mgmt 7 tag.toNat 0 (if final then some (imageStatus (copyRead t.nor copy) s.otp s.isHead) else none) []] ∧ t.boot = s.boot ∧ t.otp = s.otp) ∧
  (∀ (s : State) (tag : Byte) (copy : Copy) (final : Bool) (off : Nat) (data : Bytes), s.live = true → s.boot.stage ≠ .recoveryMode → s.boot.copy = copy →
    Runs (.imageWrite tag copy final off data) s fun t => t = { s with out := s.out ++ [.mgmt 7 tag.toNat 3 none []] }) ∧
  (∀ (s : State) (tag slot : Byte) (digest wrapKey : Bytes), s.live = true → s.strapsOk = true → s.boot.stage = .recoveryMode → slot.toNat < 4 → (s.otp.owner.getD slot.toNat {}).st = 0 →
    Runs (.otpKeyProgram tag slot digest wrapKey true) s fun t => t.otp = { s.otp with owner := s.otp.owner.modify slot.toNat (fun _ => ⟨1, padTo 48 digest, padTo 32 wrapKey⟩) } ∧
      t.out = s.out ++ [.mgmt 10 tag.toNat 0 none []]) ∧
  (∀ (s : State) (tag slot : Byte), s.live = true → s.strapsOk = true → s.boot.stage = .recoveryMode → slot.toNat < 4 →
    Runs (.otpKeyRevoke tag slot true) s fun t => t.otp = { s.otp with owner := s.otp.owner.modify slot.toNat (fun o => { o with st := 2 }) } ∧
      t.out = s.out ++ [.mgmt 10 tag.toNat 0 none []]) ∧
  (∀ (s : State) (tag piece : Byte) (b : Bytes), s.live = true → s.mgmtAccepts 11 = true → s.isHead = false → piece.toNat ≤ 4 → s.healthNow = some b →
    Runs (.healthRead tag piece) s fun t => t = { s with out := s.out ++ [.mgmt 11 tag.toNat 0 none (padTo 4096 (sub b (4096 * piece.toNat) 4096))] }) ∧
  (∀ (s : State) (tag piece : Byte), s.live = true → s.isHead = true →
    Runs (.healthRead tag piece) s fun t => t = { s with out := s.out ++ [.mgmt 11 tag.toNat 3 none []] }) ∧
  (∀ (s : State) (cmd tag : Byte), s.live = true → (cmd = 0 ∨ 0x0C < cmd.toNat) → s.strapsOk = true → s.boot.stage ≠ .recoveryMode →
    Runs (.mctpUnknownCommand cmd tag) s fun t => t = { s with out := s.out ++ [.mgmt cmd.toNat tag.toNat 1 none []] }) ∧
  (∀ (s : State), s.live = true → s.strapsOk = true →
    Runs .getVendorDefinedMessageSupport s fun t => t = { s with out := s.out ++ [.mctpVendor (be 4 Config.ianaNumber)] }) ∧
  (∀ (s : State), s.live = true → s.strapsOk = true → s.ev.alarms.any (·.isNew) = true →
    Runs .smbusAlertResponse s fun t => t = { s with out := s.out ++ [.smbusAlert (s.p p_mgmt_smbus_addr)] })

/-- R22, R89, R90, R338 to R343, R362, R408, R409, R560, R561. Where the limits of a definition fail, COMPLETION 2 is the model's reading (log 60); the clone's identifier is
the model's choice (log 50), as is the stream that holds the records (log 76); what the manager knows of the co-head at BARRIER_START is the model's reading of R58 and R396 (log 93). -/
def Obligations.ArrayControlIsTheManagers : Prop :=
  (∀ (s : State) (tag : Byte) (id e : Nat) (nsids : List Nat), s.ctrlReady = true → s.snapOk id (if e = 0 then s.epn + s.p p_snap_min_lead_epochs else e) nsids = true →
    Runs (.snapshotDefine tag id e nsids) s fun t => s.recorded t (.snapDefine ⟨id, if e = 0 then s.epn + s.p p_snap_min_lead_epochs else e, nsids⟩) ∧ s.ctrlAnswered t tag 0 []) ∧
  (∀ (s : State) (tag : Byte) (id e : Nat) (nsids : List Nat), s.ctrlReady = true → e ≠ 0 → e < s.epn + s.p p_snap_min_lead_epochs →
    Runs (.snapshotDefine tag id e nsids) s fun t => t = { s with out := s.out ++ [.mgmt 0x0C tag.toNat 2 none []] }) ∧
  (∀ (s : State) (tag : Byte) (id : Nat) (x : Snap), s.ctrlReady = true → SMap.get s.head.md.snaps id = some x → x.hidden = false →
    Runs (.snapshotDelete tag id) s fun t => s.recorded t (.snapDelete id) ∧ s.ctrlAnswered t tag 0 []) ∧
  (∀ (s : State) (tag : Byte) (id nsid : Nat) (x : Snap), s.ctrlReady = true → SMap.get s.head.md.snaps id = some x → x.hidden = false → nsid ∈ x.nsids → x.epn ≤ s.epn → SMap.has s.nvme.ns nsid = true →
      s.nvme.ns.length + s.pendingNs.length < 16384 →
    Runs (.snapshotClone tag id nsid) s fun t => s.recorded t (.snapClone id nsid s.newNsid) ∧ s.ctrlAnswered t tag 0 (le 4 s.newNsid)) ∧
  (∀ (s : State) (tag : Byte) (e : UtcSched), s.ctrlReady = true → SMap.has s.head.md.scheds e.snapId = false → 0 < e.periodS → 0 < e.count → e.snapId + e.count ≤ 1048576 → 1 ≤ e.nsids.length → e.nsids.length ≤ 1024 →
    Runs (.utcScheduleEdit tag true e) s fun t => s.recorded t (.schedAdd e) ∧ s.ctrlAnswered t tag 0 []) ∧
  (∀ (s : State) (tag : Byte) (e : UtcSched), s.ctrlReady = true → SMap.has s.head.md.scheds e.snapId = true →
    Runs (.utcScheduleEdit tag false e) s fun t => s.recorded t (.schedRemove e.snapId) ∧ s.ctrlAnswered t tag 0 []) ∧
  (∀ (s : State) (tag : Byte) (site : Fin 64), s.ctrlReady = true → site.val < s.nShelves → s.tolerates site = true → s.isFailed site = false → s.isAbsent site = false →
    Runs (.plannedShelfRestart tag site) s fun t => s.recorded t (.absent site) ∧ t.head.permits = s.head.permits ++ [(tag.toNat, site.val)] ∧ t.out = s.out) ∧
  (∀ (s : State) (tag : Byte) (site : Fin 64), s.ctrlReady = true → site.val < s.nShelves → (s.tolerates site = false ∨ s.isFailed site = true ∨ s.isAbsent site = true) →
    Runs (.plannedShelfRestart tag site) s fun t => t = { s with out := s.out ++ [.mgmt 0x0C tag.toNat 0 (some ST_BOOT_RESTART_REFUSED) []] }) ∧
  (∀ (s : State) (tag : Byte), s.ctrlReady = true → s.peerHeld = true → s.head.md.refolding = false → s.boot.barrier = none →
    Runs (.barrierStart tag) s fun t => t = { s with boot := { s.boot with barrier := some ⟨s.epn + 1, 0, s.time.t, 0⟩ }, out := s.out ++ [.mgmt 0x0C tag.toNat 0 (some 0) []] }) ∧
  (∀ (s : State) (tag : Byte), s.ctrlReady = true → s.seam.peerState = 0 →
    Runs (.managerLeaseMove tag) s fun t => s.recorded t (.leaseMove s.peerSite (s.epn + 3)) ∧ s.ctrlAnswered t tag 0 []) ∧
  (∀ (s : State) (tag : Byte), s.ctrlReady = true → s.seam.peerState ≠ 0 →
    Runs (.managerLeaseMove tag) s fun t => t = { s with out := s.out ++ [.mgmt 0x0C tag.toNat 0 (some ST_SEAM_PEER_NOT_READY) []] }) ∧
  (∀ (s : State) (tag : Byte), s.ctrlReady = true → s.seam.peerState = 0 → (s.stream s.peerSite).mine = true → (s.stream s.peerSite).handback = none →
    Runs (.groupHandback tag) s fun t => s.recorded t (.handback s.peerSite (s.epn + 3)) ∧ s.ctrlAnswered t tag 0 []) ∧
  (∀ (s : State) (tag : Byte), s.live = true → s.mgmtAccepts 0x0C = true → s.isHead = true → s.isManager = false →
    Runs (.groupHandback tag) s fun t => t = { s with out := s.out ++ [.mgmt 0x0C tag.toNat 0 (some ST_SEAM_NOT_MANAGER) []] }) ∧
  (∀ (s : State) (tag : Byte), s.live = true → s.isHead = false →
    Runs (.groupHandback tag) s fun t => t = { s with out := s.out ++ [.mgmt 0x0C tag.toNat 3 none []] })

/-- R113, R114, R562, R563. What SPDM signs is a function the model knows nothing of (log 7); the bytes of NVMe-MI that the spec does not give, what a
boundary scan samples and what an engine's debug port answers are free values (log 6). -/
def Obligations.SpdmNvmeMiAndJtagAnswer : Prop :=
  (∀ s : State, s.mgmtUp = true → s.p p_attest_spdm_enable = 1 →
    Runs .spdmGetVersion s fun t => t = { s with mgmt := { s.mgmt with spdmVersion := true, spdmCaps := false, spdmAlgs := false }, out := s.out ++ [.spdm 0x84 [0x00, 0x13] []] }) ∧
  (∀ s : State, s.mgmtUp = true → s.p p_attest_spdm_enable = 1 → s.mgmt.spdmVersion = true →
    Runs .spdmGetCapabilities s fun t => t = { s with mgmt := { s.mgmt with spdmCaps := true }, out := s.out ++ [.spdm 0xE1 [0x16, 0, 0, 0] []] }) ∧
  (∀ s : State, s.mgmtUp = true → s.p p_attest_spdm_enable = 1 → s.mgmt.spdmCaps = true →
    Runs .spdmNegotiateAlgorithms s fun t => t = { s with mgmt := { s.mgmt with spdmAlgs := true }, out := s.out ++ [.spdm 0xE3 [0x80, 0, 0, 0, 2, 0, 0, 0] []] }) ∧
  (∀ s : State, s.mgmtUp = true → s.p p_attest_spdm_enable = 1 → s.mgmt.spdmAlgs = true →
    Runs .spdmGetDigests s fun t => t = { s with out := s.out ++ [.spdm 0x81 (1#8 :: sha384 spdmChain) []] }) ∧
  (∀ (s : State) (off len : Nat), s.mgmtUp = true → s.p p_attest_spdm_enable = 1 → s.mgmt.spdmAlgs = true →
    Runs (.spdmGetCertificate 0 off len) s fun t => t = { s with out := s.out ++ [.spdm 0x82 (sub spdmChain off len) []] }) ∧
  (∀ (s : State) (slot : Byte) (off len : Nat), s.mgmtUp = true → s.p p_attest_spdm_enable = 1 → s.mgmt.spdmAlgs = true → slot ≠ 0 →
    Runs (.spdmGetCertificate slot off len) s fun t => t = { s with out := s.out ++ [.spdmError 1] }) ∧
  (∀ (s : State) (nonce : Bytes), s.mgmtUp = true → s.p p_attest_spdm_enable = 1 → s.mgmt.spdmAlgs = true →
    Runs (.spdmChallenge nonce) s fun t => ∃ own sig, own.length = 32 ∧ t = { s with free := s.free + 2, out := s.out ++ [.spdm 0x83 (sha384 spdmChain ++ own ++ nonce) sig] }) ∧
  (∀ (s : State) (nonce : Bytes) (signed : Bool), s.mgmtUp = true → s.p p_attest_spdm_enable = 1 → s.mgmt.spdmAlgs = true →
    Runs (.spdmGetMeasurements 0xFF nonce signed) s fun t => ∃ own sig, own.length = 32 ∧ t = { s with free := s.free + 2, out := s.out ++ [.spdm 0xE0
      (s.measBlocks.flatMap (·.2) ++ own) sig] } ∧ (signed = false → sig = [])) ∧
  (∀ (s : State) (r : Bytes) (i : Nat), newestOf s.nor 1 = some (i, r) → (newestOf s.nor 2 = none ∨ s.seam.manager = false) →
    s.measBlocks = [(1, dmtfBlock 1 0 s.ledger.meas.rom), (2, dmtfBlock 2 1 s.ledger.meas.fw), (3, dmtfBlock 3 3 s.ledger.meas.profile),
      (4, dmtfBlock 4 3 s.ledger.meas.param), (5, dmtfBlock 5 3 s.ledger.meas.keyEnv), (6, dmtfBlock 6 3 s.ledger.meas.ystmt),
      (7, if s.p p_attest_raw_records = 1 then dmtfBlock 7 0x83 r else dmtfBlock 7 0x03 (sha384 r))]) ∧
  (∀ s : State, s.mgmtUp = true → s.isHead = true →
    Runs .nvmeMiBasicManagement s fun t => ∃ b, t = { s with free := s.free + 1, out := s.out ++ [.mi 0 b] } ∧ b.length = 32 ∧
      sub b 0 1 = le 1 6 ∧ sub b 2 3 = le 1 (255 - s.miWarning) ++ le 1 s.miTemp ++ le 1 s.wearUsed) ∧
  (∀ (s : State) (cntlid : Nat), s.mgmtUp = true → s.isHead = true →
    Runs (.nvmeMiReadDataStructure 2 cntlid) s fun t => t = { s with out := s.out ++ [.mi 1 (ctrlList s.hpCtrls cntlid)] }) ∧
  (∀ s : State, s.mgmtUp = true → s.isHead = true →
    Runs .nvmeMiSubsystemHealthPoll s fun t => ∃ b, t = { s with free := s.free + 1, out := s.out ++ [.mi 2 b] } ∧ b.length = 8 ∧
      sub b 1 3 = le 1 (255 - s.miWarning) ++ le 1 s.miTemp ++ le 1 s.wearUsed) ∧
  (∀ (s : State) (first : Nat), s.mgmtUp = true → s.isHead = true →
    Runs (.nvmeMiControllerHealthPoll first) s fun t => ∃ b n, t = { s with free := n, out := s.out ++ [.mi 3 b] } ∧ b.length = 16 * (s.hpCtrls.filter (fun c => decide (first ≤ c))).length) ∧
  (∀ (s : State) (config : Nat), s.mgmtUp = true → s.isHead = true →
    Runs (.nvmeMiConfigurationGet config) s fun t => ∃ b, t = { s with free := s.free + 1, out := s.out ++ [.mi 4 b] } ∧ b.length = 4) ∧
  (∀ s : State, Runs .jtagBypass s fun t => t = { s with jtag := { s.jtag with ir := .bypass }, out := s.out ++ [.jtag 1 0] }) ∧
  (∀ s : State, Runs .jtagIdcode s fun t => ∃ v, t = { s with jtag := { s.jtag with ir := .idcode }, out := s.out ++ [.jtag 32 v] } ∧
    v / 2 ^ 28 = 1 ∧ v / 2 ^ 12 % 2 ^ 16 = 0x7264 ∧ v / 2 % 2 ^ 11 = Config.jedecId % 2 ^ 11) ∧
  (∀ (s : State) (pattern : Nat), Runs (.jtagSamplePreload pattern) s fun t => ∃ v,
    t = { s with jtag := { s.jtag with ir := .samplePreload, boundary := pattern }, free := s.free + 1, out := s.out ++ [.jtag 0 v] }) ∧
  (∀ (s : State) (pattern : Nat), Runs (.jtagExtest pattern) s fun t => if s.pins.porN then t = s else ∃ v,
    t = { s with jtag := { s.jtag with ir := .extest, boundary := pattern }, free := s.free + 1, out := s.out ++ [.jtag 0 v] }) ∧
  (∀ (s : State) (pattern : Nat), Runs (.jtagExtestPulse pattern) s fun t => if s.pins.porN then t = s else ∃ v,
    t = { s with jtag := { s.jtag with ir := .extestPulse, boundary := pattern }, free := s.free + 1, out := s.out ++ [.jtag 0 v] }) ∧
  (∀ (s : State) (pattern : Nat), Runs (.jtagExtestTrain pattern) s fun t => if s.pins.porN then t = s else ∃ v,
    t = { s with jtag := { s.jtag with ir := .extestTrain, boundary := pattern }, free := s.free + 1, out := s.out ++ [.jtag 0 v] }) ∧
  (∀ (s : State) (request : Nat), Runs (.jtagEngineDebug request) s fun t =>
    if s.live = true ∧ s.boot.stage = .recoveryMode then ∃ v,
      t = { s with jtag := { s.jtag with ir := .engineDebug, boundary := request }, free := s.free + 1, out := s.out ++ [.jtag 0 v] }
    else t = s)

/-- R451, R453, R454, R470, R500, R602, R604, R608, R610 to R612, R614, R617, R628, R629. -/
def Obligations.RailsDomainsClocksAndPowerFailure : Prop :=
  (∀ (s : State) (r : Fin 11) (mv : Nat), s.live = true → ¬ (r.val = 10 ∧ mv = 0) → (s.railUnder r mv = true ∨ s.railOver r mv = true) → r.val ∉ [0, 1, 5, 6] →
    Runs (.railFault r mv) s fun t => t.power = { s.power with railFault := s.power.railFault ||| (1#11 <<< r.val) } ∧ t.raised AL_POWER_RAIL (srcOf 0 r)) ∧
  (∀ (s : State) (r : Fin 11) (mv : Nat), s.live = true → s.railUnder r mv = true → r.val ∈ [0, 1, 5, 6] →
    Runs (.railFault r mv) s fun t => t.power.railFault = s.power.railFault ||| (1#11 <<< r.val) ∧ t.raised AL_POWER_RAIL (srcOf 0 r) ∧ t.power.pfAsserted = true) ∧
  (∀ (s : State) (r : Fin 11) (mv : Nat), s.live = true → s.railUnder r mv = false → s.railOver r mv = false →
    Runs (.railFault r mv) s fun t => t = s) ∧
  (∀ (s : State) (r : Fin 11), s.live = true →
    Runs (.railWithinWindow r) s fun t => ¬ t.raised AL_POWER_RAIL (srcOf 0 r) ∧ t.power = s.power) ∧
  (∀ (s : State) (d : Fin 50), s.live = true → 18 ≤ d.val → d.val ≤ 27 →
    Runs (.pdOffReq d) s fun t => t = { s with power := { s.power with pd := s.power.pd.set d { s.power.pd.getD d {} with offReq := true } } }) ∧
  (∀ (s : State) (d : Fin 50), s.live = true → 18 ≤ d.val → d.val ≤ 27 →
    Runs (.pdOnReq d) s fun t => t = { s with power := { s.power with pd := s.power.pd.set d { s.power.pd.getD d {} with offReq := false } } }) ∧
  (∀ (s : State) (d : Fin 50), (d.val < 18 ∨ 27 < d.val) →
    Runs (.pdOffReq d) s (fun t => t = s) ∧ Runs (.pdOnReq d) s (fun t => t = s)) ∧
  (∀ s : State, s.live = true → s.power.throttledBudget = true →
    Runs .powerBudgetAlarm s fun t => t.raised AL_POWER_BUDGET 0 ∧ t.power = s.power) ∧
  (∀ s : State, s.pins.porN = true → s.pins.sysclk = true →
    Runs (.clockInputLoss 0) s fun t => t.pins = { s.pins with sysclk := false } ∧ t.raised AL_POWER_CLOCK 0 ∧ t.live = false) ∧
  (∀ s : State, s.fw = true → s.isHead = true → s.pins.hpClk = true → s.nvme.hpUp = true →
    Runs (.clockInputLoss 3) s fun t => t.pins = { s.pins with hpClk := false } ∧ t.raised AL_POWER_CLOCK 0 ∧ t.nvme.hpUp = false ∧ t.raised AL_NVME_LINK_DEGRADED 0) ∧
  (∀ (s : State) (p : Fin 64), s.fw = true → s.isHead = true → s.pins.sds0 = true → p.val < 56 → s.portThere p = true → (s.portOf p).linked = true → s.port.length = 64 →
    Runs (.clockInputLoss 1) s fun t => t.pins = { s.pins with sds0 := false } ∧ t.raised AL_POWER_CLOCK 0 ∧ (t.portOf p).state = 1) ∧
  (∀ s : State, s.pins.porN = true → s.pins.hpClk = false → s.pins.sysclk = true → s.pins.sds0 = true → s.pins.sds1 = true →
    Runs (.clockInputRestored 3) s fun t => t.pins = { s.pins with hpClk := true } ∧ ¬ t.raised AL_POWER_CLOCK 0) ∧
  (∀ s : State, s.pins.porN = true → s.pins.sds0 = false → s.pins.sds1 = false →
    Runs (.clockInputRestored 1) s fun t => t = { s with pins := { s.pins with sds0 := true } }) ∧
  (∀ s : State, s.live = true → s.power.pfAsserted = false → s.isShelf = false →
    Runs .powerFailNAssert s fun t => t.power = { s.power with pfAsserted := true } ∧ t.hem.pf = .asserted ∧ t.eng = s.eng.map (fun e => { e with parked := true }) ∧
      ∀ i ∈ [0, 1], ∀ e ∈ (t.stream i).bundles, (e.2.sealHdr.isSome = true → e.2.durSeal = true) ∧ (e.2.bodyHdr.isSome = true → e.2.durBody = true) ∧
        (e.2.bodied = true → e.2.durBatch = true)) ∧
  (∀ (s : State), s.live = true → s.power.pfAsserted = false → s.isShelf = true → s.sh.plb.any (fun i => i.safe) = true → s.sh.dumpErased = [true, true] →
    Runs .powerFailNAssert s fun t => t.power.pfAsserted = true ∧ t.hem.pf = .asserted ∧ t.sh.dumping = true ∧ t.sh.dumpErased = [false, true] ∧ t.sh.plb = s.sh.plb.filter (·.safe)) ∧
  (∀ s : State, s.live = true → s.isShelf = true → s.sh.dumping = true →
    Runs .dumpDone s fun t => t.sh = { s.sh with dumping := false, dumpPending := true } ∧ t.keep.dump = s.sh.plb ∧
      t.keep.records = s.keep.records ++ [.dump (s.sh.plb.foldl (fun a i => a + i.sectors) 0) s.keep.seq] ∧ t.keep.seq = s.keep.seq + s.sh.plb.foldl (fun a i => a + i.sectors) 0) ∧
  (∀ s : State, s.live = true → s.power.pfAsserted = true → s.isShelf = false →
    Runs .powerFailNRelease s fun t => t.power.pfAsserted = false ∧ t.power.resuming = true ∧ t.eng = s.eng.map (fun e => { e with parked := decide (e.exc ≠ 0) })) ∧
  (∀ s : State, s.live = true → s.power.pfAsserted = true → s.isShelf = true →
    Runs .powerFailNRelease s fun t => t.power = { s.power with pfAsserted := false } ∧ t.sh = s.sh ∧ t.keep = s.keep) ∧
  (∀ s : State, s.live = true → s.hem.pf = .asserted →
    Runs .holdupMet s fun t => t = { s with hem := { s.hem with pf := .met } }) ∧
  (∀ s : State, s.shelfUp = true →
    Runs .healthRecordWrite s fun t => t.sh.health.gen = s.sh.health.gen + 1 ∧ t.sh.health.hourIndex = s.sh.health.hourIndex + 1 ∧
      t.sh.health.pairs = ((s.sh.health.hourMin, s.sh.health.hourMax) :: s.sh.health.pairs).take 8760 ∧ t.keep.health = t.sh.health ∧
      t.nor = norWrite (norErase s.nor (if (s.sh.health.gen + 1) % 2 = 0 then 0xC007000 else 0xC002000) 20480)
        (if (s.sh.health.gen + 1) % 2 = 0 then 0xC007000 else 0xC002000) (t.sh.health.bytes t.healthEntry))

/-- R126, R350, R351. -/
def Obligations.TheParityEngineEncodesReconstructsAndChecks : Prop :=
  (∀ (s s1 : State) (n : Nat) (j : Job) (bufs : List Bytes), s.unitRuns n 7 1 j → (s.dmaRead (paList j.desc) 192).1 = 0 → (s.dmaRead (paList j.desc) 192).2.2 = s → s.paWild j.desc = false → paReadGo j.desc (paUsed j.desc) s [] = (0, bufs, s1) →
    Runs (.parityEncode n) s fun t =>
      t.mem = ((paWant j.desc).foldl (fun acc w => acc.dmaWrite (acc.paBuf j.desc w) (parityOf (paK j.desc) (paLen j.desc) (w - paK j.desc) bufs)) s1).mem ∧
      t.ended n j 0 (paLen j.desc * paK j.desc) (paLen j.desc * (paWant j.desc).length)) ∧
  (∀ (s s1 : State) (n : Nat) (j : Job) (bufs : List Bytes), s.unitRuns n 7 2 j → (s.dmaRead (paList j.desc) 192).1 = 0 → (s.dmaRead (paList j.desc) 192).2.2 = s → s.paWild j.desc = false → paReadGo j.desc (paUsed j.desc) s [] = (0, bufs, s1) →
    Runs (.parityReconstruct n) s fun t =>
      t.mem = ((paWant j.desc).foldl (fun acc w => acc.dmaWrite (acc.paBuf j.desc w) (memberFrom (paK j.desc) (paLen j.desc) (paUsed j.desc) bufs w)) s1).mem ∧
      t.ended n j 0 (paLen j.desc * paK j.desc) (paLen j.desc * (paWant j.desc).length)) ∧
  (∀ (s s1 s2 : State) (n : Nat) (j : Job) (bufs have' : List Bytes), s.unitRuns n 7 3 j → (s.dmaRead (paList j.desc) 192).1 = 0 → (s.dmaRead (paList j.desc) 192).2.2 = s → s.paWild j.desc = false → paReadGo j.desc (paUsed j.desc) s [] = (0, bufs, s1) →
      paReadGo j.desc (paWant j.desc) s1 [] = (0, have', s2) →
      (∀ e ∈ (paWant j.desc).zip have', memberFrom (paK j.desc) (paLen j.desc) (paUsed j.desc) bufs e.1 = e.2) →
    Runs (.parityCheck n) s fun t => t.mem = (s2.dmaWrite (paResult j.desc) (zeros 8)).mem ∧ t.parity = s.parity ∧
      t.ended n j 0 (paLen j.desc * ((paUsed j.desc).length + (paWant j.desc).length)) 0) ∧
  (∀ (s s1 s2 : State) (n : Nat) (j : Job) (bufs have' : List Bytes), s.unitRuns n 7 3 j → (s.dmaRead (paList j.desc) 192).1 = 0 → (s.dmaRead (paList j.desc) 192).2.2 = s → s.paWild j.desc = false → paReadGo j.desc (paUsed j.desc) s [] = (0, bufs, s1) →
      paReadGo j.desc (paWant j.desc) s1 [] = (0, have', s2) →
      (∃ e ∈ (paWant j.desc).zip have', memberFrom (paK j.desc) (paLen j.desc) (paUsed j.desc) bufs e.1 ≠ e.2) →
    Runs (.parityCheck n) s fun t => t.parity = { s.parity with mismatches := satInc 16 s.parity.mismatches } ∧
      t.ended n j ST_PARITY_MISMATCH (paLen j.desc * ((paUsed j.desc).length + (paWant j.desc).length)) 0)

/-- R58, R321, R324, R337, R339, R340, R343, R349, R361 to R371. What a pass reads from shelves comes with its command (log 55). -/
def Obligations.ThePassesMoveRebuildAndRecord : Prop :=
  (∀ (s : State) (domain : Nat) (fp : Bytes) (r : RepairReq), s.headUp = true → r ∈ s.head.repairs → r.domain = domain → r.fp = fp → r.startT + s.p p_read_repair_timeout_ms * 100000 ≤ s.time.t →
    Runs (.partnerRepairTimeout domain fp) s fun t => t.repl.repairsFailed = s.repl.repairsFailed + 1 ∧ (∀ x ∈ t.head.repairs, ¬ (x.domain = domain ∧ x.fp = fp))) ∧
  (∀ (s : State) (i : Fin 2) (kind page stripe strip g a b : Nat) (s1 : State), s.headUp = true → 1 ≤ kind → kind ≤ 3 → s.pageStream kind page = i.val → SMap.has s.head.md.dirty (kind * 2 ^ 60 + page) = true →
      s.placeFor i true (pad64 (pf1Stream true (s.head.md.pageBytes kind page))).length = some (stripe, strip, g) →
      s.sendMeta i (min s.head.st0.replayed s.head.st1.replayed) (kind * 2 ^ 60 + page) (pad64 (pf1Stream true (s.head.md.pageBytes kind page))) = some (a, b, s1) →
    Runs (.mapPageWrite i kind page) s fun t => t = s1.setMd { s1.head.md with dirty := SMap.del s1.head.md.dirty (kind * 2 ^ 60 + page) }) ∧
  (∀ (s : State) (entry : Nat) (e : UtcSched) (k : Nat), s.isManager = true → SMap.get s.head.md.scheds entry = some e → SMap.getD s.head.md.schedDone entry 0 = k → k < e.count →
      (∀ d, .manager (.snapDefine d) ∈ (s.stream s.mgrStream).sealQueue → d.id ≠ e.snapId + k) → (instantOf e k : Int) < s.utcNow + 100000000 → s.snapOk (e.snapId + k) (s.utcEpn (instantOf e k)) e.nsids = true →
    Runs (.snapshotScheduleInstance entry) s fun t => s.recorded t (.snapDefine ⟨e.snapId + k, s.utcEpn (instantOf e k), e.nsids⟩)) ∧
  (∀ (s : State) (id nsid page : Nat) (p : Pres), s.isManager = true → p ∈ s.head.md.pres → p.nsIndex + 1 = nsid → p.chunkNo / 4096 = page → s.head.md.visible p.nsIndex p.leaf.birth p.death = false →
      (∀ i, .manager (.snapRelease i nsid page) ∉ (s.stream s.mgrStream).sealQueue) → s.head.releaseAt ≤ s.time.t →
    Runs (.snapshotReleaseStep id nsid page) s fun t => s.recorded t (.snapRelease id nsid page)) ∧
  (∀ (s : State) (site : Fin 64) (d : Nat), s.isManager = true → site.val < s.nShelves → (s.shelf site).downSince = some d → d + s.p p_glade_fail_ms * 100000 ≤ s.time.t → s.isFailed site = false →
      .manager (.fail site) ∉ (s.stream s.mgrStream).sealQueue →
    Runs (.shelfLinkLossFail site) s fun t => .manager (.fail site) ∈ (t.stream s.mgrStream).sealQueue ∧
      .manager (.spareSet (s.sites.filter (fun x => x != site.val && s.accepts x))) ∈ (t.stream s.mgrStream).sealQueue ∧ t.head.md = s.head.md) ∧
  (∀ (s : State) (site : Fin 64) (since : Nat), s.isManager = true → (site.val, since) ∈ s.head.md.absent → since + s.p p_darn_planned_grace_s * 100000000 ≤ s.time.t → s.isFailed site = false →
      .manager (.fail site) ∉ (s.stream s.mgrStream).sealQueue →
    Runs (.plannedAbsenceExpiry site) s fun t => .manager (.fail site) ∈ (t.stream s.mgrStream).sealQueue ∧ t.head.md = s.head.md) ∧
  (∀ (s : State) (i : Fin 2) (reads : List StripRead) (id m site : Nat) (ms : List Nat) (r : StripeRec), s.headUp = true → (s.stream i).mine = true → 0 < s.p p_darn_rate_gbps → s.darnNext i = some (id, r) →
      s.darnMembers i id r = m :: ms → r.missing ≠ 0 → (decide (m < r.k) && bit r.empty m) = false → r.gone reads = [] → s.darnTarget id m r = some site →
    Runs (.darningRebuildStrip i reads) s fun t => t = (s.setDarn i { s.darn i with
      cursor := id, tier := r.tier, moved := true, waiting := (s.darn i).waiting ++ [(id, m, site)] }).sendStrip id m site r true (r.rebuild reads m)) ∧
  (∀ (s : State) (i : Fin 2) (reads : List StripRead) (id m site : Nat) (ms : List Nat) (r : StripeRec), s.headUp = true → (s.stream i).mine = true → 0 < s.p p_darn_rate_gbps → s.darnNext i = some (id, r) →
      s.darnMembers i id r = m :: ms → m < r.k → bit r.empty m = true → s.darnTarget id m r = some site →
    Runs (.darningRebuildStrip i reads) s fun t => t = (s.setDarn i { s.darn i with cursor := id, tier := r.tier, moved := true }).recordMember id m site) ∧
  (∀ (s : State) (i : Fin 2) (reads : List StripRead) (id m : Nat) (ms : List Nat) (r : StripeRec), s.headUp = true → (s.stream i).mine = true → 0 < s.p p_darn_rate_gbps → s.darnNext i = some (id, r) →
      s.darnMembers i id r = m :: ms → r.missing ≠ 0 → (decide (m < r.k) && bit r.empty m) = false → r.gone reads ≠ [] →
    Runs (.darningRebuildStrip i reads) s fun t => t = (s.recordLost id (r.gone reads)).setDarn i { s.darn i with skipped := (s.darn i).skipped ++ [id] }) ∧
  (∀ (s : State) (i : Fin 2) (chunkId id : Nat) (img : Bytes) (c : ChunkRec), s.headUp = true → (s.stream i).mine = true → 0 < s.p p_refold_rate_gbps → s.refoldNext i = some id →
      s.head.md.chunk chunkId = some c → c.stripeId = id → c.live = true → c.lost = false → c.pending = false → img.length = c.imageLen → s.moving i chunkId = false →
    Runs (.refoldRelocate i chunkId img) s fun t => t = s.packImage i chunkId img)

/-- R46, R384, R385, R387, R391, R395 to R398, R401, R404. The link of the Seam, and the two heartbeat paths; the link's shares: log 77. -/
def Obligations.TheSeamLinkAndTheHeartbeatPaths : Prop :=
  (∀ s : State, s.seamOn = true → s.seam.linkUp = true →
    Runs .seamFlitBad s fun t => t = { s with out := s.out ++ [.seamNak (s.seam.rxSeq % 2 ^ 24)] }) ∧
  (∀ (s : State) (seq : Fin 16777216) (first flits : Nat) (m : SeamMsg), s.seamOn = true → s.seam.linkUp = true → (first, flits, m) ∈ s.seam.replay →
      (seq.val + 2 ^ 24 - first % 2 ^ 24) % 2 ^ 24 < flits →
    Runs (.seamFlitNak seq) s fun t => t = { s with out := s.out ++ [.seamResend seq] }) ∧
  (∀ (s : State) (lane : Fin 16), s.seamOn = true → s.seam.lanesUp.getLsbD lane = true →
    Runs (.seamLaneRetire lane) s fun t => t.seam = { s.seam with
        lanesUp := s.seam.lanesUp &&& ~~~(1#16 <<< lane.val), linkUp := decide (s.p p_seam_min_lanes ≤ laneCount (s.seam.lanesUp &&& ~~~(1#16 <<< lane.val))),
        waiting := if s.p p_seam_min_lanes ≤ laneCount (s.seam.lanesUp &&& ~~~(1#16 <<< lane.val)) then s.seam.waiting else [] } ∧
      t.ev.alarms = s.ev.alarms) ∧
  (∀ (s : State) (lanes : BitVec 16), s.seamOn = true →
    Runs (.seamLinkUp lanes) s fun t => t = { s with seam := { s.seam with
      txSeq := 0, rxSeq := 0, replay := [], waiting := [], lanesUp := lanes, linkUp := decide (s.p p_seam_min_lanes ≤ laneCount lanes) } }) ∧
  (∀ (s : State) (i : Fin 2) (n : Nat) (h : BundleHdr), s.seamOn = true → s.seam.linkUp = true → (s.stream i).owns n = true → (s.bundle i n).sealHdr = some h →
    Runs (.seamResendReq i n 1) s fun t => (s.rxSeam (.resendReq 1)).seamFirst t i n (.sect h (s.bundle i n).sealItems) ∧ t.head = s.head) ∧
  (∀ (s : State) (i : Fin 2) (n : Nat) (h : BundleHdr), s.seamOn = true → s.seam.linkUp = true → (s.stream i).owns n = true → (s.bundle i n).bodyHdr = some h →
    Runs (.seamResendReq i n 2) s fun t => (s.rxSeam (.resendReq 2)).seamFirst t i n (.sect h (s.bundle i n).bodyItems) ∧ t.head = s.head) ∧
  (∀ (s : State) (len : Nat), s.seamOn = true → s.seam.linkUp = true →
    Runs (.seamUnknownType len) s fun t => t.seam = { s.seam with rxSeq := s.seam.rxSeq + (32 + len + 239) / 240 } ∧ t.head = s.head ∧ t.hem = s.hem ∧ t.ev.alarms = s.ev.alarms) ∧
  (∀ (s : State) (h : Heartbeat), s.seamOn = true → s.seam.linkUp = true → s.time.tSet = true → s.time.state ≠ .peer →
    Runs (.seamHeartbeat h) s fun t => t.seam.peerTime = some h.timeState ∧ t.seam.peerState = s.peerStateBy h.state ∧ t.seam.lastT1 = h.t1 ∧ t.seam.lastRx = s.time.t ∧
      t.seam.peerSealed = max s.seam.peerSealed h.sealed ∧ t.seam.hbEpnA = max s.seam.hbEpnA (s.epnAt h.t1 + 1) ∧ t.time.t = s.time.t ∧
      (h.t2Echo ≠ 0 → t.time.skewNs = min ((((h.t2Echo : Int) - h.t3Echo) - ((s.time.t : Int) - h.t1)) / 2 * 10).natAbs 0xFFFF)) ∧
  (∀ s : State, s.headUp = true → s.p p_seam_hb_loss_epochs ≤ s.seam.silentB → s.p p_seam_hb_loss_epochs ≤ s.seam.heardA →
    Runs .hbLossPathB s fun t => t.raised AL_SEAM_PATH_B_LOST 0 ∧ t.seam = s.seam ∧ t.head = s.head) ∧
  (∀ s : State, s.headUp = true → s.p p_seam_hb_loss_epochs ≤ s.seam.silentA → s.p p_seam_hb_loss_epochs ≤ s.seam.heardB → s.seam.manager = true →
    Runs .hbLossPathA s fun t => t.raised AL_SEAM_LINK_DOWN 0 ∧ t.seam = s.seam ∧ t.head = s.head) ∧
  (∀ s : State, s.headUp = true → s.p p_seam_hb_loss_epochs ≤ s.seam.silentA → s.p p_seam_hb_loss_epochs ≤ s.seam.heardB → s.seam.manager = false → s.seam.standing = false →
    Runs .hbLossPathA s fun t => t.raised AL_SEAM_LINK_DOWN 0 ∧ t.seam = { s.seam with standing := true, own := 1 } ∧
      (∀ i, i < 2 → (s.stream i).mine = true → (s.stream i).admitUntil = none → (t.stream i).admitUntil = some (s.epn + 1))) ∧
  (∀ (s : State) (b : Bool), s.seamOn = true → 64 ≤ (if b then s.seam.heardB else s.seam.heardA) →
    Runs (.hbPathRestored b) s fun t => ¬ t.raised (if b then AL_SEAM_PATH_B_LOST else AL_SEAM_LINK_DOWN) 0 ∧ t.seam = s.seam) ∧
  (∀ s : State, s.headUp = true → s.p p_seam_hb_loss_epochs ≤ s.seam.silent → s.seam.claim = none → s.peerStreams ≠ [] →
    Runs .peerLost s fun t => t.raised AL_SEAM_PEER_LOST 0 ∧ t.seam.peerState = 1 ∧
      t.seam.claim = some { epn := s.epn, gen := s.seam.leaseGen + 1, streams := (s.peerStreams.foldl State.fenceStream s).lostStreams } ∧ t.seam.leaseGen = s.seam.leaseGen) ∧
  (∀ s : State, s.headUp = true → s.p p_seam_hb_loss_epochs ≤ s.seam.silent → s.seam.claim = none → s.peerStreams = [] → s.peerUp = true →
    Runs .peerLost s fun t => t.raised AL_SEAM_PEER_LOST 0 ∧ t.seam.peerState = 1 ∧
      t.seam.claim = some { epn := s.epn, gen := s.seam.leaseGen + 1, streams := [] } ∧ t.seam.leaseGen = s.seam.leaseGen) ∧
  (∀ (s : State) (site : Fin 2) (count : Nat), s.headUp = true → s.p p_seam_suspect_limit ≤ s.suspectCount site + count → site.val ≠ s.site →
    Runs (.suspectDeclare site count) s fun t => t.raised AL_SEAM_SUSPECT (srcOf 10 site) ∧ t.seam = (s.countReports site count).seam ∧ t.head = s.head) ∧
  (∀ (s : State) (site : Fin 2) (count : Nat), s.headUp = true → s.p p_seam_suspect_limit ≤ s.suspectCount site + count → site.val = s.site → s.seam.standing = false →
    Runs (.suspectDeclare site count) s fun t => t.raised AL_SEAM_SUSPECT (srcOf 10 site) ∧
      t.seam = { (s.countReports site count).seam with thenRestart := decide (s.p p_seam_suspect_restart = 1), standing := true, own := 1 })

/-- R26, R180, R189, R232, R385, R391, R392, R407. Sections and messages of the peer; the link's shares: log 77. -/
def Obligations.SectionsOfThePeerAreTakenOrRefused : Prop :=
  (∀ (s : State) (i : Fin 2) (hdrOk : Bool) (h : BundleHdr) (items : List Item), s.replaying = true → (s.stream i).owns h.epn = false → s.peerThere = true →
      (s.stream i).accepts i hdrOk h items false = true →
    Runs (.sealSection i hdrOk h items) s fun t => t.stream i = { s.stream i with
        bundles := SMap.set (s.stream i).bundles h.epn { sealItems := items, sealed := true, sealHdr := some h, firstSsn := h.firstSsn, ssnCount := h.ssnCount, commands := h.commands, released := h.releasedSeq, sealT := h.arrayTime },
        sealSeen := h.epn, prevDigest := h.sectionDigest, badOnce := (s.stream i).badOnce.filter (· != (h.epn, 1)), awaitSeal := (s.stream i).awaitSeal && decide (h.epn + 1 < (s.stream i).admitFrom),
        epochFirst := h.firstSsn + h.ssnCount, nextSsn := h.firstSsn + h.ssnCount, sealOnly := (s.stream i).sealOnly ++ s.sealRuns h.epn (sealCmds items) } ∧
      t.head.md = s.head.md ∧ t.out = s.out) ∧
  (∀ (s : State) (i : Fin 2) (hdrOk : Bool) (h : BundleHdr) (items : List Item), s.replaying = true → (s.stream i).owns h.epn = false → s.peerThere = true →
      (s.stream i).accepts i hdrOk h items false = false → (h.epn, 1) ∉ (s.stream i).badOnce → s.seam.linkUp = true →
    Runs (.sealSection i hdrOk h items) s fun t => (h.epn, 1) ∈ (t.stream i).badOnce ∧ (t.stream i).sealSeen = (s.stream i).sealSeen ∧
      (s.rxSeam (.sect h items)).seamFirst t i h.epn (.resendReq 1)) ∧
  (∀ (s : State) (i : Fin 2) (hdrOk : Bool) (h : BundleHdr) (items : List Item), s.replaying = true → (s.stream i).owns h.epn = false → s.peerThere = true →
      (s.stream i).accepts i hdrOk h items false = false → (h.epn, 1) ∈ (s.stream i).badOnce →
    Runs (.sealSection i hdrOk h items) s fun t => t.raised AL_SEAM_BUNDLE_BAD 0 ∧ t.seam.own = 3 ∧ t.replaying = false) ∧
  (∀ (s : State) (i : Fin 2) (hdrOk : Bool) (h : BundleHdr) (items : List Item), s.replaying = true → (s.stream i).owns h.epn = false → s.peerThere = true →
      (s.stream i).accepts i hdrOk h items true = true →
    Runs (.bodySection i hdrOk h items) s fun t => (t.stream i).bodySeen = h.epn ∧ (t.stream i).prevDigest = h.sectionDigest ∧ (h.epn, 2) ∉ (t.stream i).badOnce ∧
      (batchItem items 0 = none → t.seam.own = 3 ∧ t.raised AL_SEAM_REPLAY_DIVERGE 0)) ∧
  (∀ (s : State) (i : Fin 2) (hdrOk : Bool) (h : BundleHdr) (items : List Item), s.replaying = true → (s.stream i).owns h.epn = false → s.peerThere = true →
      (s.stream i).accepts i hdrOk h items true = false → (h.epn, 2) ∉ (s.stream i).badOnce → s.seam.linkUp = true → s.p p_repl_role = 0 →
    Runs (.bodySection i hdrOk h items) s fun t => (h.epn, 2) ∈ (t.stream i).badOnce ∧ (t.stream i).replayed = (s.stream i).replayed ∧
      (s.rxSeam (.sect h items)).seamFirst t i h.epn (.resendReq 2)) ∧
  (∀ (s : State) (e0 e1 n : Nat) (b : Bundle) (h : BundleHdr), s.headUp = true → s.seam.linkUp = true → (n, b) ∈ (s.stream 0).bundles → s.bundle 0 n = b → e0 ≤ n → b.sealHdr = some h →
    Runs (.catchupReq e0 e1) s fun t => t.seam.peerState = 2 ∧ t.head = s.head ∧ ((∃ q a l w, .seam q a l w (s.seamMsg 0 n (.sect h b.sealItems)) ∈ t.out) ∨ s.seamMsg 0 n (.sect h b.sealItems) ∈ t.seam.waiting)) ∧
  (∀ (s : State) (cmd : CmdId) (op : FwdOp) (pi : List PiBlock), s.headUp = true → (s.stream (s.nsStream (opNsid op))).takes s.epn = true →
    Runs (.fwdCmd cmd op pi) s fun t => t.stream (s.nsStream (opNsid op)) = { s.stream (s.nsStream (opNsid op)) with
        waiting := (s.stream (s.nsStream (opNsid op))).waiting ++ [{ cmd := cmd, fromPeer := true, op := op, pi := pi }] } ∧ t.out = s.out) ∧
  (∀ (s : State) (cmd : CmdId) (st : NvmeSt) (dw0 : Nat), s.seamOn = true → cmd ∈ s.nvme.fwd → s.cqReady cmd = true → s.power.pfAsserted = false → s.silenced = false →
    Runs (.fwdDone cmd st dw0) s fun t => s.answered t cmd st dw0 [] ∧ t.nvme.fwd = s.nvme.fwd.filter (· != cmd)) ∧
  (∀ (s : State) (cmd : CmdId) (dw0 : Nat), s.seamOn = true → cmd ∈ s.nvme.fwd → s.silencedFor ((s.ctrl cmd.cntlid).cqOf cmd.sqid) nvOk = true →
    Runs (.fwdDone cmd nvOk dw0) s fun t => t.out = s.out ∧ t.nvme.fwd = s.nvme.fwd.filter (· != cmd)) ∧
  (∀ (s : State) (cmd : CmdId) (st : NvmeSt) (dw0 : Nat), s.seamOn = true → cmd ∉ s.nvme.fwd →
    Runs (.fwdDone cmd st dw0) s fun t => t.out = s.out ∧ t.nvme = s.nvme) ∧
  (∀ (s : State) (record : Bytes), s.leads = true → s.ledger.collecting = true →
      (∀ x ∈ s.ledger.collected, x.role = 0 → x.site = s.peerSite → x.seq = recSeq record) →
      State.allCollected { s with ledger := { s.ledger with collected := s.ledger.collected.filter (fun x => !(x.role == 0 && x.site == s.peerSite)) ++ [⟨0, s.peerSite, s.recordStatus record, recSeq record, record⟩] } } = false →
    Runs (.ledgerRec record) s fun t => t.ledger = { s.ledger with
      collected := s.ledger.collected.filter (fun x => !(x.role == 0 && x.site == s.peerSite)) ++ [⟨0, s.peerSite, s.recordStatus record, recSeq record, record⟩] } ∧ t.nor = s.nor)

/-- R27, R192, R332, R334, R337, R385. Reads served for the peer or by it, and repairs; the link's shares: log 77. -/
def Obligations.ReadsAndRepairsCrossTheSeam : Prop :=
  (∀ (s : State) (cmd : CmdId) (nsid slba : Nat), s.headUp = true → s.seam.linkUp = true →
    Runs (.fwdRead cmd nsid slba 0) s fun t => (s.rxSeam (.fwdRead cmd nsid slba 0)).seamSent t 255 s.epn (.readData cmd nvOk (s.resvReport nsid (slba == 1)))) ∧
  (∀ (s : State) (cmd : CmdId) (nsid slba nlb : Nat), s.headUp = true → s.seam.linkUp = true → 0 < nlb → s.mayRead nsid cmd.cntlid = false →
    Runs (.fwdRead cmd nsid slba nlb) s fun t => t.head = s.head ∧ (s.rxSeam (.fwdRead cmd nsid slba nlb)).seamSent t 255 s.epn (.readData cmd nvConflict [])) ∧
  (∀ (s : State) (cmd : CmdId) (nsid slba nlb : Nat), s.headUp = true → s.seam.linkUp = true → 0 < nlb → s.mayRead nsid cmd.cntlid = true → s.psAdmits = false →
    Runs (.fwdRead cmd nsid slba nlb) s fun t => t.head = { s.head with reads := s.head.reads ++
      [{ cmd := cmd, kind := .read false, nsid := nsid, slba := slba, nlb := nlb, fromPeer := true, held := true }] } ∧ t.out = s.out) ∧
  (∀ (s : State) (cmd : CmdId) (nsid slba nlb : Nat) (n : Ns) (parts : List (Nat × PartSt)) (r : WaitRead), s.headUp = true → s.seam.linkUp = true → 0 < nlb → s.mayRead nsid cmd.cntlid = true → s.psAdmits = true → s.ns nsid = some n →
      s.head.reads = [] → ((s.rxSeam (.fwdRead cmd nsid slba nlb)).partsOf nsid slba nlb n).2 = parts →
      (∀ p ∈ parts, ∃ b l a, p.2 = .have b l a) → parts.any (partBad (s.nsChunk n) (slba * lbaBytes n.lbaf) (nlb * lbaBytes n.lbaf)) = false → r.parts = parts →
    Runs (.fwdRead cmd nsid slba nlb) s fun t => ((s.rxSeam (.fwdRead cmd nsid slba nlb)).partsOf nsid slba nlb n).1.seamSent t 255 s.epn (.readData cmd nvOk
      (withPi n.lbaf false (parts.map (fun p => match p.2 with | .have _ _ a => a | .chunk _ a => a | .gone => 0xFFFF)) slba
        (chunksOf (lbaBytes n.lbaf) (sub r.bytes (slba * lbaBytes n.lbaf % s.nsChunk n) (nlb * lbaBytes n.lbaf)))
        (parts.map (fun p => match p.2 with | .have _ _ a => a | .chunk _ a => a | .gone => 0xFFFF))))) ∧
  (∀ (s : State) (cmd : CmdId) (r : WaitRead) (n : Ns) (data : Bytes), s.seamOn = true → s.seam.linkUp = true → s.head.reads.find? (fun x => x.cmd == cmd && x.remote) = some r → s.ns r.nsid = some n →
      r.kind = .read false → r.check = none → s.cqReady cmd = true → s.power.pfAsserted = false → s.silenced = false →
    Runs (.readData cmd nvOk data) s fun t => s.answered t cmd nvOk 0 data ∧ t.head.reads = s.head.reads.filter (fun x => !(x.cmd == cmd && x.remote))) ∧
  (∀ (s : State) (cmd : CmdId) (r : WaitRead) (st : NvmeSt) (data : Bytes), s.seamOn = true → s.seam.linkUp = true → s.head.reads.find? (fun x => x.cmd == cmd && x.remote) = some r → st ≠ nvOk →
      s.cqReady cmd = true → s.power.pfAsserted = false → s.silenced = false →
    Runs (.readData cmd st data) s fun t => s.answered t cmd st 0 [] ∧ t.head.reads = s.head.reads.filter (fun x => !(x.cmd == cmd && x.remote))) ∧
  (∀ (s : State) (domain : Nat) (fp : Bytes), s.headUp = true → s.seam.linkUp = true → s.isManager = false →
    Runs (.seamRepairReq domain fp none) s fun t => (s.rxSeam (.repairReq domain fp)).seamSent t 255 s.epn (.repairReply domain fp [])) ∧
  (∀ (s : State) (domain : Nat) (fp : Bytes), s.seam.linkUp = true → s.isManager = true → s.session = true → s.head.repairs = [] →
    Runs (.seamRepairReq domain fp none) s fun t => t.head.repairs = [⟨2 ^ 48 + s.repl.nextReq, domain, fp, s.time.t, true⟩]) ∧
  (∀ (s : State) (domain : Nat) (fp d : Bytes) (r : RepairReq), s.headUp = true → s.seam.linkUp = true → s.head.repairs = [r] → r.domain = domain → r.fp = fp → r.fromPeer = false → d ≠ [] → s.fingerprint domain d = fp →
    Runs (.seamRepairReq domain fp (some d)) s fun t => t.head.repairs = [] ∧ t.repl.repairsOk = s.repl.repairsOk + 1 ∧
      ∀ x ∈ t.head.reads, ∀ p ∈ x.parts, ∀ app, p.2 ≠ .chunk r.chunkId app) ∧
  (∀ (s : State) (h : FrameHdr) (data : List Bytes) (f : Fetch) (member : Nat) (r : StripeRec) (b : Bytes), s.isHead = true → s.frameIn h = true → s.head.queue = [] → s.head.fetches = [f] → f.recon = false →
      f.need = [(member, h.reqId)] → f.got = [] → data.length = f.count → s.head.md.stripe f.chunk.stripeId = some r →
      (s.decodeImage f.id f.chunk (imageIn f.chunk (data.flatMap (fun x => x.take 4096)))).1 = some b →
    Runs (.sectorReadReply h 0 0 data) s fun t => t.head.fetches = [] ∧ ∀ x ∈ t.head.reads, ∀ p ∈ x.parts, ∀ app, p.2 ≠ .chunk f.id app) ∧
  (∀ (s : State) (h : FrameHdr) (status : Nat) (failMask : BitVec 16) (data : List Bytes) (f : Fetch) (m1 m2 : Nat) (q : Nat), s.isHead = true → s.frameIn h = true → s.head.queue = [] → s.head.fetches = [f] →
      f.need = [(m1, h.reqId), (m2, q)] → q ≠ h.reqId → (∀ x ∈ s.head.reads, x.ready = false) → (status ≠ 0 ∨ failMask ≠ 0) →
    Runs (.sectorReadReply h status failMask data) s fun t => t.head.fetches = [{ f with
      need := [(m2, q)], got := f.got ++ [(m1, if status = 0 ∧ data.length = f.count then failMask.toNat else f.allFailed, data.flatMap (fun x => padTo 4096 (x.take 4096)))] }] ∧ t.head.reads = s.head.reads)

/-- R400 to R405, R407, R410, R432. Leases, claims and the taking over of streams. -/
def Obligations.LeasesClaimsAndTakeover : Prop :=
  (∀ (s : State) (c : ClaimSt) (i e r : Nat), s.headUp = true → s.seam.claim = some c → c.won = false → c.streams = [(i, e, r)] → i < 2 →
      s.majority (fun v => match v.claim with | some (some _) => true | _ => false) = true →
    Runs .leaseClaimWon s fun t => t.seam.claim = some { c with won := true } ∧ t.seam.leaseGen = c.gen ∧ t.seam.manager = true ∧ t.seam.ioStopped = false ∧
      (t.stream i).nextSsn = r ∧ (t.stream i).sealSeen = e ∧ (t.stream i).mine = (s.stream i).mine) ∧
  (∀ (s : State) (c : ClaimSt), s.headUp = true → s.seam.claim = some c → c.won = false → c.epn + s.p p_lease_term_epochs ≤ s.epn →
    Runs .leaseClaimTimeout s fun t => t.raised AL_SEAM_LEASE_LOST 0 ∧ t.seam = { s.seam with ioStopped := true } ∧ t.head = s.head) ∧
  (∀ s : State, s.headUp = true → s.granted = false → s.seam.leaseLost = false →
    Runs .leaseGrantExpiry s fun t => t.raised AL_SEAM_LEASE_LOST 0 ∧ t.seam = { s.seam with leaseLost := true } ∧ t.head = s.head) ∧
  (∀ (s : State) (i : Fin 2) (c : ClaimSt), s.headUp = true → s.seam.claim = some c → c.won = true → s.phase = 0 → c.maxGrant < s.epn → c.streams.any (·.1 == i.val) = true →
    Runs (.takeoverAdmitStart i) s fun t => t.stream i = { s.stream i with
        mine := true, admitFrom := s.epn, admitUntil := none, awaitSeal := false, sealedEpn := s.epn - 1, takeoverNext := true, handback := none, gen := (s.stream i).gen + 1 } ∧
      t.seam = { s.seam with claim := if (c.streams.filter (·.1 != i.val)).isEmpty then none else some { c with streams := c.streams.filter (·.1 != i.val) } }) ∧
  (∀ (s : State) (i : Fin 2) (c : ClaimSt), s.seam.claim = some c → s.epn ≤ c.maxGrant →
    Runs (.takeoverAdmitStart i) s fun t => t = s) ∧
  (∀ (s : State) (i : Fin 2) (lastEpn nextSsn : Nat), s.headUp = true → (s.stream i).takes s.epn = false → s.seam.claim = none → s.barred = false →
    Runs (.seamRelease i lastEpn nextSsn) s fun t => t.seam.peerState = 3 ∧ t.seam.manager = true ∧
      t.seam.claim = some { epn := s.epn, gen := s.seam.leaseGen + 1, streams := [(i.val, s.resumePoint i)], won := true, released := true } ∧
      (t.stream i).nextSsn = (s.resumePoint i).2 ∧ (t.stream i).sealSeen = (s.resumePoint i).1) ∧
  (∀ s : State, s.seamOn = true → s.seam.rejoining = true → s.seam.asked = true → s.seam.own = 2 →
      (∀ i, i < 2 → max s.seam.peerSealed (s.stream i).sealSeen ≤ (s.stream i).replayed + s.p p_seam_catchup_epochs) → s.boot.joined = false → s.boot.readyDone = true →
    Runs .rejoinEnterService s fun t => t.seam.rejoining = false ∧ t.seam.asked = false ∧ t.seam.fenced = false ∧ t.seam.own = 0 ∧ t.seam.reportFrom = s.epn + 1 ∧
      ¬ t.raised AL_SEAM_SUSPECT (srcOf 10 s.site) ∧ t.ledger = s.ledger ∧
      t.boot = (if s.boot.stage = .join then { s.boot with stage := .ready, joined := true } else { s.boot with joined := true })) ∧
  (∀ s : State, s.seamOn = true → s.seam.rejoining = true → s.seam.asked = true → s.seam.own = 2 →
      (∀ i, i < 2 → max s.seam.peerSealed (s.stream i).sealSeen ≤ (s.stream i).replayed + s.p p_seam_catchup_epochs) → s.boot.joined = false → s.boot.readyDone = false →
    Runs .rejoinEnterService s fun t => t = { s with boot := { s.boot with joined := true } }) ∧
  (∀ s : State, s.seamOn = true → s.stageFrom .join = true → s.site = 1 → s.fit = true → s.seam.manager = false → s.managerKnown = false → s.seam.rejoining = false →
    Runs .managerBootWaitExpiry s fun t => t = s.toAll (bareFrame (.renew { s.leaseReq s.seam.leaseGen with setManager := true, siteArg := 1 }))) ∧
  (∀ (s : State) (h : FrameHdr) (rec : LeaseRec) (ports : BitVec 2) (prior : Nat) (c : ClaimSt), s.headUp = true → s.frameIn h = true → s.seam.claim = some c →
    Runs (.claimReply h 0 rec ports prior) s fun t => (t.shelf h.port).claim = some (some prior) ∧ (t.shelf h.port).record = some rec ∧ (t.shelf h.port).portsUp = ports ∧
      t.seam = { s.seam with claim := some { c with maxGrant := max c.maxGrant prior }, leaseGen := max s.seam.leaseGen rec.leaseGen }) ∧
  (∀ (s : State) (h : FrameHdr) (rec : LeaseRec) (ports : BitVec 2) (prior : Nat) (c : ClaimSt), s.headUp = true → s.frameIn h = true → s.seam.claim = some c →
    Runs (.claimReply h ST_SPOKE_FENCED rec ports prior) s fun t => t.seam.fenced = true ∧ t.seam.own = 2 ∧ t.seam.rejoining = true ∧ t.seam.manager = false ∧ t.seam.claim = none ∧
      t.boot.stage = .join ∧ t.hem.bundles = [] ∧ t.nvme.ns = []) ∧
  (∀ (s : State) (h : FrameHdr) (rec : LeaseRec) (ports : BitVec 2), s.isHead = true → s.stageFrom .join = true → s.frameIn h = true →
    Runs (.renewReply h 0 rec ports) s fun t => (t.shelf h.port).record = some rec ∧ (t.shelf h.port).portsUp = ports ∧ (t.shelf h.port).grant = grantOf rec s.site ∧
      t.seam.leaseGen = max s.seam.leaseGen rec.leaseGen) ∧
  (∀ (s : State) (h : FrameHdr) (rec : LeaseRec) (ports : BitVec 2), s.isHead = true → s.stageFrom .join = true → s.frameIn h = true → s.seam.leaseMove = none → s.seam.sets = [] →
      (s.noteLease h.port rec ports).namedManager = true →
    Runs (.renewReply h 0 rec ports) s fun t => t.seam.manager = true) ∧
  (∀ (s : State) (h : FrameHdr) (rec : LeaseRec) (ports : BitVec 2), s.isHead = true → s.stageFrom .join = true → s.frameIn h = true →
    Runs (.renewReply h ST_SPOKE_LEASE_STALE rec ports) s fun t => t.seam = { s.seam with leaseGen := max s.seam.leaseGen rec.leaseGen } ∧ t.head = s.head) ∧
  (∀ (s : State) (h : FrameHdr) (rec : LeaseRec) (ports : BitVec 2), s.isHead = true → s.stageFrom .join = true → s.frameIn h = true → s.seam.rejoining = false →
    Runs (.renewReply h ST_SPOKE_FENCED rec ports) s fun t => t.seam.fenced = true ∧ t.seam.own = 2 ∧ t.seam.rejoining = true ∧ t.seam.manager = false ∧ t.boot.stage = .join)

/-- R17, R416 to R418, R420, R421, R423, R424, R433, R435. -/
def Obligations.SpokeLinksTrainAcknowledgeAndResend : Prop :=
  (∀ (s : State) (p : Fin 64), s.port.length = 64 → s.fw = true → s.portThere p = true → s.pdOn (36 + p.val / 8) = true → (s.portOf p).state = 1 → s.barred = false →
    Runs (.spokeTrainingDone p) s fun t => (t.portOf p).state = 2 ∧ (t.portOf p).admitted = false ∧ (t.portOf p).linkEpoch = (s.portOf p).linkEpoch + 1 ∧
      (t.portOf p).txLsn = 0 ∧ (t.portOf p).rxLsn = 0 ∧ (t.portOf p).replay = [] ∧ (t.portOf p).w = 0 ∧ (t.portOf p).q = 0 ∧ (t.portOf p).hellosTx = 1 ∧
      t.out = s.out ++ [.frame p 0 0 ⟨noTag, false, false, 0, 0, .hello { role := b2n s.isShelf, site := s.site, port := p, linkEpoch := (s.portOf p).linkEpoch + 1, tTx := s.time.t, tEcho := 0, turnNs := 0, wGrant := if s.isShelf then s.p p_spoke_write_credits else 0, qGrant := if s.isShelf then s.p p_spoke_request_credits else 0 }⟩]) ∧
  (∀ (s : State) (p : Fin 64), s.fw = true → s.portThere p = true → s.pdOn (36 + p.val / 8) = true → (s.portOf p).state ≤ 1 →
    Runs (.spokeTrainingRetry p) s fun t => t = s.setPort p { s.portOf p with state := 1 }) ∧
  (∀ (s : State) (p : Fin 64) (h : Hello) (round : Nat), s.port.length = 64 → s.fw = true → s.portThere p = true → (s.portOf p).state = 2 → (s.portOf p).hellosRx < 15 →
    Runs (.hello p h round) s fun t => (t.portOf p).state = 2 ∧ (t.portOf p).hellosRx = (s.portOf p).hellosRx + 1 ∧ (t.portOf p).lastTTx = h.tTx) ∧
  (∀ (s : State) (p : Fin 64) (h : Hello) (round : Nat), s.port.length = 64 → s.fw = true → s.isHead = true → (s.portOf p).state = 2 → (s.portOf p).hellosRx = 15 → (s.portOf p).hellosTx = 16 →
      p.val < s.nShelves → h.role = 1 → h.site = p.val →
    Runs (.hello p h round) s fun t => (t.portOf p).state = 3 ∧ (t.portOf p).admitted = true ∧ (t.portOf p).peerSite = h.site ∧ (t.shelf p).downSince = none ∧
      ¬ t.raised AL_SPOKE_MISWIRE (srcOf 1 p) ∧ ¬ t.raised AL_SPOKE_LINK_DOWN (srcOf 3 p)) ∧
  (∀ (s : State) (p : Fin 64) (h : Hello) (round : Nat), s.port.length = 64 → s.fw = true → s.isShelf = true → (s.portOf p).state = 2 → (s.portOf p).hellosRx = 15 → (s.portOf p).hellosTx = 16 →
      p.val < 2 → h.role = 0 → h.site = p.val →
    Runs (.hello p h round) s fun t => (t.portOf p).state = 3 ∧ (t.portOf p).admitted = true ∧ ¬ t.raised AL_SPOKE_MISWIRE (srcOf 1 p) ∧ ¬ t.raised AL_SPOKE_PORT_DOWN (srcOf 1 p)) ∧
  (∀ (s : State) (p : Fin 64) (h : Hello) (round : Nat), s.port.length = 64 → s.fw = true → s.portThere p = true → (s.portOf p).state = 2 → (s.portOf p).hellosRx = 15 → (s.portOf p).hellosTx = 16 →
      (s.isHead = true → p.val < s.nShelves) → (h.role = b2n s.isShelf ∨ h.site ≠ p.val) →
    Runs (.hello p h round) s fun t => (t.portOf p).state = 2 ∧ (t.portOf p).admitted = (s.portOf p).admitted ∧ t.raised AL_SPOKE_MISWIRE (srcOf 1 p)) ∧
  (∀ (s : State) (p : Fin 64) (ackLsn : Nat), s.port.length = 64 → s.fw = true → s.portThere p = true → (s.portOf p).state = 3 →
    Runs (.linkAck p ackLsn) s fun t => (t.portOf p).replay = (s.portOf p).replay.filter (fun e => decide (ackLsn ≤ e.1)) ∧
      (t.portOf p).sends = (s.portOf p).sends.filter (fun e => decide (ackLsn ≤ e.1)) ∧ t.out = s.out) ∧
  (∀ (s : State) (p : Fin 64) (ackLsn : Nat), s.port.length = 64 → s.fw = true → s.portThere p = true → (s.portOf p).state = 3 → s.barred = false →
    Runs (.nak p ackLsn) s fun t => t.out = s.out ++ (((s.portOf p).replay.filter (fun e => decide (ackLsn ≤ e.1))).filter (fun e => !s.stale e.2)).map
      (fun e => .frame p e.1 (s.portOf p).rxLsn e.2)) ∧
  (∀ (s : State) (h : FrameHdr) (w q : Nat), s.port.length = 64 → s.isHead = true → s.frameIn h = true → s.head.queue = [] →
    Runs (.credit h w q) s fun t => (t.portOf h.port).w = (s.portOf h.port).w + w ∧ (t.portOf h.port).q = (s.portOf h.port).q + q ∧ (t.portOf h.port).rxLsn = h.lsn + 1) ∧
  (∀ (s : State) (h : FrameHdr) (w q : Nat), s.port.length = 64 → s.fw = true → s.portThere h.port = true → (s.portOf h.port).up = true → (s.portOf h.port).rxLsn < h.lsn → s.barred = false →
    Runs (.credit h w q) s fun t => (t.portOf h.port).w = (s.portOf h.port).w ∧ (t.portOf h.port).rxLsn = (s.portOf h.port).rxLsn ∧
      s.sentFirst t h.port ⟨noTag, false, false, 0, 0, .nak (s.portOf h.port).rxLsn⟩) ∧
  (∀ (s : State) (h : FrameHdr) (w q : Nat), s.port.length = 64 → s.fw = true → s.portThere h.port = true → (s.portOf h.port).up = true → h.lsn < (s.portOf h.port).rxLsn →
    Runs (.credit h w q) s fun t => (t.portOf h.port).w = (s.portOf h.port).w ∧ (t.portOf h.port).rxLsn = (s.portOf h.port).rxLsn ∧ t.out = s.out) ∧
  (∀ (s : State) (p : Fin 64), s.port.length = 64 → s.fw = true → s.portThere p = true → 2 ≤ (s.portOf p).state → (s.portOf p).state ≤ 3 → s.barred = false →
    Runs (.spokeFrameBad p) s fun t => (t.portOf p).frameErrs = satInc 16 (s.portOf p).frameErrs ∧ (t.portOf p).rxLsn = (s.portOf p).rxLsn ∧
      s.sentFirst t p ⟨noTag, false, false, 0, 0, .nak (s.portOf p).rxLsn⟩) ∧
  (∀ (s : State) (p : Fin 64), s.fw = true → s.portThere p = true → (s.portOf p).state = 3 → s.barred = false →
    Runs (.linkAckTimer p) s fun t => t = { s with out := s.out ++ [.frame p (s.portOf p).txLsn (s.portOf p).rxLsn ⟨noTag, false, false, 0, 0, .linkAck⟩] }) ∧
  (∀ (s : State) (p : Fin 64), s.port.length = 64 → s.fw = true → s.portThere p = true → (s.portOf p).state = 3 → (s.portOf p).replay ≠ [] → (s.portOf p).resends < 7 → s.barred = false →
    Runs (.spokeReplayTimeout p) s fun t => (t.portOf p).state = 3 ∧ (t.portOf p).resends = (s.portOf p).resends + 1 ∧
      (s.out ++ ((s.portOf p).replay.filter (fun e => !s.stale e.2)).map (fun e => .frame p e.1 (s.portOf p).rxLsn e.2)) <+: t.out) ∧
  (∀ (s : State) (p : Fin 64), s.port.length = 64 → s.fw = true → s.portThere p = true → (s.portOf p).state = 3 → (s.portOf p).replay ≠ [] → 7 ≤ (s.portOf p).resends →
    Runs (.spokeReplayTimeout p) s fun t => (t.portOf p).state = 1 ∧ (t.portOf p).admitted = false ∧ (t.portOf p).replay = [] ∧
      (s.isHead = true → t.raised AL_SPOKE_LINK_DOWN (srcOf 3 p))) ∧
  (∀ (s : State) (p : Fin 64), s.port.length = 64 → s.fw = true → s.isShelf = true → s.portThere p = true → (s.portOf p).up = true → ((s.portOf p).wBack ≠ 0 ∨ (s.portOf p).qBack ≠ 0) →
    Runs (.creditReturnTimer p) s fun t => (t.portOf p).wBack = 0 ∧ (t.portOf p).qBack = 0 ∧
      t.out = s.out ++ [.frame p (s.portOf p).txLsn (s.portOf p).rxLsn ⟨noTag, false, false, 0, 0, .credit (s.portOf p).wBack (s.portOf p).qBack⟩]) ∧
  (∀ (s : State) (p : Fin 64), s.port.length = 64 → s.fw = true → s.portThere p = true → (s.portOf p).linked = true →
    Runs (.spokePortSilence p) s fun t => (t.portOf p).state = 1 ∧ (t.portOf p).admitted = false ∧ (t.portOf p).replay = [] ∧ (t.portOf p).retrains = satInc 16 (s.portOf p).retrains ∧
      (s.isHead = true → t.raised AL_SPOKE_LINK_DOWN (srcOf 3 p) ∧ (t.shelf p).downSince = some s.time.t)) ∧
  (∀ (s : State) (p : Fin 64), s.port.length = 64 → s.fw = true → s.portThere p = true → (s.portOf p).linked = true →
    Runs (.spokePcsLockLoss p) s fun t => (t.portOf p).state = 1 ∧ (t.portOf p).admitted = false ∧ (t.portOf p).replay = [] ∧ (t.portOf p).retrains = satInc 16 (s.portOf p).retrains ∧
      (s.isHead = true → t.raised AL_SPOKE_LINK_DOWN (srcOf 3 p) ∧ (t.shelf p).downSince = some s.time.t)) ∧
  (∀ (s : State) (p : Fin 64), s.fw = true → s.isShelf = true → s.portThere p = true → (s.portOf p).up = false → (s.portOf p).downAt + s.p p_spoke_port_fail_ms * 100000 ≤ s.time.t →
    Runs (.spokePortFailTimeout p) s fun t => t.raised AL_SPOKE_PORT_DOWN (srcOf 1 p) ∧ t.port = s.port) ∧
  (∀ (s : State) (n : Nat) (j : Job), s.unitRuns n 8 1 j → (s.portOf j.inst).up = false →
    Runs (.spokeSend n) s fun t => t.ended n j ST_SPOKE_LINK_DOWN 0 0 ∧ t.port = s.port) ∧
  (∀ (s s1 : State) (n : Nat) (j : Job) (b : Bytes), s.port.length = 64 → s.unitRuns n 8 1 j → j.inst < 64 → (s.portOf j.inst).up = true → s.dmaRead (num j.desc 24 8) (num j.desc 20 4) = (0, b, s1) →
      (s.isHead = true → (FrameOp.raw b).credits.1 ≤ (s.portOf j.inst).w ∧ (FrameOp.raw b).credits.2 ≤ (s.portOf j.inst).q) → (∀ e ∈ (s.portOf j.inst).sends, e.2 ≠ n) → s.barred = false →
    Runs (.spokeSend n) s fun t => t.out = s1.out ++ [.frame j.inst (s.portOf j.inst).txLsn (s.portOf j.inst).rxLsn ⟨noTag, false, false, 0, 0, .raw b⟩] ∧
      (t.portOf j.inst).sends = (s.portOf j.inst).sends ++ [((s.portOf j.inst).txLsn, n)] ∧ (t.portOf j.inst).txLsn = (s.portOf j.inst).txLsn + 1) ∧
  (∀ (s : State) (h : FrameHdr) (opcode : Byte), s.frameIn h = true → s.barred = false →
    Runs (.spokeUnknownOpcode h opcode) s fun t => s.repliedFirst t h opcode.toNat ST_SPOKE_FIELD 0 .none ∧ t.sh = s.sh ∧ t.keep = s.keep ∧ t.head = s.head)

/-- R49 to R51, R397, R399 to R404, R410, R430 to R432. Marks, relays and the lease record of a shelf. The first mark of a run is taken as one
after a loss: the model's choice (log 76). -/
def Obligations.ShelvesFollowMarksAndKeepTheLease : Prop :=
  (∀ (s : State) (h : FrameHdr) (n m quality : Nat), s.isShelf = true → s.frameIn h = true → s.time.tSet = false →
    Runs (.mark h n m quality) s fun t => t.time.tSet = true ∧ t.time.state = .markFollow ∧ t.time.markSrc = some h.port.val ∧ t.time.quality = qualityFrom quality ∧
      t.time.t = max s.time.t (m + (s.portOf h.port).delayNs / 10) ∧ ¬ t.raised AL_EPOCH_MARK_LOSS 0) ∧
  (∀ (s : State) (h : FrameHdr) (n m quality : Nat), s.isShelf = true → s.frameIn h = true → s.time.tSet = true → s.time.state ≠ .markLost →
      (s.markFrom h.port.val).markSource = some h.port.val →
    Runs (.mark h n m quality) s fun t => t.time.markSrc = some h.port.val ∧ t.time.quality = qualityFrom quality ∧ t.time.state = .markFollow ∧
      t.time.t = s.time.t ∧ t.time.followOff = 10 * ((s.time.t : Int) - (m + (s.portOf h.port).delayNs / 10 : Nat)) ∧
      t.time.slewing = (t.time.followOff != 0)) ∧
  (∀ (s : State) (h : FrameHdr) (n m quality : Nat), s.isShelf = true → s.frameIn h = true → s.time.tSet = true → s.time.state = .markLost →
    Runs (.mark h n m quality) s fun t => t.time.state = .markFollow ∧ t.time.markSrc = some h.port.val ∧
      t.time.t = max s.time.t (m + (s.portOf h.port).delayNs / 10) ∧ ¬ t.raised AL_EPOCH_MARK_LOSS 0) ∧
  (∀ (s : State) (h : FrameHdr) (n m quality : Nat), s.isShelf = true → s.frameIn h = true → s.time.tSet = true → s.time.state ≠ .markLost →
      (s.markFrom h.port.val).markSource ≠ some h.port.val →
    Runs (.mark h n m quality) s fun t => t.time = (s.markFrom h.port.val).time ∧ t.ev.alarms = s.ev.alarms) ∧
  (∀ (s : State) (h : FrameHdr) (origin : Fin 2) (b : Heartbeat), s.isHead = true → s.frameIn h = true → origin.val = s.peerSite →
    Runs (.hbRelay h origin b) s fun t => t.seam.peerTime = some b.timeState ∧ t.seam.hbEpnB = max s.seam.hbEpnB (s.epnAt b.t1 + 1) ∧ t.seam.hbEpnA = s.seam.hbEpnA ∧ t.seam.lastT1 = s.seam.lastT1) ∧
  (∀ (s : State) (h : FrameHdr) (b : Heartbeat) (origin : Fin 2), s.isHead = false → s.isShelf = true → s.frameIn h = true → origin.val = h.port.val → (s.portOf (1 - h.port.val)).up = true → SMap.get s.sh.relayed origin = none → s.notPast 1 = true → s.barred = false →
    Runs (.hbRelay h origin b) s fun t => s.sentFirst t (1 - h.port.val) (bareFrame (.hbRelay origin b)) ∧ SMap.get t.sh.relayed origin = some s.epn) ∧
  (∀ (s : State) (h : FrameHdr) (b : Heartbeat) (origin : Fin 2) (e : Nat), s.isHead = false → s.isShelf = true → s.frameIn h = true → SMap.get s.sh.relayed origin = some e → s.epn ≤ e →
    Runs (.hbRelay h origin b) s fun t => t.out = s.out ∧ t.sh = s.sh) ∧
  (∀ (s : State) (h : FrameHdr) (b : Heartbeat) (origin : Fin 2), s.isHead = false → s.isShelf = true → s.frameIn h = true → s.notPast 1 = false →
    Runs (.hbRelay h origin b) s fun t => t.out = s.out ∧ t.sh = s.sh) ∧
  (∀ (s : State) (h : FrameHdr) (q : LeaseReq) (r : LeaseRec), s.shelfTakes h = true → s.leaseRefusal h.port q = 0 →
      r = { leaseGrant s.lease h.port ((s.setBaseBy h.port q).epn + s.p p_lease_term_epochs) with highEpn := max s.lease.highEpn q.epn } →
    Runs (.renew h q) s fun t => t.keep = { s.keep with leaseOld := s.keep.lease, leaseNo := s.keep.leaseNo + 1, lease := some (if s.lease.manager = h.port.val then applySets q r
        else if q.setManager = true ∧ q.siteArg = h.port.val ∧ s.managerFree = true then { r with manager := h.port.val } else r) } ∧
      s.repliedFirst t h 0x12 0 0 (.lease t.lease s.portsUp)) ∧
  (∀ (s : State) (h : FrameHdr) (q : LeaseReq), s.shelfTakes h = true → s.leaseRefusal h.port q ≠ 0 →
    Runs (.renew h q) s fun t => t.keep = s.keep ∧ s.repliedFirst t h 0x12 (s.leaseRefusal h.port q) 0 (.lease s.lease s.portsUp)) ∧
  (∀ (s : State) (h : FrameHdr) (q : LeaseReq), s.shelfTakes h = true → s.leaseRefusal h.port q = 0 → q.streamArg < 2 →
    Runs (.claim h q) s fun t => t.keep.lease = some { leaseStream (leaseGrant (leaseFence s.lease q.siteArg true) q.siteArg 0) q.streamArg h.port
          (leaseClaimGen s.lease h.port q) q.resumeSsn with leaseGen := q.leaseGen, owner0 := h.port, owner1 := h.port, manager := h.port } ∧
      t.repliedAmong h 0x13 0 0 (.claimed t.lease s.portsUp (grantOf s.lease q.siteArg)) ∧
      ∀ i ∈ t.sh.plb, staleItem q.streamArg (leaseClaimGen s.lease h.port q) q.resumeSsn i = false) ∧
  (∀ (s : State) (h : FrameHdr) (q : LeaseReq), s.shelfTakes h = true → s.leaseRefusal h.port q = 0 → 2 ≤ q.streamArg →
    Runs (.claim h q) s fun t => t.keep.lease = some { leaseGrant (leaseFence s.lease q.siteArg true) q.siteArg 0 with
          leaseGen := q.leaseGen, owner0 := h.port, owner1 := h.port, manager := h.port } ∧
      t.repliedAmong h 0x13 0 0 (.claimed t.lease s.portsUp (grantOf s.lease q.siteArg)) ∧ t.sh.plb = s.sh.plb) ∧
  (∀ (s : State) (h : FrameHdr) (q : LeaseReq), s.shelfTakes h = true → s.leaseRefusal h.port q ≠ 0 →
    Runs (.claim h q) s fun t => t.keep = s.keep ∧ t.sh = s.sh ∧ s.repliedFirst t h 0x13 (s.leaseRefusal h.port q) 0 (.claimed s.lease s.portsUp (grantOf s.lease q.siteArg))) ∧
  (∀ (s : State) (h : FrameHdr) (q : LeaseReq), s.shelfTakes h = true → s.leaseRefusal h.port q = 0 →
    Runs (.leaseRelease h q) s fun t => leaseFenced t.lease h.port = true ∧ grantOf t.lease h.port = 0 ∧ t.lease.owner0 = 1 - h.port.val ∧ t.lease.owner1 = 1 - h.port.val ∧
      t.lease.manager = 1 - h.port.val ∧ t.lease.leaseGen = q.leaseGen ∧ t.repliedAmong h 0x14 0 0 (.lease t.lease s.portsUp)) ∧
  (∀ (s : State) (h : FrameHdr) (q : LeaseReq), s.shelfTakes h = true → s.leaseRefusal h.port q ≠ 0 →
    Runs (.leaseRelease h q) s fun t => t.keep = s.keep ∧ t.sh = s.sh ∧ s.repliedFirst t h 0x14 (s.leaseRefusal h.port q) 0 (.lease s.lease s.portsUp))

/-- R394, R425 to R429, R449 to R453, R464. Tagged writes at a shelf. -/
def Obligations.ShelvesBufferTaggedWrites : Prop :=
  (∀ (s : State) (h : FrameHdr) (a : AppendHead) (img : Bytes) (first : Nat), s.shelfTakes h = true → s.firstCopy h = true → s.shelfRoom = true → img.length = a.imageLen → s.dropped h.tag = false →
      appendPasses h a img = true → s.canPlace = true → s.placeOf h.tag (itemSectors (appendHeadBytes a ++ img).length) = some first →
    Runs (.append h a img) s fun t => s.buffered t h (.image a img) first ∧ (t.keptOf h.tag).isSome = true ∧ t.sh.map = s.sh.map) ∧
  (∀ (s : State) (h : FrameHdr) (a : AppendHead) (img : Bytes), s.shelfTakes h = true → s.firstCopy h = true → s.shelfRoom = true → img.length = a.imageLen → s.dropped h.tag = false →
      appendPasses h a img = false →
    Runs (.append h a img) s fun t => t.sh.plb = s.sh.plb ∧ t.keep = s.keep ∧ s.repliedFirst t h 0x20 ST_SPOKE_CHECK 0 .none) ∧
  (∀ (s : State) (h : FrameHdr) (a : AppendHead) (img : Bytes), s.shelfTakes h = true → s.power.pfAsserted = false → img.length ≠ a.imageLen →
    Runs (.append h a img) s fun t => t.sh = s.sh ∧ t.keep = s.keep ∧ s.repliedFirst t h 0x20 ST_SPOKE_FIELD 0 .none) ∧
  (∀ (s : State) (h : FrameHdr) (a : AppendHead) (img : Bytes), s.shelfTakes h = true → s.power.pfAsserted = false → img.length = a.imageLen → s.mayWrite h.port = false →
    Runs (.append h a img) s fun t => t.sh = s.sh ∧ t.keep = s.keep ∧ s.repliedFirst t h 0x20 ST_SPOKE_NO_GRANT 0 .none) ∧
  (∀ (s : State) (h : FrameHdr) (a : AppendHead) (img : Bytes), s.shelfTakes h = true → s.power.pfAsserted = false → img.length = a.imageLen → s.mayWrite h.port = true →
      h.streamGen < leaseStreamGen s.lease h.tag.stream →
    Runs (.append h a img) s fun t => t.sh = s.sh ∧ t.keep = s.keep ∧ s.repliedFirst t h 0x20 ST_SPOKE_GEN_STALE 0 .none) ∧
  (∀ (s : State) (h : FrameHdr) (a : AppendHead) (img : Bytes), s.shelfTakes h = true → s.power.pfAsserted = true →
    Runs (.append h a img) s fun t => t.sh = s.sh ∧ t.keep = s.keep ∧ t.out = s.out) ∧
  (∀ (s : State) (h : FrameHdr) (head : StripHead) (checks ssns : List Nat) (imgs : List (Tag × Bytes)) (first : Nat), s.shelfTakes h = true → s.firstCopy h = true → s.shelfRoom = true → checks.length = 16 →
      takeImages head.metadata h.tag.stream h.tag.item ssns s.sh.plb [] = some imgs → sectorChecks (stripHeadBytes head ++ packed (imgs.map (·.2))) = checks → s.canPlace = true →
      s.placeOf h.tag (itemSectors (16 + (stripHeadBytes head).length + 16 * 16 + 8 * ssns.length)) = some first →
    Runs (.close h head checks ssns) s fun t => s.buffered t h (.packed head (stripHeadBytes head ++ packed (imgs.map (·.2))) (imgs.map (·.1))) first) ∧
  (∀ (s : State) (h : FrameHdr) (head : StripHead) (checks ssns : List Nat) (imgs : List (Tag × Bytes)), s.shelfTakes h = true → s.firstCopy h = true → s.shelfRoom = true → checks.length = 16 →
      takeImages head.metadata h.tag.stream h.tag.item ssns s.sh.plb [] = some imgs → sectorChecks (stripHeadBytes head ++ packed (imgs.map (·.2))) ≠ checks →
    Runs (.close h head checks ssns) s fun t => t.sh.plb = s.sh.plb ∧ s.repliedFirst t h 0x21 ST_SPOKE_CHECK 0 .none) ∧
  (∀ (s : State) (h : FrameHdr) (head : StripHead) (checks ssns : List Nat), s.shelfTakes h = true → s.firstCopy h = true → s.shelfRoom = true → checks.length = 16 →
      takeImages head.metadata h.tag.stream h.tag.item ssns s.sh.plb [] = none →
    Runs (.close h head checks ssns) s fun t => t.sh.plb = s.sh.plb ∧ t.keep = s.keep ∧ s.repliedFirst t h 0x21 ST_SPOKE_CLOSE_GAP 0 .none) ∧
  (∀ (s : State) (h : FrameHdr) (head : StripHead) (sectors : List Sector) (first : Nat), s.shelfTakes h = true → s.firstCopy h = true → s.shelfRoom = true → sectors.length = 16 →
      (∀ x ∈ sectors, x.data.length = 4096 ∧ crc64 x.data = x.crc64 ∧ x.refTag = head.stripeId ∧ x.appTag = 0xFFFF) → (sectors.flatMap (·.data)).take 256 = stripHeadBytes head →
      s.canPlace = true → s.placeOf h.tag (itemSectors (sectors.flatMap (fun x => x.data ++ sectorBytes x)).length) = some first →
    Runs (.stripWrite h head sectors) s fun t => s.buffered t h (.strip head (sectors.flatMap (·.data))) first) ∧
  (∀ (s : State) (tag : Tag) (i : PlbItem) (a : AppendHead) (img : Bytes), s.shelfOn = true → s.power.pfAsserted = false → s.sh.dumpErased.any id = true → s.plbItem tag = some i → i.safe = false → i.body = .image a img →
    Runs (.shelfWritePowerSafe tag) s fun t => t.sh.plb = s.sh.plb.map (fun x => if x.tag = tag then { x with safe := true } else x) ∧ t.sh.map = s.sh.map ∧
      t.keep = { s.keep with plbIndex := s.keep.plbIndex ++ [(tag, i.sectors, crc32c i.digest, i.first)] } ∧
      ∀ p, p < 2 → (s.portOf p).up = true → t.frameSent p (bareFrame (.ack [⟨tag, 4096 * i.sectors⟩]))) ∧
  (∀ (s : State) (tag : Tag) (i : PlbItem) (head : StripHead) (b : Bytes) (ts : List Tag), s.shelfOn = true → s.power.pfAsserted = false → s.sh.dumpErased.any id = true → s.plbItem tag = some i → i.safe = false →
      i.body = .packed head b ts →
    Runs (.shelfWritePowerSafe tag) s fun t => t.sh.map = SMap.set s.sh.map head.stripeId (mapEntry i.first 0 3) ∧
      t.sh.plb = s.sh.plb.map (fun x => if x.tag = tag then { x with safe := true } else x))

/-- R110, R420, R426 to R428, R451, R459, R469. Requests at a shelf. -/
def Obligations.ShelvesAnswerRequests : Prop :=
  (∀ (s : State) (h : FrameHdr) (sla count : Nat) (bad : BitVec 16), s.shelfTakes h = true → (count = 0 ∨ 16 < sla % 16 + count) →
    Runs (.sectorRead h sla count bad) s fun t => s.repliedFirst t h 0x30 ST_SPOKE_FIELD 0 .none ∧ t.sh = s.sh ∧ t.keep = s.keep) ∧
  (∀ (s : State) (h : FrameHdr) (sla count : Nat) (bad : BitVec 16), s.shelfTakes h = true → 0 < count → sla % 16 + count ≤ 16 → s.stripSectors (sla / 16) = none →
    Runs (.sectorRead h sla count bad) s fun t => s.repliedFirst t h 0x30 ST_SPOKE_NOT_STORED 0 .none ∧ t.sh = s.sh ∧ t.keep = s.keep) ∧
  (∀ (s : State) (h : FrameHdr) (sla : Nat) (l : List (Option Sector)) (x : Sector), s.shelfTakes h = true → s.stripSectors (sla / 16) = some l → l.getD (sla % 16) none = some x → crc64 x.data = x.crc64 →
    Runs (.sectorRead h sla 1 0) s fun t => s.repliedFirst t h 0x30 0 0 (.sectors 0 [x.data ++ sectorBytes x]) ∧ t.sh = s.sh ∧ t.keep = s.keep) ∧
  (∀ (s : State) (h : FrameHdr) (sla : Nat) (l : List (Option Sector)), s.shelfTakes h = true → s.stripSectors (sla / 16) = some l → l.getD (sla % 16) none = none →
    Runs (.sectorRead h sla 1 0) s fun t => s.repliedFirst t h 0x30 0 0 (.sectors 1 [zeros 4112]) ∧ t.sh = s.sh ∧ t.keep = s.keep) ∧
  (∀ (s : State) (h : FrameHdr), s.shelfTakes h = true → s.mayWrite h.port = true → leaseStreamGen s.lease h.tag.stream ≤ h.streamGen →
    Runs (.drop h) s fun t => t.sh.plb = s.sh.plb.filter (fun x => x.tag != { h.tag with cls := .append }) ∧ t.repliedAmong h 0x31 0 5 .none ∧
      t.dropped { h.tag with cls := .append } = true) ∧
  (∀ (s : State) (h : FrameHdr), s.shelfTakes h = true → s.mayWrite h.port = false →
    Runs (.drop h) s fun t => t.sh = s.sh ∧ t.keep = s.keep ∧ s.repliedFirst t h 0x31 ST_SPOKE_NO_GRANT 0 .none) ∧
  (∀ (s : State) (h : FrameHdr) (sla : Nat), s.shelfTakes h = true → s.mayWrite h.port = true → leaseStreamGen s.lease h.tag.stream ≤ h.streamGen → h.purge = false → sla / 16 ∉ s.sh.copying →
    Runs (.discard h sla) s fun t => SMap.get t.sh.map (sla / 16) = none ∧ (∀ k, k ≠ sla / 16 → SMap.get t.sh.map k = SMap.get s.sh.map k) ∧ t.repliedAmong h 0x32 0 5 .none) ∧
  (∀ (s : State) (h : FrameHdr) (sla : Nat), s.shelfTakes h = true → s.mayWrite h.port = true → leaseStreamGen s.lease h.tag.stream ≤ h.streamGen → sla / 16 ∈ s.sh.copying →
    Runs (.discard h sla) s fun t => t.sh = { s.sh with heldDiscards := s.sh.heldDiscards ++ [({ strip := sla / 16, blocks := [], port := h.port, tag := h.tag, reqId := h.reqId }, h.purge)] } ∧ t.out = s.out) ∧
  (∀ (s : State) (h : FrameHdr) (entry : Bytes), s.isShelf = true → s.frameIn h = true →
    Runs (.health h entry) s fun t => s.repliedFirst t h 0x50 0 0 (.bytes (s.sh.sample.getD s.healthEntry)) ∧ t.sh = s.sh ∧ t.keep = s.keep) ∧
  (∀ (s : State) (h : FrameHdr) (seq : Nat), s.boot.readyDone = false → s.fit = true →
    Runs (.ledgerGet h seq) s fun t => t = s) ∧
  (∀ (s : State) (h : FrameHdr), s.shelfHears h = true → (s.boot.readyDone = true ∨ s.fit = false) →
    Runs (.ledgerGet h 0) s fun t => s.repliedFirst t h 0x51 0 0 (.bytes (padTo 4096 s.ownRecord)) ∧ t.sh = s.sh ∧ t.keep = s.keep) ∧
  (∀ (s : State) (h : FrameHdr) (seq : Nat) (r : Bytes), s.shelfHears h = true → (s.boot.readyDone = true ∨ s.fit = false) → 0 < seq → (s.recordsFrom seq 1).2 = [r] → recSeq r = seq →
    Runs (.ledgerGet h seq) s fun t => s.repliedFirst t h 0x51 0 0 (.bytes (padTo 4096 r)) ∧ t.sh = s.sh ∧ t.keep = s.keep) ∧
  (∀ (s : State) (h : FrameHdr) (first : Nat), s.shelfTakes h = true →
    Runs (.bufferList h first) s fun t => s.repliedFirst t h 0x52 0 0 (.list (((s.sh.plb.filterMap (fun i => match i.body with
      | .image a _ => some (i.tag, a) | .packed _ _ _ => none | .strip _ _ => none)).drop first).take 64)) ∧ t.sh = s.sh ∧ t.keep = s.keep) ∧
  (∀ (s : State) (h : FrameHdr) (i : PlbItem) (a : AppendHead) (img : Bytes), s.shelfTakes h = true → s.plbItem h.tag = some i → i.body = .image a img →
    Runs (.bufferRead h) s fun t => s.repliedFirst t h 0x53 0 0 (.bytes (appendHeadBytes a ++ img)) ∧ t.sh = s.sh ∧ t.keep = s.keep) ∧
  (∀ (s : State) (h : FrameHdr), s.shelfTakes h = true → s.plbItem h.tag = none →
    Runs (.bufferRead h) s fun t => s.repliedFirst t h 0x53 ST_SPOKE_NOT_STORED 0 .none ∧ t.sh = s.sh ∧ t.keep = s.keep)

/-- R110, R111, R229, R359, R361, R429, R434, R469. What a head does with the answers of shelves; of an array without replication. -/
def Obligations.HeadsTakeTheAnswersOfShelves : Prop :=
  (∀ (s : State) (h : FrameHdr) (tag : Tag) (bytes : Nat) (w : ChunkWork) (r : StripeRec), s.isHead = true → s.p p_repl_role = 0 → s.frameIn h = true → s.head.queue = [] → tag.cls = .append → tag.stream < 2 →
      s.work tag.stream tag.seq = some w → s.head.md.stripe (tag.item / 256) = some r → w.stripe = tag.item / 256 → w.released = false →
    Runs (.spokeAck h [⟨tag, bytes⟩]) s fun t => t.work tag.stream tag.seq = some { w with landAck := w.landAck || r.site w.strip == h.port.val, mirrorAck := w.mirrorAck || r.site r.k == h.port.val } ∧
      t.head.sent = s.head.sent.map (fun e => if e.site = h.port.val ∧ e.frame.tag = tag then { e with acked := true } else e)) ∧
  (∀ (s : State) (h : FrameHdr) (es : List AckEntry), s.isHead = true → s.frameIn h = true → s.head.queue = [] →
    Runs (.spokeDone h es) s fun t => t.head = { s.head with sent := s.head.sent.filter (fun e => !(e.site == h.port.val && es.any (fun x => x.tag == e.frame.tag))) }) ∧
  (∀ (s : State) (h : FrameHdr) (entry : Bytes), s.isHead = true → s.isShelf = false → s.frameIn h = true → s.head.queue = [] → entry.length = 64 → ((s.shelf h.port).readOnly = true ∨ num entry 1 1 < 2) →
    Runs (.health h entry) s fun t => t.shelf h.port = { s.shelf h.port with health := entry, free := num entry 24 8, capacity := num entry 16 8, readOnly := decide (2 ≤ num entry 1 1) }) ∧
  (∀ (s : State) (h : FrameHdr) (record : Bytes), s.isHead = true → s.frameIn h = true → s.head.queue = [] → s.leads = true → s.ledger.collecting = true →
      (∀ x ∈ s.ledger.collected, x.role = 1 → x.site = h.port.val → x.seq = recSeq record) →
      State.allCollected { s with ledger := { s.ledger with collected := s.ledger.collected.filter (fun x => !(x.role == 1 && x.site == h.port.val)) ++ [⟨1, h.port, s.recordStatus record, recSeq record, record⟩] } } = false →
    Runs (.ledgerGetReply h 0 record) s fun t => t.ledger = { s.ledger with
      collected := s.ledger.collected.filter (fun x => !(x.role == 1 && x.site == h.port.val)) ++ [⟨1, h.port, s.recordStatus record, recSeq record, record⟩] } ∧ t.nor = s.nor) ∧
  (∀ s : State, s.leads = true → s.ledger.collecting = true → s.boot.readyDone = true →
    Runs .ledgerCollectTimeout s fun t => t.ledger.collecting = false ∧ t.ledger.collected = [] ∧ t.ledger.arrayDone = true ∧ t.ledger.later = []) ∧
  (∀ s : State, s.leads = true → s.ledger.collecting = true → s.boot.readyDone = true → s.ledger.later = [] →
    Runs .ledgerCollectTimeout s fun t => t.ledger.newestSeq = (s.hem.staging.lastSeq + 1) % 2 ^ 64 ∧
      ∃ r, t.nor = appendRecord (placeRecord s.nor s.hem.staging.nextSlot 2).2 (placeRecord s.nor s.hem.staging.nextSlot 2).1 r ∧ num r 6 1 = 2 ∧ num r 8 8 = (s.hem.staging.lastSeq + 1) % 2 ^ 64) ∧
  (∀ (s : State) (p : Fin 64), s.isManager = true → s.portThere p = true → p.val < s.nShelves → (s.shelf p).portsUp.getLsbD s.peerSite = false → s.isFailed p = false → .manager (.fail p) ∉ (s.stream s.mgrStream).sealQueue →
    Runs (.spokePortFailTimeout p) s fun t => .manager (.fail p) ∈ (t.stream s.mgrStream).sealQueue ∧ t.head.md = s.head.md)

/-- R463, R483 to R486, R488, R491 to R495, R497, R499. That a call against R494 posts nothing is the model's reading (log 92). -/
def Obligations.FlashRoutinesPostAndReturnTheirStatus : Prop :=
  (∀ (s : State) (e : Fin 48) (r : FlashReq), s.flashCall e r = true → s.lunIdle r = true →
    Runs (.frRead e r) s (fun t => t.started e r { op := .read, req := r } ∧ t.flash.pages = s.flash.pages) ∧
    Runs (.frReadRetry e r) s (fun t => t.started e r { op := .readRetry, req := r } ∧ t.flash.pages = s.flash.pages) ∧
    Runs (.frStatus e r) s (fun t => t.started e r { op := .status, req := r } ∧ t.flash.pages = s.flash.pages) ∧
    (r.ce ≠ 0xFF → Runs (.frFeature e r) s (fun t => t.started e r { op := .feature, req := r } ∧ t.flash.pages = s.flash.pages))) ∧
  (∀ (s : State) (e : Fin 48) (r : FlashReq) (data metas : Bytes), s.flashCall e r = true → s.lunIdle r = true →
    Runs (.frProgram e r data metas) s fun t => ∃ x, t.started e r x ∧ x.op = .program ∧ x.req = r ∧ x.wild = s.progWild r ∧ t.flash.pages = s.flash.pages ∧
      x.pages = (List.range ((s.progPages r).length * (s.progPlanes r).length)).map (fun i => pageOf (sub data (16384 * i) 16384) (sub metas (96 * i) 96)) ∧
      x.badCheck = x.pages.any (fun p => p.sectors.any (fun y => crc64 y.data != y.crc64))) ∧
  (∀ (s : State) (e : Fin 48) (r : FlashReq) (reason : Fin 5) (i : Nat), s.flashCall e r = true → s.lunIdle r = true → s.intentSlot = some i →
    Runs (.frErase e r reason) s fun t => t.started e r { op := .erase, req := r } ∧ t.flash.pages = s.flash.pages ∧
      t.keep = { s.keep with intents := (SMap.set s.keep.intents i ⟨1, reason, r.mode, reqBlock r, s.keep.seq, s.epn, (s.block (reqBlock r)).count + (if r.mode = 0 then s.prof 36 2 else 100)⟩) }) ∧
  (∀ (s : State) (e : Fin 48) (r : FlashReq) (l : LunSt) (x : FlReq), s.flashCall e r = true → s.lun r.channel (dieIdx r.ce r.lun) = l → l.running = some x → x.op = .erase →
      s.time.t < l.since + s.p p_flash_erase_min_slice_us * 100 →
    Runs (.frSuspend e r) s fun t => t = s) ∧
  (∀ (s : State) (e : Fin 48) (r : FlashReq) (l : LunSt) (x : FlReq), s.flashCall e r = true → s.lun r.channel (dieIdx r.ce r.lun) = l → x ∈ l.running.toList ++ l.queue → (x.op = .read ∨ x.op = .readRetry) →
    Runs (.frResume e r) s fun t => t = s) ∧
  (∀ (s : State) (e : Fin 48) (r : FlashReq) (l : LunSt) (x : FlReq), s.flashCall e r = true → s.issues r.channel = true → s.lun r.channel (dieIdx r.ce r.lun) = l → l.queue = [] → l.running = some x → x.op = .erase →
      l.since + s.p p_flash_erase_min_slice_us * 100 ≤ s.time.t →
    Runs (.frSuspend e r) s fun t => (t.lun r.channel (dieIdx r.ce r.lun)).running = none ∧ (t.lun r.channel (dieIdx r.ce r.lun)).suspended = some x ∧ SMap.get (t.engine e).x 10 = some 0) ∧
  (∀ (s : State) (e : Fin 48) (r : FlashReq) (l : LunSt) (x : FlReq), s.flashCall e r = true → s.issues r.channel = true → s.lun r.channel (dieIdx r.ce r.lun) = l → l.queue = [] → l.running = none → l.suspended = some x →
    Runs (.frResume e r) s fun t => (t.lun r.channel (dieIdx r.ce r.lun)).running = some x ∧ (t.lun r.channel (dieIdx r.ce r.lun)).suspended = none ∧ SMap.get (t.engine e).x 10 = some 0) ∧
  (∀ (s : State) (e : Fin 48) (r : FlashReq), s.engRuns e = true → s.isShelf = true → s.eng.length = 48 → s.frStatus r ≠ 0 →
    Runs (.frRead e r) s fun t => SMap.get (t.engine e).x 10 = some (s.frStatus r % 2 ^ 64) ∧ t.flash = s.flash ∧ t.ring = s.ring) ∧
  (∀ (s : State) (e : Fin 48) (r : FlashReq), s.engRuns e = true → s.isShelf = true → s.eng.length = 48 → s.flash.chans.length = 32 →
    Runs (.frFeatureChEnable e r) s fun t => SMap.get (t.engine e).x 10 = some 0 ∧ (t.chan r.channel).enable = r.arg.getLsbD 0 ∧
      (t.chan r.channel).clearing = (if r.arg.getLsbD 0 then false else (s.chan r.channel).enable || (s.chan r.channel).clearing)) ∧
  (∀ (s : State) (e : Fin 48) (r : FlashReq), s.engRuns e = true → s.isShelf = true → s.eng.length = 48 →
    Runs (.frFeatureChStatus e r) s fun t => SMap.get (t.engine e).x 10 = some 0 ∧
      t = ((s.dmaWrite r.metaAddr (le 4 ((s.chan r.channel).status % 2 ^ 32))).flashCpl r 0 0 4).setEngine e
        ((((s.dmaWrite r.metaAddr (le 4 ((s.chan r.channel).status % 2 ^ 32))).flashCpl r 0 0 4).engine e).put 10 0))

/-- R446, R460, R463, R477, R485 to R498, R505. The operation that runs on a die ends. -/
def Obligations.FlashOperationsEndAsTheDieShows : Prop :=
  (∀ (s : State) (c : Fin 32) (ce lun : Fin 4) (d : DieResult) (x : FlReq), s.dieRuns c ce lun x → x.op = .read → x.req.sentinel = false → x.req.wantTag = false →
      (s.readAll x.req d).all (fun y => y.sector.isSome && !y.checkFail) = true →
    Runs (.flashOpComplete c ce lun d) s fun t => (t.lun c (dieIdx ce lun)).running = none ∧ t.flash.pages = s.flash.pages ∧ t.sh.blocks = s.sh.blocks ∧
      s.posted t x.req 0 0 (4096 * (s.readAll x.req d).length) ∧
      t.mem = (((s.dmaWrite x.req.data ((s.readAll x.req d).flatMap (fun y => match y.sector with | some v => v.data | none => []))).dmaWrite x.req.metaAddr
        (zeros 7 ++ le 1 (min d.maxCbits 255) ++ zeros 8 ++ (s.readAll x.req d).flatMap (fun y => match y.sector with | some v => sectorBytes v | none => []))).pushCpl
          ⟨x.req.ring, x.req.notify, ⟨x.req.tag, 0, 0, 4096 * (s.readAll x.req d).length⟩⟩).mem) ∧
  (∀ (s : State) (c : Fin 32) (ce lun : Fin 4) (d : DieResult) (x : FlReq), s.dieRuns c ce lun x → (x.op = .read ∨ x.op = .readRetry) → x.req.sentinel = false →
      (s.readAll x.req d).any (fun y => y.sector.isNone && !y.erased) = true →
    Runs (.flashOpComplete c ce lun d) s fun t => (t.lun c (dieIdx ce lun)).running = none ∧ t.flash.pages = s.flash.pages ∧
      s.posted t x.req ST_FLASH_UNCORR 0 (4096 * (s.readAll x.req d).length) ∧ (t.chan x.req.channel).uncorr = satInc 16 (s.chan x.req.channel).uncorr) ∧
  (∀ (s : State) (c : Fin 32) (ce lun : Fin 4) (d : DieResult) (x : FlReq), s.dieRuns c ce lun x → (x.op = .read ∨ x.op = .readRetry) → x.req.sentinel = false →
      s.readAll x.req d ≠ [] → (s.readAll x.req d).all (·.erased) = true →
    Runs (.flashOpComplete c ce lun d) s fun t => (t.lun c (dieIdx ce lun)).running = none ∧ t.flash.pages = s.flash.pages ∧
      s.posted t x.req ST_FLASH_ERASED 0 (4096 * (s.readAll x.req d).length)) ∧
  (∀ (s : State) (c : Fin 32) (ce lun : Fin 4) (d : DieResult) (x : FlReq), s.dieRuns c ce lun x → (x.op = .read ∨ x.op = .readRetry) → x.req.sentinel = false →
      (s.readAll x.req d).all (fun y => y.sector.isSome) = true → (s.readAll x.req d).any (·.checkFail) = true →
    Runs (.flashOpComplete c ce lun d) s fun t => (t.lun c (dieIdx ce lun)).running = none ∧ t.flash.pages = s.flash.pages ∧
      s.posted t x.req ST_FLASH_CHECK 0 (4096 * (s.readAll x.req d).length)) ∧
  (∀ (s : State) (c : Fin 32) (ce lun : Fin 4) (d : DieResult) (x : FlReq), s.dieRuns c ce lun x → (x.op = .read ∨ x.op = .readRetry) → x.req.sentinel = true →
    Runs (.flashOpComplete c ce lun d) s fun t => (t.lun c (dieIdx ce lun)).running = none ∧ t.flash.pages = s.flash.pages ∧
      s.posted t x.req (if !(reqPlanes x.req s.planes).isEmpty && (reqPlanes x.req s.planes).all (fun p => (s.page (reqBlock x.req) p x.req.page).isNone && !d.undecoded.getLsbD (4 * p))
        then ST_FLASH_ERASED else 0) 0 0) ∧
  (∀ (s : State) (c : Fin 32) (ce lun : Fin 4) (d : DieResult) (x : FlReq), s.dieRuns c ce lun x → x.op = .program → x.badCheck = true →
    Runs (.flashOpComplete c ce lun d) s fun t => (t.lun c (dieIdx ce lun)).running = none ∧ t.flash.pages = s.flash.pages ∧ t.sh = s.sh ∧ s.posted t x.req ST_FLASH_CHECK_WRITE 0 0) ∧
  (∀ (s : State) (c : Fin 32) (ce lun : Fin 4) (d : DieResult) (x : FlReq), s.dieRuns c ce lun x → x.op = .program → x.badCheck = false → x.wild = false → d.failed = false →
    Runs (.flashOpComplete c ce lun d) s fun t => (t.lun c (dieIdx ce lun)).running = none ∧
      t.flash.pages = storePages (reqBlock x.req) ((s.progPlaces x.req).zip x.pages) s.flash.pages) ∧
  (∀ (s : State) (c : Fin 32) (ce lun : Fin 4) (d : DieResult) (x : FlReq), s.dieRuns c ce lun x → x.op = .program → x.badCheck = false → d.failed = true →
    Runs (.flashOpComplete c ce lun d) s fun t => (t.lun c (dieIdx ce lun)).running = none ∧ (t.block (reqBlock x.req)).st = 4 ∧ t.sh.sparePool = s.sh.sparePool - 1 ∧
      t.sh.health.progFails = satInc 16 s.sh.health.progFails ∧ s.posted t x.req ST_FLASH_PROG_FAIL (16384 * x.pages.length) 0) ∧
  (∀ (s : State) (c : Fin 32) (ce lun : Fin 4) (d : DieResult) (x : FlReq), s.dieRuns c ce lun x → x.op = .erase → d.failed = false →
    Runs (.flashOpComplete c ce lun d) s fun t => (t.lun c (dieIdx ce lun)).running = none ∧ (t.block (reqBlock x.req)).st = 0 ∧ (t.block (reqBlock x.req)).mode = x.req.mode ∧
      (∀ pl pg, pl < 4 → pl < s.planes → pg < 4096 → reqWants x.req (4 * pl) = true → t.page (reqBlock x.req) pl pg = none) ∧
      (∀ b pl pg, pl < 4 → pg < 4096 → b ≠ reqBlock x.req → t.page b pl pg = s.page b pl pg)) ∧
  (∀ (s : State) (c : Fin 32) (ce lun : Fin 4) (d : DieResult) (x : FlReq), s.dieRuns c ce lun x → x.op = .erase → d.failed = true →
    Runs (.flashOpComplete c ce lun d) s fun t => (t.lun c (dieIdx ce lun)).running = none ∧ (t.block (reqBlock x.req)).st = 4 ∧ t.flash.pages = s.flash.pages ∧
      t.sh.health.eraseFails = satInc 16 s.sh.health.eraseFails ∧ s.posted t x.req ST_FLASH_ERASE_FAIL 0 0) ∧
  (∀ (s : State) (c : Fin 32) (ce lun : Fin 4) (d : DieResult) (x : FlReq), s.dieRuns c ce lun x → x.op = .status →
    Runs (.flashOpComplete c ce lun d) s fun t => (t.lun c (dieIdx ce lun)).running = none ∧ t.flash.pages = s.flash.pages ∧ t.sh = s.sh ∧ s.posted t x.req 0 0 16) ∧
  (∀ (s : State) (c : Fin 32) (ce lun : Fin 4) (d : DieResult) (x : FlReq), s.dieRuns c ce lun x → x.op = .feature → x.req.set = true →
    Runs (.flashOpComplete c ce lun d) s fun t => (t.lun c (dieIdx ce lun)).running = none ∧ SMap.get (t.lun c (dieIdx ce lun)).feats x.req.sel = some x.req.arg.toNat ∧
      t.mem = (s.pushCpl ⟨x.req.ring, x.req.notify, ⟨x.req.tag, 0, 0, 0⟩⟩).mem ∧ s.posted t x.req 0 0 0) ∧
  (∀ (s : State) (c : Fin 32) (ce lun : Fin 4) (answers : Bool) (x : FlReq), s.dieRuns c ce lun x →
    Runs (.flashOpTimeout c ce lun answers) s fun t => (t.lun c (dieIdx ce lun)).running = none ∧ (t.lun c (dieIdx ce lun)).failed = !answers ∧ t.flash.pages = s.flash.pages ∧
      s.posted t x.req ST_FLASH_TIMEOUT 0 0 ∧ (x.op.writes = true → (t.block (reqBlock x.req)).st = 4) ∧ (x.op.writes = false → t.sh = s.sh) ∧
      (answers = false → t.raised AL_FLASH_DIE_FAIL (srcOf 4 c)))

/-- R180, R506, R507, R509 to R517, R520, R522, R524, R530. The front ports and the RoCEv2 engine. -/
def Obligations.FrontPortsAndQueuePairsFollowTheWire : Prop :=
  (∀ (s : State) (p : Fin 16), s.fw = true → s.isHead = true → s.front.length = 16 → s.pi p_eth_port_speed p ≠ 0 → (s.frontOf p).up = false → (s.frontOf p).stopping = false →
    Runs (.frontPortLinkUp p) s fun t => t.frontOf p = { s.frontOf p with up := true, speed := s.pi p_eth_port_speed p } ∧ ¬ t.raised AL_RDMA_PORT_DOWN (srcOf 2 p) ∧
      (∀ q, q ≠ p.val → t.frontOf q = s.frontOf q)) ∧
  (∀ (s : State) (p : Fin 16) (n : Nat) (q : Qp), s.fw = true → s.isHead = true → s.front.length = 16 → (s.frontOf p).up = true →
      s.rdma.qps.filter (fun e => e.2.port == p.val && e.2.state == 1) = [(n, q)] →
    Runs (.frontPortLinkDown p) s fun t => (t.frontOf p).up = false ∧ (t.frontOf p).speed = 0 ∧ (∃ a, SMap.get t.rdma.qps n = some { q with failing := true, assoc := a }) ∧
      (∀ c, q.use = .host c → q.assoc = 1 → (t.ctrl c).hostNqn = none) ∧ (q.assoc ≠ 1 → t.nvme = s.nvme)) ∧
  (∀ (s : State) (p : Fin 16), s.fw = true → s.isHead = true → s.pi p_eth_port_speed p ≠ 0 → (s.frontOf p).up = false → (s.frontOf p).downAt + 100000000 ≤ s.time.t →
    Runs (.frontPortDownAlarm p) s fun t => t.raised AL_RDMA_PORT_DOWN (srcOf 2 p) ∧ t.front = s.front) ∧
  (∀ (s : State) (p : Fin 16) (k : Fin 3), s.fw = true → s.isHead = true → (s.frontOf p).up = true →
    Runs (.frontPortNeighbour p k) s fun t => t = { s with out := s.out ++ [.portAnswer p k] }) ∧
  (∀ (s : State) (p : Fin 16) (named pause : BitVec 8), s.fw = true → s.isHead = true → s.front.length = 16 → (s.frontOf p).up = true → s.rdma.txHeld = [] →
    Runs (.pfcPauseFrame p named pause) s fun t => t.out = s.out ∧ (∀ i, i < 8 → (t.frontOf p).held.getLsbD i =
      (if named.getLsbD i && (BitVec.ofNat 8 (s.pi p_eth_pfc_mask p)).getLsbD i then pause.getLsbD i else (s.frontOf p).held.getLsbD i))) ∧
  (∀ (s : State) (p : Fin 16) (named pause : BitVec 8) (n psn : Nat), s.fw = true → s.isHead = true → s.front.length = 16 → (s.frontOf p).up = true → s.rdma.txHeld = [(n, psn, [p.val])] →
      named.getLsbD (s.p p_eth_rdma_priority) = true → (BitVec.ofNat 8 (s.pi p_eth_pfc_mask p)).getLsbD (s.p p_eth_rdma_priority) = true → pause.getLsbD (s.p p_eth_rdma_priority) = false →
    Runs (.pfcPauseFrame p named pause) s fun t => t.out = s.out ++ [.rdmaSend n psn [p.val]] ∧ t.rdma.txHeld = []) ∧
  (∀ (s : State) (qpn : Nat) (p : Fin 16) (a b : Fin 16777216) (rq : List (Nat × Nat)) (cr : Nat), s.rdmaOn = true → (s.frontOf p).up = true → 2 ≤ qpn → qpn ≤ 262145 →
      SMap.has s.rdma.qps qpn = false → s.p p_repl_role ≠ 0 →
    Runs (.rdmaCmConnect qpn p .data a b rq cr) s fun t => t = { s with rdma := { s.rdma with
      qps := SMap.set s.rdma.qps qpn { use := .data, port := p, expPsn := a, nextPsn := b, rq := rq, credits := cr, timerAt := s.time.t } } }) ∧
  (∀ (s : State) (qpn c : Nat) (p : Fin 16) (a b : Fin 16777216) (rq : List (Nat × Nat)) (cr : Nat), s.rdmaOn = true → (s.frontOf p).up = true → 2 ≤ qpn → qpn ≤ 262145 →
      SMap.has s.rdma.qps qpn = false → (s.ctrlKind c).fabric = true → bit (s.p p_nvme_rdma_port_mask) p = true →
    Runs (.rdmaCmConnect qpn p (.host c) a b rq cr) s fun t => t = { s with rdma := { s.rdma with
      qps := SMap.set s.rdma.qps qpn { use := .host c, port := p, expPsn := a, nextPsn := b, rq := rq, credits := cr, timerAt := s.time.t } } }) ∧
  (∀ (s : State) (qpn : Nat) (p : Fin 16) (a b : Fin 16777216) (rq : List (Nat × Nat)) (cr : Nat), s.rdmaOn = true → (s.frontOf p).up = true → 2 ≤ qpn → qpn ≤ 262145 →
      SMap.has s.rdma.qps qpn = false → s.isManager = true → s.isSource = true →
    Runs (.rdmaCmConnect qpn p .control a b rq cr) s fun t => t.repl = { s.repl with state := 1, taking := none } ∧ t.out = s.out ++ [.rdmaReadReq qpn b 8]) ∧
  (∀ (s : State) (qpn : Nat) (q : Qp), s.rdmaOn = true → SMap.get s.rdma.qps qpn = some q →
    Runs (.rdmaCmDisconnect qpn) s fun t => SMap.get t.rdma.qps qpn = none ∧ (∀ c, q.use = .host c → q.assoc = 1 → (t.ctrl c).hostNqn = none) ∧
      (q.use ≠ .control → q.assoc ≠ 1 → t.nvme = s.nvme) ∧
      (q.use = .control → s.p p_repl_role ≠ 0 → t.repl.state = 4 ∧ (s.repl.state ≠ 4 → t.raised AL_REPL_DOWN 0))) ∧
  (∀ (s : State) (p : RdmaPkt) (q : Qp) (a l : Nat) (rest : List (Nat × Nat)), s.atQp p q → q.spray = none → p.spray = none → p.psn = q.expPsn → p.first = true → p.last = true → q.rq = (a, l) :: rest → p.payload.length ≤ l →
    Runs (.rdmaSend p) s fun t => SMap.get t.rdma.qps p.qpn = some { q with expPsn := psnAdd q.expPsn 1, nakSent := false, incoming := none, rq := rest ++ [(a, l)] } ∧
      t.rdma.done = s.rdma.done ++ [(p.qpn, 0, 0)] ∧ t.mem = (s.dmaWrite a p.payload).mem ∧ t.out = (s.dmaWrite a p.payload).out ++ [.rdmaAck p.qpn p.psn (rest.length + 1)]) ∧
  (∀ (s : State) (p : RdmaPkt) (q : Qp), s.atQp p q → q.spray = none → p.spray = none → p.psn = q.expPsn → p.first = true → q.rq = [] →
    Runs (.rdmaSend p) s fun t => t.rdma.qps = s.rdma.qps ∧ t.mem = s.mem ∧ t.out = s.out ++ [.rdmaNak p.qpn p.psn 3]) ∧
  (∀ (s : State) (p : RdmaPkt) (q : Qp) (a l : Nat), s.atQp p q → q.spray = none → p.spray = none → p.psn ≠ q.expPsn → psnDist p.psn q.expPsn < 2 ^ 23 → q.nakSent = false → dmaReach a l = true →
    Runs (.rdmaWrite p a l) s fun t => SMap.get t.rdma.qps p.qpn = some { q with nakSent := true } ∧ t.mem = s.mem ∧ t.out = s.out ++ [.rdmaNak p.qpn q.expPsn 0]) ∧
  (∀ (s : State) (p : RdmaPkt) (q : Qp) (a : Nat), s.atQp p q → q.spray = none → p.spray = none → p.psn = q.expPsn → p.first = true → p.last = true → dmaReach a p.payload.length = true →
    Runs (.rdmaWrite p a p.payload.length) s fun t => SMap.get t.rdma.qps p.qpn = some { q with expPsn := psnAdd q.expPsn 1, nakSent := false, incoming := none } ∧
      t.rdma.done = s.rdma.done ∧ t.mem = (s.dmaWrite a p.payload).mem ∧ t.out = (s.dmaWrite a p.payload).out ++ [.rdmaAck p.qpn p.psn q.rq.length]) ∧
  (∀ (s : State) (p : RdmaPkt) (q : Qp) (a l : Nat), s.atQp p q → q.use = .data → q.spray = none → p.spray = none → p.psn = q.expPsn → p.first = true → l < p.payload.length → dmaReach a l = true →
    Runs (.rdmaWrite p a l) s fun t => t.mem = s.mem ∧ (s.out ++ [.rdmaNak p.qpn p.psn 1]) <+: t.out ∧ (p.qpn, 0, ST_RDMA_LEN_LONG) ∈ t.rdma.done ∧
      ∃ q', SMap.get t.rdma.qps p.qpn = some q' ∧ q'.state = 2) ∧
  (∀ (s : State) (p : RdmaPkt) (q : Qp) (r : SprayRx) (m idx a l : Nat), s.atQp p q → q.spray = some r → r.placed = [] → r.seals = [] → p.spray = some (m, idx, false) → p.psn = r.base → p.psn < 2 ^ 24 →
      idx * s.pmtu + p.payload.length ≤ l → dmaReach a l = true →
    Runs (.rdmaWrite p a l) s fun t => t.mem = (s.dmaWrite (a + idx * s.pmtu) p.payload).mem ∧ t.rdma.done = s.rdma.done ∧
      ∃ q' r', SMap.get t.rdma.qps p.qpn = some q' ∧ q'.spray = some r' ∧ r'.base = psnAdd p.psn 1 ∧ r'.placed = [] ∧ r'.nextMsg = r.nextMsg) ∧
  (∀ (s : State) (p : RdmaPkt), s.rdmaOn = true → s.front.length = 16 → (s.frontOf p.fp).up = true → SMap.has s.rdma.qps p.qpn = false →
    Runs (.rdmaSend p) s fun t => t = s.setFront p.fp { s.frontOf p.fp with drops := satInc 16 (s.frontOf p.fp).drops }) ∧
  (∀ (s : State) (p : RdmaPkt), s.rdmaOn = true → s.front.length = 16 → (s.frontOf p.fp).up = true → SMap.has s.rdma.qps p.qpn = true → s.rdma.cache.contains p.qpn = false →
      (s.frontOf p.fp).parked + p.payload.length < 262144 →
    Runs (.rdmaSend p) s fun t => t.rdma.parked = s.rdma.parked ++ [(p.qpn, .send p)] ∧ t.rdma.qps = s.rdma.qps ∧ t.out = s.out ∧
      (t.frontOf p.fp).parked = (s.frontOf p.fp).parked + p.payload.length) ∧
  (∀ (s : State) (p : RdmaPkt) (q : Qp) (a l : Nat) (rest : List (Nat × Nat)), s.rdmaOn = true → s.front.length = 16 → s.rdma.parked = [(p.qpn, .send p)] → SMap.get s.rdma.qps p.qpn = some q → q.state = 1 → p.ceMarked = false →
      (s.frontOf p.fp).paused = 0 → q.spray = none → p.spray = none → p.psn = q.expPsn → p.first = true → p.last = true → q.rq = (a, l) :: rest → p.payload.length ≤ l →
    Runs (.rdmaContextFetchDone p.qpn) s fun t => t.rdma.parked = [] ∧ t.rdma.cache = cacheIn s.rdma.cache p.qpn ∧ (t.frontOf p.fp).parked = (s.frontOf p.fp).parked - p.payload.length ∧
      t.rdma.done = s.rdma.done ++ [(p.qpn, 0, 0)] ∧ t.mem = (s.dmaWrite a p.payload).mem) ∧
  (∀ (s : State) (p : RdmaPkt) (q : Qp) (off len : Nat), s.atQp p q → s.isTarget = true → p.psn = q.expPsn → off + len ≤ 8 →
    Runs (.rdmaRead p true off len) s fun t => t.repl = s.repl ∧ t.out = s.out ++ [.rdmaRead p.qpn p.psn (sub (le 8 s.repl.word) off len)]) ∧
  (∀ (s : State) (p : RdmaPkt) (q : Qp) (off len : Nat), s.atQp p q → q.use = .data → p.psn = q.expPsn →
    Runs (.rdmaRead p false off len) s fun t => t.repl = s.repl ∧ (s.out ++ [.rdmaNak p.qpn p.psn 2]) <+: t.out ∧ ∃ q', SMap.get t.rdma.qps p.qpn = some q' ∧ q'.state = 2) ∧
  (∀ (s : State) (p : RdmaPkt) (q : Qp) (addr add : Nat), s.atQp p q → s.isTarget = true → p.psn = q.expPsn → addr % 8 = 0 →
    Runs (.rdmaFetchAndAdd p true addr add) s fun t => t.repl = { s.repl with word := (s.repl.word + add) % 2 ^ 64 } ∧ t.out = s.out ++ [.rdmaRead p.qpn p.psn (le 8 s.repl.word)]) ∧
  (∀ (s : State) (p : RdmaPkt) (q : Qp) (addr cmp swap : Nat), s.atQp p q → s.isTarget = true → p.psn = q.expPsn → addr % 8 = 0 → s.repl.word < 2 ^ 64 →
    Runs (.rdmaCompareAndSwap p true addr cmp swap) s fun t => t.repl = { s.repl with word := if s.repl.word = cmp then swap % 2 ^ 64 else s.repl.word } ∧
      t.out = s.out ++ [.rdmaRead p.qpn p.psn (le 8 s.repl.word)])

/-- R512, R513, R515 to R517, R524, R530. The requester, its timers, and the loss of the device. -/
def Obligations.RequestersAcknowledgeGoBackAndFail : Prop :=
  (∀ (s : State) (qpn cr : Nat) (psn : Fin 16777216) (q : Qp) (w : WorkReq), s.rdmaOn = true → SMap.get s.rdma.qps qpn = some q → q.state = 1 → q.unacked = [w] → psn.val = w.lastPsn →
    Runs (.rdmaAck qpn psn cr none) s fun t => SMap.get t.rdma.qps qpn = some { q with unacked := [], credits := cr, timerAt := s.time.t, retries := 0 } ∧
      t.rdma.done = s.rdma.done ++ [(qpn, w.wr, 0)] ∧ t.out = s.out) ∧
  (∀ (s : State) (qpn cr : Nat) (psn : Fin 16777216) (q : Qp) (b : Bytes), s.rdmaOn = true → SMap.get s.rdma.qps qpn = some q → q.state = 1 → q.use = .data → 8 < b.length →
    Runs (.rdmaAck qpn psn cr (some b)) s fun t => (∃ q', SMap.get t.rdma.qps qpn = some q' ∧ q'.state = 2) ∧ (s.out ++ [.rdmaNak qpn psn 1]) <+: t.out ∧
      (∀ w, q.unacked.head? = some w → (qpn, w.wr, ST_RDMA_LEN_LONG) ∈ t.rdma.done)) ∧
  (∀ (s : State) (qpn cr : Nat) (psn : Fin 16777216) (q : Qp) (b : Bytes), s.rdmaOn = true → SMap.get s.rdma.qps qpn = some q → q.state = 1 → q.use = .data → b.length < 8 →
    Runs (.rdmaAck qpn psn cr (some b)) s fun t => (∃ q', SMap.get t.rdma.qps qpn = some q' ∧ q'.state = 2) ∧
      (∀ w, q.unacked.head? = some w → (qpn, w.wr, ST_RDMA_LEN_SHORT) ∈ t.rdma.done)) ∧
  (∀ (s : State) (qpn cr new : Nat) (psn : Fin 16777216) (q : Qp) (b : Bytes), s.rdmaOn = true → SMap.get s.rdma.qps qpn = some q → q.state = 1 → b.length = 8 → s.repl.state = 1 → s.isManager = true → s.isSource = true →
      s.repl.taking = some (leNat b, new) →
    Runs (.rdmaAck qpn psn cr (some b)) s fun t => t.repl.taking = none ∧ t.repl.claim = wordClaim new ∧ ∃ msg, (s.out ++ [.repl msg]) <+: t.out) ∧
  (∀ (s : State) (qpn cr read new : Nat) (psn : Fin 16777216) (q : Qp) (b : Bytes), s.rdmaOn = true → SMap.get s.rdma.qps qpn = some q → q.state = 1 → b.length = 8 → s.repl.state = 1 → s.isManager = true → s.isSource = true →
      s.repl.taking = some (read, new) → leNat b ≠ read →
    Runs (.rdmaAck qpn psn cr (some b)) s fun t => t.repl = { s.repl with taking := some (leNat b, s.newWord (leNat b)) } ∧
      t.out = s.out ++ [.rdmaCas qpn q.nextPsn (leNat b) (s.newWord (leNat b))]) ∧
  (∀ (s : State) (qpn : Nat) (psn : Fin 16777216) (kind : Fin 4) (q : Qp) (w : WorkReq), s.rdmaOn = true → SMap.get s.rdma.qps qpn = some q → q.state = 1 → q.use = .data → q.spray = none → q.unacked = [w] →
      psn.val = w.psn → 0 < w.packets → w.packets ≤ 4096 → q.retries < s.p p_rdma_retry_cnt → s.portPaused q.port = false → (kind.val = 0 ∨ kind.val = 3) →
    Runs (.rdmaNak qpn psn kind) s fun t => SMap.get t.rdma.qps qpn = some { q with unacked := [{ w with resent := w.resent + 1 }], retries := q.retries + 1, timerAt := s.time.t } ∧
      t.out = s.out ++ [.rdmaSend qpn w.psn (List.replicate w.packets q.port)] ∧ t.rdma.done = s.rdma.done) ∧
  (∀ (s : State) (qpn : Nat) (psn : Fin 16777216) (kind : Fin 4) (q : Qp) (w : WorkReq), s.rdmaOn = true → SMap.get s.rdma.qps qpn = some q → q.state = 1 → q.use = .data → q.unacked = [w] →
      psn.val = w.psn → 0 < w.packets → w.packets ≤ 4096 → s.p p_rdma_retry_cnt ≤ q.retries → (kind.val = 0 ∨ kind.val = 3) →
    Runs (.rdmaNak qpn psn kind) s fun t => (∃ q', SMap.get t.rdma.qps qpn = some q' ∧ q'.state = 2) ∧ t.rdma.done = s.rdma.done ++ [(qpn, w.wr, ST_RDMA_RETRY_EXCEEDED)]) ∧
  (∀ (s : State) (qpn : Nat) (psn : Fin 16777216) (kind : Fin 4) (q : Qp) (w : WorkReq), s.rdmaOn = true → SMap.get s.rdma.qps qpn = some q → q.state = 1 → q.use = .data → q.unacked = [w] →
      psn.val = w.psn → 0 < w.packets → w.packets ≤ 4096 → (kind.val = 1 ∨ kind.val = 2) →
    Runs (.rdmaNak qpn psn kind) s fun t => (∃ q', SMap.get t.rdma.qps qpn = some q' ∧ q'.state = 2) ∧ t.rdma.done = s.rdma.done ++ [(qpn, w.wr, ST_RDMA_REMOTE_ERROR)]) ∧
  (∀ (s : State) (qpn : Nat) (q : Qp) (w : WorkReq), s.rdmaOn = true → SMap.get s.rdma.qps qpn = some q → q.state = 1 → q.spray = none → q.unacked = [w] → w.psn < 2 ^ 24 → 0 < w.packets → w.packets ≤ 4096 →
      q.timerAt + s.ackTicks ≤ s.time.t → q.retries < s.p p_rdma_retry_cnt → s.portPaused q.port = false →
    Runs (.rdmaAckTimeout qpn) s fun t => SMap.get t.rdma.qps qpn = some { q with unacked := [{ w with resent := w.resent + 1 }], retries := q.retries + 1, timerAt := s.time.t } ∧
      t.out = s.out ++ [.rdmaSend qpn w.psn (List.replicate w.packets q.port)]) ∧
  (∀ (s : State) (qpn : Nat) (q : Qp), s.rdmaOn = true → SMap.get s.rdma.qps qpn = some q → q.state = 1 → s.p p_rdma_cc_enable = 1 →
    Runs (.rdmaCnp qpn) s fun t => t = s.setQp qpn { q with rate := q.rate / 2, cnpGot := some s.time.t }) ∧
  (∀ (s : State) (qpn c : Nat) (q : Qp), s.rdmaOn = true → SMap.get s.rdma.qps qpn = some q → q.state = 1 → q.cnpGot = some c → c + 5500 ≤ s.time.t → q.rate < 65536 →
    Runs (.rdmaRateRestore qpn) s fun t => t = s.setQp qpn { q with rate := min 65536 (q.rate + 4096), cnpGot := some s.time.t }) ∧
  (∀ (s : State) (qpn since : Nat) (psn : Fin 16777216) (q : Qp) (r : SprayRx), s.rdmaOn = true → SMap.get s.rdma.qps qpn = some q → q.spray = some r → r.holes = [(psn.val, since)] →
      since + s.p p_rdma_spray_hole_us * 100 ≤ s.time.t →
    Runs (.sprayHoleTimeout qpn psn) s fun t => t = (s.setQp qpn { q with spray := some { r with holes := [(psn.val, s.time.t)] } }).emit (.rdmaNak qpn psn 0)) ∧
  (∀ s : State, s.fw = true → s.isHead = true →
    Runs .rdmaDeviceFatal s fun t => t.rdma.fatal = true ∧ t.raised AL_RDMA_DEVICE_FATAL 0 ∧ t.seam.own = 3 ∧ ∀ n q, SMap.get t.rdma.qps n = some q → q.state = 2)

/-- R316, R337, R525 to R537, R539, R540. The source of replication. -/
def Obligations.TheSourceOfReplicationFollowsItsPartner : Prop :=
  (∀ (s : State) (h : ReplHdr) (partner : Bytes) (point r0 r1 : Nat), s.fromTarget h = true → s.isManager = true → s.repl.state = 1 → s.repl.taking = none → h.ident = s.repl.keyGen →
    Runs (.sessionAck h partner point r0 r1 []) s fun t => t.repl.held = true ∧ t.repl.partnerId = padTo 16 partner ∧ t.repl.replicated = max s.repl.replicated point ∧
      t.repl.receipts = [max (s.repl.receipts.getD 0 0) r0, max (s.repl.receipts.getD 1 0) r1] ∧ ¬ t.raised AL_REPL_DOWN 0 ∧ ¬ t.raised AL_REPL_DIVERGE 0 ∧ ¬ t.raised AL_REPL_PARTNER_MISMATCH 0) ∧
  (∀ (s : State) (h : ReplHdr) (partner : Bytes) (point r0 r1 : Nat), s.fromTarget h = true → s.isManager = true → s.repl.state = 1 → s.repl.taking = none → h.ident = s.repl.keyGen →
      s.repl.resyncEpn = 0 → s.repl.last = [0, 0] → 0 < point →
    Runs (.sessionAck h partner point r0 r1 []) s fun t => t.repl.state = 2) ∧
  (∀ (s : State) (h : ReplHdr) (partner : Bytes), s.fromTarget h = true → s.isManager = true → s.repl.state = 1 → s.repl.taking = none → h.ident = s.repl.keyGen →
      s.repl.resyncEpn = 0 → s.repl.replicated = 0 → s.repl.receipts = [0, 0] →
    Runs (.sessionAck h partner 0 0 0 []) s fun t => t.repl.resyncEpn = s.leastE ∧ t.repl.diffSent = false ∧ s.recorded t (.snapDefine ⟨1048573, s.leastE, s.replNs⟩)) ∧
  (∀ (s : State) (h : ReplHdr) (e : PullEntry) (b : Bytes) (c : Nat × ChunkRec), s.fromTarget h = true → s.isManager = true →
      s.head.md.chunks.find? (fun c => c.2.domain == e.domain && padTo 32 c.2.fp == padTo 32 e.fp && c.2.live && !c.2.lost) = some c →
    Runs (.pull h [(e, some b)]) s fun t => s.replSent t 0x21 255 0 1 e.reqNo 0 (chunkUnit s.replPf1 e.domain false c.2.lostBlocks e.fp b) ∧ t.repl.pulled = s.repl.pulled + 1 ∧ t.head = s.head) ∧
  (∀ (s : State) (h : ReplHdr) (e : PullEntry), s.fromTarget h = true → s.isManager = true →
    Runs (.pull h [(e, none)]) s fun t => s.replSent t 0x21 255 0 1 e.reqNo 0 (chunkUnit s.replPf1 e.domain true 0 e.fp []) ∧ t.repl.pulled = s.repl.pulled + 1 ∧ t.head = s.head) ∧
  (∀ (s : State) (h : ReplHdr) (n : Nat) (b : Bundle), s.fromTarget h = true → h.stream < 2 → SMap.get (s.stream h.stream).bundles n = some b → n ≤ h.ident →
    Runs (.receipt h) s fun t => SMap.get (t.stream h.stream).bundles n = some { b with partner := true } ∧ t.repl.receipts = put2 s.repl.receipts h.stream (max (s.repl.receipts.getD h.stream 0) h.ident)) ∧
  (∀ (s : State) (h : ReplHdr), s.fromTarget h = true → h.stream < 2 → s.isManager = true → s.head.md.syncOff = true → s.repl.last = [0, 0] → 0 < s.p p_repl_ckpt_epochs →
      (s.stream s.mgrStream).sealQueue = [] →
    Runs (.receipt h) s fun t => s.recorded t .syncOn ∧ ¬ t.raised AL_REPL_SYNC_LOST 0) ∧
  (∀ (s : State) (h : ReplHdr), s.fromTarget h = true → s.isManager = true → s.session = true → s.repl.replicated < h.ident →
    Runs (.applied h) s fun t => t.repl.replicated = h.ident ∧ t.repl.points = s.repl.points.filter (fun p => decide (h.ident < p.epn)) ∧ s.recorded t (.snapDefine ⟨1048574, h.ident, s.replNs⟩)) ∧
  (∀ (s : State) (h : ReplHdr), s.fromTarget h = true → s.isManager = true → s.session = true → s.repl.resyncEpn ≠ 0 → s.repl.diffSent = true → h.ident = s.repl.resyncEpn →
    Runs (.applied h) s fun t => t.repl.resyncEpn = 0 ∧ t.repl.diffSent = false ∧ t.repl.state = 2) ∧
  (∀ (s : State) (e : Nat × Nat × Nat), s.isManager = true → s.syncRepl = true → e ∈ s.repl.sentAt → e.2.2 + s.p p_repl_sync_timeout_ms * 100000 ≤ s.time.t → (s.stream s.mgrStream).sealQueue = [] → s.p p_repl_sync_on_loss ≠ 1 →
    Runs .replSyncTimeout s fun t => s.recorded t .syncOff ∧ t.raised AL_REPL_SYNC_LOST 0) ∧
  (∀ s : State, s.p p_repl_sync_on_loss = 1 → Runs .replSyncTimeout s fun t => t = s) ∧
  (∀ (s : State) (e : Nat × Qp) (q : Qp), s.isManager = true → s.isSource = true → s.session = true → s.repl.held = true → s.repl.keyedAt + s.p p_repl_rekey_hours * 3600 * 100000000 ≤ s.time.t →
      (s.replQps .control).head? = some e → SMap.get s.rdma.qps e.1 = some q →
    Runs .replRekey s fun t => t.repl = { s.repl with state := 1, taking := none } ∧ t.out = s.out ++ [.rdmaReadReq e.1 q.nextPsn 8]) ∧
  (∀ s : State, s.fw = true → s.isHead = true → s.p p_repl_role ≠ 0 → s.repl.state = 4 → s.repl.downAt + s.p p_repl_lag_alarm_s * 100000000 ≤ s.time.t →
    Runs .replLagAlarm s fun t => t.raised AL_REPL_LAG 0 ∧ t.repl = s.repl)

/-- R316, R337, R525, R527 to R530, R532 to R539. The target of replication. -/
def Obligations.TheTargetOfReplicationTakesWhatIsNew : Prop :=
  (∀ (s : State) (h : ReplHdr) (rs : List ReplRec), s.rdmaOn = true → s.isTarget = true → s.isManager = true → s.session = true → s.wordMatches h = false →
    Runs (.rbundle h rs) s fun t => t.repl = { s.repl with dups := s.repl.dups + 1 } ∧ t.head = s.head) ∧
  (∀ (s : State) (h : ReplHdr) (rs : List ReplRec) (m : SeenMsg), s.rdmaOn = true → s.isTarget = true → s.isManager = true → s.session = true → s.wordMatches h = true →
      s.repl.seen.find? (fun m => m.type == 0x10 && m.stream == h.stream && m.part == h.part && m.ident == h.ident) = some m →
    Runs (.rbundle h rs) s fun t => t.head = s.head ∧ (if m.tag = h.tagBytes then t.repl = { s.repl with dups := s.repl.dups + 1 } else t.repl.state = 4 ∧ t.raised AL_REPL_DIVERGE 0 ∧ t.raised AL_REPL_DOWN 0)) ∧
  (∀ (s : State) (h : ReplHdr) (a w0 w1 k0 k1 : Bytes), s.rdmaOn = true → s.isManager = true → s.isTarget = true → s.wordMatches h = true → padTo 16 a ≠ s.arrayId → h.ident = h.keyGen →
      kwUnwrap (s.keySlot 1025).key w0 = some k0 → kwUnwrap (s.keySlot 1025).key w1 = some k1 →
    Runs (.replSession h a 1 w0 w1) s fun t => t.repl.state = 2 ∧ t.repl.keyGen = h.keyGen ∧ t.repl.claim = h.claim ∧ t.repl.partnerId = padTo 16 a ∧ t.repl.seen = [] ∧
      (t.keySlot (replSlot h.keyGen 0)).key = k0 ∧ (t.keySlot (replSlot h.keyGen 1)).key = k1 ∧ ¬ t.raised AL_REPL_DOWN 0 ∧ ¬ t.raised AL_REPL_PARTNER_MISMATCH 0 ∧ ∃ msg, .repl msg ∈ t.out) ∧
  (∀ (s : State) (h : ReplHdr) (a w0 w1 : Bytes) (f : Nat), s.rdmaOn = true → s.isManager = true → s.isTarget = true → s.wordMatches h = true → padTo 16 a = s.arrayId →
    Runs (.replSession h a f w0 w1) s fun t => t.raised AL_REPL_PARTNER_MISMATCH 0 ∧ t.repl = s.repl ∧ t.cipher = s.cipher) ∧
  (∀ (s : State) (h : ReplHdr) (rs : List ReplRec), s.freshMsg 0x10 h = true → h.stream < 2 → s.repl.done.getD h.stream 0 < h.ident → (h.prev = s.repl.done.getD h.stream 0 ∨ h.prev = 0) → h.parts ≤ 1 → s.repl.arrived = [] →
    Runs (.rbundle h rs) s fun t => t.repl.done = put2 s.repl.done h.stream h.ident ∧ t.repl.arrived = []) ∧
  (∀ (s : State) (h : ReplHdr) (rs : List ReplRec), s.freshMsg 0x10 h = true → h.stream < 2 → s.repl.done.getD h.stream 0 < h.ident → h.prev ≠ s.repl.done.getD h.stream 0 → h.prev ≠ 0 → s.repl.arrived = [] →
    Runs (.rbundle h rs) s fun t => t.repl.done = s.repl.done ∧ t.repl.arrived = [⟨h.stream, h.ident, h.prev, rs, h.part, max 1 h.parts⟩]) ∧
  (∀ (s : State) (h : ReplHdr) (snap quality : Nat) (last : List Nat), s.freshMsg 0x11 h = true → s.repl.replicated < h.ident →
    Runs (.point h snap quality last) s fun t => t.repl.targetPoints = s.repl.targetPoints ++ [{ epn := h.ident, snap := snap, quality := quality, last := last }] ∧ t.head = s.head ∧ t.out = s.out) ∧
  (∀ (s : State) (p : Point) (rest : List Point), s.isTarget = true → s.isManager = true → s.session = true → s.repl.targetPoints = p :: rest → p.cutAt = none → s.repl.recs = [] → (s.stream s.site).classRecs = [] →
      (∀ i, i < 2 → p.last.getD i 0 ≤ s.repl.done.getD i 0) →
    Runs .replicaPointCut s fun t => t.repl = { s.repl with targetPoints := { p with cutAt := some s.leastE } :: rest } ∧
      (t.stream s.mgrStream).sealQueue = (s.stream s.mgrStream).sealQueue ++ (.manager (.snapDefine ⟨1048575, s.leastE, s.replNs⟩) ::
        (if p.snap = 0xFFFFFFFF then [] else [.manager (.snapDefine ⟨p.snap, s.leastE, s.replNs⟩)]))) ∧
  (∀ (s : State) (h : ReplHdr) (r : KeyRec) (d f : Bytes), s.freshMsg 0x12 h = true → kwUnwrap (s.keySlot 1025).key r.wrappedData = some d → kwUnwrap (s.keySlot 1025).key r.wrappedFp = some f →
      s.keyGen r.domain < r.generation → s.replicated r.domain = true →
    Runs (.keyrec h r) s fun t => s.recorded t (.domainKey ⟨r.domain, r.generation, s.epn + 2, kwWrap (s.keySlot 1024).key d, kwWrap (s.keySlot 1024).key f, s.cipher.kekId⟩)) ∧
  (∀ (s : State) (h : ReplHdr) (r : KeyRec), s.freshMsg 0x12 h = true → kwUnwrap (s.keySlot 1025).key r.wrappedData = none →
    Runs (.keyrec h r) s fun t => t.raised AL_REPL_PARTNER_MISMATCH 0 ∧ t.head = s.head) ∧
  (∀ (s : State) (h : ReplHdr) (c : ReplChunk) (p : Pull), s.freshMsg 0x21 h = true → s.repl.pulls = [p] → p.reqNo = h.ident → p.fp.length = 32 → s.repl.recs = [] → c.unavailable = false → s.fpOk { c with domain := p.domain, fp := p.fp } = true →
    Runs (.replChunk h c) s fun t => t.repl.pulls = [] ∧ (t.stream s.site).nextSsn = (s.stream s.site).nextSsn + 1 ∧
      SMap.get (t.stream s.site).work (s.stream s.site).nextSsn = some { epn := s.epn, nsIndex := 0, chunkNo := 2 ^ 40, domain := p.domain, content := padTo (s.chunkSize p.domain) c.data, lostBlocks := c.lostBlocks }) ∧
  (∀ (s : State) (h : ReplHdr) (c : ReplChunk) (p : Pull), s.freshMsg 0x21 h = true → s.repl.pulls = [p] → p.reqNo = h.ident → c.unavailable = false → s.fpOk { c with domain := p.domain, fp := p.fp } = false → p.fails < 2 →
    Runs (.replChunk h c) s fun t => t.repl.pulls = [{ p with reqNo := s.repl.nextReq, fails := p.fails + 1 }] ∧ s.replSent t 0x20 255 0 1 s.repl.nextReq 0 (pullBytes ⟨s.repl.nextReq, p.domain, p.fp⟩) ∧ t.head = s.head) ∧
  (∀ (s : State) (h : ReplHdr) (c : ReplChunk) (p : Pull), s.freshMsg 0x21 h = true → s.repl.pulls = [p] → p.reqNo = h.ident → c.unavailable = false → s.fpOk { c with domain := p.domain, fp := p.fp } = false → 2 ≤ p.fails →
    Runs (.replChunk h c) s fun t => t.repl.state = 4 ∧ t.raised AL_REPL_DIVERGE 0 ∧ t.raised AL_REPL_DOWN 0 ∧ t.head = s.head) ∧
  (∀ (s : State) (h : ReplHdr) (c : ReplChunk), s.freshMsg 0x22 h = true → s.repl.recs = [] → c.unavailable = false → s.fpOk c = true → s.repl.done.getD h.stream 0 < h.ident →
    Runs (.push h [c]) s fun t => t.repl.inbox = s.repl.inbox ++ [(h.stream, h.ident, c)]) ∧
  (∀ (s : State) (h : ReplHdr) (c : ReplChunk), s.freshMsg 0x22 h = true → s.fpOk c = false →
    Runs (.push h [c]) s fun t => t.repl.inbox = s.repl.inbox ∧ (t.stream s.site).nextSsn = (s.stream s.site).nextSsn) ∧
  (∀ (s : State) (h : ReplHdr) (r : ReplRec), s.freshMsg 0x50 h = true → r.kind = 2 → s.repl.recs = [] → s.repl.targetPoints = [] →
    Runs (.rdiff h [r]) s fun t => t.repl.queued = s.repl.queued + 1 ∧
      (t.stream s.site).classRecs = (s.stream s.site).classRecs ++ [(3, .extent (r.nsid - 1) r.chunkNo r.count (bit r.flags 0))]) ∧
  (∀ (s : State) (h : ReplHdr) (domain : Nat) (fp b : Bytes), s.rdmaOn = true → s.isManager = true → s.session = true → h.keyGen = s.repl.keyGen →
      s.head.md.chunks.any (fun c => c.2.domain == domain && padTo 32 c.2.fp == padTo 32 fp && c.2.live && !c.2.lost) = true →
    Runs (.replRepairReq h domain fp (some b)) s fun t => s.replSent t 0x41 255 0 1 h.ident 0 (chunkUnit s.replPf1 domain false 0 fp b) ∧ t.head = s.head) ∧
  (∀ (s : State) (h : ReplHdr) (domain : Nat) (fp : Bytes), s.rdmaOn = true → s.isManager = true → s.session = true → h.keyGen = s.repl.keyGen →
    Runs (.replRepairReq h domain fp none) s fun t => s.replSent t 0x41 255 0 1 h.ident 0 (chunkUnit s.replPf1 domain true 0 fp []) ∧ t.head = s.head) ∧
  (∀ (s : State) (h : ReplHdr) (c : ReplChunk) (chunk domain : Nat) (fp : Bytes) (r : RepairReq), s.rdmaOn = true → s.isManager = true → s.session = true → h.keyGen = s.repl.keyGen → s.repl.asks = [(h.ident, chunk, domain, fp)] →
      c.unavailable = false → s.fingerprint domain c.data = fp → s.head.repairs = [r] → r.domain = domain → r.fp = fp → r.fromPeer = false →
    Runs (.repairData h c) s fun t => t.repl.asks = [] ∧ t.head.repairs = [] ∧ t.repl.repairsOk = s.repl.repairsOk + 1) ∧
  (∀ (s : State) (r : TargetRec), s.isTarget = true → s.isManager = true → s.session = true → s.repl.recs = [r] → r.st = 0 → r.item.kind = 1 → r.since + s.p p_repl_lookup_epochs ≤ s.epn → s.repl.pulls = [] →
    Runs .replLookupTimeout s fun t => t.repl.recs = [{ r with st := 1, ssn := 0 }] ∧ t.repl.pulls = [{ reqNo := s.repl.nextReq, domain := r.item.domain, fp := r.item.fp }] ∧
      s.replSent t 0x20 255 0 1 s.repl.nextReq 0 (pullBytes ⟨s.repl.nextReq, r.item.domain, r.item.fp⟩))
end

