-- ==== Sys2Proof/Laws/State.lean ====
section
/-! SUPPORT. What the setters of the state leave alone: one lemma per field, so that no proof unfolds a record update. -/

namespace Sys2Proof.Machine

@[simp] theorem State.emit_pins (s : State) (o : Out) : (s.emit o).pins = s.pins := rfl
@[simp] theorem State.emit_otp (s : State) (o : Out) : (s.emit o).otp = s.otp := rfl
@[simp] theorem State.emit_nor (s : State) (o : Out) : (s.emit o).nor = s.nor := rfl
@[simp] theorem State.emit_boot (s : State) (o : Out) : (s.emit o).boot = s.boot := rfl
@[simp] theorem State.emit_ledger (s : State) (o : Out) : (s.emit o).ledger = s.ledger := rfl
@[simp] theorem State.emit_params (s : State) (o : Out) : (s.emit o).params = s.params := rfl
@[simp] theorem State.emit_time (s : State) (o : Out) : (s.emit o).time = s.time := rfl
@[simp] theorem State.emit_ev (s : State) (o : Out) : (s.emit o).ev = s.ev := rfl
@[simp] theorem State.emit_mgmt (s : State) (o : Out) : (s.emit o).mgmt = s.mgmt := rfl
@[simp] theorem State.emit_jtag (s : State) (o : Out) : (s.emit o).jtag = s.jtag := rfl
@[simp] theorem State.emit_power (s : State) (o : Out) : (s.emit o).power = s.power := rfl
@[simp] theorem State.emit_eng (s : State) (o : Out) : (s.emit o).eng = s.eng := rfl
@[simp] theorem State.emit_mem (s : State) (o : Out) : (s.emit o).mem = s.mem := rfl
@[simp] theorem State.emit_ring (s : State) (o : Out) : (s.emit o).ring = s.ring := rfl
@[simp] theorem State.emit_mc (s : State) (o : Out) : (s.emit o).mc = s.mc := rfl
@[simp] theorem State.emit_hem (s : State) (o : Out) : (s.emit o).hem = s.hem := rfl
@[simp] theorem State.emit_nvme (s : State) (o : Out) : (s.emit o).nvme = s.nvme := rfl
@[simp] theorem State.emit_seam (s : State) (o : Out) : (s.emit o).seam = s.seam := rfl
@[simp] theorem State.emit_digest (s : State) (o : Out) : (s.emit o).digest = s.digest := rfl
@[simp] theorem State.emit_cam (s : State) (o : Out) : (s.emit o).cam = s.cam := rfl
@[simp] theorem State.emit_press (s : State) (o : Out) : (s.emit o).press = s.press := rfl
@[simp] theorem State.emit_cipher (s : State) (o : Out) : (s.emit o).cipher = s.cipher := rfl
@[simp] theorem State.emit_parity (s : State) (o : Out) : (s.emit o).parity = s.parity := rfl
@[simp] theorem State.emit_port (s : State) (o : Out) : (s.emit o).port = s.port := rfl
@[simp] theorem State.emit_head (s : State) (o : Out) : (s.emit o).head = s.head := rfl
@[simp] theorem State.emit_front (s : State) (o : Out) : (s.emit o).front = s.front := rfl
@[simp] theorem State.emit_rdma (s : State) (o : Out) : (s.emit o).rdma = s.rdma := rfl
@[simp] theorem State.emit_repl (s : State) (o : Out) : (s.emit o).repl = s.repl := rfl
@[simp] theorem State.emit_flash (s : State) (o : Out) : (s.emit o).flash = s.flash := rfl
@[simp] theorem State.emit_sh (s : State) (o : Out) : (s.emit o).sh = s.sh := rfl
@[simp] theorem State.emit_keep (s : State) (o : Out) : (s.emit o).keep = s.keep := rfl
@[simp] theorem State.emit_free (s : State) (o : Out) : (s.emit o).free = s.free := rfl
@[simp] theorem State.emit_pending (s : State) (o : Out) : (s.emit o).pending = s.pending := rfl

@[simp] theorem State.setCtrl_pins (s : State) (c : Nat) (v : Ctrl) : (s.setCtrl c v).pins = s.pins := rfl
@[simp] theorem State.setCtrl_otp (s : State) (c : Nat) (v : Ctrl) : (s.setCtrl c v).otp = s.otp := rfl
@[simp] theorem State.setCtrl_nor (s : State) (c : Nat) (v : Ctrl) : (s.setCtrl c v).nor = s.nor := rfl
@[simp] theorem State.setCtrl_boot (s : State) (c : Nat) (v : Ctrl) : (s.setCtrl c v).boot = s.boot := rfl
@[simp] theorem State.setCtrl_ledger (s : State) (c : Nat) (v : Ctrl) : (s.setCtrl c v).ledger = s.ledger := rfl
@[simp] theorem State.setCtrl_params (s : State) (c : Nat) (v : Ctrl) : (s.setCtrl c v).params = s.params := rfl
@[simp] theorem State.setCtrl_time (s : State) (c : Nat) (v : Ctrl) : (s.setCtrl c v).time = s.time := rfl
@[simp] theorem State.setCtrl_ev (s : State) (c : Nat) (v : Ctrl) : (s.setCtrl c v).ev = s.ev := rfl
@[simp] theorem State.setCtrl_mgmt (s : State) (c : Nat) (v : Ctrl) : (s.setCtrl c v).mgmt = s.mgmt := rfl
@[simp] theorem State.setCtrl_jtag (s : State) (c : Nat) (v : Ctrl) : (s.setCtrl c v).jtag = s.jtag := rfl
@[simp] theorem State.setCtrl_power (s : State) (c : Nat) (v : Ctrl) : (s.setCtrl c v).power = s.power := rfl
@[simp] theorem State.setCtrl_eng (s : State) (c : Nat) (v : Ctrl) : (s.setCtrl c v).eng = s.eng := rfl
@[simp] theorem State.setCtrl_mem (s : State) (c : Nat) (v : Ctrl) : (s.setCtrl c v).mem = s.mem := rfl
@[simp] theorem State.setCtrl_ring (s : State) (c : Nat) (v : Ctrl) : (s.setCtrl c v).ring = s.ring := rfl
@[simp] theorem State.setCtrl_mc (s : State) (c : Nat) (v : Ctrl) : (s.setCtrl c v).mc = s.mc := rfl
@[simp] theorem State.setCtrl_hem (s : State) (c : Nat) (v : Ctrl) : (s.setCtrl c v).hem = s.hem := rfl
@[simp] theorem State.setCtrl_seam (s : State) (c : Nat) (v : Ctrl) : (s.setCtrl c v).seam = s.seam := rfl
@[simp] theorem State.setCtrl_digest (s : State) (c : Nat) (v : Ctrl) : (s.setCtrl c v).digest = s.digest := rfl
@[simp] theorem State.setCtrl_cam (s : State) (c : Nat) (v : Ctrl) : (s.setCtrl c v).cam = s.cam := rfl
@[simp] theorem State.setCtrl_press (s : State) (c : Nat) (v : Ctrl) : (s.setCtrl c v).press = s.press := rfl
@[simp] theorem State.setCtrl_cipher (s : State) (c : Nat) (v : Ctrl) : (s.setCtrl c v).cipher = s.cipher := rfl
@[simp] theorem State.setCtrl_parity (s : State) (c : Nat) (v : Ctrl) : (s.setCtrl c v).parity = s.parity := rfl
@[simp] theorem State.setCtrl_port (s : State) (c : Nat) (v : Ctrl) : (s.setCtrl c v).port = s.port := rfl
@[simp] theorem State.setCtrl_head (s : State) (c : Nat) (v : Ctrl) : (s.setCtrl c v).head = s.head := rfl
@[simp] theorem State.setCtrl_front (s : State) (c : Nat) (v : Ctrl) : (s.setCtrl c v).front = s.front := rfl
@[simp] theorem State.setCtrl_rdma (s : State) (c : Nat) (v : Ctrl) : (s.setCtrl c v).rdma = s.rdma := rfl
@[simp] theorem State.setCtrl_repl (s : State) (c : Nat) (v : Ctrl) : (s.setCtrl c v).repl = s.repl := rfl
@[simp] theorem State.setCtrl_flash (s : State) (c : Nat) (v : Ctrl) : (s.setCtrl c v).flash = s.flash := rfl
@[simp] theorem State.setCtrl_sh (s : State) (c : Nat) (v : Ctrl) : (s.setCtrl c v).sh = s.sh := rfl
@[simp] theorem State.setCtrl_keep (s : State) (c : Nat) (v : Ctrl) : (s.setCtrl c v).keep = s.keep := rfl
@[simp] theorem State.setCtrl_free (s : State) (c : Nat) (v : Ctrl) : (s.setCtrl c v).free = s.free := rfl
@[simp] theorem State.setCtrl_out (s : State) (c : Nat) (v : Ctrl) : (s.setCtrl c v).out = s.out := rfl
@[simp] theorem State.setCtrl_pending (s : State) (c : Nat) (v : Ctrl) : (s.setCtrl c v).pending = s.pending := rfl

@[simp] theorem State.wake_pins (s : State) : (s.wake).pins = s.pins := rfl
@[simp] theorem State.wake_otp (s : State) : (s.wake).otp = s.otp := rfl
@[simp] theorem State.wake_nor (s : State) : (s.wake).nor = s.nor := rfl
@[simp] theorem State.wake_boot (s : State) : (s.wake).boot = s.boot := rfl
@[simp] theorem State.wake_ledger (s : State) : (s.wake).ledger = s.ledger := rfl
@[simp] theorem State.wake_params (s : State) : (s.wake).params = s.params := rfl
@[simp] theorem State.wake_time (s : State) : (s.wake).time = s.time := rfl
@[simp] theorem State.wake_ev (s : State) : (s.wake).ev = s.ev := rfl
@[simp] theorem State.wake_mgmt (s : State) : (s.wake).mgmt = s.mgmt := rfl
@[simp] theorem State.wake_jtag (s : State) : (s.wake).jtag = s.jtag := rfl
@[simp] theorem State.wake_power (s : State) : (s.wake).power = s.power := rfl
@[simp] theorem State.wake_mem (s : State) : (s.wake).mem = s.mem := rfl
@[simp] theorem State.wake_ring (s : State) : (s.wake).ring = s.ring := rfl
@[simp] theorem State.wake_mc (s : State) : (s.wake).mc = s.mc := rfl
@[simp] theorem State.wake_hem (s : State) : (s.wake).hem = s.hem := rfl
@[simp] theorem State.wake_nvme (s : State) : (s.wake).nvme = s.nvme := rfl
@[simp] theorem State.wake_seam (s : State) : (s.wake).seam = s.seam := rfl
@[simp] theorem State.wake_digest (s : State) : (s.wake).digest = s.digest := rfl
@[simp] theorem State.wake_cam (s : State) : (s.wake).cam = s.cam := rfl
@[simp] theorem State.wake_press (s : State) : (s.wake).press = s.press := rfl
@[simp] theorem State.wake_cipher (s : State) : (s.wake).cipher = s.cipher := rfl
@[simp] theorem State.wake_parity (s : State) : (s.wake).parity = s.parity := rfl
@[simp] theorem State.wake_port (s : State) : (s.wake).port = s.port := rfl
@[simp] theorem State.wake_head (s : State) : (s.wake).head = s.head := rfl
@[simp] theorem State.wake_front (s : State) : (s.wake).front = s.front := rfl
@[simp] theorem State.wake_rdma (s : State) : (s.wake).rdma = s.rdma := rfl
@[simp] theorem State.wake_repl (s : State) : (s.wake).repl = s.repl := rfl
@[simp] theorem State.wake_flash (s : State) : (s.wake).flash = s.flash := rfl
@[simp] theorem State.wake_sh (s : State) : (s.wake).sh = s.sh := rfl
@[simp] theorem State.wake_keep (s : State) : (s.wake).keep = s.keep := rfl
@[simp] theorem State.wake_free (s : State) : (s.wake).free = s.free := rfl
@[simp] theorem State.wake_out (s : State) : (s.wake).out = s.out := rfl
@[simp] theorem State.wake_pending (s : State) : (s.wake).pending = s.pending := rfl

@[simp] theorem State.setT_pins (s : State) (t : Nat) : (s.setT t).pins = s.pins := rfl
@[simp] theorem State.setT_otp (s : State) (t : Nat) : (s.setT t).otp = s.otp := rfl
@[simp] theorem State.setT_nor (s : State) (t : Nat) : (s.setT t).nor = s.nor := rfl
@[simp] theorem State.setT_boot (s : State) (t : Nat) : (s.setT t).boot = s.boot := rfl
@[simp] theorem State.setT_ledger (s : State) (t : Nat) : (s.setT t).ledger = s.ledger := rfl
@[simp] theorem State.setT_params (s : State) (t : Nat) : (s.setT t).params = s.params := rfl
@[simp] theorem State.setT_ev (s : State) (t : Nat) : (s.setT t).ev = s.ev := rfl
@[simp] theorem State.setT_mgmt (s : State) (t : Nat) : (s.setT t).mgmt = s.mgmt := rfl
@[simp] theorem State.setT_jtag (s : State) (t : Nat) : (s.setT t).jtag = s.jtag := rfl
@[simp] theorem State.setT_power (s : State) (t : Nat) : (s.setT t).power = s.power := rfl
@[simp] theorem State.setT_mem (s : State) (t : Nat) : (s.setT t).mem = s.mem := rfl
@[simp] theorem State.setT_ring (s : State) (t : Nat) : (s.setT t).ring = s.ring := rfl
@[simp] theorem State.setT_mc (s : State) (t : Nat) : (s.setT t).mc = s.mc := rfl
@[simp] theorem State.setT_hem (s : State) (t : Nat) : (s.setT t).hem = s.hem := rfl
@[simp] theorem State.setT_nvme (s : State) (t : Nat) : (s.setT t).nvme = s.nvme := rfl
@[simp] theorem State.setT_seam (s : State) (t : Nat) : (s.setT t).seam = s.seam := rfl
@[simp] theorem State.setT_digest (s : State) (t : Nat) : (s.setT t).digest = s.digest := rfl
@[simp] theorem State.setT_cam (s : State) (t : Nat) : (s.setT t).cam = s.cam := rfl
@[simp] theorem State.setT_press (s : State) (t : Nat) : (s.setT t).press = s.press := rfl
@[simp] theorem State.setT_cipher (s : State) (t : Nat) : (s.setT t).cipher = s.cipher := rfl
@[simp] theorem State.setT_parity (s : State) (t : Nat) : (s.setT t).parity = s.parity := rfl
@[simp] theorem State.setT_port (s : State) (t : Nat) : (s.setT t).port = s.port := rfl
@[simp] theorem State.setT_head (s : State) (t : Nat) : (s.setT t).head = s.head := rfl
@[simp] theorem State.setT_front (s : State) (t : Nat) : (s.setT t).front = s.front := rfl
@[simp] theorem State.setT_rdma (s : State) (t : Nat) : (s.setT t).rdma = s.rdma := rfl
@[simp] theorem State.setT_repl (s : State) (t : Nat) : (s.setT t).repl = s.repl := rfl
@[simp] theorem State.setT_flash (s : State) (t : Nat) : (s.setT t).flash = s.flash := rfl
@[simp] theorem State.setT_sh (s : State) (t : Nat) : (s.setT t).sh = s.sh := rfl
@[simp] theorem State.setT_keep (s : State) (t : Nat) : (s.setT t).keep = s.keep := rfl
@[simp] theorem State.setT_free (s : State) (t : Nat) : (s.setT t).free = s.free := rfl
@[simp] theorem State.setT_out (s : State) (t : Nat) : (s.setT t).out = s.out := rfl
@[simp] theorem State.setT_pending (s : State) (t : Nat) : (s.setT t).pending = s.pending := rfl

@[simp] theorem State.setMd_pins (s : State) (m : MetaSt) : (s.setMd m).pins = s.pins := rfl
@[simp] theorem State.setMd_otp (s : State) (m : MetaSt) : (s.setMd m).otp = s.otp := rfl
@[simp] theorem State.setMd_nor (s : State) (m : MetaSt) : (s.setMd m).nor = s.nor := rfl
@[simp] theorem State.setMd_boot (s : State) (m : MetaSt) : (s.setMd m).boot = s.boot := rfl
@[simp] theorem State.setMd_ledger (s : State) (m : MetaSt) : (s.setMd m).ledger = s.ledger := rfl
@[simp] theorem State.setMd_params (s : State) (m : MetaSt) : (s.setMd m).params = s.params := rfl
@[simp] theorem State.setMd_time (s : State) (m : MetaSt) : (s.setMd m).time = s.time := rfl
@[simp] theorem State.setMd_ev (s : State) (m : MetaSt) : (s.setMd m).ev = s.ev := rfl
@[simp] theorem State.setMd_mgmt (s : State) (m : MetaSt) : (s.setMd m).mgmt = s.mgmt := rfl
@[simp] theorem State.setMd_jtag (s : State) (m : MetaSt) : (s.setMd m).jtag = s.jtag := rfl
@[simp] theorem State.setMd_power (s : State) (m : MetaSt) : (s.setMd m).power = s.power := rfl
@[simp] theorem State.setMd_eng (s : State) (m : MetaSt) : (s.setMd m).eng = s.eng := rfl
@[simp] theorem State.setMd_mem (s : State) (m : MetaSt) : (s.setMd m).mem = s.mem := rfl
@[simp] theorem State.setMd_ring (s : State) (m : MetaSt) : (s.setMd m).ring = s.ring := rfl
@[simp] theorem State.setMd_mc (s : State) (m : MetaSt) : (s.setMd m).mc = s.mc := rfl
@[simp] theorem State.setMd_hem (s : State) (m : MetaSt) : (s.setMd m).hem = s.hem := rfl
@[simp] theorem State.setMd_nvme (s : State) (m : MetaSt) : (s.setMd m).nvme = s.nvme := rfl
@[simp] theorem State.setMd_seam (s : State) (m : MetaSt) : (s.setMd m).seam = s.seam := rfl
@[simp] theorem State.setMd_digest (s : State) (m : MetaSt) : (s.setMd m).digest = s.digest := rfl
@[simp] theorem State.setMd_cam (s : State) (m : MetaSt) : (s.setMd m).cam = s.cam := rfl
@[simp] theorem State.setMd_press (s : State) (m : MetaSt) : (s.setMd m).press = s.press := rfl
@[simp] theorem State.setMd_cipher (s : State) (m : MetaSt) : (s.setMd m).cipher = s.cipher := rfl
@[simp] theorem State.setMd_parity (s : State) (m : MetaSt) : (s.setMd m).parity = s.parity := rfl
@[simp] theorem State.setMd_port (s : State) (m : MetaSt) : (s.setMd m).port = s.port := rfl
@[simp] theorem State.setMd_front (s : State) (m : MetaSt) : (s.setMd m).front = s.front := rfl
@[simp] theorem State.setMd_rdma (s : State) (m : MetaSt) : (s.setMd m).rdma = s.rdma := rfl
@[simp] theorem State.setMd_repl (s : State) (m : MetaSt) : (s.setMd m).repl = s.repl := rfl
@[simp] theorem State.setMd_flash (s : State) (m : MetaSt) : (s.setMd m).flash = s.flash := rfl
@[simp] theorem State.setMd_sh (s : State) (m : MetaSt) : (s.setMd m).sh = s.sh := rfl
@[simp] theorem State.setMd_keep (s : State) (m : MetaSt) : (s.setMd m).keep = s.keep := rfl
@[simp] theorem State.setMd_free (s : State) (m : MetaSt) : (s.setMd m).free = s.free := rfl
@[simp] theorem State.setMd_out (s : State) (m : MetaSt) : (s.setMd m).out = s.out := rfl
@[simp] theorem State.setMd_pending (s : State) (m : MetaSt) : (s.setMd m).pending = s.pending := rfl

@[simp] theorem State.setPort_pins (s : State) (p : Nat) (v : SpokePort) : (s.setPort p v).pins = s.pins := rfl
@[simp] theorem State.setPort_otp (s : State) (p : Nat) (v : SpokePort) : (s.setPort p v).otp = s.otp := rfl
@[simp] theorem State.setPort_nor (s : State) (p : Nat) (v : SpokePort) : (s.setPort p v).nor = s.nor := rfl
@[simp] theorem State.setPort_boot (s : State) (p : Nat) (v : SpokePort) : (s.setPort p v).boot = s.boot := rfl
@[simp] theorem State.setPort_ledger (s : State) (p : Nat) (v : SpokePort) : (s.setPort p v).ledger = s.ledger := rfl
@[simp] theorem State.setPort_params (s : State) (p : Nat) (v : SpokePort) : (s.setPort p v).params = s.params := rfl
@[simp] theorem State.setPort_time (s : State) (p : Nat) (v : SpokePort) : (s.setPort p v).time = s.time := rfl
@[simp] theorem State.setPort_ev (s : State) (p : Nat) (v : SpokePort) : (s.setPort p v).ev = s.ev := rfl
@[simp] theorem State.setPort_mgmt (s : State) (p : Nat) (v : SpokePort) : (s.setPort p v).mgmt = s.mgmt := rfl
@[simp] theorem State.setPort_jtag (s : State) (p : Nat) (v : SpokePort) : (s.setPort p v).jtag = s.jtag := rfl
@[simp] theorem State.setPort_power (s : State) (p : Nat) (v : SpokePort) : (s.setPort p v).power = s.power := rfl
@[simp] theorem State.setPort_eng (s : State) (p : Nat) (v : SpokePort) : (s.setPort p v).eng = s.eng := rfl
@[simp] theorem State.setPort_mem (s : State) (p : Nat) (v : SpokePort) : (s.setPort p v).mem = s.mem := rfl
@[simp] theorem State.setPort_ring (s : State) (p : Nat) (v : SpokePort) : (s.setPort p v).ring = s.ring := rfl
@[simp] theorem State.setPort_mc (s : State) (p : Nat) (v : SpokePort) : (s.setPort p v).mc = s.mc := rfl
@[simp] theorem State.setPort_hem (s : State) (p : Nat) (v : SpokePort) : (s.setPort p v).hem = s.hem := rfl
@[simp] theorem State.setPort_nvme (s : State) (p : Nat) (v : SpokePort) : (s.setPort p v).nvme = s.nvme := rfl
@[simp] theorem State.setPort_seam (s : State) (p : Nat) (v : SpokePort) : (s.setPort p v).seam = s.seam := rfl
@[simp] theorem State.setPort_digest (s : State) (p : Nat) (v : SpokePort) : (s.setPort p v).digest = s.digest := rfl
@[simp] theorem State.setPort_cam (s : State) (p : Nat) (v : SpokePort) : (s.setPort p v).cam = s.cam := rfl
@[simp] theorem State.setPort_press (s : State) (p : Nat) (v : SpokePort) : (s.setPort p v).press = s.press := rfl
@[simp] theorem State.setPort_cipher (s : State) (p : Nat) (v : SpokePort) : (s.setPort p v).cipher = s.cipher := rfl
@[simp] theorem State.setPort_parity (s : State) (p : Nat) (v : SpokePort) : (s.setPort p v).parity = s.parity := rfl
@[simp] theorem State.setPort_head (s : State) (p : Nat) (v : SpokePort) : (s.setPort p v).head = s.head := rfl
@[simp] theorem State.setPort_front (s : State) (p : Nat) (v : SpokePort) : (s.setPort p v).front = s.front := rfl
@[simp] theorem State.setPort_rdma (s : State) (p : Nat) (v : SpokePort) : (s.setPort p v).rdma = s.rdma := rfl
@[simp] theorem State.setPort_repl (s : State) (p : Nat) (v : SpokePort) : (s.setPort p v).repl = s.repl := rfl
@[simp] theorem State.setPort_flash (s : State) (p : Nat) (v : SpokePort) : (s.setPort p v).flash = s.flash := rfl
@[simp] theorem State.setPort_sh (s : State) (p : Nat) (v : SpokePort) : (s.setPort p v).sh = s.sh := rfl
@[simp] theorem State.setPort_keep (s : State) (p : Nat) (v : SpokePort) : (s.setPort p v).keep = s.keep := rfl
@[simp] theorem State.setPort_free (s : State) (p : Nat) (v : SpokePort) : (s.setPort p v).free = s.free := rfl
@[simp] theorem State.setPort_out (s : State) (p : Nat) (v : SpokePort) : (s.setPort p v).out = s.out := rfl
@[simp] theorem State.setPort_pending (s : State) (p : Nat) (v : SpokePort) : (s.setPort p v).pending = s.pending := rfl

@[simp] theorem State.setQp_pins (s : State) (n : Nat) (q : Qp) : (s.setQp n q).pins = s.pins := rfl
@[simp] theorem State.setQp_otp (s : State) (n : Nat) (q : Qp) : (s.setQp n q).otp = s.otp := rfl
@[simp] theorem State.setQp_nor (s : State) (n : Nat) (q : Qp) : (s.setQp n q).nor = s.nor := rfl
@[simp] theorem State.setQp_boot (s : State) (n : Nat) (q : Qp) : (s.setQp n q).boot = s.boot := rfl
@[simp] theorem State.setQp_ledger (s : State) (n : Nat) (q : Qp) : (s.setQp n q).ledger = s.ledger := rfl
@[simp] theorem State.setQp_params (s : State) (n : Nat) (q : Qp) : (s.setQp n q).params = s.params := rfl
@[simp] theorem State.setQp_time (s : State) (n : Nat) (q : Qp) : (s.setQp n q).time = s.time := rfl
@[simp] theorem State.setQp_ev (s : State) (n : Nat) (q : Qp) : (s.setQp n q).ev = s.ev := rfl
@[simp] theorem State.setQp_mgmt (s : State) (n : Nat) (q : Qp) : (s.setQp n q).mgmt = s.mgmt := rfl
@[simp] theorem State.setQp_jtag (s : State) (n : Nat) (q : Qp) : (s.setQp n q).jtag = s.jtag := rfl
@[simp] theorem State.setQp_power (s : State) (n : Nat) (q : Qp) : (s.setQp n q).power = s.power := rfl
@[simp] theorem State.setQp_eng (s : State) (n : Nat) (q : Qp) : (s.setQp n q).eng = s.eng := rfl
@[simp] theorem State.setQp_mem (s : State) (n : Nat) (q : Qp) : (s.setQp n q).mem = s.mem := rfl
@[simp] theorem State.setQp_ring (s : State) (n : Nat) (q : Qp) : (s.setQp n q).ring = s.ring := rfl
@[simp] theorem State.setQp_mc (s : State) (n : Nat) (q : Qp) : (s.setQp n q).mc = s.mc := rfl
@[simp] theorem State.setQp_hem (s : State) (n : Nat) (q : Qp) : (s.setQp n q).hem = s.hem := rfl
@[simp] theorem State.setQp_nvme (s : State) (n : Nat) (q : Qp) : (s.setQp n q).nvme = s.nvme := rfl
@[simp] theorem State.setQp_seam (s : State) (n : Nat) (q : Qp) : (s.setQp n q).seam = s.seam := rfl
@[simp] theorem State.setQp_digest (s : State) (n : Nat) (q : Qp) : (s.setQp n q).digest = s.digest := rfl
@[simp] theorem State.setQp_cam (s : State) (n : Nat) (q : Qp) : (s.setQp n q).cam = s.cam := rfl
@[simp] theorem State.setQp_press (s : State) (n : Nat) (q : Qp) : (s.setQp n q).press = s.press := rfl
@[simp] theorem State.setQp_cipher (s : State) (n : Nat) (q : Qp) : (s.setQp n q).cipher = s.cipher := rfl
@[simp] theorem State.setQp_parity (s : State) (n : Nat) (q : Qp) : (s.setQp n q).parity = s.parity := rfl
@[simp] theorem State.setQp_port (s : State) (n : Nat) (q : Qp) : (s.setQp n q).port = s.port := rfl
@[simp] theorem State.setQp_head (s : State) (n : Nat) (q : Qp) : (s.setQp n q).head = s.head := rfl
@[simp] theorem State.setQp_front (s : State) (n : Nat) (q : Qp) : (s.setQp n q).front = s.front := rfl
@[simp] theorem State.setQp_repl (s : State) (n : Nat) (q : Qp) : (s.setQp n q).repl = s.repl := rfl
@[simp] theorem State.setQp_flash (s : State) (n : Nat) (q : Qp) : (s.setQp n q).flash = s.flash := rfl
@[simp] theorem State.setQp_sh (s : State) (n : Nat) (q : Qp) : (s.setQp n q).sh = s.sh := rfl
@[simp] theorem State.setQp_keep (s : State) (n : Nat) (q : Qp) : (s.setQp n q).keep = s.keep := rfl
@[simp] theorem State.setQp_free (s : State) (n : Nat) (q : Qp) : (s.setQp n q).free = s.free := rfl
@[simp] theorem State.setQp_out (s : State) (n : Nat) (q : Qp) : (s.setQp n q).out = s.out := rfl
@[simp] theorem State.setQp_pending (s : State) (n : Nat) (q : Qp) : (s.setQp n q).pending = s.pending := rfl

@[simp] theorem State.setRing_pins (s : State) (n : Nat) (r : Ring) : (s.setRing n r).pins = s.pins := rfl
@[simp] theorem State.setRing_otp (s : State) (n : Nat) (r : Ring) : (s.setRing n r).otp = s.otp := rfl
@[simp] theorem State.setRing_nor (s : State) (n : Nat) (r : Ring) : (s.setRing n r).nor = s.nor := rfl
@[simp] theorem State.setRing_boot (s : State) (n : Nat) (r : Ring) : (s.setRing n r).boot = s.boot := rfl
@[simp] theorem State.setRing_ledger (s : State) (n : Nat) (r : Ring) : (s.setRing n r).ledger = s.ledger := rfl
@[simp] theorem State.setRing_params (s : State) (n : Nat) (r : Ring) : (s.setRing n r).params = s.params := rfl
@[simp] theorem State.setRing_time (s : State) (n : Nat) (r : Ring) : (s.setRing n r).time = s.time := rfl
@[simp] theorem State.setRing_ev (s : State) (n : Nat) (r : Ring) : (s.setRing n r).ev = s.ev := rfl
@[simp] theorem State.setRing_mgmt (s : State) (n : Nat) (r : Ring) : (s.setRing n r).mgmt = s.mgmt := rfl
@[simp] theorem State.setRing_jtag (s : State) (n : Nat) (r : Ring) : (s.setRing n r).jtag = s.jtag := rfl
@[simp] theorem State.setRing_power (s : State) (n : Nat) (r : Ring) : (s.setRing n r).power = s.power := rfl
@[simp] theorem State.setRing_eng (s : State) (n : Nat) (r : Ring) : (s.setRing n r).eng = s.eng := rfl
@[simp] theorem State.setRing_mem (s : State) (n : Nat) (r : Ring) : (s.setRing n r).mem = s.mem := rfl
@[simp] theorem State.setRing_mc (s : State) (n : Nat) (r : Ring) : (s.setRing n r).mc = s.mc := rfl
@[simp] theorem State.setRing_hem (s : State) (n : Nat) (r : Ring) : (s.setRing n r).hem = s.hem := rfl
@[simp] theorem State.setRing_nvme (s : State) (n : Nat) (r : Ring) : (s.setRing n r).nvme = s.nvme := rfl
@[simp] theorem State.setRing_seam (s : State) (n : Nat) (r : Ring) : (s.setRing n r).seam = s.seam := rfl
@[simp] theorem State.setRing_digest (s : State) (n : Nat) (r : Ring) : (s.setRing n r).digest = s.digest := rfl
@[simp] theorem State.setRing_cam (s : State) (n : Nat) (r : Ring) : (s.setRing n r).cam = s.cam := rfl
@[simp] theorem State.setRing_press (s : State) (n : Nat) (r : Ring) : (s.setRing n r).press = s.press := rfl
@[simp] theorem State.setRing_cipher (s : State) (n : Nat) (r : Ring) : (s.setRing n r).cipher = s.cipher := rfl
@[simp] theorem State.setRing_parity (s : State) (n : Nat) (r : Ring) : (s.setRing n r).parity = s.parity := rfl
@[simp] theorem State.setRing_port (s : State) (n : Nat) (r : Ring) : (s.setRing n r).port = s.port := rfl
@[simp] theorem State.setRing_head (s : State) (n : Nat) (r : Ring) : (s.setRing n r).head = s.head := rfl
@[simp] theorem State.setRing_front (s : State) (n : Nat) (r : Ring) : (s.setRing n r).front = s.front := rfl
@[simp] theorem State.setRing_rdma (s : State) (n : Nat) (r : Ring) : (s.setRing n r).rdma = s.rdma := rfl
@[simp] theorem State.setRing_repl (s : State) (n : Nat) (r : Ring) : (s.setRing n r).repl = s.repl := rfl
@[simp] theorem State.setRing_flash (s : State) (n : Nat) (r : Ring) : (s.setRing n r).flash = s.flash := rfl
@[simp] theorem State.setRing_sh (s : State) (n : Nat) (r : Ring) : (s.setRing n r).sh = s.sh := rfl
@[simp] theorem State.setRing_keep (s : State) (n : Nat) (r : Ring) : (s.setRing n r).keep = s.keep := rfl
@[simp] theorem State.setRing_free (s : State) (n : Nat) (r : Ring) : (s.setRing n r).free = s.free := rfl
@[simp] theorem State.setRing_out (s : State) (n : Nat) (r : Ring) : (s.setRing n r).out = s.out := rfl
@[simp] theorem State.setRing_pending (s : State) (n : Nat) (r : Ring) : (s.setRing n r).pending = s.pending := rfl

@[simp] theorem State.setJob_pins (s : State) (n : Nat) (st : JobSt) : (s.setJob n st).pins = s.pins := rfl
@[simp] theorem State.setJob_otp (s : State) (n : Nat) (st : JobSt) : (s.setJob n st).otp = s.otp := rfl
@[simp] theorem State.setJob_nor (s : State) (n : Nat) (st : JobSt) : (s.setJob n st).nor = s.nor := rfl
@[simp] theorem State.setJob_boot (s : State) (n : Nat) (st : JobSt) : (s.setJob n st).boot = s.boot := rfl
@[simp] theorem State.setJob_ledger (s : State) (n : Nat) (st : JobSt) : (s.setJob n st).ledger = s.ledger := rfl
@[simp] theorem State.setJob_params (s : State) (n : Nat) (st : JobSt) : (s.setJob n st).params = s.params := rfl
@[simp] theorem State.setJob_time (s : State) (n : Nat) (st : JobSt) : (s.setJob n st).time = s.time := rfl
@[simp] theorem State.setJob_ev (s : State) (n : Nat) (st : JobSt) : (s.setJob n st).ev = s.ev := rfl
@[simp] theorem State.setJob_mgmt (s : State) (n : Nat) (st : JobSt) : (s.setJob n st).mgmt = s.mgmt := rfl
@[simp] theorem State.setJob_jtag (s : State) (n : Nat) (st : JobSt) : (s.setJob n st).jtag = s.jtag := rfl
@[simp] theorem State.setJob_power (s : State) (n : Nat) (st : JobSt) : (s.setJob n st).power = s.power := rfl
@[simp] theorem State.setJob_eng (s : State) (n : Nat) (st : JobSt) : (s.setJob n st).eng = s.eng := rfl
@[simp] theorem State.setJob_mem (s : State) (n : Nat) (st : JobSt) : (s.setJob n st).mem = s.mem := rfl
@[simp] theorem State.setJob_mc (s : State) (n : Nat) (st : JobSt) : (s.setJob n st).mc = s.mc := rfl
@[simp] theorem State.setJob_hem (s : State) (n : Nat) (st : JobSt) : (s.setJob n st).hem = s.hem := rfl
@[simp] theorem State.setJob_nvme (s : State) (n : Nat) (st : JobSt) : (s.setJob n st).nvme = s.nvme := rfl
@[simp] theorem State.setJob_seam (s : State) (n : Nat) (st : JobSt) : (s.setJob n st).seam = s.seam := rfl
@[simp] theorem State.setJob_digest (s : State) (n : Nat) (st : JobSt) : (s.setJob n st).digest = s.digest := rfl
@[simp] theorem State.setJob_cam (s : State) (n : Nat) (st : JobSt) : (s.setJob n st).cam = s.cam := rfl
@[simp] theorem State.setJob_press (s : State) (n : Nat) (st : JobSt) : (s.setJob n st).press = s.press := rfl
@[simp] theorem State.setJob_cipher (s : State) (n : Nat) (st : JobSt) : (s.setJob n st).cipher = s.cipher := rfl
@[simp] theorem State.setJob_parity (s : State) (n : Nat) (st : JobSt) : (s.setJob n st).parity = s.parity := rfl
@[simp] theorem State.setJob_port (s : State) (n : Nat) (st : JobSt) : (s.setJob n st).port = s.port := rfl
@[simp] theorem State.setJob_head (s : State) (n : Nat) (st : JobSt) : (s.setJob n st).head = s.head := rfl
@[simp] theorem State.setJob_front (s : State) (n : Nat) (st : JobSt) : (s.setJob n st).front = s.front := rfl
@[simp] theorem State.setJob_rdma (s : State) (n : Nat) (st : JobSt) : (s.setJob n st).rdma = s.rdma := rfl
@[simp] theorem State.setJob_repl (s : State) (n : Nat) (st : JobSt) : (s.setJob n st).repl = s.repl := rfl
@[simp] theorem State.setJob_flash (s : State) (n : Nat) (st : JobSt) : (s.setJob n st).flash = s.flash := rfl
@[simp] theorem State.setJob_sh (s : State) (n : Nat) (st : JobSt) : (s.setJob n st).sh = s.sh := rfl
@[simp] theorem State.setJob_keep (s : State) (n : Nat) (st : JobSt) : (s.setJob n st).keep = s.keep := rfl
@[simp] theorem State.setJob_free (s : State) (n : Nat) (st : JobSt) : (s.setJob n st).free = s.free := rfl
@[simp] theorem State.setJob_out (s : State) (n : Nat) (st : JobSt) : (s.setJob n st).out = s.out := rfl
@[simp] theorem State.setJob_pending (s : State) (n : Nat) (st : JobSt) : (s.setJob n st).pending = s.pending := rfl

@[simp] theorem State.setEngine_pins (s : State) (e : Nat) (v : EngSt) : (s.setEngine e v).pins = s.pins := rfl
@[simp] theorem State.setEngine_otp (s : State) (e : Nat) (v : EngSt) : (s.setEngine e v).otp = s.otp := rfl
@[simp] theorem State.setEngine_nor (s : State) (e : Nat) (v : EngSt) : (s.setEngine e v).nor = s.nor := rfl
@[simp] theorem State.setEngine_boot (s : State) (e : Nat) (v : EngSt) : (s.setEngine e v).boot = s.boot := rfl
@[simp] theorem State.setEngine_ledger (s : State) (e : Nat) (v : EngSt) : (s.setEngine e v).ledger = s.ledger := rfl
@[simp] theorem State.setEngine_params (s : State) (e : Nat) (v : EngSt) : (s.setEngine e v).params = s.params := rfl
@[simp] theorem State.setEngine_time (s : State) (e : Nat) (v : EngSt) : (s.setEngine e v).time = s.time := rfl
@[simp] theorem State.setEngine_ev (s : State) (e : Nat) (v : EngSt) : (s.setEngine e v).ev = s.ev := rfl
@[simp] theorem State.setEngine_mgmt (s : State) (e : Nat) (v : EngSt) : (s.setEngine e v).mgmt = s.mgmt := rfl
@[simp] theorem State.setEngine_jtag (s : State) (e : Nat) (v : EngSt) : (s.setEngine e v).jtag = s.jtag := rfl
@[simp] theorem State.setEngine_power (s : State) (e : Nat) (v : EngSt) : (s.setEngine e v).power = s.power := rfl
@[simp] theorem State.setEngine_mem (s : State) (e : Nat) (v : EngSt) : (s.setEngine e v).mem = s.mem := rfl
@[simp] theorem State.setEngine_ring (s : State) (e : Nat) (v : EngSt) : (s.setEngine e v).ring = s.ring := rfl
@[simp] theorem State.setEngine_mc (s : State) (e : Nat) (v : EngSt) : (s.setEngine e v).mc = s.mc := rfl
@[simp] theorem State.setEngine_hem (s : State) (e : Nat) (v : EngSt) : (s.setEngine e v).hem = s.hem := rfl
@[simp] theorem State.setEngine_nvme (s : State) (e : Nat) (v : EngSt) : (s.setEngine e v).nvme = s.nvme := rfl
@[simp] theorem State.setEngine_seam (s : State) (e : Nat) (v : EngSt) : (s.setEngine e v).seam = s.seam := rfl
@[simp] theorem State.setEngine_digest (s : State) (e : Nat) (v : EngSt) : (s.setEngine e v).digest = s.digest := rfl
@[simp] theorem State.setEngine_cam (s : State) (e : Nat) (v : EngSt) : (s.setEngine e v).cam = s.cam := rfl
@[simp] theorem State.setEngine_press (s : State) (e : Nat) (v : EngSt) : (s.setEngine e v).press = s.press := rfl
@[simp] theorem State.setEngine_cipher (s : State) (e : Nat) (v : EngSt) : (s.setEngine e v).cipher = s.cipher := rfl
@[simp] theorem State.setEngine_parity (s : State) (e : Nat) (v : EngSt) : (s.setEngine e v).parity = s.parity := rfl
@[simp] theorem State.setEngine_port (s : State) (e : Nat) (v : EngSt) : (s.setEngine e v).port = s.port := rfl
@[simp] theorem State.setEngine_head (s : State) (e : Nat) (v : EngSt) : (s.setEngine e v).head = s.head := rfl
@[simp] theorem State.setEngine_front (s : State) (e : Nat) (v : EngSt) : (s.setEngine e v).front = s.front := rfl
@[simp] theorem State.setEngine_rdma (s : State) (e : Nat) (v : EngSt) : (s.setEngine e v).rdma = s.rdma := rfl
@[simp] theorem State.setEngine_repl (s : State) (e : Nat) (v : EngSt) : (s.setEngine e v).repl = s.repl := rfl
@[simp] theorem State.setEngine_flash (s : State) (e : Nat) (v : EngSt) : (s.setEngine e v).flash = s.flash := rfl
@[simp] theorem State.setEngine_sh (s : State) (e : Nat) (v : EngSt) : (s.setEngine e v).sh = s.sh := rfl
@[simp] theorem State.setEngine_keep (s : State) (e : Nat) (v : EngSt) : (s.setEngine e v).keep = s.keep := rfl
@[simp] theorem State.setEngine_free (s : State) (e : Nat) (v : EngSt) : (s.setEngine e v).free = s.free := rfl
@[simp] theorem State.setEngine_out (s : State) (e : Nat) (v : EngSt) : (s.setEngine e v).out = s.out := rfl
@[simp] theorem State.setEngine_pending (s : State) (e : Nat) (v : EngSt) : (s.setEngine e v).pending = s.pending := rfl

@[simp] theorem State.setFront_pins (s : State) (p : Nat) (v : FrontPort) : (s.setFront p v).pins = s.pins := rfl
@[simp] theorem State.setFront_otp (s : State) (p : Nat) (v : FrontPort) : (s.setFront p v).otp = s.otp := rfl
@[simp] theorem State.setFront_nor (s : State) (p : Nat) (v : FrontPort) : (s.setFront p v).nor = s.nor := rfl
@[simp] theorem State.setFront_boot (s : State) (p : Nat) (v : FrontPort) : (s.setFront p v).boot = s.boot := rfl
@[simp] theorem State.setFront_ledger (s : State) (p : Nat) (v : FrontPort) : (s.setFront p v).ledger = s.ledger := rfl
@[simp] theorem State.setFront_params (s : State) (p : Nat) (v : FrontPort) : (s.setFront p v).params = s.params := rfl
@[simp] theorem State.setFront_time (s : State) (p : Nat) (v : FrontPort) : (s.setFront p v).time = s.time := rfl
@[simp] theorem State.setFront_ev (s : State) (p : Nat) (v : FrontPort) : (s.setFront p v).ev = s.ev := rfl
@[simp] theorem State.setFront_mgmt (s : State) (p : Nat) (v : FrontPort) : (s.setFront p v).mgmt = s.mgmt := rfl
@[simp] theorem State.setFront_jtag (s : State) (p : Nat) (v : FrontPort) : (s.setFront p v).jtag = s.jtag := rfl
@[simp] theorem State.setFront_power (s : State) (p : Nat) (v : FrontPort) : (s.setFront p v).power = s.power := rfl
@[simp] theorem State.setFront_eng (s : State) (p : Nat) (v : FrontPort) : (s.setFront p v).eng = s.eng := rfl
@[simp] theorem State.setFront_mem (s : State) (p : Nat) (v : FrontPort) : (s.setFront p v).mem = s.mem := rfl
@[simp] theorem State.setFront_ring (s : State) (p : Nat) (v : FrontPort) : (s.setFront p v).ring = s.ring := rfl
@[simp] theorem State.setFront_mc (s : State) (p : Nat) (v : FrontPort) : (s.setFront p v).mc = s.mc := rfl
@[simp] theorem State.setFront_hem (s : State) (p : Nat) (v : FrontPort) : (s.setFront p v).hem = s.hem := rfl
@[simp] theorem State.setFront_nvme (s : State) (p : Nat) (v : FrontPort) : (s.setFront p v).nvme = s.nvme := rfl
@[simp] theorem State.setFront_seam (s : State) (p : Nat) (v : FrontPort) : (s.setFront p v).seam = s.seam := rfl
@[simp] theorem State.setFront_digest (s : State) (p : Nat) (v : FrontPort) : (s.setFront p v).digest = s.digest := rfl
@[simp] theorem State.setFront_cam (s : State) (p : Nat) (v : FrontPort) : (s.setFront p v).cam = s.cam := rfl
@[simp] theorem State.setFront_press (s : State) (p : Nat) (v : FrontPort) : (s.setFront p v).press = s.press := rfl
@[simp] theorem State.setFront_cipher (s : State) (p : Nat) (v : FrontPort) : (s.setFront p v).cipher = s.cipher := rfl
@[simp] theorem State.setFront_parity (s : State) (p : Nat) (v : FrontPort) : (s.setFront p v).parity = s.parity := rfl
@[simp] theorem State.setFront_port (s : State) (p : Nat) (v : FrontPort) : (s.setFront p v).port = s.port := rfl
@[simp] theorem State.setFront_head (s : State) (p : Nat) (v : FrontPort) : (s.setFront p v).head = s.head := rfl
@[simp] theorem State.setFront_rdma (s : State) (p : Nat) (v : FrontPort) : (s.setFront p v).rdma = s.rdma := rfl
@[simp] theorem State.setFront_repl (s : State) (p : Nat) (v : FrontPort) : (s.setFront p v).repl = s.repl := rfl
@[simp] theorem State.setFront_flash (s : State) (p : Nat) (v : FrontPort) : (s.setFront p v).flash = s.flash := rfl
@[simp] theorem State.setFront_sh (s : State) (p : Nat) (v : FrontPort) : (s.setFront p v).sh = s.sh := rfl
@[simp] theorem State.setFront_keep (s : State) (p : Nat) (v : FrontPort) : (s.setFront p v).keep = s.keep := rfl
@[simp] theorem State.setFront_free (s : State) (p : Nat) (v : FrontPort) : (s.setFront p v).free = s.free := rfl
@[simp] theorem State.setFront_out (s : State) (p : Nat) (v : FrontPort) : (s.setFront p v).out = s.out := rfl
@[simp] theorem State.setFront_pending (s : State) (p : Nat) (v : FrontPort) : (s.setFront p v).pending = s.pending := rfl

@[simp] theorem State.setShelf_pins (s : State) (site : Nat) (v : ShelfView) : (s.setShelf site v).pins = s.pins := rfl
@[simp] theorem State.setShelf_otp (s : State) (site : Nat) (v : ShelfView) : (s.setShelf site v).otp = s.otp := rfl
@[simp] theorem State.setShelf_nor (s : State) (site : Nat) (v : ShelfView) : (s.setShelf site v).nor = s.nor := rfl
@[simp] theorem State.setShelf_boot (s : State) (site : Nat) (v : ShelfView) : (s.setShelf site v).boot = s.boot := rfl
@[simp] theorem State.setShelf_ledger (s : State) (site : Nat) (v : ShelfView) : (s.setShelf site v).ledger = s.ledger := rfl
@[simp] theorem State.setShelf_params (s : State) (site : Nat) (v : ShelfView) : (s.setShelf site v).params = s.params := rfl
@[simp] theorem State.setShelf_time (s : State) (site : Nat) (v : ShelfView) : (s.setShelf site v).time = s.time := rfl
@[simp] theorem State.setShelf_ev (s : State) (site : Nat) (v : ShelfView) : (s.setShelf site v).ev = s.ev := rfl
@[simp] theorem State.setShelf_mgmt (s : State) (site : Nat) (v : ShelfView) : (s.setShelf site v).mgmt = s.mgmt := rfl
@[simp] theorem State.setShelf_jtag (s : State) (site : Nat) (v : ShelfView) : (s.setShelf site v).jtag = s.jtag := rfl
@[simp] theorem State.setShelf_power (s : State) (site : Nat) (v : ShelfView) : (s.setShelf site v).power = s.power := rfl
@[simp] theorem State.setShelf_eng (s : State) (site : Nat) (v : ShelfView) : (s.setShelf site v).eng = s.eng := rfl
@[simp] theorem State.setShelf_mem (s : State) (site : Nat) (v : ShelfView) : (s.setShelf site v).mem = s.mem := rfl
@[simp] theorem State.setShelf_ring (s : State) (site : Nat) (v : ShelfView) : (s.setShelf site v).ring = s.ring := rfl
@[simp] theorem State.setShelf_mc (s : State) (site : Nat) (v : ShelfView) : (s.setShelf site v).mc = s.mc := rfl
@[simp] theorem State.setShelf_hem (s : State) (site : Nat) (v : ShelfView) : (s.setShelf site v).hem = s.hem := rfl
@[simp] theorem State.setShelf_nvme (s : State) (site : Nat) (v : ShelfView) : (s.setShelf site v).nvme = s.nvme := rfl
@[simp] theorem State.setShelf_seam (s : State) (site : Nat) (v : ShelfView) : (s.setShelf site v).seam = s.seam := rfl
@[simp] theorem State.setShelf_digest (s : State) (site : Nat) (v : ShelfView) : (s.setShelf site v).digest = s.digest := rfl
@[simp] theorem State.setShelf_cam (s : State) (site : Nat) (v : ShelfView) : (s.setShelf site v).cam = s.cam := rfl
@[simp] theorem State.setShelf_press (s : State) (site : Nat) (v : ShelfView) : (s.setShelf site v).press = s.press := rfl
@[simp] theorem State.setShelf_cipher (s : State) (site : Nat) (v : ShelfView) : (s.setShelf site v).cipher = s.cipher := rfl
@[simp] theorem State.setShelf_parity (s : State) (site : Nat) (v : ShelfView) : (s.setShelf site v).parity = s.parity := rfl
@[simp] theorem State.setShelf_port (s : State) (site : Nat) (v : ShelfView) : (s.setShelf site v).port = s.port := rfl
@[simp] theorem State.setShelf_front (s : State) (site : Nat) (v : ShelfView) : (s.setShelf site v).front = s.front := rfl
@[simp] theorem State.setShelf_rdma (s : State) (site : Nat) (v : ShelfView) : (s.setShelf site v).rdma = s.rdma := rfl
@[simp] theorem State.setShelf_repl (s : State) (site : Nat) (v : ShelfView) : (s.setShelf site v).repl = s.repl := rfl
@[simp] theorem State.setShelf_flash (s : State) (site : Nat) (v : ShelfView) : (s.setShelf site v).flash = s.flash := rfl
@[simp] theorem State.setShelf_sh (s : State) (site : Nat) (v : ShelfView) : (s.setShelf site v).sh = s.sh := rfl
@[simp] theorem State.setShelf_keep (s : State) (site : Nat) (v : ShelfView) : (s.setShelf site v).keep = s.keep := rfl
@[simp] theorem State.setShelf_free (s : State) (site : Nat) (v : ShelfView) : (s.setShelf site v).free = s.free := rfl
@[simp] theorem State.setShelf_out (s : State) (site : Nat) (v : ShelfView) : (s.setShelf site v).out = s.out := rfl
@[simp] theorem State.setShelf_pending (s : State) (site : Nat) (v : ShelfView) : (s.setShelf site v).pending = s.pending := rfl

@[simp] theorem State.setNs_pins (s : State) (nsid : Nat) (n : Ns) : (s.setNs nsid n).pins = s.pins := rfl
@[simp] theorem State.setNs_otp (s : State) (nsid : Nat) (n : Ns) : (s.setNs nsid n).otp = s.otp := rfl
@[simp] theorem State.setNs_nor (s : State) (nsid : Nat) (n : Ns) : (s.setNs nsid n).nor = s.nor := rfl
@[simp] theorem State.setNs_boot (s : State) (nsid : Nat) (n : Ns) : (s.setNs nsid n).boot = s.boot := rfl
@[simp] theorem State.setNs_ledger (s : State) (nsid : Nat) (n : Ns) : (s.setNs nsid n).ledger = s.ledger := rfl
@[simp] theorem State.setNs_params (s : State) (nsid : Nat) (n : Ns) : (s.setNs nsid n).params = s.params := rfl
@[simp] theorem State.setNs_time (s : State) (nsid : Nat) (n : Ns) : (s.setNs nsid n).time = s.time := rfl
@[simp] theorem State.setNs_ev (s : State) (nsid : Nat) (n : Ns) : (s.setNs nsid n).ev = s.ev := rfl
@[simp] theorem State.setNs_mgmt (s : State) (nsid : Nat) (n : Ns) : (s.setNs nsid n).mgmt = s.mgmt := rfl
@[simp] theorem State.setNs_jtag (s : State) (nsid : Nat) (n : Ns) : (s.setNs nsid n).jtag = s.jtag := rfl
@[simp] theorem State.setNs_power (s : State) (nsid : Nat) (n : Ns) : (s.setNs nsid n).power = s.power := rfl
@[simp] theorem State.setNs_eng (s : State) (nsid : Nat) (n : Ns) : (s.setNs nsid n).eng = s.eng := rfl
@[simp] theorem State.setNs_mem (s : State) (nsid : Nat) (n : Ns) : (s.setNs nsid n).mem = s.mem := rfl
@[simp] theorem State.setNs_ring (s : State) (nsid : Nat) (n : Ns) : (s.setNs nsid n).ring = s.ring := rfl
@[simp] theorem State.setNs_mc (s : State) (nsid : Nat) (n : Ns) : (s.setNs nsid n).mc = s.mc := rfl
@[simp] theorem State.setNs_hem (s : State) (nsid : Nat) (n : Ns) : (s.setNs nsid n).hem = s.hem := rfl
@[simp] theorem State.setNs_seam (s : State) (nsid : Nat) (n : Ns) : (s.setNs nsid n).seam = s.seam := rfl
@[simp] theorem State.setNs_digest (s : State) (nsid : Nat) (n : Ns) : (s.setNs nsid n).digest = s.digest := rfl
@[simp] theorem State.setNs_cam (s : State) (nsid : Nat) (n : Ns) : (s.setNs nsid n).cam = s.cam := rfl
@[simp] theorem State.setNs_press (s : State) (nsid : Nat) (n : Ns) : (s.setNs nsid n).press = s.press := rfl
@[simp] theorem State.setNs_cipher (s : State) (nsid : Nat) (n : Ns) : (s.setNs nsid n).cipher = s.cipher := rfl
@[simp] theorem State.setNs_parity (s : State) (nsid : Nat) (n : Ns) : (s.setNs nsid n).parity = s.parity := rfl
@[simp] theorem State.setNs_port (s : State) (nsid : Nat) (n : Ns) : (s.setNs nsid n).port = s.port := rfl
@[simp] theorem State.setNs_head (s : State) (nsid : Nat) (n : Ns) : (s.setNs nsid n).head = s.head := rfl
@[simp] theorem State.setNs_front (s : State) (nsid : Nat) (n : Ns) : (s.setNs nsid n).front = s.front := rfl
@[simp] theorem State.setNs_rdma (s : State) (nsid : Nat) (n : Ns) : (s.setNs nsid n).rdma = s.rdma := rfl
@[simp] theorem State.setNs_repl (s : State) (nsid : Nat) (n : Ns) : (s.setNs nsid n).repl = s.repl := rfl
@[simp] theorem State.setNs_flash (s : State) (nsid : Nat) (n : Ns) : (s.setNs nsid n).flash = s.flash := rfl
@[simp] theorem State.setNs_sh (s : State) (nsid : Nat) (n : Ns) : (s.setNs nsid n).sh = s.sh := rfl
@[simp] theorem State.setNs_keep (s : State) (nsid : Nat) (n : Ns) : (s.setNs nsid n).keep = s.keep := rfl
@[simp] theorem State.setNs_free (s : State) (nsid : Nat) (n : Ns) : (s.setNs nsid n).free = s.free := rfl
@[simp] theorem State.setNs_out (s : State) (nsid : Nat) (n : Ns) : (s.setNs nsid n).out = s.out := rfl
@[simp] theorem State.setNs_pending (s : State) (nsid : Nat) (n : Ns) : (s.setNs nsid n).pending = s.pending := rfl

@[simp] theorem State.setChan_pins (s : State) (c : Nat) (v : ChanSt) : (s.setChan c v).pins = s.pins := rfl
@[simp] theorem State.setChan_otp (s : State) (c : Nat) (v : ChanSt) : (s.setChan c v).otp = s.otp := rfl
@[simp] theorem State.setChan_nor (s : State) (c : Nat) (v : ChanSt) : (s.setChan c v).nor = s.nor := rfl
@[simp] theorem State.setChan_boot (s : State) (c : Nat) (v : ChanSt) : (s.setChan c v).boot = s.boot := rfl
@[simp] theorem State.setChan_ledger (s : State) (c : Nat) (v : ChanSt) : (s.setChan c v).ledger = s.ledger := rfl
@[simp] theorem State.setChan_params (s : State) (c : Nat) (v : ChanSt) : (s.setChan c v).params = s.params := rfl
@[simp] theorem State.setChan_time (s : State) (c : Nat) (v : ChanSt) : (s.setChan c v).time = s.time := rfl
@[simp] theorem State.setChan_ev (s : State) (c : Nat) (v : ChanSt) : (s.setChan c v).ev = s.ev := rfl
@[simp] theorem State.setChan_mgmt (s : State) (c : Nat) (v : ChanSt) : (s.setChan c v).mgmt = s.mgmt := rfl
@[simp] theorem State.setChan_jtag (s : State) (c : Nat) (v : ChanSt) : (s.setChan c v).jtag = s.jtag := rfl
@[simp] theorem State.setChan_power (s : State) (c : Nat) (v : ChanSt) : (s.setChan c v).power = s.power := rfl
@[simp] theorem State.setChan_eng (s : State) (c : Nat) (v : ChanSt) : (s.setChan c v).eng = s.eng := rfl
@[simp] theorem State.setChan_mem (s : State) (c : Nat) (v : ChanSt) : (s.setChan c v).mem = s.mem := rfl
@[simp] theorem State.setChan_ring (s : State) (c : Nat) (v : ChanSt) : (s.setChan c v).ring = s.ring := rfl
@[simp] theorem State.setChan_mc (s : State) (c : Nat) (v : ChanSt) : (s.setChan c v).mc = s.mc := rfl
@[simp] theorem State.setChan_hem (s : State) (c : Nat) (v : ChanSt) : (s.setChan c v).hem = s.hem := rfl
@[simp] theorem State.setChan_nvme (s : State) (c : Nat) (v : ChanSt) : (s.setChan c v).nvme = s.nvme := rfl
@[simp] theorem State.setChan_seam (s : State) (c : Nat) (v : ChanSt) : (s.setChan c v).seam = s.seam := rfl
@[simp] theorem State.setChan_digest (s : State) (c : Nat) (v : ChanSt) : (s.setChan c v).digest = s.digest := rfl
@[simp] theorem State.setChan_cam (s : State) (c : Nat) (v : ChanSt) : (s.setChan c v).cam = s.cam := rfl
@[simp] theorem State.setChan_press (s : State) (c : Nat) (v : ChanSt) : (s.setChan c v).press = s.press := rfl
@[simp] theorem State.setChan_cipher (s : State) (c : Nat) (v : ChanSt) : (s.setChan c v).cipher = s.cipher := rfl
@[simp] theorem State.setChan_parity (s : State) (c : Nat) (v : ChanSt) : (s.setChan c v).parity = s.parity := rfl
@[simp] theorem State.setChan_port (s : State) (c : Nat) (v : ChanSt) : (s.setChan c v).port = s.port := rfl
@[simp] theorem State.setChan_head (s : State) (c : Nat) (v : ChanSt) : (s.setChan c v).head = s.head := rfl
@[simp] theorem State.setChan_front (s : State) (c : Nat) (v : ChanSt) : (s.setChan c v).front = s.front := rfl
@[simp] theorem State.setChan_rdma (s : State) (c : Nat) (v : ChanSt) : (s.setChan c v).rdma = s.rdma := rfl
@[simp] theorem State.setChan_repl (s : State) (c : Nat) (v : ChanSt) : (s.setChan c v).repl = s.repl := rfl
@[simp] theorem State.setChan_sh (s : State) (c : Nat) (v : ChanSt) : (s.setChan c v).sh = s.sh := rfl
@[simp] theorem State.setChan_keep (s : State) (c : Nat) (v : ChanSt) : (s.setChan c v).keep = s.keep := rfl
@[simp] theorem State.setChan_free (s : State) (c : Nat) (v : ChanSt) : (s.setChan c v).free = s.free := rfl
@[simp] theorem State.setChan_out (s : State) (c : Nat) (v : ChanSt) : (s.setChan c v).out = s.out := rfl
@[simp] theorem State.setChan_pending (s : State) (c : Nat) (v : ChanSt) : (s.setChan c v).pending = s.pending := rfl

end Sys2Proof.Machine
end

