-- ==== Sys2Proof/Laws/Quiet.lean ====
section
/-! SUPPORT. Events, alarms, completions and notices touch the event ring, the host interface and what is sent, and nothing else. -/

namespace Sys2Proof.Machine

/-- From `s` to `t` nothing changes but the event ring, the host interface and what has been sent. -/
def Quiet (s t : State) : Prop := t = { s with ev := t.ev, nvme := t.nvme, out := t.out }

theorem Quiet.rfl {s : State} : Quiet s s := Eq.refl _

theorem Quiet.after {a b c : State} (h2 : Quiet b c) (h1 : Quiet a b) : Quiet a c := by
  unfold Quiet at *
  rw [h2, h1]

theorem quiet_foldl {α : Type} {g : State → α → State} {l : List α} {s : State} (h : ∀ a x, Quiet a (g a x)) : Quiet s (l.foldl g s) := by
  induction l generalizing s with
  | nil => exact Quiet.rfl
  | cons x xs ih => exact ih.after (h s x)

theorem State.logError_quiet {s : State} {c : NvCpl} : Quiet s (s.logError c) := by
  unfold State.logError
  split <;> rfl

theorem State.post_quiet {s : State} {c : NvCpl} : Quiet s (s.post c) := by
  unfold State.post
  refine Quiet.after ?_ (State.logError_quiet (c := c))
  generalize s.logError c = t
  extract_lets k q
  split
  · rfl
  · split <;> rfl

theorem State.finish_quiet {s : State} {c : CmdId} {st : NvmeSt} : Quiet s (s.finish c st) := State.post_quiet

theorem State.noticeTo_quiet {s : State} {c v : Nat} : Quiet s (s.noticeTo c v) := by
  unfold State.noticeTo
  extract_lets k
  split
  · rfl
  · split
    · rfl
    · split
      · rfl
      · exact State.post_quiet.after (by rfl)

theorem State.noticeAll_quiet {s : State} {v : Nat} : Quiet s (s.noticeAll v) := quiet_foldl fun _ _ => State.noticeTo_quiet

theorem State.vendorNotice_quiet {s : State} {v : Nat} : Quiet s (s.vendorNotice v) := by
  unfold State.vendorNotice
  split
  · exact State.noticeAll_quiet
  · rfl

theorem State.ringNotice_quiet {s : State} : Quiet s s.ringNotice := by
  unfold State.ringNotice
  split
  · exact State.vendorNotice_quiet.after (by rfl)
  · rfl

theorem State.eventArg_quiet {s : State} {c x : Nat} {arg : Bytes} : Quiet s (s.eventArg c x arg) := State.ringNotice_quiet.after (by rfl)

theorem State.event_quiet {s : State} {c x : Nat} : Quiet s (s.event c x) := State.eventArg_quiet

theorem State.alarmMoved_quiet {s : State} {c x : Nat} {b : Bool} : Quiet s (s.alarmMoved c x b) := by
  unfold State.alarmMoved
  extract_lets s1
  have h : Quiet s s1 := State.vendorNotice_quiet.after State.ringNotice_quiet
  clear_value s1
  split
  · exact Quiet.after (by rfl) h
  · exact h

theorem State.alarm_quiet {s : State} {c x : Nat} : Quiet s (s.alarm c x) := by
  unfold State.alarm
  extract_lets r s1
  have h : Quiet s s1 := Eq.refl _
  clear_value s1
  split
  · exact State.alarmMoved_quiet.after h
  · exact h

theorem State.clearAlarm_quiet {s : State} {c x : Nat} : Quiet s (s.clearAlarm c x) := by
  unfold State.clearAlarm
  extract_lets r s1
  have h : Quiet s s1 := Eq.refl _
  clear_value s1
  split
  · exact State.alarmMoved_quiet.after h
  · exact h

theorem Quiet.pins {s t : State} (h : Quiet s t) : t.pins = s.pins := by rw [h]
theorem Quiet.otp {s t : State} (h : Quiet s t) : t.otp = s.otp := by rw [h]
theorem Quiet.nor {s t : State} (h : Quiet s t) : t.nor = s.nor := by rw [h]
theorem Quiet.boot {s t : State} (h : Quiet s t) : t.boot = s.boot := by rw [h]
theorem Quiet.ledger {s t : State} (h : Quiet s t) : t.ledger = s.ledger := by rw [h]
theorem Quiet.params {s t : State} (h : Quiet s t) : t.params = s.params := by rw [h]
theorem Quiet.time {s t : State} (h : Quiet s t) : t.time = s.time := by rw [h]
theorem Quiet.mgmt {s t : State} (h : Quiet s t) : t.mgmt = s.mgmt := by rw [h]
theorem Quiet.jtag {s t : State} (h : Quiet s t) : t.jtag = s.jtag := by rw [h]
theorem Quiet.power {s t : State} (h : Quiet s t) : t.power = s.power := by rw [h]
theorem Quiet.eng {s t : State} (h : Quiet s t) : t.eng = s.eng := by rw [h]
theorem Quiet.mem {s t : State} (h : Quiet s t) : t.mem = s.mem := by rw [h]
theorem Quiet.ring {s t : State} (h : Quiet s t) : t.ring = s.ring := by rw [h]
theorem Quiet.mc {s t : State} (h : Quiet s t) : t.mc = s.mc := by rw [h]
theorem Quiet.hem {s t : State} (h : Quiet s t) : t.hem = s.hem := by rw [h]
theorem Quiet.seam {s t : State} (h : Quiet s t) : t.seam = s.seam := by rw [h]
theorem Quiet.digest {s t : State} (h : Quiet s t) : t.digest = s.digest := by rw [h]
theorem Quiet.cam {s t : State} (h : Quiet s t) : t.cam = s.cam := by rw [h]
theorem Quiet.press {s t : State} (h : Quiet s t) : t.press = s.press := by rw [h]
theorem Quiet.cipher {s t : State} (h : Quiet s t) : t.cipher = s.cipher := by rw [h]
theorem Quiet.parity {s t : State} (h : Quiet s t) : t.parity = s.parity := by rw [h]
theorem Quiet.port {s t : State} (h : Quiet s t) : t.port = s.port := by rw [h]
theorem Quiet.head {s t : State} (h : Quiet s t) : t.head = s.head := by rw [h]
theorem Quiet.front {s t : State} (h : Quiet s t) : t.front = s.front := by rw [h]
theorem Quiet.rdma {s t : State} (h : Quiet s t) : t.rdma = s.rdma := by rw [h]
theorem Quiet.repl {s t : State} (h : Quiet s t) : t.repl = s.repl := by rw [h]
theorem Quiet.flash {s t : State} (h : Quiet s t) : t.flash = s.flash := by rw [h]
theorem Quiet.sh {s t : State} (h : Quiet s t) : t.sh = s.sh := by rw [h]
theorem Quiet.keep {s t : State} (h : Quiet s t) : t.keep = s.keep := by rw [h]
theorem Quiet.free {s t : State} (h : Quiet s t) : t.free = s.free := by rw [h]
theorem Quiet.pending {s t : State} (h : Quiet s t) : t.pending = s.pending := by rw [h]

@[simp] theorem State.event_pins (s : State) (c x : Nat) : (s.event c x).pins = s.pins := State.event_quiet.pins
@[simp] theorem State.event_otp (s : State) (c x : Nat) : (s.event c x).otp = s.otp := State.event_quiet.otp
@[simp] theorem State.event_nor (s : State) (c x : Nat) : (s.event c x).nor = s.nor := State.event_quiet.nor
@[simp] theorem State.event_boot (s : State) (c x : Nat) : (s.event c x).boot = s.boot := State.event_quiet.boot
@[simp] theorem State.event_ledger (s : State) (c x : Nat) : (s.event c x).ledger = s.ledger := State.event_quiet.ledger
@[simp] theorem State.event_params (s : State) (c x : Nat) : (s.event c x).params = s.params := State.event_quiet.params
@[simp] theorem State.event_time (s : State) (c x : Nat) : (s.event c x).time = s.time := State.event_quiet.time
@[simp] theorem State.event_mgmt (s : State) (c x : Nat) : (s.event c x).mgmt = s.mgmt := State.event_quiet.mgmt
@[simp] theorem State.event_jtag (s : State) (c x : Nat) : (s.event c x).jtag = s.jtag := State.event_quiet.jtag
@[simp] theorem State.event_power (s : State) (c x : Nat) : (s.event c x).power = s.power := State.event_quiet.power
@[simp] theorem State.event_eng (s : State) (c x : Nat) : (s.event c x).eng = s.eng := State.event_quiet.eng
@[simp] theorem State.event_mem (s : State) (c x : Nat) : (s.event c x).mem = s.mem := State.event_quiet.mem
@[simp] theorem State.event_ring (s : State) (c x : Nat) : (s.event c x).ring = s.ring := State.event_quiet.ring
@[simp] theorem State.event_mc (s : State) (c x : Nat) : (s.event c x).mc = s.mc := State.event_quiet.mc
@[simp] theorem State.event_hem (s : State) (c x : Nat) : (s.event c x).hem = s.hem := State.event_quiet.hem
@[simp] theorem State.event_seam (s : State) (c x : Nat) : (s.event c x).seam = s.seam := State.event_quiet.seam
@[simp] theorem State.event_digest (s : State) (c x : Nat) : (s.event c x).digest = s.digest := State.event_quiet.digest
@[simp] theorem State.event_cam (s : State) (c x : Nat) : (s.event c x).cam = s.cam := State.event_quiet.cam
@[simp] theorem State.event_press (s : State) (c x : Nat) : (s.event c x).press = s.press := State.event_quiet.press
@[simp] theorem State.event_cipher (s : State) (c x : Nat) : (s.event c x).cipher = s.cipher := State.event_quiet.cipher
@[simp] theorem State.event_parity (s : State) (c x : Nat) : (s.event c x).parity = s.parity := State.event_quiet.parity
@[simp] theorem State.event_port (s : State) (c x : Nat) : (s.event c x).port = s.port := State.event_quiet.port
@[simp] theorem State.event_head (s : State) (c x : Nat) : (s.event c x).head = s.head := State.event_quiet.head
@[simp] theorem State.event_front (s : State) (c x : Nat) : (s.event c x).front = s.front := State.event_quiet.front
@[simp] theorem State.event_rdma (s : State) (c x : Nat) : (s.event c x).rdma = s.rdma := State.event_quiet.rdma
@[simp] theorem State.event_repl (s : State) (c x : Nat) : (s.event c x).repl = s.repl := State.event_quiet.repl
@[simp] theorem State.event_flash (s : State) (c x : Nat) : (s.event c x).flash = s.flash := State.event_quiet.flash
@[simp] theorem State.event_sh (s : State) (c x : Nat) : (s.event c x).sh = s.sh := State.event_quiet.sh
@[simp] theorem State.event_keep (s : State) (c x : Nat) : (s.event c x).keep = s.keep := State.event_quiet.keep
@[simp] theorem State.event_free (s : State) (c x : Nat) : (s.event c x).free = s.free := State.event_quiet.free
@[simp] theorem State.event_pending (s : State) (c x : Nat) : (s.event c x).pending = s.pending := State.event_quiet.pending

@[simp] theorem State.alarm_pins (s : State) (c x : Nat) : (s.alarm c x).pins = s.pins := State.alarm_quiet.pins
@[simp] theorem State.alarm_otp (s : State) (c x : Nat) : (s.alarm c x).otp = s.otp := State.alarm_quiet.otp
@[simp] theorem State.alarm_nor (s : State) (c x : Nat) : (s.alarm c x).nor = s.nor := State.alarm_quiet.nor
@[simp] theorem State.alarm_boot (s : State) (c x : Nat) : (s.alarm c x).boot = s.boot := State.alarm_quiet.boot
@[simp] theorem State.alarm_ledger (s : State) (c x : Nat) : (s.alarm c x).ledger = s.ledger := State.alarm_quiet.ledger
@[simp] theorem State.alarm_params (s : State) (c x : Nat) : (s.alarm c x).params = s.params := State.alarm_quiet.params
@[simp] theorem State.alarm_time (s : State) (c x : Nat) : (s.alarm c x).time = s.time := State.alarm_quiet.time
@[simp] theorem State.alarm_mgmt (s : State) (c x : Nat) : (s.alarm c x).mgmt = s.mgmt := State.alarm_quiet.mgmt
@[simp] theorem State.alarm_jtag (s : State) (c x : Nat) : (s.alarm c x).jtag = s.jtag := State.alarm_quiet.jtag
@[simp] theorem State.alarm_power (s : State) (c x : Nat) : (s.alarm c x).power = s.power := State.alarm_quiet.power
@[simp] theorem State.alarm_eng (s : State) (c x : Nat) : (s.alarm c x).eng = s.eng := State.alarm_quiet.eng
@[simp] theorem State.alarm_mem (s : State) (c x : Nat) : (s.alarm c x).mem = s.mem := State.alarm_quiet.mem
@[simp] theorem State.alarm_ring (s : State) (c x : Nat) : (s.alarm c x).ring = s.ring := State.alarm_quiet.ring
@[simp] theorem State.alarm_mc (s : State) (c x : Nat) : (s.alarm c x).mc = s.mc := State.alarm_quiet.mc
@[simp] theorem State.alarm_hem (s : State) (c x : Nat) : (s.alarm c x).hem = s.hem := State.alarm_quiet.hem
@[simp] theorem State.alarm_seam (s : State) (c x : Nat) : (s.alarm c x).seam = s.seam := State.alarm_quiet.seam
@[simp] theorem State.alarm_digest (s : State) (c x : Nat) : (s.alarm c x).digest = s.digest := State.alarm_quiet.digest
@[simp] theorem State.alarm_cam (s : State) (c x : Nat) : (s.alarm c x).cam = s.cam := State.alarm_quiet.cam
@[simp] theorem State.alarm_press (s : State) (c x : Nat) : (s.alarm c x).press = s.press := State.alarm_quiet.press
@[simp] theorem State.alarm_cipher (s : State) (c x : Nat) : (s.alarm c x).cipher = s.cipher := State.alarm_quiet.cipher
@[simp] theorem State.alarm_parity (s : State) (c x : Nat) : (s.alarm c x).parity = s.parity := State.alarm_quiet.parity
@[simp] theorem State.alarm_port (s : State) (c x : Nat) : (s.alarm c x).port = s.port := State.alarm_quiet.port
@[simp] theorem State.alarm_head (s : State) (c x : Nat) : (s.alarm c x).head = s.head := State.alarm_quiet.head
@[simp] theorem State.alarm_front (s : State) (c x : Nat) : (s.alarm c x).front = s.front := State.alarm_quiet.front
@[simp] theorem State.alarm_rdma (s : State) (c x : Nat) : (s.alarm c x).rdma = s.rdma := State.alarm_quiet.rdma
@[simp] theorem State.alarm_repl (s : State) (c x : Nat) : (s.alarm c x).repl = s.repl := State.alarm_quiet.repl
@[simp] theorem State.alarm_flash (s : State) (c x : Nat) : (s.alarm c x).flash = s.flash := State.alarm_quiet.flash
@[simp] theorem State.alarm_sh (s : State) (c x : Nat) : (s.alarm c x).sh = s.sh := State.alarm_quiet.sh
@[simp] theorem State.alarm_keep (s : State) (c x : Nat) : (s.alarm c x).keep = s.keep := State.alarm_quiet.keep
@[simp] theorem State.alarm_free (s : State) (c x : Nat) : (s.alarm c x).free = s.free := State.alarm_quiet.free
@[simp] theorem State.alarm_pending (s : State) (c x : Nat) : (s.alarm c x).pending = s.pending := State.alarm_quiet.pending

@[simp] theorem State.clearAlarm_pins (s : State) (c x : Nat) : (s.clearAlarm c x).pins = s.pins := State.clearAlarm_quiet.pins
@[simp] theorem State.clearAlarm_otp (s : State) (c x : Nat) : (s.clearAlarm c x).otp = s.otp := State.clearAlarm_quiet.otp
@[simp] theorem State.clearAlarm_nor (s : State) (c x : Nat) : (s.clearAlarm c x).nor = s.nor := State.clearAlarm_quiet.nor
@[simp] theorem State.clearAlarm_boot (s : State) (c x : Nat) : (s.clearAlarm c x).boot = s.boot := State.clearAlarm_quiet.boot
@[simp] theorem State.clearAlarm_ledger (s : State) (c x : Nat) : (s.clearAlarm c x).ledger = s.ledger := State.clearAlarm_quiet.ledger
@[simp] theorem State.clearAlarm_params (s : State) (c x : Nat) : (s.clearAlarm c x).params = s.params := State.clearAlarm_quiet.params
@[simp] theorem State.clearAlarm_time (s : State) (c x : Nat) : (s.clearAlarm c x).time = s.time := State.clearAlarm_quiet.time
@[simp] theorem State.clearAlarm_mgmt (s : State) (c x : Nat) : (s.clearAlarm c x).mgmt = s.mgmt := State.clearAlarm_quiet.mgmt
@[simp] theorem State.clearAlarm_jtag (s : State) (c x : Nat) : (s.clearAlarm c x).jtag = s.jtag := State.clearAlarm_quiet.jtag
@[simp] theorem State.clearAlarm_power (s : State) (c x : Nat) : (s.clearAlarm c x).power = s.power := State.clearAlarm_quiet.power
@[simp] theorem State.clearAlarm_eng (s : State) (c x : Nat) : (s.clearAlarm c x).eng = s.eng := State.clearAlarm_quiet.eng
@[simp] theorem State.clearAlarm_mem (s : State) (c x : Nat) : (s.clearAlarm c x).mem = s.mem := State.clearAlarm_quiet.mem
@[simp] theorem State.clearAlarm_ring (s : State) (c x : Nat) : (s.clearAlarm c x).ring = s.ring := State.clearAlarm_quiet.ring
@[simp] theorem State.clearAlarm_mc (s : State) (c x : Nat) : (s.clearAlarm c x).mc = s.mc := State.clearAlarm_quiet.mc
@[simp] theorem State.clearAlarm_hem (s : State) (c x : Nat) : (s.clearAlarm c x).hem = s.hem := State.clearAlarm_quiet.hem
@[simp] theorem State.clearAlarm_seam (s : State) (c x : Nat) : (s.clearAlarm c x).seam = s.seam := State.clearAlarm_quiet.seam
@[simp] theorem State.clearAlarm_digest (s : State) (c x : Nat) : (s.clearAlarm c x).digest = s.digest := State.clearAlarm_quiet.digest
@[simp] theorem State.clearAlarm_cam (s : State) (c x : Nat) : (s.clearAlarm c x).cam = s.cam := State.clearAlarm_quiet.cam
@[simp] theorem State.clearAlarm_press (s : State) (c x : Nat) : (s.clearAlarm c x).press = s.press := State.clearAlarm_quiet.press
@[simp] theorem State.clearAlarm_cipher (s : State) (c x : Nat) : (s.clearAlarm c x).cipher = s.cipher := State.clearAlarm_quiet.cipher
@[simp] theorem State.clearAlarm_parity (s : State) (c x : Nat) : (s.clearAlarm c x).parity = s.parity := State.clearAlarm_quiet.parity
@[simp] theorem State.clearAlarm_port (s : State) (c x : Nat) : (s.clearAlarm c x).port = s.port := State.clearAlarm_quiet.port
@[simp] theorem State.clearAlarm_head (s : State) (c x : Nat) : (s.clearAlarm c x).head = s.head := State.clearAlarm_quiet.head
@[simp] theorem State.clearAlarm_front (s : State) (c x : Nat) : (s.clearAlarm c x).front = s.front := State.clearAlarm_quiet.front
@[simp] theorem State.clearAlarm_rdma (s : State) (c x : Nat) : (s.clearAlarm c x).rdma = s.rdma := State.clearAlarm_quiet.rdma
@[simp] theorem State.clearAlarm_repl (s : State) (c x : Nat) : (s.clearAlarm c x).repl = s.repl := State.clearAlarm_quiet.repl
@[simp] theorem State.clearAlarm_flash (s : State) (c x : Nat) : (s.clearAlarm c x).flash = s.flash := State.clearAlarm_quiet.flash
@[simp] theorem State.clearAlarm_sh (s : State) (c x : Nat) : (s.clearAlarm c x).sh = s.sh := State.clearAlarm_quiet.sh
@[simp] theorem State.clearAlarm_keep (s : State) (c x : Nat) : (s.clearAlarm c x).keep = s.keep := State.clearAlarm_quiet.keep
@[simp] theorem State.clearAlarm_free (s : State) (c x : Nat) : (s.clearAlarm c x).free = s.free := State.clearAlarm_quiet.free
@[simp] theorem State.clearAlarm_pending (s : State) (c x : Nat) : (s.clearAlarm c x).pending = s.pending := State.clearAlarm_quiet.pending

@[simp] theorem State.post_pins (s : State) (c : NvCpl) : (s.post c).pins = s.pins := State.post_quiet.pins
@[simp] theorem State.post_otp (s : State) (c : NvCpl) : (s.post c).otp = s.otp := State.post_quiet.otp
@[simp] theorem State.post_nor (s : State) (c : NvCpl) : (s.post c).nor = s.nor := State.post_quiet.nor
@[simp] theorem State.post_boot (s : State) (c : NvCpl) : (s.post c).boot = s.boot := State.post_quiet.boot
@[simp] theorem State.post_ledger (s : State) (c : NvCpl) : (s.post c).ledger = s.ledger := State.post_quiet.ledger
@[simp] theorem State.post_params (s : State) (c : NvCpl) : (s.post c).params = s.params := State.post_quiet.params
@[simp] theorem State.post_time (s : State) (c : NvCpl) : (s.post c).time = s.time := State.post_quiet.time
@[simp] theorem State.post_mgmt (s : State) (c : NvCpl) : (s.post c).mgmt = s.mgmt := State.post_quiet.mgmt
@[simp] theorem State.post_jtag (s : State) (c : NvCpl) : (s.post c).jtag = s.jtag := State.post_quiet.jtag
@[simp] theorem State.post_power (s : State) (c : NvCpl) : (s.post c).power = s.power := State.post_quiet.power
@[simp] theorem State.post_eng (s : State) (c : NvCpl) : (s.post c).eng = s.eng := State.post_quiet.eng
@[simp] theorem State.post_mem (s : State) (c : NvCpl) : (s.post c).mem = s.mem := State.post_quiet.mem
@[simp] theorem State.post_ring (s : State) (c : NvCpl) : (s.post c).ring = s.ring := State.post_quiet.ring
@[simp] theorem State.post_mc (s : State) (c : NvCpl) : (s.post c).mc = s.mc := State.post_quiet.mc
@[simp] theorem State.post_hem (s : State) (c : NvCpl) : (s.post c).hem = s.hem := State.post_quiet.hem
@[simp] theorem State.post_seam (s : State) (c : NvCpl) : (s.post c).seam = s.seam := State.post_quiet.seam
@[simp] theorem State.post_digest (s : State) (c : NvCpl) : (s.post c).digest = s.digest := State.post_quiet.digest
@[simp] theorem State.post_cam (s : State) (c : NvCpl) : (s.post c).cam = s.cam := State.post_quiet.cam
@[simp] theorem State.post_press (s : State) (c : NvCpl) : (s.post c).press = s.press := State.post_quiet.press
@[simp] theorem State.post_cipher (s : State) (c : NvCpl) : (s.post c).cipher = s.cipher := State.post_quiet.cipher
@[simp] theorem State.post_parity (s : State) (c : NvCpl) : (s.post c).parity = s.parity := State.post_quiet.parity
@[simp] theorem State.post_port (s : State) (c : NvCpl) : (s.post c).port = s.port := State.post_quiet.port
@[simp] theorem State.post_head (s : State) (c : NvCpl) : (s.post c).head = s.head := State.post_quiet.head
@[simp] theorem State.post_front (s : State) (c : NvCpl) : (s.post c).front = s.front := State.post_quiet.front
@[simp] theorem State.post_rdma (s : State) (c : NvCpl) : (s.post c).rdma = s.rdma := State.post_quiet.rdma
@[simp] theorem State.post_repl (s : State) (c : NvCpl) : (s.post c).repl = s.repl := State.post_quiet.repl
@[simp] theorem State.post_flash (s : State) (c : NvCpl) : (s.post c).flash = s.flash := State.post_quiet.flash
@[simp] theorem State.post_sh (s : State) (c : NvCpl) : (s.post c).sh = s.sh := State.post_quiet.sh
@[simp] theorem State.post_keep (s : State) (c : NvCpl) : (s.post c).keep = s.keep := State.post_quiet.keep
@[simp] theorem State.post_free (s : State) (c : NvCpl) : (s.post c).free = s.free := State.post_quiet.free
@[simp] theorem State.post_pending (s : State) (c : NvCpl) : (s.post c).pending = s.pending := State.post_quiet.pending

@[simp] theorem State.finish_pins (s : State) (c : CmdId) (st : NvmeSt) : (s.finish c st).pins = s.pins := State.finish_quiet.pins
@[simp] theorem State.finish_otp (s : State) (c : CmdId) (st : NvmeSt) : (s.finish c st).otp = s.otp := State.finish_quiet.otp
@[simp] theorem State.finish_nor (s : State) (c : CmdId) (st : NvmeSt) : (s.finish c st).nor = s.nor := State.finish_quiet.nor
@[simp] theorem State.finish_boot (s : State) (c : CmdId) (st : NvmeSt) : (s.finish c st).boot = s.boot := State.finish_quiet.boot
@[simp] theorem State.finish_ledger (s : State) (c : CmdId) (st : NvmeSt) : (s.finish c st).ledger = s.ledger := State.finish_quiet.ledger
@[simp] theorem State.finish_params (s : State) (c : CmdId) (st : NvmeSt) : (s.finish c st).params = s.params := State.finish_quiet.params
@[simp] theorem State.finish_time (s : State) (c : CmdId) (st : NvmeSt) : (s.finish c st).time = s.time := State.finish_quiet.time
@[simp] theorem State.finish_mgmt (s : State) (c : CmdId) (st : NvmeSt) : (s.finish c st).mgmt = s.mgmt := State.finish_quiet.mgmt
@[simp] theorem State.finish_jtag (s : State) (c : CmdId) (st : NvmeSt) : (s.finish c st).jtag = s.jtag := State.finish_quiet.jtag
@[simp] theorem State.finish_power (s : State) (c : CmdId) (st : NvmeSt) : (s.finish c st).power = s.power := State.finish_quiet.power
@[simp] theorem State.finish_eng (s : State) (c : CmdId) (st : NvmeSt) : (s.finish c st).eng = s.eng := State.finish_quiet.eng
@[simp] theorem State.finish_mem (s : State) (c : CmdId) (st : NvmeSt) : (s.finish c st).mem = s.mem := State.finish_quiet.mem
@[simp] theorem State.finish_ring (s : State) (c : CmdId) (st : NvmeSt) : (s.finish c st).ring = s.ring := State.finish_quiet.ring
@[simp] theorem State.finish_mc (s : State) (c : CmdId) (st : NvmeSt) : (s.finish c st).mc = s.mc := State.finish_quiet.mc
@[simp] theorem State.finish_hem (s : State) (c : CmdId) (st : NvmeSt) : (s.finish c st).hem = s.hem := State.finish_quiet.hem
@[simp] theorem State.finish_seam (s : State) (c : CmdId) (st : NvmeSt) : (s.finish c st).seam = s.seam := State.finish_quiet.seam
@[simp] theorem State.finish_digest (s : State) (c : CmdId) (st : NvmeSt) : (s.finish c st).digest = s.digest := State.finish_quiet.digest
@[simp] theorem State.finish_cam (s : State) (c : CmdId) (st : NvmeSt) : (s.finish c st).cam = s.cam := State.finish_quiet.cam
@[simp] theorem State.finish_press (s : State) (c : CmdId) (st : NvmeSt) : (s.finish c st).press = s.press := State.finish_quiet.press
@[simp] theorem State.finish_cipher (s : State) (c : CmdId) (st : NvmeSt) : (s.finish c st).cipher = s.cipher := State.finish_quiet.cipher
@[simp] theorem State.finish_parity (s : State) (c : CmdId) (st : NvmeSt) : (s.finish c st).parity = s.parity := State.finish_quiet.parity
@[simp] theorem State.finish_port (s : State) (c : CmdId) (st : NvmeSt) : (s.finish c st).port = s.port := State.finish_quiet.port
@[simp] theorem State.finish_head (s : State) (c : CmdId) (st : NvmeSt) : (s.finish c st).head = s.head := State.finish_quiet.head
@[simp] theorem State.finish_front (s : State) (c : CmdId) (st : NvmeSt) : (s.finish c st).front = s.front := State.finish_quiet.front
@[simp] theorem State.finish_rdma (s : State) (c : CmdId) (st : NvmeSt) : (s.finish c st).rdma = s.rdma := State.finish_quiet.rdma
@[simp] theorem State.finish_repl (s : State) (c : CmdId) (st : NvmeSt) : (s.finish c st).repl = s.repl := State.finish_quiet.repl
@[simp] theorem State.finish_flash (s : State) (c : CmdId) (st : NvmeSt) : (s.finish c st).flash = s.flash := State.finish_quiet.flash
@[simp] theorem State.finish_sh (s : State) (c : CmdId) (st : NvmeSt) : (s.finish c st).sh = s.sh := State.finish_quiet.sh
@[simp] theorem State.finish_keep (s : State) (c : CmdId) (st : NvmeSt) : (s.finish c st).keep = s.keep := State.finish_quiet.keep
@[simp] theorem State.finish_free (s : State) (c : CmdId) (st : NvmeSt) : (s.finish c st).free = s.free := State.finish_quiet.free
@[simp] theorem State.finish_pending (s : State) (c : CmdId) (st : NvmeSt) : (s.finish c st).pending = s.pending := State.finish_quiet.pending

end Sys2Proof.Machine
end

