-- ==== Sys2Proof/Laws/Alarm.lean ====
section
/-! SUPPORT. Which alarms stand after an event, a raise or a clear. -/

namespace Sys2Proof.Machine

theorem EvSt.overwrite_alarms (e : EvSt) : e.overwrite.alarms = e.alarms := by
  unfold EvSt.overwrite
  repeat' (first | rfl | split)

theorem EvSt.append_alarms (e : EvSt) (r : EvRec) : (e.append r).alarms = e.alarms := by
  unfold EvSt.append
  dsimp only
  split
  · rfl
  · exact e.overwrite_alarms

theorem EvSt.summarise_alarms (e : EvSt) (r : EvRec) : (e.summarise r).alarms = e.alarms := by
  unfold EvSt.summarise
  split <;> rfl

theorem EvSt.event_alarms (e : EvSt) (c x : Nat) (arg : Bytes) (t n w : Nat) : (e.event c x arg t n w).alarms = e.alarms := by
  unfold EvSt.event
  split
  · exact EvSt.summarise_alarms _ _
  · dsimp only
    rw [EvSt.summarise_alarms, EvSt.append_alarms]

theorem EvSt.raise_isRaised (e : EvSt) (c x t n : Nat) : (e.raise c x t n).1.isRaised c x = true := by
  unfold EvSt.raise EvSt.isRaised
  split
  · rename_i a h
    have hm := List.mem_of_find?_eq_some h
    have hp := List.find?_some h
    simp only [Bool.and_eq_true, beq_iff_eq] at hp
    simp only
    split
    · rename_i hr
      simp only [List.any_map, List.any_eq_true]
      exact ⟨a, hm, by simp [hp, hr]⟩
    · simp only [EvSt.append_alarms, List.any_map, List.any_eq_true]
      exact ⟨a, hm, by simp [hp]⟩
  · simp only [EvSt.append_alarms, List.any_append, List.any_cons, beq_self_eq_true, Bool.and_self, Bool.true_or, Bool.or_true]

theorem EvSt.raise_keeps (e : EvSt) (c x t n c' x' : Nat) (h : e.isRaised c' x' = true) : (e.raise c x t n).1.isRaised c' x' = true := by
  unfold EvSt.isRaised at h ⊢
  simp only [List.any_eq_true, Bool.and_eq_true, beq_iff_eq] at h
  obtain ⟨b, hb, hc⟩ := h
  unfold EvSt.raise
  split
  · simp only
    split
    · simp only [List.any_map, List.any_eq_true]
      refine ⟨b, hb, ?_⟩
      simp only [Function.comp]
      split <;> simp [hc]
    · simp only [EvSt.append_alarms, List.any_map, List.any_eq_true]
      refine ⟨b, hb, ?_⟩
      simp only [Function.comp]
      split <;> simp [hc]
  · simp only [EvSt.append_alarms, List.any_append, Bool.or_eq_true, List.any_eq_true]
    exact Or.inl ⟨b, hb, by simp [hc]⟩

theorem EvSt.clear_keeps (e : EvSt) (c x t n c' x' : Nat) (hn : c' ≠ c ∨ x' ≠ x) (h : e.isRaised c' x' = true) :
    (e.clear c x t n).1.isRaised c' x' = true := by
  unfold EvSt.clear
  split
  · unfold EvSt.isRaised at h ⊢
    simp only [List.any_eq_true, Bool.and_eq_true, beq_iff_eq] at h
    obtain ⟨b, hb, hc⟩ := h
    simp only [EvSt.append_alarms, List.any_map, List.any_eq_true]
    refine ⟨b, hb, ?_⟩
    have : ¬(b.code = c ∧ b.source = x) := by rw [hc.1.1, hc.1.2]; omega
    rw [Function.comp, if_neg this]
    simp [hc]
  · exact h

theorem EvSt.clear_isRaised (e : EvSt) (c x t n : Nat) : (e.clear c x t n).1.isRaised c x = false := by
  unfold EvSt.clear
  split
  · unfold EvSt.isRaised
    simp only [EvSt.append_alarms, List.any_map, List.any_eq_false, Function.comp]
    intro a _
    split
    · simp
    · rename_i h
      simp only [Bool.and_eq_true, beq_iff_eq]
      rintro ⟨h1, -⟩
      exact h h1
  · rename_i h
    unfold EvSt.isRaised
    simpa using h

/-! ### At the state -/

theorem State.post_ev (s : State) (k : NvCpl) : (s.post k).ev = s.ev := by
  have le : (s.logError k).ev = s.ev := by
    unfold State.logError
    split <;> rfl
  unfold State.post
  rw [← le]
  generalize s.logError k = g
  extract_lets k1 q
  split
  · rfl
  · split <;> rfl

theorem State.noticeTo_ev (s : State) (c m : Nat) : (s.noticeTo c m).ev = s.ev := by
  unfold State.noticeTo
  extract_lets k
  split
  · rfl
  · split
    · rfl
    · split
      · rfl
      · rw [State.post_ev]; rfl

theorem State.vendorNotice_ev (s : State) (m : Nat) : (s.vendorNotice m).ev = s.ev := by
  have fo : ∀ (l : List Nat) (b : State), (l.foldl (fun acc c => acc.noticeTo c m) b).ev = b.ev := by
    intro l
    induction l with
    | nil => intro; rfl
    | cons c l ih => exact fun b => (ih (b.noticeTo c m)).trans (State.noticeTo_ev b c m)
  unfold State.vendorNotice
  split
  · exact fo _ s
  · rfl

theorem State.ringNotice_alarms (s : State) : s.ringNotice.ev.alarms = s.ev.alarms := by
  unfold State.ringNotice
  split
  · rw [State.vendorNotice_ev]
  · rfl

theorem isRaised_alarms {a b : EvSt} (h : a.alarms = b.alarms) (c x : Nat) : a.isRaised c x = b.isRaised c x := by
  unfold EvSt.isRaised
  rw [h]

theorem State.event_isRaised (s : State) (c x c' x' : Nat) : (s.event c x).ev.isRaised c' x' = s.ev.isRaised c' x' :=
  isRaised_alarms ((State.ringNotice_alarms _).trans (EvSt.event_alarms _ _ _ _ _ _ _)) _ _

theorem State.alarmMoved_alarms (s : State) (c x : Nat) (b : Bool) : (s.alarmMoved c x b).ev.alarms = s.ev.alarms := by
  unfold State.alarmMoved
  dsimp only
  split
  · exact (congrArg EvSt.alarms (State.vendorNotice_ev _ _)).trans (State.ringNotice_alarms s)
  · exact (congrArg EvSt.alarms (State.vendorNotice_ev _ _)).trans (State.ringNotice_alarms s)

theorem State.alarm_isRaised (s : State) (c x : Nat) : (s.alarm c x).ev.isRaised c x = true := by
  unfold State.alarm
  dsimp only
  split
  · rw [isRaised_alarms (State.alarmMoved_alarms _ _ _ _)]
    exact EvSt.raise_isRaised _ _ _ _ _
  · exact EvSt.raise_isRaised _ _ _ _ _

theorem State.alarm_keeps (s : State) (c x c' x' : Nat) (h : s.ev.isRaised c' x' = true) : (s.alarm c x).ev.isRaised c' x' = true := by
  unfold State.alarm
  dsimp only
  split
  · rw [isRaised_alarms (State.alarmMoved_alarms _ _ _ _)]
    exact EvSt.raise_keeps _ _ _ _ _ _ _ h
  · exact EvSt.raise_keeps _ _ _ _ _ _ _ h

theorem State.clearAlarm_keeps (s : State) (c x c' x' : Nat) (hn : c' ≠ c ∨ x' ≠ x) (h : s.ev.isRaised c' x' = true) :
    (s.clearAlarm c x).ev.isRaised c' x' = true := by
  unfold State.clearAlarm
  dsimp only
  split
  · rw [isRaised_alarms (State.alarmMoved_alarms _ _ _ _)]
    exact EvSt.clear_keeps _ _ _ _ _ _ _ hn h
  · exact EvSt.clear_keeps _ _ _ _ _ _ _ hn h

theorem State.clearAlarm_isRaised (s : State) (c x : Nat) : (s.clearAlarm c x).ev.isRaised c x = false := by
  unfold State.clearAlarm
  dsimp only
  split
  · rw [isRaised_alarms (State.alarmMoved_alarms _ _ _ _)]
    exact EvSt.clear_isRaised _ _ _ _ _
  · exact EvSt.clear_isRaised _ _ _ _ _

end Sys2Proof.Machine
end

