-- ==== Sys2Proof/Laws/Mem.lean ====
section
/-! SUPPORT. Byte memories and sparse tables: a read after a write, and the canonical form that every operation keeps. -/

namespace Sys2Proof.Machine

/-! ### Reads after writes -/

theorem Mem.read_write_same (d : Byte) (m : Mem) (a : Nat) (b : Byte) (lo : Nat) (h : Mem.wfFrom d lo m = true) :
    Mem.read d (Mem.write d m a b) a = b := by
  induction m generalizing lo with
  | nil => unfold Mem.write; split <;> simp_all [Mem.read]
  | cons c m ih =>
    obtain ⟨a', b'⟩ := c
    simp only [Mem.wfFrom, Bool.and_eq_true, decide_eq_true_eq, bne_iff_ne] at h
    have low : ∀ (k : Nat) (l : Mem) (x : Nat), Mem.wfFrom d k l = true → x < k → Mem.read d l x = d := by
      intro k l
      induction l generalizing k with
      | nil => intros; rfl
      | cons e l ihl =>
        intro x hl hx
        simp only [Mem.wfFrom, Bool.and_eq_true, decide_eq_true_eq, bne_iff_ne] at hl
        rw [Mem.read, if_neg (by omega)]
        exact ihl _ x hl.2 (by omega)
    unfold Mem.write
    split
    · split
      · rename_i h1 h2
        rw [Mem.read, if_neg (by omega), h2]
        exact low _ _ _ h.2 (by omega)
      · simp [Mem.read]
    · split
      · split
        · rename_i h1 h2 h3
          rw [h3]
          exact low _ _ _ h.2 (by omega)
        · simp [Mem.read]
      · rw [Mem.read, if_neg (by omega)]
        exact ih _ h.2

theorem Mem.read_write_other (d : Byte) (m : Mem) (a a' : Nat) (b : Byte) (h : a' ≠ a) :
    Mem.read d (Mem.write d m a b) a' = Mem.read d m a' := by
  induction m with
  | nil => unfold Mem.write; split <;> simp [Mem.read, h.symm]
  | cons c m ih =>
    obtain ⟨k, v⟩ := c
    unfold Mem.write
    split
    · split
      · rfl
      · rw [Mem.read, if_neg h.symm]
    · split
      · rename_i h1 h2
        subst h2
        split
        · conv => rhs; rw [Mem.read, if_neg h.symm]
        · simp only [Mem.read, if_neg h.symm]
      · simp only [Mem.read, ih]

/-! ### The canonical form -/

theorem Mem.wfFrom_mono {d : Byte} {m : Mem} {lo lo' : Nat} (h : Mem.wfFrom d lo m = true) (hl : lo' ≤ lo) :
    Mem.wfFrom d lo' m = true := by
  cases m with
  | nil => rfl
  | cons c m =>
    simp only [Mem.wfFrom, Bool.and_eq_true, decide_eq_true_eq] at h ⊢
    exact ⟨⟨by omega, h.1.2⟩, h.2⟩

theorem Mem.write_wfFrom {d : Byte} {m : Mem} {lo a : Nat} {b : Byte} (h : Mem.wfFrom d lo m = true) (ha : lo ≤ a) :
    Mem.wfFrom d lo (Mem.write d m a b) = true := by
  induction m generalizing lo with
  | nil => unfold Mem.write; split <;> simp_all [Mem.wfFrom]
  | cons c m ih =>
    obtain ⟨k, v⟩ := c
    have h' := h
    simp only [Mem.wfFrom, Bool.and_eq_true, decide_eq_true_eq, bne_iff_ne] at h
    unfold Mem.write
    split
    · split
      · exact h'
      · simp only [Mem.wfFrom, Bool.and_eq_true, decide_eq_true_eq, bne_iff_ne]
        exact ⟨⟨ha, by assumption⟩, ⟨by omega, h.1.2⟩, h.2⟩
    · split
      · split
        · exact Mem.wfFrom_mono h.2 (by omega)
        · rename_i h1 h2 h3
          subst h2
          simp only [Mem.wfFrom, Bool.and_eq_true, decide_eq_true_eq, bne_iff_ne]
          exact ⟨⟨h.1.1, h3⟩, h.2⟩
      · simp only [Mem.wfFrom, Bool.and_eq_true, decide_eq_true_eq, bne_iff_ne]
        exact ⟨h.1, ih h.2 (by omega)⟩

theorem Mem.write_wf {d : Byte} {m : Mem} {a : Nat} {b : Byte} (h : Mem.wf d m = true) : Mem.wf d (Mem.write d m a b) = true :=
  Mem.write_wfFrom h (Nat.zero_le a)

theorem Mem.writeBytes_wf {d : Byte} {m : Mem} {a : Nat} {bs : Bytes} (h : Mem.wf d m = true) :
    Mem.wf d (Mem.writeBytes d m a bs) = true := by
  induction bs generalizing m a with
  | nil => exact h
  | cons b bs ih => exact ih (Mem.write_wf h)

theorem Mem.filter_wfFrom {d : Byte} {m : Mem} {lo : Nat} {p : Nat × Byte → Bool} (h : Mem.wfFrom d lo m = true) :
    Mem.wfFrom d lo (m.filter p) = true := by
  induction m generalizing lo with
  | nil => rfl
  | cons c m ih =>
    simp only [Mem.wfFrom, Bool.and_eq_true, decide_eq_true_eq] at h
    rw [List.filter_cons]
    split
    · simp only [Mem.wfFrom, Bool.and_eq_true, decide_eq_true_eq]
      exact ⟨h.1, ih h.2⟩
    · exact Mem.wfFrom_mono (ih h.2) (by omega)

theorem Mem.filter_wf {d : Byte} {m : Mem} {p : Nat × Byte → Bool} (h : Mem.wf d m = true) : Mem.wf d (m.filter p) = true :=
  Mem.filter_wfFrom h

theorem Mem.clear_wf {d : Byte} {m : Mem} {a n : Nat} (h : Mem.wf d m = true) : Mem.wf d (Mem.clear m a n) = true :=
  Mem.filter_wfFrom h

theorem Mem.writeBytes_read_other (d : Byte) (m : Mem) (a x : Nat) (bs : Bytes) (h : x < a ∨ a + bs.length ≤ x) :
    Mem.read d (Mem.writeBytes d m a bs) x = Mem.read d m x := by
  induction bs generalizing m a with
  | nil => rfl
  | cons b bs ih =>
    simp only [List.length_cons] at h
    rw [Mem.writeBytes, ih _ _ (by omega), Mem.read_write_other _ _ _ _ _ (by omega)]

theorem Mem.readBytes_writeBytes (d : Byte) (m : Mem) (a : Nat) (bs : Bytes) (h : Mem.wf d m = true) :
    Mem.readBytes d (Mem.writeBytes d m a bs) a bs.length = bs := by
  induction bs generalizing m a with
  | nil => rfl
  | cons b bs ih =>
    simp only [List.length_cons, Mem.writeBytes, Mem.readBytes]
    rw [ih _ _ (Mem.write_wf h), Mem.writeBytes_read_other _ _ _ _ _ (by omega), Mem.read_write_same _ _ _ _ 0 h]

theorem Mem.clear_read_in (d : Byte) (m : Mem) (a n x : Nat) (h : a ≤ x ∧ x < a + n) : Mem.read d (Mem.clear m a n) x = d := by
  unfold Mem.clear
  induction m with
  | nil => rfl
  | cons c m ih =>
    rw [List.filter_cons]
    split
    · rename_i hc
      simp only [Bool.or_eq_true, decide_eq_true_eq] at hc
      rw [Mem.read, if_neg (by omega), ih]
    · exact ih

theorem Mem.clear_read_out (d : Byte) (m : Mem) (a n x : Nat) (h : x < a ∨ a + n ≤ x) :
    Mem.read d (Mem.clear m a n) x = Mem.read d m x := by
  unfold Mem.clear
  induction m with
  | nil => rfl
  | cons c m ih =>
    obtain ⟨k, v⟩ := c
    rw [List.filter_cons]
    split
    · rw [Mem.read, Mem.read, ih]
    · rename_i hc
      simp only [Bool.or_eq_true, decide_eq_true_eq, not_or, not_lt, not_le] at hc
      rw [ih]
      conv => rhs; rw [Mem.read, if_neg (by omega)]

/-! ### Sparse tables -/

theorem SMap.get_set_same {α : Type} (m : SMap α) (k : Nat) (v : α) : SMap.get (SMap.set m k v) k = some v := by
  induction m with
  | nil => simp [SMap.set, SMap.get]
  | cons e m ih =>
    unfold SMap.set
    split
    · simp [SMap.get]
    · split
      · simp [SMap.get]
      · rw [SMap.get, if_neg (by omega)]
        exact ih

theorem SMap.get_set_other {α : Type} (m : SMap α) (k k' : Nat) (v : α) (h : k' ≠ k) :
    SMap.get (SMap.set m k v) k' = SMap.get m k' := by
  induction m with
  | nil => simp [SMap.set, SMap.get, h.symm]
  | cons e m ih =>
    unfold SMap.set
    split
    · rw [SMap.get, if_neg h.symm]
    · split
      · rename_i h2
        simp only [SMap.get, if_neg h.symm]
        rw [if_neg (by omega)]
      · simp only [SMap.get, ih]

end Sys2Proof.Machine
end

