-- ==== Sys2Proof/Laws/Stays.lean ====
section
/-! SUPPORT. What an operation leaves alone. `Stays m s t`: from `s` to `t` only the parts of the state that the mask `m` names may
differ, the waiting commands and the sampled straps are unchanged, and the form of the state's tables stands. -/

namespace Sys2Proof.Machine

/-- The parts that either mask names. -/
@[reducible] noncomputable def Mask.or (a b : Mask) : Mask :=
  ⟨Bool.rec (motive := fun _ => Bool) b.pins true a.pins, Bool.rec (motive := fun _ => Bool) b.otp true a.otp,
   Bool.rec (motive := fun _ => Bool) b.nor true a.nor, Bool.rec (motive := fun _ => Bool) b.boot true a.boot,
   Bool.rec (motive := fun _ => Bool) b.ledger true a.ledger, Bool.rec (motive := fun _ => Bool) b.params true a.params,
   Bool.rec (motive := fun _ => Bool) b.time true a.time, Bool.rec (motive := fun _ => Bool) b.ev true a.ev,
   Bool.rec (motive := fun _ => Bool) b.mgmt true a.mgmt, Bool.rec (motive := fun _ => Bool) b.jtag true a.jtag,
   Bool.rec (motive := fun _ => Bool) b.power true a.power, Bool.rec (motive := fun _ => Bool) b.eng true a.eng,
   Bool.rec (motive := fun _ => Bool) b.mem true a.mem, Bool.rec (motive := fun _ => Bool) b.ring true a.ring,
   Bool.rec (motive := fun _ => Bool) b.mc true a.mc, Bool.rec (motive := fun _ => Bool) b.hem true a.hem,
   Bool.rec (motive := fun _ => Bool) b.nvme true a.nvme, Bool.rec (motive := fun _ => Bool) b.seam true a.seam,
   Bool.rec (motive := fun _ => Bool) b.digest true a.digest, Bool.rec (motive := fun _ => Bool) b.cam true a.cam,
   Bool.rec (motive := fun _ => Bool) b.press true a.press, Bool.rec (motive := fun _ => Bool) b.cipher true a.cipher,
   Bool.rec (motive := fun _ => Bool) b.parity true a.parity, Bool.rec (motive := fun _ => Bool) b.port true a.port,
   Bool.rec (motive := fun _ => Bool) b.head true a.head, Bool.rec (motive := fun _ => Bool) b.front true a.front,
   Bool.rec (motive := fun _ => Bool) b.rdma true a.rdma, Bool.rec (motive := fun _ => Bool) b.repl true a.repl,
   Bool.rec (motive := fun _ => Bool) b.flash true a.flash, Bool.rec (motive := fun _ => Bool) b.sh true a.sh,
   Bool.rec (motive := fun _ => Bool) b.keep true a.keep, Bool.rec (motive := fun _ => Bool) b.free true a.free,
   Bool.rec (motive := fun _ => Bool) b.out true a.out⟩

/-- The parts of `t` that the mask names, and the others of `s`. -/
@[reducible] noncomputable def pick (m : Mask) (s t : State) : State :=
  ⟨Bool.rec (motive := fun _ => Pins) s.pins t.pins m.pins, Bool.rec (motive := fun _ => Otp) s.otp t.otp m.otp,
   Bool.rec (motive := fun _ => Mem) s.nor t.nor m.nor, Bool.rec (motive := fun _ => BootSt) s.boot t.boot m.boot,
   Bool.rec (motive := fun _ => LedgerSt) s.ledger t.ledger m.ledger, Bool.rec (motive := fun _ => List PRec) s.params t.params m.params,
   Bool.rec (motive := fun _ => TimeSt) s.time t.time m.time, Bool.rec (motive := fun _ => EvSt) s.ev t.ev m.ev,
   Bool.rec (motive := fun _ => MgmtSt) s.mgmt t.mgmt m.mgmt, Bool.rec (motive := fun _ => JtagSt) s.jtag t.jtag m.jtag,
   Bool.rec (motive := fun _ => PowerSt) s.power t.power m.power, Bool.rec (motive := fun _ => List EngSt) s.eng t.eng m.eng,
   Bool.rec (motive := fun _ => MemSt) s.mem t.mem m.mem, Bool.rec (motive := fun _ => RingSt) s.ring t.ring m.ring,
   Bool.rec (motive := fun _ => McSt) s.mc t.mc m.mc, Bool.rec (motive := fun _ => HemSt) s.hem t.hem m.hem,
   Bool.rec (motive := fun _ => NvmeSub) s.nvme t.nvme m.nvme, Bool.rec (motive := fun _ => SeamSt) s.seam t.seam m.seam,
   Bool.rec (motive := fun _ => DigestSt) s.digest t.digest m.digest, Bool.rec (motive := fun _ => MatchSt) s.cam t.cam m.cam,
   Bool.rec (motive := fun _ => PressSt) s.press t.press m.press, Bool.rec (motive := fun _ => CipherSt) s.cipher t.cipher m.cipher,
   Bool.rec (motive := fun _ => ParitySt) s.parity t.parity m.parity, Bool.rec (motive := fun _ => List SpokePort) s.port t.port m.port,
   Bool.rec (motive := fun _ => HeadSt) s.head t.head m.head, Bool.rec (motive := fun _ => List FrontPort) s.front t.front m.front,
   Bool.rec (motive := fun _ => RdmaSt) s.rdma t.rdma m.rdma, Bool.rec (motive := fun _ => ReplSt) s.repl t.repl m.repl,
   Bool.rec (motive := fun _ => FlashSt) s.flash t.flash m.flash, Bool.rec (motive := fun _ => ShelfSt) s.sh t.sh m.sh,
   Bool.rec (motive := fun _ => ShelfKeep) s.keep t.keep m.keep, Bool.rec (motive := fun _ => Nat) s.free t.free m.free,
   Bool.rec (motive := fun _ => List Out) s.out t.out m.out,
   s.pending⟩

/-- The waiting commands and the sampled straps. -/
def State.fixed (s : State) : List Instr × Nat × Nat := (s.pending, s.pins.roleSel, s.pins.siteId)

structure Stays (m : Mask) (s t : State) : Prop where
  frame : pick m s t = t
  fixed : t.fixed = s.fixed
  sound : s.Sound → t.Sound

theorem pick_self (m : Mask) (s : State) : pick m s s = s := by
  have k : ∀ {α : Type} (x : Bool) (p : α), Bool.rec (motive := fun _ => α) p p x = p := by intro α x p; cases x <;> rfl
  simp only [pick, k]

theorem Stays.rfl {m : Mask} {s : State} : Stays m s s := ⟨pick_self m s, Eq.refl _, id⟩

theorem Stays.same_pins {m : Mask} {s t : State} (h : Stays m s t) (b : m.pins = false) : t.pins = s.pins := by
  rw [← h.frame]; simp only [b]
theorem Stays.same_otp {m : Mask} {s t : State} (h : Stays m s t) (b : m.otp = false) : t.otp = s.otp := by
  rw [← h.frame]; simp only [b]
theorem Stays.same_nor {m : Mask} {s t : State} (h : Stays m s t) (b : m.nor = false) : t.nor = s.nor := by
  rw [← h.frame]; simp only [b]
theorem Stays.same_boot {m : Mask} {s t : State} (h : Stays m s t) (b : m.boot = false) : t.boot = s.boot := by
  rw [← h.frame]; simp only [b]
theorem Stays.same_ledger {m : Mask} {s t : State} (h : Stays m s t) (b : m.ledger = false) : t.ledger = s.ledger := by
  rw [← h.frame]; simp only [b]
theorem Stays.same_params {m : Mask} {s t : State} (h : Stays m s t) (b : m.params = false) : t.params = s.params := by
  rw [← h.frame]; simp only [b]
theorem Stays.same_time {m : Mask} {s t : State} (h : Stays m s t) (b : m.time = false) : t.time = s.time := by
  rw [← h.frame]; simp only [b]
theorem Stays.same_ev {m : Mask} {s t : State} (h : Stays m s t) (b : m.ev = false) : t.ev = s.ev := by
  rw [← h.frame]; simp only [b]
theorem Stays.same_mgmt {m : Mask} {s t : State} (h : Stays m s t) (b : m.mgmt = false) : t.mgmt = s.mgmt := by
  rw [← h.frame]; simp only [b]
theorem Stays.same_jtag {m : Mask} {s t : State} (h : Stays m s t) (b : m.jtag = false) : t.jtag = s.jtag := by
  rw [← h.frame]; simp only [b]
theorem Stays.same_power {m : Mask} {s t : State} (h : Stays m s t) (b : m.power = false) : t.power = s.power := by
  rw [← h.frame]; simp only [b]
theorem Stays.same_eng {m : Mask} {s t : State} (h : Stays m s t) (b : m.eng = false) : t.eng = s.eng := by
  rw [← h.frame]; simp only [b]
theorem Stays.same_mem {m : Mask} {s t : State} (h : Stays m s t) (b : m.mem = false) : t.mem = s.mem := by
  rw [← h.frame]; simp only [b]
theorem Stays.same_ring {m : Mask} {s t : State} (h : Stays m s t) (b : m.ring = false) : t.ring = s.ring := by
  rw [← h.frame]; simp only [b]
theorem Stays.same_mc {m : Mask} {s t : State} (h : Stays m s t) (b : m.mc = false) : t.mc = s.mc := by
  rw [← h.frame]; simp only [b]
theorem Stays.same_hem {m : Mask} {s t : State} (h : Stays m s t) (b : m.hem = false) : t.hem = s.hem := by
  rw [← h.frame]; simp only [b]
theorem Stays.same_nvme {m : Mask} {s t : State} (h : Stays m s t) (b : m.nvme = false) : t.nvme = s.nvme := by
  rw [← h.frame]; simp only [b]
theorem Stays.same_seam {m : Mask} {s t : State} (h : Stays m s t) (b : m.seam = false) : t.seam = s.seam := by
  rw [← h.frame]; simp only [b]
theorem Stays.same_digest {m : Mask} {s t : State} (h : Stays m s t) (b : m.digest = false) : t.digest = s.digest := by
  rw [← h.frame]; simp only [b]
theorem Stays.same_cam {m : Mask} {s t : State} (h : Stays m s t) (b : m.cam = false) : t.cam = s.cam := by
  rw [← h.frame]; simp only [b]
theorem Stays.same_press {m : Mask} {s t : State} (h : Stays m s t) (b : m.press = false) : t.press = s.press := by
  rw [← h.frame]; simp only [b]
theorem Stays.same_cipher {m : Mask} {s t : State} (h : Stays m s t) (b : m.cipher = false) : t.cipher = s.cipher := by
  rw [← h.frame]; simp only [b]
theorem Stays.same_parity {m : Mask} {s t : State} (h : Stays m s t) (b : m.parity = false) : t.parity = s.parity := by
  rw [← h.frame]; simp only [b]
theorem Stays.same_port {m : Mask} {s t : State} (h : Stays m s t) (b : m.port = false) : t.port = s.port := by
  rw [← h.frame]; simp only [b]
theorem Stays.same_head {m : Mask} {s t : State} (h : Stays m s t) (b : m.head = false) : t.head = s.head := by
  rw [← h.frame]; simp only [b]
theorem Stays.same_front {m : Mask} {s t : State} (h : Stays m s t) (b : m.front = false) : t.front = s.front := by
  rw [← h.frame]; simp only [b]
theorem Stays.same_rdma {m : Mask} {s t : State} (h : Stays m s t) (b : m.rdma = false) : t.rdma = s.rdma := by
  rw [← h.frame]; simp only [b]
theorem Stays.same_repl {m : Mask} {s t : State} (h : Stays m s t) (b : m.repl = false) : t.repl = s.repl := by
  rw [← h.frame]; simp only [b]
theorem Stays.same_flash {m : Mask} {s t : State} (h : Stays m s t) (b : m.flash = false) : t.flash = s.flash := by
  rw [← h.frame]; simp only [b]
theorem Stays.same_sh {m : Mask} {s t : State} (h : Stays m s t) (b : m.sh = false) : t.sh = s.sh := by
  rw [← h.frame]; simp only [b]
theorem Stays.same_keep {m : Mask} {s t : State} (h : Stays m s t) (b : m.keep = false) : t.keep = s.keep := by
  rw [← h.frame]; simp only [b]
theorem Stays.same_free {m : Mask} {s t : State} (h : Stays m s t) (b : m.free = false) : t.free = s.free := by
  rw [← h.frame]; simp only [b]
theorem Stays.same_out {m : Mask} {s t : State} (h : Stays m s t) (b : m.out = false) : t.out = s.out := by
  rw [← h.frame]; simp only [b]

theorem Stays.after {m : Mask} {a b c : State} (h2 : Stays m b c) (h1 : Stays m a b) : Stays m a c := by
  refine ⟨?_, h2.fixed.trans h1.fixed, fun h => h2.sound (h1.sound h)⟩
  have k : ∀ {α : Type} (x : Bool) (p q r : α), Bool.rec (motive := fun _ => α) p (Bool.rec (motive := fun _ => α) (Bool.rec (motive := fun _ => α) p q x) r x) x =
      Bool.rec (motive := fun _ => α) (Bool.rec (motive := fun _ => α) p q x) r x := by intro α x p q r; cases x <;> rfl
  have e : pick m a (pick m (pick m a b) c) = pick m (pick m a b) c := by simp only [pick, k]
  rwa [h1.frame, h2.frame] at e

theorem Mask.or_trans {a b c : Mask} (h1 : a.or b = b) (h2 : b.or c = c) : a.or c = c := by
  have k : ∀ x y z : Bool, Bool.rec (motive := fun _ => Bool) z true (Bool.rec (motive := fun _ => Bool) y true x) =
      Bool.rec (motive := fun _ => Bool) (Bool.rec (motive := fun _ => Bool) z true y) true x := by intro x y z; cases x <;> rfl
  have e : (a.or b).or c = a.or (b.or c) := by simp only [Mask.or, k]
  rwa [h1, h2, eq_comm] at e

/-- The mask may grow. -/
theorem Stays.up {m n : Mask} {s t : State} (hm : m.or n = n) (h : Stays m s t) : Stays n s t := by
  refine ⟨?_, h.fixed, h.sound⟩
  have k : ∀ {α : Type} (x y : Bool) (p q : α), Bool.rec (motive := fun _ => α) q (Bool.rec (motive := fun _ => α) q p x) (Bool.rec (motive := fun _ => Bool) y true x) =
      Bool.rec (motive := fun _ => α) q p x := by
    intro α x y p q; cases x <;> cases y <;> rfl
  have e : pick (m.or n) s (pick m s t) = pick m s t := by simp only [pick, Mask.or, k]
  rwa [h.frame, hm] at e

/-- A change of anything but what `fixed` and `sound` speak of. -/
theorem Stays.upd {m : Mask} {s : State} {mp : List Nat} {mu : List Bool} {mf : Bool} {mr : List HbmRegion} {h1 : SMap (Nat × Nat)} {ha : SMap Nat} {hb : SMap (Option SifRec)} {hc : List (Nat × Nat × Bool)} {hd : List HemRec} {h2 : Nat} {h3 : Bool} {h4 : Bool} {h5 : Option DirRec}
    {h6 : Option DirRec} {h7 : LedgerStaging} {h8 : PfRecord} {h9 : SubRing} {h10 : SubRing} {h11 : SMap SifRec} {h12 : SMap BundleHdr}
    {h13 : CkptPair} {h14 : CkptPair} {h15 : CkptPair} {h16 : CkptPair} {h17 : CkptPair} {h18 : CkptPair} {h19 : CreditSt}
    {h20 : CreditSt} {otp : Otp} {boot : BootSt} {ledger : LedgerSt} {params : List PRec} {time : TimeSt} {ev : EvSt}
    {mgmt : MgmtSt} {jtag : JtagSt} {power : PowerSt} {ring : RingSt} {mc : McSt}
    {nvme : NvmeSub} {seam : SeamSt} {digest : DigestSt} {cam : MatchSt} {press : PressSt} {cipher : CipherSt} {parity : ParitySt}
    {head : HeadSt} {rdma : RdmaSt} {repl : ReplSt} {flash : FlashSt} {sh : ShelfSt} {keep : ShelfKeep} {free : Nat} {out : List Out}
    (hm : pick m s ⟨s.pins, otp, s.nor, boot, ledger, params, time, ev, mgmt, jtag, power, s.eng, ⟨s.mem.hbm, s.mem.scratch, mp, mu, mf, mr⟩, ring,
    mc, ⟨s.hem.raw, h1, ha, hb, hc, hd, h2, h3, h4, h5, h6, h7, h8, h9, h10, h11, h12, h13, h14, h15, h16, h17, h18, h19, h20⟩, nvme, seam, digest,
    cam,
      press, cipher, parity, s.port, head, s.front, rdma, repl, flash, sh, keep, free, out, s.pending⟩ = ⟨s.pins, otp, s.nor, boot, ledger, params, time, ev, mgmt, jtag, power, s.eng, ⟨s.mem.hbm, s.mem.scratch, mp, mu, mf, mr⟩, ring,
    mc, ⟨s.hem.raw, h1, ha, hb, hc, hd, h2, h3, h4, h5, h6, h7, h8, h9, h10, h11, h12, h13, h14, h15, h16, h17, h18, h19, h20⟩, nvme, seam, digest,
    cam,
      press, cipher, parity, s.port, head, s.front, rdma, repl, flash, sh, keep, free, out, s.pending⟩) :
    Stays m s ⟨s.pins, otp, s.nor, boot, ledger, params, time, ev, mgmt, jtag, power, s.eng, ⟨s.mem.hbm, s.mem.scratch, mp, mu, mf, mr⟩, ring,
    mc, ⟨s.hem.raw, h1, ha, hb, hc, hd, h2, h3, h4, h5, h6, h7, h8, h9, h10, h11, h12, h13, h14, h15, h16, h17, h18, h19, h20⟩, nvme, seam, digest,
    cam,
      press, cipher, parity, s.port, head, s.front, rdma, repl, flash, sh, keep, free, out, s.pending⟩ :=
  ⟨hm, Eq.refl _, fun w => ⟨w.eng, w.port, w.front, w.nor, w.hbm, w.scratch, w.raw⟩⟩

/-- A change of the plain pins. -/
theorem Stays.pins {m : Mask} {s : State} {a b c d e f g h z : Bool} {mp : List Nat} {mu : List Bool} {mf : Bool} {mr : List HbmRegion} {h1 : SMap (Nat × Nat)} {ha : SMap Nat} {hb : SMap (Option SifRec)} {hc : List (Nat × Nat × Bool)} {hd : List HemRec} {h2 : Nat} {h3 : Bool} {h4 :
    Bool} {h5 : Option DirRec} {h6 : Option DirRec} {h7 : LedgerStaging} {h8 : PfRecord} {h9 : SubRing} {h10 : SubRing} {h11 : SMap
    SifRec} {h12 : SMap BundleHdr} {h13 : CkptPair} {h14 : CkptPair} {h15 : CkptPair} {h16 : CkptPair} {h17 : CkptPair} {h18 : CkptPair} {h19 : CreditSt}
    {h20 : CreditSt} {otp : Otp} {boot : BootSt} {ledger : LedgerSt}
    {params : List PRec} {time : TimeSt} {ev : EvSt}
    {mgmt : MgmtSt} {jtag : JtagSt} {power : PowerSt} {ring : RingSt} {mc : McSt}
    {nvme : NvmeSub} {seam : SeamSt} {digest : DigestSt} {cam : MatchSt} {press : PressSt} {cipher : CipherSt} {parity : ParitySt}
    {head : HeadSt} {rdma : RdmaSt} {repl : ReplSt} {flash : FlashSt} {sh : ShelfSt} {keep : ShelfKeep} {free : Nat} {out : List Out}
    (hm : pick m s ⟨⟨a, b, c, d, e, f, g, h, s.pins.roleSel, s.pins.siteId, z⟩, otp, s.nor, boot, ledger, params, time, ev, mgmt, jtag, power,
      s.eng, ⟨s.mem.hbm, s.mem.scratch, mp, mu, mf, mr⟩, ring, mc, ⟨s.hem.raw, h1, ha, hb, hc, hd, h2, h3, h4, h5, h6, h7, h8, h9, h10, h11, h12, h13, h14, h15,
    h16, h17, h18, h19, h20⟩, nvme, seam, digest, cam,
      press, cipher, parity, s.port, head, s.front, rdma, repl, flash, sh, keep, free, out, s.pending⟩ = ⟨⟨a, b, c, d, e, f, g, h, s.pins.roleSel, s.pins.siteId, z⟩, otp, s.nor, boot, ledger, params, time, ev, mgmt, jtag, power,
      s.eng, ⟨s.mem.hbm, s.mem.scratch, mp, mu, mf, mr⟩, ring, mc, ⟨s.hem.raw, h1, ha, hb, hc, hd, h2, h3, h4, h5, h6, h7, h8, h9, h10, h11, h12, h13, h14, h15,
    h16, h17, h18, h19, h20⟩, nvme, seam, digest, cam,
      press, cipher, parity, s.port, head, s.front, rdma, repl, flash, sh, keep, free, out, s.pending⟩) :
    Stays m s ⟨⟨a, b, c, d, e, f, g, h, s.pins.roleSel, s.pins.siteId, z⟩, otp, s.nor, boot, ledger, params, time, ev, mgmt, jtag, power,
      s.eng, ⟨s.mem.hbm, s.mem.scratch, mp, mu, mf, mr⟩, ring, mc, ⟨s.hem.raw, h1, ha, hb, hc, hd, h2, h3, h4, h5, h6, h7, h8, h9, h10, h11, h12, h13, h14, h15,
    h16, h17, h18, h19, h20⟩, nvme, seam, digest, cam,
      press, cipher, parity, s.port, head, s.front, rdma, repl, flash, sh, keep, free, out, s.pending⟩ :=
  ⟨hm, Eq.refl _, fun w => ⟨w.eng, w.port, w.front, w.nor, w.hbm, w.scratch, w.raw⟩⟩

/-- A change of anything but the pins, the OTP array and the waiting commands, where the tables keep their form. -/
theorem Stays.all {m : Mask} {s : State} {nor : Mem} {mem : MemSt} {hem : HemSt} {eng : List EngSt} {port : List SpokePort} {front : List FrontPort}
    {otp : Otp} {boot : BootSt} {ledger : LedgerSt} {params : List PRec} {time : TimeSt} {ev : EvSt}
    {mgmt : MgmtSt} {jtag : JtagSt} {power : PowerSt} {ring : RingSt} {mc : McSt}
    {nvme : NvmeSub} {seam : SeamSt} {digest : DigestSt} {cam : MatchSt} {press : PressSt} {cipher : CipherSt} {parity : ParitySt}
    {head : HeadSt} {rdma : RdmaSt} {repl : ReplSt} {flash : FlashSt} {sh : ShelfSt} {keep : ShelfKeep} {free : Nat} {out : List Out}
    (he : eng.length = s.eng.length) (hp : port.length = s.port.length) (hf : front.length = s.front.length)
    (hn : Mem.wf norErased s.nor = true → Mem.wf norErased nor = true)
    (hb : Mem.wf hbmDefault s.mem.hbm = true → Mem.wf hbmDefault mem.hbm = true)
    (hs : Mem.wf 0 s.mem.scratch = true → Mem.wf 0 mem.scratch = true)
    (hr : Mem.wf 0 s.hem.raw = true → Mem.wf 0 hem.raw = true)
    (hm : pick m s ⟨s.pins, otp, nor, boot, ledger, params, time, ev, mgmt, jtag, power, eng, mem, ring, mc, hem, nvme, seam, digest, cam,
      press, cipher, parity, port, head, front, rdma, repl, flash, sh, keep, free, out, s.pending⟩ = ⟨s.pins, otp, nor, boot, ledger, params, time, ev, mgmt, jtag, power, eng, mem, ring, mc, hem, nvme, seam, digest, cam,
      press, cipher, parity, port, head, front, rdma, repl, flash, sh, keep, free, out, s.pending⟩) :
    Stays m s ⟨s.pins, otp, nor, boot, ledger, params, time, ev, mgmt, jtag, power, eng, mem, ring, mc, hem, nvme, seam, digest, cam,
      press, cipher, parity, port, head, front, rdma, repl, flash, sh, keep, free, out, s.pending⟩ :=
  ⟨hm, Eq.refl _, fun w => ⟨he.trans w.eng, hp.trans w.port, hf.trans w.front, hn w.nor, hb w.hbm, hs w.scratch, hr w.raw⟩⟩

theorem norPut_wf {nor : Mem} {a n b : Nat} {bs : Bytes} (h : Mem.wf norErased nor = true) :
    Mem.wf norErased (norWrite (norErase nor a n) b bs) = true := Mem.writeBytes_wf (Mem.clear_wf h)

theorem foldl_stays {α : Type} {g : State → α → State} {l : List α} {m : Mask} {s : State} (h : ∀ a x, Stays m a (g a x)) :
    Stays m s (l.foldl g s) := by
  induction l generalizing s with
  | nil => exact Stays.rfl
  | cons x xs ih => exact ih.after (h s x)

theorem foldl2_stays {α β : Type} {g : β × State → α → β × State} {l : List α} {p : β × State}
    {m : Mask} (h : ∀ a x, Stays m a.2 (g a x).2) : Stays m p.2 (l.foldl g p).2 := by
  induction l generalizing p with
  | nil => exact Stays.rfl
  | cons x xs ih => exact ih.after (h p x)

theorem ite_stays {c : Prop} [Decidable c] {m : Mask} {s a b : State} (ha : Stays m s a) (hb : Stays m s b) : Stays m s (if c then a else b) := by
  split <;> assumption

/-- An outcome that, where it is a next state, keeps all of this. -/
def Keeps (m : Mask) (s : State) (r : Res) : Prop := ∀ t, r = .next t → Stays m s t

theorem Keeps.up {m n : Mask} {s : State} {r : Res} (hm : m.or n = n) (h : Keeps m s r) : Keeps n s r :=
  fun t ht => (h t ht).up hm

theorem keeps_next {m : Mask} {s t : State} (h : Stays m s t) : Keeps m s (.next t) := by
  intro u hu; cases hu; exact h

theorem ite_keeps {c : Prop} [Decidable c] {m : Mask} {a b : Res} {s : State} (ha : Keeps m s a) (hb : Keeps m s b) :
    Keeps m s (if c then a else b) := by
  split <;> assumption

theorem onlyIf_keeps {m : Mask} {c : Bool} {s : State} {f : State → State} (h : Stays m s (f s)) : Keeps m s (onlyIf c s f) := by
  unfold onlyIf
  split
  · exact keeps_next h
  · exact keeps_next Stays.rfl

theorem thenDo_keeps {m : Mask} {s : State} {r : Res} {f : State → State} (hr : Keeps m s r) (h : ∀ t, Stays m t (f t)) :
    Keeps m s (thenDo r f) := by
  unfold thenDo
  intro u hu
  cases r with
  | next t => simp only at hu; cases hu; exact (h t).after (hr t rfl)
  | fault _ => simp at hu
  | refused _ => simp at hu

end Sys2Proof.Machine
end

