-- ==== Sys2Proof/Laws/StaysOps.lean ====
section
/-! SUPPORT. The operations of Machine/Ops.lean keep the fixed part and the form of the tables. -/

namespace Sys2Proof.Machine

theorem State.wake_stays {s : State} :
    Stays { eng := true } s (State.wake s) := by
  unfold State.wake
  repeat' (first
    | with_reducible exact Stays.rfl
    | (intro h; exact h)
    | exact List.length_map _
    | with_reducible exact Eq.refl (α := State) _
    | with_reducible rfl
    | with_reducible refine (Stays.all ?_ ?_ ?_ ?_ ?_ ?_ ?_ ?_).after ?_)

theorem State.retarget_stays {s : State} {k : Nat} :
    Stays { time := true } s (State.retarget s k) := by
  unfold State.retarget
  with_reducible repeat' (first
    | exact Stays.rfl
    | exact Eq.refl (α := Mask) _
    | refine ite_stays ?_ ?_
    | fail_if_no_progress (with_reducible refine (Stays.upd ?_).after ?_; with_reducible exact Eq.refl (α := State) _))

theorem State.fireAll_stays {s : State} :
    Stays { eng := true } s (State.fireAll s) := by
  unfold State.fireAll
  repeat' (first
    | with_reducible exact Stays.rfl
    | (intro h; exact h)
    | exact List.length_map _
    | with_reducible exact Eq.refl (α := State) _
    | with_reducible rfl
    | with_reducible refine (Stays.all ?_ ?_ ?_ ?_ ?_ ?_ ?_ ?_).after ?_)

theorem State.setT_stays {s : State} {t : Nat} :
    Stays { time := true, eng := true } s (State.setT s t) := by
  unfold State.setT
  with_reducible repeat' (first
    | exact Stays.rfl
    | refine (State.fireAll_stays.up ?_).after ?_
    | exact Eq.refl (α := Mask) _
    | refine (State.wake_stays.up ?_).after ?_
    | intro _
    | fail_if_no_progress (with_reducible refine (Stays.upd ?_).after ?_; with_reducible exact Eq.refl (α := State) _))

theorem State.toWindow_stays {s : State} {eighth : Nat} :
    Stays { time := true, eng := true } s (State.toWindow s eighth) := by
  unfold State.toWindow
  with_reducible repeat' (first
    | exact Stays.rfl
    | exact Eq.refl (α := Mask) _
    | refine (State.setT_stays.up ?_).after ?_)

theorem State.inWindowAs_stays {s : State} {first act : Nat} :
    Stays { time := true, eng := true } s (State.inWindowAs s first act) := by
  unfold State.inWindowAs
  with_reducible repeat' (first
    | exact Stays.rfl
    | exact Eq.refl (α := Mask) _
    | refine (State.toWindow_stays.up ?_).after ?_
    | fail_if_no_progress (with_reducible refine (Stays.upd ?_).after ?_; with_reducible exact Eq.refl (α := State) _))

theorem State.inWindow_stays {s : State} {first : Nat} :
    Stays { time := true, eng := true } s (State.inWindow s first) := by
  unfold State.inWindow
  with_reducible repeat' (first
    | exact Stays.rfl
    | refine (State.inWindowAs_stays.up ?_).after ?_
    | exact Eq.refl (α := Mask) _
    | refine (State.toWindow_stays.up ?_).after ?_
    | fail_if_no_progress (with_reducible refine (Stays.upd ?_).after ?_; with_reducible exact Eq.refl (α := State) _))

theorem State.takeFree_stays {s : State} :
    Stays { free := true } s (State.takeFree s).2 := by
  unfold State.takeFree
  with_reducible repeat' (first
    | exact Stays.rfl
    | fail_if_no_progress (with_reducible refine (Stays.upd ?_).after ?_; with_reducible exact Eq.refl (α := State) _))

theorem State.takeStatus_stays {s : State} {sts : List Nat} :
    Stays { free := true } s (State.takeStatus s sts).2 := by
  unfold State.takeStatus
  with_reducible repeat' (first
    | exact Stays.rfl
    | exact Eq.refl (α := Mask) _
    | refine (State.takeFree_stays.up ?_).after ?_)

theorem State.takeFreeBytes_stays {s : State} {n : Nat} :
    Stays { free := true } s (State.takeFreeBytes s n).2 := by
  unfold State.takeFreeBytes
  with_reducible repeat' (first
    | exact Stays.rfl
    | fail_if_no_progress (with_reducible refine (Stays.upd ?_).after ?_; with_reducible exact Eq.refl (α := State) _))

theorem State.emit_stays {s : State} {o : Out} :
    Stays { out := true } s (State.emit s o) := by
  unfold State.emit
  with_reducible repeat' (first
    | exact Stays.rfl
    | fail_if_no_progress (with_reducible refine (Stays.upd ?_).after ?_; with_reducible exact Eq.refl (α := State) _))

theorem State.setCtrl_stays {s : State} {c : Nat} {v : Ctrl} :
    Stays { nvme := true } s (State.setCtrl s c v) := by
  unfold State.setCtrl
  with_reducible repeat' (first
    | exact Stays.rfl
    | fail_if_no_progress (with_reducible refine (Stays.upd ?_).after ?_; with_reducible exact Eq.refl (α := State) _))

theorem State.logError_stays {s : State} {c : NvCpl} :
    Stays { nvme := true } s (State.logError s c) := by
  unfold State.logError
  with_reducible repeat' (first
    | exact Stays.rfl
    | refine ite_stays ?_ ?_
    | fail_if_no_progress (with_reducible refine (Stays.upd ?_).after ?_; with_reducible exact Eq.refl (α := State) _))

theorem State.post_stays {s0 : State} {c : NvCpl} :
    Stays { nvme := true, out := true } s0 (State.post s0 c) := by
  unfold State.post
  with_reducible repeat' (first
    | exact Stays.rfl
    | exact Eq.refl (α := Mask) _
    | refine (State.emit_stays.up ?_).after ?_
    | refine (State.logError_stays.up ?_).after ?_
    | refine (State.setCtrl_stays.up ?_).after ?_
    | refine ite_stays ?_ ?_
    | (conv => arg 3; zeta); split)

theorem State.drainCq_stays {s : State} {cntlid q : Nat} {x0 : Nat} :
    Stays { nvme := true, out := true } s (State.drainCq s cntlid q x0) := by
  induction x0 generalizing s cntlid q with
  | zero =>
    unfold State.drainCq
    with_reducible exact Stays.rfl
  | succ k ih =>
    unfold State.drainCq
    with_reducible repeat' (first
      | exact Stays.rfl
      | refine ih.after ?_
      | exact Eq.refl (α := Mask) _
      | refine (State.emit_stays.up ?_).after ?_
      | refine (State.setCtrl_stays.up ?_).after ?_
      | refine ite_stays ?_ ?_
      | (conv => arg 3; zeta); split)

theorem State.finish_stays {s : State} {cmd : CmdId} {st : NvmeSt} :
    Stays { nvme := true, out := true } s (State.finish s cmd st) := by
  unfold State.finish
  with_reducible repeat' (first
    | exact Stays.rfl
    | exact Eq.refl (α := Mask) _
    | refine (State.post_stays.up ?_).after ?_)

theorem State.noticeTo_stays {s : State} {cntlid v : Nat} :
    Stays { nvme := true, out := true } s (State.noticeTo s cntlid v) := by
  unfold State.noticeTo
  with_reducible repeat' (first
    | exact Stays.rfl
    | exact Eq.refl (α := Mask) _
    | refine (State.post_stays.up ?_).after ?_
    | refine (State.setCtrl_stays.up ?_).after ?_
    | refine ite_stays ?_ ?_
    | (conv => arg 3; zeta); split)

theorem State.noticeAll_stays {s : State} {v : Nat} :
    Stays { nvme := true, out := true } s (State.noticeAll s v) := by
  unfold State.noticeAll
  with_reducible repeat' (first
    | exact Stays.rfl
    | exact Eq.refl (α := Mask) _
    | refine (State.noticeTo_stays.up ?_).after ?_
    | refine (foldl_stays ?_).after ?_
    | intro _ _)

theorem State.vendorNotice_stays {s : State} {v : Nat} :
    Stays { nvme := true, out := true } s (State.vendorNotice s v) := by
  unfold State.vendorNotice
  with_reducible repeat' (first
    | exact Stays.rfl
    | exact Eq.refl (α := Mask) _
    | refine (State.noticeAll_stays.up ?_).after ?_
    | refine ite_stays ?_ ?_)

theorem State.ringNotice_stays {s : State} :
    Stays { ev := true, nvme := true, out := true } s (State.ringNotice s) := by
  unfold State.ringNotice
  with_reducible repeat' (first
    | exact Stays.rfl
    | exact Eq.refl (α := Mask) _
    | refine (State.vendorNotice_stays.up ?_).after ?_
    | refine ite_stays ?_ ?_
    | fail_if_no_progress (with_reducible refine (Stays.upd ?_).after ?_; with_reducible exact Eq.refl (α := State) _))

theorem State.eventArg_stays {s : State} {code src : Nat} {arg : Bytes} :
    Stays { ev := true, nvme := true, out := true } s (State.eventArg s code src arg) := by
  unfold State.eventArg
  with_reducible repeat' (first
    | exact Stays.rfl
    | exact Eq.refl (α := Mask) _
    | refine (State.ringNotice_stays.up ?_).after ?_
    | fail_if_no_progress (with_reducible refine (Stays.upd ?_).after ?_; with_reducible exact Eq.refl (α := State) _))

theorem State.event_stays {s : State} {code src : Nat} :
    Stays { ev := true, nvme := true, out := true } s (State.event s code src) := by
  unfold State.event
  with_reducible repeat' (first
    | exact Stays.rfl
    | exact Eq.refl (α := Mask) _
    | refine (State.eventArg_stays.up ?_).after ?_)

theorem State.alarmMoved_stays {s : State} {code src : Nat} {raised : Bool} :
    Stays { ev := true, nvme := true, out := true } s (State.alarmMoved s code src raised) := by
  unfold State.alarmMoved
  with_reducible repeat' (first
    | exact Stays.rfl
    | exact Eq.refl (α := Mask) _
    | refine (State.emit_stays.up ?_).after ?_
    | refine (State.ringNotice_stays.up ?_).after ?_
    | refine (State.vendorNotice_stays.up ?_).after ?_
    | refine ite_stays ?_ ?_)

theorem State.alarm_stays {s : State} {code src : Nat} :
    Stays { ev := true, nvme := true, out := true } s (State.alarm s code src) := by
  unfold State.alarm
  with_reducible repeat' (first
    | exact Stays.rfl
    | exact Eq.refl (α := Mask) _
    | refine (State.alarmMoved_stays.up ?_).after ?_
    | refine ite_stays ?_ ?_
    | fail_if_no_progress (with_reducible refine (Stays.upd ?_).after ?_; with_reducible exact Eq.refl (α := State) _))

theorem State.clearAlarm_stays {s : State} {code src : Nat} :
    Stays { ev := true, nvme := true, out := true } s (State.clearAlarm s code src) := by
  unfold State.clearAlarm
  with_reducible repeat' (first
    | exact Stays.rfl
    | exact Eq.refl (α := Mask) _
    | refine (State.alarmMoved_stays.up ?_).after ?_
    | refine ite_stays ?_ ?_
    | fail_if_no_progress (with_reducible refine (Stays.upd ?_).after ?_; with_reducible exact Eq.refl (α := State) _))

theorem State.toStage_stays {s : State} {g : Stage} :
    Stays { boot := true, out := true } s (State.toStage s g) := by
  unfold State.toStage
  with_reducible repeat' (first
    | exact Stays.rfl
    | exact Eq.refl (α := Mask) _
    | refine (State.emit_stays.up ?_).after ?_
    | refine ite_stays ?_ ?_
    | fail_if_no_progress (with_reducible refine (Stays.upd ?_).after ?_; with_reducible exact Eq.refl (α := State) _))

theorem State.hemPut_stays {s : State} {off : Nat} {bs : Bytes} :
    Stays { hem := true } s (State.hemPut s off bs) := by
  unfold State.hemPut
  repeat' (first
    | with_reducible exact Stays.rfl
    | (intro h; exact h)
    | exact Mem.writeBytes_wf
    | with_reducible exact Eq.refl (α := State) _
    | with_reducible rfl
    | with_reducible refine (Stays.all ?_ ?_ ?_ ?_ ?_ ?_ ?_ ?_).after ?_)

end Sys2Proof.Machine
end

