-- ==== Sys2Proof/Laws/StaysImage.lean ====
section
/-! SUPPORT. The operations of Machine/Image.lean keep the fixed part and the form of the tables. -/

namespace Sys2Proof.Machine

theorem State.bcrWrite_stays {s : State} {r : Bcr} :
    Stays { nor := true, boot := true } s (State.bcrWrite s r) := by
  unfold State.bcrWrite
  repeat' (first
    | with_reducible exact Stays.rfl
    | (intro h; exact h)
    | with_reducible exact norPut_wf
    | with_reducible exact Eq.refl (α := State) _
    | with_reducible rfl
    | with_reducible refine (Stays.all ?_ ?_ ?_ ?_ ?_ ?_ ?_ ?_).after ?_)

end Sys2Proof.Machine
end

