-- ==== Sys2Proof/Laws/StaysMc.lean ====
section
/-! SUPPORT. The operations of Machine/Mc.lean keep the fixed part and the form of the tables. -/

namespace Sys2Proof.Machine

/-- A memory change that keeps the HBM in its canonical form and the scratch memories alone. -/
def MemStays (m m' : MemSt) : Prop := (Mem.wf hbmDefault m.hbm = true → Mem.wf hbmDefault m'.hbm = true) ∧ m'.scratch = m.scratch

theorem MemStays.rfl {m : MemSt} : MemStays m m := ⟨id, Eq.refl _⟩

theorem MemStays.after {a b c : MemSt} (h2 : MemStays b c) (h1 : MemStays a b) : MemStays a c :=
  ⟨fun h => h2.1 (h1.1 h), h2.2.trans h1.2⟩

theorem evictTo_mem {mem : MemSt} {m : McSt} {line : Nat} {l : McLine} : MemStays mem (evictTo mem m line l).1 := by
  unfold evictTo
  dsimp only
  split
  · split
    · dsimp only
      split
      · exact ⟨fun h => Mem.writeBytes_wf h, Eq.refl _⟩
      · exact MemStays.rfl
    · exact MemStays.rfl
  · exact MemStays.rfl

theorem makeRoom_mem {mem : MemSt} {m : McSt} {set : Nat} : MemStays mem (makeRoom mem m set).1 := by
  unfold makeRoom
  split
  · exact MemStays.rfl
  · split
    · exact MemStays.rfl
    · exact evictTo_mem

theorem mcBring_mem {mem : MemSt} {m : McSt} {line : Nat} : MemStays mem (mcBring mem m line).1 := by
  unfold mcBring
  dsimp only
  split
  · exact MemStays.rfl
  · exact makeRoom_mem

theorem mcBringAll_mem {ls : List Nat} {mem : MemSt} {m : McSt} :
    MemStays mem (ls.foldl (fun acc ln => mcBring acc.1 acc.2 ln) (mem, m)).1 := by
  induction ls generalizing mem m with
  | nil => exact MemStays.rfl
  | cons x xs ih => exact (ih (m := (mcBring mem m x).2)).after mcBring_mem

theorem mcWriteGo_mem {bs : Bytes} {mem : MemSt} {m : McSt} {a : Nat} : MemStays mem (mcWriteGo mem m a bs).1 := by
  induction bs generalizing mem m a with
  | nil => exact MemStays.rfl
  | cons b bs ih =>
    unfold mcWriteGo
    exact ih.after mcBring_mem

theorem lockLine_mem {mem : MemSt} {m : McSt} {ln : Nat} {r : MemSt × McSt} (h : lockLine mem m ln = some r) : MemStays mem r.1 := by
  unfold lockLine at h
  dsimp only at h
  repeat' (split at h)
  all_goals first
    | (cases h; done)
    | (cases h; first | exact MemStays.rfl | exact mcBring_mem | exact makeRoom_mem)

theorem lockGo_mem {ls : List Nat} {mem : MemSt} {m : McSt} : MemStays mem (lockGo ls mem m).1 := by
  induction ls generalizing mem m with
  | nil => exact MemStays.rfl
  | cons x xs ih =>
    unfold lockGo
    split
    · exact ih.after (lockLine_mem (by assumption))
    · exact MemStays.rfl

theorem foldl_wf {α : Type} {g : Mem → α → Mem} {l : List α} {m : Mem} (h : Mem.wf hbmDefault m = true)
    (hg : ∀ a x, Mem.wf hbmDefault a = true → Mem.wf hbmDefault (g a x) = true) : Mem.wf hbmDefault (l.foldl g m) = true := by
  induction l generalizing m with
  | nil => exact h
  | cons x xs ih => exact ih (hg m x h)

theorem cleanLines_mem {mem : MemSt} {m : McSt} {p : Nat → Bool} : MemStays mem (cleanLines mem m p).1 := by
  refine ⟨fun h => foldl_wf (foldl_wf h ?_) ?_, Eq.refl _⟩
  all_goals
    intro a x ha
    split
    · exact Mem.writeBytes_wf ha
    · exact ha

theorem mixLine_wf {h : Mem} {line : Nat} {data : Bytes} {pick : Nat} (w : Mem.wf hbmDefault h = true) :
    Mem.wf hbmDefault (mixLine h line data pick) = true := by
  refine foldl_wf w ?_
  intro a x ha
  split
  · exact Mem.writeBytes_wf ha
  · exact ha

theorem mixAll_wf {l : List (Nat × Bytes)} {p : Mem × Nat} (h : Mem.wf hbmDefault p.1 = true) :
    Mem.wf hbmDefault (l.foldl (fun (acc : Mem × Nat) d => (mixLine acc.1 d.1 d.2 (Config.freeNat acc.2), acc.2 + 1)) p).1 = true := by
  induction l generalizing p with
  | nil => exact h
  | cons x xs ih => exact ih (mixLine_wf h)

theorem State.hbmRead_stays {s : State} {a n : Nat} :
    Stays { mem := true, mc := true } s (State.hbmRead s a n).2 := by
  unfold State.hbmRead
  dsimp only
  split
  · exact Stays.all (rfl) (rfl) (rfl) (id) (mcBringAll_mem.1) (fun h => mcBringAll_mem.2.symm ▸ h) (id) (by with_reducible exact Eq.refl _)
  · exact Stays.rfl

theorem State.mend_stays {s : State} {a n : Nat} :
    Stays { ev := true, mem := true, nvme := true, out := true } s (State.mend s a n) := by
  unfold State.mend
  with_reducible repeat' (first
    | exact Stays.rfl
    | exact Eq.refl (α := Mask) _
    | refine (State.clearAlarm_stays.up ?_).after ?_
    | refine (foldl_stays ?_).after ?_
    | refine ite_stays ?_ ?_
    | fail_if_no_progress (with_reducible refine (Stays.upd ?_).after ?_; with_reducible exact Eq.refl (α := State) _)
    | intro _ _)

theorem State.hbmWrite_stays {s : State} {a : Nat} {bs : Bytes} :
    Stays { ev := true, mem := true, mc := true, nvme := true, out := true } s (State.hbmWrite s a bs) := by
  unfold State.hbmWrite
  refine (State.mend_stays.up (Eq.refl _)).after ?_
  split
  · exact Stays.all (rfl) (rfl) (rfl) (id) (mcWriteGo_mem.1) (fun h => mcWriteGo_mem.2.symm ▸ h) (id) (by with_reducible exact Eq.refl _)
  · exact Stays.all (rfl) (rfl) (rfl) (id) (fun h => Mem.writeBytes_wf h) (id) (id) (by with_reducible exact Eq.refl _)

theorem bypassPut_wf {p : Nat → Bool} {a : Nat} {bs : Bytes} {h : Mem} (hw : Mem.wf hbmDefault h = true) :
    Mem.wf hbmDefault (bypassPut p h a bs) = true := by
  induction bs generalizing h a with
  | nil => exact hw
  | cons b bs ih =>
    refine ih ?_
    split
    · exact Mem.write_wf hw
    · exact hw

theorem State.bypassWrite_stays {s : State} {a : Nat} {bs : Bytes} :
    Stays { ev := true, mem := true, nvme := true, out := true } s (State.bypassWrite s a bs) := by
  unfold State.bypassWrite
  refine (State.mend_stays.up (Eq.refl _)).after ?_
  exact Stays.all (rfl) (rfl) (rfl) (id) (fun h => bypassPut_wf h) (id) (id) (by with_reducible exact Eq.refl _)

theorem State.mcRun_stays {s : State} {i op addr len : Nat} :
    Stays { mem := true, mc := true } s (State.mcRun s i op addr len) := by
  unfold State.mcRun
  dsimp only
  repeat' (first
    | with_reducible exact Stays.upd rfl
    | exact Stays.all (rfl) (rfl) (rfl) (id) (cleanLines_mem.1) (id) (id) (by with_reducible exact Eq.refl _)
    | exact Stays.all (rfl) (rfl) (rfl) (id) (lockGo_mem.1) (fun h => lockGo_mem.2.symm ▸ h) (id) (by with_reducible exact Eq.refl _)
    | split)

theorem State.mcCmd_stays {s : State} {i op addr len : Nat} :
    Stays { mem := true, mc := true } s (State.mcCmd s i op addr len) := by
  unfold State.mcCmd
  with_reducible repeat' (first
    | exact Stays.rfl
    | exact Eq.refl (α := Mask) _
    | refine (State.mcRun_stays.up ?_).after ?_
    | refine ite_stays ?_ ?_
    | fail_if_no_progress (with_reducible refine (Stays.upd ?_).after ?_; with_reducible exact Eq.refl (α := State) _))

theorem State.mcDisable_stays {s : State} :
    Stays { mem := true, mc := true, free := true } s (State.mcDisable s) := by
  unfold State.mcDisable
  repeat' (first
    | with_reducible exact Stays.rfl
    | (intro h; exact mixAll_wf h)
    | (intro h; exact h)
    | with_reducible exact Eq.refl (α := State) _
    | with_reducible rfl
    | with_reducible refine ite_stays ?_ ?_
    | with_reducible refine (Stays.all ?_ ?_ ?_ ?_ ?_ ?_ ?_ ?_).after ?_)

theorem execMcInvAll_keeps {slot : Fin 8} {s : State} :
    Keeps { mem := true, mc := true } s (execMcInvAll slot s) := by
  unfold execMcInvAll
  with_reducible repeat' (first
    | exact Stays.rfl
    | exact Eq.refl (α := Mask) _
    | refine onlyIf_keeps ?_
    | refine (State.mcCmd_stays.up ?_).after ?_)

theorem execMcInvRange_keeps {slot : Fin 8} {addr len : Nat} {s : State} :
    Keeps { mem := true, mc := true } s (execMcInvRange slot addr len s) := by
  unfold execMcInvRange
  with_reducible repeat' (first
    | exact Stays.rfl
    | exact Eq.refl (α := Mask) _
    | refine onlyIf_keeps ?_
    | refine (State.mcCmd_stays.up ?_).after ?_)

theorem execMcCleanRange_keeps {slot : Fin 8} {addr len : Nat} {s : State} :
    Keeps { mem := true, mc := true } s (execMcCleanRange slot addr len s) := by
  unfold execMcCleanRange
  with_reducible repeat' (first
    | exact Stays.rfl
    | exact Eq.refl (α := Mask) _
    | refine onlyIf_keeps ?_
    | refine (State.mcCmd_stays.up ?_).after ?_)

theorem execMcCleanInvRange_keeps {slot : Fin 8} {addr len : Nat} {s : State} :
    Keeps { mem := true, mc := true } s (execMcCleanInvRange slot addr len s) := by
  unfold execMcCleanInvRange
  with_reducible repeat' (first
    | exact Stays.rfl
    | exact Eq.refl (α := Mask) _
    | refine onlyIf_keeps ?_
    | refine (State.mcCmd_stays.up ?_).after ?_)

theorem execMcLockFill_keeps {slot : Fin 8} {addr len : Nat} {s : State} :
    Keeps { mem := true, mc := true } s (execMcLockFill slot addr len s) := by
  unfold execMcLockFill
  with_reducible repeat' (first
    | exact Stays.rfl
    | exact Eq.refl (α := Mask) _
    | refine onlyIf_keeps ?_
    | refine (State.mcCmd_stays.up ?_).after ?_)

theorem execMcUnlockRange_keeps {slot : Fin 8} {addr len : Nat} {s : State} :
    Keeps { mem := true, mc := true } s (execMcUnlockRange slot addr len s) := by
  unfold execMcUnlockRange
  with_reducible repeat' (first
    | exact Stays.rfl
    | exact Eq.refl (α := Mask) _
    | refine onlyIf_keeps ?_
    | refine (State.mcCmd_stays.up ?_).after ?_)

theorem execMcCleanAll_keeps {slot : Fin 8} {s : State} :
    Keeps { mem := true, mc := true } s (execMcCleanAll slot s) := by
  unfold execMcCleanAll
  with_reducible repeat' (first
    | exact Stays.rfl
    | exact Eq.refl (α := Mask) _
    | refine onlyIf_keeps ?_
    | refine (State.mcCmd_stays.up ?_).after ?_)

theorem execMcEnable_keeps {s : State} :
    Keeps { mc := true } s (execMcEnable s) := by
  unfold execMcEnable
  with_reducible repeat' (first
    | exact Stays.rfl
    | refine onlyIf_keeps ?_
    | fail_if_no_progress (with_reducible refine (Stays.upd ?_).after ?_; with_reducible exact Eq.refl (α := State) _))

theorem execMcDisable_keeps {s : State} :
    Keeps { mem := true, mc := true, free := true } s (execMcDisable s) := by
  unfold execMcDisable
  with_reducible repeat' (first
    | exact Stays.rfl
    | exact Eq.refl (α := Mask) _
    | refine onlyIf_keeps ?_
    | refine (State.mcDisable_stays.up ?_).after ?_)

theorem execHbmPatrolScrub_keeps {corrected uncorrectable : List Nat} {s : State} :
    Keeps { ev := true, mem := true, nvme := true, out := true } s (execHbmPatrolScrub corrected uncorrectable s) := by
  unfold execHbmPatrolScrub
  with_reducible repeat' (first
    | exact Stays.rfl
    | exact Eq.refl (α := Mask) _
    | refine onlyIf_keeps ?_
    | refine (State.alarm_stays.up ?_).after ?_
    | refine (State.event_stays.up ?_).after ?_
    | refine (foldl_stays ?_).after ?_
    | fail_if_no_progress (with_reducible refine (Stays.upd ?_).after ?_; with_reducible exact Eq.refl (α := State) _)
    | intro _ _)

theorem State.stackFail_stays {s : State} {k : Nat} :
    Stays { boot := true, ev := true, mem := true, nvme := true, out := true } s (State.stackFail s k) := by
  unfold State.stackFail
  with_reducible repeat' (first
    | exact Stays.rfl
    | exact Eq.refl (α := Mask) _
    | refine (State.alarm_stays.up ?_).after ?_
    | refine ite_stays ?_ ?_
    | fail_if_no_progress (with_reducible refine (Stays.upd ?_).after ?_; with_reducible exact Eq.refl (α := State) _))

theorem execHbmStackFatal_keeps {k : Fin 4} {s : State} :
    Keeps { boot := true, ev := true, mem := true, nvme := true, out := true } s (execHbmStackFatal k s) := by
  unfold execHbmStackFatal
  with_reducible repeat' (first
    | exact Stays.rfl
    | exact Eq.refl (α := Mask) _
    | refine onlyIf_keeps ?_
    | refine (State.stackFail_stays.up ?_).after ?_)

end Sys2Proof.Machine
end

