-- ==== Sys2Proof/Laws/StaysBoot.lean ====
section
/-! SUPPORT. The operations of Machine/Boot.lean keep the fixed part and the form of the tables. -/

namespace Sys2Proof.Machine

theorem State.setPd_stays {s : State} {d : Nat} {v : PdSt} :
    Stays { power := true } s (State.setPd s d v) := by
  unfold State.setPd
  with_reducible repeat' (first
    | exact Stays.rfl
    | fail_if_no_progress (with_reducible refine (Stays.upd ?_).after ?_; with_reducible exact Eq.refl (α := State) _))

theorem State.pdUp_stays {s : State} {d : Nat} :
    Stays { power := true } s (State.pdUp s d) := by
  unfold State.pdUp
  with_reducible repeat' (first
    | exact Stays.rfl
    | exact Eq.refl (α := Mask) _
    | refine (State.setPd_stays.up ?_).after ?_
    | refine ite_stays ?_ ?_)

theorem State.pdDown_stays {s : State} {d : Nat} :
    Stays { power := true } s (State.pdDown s d) := by
  unfold State.pdDown
  with_reducible repeat' (first
    | exact Stays.rfl
    | exact Eq.refl (α := Mask) _
    | refine (State.setPd_stays.up ?_).after ?_)

theorem State.markRoleUse_stays {s : State} :
    Stays { power := true } s (State.markRoleUse s) := by
  unfold State.markRoleUse
  with_reducible repeat' (first
    | exact Stays.rfl
    | fail_if_no_progress (with_reducible refine (Stays.upd ?_).after ?_; with_reducible exact Eq.refl (α := State) _))

theorem execBootRomStart_keeps {sfdp8d : Bool} {s : State} :
    Keeps { boot := true, power := true, out := true } s (execBootRomStart sfdp8d s) := by
  unfold execBootRomStart
  with_reducible repeat' (first
    | exact Stays.rfl
    | exact Eq.refl (α := Mask) _
    | refine onlyIf_keeps ?_
    | refine (State.markRoleUse_stays.up ?_).after ?_
    | refine (State.pdUp_stays.up ?_).after ?_
    | refine (State.toStage_stays.up ?_).after ?_
    | refine (foldl_stays ?_).after ?_
    | refine ite_stays ?_ ?_
    | fail_if_no_progress (with_reducible refine (Stays.upd ?_).after ?_; with_reducible exact Eq.refl (α := State) _)
    | intro _ _)

theorem State.enterRecovery_stays {s : State} :
    Stays { boot := true, ev := true, power := true, nvme := true, out := true } s (State.enterRecovery s) := by
  unfold State.enterRecovery
  with_reducible repeat' (first
    | exact Stays.rfl
    | exact Eq.refl (α := Mask) _
    | refine (State.alarm_stays.up ?_).after ?_
    | refine (State.toStage_stays.up ?_).after ?_
    | fail_if_no_progress (with_reducible refine (Stays.upd ?_).after ?_; with_reducible exact Eq.refl (α := State) _))

theorem State.copySts_stays {s : State} {a b : Nat} :
    Stays { boot := true } s (State.copySts s a b) := by
  unfold State.copySts
  with_reducible repeat' (first
    | exact Stays.rfl
    | fail_if_no_progress (with_reducible refine (Stays.upd ?_).after ?_; with_reducible exact Eq.refl (α := State) _))

theorem execBootSelect_keeps {s : State} :
    Keeps { nor := true, boot := true, ev := true, power := true, nvme := true, out := true } s (execBootSelect s) := by
  unfold execBootSelect
  with_reducible repeat' (first
    | exact Stays.rfl
    | exact Eq.refl (α := Mask) _
    | refine onlyIf_keeps ?_
    | refine (State.alarm_stays.up ?_).after ?_
    | refine (State.bcrWrite_stays.up ?_).after ?_
    | refine (State.copySts_stays.up ?_).after ?_
    | refine (State.enterRecovery_stays.up ?_).after ?_
    | refine (State.event_stays.up ?_).after ?_
    | refine (State.toStage_stays.up ?_).after ?_
    | refine ite_stays ?_ ?_
    | fail_if_no_progress (with_reducible refine (Stays.upd ?_).after ?_; with_reducible exact Eq.refl (α := State) _)
    | (conv => arg 3; zeta); split)

theorem execBootLoad_keeps {s : State} :
    Keeps { boot := true, ledger := true, out := true } s (execBootLoad s) := by
  unfold execBootLoad
  with_reducible repeat' (first
    | exact Stays.rfl
    | exact Eq.refl (α := Mask) _
    | refine onlyIf_keeps ?_
    | refine (State.toStage_stays.up ?_).after ?_
    | fail_if_no_progress (with_reducible refine (Stays.upd ?_).after ?_; with_reducible exact Eq.refl (α := State) _))

theorem execBootDomains_keeps {s : State} :
    Keeps { boot := true, power := true, nvme := true, out := true } s (execBootDomains s) := by
  unfold execBootDomains
  with_reducible repeat' (first
    | exact Stays.rfl
    | refine keeps_next ?_
    | refine ite_keeps ?_ ?_
    | refine onlyIf_keeps ?_ ?_
    | refine (foldl2_stays ?_).after ?_
    | intro _
    | fail_if_no_progress (with_reducible refine (Stays.upd ?_).after ?_; with_reducible exact Eq.refl (α := State) _)
    | exact Eq.refl (α := Mask) _
    | refine onlyIf_keeps ?_
    | refine (State.pdUp_stays.up ?_).after ?_
    | refine (State.toStage_stays.up ?_).after ?_
    | refine (foldl_stays ?_).after ?_
    | intro _ _)

theorem execBootMemory_keeps {trained : BitVec 4} {s : State} :
    Keeps { boot := true, ev := true, mem := true, mc := true, nvme := true, out := true } s (execBootMemory trained s) := by
  unfold execBootMemory
  with_reducible repeat' (first
    | exact Stays.rfl
    | exact Eq.refl (α := Mask) _
    | refine onlyIf_keeps ?_
    | refine (State.stackFail_stays.up ?_).after ?_
    | refine (State.toStage_stays.up ?_).after ?_
    | refine (foldl_stays ?_).after ?_
    | refine ite_stays ?_ ?_
    | fail_if_no_progress (with_reducible refine (Stays.upd ?_).after ?_; with_reducible exact Eq.refl (α := State) _)
    | intro _ _)

end Sys2Proof.Machine
end

