-- ==== Sys2Proof/Laws/StaysHemView.lean ====
section
/-! SUPPORT. The operations of Machine/HemView.lean keep the fixed part and the form of the tables. -/

namespace Sys2Proof.Machine

theorem State.setRingHem_stays {s : State} {i : Nat} {r : SubRing} :
    Stays { hem := true } s (State.setRingHem s i r) := by
  unfold State.setRingHem
  with_reducible repeat' (first
    | exact Stays.rfl
    | exact Eq.refl (α := Mask) _
    | refine ite_stays ?_ ?_
    | fail_if_no_progress (with_reducible refine (Stays.upd ?_).after ?_; with_reducible exact Eq.refl (α := State) _))

theorem leaveGo_wf {s : State} {items : List (Nat × Bytes)} {m : Mem} (h : Mem.wf 0 m = true) :
    Mem.wf 0 (items.foldl (fun m x => Mem.writeBytes 0 m x.1 (s.hemBytes x.1 x.2.length)) m) = true := by
  induction items generalizing m with
  | nil => exact h
  | cons x xs ih => exact ih (Mem.writeBytes_wf h)

theorem State.leaveItems_stays {s : State} {items : List (Nat × Bytes)} :
    Stays { hem := true } s (State.leaveItems s items) := by
  unfold State.leaveItems
  exact Stays.all rfl rfl rfl id id id leaveGo_wf rfl

theorem State.leave_stays {s : State} {p : HemRec → Bool} :
    Stays { hem := true } s (State.leave s p) := by
  unfold State.leave
  with_reducible repeat' (first
    | exact Stays.rfl
    | exact Eq.refl (α := Mask) _
    | refine (State.leaveItems_stays.up ?_).after ?_
    | intro _)

theorem State.dropJoinRecs_stays {s : State} :
    Stays { hem := true } s (State.dropJoinRecs s) := by
  unfold State.dropJoinRecs
  with_reducible repeat' (first
    | exact Stays.rfl
    | exact Eq.refl (α := Mask) _
    | refine (State.leave_stays.up ?_).after ?_
    | fail_if_no_progress (with_reducible refine (Stays.upd ?_).after ?_; with_reducible exact Eq.refl (α := State) _))

theorem State.dropHeaders_stays {s : State} {p : BundleHdr → Bool} :
    Stays { hem := true } s (State.dropHeaders s p) := by
  unfold State.dropHeaders
  with_reducible repeat' (first
    | exact Stays.rfl
    | exact Eq.refl (α := Mask) _
    | refine (State.leave_stays.up ?_).after ?_
    | intro _
    | fail_if_no_progress (with_reducible refine (Stays.upd ?_).after ?_; with_reducible exact Eq.refl (α := State) _)
    | (conv => arg 3; zeta); split
    | split)

theorem State.dropBatches_stays {s : State} {i : Nat} {p : Batch → Bool} :
    Stays { hem := true } s (State.dropBatches s i p) := by
  unfold State.dropBatches
  with_reducible repeat' (first
    | exact Stays.rfl
    | exact Eq.refl (α := Mask) _
    | refine (State.setRingHem_stays.up ?_).after ?_
    | refine (State.leave_stays.up ?_).after ?_
    | intro _
    | fail_if_no_progress (with_reducible refine (Stays.upd ?_).after ?_; with_reducible exact Eq.refl (α := State) _)
    | (conv => arg 3; zeta); split
    | split)

theorem State.hemReserve_stays {s : State} :
    Stays { hem := true } s (State.hemReserve s) := by
  unfold State.hemReserve
  repeat' (first
    | with_reducible exact Stays.rfl
    | (intro h; exact h)
    | exact Mem.filter_wf
    | with_reducible exact Eq.refl (α := State) _
    | with_reducible rfl
    | with_reducible refine (Stays.all ?_ ?_ ?_ ?_ ?_ ?_ ?_ ?_).after ?_)

theorem State.hemStore_stays {s : State} {off : Nat} {bs : Bytes} :
    Stays { hem := true } s (State.hemStore s off bs) := by
  unfold State.hemStore
  with_reducible repeat' (first
    | exact Stays.rfl
    | exact Eq.refl (α := Mask) _
    | refine (State.hemPut_stays.up ?_).after ?_
    | refine (State.hemReserve_stays.up ?_).after ?_
    | refine (foldl_stays ?_).after ?_
    | refine (foldl2_stays ?_).after ?_
    | intro _ _
    | intro _
    | refine ite_stays ?_ ?_
    | fail_if_no_progress (with_reducible refine (Stays.upd ?_).after ?_; with_reducible exact Eq.refl (α := State) _))

theorem State.hemCrc_stays {s : State} {us : List Nat} :
    Stays { ev := true, hem := true, nvme := true, out := true } s (State.hemCrc s us) := by
  unfold State.hemCrc
  with_reducible repeat' (first
    | exact Stays.rfl
    | exact Eq.refl (α := Mask) _
    | refine (State.event_stays.up ?_).after ?_
    | refine (State.alarm_stays.up ?_).after ?_
    | refine (foldl_stays ?_).after ?_
    | refine (foldl2_stays ?_).after ?_
    | intro _ _
    | intro _
    | refine ite_stays ?_ ?_
    | fail_if_no_progress (with_reducible refine (Stays.upd ?_).after ?_; with_reducible exact Eq.refl (α := State) _))

end Sys2Proof.Machine
end

