-- ==== Sys2Proof/Laws/StaysMemMap.lean ====
section
/-! SUPPORT. The operations of Machine/MemMap.lean keep the fixed part and the form of the tables. -/

namespace Sys2Proof.Machine

theorem State.dmaRead_stays {s : State} {a n : Nat} :
    Stays { ev := true, mem := true, mc := true, hem := true, nvme := true, out := true } s (State.dmaRead s a n).2.2 := by
  unfold State.dmaRead
  with_reducible repeat' (first
    | exact Stays.rfl
    | refine (State.hemCrc_stays.up ?_).after ?_
    | fail_if_no_progress (with_reducible refine (Stays.upd ?_).after ?_; with_reducible exact Eq.refl (α := State) _)
    | exact Eq.refl (α := Mask) _
    | refine (State.hbmRead_stays.up ?_).after ?_
    | refine ite_stays ?_ ?_
    | fail_if_no_progress (with_reducible refine (Stays.upd ?_).after ?_; with_reducible exact Eq.refl (α := State) _)
    | (conv => arg 3; zeta); split
    | split)

theorem State.dmaWrite_stays {s : State} {a : Nat} {bs : Bytes} :
    Stays { ev := true, mem := true, mc := true, hem := true, nvme := true, out := true } s (State.dmaWrite s a bs) := by
  unfold State.dmaWrite
  split
  · exact State.hbmWrite_stays.up (Eq.refl _)
  · exact State.bypassWrite_stays.up (Eq.refl _)
  · exact State.hemStore_stays.up (Eq.refl _)
  · exact Stays.all (rfl) (rfl) (rfl) (id) (id) (fun h => Mem.writeBytes_wf h) (id) (by with_reducible exact Eq.refl _)
  · exact Stays.rfl
  · exact Stays.rfl
  · exact Stays.rfl

theorem dmaReadGo_stays {s : State} {x0 : List (Nat × Nat)} {x1 : Bytes} :
    Stays { ev := true, mem := true, mc := true, hem := true, nvme := true, out := true } s (dmaReadGo s x0 x1).2.2 := by
  induction x0 generalizing s x1 with
  | nil =>
    unfold dmaReadGo
    with_reducible exact Stays.rfl
  | cons y ys ih =>
    unfold dmaReadGo
    with_reducible repeat' (first
      | exact Stays.rfl
      | refine ih.after ?_
      | exact Eq.refl (α := Mask) _
      | refine (State.dmaRead_stays.up ?_).after ?_
      | (conv => arg 3; zeta); split)

theorem State.dmaGather_stays {s : State} {rs : List (Nat × Nat)} :
    Stays { ev := true, mem := true, mc := true, hem := true, nvme := true, out := true } s (State.dmaGather s rs).2.2 := by
  unfold State.dmaGather
  with_reducible repeat' (first
    | exact Stays.rfl
    | exact Eq.refl (α := Mask) _
    | refine (dmaReadGo_stays.up ?_).after ?_)

theorem dmaWriteGo_stays  {x0 : State} {x1 : List (Nat × Nat)} {x2 : Bytes} :
    Stays { ev := true, mem := true, mc := true, hem := true, nvme := true, out := true } x0 (dmaWriteGo x0 x1 x2) := by
  induction x1 generalizing x0 x2 with
  | nil =>
    unfold dmaWriteGo
    with_reducible exact Stays.rfl
  | cons y ys ih =>
    unfold dmaWriteGo
    with_reducible repeat' (first
      | exact Stays.rfl
      | refine ih.after ?_
      | exact Eq.refl (α := Mask) _
      | refine (State.dmaWrite_stays.up ?_).after ?_)

theorem State.placeHbm_stays {s : State} :
    Stays { mem := true } s (State.placeHbm s) := by
  unfold State.placeHbm
  with_reducible repeat' (first
    | exact Stays.rfl
    | exact Eq.refl (α := Mask) _
    | fail_if_no_progress (with_reducible refine (Stays.upd ?_).after ?_; with_reducible exact Eq.refl (α := State) _))

end Sys2Proof.Machine
end

