-- ==== Sys2Proof/Laws/StaysRings.lean ====
section
/-! SUPPORT. The operations of Machine/Rings.lean keep the fixed part and the form of the tables. -/

namespace Sys2Proof.Machine

theorem State.setRing_stays {s : State} {n : Nat} {r : Ring} :
    Stays { ring := true } s (State.setRing s n r) := by
  unfold State.setRing
  with_reducible repeat' (first
    | exact Stays.rfl
    | fail_if_no_progress (with_reducible refine (Stays.upd ?_).after ?_; with_reducible exact Eq.refl (α := State) _))

theorem State.writeCpl_stays {s : State} {h : HeldCpl} :
    Stays { ev := true, eng := true, mem := true, ring := true, mc := true, hem := true, nvme := true, free := true, out := true } s (State.writeCpl s h) := by
  unfold State.writeCpl
  refine (State.wake_stays.up (Eq.refl _)).after ?_
  have base : Stays { ev := true, eng := true, mem := true, ring := true, mc := true, hem := true, nvme := true, free := true, out := true } s (((if (s.ringOf h.cq).wild then s.takeFreeBytes 16 else (h.cpl.bytes (s.ringOf h.cq).phase, s)).2.dmaWrite
      ((s.ringOf h.cq).base + 16 * ((s.ringOf h.cq).tail % (s.ringOf h.cq).size))
      (if (s.ringOf h.cq).wild then s.takeFreeBytes 16 else (h.cpl.bytes (s.ringOf h.cq).phase, s)).1)) := by
    refine (State.dmaWrite_stays.up (Eq.refl _)).after ?_
    split
    · exact State.takeFreeBytes_stays.up (Eq.refl _)
    · exact Stays.rfl
  split
  · refine Stays.after (Stays.all (List.length_map _) (rfl) (rfl) (id) (id) (id) (id) (by with_reducible exact Eq.refl _)) ?_
    exact (State.setRing_stays.up (Eq.refl _)).after base
  · exact (State.setRing_stays.up (Eq.refl _)).after base

theorem State.pushCpl_stays {s : State} {h : HeldCpl} :
    Stays { ev := true, eng := true, mem := true, ring := true, mc := true, hem := true, nvme := true, free := true, out := true } s (State.pushCpl s h) := by
  unfold State.pushCpl
  with_reducible repeat' (first
    | exact Stays.rfl
    | exact Eq.refl (α := Mask) _
    | refine (State.writeCpl_stays.up ?_).after ?_
    | refine ite_stays ?_ ?_
    | fail_if_no_progress (with_reducible refine (Stays.upd ?_).after ?_; with_reducible exact Eq.refl (α := State) _))

theorem drainHeld_stays  {x0 : List HeldCpl} {x1 : State} :
    Stays { ev := true, eng := true, mem := true, ring := true, mc := true, hem := true, nvme := true, free := true, out := true } x1 (drainHeld x0 x1) := by
  induction x0 generalizing x1 with
  | nil =>
    unfold drainHeld
    with_reducible exact Stays.rfl
  | cons y ys ih =>
    unfold drainHeld
    with_reducible repeat' (first
      | exact Stays.rfl
      | refine ih.after ?_
      | exact Eq.refl (α := Mask) _
      | refine (State.pushCpl_stays.up ?_).after ?_)

theorem State.drainCpls_stays {s : State} :
    Stays { ev := true, eng := true, mem := true, ring := true, mc := true, hem := true, nvme := true, free := true, out := true } s (State.drainCpls s) := by
  unfold State.drainCpls
  with_reducible repeat' (first
    | exact Stays.rfl
    | exact Eq.refl (α := Mask) _
    | refine (drainHeld_stays.up ?_).after ?_
    | fail_if_no_progress (with_reducible refine (Stays.upd ?_).after ?_; with_reducible exact Eq.refl (α := State) _))

theorem State.setJob_stays {s : State} {n : Nat} {st : JobSt} :
    Stays { ring := true } s (State.setJob s n st) := by
  unfold State.setJob
  with_reducible repeat' (first
    | exact Stays.rfl
    | fail_if_no_progress (with_reducible refine (Stays.upd ?_).after ?_; with_reducible exact Eq.refl (α := State) _))

theorem State.endJob_stays {s : State} {n status consumed produced : Nat} :
    Stays { ring := true } s (State.endJob s n status consumed produced) := by
  unfold State.endJob
  with_reducible repeat' (first
    | exact Stays.rfl
    | exact Eq.refl (α := Mask) _
    | refine (State.setJob_stays.up ?_).after ?_)

theorem State.onJob_keeps {m : Mask} {s : State} {n block : Nat} {ops : List Nat} {f : Job → State → State} (hm : Mask.or {} m = m) (hf : ∀ a0 a1, Stays m a1 (f a0 a1)) :
    Keeps m s (State.onJob s n block ops f) := by
  unfold State.onJob
  with_reducible repeat' (first
    | exact hf ..
    | exact keeps_next Stays.rfl
    | refine onlyIf_keeps ?_
    | split)

theorem State.postSource_stays {s : State} {src : Nat} :
    Stays { ev := true, mem := true, mc := true, hem := true, nvme := true, free := true, out := true } s (State.postSource s src).2 := by
  unfold State.postSource
  with_reducible repeat' (first
    | exact Stays.rfl
    | refine ite_stays ?_ ?_
    | exact Eq.refl (α := Mask) _
    | refine (State.dmaRead_stays.up ?_).after ?_
    | refine (State.takeFreeBytes_stays.up ?_).after ?_
    | (conv => arg 3; zeta); split)

theorem State.dpost_stays {s : State} {src ring : Nat} :
    Stays { ev := true, mem := true, ring := true, mc := true, hem := true, nvme := true, free := true, out := true } s (State.dpost s src ring).2 := by
  unfold State.dpost
  with_reducible repeat' (first
    | exact Stays.rfl
    | exact Eq.refl (α := Mask) _
    | refine (State.dmaWrite_stays.up ?_).after ?_
    | refine (State.postSource_stays.up ?_).after ?_
    | refine (State.setRing_stays.up ?_).after ?_
    | (conv => arg 3; zeta); split)

theorem State.setEngine_stays {s : State} {e : Nat} {v : EngSt} :
    Stays { eng := true } s (State.setEngine s e v) := by
  unfold State.setEngine
  repeat' (first
    | with_reducible exact Stays.rfl
    | (intro h; exact h)
    | exact List.length_set
    | with_reducible exact Eq.refl (α := State) _
    | with_reducible rfl
    | with_reducible refine (Stays.all ?_ ?_ ?_ ?_ ?_ ?_ ?_ ?_).after ?_)

theorem execDpost_keeps {e : Fin 48} {rd : Fin 32} {rs1 rs2 : Nat} {s : State} :
    Keeps { ev := true, eng := true, mem := true, ring := true, mc := true, hem := true, nvme := true, free := true, out := true } s (execDpost e rd rs1 rs2 s) := by
  unfold execDpost
  with_reducible repeat' (first
    | exact Stays.rfl
    | exact Eq.refl (α := Mask) _
    | refine onlyIf_keeps ?_
    | refine keeps_next ?_
    | refine ite_keeps ?_ ?_
    | refine onlyIf_keeps ?_ ?_
    | refine (State.hemCrc_stays.up ?_).after ?_
    | refine (State.dpost_stays.up ?_).after ?_
    | refine (State.setEngine_stays.up ?_).after ?_
    | intro _
    | refine ite_stays ?_ ?_
    | fail_if_no_progress (with_reducible refine (Stays.upd ?_).after ?_; with_reducible exact Eq.refl (α := State) _)
    | split)

theorem execRwait_keeps {e : Fin 48} {rd : Fin 32} {rs1 rs2 : Nat} {s : State} :
    Keeps { eng := true } s (execRwait e rd rs1 rs2 s) := by
  unfold execRwait
  with_reducible repeat' (first
    | exact Stays.rfl
    | exact Eq.refl (α := Mask) _
    | refine onlyIf_keeps ?_
    | refine (State.setEngine_stays.up ?_).after ?_
    | refine (State.wake_stays.up ?_).after ?_)

theorem execEwait_keeps {e : Fin 48} {rd : Fin 32} {rs1 : Nat} {s : State} :
    Keeps { eng := true } s (execEwait e rd rs1 s) := by
  unfold execEwait
  with_reducible repeat' (first
    | exact Stays.rfl
    | exact Eq.refl (α := Mask) _
    | refine onlyIf_keeps ?_
    | refine (State.setEngine_stays.up ?_).after ?_
    | refine (State.wake_stays.up ?_).after ?_)

theorem execPhtime_keeps {e : Fin 48} {rd : Fin 32} {cyc : Fin 22} {s : State} :
    Keeps { eng := true } s (execPhtime e rd cyc s) := by
  unfold execPhtime
  with_reducible repeat' (first
    | exact Stays.rfl
    | exact Eq.refl (α := Mask) _
    | refine onlyIf_keeps ?_
    | refine (State.setEngine_stays.up ?_).after ?_)

theorem execPhtarm_keeps {e : Fin 48} {rs1 : Nat} {s : State} :
    Keeps { eng := true } s (execPhtarm e rs1 s) := by
  unfold execPhtarm
  with_reducible repeat' (first
    | exact Stays.rfl
    | exact Eq.refl (α := Mask) _
    | refine onlyIf_keeps ?_
    | refine (State.setEngine_stays.up ?_).after ?_)

theorem execPhaseTimerInterrupt_keeps {e : Fin 48} {s : State} :
    Keeps { time := true, eng := true } s (execPhaseTimerInterrupt e s) := by
  unfold execPhaseTimerInterrupt
  with_reducible repeat' (first
    | exact Stays.rfl
    | exact Eq.refl (α := Mask) _
    | refine onlyIf_keeps ?_
    | refine (State.setEngine_stays.up ?_).after ?_
    | refine (State.setT_stays.up ?_).after ?_)

theorem execYildomIllegalInstruction_keeps {e : Fin 48} {w : BitVec 32} {s : State} :
    Keeps { eng := true } s (execYildomIllegalInstruction e w s) := by
  unfold execYildomIllegalInstruction
  with_reducible repeat' (first
    | exact Stays.rfl
    | exact Eq.refl (α := Mask) _
    | refine onlyIf_keeps ?_
    | refine (State.setEngine_stays.up ?_).after ?_)

theorem execEngineTrap_keeps {e : Fin 48} {cause : Fin 64} {s : State} :
    Keeps { ev := true, eng := true, nvme := true, out := true } s (execEngineTrap e cause s) := by
  unfold execEngineTrap
  with_reducible repeat' (first
    | exact Stays.rfl
    | exact Eq.refl (α := Mask) _
    | refine onlyIf_keeps ?_
    | refine (State.alarm_stays.up ?_).after ?_
    | refine (State.setEngine_stays.up ?_).after ?_)

theorem State.ringWrite_stays {s : State} {n off : Nat} {v : Bytes} :
    Stays { ev := true, eng := true, mem := true, ring := true, mc := true, hem := true, nvme := true, free := true, out := true } s (State.ringWrite s n off v) := by
  unfold State.ringWrite
  with_reducible repeat' (first
    | exact Stays.rfl
    | exact Eq.refl (α := Mask) _
    | refine (State.drainCpls_stays.up ?_).after ?_
    | refine (State.setRing_stays.up ?_).after ?_
    | refine ite_stays ?_ ?_)

theorem execRingEnable_keeps {n : Fin 4096} {ctrl : Fin 128} {s : State} :
    Keeps { ev := true, eng := true, mem := true, ring := true, mc := true, hem := true, nvme := true, free := true, out := true } s (execRingEnable n ctrl s) := by
  unfold execRingEnable
  with_reducible repeat' (first
    | exact Stays.rfl
    | exact Eq.refl (α := Mask) _
    | refine onlyIf_keeps ?_
    | refine (State.ringWrite_stays.up ?_).after ?_)

theorem execRingDisable_keeps {n : Fin 4096} {s : State} :
    Keeps { ev := true, eng := true, mem := true, ring := true, mc := true, hem := true, nvme := true, free := true, out := true } s (execRingDisable n s) := by
  unfold execRingDisable
  with_reducible repeat' (first
    | exact Stays.rfl
    | exact Eq.refl (α := Mask) _
    | refine onlyIf_keeps ?_
    | refine (State.ringWrite_stays.up ?_).after ?_)

theorem execCompletionRingHeadAdvance_keeps {n : Fin 4096} {head : BitVec 16} {s : State} :
    Keeps { ev := true, eng := true, mem := true, ring := true, mc := true, hem := true, nvme := true, free := true, out := true } s (execCompletionRingHeadAdvance n head s) := by
  unfold execCompletionRingHeadAdvance
  with_reducible repeat' (first
    | exact Stays.rfl
    | exact Eq.refl (α := Mask) _
    | refine onlyIf_keeps ?_
    | refine (State.ringWrite_stays.up ?_).after ?_)

theorem cancelGo_stays {n : Nat} {x0 : Nat} {x1 : State} :
    Stays { ev := true, eng := true, mem := true, ring := true, mc := true, hem := true, nvme := true, free := true, out := true } x1 (cancelGo n x0 x1) := by
  induction x0 generalizing n x1 with
  | zero =>
    unfold cancelGo
    with_reducible exact Stays.rfl
  | succ k ih =>
    unfold cancelGo
    with_reducible repeat' (first
      | exact Stays.rfl
      | refine ih.after ?_
      | exact Eq.refl (α := Mask) _
      | refine (State.pushCpl_stays.up ?_).after ?_
      | refine (State.setRing_stays.up ?_).after ?_)

theorem State.ringOff_stays {s : State} {n : Nat} :
    Stays { ev := true, eng := true, mem := true, ring := true, mc := true, hem := true, nvme := true, free := true, out := true } s (State.ringOff s n) := by
  unfold State.ringOff
  with_reducible repeat' (first
    | exact Stays.rfl
    | exact Eq.refl (α := Mask) _
    | refine (State.setRing_stays.up ?_).after ?_
    | refine (cancelGo_stays.up ?_).after ?_
    | refine ite_stays ?_ ?_)

theorem State.ringClears_stays {s : State} :
    Stays { ev := true, eng := true, mem := true, ring := true, mc := true, hem := true, nvme := true, free := true, out := true } s (State.ringClears s) := by
  unfold State.ringClears
  with_reducible repeat' (first
    | exact Stays.rfl
    | exact Eq.refl (α := Mask) _
    | refine (State.ringOff_stays.up ?_).after ?_
    | refine (foldl_stays ?_).after ?_
    | intro _ _)

theorem State.pressSettle_stays {s : State} :
    Stays { press := true } s (State.pressSettle s) := by
  unfold State.pressSettle
  with_reducible repeat' (first
    | exact Stays.rfl
    | exact Eq.refl (α := Mask) _
    | intro _
    | fail_if_no_progress (with_reducible refine (Stays.upd ?_).after ?_; with_reducible exact Eq.refl (α := State) _))

theorem State.pressDrop_stays {s : State} {chs : List Nat} :
    Stays { press := true } s (State.pressDrop s chs) := by
  unfold State.pressDrop
  with_reducible repeat' (first
    | exact Stays.rfl
    | exact Eq.refl (α := Mask) _
    | refine (State.pressSettle_stays.up ?_).after ?_
    | intro _
    | fail_if_no_progress (with_reducible refine (Stays.upd ?_).after ?_; with_reducible exact Eq.refl (α := State) _))

theorem State.dropChannels_stays {s : State} {n : Nat} :
    Stays { press := true } s (State.dropChannels s n) := by
  unfold State.dropChannels
  with_reducible repeat' (first
    | exact Stays.rfl
    | refine (State.pressDrop_stays.up ?_).after ?_
    | exact Eq.refl (α := Mask) _
    | intro _
    | refine ite_stays ?_ ?_
    | fail_if_no_progress (with_reducible refine (Stays.upd ?_).after ?_; with_reducible exact Eq.refl (α := State) _))

theorem State.ringsOfDomain_stays {s : State} {p : Nat → Nat → Bool} {off : Bool} :
    Stays { ev := true, eng := true, mem := true, ring := true, mc := true, hem := true, nvme := true, press := true, free := true, out := true } s (State.ringsOfDomain s p off) := by
  unfold State.ringsOfDomain
  with_reducible repeat' (first
    | exact Stays.rfl
    | refine (State.dropChannels_stays.up ?_).after ?_
    | refine (foldl2_stays ?_).after ?_
    | intro _
    | fail_if_no_progress (with_reducible refine (Stays.upd ?_).after ?_; with_reducible exact Eq.refl (α := State) _)
    | exact Eq.refl (α := Mask) _
    | refine (State.setRing_stays.up ?_).after ?_
    | refine (cancelGo_stays.up ?_).after ?_
    | refine (foldl_stays ?_).after ?_
    | refine ite_stays ?_ ?_
    | intro _ _)

end Sys2Proof.Machine
end

