-- ==== Sys2Proof/Laws/StaysCipher.lean ====
section
/-! SUPPORT. The operations of Machine/Cipher.lean keep the fixed part and the form of the tables. -/

namespace Sys2Proof.Machine

theorem State.setKeySlot_stays {s : State} {n : Nat} {k : KeySlot} :
    Stays { cipher := true } s (State.setKeySlot s n k) := by
  unfold State.setKeySlot
  with_reducible repeat' (first
    | exact Stays.rfl
    | fail_if_no_progress (with_reducible refine (Stays.upd ?_).after ?_; with_reducible exact Eq.refl (α := State) _))

theorem State.keysReset_stays {s : State} :
    Stays { cipher := true } s (State.keysReset s) := by
  unfold State.keysReset
  with_reducible repeat' (first
    | exact Stays.rfl
    | fail_if_no_progress (with_reducible refine (Stays.upd ?_).after ?_; with_reducible exact Eq.refl (α := State) _))

theorem State.cipherFree_stays {s : State} {n : Nat} {d : Bytes} :
    Stays { ev := true, mem := true, ring := true, mc := true, hem := true, nvme := true, free := true, out := true } s (State.cipherFree s n d) := by
  unfold State.cipherFree
  with_reducible repeat' (first
    | exact Stays.rfl
    | refine (State.takeStatus_stays.up ?_).after ?_
    | exact Eq.refl (α := Mask) _
    | refine (State.dmaWrite_stays.up ?_).after ?_
    | refine (State.endJob_stays.up ?_).after ?_
    | refine (State.takeFreeBytes_stays.up ?_).after ?_
    | refine (State.takeFree_stays.up ?_).after ?_
    | refine ite_stays ?_ ?_)

theorem State.pairMismatch_stays {s : State} {n : Nat} {j : Job} :
    Stays { ev := true, ring := true, nvme := true, cipher := true, out := true } s (State.pairMismatch s n j) := by
  unfold State.pairMismatch
  with_reducible repeat' (first
    | exact Stays.rfl
    | exact Eq.refl (α := Mask) _
    | refine (State.alarm_stays.up ?_).after ?_
    | refine (State.endJob_stays.up ?_).after ?_
    | fail_if_no_progress (with_reducible refine (Stays.upd ?_).after ?_; with_reducible exact Eq.refl (α := State) _))

theorem State.cipherSource_stays {s : State} {d data : Bytes} :
    Stays { ev := true, mem := true, mc := true, hem := true, nvme := true, out := true } s (State.cipherSource s d data).2.2.2 := by
  unfold State.cipherSource
  with_reducible repeat' (first
    | exact Stays.rfl
    | exact Eq.refl (α := Mask) _
    | refine (State.dmaRead_stays.up ?_).after ?_
    | refine ite_stays ?_ ?_
    | (conv => arg 3; zeta); split)

theorem State.xtsRun_stays {s : State} {n : Nat} {j : Job} {data : Bytes} {f : Bytes → Bytes → Nat → Bytes → Bytes} :
    Stays { ev := true, mem := true, ring := true, mc := true, hem := true, nvme := true, out := true } s (State.xtsRun s n j data f) := by
  unfold State.xtsRun
  with_reducible repeat' (first
    | exact Stays.rfl
    | exact Eq.refl (α := Mask) _
    | refine (State.cipherSource_stays.up ?_).after ?_
    | refine (State.dmaWrite_stays.up ?_).after ?_
    | refine (State.endJob_stays.up ?_).after ?_
    | refine ite_stays ?_ ?_)

theorem execXtsEnc_keeps {n : Nat} {mismatch : Bool} {data : Bytes} {s : State} :
    Keeps { ev := true, mem := true, ring := true, mc := true, hem := true, nvme := true, cipher := true, free := true, out := true } s (execXtsEnc n mismatch data s) := by
  unfold execXtsEnc
  with_reducible repeat' (first
    | exact Stays.rfl
    | exact Eq.refl (α := Mask) _
    | refine State.onJob_keeps ?_ ?_
    | refine (State.cipherFree_stays.up ?_).after ?_
    | refine (State.pairMismatch_stays.up ?_).after ?_
    | refine (State.xtsRun_stays.up ?_).after ?_
    | split
    | intro _)

theorem execXtsDec_keeps {n : Nat} {mismatch : Bool} {data : Bytes} {s : State} :
    Keeps { ev := true, mem := true, ring := true, mc := true, hem := true, nvme := true, cipher := true, free := true, out := true } s (execXtsDec n mismatch data s) := by
  unfold execXtsDec
  with_reducible repeat' (first
    | exact Stays.rfl
    | exact Eq.refl (α := Mask) _
    | refine State.onJob_keeps ?_ ?_
    | refine (State.cipherFree_stays.up ?_).after ?_
    | refine (State.pairMismatch_stays.up ?_).after ?_
    | refine (State.xtsRun_stays.up ?_).after ?_
    | split
    | intro _)

theorem State.gcmParam_stays {s : State} {n : Nat} {d : Bytes} :
    Stays { ev := true, mem := true, mc := true, hem := true, nvme := true, out := true } s (State.gcmParam s n d).2.2 := by
  unfold State.gcmParam
  with_reducible repeat' (first
    | exact Stays.rfl
    | fail_if_no_progress (with_reducible refine (Stays.upd ?_).after ?_; with_reducible exact Eq.refl (α := State) _)
    | split
    | exact Eq.refl (α := Mask) _
    | refine (State.dmaRead_stays.up ?_).after ?_
    | (conv => arg 3; zeta); split)

theorem State.gcmBegin_stays {s : State} {d p : Bytes} {h : Nat} :
    Stays { ev := true, mem := true, mc := true, hem := true, nvme := true, out := true } s (State.gcmBegin s d p h).2.2 := by
  unfold State.gcmBegin
  with_reducible repeat' (first
    | exact Stays.rfl
    | refine ite_stays ?_ ?_
    | exact Eq.refl (α := Mask) _
    | refine (State.dmaRead_stays.up ?_).after ?_
    | (conv => arg 3; zeta); split)

theorem State.gcmRun_stays {s : State} {n : Nat} {j : Job} {data : Bytes} {enc : Bool} :
    Stays { ev := true, mem := true, ring := true, mc := true, hem := true, nvme := true, free := true, out := true } s (State.gcmRun s n j data enc) := by
  unfold State.gcmRun
  with_reducible repeat' (first
    | exact Stays.rfl
    | exact Eq.refl (α := Mask) _
    | refine (State.cipherSource_stays.up ?_).after ?_
    | refine (State.gcmParam_stays.up ?_).after ?_
    | refine (State.gcmBegin_stays.up ?_).after ?_
    | refine (State.dmaWrite_stays.up ?_).after ?_
    | refine (State.takeFreeBytes_stays.up ?_).after ?_
    | refine (State.endJob_stays.up ?_).after ?_
    | refine ite_stays ?_ ?_
    | (conv => arg 3; zeta); split)

theorem State.cipherDone_stays {s : State} {n : Nat} :
    Stays { cipher := true } s (State.cipherDone s n) := by
  unfold State.cipherDone
  with_reducible repeat' (first
    | exact Stays.rfl
    | fail_if_no_progress (with_reducible refine (Stays.upd ?_).after ?_; with_reducible exact Eq.refl (α := State) _))

theorem execGcmEnc_keeps {n : Nat} {mismatch : Bool} {data : Bytes} {s : State} :
    Keeps { ev := true, mem := true, ring := true, mc := true, hem := true, nvme := true, cipher := true, free := true, out := true } s (execGcmEnc n mismatch data s) := by
  unfold execGcmEnc
  with_reducible repeat' (first
    | exact Stays.rfl
    | exact Eq.refl (α := Mask) _
    | refine State.onJob_keeps ?_ ?_
    | refine (State.cipherDone_stays.up ?_).after ?_
    | refine (State.cipherFree_stays.up ?_).after ?_
    | refine (State.gcmRun_stays.up ?_).after ?_
    | refine (State.pairMismatch_stays.up ?_).after ?_
    | split
    | intro _)

theorem execGcmDec_keeps {n : Nat} {mismatch : Bool} {data : Bytes} {s : State} :
    Keeps { ev := true, mem := true, ring := true, mc := true, hem := true, nvme := true, cipher := true, free := true, out := true } s (execGcmDec n mismatch data s) := by
  unfold execGcmDec
  with_reducible repeat' (first
    | exact Stays.rfl
    | exact Eq.refl (α := Mask) _
    | refine State.onJob_keeps ?_ ?_
    | refine (State.cipherDone_stays.up ?_).after ?_
    | refine (State.cipherFree_stays.up ?_).after ?_
    | refine (State.gcmRun_stays.up ?_).after ?_
    | refine (State.pairMismatch_stays.up ?_).after ?_
    | split
    | intro _)

theorem State.gcmPreempt_stays {s : State} {n unit : Nat} {d : Bytes} :
    Stays { ev := true, mem := true, ring := true, mc := true, hem := true, nvme := true, cipher := true, free := true, out := true } s (State.gcmPreempt s n unit d) := by
  unfold State.gcmPreempt
  with_reducible repeat' (first
    | exact Stays.rfl
    | exact Eq.refl (α := Mask) _
    | refine (State.dmaRead_stays.up ?_).after ?_
    | refine (State.dmaWrite_stays.up ?_).after ?_
    | refine (State.event_stays.up ?_).after ?_
    | refine (State.gcmBegin_stays.up ?_).after ?_
    | refine (State.gcmParam_stays.up ?_).after ?_
    | refine (State.setJob_stays.up ?_).after ?_
    | refine (State.takeFree_stays.up ?_).after ?_
    | fail_if_no_progress (with_reducible refine (Stays.upd ?_).after ?_; with_reducible exact Eq.refl (α := State) _))

theorem execKeyWrap_keeps {n : Nat} {mismatch : Bool} {s : State} :
    Keeps { ev := true, mem := true, ring := true, mc := true, hem := true, nvme := true, cipher := true, out := true } s (execKeyWrap n mismatch s) := by
  unfold execKeyWrap
  with_reducible repeat' (first
    | exact Stays.rfl
    | exact Eq.refl (α := Mask) _
    | refine State.onJob_keeps ?_ ?_
    | refine (State.dmaWrite_stays.up ?_).after ?_
    | refine (State.endJob_stays.up ?_).after ?_
    | refine (State.pairMismatch_stays.up ?_).after ?_
    | split
    | intro _)

theorem execKeyUnwrap_keeps {n : Nat} {mismatch : Bool} {s : State} :
    Keeps { ev := true, mem := true, ring := true, mc := true, hem := true, nvme := true, cipher := true, out := true } s (execKeyUnwrap n mismatch s) := by
  unfold execKeyUnwrap
  with_reducible repeat' (first
    | exact Stays.rfl
    | exact Eq.refl (α := Mask) _
    | refine State.onJob_keeps ?_ ?_
    | refine (State.dmaRead_stays.up ?_).after ?_
    | refine (State.endJob_stays.up ?_).after ?_
    | refine (State.pairMismatch_stays.up ?_).after ?_
    | refine (State.setKeySlot_stays.up ?_).after ?_
    | refine ite_stays ?_ ?_
    | split
    | intro _)

theorem execKeyGen_keeps {n : Nat} {entropyOk : Bool} {s : State} :
    Keeps { ev := true, ring := true, nvme := true, cipher := true, free := true, out := true } s (execKeyGen n entropyOk s) := by
  unfold execKeyGen
  with_reducible repeat' (first
    | exact Stays.rfl
    | exact Eq.refl (α := Mask) _
    | refine State.onJob_keeps ?_ ?_
    | refine (State.alarm_stays.up ?_).after ?_
    | refine (State.clearAlarm_stays.up ?_).after ?_
    | refine (State.endJob_stays.up ?_).after ?_
    | refine (State.setKeySlot_stays.up ?_).after ?_
    | refine (State.takeFreeBytes_stays.up ?_).after ?_
    | refine ite_stays ?_ ?_
    | fail_if_no_progress (with_reducible refine (Stays.upd ?_).after ?_; with_reducible exact Eq.refl (α := State) _)
    | intro _)

theorem State.revoke_stays {s : State} {slot : Nat} :
    Stays { cipher := true } s (State.revoke s slot) := by
  unfold State.revoke
  with_reducible repeat' (first
    | exact Stays.rfl
    | exact Eq.refl (α := Mask) _
    | refine (State.setKeySlot_stays.up ?_).after ?_
    | refine ite_stays ?_ ?_)

theorem execKeyRevoke_keeps {n : Nat} {s : State} :
    Keeps { ring := true, cipher := true } s (execKeyRevoke n s) := by
  unfold execKeyRevoke
  with_reducible repeat' (first
    | exact Stays.rfl
    | exact Eq.refl (α := Mask) _
    | refine State.onJob_keeps ?_ ?_
    | refine (State.endJob_stays.up ?_).after ?_
    | refine (State.revoke_stays.up ?_).after ?_
    | intro _)

theorem State.revokeBoundary_stays {s : State} :
    Stays { cipher := true } s (State.revokeBoundary s) := by
  unfold State.revokeBoundary
  with_reducible repeat' (first
    | exact Stays.rfl
    | exact Eq.refl (α := Mask) _
    | refine (State.setKeySlot_stays.up ?_).after ?_
    | refine (foldl_stays ?_).after ?_
    | fail_if_no_progress (with_reducible refine (Stays.upd ?_).after ?_; with_reducible exact Eq.refl (α := State) _)
    | intro _ _)

theorem execKeySlotZeroed_keeps {slot : Fin 4096} {s : State} :
    Keeps { ev := true, nvme := true, cipher := true, out := true } s (execKeySlotZeroed slot s) := by
  unfold execKeySlotZeroed
  with_reducible repeat' (first
    | exact Stays.rfl
    | exact Eq.refl (α := Mask) _
    | refine onlyIf_keeps ?_
    | refine (State.event_stays.up ?_).after ?_
    | refine (State.setKeySlot_stays.up ?_).after ?_)

end Sys2Proof.Machine
end

