-- ==== Sys2Proof/Laws/StaysMatch.lean ====
section
/-! SUPPORT. The operations of Machine/Match.lean keep the fixed part and the form of the tables. -/

namespace Sys2Proof.Machine

theorem State.setMent_stays {s : State} {i : Nat} {e : MEnt} :
    Stays { cam := true } s (State.setMent s i e) := by
  unfold State.setMent
  with_reducible repeat' (first
    | exact Stays.rfl
    | fail_if_no_progress (with_reducible refine (Stays.upd ?_).after ?_; with_reducible exact Eq.refl (α := State) _))

theorem State.falseHit_stays {s : State} {r : Nat} :
    Stays { ev := true, nvme := true, cam := true, out := true } s (State.falseHit s r) := by
  unfold State.falseHit
  with_reducible repeat' (first
    | exact Stays.rfl
    | exact Eq.refl (α := Mask) _
    | refine (State.event_stays.up ?_).after ?_
    | fail_if_no_progress (with_reducible refine (Stays.upd ?_).after ?_; with_reducible exact Eq.refl (α := State) _))

theorem State.unsetMent_stays {s : State} {r i : Nat} :
    Stays { cam := true } s (State.unsetMent s r i) := by
  unfold State.unsetMent
  with_reducible repeat' (first
    | exact Stays.rfl
    | exact Eq.refl (α := Mask) _
    | refine (State.setMent_stays.up ?_).after ?_
    | intro _
    | refine ite_stays ?_ ?_
    | fail_if_no_progress (with_reducible refine (Stays.upd ?_).after ?_; with_reducible exact Eq.refl (α := State) _))

theorem State.scanOne_stays {s : State} {r : Nat} {key : BitVec 144} {full : BitVec 256} {bad : List Nat} {acc : Scan} {i : Nat} :
    Stays { ev := true, nvme := true, cam := true, out := true } s (State.scanOne s r key full bad acc i).1 := by
  unfold State.scanOne
  with_reducible repeat' (first
    | exact Stays.rfl
    | refine (State.unsetMent_stays.up ?_).after ?_
    | intro _
    | fail_if_no_progress (with_reducible refine (Stays.upd ?_).after ?_; with_reducible exact Eq.refl (α := State) _)
    | split
    | exact Eq.refl (α := Mask) _
    | refine (State.eventArg_stays.up ?_).after ?_
    | refine (State.event_stays.up ?_).after ?_
    | refine (State.falseHit_stays.up ?_).after ?_
    | refine (State.setMent_stays.up ?_).after ?_
    | refine ite_stays ?_ ?_
    | fail_if_no_progress (with_reducible refine (Stays.upd ?_).after ?_; with_reducible exact Eq.refl (α := State) _)
    | (conv => arg 3; zeta); split)

theorem State.scan_stays {s : State} {r : Nat} {key : BitVec 144} {full : BitVec 256} {bad : List Nat} {x0 : List Nat} {x1 : Scan} :
    Stays { ev := true, nvme := true, cam := true, out := true } s (State.scan s r key full bad x0 x1).1 := by
  induction x0 generalizing s r key full bad x1 with
  | nil =>
    unfold State.scan
    with_reducible exact Stays.rfl
  | cons y ys ih =>
    unfold State.scan
    with_reducible repeat' (first
      | exact Stays.rfl
      | refine ih.after ?_
      | exact Eq.refl (α := Mask) _
      | refine (State.scanOne_stays.up ?_).after ?_
      | (conv => arg 3; zeta); split)

theorem State.search_stays {s : State} {r : Nat} {key : BitVec 144} {full : BitVec 256} {bad : List Nat} :
    Stays { ev := true, nvme := true, cam := true, out := true } s (State.search s r key full bad).1 := by
  unfold State.search
  with_reducible repeat' (first
    | exact Stays.rfl
    | exact Eq.refl (α := Mask) _
    | refine (State.scan_stays.up ?_).after ?_)

theorem State.writeMent_stays {s : State} {r i : Nat} {e : MEnt} :
    Stays { cam := true } s (State.writeMent s r i e) := by
  unfold State.writeMent
  with_reducible repeat' (first
    | exact Stays.rfl
    | exact Eq.refl (α := Mask) _
    | refine (State.setMent_stays.up ?_).after ?_
    | refine ite_stays ?_ ?_
    | fail_if_no_progress (with_reducible refine (Stays.upd ?_).after ?_; with_reducible exact Eq.refl (α := State) _))

theorem State.dropMent_stays {s : State} {r i : Nat} :
    Stays { cam := true } s (State.dropMent s r i) := by
  unfold State.dropMent
  with_reducible repeat' (first
    | exact Stays.rfl
    | refine (State.unsetMent_stays.up ?_).after ?_
    | exact Eq.refl (α := Mask) _
    | refine (State.setMent_stays.up ?_).after ?_
    | refine ite_stays ?_ ?_
    | fail_if_no_progress (with_reducible refine (Stays.upd ?_).after ?_; with_reducible exact Eq.refl (α := State) _))

theorem State.rewriteMent_stays {s : State} {i : Nat} :
    Stays { cam := true } s (State.rewriteMent s i) := by
  unfold State.rewriteMent
  with_reducible repeat' (first
    | exact Stays.rfl
    | exact Eq.refl (α := Mask) _
    | refine (State.setMent_stays.up ?_).after ?_
    | fail_if_no_progress (with_reducible refine (Stays.upd ?_).after ?_; with_reducible exact Eq.refl (α := State) _))

theorem State.searchMend_stays {s : State} {r : Nat} {key : BitVec 144} {full : BitVec 256} {bad : List Nat} :
    Stays { ev := true, nvme := true, cam := true, out := true } s (State.searchMend s r key full bad).1 := by
  unfold State.searchMend
  with_reducible repeat' (first
    | exact Stays.rfl
    | exact Eq.refl (α := Mask) _
    | refine (State.search_stays.up ?_).after ?_
    | refine (State.rewriteMent_stays.up ?_).after ?_
    | refine (foldl_stays ?_).after ?_
    | refine (foldl2_stays ?_).after ?_
    | intro _ _)

theorem searchGo_stays {r : Nat} {bad : List Nat} {x0 : List Bytes} {x1 : State} {x2 : Bytes} :
    Stays { ev := true, nvme := true, cam := true, out := true } x1 (searchGo r bad x0 x1 x2).1 := by
  induction x0 generalizing r bad x1 x2 with
  | nil =>
    unfold searchGo
    with_reducible exact Stays.rfl
  | cons y ys ih =>
    unfold searchGo
    with_reducible repeat' (first
      | exact Stays.rfl
      | refine ih.after ?_
      | exact Eq.refl (α := Mask) _
      | refine (State.searchMend_stays.up ?_).after ?_)

theorem State.upset_stays {s : State} {fs : List (Fin 524288 × Fin 144)} :
    Stays { cam := true } s (State.upset s fs) := by
  unfold State.upset
  with_reducible repeat' (first
    | exact Stays.rfl
    | exact Eq.refl (α := Mask) _
    | refine (State.setMent_stays.up ?_).after ?_
    | refine (foldl_stays ?_).after ?_
    | intro _ _
    | (conv => arg 3; zeta); split)

theorem State.matchFree_stays {s : State} {n : Nat} :
    Stays { ring := true, free := true } s (State.matchFree s n) := by
  unfold State.matchFree
  with_reducible repeat' (first
    | exact Stays.rfl
    | exact Eq.refl (α := Mask) _
    | refine (State.takeFree_stays.up ?_).after ?_
    | refine (State.takeStatus_stays.up ?_).after ?_
    | refine (State.endJob_stays.up ?_).after ?_)

theorem execMatchSearch_keeps {n : Nat} {flips : List (Fin 524288 × Fin 144)} {bad : List (Fin 524288)} {s : State} :
    Keeps { ev := true, mem := true, ring := true, mc := true, hem := true, nvme := true, cam := true, free := true, out := true } s (execMatchSearch n flips bad s) := by
  unfold execMatchSearch
  with_reducible repeat' (first
    | exact Stays.rfl
    | refine onlyIf_keeps ?_
    | refine keeps_next ?_
    | refine ite_keeps ?_ ?_
    | refine (State.matchFree_stays.up ?_).after ?_
    | exact Eq.refl (α := Mask) _
    | refine State.onJob_keeps ?_ ?_
    | refine (State.dmaRead_stays.up ?_).after ?_
    | refine (State.dmaWrite_stays.up ?_).after ?_
    | refine (State.endJob_stays.up ?_).after ?_
    | refine (State.takeFreeBytes_stays.up ?_).after ?_
    | refine (State.upset_stays.up ?_).after ?_
    | refine (searchGo_stays.up ?_).after ?_
    | refine ite_stays ?_ ?_
    | split
    | intro _)

theorem execMatchWrite_keeps {n : Nat} {s : State} :
    Keeps { ev := true, mem := true, ring := true, mc := true, hem := true, nvme := true, cam := true, free := true, out := true } s (execMatchWrite n s) := by
  unfold execMatchWrite
  with_reducible repeat' (first
    | exact Stays.rfl
    | refine (State.matchFree_stays.up ?_).after ?_
    | fail_if_no_progress (with_reducible refine (Stays.upd ?_).after ?_; with_reducible exact Eq.refl (α := State) _)
    | refine onlyIf_keeps ?_
    | refine keeps_next ?_
    | refine ite_keeps ?_ ?_
    | refine (foldl2_stays ?_).after ?_
    | intro _
    | fail_if_no_progress (with_reducible refine (Stays.upd ?_).after ?_; with_reducible exact Eq.refl (α := State) _)
    | (conv => arg 3; zeta); split
    | exact Eq.refl (α := Mask) _
    | refine State.onJob_keeps ?_ ?_
    | refine (State.dmaRead_stays.up ?_).after ?_
    | refine (State.endJob_stays.up ?_).after ?_
    | refine (State.takeFree_stays.up ?_).after ?_
    | refine (State.writeMent_stays.up ?_).after ?_
    | refine (foldl_stays ?_).after ?_
    | refine ite_stays ?_ ?_
    | split
    | intro _ _)

theorem execMatchInvalidate_keeps {n : Nat} {s : State} :
    Keeps { ring := true, cam := true } s (execMatchInvalidate n s) := by
  unfold execMatchInvalidate
  with_reducible repeat' (first
    | exact Stays.rfl
    | exact Eq.refl (α := Mask) _
    | refine State.onJob_keeps ?_ ?_
    | refine (State.dropMent_stays.up ?_).after ?_
    | refine (State.endJob_stays.up ?_).after ?_
    | refine (foldl_stays ?_).after ?_
    | intro _ _)

theorem execMatchRead_keeps {n : Nat} {s : State} :
    Keeps { ev := true, mem := true, ring := true, mc := true, hem := true, nvme := true, free := true, out := true } s (execMatchRead n s) := by
  unfold execMatchRead
  with_reducible repeat' (first
    | exact Stays.rfl
    | refine onlyIf_keeps ?_
    | refine keeps_next ?_
    | refine ite_keeps ?_ ?_
    | refine (State.matchFree_stays.up ?_).after ?_
    | refine (State.takeFreeBytes_stays.up ?_).after ?_
    | refine ite_stays ?_ ?_
    | split
    | exact Eq.refl (α := Mask) _
    | refine State.onJob_keeps ?_ ?_
    | refine (State.dmaWrite_stays.up ?_).after ?_
    | refine (State.endJob_stays.up ?_).after ?_
    | intro _)

theorem execMatchRegionsLock_keeps {s : State} :
    Keeps { cam := true } s (execMatchRegionsLock s) := by
  unfold execMatchRegionsLock
  with_reducible repeat' (first
    | exact Stays.rfl
    | refine onlyIf_keeps ?_
    | fail_if_no_progress (with_reducible refine (Stays.upd ?_).after ?_; with_reducible exact Eq.refl (α := State) _))

theorem execMatchHalfFatal_keeps {h : Fin 2} {s : State} :
    Keeps { ev := true, nvme := true, cam := true, out := true } s (execMatchHalfFatal h s) := by
  unfold execMatchHalfFatal
  with_reducible repeat' (first
    | exact Stays.rfl
    | exact Eq.refl (α := Mask) _
    | refine onlyIf_keeps ?_
    | refine (State.alarm_stays.up ?_).after ?_
    | fail_if_no_progress (with_reducible refine (Stays.upd ?_).after ?_; with_reducible exact Eq.refl (α := State) _))

theorem State.halfPowered_stays {s : State} {h : Nat} :
    Stays { cam := true } s (State.halfPowered s h) := by
  unfold State.halfPowered
  with_reducible repeat' (first
    | exact Stays.rfl
    | fail_if_no_progress (with_reducible refine (Stays.upd ?_).after ?_; with_reducible exact Eq.refl (α := State) _))

theorem State.setRegions_stays {s : State} :
    Stays { cam := true } s (State.setRegions s) := by
  unfold State.setRegions
  with_reducible repeat' (first
    | exact Stays.rfl
    | fail_if_no_progress (with_reducible refine (Stays.upd ?_).after ?_; with_reducible exact Eq.refl (α := State) _))

theorem State.hotFind_stays {s : State} {domain : Nat} {fp : Bytes} :
    Stays { ev := true, nvme := true, cam := true, out := true } s (State.hotFind s domain fp).1 := by
  unfold State.hotFind
  with_reducible repeat' (first
    | exact Stays.rfl
    | exact Eq.refl (α := Mask) _
    | refine (State.search_stays.up ?_).after ?_)

theorem State.hotEnter_stays {s : State} {domain : Nat} {fp : Bytes} {chunkId : Nat} :
    Stays { cam := true } s (State.hotEnter s domain fp chunkId).1 := by
  unfold State.hotEnter
  with_reducible repeat' (first
    | exact Stays.rfl
    | exact Eq.refl (α := Mask) _
    | refine (State.writeMent_stays.up ?_).after ?_
    | fail_if_no_progress (with_reducible refine (Stays.upd ?_).after ?_; with_reducible exact Eq.refl (α := State) _))

end Sys2Proof.Machine
end

