-- ==== Sys2Proof/Laws/StaysMeta.lean ====
section
/-! SUPPORT. The operations of Machine/Meta.lean keep the fixed part and the form of the tables. -/

namespace Sys2Proof.Machine

theorem State.setMd_stays {s : State} {m : MetaSt} :
    Stays { head := true } s (State.setMd s m) := by
  unfold State.setMd
  with_reducible repeat' (first
    | exact Stays.rfl
    | fail_if_no_progress (with_reducible refine (Stays.upd ?_).after ?_; with_reducible exact Eq.refl (α := State) _))

end Sys2Proof.Machine
end

