-- ==== Sys2Proof/Laws/StaysParity.lean ====
section
/-! SUPPORT. The operations of Machine/Parity.lean keep the fixed part and the form of the tables. -/

namespace Sys2Proof.Machine

theorem State.withList_stays {m : Mask} {s : State} {n : Nat} {d : Bytes} {f : State → State} (hm : Mask.or { ev := true, mem := true, ring := true, mc := true, hem := true, nvme := true, out := true } m = m) (hf : ∀ a0, Stays m a0 (f a0)) :
    Stays m s (State.withList s n d f) := by
  unfold State.withList
  with_reducible repeat' (first
    | exact Mask.or_trans (Eq.refl _) hm
    | exact hf ..
    | refine (hf ..).after ?_
    | exact keeps_next Stays.rfl
    | exact Stays.rfl
    | refine (State.dmaRead_stays.up ?_).after ?_
    | refine (State.endJob_stays.up ?_).after ?_
    | refine ite_stays ?_ ?_
    | intro _)

theorem paReadGo_stays {d : Bytes} {x0 : List Nat} {x1 : State} {x2 : List Bytes} :
    Stays { ev := true, mem := true, mc := true, hem := true, nvme := true, out := true } x1 (paReadGo d x0 x1 x2).2.2 := by
  induction x0 generalizing d x1 x2 with
  | nil =>
    unfold paReadGo
    with_reducible exact Stays.rfl
  | cons y ys ih =>
    unfold paReadGo
    with_reducible repeat' (first
      | exact Stays.rfl
      | refine ih.after ?_
      | exact Eq.refl (α := Mask) _
      | refine (State.dmaRead_stays.up ?_).after ?_
      | (conv => arg 3; zeta); split)

theorem State.paFree_stays {s : State} {n : Nat} {d : Bytes} :
    Stays { ev := true, mem := true, ring := true, mc := true, hem := true, nvme := true, free := true, out := true } s (State.paFree s n d) := by
  unfold State.paFree
  with_reducible repeat' (first
    | exact Stays.rfl
    | refine (State.takeStatus_stays.up ?_).after ?_
    | refine (foldl2_stays ?_).after ?_
    | intro _
    | exact Eq.refl (α := Mask) _
    | refine (State.dmaWrite_stays.up ?_).after ?_
    | refine (State.endJob_stays.up ?_).after ?_
    | refine (State.takeFreeBytes_stays.up ?_).after ?_
    | refine (State.takeFree_stays.up ?_).after ?_
    | refine (foldl_stays ?_).after ?_
    | refine ite_stays ?_ ?_
    | intro _ _)

theorem State.paProduce_stays {s : State} {n : Nat} {d : Bytes} {out : List (Nat × Bytes)} :
    Stays { ev := true, mem := true, ring := true, mc := true, hem := true, nvme := true, out := true } s (State.paProduce s n d out) := by
  unfold State.paProduce
  with_reducible repeat' (first
    | exact Stays.rfl
    | exact Eq.refl (α := Mask) _
    | refine (State.dmaWrite_stays.up ?_).after ?_
    | refine (State.endJob_stays.up ?_).after ?_
    | refine (foldl_stays ?_).after ?_
    | intro _ _)

theorem execParityEncode_keeps {n : Nat} {s : State} :
    Keeps { ev := true, mem := true, ring := true, mc := true, hem := true, nvme := true, free := true, out := true } s (execParityEncode n s) := by
  unfold execParityEncode
  with_reducible repeat' (first
    | exact Stays.rfl
    | refine onlyIf_keeps ?_
    | refine keeps_next ?_
    | refine ite_keeps ?_ ?_
    | refine (State.withList_stays ?_ ?_).after ?_
    | fail_if_no_progress (with_reducible refine (Stays.upd ?_).after ?_; with_reducible exact Eq.refl (α := State) _)
    | split
    | exact Eq.refl (α := Mask) _
    | refine State.onJob_keeps ?_ ?_
    | refine (State.endJob_stays.up ?_).after ?_
    | refine (State.paFree_stays.up ?_).after ?_
    | refine (State.paProduce_stays.up ?_).after ?_
    | refine (paReadGo_stays.up ?_).after ?_
    | refine ite_stays ?_ ?_
    | intro _)

theorem execParityReconstruct_keeps {n : Nat} {s : State} :
    Keeps { ev := true, mem := true, ring := true, mc := true, hem := true, nvme := true, free := true, out := true } s (execParityReconstruct n s) := by
  unfold execParityReconstruct
  with_reducible repeat' (first
    | exact Stays.rfl
    | refine onlyIf_keeps ?_
    | refine keeps_next ?_
    | refine ite_keeps ?_ ?_
    | refine (State.withList_stays ?_ ?_).after ?_
    | fail_if_no_progress (with_reducible refine (Stays.upd ?_).after ?_; with_reducible exact Eq.refl (α := State) _)
    | split
    | exact Eq.refl (α := Mask) _
    | refine State.onJob_keeps ?_ ?_
    | refine (State.endJob_stays.up ?_).after ?_
    | refine (State.paFree_stays.up ?_).after ?_
    | refine (State.paProduce_stays.up ?_).after ?_
    | refine (paReadGo_stays.up ?_).after ?_
    | refine ite_stays ?_ ?_
    | intro _)

theorem execParityCheck_keeps {n : Nat} {s : State} :
    Keeps { ev := true, mem := true, ring := true, mc := true, hem := true, nvme := true, parity := true, free := true, out := true } s (execParityCheck n s) := by
  unfold execParityCheck
  with_reducible repeat' (first
    | exact Stays.rfl
    | refine onlyIf_keeps ?_
    | refine keeps_next ?_
    | refine ite_keeps ?_ ?_
    | refine (State.withList_stays ?_ ?_).after ?_
    | refine (foldl_stays ?_).after ?_
    | refine (foldl2_stays ?_).after ?_
    | intro _
    | fail_if_no_progress (with_reducible refine (Stays.upd ?_).after ?_; with_reducible exact Eq.refl (α := State) _)
    | split
    | exact Eq.refl (α := Mask) _
    | refine State.onJob_keeps ?_ ?_
    | refine (State.dmaWrite_stays.up ?_).after ?_
    | refine (State.endJob_stays.up ?_).after ?_
    | refine (State.paFree_stays.up ?_).after ?_
    | refine (paReadGo_stays.up ?_).after ?_
    | refine ite_stays ?_ ?_
    | fail_if_no_progress (with_reducible refine (Stays.upd ?_).after ?_; with_reducible exact Eq.refl (α := State) _)
    | intro _ _)

end Sys2Proof.Machine
end

