-- ==== Sys2Proof/Laws/StaysSend.lean ====
section
/-! SUPPORT. The operations of Machine/Send.lean keep the fixed part and the form of the tables. -/

namespace Sys2Proof.Machine

theorem State.setStream_stays {s : State} {i : Nat} {v : StreamSt} :
    Stays { head := true } s (State.setStream s i v) := by
  unfold State.setStream
  with_reducible repeat' (first
    | exact Stays.rfl
    | refine ite_stays ?_ ?_
    | fail_if_no_progress (with_reducible refine (Stays.upd ?_).after ?_; with_reducible exact Eq.refl (α := State) _))

theorem State.rxSeam_stays {s : State} {b : SeamBody} :
    Stays { seam := true } s (State.rxSeam s b) := by
  unfold State.rxSeam
  with_reducible repeat' (first
    | exact Stays.rfl
    | fail_if_no_progress (with_reducible refine (Stays.upd ?_).after ?_; with_reducible exact Eq.refl (α := State) _))

theorem State.putSeam_stays {s : State} {m : SeamMsg} :
    Stays { seam := true, out := true } s (State.putSeam s m) := by
  unfold State.putSeam
  with_reducible repeat' (first
    | exact Stays.rfl
    | exact Eq.refl (α := Mask) _
    | refine (State.emit_stays.up ?_).after ?_
    | intro _
    | fail_if_no_progress (with_reducible refine (Stays.upd ?_).after ?_; with_reducible exact Eq.refl (α := State) _))

theorem State.sendSeam_stays {s : State} {stream epn : Nat} {b : SeamBody} :
    Stays { seam := true, out := true } s (State.sendSeam s stream epn b) := by
  unfold State.sendSeam
  with_reducible repeat' (first
    | exact Stays.rfl
    | refine (State.putSeam_stays.up ?_).after ?_
    | exact Eq.refl (α := Mask) _
    | refine (State.emit_stays.up ?_).after ?_
    | refine ite_stays ?_ ?_
    | fail_if_no_progress (with_reducible refine (Stays.upd ?_).after ?_; with_reducible exact Eq.refl (α := State) _))

theorem seamGo_stays {n : Nat} {s : State} :
    Stays { seam := true, out := true } s (seamGo n s) := by
  induction n generalizing s with
  | zero => exact Stays.rfl
  | succ k ih =>
    unfold seamGo
    with_reducible repeat' (first
      | exact Stays.rfl
      | refine ih.after ?_
      | exact Eq.refl (α := Mask) _
      | refine (State.putSeam_stays.up ?_).after ?_
      | fail_if_no_progress (with_reducible refine (Stays.upd ?_).after ?_; with_reducible exact Eq.refl (α := State) _)
      | (conv => arg 3; zeta); split
      | split)

theorem State.seamDrain_stays {s : State} :
    Stays { seam := true, out := true } s (State.seamDrain s) := by
  unfold State.seamDrain
  with_reducible repeat' (first
    | exact Stays.rfl
    | exact Eq.refl (α := Mask) _
    | refine (seamGo_stays.up ?_).after ?_
    | fail_if_no_progress (with_reducible refine (Stays.upd ?_).after ?_; with_reducible exact Eq.refl (α := State) _))

theorem State.setPort_stays {s : State} {p : Nat} {v : SpokePort} :
    Stays { port := true } s (State.setPort s p v) := by
  unfold State.setPort
  repeat' (first
    | with_reducible exact Stays.rfl
    | (intro h; exact h)
    | exact List.length_set
    | with_reducible exact Eq.refl (α := State) _
    | with_reducible rfl
    | with_reducible refine (Stays.all ?_ ?_ ?_ ?_ ?_ ?_ ?_ ?_).after ?_)

theorem State.putFrame_stays {s : State} {p lsn ack : Nat} {f : Frame} :
    Stays { out := true } s (State.putFrame s p lsn ack f) := by
  unfold State.putFrame
  with_reducible repeat' (first
    | exact Stays.rfl
    | exact Eq.refl (α := Mask) _
    | refine (State.emit_stays.up ?_).after ?_
    | refine ite_stays ?_ ?_)

theorem State.txFrame_stays {s : State} {p : Nat} {f : Frame} :
    Stays { port := true, out := true } s (State.txFrame s p f) := by
  unfold State.txFrame
  with_reducible repeat' (first
    | exact Stays.rfl
    | refine (State.putFrame_stays.up ?_).after ?_
    | refine ite_stays ?_ ?_
    | fail_if_no_progress (with_reducible refine (Stays.upd ?_).after ?_; with_reducible exact Eq.refl (α := State) _)
    | exact Eq.refl (α := Mask) _
    | refine (State.emit_stays.up ?_).after ?_
    | refine (State.setPort_stays.up ?_).after ?_)

theorem State.txBare_stays {s : State} {p : Nat} {o : FrameOp} :
    Stays { out := true } s (State.txBare s p o) := by
  unfold State.txBare
  with_reducible repeat' (first
    | exact Stays.rfl
    | refine (State.putFrame_stays.up ?_).after ?_
    | exact Eq.refl (α := Mask) _
    | refine (State.emit_stays.up ?_).after ?_)

theorem State.track_stays {s : State} {site : Nat} {f : Frame} :
    Stays { head := true } s (State.track s site f) := by
  unfold State.track
  with_reducible repeat' (first
    | exact Stays.rfl
    | refine ite_stays ?_ ?_
    | fail_if_no_progress (with_reducible refine (Stays.upd ?_).after ?_; with_reducible exact Eq.refl (α := State) _))

theorem State.toShelf_stays {s : State} {site : Nat} {f : Frame} :
    Stays { port := true, head := true, out := true } s (State.toShelf s site f) := by
  unfold State.toShelf
  with_reducible repeat' (first
    | exact Stays.rfl
    | exact Eq.refl (α := Mask) _
    | refine (State.track_stays.up ?_).after ?_
    | refine (State.txFrame_stays.up ?_).after ?_
    | refine ite_stays ?_ ?_
    | fail_if_no_progress (with_reducible refine (Stays.upd ?_).after ?_; with_reducible exact Eq.refl (α := State) _))

theorem pumpGo_stays  {x0 : List Sent} {x1 : State} :
    Stays { port := true, head := true, out := true } x1 (pumpGo x0 x1) := by
  induction x0 generalizing x1 with
  | nil =>
    unfold pumpGo
    with_reducible exact Stays.rfl
  | cons y ys ih =>
    unfold pumpGo
    with_reducible repeat' (first
      | exact Stays.rfl
      | refine ih.after ?_
      | exact Eq.refl (α := Mask) _
      | refine (State.toShelf_stays.up ?_).after ?_)

theorem State.pump_stays {s : State} :
    Stays { port := true, head := true, out := true } s (State.pump s) := by
  unfold State.pump
  with_reducible repeat' (first
    | exact Stays.rfl
    | exact Eq.refl (α := Mask) _
    | refine (pumpGo_stays.up ?_).after ?_
    | fail_if_no_progress (with_reducible refine (Stays.upd ?_).after ?_; with_reducible exact Eq.refl (α := State) _))

theorem State.reqId_stays {s : State} :
    Stays { head := true } s (State.reqId s).2 := by
  unfold State.reqId
  with_reducible repeat' (first
    | exact Stays.rfl
    | fail_if_no_progress (with_reducible refine (Stays.upd ?_).after ?_; with_reducible exact Eq.refl (α := State) _))

theorem State.request_stays {s : State} {site : Nat} {op : FrameOp} :
    Stays { port := true, head := true, out := true } s (State.request s site op).2 := by
  unfold State.request
  with_reducible repeat' (first
    | exact Stays.rfl
    | exact Eq.refl (α := Mask) _
    | refine (State.reqId_stays.up ?_).after ?_
    | refine (State.toShelf_stays.up ?_).after ?_)

theorem State.toAll_stays {s : State} {f : Frame} :
    Stays { port := true, head := true, out := true } s (State.toAll s f) := by
  unfold State.toAll
  with_reducible repeat' (first
    | exact Stays.rfl
    | exact Eq.refl (α := Mask) _
    | refine (State.toShelf_stays.up ?_).after ?_
    | refine (foldl_stays ?_).after ?_
    | intro _ _)

theorem State.setShelf_stays {s : State} {site : Nat} {v : ShelfView} :
    Stays { head := true } s (State.setShelf s site v) := by
  unfold State.setShelf
  with_reducible repeat' (first
    | exact Stays.rfl
    | fail_if_no_progress (with_reducible refine (Stays.upd ?_).after ?_; with_reducible exact Eq.refl (α := State) _))

end Sys2Proof.Machine
end

