-- ==== Sys2Proof/Laws/StaysStripe.lean ====
section
/-! SUPPORT. The operations of Machine/Stripe.lean keep the fixed part and the form of the tables. -/

namespace Sys2Proof.Machine

theorem State.putSif_stays {s : State} {i : Nat} {r : SifRec} :
    Stays { hem := true } s (State.putSif s i r) := by
  unfold State.putSif
  with_reducible repeat' (first
    | exact Stays.rfl
    | fail_if_no_progress (with_reducible refine (Stays.upd ?_).after ?_; with_reducible exact Eq.refl (α := State) _))

theorem State.freeSif_stays {s : State} {stripe : Nat} :
    Stays { hem := true } s (State.freeSif s stripe) := by
  unfold State.freeSif
  with_reducible repeat' (first
    | exact Stays.rfl
    | fail_if_no_progress (with_reducible refine (Stays.upd ?_).after ?_; with_reducible exact Eq.refl (α := State) _))

theorem State.takeSif_stays {s : State} {id : Nat} {r : StripeRec} :
    Stays { hem := true } s (State.takeSif s id r) := by
  unfold State.takeSif
  with_reducible repeat' (first
    | exact Stays.rfl
    | exact Eq.refl (α := Mask) _
    | refine (State.putSif_stays.up ?_).after ?_
    | (conv => arg 3; zeta); split)

theorem State.followAlarm_stays {s : State} {code : Nat} {on : Bool} :
    Stays { ev := true, nvme := true, out := true } s (State.followAlarm s code on) := by
  unfold State.followAlarm
  with_reducible repeat' (first
    | exact Stays.rfl
    | exact Eq.refl (α := Mask) _
    | refine (State.alarm_stays.up ?_).after ?_
    | refine (State.clearAlarm_stays.up ?_).after ?_
    | refine ite_stays ?_ ?_)

theorem State.newStripe_some {s : State} {stream flags : Nat} :
    ∀ {r}, State.newStripe s stream flags = some r → Stays { hem := true, head := true } s r.2 := by
  intro r h
  unfold State.newStripe at h
  try (conv at h => lhs; zeta)
  repeat' (first | cases h | split at h)
  all_goals
    with_reducible repeat' (first
      | exact Stays.rfl
      | exact Eq.refl (α := Mask) _
      | refine (State.setMd_stays.up ?_).after ?_
      | refine (State.setStream_stays.up ?_).after ?_
      | refine (State.takeSif_stays.up ?_).after ?_)

theorem State.fullCheck_stays {s : State} :
    Stays { ev := true, nvme := true, out := true } s (State.fullCheck s) := by
  unfold State.fullCheck
  with_reducible repeat' (first
    | exact Stays.rfl
    | refine (State.followAlarm_stays.up ?_).after ?_
    | exact Eq.refl (α := Mask) _
    | refine (State.alarm_stays.up ?_).after ?_
    | refine (State.clearAlarm_stays.up ?_).after ?_
    | refine ite_stays ?_ ?_)

theorem execStripeOpen_keeps {stream : Fin 2} {isMeta : Bool} {s : State} :
    Keeps { ev := true, hem := true, nvme := true, head := true, out := true } s (execStripeOpen stream isMeta s) := by
  unfold execStripeOpen
  with_reducible repeat' (first
    | exact Stays.rfl
    | exact Eq.refl (α := Mask) _
    | refine onlyIf_keeps ?_
    | refine (State.fullCheck_stays.up ?_).after ?_
    | refine (Stays.up ?_ (State.newStripe_some (by assumption))).after ?_
    | (conv => arg 3; zeta); split)

theorem State.notePlace_stays {s : State} {stripe : Nat} {p : Nat × Nat × Nat × Nat × Nat} :
    Stays { head := true } s (State.notePlace s stripe p) := by
  unfold State.notePlace
  with_reducible repeat' (first
    | exact Stays.rfl
    | exact Eq.refl (α := Mask) _
    | refine (State.setMd_stays.up ?_).after ?_
    | (conv => arg 3; zeta); split)

theorem State.sendImage_stays {s : State} {tag : Tag} {gen : Nat} {r : StripeRec} {strip : Nat} {h : AppendHead} {img : Bytes} :
    Stays { port := true, head := true, out := true } s (State.sendImage s tag gen r strip h img) := by
  unfold State.sendImage
  with_reducible repeat' (first
    | exact Stays.rfl
    | exact Eq.refl (α := Mask) _
    | refine (State.toShelf_stays.up ?_).after ?_)

theorem State.sendClose_stays {s : State} {id stream : Nat} {r : StripeRec} {kept : List (List (Nat × Nat × Nat))} {img : Nat → Bytes} :
    Stays { port := true, head := true, out := true } s (State.sendClose s id stream r kept img) := by
  unfold State.sendClose
  with_reducible repeat' (first
    | exact Stays.rfl
    | exact Eq.refl (α := Mask) _
    | refine (State.toShelf_stays.up ?_).after ?_
    | refine (foldl_stays ?_).after ?_
    | refine ite_stays ?_ ?_
    | intro _ _)

theorem State.closeStripe_stays {s : State} {id epoch : Nat} {kept : List (List (Nat × Nat × Nat))} {img : Nat → Bytes} :
    Stays { hem := true, port := true, head := true, out := true } s (State.closeStripe s id epoch kept img) := by
  unfold State.closeStripe
  with_reducible repeat' (first
    | exact Stays.rfl
    | exact Eq.refl (α := Mask) _
    | refine (State.putSif_stays.up ?_).after ?_
    | refine (State.sendClose_stays.up ?_).after ?_
    | refine (State.setMd_stays.up ?_).after ?_
    | (conv => arg 3; zeta); split)

theorem State.memberAcked_stays {s : State} {id member : Nat} :
    Stays { hem := true } s (State.memberAcked s id member) := by
  unfold State.memberAcked
  with_reducible repeat' (first
    | exact Stays.rfl
    | exact Eq.refl (α := Mask) _
    | refine (State.freeSif_stays.up ?_).after ?_
    | refine (State.putSif_stays.up ?_).after ?_
    | refine ite_stays ?_ ?_
    | (conv => arg 3; zeta); split)

end Sys2Proof.Machine
end

