-- ==== Sys2Proof/Laws/StaysTime.lean ====
section
/-! SUPPORT. The operations of Machine/Time.lean keep the fixed part and the form of the tables. -/

namespace Sys2Proof.Machine

theorem State.setQuality_stays {s : State} {q : Quality} :
    Stays { time := true, ev := true, nvme := true, out := true } s (State.setQuality s q) := by
  unfold State.setQuality
  with_reducible repeat' (first
    | exact Stays.rfl
    | exact Eq.refl (α := Mask) _
    | refine (State.alarm_stays.up ?_).after ?_
    | refine (State.clearAlarm_stays.up ?_).after ?_
    | refine ite_stays ?_ ?_
    | fail_if_no_progress (with_reducible refine (Stays.upd ?_).after ?_; with_reducible exact Eq.refl (α := State) _)
    | (conv => arg 3; zeta); split)

theorem State.enterTime_stays {s : State} {st : TimeState} :
    Stays { time := true, ev := true, nvme := true, out := true } s (State.enterTime s st) := by
  unfold State.enterTime
  with_reducible repeat' (first
    | exact Stays.rfl
    | exact Eq.refl (α := Mask) _
    | refine (State.event_stays.up ?_).after ?_
    | refine ite_stays ?_ ?_
    | fail_if_no_progress (with_reducible refine (Stays.upd ?_).after ?_; with_reducible exact Eq.refl (α := State) _))

theorem State.slewFlag_stays {s : State} :
    Stays { time := true } s (State.slewFlag s) := by
  unfold State.slewFlag
  with_reducible repeat' (first
    | exact Stays.rfl
    | refine ite_stays ?_ ?_
    | fail_if_no_progress (with_reducible refine (Stays.upd ?_).after ?_; with_reducible exact Eq.refl (α := State) _))

theorem State.timeMove_stays {s : State} :
    Stays { time := true, ev := true, nvme := true, out := true } s (State.timeMove s) := by
  unfold State.timeMove
  with_reducible repeat' (first
    | exact Stays.rfl
    | exact Eq.refl (α := Mask) _
    | refine (State.enterTime_stays.up ?_).after ?_
    | refine ite_stays ?_ ?_
    | (conv => arg 3; zeta); split)

theorem State.noteFollowed_stays {s : State} :
    Stays { time := true } s (State.noteFollowed s) := by
  unfold State.noteFollowed
  with_reducible repeat' (first
    | exact Stays.rfl
    | exact Eq.refl (α := Mask) _
    | fail_if_no_progress (with_reducible refine (Stays.upd ?_).after ?_; with_reducible exact Eq.refl (α := State) _))

theorem State.timeEval_stays {s : State} :
    Stays { time := true, ev := true, nvme := true, out := true } s (State.timeEval s) := by
  unfold State.timeEval
  with_reducible repeat' (first
    | exact Stays.rfl
    | refine (State.retarget_stays.up ?_).after ?_
    | refine (State.timeMove_stays.up ?_).after ?_
    | exact Eq.refl (α := Mask) _
    | refine (State.setQuality_stays.up ?_).after ?_
    | refine (State.slewFlag_stays.up ?_).after ?_
    | refine (State.noteFollowed_stays.up ?_).after ?_)

theorem State.startT_stays {s : State} {t : Nat} {st : TimeState} :
    Stays { time := true, ev := true, nvme := true, out := true } s (State.startT s t st) := by
  unfold State.startT
  with_reducible repeat' (first
    | exact Stays.rfl
    | exact Eq.refl (α := Mask) _
    | refine (State.enterTime_stays.up ?_).after ?_
    | fail_if_no_progress (with_reducible refine (Stays.upd ?_).after ?_; with_reducible exact Eq.refl (α := State) _))

theorem State.refFault_stays {s : State} :
    Stays { time := true, ev := true, nvme := true, out := true } s (State.refFault s) := by
  unfold State.refFault
  with_reducible repeat' (first
    | exact Stays.rfl
    | refine (State.retarget_stays.up ?_).after ?_
    | exact Eq.refl (α := Mask) _
    | refine (State.alarm_stays.up ?_).after ?_
    | refine (State.timeEval_stays.up ?_).after ?_
    | fail_if_no_progress (with_reducible refine (Stays.upd ?_).after ?_; with_reducible exact Eq.refl (α := State) _))

theorem State.refGood_stays {s : State} {off : Int} :
    Stays { time := true, ev := true, nvme := true, out := true } s (State.refGood s off) := by
  unfold State.refGood
  with_reducible repeat' (first
    | exact Stays.rfl
    | refine (State.retarget_stays.up ?_).after ?_
    | exact Eq.refl (α := Mask) _
    | refine (State.clearAlarm_stays.up ?_).after ?_
    | fail_if_no_progress (with_reducible refine (Stays.upd ?_).after ?_; with_reducible exact Eq.refl (α := State) _))

theorem State.edgeSecond_stays {s : State} {gap : Int} {peerSecond : Nat} :
    Stays { time := true } s (State.edgeSecond s gap peerSecond) := by
  unfold State.edgeSecond
  with_reducible repeat' (first
    | exact Stays.rfl
    | exact Eq.refl (α := Mask) _
    | fail_if_no_progress (with_reducible refine (Stays.upd ?_).after ?_; with_reducible exact Eq.refl (α := State) _)
    | split
    | refine ite_stays ?_ ?_
    | fail_if_no_progress (with_reducible refine (Stays.upd ?_).after ?_; with_reducible exact Eq.refl (α := State) _)
    | (conv => arg 3; zeta); split)

theorem State.edgeValid_stays {s : State} {err gap off : Int} :
    Stays { time := true, ev := true, nvme := true, out := true } s (State.edgeValid s err gap off) := by
  unfold State.edgeValid
  with_reducible repeat' (first
    | exact Stays.rfl
    | exact Eq.refl (α := Mask) _
    | refine (State.refFault_stays.up ?_).after ?_
    | refine (State.refGood_stays.up ?_).after ?_
    | refine ite_stays ?_ ?_
    | fail_if_no_progress (with_reducible refine (Stays.upd ?_).after ?_; with_reducible exact Eq.refl (α := State) _))

theorem execTimePpsEdge_keeps {err gap off : Int} {peerSecond : Nat} {s : State} :
    Keeps { time := true, ev := true, nvme := true, out := true } s (execTimePpsEdge err gap off peerSecond s) := by
  unfold execTimePpsEdge
  with_reducible repeat' (first
    | exact Stays.rfl
    | refine keeps_next ?_
    | refine ite_keeps ?_ ?_
    | refine onlyIf_keeps ?_ ?_
    | refine (State.edgeValid_stays.up ?_).after ?_
    | intro _
    | fail_if_no_progress (with_reducible refine (Stays.upd ?_).after ?_; with_reducible exact Eq.refl (α := State) _)
    | split
    | exact Eq.refl (α := Mask) _
    | refine onlyIf_keeps ?_
    | refine (State.edgeSecond_stays.up ?_).after ?_
    | refine (State.refFault_stays.up ?_).after ?_
    | refine (State.refGood_stays.up ?_).after ?_
    | refine (State.startT_stays.up ?_).after ?_
    | refine (State.timeEval_stays.up ?_).after ?_
    | refine ite_stays ?_ ?_
    | fail_if_no_progress (with_reducible refine (Stays.upd ?_).after ?_; with_reducible exact Eq.refl (α := State) _)
    | (conv => arg 3; zeta); split)

theorem execTimeRefLoss_keeps {s : State} :
    Keeps { time := true, ev := true, nvme := true, out := true } s (execTimeRefLoss s) := by
  unfold execTimeRefLoss
  with_reducible repeat' (first
    | exact Stays.rfl
    | exact Eq.refl (α := Mask) _
    | refine onlyIf_keeps ?_
    | refine (State.refFault_stays.up ?_).after ?_
    | fail_if_no_progress (with_reducible refine (Stays.upd ?_).after ?_; with_reducible exact Eq.refl (α := State) _))

theorem execTimePpsTimeout_keeps {s : State} :
    Keeps { time := true, ev := true, nvme := true, out := true } s (execTimePpsTimeout s) := by
  unfold execTimePpsTimeout
  with_reducible repeat' (first
    | exact Stays.rfl
    | exact Eq.refl (α := Mask) _
    | refine onlyIf_keeps ?_
    | refine (State.refFault_stays.up ?_).after ?_)

theorem execPtpSync_keeps {off : Int} {m : PtpSeen} {s : State} :
    Keeps { time := true, ev := true, nvme := true, out := true } s (execPtpSync off m s) := by
  unfold execPtpSync
  with_reducible repeat' (first
    | exact Stays.rfl
    | refine keeps_next ?_
    | refine ite_keeps ?_ ?_
    | refine onlyIf_keeps ?_ ?_
    | intro _
    | split
    | exact Eq.refl (α := Mask) _
    | refine onlyIf_keeps ?_
    | refine (State.refFault_stays.up ?_).after ?_
    | refine (State.refGood_stays.up ?_).after ?_
    | refine (State.startT_stays.up ?_).after ?_
    | refine (State.timeEval_stays.up ?_).after ?_
    | refine ite_stays ?_ ?_
    | fail_if_no_progress (with_reducible refine (Stays.upd ?_).after ?_; with_reducible exact Eq.refl (α := State) _))

theorem execPtpSyncTimeout_keeps {s : State} :
    Keeps { time := true, ev := true, nvme := true, out := true } s (execPtpSyncTimeout s) := by
  unfold execPtpSyncTimeout
  with_reducible repeat' (first
    | exact Stays.rfl
    | exact Eq.refl (α := Mask) _
    | refine onlyIf_keeps ?_
    | refine (State.refFault_stays.up ?_).after ?_)

theorem execHoldoverExpiry_keeps {s : State} :
    Keeps { time := true, ev := true, nvme := true, out := true } s (execHoldoverExpiry s) := by
  unfold execHoldoverExpiry
  with_reducible repeat' (first
    | exact Stays.rfl
    | exact Eq.refl (α := Mask) _
    | refine onlyIf_keeps ?_
    | refine (State.enterTime_stays.up ?_).after ?_
    | refine (State.timeEval_stays.up ?_).after ?_)

theorem execSlewDone_keeps {s : State} :
    Keeps { time := true, ev := true, nvme := true, out := true } s (execSlewDone s) := by
  unfold execSlewDone
  with_reducible repeat' (first
    | exact Stays.rfl
    | exact Eq.refl (α := Mask) _
    | refine onlyIf_keeps ?_
    | refine (State.event_stays.up ?_).after ?_
    | refine (State.timeEval_stays.up ?_).after ?_
    | refine ite_stays ?_ ?_
    | fail_if_no_progress (with_reducible refine (Stays.upd ?_).after ?_; with_reducible exact Eq.refl (α := State) _))

theorem execSkewAlarm_keeps {s : State} :
    Keeps { time := true, ev := true, nvme := true, out := true } s (execSkewAlarm s) := by
  unfold execSkewAlarm
  with_reducible repeat' (first
    | exact Stays.rfl
    | refine (State.retarget_stays.up ?_).after ?_
    | refine keeps_next ?_
    | refine ite_keeps ?_ ?_
    | refine onlyIf_keeps ?_ ?_
    | refine (State.setQuality_stays.up ?_).after ?_
    | refine (State.noteFollowed_stays.up ?_).after ?_
    | intro _
    | exact Eq.refl (α := Mask) _
    | refine onlyIf_keeps ?_
    | refine (State.alarm_stays.up ?_).after ?_
    | refine (State.enterTime_stays.up ?_).after ?_
    | refine (State.timeEval_stays.up ?_).after ?_
    | fail_if_no_progress (with_reducible refine (Stays.upd ?_).after ?_; with_reducible exact Eq.refl (α := State) _))

theorem State.skewSample_stays {s : State} {ns : Nat} :
    Stays { time := true, ev := true, nvme := true, out := true } s (State.skewSample s ns) := by
  unfold State.skewSample
  with_reducible repeat' (first
    | exact Stays.rfl
    | exact Eq.refl (α := Mask) _
    | refine (State.clearAlarm_stays.up ?_).after ?_
    | refine ite_stays ?_ ?_
    | fail_if_no_progress (with_reducible refine (Stays.upd ?_).after ?_; with_reducible exact Eq.refl (α := State) _))

theorem execBootWaitTime_keeps {s : State} :
    Keeps { boot := true, out := true } s (execBootWaitTime s) := by
  unfold execBootWaitTime
  with_reducible repeat' (first
    | exact Stays.rfl
    | exact Eq.refl (α := Mask) _
    | refine onlyIf_keeps ?_
    | refine (State.toStage_stays.up ?_).after ?_)

theorem execPtpAnnounce_keeps {m : PtpUtc} {valid : Bool} {s : State} :
    Keeps { time := true } s (execPtpAnnounce m valid s) := by
  unfold execPtpAnnounce
  with_reducible repeat' (first
    | exact Stays.rfl
    | exact Eq.refl (α := Mask) _
    | refine keeps_next ?_
    | refine ite_keeps ?_ ?_
    | refine onlyIf_keeps ?_ ?_
    | intro _
    | refine ite_stays ?_ ?_
    | split
    | refine onlyIf_keeps ?_
    | fail_if_no_progress (with_reducible refine (Stays.upd ?_).after ?_; with_reducible exact Eq.refl (α := State) _))

theorem State.follow_stays {s : State} {off : Int} :
    Stays { time := true, ev := true, nvme := true, out := true } s (State.follow s off) := by
  unfold State.follow
  with_reducible repeat' (first
    | exact Stays.rfl
    | refine (State.event_stays.up ?_).after ?_
    | refine ite_stays ?_ ?_
    | exact Eq.refl (α := Mask) _
    | fail_if_no_progress (with_reducible refine (Stays.upd ?_).after ?_; with_reducible exact Eq.refl (α := State) _))

theorem State.followMark_stays {s : State} {target : Nat} {q : Quality} :
    Stays { time := true, ev := true, nvme := true, out := true } s (State.followMark s target q) := by
  unfold State.followMark
  with_reducible repeat' (first
    | exact Stays.rfl
    | refine (State.setQuality_stays.up ?_).after ?_
    | refine (State.follow_stays.up ?_).after ?_
    | exact Eq.refl (α := Mask) _
    | refine (State.clearAlarm_stays.up ?_).after ?_
    | refine (State.slewT_stays.up ?_).after ?_
    | refine ite_stays ?_ ?_
    | fail_if_no_progress (with_reducible refine (Stays.upd ?_).after ?_; with_reducible exact Eq.refl (α := State) _))

theorem execMarkLoss_keeps {s : State} :
    Keeps { time := true, ev := true, nvme := true, out := true } s (execMarkLoss s) := by
  unfold execMarkLoss
  with_reducible repeat' (first
    | exact Stays.rfl
    | exact Eq.refl (α := Mask) _
    | refine onlyIf_keeps ?_
    | refine (State.alarm_stays.up ?_).after ?_
    | fail_if_no_progress (with_reducible refine (Stays.upd ?_).after ?_; with_reducible exact Eq.refl (α := State) _))

end Sys2Proof.Machine
end

