-- ==== Sys2Proof/Laws/StaysWrite.lean ====
section
/-! SUPPORT. The operations of Machine/Write.lean keep the fixed part and the form of the tables. -/

namespace Sys2Proof.Machine

theorem State.setCredits_stays {s : State} {i : Nat} {c : CreditSt} :
    Stays { hem := true } s (State.setCredits s i c) := by
  unfold State.setCredits
  with_reducible repeat' (first
    | exact Stays.rfl
    | refine ite_stays ?_ ?_
    | fail_if_no_progress (with_reducible refine (Stays.upd ?_).after ?_; with_reducible exact Eq.refl (α := State) _))

theorem State.moveIn_stays {s : State} {i : Nat} :
    Stays { head := true } s (State.moveIn s i) := by
  unfold State.moveIn
  with_reducible repeat' (first
    | exact Stays.rfl
    | exact Eq.refl (α := Mask) _
    | refine (State.setStream_stays.up ?_).after ?_
    | refine (foldl_stays ?_).after ?_
    | refine (foldl2_stays ?_).after ?_
    | intro _ _
    | intro _
    | refine ite_stays ?_ ?_
    | fail_if_no_progress (with_reducible refine (Stays.upd ?_).after ?_; with_reducible exact Eq.refl (α := State) _))

theorem State.reply_stays {s : State} {cmd : CmdId} {fromPeer : Bool} {st : NvmeSt} :
    Stays { nvme := true, seam := true, out := true } s (State.reply s cmd fromPeer st) := by
  unfold State.reply
  with_reducible repeat' (first
    | exact Stays.rfl
    | exact Eq.refl (α := Mask) _
    | refine (State.finish_stays.up ?_).after ?_
    | refine (State.sendSeam_stays.up ?_).after ?_
    | refine ite_stays ?_ ?_)

theorem enterWork_stays {s0 : State} {x : WaitCmd} {keep : Bool} {epn : Nat} {n : Ns} {ts : List Nat} {ps : List Plan} {ssn : Nat}
    {s : State} {i : Nat} : Stays { head := true } s (enterWork s0 x keep epn n ts ps ssn s i) := by
  induction ps generalizing ts ssn s with
  | nil =>
    unfold enterWork
    with_reducible exact Stays.rfl
  | cons y ys ih =>
    unfold enterWork
    with_reducible repeat' (first
      | exact Stays.rfl
      | refine ih.after ?_
      | exact Eq.refl (α := Mask) _
      | refine (State.setStream_stays.up ?_).after ?_
      | split)

theorem State.enterRun_stays {s : State} {e : MEnt} :
    Stays { cam := true } s (State.enterRun s e) := by
  unfold State.enterRun
  with_reducible repeat' (first
    | exact Stays.rfl
    | exact Eq.refl (α := Mask) _
    | refine (State.writeMent_stays.up ?_).after ?_
    | intro _
    | refine ite_stays ?_ ?_
    | fail_if_no_progress (with_reducible refine (Stays.upd ?_).after ?_; with_reducible exact Eq.refl (α := State) _)
    | (conv => arg 3; zeta); split
    | split)

theorem State.enterOpen_stays {s : State} {ns ssn : Nat} {sealOnly : Bool} {ranges : List (Nat × Nat)} :
    Stays { cam := true } s (State.enterOpen s ns ssn sealOnly ranges) := by
  unfold State.enterOpen
  with_reducible repeat' (first
    | exact Stays.rfl
    | exact Eq.refl (α := Mask) _
    | refine (State.enterRun_stays.up ?_).after ?_
    | refine (foldl_stays ?_).after ?_
    | refine (foldl2_stays ?_).after ?_
    | intro _ _
    | intro _)

theorem State.enterCmd_stays {s : State} {c : CmdItem} {sealOnly : Bool} :
    Stays { cam := true } s (State.enterCmd s c sealOnly) := by
  unfold State.enterCmd
  with_reducible repeat' (first
    | exact Stays.rfl
    | exact Eq.refl (α := Mask) _
    | refine (State.enterOpen_stays.up ?_).after ?_
    | fail_if_no_progress (with_reducible refine (Stays.upd ?_).after ?_; with_reducible exact Eq.refl (α := State) _)
    | (conv => arg 3; zeta); split
    | split)

theorem State.admitCmd_stays {s : State} {i : Nat} {w : WaitCmd} :
    Stays { hem := true, nvme := true, cam := true, head := true } s (State.admitCmd s i w) := by
  unfold State.admitCmd
  with_reducible repeat' (first
    | exact Stays.rfl
    | refine (State.enterCmd_stays.up ?_).after ?_
    | fail_if_no_progress (with_reducible refine (Stays.upd ?_).after ?_; with_reducible exact Eq.refl (α := State) _)
    | exact Eq.refl (α := Mask) _
    | refine (State.setStream_stays.up ?_).after ?_
    | refine (State.setCredits_stays.up ?_).after ?_
    | refine (enterWork_stays.up ?_).after ?_
    | refine (State.enterOpen_stays.up ?_).after ?_
    | intro _
    | refine ite_stays ?_ ?_
    | fail_if_no_progress (with_reducible refine (Stays.upd ?_).after ?_; with_reducible exact Eq.refl (α := State) _)
    | (conv => arg 3; zeta); split
    | split)

theorem State.turnAway_stays {s : State} {i : Nat} {w : WaitCmd} {st : NvmeSt} :
    Stays { nvme := true, seam := true, head := true, out := true } s (State.turnAway s i w st) := by
  unfold State.turnAway
  with_reducible repeat' (first
    | exact Stays.rfl
    | exact Eq.refl (α := Mask) _
    | refine (State.setStream_stays.up ?_).after ?_
    | refine (State.reply_stays.up ?_).after ?_
    | fail_if_no_progress (with_reducible refine (Stays.upd ?_).after ?_; with_reducible exact Eq.refl (α := State) _)
    | (conv => arg 3; zeta); split
    | split)

theorem execCommandAdmit_keeps {cmd : CmdId} {s0 : State} :
    Keeps { hem := true, nvme := true, seam := true, cam := true, head := true, out := true } s0 (execCommandAdmit cmd s0) := by
  unfold execCommandAdmit
  with_reducible repeat' (first
    | exact Stays.rfl
    | exact Eq.refl (α := Mask) _
    | refine onlyIf_keeps ?_
    | refine keeps_next ?_
    | refine ite_keeps ?_ ?_
    | refine (State.moveIn_stays.up ?_).after ?_
    | refine (State.admitCmd_stays.up ?_).after ?_
    | refine (State.turnAway_stays.up ?_).after ?_
    | refine ite_stays ?_ ?_
    | fail_if_no_progress (with_reducible refine (Stays.upd ?_).after ?_; with_reducible exact Eq.refl (α := State) _)
    | (conv => arg 3; zeta); split
    | split)

theorem execFillObtained_keeps {cmd : CmdId} {chunkNo : Nat} {bytes : Bytes} {lost : BitVec 2} {s : State} :
    Keeps { head := true } s (execFillObtained cmd chunkNo bytes lost s) := by
  unfold execFillObtained
  with_reducible repeat' (first
    | exact Stays.rfl
    | exact Eq.refl (α := Mask) _
    | refine onlyIf_keeps ?_
    | refine (State.setStream_stays.up ?_).after ?_
    | split)

theorem State.sendQuery_stays {s : State} {i ssn domain : Nat} {fp : Bytes} :
    Stays { port := true, head := true, out := true } s (State.sendQuery s i ssn domain fp) := by
  unfold State.sendQuery
  with_reducible repeat' (first
    | exact Stays.rfl
    | exact Eq.refl (α := Mask) _
    | refine (State.request_stays.up ?_).after ?_
    | refine ite_stays ?_ ?_
    | fail_if_no_progress (with_reducible refine (Stays.upd ?_).after ?_; with_reducible exact Eq.refl (α := State) _))

theorem State.setWork_stays {s : State} {i ssn : Nat} {w : ChunkWork} :
    Stays { head := true } s (State.setWork s i ssn w) := by
  unfold State.setWork
  with_reducible repeat' (first
    | exact Stays.rfl
    | exact Eq.refl (α := Mask) _
    | refine (State.setStream_stays.up ?_).after ?_)

theorem State.hotOutcome_stays {s : State} {i ssn epn domain : Nat} {fp : Bytes} :
    Stays { ev := true, nvme := true, cam := true, out := true } s (State.hotOutcome s i ssn epn domain fp).1 := by
  unfold State.hotOutcome
  with_reducible repeat' (first
    | exact Stays.rfl
    | exact Eq.refl (α := Mask) _
    | refine (State.hotFind_stays.up ?_).after ?_)

theorem State.formChunk_stays {s : State} {i ssn : Nat} {w : ChunkWork} :
    Stays { ev := true, nvme := true, cam := true, port := true, head := true, out := true } s (State.formChunk s i ssn w) := by
  unfold State.formChunk
  with_reducible repeat' (first
    | exact Stays.rfl
    | exact Eq.refl (α := Mask) _
    | refine (State.hotEnter_stays.up ?_).after ?_
    | refine (State.hotOutcome_stays.up ?_).after ?_
    | refine (State.sendQuery_stays.up ?_).after ?_
    | refine (State.setWork_stays.up ?_).after ?_
    | refine ite_stays ?_ ?_
    | (conv => arg 3; zeta); split)

theorem State.sendAppends_stays {s : State} {i ssn : Nat} {w : ChunkWork} :
    Stays { port := true, head := true, out := true } s (State.sendAppends s i ssn w) := by
  unfold State.sendAppends
  with_reducible repeat' (first
    | exact Stays.rfl
    | exact Eq.refl (α := Mask) _
    | refine (State.sendImage_stays.up ?_).after ?_
    | (conv => arg 3; zeta); split)

theorem State.stageChunk_stays {s : State} {i ssn : Nat} {w : ChunkWork} :
    Stays { port := true, head := true, out := true } s (State.stageChunk s i ssn w) := by
  unfold State.stageChunk
  with_reducible repeat' (first
    | exact Stays.rfl
    | exact Eq.refl (α := Mask) _
    | refine (State.notePlace_stays.up ?_).after ?_
    | refine (State.sendAppends_stays.up ?_).after ?_
    | refine (State.setWork_stays.up ?_).after ?_
    | (conv => arg 3; zeta); split)

theorem State.pipeline_stays {s : State} {i ssn : Nat} :
    Stays { ev := true, nvme := true, cam := true, port := true, head := true, out := true } s (State.pipeline s i ssn) := by
  unfold State.pipeline
  with_reducible repeat' (first
    | exact Stays.rfl
    | exact Eq.refl (α := Mask) _
    | refine (State.formChunk_stays.up ?_).after ?_
    | refine (State.stageChunk_stays.up ?_).after ?_
    | refine ite_stays ?_ ?_
    | (conv => arg 3; zeta); split)

end Sys2Proof.Machine
end

