-- ==== Sys2Proof/Laws/StaysManager.lean ====
section
/-! SUPPORT. The operations of Machine/Manager.lean keep the fixed part and the form of the tables. -/

namespace Sys2Proof.Machine

theorem State.anaUpdate_stays {s : State} :
    Stays { nvme := true, out := true } s (State.anaUpdate s) := by
  unfold State.anaUpdate
  with_reducible repeat' (first
    | exact Stays.rfl
    | exact Eq.refl (α := Mask) _
    | refine (State.noticeAll_stays.up ?_).after ?_
    | refine ite_stays ?_ ?_
    | fail_if_no_progress (with_reducible refine (Stays.upd ?_).after ?_; with_reducible exact Eq.refl (α := State) _))

theorem State.drainAll_stays {s : State} :
    Stays { nvme := true, out := true } s (State.drainAll s) := by
  unfold State.drainAll
  with_reducible repeat' (first
    | exact Stays.rfl
    | exact Eq.refl (α := Mask) _
    | refine (State.drainCq_stays.up ?_).after ?_
    | refine (foldl_stays ?_).after ?_
    | intro _ _)

theorem State.overCkpt_stays {s : State} {k i : Nat} {c : CkptPair} :
    Stays { hem := true } s (State.overCkpt s k i c) := by
  unfold State.overCkpt
  with_reducible repeat' (first
    | exact Stays.rfl
    | exact Eq.refl (α := Mask) _
    | refine (State.leave_stays.up ?_).after ?_)

theorem State.ckptDarn_stays {s : State} {i : Nat} {v : List Nat} :
    Stays { hem := true } s (State.ckptDarn s i v) := by
  unfold State.ckptDarn
  with_reducible repeat' (first
    | exact Stays.rfl
    | exact Eq.refl (α := Mask) _
    | refine (State.overCkpt_stays.up ?_).after ?_
    | refine ite_stays ?_ ?_
    | fail_if_no_progress (with_reducible refine (Stays.upd ?_).after ?_; with_reducible exact Eq.refl (α := State) _))

theorem State.ckptRefold_stays {s : State} {i : Nat} {v : List Nat} :
    Stays { hem := true } s (State.ckptRefold s i v) := by
  unfold State.ckptRefold
  with_reducible repeat' (first
    | exact Stays.rfl
    | exact Eq.refl (α := Mask) _
    | refine (State.overCkpt_stays.up ?_).after ?_
    | refine ite_stays ?_ ?_
    | fail_if_no_progress (with_reducible refine (Stays.upd ?_).after ?_; with_reducible exact Eq.refl (α := State) _))

theorem State.ckptRepl_stays {s : State} {v : List Nat} :
    Stays { hem := true, repl := true } s (State.ckptRepl s v) := by
  unfold State.ckptRepl
  with_reducible repeat' (first
    | exact Stays.rfl
    | exact Eq.refl (α := Mask) _
    | refine (State.overCkpt_stays.up ?_).after ?_
    | fail_if_no_progress (with_reducible refine (Stays.upd ?_).after ?_; with_reducible exact Eq.refl (α := State) _))

theorem State.resendMember_stays {s : State} {i stripe idx : Nat} :
    Stays { port := true, head := true, out := true } s (State.resendMember s i stripe idx) := by
  unfold State.resendMember
  with_reducible repeat' (first
    | exact Stays.rfl
    | exact Eq.refl (α := Mask) _
    | refine (State.setWork_stays.up ?_).after ?_
    | refine (State.toShelf_stays.up ?_).after ?_
    | refine (foldl_stays ?_).after ?_
    | refine ite_stays ?_ ?_
    | intro _ _
    | (conv => arg 3; zeta); split)

theorem State.evacCheck_stays {s : State} {site : Nat} :
    Stays { ev := true, nvme := true, out := true } s (State.evacCheck s site) := by
  unfold State.evacCheck
  with_reducible repeat' (first
    | exact Stays.rfl
    | exact Eq.refl (α := Mask) _
    | refine (State.event_stays.up ?_).after ?_
    | intro _
    | refine ite_stays ?_ ?_)

theorem State.moveMember_stays {s : State} {stripe idx site epoch : Nat} :
    Stays { ev := true, hem := true, nvme := true, head := true, out := true } s (State.moveMember s stripe idx site epoch) := by
  unfold State.moveMember
  with_reducible repeat' (first
    | exact Stays.rfl
    | refine (State.evacCheck_stays.up ?_).after ?_
    | fail_if_no_progress (with_reducible refine (Stays.upd ?_).after ?_; with_reducible exact Eq.refl (α := State) _)
    | split
    | exact Eq.refl (α := Mask) _
    | refine (State.event_stays.up ?_).after ?_
    | refine (State.putSif_stays.up ?_).after ?_
    | refine (State.setMd_stays.up ?_).after ?_
    | refine ite_stays ?_ ?_
    | (conv => arg 3; zeta); split)

theorem State.replaceMember_stays {s : State} {stripe site : Nat} :
    Stays { ev := true, hem := true, nvme := true, port := true, head := true, out := true } s (State.replaceMember s stripe site) := by
  unfold State.replaceMember
  with_reducible repeat' (first
    | exact Stays.rfl
    | refine (State.followAlarm_stays.up ?_).after ?_
    | intro _
    | fail_if_no_progress (with_reducible refine (Stays.upd ?_).after ?_; with_reducible exact Eq.refl (α := State) _)
    | split
    | exact Eq.refl (α := Mask) _
    | refine (State.alarm_stays.up ?_).after ?_
    | refine (State.moveMember_stays.up ?_).after ?_
    | refine (State.resendMember_stays.up ?_).after ?_
    | refine (State.setStream_stays.up ?_).after ?_
    | refine ite_stays ?_ ?_
    | (conv => arg 3; zeta); split)

theorem State.replaceSite_stays {s : State} {site : Nat} :
    Stays { ev := true, hem := true, nvme := true, port := true, head := true, out := true } s (State.replaceSite s site) := by
  unfold State.replaceSite
  with_reducible repeat' (first
    | exact Stays.rfl
    | exact Eq.refl (α := Mask) _
    | refine (State.replaceMember_stays.up ?_).after ?_
    | refine (foldl_stays ?_).after ?_
    | intro _ _)

theorem State.nsNotice_stays {s : State} {nsid : Nat} {ctrls : List Nat} :
    Stays { nvme := true, out := true } s (State.nsNotice s nsid ctrls) := by
  unfold State.nsNotice
  with_reducible repeat' (first
    | exact Stays.rfl
    | exact Eq.refl (α := Mask) _
    | refine (State.noticeTo_stays.up ?_).after ?_
    | refine (State.setCtrl_stays.up ?_).after ?_
    | refine (foldl_stays ?_).after ?_
    | intro _ _)

theorem State.setNs_stays {s : State} {nsid : Nat} {n : Ns} :
    Stays { nvme := true } s (State.setNs s nsid n) := by
  unfold State.setNs
  with_reducible repeat' (first
    | exact Stays.rfl
    | fail_if_no_progress (with_reducible refine (Stays.upd ?_).after ?_; with_reducible exact Eq.refl (α := State) _))

theorem State.standDown_stays {s : State} :
    Stays { seam := true, head := true } s (State.standDown s) := by
  unfold State.standDown
  with_reducible repeat' (first
    | exact Stays.rfl
    | exact Eq.refl (α := Mask) _
    | refine (State.setStream_stays.up ?_).after ?_
    | refine (foldl_stays ?_).after ?_
    | refine ite_stays ?_ ?_
    | fail_if_no_progress (with_reducible refine (Stays.upd ?_).after ?_; with_reducible exact Eq.refl (α := State) _)
    | intro _ _)

theorem State.unwrapRec_stays {s : State} {r : KeyRec} :
    Stays { boot := true, ev := true, nvme := true, seam := true, cipher := true, head := true, out := true } s (State.unwrapRec s r) := by
  unfold State.unwrapRec
  have h : Stays { boot := true, ev := true, nvme := true, seam := true, cipher := true, head := true, out := true } s
      (s.alarm AL_CIPHER_ENVELOPE 0).standDown := (State.standDown_stays.up rfl).after (State.alarm_stays.up rfl)
  dsimp only
  split
  · exact (State.setKeySlot_stays.up rfl).after (State.setKeySlot_stays.up rfl)
  · exact (Stays.upd rfl).after h

theorem State.loadRepl_stays {s : State} {kek g : Nat} {w0 w1 : Bytes} :
    Stays { cipher := true } s (State.loadRepl s kek g w0 w1) := by
  unfold State.loadRepl
  with_reducible repeat' (first
    | exact Stays.rfl
    | exact Eq.refl (α := Mask) _
    | refine (State.setKeySlot_stays.up ?_).after ?_
    | (conv => arg 3; zeta); split)

theorem State.applyStep_stays {s : State} {k : KeyStep} :
    Stays { boot := true, ev := true, nvme := true, seam := true, digest := true, cipher := true, head := true, out := true } s (State.applyStep s k) := by
  unfold State.applyStep
  with_reducible repeat' (first
    | exact Stays.rfl
    | fail_if_no_progress (with_reducible refine (Stays.upd ?_).after ?_; with_reducible exact Eq.refl (α := State) _)
    | refine (State.loadRepl_stays.up ?_).after ?_
    | intro _
    | refine ite_stays ?_ ?_
    | fail_if_no_progress (with_reducible refine (Stays.upd ?_).after ?_; with_reducible exact Eq.refl (α := State) _)
    | split
    | exact Eq.refl (α := Mask) _
    | refine (State.revoke_stays.up ?_).after ?_
    | refine (State.unwrapRec_stays.up ?_).after ?_
    | fail_if_no_progress (with_reducible refine (Stays.upd ?_).after ?_; with_reducible exact Eq.refl (α := State) _)
    | (conv => arg 3; zeta); split)

theorem State.applySteps_stays {s : State} :
    Stays { boot := true, ev := true, nvme := true, seam := true, digest := true, cipher := true, head := true, out := true } s (State.applySteps s) := by
  unfold State.applySteps
  with_reducible repeat' (first
    | exact Stays.rfl
    | exact Eq.refl (α := Mask) _
    | refine (State.applyStep_stays.up ?_).after ?_
    | refine (foldl_stays ?_).after ?_
    | refine (foldl2_stays ?_).after ?_
    | intro _ _
    | intro _
    | refine ite_stays ?_ ?_
    | fail_if_no_progress (with_reducible refine (Stays.upd ?_).after ?_; with_reducible exact Eq.refl (α := State) _))

theorem State.addSteps_stays {s : State} {ks : List KeyStep} :
    Stays { boot := true, ev := true, nvme := true, seam := true, digest := true, cipher := true, head := true, out := true } s (State.addSteps s ks) := by
  unfold State.addSteps
  with_reducible repeat' (first
    | exact Stays.rfl
    | exact Eq.refl (α := Mask) _
    | refine (State.applySteps_stays.up ?_).after ?_
    | refine ite_stays ?_ ?_
    | fail_if_no_progress (with_reducible refine (Stays.upd ?_).after ?_; with_reducible exact Eq.refl (α := State) _))

theorem State.takeKeyRec_stays {s : State} {r : KeyRec} :
    Stays { boot := true, ev := true, nvme := true, seam := true, digest := true, cipher := true, head := true, out := true } s (State.takeKeyRec s r) := by
  unfold State.takeKeyRec
  with_reducible repeat' (first
    | exact Stays.rfl
    | exact Eq.refl (α := Mask) _
    | refine (State.addSteps_stays.up ?_).after ?_
    | fail_if_no_progress (with_reducible refine (Stays.upd ?_).after ?_; with_reducible exact Eq.refl (α := State) _))

theorem State.dropCands_stays {s : State} {range : Nat} :
    Stays { head := true } s (State.dropCands s range) := by
  unfold State.dropCands
  with_reducible repeat' (first
    | exact Stays.rfl
    | exact Eq.refl (α := Mask) _
    | refine (State.setStream_stays.up ?_).after ?_
    | refine (foldl_stays ?_).after ?_
    | refine (foldl2_stays ?_).after ?_
    | intro _ _
    | intro _
    | fail_if_no_progress (with_reducible refine (Stays.upd ?_).after ?_; with_reducible exact Eq.refl (α := State) _)
    | (conv => arg 3; zeta); split
    | split)

theorem State.discardSite_stays {s : State} {site n : Nat} :
    Stays { port := true, head := true, out := true } s (State.discardSite s site n) := by
  unfold State.discardSite
  with_reducible repeat' (first
    | exact Stays.rfl
    | exact Eq.refl (α := Mask) _
    | refine (State.setMd_stays.up ?_).after ?_
    | refine (State.toShelf_stays.up ?_).after ?_
    | refine (foldl_stays ?_).after ?_
    | refine ite_stays ?_ ?_
    | intro _ _)

theorem State.rangeDrop_stays {s : State} {range site : Nat} :
    Stays { port := true, head := true, out := true } s (State.rangeDrop s range site) := by
  unfold State.rangeDrop
  with_reducible repeat' (first
    | exact Stays.rfl
    | exact Eq.refl (α := Mask) _
    | refine (State.request_stays.up ?_).after ?_
    | refine ite_stays ?_ ?_)

theorem State.staleRanges_stays {s : State} {site : Nat} :
    Stays { port := true, head := true, out := true } s (State.staleRanges s site) := by
  unfold State.staleRanges
  with_reducible repeat' (first
    | exact Stays.rfl
    | exact Eq.refl (α := Mask) _
    | refine (State.rangeDrop_stays.up ?_).after ?_
    | refine (foldl_stays ?_).after ?_
    | refine (foldl2_stays ?_).after ?_
    | intro _ _
    | intro _)

theorem State.cutQuality_stays {s : State} {e : Nat} :
    Stays { free := true } s (State.cutQuality s e).2 := by
  unfold State.cutQuality
  with_reducible repeat' (first
    | exact Stays.rfl
    | exact Eq.refl (α := Mask) _
    | refine (State.takeFree_stays.up ?_).after ?_
    | intro _
    | refine ite_stays ?_ ?_
    | fail_if_no_progress (with_reducible refine (Stays.upd ?_).after ?_; with_reducible exact Eq.refl (α := State) _)
    | (conv => arg 3; zeta); split
    | split)

theorem State.applyMgr_stays {s : State} {stream n : Nat} {r : MgrRec} :
    Stays { boot := true, ev := true, hem := true, nvme := true, seam := true, digest := true, cipher := true, port := true, head := true, repl := true, free := true, out := true } s (State.applyMgr s stream n r) := by
  unfold State.applyMgr
  with_reducible repeat' (first
    | exact Stays.rfl
    | refine (State.addSteps_stays.up ?_).after ?_
    | refine (State.rangeDrop_stays.up ?_).after ?_
    | refine (State.staleRanges_stays.up ?_).after ?_
    | refine (State.cutQuality_stays.up ?_).after ?_
    | fail_if_no_progress (with_reducible refine (Stays.upd ?_).after ?_; with_reducible exact Eq.refl (α := State) _)
    | refine (State.dropCands_stays.up ?_).after ?_
    | fail_if_no_progress (with_reducible refine (Stays.upd ?_).after ?_; with_reducible exact Eq.refl (α := State) _)
    | refine (foldl_stays ?_).after ?_
    | refine (foldl2_stays ?_).after ?_
    | intro _ _
    | intro _
    | fail_if_no_progress (with_reducible refine (Stays.upd ?_).after ?_; with_reducible exact Eq.refl (α := State) _)
    | split
    | exact Eq.refl (α := Mask) _
    | refine (State.alarm_stays.up ?_).after ?_
    | refine (State.anaUpdate_stays.up ?_).after ?_
    | refine (State.ckptDarn_stays.up ?_).after ?_
    | refine (State.ckptRefold_stays.up ?_).after ?_
    | refine (State.ckptRepl_stays.up ?_).after ?_
    | refine (State.discardSite_stays.up ?_).after ?_
    | refine (State.event_stays.up ?_).after ?_
    | refine (State.loadRepl_stays.up ?_).after ?_
    | refine (State.nsNotice_stays.up ?_).after ?_
    | refine (State.replaceSite_stays.up ?_).after ?_
    | refine (State.request_stays.up ?_).after ?_
    | refine (State.setMd_stays.up ?_).after ?_
    | refine (State.setNs_stays.up ?_).after ?_
    | refine (State.setStream_stays.up ?_).after ?_
    | refine (State.takeKeyRec_stays.up ?_).after ?_
    | refine ite_stays ?_ ?_
    | fail_if_no_progress (with_reducible refine (Stays.upd ?_).after ?_; with_reducible exact Eq.refl (α := State) _)
    | (conv => arg 3; zeta); split)

theorem State.record_stays {s : State} {r : MgrRec} :
    Stays { head := true } s (State.record s r) := by
  unfold State.record
  with_reducible repeat' (first
    | exact Stays.rfl
    | exact Eq.refl (α := Mask) _
    | refine (State.setStream_stays.up ?_).after ?_)

end Sys2Proof.Machine
end

