-- ==== Sys2Proof/Laws/StaysLedger.lean ====
section
/-! SUPPORT. The operations of Machine/Ledger.lean keep the fixed part and the form of the tables. -/

namespace Sys2Proof.Machine

theorem placeRecord_wf {nor : Mem} {a b : Nat} (h : Mem.wf norErased nor = true) : Mem.wf norErased (placeRecord nor a b).2 = true := by
  unfold placeRecord
  split
  · exact Mem.clear_wf h
  · exact h

theorem appendRecord_wf {nor : Mem} {a : Nat} {r : Bytes} (h : Mem.wf norErased nor = true) : Mem.wf norErased (appendRecord nor a r) = true := by
  unfold appendRecord
  exact norPut_wf h

theorem State.setStaging_stays {s : State} {g : LedgerStaging} :
    Stays { hem := true } s (State.setStaging s g) := by
  unfold State.setStaging
  with_reducible repeat' (first
    | exact Stays.rfl
    | exact Eq.refl (α := Mask) _
    | refine (State.hemPut_stays.up ?_).after ?_
    | fail_if_no_progress (with_reducible refine (Stays.upd ?_).after ?_; with_reducible exact Eq.refl (α := State) _))

theorem execLedgerBegin_keeps {s : State} :
    Keeps { boot := true, ledger := true, hem := true, out := true } s (execLedgerBegin s) := by
  unfold execLedgerBegin
  with_reducible repeat' (first
    | exact Stays.rfl
    | exact Eq.refl (α := Mask) _
    | refine onlyIf_keeps ?_
    | refine (State.setStaging_stays.up ?_).after ?_
    | refine (State.toStage_stays.up ?_).after ?_
    | fail_if_no_progress (with_reducible refine (Stays.upd ?_).after ?_; with_reducible exact Eq.refl (α := State) _))

theorem State.ledgerCommit_stays {s : State} :
    Stays { nor := true, ledger := true, hem := true, free := true } s (State.ledgerCommit s) := by
  unfold State.ledgerCommit
  extract_lets g body r s1 g1 s2
  clear_value r
  have h1 : Stays { nor := true, ledger := true, hem := true, free := true } s s1 := Stays.all (rfl) (rfl) (rfl) (fun h => appendRecord_wf h) (id) (id) (id) (by with_reducible exact Eq.refl _)
  clear_value s1
  have h2 : Stays { nor := true, ledger := true, hem := true, free := true } s1 s2 := State.setStaging_stays.up (Eq.refl _)
  clear_value s2
  exact (Stays.upd (Eq.refl _)).after (h2.after h1)

theorem State.appendManager_stays {s : State} {type slots : Nat} {entries : List Bytes} :
    Stays { nor := true, ledger := true, hem := true, free := true } s (State.appendManager s type slots entries) := by
  unfold State.appendManager
  extract_lets g place body r s1 g1 s2
  clear_value r
  have h1 : Stays { nor := true, ledger := true, hem := true, free := true } s s1 := Stays.all (rfl) (rfl) (rfl) (fun h => appendRecord_wf (placeRecord_wf h)) (id) (id) (id) (by with_reducible exact Eq.refl _)
  clear_value s1
  have h2 : Stays { nor := true, ledger := true, hem := true, free := true } s1 s2 := State.setStaging_stays.up (Eq.refl _)
  clear_value s2
  exact (Stays.upd (Eq.refl _)).after (h2.after h1)

theorem State.appendJoin_stays {s : State} {c : Collected} :
    Stays { nor := true, ledger := true, hem := true, head := true, free := true } s (State.appendJoin s c) := by
  unfold State.appendJoin
  with_reducible repeat' (first
    | exact Stays.rfl
    | refine (State.record_stays.up ?_).after ?_
    | exact Eq.refl (α := Mask) _
    | refine (State.appendManager_stays.up ?_).after ?_
    | refine ite_stays ?_ ?_
    | fail_if_no_progress (with_reducible refine (Stays.upd ?_).after ?_; with_reducible exact Eq.refl (α := State) _))

theorem State.appendLater_stays {s : State} :
    Stays { nor := true, ledger := true, hem := true, head := true, free := true } s (State.appendLater s) := by
  unfold State.appendLater
  with_reducible repeat' (first
    | exact Stays.rfl
    | exact Eq.refl (α := Mask) _
    | refine (State.appendJoin_stays.up ?_).after ?_
    | refine (foldl_stays ?_).after ?_
    | refine (foldl2_stays ?_).after ?_
    | intro _ _
    | fail_if_no_progress (with_reducible refine (Stays.upd ?_).after ?_; with_reducible exact Eq.refl (α := State) _))

theorem State.appendArray_stays {s : State} :
    Stays { nor := true, ledger := true, hem := true, head := true, free := true } s (State.appendArray s) := by
  unfold State.appendArray
  with_reducible repeat' (first
    | exact Stays.rfl
    | refine (State.record_stays.up ?_).after ?_
    | fail_if_no_progress (with_reducible refine (Stays.upd ?_).after ?_; with_reducible exact Eq.refl (α := State) _)
    | exact Eq.refl (α := Mask) _
    | refine (State.appendManager_stays.up ?_).after ?_
    | refine (State.appendLater_stays.up ?_).after ?_
    | intro _
    | fail_if_no_progress (with_reducible refine (Stays.upd ?_).after ?_; with_reducible exact Eq.refl (α := State) _)
    | (conv => arg 3; zeta); split
    | split)

theorem State.appendCollected_stays {s : State} :
    Stays { nor := true, ledger := true, hem := true, head := true, free := true } s (State.appendCollected s) := by
  unfold State.appendCollected
  with_reducible repeat' (first
    | exact Stays.rfl
    | exact Eq.refl (α := Mask) _
    | refine (State.appendLater_stays.up ?_).after ?_
    | refine (State.appendArray_stays.up ?_).after ?_
    | refine ite_stays ?_ ?_)

theorem State.collect_stays {s : State} {c : Collected} :
    Stays { nor := true, ledger := true, hem := true, head := true, free := true } s (State.collect s c) := by
  unfold State.collect
  with_reducible repeat' (first
    | exact Stays.rfl
    | exact Eq.refl (α := Mask) _
    | refine (State.appendCollected_stays.up ?_).after ?_
    | intro _
    | refine ite_stays ?_ ?_
    | fail_if_no_progress (with_reducible refine (Stays.upd ?_).after ?_; with_reducible exact Eq.refl (α := State) _))

theorem State.takeRecord_stays {s : State} {role site : Nat} {new : Bool} {r : Bytes} :
    Stays { nor := true, ledger := true, hem := true, head := true, free := true } s (State.takeRecord s role site new r) := by
  unfold State.takeRecord
  with_reducible repeat' (first
    | exact Stays.rfl
    | exact Eq.refl (α := Mask) _
    | refine (State.appendJoin_stays.up ?_).after ?_
    | refine (State.collect_stays.up ?_).after ?_
    | refine ite_stays ?_ ?_
    | fail_if_no_progress (with_reducible refine (Stays.upd ?_).after ?_; with_reducible exact Eq.refl (α := State) _))

end Sys2Proof.Machine
end

