-- ==== Sys2Proof/Laws/StaysBundle.lean ====
section
/-! SUPPORT. The operations of Machine/Bundle.lean keep the fixed part and the form of the tables. -/

namespace Sys2Proof.Machine

theorem State.writeBatch_stays {s : State} {i cls n : Nat} {recs : List JRec} :
    Stays { hem := true } s (State.writeBatch s i cls n recs).1 := by
  unfold State.writeBatch
  with_reducible repeat' (first
    | exact Stays.rfl
    | refine (State.leave_stays.up ?_).after ?_
    | intro _
    | refine ite_stays ?_ ?_
    | fail_if_no_progress (with_reducible refine (Stays.upd ?_).after ?_; with_reducible exact Eq.refl (α := State) _)
    | (conv => arg 3; zeta); split
    | split
    | exact Eq.refl (α := Mask) _
    | refine (State.setRingHem_stays.up ?_).after ?_)

theorem State.releaseTo_stays {s : State} {i seq : Nat} :
    Stays { hem := true } s (State.releaseTo s i seq) := by
  unfold State.releaseTo
  with_reducible repeat' (first
    | exact Stays.rfl
    | refine (State.dropHeaders_stays.up ?_).after ?_
    | intro _
    | exact Eq.refl (α := Mask) _
    | refine (State.setRingHem_stays.up ?_).after ?_
    | fail_if_no_progress (with_reducible refine (Stays.upd ?_).after ?_; with_reducible exact Eq.refl (α := State) _))

theorem State.putHeader_stays {s : State} {h : BundleHdr} :
    Stays { hem := true } s (State.putHeader s h) := by
  unfold State.putHeader
  with_reducible repeat' (first
    | exact Stays.rfl
    | fail_if_no_progress (with_reducible refine (Stays.upd ?_).after ?_; with_reducible exact Eq.refl (α := State) _)
    | (conv => arg 3; zeta); split)

theorem State.setBundle_stays {s : State} {i n : Nat} {b : Bundle} :
    Stays { head := true } s (State.setBundle s i n b) := by
  unfold State.setBundle
  with_reducible repeat' (first
    | exact Stays.rfl
    | exact Eq.refl (α := Mask) _
    | refine (State.setStream_stays.up ?_).after ?_)

theorem State.applyMap_stays {s : State} {i n : Nat} {cmds : List CmdItem} {items : List ChunkItem} :
    Stays { head := true } s (State.applyMap s i n cmds items) := by
  unfold State.applyMap
  with_reducible repeat' (first
    | exact Stays.rfl
    | refine (foldl_stays ?_).after ?_
    | refine (foldl2_stays ?_).after ?_
    | intro _ _
    | intro _
    | refine ite_stays ?_ ?_
    | fail_if_no_progress (with_reducible refine (Stays.upd ?_).after ?_; with_reducible exact Eq.refl (α := State) _)
    | exact Eq.refl (α := Mask) _
    | refine (State.setMd_stays.up ?_).after ?_)

theorem State.noteReloc_stays {s : State} {i n : Nat} :
    Stays { head := true } s (State.noteReloc s i n) := by
  unfold State.noteReloc
  with_reducible repeat' (first
    | exact Stays.rfl
    | exact Eq.refl (α := Mask) _
    | refine ite_stays ?_ ?_
    | fail_if_no_progress (with_reducible refine (Stays.upd ?_).after ?_; with_reducible exact Eq.refl (α := State) _))

theorem State.noteMember_stays {s : State} {stripe idx : Nat} :
    Stays { head := true } s (State.noteMember s stripe idx) := by
  unfold State.noteMember
  with_reducible repeat' (first
    | exact Stays.rfl
    | exact Eq.refl (α := Mask) _
    | intro _
    | refine ite_stays ?_ ?_
    | fail_if_no_progress (with_reducible refine (Stays.upd ?_).after ?_; with_reducible exact Eq.refl (α := State) _))

theorem State.applyMember_stays {s : State} {n stripe idx site : Nat} :
    Stays { ev := true, hem := true, nvme := true, port := true, head := true, out := true } s (State.applyMember s n stripe idx site) := by
  unfold State.applyMember
  with_reducible repeat' (first
    | exact Stays.rfl
    | exact Eq.refl (α := Mask) _
    | refine (State.noteMember_stays.up ?_).after ?_
    | refine (State.resendMember_stays.up ?_).after ?_
    | refine (State.moveMember_stays.up ?_).after ?_
    | refine ite_stays ?_ ?_
    | fail_if_no_progress (with_reducible refine (Stays.upd ?_).after ?_; with_reducible exact Eq.refl (α := State) _)
    | (conv => arg 3; zeta); split
    | split)

theorem State.applyJRec_stays {s : State} {n : Nat} {r : JRec} :
    Stays { ev := true, hem := true, nvme := true, port := true, head := true, out := true } s (State.applyJRec s n r) := by
  unfold State.applyJRec
  with_reducible repeat' (first
    | exact Stays.rfl
    | refine (State.applyMember_stays.up ?_).after ?_
    | fail_if_no_progress (with_reducible refine (Stays.upd ?_).after ?_; with_reducible exact Eq.refl (α := State) _)
    | refine (State.noteReloc_stays.up ?_).after ?_
    | fail_if_no_progress (with_reducible refine (Stays.upd ?_).after ?_; with_reducible exact Eq.refl (α := State) _)
    | split
    | exact Eq.refl (α := Mask) _
    | refine (State.moveMember_stays.up ?_).after ?_
    | refine (State.setMd_stays.up ?_).after ?_
    | (conv => arg 3; zeta); split)

theorem State.indexOp_stays {s : State} {n op domain id old : Nat} {fp : Bytes} :
    Stays { port := true, head := true, out := true } s (State.indexOp s n op domain id old fp) := by
  unfold State.indexOp
  with_reducible repeat' (first
    | exact Stays.rfl
    | exact Eq.refl (α := Mask) _
    | refine (State.toShelf_stays.up ?_).after ?_)

theorem State.hotRewrite_stays {s : State} {index : Option Nat} {domain : Nat} {fp : Bytes} {id to' : Nat} :
    Stays { ev := true, nvme := true, cam := true, out := true } s (State.hotRewrite s index domain fp id to') := by
  unfold State.hotRewrite
  with_reducible repeat' (first
    | exact Stays.rfl
    | fail_if_no_progress (with_reducible refine (Stays.upd ?_).after ?_; with_reducible exact Eq.refl (α := State) _)
    | split
    | exact Eq.refl (α := Mask) _
    | refine (State.hotFind_stays.up ?_).after ?_
    | refine (State.writeMent_stays.up ?_).after ?_
    | refine ite_stays ?_ ?_
    | (conv => arg 3; zeta); split)

theorem State.hotDrop_stays {s : State} {domain : Nat} {fp : Bytes} {id : Nat} :
    Stays { ev := true, nvme := true, cam := true, out := true } s (State.hotDrop s domain fp id) := by
  unfold State.hotDrop
  with_reducible repeat' (first
    | exact Stays.rfl
    | refine (foldl_stays ?_).after ?_
    | refine (foldl2_stays ?_).after ?_
    | intro _ _
    | intro _
    | fail_if_no_progress (with_reducible refine (Stays.upd ?_).after ?_; with_reducible exact Eq.refl (α := State) _)
    | split
    | exact Eq.refl (α := Mask) _
    | refine (State.dropMent_stays.up ?_).after ?_
    | refine (State.hotFind_stays.up ?_).after ?_
    | refine ite_stays ?_ ?_
    | (conv => arg 3; zeta); split)

theorem State.redirect_stays {s : State} {i n l t : Nat} :
    Stays { head := true } s (State.redirect s i n l t) := by
  unfold State.redirect
  with_reducible repeat' (first
    | exact Stays.rfl
    | exact Eq.refl (α := Mask) _
    | refine (State.setMd_stays.up ?_).after ?_
    | intro _)

theorem State.decideChunk_stays {s : State} {i n : Nat} {w : ChunkWork} {d : Decision} :
    Stays { ev := true, nvme := true, cam := true, port := true, head := true, out := true } s (State.decideChunk s i n w d) := by
  unfold State.decideChunk
  with_reducible repeat' (first
    | exact Stays.rfl
    | refine (State.redirect_stays.up ?_).after ?_
    | fail_if_no_progress (with_reducible refine (Stays.upd ?_).after ?_; with_reducible exact Eq.refl (α := State) _)
    | exact Eq.refl (α := Mask) _
    | refine (State.indexOp_stays.up ?_).after ?_
    | refine (State.hotRewrite_stays.up ?_).after ?_
    | refine (State.setMd_stays.up ?_).after ?_
    | refine ite_stays ?_ ?_
    | fail_if_no_progress (with_reducible refine (Stays.upd ?_).after ?_; with_reducible exact Eq.refl (α := State) _)
    | (conv => arg 3; zeta); split
    | split)

theorem State.applyDecision_stays {s : State} {i n ssn outcome t : Nat} :
    Stays { ev := true, nvme := true, cam := true, port := true, head := true, out := true } s (State.applyDecision s i n ssn outcome t) := by
  unfold State.applyDecision
  with_reducible repeat' (first
    | exact Stays.rfl
    | refine (State.decideChunk_stays.up ?_).after ?_
    | fail_if_no_progress (with_reducible refine (Stays.upd ?_).after ?_; with_reducible exact Eq.refl (α := State) _)
    | split
    | exact Eq.refl (α := Mask) _
    | refine (State.hotRewrite_stays.up ?_).after ?_
    | refine (State.indexOp_stays.up ?_).after ?_
    | refine (State.setMd_stays.up ?_).after ?_
    | refine (State.setWork_stays.up ?_).after ?_
    | refine ite_stays ?_ ?_
    | (conv => arg 3; zeta); split)

theorem State.decideLate_stays {s : State} {i n : Nat} :
    Stays { ev := true, nvme := true, cam := true, port := true, head := true, out := true } s (State.decideLate s i n) := by
  unfold State.decideLate
  with_reducible repeat' (first
    | exact Stays.rfl
    | exact Eq.refl (α := Mask) _
    | refine (State.decideChunk_stays.up ?_).after ?_
    | refine (foldl_stays ?_).after ?_
    | refine (foldl2_stays ?_).after ?_
    | intro _ _
    | intro _
    | fail_if_no_progress (with_reducible refine (Stays.upd ?_).after ?_; with_reducible exact Eq.refl (α := State) _)
    | (conv => arg 3; zeta); split
    | split)

theorem State.releaseStripe_stays {s : State} {stripe : Nat} :
    Stays { head := true } s (State.releaseStripe s stripe) := by
  unfold State.releaseStripe
  with_reducible repeat' (first
    | exact Stays.rfl
    | exact Eq.refl (α := Mask) _
    | refine (State.setStream_stays.up ?_).after ?_)

theorem State.closeTarget_stays {s : State} {n : Nat} {id : Nat} {r : StripeRec} {ids : List (List Nat)} :
    Stays { hem := true, head := true } s (State.closeTarget s n id r ids) := by
  unfold State.closeTarget
  with_reducible repeat' (first
    | exact Stays.rfl
    | exact Eq.refl (α := Mask) _
    | refine (State.freeSif_stays.up ?_).after ?_
    | refine (State.setMd_stays.up ?_).after ?_)

theorem State.learnStripe_stays {s : State} {n : Nat} {h : StripeHead} :
    Stays { hem := true, head := true } s (State.learnStripe s n h) := by
  unfold State.learnStripe
  with_reducible repeat' (first
    | exact Stays.rfl
    | exact Eq.refl (α := Mask) _
    | refine (State.setMd_stays.up ?_).after ?_
    | refine (State.setStream_stays.up ?_).after ?_
    | refine (State.takeSif_stays.up ?_).after ?_
    | fail_if_no_progress (with_reducible refine (Stays.upd ?_).after ?_; with_reducible exact Eq.refl (α := State) _))

theorem State.notePacked_stays {s : State} {i : Nat} {kept : List (List (Nat × Nat × Nat))} :
    Stays { head := true } s (State.notePacked s i kept) := by
  unfold State.notePacked
  with_reducible repeat' (first
    | exact Stays.rfl
    | exact Eq.refl (α := Mask) _
    | refine (State.setWork_stays.up ?_).after ?_
    | refine (foldl_stays ?_).after ?_
    | refine (foldl2_stays ?_).after ?_
    | intro _ _
    | intro _
    | fail_if_no_progress (with_reducible refine (Stays.upd ?_).after ?_; with_reducible exact Eq.refl (α := State) _)
    | (conv => arg 3; zeta); split
    | split)

theorem State.applyClose_stays {s0 : State} {n : Nat} {h : StripeHead} {ssns : List (List Nat)} :
    Stays { hem := true, port := true, head := true, out := true } s0 (State.applyClose s0 n h ssns) := by
  unfold State.applyClose
  with_reducible repeat' (first
    | exact Stays.rfl
    | refine (State.learnStripe_stays.up ?_).after ?_
    | fail_if_no_progress (with_reducible refine (Stays.upd ?_).after ?_; with_reducible exact Eq.refl (α := State) _)
    | refine (State.notePacked_stays.up ?_).after ?_
    | intro _
    | fail_if_no_progress (with_reducible refine (Stays.upd ?_).after ?_; with_reducible exact Eq.refl (α := State) _)
    | split
    | exact Eq.refl (α := Mask) _
    | refine (State.closeStripe_stays.up ?_).after ?_
    | refine (State.closeTarget_stays.up ?_).after ?_
    | refine (State.releaseStripe_stays.up ?_).after ?_
    | refine ite_stays ?_ ?_
    | (conv => arg 3; zeta); split)

theorem State.applyFree_stays {s : State} {n id : Nat} :
    Stays { ev := true, nvme := true, cam := true, port := true, head := true, out := true } s (State.applyFree s n id) := by
  unfold State.applyFree
  with_reducible repeat' (first
    | exact Stays.rfl
    | fail_if_no_progress (with_reducible refine (Stays.upd ?_).after ?_; with_reducible exact Eq.refl (α := State) _)
    | refine (State.setStream_stays.up ?_).after ?_
    | intro _
    | fail_if_no_progress (with_reducible refine (Stays.upd ?_).after ?_; with_reducible exact Eq.refl (α := State) _)
    | split
    | exact Eq.refl (α := Mask) _
    | refine (State.hotDrop_stays.up ?_).after ?_
    | refine (State.indexOp_stays.up ?_).after ?_
    | refine (State.setMd_stays.up ?_).after ?_
    | refine ite_stays ?_ ?_
    | (conv => arg 3; zeta); split)

theorem State.resvNotes_stays {s : State} {nsid host action : Nat} {old new : Resv} :
    Stays { nvme := true, out := true } s (State.resvNotes s nsid host action old new) := by
  unfold State.resvNotes
  with_reducible repeat' (first
    | exact Stays.rfl
    | exact Eq.refl (α := Mask) _
    | refine (State.noticeTo_stays.up ?_).after ?_
    | refine (State.setCtrl_stays.up ?_).after ?_
    | refine (foldl_stays ?_).after ?_
    | refine ite_stays ?_ ?_
    | intro _ _)

theorem State.applyResv_stays {s : State} {c : CmdItem} :
    Stays { nvme := true, out := true } s (State.applyResv s c) := by
  unfold State.applyResv
  with_reducible repeat' (first
    | exact Stays.rfl
    | exact Eq.refl (α := Mask) _
    | refine (State.resvNotes_stays.up ?_).after ?_
    | refine (State.setNs_stays.up ?_).after ?_
    | refine (foldl_stays ?_).after ?_
    | intro _ _
    | (conv => arg 3; zeta); split)

theorem State.applySealItem_stays {s : State} {i n : Nat} {x : Item} :
    Stays { boot := true, ev := true, hem := true, nvme := true, seam := true, digest := true, cam := true, cipher := true, port := true, head := true, repl := true, free := true, out := true } s (State.applySealItem s i n x) := by
  unfold State.applySealItem
  with_reducible repeat' (first
    | exact Stays.rfl
    | fail_if_no_progress (with_reducible refine (Stays.upd ?_).after ?_; with_reducible exact Eq.refl (α := State) _)
    | refine (State.redirect_stays.up ?_).after ?_
    | fail_if_no_progress (with_reducible refine (Stays.upd ?_).after ?_; with_reducible exact Eq.refl (α := State) _)
    | split
    | exact Eq.refl (α := Mask) _
    | refine (State.applyClose_stays.up ?_).after ?_
    | refine (State.applyDecision_stays.up ?_).after ?_
    | refine (State.applyFree_stays.up ?_).after ?_
    | refine (State.applyMgr_stays.up ?_).after ?_
    | refine (State.applyResv_stays.up ?_).after ?_
    | refine (State.setMd_stays.up ?_).after ?_
    | (conv => arg 3; zeta); split)

theorem State.applySeal_stays {s : State} {i n : Nat} {items : List Item} :
    Stays { boot := true, ev := true, hem := true, nvme := true, seam := true, digest := true, cam := true, cipher := true, port := true, head := true, repl := true, free := true, out := true } s (State.applySeal s i n items) := by
  unfold State.applySeal
  with_reducible repeat' (first
    | exact Stays.rfl
    | exact Eq.refl (α := Mask) _
    | refine (State.applySealItem_stays.up ?_).after ?_
    | refine (State.setMd_stays.up ?_).after ?_
    | refine (foldl_stays ?_).after ?_
    | refine (foldl2_stays ?_).after ?_
    | intro _ _
    | intro _
    | fail_if_no_progress (with_reducible refine (Stays.upd ?_).after ?_; with_reducible exact Eq.refl (α := State) _))

theorem State.sendDrops_stays {s : State} {i : Nat} :
    Stays { port := true, head := true, out := true } s (State.sendDrops s i) := by
  unfold State.sendDrops
  with_reducible repeat' (first
    | exact Stays.rfl
    | exact Eq.refl (α := Mask) _
    | refine (State.setWork_stays.up ?_).after ?_
    | refine (State.toShelf_stays.up ?_).after ?_
    | refine (foldl_stays ?_).after ?_
    | refine ite_stays ?_ ?_
    | intro _ _
    | (conv => arg 3; zeta); split)

theorem State.leaveOpen_stays {s : State} :
    Stays { cam := true } s (State.leaveOpen s) := by
  unfold State.leaveOpen
  with_reducible repeat' (first
    | exact Stays.rfl
    | exact Eq.refl (α := Mask) _
    | refine (State.dropMent_stays.up ?_).after ?_
    | refine (foldl_stays ?_).after ?_
    | refine (foldl2_stays ?_).after ?_
    | intro _ _
    | intro _
    | refine ite_stays ?_ ?_)

theorem State.sweep_stays {s : State} {i : Nat} :
    Stays { cam := true, head := true } s (State.sweep s i) := by
  unfold State.sweep
  with_reducible repeat' (first
    | exact Stays.rfl
    | refine (State.leaveOpen_stays.up ?_).after ?_
    | intro _
    | fail_if_no_progress (with_reducible refine (Stays.upd ?_).after ?_; with_reducible exact Eq.refl (α := State) _)
    | exact Eq.refl (α := Mask) _
    | refine (State.setStream_stays.up ?_).after ?_)

theorem State.prune_stays {s : State} {i : Nat} :
    Stays { head := true } s (State.prune s i) := by
  unfold State.prune
  with_reducible repeat' (first
    | exact Stays.rfl
    | exact Eq.refl (α := Mask) _
    | refine (State.setStream_stays.up ?_).after ?_)

theorem State.releaseFormed_stays {s : State} {i n : Nat} :
    Stays { cam := true, head := true } s (State.releaseFormed s i n) := by
  unfold State.releaseFormed
  with_reducible repeat' (first
    | exact Stays.rfl
    | refine (State.leaveOpen_stays.up ?_).after ?_
    | intro _
    | refine ite_stays ?_ ?_
    | fail_if_no_progress (with_reducible refine (Stays.upd ?_).after ?_; with_reducible exact Eq.refl (α := State) _)
    | exact Eq.refl (α := Mask) _
    | refine (State.setStream_stays.up ?_).after ?_)

theorem State.placeFormed_stays {s : State} {i n : Nat} :
    Stays { head := true } s (State.placeFormed s i n) := by
  unfold State.placeFormed
  with_reducible repeat' (first
    | exact Stays.rfl
    | exact Eq.refl (α := Mask) _
    | refine (State.setMd_stays.up ?_).after ?_
    | refine (foldl_stays ?_).after ?_
    | refine (foldl2_stays ?_).after ?_
    | intro _ _
    | intro _
    | refine ite_stays ?_ ?_
    | fail_if_no_progress (with_reducible refine (Stays.upd ?_).after ?_; with_reducible exact Eq.refl (α := State) _)
    | (conv => arg 3; zeta); split
    | split)

theorem State.writeClasses_stays {s : State} {i n : Nat} {x0 : List Nat} :
    Stays { ev := true, hem := true, nvme := true, head := true, out := true } s (State.writeClasses s i n x0).1 := by
  induction x0 generalizing s i n with
  | nil =>
    unfold State.writeClasses
    with_reducible exact Stays.rfl
  | cons y ys ih =>
    unfold State.writeClasses
    with_reducible repeat' (first
      | exact Stays.rfl
      | exact ih
      | refine ih.after ?_
      | exact Eq.refl (α := Mask) _
      | refine (State.applyJRec_stays.up ?_).after ?_
      | refine (State.setStream_stays.up ?_).after ?_
      | refine (State.writeBatch_stays.up ?_).after ?_
      | refine (foldl_stays ?_).after ?_
      | intro _ _
      | (conv => arg 3; zeta); split)

theorem State.applyBundle_stays {s : State} {i n : Nat} :
    Stays { boot := true, ev := true, hem := true, nvme := true, seam := true, digest := true, cam := true, cipher := true, port := true, head := true, repl := true, free := true, out := true } s (State.applyBundle s i n) := by
  unfold State.applyBundle
  with_reducible repeat' (first
    | exact Stays.rfl
    | exact Eq.refl (α := Mask) _
    | refine (State.setBundle_stays.up ?_).after ?_
    | refine (State.applyMap_stays.up ?_).after ?_
    | refine (State.applyJRec_stays.up ?_).after ?_
    | refine (State.decideLate_stays.up ?_).after ?_
    | refine (State.applySeal_stays.up ?_).after ?_
    | refine (State.sendDrops_stays.up ?_).after ?_
    | refine (State.leaveOpen_stays.up ?_).after ?_
    | refine (State.sweep_stays.up ?_).after ?_
    | refine (State.prune_stays.up ?_).after ?_
    | refine (State.releaseFormed_stays.up ?_).after ?_
    | refine (State.placeFormed_stays.up ?_).after ?_
    | refine (State.setStream_stays.up ?_).after ?_
    | refine (State.enterCmd_stays.up ?_).after ?_
    | refine (foldl_stays ?_).after ?_
    | refine (foldl2_stays ?_).after ?_
    | intro _ _
    | intro _
    | refine ite_stays ?_ ?_
    | fail_if_no_progress (with_reducible refine (Stays.upd ?_).after ?_; with_reducible exact Eq.refl (α := State) _))

theorem applyGo_stays {n : Nat} {s : State} :
    Stays { boot := true, ev := true, hem := true, nvme := true, seam := true, digest := true, cam := true, cipher := true, port := true, head := true, repl := true, free := true, out := true } s (applyGo n s) := by
  induction n generalizing s with
  | zero => exact Stays.rfl
  | succ k ih =>
    unfold applyGo
    split
    · exact ih.after State.applyBundle_stays
    · exact Stays.rfl

theorem State.applyReady_stays {s : State} :
    Stays { boot := true, ev := true, hem := true, nvme := true, seam := true, digest := true, cam := true, cipher := true, port := true, head := true, repl := true, free := true, out := true } s (State.applyReady s) := by
  unfold State.applyReady
  with_reducible repeat' (first
    | exact Stays.rfl
    | refine (applyGo_stays.up ?_).after ?_
    | exact Eq.refl (α := Mask) _)

theorem State.completeBody_stays {s : State} {i n : Nat} :
    Stays { boot := true, ev := true, hem := true, nvme := true, seam := true, digest := true, cam := true, cipher := true, port := true, head := true, repl := true, free := true, out := true } s (State.completeBody s i n) := by
  unfold State.completeBody
  with_reducible repeat' (first
    | exact Stays.rfl
    | exact Eq.refl (α := Mask) _
    | refine (State.writeBatch_stays.up ?_).after ?_
    | refine (State.setBundle_stays.up ?_).after ?_
    | refine (State.writeClasses_stays.up ?_).after ?_
    | refine (State.applyReady_stays.up ?_).after ?_
    | refine (State.setStream_stays.up ?_).after ?_
    | refine (State.setCredits_stays.up ?_).after ?_
    | intro _
    | refine ite_stays ?_ ?_
    | fail_if_no_progress (with_reducible refine (Stays.upd ?_).after ?_; with_reducible exact Eq.refl (α := State) _)
    | (conv => arg 3; zeta); split
    | split)

theorem bodyComplete_keeps {i : Fin 2} {n : Nat} {s : State} :
    Keeps { boot := true, ev := true, hem := true, nvme := true, seam := true, digest := true, cam := true, cipher := true, port := true, head := true, repl := true, free := true, out := true } s (bodyComplete i n s) := by
  unfold bodyComplete
  with_reducible repeat' (first
    | exact Stays.rfl
    | exact Eq.refl (α := Mask) _
    | refine onlyIf_keeps ?_
    | refine keeps_next ?_
    | refine ite_keeps ?_ ?_
    | refine onlyIf_keeps ?_ ?_
    | refine (State.completeBody_stays.up ?_).after ?_
    | intro _)

theorem execSectionDigestReturn_keeps {i : Fin 2} {n : Nat} {body : Bool} {s : State} :
    Keeps { hem := true, seam := true, head := true, out := true } s (execSectionDigestReturn i n body s) := by
  unfold execSectionDigestReturn
  with_reducible repeat' (first
    | exact Stays.rfl
    | exact Eq.refl (α := Mask) _
    | refine onlyIf_keeps ?_
    | refine (State.putHeader_stays.up ?_).after ?_
    | refine (State.sendSeam_stays.up ?_).after ?_
    | refine (State.setBundle_stays.up ?_).after ?_
    | refine (State.setStream_stays.up ?_).after ?_
    | refine ite_stays ?_ ?_)

theorem hemDurable_keeps {i : Fin 2} {n : Nat} {what : Fin 3} {s : State} :
    Keeps { seam := true, head := true, out := true } s (hemDurable i n what s) := by
  unfold hemDurable
  with_reducible repeat' (first
    | exact Stays.rfl
    | exact Eq.refl (α := Mask) _
    | refine onlyIf_keeps ?_
    | refine (State.sendSeam_stays.up ?_).after ?_
    | refine (State.setBundle_stays.up ?_).after ?_
    | refine ite_stays ?_ ?_)

theorem execWriteCompletionPost_keeps {cmd : CmdId} {s : State} :
    Keeps { nvme := true, seam := true, cam := true, head := true, out := true } s (execWriteCompletionPost cmd s) := by
  unfold execWriteCompletionPost
  with_reducible repeat' (first
    | exact Stays.rfl
    | exact Eq.refl (α := Mask) _
    | refine onlyIf_keeps ?_
    | refine keeps_next ?_
    | refine ite_keeps ?_ ?_
    | refine (State.sweep_stays.up ?_).after ?_
    | refine (State.prune_stays.up ?_).after ?_
    | refine (State.setStream_stays.up ?_).after ?_
    | refine (State.reply_stays.up ?_).after ?_
    | intro _
    | refine ite_stays ?_ ?_
    | fail_if_no_progress (with_reducible refine (Stays.upd ?_).after ?_; with_reducible exact Eq.refl (α := State) _)
    | (conv => arg 3; zeta); split
    | split)

end Sys2Proof.Machine
end

