-- ==== Sys2Proof/Laws/StaysLink.lean ====
section
/-! SUPPORT. The operations of Machine/Link.lean keep the fixed part and the form of the tables. -/

namespace Sys2Proof.Machine

theorem State.linkAcked_stays {s : State} {p lsn : Nat} :
    Stays { ring := true, port := true } s (State.linkAcked s p lsn) := by
  unfold State.linkAcked
  with_reducible repeat' (first
    | exact Stays.rfl
    | exact Eq.refl (α := Mask) _
    | refine (State.endJob_stays.up ?_).after ?_
    | refine (State.setPort_stays.up ?_).after ?_
    | refine (foldl_stays ?_).after ?_
    | intro _ _
    | (conv => arg 3; zeta); split)

theorem onFrame_keeps {m : Mask} {h : FrameHdr} {s : State} {f : State → State} (hm : Mask.or { ring := true, port := true, out := true } m = m) (hf : ∀ a0, Stays m a0 (f a0)) :
    Keeps m s (onFrame h s f) := by
  unfold onFrame
  with_reducible repeat' (first
    | exact Stays.rfl
    | exact Mask.or_trans (Eq.refl _) hm
    | refine (hf ..).after ?_
    | refine onlyIf_keeps ?_
    | refine (State.linkAcked_stays.up ?_).after ?_
    | refine (State.setPort_stays.up ?_).after ?_
    | refine (State.txBare_stays.up ?_).after ?_
    | refine ite_stays ?_ ?_)

end Sys2Proof.Machine
end

