-- ==== Sys2Proof/Laws/StaysSeal.lean ====
section
/-! SUPPORT. The operations of Machine/Seal.lean keep the fixed part and the form of the tables. -/

namespace Sys2Proof.Machine

theorem State.dropMerges_stays {s : State} {i : Nat} :
    Stays { head := true } s (State.dropMerges s i) := by
  unfold State.dropMerges
  with_reducible repeat' (first
    | exact Stays.rfl
    | exact Eq.refl (α := Mask) _
    | refine (State.setStream_stays.up ?_).after ?_
    | intro _
    | fail_if_no_progress (with_reducible refine (Stays.upd ?_).after ?_; with_reducible exact Eq.refl (α := State) _)
    | (conv => arg 3; zeta); split
    | split)

theorem State.sealStream_stays {s0 : State} {i : Nat} :
    Stays { boot := true, ev := true, hem := true, nvme := true, seam := true, digest := true, cam := true, cipher := true, port := true, head := true, repl := true, free := true, out := true } s0 (State.sealStream s0 i) := by
  unfold State.sealStream
  with_reducible repeat' (first
    | exact Stays.rfl
    | fail_if_no_progress (with_reducible refine (Stays.upd ?_).after ?_; with_reducible exact Eq.refl (α := State) _)
    | refine (State.dropMerges_stays.up ?_).after ?_
    | intro _
    | fail_if_no_progress (with_reducible refine (Stays.upd ?_).after ?_; with_reducible exact Eq.refl (α := State) _)
    | (conv => arg 3; zeta); split
    | split
    | exact Eq.refl (α := Mask) _
    | refine (State.applySeal_stays.up ?_).after ?_
    | refine (State.prune_stays.up ?_).after ?_
    | refine (State.releaseTo_stays.up ?_).after ?_
    | refine (State.sendDrops_stays.up ?_).after ?_
    | refine (State.setStream_stays.up ?_).after ?_
    | refine (State.sweep_stays.up ?_).after ?_
    | refine ite_stays ?_ ?_)

theorem State.grantCredits_stays {s : State} {i : Nat} :
    Stays { ev := true, hem := true, nvme := true, head := true, out := true } s (State.grantCredits s i) := by
  unfold State.grantCredits
  with_reducible repeat' (first
    | exact Stays.rfl
    | exact Eq.refl (α := Mask) _
    | refine (State.clearAlarm_stays.up ?_).after ?_
    | refine (State.event_stays.up ?_).after ?_
    | refine (State.setCredits_stays.up ?_).after ?_
    | refine (State.setStream_stays.up ?_).after ?_
    | refine ite_stays ?_ ?_)

theorem execHemCreditLow_keeps {i : Fin 2} {s : State} :
    Keeps { ev := true, nvme := true, out := true } s (execHemCreditLow i s) := by
  unfold execHemCreditLow
  with_reducible repeat' (first
    | exact Stays.rfl
    | exact Eq.refl (α := Mask) _
    | refine onlyIf_keeps ?_
    | refine (State.alarm_stays.up ?_).after ?_)

theorem execHemAdmitStall_keeps {i : Fin 2} {s : State} :
    Keeps { ev := true, nvme := true, out := true } s (execHemAdmitStall i s) := by
  unfold execHemAdmitStall
  with_reducible repeat' (first
    | exact Stays.rfl
    | exact Eq.refl (α := Mask) _
    | refine onlyIf_keeps ?_
    | refine (State.alarm_stays.up ?_).after ?_)

theorem State.metaRoom_stays {s : State} {i len : Nat} :
    Stays { hem := true, port := true, head := true, out := true } s (State.metaRoom s i len) := by
  unfold State.metaRoom
  refine ite_stays ?_ Stays.rfl
  split
  · rename_i h
    exact (State.newStripe_some h).up rfl
  · exact Stays.rfl

theorem State.sendMeta_some {s : State} {i seq item : Nat} {bs : Bytes} :
    ∀ {r}, State.sendMeta s i seq item bs = some r → Stays { hem := true, port := true, head := true, out := true } s r.2.2 := by
  intro r h
  unfold State.sendMeta at h
  try (conv at h => lhs; zeta)
  repeat' (first | cases h | split at h)
  all_goals
    with_reducible repeat' (first
      | exact Stays.rfl
      | exact Eq.refl (α := Mask) _
      | refine (State.metaRoom_stays.up ?_).after ?_
      | refine (State.notePlace_stays.up ?_).after ?_
      | refine (State.sendImage_stays.up ?_).after ?_
      | fail_if_no_progress (with_reducible refine (Stays.upd ?_).after ?_; with_reducible exact Eq.refl (α := State) _))

theorem flushGo_stays {i : Nat} {x0 : List (Bytes × List Batch)} {x1 : State} :
    Stays { hem := true, port := true, head := true, out := true } x1 (flushGo i x0 x1) := by
  induction x0 generalizing i x1 with
  | nil =>
    unfold flushGo
    with_reducible exact Stays.rfl
  | cons y ys ih =>
    unfold flushGo
    with_reducible repeat' (first
      | exact Stays.rfl
      | refine ih.after ?_
      | exact Eq.refl (α := Mask) _
      | refine (State.setStream_stays.up ?_).after ?_
      | refine (Stays.up ?_ (State.sendMeta_some (by assumption))).after ?_
      | refine ite_stays ?_ ?_
      | (conv => arg 3; zeta); split)

theorem State.journalFlush_stays {s : State} {i : Nat} :
    Stays { hem := true, port := true, head := true, out := true } s (State.journalFlush s i) := by
  unfold State.journalFlush
  with_reducible repeat' (first
    | exact Stays.rfl
    | intro _
    | exact Eq.refl (α := Mask) _
    | refine (flushGo_stays.up ?_).after ?_)

theorem State.stripAcked_stays {s : State} {i seq site : Nat} :
    Stays { hem := true, port := true, head := true, out := true } s (State.stripAcked s i seq site) := by
  unfold State.stripAcked
  with_reducible repeat' (first
    | exact Stays.rfl
    | exact Eq.refl (α := Mask) _
    | refine (State.sendDrops_stays.up ?_).after ?_
    | refine (State.setRingHem_stays.up ?_).after ?_
    | refine (State.setStream_stays.up ?_).after ?_)

theorem State.sortCandidate_stays {s : State} {l t : Nat} :
    Stays { head := true } s (State.sortCandidate s l t) := by
  unfold State.sortCandidate
  with_reducible repeat' (first
    | exact Stays.rfl
    | exact Eq.refl (α := Mask) _
    | refine (State.setStream_stays.up ?_).after ?_)

theorem execSortMerge_keeps {l t : Nat} {s : State} :
    Keeps { head := true } s (execSortMerge l t s) := by
  unfold execSortMerge
  with_reducible repeat' (first
    | exact Stays.rfl
    | exact Eq.refl (α := Mask) _
    | refine onlyIf_keeps ?_
    | refine (State.setStream_stays.up ?_).after ?_
    | refine ite_stays ?_ ?_)

theorem State.replied_stays {s : State} {site req : Nat} :
    Stays { head := true } s (State.replied s site req) := by
  unfold State.replied
  with_reducible repeat' (first
    | exact Stays.rfl
    | fail_if_no_progress (with_reducible refine (Stays.upd ?_).after ?_; with_reducible exact Eq.refl (α := State) _))

theorem State.replLooked_stays {s : State} {req result chunkId : Nat} :
    Stays { repl := true } s (State.replLooked s req result chunkId) := by
  unfold State.replLooked
  with_reducible repeat' (first
    | exact Stays.rfl
    | fail_if_no_progress (with_reducible refine (Stays.upd ?_).after ?_; with_reducible exact Eq.refl (α := State) _))

theorem idxQueryReply_keeps {h : FrameHdr} {result chunkId : Nat} {s : State} :
    Keeps { ring := true, port := true, head := true, repl := true, out := true } s (idxQueryReply h result chunkId s) := by
  unfold idxQueryReply
  with_reducible repeat' (first
    | exact Stays.rfl
    | exact Eq.refl (α := Mask) _
    | refine onFrame_keeps ?_ ?_
    | refine (State.replLooked_stays.up ?_).after ?_
    | refine (State.replied_stays.up ?_).after ?_
    | refine (State.setWork_stays.up ?_).after ?_
    | refine (State.sortCandidate_stays.up ?_).after ?_
    | refine ite_stays ?_ ?_
    | fail_if_no_progress (with_reducible refine (Stays.upd ?_).after ?_; with_reducible exact Eq.refl (α := State) _)
    | split
    | (conv => arg 3; zeta); split
    | intro _)

theorem execIdxOpReply_keeps {h : FrameHdr} {op chunkId result named : Nat} {s : State} :
    Keeps { ring := true, port := true, head := true, out := true } s (execIdxOpReply h op chunkId result named s) := by
  unfold execIdxOpReply
  with_reducible repeat' (first
    | exact Stays.rfl
    | exact Eq.refl (α := Mask) _
    | refine onFrame_keeps ?_ ?_
    | refine (State.indexOp_stays.up ?_).after ?_
    | refine (State.pump_stays.up ?_).after ?_
    | refine (State.sortCandidate_stays.up ?_).after ?_
    | refine ite_stays ?_ ?_
    | fail_if_no_progress (with_reducible refine (Stays.upd ?_).after ?_; with_reducible exact Eq.refl (α := State) _)
    | split
    | intro _)

end Sys2Proof.Machine
end

