-- ==== Sys2Proof/Laws/StaysReplay.lean ====
section
/-! SUPPORT. The operations of Machine/Replay.lean keep the fixed part and the form of the tables. -/

namespace Sys2Proof.Machine

theorem State.releaseStream_stays {s : State} {i : Nat} :
    Stays { nvme := true, seam := true, port := true, head := true, out := true } s (State.releaseStream s i) := by
  unfold State.releaseStream
  with_reducible repeat' (first
    | exact Stays.rfl
    | exact Eq.refl (α := Mask) _
    | refine (State.reply_stays.up ?_).after ?_
    | refine (State.sendSeam_stays.up ?_).after ?_
    | refine (State.setStream_stays.up ?_).after ?_
    | refine (State.toAll_stays.up ?_).after ?_
    | refine (foldl_stays ?_).after ?_
    | fail_if_no_progress (with_reducible refine (Stays.upd ?_).after ?_; with_reducible exact Eq.refl (α := State) _)
    | intro _ _)

theorem State.dropCollection_stays {s : State} :
    Stays { ledger := true } s (State.dropCollection s) := by
  unfold State.dropCollection
  with_reducible repeat' (first
    | exact Stays.rfl
    | exact Eq.refl (α := Mask) _
    | fail_if_no_progress (with_reducible refine (Stays.upd ?_).after ?_; with_reducible exact Eq.refl (α := State) _))

theorem State.finishStanding_stays {s : State} :
    Stays { ledger := true, nvme := true, seam := true, port := true, head := true, out := true } s (State.finishStanding s) := by
  unfold State.finishStanding
  with_reducible repeat' (first
    | exact Stays.rfl
    | refine (State.dropCollection_stays.up ?_).after ?_
    | refine (foldl2_stays ?_).after ?_
    | fail_if_no_progress (with_reducible refine (Stays.upd ?_).after ?_; with_reducible exact Eq.refl (α := State) _)
    | exact Eq.refl (α := Mask) _
    | refine (State.anaUpdate_stays.up ?_).after ?_
    | refine (State.releaseStream_stays.up ?_).after ?_
    | refine (foldl_stays ?_).after ?_
    | refine ite_stays ?_ ?_
    | fail_if_no_progress (with_reducible refine (Stays.upd ?_).after ?_; with_reducible exact Eq.refl (α := State) _)
    | intro _ _)

theorem onSeam_keeps {m : Mask} {s : State} {b : SeamBody} {ok : State → Bool} {f : State → State} (hm : Mask.or { seam := true } m = m) (hf : ∀ a0, Stays m a0 (f a0)) :
    Keeps m s (onSeam s b ok f) := by
  unfold onSeam
  with_reducible repeat' (first
    | exact Mask.or_trans (Eq.refl _) hm
    | exact hf ..
    | refine (hf ..).after ?_
    | exact keeps_next Stays.rfl
    | exact Stays.rfl
    | refine onlyIf_keeps ?_
    | refine keeps_next ?_
    | refine ite_keeps ?_ ?_
    | refine onlyIf_keeps ?_ ?_
    | refine (State.rxSeam_stays.up ?_).after ?_
    | intro _
    | refine ite_stays ?_ ?_
    | split
    | intro _)

theorem State.badSection_stays {s : State} {i n kind : Nat} :
    Stays { ev := true, nvme := true, seam := true, head := true, out := true } s (State.badSection s i n kind) := by
  unfold State.badSection
  with_reducible repeat' (first
    | exact Stays.rfl
    | exact Eq.refl (α := Mask) _
    | refine (State.alarm_stays.up ?_).after ?_
    | refine (State.event_stays.up ?_).after ?_
    | refine (State.sendSeam_stays.up ?_).after ?_
    | refine (State.setStream_stays.up ?_).after ?_
    | refine (State.standDown_stays.up ?_).after ?_
    | refine ite_stays ?_ ?_
    | fail_if_no_progress (with_reducible refine (Stays.upd ?_).after ?_; with_reducible exact Eq.refl (α := State) _))

theorem State.takeSeal_stays {s : State} {i : Nat} {h : BundleHdr} {items : List Item} :
    Stays { hem := true, cam := true, head := true } s (State.takeSeal s i h items) := by
  unfold State.takeSeal
  with_reducible repeat' (first
    | exact Stays.rfl
    | refine (State.enterCmd_stays.up ?_).after ?_
    | exact Eq.refl (α := Mask) _
    | refine (State.putHeader_stays.up ?_).after ?_
    | refine (State.setStream_stays.up ?_).after ?_
    | refine (State.enterOpen_stays.up ?_).after ?_
    | refine (foldl_stays ?_).after ?_
    | refine (foldl2_stays ?_).after ?_
    | intro _ _
    | intro _
    | fail_if_no_progress (with_reducible refine (Stays.upd ?_).after ?_; with_reducible exact Eq.refl (α := State) _))

theorem execSealSection_keeps {i : Fin 2} {hdrOk : Bool} {h : BundleHdr} {items : List Item} {s : State} :
    Keeps { ev := true, hem := true, nvme := true, seam := true, cam := true, head := true, out := true } s (execSealSection i hdrOk h items s) := by
  unfold execSealSection
  with_reducible repeat' (first
    | exact Stays.rfl
    | refine onSeam_keeps ?_ ?_
    | exact Eq.refl (α := Mask) _
    | refine onlyIf_keeps ?_
    | refine keeps_next ?_
    | refine ite_keeps ?_ ?_
    | refine onlyIf_keeps ?_ ?_
    | refine (State.badSection_stays.up ?_).after ?_
    | refine (State.takeSeal_stays.up ?_).after ?_
    | refine (State.rxSeam_stays.up ?_).after ?_
    | intro _
    | refine ite_stays ?_ ?_
    | split)

theorem State.takeOpens_stays {s : State} {n : Nat} {items : List Item} :
    Stays { hem := true, head := true } s (State.takeOpens s n items) := by
  unfold State.takeOpens
  with_reducible repeat' (first
    | exact Stays.rfl
    | refine (State.learnStripe_stays.up ?_).after ?_
    | refine (foldl2_stays ?_).after ?_
    | intro _
    | fail_if_no_progress (with_reducible refine (Stays.upd ?_).after ?_; with_reducible exact Eq.refl (α := State) _)
    | split
    | exact Eq.refl (α := Mask) _
    | refine (State.setMd_stays.up ?_).after ?_
    | refine (State.setStream_stays.up ?_).after ?_
    | refine (State.takeSif_stays.up ?_).after ?_
    | refine (foldl_stays ?_).after ?_
    | intro _ _
    | (conv => arg 3; zeta); split)

theorem State.takeChunk_stays {s : State} {i n : Nat} {cmds : List CmdItem} {items : List Item} {c : ChunkItem} :
    Stays { port := true, head := true, out := true } s (State.takeChunk s i n cmds items c) := by
  unfold State.takeChunk
  with_reducible repeat' (first
    | exact Stays.rfl
    | exact Eq.refl (α := Mask) _
    | refine (State.notePlace_stays.up ?_).after ?_
    | refine (State.sendAppends_stays.up ?_).after ?_
    | refine (State.setWork_stays.up ?_).after ?_
    | refine ite_stays ?_ ?_)

theorem State.takeExtents_stays {s : State} {i n : Nat} {cmds : List CmdItem} :
    Stays { head := true } s (State.takeExtents s i n cmds) := by
  unfold State.takeExtents
  with_reducible repeat' (first
    | exact Stays.rfl
    | exact Eq.refl (α := Mask) _
    | refine (State.setWork_stays.up ?_).after ?_
    | refine (foldl_stays ?_).after ?_
    | refine (foldl2_stays ?_).after ?_
    | intro _ _
    | intro _
    | fail_if_no_progress (with_reducible refine (Stays.upd ?_).after ?_; with_reducible exact Eq.refl (α := State) _)
    | (conv => arg 3; zeta); split
    | split)

theorem State.takeBatches_stays {s : State} {i n : Nat} {items : List Item} {x0 : List (Nat × List JRec)} {x1 : Bool} :
    Stays { ev := true, hem := true, nvme := true, head := true, out := true } s (State.takeBatches s i n items x0 x1).1 := by
  induction x0 generalizing s i n items x1 with
  | nil =>
    unfold State.takeBatches
    with_reducible exact Stays.rfl
  | cons y ys ih =>
    unfold State.takeBatches
    with_reducible repeat' (first
      | exact Stays.rfl
      | refine ih.after ?_
      | exact Eq.refl (α := Mask) _
      | refine (State.applyJRec_stays.up ?_).after ?_
      | refine (State.writeBatch_stays.up ?_).after ?_
      | refine (foldl_stays ?_).after ?_
      | refine ite_stays ?_ ?_
      | intro _ _)

theorem State.takeBody_stays {s : State} {i : Nat} {h : BundleHdr} {items : List Item} :
    Stays { boot := true, ev := true, hem := true, nvme := true, seam := true, digest := true, cam := true, cipher := true, port := true, head := true, repl := true, free := true, out := true } s (State.takeBody s i h items) := by
  unfold State.takeBody
  with_reducible repeat' (first
    | exact Stays.rfl
    | refine (State.applyReady_stays.up ?_).after ?_
    | fail_if_no_progress (with_reducible refine (Stays.upd ?_).after ?_; with_reducible exact Eq.refl (α := State) _)
    | refine (State.leaveOpen_stays.up ?_).after ?_
    | refine (State.takeExtents_stays.up ?_).after ?_
    | refine (State.enterCmd_stays.up ?_).after ?_
    | refine (foldl2_stays ?_).after ?_
    | intro _
    | fail_if_no_progress (with_reducible refine (Stays.upd ?_).after ?_; with_reducible exact Eq.refl (α := State) _)
    | exact Eq.refl (α := Mask) _
    | refine (State.alarm_stays.up ?_).after ?_
    | refine (State.applyMap_stays.up ?_).after ?_
    | refine (State.applySeal_stays.up ?_).after ?_
    | refine (State.prune_stays.up ?_).after ?_
    | refine (State.putHeader_stays.up ?_).after ?_
    | refine (State.releaseTo_stays.up ?_).after ?_
    | refine (State.sendDrops_stays.up ?_).after ?_
    | refine (State.setBundle_stays.up ?_).after ?_
    | refine (State.setStream_stays.up ?_).after ?_
    | refine (State.standDown_stays.up ?_).after ?_
    | refine (State.sweep_stays.up ?_).after ?_
    | refine (State.takeBatches_stays.up ?_).after ?_
    | refine (State.takeChunk_stays.up ?_).after ?_
    | refine (State.takeOpens_stays.up ?_).after ?_
    | refine (foldl_stays ?_).after ?_
    | refine ite_stays ?_ ?_
    | fail_if_no_progress (with_reducible refine (Stays.upd ?_).after ?_; with_reducible exact Eq.refl (α := State) _)
    | intro _ _)

theorem bodySection_keeps {i : Fin 2} {hdrOk : Bool} {h : BundleHdr} {items : List Item} {s : State} :
    Keeps { boot := true, ev := true, hem := true, nvme := true, seam := true, digest := true, cam := true, cipher := true, port := true, head := true, repl := true, free := true, out := true } s (bodySection i hdrOk h items s) := by
  unfold bodySection
  with_reducible repeat' (first
    | exact Stays.rfl
    | exact Eq.refl (α := Mask) _
    | refine onlyIf_keeps ?_
    | refine keeps_next ?_
    | refine ite_keeps ?_ ?_
    | refine onSeam_keeps ?_ ?_
    | refine (State.badSection_stays.up ?_).after ?_
    | refine (State.takeBody_stays.up ?_).after ?_
    | intro _
    | refine ite_stays ?_ ?_
    | split)

theorem State.shipAgain_stays {s : State} {i n : Nat} {body : Bool} :
    Stays { seam := true, out := true } s (State.shipAgain s i n body) := by
  unfold State.shipAgain
  with_reducible repeat' (first
    | exact Stays.rfl
    | exact Eq.refl (α := Mask) _
    | refine (State.sendSeam_stays.up ?_).after ?_
    | (conv => arg 3; zeta); split)

theorem execSeamResendReq_keeps {i : Fin 2} {n kind : Nat} {s : State} :
    Keeps { ev := true, nvme := true, seam := true, out := true } s (execSeamResendReq i n kind s) := by
  unfold execSeamResendReq
  with_reducible repeat' (first
    | exact Stays.rfl
    | refine keeps_next ?_
    | refine ite_keeps ?_ ?_
    | refine onSeam_keeps ?_ ?_
    | intro _
    | exact Eq.refl (α := Mask) _
    | refine onlyIf_keeps ?_
    | refine (State.event_stays.up ?_).after ?_
    | refine (State.rxSeam_stays.up ?_).after ?_
    | refine (State.shipAgain_stays.up ?_).after ?_)

theorem State.adminCheck_stays {s : State} :
    Stays { nvme := true, seam := true, out := true } s (State.adminCheck s) := by
  unfold State.adminCheck
  with_reducible repeat' (first
    | exact Stays.rfl
    | exact Eq.refl (α := Mask) _
    | refine (State.post_stays.up ?_).after ?_
    | refine (State.sendSeam_stays.up ?_).after ?_
    | refine (foldl_stays ?_).after ?_
    | refine ite_stays ?_ ?_
    | fail_if_no_progress (with_reducible refine (Stays.upd ?_).after ?_; with_reducible exact Eq.refl (α := State) _)
    | intro _ _)

theorem State.startHandback_stays {s : State} :
    Stays { head := true } s (State.startHandback s) := by
  unfold State.startHandback
  with_reducible repeat' (first
    | exact Stays.rfl
    | exact Eq.refl (α := Mask) _
    | refine (State.record_stays.up ?_).after ?_
    | refine ite_stays ?_ ?_)

theorem State.peerBack_stays {s : State} :
    Stays { ev := true, nvme := true, head := true, out := true } s (State.peerBack s) := by
  unfold State.peerBack
  with_reducible repeat' (first
    | exact Stays.rfl
    | exact Eq.refl (α := Mask) _
    | refine (State.clearAlarm_stays.up ?_).after ?_
    | refine (State.startHandback_stays.up ?_).after ?_
    | refine ite_stays ?_ ?_)

theorem seamDurable_keeps {i : Fin 2} {n : Nat} {bits : BitVec 3} {s : State} :
    Keeps { ev := true, nvme := true, seam := true, head := true, out := true } s (seamDurable i n bits s) := by
  unfold seamDurable
  with_reducible repeat' (first
    | exact Stays.rfl
    | refine keeps_next ?_
    | refine ite_keeps ?_ ?_
    | refine onSeam_keeps ?_ ?_
    | intro _
    | split
    | exact Eq.refl (α := Mask) _
    | refine onlyIf_keeps ?_
    | refine (State.adminCheck_stays.up ?_).after ?_
    | refine (State.anaUpdate_stays.up ?_).after ?_
    | refine (State.peerBack_stays.up ?_).after ?_
    | refine (State.rxSeam_stays.up ?_).after ?_
    | refine (State.setBundle_stays.up ?_).after ?_
    | refine ite_stays ?_ ?_
    | fail_if_no_progress (with_reducible refine (Stays.upd ?_).after ?_; with_reducible exact Eq.refl (α := State) _))

theorem State.shipFrom_stays {s : State} {i first : Nat} :
    Stays { seam := true, out := true } s (State.shipFrom s i first) := by
  unfold State.shipFrom
  with_reducible repeat' (first
    | exact Stays.rfl
    | exact Eq.refl (α := Mask) _
    | refine (State.shipAgain_stays.up ?_).after ?_
    | refine (foldl_stays ?_).after ?_
    | intro _ _)

theorem execCatchupReq_keeps {e0 e1 : Nat} {s : State} :
    Keeps { seam := true, out := true } s (execCatchupReq e0 e1 s) := by
  unfold execCatchupReq
  with_reducible repeat' (first
    | exact Stays.rfl
    | refine keeps_next ?_
    | refine ite_keeps ?_ ?_
    | refine onSeam_keeps ?_ ?_
    | intro _
    | exact Eq.refl (α := Mask) _
    | refine onlyIf_keeps ?_
    | refine (State.rxSeam_stays.up ?_).after ?_
    | refine (State.shipFrom_stays.up ?_).after ?_
    | fail_if_no_progress (with_reducible refine (Stays.upd ?_).after ?_; with_reducible exact Eq.refl (α := State) _))

theorem State.hold_stays {s : State} {w : WaitCmd} :
    Stays { head := true } s (State.hold s w) := by
  unfold State.hold
  with_reducible repeat' (first
    | exact Stays.rfl
    | fail_if_no_progress (with_reducible refine (Stays.upd ?_).after ?_; with_reducible exact Eq.refl (α := State) _)
    | exact Eq.refl (α := Mask) _
    | refine (State.setStream_stays.up ?_).after ?_)

theorem execFwdCmd_keeps {cmd : CmdId} {op : FwdOp} {pi : List PiBlock} {s : State} :
    Keeps { seam := true, head := true } s (execFwdCmd cmd op pi s) := by
  unfold execFwdCmd
  with_reducible repeat' (first
    | exact Stays.rfl
    | refine keeps_next ?_
    | refine ite_keeps ?_ ?_
    | refine onSeam_keeps ?_ ?_
    | intro _
    | exact Eq.refl (α := Mask) _
    | refine onlyIf_keeps ?_
    | refine (State.hold_stays.up ?_).after ?_
    | refine (State.rxSeam_stays.up ?_).after ?_)

theorem execFwdDone_keeps {cmd : CmdId} {st : NvmeSt} {dw0 : Nat} {s : State} :
    Keeps { nvme := true, seam := true, out := true } s (execFwdDone cmd st dw0 s) := by
  unfold execFwdDone
  with_reducible repeat' (first
    | exact Stays.rfl
    | refine keeps_next ?_
    | refine ite_keeps ?_ ?_
    | refine onSeam_keeps ?_ ?_
    | intro _
    | exact Eq.refl (α := Mask) _
    | refine onlyIf_keeps ?_
    | refine (State.post_stays.up ?_).after ?_
    | refine (State.rxSeam_stays.up ?_).after ?_
    | refine ite_stays ?_ ?_
    | fail_if_no_progress (with_reducible refine (Stays.upd ?_).after ?_; with_reducible exact Eq.refl (α := State) _))

theorem execSeamUnknownType_keeps {len : Nat} {s : State} :
    Keeps { ev := true, nvme := true, seam := true, out := true } s (execSeamUnknownType len s) := by
  unfold execSeamUnknownType
  with_reducible repeat' (first
    | exact Stays.rfl
    | exact Eq.refl (α := Mask) _
    | refine onlyIf_keeps ?_
    | refine (State.event_stays.up ?_).after ?_
    | fail_if_no_progress (with_reducible refine (Stays.upd ?_).after ?_; with_reducible exact Eq.refl (α := State) _))

end Sys2Proof.Machine
end

