-- ==== Sys2Proof/Laws/StaysSeam.lean ====
section
/-! SUPPORT. The operations of Machine/Seam.lean keep the fixed part and the form of the tables. -/

namespace Sys2Proof.Machine

theorem execSeamFlitBad_keeps {s : State} :
    Keeps { out := true } s (execSeamFlitBad s) := by
  unfold execSeamFlitBad
  with_reducible repeat' (first
    | exact Stays.rfl
    | exact Eq.refl (α := Mask) _
    | refine onlyIf_keeps ?_
    | refine (State.emit_stays.up ?_).after ?_)

theorem execSeamFlitNak_keeps {seq : Fin 16777216} {s : State} :
    Keeps { out := true } s (execSeamFlitNak seq s) := by
  unfold execSeamFlitNak
  with_reducible repeat' (first
    | exact Stays.rfl
    | exact Eq.refl (α := Mask) _
    | refine onlyIf_keeps ?_
    | refine (State.emit_stays.up ?_).after ?_)

theorem State.setLanes_stays {s : State} {l : BitVec 16} :
    Stays { seam := true } s (State.setLanes s l) := by
  unfold State.setLanes
  with_reducible repeat' (first
    | exact Stays.rfl
    | fail_if_no_progress (with_reducible refine (Stays.upd ?_).after ?_; with_reducible exact Eq.refl (α := State) _))

theorem execSeamLaneRetire_keeps {lane : Fin 16} {s : State} :
    Keeps { ev := true, nvme := true, seam := true, out := true } s (execSeamLaneRetire lane s) := by
  unfold execSeamLaneRetire
  with_reducible repeat' (first
    | exact Stays.rfl
    | exact Eq.refl (α := Mask) _
    | refine onlyIf_keeps ?_
    | refine (State.event_stays.up ?_).after ?_
    | refine (State.setLanes_stays.up ?_).after ?_)

theorem execSeamLinkUp_keeps {lanes : BitVec 16} {s : State} :
    Keeps { seam := true } s (execSeamLinkUp lanes s) := by
  unfold execSeamLinkUp
  with_reducible repeat' (first
    | exact Stays.rfl
    | exact Eq.refl (α := Mask) _
    | refine onlyIf_keeps ?_
    | refine (State.setLanes_stays.up ?_).after ?_
    | fail_if_no_progress (with_reducible refine (Stays.upd ?_).after ?_; with_reducible exact Eq.refl (α := State) _))

theorem State.ckptEpoch_stays {s : State} {high : Nat} :
    Stays { hem := true } s (State.ckptEpoch s high) := by
  unfold State.ckptEpoch
  with_reducible repeat' (first
    | exact Stays.rfl
    | refine (State.overCkpt_stays.up ?_).after ?_
    | exact Eq.refl (α := Mask) _
    | refine ite_stays ?_ ?_
    | fail_if_no_progress (with_reducible refine (Stays.upd ?_).after ?_; with_reducible exact Eq.refl (α := State) _))

theorem State.startStreams_stays {s : State} :
    Stays { head := true } s (State.startStreams s) := by
  unfold State.startStreams
  with_reducible repeat' (first
    | exact Stays.rfl
    | exact Eq.refl (α := Mask) _
    | refine (State.setStream_stays.up ?_).after ?_
    | refine (foldl_stays ?_).after ?_
    | refine (foldl2_stays ?_).after ?_
    | intro _ _
    | intro _
    | refine ite_stays ?_ ?_
    | fail_if_no_progress (with_reducible refine (Stays.upd ?_).after ?_; with_reducible exact Eq.refl (α := State) _))

theorem State.rebase_stays {s : State} :
    Stays { boot := true, time := true, hem := true, seam := true, head := true } s (State.rebase s) := by
  unfold State.rebase
  with_reducible repeat' (first
    | exact Stays.rfl
    | refine (State.ckptEpoch_stays.up ?_).after ?_
    | fail_if_no_progress (with_reducible refine (Stays.upd ?_).after ?_; with_reducible exact Eq.refl (α := State) _)
    | exact Eq.refl (α := Mask) _
    | refine (State.record_stays.up ?_).after ?_
    | refine (State.startStreams_stays.up ?_).after ?_
    | refine (foldl_stays ?_).after ?_
    | refine (foldl2_stays ?_).after ?_
    | intro _ _
    | intro _
    | fail_if_no_progress (with_reducible refine (Stays.upd ?_).after ?_; with_reducible exact Eq.refl (α := State) _)
    | (conv => arg 3; zeta); split
    | split)

theorem State.moveShard_stays {s : State} {site : Nat} :
    Stays { head := true } s (State.moveShard s site) := by
  unfold State.moveShard
  with_reducible repeat' (first
    | exact Stays.rfl
    | exact Eq.refl (α := Mask) _
    | refine (State.record_stays.up ?_).after ?_
    | refine (foldl_stays ?_).after ?_
    | refine (foldl2_stays ?_).after ?_
    | intro _ _
    | intro _
    | refine ite_stays ?_ ?_)

theorem State.noteFail_stays {s : State} {site : Nat} :
    Stays { head := true } s (State.noteFail s site) := by
  unfold State.noteFail
  with_reducible repeat' (first
    | exact Stays.rfl
    | refine (State.moveShard_stays.up ?_).after ?_
    | exact Eq.refl (α := Mask) _
    | refine (State.record_stays.up ?_).after ?_
    | intro _)

theorem State.recordFail_stays {s : State} {site : Nat} :
    Stays { head := true } s (State.recordFail s site) := by
  unfold State.recordFail
  with_reducible repeat' (first
    | exact Stays.rfl
    | refine (State.noteFail_stays.up ?_).after ?_
    | intro _
    | fail_if_no_progress (with_reducible refine (Stays.upd ?_).after ?_; with_reducible exact Eq.refl (α := State) _)
    | (conv => arg 3; zeta); split
    | split
    | exact Eq.refl (α := Mask) _
    | refine (State.moveShard_stays.up ?_).after ?_
    | refine (State.record_stays.up ?_).after ?_
    | refine ite_stays ?_ ?_)

theorem State.failSilent_stays {s : State} :
    Stays { head := true } s (State.failSilent s) := by
  unfold State.failSilent
  with_reducible repeat' (first
    | exact Stays.rfl
    | refine (State.noteFail_stays.up ?_).after ?_
    | exact Eq.refl (α := Mask) _
    | refine (State.record_stays.up ?_).after ?_
    | refine (foldl_stays ?_).after ?_
    | refine (foldl2_stays ?_).after ?_
    | intro _ _
    | intro _)

theorem State.becomeManager_stays {s : State} :
    Stays { boot := true, ledger := true, time := true, hem := true, seam := true, port := true, head := true, out := true } s (State.becomeManager s) := by
  unfold State.becomeManager
  with_reducible repeat' (first
    | exact Stays.rfl
    | refine (State.dropCollection_stays.up ?_).after ?_
    | exact Eq.refl (α := Mask) _
    | refine (State.rebase_stays.up ?_).after ?_
    | refine (State.failSilent_stays.up ?_).after ?_
    | refine (State.request_stays.up ?_).after ?_
    | refine (foldl_stays ?_).after ?_
    | refine (foldl2_stays ?_).after ?_
    | intro _ _
    | intro _
    | refine ite_stays ?_ ?_
    | fail_if_no_progress (with_reducible refine (Stays.upd ?_).after ?_; with_reducible exact Eq.refl (α := State) _))

theorem State.noteLease_stays {s : State} {site : Nat} {rec : LeaseRec} {ports : BitVec 2} :
    Stays { seam := true, head := true } s (State.noteLease s site rec ports) := by
  unfold State.noteLease
  with_reducible repeat' (first
    | exact Stays.rfl
    | exact Eq.refl (α := Mask) _
    | refine (State.setShelf_stays.up ?_).after ?_
    | fail_if_no_progress (with_reducible refine (Stays.upd ?_).after ?_; with_reducible exact Eq.refl (α := State) _))

theorem State.rejoin_stays {s0 : State} :
    Stays { boot := true, ledger := true, hem := true, nvme := true, seam := true, head := true, out := true } s0 (State.rejoin s0) := by
  unfold State.rejoin
  with_reducible repeat' (first
    | exact Stays.rfl
    | refine (State.dropJoinRecs_stays.up ?_).after ?_
    | refine (State.dropCollection_stays.up ?_).after ?_
    | intro _
    | exact Eq.refl (α := Mask) _
    | refine (State.anaUpdate_stays.up ?_).after ?_
    | fail_if_no_progress (with_reducible refine (Stays.upd ?_).after ?_; with_reducible exact Eq.refl (α := State) _))

theorem State.fenceStream_stays {s : State} {i : Nat} :
    Stays { head := true } s (State.fenceStream s i) := by
  unfold State.fenceStream
  with_reducible repeat' (first
    | exact Stays.rfl
    | exact Eq.refl (α := Mask) _
    | refine (State.setStream_stays.up ?_).after ?_)

theorem State.discardAfter_stays {s : State} {i e resume : Nat} :
    Stays { hem := true, head := true } s (State.discardAfter s i e resume) := by
  unfold State.discardAfter
  with_reducible repeat' (first
    | exact Stays.rfl
    | refine (State.dropHeaders_stays.up ?_).after ?_
    | intro _
    | (conv => arg 3; zeta); split
    | split
    | exact Eq.refl (α := Mask) _
    | refine (State.setStream_stays.up ?_).after ?_
    | fail_if_no_progress (with_reducible refine (Stays.upd ?_).after ?_; with_reducible exact Eq.refl (α := State) _))

theorem State.resumePasses_stays {s : State} {i : Nat} :
    Stays { head := true } s (State.resumePasses s i) := by
  unfold State.resumePasses
  with_reducible repeat' (first
    | exact Stays.rfl
    | refine ite_stays ?_ ?_
    | fail_if_no_progress (with_reducible refine (Stays.upd ?_).after ?_; with_reducible exact Eq.refl (α := State) _))

theorem State.abandon_stays {s : State} {id count : Nat} {sites : List Nat} :
    Stays { hem := true, port := true, head := true, out := true } s (State.abandon s id count sites) := by
  unfold State.abandon
  with_reducible repeat' (first
    | exact Stays.rfl
    | exact Eq.refl (α := Mask) _
    | refine (State.setMd_stays.up ?_).after ?_
    | refine (State.toShelf_stays.up ?_).after ?_
    | refine (State.freeSif_stays.up ?_).after ?_
    | refine (foldl_stays ?_).after ?_
    | refine (foldl2_stays ?_).after ?_
    | intro _ _
    | intro _
    | fail_if_no_progress (with_reducible refine (Stays.upd ?_).after ?_; with_reducible exact Eq.refl (α := State) _))

theorem State.dropTargets_stays {s : State} {i : Nat} :
    Stays { hem := true, port := true, head := true, out := true } s (State.dropTargets s i) := by
  unfold State.dropTargets
  with_reducible repeat' (first
    | exact Stays.rfl
    | exact Eq.refl (α := Mask) _
    | refine (State.abandon_stays.up ?_).after ?_
    | refine (foldl_stays ?_).after ?_
    | refine (foldl2_stays ?_).after ?_
    | intro _ _
    | intro _)

theorem State.takeOver_stays {s : State} {c : ClaimSt} :
    Stays { boot := true, ledger := true, time := true, ev := true, hem := true, nvme := true, seam := true, digest := true, cam := true, cipher := true, port := true, head := true, repl := true, free := true, out := true } s (State.takeOver s c) := by
  unfold State.takeOver
  with_reducible repeat' (first
    | exact Stays.rfl
    | refine (State.applyReady_stays.up ?_).after ?_
    | refine (State.drainAll_stays.up ?_).after ?_
    | refine (State.dropTargets_stays.up ?_).after ?_
    | refine ite_stays ?_ ?_
    | exact Eq.refl (α := Mask) _
    | refine (State.anaUpdate_stays.up ?_).after ?_
    | refine (State.adminCheck_stays.up ?_).after ?_
    | refine (State.becomeManager_stays.up ?_).after ?_
    | refine (State.discardAfter_stays.up ?_).after ?_
    | refine (State.resumePasses_stays.up ?_).after ?_
    | refine (foldl_stays ?_).after ?_
    | refine (foldl2_stays ?_).after ?_
    | intro _ _
    | intro _
    | fail_if_no_progress (with_reducible refine (Stays.upd ?_).after ?_; with_reducible exact Eq.refl (α := State) _))

theorem State.sendClaim_stays {s : State} {gen stream streamGen resume : Nat} :
    Stays { port := true, head := true, out := true } s (State.sendClaim s gen stream streamGen resume) := by
  unfold State.sendClaim
  with_reducible repeat' (first
    | exact Stays.rfl
    | exact Eq.refl (α := Mask) _
    | refine (State.toAll_stays.up ?_).after ?_
    | fail_if_no_progress (with_reducible refine (Stays.upd ?_).after ?_; with_reducible exact Eq.refl (α := State) _))

theorem State.sendClaims_stays {s : State} {gen : Nat} {x0 : List (Nat × Nat × Nat)} :
    Stays { port := true, head := true, out := true } s (State.sendClaims s gen x0) := by
  induction x0 generalizing s gen with
  | nil =>
    unfold State.sendClaims
    with_reducible exact Stays.rfl
  | cons y ys ih =>
    unfold State.sendClaims
    with_reducible repeat' (first
      | exact Stays.rfl
      | refine (State.sendClaim_stays.up ?_).after ?_
      | refine ih.after ?_
      | exact Eq.refl (α := Mask) _
      | refine (State.toAll_stays.up ?_).after ?_)

theorem execPeerLost_keeps {s0 : State} :
    Keeps { time := true, ev := true, nvme := true, seam := true, port := true, head := true, out := true } s0 (execPeerLost s0) := by
  unfold execPeerLost
  with_reducible repeat' (first
    | exact Stays.rfl
    | refine keeps_next ?_
    | refine ite_keeps ?_ ?_
    | refine onlyIf_keeps ?_ ?_
    | refine (State.fenceStream_stays.up ?_).after ?_
    | refine (State.sendClaim_stays.up ?_).after ?_
    | refine (foldl_stays ?_).after ?_
    | refine (foldl2_stays ?_).after ?_
    | intro _ _
    | intro _
    | refine ite_stays ?_ ?_
    | split
    | exact Eq.refl (α := Mask) _
    | refine onlyIf_keeps ?_
    | refine (State.alarm_stays.up ?_).after ?_
    | refine (State.anaUpdate_stays.up ?_).after ?_
    | refine (State.sendClaims_stays.up ?_).after ?_
    | refine (State.timeEval_stays.up ?_).after ?_
    | fail_if_no_progress (with_reducible refine (Stays.upd ?_).after ?_; with_reducible exact Eq.refl (α := State) _))

theorem execClaimReply_keeps {h : FrameHdr} {status : Nat} {rec : LeaseRec} {ports : BitVec 2} {prior : Nat} {s : State} :
    Keeps { boot := true, ledger := true, ring := true, hem := true, nvme := true, seam := true, port := true, head := true, out := true } s (execClaimReply h status rec ports prior s) := by
  unfold execClaimReply
  with_reducible repeat' (first
    | exact Stays.rfl
    | exact Eq.refl (α := Mask) _
    | refine onlyIf_keeps ?_
    | refine keeps_next ?_
    | refine ite_keeps ?_ ?_
    | refine onFrame_keeps ?_ ?_
    | refine (State.replied_stays.up ?_).after ?_
    | refine (State.noteLease_stays.up ?_).after ?_
    | refine (State.rejoin_stays.up ?_).after ?_
    | refine (State.setShelf_stays.up ?_).after ?_
    | intro _
    | refine ite_stays ?_ ?_
    | fail_if_no_progress (with_reducible refine (Stays.upd ?_).after ?_; with_reducible exact Eq.refl (α := State) _)
    | (conv => arg 3; zeta); split
    | split)

theorem execLeaseClaimWon_keeps {s : State} :
    Keeps { boot := true, ledger := true, time := true, ev := true, hem := true, nvme := true, seam := true, digest := true, cam := true, cipher := true, port := true, head := true, repl := true, free := true, out := true } s (execLeaseClaimWon s) := by
  unfold execLeaseClaimWon
  with_reducible repeat' (first
    | exact Stays.rfl
    | exact Eq.refl (α := Mask) _
    | refine onlyIf_keeps ?_
    | refine keeps_next ?_
    | refine ite_keeps ?_ ?_
    | refine (State.takeOver_stays.up ?_).after ?_
    | intro _
    | refine ite_stays ?_ ?_
    | fail_if_no_progress (with_reducible refine (Stays.upd ?_).after ?_; with_reducible exact Eq.refl (α := State) _)
    | (conv => arg 3; zeta); split
    | split)

theorem execLeaseClaimTimeout_keeps {s : State} :
    Keeps { ev := true, nvme := true, seam := true, out := true } s (execLeaseClaimTimeout s) := by
  unfold execLeaseClaimTimeout
  with_reducible repeat' (first
    | exact Stays.rfl
    | exact Eq.refl (α := Mask) _
    | refine keeps_next ?_
    | refine (State.alarm_stays.up ?_).after ?_
    | refine (State.anaUpdate_stays.up ?_).after ?_
    | refine ite_stays ?_ ?_
    | fail_if_no_progress (with_reducible refine (Stays.upd ?_).after ?_; with_reducible exact Eq.refl (α := State) _)
    | split)

theorem State.inherit_stays {s : State} :
    Stays { boot := true, time := true, ev := true, nvme := true, seam := true, out := true } s (State.inherit s) := by
  unfold State.inherit
  with_reducible repeat' (first
    | exact Stays.rfl
    | refine (State.timeEval_stays.up ?_).after ?_
    | exact Eq.refl (α := Mask) _
    | fail_if_no_progress (with_reducible refine (Stays.upd ?_).after ?_; with_reducible exact Eq.refl (α := State) _))

theorem execSeamRelease_keeps {i : Fin 2} {lastEpn nextSsn : Nat} {s : State} :
    Keeps { boot := true, ledger := true, time := true, ev := true, hem := true, nvme := true, seam := true, digest := true, cam := true, cipher := true, port := true, head := true, repl := true, free := true, out := true } s (execSeamRelease i lastEpn nextSsn s) := by
  unfold execSeamRelease
  with_reducible repeat' (first
    | exact Stays.rfl
    | exact Eq.refl (α := Mask) _
    | refine onlyIf_keeps ?_
    | refine keeps_next ?_
    | refine ite_keeps ?_ ?_
    | refine onSeam_keeps ?_ ?_
    | refine (State.fenceStream_stays.up ?_).after ?_
    | refine (State.takeOver_stays.up ?_).after ?_
    | refine (State.inherit_stays.up ?_).after ?_
    | refine (State.timeEval_stays.up ?_).after ?_
    | intro _
    | refine ite_stays ?_ ?_
    | fail_if_no_progress (with_reducible refine (Stays.upd ?_).after ?_; with_reducible exact Eq.refl (α := State) _)
    | (conv => arg 3; zeta); split
    | split)

theorem execTakeoverAdmitStart_keeps {i : Fin 2} {s : State} :
    Keeps { ev := true, nvme := true, seam := true, head := true, out := true } s (execTakeoverAdmitStart i s) := by
  unfold execTakeoverAdmitStart
  with_reducible repeat' (first
    | exact Stays.rfl
    | exact Eq.refl (α := Mask) _
    | refine keeps_next ?_
    | refine (State.anaUpdate_stays.up ?_).after ?_
    | refine (State.event_stays.up ?_).after ?_
    | refine (State.setStream_stays.up ?_).after ?_
    | refine ite_stays ?_ ?_
    | fail_if_no_progress (with_reducible refine (Stays.upd ?_).after ?_; with_reducible exact Eq.refl (α := State) _)
    | split)

theorem State.sendRenewal_stays {s : State} :
    Stays { seam := true, port := true, head := true, out := true } s (State.sendRenewal s) := by
  unfold State.sendRenewal
  with_reducible repeat' (first
    | exact Stays.rfl
    | exact Eq.refl (α := Mask) _
    | refine (State.toAll_stays.up ?_).after ?_
    | fail_if_no_progress (with_reducible refine (Stays.upd ?_).after ?_; with_reducible exact Eq.refl (α := State) _))

theorem execLeaseRenewalWindow_keeps {s : State} :
    Keeps { time := true, eng := true, seam := true, port := true, head := true, out := true } s (execLeaseRenewalWindow s) := by
  unfold execLeaseRenewalWindow
  with_reducible repeat' (first
    | exact Stays.rfl
    | refine keeps_next ?_
    | refine ite_keeps ?_ ?_
    | refine onlyIf_keeps ?_ ?_
    | refine (State.inWindow_stays.up ?_).after ?_
    | intro _
    | exact Eq.refl (α := Mask) _
    | refine onlyIf_keeps ?_
    | refine (State.sendRenewal_stays.up ?_).after ?_
    | refine (State.toWindow_stays.up ?_).after ?_)

theorem State.takeReleased_stays {s0 : State} {i : Nat} :
    Stays { boot := true, ledger := true, time := true, ev := true, hem := true, nvme := true, seam := true, digest := true, cam := true, cipher := true, port := true, head := true, repl := true, free := true, out := true } s0 (State.takeReleased s0 i) := by
  unfold State.takeReleased
  with_reducible repeat' (first
    | exact Stays.rfl
    | exact Eq.refl (α := Mask) _
    | refine (State.fenceStream_stays.up ?_).after ?_
    | refine (State.takeOver_stays.up ?_).after ?_
    | refine (State.timeEval_stays.up ?_).after ?_
    | refine ite_stays ?_ ?_
    | fail_if_no_progress (with_reducible refine (Stays.upd ?_).after ?_; with_reducible exact Eq.refl (α := State) _))

theorem State.takeBase_stays {s : State} {rec : LeaseRec} :
    Stays { boot := true, time := true, head := true } s (State.takeBase s rec) := by
  unfold State.takeBase
  with_reducible repeat' (first
    | exact Stays.rfl
    | refine (State.startStreams_stays.up ?_).after ?_
    | exact Eq.refl (α := Mask) _
    | refine ite_stays ?_ ?_
    | fail_if_no_progress (with_reducible refine (Stays.upd ?_).after ?_; with_reducible exact Eq.refl (α := State) _))

theorem execRenewReply_keeps {h : FrameHdr} {status : Nat} {rec : LeaseRec} {ports : BitVec 2} {s : State} :
    Keeps { boot := true, ledger := true, time := true, ev := true, ring := true, hem := true, nvme := true, seam := true, digest := true, cam := true, cipher := true, port := true, head := true, repl := true, free := true, out := true } s (execRenewReply h status rec ports s) := by
  unfold execRenewReply
  with_reducible repeat' (first
    | exact Stays.rfl
    | refine (State.drainAll_stays.up ?_).after ?_
    | fail_if_no_progress (with_reducible refine (Stays.upd ?_).after ?_; with_reducible exact Eq.refl (α := State) _)
    | refine onlyIf_keeps ?_
    | refine keeps_next ?_
    | refine ite_keeps ?_ ?_
    | refine (State.takeBase_stays.up ?_).after ?_
    | fail_if_no_progress (with_reducible refine (Stays.upd ?_).after ?_; with_reducible exact Eq.refl (α := State) _)
    | (conv => arg 3; zeta); split
    | exact Eq.refl (α := Mask) _
    | refine onFrame_keeps ?_ ?_
    | refine (State.anaUpdate_stays.up ?_).after ?_
    | refine (State.becomeManager_stays.up ?_).after ?_
    | refine (State.clearAlarm_stays.up ?_).after ?_
    | refine (State.noteLease_stays.up ?_).after ?_
    | refine (State.rejoin_stays.up ?_).after ?_
    | refine (State.takeReleased_stays.up ?_).after ?_
    | refine ite_stays ?_ ?_
    | fail_if_no_progress (with_reducible refine (Stays.upd ?_).after ?_; with_reducible exact Eq.refl (α := State) _)
    | split
    | intro _)

theorem execLeaseGrantExpiry_keeps {s : State} :
    Keeps { ev := true, nvme := true, seam := true, out := true } s (execLeaseGrantExpiry s) := by
  unfold execLeaseGrantExpiry
  with_reducible repeat' (first
    | exact Stays.rfl
    | exact Eq.refl (α := Mask) _
    | refine onlyIf_keeps ?_
    | refine (State.alarm_stays.up ?_).after ?_
    | refine (State.anaUpdate_stays.up ?_).after ?_
    | fail_if_no_progress (with_reducible refine (Stays.upd ?_).after ?_; with_reducible exact Eq.refl (α := State) _))

theorem execManagerBootWaitExpiry_keeps {s : State} :
    Keeps { port := true, head := true, out := true } s (execManagerBootWaitExpiry s) := by
  unfold execManagerBootWaitExpiry
  with_reducible repeat' (first
    | exact Stays.rfl
    | exact Eq.refl (α := Mask) _
    | refine onlyIf_keeps ?_
    | refine (State.toAll_stays.up ?_).after ?_)

theorem execHeartbeatWindow_keeps {s : State} :
    Keeps { time := true, eng := true, seam := true, port := true, head := true, out := true } s (execHeartbeatWindow s) := by
  unfold execHeartbeatWindow
  with_reducible repeat' (first
    | exact Stays.rfl
    | refine keeps_next ?_
    | refine ite_keeps ?_ ?_
    | refine onlyIf_keeps ?_ ?_
    | refine (State.inWindow_stays.up ?_).after ?_
    | intro _
    | exact Eq.refl (α := Mask) _
    | refine onlyIf_keeps ?_
    | refine (State.sendSeam_stays.up ?_).after ?_
    | refine (State.toAll_stays.up ?_).after ?_
    | refine (State.toWindow_stays.up ?_).after ?_)

theorem State.peerSays_stays {s : State} {h : Heartbeat} :
    Stays { ledger := true, seam := true, out := true } s (State.peerSays s h) := by
  unfold State.peerSays
  with_reducible repeat' (first
    | exact Stays.rfl
    | exact Eq.refl (α := Mask) _
    | refine (State.sendSeam_stays.up ?_).after ?_
    | refine ite_stays ?_ ?_
    | fail_if_no_progress (with_reducible refine (Stays.upd ?_).after ?_; with_reducible exact Eq.refl (α := State) _))

theorem State.exchange_stays {s : State} {h : Heartbeat} :
    Stays { time := true, ev := true, nvme := true, out := true } s (State.exchange s h) := by
  unfold State.exchange
  with_reducible repeat' (first
    | exact Stays.rfl
    | refine (State.follow_stays.up ?_).after ?_
    | exact Eq.refl (α := Mask) _
    | refine (State.skewSample_stays.up ?_).after ?_
    | refine (State.slewT_stays.up ?_).after ?_
    | refine ite_stays ?_ ?_)

theorem State.acquirePeer_stays {s : State} {h : Heartbeat} :
    Stays { time := true, ev := true, nvme := true, out := true } s (State.acquirePeer s h) := by
  unfold State.acquirePeer
  with_reducible repeat' (first
    | exact Stays.rfl
    | exact Eq.refl (α := Mask) _
    | refine (State.startT_stays.up ?_).after ?_
    | refine ite_stays ?_ ?_)

theorem execSeamHeartbeat_keeps {h : Heartbeat} {s : State} :
    Keeps { ledger := true, time := true, ev := true, nvme := true, seam := true, out := true } s (execSeamHeartbeat h s) := by
  unfold execSeamHeartbeat
  with_reducible repeat' (first
    | exact Stays.rfl
    | refine onSeam_keeps ?_ ?_
    | fail_if_no_progress (with_reducible refine (Stays.upd ?_).after ?_; with_reducible exact Eq.refl (α := State) _)
    | exact Eq.refl (α := Mask) _
    | refine onlyIf_keeps ?_
    | refine keeps_next ?_
    | refine ite_keeps ?_ ?_
    | refine onlyIf_keeps ?_ ?_
    | refine (State.anaUpdate_stays.up ?_).after ?_
    | refine (State.adminCheck_stays.up ?_).after ?_
    | refine (State.peerSays_stays.up ?_).after ?_
    | refine (State.exchange_stays.up ?_).after ?_
    | refine (State.acquirePeer_stays.up ?_).after ?_
    | refine (State.rxSeam_stays.up ?_).after ?_
    | refine (State.timeEval_stays.up ?_).after ?_
    | intro _
    | refine ite_stays ?_ ?_
    | fail_if_no_progress (with_reducible refine (Stays.upd ?_).after ?_; with_reducible exact Eq.refl (α := State) _)
    | split)

theorem State.pathBHeard_stays {s : State} {h : Heartbeat} :
    Stays { ledger := true, time := true, ev := true, nvme := true, seam := true, out := true } s (State.pathBHeard s h) := by
  unfold State.pathBHeard
  with_reducible repeat' (first
    | exact Stays.rfl
    | exact Eq.refl (α := Mask) _
    | refine (State.anaUpdate_stays.up ?_).after ?_
    | refine (State.adminCheck_stays.up ?_).after ?_
    | refine (State.peerSays_stays.up ?_).after ?_
    | refine (State.timeEval_stays.up ?_).after ?_
    | fail_if_no_progress (with_reducible refine (Stays.upd ?_).after ?_; with_reducible exact Eq.refl (α := State) _))

theorem State.hbBoundary_stays {s : State} {n : Nat} :
    Stays { seam := true } s (State.hbBoundary s n) := by
  unfold State.hbBoundary
  with_reducible repeat' (first
    | exact Stays.rfl
    | fail_if_no_progress (with_reducible refine (Stays.upd ?_).after ?_; with_reducible exact Eq.refl (α := State) _))

theorem execHbLossPathB_keeps {s : State} :
    Keeps { ev := true, nvme := true, out := true } s (execHbLossPathB s) := by
  unfold execHbLossPathB
  with_reducible repeat' (first
    | exact Stays.rfl
    | exact Eq.refl (α := Mask) _
    | refine onlyIf_keeps ?_
    | refine (State.alarm_stays.up ?_).after ?_)

theorem execHbLossPathA_keeps {s : State} :
    Keeps { ev := true, nvme := true, seam := true, head := true, out := true } s (execHbLossPathA s) := by
  unfold execHbLossPathA
  with_reducible repeat' (first
    | exact Stays.rfl
    | exact Eq.refl (α := Mask) _
    | refine onlyIf_keeps ?_
    | refine (State.alarm_stays.up ?_).after ?_
    | refine (State.standDown_stays.up ?_).after ?_
    | refine ite_stays ?_ ?_)

theorem execHbPathRestored_keeps {b : Bool} {s : State} :
    Keeps { ev := true, nvme := true, out := true } s (execHbPathRestored b s) := by
  unfold execHbPathRestored
  with_reducible repeat' (first
    | exact Stays.rfl
    | exact Eq.refl (α := Mask) _
    | refine onlyIf_keeps ?_
    | refine (State.clearAlarm_stays.up ?_).after ?_)

theorem State.countReports_stays {s : State} {site count : Nat} :
    Stays { seam := true } s (State.countReports s site count) := by
  unfold State.countReports
  with_reducible repeat' (first
    | exact Stays.rfl
    | exact Eq.refl (α := Mask) _
    | intro _
    | fail_if_no_progress (with_reducible refine (Stays.upd ?_).after ?_; with_reducible exact Eq.refl (α := State) _))

theorem execSuspectDeclare_keeps {site : Fin 2} {count : Nat} {s0 : State} :
    Keeps { ev := true, nvme := true, seam := true, head := true, out := true } s0 (execSuspectDeclare site count s0) := by
  unfold execSuspectDeclare
  with_reducible repeat' (first
    | exact Stays.rfl
    | refine keeps_next ?_
    | refine ite_keeps ?_ ?_
    | refine onlyIf_keeps ?_ ?_
    | refine (State.countReports_stays.up ?_).after ?_
    | intro _
    | split
    | exact Eq.refl (α := Mask) _
    | refine onlyIf_keeps ?_
    | refine (State.alarm_stays.up ?_).after ?_
    | refine (State.standDown_stays.up ?_).after ?_
    | refine ite_stays ?_ ?_
    | fail_if_no_progress (with_reducible refine (Stays.upd ?_).after ?_; with_reducible exact Eq.refl (α := State) _))

theorem State.enterService_stays {s : State} :
    Stays { time := true, ev := true, nvme := true, seam := true, port := true, head := true, out := true } s (State.enterService s) := by
  unfold State.enterService
  with_reducible repeat' (first
    | exact Stays.rfl
    | exact Eq.refl (α := Mask) _
    | refine (State.anaUpdate_stays.up ?_).after ?_
    | refine (State.event_stays.up ?_).after ?_
    | refine (State.clearAlarm_stays.up ?_).after ?_
    | refine (State.sendRenewal_stays.up ?_).after ?_
    | refine (State.timeEval_stays.up ?_).after ?_
    | fail_if_no_progress (with_reducible refine (Stays.upd ?_).after ?_; with_reducible exact Eq.refl (α := State) _))

theorem execRejoinEnterService_keeps {s : State} :
    Keeps { boot := true, ledger := true, time := true, ev := true, nvme := true, seam := true, port := true, head := true, out := true } s (execRejoinEnterService s) := by
  unfold execRejoinEnterService
  with_reducible repeat' (first
    | exact Stays.rfl
    | refine keeps_next ?_
    | refine ite_keeps ?_ ?_
    | refine onlyIf_keeps ?_ ?_
    | refine (State.enterService_stays.up ?_).after ?_
    | intro _
    | split
    | exact Eq.refl (α := Mask) _
    | refine onlyIf_keeps ?_
    | refine (State.anaUpdate_stays.up ?_).after ?_
    | refine (State.clearAlarm_stays.up ?_).after ?_
    | refine (State.event_stays.up ?_).after ?_
    | refine (State.sendRenewal_stays.up ?_).after ?_
    | refine (State.toStage_stays.up ?_).after ?_
    | refine ite_stays ?_ ?_
    | fail_if_no_progress (with_reducible refine (Stays.upd ?_).after ?_; with_reducible exact Eq.refl (α := State) _))

theorem execLedgerRec_keeps {record : Bytes} {s : State} :
    Keeps { nor := true, ledger := true, hem := true, seam := true, head := true, free := true } s (execLedgerRec record s) := by
  unfold execLedgerRec
  with_reducible repeat' (first
    | exact Stays.rfl
    | refine onSeam_keeps ?_ ?_
    | fail_if_no_progress (with_reducible refine (Stays.upd ?_).after ?_; with_reducible exact Eq.refl (α := State) _)
    | refine keeps_next ?_
    | refine ite_keeps ?_ ?_
    | refine onlyIf_keeps ?_ ?_
    | intro _
    | fail_if_no_progress (with_reducible refine (Stays.upd ?_).after ?_; with_reducible exact Eq.refl (α := State) _)
    | exact Eq.refl (α := Mask) _
    | refine onlyIf_keeps ?_
    | refine (State.rxSeam_stays.up ?_).after ?_
    | refine (State.takeRecord_stays.up ?_).after ?_)

theorem State.darnCkpt_stays {s : State} {i : Nat} :
    Stays { hem := true, head := true } s (State.darnCkpt s i) := by
  unfold State.darnCkpt
  with_reducible repeat' (first
    | exact Stays.rfl
    | exact Eq.refl (α := Mask) _
    | refine (State.ckptDarn_stays.up ?_).after ?_
    | refine (State.setStream_stays.up ?_).after ?_
    | refine ite_stays ?_ ?_
    | fail_if_no_progress (with_reducible refine (Stays.upd ?_).after ?_; with_reducible exact Eq.refl (α := State) _))

theorem State.refoldCkpt_stays {s : State} {i : Nat} :
    Stays { hem := true, head := true } s (State.refoldCkpt s i) := by
  unfold State.refoldCkpt
  with_reducible repeat' (first
    | exact Stays.rfl
    | exact Eq.refl (α := Mask) _
    | refine (State.ckptRefold_stays.up ?_).after ?_
    | refine (State.setStream_stays.up ?_).after ?_
    | refine ite_stays ?_ ?_
    | fail_if_no_progress (with_reducible refine (Stays.upd ?_).after ?_; with_reducible exact Eq.refl (α := State) _))

end Sys2Proof.Machine
end

