-- ==== Sys2Proof/Laws/StaysSpoke.lean ====
section
/-! SUPPORT. The operations of Machine/Spoke.lean keep the fixed part and the form of the tables. -/

namespace Sys2Proof.Machine

theorem State.sendHello_stays {s : State} {p : Nat} :
    Stays { port := true, out := true } s (State.sendHello s p) := by
  unfold State.sendHello
  with_reducible repeat' (first
    | exact Stays.rfl
    | exact Eq.refl (α := Mask) _
    | refine (State.setPort_stays.up ?_).after ?_
    | refine (State.txBare_stays.up ?_).after ?_)

theorem State.spokeTrained_stays {s : State} {p : Nat} :
    Stays { port := true, out := true } s (State.spokeTrained s p) := by
  unfold State.spokeTrained
  with_reducible repeat' (first
    | exact Stays.rfl
    | exact Eq.refl (α := Mask) _
    | refine (State.sendHello_stays.up ?_).after ?_
    | refine (State.setPort_stays.up ?_).after ?_)

theorem execSpokeTrainingDone_keeps {p : Fin 64} {s : State} :
    Keeps { port := true, out := true } s (execSpokeTrainingDone p s) := by
  unfold execSpokeTrainingDone
  with_reducible repeat' (first
    | exact Stays.rfl
    | exact Eq.refl (α := Mask) _
    | refine onlyIf_keeps ?_
    | refine (State.spokeTrained_stays.up ?_).after ?_)

theorem execSpokeTrainingRetry_keeps {p : Fin 64} {s : State} :
    Keeps { port := true } s (execSpokeTrainingRetry p s) := by
  unfold execSpokeTrainingRetry
  with_reducible repeat' (first
    | exact Stays.rfl
    | exact Eq.refl (α := Mask) _
    | refine onlyIf_keeps ?_
    | refine (State.setPort_stays.up ?_).after ?_)

theorem State.resendPort_stays {s : State} {p : Nat} :
    Stays { port := true, out := true } s (State.resendPort s p) := by
  unfold State.resendPort
  with_reducible repeat' (first
    | exact Stays.rfl
    | refine (State.putFrame_stays.up ?_).after ?_
    | refine (foldl2_stays ?_).after ?_
    | intro _
    | fail_if_no_progress (with_reducible refine (Stays.upd ?_).after ?_; with_reducible exact Eq.refl (α := State) _)
    | exact Eq.refl (α := Mask) _
    | refine (State.emit_stays.up ?_).after ?_
    | refine (State.setPort_stays.up ?_).after ?_
    | refine (foldl_stays ?_).after ?_
    | intro _ _)

theorem execLinkAck_keeps {p : Fin 64} {ackLsn : Nat} {s : State} :
    Keeps { ring := true, port := true } s (execLinkAck p ackLsn s) := by
  unfold execLinkAck
  with_reducible repeat' (first
    | exact Stays.rfl
    | exact Eq.refl (α := Mask) _
    | refine onlyIf_keeps ?_
    | refine (State.linkAcked_stays.up ?_).after ?_)

theorem execNak_keeps {p : Fin 64} {ackLsn : Nat} {s : State} :
    Keeps { ring := true, port := true, out := true } s (execNak p ackLsn s) := by
  unfold execNak
  with_reducible repeat' (first
    | exact Stays.rfl
    | exact Eq.refl (α := Mask) _
    | refine onlyIf_keeps ?_
    | refine (State.linkAcked_stays.up ?_).after ?_
    | refine (State.resendPort_stays.up ?_).after ?_)

theorem execLinkAckTimer_keeps {p : Fin 64} {s : State} :
    Keeps { out := true } s (execLinkAckTimer p s) := by
  unfold execLinkAckTimer
  with_reducible repeat' (first
    | exact Stays.rfl
    | exact Eq.refl (α := Mask) _
    | refine onlyIf_keeps ?_
    | refine (State.txBare_stays.up ?_).after ?_)

theorem execCredit_keeps {h : FrameHdr} {w q : Nat} {s : State} :
    Keeps { ring := true, port := true, head := true, out := true } s (execCredit h w q s) := by
  unfold execCredit
  with_reducible repeat' (first
    | exact Stays.rfl
    | exact Eq.refl (α := Mask) _
    | refine onFrame_keeps ?_ ?_
    | refine (State.pump_stays.up ?_).after ?_
    | refine (State.setPort_stays.up ?_).after ?_
    | refine ite_stays ?_ ?_
    | intro _)

theorem State.sendCredit_stays {s : State} {p : Nat} :
    Stays { port := true, out := true } s (State.sendCredit s p) := by
  unfold State.sendCredit
  with_reducible repeat' (first
    | exact Stays.rfl
    | exact Eq.refl (α := Mask) _
    | refine (State.setPort_stays.up ?_).after ?_
    | refine (State.txFrame_stays.up ?_).after ?_
    | refine ite_stays ?_ ?_)

theorem State.giveCredit_stays {s : State} {p w q : Nat} :
    Stays { port := true, out := true } s (State.giveCredit s p w q) := by
  unfold State.giveCredit
  with_reducible repeat' (first
    | exact Stays.rfl
    | exact Eq.refl (α := Mask) _
    | refine (State.sendCredit_stays.up ?_).after ?_
    | refine (State.setPort_stays.up ?_).after ?_
    | refine ite_stays ?_ ?_)

theorem execCreditReturnTimer_keeps {p : Fin 64} {s : State} :
    Keeps { port := true, out := true } s (execCreditReturnTimer p s) := by
  unfold execCreditReturnTimer
  with_reducible repeat' (first
    | exact Stays.rfl
    | exact Eq.refl (α := Mask) _
    | refine onlyIf_keeps ?_
    | refine (State.sendCredit_stays.up ?_).after ?_)

theorem execSpokeFrameBad_keeps {p : Fin 64} {s : State} :
    Keeps { ev := true, nvme := true, port := true, out := true } s (execSpokeFrameBad p s) := by
  unfold execSpokeFrameBad
  with_reducible repeat' (first
    | exact Stays.rfl
    | refine keeps_next ?_
    | refine ite_keeps ?_ ?_
    | refine onlyIf_keeps ?_ ?_
    | intro _
    | refine ite_stays ?_ ?_
    | fail_if_no_progress (with_reducible refine (Stays.upd ?_).after ?_; with_reducible exact Eq.refl (α := State) _)
    | split
    | exact Eq.refl (α := Mask) _
    | refine onlyIf_keeps ?_
    | refine (State.event_stays.up ?_).after ?_
    | refine (State.setPort_stays.up ?_).after ?_
    | refine (State.txBare_stays.up ?_).after ?_)

theorem State.portDown_stays {s : State} {p : Nat} :
    Stays { ev := true, ring := true, nvme := true, port := true, head := true, out := true } s (State.portDown s p) := by
  unfold State.portDown
  with_reducible repeat' (first
    | exact Stays.rfl
    | exact Eq.refl (α := Mask) _
    | refine (State.alarm_stays.up ?_).after ?_
    | refine (State.endJob_stays.up ?_).after ?_
    | refine (State.event_stays.up ?_).after ?_
    | refine (State.setPort_stays.up ?_).after ?_
    | refine (State.setShelf_stays.up ?_).after ?_
    | refine (foldl_stays ?_).after ?_
    | refine ite_stays ?_ ?_
    | intro _ _)

theorem execSpokePortSilence_keeps {p : Fin 64} {s : State} :
    Keeps { ev := true, ring := true, nvme := true, port := true, head := true, out := true } s (execSpokePortSilence p s) := by
  unfold execSpokePortSilence
  with_reducible repeat' (first
    | exact Stays.rfl
    | exact Eq.refl (α := Mask) _
    | refine onlyIf_keeps ?_
    | refine (State.portDown_stays.up ?_).after ?_)

theorem execSpokePcsLockLoss_keeps {p : Fin 64} {s : State} :
    Keeps { ev := true, ring := true, nvme := true, port := true, head := true, out := true } s (execSpokePcsLockLoss p s) := by
  unfold execSpokePcsLockLoss
  with_reducible repeat' (first
    | exact Stays.rfl
    | exact Eq.refl (α := Mask) _
    | refine onlyIf_keeps ?_
    | refine (State.portDown_stays.up ?_).after ?_)

theorem execSpokeReplayTimeout_keeps {p : Fin 64} {s : State} :
    Keeps { ev := true, ring := true, nvme := true, port := true, head := true, out := true } s (execSpokeReplayTimeout p s) := by
  unfold execSpokeReplayTimeout
  with_reducible repeat' (first
    | exact Stays.rfl
    | exact Eq.refl (α := Mask) _
    | refine onlyIf_keeps ?_
    | refine (State.event_stays.up ?_).after ?_
    | refine (State.portDown_stays.up ?_).after ?_
    | refine (State.resendPort_stays.up ?_).after ?_
    | refine (State.setPort_stays.up ?_).after ?_
    | refine ite_stays ?_ ?_)

theorem State.resendSite_stays {s : State} {site : Nat} :
    Stays { port := true, head := true, out := true } s (State.resendSite s site) := by
  unfold State.resendSite
  with_reducible repeat' (first
    | exact Stays.rfl
    | exact Eq.refl (α := Mask) _
    | refine (State.pump_stays.up ?_).after ?_
    | fail_if_no_progress (with_reducible refine (Stays.upd ?_).after ?_; with_reducible exact Eq.refl (α := State) _))

theorem State.shelfBack_stays {s0 : State} {site : Nat} :
    Stays { port := true, head := true, out := true } s0 (State.shelfBack s0 site) := by
  unfold State.shelfBack
  with_reducible repeat' (first
    | exact Stays.rfl
    | refine (State.recordFail_stays.up ?_).after ?_
    | intro _
    | refine (State.request_stays.up ?_).after ?_
    | exact Eq.refl (α := Mask) _
    | refine (State.record_stays.up ?_).after ?_
    | refine ite_stays ?_ ?_)

theorem State.portUp_stays {s : State} {p : Nat} {h : Hello} :
    Stays { ev := true, nvme := true, port := true, head := true, out := true } s (State.portUp s p h) := by
  unfold State.portUp
  with_reducible repeat' (first
    | exact Stays.rfl
    | exact Eq.refl (α := Mask) _
    | refine (State.clearAlarm_stays.up ?_).after ?_
    | refine (State.resendSite_stays.up ?_).after ?_
    | refine (State.setPort_stays.up ?_).after ?_
    | refine (State.setShelf_stays.up ?_).after ?_
    | refine (State.shelfBack_stays.up ?_).after ?_
    | refine ite_stays ?_ ?_)

theorem State.identify_stays {s : State} {p : Nat} {h : Hello} :
    Stays { ev := true, nvme := true, port := true, head := true, out := true } s (State.identify s p h) := by
  unfold State.identify
  with_reducible repeat' (first
    | exact Stays.rfl
    | exact Eq.refl (α := Mask) _
    | refine (State.alarm_stays.up ?_).after ?_
    | refine (State.portUp_stays.up ?_).after ?_
    | refine (State.setPort_stays.up ?_).after ?_
    | refine ite_stays ?_ ?_)

theorem execHello_keeps {p : Fin 64} {h : Hello} {round : Nat} {s : State} :
    Keeps { ev := true, nvme := true, port := true, head := true, out := true } s (execHello p h round s) := by
  unfold execHello
  with_reducible repeat' (first
    | exact Stays.rfl
    | exact Eq.refl (α := Mask) _
    | refine onlyIf_keeps ?_
    | refine (State.identify_stays.up ?_).after ?_
    | refine (State.sendHello_stays.up ?_).after ?_
    | refine (State.setPort_stays.up ?_).after ?_
    | refine ite_stays ?_ ?_)

theorem execSpokeSend_keeps {n : Nat} {s : State} :
    Keeps { ev := true, mem := true, ring := true, mc := true, hem := true, nvme := true, port := true, out := true } s (execSpokeSend n s) := by
  unfold execSpokeSend
  with_reducible repeat' (first
    | exact Stays.rfl
    | refine onlyIf_keeps ?_
    | refine keeps_next ?_
    | refine ite_keeps ?_ ?_
    | fail_if_no_progress (with_reducible refine (Stays.upd ?_).after ?_; with_reducible exact Eq.refl (α := State) _)
    | split
    | exact Eq.refl (α := Mask) _
    | refine State.onJob_keeps ?_ ?_
    | refine (State.dmaRead_stays.up ?_).after ?_
    | refine (State.endJob_stays.up ?_).after ?_
    | refine (State.setPort_stays.up ?_).after ?_
    | refine (State.txFrame_stays.up ?_).after ?_
    | refine ite_stays ?_ ?_
    | intro _)

end Sys2Proof.Machine
end

