-- ==== Sys2Proof/Laws/StaysFtl.lean ====
section
/-! SUPPORT. The operations of Machine/Ftl.lean keep the fixed part and the form of the tables. -/

namespace Sys2Proof.Machine

theorem State.setBlock_stays {s : State} {b : Nat} {v : BlkSt} :
    Stays { sh := true } s (State.setBlock s b v) := by
  unfold State.setBlock
  with_reducible repeat' (first
    | exact Stays.rfl
    | fail_if_no_progress (with_reducible refine (Stays.upd ?_).after ?_; with_reducible exact Eq.refl (α := State) _))

theorem State.ftlRec_stays {s : State} {r : FtlRec} :
    Stays { keep := true } s (State.ftlRec s r) := by
  unfold State.ftlRec
  with_reducible repeat' (first
    | exact Stays.rfl
    | fail_if_no_progress (with_reducible refine (Stays.upd ?_).after ?_; with_reducible exact Eq.refl (α := State) _))

theorem State.mapSet_stays {s : State} {strip e : Nat} :
    Stays { sh := true } s (State.mapSet s strip e) := by
  unfold State.mapSet
  with_reducible repeat' (first
    | exact Stays.rfl
    | fail_if_no_progress (with_reducible refine (Stays.upd ?_).after ?_; with_reducible exact Eq.refl (α := State) _))

theorem State.growBad_stays {s : State} {b : Nat} :
    Stays { ev := true, nvme := true, sh := true, keep := true, out := true } s (State.growBad s b) := by
  unfold State.growBad
  with_reducible repeat' (first
    | exact Stays.rfl
    | exact Eq.refl (α := Mask) _
    | refine (State.alarm_stays.up ?_).after ?_
    | refine (State.event_stays.up ?_).after ?_
    | refine (State.ftlRec_stays.up ?_).after ?_
    | refine (State.setBlock_stays.up ?_).after ?_
    | refine ite_stays ?_ ?_
    | fail_if_no_progress (with_reducible refine (Stays.upd ?_).after ?_; with_reducible exact Eq.refl (α := State) _))

theorem State.updKept_stays {s : State} {t : Tag} {f : Kept → Kept} :
    Stays { sh := true } s (State.updKept s t f) := by
  unfold State.updKept
  with_reducible repeat' (first
    | exact Stays.rfl
    | fail_if_no_progress (with_reducible refine (Stays.upd ?_).after ?_; with_reducible exact Eq.refl (α := State) _))

theorem State.toHeads_stays {s : State} {op : FrameOp} :
    Stays { port := true, out := true } s (State.toHeads s op) := by
  unfold State.toHeads
  with_reducible repeat' (first
    | exact Stays.rfl
    | exact Eq.refl (α := Mask) _
    | refine (State.txFrame_stays.up ?_).after ?_
    | refine (foldl_stays ?_).after ?_
    | refine ite_stays ?_ ?_
    | intro _ _)

theorem State.plbFree_stays {s : State} {t : Tag} :
    Stays { port := true, sh := true, keep := true, out := true } s (State.plbFree s t) := by
  unfold State.plbFree
  with_reducible repeat' (first
    | exact Stays.rfl
    | exact Eq.refl (α := Mask) _
    | refine (State.toHeads_stays.up ?_).after ?_
    | refine (State.updKept_stays.up ?_).after ?_
    | fail_if_no_progress (with_reducible refine (Stays.upd ?_).after ?_; with_reducible exact Eq.refl (α := State) _)
    | (conv => arg 3; zeta); split)

theorem State.plbFreeAll_stays {s : State} {ts : List Tag} :
    Stays { port := true, sh := true, keep := true, out := true } s (State.plbFreeAll s ts) := by
  unfold State.plbFreeAll
  with_reducible repeat' (first
    | exact Stays.rfl
    | exact Eq.refl (α := Mask) _
    | refine (State.plbFree_stays.up ?_).after ?_
    | refine (foldl_stays ?_).after ?_
    | intro _ _)

theorem execShelfWritePowerSafe_keeps {t : Tag} {s : State} :
    Keeps { port := true, sh := true, keep := true, out := true } s (execShelfWritePowerSafe t s) := by
  unfold execShelfWritePowerSafe
  with_reducible repeat' (first
    | exact Stays.rfl
    | exact Eq.refl (α := Mask) _
    | refine keeps_next ?_
    | refine (State.mapSet_stays.up ?_).after ?_
    | refine (State.plbFreeAll_stays.up ?_).after ?_
    | refine (State.toHeads_stays.up ?_).after ?_
    | refine (State.updKept_stays.up ?_).after ?_
    | refine ite_stays ?_ ?_
    | fail_if_no_progress (with_reducible refine (Stays.upd ?_).after ?_; with_reducible exact Eq.refl (α := State) _)
    | split)

theorem State.enterReadOnly_stays {s : State} :
    Stays { ev := true, nvme := true, sh := true, keep := true, out := true } s (State.enterReadOnly s) := by
  unfold State.enterReadOnly
  with_reducible repeat' (first
    | exact Stays.rfl
    | exact Eq.refl (α := Mask) _
    | refine (State.alarm_stays.up ?_).after ?_
    | refine (State.ftlRec_stays.up ?_).after ?_
    | fail_if_no_progress (with_reducible refine (Stays.upd ?_).after ?_; with_reducible exact Eq.refl (α := State) _))

theorem State.leaveReadOnly_stays {s : State} :
    Stays { ev := true, nvme := true, sh := true, keep := true, out := true } s (State.leaveReadOnly s) := by
  unfold State.leaveReadOnly
  with_reducible repeat' (first
    | exact Stays.rfl
    | exact Eq.refl (α := Mask) _
    | refine (State.clearAlarm_stays.up ?_).after ?_
    | refine ite_stays ?_ ?_
    | fail_if_no_progress (with_reducible refine (Stays.upd ?_).after ?_; with_reducible exact Eq.refl (α := State) _))

theorem State.unmapStrip_stays {s : State} {strip : Nat} :
    Stays { ev := true, nvme := true, sh := true, keep := true, out := true } s (State.unmapStrip s strip) := by
  unfold State.unmapStrip
  with_reducible repeat' (first
    | exact Stays.rfl
    | exact Eq.refl (α := Mask) _
    | refine (State.ftlRec_stays.up ?_).after ?_
    | refine (State.leaveReadOnly_stays.up ?_).after ?_
    | refine ite_stays ?_ ?_
    | fail_if_no_progress (with_reducible refine (Stays.upd ?_).after ?_; with_reducible exact Eq.refl (α := State) _))

theorem State.stripProgrammed_stays {s : State} {strip e : Nat} :
    Stays { port := true, sh := true, keep := true, out := true } s (State.stripProgrammed s strip e) := by
  unfold State.stripProgrammed
  with_reducible repeat' (first
    | exact Stays.rfl
    | exact Eq.refl (α := Mask) _
    | refine (State.mapSet_stays.up ?_).after ?_
    | refine (State.plbFreeAll_stays.up ?_).after ?_
    | refine (State.plbFree_stays.up ?_).after ?_
    | (conv => arg 3; zeta); split)

theorem State.replyTo_stays {s : State} {port : Nat} {tag : Tag} {reqId op status result : Nat} {body : ReplyBody} :
    Stays { port := true, out := true } s (State.replyTo s port tag reqId op status result body) := by
  unfold State.replyTo
  with_reducible repeat' (first
    | exact Stays.rfl
    | exact Eq.refl (α := Mask) _
    | refine (State.txFrame_stays.up ?_).after ?_)

theorem State.discardStrip_stays {s : State} {p : Purge} {purge : Bool} :
    Stays { ev := true, nvme := true, port := true, sh := true, keep := true, out := true } s (State.discardStrip s p purge) := by
  unfold State.discardStrip
  with_reducible repeat' (first
    | exact Stays.rfl
    | exact Eq.refl (α := Mask) _
    | refine (State.giveCredit_stays.up ?_).after ?_
    | refine (State.plbFreeAll_stays.up ?_).after ?_
    | refine (State.plbFree_stays.up ?_).after ?_
    | refine (State.replyTo_stays.up ?_).after ?_
    | refine (State.unmapStrip_stays.up ?_).after ?_
    | refine ite_stays ?_ ?_
    | fail_if_no_progress (with_reducible refine (Stays.upd ?_).after ?_; with_reducible exact Eq.refl (α := State) _)
    | (conv => arg 3; zeta); split)

theorem State.releaseDiscards_stays {s : State} {strip : Nat} :
    Stays { ev := true, nvme := true, port := true, sh := true, keep := true, out := true } s (State.releaseDiscards s strip) := by
  unfold State.releaseDiscards
  with_reducible repeat' (first
    | exact Stays.rfl
    | exact Eq.refl (α := Mask) _
    | refine (State.discardStrip_stays.up ?_).after ?_
    | refine (foldl_stays ?_).after ?_
    | fail_if_no_progress (with_reducible refine (Stays.upd ?_).after ?_; with_reducible exact Eq.refl (α := State) _)
    | intro _ _)

theorem State.copyProgrammed_stays {s : State} {strip e : Nat} :
    Stays { ev := true, nvme := true, port := true, sh := true, keep := true, out := true } s (State.copyProgrammed s strip e) := by
  unfold State.copyProgrammed
  with_reducible repeat' (first
    | exact Stays.rfl
    | exact Eq.refl (α := Mask) _
    | refine (State.mapSet_stays.up ?_).after ?_
    | refine (State.releaseDiscards_stays.up ?_).after ?_
    | refine ite_stays ?_ ?_
    | fail_if_no_progress (with_reducible refine (Stays.upd ?_).after ?_; with_reducible exact Eq.refl (α := State) _)
    | (conv => arg 3; zeta); split)

theorem State.programmed_stays {s : State} {block mode : Nat} {pages : List Nat} {seq : Nat} :
    Stays { ev := true, nvme := true, port := true, sh := true, keep := true, out := true } s (State.programmed s block mode pages seq) := by
  unfold State.programmed
  with_reducible repeat' (first
    | exact Stays.rfl
    | exact Eq.refl (α := Mask) _
    | refine (State.copyProgrammed_stays.up ?_).after ?_
    | refine (State.setBlock_stays.up ?_).after ?_
    | refine (State.stripProgrammed_stays.up ?_).after ?_
    | refine (foldl_stays ?_).after ?_
    | refine ite_stays ?_ ?_
    | fail_if_no_progress (with_reducible refine (Stays.upd ?_).after ?_; with_reducible exact Eq.refl (α := State) _)
    | intro _ _)

theorem State.openIntent_some {s : State} {block mode reason : Nat} :
    ∀ {r}, State.openIntent s block mode reason = some r → Stays { keep := true } s r := by
  intro r h
  unfold State.openIntent at h
  cases hs : s.intentSlot with
  | none => rw [hs] at h; cases h
  | some i => rw [hs] at h; cases h; exact Stays.upd (Eq.refl _)

theorem State.closeIntent_stays {s : State} {block : Nat} :
    Stays { keep := true } s (State.closeIntent s block) := by
  unfold State.closeIntent
  with_reducible repeat' (first
    | exact Stays.rfl
    | fail_if_no_progress (with_reducible refine (Stays.upd ?_).after ?_; with_reducible exact Eq.refl (α := State) _))

theorem State.purgeErased_stays {s : State} {block : Nat} :
    Stays { port := true, sh := true, out := true } s (State.purgeErased s block) := by
  unfold State.purgeErased
  with_reducible repeat' (first
    | exact Stays.rfl
    | exact Eq.refl (α := Mask) _
    | refine (State.giveCredit_stays.up ?_).after ?_
    | refine (State.replyTo_stays.up ?_).after ?_
    | refine (foldl_stays ?_).after ?_
    | fail_if_no_progress (with_reducible refine (Stays.upd ?_).after ?_; with_reducible exact Eq.refl (α := State) _)
    | intro _ _)

theorem State.erased_stays {s : State} {block mode : Nat} {planes : List Nat} :
    Stays { port := true, flash := true, sh := true, keep := true, out := true } s (State.erased s block mode planes) := by
  unfold State.erased
  with_reducible repeat' (first
    | exact Stays.rfl
    | exact Eq.refl (α := Mask) _
    | refine (State.closeIntent_stays.up ?_).after ?_
    | refine (State.purgeErased_stays.up ?_).after ?_
    | refine (State.setBlock_stays.up ?_).after ?_
    | refine ite_stays ?_ ?_
    | fail_if_no_progress (with_reducible refine (Stays.upd ?_).after ?_; with_reducible exact Eq.refl (α := State) _)
    | (conv => arg 3; zeta); split)

theorem execFtlJournalFlush_keeps {s : State} :
    Keeps { time := true, eng := true, sh := true, keep := true } s (execFtlJournalFlush s) := by
  unfold execFtlJournalFlush
  with_reducible repeat' (first
    | exact Stays.rfl
    | refine keeps_next ?_
    | refine ite_keeps ?_ ?_
    | refine onlyIf_keeps ?_ ?_
    | refine (State.inWindow_stays.up ?_).after ?_
    | intro _
    | refine ite_stays ?_ ?_
    | split
    | exact Eq.refl (α := Mask) _
    | refine onlyIf_keeps ?_
    | refine (State.toWindow_stays.up ?_).after ?_
    | fail_if_no_progress (with_reducible refine (Stays.upd ?_).after ?_; with_reducible exact Eq.refl (α := State) _))

theorem execClearingSlice_keeps {s : State} :
    Keeps { time := true, eng := true, sh := true } s (execClearingSlice s) := by
  unfold execClearingSlice
  with_reducible repeat' (first
    | exact Stays.rfl
    | refine keeps_next ?_
    | refine ite_keeps ?_ ?_
    | refine onlyIf_keeps ?_ ?_
    | refine (State.inWindow_stays.up ?_).after ?_
    | intro _
    | fail_if_no_progress (with_reducible refine (Stays.upd ?_).after ?_; with_reducible exact Eq.refl (α := State) _)
    | split
    | exact Eq.refl (α := Mask) _
    | refine onlyIf_keeps ?_
    | refine (State.toWindow_stays.up ?_).after ?_
    | fail_if_no_progress (with_reducible refine (Stays.upd ?_).after ?_; with_reducible exact Eq.refl (α := State) _)
    | (conv => arg 3; zeta); split)

end Sys2Proof.Machine
end

