-- ==== Sys2Proof/Laws/StaysFlash.lean ====
section
/-! SUPPORT. The operations of Machine/Flash.lean keep the fixed part and the form of the tables. -/

namespace Sys2Proof.Machine

theorem State.setChan_stays {s : State} {c : Nat} {v : ChanSt} :
    Stays { flash := true } s (State.setChan s c v) := by
  unfold State.setChan
  with_reducible repeat' (first
    | exact Stays.rfl
    | fail_if_no_progress (with_reducible refine (Stays.upd ?_).after ?_; with_reducible exact Eq.refl (α := State) _))

theorem State.setLun_stays {s : State} {c d : Nat} {v : LunSt} :
    Stays { flash := true } s (State.setLun s c d v) := by
  unfold State.setLun
  with_reducible repeat' (first
    | exact Stays.rfl
    | exact Eq.refl (α := Mask) _
    | refine (State.setChan_stays.up ?_).after ?_)

theorem State.flashCpl_stays {s : State} {r : FlashReq} {status consumed produced : Nat} :
    Stays { ev := true, eng := true, mem := true, ring := true, mc := true, hem := true, nvme := true, flash := true, free := true, out := true } s (State.flashCpl s r status consumed produced) := by
  unfold State.flashCpl
  with_reducible repeat' (first
    | exact Stays.rfl
    | exact Eq.refl (α := Mask) _
    | refine (State.pushCpl_stays.up ?_).after ?_
    | refine (State.setChan_stays.up ?_).after ?_
    | refine ite_stays ?_ ?_)

theorem State.startLun_stays {s : State} {c d : Nat} {x0 : Nat} :
    Stays { ev := true, eng := true, mem := true, ring := true, mc := true, hem := true, nvme := true, flash := true, free := true, out := true } s (State.startLun s c d x0) := by
  induction x0 generalizing s c d with
  | zero =>
    unfold State.startLun
    with_reducible exact Stays.rfl
  | succ k ih =>
    unfold State.startLun
    with_reducible repeat' (first
      | exact Stays.rfl
      | refine ih.after ?_
      | exact Eq.refl (α := Mask) _
      | refine (State.flashCpl_stays.up ?_).after ?_
      | refine (State.setLun_stays.up ?_).after ?_
      | refine ite_stays ?_ ?_
      | (conv => arg 3; zeta); split)

theorem State.kick_stays {s : State} {c d : Nat} :
    Stays { ev := true, eng := true, mem := true, ring := true, mc := true, hem := true, nvme := true, flash := true, free := true, out := true } s (State.kick s c d) := by
  unfold State.kick
  with_reducible repeat' (first
    | exact Stays.rfl
    | exact Eq.refl (α := Mask) _
    | refine (State.startLun_stays.up ?_).after ?_)

theorem State.kickAll_stays {s : State} :
    Stays { ev := true, eng := true, mem := true, ring := true, mc := true, hem := true, nvme := true, flash := true, free := true, out := true } s (State.kickAll s) := by
  unfold State.kickAll
  with_reducible repeat' (first
    | exact Stays.rfl
    | exact Eq.refl (α := Mask) _
    | refine (State.kick_stays.up ?_).after ?_
    | refine (foldl_stays ?_).after ?_
    | intro _ _)

theorem State.a0_stays {s : State} {e status : Nat} :
    Stays { eng := true } s (State.a0 s e status) := by
  unfold State.a0
  with_reducible repeat' (first
    | exact Stays.rfl
    | exact Eq.refl (α := Mask) _
    | refine (State.setEngine_stays.up ?_).after ?_)

theorem State.frPost_stays {s : State} {e : Nat} {x : FlReq} :
    Stays { ev := true, eng := true, mem := true, ring := true, mc := true, hem := true, nvme := true, flash := true, free := true, out := true } s (State.frPost s e x) := by
  unfold State.frPost
  with_reducible repeat' (first
    | exact Stays.rfl
    | exact Eq.refl (α := Mask) _
    | refine (State.a0_stays.up ?_).after ?_
    | refine (State.flashCpl_stays.up ?_).after ?_
    | refine (State.kick_stays.up ?_).after ?_
    | refine (State.setLun_stays.up ?_).after ?_
    | refine ite_stays ?_ ?_)

theorem frCall_keeps {m : Mask} {e : Fin 48} {s : State} {f : State → State} (hm : Mask.or {} m = m) (hf : ∀ a0, Stays m a0 (f a0)) :
    Keeps m s (frCall e s f) := by
  unfold frCall
  with_reducible repeat' (first
    | exact hf ..
    | refine onlyIf_keeps ?_)

theorem execFrRead_keeps {e : Fin 48} {r : FlashReq} {s : State} :
    Keeps { ev := true, eng := true, mem := true, ring := true, mc := true, hem := true, nvme := true, flash := true, free := true, out := true } s (execFrRead e r s) := by
  unfold execFrRead
  with_reducible repeat' (first
    | exact Stays.rfl
    | exact Eq.refl (α := Mask) _
    | refine frCall_keeps ?_ ?_
    | refine (State.frPost_stays.up ?_).after ?_
    | intro _)

theorem execFrReadRetry_keeps {e : Fin 48} {r : FlashReq} {s : State} :
    Keeps { ev := true, eng := true, mem := true, ring := true, mc := true, hem := true, nvme := true, flash := true, free := true, out := true } s (execFrReadRetry e r s) := by
  unfold execFrReadRetry
  with_reducible repeat' (first
    | exact Stays.rfl
    | exact Eq.refl (α := Mask) _
    | refine frCall_keeps ?_ ?_
    | refine (State.frPost_stays.up ?_).after ?_
    | intro _)

theorem execFrSuspend_keeps {e : Fin 48} {r : FlashReq} {s : State} :
    Keeps { ev := true, eng := true, mem := true, ring := true, mc := true, hem := true, nvme := true, flash := true, free := true, out := true } s (execFrSuspend e r s) := by
  unfold execFrSuspend
  with_reducible repeat' (first
    | exact Stays.rfl
    | refine onlyIf_keeps ?_
    | refine keeps_next ?_
    | refine ite_keeps ?_ ?_
    | refine ite_stays ?_ ?_
    | split
    | exact Eq.refl (α := Mask) _
    | refine frCall_keeps ?_ ?_
    | refine (State.frPost_stays.up ?_).after ?_
    | intro _)

theorem execFrResume_keeps {e : Fin 48} {r : FlashReq} {s : State} :
    Keeps { ev := true, eng := true, mem := true, ring := true, mc := true, hem := true, nvme := true, flash := true, free := true, out := true } s (execFrResume e r s) := by
  unfold execFrResume
  with_reducible repeat' (first
    | exact Stays.rfl
    | refine onlyIf_keeps ?_
    | refine keeps_next ?_
    | refine ite_keeps ?_ ?_
    | refine ite_stays ?_ ?_
    | split
    | exact Eq.refl (α := Mask) _
    | refine frCall_keeps ?_ ?_
    | refine (State.frPost_stays.up ?_).after ?_
    | intro _)

theorem execFrStatus_keeps {e : Fin 48} {r : FlashReq} {s : State} :
    Keeps { ev := true, eng := true, mem := true, ring := true, mc := true, hem := true, nvme := true, flash := true, free := true, out := true } s (execFrStatus e r s) := by
  unfold execFrStatus
  with_reducible repeat' (first
    | exact Stays.rfl
    | exact Eq.refl (α := Mask) _
    | refine frCall_keeps ?_ ?_
    | refine (State.frPost_stays.up ?_).after ?_
    | intro _)

theorem execFrProgram_keeps {e : Fin 48} {r : FlashReq} {data metas : Bytes} {s : State} :
    Keeps { ev := true, eng := true, mem := true, ring := true, mc := true, hem := true, nvme := true, flash := true, free := true, out := true } s (execFrProgram e r data metas s) := by
  unfold execFrProgram
  with_reducible repeat' (first
    | exact Stays.rfl
    | exact Eq.refl (α := Mask) _
    | refine frCall_keeps ?_ ?_
    | refine (State.frPost_stays.up ?_).after ?_
    | intro _)

theorem execFrErase_keeps {e : Fin 48} {r : FlashReq} {reason : Fin 5} {s : State} :
    Keeps { ev := true, eng := true, mem := true, ring := true, mc := true, hem := true, nvme := true, flash := true, keep := true, free := true, out := true } s (execFrErase e r reason s) := by
  unfold execFrErase
  with_reducible repeat' (first
    | exact Stays.rfl
    | exact Eq.refl (α := Mask) _
    | refine frCall_keeps ?_ ?_
    | refine (State.frPost_stays.up ?_).after ?_
    | refine (Stays.up ?_ (State.openIntent_some (by assumption))).after ?_
    | refine ite_stays ?_ ?_
    | split
    | intro _)

theorem State.chanCall_stays {s : State} {e : Nat} {r : FlashReq} {produced : Nat} :
    Stays { ev := true, eng := true, mem := true, ring := true, mc := true, hem := true, nvme := true, flash := true, free := true, out := true } s (State.chanCall s e r produced) := by
  unfold State.chanCall
  with_reducible repeat' (first
    | exact Stays.rfl
    | exact Eq.refl (α := Mask) _
    | refine (State.a0_stays.up ?_).after ?_
    | refine (State.flashCpl_stays.up ?_).after ?_)

theorem State.chanEnable_stays {s : State} {e : Nat} {r : FlashReq} :
    Stays { ev := true, eng := true, mem := true, ring := true, mc := true, hem := true, nvme := true, flash := true, free := true, out := true } s (s.chanEnable e r) := by
  unfold State.chanEnable
  with_reducible repeat' (first
    | exact Stays.rfl
    | exact Eq.refl (α := Mask) _
    | refine (State.chanCall_stays.up ?_).after ?_
    | refine (State.setChan_stays.up ?_).after ?_
    | intro _)

theorem execFrFeatureChEnable_keeps {e : Fin 48} {r : FlashReq} {s : State} :
    Keeps { ev := true, eng := true, mem := true, ring := true, mc := true, hem := true, nvme := true, flash := true, free := true, out := true } s (execFrFeatureChEnable e r s) :=
  frCall_keeps (Eq.refl (α := Mask) _) (fun _ => State.chanEnable_stays)

theorem State.chanStatus_stays {s : State} {e : Nat} {r : FlashReq} :
    Stays { ev := true, eng := true, mem := true, ring := true, mc := true, hem := true, nvme := true, flash := true, free := true, out := true } s (s.chanStatus e r) := by
  unfold State.chanStatus
  with_reducible repeat' (first
    | exact Stays.rfl
    | exact Eq.refl (α := Mask) _
    | refine (State.chanCall_stays.up ?_).after ?_
    | refine (State.dmaWrite_stays.up ?_).after ?_
    | intro _)

theorem execFrFeatureChStatus_keeps {e : Fin 48} {r : FlashReq} {s : State} :
    Keeps { ev := true, eng := true, mem := true, ring := true, mc := true, hem := true, nvme := true, flash := true, free := true, out := true } s (execFrFeatureChStatus e r s) :=
  frCall_keeps (Eq.refl (α := Mask) _) (fun _ => State.chanStatus_stays)

theorem execFrFeature_keeps {e : Fin 48} {r : FlashReq} {s : State} :
    Keeps { ev := true, eng := true, mem := true, ring := true, mc := true, hem := true, nvme := true, flash := true, free := true, out := true } s (execFrFeature e r s) := by
  unfold execFrFeature
  refine frCall_keeps (Eq.refl (α := Mask) _) (fun _ => ?_)
  split
  · exact State.frPost_stays.up (Eq.refl (α := Mask) _)
  · split
    · exact State.chanEnable_stays
    · split
      · exact State.chanStatus_stays
      · exact State.chanCall_stays.up (Eq.refl (α := Mask) _)

theorem State.endRead_stays {s : State} {x : FlReq} {d : DieResult} :
    Stays { ev := true, eng := true, mem := true, ring := true, mc := true, hem := true, nvme := true, flash := true, sh := true, free := true, out := true } s (State.endRead s x d) := by
  unfold State.endRead
  with_reducible repeat' (first
    | exact Stays.rfl
    | exact Eq.refl (α := Mask) _
    | refine (State.dmaWrite_stays.up ?_).after ?_
    | refine (State.event_stays.up ?_).after ?_
    | refine (State.flashCpl_stays.up ?_).after ?_
    | refine (State.setChan_stays.up ?_).after ?_
    | refine ite_stays ?_ ?_
    | fail_if_no_progress (with_reducible refine (Stays.upd ?_).after ?_; with_reducible exact Eq.refl (α := State) _))

theorem State.endSentinel_stays {s : State} {x : FlReq} {d : DieResult} :
    Stays { ev := true, eng := true, mem := true, ring := true, mc := true, hem := true, nvme := true, flash := true, free := true, out := true } s (State.endSentinel s x d) := by
  unfold State.endSentinel
  with_reducible repeat' (first
    | exact Stays.rfl
    | exact Eq.refl (α := Mask) _
    | refine (State.dmaWrite_stays.up ?_).after ?_
    | refine (State.flashCpl_stays.up ?_).after ?_)

theorem State.freePage_stays {s : State} {good : Bool} :
    Stays { free := true } s (State.freePage s good).2 := by
  unfold State.freePage
  with_reducible repeat' (first
    | exact Stays.rfl
    | exact Eq.refl (α := Mask) _
    | refine (State.takeFreeBytes_stays.up ?_).after ?_)

theorem freePages_stays {good : Bool} {x0 : List (Nat × Nat)} {x1 : State} :
    Stays { free := true } x1 (freePages good x0 x1).2 := by
  induction x0 generalizing good x1 with
  | nil =>
    unfold freePages
    with_reducible exact Stays.rfl
  | cons y ys ih =>
    unfold freePages
    with_reducible repeat' (first
      | exact Stays.rfl
      | refine ih.after ?_
      | exact Eq.refl (α := Mask) _
      | refine (State.freePage_stays.up ?_).after ?_)

theorem State.endProgram_stays {s : State} {x : FlReq} {d : DieResult} :
    Stays { ev := true, eng := true, mem := true, ring := true, mc := true, hem := true, nvme := true, port := true, flash := true, sh := true, keep := true, free := true, out := true } s (State.endProgram s x d) := by
  unfold State.endProgram
  with_reducible repeat' (first
    | exact Stays.rfl
    | exact Eq.refl (α := Mask) _
    | refine (State.flashCpl_stays.up ?_).after ?_
    | refine (State.growBad_stays.up ?_).after ?_
    | refine (State.programmed_stays.up ?_).after ?_
    | refine (freePages_stays.up ?_).after ?_
    | refine ite_stays ?_ ?_
    | fail_if_no_progress (with_reducible refine (Stays.upd ?_).after ?_; with_reducible exact Eq.refl (α := State) _)
    | (conv => arg 3; zeta); split)

theorem State.endErase_stays {s : State} {x : FlReq} {d : DieResult} :
    Stays { ev := true, eng := true, mem := true, ring := true, mc := true, hem := true, nvme := true, port := true, flash := true, sh := true, keep := true, free := true, out := true } s (State.endErase s x d) := by
  unfold State.endErase
  with_reducible repeat' (first
    | exact Stays.rfl
    | exact Eq.refl (α := Mask) _
    | refine (State.erased_stays.up ?_).after ?_
    | refine (State.flashCpl_stays.up ?_).after ?_
    | refine (State.growBad_stays.up ?_).after ?_
    | refine ite_stays ?_ ?_
    | fail_if_no_progress (with_reducible refine (Stays.upd ?_).after ?_; with_reducible exact Eq.refl (α := State) _))

theorem execFlashOpComplete_keeps {c : Fin 32} {ce lun : Fin 4} {d : DieResult} {s : State} :
    Keeps { ev := true, eng := true, mem := true, ring := true, mc := true, hem := true, nvme := true, port := true, flash := true, sh := true, keep := true, free := true, out := true } s (execFlashOpComplete c ce lun d s) := by
  unfold execFlashOpComplete
  with_reducible repeat' (first
    | exact Stays.rfl
    | exact Eq.refl (α := Mask) _
    | refine keeps_next ?_
    | refine (State.dmaWrite_stays.up ?_).after ?_
    | refine (State.endErase_stays.up ?_).after ?_
    | refine (State.endProgram_stays.up ?_).after ?_
    | refine (State.endRead_stays.up ?_).after ?_
    | refine (State.endSentinel_stays.up ?_).after ?_
    | refine (State.flashCpl_stays.up ?_).after ?_
    | refine (State.kick_stays.up ?_).after ?_
    | refine (State.setLun_stays.up ?_).after ?_
    | refine ite_stays ?_ ?_
    | split)

theorem execFlashOpTimeout_keeps {c : Fin 32} {ce lun : Fin 4} {answers : Bool} {s : State} :
    Keeps { ev := true, eng := true, mem := true, ring := true, mc := true, hem := true, nvme := true, flash := true, sh := true, keep := true, free := true, out := true } s (execFlashOpTimeout c ce lun answers s) := by
  unfold execFlashOpTimeout
  with_reducible repeat' (first
    | exact Stays.rfl
    | exact Eq.refl (α := Mask) _
    | refine keeps_next ?_
    | refine (State.alarm_stays.up ?_).after ?_
    | refine (State.event_stays.up ?_).after ?_
    | refine (State.flashCpl_stays.up ?_).after ?_
    | refine (State.growBad_stays.up ?_).after ?_
    | refine (State.kick_stays.up ?_).after ?_
    | refine (State.setLun_stays.up ?_).after ?_
    | refine ite_stays ?_ ?_
    | split)

theorem State.flushLun_stays {s : State} {c d status : Nat} :
    Stays { ev := true, eng := true, mem := true, ring := true, mc := true, hem := true, nvme := true, flash := true, free := true, out := true } s (State.flushLun s c d status) := by
  unfold State.flushLun
  with_reducible repeat' (first
    | exact Stays.rfl
    | exact Eq.refl (α := Mask) _
    | refine (State.flashCpl_stays.up ?_).after ?_
    | refine (State.setLun_stays.up ?_).after ?_
    | refine (foldl_stays ?_).after ?_
    | intro _ _)

theorem State.flashClears_stays {s : State} :
    Stays { ev := true, eng := true, mem := true, ring := true, mc := true, hem := true, nvme := true, flash := true, free := true, out := true } s (State.flashClears s) := by
  unfold State.flashClears
  with_reducible repeat' (first
    | exact Stays.rfl
    | exact Eq.refl (α := Mask) _
    | refine (State.flushLun_stays.up ?_).after ?_
    | refine (State.setChan_stays.up ?_).after ?_
    | refine (State.setLun_stays.up ?_).after ?_
    | refine (foldl_stays ?_).after ?_
    | refine ite_stays ?_ ?_
    | intro _ _)

theorem State.flashPowerFail_stays {s : State} :
    Stays { ev := true, eng := true, mem := true, ring := true, mc := true, hem := true, nvme := true, flash := true, free := true, out := true } s (State.flashPowerFail s) := by
  unfold State.flashPowerFail
  with_reducible repeat' (first
    | exact Stays.rfl
    | exact Eq.refl (α := Mask) _
    | refine (State.flushLun_stays.up ?_).after ?_
    | refine (State.setLun_stays.up ?_).after ?_
    | refine (foldl_stays ?_).after ?_
    | refine ite_stays ?_ ?_
    | intro _ _
    | (conv => arg 3; zeta); split)

theorem State.flashPowerBack_stays {s : State} :
    Stays { flash := true } s (State.flashPowerBack s) := by
  unfold State.flashPowerBack
  with_reducible repeat' (first
    | exact Stays.rfl
    | exact Eq.refl (α := Mask) _
    | refine (State.setLun_stays.up ?_).after ?_
    | refine (foldl_stays ?_).after ?_
    | refine ite_stays ?_ ?_
    | intro _ _)

end Sys2Proof.Machine
end

