-- ==== Sys2Proof/Laws/StaysShelf.lean ====
section
/-! SUPPORT. The operations of Machine/Shelf.lean keep the fixed part and the form of the tables. -/

namespace Sys2Proof.Machine

theorem onShelf0_keeps {m : Mask} {h : FrameHdr} {s : State} {f : State → State} (hm : Mask.or { ring := true, port := true, out := true } m = m) (hf : ∀ a0, Stays m a0 (f a0)) :
    Keeps m s (onShelf0 h s f) := by
  unfold onShelf0
  with_reducible repeat' (first
    | exact Mask.or_trans (Eq.refl _) hm
    | exact hf ..
    | refine (hf ..).after ?_
    | exact keeps_next Stays.rfl
    | exact Stays.rfl
    | refine onlyIf_keeps ?_
    | refine keeps_next ?_
    | refine ite_keeps ?_ ?_
    | refine onFrame_keeps ?_ ?_
    | refine ite_stays ?_ ?_
    | split
    | intro _)

theorem onShelf_keeps {m : Mask} {h : FrameHdr} {s : State} {f : State → State} (hm : Mask.or { ring := true, port := true, out := true } m = m) (hf : ∀ a0, Stays m a0 (f a0)) :
    Keeps m s (onShelf h s f) := by
  unfold onShelf
  with_reducible repeat' (first
    | exact Mask.or_trans (Eq.refl _) hm
    | exact hf ..
    | refine (hf ..).after ?_
    | exact keeps_next Stays.rfl
    | exact Stays.rfl
    | refine onlyIf_keeps ?_
    | refine keeps_next ?_
    | refine ite_keeps ?_ ?_
    | refine onShelf0_keeps ?_ ?_
    | refine ite_stays ?_ ?_
    | split
    | intro _)

theorem onHead_keeps {m : Mask} {h : FrameHdr} {s : State} {f : State → State} (hm : Mask.or { ring := true, port := true, out := true } m = m) (hf : ∀ a0, Stays m a0 (f a0)) :
    Keeps m s (onHead h s f) := by
  unfold onHead
  with_reducible repeat' (first
    | exact Stays.rfl
    | exact Mask.or_trans (Eq.refl _) hm
    | exact hf ..
    | refine onFrame_keeps ?_ ?_
    | refine ite_stays ?_ ?_
    | intro _)

theorem State.putLease_stays {s : State} {r : LeaseRec} :
    Stays { keep := true } s (State.putLease s r) := by
  unfold State.putLease
  with_reducible repeat' (first
    | exact Stays.rfl
    | fail_if_no_progress (with_reducible refine (Stays.upd ?_).after ?_; with_reducible exact Eq.refl (α := State) _))

theorem State.setBaseBy_stays {s : State} {site : Nat} {q : LeaseReq} :
    Stays { time := true } s (State.setBaseBy s site q) := by
  unfold State.setBaseBy
  with_reducible repeat' (first
    | exact Stays.rfl
    | exact Eq.refl (α := Mask) _
    | refine ite_stays ?_ ?_
    | fail_if_no_progress (with_reducible refine (Stays.upd ?_).after ?_; with_reducible exact Eq.refl (α := State) _))

theorem execRenew_keeps {h : FrameHdr} {q : LeaseReq} {s : State} :
    Keeps { time := true, ring := true, port := true, keep := true, out := true } s (execRenew h q s) := by
  unfold execRenew
  with_reducible repeat' (first
    | exact Stays.rfl
    | refine onlyIf_keeps ?_
    | refine keeps_next ?_
    | refine ite_keeps ?_ ?_
    | refine (State.setBaseBy_stays.up ?_).after ?_
    | fail_if_no_progress (with_reducible refine (Stays.upd ?_).after ?_; with_reducible exact Eq.refl (α := State) _)
    | split
    | exact Eq.refl (α := Mask) _
    | refine onShelf_keeps ?_ ?_
    | refine (State.putLease_stays.up ?_).after ?_
    | refine (State.replyTo_stays.up ?_).after ?_
    | refine ite_stays ?_ ?_
    | intro _)

theorem State.claimLease_stays {s : State} {winner lost : Nat} {q : LeaseReq} :
    Stays { port := true, sh := true, keep := true, out := true } s (State.claimLease s winner lost q) := by
  unfold State.claimLease
  with_reducible repeat' (first
    | exact Stays.rfl
    | refine ite_stays ?_ ?_
    | fail_if_no_progress (with_reducible refine (Stays.upd ?_).after ?_; with_reducible exact Eq.refl (α := State) _)
    | exact Eq.refl (α := Mask) _
    | refine (State.plbFreeAll_stays.up ?_).after ?_
    | refine (State.putLease_stays.up ?_).after ?_)

theorem execClaim_keeps {h : FrameHdr} {q : LeaseReq} {s : State} :
    Keeps { ring := true, port := true, sh := true, keep := true, out := true } s (execClaim h q s) := by
  unfold execClaim
  with_reducible repeat' (first
    | exact Stays.rfl
    | exact Eq.refl (α := Mask) _
    | refine onShelf_keeps ?_ ?_
    | refine (State.claimLease_stays.up ?_).after ?_
    | refine (State.replyTo_stays.up ?_).after ?_
    | refine ite_stays ?_ ?_
    | intro _)

theorem execLeaseRelease_keeps {h : FrameHdr} {q : LeaseReq} {s : State} :
    Keeps { ring := true, port := true, sh := true, keep := true, out := true } s (execLeaseRelease h q s) := by
  unfold execLeaseRelease
  with_reducible repeat' (first
    | exact Stays.rfl
    | exact Eq.refl (α := Mask) _
    | refine onShelf_keeps ?_ ?_
    | refine (State.claimLease_stays.up ?_).after ?_
    | refine (State.replyTo_stays.up ?_).after ?_
    | refine ite_stays ?_ ?_
    | intro _)

theorem State.markFrom_stays {s : State} {site : Nat} :
    Stays { time := true } s (State.markFrom s site) := by
  unfold State.markFrom
  with_reducible repeat' (first
    | exact Stays.rfl
    | exact Eq.refl (α := Mask) _
    | fail_if_no_progress (with_reducible refine (Stays.upd ?_).after ?_; with_reducible exact Eq.refl (α := State) _))

theorem execMark_keeps {h : FrameHdr} {n t quality : Nat} {s : State} :
    Keeps { time := true, ev := true, ring := true, nvme := true, port := true, out := true } s (execMark h n t quality s) := by
  unfold execMark
  with_reducible repeat' (first
    | exact Stays.rfl
    | refine onlyIf_keeps ?_
    | refine keeps_next ?_
    | refine (State.markFrom_stays.up ?_).after ?_
    | fail_if_no_progress (with_reducible refine (Stays.upd ?_).after ?_; with_reducible exact Eq.refl (α := State) _)
    | split
    | exact Eq.refl (α := Mask) _
    | exact keeps_next Stays.rfl
    | refine onFrame_keeps ?_ ?_
    | refine ite_keeps ?_ ?_
    | refine (State.event_stays.up ?_).after ?_
    | refine (State.followMark_stays.up ?_).after ?_
    | refine ite_stays ?_ ?_
    | fail_if_no_progress (with_reducible refine (Stays.upd ?_).after ?_; with_reducible exact Eq.refl (α := State) _)
    | intro _)

theorem execHbRelay_keeps {h : FrameHdr} {origin : Fin 2} {b : Heartbeat} {s : State} :
    Keeps { ledger := true, time := true, ev := true, ring := true, nvme := true, seam := true, port := true, sh := true, out := true } s (execHbRelay h origin b s) := by
  unfold execHbRelay
  with_reducible repeat' (first
    | exact Stays.rfl
    | refine onlyIf_keeps ?_
    | refine keeps_next ?_
    | refine ite_keeps ?_ ?_
    | fail_if_no_progress (with_reducible refine (Stays.upd ?_).after ?_; with_reducible exact Eq.refl (α := State) _)
    | (conv => arg 3; zeta); split
    | split
    | exact Eq.refl (α := Mask) _
    | refine onFrame_keeps ?_ ?_
    | refine (State.pathBHeard_stays.up ?_).after ?_
    | refine (State.txFrame_stays.up ?_).after ?_
    | refine ite_stays ?_ ?_
    | fail_if_no_progress (with_reducible refine (Stays.upd ?_).after ?_; with_reducible exact Eq.refl (α := State) _)
    | intro _)

theorem State.remember_stays {s : State} {k : Kept} :
    Stays { sh := true } s (State.remember s k) := by
  unfold State.remember
  with_reducible repeat' (first
    | exact Stays.rfl
    | fail_if_no_progress (with_reducible refine (Stays.upd ?_).after ?_; with_reducible exact Eq.refl (α := State) _))

theorem State.refuse_stays {s : State} {c : Copied} {st : Nat} :
    Stays { port := true, out := true } s (State.refuse s c st) := by
  unfold State.refuse
  with_reducible repeat' (first
    | exact Stays.rfl
    | exact Eq.refl (α := Mask) _
    | refine (State.replyTo_stays.up ?_).after ?_)

theorem State.bufferCopy_stays {s : State} {c : Copied} {b : PlbBody} :
    Stays { ev := true, nvme := true, port := true, sh := true, keep := true, out := true } s (State.bufferCopy s c b) := by
  unfold State.bufferCopy
  with_reducible repeat' (first
    | exact Stays.rfl
    | exact Eq.refl (α := Mask) _
    | refine (State.enterReadOnly_stays.up ?_).after ?_
    | refine (State.refuse_stays.up ?_).after ?_
    | refine (State.remember_stays.up ?_).after ?_
    | refine ite_stays ?_ ?_
    | fail_if_no_progress (with_reducible refine (Stays.upd ?_).after ?_; with_reducible exact Eq.refl (α := State) _)
    | (conv => arg 3; zeta); split)

theorem State.repeatAck_stays {s : State} {c : Copied} {k : Kept} :
    Stays { ev := true, nvme := true, port := true, out := true } s (State.repeatAck s c k) := by
  unfold State.repeatAck
  with_reducible repeat' (first
    | exact Stays.rfl
    | exact Eq.refl (α := Mask) _
    | refine (State.event_stays.up ?_).after ?_
    | refine (State.txFrame_stays.up ?_).after ?_
    | refine ite_stays ?_ ?_)

theorem State.failCopy_stays {s : State} {c : Copied} :
    Stays { port := true, sh := true, out := true } s (State.failCopy s c) := by
  unfold State.failCopy
  with_reducible repeat' (first
    | exact Stays.rfl
    | exact Eq.refl (α := Mask) _
    | refine (State.refuse_stays.up ?_).after ?_
    | refine (State.remember_stays.up ?_).after ?_)

theorem State.reportHead_stays {s : State} {code site : Nat} :
    Stays { ev := true, nvme := true, out := true } s (State.reportHead s code site) := by
  unfold State.reportHead
  with_reducible repeat' (first
    | exact Stays.rfl
    | exact Eq.refl (α := Mask) _
    | refine (State.emit_stays.up ?_).after ?_
    | refine (State.event_stays.up ?_).after ?_)

theorem State.checkFail_stays {s : State} {site : Nat} :
    Stays { ev := true, nvme := true, out := true } s (State.checkFail s site) := by
  unfold State.checkFail
  with_reducible repeat' (first
    | exact Stays.rfl
    | refine (State.reportHead_stays.up ?_).after ?_
    | exact Eq.refl (α := Mask) _
    | refine (State.event_stays.up ?_).after ?_)

theorem State.digestDiff_stays {s : State} {stream : Nat} :
    Stays { ev := true, nvme := true, out := true } s (State.digestDiff s stream) := by
  unfold State.digestDiff
  with_reducible repeat' (first
    | exact Stays.rfl
    | exact Eq.refl (α := Mask) _
    | refine (State.reportHead_stays.up ?_).after ?_)

theorem State.keepCopy_stays {m : Mask} {s : State} {c : Copied} {keep : State → State} (hm : Mask.or { port := true, sh := true, out := true } m = m) (hkeep : ∀ a0, Stays m a0 (keep a0)) :
    Stays m s (State.keepCopy s c keep) := by
  unfold State.keepCopy
  with_reducible repeat' (first
    | exact Stays.rfl
    | exact Mask.or_trans (Eq.refl _) hm
    | exact hkeep ..
    | refine (State.failCopy_stays.up ?_).after ?_
    | refine ite_stays ?_ ?_)

theorem State.compareCopy_stays {m : Mask} {s : State} {c : Copied} {again : Kept → State → State} {keep : State → State} (hm : Mask.or { ev := true, nvme := true, port := true, sh := true, out := true } m = m) (hagain : ∀ a0 a1, Stays m a1 (again a0 a1)) (hkeep : ∀ a0, Stays m a0 (keep a0)) :
    Stays m s (State.compareCopy s c again keep) := by
  unfold State.compareCopy
  with_reducible repeat' (first
    | exact Stays.rfl
    | exact Mask.or_trans (Eq.refl _) hm
    | exact hagain ..
    | refine (State.digestDiff_stays.up ?_).after ?_
    | exact hkeep ..
    | refine (hkeep ..).after ?_
    | refine (State.checkFail_stays.up ?_).after ?_
    | refine (State.event_stays.up ?_).after ?_
    | refine (State.failCopy_stays.up ?_).after ?_
    | refine (State.keepCopy_stays ?_ ?_).after ?_
    | refine (State.refuse_stays.up ?_).after ?_
    | refine ite_stays ?_ ?_
    | intro _
    | (conv => arg 3; zeta); split)

theorem State.onTagged_stays {m : Mask} {s : State} {c : Copied} {f : State → State} (hm : Mask.or { port := true, out := true } m = m) (hf : ∀ a0, Stays m a0 (f a0)) :
    Stays m s (State.onTagged s c f) := by
  unfold State.onTagged
  with_reducible repeat' (first
    | exact Stays.rfl
    | exact Mask.or_trans (Eq.refl _) hm
    | exact hf ..
    | refine (State.refuse_stays.up ?_).after ?_
    | refine ite_stays ?_ ?_)

theorem State.takeWrite_stays {s : State} {c : Copied} {b : PlbBody} :
    Stays { ev := true, nvme := true, port := true, sh := true, keep := true, out := true } s (State.takeWrite s c b) := by
  unfold State.takeWrite
  with_reducible repeat' (first
    | exact Stays.rfl
    | exact Eq.refl (α := Mask) _
    | refine (State.bufferCopy_stays.up ?_).after ?_
    | refine (State.repeatAck_stays.up ?_).after ?_
    | refine (State.compareCopy_stays ?_ ?_ ?_).after ?_
    | refine (State.onTagged_stays ?_ ?_).after ?_
    | refine (State.giveCredit_stays.up ?_).after ?_
    | intro _)

theorem onWrite_keeps {m : Mask} {h : FrameHdr} {s : State} {f : State → State} (hm : Mask.or { ring := true, port := true, out := true } m = m) (hf : ∀ a0, Stays m a0 (f a0)) :
    Keeps m s (onWrite h s f) := by
  unfold onWrite
  with_reducible repeat' (first
    | exact Stays.rfl
    | exact Mask.or_trans (Eq.refl _) hm
    | exact hf ..
    | refine onShelf_keeps ?_ ?_
    | refine ite_stays ?_ ?_
    | intro _)

theorem execAppend_keeps {h : FrameHdr} {a : AppendHead} {img : Bytes} {s : State} :
    Keeps { ev := true, ring := true, nvme := true, port := true, sh := true, keep := true, out := true } s (execAppend h a img s) := by
  unfold execAppend
  with_reducible repeat' (first
    | exact Stays.rfl
    | exact Eq.refl (α := Mask) _
    | refine onWrite_keeps ?_ ?_
    | refine (State.giveCredit_stays.up ?_).after ?_
    | refine (State.onTagged_stays ?_ ?_).after ?_
    | refine (State.refuse_stays.up ?_).after ?_
    | refine (State.takeWrite_stays.up ?_).after ?_
    | refine (State.toHeads_stays.up ?_).after ?_
    | refine ite_stays ?_ ?_
    | split
    | intro _)

theorem execClose_keeps {h : FrameHdr} {head : StripHead} {checks : List Nat} {ssns : List Nat} {s : State} :
    Keeps { ev := true, ring := true, nvme := true, port := true, sh := true, keep := true, out := true } s (execClose h head checks ssns s) := by
  unfold execClose
  with_reducible repeat' (first
    | exact Stays.rfl
    | refine onlyIf_keeps ?_
    | refine keeps_next ?_
    | refine ite_keeps ?_ ?_
    | refine (State.digestDiff_stays.up ?_).after ?_
    | fail_if_no_progress (with_reducible refine (Stays.upd ?_).after ?_; with_reducible exact Eq.refl (α := State) _)
    | (conv => arg 3; zeta); split
    | exact Eq.refl (α := Mask) _
    | refine onWrite_keeps ?_ ?_
    | refine (State.giveCredit_stays.up ?_).after ?_
    | refine (State.onTagged_stays ?_ ?_).after ?_
    | refine (State.refuse_stays.up ?_).after ?_
    | refine (State.takeWrite_stays.up ?_).after ?_
    | refine ite_stays ?_ ?_
    | split
    | intro _)

theorem execStripWrite_keeps {h : FrameHdr} {head : StripHead} {sectors : List Sector} {s : State} :
    Keeps { ev := true, ring := true, nvme := true, port := true, sh := true, keep := true, out := true } s (execStripWrite h head sectors s) := by
  unfold execStripWrite
  with_reducible repeat' (first
    | exact Stays.rfl
    | exact Eq.refl (α := Mask) _
    | exact keeps_next Stays.rfl
    | refine onWrite_keeps ?_ ?_
    | refine ite_keeps ?_ ?_
    | refine (State.takeWrite_stays.up ?_).after ?_
    | intro _)

theorem execDrop_keeps {h : FrameHdr} {s : State} :
    Keeps { ring := true, port := true, sh := true, keep := true, out := true } s (execDrop h s) := by
  unfold execDrop
  with_reducible repeat' (first
    | exact Stays.rfl
    | exact Eq.refl (α := Mask) _
    | refine onShelf_keeps ?_ ?_
    | refine (State.giveCredit_stays.up ?_).after ?_
    | refine (State.onTagged_stays ?_ ?_).after ?_
    | refine (State.plbFree_stays.up ?_).after ?_
    | refine (State.replyTo_stays.up ?_).after ?_
    | fail_if_no_progress (with_reducible refine (Stays.upd ?_).after ?_; with_reducible exact Eq.refl (α := State) _)
    | intro _)

theorem execDiscard_keeps {h : FrameHdr} {sla : Nat} {s : State} :
    Keeps { ev := true, ring := true, nvme := true, port := true, sh := true, keep := true, out := true } s (execDiscard h sla s) := by
  unfold execDiscard
  with_reducible repeat' (first
    | exact Stays.rfl
    | exact Eq.refl (α := Mask) _
    | refine onShelf_keeps ?_ ?_
    | refine (State.discardStrip_stays.up ?_).after ?_
    | refine (State.giveCredit_stays.up ?_).after ?_
    | refine (State.refuse_stays.up ?_).after ?_
    | refine ite_stays ?_ ?_
    | fail_if_no_progress (with_reducible refine (Stays.upd ?_).after ?_; with_reducible exact Eq.refl (α := State) _)
    | intro _)

theorem execSectorRead_keeps {h : FrameHdr} {sla count : Nat} {bad : BitVec 16} {s : State} :
    Keeps { ring := true, port := true, out := true } s (execSectorRead h sla count bad s) := by
  unfold execSectorRead
  with_reducible repeat' (first
    | exact Stays.rfl
    | exact Eq.refl (α := Mask) _
    | refine onShelf_keeps ?_ ?_
    | refine (State.giveCredit_stays.up ?_).after ?_
    | refine (State.replyTo_stays.up ?_).after ?_
    | split
    | intro _)

theorem execBufferList_keeps {h : FrameHdr} {first : Nat} {s : State} :
    Keeps { ring := true, port := true, out := true } s (execBufferList h first s) := by
  unfold execBufferList
  with_reducible repeat' (first
    | exact Stays.rfl
    | exact Eq.refl (α := Mask) _
    | refine onShelf_keeps ?_ ?_
    | refine (State.giveCredit_stays.up ?_).after ?_
    | refine (State.replyTo_stays.up ?_).after ?_
    | intro _)

theorem execBufferRead_keeps {h : FrameHdr} {s : State} :
    Keeps { ring := true, port := true, out := true } s (execBufferRead h s) := by
  unfold execBufferRead
  with_reducible repeat' (first
    | exact Stays.rfl
    | exact Eq.refl (α := Mask) _
    | refine onShelf_keeps ?_ ?_
    | refine (State.giveCredit_stays.up ?_).after ?_
    | refine (State.replyTo_stays.up ?_).after ?_
    | split
    | intro _)

theorem execSpokeUnknownOpcode_keeps {h : FrameHdr} {opcode : Byte} {s : State} :
    Keeps { ring := true, port := true, out := true } s (execSpokeUnknownOpcode h opcode s) := by
  unfold execSpokeUnknownOpcode
  with_reducible repeat' (first
    | exact Stays.rfl
    | exact Eq.refl (α := Mask) _
    | refine onFrame_keeps ?_ ?_
    | refine (State.replyTo_stays.up ?_).after ?_
    | intro _)

theorem execLedgerGet_keeps {h : FrameHdr} {seq : Nat} {s : State} :
    Keeps { ring := true, port := true, out := true } s (execLedgerGet h seq s) := by
  unfold execLedgerGet
  with_reducible repeat' (first
    | exact Stays.rfl
    | refine onlyIf_keeps ?_
    | refine keeps_next ?_
    | refine ite_keeps ?_ ?_
    | refine onShelf0_keeps ?_ ?_
    | refine ite_stays ?_ ?_
    | fail_if_no_progress (with_reducible refine (Stays.upd ?_).after ?_; with_reducible exact Eq.refl (α := State) _)
    | (conv => arg 3; zeta); split
    | exact Eq.refl (α := Mask) _
    | refine onShelf_keeps ?_ ?_
    | refine (State.giveCredit_stays.up ?_).after ?_
    | refine (State.replyTo_stays.up ?_).after ?_
    | split
    | intro _)

theorem State.noteHealth_stays {s : State} {site : Nat} {e : Bytes} :
    Stays { head := true } s (State.noteHealth s site e) := by
  unfold State.noteHealth
  with_reducible repeat' (first
    | exact Stays.rfl
    | exact Eq.refl (α := Mask) _
    | refine (State.setShelf_stays.up ?_).after ?_)

theorem State.shelfWindow_stays {s : State} :
    Stays { sh := true } s (State.shelfWindow s) := by
  unfold State.shelfWindow
  with_reducible repeat' (first
    | exact Stays.rfl
    | fail_if_no_progress (with_reducible refine (Stays.upd ?_).after ?_; with_reducible exact Eq.refl (α := State) _))

end Sys2Proof.Machine
end

