-- ==== Sys2Proof/Laws/StaysIndex.lean ====
section
/-! SUPPORT. The operations of Machine/Index.lean keep the fixed part and the form of the tables. -/

namespace Sys2Proof.Machine

theorem State.setBucket_stays {s : State} {b : Nat} {l : List IdxEntry} :
    Stays { keep := true } s (State.setBucket s b l) := by
  unfold State.setBucket
  with_reducible repeat' (first
    | exact Stays.rfl
    | fail_if_no_progress (with_reducible refine (Stays.upd ?_).after ?_; with_reducible exact Eq.refl (α := State) _))

theorem State.setIdxPending_stays {s : State} {l : List IdxEntry} :
    Stays { sh := true } s (State.setIdxPending s l) := by
  unfold State.setIdxPending
  with_reducible repeat' (first
    | exact Stays.rfl
    | fail_if_no_progress (with_reducible refine (Stays.upd ?_).after ?_; with_reducible exact Eq.refl (α := State) _))

theorem State.retag_stays {s : State} {b : Nat} :
    Stays { sh := true } s (State.retag s b) := by
  unfold State.retag
  with_reducible repeat' (first
    | exact Stays.rfl
    | exact Eq.refl (α := Mask) _
    | refine ite_stays ?_ ?_
    | fail_if_no_progress (with_reducible refine (Stays.upd ?_).after ?_; with_reducible exact Eq.refl (α := State) _))

theorem State.retagAll_stays {s : State} :
    Stays { sh := true } s (State.retagAll s) := by
  unfold State.retagAll
  with_reducible repeat' (first
    | exact Stays.rfl
    | exact Eq.refl (α := Mask) _
    | refine (State.retag_stays.up ?_).after ?_
    | refine (foldl_stays ?_).after ?_
    | refine (foldl2_stays ?_).after ?_
    | intro _ _
    | intro _
    | fail_if_no_progress (with_reducible refine (Stays.upd ?_).after ?_; with_reducible exact Eq.refl (α := State) _))

theorem execIdxQuery_keeps {h : FrameHdr} {domain : Nat} {fp : Bytes} {s : State} :
    Keeps { ring := true, port := true, out := true } s (execIdxQuery h domain fp s) := by
  unfold execIdxQuery
  with_reducible repeat' (first
    | exact Stays.rfl
    | exact Eq.refl (α := Mask) _
    | refine onShelf_keeps ?_ ?_
    | refine (State.giveCredit_stays.up ?_).after ?_
    | refine (State.replyTo_stays.up ?_).after ?_
    | intro _)

theorem State.idxInsert_stays {s : State} {domain chunkId : Nat} {fp : Bytes} :
    Stays { ev := true, nvme := true, sh := true, out := true } s (State.idxInsert s domain chunkId fp).2.2 := by
  unfold State.idxInsert
  with_reducible repeat' (first
    | exact Stays.rfl
    | refine (State.retag_stays.up ?_).after ?_
    | refine ite_stays ?_ ?_
    | fail_if_no_progress (with_reducible refine (Stays.upd ?_).after ?_; with_reducible exact Eq.refl (α := State) _)
    | split
    | exact Eq.refl (α := Mask) _
    | refine (State.event_stays.up ?_).after ?_
    | refine (State.setIdxPending_stays.up ?_).after ?_
    | (conv => arg 3; zeta); split)

theorem State.idxInsertReady_stays {s : State} {domain chunkId : Nat} {fp : Bytes} :
    Stays { ev := true, nvme := true, sh := true, out := true } s (State.idxInsertReady s domain chunkId fp).2.2 := by
  unfold State.idxInsertReady
  with_reducible repeat' (first
    | exact Stays.rfl
    | exact Eq.refl (α := Mask) _
    | refine (State.idxInsert_stays.up ?_).after ?_
    | (conv => arg 3; zeta); split)

theorem State.idxDelete_stays {s : State} {domain chunkId : Nat} {fp : Bytes} :
    Stays { sh := true, keep := true } s (State.idxDelete s domain chunkId fp).2.2 := by
  unfold State.idxDelete
  with_reducible repeat' (first
    | exact Stays.rfl
    | refine (State.retag_stays.up ?_).after ?_
    | intro _
    | exact Eq.refl (α := Mask) _
    | refine (State.setBucket_stays.up ?_).after ?_
    | refine (State.setIdxPending_stays.up ?_).after ?_
    | refine ite_stays ?_ ?_)

theorem State.idxReplace_stays {s : State} {domain new old : Nat} {fp : Bytes} :
    Stays { sh := true, keep := true } s (State.idxReplace s domain new old fp).2.2 := by
  unfold State.idxReplace
  with_reducible repeat' (first
    | exact Stays.rfl
    | exact Eq.refl (α := Mask) _
    | refine (State.setBucket_stays.up ?_).after ?_
    | refine (State.setIdxPending_stays.up ?_).after ?_
    | refine ite_stays ?_ ?_
    | (conv => arg 3; zeta); split)

theorem State.idxReply_stays {s : State} {c : Copied} {chunkId result named : Nat} :
    Stays { port := true, out := true } s (State.idxReply s c chunkId result named) := by
  unfold State.idxReply
  with_reducible repeat' (first
    | exact Stays.rfl
    | exact Eq.refl (α := Mask) _
    | refine (State.replyTo_stays.up ?_).after ?_)

theorem idxTagged_keeps {m : Mask} {h : FrameHdr} {op domain chunkId old : Nat} {fp : Bytes} {s : State} {f : State → Nat × Nat × State} (hm : Mask.or { ev := true, ring := true, nvme := true, port := true, sh := true, out := true } m = m) (hf : ∀ a0, Stays m a0 (f a0).2.2) :
    Keeps m s (idxTagged h op domain chunkId old fp s f) := by
  unfold idxTagged
  with_reducible repeat' (first
    | exact Stays.rfl
    | exact Mask.or_trans (Eq.refl _) hm
    | exact hf ..
    | refine onShelf_keeps ?_ ?_
    | refine (State.compareCopy_stays ?_ ?_ ?_).after ?_
    | refine (State.event_stays.up ?_).after ?_
    | refine (State.giveCredit_stays.up ?_).after ?_
    | refine (State.idxReply_stays.up ?_).after ?_
    | refine (State.onTagged_stays ?_ ?_).after ?_
    | refine (State.remember_stays.up ?_).after ?_
    | split
    | intro _)

theorem execIdxInsert_keeps {h : FrameHdr} {domain chunkId : Nat} {fp : Bytes} {s : State} :
    Keeps { ev := true, ring := true, nvme := true, port := true, sh := true, out := true } s (execIdxInsert h domain chunkId fp s) := by
  unfold execIdxInsert
  with_reducible repeat' (first
    | exact Stays.rfl
    | exact Eq.refl (α := Mask) _
    | refine idxTagged_keeps ?_ ?_
    | refine (State.idxInsertReady_stays.up ?_).after ?_
    | intro _)

theorem execIdxDelete_keeps {h : FrameHdr} {domain chunkId : Nat} {fp : Bytes} {s : State} :
    Keeps { ev := true, ring := true, nvme := true, port := true, sh := true, keep := true, out := true } s (execIdxDelete h domain chunkId fp s) := by
  unfold execIdxDelete
  with_reducible repeat' (first
    | exact Stays.rfl
    | exact Eq.refl (α := Mask) _
    | refine idxTagged_keeps ?_ ?_
    | refine (State.idxDelete_stays.up ?_).after ?_
    | intro _)

theorem execIdxReplace_keeps {h : FrameHdr} {domain chunkId old : Nat} {fp : Bytes} {s : State} :
    Keeps { ev := true, ring := true, nvme := true, port := true, sh := true, keep := true, out := true } s (execIdxReplace h domain chunkId old fp s) := by
  unfold execIdxReplace
  with_reducible repeat' (first
    | exact Stays.rfl
    | exact Eq.refl (α := Mask) _
    | refine idxTagged_keeps ?_ ?_
    | refine (State.idxReplace_stays.up ?_).after ?_
    | intro _)

theorem idxPlain_keeps {m : Mask} {h : FrameHdr} {s : State} {f : State → Nat × Nat × State} (hm : Mask.or { ring := true, port := true, out := true } m = m) (hf : ∀ a0, Stays m a0 (f a0).2.2) :
    Keeps m s (idxPlain h s f) := by
  unfold idxPlain
  with_reducible repeat' (first
    | exact Mask.or_trans (Eq.refl _) hm
    | exact hf ..
    | refine onShelf_keeps ?_ ?_
    | refine (State.giveCredit_stays.up ?_).after ?_
    | refine (State.replyTo_stays.up ?_).after ?_
    | intro _)

theorem execIdxRebuildInsert_keeps {h : FrameHdr} {domain chunkId : Nat} {fp : Bytes} {s : State} :
    Keeps { ev := true, ring := true, nvme := true, port := true, sh := true, out := true } s (execIdxRebuildInsert h domain chunkId fp s) := by
  unfold execIdxRebuildInsert
  with_reducible repeat' (first
    | exact Stays.rfl
    | exact Eq.refl (α := Mask) _
    | refine idxPlain_keeps ?_ ?_
    | refine (State.idxInsert_stays.up ?_).after ?_
    | intro _)

theorem execIdxRangeReady_keeps {h : FrameHdr} {range : BitVec 16} {s : State} :
    Keeps { ring := true, port := true, keep := true, out := true } s (execIdxRangeReady h range s) := by
  unfold execIdxRangeReady
  with_reducible repeat' (first
    | exact Stays.rfl
    | exact Eq.refl (α := Mask) _
    | refine idxPlain_keeps ?_ ?_
    | fail_if_no_progress (with_reducible refine (Stays.upd ?_).after ?_; with_reducible exact Eq.refl (α := State) _)
    | intro _)

theorem execIdxRangeDrop_keeps {h : FrameHdr} {range : BitVec 16} {s : State} :
    Keeps { ring := true, port := true, sh := true, keep := true, out := true } s (execIdxRangeDrop h range s) := by
  unfold execIdxRangeDrop
  with_reducible repeat' (first
    | exact Stays.rfl
    | refine onlyIf_keeps ?_
    | refine keeps_next ?_
    | refine ite_keeps ?_ ?_
    | refine (State.retagAll_stays.up ?_).after ?_
    | fail_if_no_progress (with_reducible refine (Stays.upd ?_).after ?_; with_reducible exact Eq.refl (α := State) _)
    | exact Eq.refl (α := Mask) _
    | refine idxPlain_keeps ?_ ?_
    | refine (State.setIdxPending_stays.up ?_).after ?_
    | fail_if_no_progress (with_reducible refine (Stays.upd ?_).after ?_; with_reducible exact Eq.refl (α := State) _)
    | intro _)

theorem writePending_stays  {x0 : List IdxEntry} {x1 : State} :
    Stays { keep := true } x1 (writePending x0 x1) := by
  induction x0 generalizing x1 with
  | nil =>
    unfold writePending
    with_reducible exact Stays.rfl
  | cons y ys ih =>
    unfold writePending
    with_reducible repeat' (first
      | exact Stays.rfl
      | refine ih.after ?_
      | exact Eq.refl (α := Mask) _
      | refine (State.setBucket_stays.up ?_).after ?_)

theorem State.writeShard_stays {s : State} :
    Stays { sh := true, keep := true } s (State.writeShard s) := by
  unfold State.writeShard
  with_reducible repeat' (first
    | exact Stays.rfl
    | exact Eq.refl (α := Mask) _
    | refine (State.setIdxPending_stays.up ?_).after ?_
    | refine (writePending_stays.up ?_).after ?_
    | refine ite_stays ?_ ?_)

theorem execPendingWriteBack_keeps {strip : Nat} {s : State} :
    Keeps { sh := true, keep := true } s (execPendingWriteBack strip s) := by
  unfold execPendingWriteBack
  with_reducible repeat' (first
    | exact Stays.rfl
    | exact Eq.refl (α := Mask) _
    | refine onlyIf_keeps ?_
    | refine (State.setIdxPending_stays.up ?_).after ?_
    | refine (writePending_stays.up ?_).after ?_)

theorem execShardTagRebuildDone_keeps {s : State} :
    Keeps { ev := true, nvme := true, sh := true, out := true } s (execShardTagRebuildDone s) := by
  unfold execShardTagRebuildDone
  with_reducible repeat' (first
    | exact Stays.rfl
    | refine keeps_next ?_
    | refine ite_keeps ?_ ?_
    | refine onlyIf_keeps ?_ ?_
    | refine (State.retagAll_stays.up ?_).after ?_
    | intro _
    | exact Eq.refl (α := Mask) _
    | refine onlyIf_keeps ?_
    | refine (State.event_stays.up ?_).after ?_
    | fail_if_no_progress (with_reducible refine (Stays.upd ?_).after ?_; with_reducible exact Eq.refl (α := State) _))

theorem execShardRangeRebuild_keeps {range : BitVec 16} {s : State} :
    Keeps { port := true, head := true, out := true } s (execShardRangeRebuild range s) := by
  unfold execShardRangeRebuild
  with_reducible repeat' (first
    | exact Stays.rfl
    | exact Eq.refl (α := Mask) _
    | refine keeps_next ?_
    | refine (State.record_stays.up ?_).after ?_
    | refine (State.request_stays.up ?_).after ?_
    | refine (State.setMd_stays.up ?_).after ?_
    | refine ite_stays ?_ ?_
    | split
    | (conv => arg 3; zeta); split)

theorem execShelfLinkLossFail_keeps {site : Fin 64} {s : State} :
    Keeps { head := true } s (execShelfLinkLossFail site s) := by
  unfold execShelfLinkLossFail
  with_reducible repeat' (first
    | exact Stays.rfl
    | exact Eq.refl (α := Mask) _
    | refine onlyIf_keeps ?_
    | refine (State.recordFail_stays.up ?_).after ?_)

theorem execSpokePortFailTimeout_keeps {p : Fin 64} {s : State} :
    Keeps { ev := true, nvme := true, head := true, out := true } s (execSpokePortFailTimeout p s) := by
  unfold execSpokePortFailTimeout
  with_reducible repeat' (first
    | exact Stays.rfl
    | exact Eq.refl (α := Mask) _
    | refine onlyIf_keeps ?_
    | refine (State.alarm_stays.up ?_).after ?_
    | refine (State.recordFail_stays.up ?_).after ?_
    | refine ite_stays ?_ ?_)

theorem execPlannedAbsenceExpiry_keeps {site : Fin 64} {s : State} :
    Keeps { head := true } s (execPlannedAbsenceExpiry site s) := by
  unfold execPlannedAbsenceExpiry
  with_reducible repeat' (first
    | exact Stays.rfl
    | exact Eq.refl (α := Mask) _
    | refine onlyIf_keeps ?_
    | refine (State.recordFail_stays.up ?_).after ?_)

theorem State.shelfReadOnly_stays {s : State} {site : Nat} :
    Stays { ev := true, hem := true, nvme := true, port := true, head := true, out := true } s (State.shelfReadOnly s site) := by
  unfold State.shelfReadOnly
  with_reducible repeat' (first
    | exact Stays.rfl
    | exact Eq.refl (α := Mask) _
    | refine (State.moveShard_stays.up ?_).after ?_
    | refine (State.replaceSite_stays.up ?_).after ?_
    | refine ite_stays ?_ ?_)

theorem State.gladeCheck_stays {s : State} :
    Stays { ev := true, nvme := true, out := true } s (State.gladeCheck s) := by
  unfold State.gladeCheck
  with_reducible repeat' (first
    | exact Stays.rfl
    | exact Eq.refl (α := Mask) _
    | refine (State.alarm_stays.up ?_).after ?_
    | refine (State.clearAlarm_stays.up ?_).after ?_
    | refine ite_stays ?_ ?_)

theorem execHealth_keeps {h : FrameHdr} {entry : Bytes} {s : State} :
    Keeps { ev := true, ring := true, hem := true, nvme := true, port := true, head := true, out := true } s (execHealth h entry s) := by
  unfold execHealth
  with_reducible repeat' (first
    | exact Stays.rfl
    | exact Eq.refl (α := Mask) _
    | refine onFrame_keeps ?_ ?_
    | refine (State.giveCredit_stays.up ?_).after ?_
    | refine (State.gladeCheck_stays.up ?_).after ?_
    | refine (State.noteHealth_stays.up ?_).after ?_
    | refine (State.pump_stays.up ?_).after ?_
    | refine (State.replied_stays.up ?_).after ?_
    | refine (State.replyTo_stays.up ?_).after ?_
    | refine (State.shelfReadOnly_stays.up ?_).after ?_
    | refine ite_stays ?_ ?_
    | intro _)

theorem State.appendAcked_stays {s : State} {t : Tag} {site : Nat} :
    Stays { head := true } s (State.appendAcked s t site) := by
  unfold State.appendAcked
  with_reducible repeat' (first
    | exact Stays.rfl
    | exact Eq.refl (α := Mask) _
    | refine (State.setWork_stays.up ?_).after ?_
    | refine ite_stays ?_ ?_
    | (conv => arg 3; zeta); split)

theorem State.recordMember_stays {s : State} {stripe member site : Nat} :
    Stays { head := true } s (State.recordMember s stripe member site) := by
  unfold State.recordMember
  with_reducible repeat' (first
    | exact Stays.rfl
    | exact Eq.refl (α := Mask) _
    | refine (State.setStream_stays.up ?_).after ?_
    | refine ite_stays ?_ ?_
    | fail_if_no_progress (with_reducible refine (Stays.upd ?_).after ?_; with_reducible exact Eq.refl (α := State) _))

theorem State.darnAcked_stays {s : State} {stripe member site : Nat} :
    Stays { head := true } s (State.darnAcked s stripe member site) := by
  unfold State.darnAcked
  with_reducible repeat' (first
    | exact Stays.rfl
    | refine (State.recordMember_stays.up ?_).after ?_
    | exact Eq.refl (α := Mask) _
    | refine (State.setStream_stays.up ?_).after ?_
    | refine ite_stays ?_ ?_
    | fail_if_no_progress (with_reducible refine (Stays.upd ?_).after ?_; with_reducible exact Eq.refl (α := State) _))

theorem State.refoldAcked_stays {s : State} {stripe member : Nat} :
    Stays { head := true } s (State.refoldAcked s stripe member) := by
  unfold State.refoldAcked
  with_reducible repeat' (first
    | exact Stays.rfl
    | refine ite_stays ?_ ?_
    | fail_if_no_progress (with_reducible refine (Stays.upd ?_).after ?_; with_reducible exact Eq.refl (α := State) _))

theorem State.ackEntry_stays {s : State} {site : Nat} {t : Tag} :
    Stays { hem := true, port := true, head := true, out := true } s (State.ackEntry s site t) := by
  unfold State.ackEntry
  with_reducible repeat' (first
    | exact Stays.rfl
    | exact Eq.refl (α := Mask) _
    | refine (State.appendAcked_stays.up ?_).after ?_
    | refine (State.darnAcked_stays.up ?_).after ?_
    | refine (State.memberAcked_stays.up ?_).after ?_
    | refine (State.refoldAcked_stays.up ?_).after ?_
    | refine (State.stripAcked_stays.up ?_).after ?_
    | refine ite_stays ?_ ?_
    | fail_if_no_progress (with_reducible refine (Stays.upd ?_).after ?_; with_reducible exact Eq.refl (α := State) _)
    | (conv => arg 3; zeta); split)

theorem spokeAck_keeps {h : FrameHdr} {es : List AckEntry} {s : State} :
    Keeps { ring := true, hem := true, cam := true, port := true, head := true, out := true } s (spokeAck h es s) := by
  unfold spokeAck
  with_reducible repeat' (first
    | exact Stays.rfl
    | refine onlyIf_keeps ?_
    | refine keeps_next ?_
    | refine ite_keeps ?_ ?_
    | refine (foldl2_stays ?_).after ?_
    | exact Eq.refl (α := Mask) _
    | refine onHead_keeps ?_ ?_
    | refine (State.ackEntry_stays.up ?_).after ?_
    | refine (State.pump_stays.up ?_).after ?_
    | refine (State.sweep_stays.up ?_).after ?_
    | refine (foldl_stays ?_).after ?_
    | intro _ _
    | intro _)

theorem execSpokeDone_keeps {h : FrameHdr} {es : List AckEntry} {s : State} :
    Keeps { ring := true, port := true, head := true, out := true } s (execSpokeDone h es s) := by
  unfold execSpokeDone
  with_reducible repeat' (first
    | exact Stays.rfl
    | exact Eq.refl (α := Mask) _
    | refine onHead_keeps ?_ ?_
    | refine (State.pump_stays.up ?_).after ?_
    | fail_if_no_progress (with_reducible refine (Stays.upd ?_).after ?_; with_reducible exact Eq.refl (α := State) _)
    | intro _)

theorem execLedgerGetReply_keeps {h : FrameHdr} {status : Nat} {record : Bytes} {s : State} :
    Keeps { nor := true, ledger := true, ring := true, hem := true, port := true, head := true, free := true, out := true } s (execLedgerGetReply h status record s) := by
  unfold execLedgerGetReply
  with_reducible repeat' (first
    | exact Stays.rfl
    | exact Eq.refl (α := Mask) _
    | refine onHead_keeps ?_ ?_
    | refine (State.pump_stays.up ?_).after ?_
    | refine (State.replied_stays.up ?_).after ?_
    | refine (State.takeRecord_stays.up ?_).after ?_
    | refine ite_stays ?_ ?_
    | intro _)

theorem execLedgerCollectTimeout_keeps {s : State} :
    Keeps { nor := true, ledger := true, hem := true, head := true, free := true } s (execLedgerCollectTimeout s) := by
  unfold execLedgerCollectTimeout
  with_reducible repeat' (first
    | exact Stays.rfl
    | refine keeps_next ?_
    | refine ite_keeps ?_ ?_
    | refine onlyIf_keeps ?_ ?_
    | exact Eq.refl (α := Mask) _
    | refine onlyIf_keeps ?_
    | refine (State.appendArray_stays.up ?_).after ?_)

end Sys2Proof.Machine
end

