-- ==== Sys2Proof/Laws/StaysReplMsg.lean ====
section
/-! SUPPORT. The operations of Machine/ReplMsg.lean keep the fixed part and the form of the tables. -/

namespace Sys2Proof.Machine

theorem State.sendPkts_stays {s : State} {n psn : Nat} {ports : List Nat} :
    Stays { rdma := true, out := true } s (State.sendPkts s n psn ports) := by
  unfold State.sendPkts
  with_reducible repeat' (first
    | exact Stays.rfl
    | exact Eq.refl (α := Mask) _
    | refine (State.emit_stays.up ?_).after ?_
    | refine ite_stays ?_ ?_
    | fail_if_no_progress (with_reducible refine (Stays.upd ?_).after ?_; with_reducible exact Eq.refl (α := State) _))

theorem State.postSend_stays {s : State} {n len : Nat} :
    Stays { rdma := true, out := true } s (State.postSend s n len) := by
  unfold State.postSend
  with_reducible repeat' (first
    | exact Stays.rfl
    | exact Eq.refl (α := Mask) _
    | refine (State.sendPkts_stays.up ?_).after ?_
    | fail_if_no_progress (with_reducible refine (Stays.upd ?_).after ?_; with_reducible exact Eq.refl (α := State) _)
    | (conv => arg 3; zeta); split)

theorem State.sendRepl_stays {s : State} {data : Bool} {type stream part parts ident prev flags : Nat} {payload : Bytes} :
    Stays { rdma := true, repl := true, out := true } s (State.sendRepl s data type stream part parts ident prev flags payload) := by
  unfold State.sendRepl
  with_reducible repeat' (first
    | exact Stays.rfl
    | exact Eq.refl (α := Mask) _
    | refine (State.emit_stays.up ?_).after ?_
    | refine (State.postSend_stays.up ?_).after ?_
    | fail_if_no_progress (with_reducible refine (Stays.upd ?_).after ?_; with_reducible exact Eq.refl (α := State) _)
    | (conv => arg 3; zeta); split)

theorem State.replReq_stays {s : State} :
    Stays { repl := true } s (State.replReq s).2 := by
  unfold State.replReq
  with_reducible repeat' (first
    | exact Stays.rfl
    | fail_if_no_progress (with_reducible refine (Stays.upd ?_).after ?_; with_reducible exact Eq.refl (α := State) _))

theorem State.askPartner_stays {s : State} {chunkId domain : Nat} {fp : Bytes} :
    Stays { rdma := true, repl := true, out := true } s (State.askPartner s chunkId domain fp) := by
  unfold State.askPartner
  with_reducible repeat' (first
    | exact Stays.rfl
    | exact Eq.refl (α := Mask) _
    | refine (State.replReq_stays.up ?_).after ?_
    | refine (State.sendRepl_stays.up ?_).after ?_
    | fail_if_no_progress (with_reducible refine (Stays.upd ?_).after ?_; with_reducible exact Eq.refl (α := State) _))

end Sys2Proof.Machine
end

