-- ==== Sys2Proof/Laws/StaysReadPath.lean ====
section
/-! SUPPORT. The operations of Machine/ReadPath.lean keep the fixed part and the form of the tables. -/

namespace Sys2Proof.Machine

theorem State.fpSample_stays {s : State} :
    Stays { free := true } s (State.fpSample s).2 := by
  unfold State.fpSample
  with_reducible repeat' (first
    | exact Stays.rfl
    | exact Eq.refl (α := Mask) _
    | refine (State.takeFree_stays.up ?_).after ?_
    | (conv => arg 3; zeta); split)

theorem State.decodeImage_stays {s : State} {id : Nat} {c : ChunkRec} {img : Bytes} :
    Stays { free := true } s (State.decodeImage s id c img).2 := by
  unfold State.decodeImage
  with_reducible repeat' (first
    | exact Stays.rfl
    | exact Eq.refl (α := Mask) _
    | refine (State.fpSample_stays.up ?_).after ?_
    | (conv => arg 3; zeta); split)

theorem State.mappedPart_stays {s : State} {id app : Nat} :
    Stays { free := true } s (State.mappedPart s id app).1 := by
  unfold State.mappedPart
  with_reducible repeat' (first
    | exact Stays.rfl
    | exact Eq.refl (α := Mask) _
    | refine (State.fpSample_stays.up ?_).after ?_
    | refine ite_stays ?_ ?_
    | fail_if_no_progress (with_reducible refine (Stays.upd ?_).after ?_; with_reducible exact Eq.refl (α := State) _)
    | (conv => arg 3; zeta); split
    | split)

theorem State.leafPart_stays {s : State} {nsid no : Nat} :
    Stays { free := true } s (State.leafPart s nsid no).1 := by
  unfold State.leafPart
  with_reducible repeat' (first
    | exact Stays.rfl
    | exact Eq.refl (α := Mask) _
    | refine (State.mappedPart_stays.up ?_).after ?_
    | refine ite_stays ?_ ?_
    | fail_if_no_progress (with_reducible refine (Stays.upd ?_).after ?_; with_reducible exact Eq.refl (α := State) _)
    | (conv => arg 3; zeta); split
    | split)

theorem State.openHit_stays {s : State} {nsid no : Nat} :
    Stays { ev := true, nvme := true, cam := true, out := true } s (State.openHit s nsid no).1 := by
  unfold State.openHit
  with_reducible repeat' (first
    | exact Stays.rfl
    | exact Eq.refl (α := Mask) _
    | refine (State.searchMend_stays.up ?_).after ?_
    | intro _)

theorem State.findParts_stays {s : State} {nsid : Nat} {x0 : List Nat} :
    Stays { ev := true, nvme := true, cam := true, free := true, out := true } s (State.findParts s nsid x0).1 := by
  induction x0 generalizing s with
  | nil => exact Stays.rfl
  | cons no rest ih =>
    unfold State.findParts
    refine Stays.after ih ?_
    have h : Stays { ev := true, nvme := true, cam := true, free := true, out := true } s (State.openHit s nsid no).1 :=
      State.openHit_stays.up rfl
    split
    · exact h
    · exact (State.leafPart_stays.up rfl).after h

theorem State.putFetch_stays {s : State} {f : Fetch} :
    Stays { head := true } s (State.putFetch s f) := by
  unfold State.putFetch
  with_reducible repeat' (first
    | exact Stays.rfl
    | fail_if_no_progress (with_reducible refine (Stays.upd ?_).after ?_; with_reducible exact Eq.refl (α := State) _))

theorem askMembers_stays {stripe first count : Nat} {r : StripeRec} {x0 : List Nat} {x1 : State} :
    Stays { port := true, head := true, out := true } x1 (askMembers stripe first count r x0 x1).2 := by
  induction x0 generalizing stripe first count r x1 with
  | nil =>
    unfold askMembers
    with_reducible exact Stays.rfl
  | cons y ys ih =>
    unfold askMembers
    with_reducible repeat' (first
      | exact Stays.rfl
      | refine ih.after ?_
      | exact Eq.refl (α := Mask) _
      | refine (State.request_stays.up ?_).after ?_)

theorem State.deliver_stays {s : State} {id : Nat} {content : Option (Bytes × Nat)} :
    Stays { head := true } s (State.deliver s id content) := by
  unfold State.deliver
  with_reducible repeat' (first
    | exact Stays.rfl
    | fail_if_no_progress (with_reducible refine (Stays.upd ?_).after ?_; with_reducible exact Eq.refl (α := State) _))

theorem State.countRead_stays {s : State} {bytes : Nat} :
    Stays { nvme := true } s (State.countRead s bytes) := by
  unfold State.countRead
  with_reducible repeat' (first
    | exact Stays.rfl
    | exact Eq.refl (α := Mask) _
    | fail_if_no_progress (with_reducible refine (Stays.upd ?_).after ?_; with_reducible exact Eq.refl (α := State) _))

theorem State.completeRead_stays {s : State} {r : WaitRead} :
    Stays { nvme := true, seam := true, out := true } s (State.completeRead s r) := by
  unfold State.completeRead
  with_reducible repeat' (first
    | exact Stays.rfl
    | refine (State.countRead_stays.up ?_).after ?_
    | intro _
    | fail_if_no_progress (with_reducible refine (Stays.upd ?_).after ?_; with_reducible exact Eq.refl (α := State) _)
    | split
    | exact Eq.refl (α := Mask) _
    | refine (State.finish_stays.up ?_).after ?_
    | refine (State.post_stays.up ?_).after ?_
    | refine (State.reply_stays.up ?_).after ?_
    | refine (State.sendSeam_stays.up ?_).after ?_
    | refine ite_stays ?_ ?_
    | fail_if_no_progress (with_reducible refine (Stays.upd ?_).after ?_; with_reducible exact Eq.refl (α := State) _)
    | (conv => arg 3; zeta); split)

theorem State.finishReads_stays {s : State} :
    Stays { nvme := true, seam := true, head := true, out := true } s (State.finishReads s) := by
  unfold State.finishReads
  with_reducible repeat' (first
    | exact Stays.rfl
    | exact Eq.refl (α := Mask) _
    | refine (State.completeRead_stays.up ?_).after ?_
    | refine (foldl_stays ?_).after ?_
    | fail_if_no_progress (with_reducible refine (Stays.upd ?_).after ?_; with_reducible exact Eq.refl (α := State) _)
    | intro _ _)

theorem State.askRepair_stays {s : State} {id domain : Nat} {fp : Bytes} {fromPeer : Bool} :
    Stays { seam := true, head := true, rdma := true, repl := true, out := true } s (State.askRepair s id domain fp fromPeer) := by
  unfold State.askRepair
  with_reducible repeat' (first
    | exact Stays.rfl
    | exact Eq.refl (α := Mask) _
    | refine (State.askPartner_stays.up ?_).after ?_
    | refine (State.sendSeam_stays.up ?_).after ?_
    | refine ite_stays ?_ ?_
    | fail_if_no_progress (with_reducible refine (Stays.upd ?_).after ?_; with_reducible exact Eq.refl (α := State) _))

theorem State.loseChunk_stays {s : State} {id : Nat} :
    Stays { seam := true, head := true, rdma := true, repl := true, out := true } s (State.loseChunk s id) := by
  unfold State.loseChunk
  with_reducible repeat' (first
    | exact Stays.rfl
    | exact Eq.refl (α := Mask) _
    | refine (State.askRepair_stays.up ?_).after ?_
    | refine (State.deliver_stays.up ?_).after ?_
    | refine (State.setMd_stays.up ?_).after ?_
    | refine ite_stays ?_ ?_
    | fail_if_no_progress (with_reducible refine (Stays.upd ?_).after ?_; with_reducible exact Eq.refl (α := State) _)
    | (conv => arg 3; zeta); split)

theorem State.noteLost_stays {s : State} {f : Fetch} {r : StripeRec} :
    Stays { head := true } s (State.noteLost s f r) := by
  unfold State.noteLost
  with_reducible repeat' (first
    | exact Stays.rfl
    | intro _
    | fail_if_no_progress (with_reducible refine (Stays.upd ?_).after ?_; with_reducible exact Eq.refl (α := State) _)
    | split
    | exact Eq.refl (α := Mask) _
    | refine (State.setStream_stays.up ?_).after ?_
    | refine ite_stays ?_ ?_
    | (conv => arg 3; zeta); split)

theorem State.reconstruct_some {s t : State} {f : Fetch} {r : StripeRec} (h : s.reconstruct f r = some t) :
    Stays { seam := true, port := true, head := true, rdma := true, repl := true, out := true } s t := by
  unfold State.reconstruct at h
  dsimp only at h
  split at h
  · cases h
  · cases h
    exact (State.putFetch_stays.up rfl).after (askMembers_stays.up rfl)

theorem State.goOn_stays {s : State} {f : Fetch} {r : StripeRec} :
    Stays { seam := true, port := true, head := true, rdma := true, repl := true, out := true } s (State.goOn s f r) := by
  unfold State.goOn
  split
  · rename_i h
    exact State.reconstruct_some h
  · exact (State.loseChunk_stays.up rfl).after (State.noteLost_stays.up rfl)

theorem State.startFetch_stays {s : State} {id : Nat} :
    Stays { seam := true, port := true, head := true, rdma := true, repl := true, out := true } s (State.startFetch s id) := by
  unfold State.startFetch
  with_reducible repeat' (first
    | exact Stays.rfl
    | refine (State.goOn_stays.up ?_).after ?_
    | intro _
    | fail_if_no_progress (with_reducible refine (Stays.upd ?_).after ?_; with_reducible exact Eq.refl (α := State) _)
    | split
    | exact Eq.refl (α := Mask) _
    | refine (State.askRepair_stays.up ?_).after ?_
    | refine (State.deliver_stays.up ?_).after ?_
    | refine (State.loseChunk_stays.up ?_).after ?_
    | refine (State.noteLost_stays.up ?_).after ?_
    | refine (State.putFetch_stays.up ?_).after ?_
    | refine (State.startRecon_stays.up ?_).after ?_
    | refine (askMembers_stays.up ?_).after ?_
    | refine ite_stays ?_ ?_
    | (conv => arg 3; zeta); split)

theorem State.endFetch_stays {s : State} {f : Fetch} :
    Stays { seam := true, port := true, head := true, rdma := true, repl := true, free := true, out := true } s (State.endFetch s f) := by
  unfold State.endFetch
  with_reducible repeat' (first
    | exact Stays.rfl
    | refine (State.goOn_stays.up ?_).after ?_
    | intro _
    | fail_if_no_progress (with_reducible refine (Stays.upd ?_).after ?_; with_reducible exact Eq.refl (α := State) _)
    | split
    | exact Eq.refl (α := Mask) _
    | refine (State.decodeImage_stays.up ?_).after ?_
    | refine (State.deliver_stays.up ?_).after ?_
    | refine (State.loseChunk_stays.up ?_).after ?_
    | refine (State.noteLost_stays.up ?_).after ?_
    | refine (State.startRecon_stays.up ?_).after ?_
    | refine ite_stays ?_ ?_
    | (conv => arg 3; zeta); split)

theorem execSectorReadReply_keeps {h : FrameHdr} {status : Nat} {failMask : BitVec 16} {data : List Bytes} {s : State} :
    Keeps { ring := true, nvme := true, seam := true, port := true, head := true, rdma := true, repl := true, free := true, out := true } s (execSectorReadReply h status failMask data s) := by
  unfold execSectorReadReply
  with_reducible repeat' (first
    | exact Stays.rfl
    | exact Eq.refl (α := Mask) _
    | refine onHead_keeps ?_ ?_
    | refine (State.endFetch_stays.up ?_).after ?_
    | refine (State.finishReads_stays.up ?_).after ?_
    | refine (State.pump_stays.up ?_).after ?_
    | refine (State.putFetch_stays.up ?_).after ?_
    | refine (State.replied_stays.up ?_).after ?_
    | refine ite_stays ?_ ?_
    | split
    | (conv => arg 3; zeta); split
    | intro _)

theorem State.beginRead_stays {s : State} {r : WaitRead} :
    Stays { ev := true, nvme := true, seam := true, cam := true, port := true, head := true, rdma := true, repl := true, free := true, out := true } s (State.beginRead s r) := by
  unfold State.beginRead
  with_reducible repeat' (first
    | exact Stays.rfl
    | exact Eq.refl (α := Mask) _
    | refine (State.findParts_stays.up ?_).after ?_
    | refine (State.completeRead_stays.up ?_).after ?_
    | refine (State.finishReads_stays.up ?_).after ?_
    | refine (State.startFetch_stays.up ?_).after ?_
    | refine (foldl_stays ?_).after ?_
    | refine (foldl2_stays ?_).after ?_
    | intro _ _
    | intro _
    | fail_if_no_progress (with_reducible refine (Stays.upd ?_).after ?_; with_reducible exact Eq.refl (α := State) _)
    | (conv => arg 3; zeta); split
    | split)

theorem State.takeRead_stays {s : State} {r : WaitRead} :
    Stays { ev := true, nvme := true, seam := true, cam := true, port := true, head := true, rdma := true, repl := true, free := true, out := true } s (State.takeRead s r) := by
  unfold State.takeRead
  with_reducible repeat' (first
    | exact Stays.rfl
    | exact Eq.refl (α := Mask) _
    | refine (State.beginRead_stays.up ?_).after ?_
    | refine (State.sendSeam_stays.up ?_).after ?_
    | refine ite_stays ?_ ?_
    | fail_if_no_progress (with_reducible refine (Stays.upd ?_).after ?_; with_reducible exact Eq.refl (α := State) _))

theorem State.beginHeld_stays {s : State} :
    Stays { ev := true, nvme := true, seam := true, cam := true, port := true, head := true, rdma := true, repl := true, free := true, out := true } s (State.beginHeld s) := by
  unfold State.beginHeld
  with_reducible repeat' (first
    | exact Stays.rfl
    | exact Eq.refl (α := Mask) _
    | refine (State.takeRead_stays.up ?_).after ?_
    | refine (foldl_stays ?_).after ?_
    | fail_if_no_progress (with_reducible refine (Stays.upd ?_).after ?_; with_reducible exact Eq.refl (α := State) _)
    | intro _ _)

theorem execFwdRead_keeps {cmd : CmdId} {nsid slba nlb : Nat} {s : State} :
    Keeps { ev := true, nvme := true, seam := true, cam := true, port := true, head := true, rdma := true, repl := true, free := true, out := true } s (execFwdRead cmd nsid slba nlb s) := by
  unfold execFwdRead
  with_reducible repeat' (first
    | exact Stays.rfl
    | refine keeps_next ?_
    | refine ite_keeps ?_ ?_
    | refine onSeam_keeps ?_ ?_
    | intro _
    | split
    | exact Eq.refl (α := Mask) _
    | refine onlyIf_keeps ?_
    | refine (State.rxSeam_stays.up ?_).after ?_
    | refine (State.sendSeam_stays.up ?_).after ?_
    | refine (State.takeRead_stays.up ?_).after ?_
    | refine ite_stays ?_ ?_)

theorem State.finishRemote_stays {s : State} {r : WaitRead} {lbaf : Nat} {data : Bytes} :
    Stays { nvme := true, out := true } s (State.finishRemote s r lbaf data) := by
  unfold State.finishRemote
  with_reducible repeat' (first
    | exact Stays.rfl
    | refine (State.countRead_stays.up ?_).after ?_
    | intro _
    | fail_if_no_progress (with_reducible refine (Stays.upd ?_).after ?_; with_reducible exact Eq.refl (α := State) _)
    | split
    | exact Eq.refl (α := Mask) _
    | refine (State.finish_stays.up ?_).after ?_
    | refine (State.post_stays.up ?_).after ?_
    | refine ite_stays ?_ ?_
    | fail_if_no_progress (with_reducible refine (Stays.upd ?_).after ?_; with_reducible exact Eq.refl (α := State) _)
    | (conv => arg 3; zeta); split)

theorem execReadData_keeps {cmd : CmdId} {st : NvmeSt} {data : Bytes} {s : State} :
    Keeps { nvme := true, seam := true, head := true, out := true } s (execReadData cmd st data s) := by
  unfold execReadData
  with_reducible repeat' (first
    | exact Stays.rfl
    | refine keeps_next ?_
    | refine ite_keeps ?_ ?_
    | refine onSeam_keeps ?_ ?_
    | intro _
    | refine ite_stays ?_ ?_
    | fail_if_no_progress (with_reducible refine (Stays.upd ?_).after ?_; with_reducible exact Eq.refl (α := State) _)
    | exact Eq.refl (α := Mask) _
    | refine onlyIf_keeps ?_
    | refine (State.finishRemote_stays.up ?_).after ?_
    | refine (State.finish_stays.up ?_).after ?_
    | refine (State.rxSeam_stays.up ?_).after ?_
    | fail_if_no_progress (with_reducible refine (Stays.upd ?_).after ?_; with_reducible exact Eq.refl (α := State) _)
    | split
    | (conv => arg 3; zeta); split)

theorem State.restageChunk_stays {s : State} {id : Nat} {c : ChunkRec} {data : Bytes} :
    Stays { port := true, head := true, out := true } s (State.restageChunk s id c data) := by
  unfold State.restageChunk
  with_reducible repeat' (first
    | exact Stays.rfl
    | exact Eq.refl (α := Mask) _
    | refine (State.setMd_stays.up ?_).after ?_
    | refine (State.setStream_stays.up ?_).after ?_
    | refine (State.stageChunk_stays.up ?_).after ?_
    | fail_if_no_progress (with_reducible refine (Stays.upd ?_).after ?_; with_reducible exact Eq.refl (α := State) _))

theorem State.repaired_stays {s : State} {domain : Nat} {fp : Bytes} {data : Option Bytes} :
    Stays { nvme := true, seam := true, port := true, head := true, repl := true, out := true } s (State.repaired s domain fp data) := by
  unfold State.repaired
  with_reducible repeat' (first
    | exact Stays.rfl
    | refine (State.restageChunk_stays.up ?_).after ?_
    | refine (foldl2_stays ?_).after ?_
    | intro _
    | fail_if_no_progress (with_reducible refine (Stays.upd ?_).after ?_; with_reducible exact Eq.refl (α := State) _)
    | split
    | exact Eq.refl (α := Mask) _
    | refine (State.deliver_stays.up ?_).after ?_
    | refine (State.finishReads_stays.up ?_).after ?_
    | refine (State.sendSeam_stays.up ?_).after ?_
    | refine (State.setMd_stays.up ?_).after ?_
    | refine (State.setStream_stays.up ?_).after ?_
    | refine (State.stageChunk_stays.up ?_).after ?_
    | refine (foldl_stays ?_).after ?_
    | refine ite_stays ?_ ?_
    | fail_if_no_progress (with_reducible refine (Stays.upd ?_).after ?_; with_reducible exact Eq.refl (α := State) _)
    | intro _ _
    | (conv => arg 3; zeta); split)

theorem execSeamRepairReq_keeps {domain : Nat} {fp : Bytes} {reply : Option Bytes} {s : State} :
    Keeps { nvme := true, seam := true, port := true, head := true, rdma := true, repl := true, out := true } s (execSeamRepairReq domain fp reply s) := by
  unfold execSeamRepairReq
  with_reducible repeat' (first
    | exact Stays.rfl
    | refine keeps_next ?_
    | refine ite_keeps ?_ ?_
    | refine onSeam_keeps ?_ ?_
    | intro _
    | fail_if_no_progress (with_reducible refine (Stays.upd ?_).after ?_; with_reducible exact Eq.refl (α := State) _)
    | (conv => arg 3; zeta); split
    | exact Eq.refl (α := Mask) _
    | refine onlyIf_keeps ?_
    | refine (State.askRepair_stays.up ?_).after ?_
    | refine (State.repaired_stays.up ?_).after ?_
    | refine (State.rxSeam_stays.up ?_).after ?_
    | refine (State.sendSeam_stays.up ?_).after ?_
    | refine ite_stays ?_ ?_
    | split)

theorem execPartnerRepairTimeout_keeps {domain : Nat} {fp : Bytes} {s : State} :
    Keeps { nvme := true, seam := true, port := true, head := true, repl := true, out := true } s (execPartnerRepairTimeout domain fp s) := by
  unfold execPartnerRepairTimeout
  with_reducible repeat' (first
    | exact Stays.rfl
    | exact Eq.refl (α := Mask) _
    | refine onlyIf_keeps ?_
    | refine (State.repaired_stays.up ?_).after ?_)

end Sys2Proof.Machine
end

