-- ==== Sys2Proof/Laws/StaysPasses.lean ====
section
/-! SUPPORT. The operations of Machine/Passes.lean keep the fixed part and the form of the tables. -/

namespace Sys2Proof.Machine

theorem State.sendStrip_stays {s : State} {id member site : Nat} {r : StripeRec} {rebuilt : Bool} {payload : Bytes} :
    Stays { port := true, head := true, out := true } s (State.sendStrip s id member site r rebuilt payload) := by
  unfold State.sendStrip
  with_reducible repeat' (first
    | exact Stays.rfl
    | exact Eq.refl (α := Mask) _
    | refine (State.toShelf_stays.up ?_).after ?_)

theorem State.recordLost_stays {s : State} {id : Nat} {sectors : List Nat} :
    Stays { head := true } s (State.recordLost s id sectors) := by
  unfold State.recordLost
  with_reducible repeat' (first
    | exact Stays.rfl
    | exact Eq.refl (α := Mask) _
    | refine (State.setStream_stays.up ?_).after ?_
    | refine ite_stays ?_ ?_)

theorem State.setDarn_stays {s : State} {i : Nat} {d : DarnSt} :
    Stays { head := true } s (State.setDarn s i d) := by
  unfold State.setDarn
  with_reducible repeat' (first
    | exact Stays.rfl
    | refine ite_stays ?_ ?_
    | fail_if_no_progress (with_reducible refine (Stays.upd ?_).after ?_; with_reducible exact Eq.refl (α := State) _))

theorem execDarningRebuildStrip_keeps {i : Fin 2} {reads : List StripRead} {s : State} :
    Keeps { ev := true, nvme := true, port := true, head := true, out := true } s (execDarningRebuildStrip i reads s) := by
  unfold execDarningRebuildStrip
  with_reducible repeat' (first
    | exact Stays.rfl
    | refine onlyIf_keeps ?_
    | refine ite_keeps ?_ ?_
    | refine (State.recordMember_stays.up ?_).after ?_
    | fail_if_no_progress (with_reducible refine (Stays.upd ?_).after ?_; with_reducible exact Eq.refl (α := State) _)
    | (conv => arg 3; zeta); split
    | exact Eq.refl (α := Mask) _
    | refine keeps_next ?_
    | refine (State.alarm_stays.up ?_).after ?_
    | refine (State.recordLost_stays.up ?_).after ?_
    | refine (State.sendStrip_stays.up ?_).after ?_
    | refine (State.setDarn_stays.up ?_).after ?_
    | refine ite_stays ?_ ?_
    | fail_if_no_progress (with_reducible refine (Stays.upd ?_).after ?_; with_reducible exact Eq.refl (α := State) _)
    | split)

theorem State.darnRetry_stays {s : State} {i : Nat} :
    Stays { head := true } s (State.darnRetry s i) := by
  unfold State.darnRetry
  with_reducible repeat' (first
    | exact Stays.rfl
    | exact Eq.refl (α := Mask) _
    | refine (State.setDarn_stays.up ?_).after ?_
    | intro _
    | fail_if_no_progress (with_reducible refine (Stays.upd ?_).after ?_; with_reducible exact Eq.refl (α := State) _))

theorem State.darnCheck_stays {s : State} :
    Stays { ev := true, hem := true, nvme := true, port := true, head := true, out := true } s (State.darnCheck s) := by
  unfold State.darnCheck
  with_reducible repeat' (first
    | exact Stays.rfl
    | refine (State.replaceMember_stays.up ?_).after ?_
    | refine (State.darnRetry_stays.up ?_).after ?_
    | refine (State.followAlarm_stays.up ?_).after ?_
    | refine (State.fullCheck_stays.up ?_).after ?_
    | refine (foldl_stays ?_).after ?_
    | refine (foldl2_stays ?_).after ?_
    | intro _ _
    | intro _
    | exact Eq.refl (α := Mask) _
    | refine (State.clearAlarm_stays.up ?_).after ?_
    | refine (State.event_stays.up ?_).after ?_
    | refine (State.setDarn_stays.up ?_).after ?_
    | refine ite_stays ?_ ?_
    | fail_if_no_progress (with_reducible refine (Stays.upd ?_).after ?_; with_reducible exact Eq.refl (α := State) _))

theorem State.setRefold_stays {s : State} {i : Nat} {r : RefoldSt} :
    Stays { head := true } s (State.setRefold s i r) := by
  unfold State.setRefold
  with_reducible repeat' (first
    | exact Stays.rfl
    | refine ite_stays ?_ ?_
    | fail_if_no_progress (with_reducible refine (Stays.upd ?_).after ?_; with_reducible exact Eq.refl (α := State) _))

theorem State.writeTarget_stays {s : State} {i id : Nat} :
    Stays { port := true, head := true, out := true } s (State.writeTarget s i id) := by
  unfold State.writeTarget
  with_reducible repeat' (first
    | exact Stays.rfl
    | exact Eq.refl (α := Mask) _
    | refine (State.sendStrip_stays.up ?_).after ?_
    | refine (State.setMd_stays.up ?_).after ?_
    | refine (State.setRefold_stays.up ?_).after ?_
    | refine (foldl_stays ?_).after ?_
    | intro _ _
    | (conv => arg 3; zeta); split)

theorem State.packImage_stays {s : State} {i id : Nat} {img : Bytes} :
    Stays { hem := true, port := true, head := true, out := true } s (State.packImage s i id img) := by
  unfold State.packImage
  with_reducible repeat' (first
    | exact Stays.rfl
    | exact Eq.refl (α := Mask) _
    | refine (State.notePlace_stays.up ?_).after ?_
    | refine (State.setRefold_stays.up ?_).after ?_
    | refine (State.writeTarget_stays.up ?_).after ?_
    | refine (Stays.up ?_ (State.newStripe_some (by assumption))).after ?_
    | refine ite_stays ?_ ?_
    | (conv => arg 3; zeta); split)

theorem execRefoldRelocate_keeps {i : Fin 2} {chunkId : Nat} {img : Bytes} {s : State} :
    Keeps { hem := true, port := true, head := true, out := true } s (execRefoldRelocate i chunkId img s) := by
  unfold execRefoldRelocate
  with_reducible repeat' (first
    | exact Stays.rfl
    | exact Eq.refl (α := Mask) _
    | refine keeps_next ?_
    | refine (State.packImage_stays.up ?_).after ?_
    | refine ite_stays ?_ ?_
    | split)

theorem State.closeTargets_stays {s : State} {i : Nat} :
    Stays { head := true } s (State.closeTargets s i) := by
  unfold State.closeTargets
  with_reducible repeat' (first
    | exact Stays.rfl
    | exact Eq.refl (α := Mask) _
    | refine (State.setRefold_stays.up ?_).after ?_
    | refine (State.setStream_stays.up ?_).after ?_
    | refine (foldl_stays ?_).after ?_
    | intro _ _
    | (conv => arg 3; zeta); split)

theorem State.metaAnew_stays {s : State} {i id : Nat} {r : StripeRec} :
    Stays { head := true } s (State.metaAnew s i id r) := by
  unfold State.metaAnew
  with_reducible repeat' (first
    | exact Stays.rfl
    | exact Eq.refl (α := Mask) _
    | refine (State.setMd_stays.up ?_).after ?_
    | refine (State.setRefold_stays.up ?_).after ?_
    | refine (foldl_stays ?_).after ?_
    | refine (foldl2_stays ?_).after ?_
    | intro _ _
    | intro _
    | refine ite_stays ?_ ?_
    | fail_if_no_progress (with_reducible refine (Stays.upd ?_).after ?_; with_reducible exact Eq.refl (α := State) _)
    | (conv => arg 3; zeta); split
    | split)

theorem State.retireNext_stays {s0 : State} {i : Nat} :
    Stays { ev := true, nvme := true, port := true, head := true, out := true } s0 (State.retireNext s0 i) := by
  unfold State.retireNext
  with_reducible repeat' (first
    | exact Stays.rfl
    | refine (State.evacCheck_stays.up ?_).after ?_
    | refine (State.metaAnew_stays.up ?_).after ?_
    | refine (foldl2_stays ?_).after ?_
    | intro _
    | fail_if_no_progress (with_reducible refine (Stays.upd ?_).after ?_; with_reducible exact Eq.refl (α := State) _)
    | split
    | exact Eq.refl (α := Mask) _
    | refine (State.setMd_stays.up ?_).after ?_
    | refine (State.setRefold_stays.up ?_).after ?_
    | refine (State.toShelf_stays.up ?_).after ?_
    | refine (foldl_stays ?_).after ?_
    | refine ite_stays ?_ ?_
    | intro _ _
    | (conv => arg 3; zeta); split)

theorem State.startRefold_stays {s : State} :
    Stays { head := true, free := true } s (State.startRefold s) := by
  unfold State.startRefold
  with_reducible repeat' (first
    | exact Stays.rfl
    | exact Eq.refl (α := Mask) _
    | refine (State.record_stays.up ?_).after ?_
    | refine (State.takeFree_stays.up ?_).after ?_
    | refine ite_stays ?_ ?_
    | fail_if_no_progress (with_reducible refine (Stays.upd ?_).after ?_; with_reducible exact Eq.refl (α := State) _)
    | (conv => arg 3; zeta); split
    | split)

theorem State.moveRange_stays {s : State} :
    Stays { head := true } s (State.moveRange s) := by
  unfold State.moveRange
  with_reducible repeat' (first
    | exact Stays.rfl
    | exact Eq.refl (α := Mask) _
    | refine (State.record_stays.up ?_).after ?_
    | intro _
    | refine ite_stays ?_ ?_
    | fail_if_no_progress (with_reducible refine (Stays.upd ?_).after ?_; with_reducible exact Eq.refl (α := State) _)
    | (conv => arg 3; zeta); split
    | split)

theorem State.retireShards_stays {s : State} :
    Stays { head := true } s (State.retireShards s) := by
  unfold State.retireShards
  refine ite_stays Stays.rfl ?_
  cases (s.sites.filter (fun x => decide (s.retireFrom ≤ x))).find? (fun x => !(s.rangesAt x).isEmpty) with
  | none => exact Stays.rfl
  | some x => exact State.moveShard_stays

theorem State.refoldBoundary_stays {s : State} :
    Stays { ev := true, nvme := true, port := true, head := true, free := true, out := true } s (State.refoldBoundary s) := by
  unfold State.refoldBoundary
  with_reducible repeat' (first
    | exact Stays.rfl
    | exact Eq.refl (α := Mask) _
    | refine (State.record_stays.up ?_).after ?_
    | refine (State.writeTarget_stays.up ?_).after ?_
    | refine (State.closeTargets_stays.up ?_).after ?_
    | refine (State.retireNext_stays.up ?_).after ?_
    | refine (State.startRefold_stays.up ?_).after ?_
    | refine (State.moveRange_stays.up ?_).after ?_
    | refine (State.retireShards_stays.up ?_).after ?_
    | intro _
    | refine ite_stays ?_ ?_
    | fail_if_no_progress (with_reducible refine (Stays.upd ?_).after ?_; with_reducible exact Eq.refl (α := State) _)
    | (conv => arg 3; zeta); split
    | split)

theorem State.setRinse_stays {s : State} {i : Nat} {r : RinseSt} :
    Stays { head := true } s (State.setRinse s i r) := by
  unfold State.setRinse
  with_reducible repeat' (first
    | exact Stays.rfl
    | refine ite_stays ?_ ?_
    | fail_if_no_progress (with_reducible refine (Stays.upd ?_).after ?_; with_reducible exact Eq.refl (α := State) _))

theorem State.rinseRewrite_stays {s : State} {id member : Nat} {r : StripeRec} {payload : Bytes} :
    Stays { ev := true, nvme := true, port := true, head := true, out := true } s (State.rinseRewrite s id member r payload) := by
  unfold State.rinseRewrite
  with_reducible repeat' (first
    | exact Stays.rfl
    | exact Eq.refl (α := Mask) _
    | refine (State.event_stays.up ?_).after ?_
    | refine (State.sendStrip_stays.up ?_).after ?_
    | fail_if_no_progress (with_reducible refine (Stays.upd ?_).after ?_; with_reducible exact Eq.refl (α := State) _))

theorem State.rinseStripe_stays {s : State} {id : Nat} {r : StripeRec} {reads : List StripRead} :
    Stays { ev := true, nvme := true, seam := true, port := true, head := true, rdma := true, repl := true, out := true } s (State.rinseStripe s id r reads) := by
  unfold State.rinseStripe
  with_reducible repeat' (first
    | exact Stays.rfl
    | exact Eq.refl (α := Mask) _
    | refine (State.alarm_stays.up ?_).after ?_
    | refine (State.loseChunk_stays.up ?_).after ?_
    | refine (State.recordLost_stays.up ?_).after ?_
    | refine (State.rinseRewrite_stays.up ?_).after ?_
    | refine (State.sendStrip_stays.up ?_).after ?_
    | refine (foldl_stays ?_).after ?_
    | refine ite_stays ?_ ?_
    | fail_if_no_progress (with_reducible refine (Stays.upd ?_).after ?_; with_reducible exact Eq.refl (α := State) _)
    | intro _ _
    | (conv => arg 3; zeta); split)

theorem execRinseSlice_keeps {i : Fin 2} {reads : List StripRead} {s : State} :
    Keeps { time := true, ev := true, eng := true, nvme := true, seam := true, port := true, head := true, rdma := true, repl := true, out := true } s (execRinseSlice i reads s) := by
  unfold execRinseSlice
  with_reducible repeat' (first
    | exact Stays.rfl
    | refine (State.inWindowAs_stays.up ?_).after ?_
    | fail_if_no_progress (with_reducible refine (Stays.upd ?_).after ?_; with_reducible exact Eq.refl (α := State) _)
    | refine keeps_next ?_
    | refine ite_keeps ?_ ?_
    | refine onlyIf_keeps ?_ ?_
    | refine (State.inWindow_stays.up ?_).after ?_
    | intro _
    | fail_if_no_progress (with_reducible refine (Stays.upd ?_).after ?_; with_reducible exact Eq.refl (α := State) _)
    | split
    | exact Eq.refl (α := Mask) _
    | refine onlyIf_keeps ?_
    | refine (State.rinseStripe_stays.up ?_).after ?_
    | refine (State.setRinse_stays.up ?_).after ?_
    | refine (State.toWindow_stays.up ?_).after ?_
    | (conv => arg 3; zeta); split)

theorem State.replCkpt_stays {s : State} :
    Stays { hem := true, head := true, repl := true } s (State.replCkpt s) := by
  unfold State.replCkpt
  with_reducible repeat' (first
    | exact Stays.rfl
    | exact Eq.refl (α := Mask) _
    | refine (State.ckptRepl_stays.up ?_).after ?_
    | refine (State.record_stays.up ?_).after ?_
    | refine ite_stays ?_ ?_
    | fail_if_no_progress (with_reducible refine (Stays.upd ?_).after ?_; with_reducible exact Eq.refl (α := State) _))

theorem execCheckpointWindow_keeps {s : State} :
    Keeps { time := true, eng := true, hem := true, head := true, repl := true } s (execCheckpointWindow s) := by
  unfold execCheckpointWindow
  with_reducible repeat' (first
    | exact Stays.rfl
    | refine keeps_next ?_
    | refine ite_keeps ?_ ?_
    | refine onlyIf_keeps ?_ ?_
    | refine (State.inWindow_stays.up ?_).after ?_
    | intro _
    | exact Eq.refl (α := Mask) _
    | refine onlyIf_keeps ?_
    | refine (State.darnCkpt_stays.up ?_).after ?_
    | refine (State.refoldCkpt_stays.up ?_).after ?_
    | refine (State.replCkpt_stays.up ?_).after ?_
    | refine (State.toWindow_stays.up ?_).after ?_)

end Sys2Proof.Machine
end

