-- ==== Sys2Proof/Laws/StaysHem.lean ====
section
/-! SUPPORT. The operations of Machine/Hem.lean keep the fixed part and the form of the tables. -/

namespace Sys2Proof.Machine

theorem State.dropRec_stays {s : State} {r : HemRec} :
    Stays { hem := true, keep := true } s (State.dropRec s r) := by
  unfold State.dropRec
  with_reducible repeat' (first
    | exact Stays.rfl
    | fail_if_no_progress (with_reducible refine (Stays.upd ?_).after ?_; with_reducible exact Eq.refl (α := State) _)
    | (conv => arg 3; zeta); split)

theorem State.spoilUnit_stays {s : State} {u : Nat} :
    Stays { hem := true, free := true } s (State.spoilUnit s u) := by
  unfold State.spoilUnit
  with_reducible repeat' (first
    | exact Stays.rfl
    | exact Eq.refl (α := Mask) _
    | refine (State.takeFree_stays.up ?_).after ?_
    | fail_if_no_progress (with_reducible refine (Stays.upd ?_).after ?_; with_reducible exact Eq.refl (α := State) _))

/-- Dropping a checkpoint of the Hem touches nothing but the Hem. -/
theorem State.dropCkpt {s : State} {k i : Nat} {b : Bool} :
    Stays { hem := true } s (State.dropRec s (.ckpt k i b)) := by
  simp only [State.dropRec]
  with_reducible repeat' (first
    | exact Stays.rfl
    | fail_if_no_progress (with_reducible refine (Stays.upd ?_).after ?_; with_reducible exact Eq.refl (α := State) _)
    | split)

theorem State.crcRec_stays {s : State} {r : HemRec × Nat} :
    Stays { ev := true, hem := true, nvme := true, keep := true, free := true, out := true } s (State.crcRec s r) := by
  unfold State.crcRec
  with_reducible repeat' (first
    | exact Stays.rfl
    | refine (State.spoilUnit_stays.up ?_).after ?_
    | refine (State.leave_stays.up ?_).after ?_
    | fail_if_no_progress (with_reducible refine (Stays.upd ?_).after ?_; with_reducible exact Eq.refl (α := State) _)
    | exact Eq.refl (α := Mask) _
    | refine (State.dropRec_stays.up ?_).after ?_
    | refine (State.hemCrc_stays.up ?_).after ?_
    | refine (State.event_stays.up ?_).after ?_
    | refine (State.alarm_stays.up ?_).after ?_
    | refine (foldl_stays ?_).after ?_
    | refine (foldl2_stays ?_).after ?_
    | intro _ _
    | intro _
    | refine ite_stays ?_ ?_
    | fail_if_no_progress (with_reducible refine (Stays.upd ?_).after ?_; with_reducible exact Eq.refl (α := State) _)
    | (conv => arg 3; zeta); split
    | split)

theorem State.tornRec_stays {s : State} {r : HemRec} :
    Stays { ev := true, hem := true, nvme := true, keep := true, out := true } s (State.tornRec s r) := by
  unfold State.tornRec
  with_reducible repeat' (first
    | exact Stays.rfl
    | refine (State.leaveItems_stays.up ?_).after ?_
    | intro _
    | exact Eq.refl (α := Mask) _
    | refine (State.dropRec_stays.up ?_).after ?_
    | refine (State.event_stays.up ?_).after ?_)

theorem State.sift_stays {s : State} {bad : List (HemRec × Nat)} {torn : List HemRec} :
    Stays { ev := true, hem := true, nvme := true, keep := true, free := true, out := true } s (State.sift s bad torn) := by
  unfold State.sift
  with_reducible repeat' (first
    | exact Stays.rfl
    | exact Eq.refl (α := Mask) _
    | refine (State.crcRec_stays.up ?_).after ?_
    | refine (State.tornRec_stays.up ?_).after ?_
    | refine (foldl_stays ?_).after ?_
    | refine (foldl2_stays ?_).after ?_
    | intro _ _
    | intro _)

theorem State.overUnit_stays {s : State} {u : Nat} :
    Stays { ev := true, hem := true, nvme := true, keep := true, out := true } s (State.overUnit s u) := by
  unfold State.overUnit
  with_reducible repeat' (first
    | exact Stays.rfl
    | exact Eq.refl (α := Mask) _
    | refine (State.dropRec_stays.up ?_).after ?_
    | refine (State.leave_stays.up ?_).after ?_
    | refine (State.event_stays.up ?_).after ?_
    | refine (foldl_stays ?_).after ?_
    | refine (foldl2_stays ?_).after ?_
    | intro _ _
    | intro _
    | refine ite_stays ?_ ?_)

theorem State.hemReinit_stays {s : State} :
    Stays { ev := true, hem := true, nvme := true, keep := true, out := true } s (State.hemReinit s) := by
  unfold State.hemReinit
  repeat' (first
    | with_reducible exact Stays.rfl
    | with_reducible exact Eq.refl (α := Mask) _
    | (intro h; exact h)
    | exact Mem.filter_wf
    | with_reducible exact Eq.refl (α := State) _
    | with_reducible rfl
    | with_reducible refine (State.event_stays.up ?_).after ?_
    | with_reducible refine (Stays.all ?_ ?_ ?_ ?_ ?_ ?_ ?_ ?_).after ?_)

theorem State.ownBase_stays {s : State} :
    Stays { time := true } s (State.ownBase s) := by
  unfold State.ownBase
  with_reducible repeat' (first
    | exact Stays.rfl
    | exact Eq.refl (α := Mask) _
    | refine ite_stays ?_ ?_
    | fail_if_no_progress (with_reducible refine (Stays.upd ?_).after ?_; with_reducible exact Eq.refl (α := State) _)
    | (conv => arg 3; zeta); split
    | split)

theorem execBootHem_keeps {bad : List (HemRec × Nat)} {torn : List HemRec} {s : State} :
    Keeps { boot := true, time := true, ev := true, power := true, hem := true, nvme := true, keep := true, free := true, out := true } s (execBootHem bad torn s) := by
  unfold execBootHem
  with_reducible repeat' (first
    | exact Stays.rfl
    | refine (State.overUnit_stays.up ?_).after ?_
    | fail_if_no_progress (with_reducible refine (Stays.upd ?_).after ?_; with_reducible exact Eq.refl (α := State) _)
    | refine (State.sift_stays.up ?_).after ?_
    | refine (State.ownBase_stays.up ?_).after ?_
    | fail_if_no_progress (with_reducible refine (Stays.upd ?_).after ?_; with_reducible exact Eq.refl (α := State) _)
    | exact Eq.refl (α := Mask) _
    | refine onlyIf_keeps ?_
    | refine keeps_next ?_
    | refine ite_keeps ?_ ?_
    | refine onlyIf_keeps ?_ ?_
    | refine (State.crcRec_stays.up ?_).after ?_
    | refine (State.tornRec_stays.up ?_).after ?_
    | refine (State.hemReinit_stays.up ?_).after ?_
    | refine (State.toStage_stays.up ?_).after ?_
    | refine (foldl_stays ?_).after ?_
    | refine (foldl2_stays ?_).after ?_
    | intro _ _
    | intro _
    | refine ite_stays ?_ ?_
    | fail_if_no_progress (with_reducible refine (Stays.upd ?_).after ?_; with_reducible exact Eq.refl (α := State) _)
    | split)

end Sys2Proof.Machine
end

