-- ==== Sys2Proof/Laws/StaysPress.lean ====
section
/-! SUPPORT. The operations of Machine/Press.lean keep the fixed part and the form of the tables. -/

namespace Sys2Proof.Machine

theorem State.pressForget_stays {s : State} {ch : Nat} :
    Stays { press := true } s (State.pressForget s ch) := by
  unfold State.pressForget
  with_reducible repeat' (first
    | exact Stays.rfl
    | fail_if_no_progress (with_reducible refine (Stays.upd ?_).after ?_; with_reducible exact Eq.refl (α := State) _))

theorem State.onPress_keeps {m : Mask} {s : State} {n : Nat} {ops : List Nat} {f : Job → State → State} (hm : Mask.or { press := true } m = m)
    (hf : ∀ j a, Stays m a (f j a)) : Keeps m s (State.onPress s n ops f) :=
  State.onJob_keeps (Mask.or_trans (Eq.refl _) hm) fun j a => (State.pressSettle_stays.up hm).after (hf j a)

theorem State.pressDiscard_stays {s : State} {d : Bytes} :
    Stays { ev := true, nvme := true, press := true, out := true } s (State.pressDiscard s d) := by
  unfold State.pressDiscard
  with_reducible repeat' (first
    | exact Stays.rfl
    | exact Eq.refl (α := Mask) _
    | refine (State.event_stays.up ?_).after ?_
    | refine (State.pressForget_stays.up ?_).after ?_
    | refine ite_stays ?_ ?_)

theorem State.pressFetched_stays {s : State} {d : Bytes} :
    Stays { ev := true, nvme := true, press := true, out := true } s (State.pressFetched s d) := by
  unfold State.pressFetched
  with_reducible repeat' (first
    | exact Stays.rfl
    | refine (State.pressDiscard_stays.up ?_).after ?_
    | exact Eq.refl (α := Mask) _
    | refine (State.event_stays.up ?_).after ?_
    | refine (State.pressForget_stays.up ?_).after ?_
    | refine ite_stays ?_ ?_)

theorem State.pressFree_stays {s : State} {n dst len : Nat} :
    Stays { ev := true, mem := true, ring := true, mc := true, hem := true, nvme := true, free := true, out := true } s (State.pressFree s n dst len) := by
  unfold State.pressFree
  with_reducible repeat' (first
    | exact Stays.rfl
    | refine (State.takeStatus_stays.up ?_).after ?_
    | exact Eq.refl (α := Mask) _
    | refine (State.dmaWrite_stays.up ?_).after ?_
    | refine (State.endJob_stays.up ?_).after ?_
    | refine (State.takeFreeBytes_stays.up ?_).after ?_
    | refine (State.takeFree_stays.up ?_).after ?_)

theorem State.pressSpoil_stays {s : State} {n dst len status consumed : Nat} :
    Stays { ev := true, mem := true, ring := true, mc := true, hem := true, nvme := true, free := true, out := true } s (State.pressSpoil s n dst len status consumed) := by
  unfold State.pressSpoil
  with_reducible repeat' (first
    | exact Stays.rfl
    | exact Eq.refl (α := Mask) _
    | refine (State.dmaWrite_stays.up ?_).after ?_
    | refine (State.endJob_stays.up ?_).after ?_
    | refine (State.takeFreeBytes_stays.up ?_).after ?_)

theorem State.compressData_stays {s : State} {n : Nat} {d src : Bytes} :
    Stays { ev := true, mem := true, ring := true, mc := true, hem := true, nvme := true, free := true, out := true } s (State.compressData s n d src) := by
  unfold State.compressData
  with_reducible repeat' (first
    | exact Stays.rfl
    | exact Eq.refl (α := Mask) _
    | refine (State.dmaWrite_stays.up ?_).after ?_
    | refine (State.endJob_stays.up ?_).after ?_
    | refine (State.pressSpoil_stays.up ?_).after ?_
    | refine ite_stays ?_ ?_)

theorem State.keepState_stays {s : State} {ch : Nat} :
    Stays { press := true } s (State.keepState s ch) := by
  unfold State.keepState
  with_reducible repeat' (first
    | exact Stays.rfl
    | exact Eq.refl (α := Mask) _
    | refine (State.pressDrop_stays.up ?_).after ?_
    | refine ite_stays ?_ ?_)

theorem State.compressStream_stays {s : State} {n : Nat} {d src : Bytes} :
    Stays { ev := true, mem := true, ring := true, mc := true, hem := true, nvme := true, press := true, free := true, out := true } s (State.compressStream s n d src) := by
  unfold State.compressStream
  with_reducible repeat' (first
    | exact Stays.rfl
    | refine (State.keepState_stays.up ?_).after ?_
    | exact Eq.refl (α := Mask) _
    | refine (State.dmaWrite_stays.up ?_).after ?_
    | refine (State.endJob_stays.up ?_).after ?_
    | refine (State.pressSpoil_stays.up ?_).after ?_
    | refine ite_stays ?_ ?_
    | fail_if_no_progress (with_reducible refine (Stays.upd ?_).after ?_; with_reducible exact Eq.refl (α := State) _))

theorem execCompress_keeps {n : Nat} {s : State} :
    Keeps { ev := true, mem := true, ring := true, mc := true, hem := true, nvme := true, press := true, free := true, out := true } s (execCompress n s) := by
  unfold execCompress
  with_reducible repeat' (first
    | exact Stays.rfl
    | refine State.onPress_keeps ?_ ?_
    | refine State.onPress_keeps.up ?_
    | refine onlyIf_keeps ?_
    | refine keeps_next ?_
    | refine ite_keeps ?_ ?_
    | refine (State.pressDiscard_stays.up ?_).after ?_
    | split
    | exact Eq.refl (α := Mask) _
    | refine State.onJob_keeps ?_ ?_
    | refine (State.compressData_stays.up ?_).after ?_
    | refine (State.compressStream_stays.up ?_).after ?_
    | refine (State.dmaRead_stays.up ?_).after ?_
    | refine (State.endJob_stays.up ?_).after ?_
    | refine (State.pressFree_stays.up ?_).after ?_
    | refine ite_stays ?_ ?_
    | intro _)

theorem State.resumeSeq_stays {s : State} {n : Nat} {d : Bytes} {q : PressSeq} :
    Stays { ev := true, mem := true, ring := true, mc := true, hem := true, nvme := true, press := true, free := true, out := true } s (State.resumeSeq s n d q) := by
  unfold State.resumeSeq
  with_reducible repeat' (first
    | exact Stays.rfl
    | refine (State.keepState_stays.up ?_).after ?_
    | fail_if_no_progress (with_reducible refine (Stays.upd ?_).after ?_; with_reducible exact Eq.refl (α := State) _)
    | exact Eq.refl (α := Mask) _
    | refine (State.dmaWrite_stays.up ?_).after ?_
    | refine (State.endJob_stays.up ?_).after ?_
    | refine (State.pressForget_stays.up ?_).after ?_
    | refine (State.takeFreeBytes_stays.up ?_).after ?_
    | refine ite_stays ?_ ?_
    | fail_if_no_progress (with_reducible refine (Stays.upd ?_).after ?_; with_reducible exact Eq.refl (α := State) _)
    | (conv => arg 3; zeta); split)

theorem execResume_keeps {n : Nat} {s : State} :
    Keeps { ev := true, mem := true, ring := true, mc := true, hem := true, nvme := true, press := true, free := true, out := true } s (execResume n s) := by
  unfold execResume
  with_reducible repeat' (first
    | exact Stays.rfl
    | refine State.onPress_keeps ?_ ?_
    | fail_if_no_progress (with_reducible refine (Stays.upd ?_).after ?_; with_reducible exact Eq.refl (α := State) _)
    | refine onlyIf_keeps ?_
    | refine keeps_next ?_
    | refine ite_keeps ?_ ?_
    | refine State.onPress_keeps.up ?_
    | fail_if_no_progress (with_reducible refine (Stays.upd ?_).after ?_; with_reducible exact Eq.refl (α := State) _)
    | (conv => arg 3; zeta); split
    | exact Eq.refl (α := Mask) _
    | refine State.onJob_keeps ?_ ?_
    | refine (State.endJob_stays.up ?_).after ?_
    | refine (State.resumeSeq_stays.up ?_).after ?_
    | split
    | intro _)

theorem execDecompress_keeps {n : Nat} {s : State} :
    Keeps { ev := true, mem := true, ring := true, mc := true, hem := true, nvme := true, press := true, free := true, out := true } s (execDecompress n s) := by
  unfold execDecompress
  with_reducible repeat' (first
    | exact Stays.rfl
    | refine State.onPress_keeps ?_ ?_
    | fail_if_no_progress (with_reducible refine (Stays.upd ?_).after ?_; with_reducible exact Eq.refl (α := State) _)
    | refine onlyIf_keeps ?_
    | refine keeps_next ?_
    | refine ite_keeps ?_ ?_
    | refine State.onPress_keeps.up ?_
    | fail_if_no_progress (with_reducible refine (Stays.upd ?_).after ?_; with_reducible exact Eq.refl (α := State) _)
    | split
    | exact Eq.refl (α := Mask) _
    | refine State.onJob_keeps ?_ ?_
    | refine (State.dmaRead_stays.up ?_).after ?_
    | refine (State.dmaWrite_stays.up ?_).after ?_
    | refine (State.endJob_stays.up ?_).after ?_
    | refine (State.pressFree_stays.up ?_).after ?_
    | refine ite_stays ?_ ?_
    | fail_if_no_progress (with_reducible refine (Stays.upd ?_).after ?_; with_reducible exact Eq.refl (α := State) _)
    | (conv => arg 3; zeta); split
    | intro _)

theorem execChannelReset_keeps {n : Nat} {s : State} :
    Keeps { ring := true, press := true } s (execChannelReset n s) := by
  unfold execChannelReset
  with_reducible repeat' (first
    | exact Stays.rfl
    | refine State.onPress_keeps ?_ ?_
    | refine onlyIf_keeps ?_
    | refine keeps_next ?_
    | refine ite_keeps ?_ ?_
    | refine State.onPress_keeps.up ?_
    | exact Eq.refl (α := Mask) _
    | refine State.onJob_keeps ?_ ?_
    | refine (State.endJob_stays.up ?_).after ?_
    | refine (State.pressForget_stays.up ?_).after ?_
    | intro _)

theorem execPressLaneFatal_keeps {decomp : Bool} {lane : Fin 64} {s : State} :
    Keeps { ev := true, mem := true, ring := true, mc := true, hem := true, nvme := true, press := true, free := true, out := true } s (execPressLaneFatal decomp lane s) := by
  unfold execPressLaneFatal
  with_reducible repeat' (first
    | exact Stays.rfl
    | refine keeps_next ?_
    | refine ite_keeps ?_ ?_
    | refine onlyIf_keeps ?_ ?_
    | refine (State.pressSettle_stays.up ?_).after ?_
    | intro _
    | refine ite_stays ?_ ?_
    | fail_if_no_progress (with_reducible refine (Stays.upd ?_).after ?_; with_reducible exact Eq.refl (α := State) _)
    | exact Eq.refl (α := Mask) _
    | refine onlyIf_keeps ?_
    | refine (State.alarm_stays.up ?_).after ?_
    | refine (State.endJob_stays.up ?_).after ?_
    | refine (State.pressForget_stays.up ?_).after ?_
    | refine (State.pressSpoil_stays.up ?_).after ?_
    | fail_if_no_progress (with_reducible refine (Stays.upd ?_).after ?_; with_reducible exact Eq.refl (α := State) _)
    | split
    | (conv => arg 3; zeta); split)

end Sys2Proof.Machine
end

