-- ==== Sys2Proof/Laws/StaysDigest.lean ====
section
/-! SUPPORT. The operations of Machine/Digest.lean keep the fixed part and the form of the tables. -/

namespace Sys2Proof.Machine

theorem State.digestStart_stays {s : State} {n : Nat} {x : DigestDesc} :
    Stays { ev := true, mem := true, mc := true, hem := true, nvme := true, out := true } s (State.digestStart s n x).2.2 := by
  unfold State.digestStart
  with_reducible repeat' (first
    | exact Stays.rfl
    | refine ite_stays ?_ ?_
    | fail_if_no_progress (with_reducible refine (Stays.upd ?_).after ?_; with_reducible exact Eq.refl (α := State) _)
    | split
    | exact Eq.refl (α := Mask) _
    | refine (State.dmaRead_stays.up ?_).after ?_
    | (conv => arg 3; zeta); split)

theorem State.digestDone_stays {s : State} {n : Nat} :
    Stays { digest := true } s (State.digestDone s n) := by
  unfold State.digestDone
  with_reducible repeat' (first
    | exact Stays.rfl
    | fail_if_no_progress (with_reducible refine (Stays.upd ?_).after ?_; with_reducible exact Eq.refl (α := State) _))

theorem State.digestDeliver_stays {s : State} {n : Nat} {x : DigestDesc} {res : Bytes} {consumed st0 : Nat} :
    Stays { ev := true, mem := true, ring := true, mc := true, hem := true, nvme := true, out := true } s (State.digestDeliver s n x res consumed st0) := by
  unfold State.digestDeliver
  with_reducible repeat' (first
    | exact Stays.rfl
    | exact Eq.refl (α := Mask) _
    | refine (State.dmaRead_stays.up ?_).after ?_
    | refine (State.dmaWrite_stays.up ?_).after ?_
    | refine (State.endJob_stays.up ?_).after ?_
    | refine ite_stays ?_ ?_)

theorem State.digestFree_stays {s : State} {n : Nat} {x : DigestDesc} :
    Stays { ev := true, mem := true, ring := true, mc := true, hem := true, nvme := true, free := true, out := true } s (State.digestFree s n x) := by
  unfold State.digestFree
  with_reducible repeat' (first
    | exact Stays.rfl
    | refine (State.takeStatus_stays.up ?_).after ?_
    | exact Eq.refl (α := Mask) _
    | refine (State.dmaWrite_stays.up ?_).after ?_
    | refine (State.endJob_stays.up ?_).after ?_
    | refine (State.takeFreeBytes_stays.up ?_).after ?_
    | refine (State.takeFree_stays.up ?_).after ?_
    | refine ite_stays ?_ ?_)

theorem State.digestRun_stays {s : State} {n : Nat} {x : DigestDesc} {data : Bytes} :
    Stays { ev := true, mem := true, ring := true, mc := true, hem := true, nvme := true, out := true } s (State.digestRun s n x data) := by
  unfold State.digestRun
  with_reducible repeat' (first
    | exact Stays.rfl
    | exact Eq.refl (α := Mask) _
    | refine (State.digestDeliver_stays.up ?_).after ?_
    | refine (State.digestStart_stays.up ?_).after ?_
    | refine (State.dmaRead_stays.up ?_).after ?_
    | refine (State.dmaWrite_stays.up ?_).after ?_
    | refine (State.endJob_stays.up ?_).after ?_
    | refine ite_stays ?_ ?_
    | (conv => arg 3; zeta); split)

theorem execDigest_keeps {n : Nat} {data : Bytes} {s : State} :
    Keeps { ev := true, mem := true, ring := true, mc := true, hem := true, nvme := true, digest := true, free := true, out := true } s (execDigest n data s) := by
  unfold execDigest
  with_reducible repeat' (first
    | exact Stays.rfl
    | exact Eq.refl (α := Mask) _
    | refine State.onJob_keeps ?_ ?_
    | refine (State.digestDone_stays.up ?_).after ?_
    | refine (State.digestFree_stays.up ?_).after ?_
    | refine (State.digestRun_stays.up ?_).after ?_
    | refine ite_stays ?_ ?_
    | intro _)

theorem State.slotLoadTo_stays {s : State} {d : Bytes} :
    Stays { free := true } s (State.slotLoadTo s d).2 := by
  unfold State.slotLoadTo
  with_reducible repeat' (first
    | exact Stays.rfl
    | exact Eq.refl (α := Mask) _
    | refine (State.takeFreeBytes_stays.up ?_).after ?_
    | (conv => arg 3; zeta); split)

theorem execSlotLoad_keeps {n : Nat} {s : State} :
    Keeps { ring := true, digest := true, free := true } s (execSlotLoad n s) := by
  unfold execSlotLoad
  with_reducible repeat' (first
    | exact Stays.rfl
    | exact Eq.refl (α := Mask) _
    | refine State.onJob_keeps ?_ ?_
    | refine (State.endJob_stays.up ?_).after ?_
    | refine (State.slotLoadTo_stays.up ?_).after ?_
    | fail_if_no_progress (with_reducible refine (Stays.upd ?_).after ?_; with_reducible exact Eq.refl (α := State) _)
    | intro _)

theorem State.digestBind_stays {s : State} {n : Nat} {d : Bytes} :
    Stays { digest := true } s (State.digestBind s n d) := by
  unfold State.digestBind
  with_reducible repeat' (first
    | exact Stays.rfl
    | refine ite_stays ?_ ?_
    | fail_if_no_progress (with_reducible refine (Stays.upd ?_).after ?_; with_reducible exact Eq.refl (α := State) _)
    | (conv => arg 3; zeta); split)

theorem State.digestPreempt_stays {s : State} {n unit : Nat} {d : Bytes} :
    Stays { ev := true, mem := true, ring := true, mc := true, hem := true, nvme := true, digest := true, free := true, out := true } s (State.digestPreempt s n unit d) := by
  unfold State.digestPreempt
  with_reducible repeat' (first
    | exact Stays.rfl
    | exact Eq.refl (α := Mask) _
    | refine (State.digestStart_stays.up ?_).after ?_
    | refine (State.dmaRead_stays.up ?_).after ?_
    | refine (State.dmaWrite_stays.up ?_).after ?_
    | refine (State.event_stays.up ?_).after ?_
    | refine (State.setJob_stays.up ?_).after ?_
    | refine (State.takeFree_stays.up ?_).after ?_
    | fail_if_no_progress (with_reducible refine (Stays.upd ?_).after ?_; with_reducible exact Eq.refl (α := State) _))

end Sys2Proof.Machine
end

