-- ==== Sys2Proof/Laws/StaysFetch.lean ====
section
/-! SUPPORT. The operations of Machine/Fetch.lean keep the fixed part and the form of the tables. -/

namespace Sys2Proof.Machine

theorem State.digestAssign_stays {s : State} :
    Stays { ev := true, mem := true, ring := true, mc := true, hem := true, nvme := true, digest := true, free := true, out := true } s (State.digestAssign s) := by
  unfold State.digestAssign
  with_reducible repeat' (first
    | exact Stays.rfl
    | exact Eq.refl (α := Mask) _
    | refine (State.digestPreempt_stays.up ?_).after ?_
    | refine (State.setJob_stays.up ?_).after ?_
    | refine ite_stays ?_ ?_
    | (conv => arg 3; zeta); split)

theorem State.pressAssign_stays {s : State} {inst : Nat} :
    Stays { ring := true, press := true } s (State.pressAssign s inst) := by
  unfold State.pressAssign
  with_reducible repeat' (first
    | exact Stays.rfl
    | exact Eq.refl (α := Mask) _
    | refine (State.setJob_stays.up ?_).after ?_
    | refine ite_stays ?_ ?_
    | fail_if_no_progress (with_reducible refine (Stays.upd ?_).after ?_; with_reducible exact Eq.refl (α := State) _)
    | (conv => arg 3; zeta); split)

theorem State.cipherAssign_stays {s : State} :
    Stays { ev := true, mem := true, ring := true, mc := true, hem := true, nvme := true, cipher := true, free := true, out := true } s (State.cipherAssign s) := by
  unfold State.cipherAssign
  with_reducible repeat' (first
    | exact Stays.rfl
    | exact Eq.refl (α := Mask) _
    | refine (State.gcmPreempt_stays.up ?_).after ?_
    | refine (State.setJob_stays.up ?_).after ?_
    | (conv => arg 3; zeta); split)

theorem State.parityAssign_stays {s : State} :
    Stays { ring := true } s (State.parityAssign s) := by
  unfold State.parityAssign
  with_reducible repeat' (first
    | exact Stays.rfl
    | exact Eq.refl (α := Mask) _
    | refine (State.setJob_stays.up ?_).after ?_
    | refine ite_stays ?_ ?_
    | (conv => arg 3; zeta); split)

theorem State.assignOne_stays {s : State} {block inst : Nat} :
    Stays { ev := true, mem := true, ring := true, mc := true, hem := true, nvme := true, digest := true, press := true, cipher := true, free := true, out := true } s (State.assignOne s block inst) := by
  unfold State.assignOne
  with_reducible repeat' (first
    | exact Stays.rfl
    | exact Eq.refl (α := Mask) _
    | refine (State.cipherAssign_stays.up ?_).after ?_
    | refine (State.digestAssign_stays.up ?_).after ?_
    | refine (State.parityAssign_stays.up ?_).after ?_
    | refine (State.pressAssign_stays.up ?_).after ?_
    | refine (State.setJob_stays.up ?_).after ?_
    | refine (foldl_stays ?_).after ?_
    | refine ite_stays ?_ ?_
    | intro _ _)

theorem State.assign_stays {block inst : Nat} {x0 : Nat} {x1 : State} :
    Stays { ev := true, mem := true, ring := true, mc := true, hem := true, nvme := true, digest := true, press := true, cipher := true, free := true, out := true } x1 (State.assign block inst x0 x1) := by
  induction x0 generalizing block inst x1 with
  | zero =>
    unfold State.assign
    with_reducible exact Stays.rfl
  | succ k ih =>
    unfold State.assign
    with_reducible repeat' (first
      | exact Stays.rfl
      | refine ih.after ?_
      | exact Eq.refl (α := Mask) _
      | refine (State.assignOne_stays.up ?_).after ?_)

theorem State.assignAll_stays {s : State} {block inst : Nat} :
    Stays { ev := true, mem := true, ring := true, mc := true, hem := true, nvme := true, digest := true, press := true, cipher := true, free := true, out := true } s (State.assignAll s block inst) := by
  unfold State.assignAll
  with_reducible repeat' (first
    | exact Stays.rfl
    | exact Eq.refl (α := Mask) _
    | refine (State.assign_stays.up ?_).after ?_)

theorem State.fetchBytes_stays {s : State} {r : Ring} :
    Stays { ev := true, mem := true, mc := true, hem := true, nvme := true, free := true, out := true } s (State.fetchBytes s r).2.2 := by
  unfold State.fetchBytes
  with_reducible repeat' (first
    | exact Stays.rfl
    | refine ite_stays ?_ ?_
    | exact Eq.refl (α := Mask) _
    | refine (State.dmaRead_stays.up ?_).after ?_
    | refine (State.takeFreeBytes_stays.up ?_).after ?_
    | (conv => arg 3; zeta); split)

theorem State.fetchFrom_stays {s : State} {n : Nat} :
    Stays { ev := true, mem := true, ring := true, mc := true, hem := true, nvme := true, digest := true, press := true, cipher := true, free := true, out := true } s (State.fetchFrom s n) := by
  unfold State.fetchFrom
  with_reducible repeat' (first
    | exact Stays.rfl
    | exact Eq.refl (α := Mask) _
    | refine (State.assignAll_stays.up ?_).after ?_
    | refine (State.digestBind_stays.up ?_).after ?_
    | refine (State.fetchBytes_stays.up ?_).after ?_
    | refine (State.pressFetched_stays.up ?_).after ?_
    | refine (State.setRing_stays.up ?_).after ?_
    | refine ite_stays ?_ ?_
    | fail_if_no_progress (with_reducible refine (Stays.upd ?_).after ?_; with_reducible exact Eq.refl (α := State) _))

theorem execDescriptorFetch_keeps {block inst : Fin 256} {s : State} :
    Keeps { ev := true, mem := true, ring := true, mc := true, hem := true, nvme := true, digest := true, press := true, cipher := true, free := true, out := true } s (execDescriptorFetch block inst s) := by
  unfold execDescriptorFetch
  with_reducible repeat' (first
    | exact Stays.rfl
    | exact Eq.refl (α := Mask) _
    | refine onlyIf_keeps ?_
    | refine keeps_next ?_
    | refine ite_keeps ?_ ?_
    | refine onlyIf_keeps ?_ ?_
    | refine (State.fetchFrom_stays.up ?_).after ?_
    | intro _
    | fail_if_no_progress (with_reducible refine (Stays.upd ?_).after ?_; with_reducible exact Eq.refl (α := State) _)
    | (conv => arg 3; zeta); split
    | split)

theorem State.completeJob_stays {s : State} {n : Nat} :
    Stays { ev := true, eng := true, mem := true, ring := true, mc := true, hem := true, nvme := true, digest := true, press := true, cipher := true, free := true, out := true } s (State.completeJob s n) := by
  unfold State.completeJob
  with_reducible repeat' (first
    | exact Stays.rfl
    | exact Eq.refl (α := Mask) _
    | refine (State.assignAll_stays.up ?_).after ?_
    | refine (State.pushCpl_stays.up ?_).after ?_
    | fail_if_no_progress (with_reducible refine (Stays.upd ?_).after ?_; with_reducible exact Eq.refl (α := State) _)
    | (conv => arg 3; zeta); split)

theorem execDescriptorCompletion_keeps {what : CplOf} {s : State} :
    Keeps { ev := true, eng := true, mem := true, ring := true, mc := true, hem := true, nvme := true, digest := true, cam := true, press := true, cipher := true, port := true, head := true, free := true, out := true } s (execDescriptorCompletion what s) := by
  unfold execDescriptorCompletion
  with_reducible repeat' (first
    | exact Stays.rfl
    | exact Eq.refl (α := Mask) _
    | refine onlyIf_keeps ?_
    | refine (State.completeJob_stays.up ?_).after ?_
    | refine (State.pipeline_stays.up ?_).after ?_
    | split)

end Sys2Proof.Machine
end

