-- ==== Sys2Proof/Laws/StaysPower.lean ====
section
/-! SUPPORT. The operations of Machine/Power.lean keep the fixed part and the form of the tables. -/

namespace Sys2Proof.Machine

theorem State.railOut_stays {s : State} {r : Fin 11} {mv : Nat} :
    Stays { ev := true, power := true, nvme := true, out := true } s (State.railOut s r mv) := by
  unfold State.railOut
  with_reducible repeat' (first
    | exact Stays.rfl
    | exact Eq.refl (α := Mask) _
    | refine (State.alarm_stays.up ?_).after ?_
    | refine ite_stays ?_ ?_
    | fail_if_no_progress (with_reducible refine (Stays.upd ?_).after ?_; with_reducible exact Eq.refl (α := State) _))

theorem execRailWithinWindow_keeps {r : Fin 11} {s : State} :
    Keeps { ev := true, nvme := true, out := true } s (execRailWithinWindow r s) := by
  unfold execRailWithinWindow
  with_reducible repeat' (first
    | exact Stays.rfl
    | exact Eq.refl (α := Mask) _
    | refine onlyIf_keeps ?_
    | refine (State.clearAlarm_stays.up ?_).after ?_)

theorem execPdOffReq_keeps {d : Fin 50} {s : State} :
    Keeps { power := true } s (execPdOffReq d s) := by
  unfold execPdOffReq
  with_reducible repeat' (first
    | exact Stays.rfl
    | exact Eq.refl (α := Mask) _
    | refine onlyIf_keeps ?_
    | refine (State.setPd_stays.up ?_).after ?_)

theorem execPdOnReq_keeps {d : Fin 50} {s : State} :
    Keeps { power := true } s (execPdOnReq d s) := by
  unfold execPdOnReq
  with_reducible repeat' (first
    | exact Stays.rfl
    | exact Eq.refl (α := Mask) _
    | refine onlyIf_keeps ?_
    | refine (State.setPd_stays.up ?_).after ?_)

theorem State.setVcore_stays {s : State} :
    Stays { power := true } s (State.setVcore s) := by
  unfold State.setVcore
  with_reducible repeat' (first
    | exact Stays.rfl
    | refine ite_stays ?_ ?_
    | fail_if_no_progress (with_reducible refine (Stays.upd ?_).after ?_; with_reducible exact Eq.refl (α := State) _))

theorem State.avsStep_stays {s : State} :
    Stays { power := true } s (State.avsStep s) := by
  unfold State.avsStep
  with_reducible repeat' (first
    | exact Stays.rfl
    | refine ite_stays ?_ ?_
    | fail_if_no_progress (with_reducible refine (Stays.upd ?_).after ?_; with_reducible exact Eq.refl (α := State) _))

theorem State.budgetStep_stays {s : State} {pkgDw : Nat} {cons : List Nat} :
    Stays { ev := true, power := true, nvme := true, free := true, out := true } s (State.budgetStep s pkgDw cons) := by
  unfold State.budgetStep
  with_reducible repeat' (first
    | exact Stays.rfl
    | exact Eq.refl (α := Mask) _
    | refine (State.clearAlarm_stays.up ?_).after ?_
    | refine (State.event_stays.up ?_).after ?_
    | refine (State.takeFree_stays.up ?_).after ?_
    | refine ite_stays ?_ ?_
    | fail_if_no_progress (with_reducible refine (Stays.upd ?_).after ?_; with_reducible exact Eq.refl (α := State) _))

theorem execPowerBudgetAlarm_keeps {s : State} :
    Keeps { ev := true, nvme := true, out := true } s (execPowerBudgetAlarm s) := by
  unfold execPowerBudgetAlarm
  with_reducible repeat' (first
    | exact Stays.rfl
    | exact Eq.refl (α := Mask) _
    | refine onlyIf_keeps ?_
    | refine (State.alarm_stays.up ?_).after ?_)

theorem State.temps_stays {s : State} {logic hbm sds : List Int} :
    Stays { power := true } s (State.temps s logic hbm sds) := by
  unfold State.temps
  with_reducible repeat' (first
    | exact Stays.rfl
    | fail_if_no_progress (with_reducible refine (Stays.upd ?_).after ?_; with_reducible exact Eq.refl (α := State) _))

theorem State.thermalAct_stays {s : State} :
    Stays { ev := true, power := true, nvme := true, out := true } s (State.thermalAct s) := by
  unfold State.thermalAct
  with_reducible repeat' (first
    | exact Stays.rfl
    | exact Eq.refl (α := Mask) _
    | refine (State.alarm_stays.up ?_).after ?_
    | refine (State.clearAlarm_stays.up ?_).after ?_
    | refine (State.event_stays.up ?_).after ?_
    | refine ite_stays ?_ ?_
    | fail_if_no_progress (with_reducible refine (Stays.upd ?_).after ?_; with_reducible exact Eq.refl (α := State) _))

end Sys2Proof.Machine
end

