-- ==== Sys2Proof/Laws/StaysDomain.lean ====
section
/-! SUPPORT. The operations of Machine/Domain.lean keep the fixed part and the form of the tables. -/

namespace Sys2Proof.Machine

theorem State.followPower_stays {s : State} :
    Stays { ev := true, eng := true, mem := true, ring := true, mc := true, hem := true, nvme := true, press := true, free := true, out := true } s (State.followPower s) := by
  unfold State.followPower
  with_reducible repeat' (first
    | exact Stays.rfl
    | intro _
    | exact Eq.refl (α := Mask) _
    | refine (State.ringsOfDomain_stays.up ?_).after ?_
    | refine (foldl_stays ?_).after ?_
    | intro _ _)

theorem State.switchOff_stays {s : State} {d : Nat} :
    Stays { ev := true, power := true, eng := true, mem := true, ring := true, mc := true, hem := true, nvme := true, press := true, cipher := true, free := true, out := true } s (State.switchOff s d) := by
  unfold State.switchOff
  with_reducible repeat' (first
    | exact Stays.rfl
    | refine (State.pressDrop_stays.up ?_).after ?_
    | exact Eq.refl (α := Mask) _
    | refine (State.event_stays.up ?_).after ?_
    | refine (State.followPower_stays.up ?_).after ?_
    | refine (State.pdDown_stays.up ?_).after ?_
    | refine ite_stays ?_ ?_
    | fail_if_no_progress (with_reducible refine (Stays.upd ?_).after ?_; with_reducible exact Eq.refl (α := State) _))

theorem State.restoreRegion_stays {s : State} :
    Stays { cam := true } s (State.restoreRegion s) := by
  unfold State.restoreRegion
  with_reducible repeat' (first
    | exact Stays.rfl
    | exact Eq.refl (α := Mask) _
    | refine (State.rewriteMent_stays.up ?_).after ?_
    | refine (foldl_stays ?_).after ?_
    | refine (foldl2_stays ?_).after ?_
    | intro _ _
    | fail_if_no_progress (with_reducible refine (Stays.upd ?_).after ?_; with_reducible exact Eq.refl (α := State) _))

theorem State.unitsBack_stays {s : State} {d : Nat} :
    Stays { ev := true, mem := true, ring := true, mc := true, hem := true, nvme := true, digest := true, press := true, cipher := true, free := true, out := true } s (State.unitsBack s d) := by
  unfold State.unitsBack
  with_reducible repeat' (first
    | exact Stays.rfl
    | exact Eq.refl (α := Mask) _
    | refine (State.assignAll_stays.up ?_).after ?_
    | refine ite_stays ?_ ?_)

theorem State.switchOn_stays {s : State} {d : Nat} :
    Stays { ev := true, power := true, eng := true, mem := true, ring := true, mc := true, hem := true, nvme := true, digest := true, cam := true, press := true, cipher := true, free := true, out := true } s (State.switchOn s d) := by
  unfold State.switchOn
  with_reducible repeat' (first
    | exact Stays.rfl
    | refine (State.unitsBack_stays.up ?_).after ?_
    | exact Eq.refl (α := Mask) _
    | refine (State.pdUp_stays.up ?_).after ?_
    | refine (State.keysReset_stays.up ?_).after ?_
    | refine (State.followPower_stays.up ?_).after ?_
    | refine (State.restoreRegion_stays.up ?_).after ?_
    | refine (State.halfPowered_stays.up ?_).after ?_
    | refine (State.event_stays.up ?_).after ?_
    | refine ite_stays ?_ ?_)

theorem State.switchDomains_stays {s : State} :
    Stays { ev := true, power := true, eng := true, mem := true, ring := true, mc := true, hem := true, nvme := true, digest := true, cam := true, press := true, cipher := true, free := true, out := true } s (State.switchDomains s) := by
  unfold State.switchDomains
  with_reducible repeat' (first
    | exact Stays.rfl
    | exact Eq.refl (α := Mask) _
    | refine (State.switchOff_stays.up ?_).after ?_
    | refine (State.switchOn_stays.up ?_).after ?_
    | refine (foldl_stays ?_).after ?_
    | refine (foldl2_stays ?_).after ?_
    | intro _ _
    | intro _
    | refine ite_stays ?_ ?_)

theorem State.enterPs2_stays {s : State} :
    Stays { ev := true, power := true, eng := true, mem := true, ring := true, mc := true, hem := true, nvme := true, press := true, cipher := true, free := true, out := true } s (State.enterPs2 s) := by
  unfold State.enterPs2
  with_reducible repeat' (first
    | exact Stays.rfl
    | exact Eq.refl (α := Mask) _
    | refine (State.switchOff_stays.up ?_).after ?_
    | refine (foldl_stays ?_).after ?_
    | refine (foldl2_stays ?_).after ?_
    | intro _ _
    | intro _
    | fail_if_no_progress (with_reducible refine (Stays.upd ?_).after ?_; with_reducible exact Eq.refl (α := State) _))

theorem State.unwrapCopy_stays {s : State} {e : Nat × Nat × Nat × Bytes} :
    Stays { cipher := true } s (State.unwrapCopy s e) := by
  unfold State.unwrapCopy
  with_reducible repeat' (first
    | exact Stays.rfl
    | exact Eq.refl (α := Mask) _
    | refine (State.setKeySlot_stays.up ?_).after ?_
    | (conv => arg 3; zeta); split)

theorem State.leavePs2_stays {s : State} :
    Stays { boot := true, ev := true, power := true, eng := true, mem := true, ring := true, mc := true, hem := true, nvme := true, seam := true, digest := true, cam := true, press := true, cipher := true, head := true, free := true, out := true } s (State.leavePs2 s) := by
  unfold State.leavePs2
  with_reducible repeat' (first
    | exact Stays.rfl
    | refine (State.applySteps_stays.up ?_).after ?_
    | fail_if_no_progress (with_reducible refine (Stays.upd ?_).after ?_; with_reducible exact Eq.refl (α := State) _)
    | refine (foldl2_stays ?_).after ?_
    | intro _
    | fail_if_no_progress (with_reducible refine (Stays.upd ?_).after ?_; with_reducible exact Eq.refl (α := State) _)
    | exact Eq.refl (α := Mask) _
    | refine (State.applyStep_stays.up ?_).after ?_
    | refine (State.switchOn_stays.up ?_).after ?_
    | refine (State.unwrapCopy_stays.up ?_).after ?_
    | refine (foldl_stays ?_).after ?_
    | fail_if_no_progress (with_reducible refine (Stays.upd ?_).after ?_; with_reducible exact Eq.refl (α := State) _)
    | intro _ _)

theorem State.newKeyRec_stays {s : State} {d gen epn : Nat} :
    Stays { cipher := true, free := true } s (State.newKeyRec s d gen epn).2 := by
  unfold State.newKeyRec
  with_reducible repeat' (first
    | exact Stays.rfl
    | exact Eq.refl (α := Mask) _
    | refine (State.setKeySlot_stays.up ?_).after ?_
    | refine (State.takeFreeBytes_stays.up ?_).after ?_)

theorem State.recordKeys_stays {s : State} {d : Nat} :
    Stays { ev := true, nvme := true, cipher := true, head := true, free := true, out := true } s (State.recordKeys s d) := by
  unfold State.recordKeys
  with_reducible repeat' (first
    | exact Stays.rfl
    | refine (State.alarm_stays.up ?_).after ?_
    | refine ite_stays ?_ ?_
    | exact Eq.refl (α := Mask) _
    | refine (State.newKeyRec_stays.up ?_).after ?_
    | refine (State.record_stays.up ?_).after ?_)

theorem execDomainKeyCreate_keeps {d : Fin 256} {entropyOk : Bool} {s : State} :
    Keeps { ev := true, nvme := true, cipher := true, head := true, free := true, out := true } s (execDomainKeyCreate d entropyOk s) := by
  unfold execDomainKeyCreate
  with_reducible repeat' (first
    | exact Stays.rfl
    | exact Eq.refl (α := Mask) _
    | refine onlyIf_keeps ?_
    | refine (State.alarm_stays.up ?_).after ?_
    | refine (State.clearAlarm_stays.up ?_).after ?_
    | refine (State.recordKeys_stays.up ?_).after ?_
    | refine ite_stays ?_ ?_
    | fail_if_no_progress (with_reducible refine (Stays.upd ?_).after ?_; with_reducible exact Eq.refl (α := State) _))

theorem State.makeWaitingKeys_stays {s : State} :
    Stays { ev := true, nvme := true, cipher := true, head := true, free := true, out := true } s (State.makeWaitingKeys s) := by
  unfold State.makeWaitingKeys
  with_reducible repeat' (first
    | exact Stays.rfl
    | exact Eq.refl (α := Mask) _
    | refine (State.recordKeys_stays.up ?_).after ?_
    | refine (foldl_stays ?_).after ?_
    | refine (foldl2_stays ?_).after ?_
    | intro _ _
    | intro _
    | fail_if_no_progress (with_reducible refine (Stays.upd ?_).after ?_; with_reducible exact Eq.refl (α := State) _))

theorem State.dropDomain_stays {s : State} {d x : Nat} :
    Stays { nvme := true, head := true } s (State.dropDomain s d x) := by
  unfold State.dropDomain
  with_reducible repeat' (first
    | exact Stays.rfl
    | refine (foldl_stays ?_).after ?_
    | refine (foldl2_stays ?_).after ?_
    | intro _ _
    | intro _
    | refine ite_stays ?_ ?_
    | fail_if_no_progress (with_reducible refine (Stays.upd ?_).after ?_; with_reducible exact Eq.refl (α := State) _)
    | exact Eq.refl (α := Mask) _
    | refine (State.setMd_stays.up ?_).after ?_)

theorem State.revokeGen_stays {s : State} {d g : Nat} :
    Stays { cipher := true } s (State.revokeGen s d g) := by
  unfold State.revokeGen
  with_reducible repeat' (first
    | exact Stays.rfl
    | exact Eq.refl (α := Mask) _
    | refine (State.revoke_stays.up ?_).after ?_
    | refine ite_stays ?_ ?_
    | fail_if_no_progress (with_reducible refine (Stays.upd ?_).after ?_; with_reducible exact Eq.refl (α := State) _))

theorem State.keyInForce_stays {s : State} {x : Nat} {r : KeyRec} :
    Stays { nvme := true, cipher := true, head := true } s (State.keyInForce s x r) := by
  unfold State.keyInForce
  with_reducible repeat' (first
    | exact Stays.rfl
    | exact Eq.refl (α := Mask) _
    | refine (State.dropDomain_stays.up ?_).after ?_
    | refine (State.revokeGen_stays.up ?_).after ?_
    | refine ite_stays ?_ ?_
    | fail_if_no_progress (with_reducible refine (Stays.upd ?_).after ?_; with_reducible exact Eq.refl (α := State) _)
    | (conv => arg 3; zeta); split
    | split)

theorem State.keysInForce_stays {s : State} {x : Nat} :
    Stays { nvme := true, cipher := true, head := true } s (State.keysInForce s x) := by
  unfold State.keysInForce
  with_reducible repeat' (first
    | exact Stays.rfl
    | refine (foldl2_stays ?_).after ?_
    | intro _
    | fail_if_no_progress (with_reducible refine (Stays.upd ?_).after ?_; with_reducible exact Eq.refl (α := State) _)
    | exact Eq.refl (α := Mask) _
    | refine (State.keyInForce_stays.up ?_).after ?_
    | refine (foldl_stays ?_).after ?_
    | fail_if_no_progress (with_reducible refine (Stays.upd ?_).after ?_; with_reducible exact Eq.refl (α := State) _)
    | intro _ _)

end Sys2Proof.Machine
end

