-- ==== Sys2Proof/Laws/StaysMgmt.lean ====
section
/-! SUPPORT. The operations of Machine/Mgmt.lean keep the fixed part and the form of the tables. -/

namespace Sys2Proof.Machine

theorem State.respond_stays {s : State} {cmd tag : Nat} {completion : Nat} {status : Option Nat} {body : Bytes} :
    Stays { out := true } s (State.respond s cmd tag completion status body) := by
  unfold State.respond
  with_reducible repeat' (first
    | exact Stays.rfl
    | exact Eq.refl (α := Mask) _
    | refine (State.emit_stays.up ?_).after ?_)

theorem State.mgmtCmd_keeps {m : Mask} {s : State} {cmd tag : Nat} {f : State → State} (hm : Mask.or { out := true } m = m) (hf : ∀ a0, Stays m a0 (f a0)) :
    Keeps m s (State.mgmtCmd s cmd tag f) := by
  unfold State.mgmtCmd
  with_reducible repeat' (first
    | exact Stays.rfl
    | exact Mask.or_trans (Eq.refl _) hm
    | exact hf ..
    | refine onlyIf_keeps ?_
    | refine (State.respond_stays.up ?_).after ?_
    | refine ite_stays ?_ ?_)

theorem execStatusGet_keeps {tag : Byte} {s : State} :
    Keeps { out := true } s (execStatusGet tag s) := by
  unfold execStatusGet
  with_reducible repeat' (first
    | exact Stays.rfl
    | exact Eq.refl (α := Mask) _
    | refine State.mgmtCmd_keeps ?_ ?_
    | refine (State.respond_stays.up ?_).after ?_
    | intro _)

theorem execAlarmRead_keeps {tag : Byte} {first : Nat} {count : Byte} {ack : Bool} {s : State} :
    Keeps { ev := true, out := true } s (execAlarmRead tag first count ack s) := by
  unfold execAlarmRead
  with_reducible repeat' (first
    | exact Stays.rfl
    | exact Eq.refl (α := Mask) _
    | refine State.mgmtCmd_keeps ?_ ?_
    | refine (State.respond_stays.up ?_).after ?_
    | fail_if_no_progress (with_reducible refine (Stays.upd ?_).after ?_; with_reducible exact Eq.refl (α := State) _)
    | split
    | intro _)

theorem execAlarmAck_keeps {tag : Byte} {code source : Nat} {s : State} :
    Keeps { ev := true, out := true } s (execAlarmAck tag code source s) := by
  unfold execAlarmAck
  with_reducible repeat' (first
    | exact Stays.rfl
    | exact Eq.refl (α := Mask) _
    | refine State.mgmtCmd_keeps ?_ ?_
    | refine (State.respond_stays.up ?_).after ?_
    | fail_if_no_progress (with_reducible refine (Stays.upd ?_).after ?_; with_reducible exact Eq.refl (α := State) _)
    | intro _)

theorem execEventRead_keeps {tag : Byte} {firstSeq : Nat} {count : Byte} {mark : Bool} {s : State} :
    Keeps { ev := true, out := true } s (execEventRead tag firstSeq count mark s) := by
  unfold execEventRead
  with_reducible repeat' (first
    | exact Stays.rfl
    | exact Eq.refl (α := Mask) _
    | refine State.mgmtCmd_keeps ?_ ?_
    | refine (State.respond_stays.up ?_).after ?_
    | fail_if_no_progress (with_reducible refine (Stays.upd ?_).after ?_; with_reducible exact Eq.refl (α := State) _)
    | split
    | intro _)

theorem execSummaryRead_keeps {tag : Byte} {first : Nat} {count : Byte} {s : State} :
    Keeps { out := true } s (execSummaryRead tag first count s) := by
  unfold execSummaryRead
  with_reducible repeat' (first
    | exact Stays.rfl
    | exact Eq.refl (α := Mask) _
    | refine State.mgmtCmd_keeps ?_ ?_
    | refine (State.respond_stays.up ?_).after ?_
    | split
    | intro _)

theorem execLedgerRead_keeps {tag : Byte} {seq : Nat} {count : Byte} {s : State} :
    Keeps { out := true } s (execLedgerRead tag seq count s) := by
  unfold execLedgerRead
  with_reducible repeat' (first
    | exact Stays.rfl
    | exact Eq.refl (α := Mask) _
    | refine State.mgmtCmd_keeps ?_ ?_
    | refine (State.respond_stays.up ?_).after ?_
    | split
    | intro _)

theorem execImageWrite_keeps {tag : Byte} {copy : Copy} {final : Bool} {off : Nat} {data : Bytes} {s : State} :
    Keeps { nor := true, out := true } s (execImageWrite tag copy final off data s) := by
  unfold execImageWrite
  repeat' (first
    | with_reducible exact Stays.rfl
    | with_reducible exact Eq.refl (α := Mask) _
    | (intro h; exact h)
    | with_reducible exact norPut_wf
    | with_reducible exact Eq.refl (α := State) _
    | with_reducible rfl
    | with_reducible refine State.mgmtCmd_keeps ?_ ?_
    | with_reducible refine (State.respond_stays.up ?_).after ?_
    | with_reducible refine ite_stays ?_ ?_
    | with_reducible refine (Stays.all ?_ ?_ ?_ ?_ ?_ ?_ ?_ ?_).after ?_
    | split
    | intro _)

theorem execTimeSet_keeps {tag : Byte} {second : Nat} {s : State} :
    Keeps { time := true, out := true } s (execTimeSet tag second s) := by
  unfold execTimeSet
  with_reducible repeat' (first
    | exact Stays.rfl
    | exact Eq.refl (α := Mask) _
    | refine State.mgmtCmd_keeps ?_ ?_
    | refine (State.respond_stays.up ?_).after ?_
    | refine ite_stays ?_ ?_
    | fail_if_no_progress (with_reducible refine (Stays.upd ?_).after ?_; with_reducible exact Eq.refl (α := State) _)
    | intro _)

theorem State.otpKey_stays {s : State} {tag : Nat} {slot : Nat} {vpp : Bool} {ok : OtpSlot → Bool} {f : OtpSlot → OtpSlot} :
    Stays { otp := true, out := true } s (State.otpKey s tag slot vpp ok f) := by
  unfold State.otpKey
  with_reducible repeat' (first
    | exact Stays.rfl
    | exact Eq.refl (α := Mask) _
    | refine (State.respond_stays.up ?_).after ?_
    | refine ite_stays ?_ ?_
    | fail_if_no_progress (with_reducible refine (Stays.upd ?_).after ?_; with_reducible exact Eq.refl (α := State) _))

theorem execOtpKeyProgram_keeps {tag slot : Byte} {digest wrapKey : Bytes} {vpp : Bool} {s : State} :
    Keeps { otp := true, out := true } s (execOtpKeyProgram tag slot digest wrapKey vpp s) := by
  unfold execOtpKeyProgram
  with_reducible repeat' (first
    | exact Stays.rfl
    | exact Eq.refl (α := Mask) _
    | refine State.mgmtCmd_keeps ?_ ?_
    | refine (State.otpKey_stays.up ?_).after ?_
    | intro _)

theorem execOtpKeyRevoke_keeps {tag slot : Byte} {vpp : Bool} {s : State} :
    Keeps { otp := true, out := true } s (execOtpKeyRevoke tag slot vpp s) := by
  unfold execOtpKeyRevoke
  with_reducible repeat' (first
    | exact Stays.rfl
    | exact Eq.refl (α := Mask) _
    | refine State.mgmtCmd_keeps ?_ ?_
    | refine (State.otpKey_stays.up ?_).after ?_
    | intro _)

theorem execMctpUnknownCommand_keeps {cmd tag : Byte} {s : State} :
    Keeps { out := true } s (execMctpUnknownCommand cmd tag s) := by
  unfold execMctpUnknownCommand
  with_reducible repeat' (first
    | exact Stays.rfl
    | exact Eq.refl (α := Mask) _
    | refine onlyIf_keeps ?_
    | refine (State.respond_stays.up ?_).after ?_)

theorem execGetVendorDefinedMessageSupport_keeps {s : State} :
    Keeps { out := true } s (execGetVendorDefinedMessageSupport s) := by
  unfold execGetVendorDefinedMessageSupport
  with_reducible repeat' (first
    | exact Stays.rfl
    | exact Eq.refl (α := Mask) _
    | refine onlyIf_keeps ?_
    | refine (State.emit_stays.up ?_).after ?_)

theorem execSmbusAlertResponse_keeps {s : State} :
    Keeps { out := true } s (execSmbusAlertResponse s) := by
  unfold execSmbusAlertResponse
  with_reducible repeat' (first
    | exact Stays.rfl
    | exact Eq.refl (α := Mask) _
    | refine onlyIf_keeps ?_
    | refine (State.emit_stays.up ?_).after ?_)

theorem State.spdmReq_keeps {m : Mask} {s : State} {need : Bool} {f : State → State} (hm : Mask.or { out := true } m = m) (hf : ∀ a0, Stays m a0 (f a0)) :
    Keeps m s (State.spdmReq s need f) := by
  unfold State.spdmReq
  with_reducible repeat' (first
    | exact Stays.rfl
    | exact Mask.or_trans (Eq.refl _) hm
    | exact hf ..
    | refine onlyIf_keeps ?_
    | refine (State.emit_stays.up ?_).after ?_
    | refine ite_stays ?_ ?_)

theorem execSpdmGetVersion_keeps {s : State} :
    Keeps { mgmt := true, out := true } s (execSpdmGetVersion s) := by
  unfold execSpdmGetVersion
  with_reducible repeat' (first
    | exact Stays.rfl
    | exact Eq.refl (α := Mask) _
    | refine onlyIf_keeps ?_
    | refine (State.emit_stays.up ?_).after ?_
    | fail_if_no_progress (with_reducible refine (Stays.upd ?_).after ?_; with_reducible exact Eq.refl (α := State) _))

theorem execSpdmGetCapabilities_keeps {s : State} :
    Keeps { mgmt := true, out := true } s (execSpdmGetCapabilities s) := by
  unfold execSpdmGetCapabilities
  with_reducible repeat' (first
    | exact Stays.rfl
    | exact Eq.refl (α := Mask) _
    | refine State.spdmReq_keeps ?_ ?_
    | refine (State.emit_stays.up ?_).after ?_
    | fail_if_no_progress (with_reducible refine (Stays.upd ?_).after ?_; with_reducible exact Eq.refl (α := State) _)
    | intro _)

theorem execSpdmNegotiateAlgorithms_keeps {s : State} :
    Keeps { mgmt := true, out := true } s (execSpdmNegotiateAlgorithms s) := by
  unfold execSpdmNegotiateAlgorithms
  with_reducible repeat' (first
    | exact Stays.rfl
    | exact Eq.refl (α := Mask) _
    | refine State.spdmReq_keeps ?_ ?_
    | refine (State.emit_stays.up ?_).after ?_
    | fail_if_no_progress (with_reducible refine (Stays.upd ?_).after ?_; with_reducible exact Eq.refl (α := State) _)
    | intro _)

theorem execSpdmGetDigests_keeps {s : State} :
    Keeps { out := true } s (execSpdmGetDigests s) := by
  unfold execSpdmGetDigests
  with_reducible repeat' (first
    | exact Stays.rfl
    | exact Eq.refl (α := Mask) _
    | refine State.spdmReq_keeps ?_ ?_
    | refine (State.emit_stays.up ?_).after ?_
    | intro _)

theorem execSpdmGetCertificate_keeps {slot : Byte} {off len : Nat} {s : State} :
    Keeps { out := true } s (execSpdmGetCertificate slot off len s) := by
  unfold execSpdmGetCertificate
  with_reducible repeat' (first
    | exact Stays.rfl
    | exact Eq.refl (α := Mask) _
    | refine State.spdmReq_keeps ?_ ?_
    | refine (State.emit_stays.up ?_).after ?_
    | split
    | intro _)

theorem execSpdmChallenge_keeps {nonce : Bytes} {s : State} :
    Keeps { free := true, out := true } s (execSpdmChallenge nonce s) := by
  unfold execSpdmChallenge
  with_reducible repeat' (first
    | exact Stays.rfl
    | refine onlyIf_keeps ?_
    | refine keeps_next ?_
    | refine ite_keeps ?_ ?_
    | refine (State.takeFreeBytes_stays.up ?_).after ?_
    | fail_if_no_progress (with_reducible refine (Stays.upd ?_).after ?_; with_reducible exact Eq.refl (α := State) _)
    | exact Eq.refl (α := Mask) _
    | refine State.spdmReq_keeps ?_ ?_
    | refine (State.emit_stays.up ?_).after ?_
    | fail_if_no_progress (with_reducible refine (Stays.upd ?_).after ?_; with_reducible exact Eq.refl (α := State) _)
    | intro _)

theorem execSpdmGetMeasurements_keeps {index : Byte} {nonce : Bytes} {signed : Bool} {s : State} :
    Keeps { free := true, out := true } s (execSpdmGetMeasurements index nonce signed s) := by
  unfold execSpdmGetMeasurements
  with_reducible repeat' (first
    | exact Stays.rfl
    | refine onlyIf_keeps ?_
    | refine keeps_next ?_
    | refine ite_keeps ?_ ?_
    | refine (State.takeFreeBytes_stays.up ?_).after ?_
    | fail_if_no_progress (with_reducible refine (Stays.upd ?_).after ?_; with_reducible exact Eq.refl (α := State) _)
    | exact Eq.refl (α := Mask) _
    | refine State.spdmReq_keeps ?_ ?_
    | refine (State.emit_stays.up ?_).after ?_
    | refine ite_stays ?_ ?_
    | fail_if_no_progress (with_reducible refine (Stays.upd ?_).after ?_; with_reducible exact Eq.refl (α := State) _)
    | split
    | intro _)

end Sys2Proof.Machine
end

