-- ==== Sys2Proof/Laws/StaysNvme.lean ====
section
/-! SUPPORT. The operations of Machine/Nvme.lean keep the fixed part and the form of the tables. -/

namespace Sys2Proof.Machine

theorem State.takeEntry_stays {s : State} {cmd : CmdId} :
    Stays { nvme := true } s (State.takeEntry s cmd) := by
  unfold State.takeEntry
  with_reducible repeat' (first
    | exact Stays.rfl
    | exact Eq.refl (α := Mask) _
    | refine (State.setCtrl_stays.up ?_).after ?_
    | refine ite_stays ?_ ?_)

theorem State.fetch_keeps {m : Mask} {s : State} {cmd : CmdId} {f : State → State} (hm : Mask.or { nvme := true } m = m) (hf : ∀ a0, Stays m a0 (f a0)) :
    Keeps m s (State.fetch s cmd f) := by
  unfold State.fetch
  with_reducible repeat' (first
    | exact Stays.rfl
    | exact Mask.or_trans (Eq.refl _) hm
    | refine (hf ..).after ?_
    | refine onlyIf_keeps ?_
    | refine (State.takeEntry_stays.up ?_).after ?_)

theorem State.fetchAdmin_keeps {m : Mask} {s : State} {cmd : CmdId} {f : State → State} (hm : Mask.or { nvme := true, out := true } m = m) (hf : ∀ a0, Stays m a0 (f a0)) :
    Keeps m s (State.fetchAdmin s cmd f) := by
  unfold State.fetchAdmin
  with_reducible repeat' (first
    | exact Stays.rfl
    | exact Mask.or_trans (Eq.refl _) hm
    | exact hf ..
    | refine State.fetch_keeps ?_ ?_
    | refine (State.finish_stays.up ?_).after ?_
    | split
    | intro _)

theorem State.fetchIo_keeps {m : Mask} {s : State} {cmd : CmdId} {f : State → State} (hm : Mask.or { nvme := true, out := true } m = m) (hf : ∀ a0, Stays m a0 (f a0)) :
    Keeps m s (State.fetchIo s cmd f) := by
  unfold State.fetchIo
  with_reducible repeat' (first
    | exact Stays.rfl
    | exact Mask.or_trans (Eq.refl _) hm
    | exact hf ..
    | refine State.fetch_keeps ?_ ?_
    | refine (State.finish_stays.up ?_).after ?_
    | split
    | intro _)

theorem State.resetCtrl_stays {s : State} {c : Nat} :
    Stays { nvme := true, head := true } s (State.resetCtrl s c) := by
  unfold State.resetCtrl
  with_reducible repeat' (first
    | exact Stays.rfl
    | fail_if_no_progress (with_reducible refine (Stays.upd ?_).after ?_; with_reducible exact Eq.refl (α := State) _))

theorem State.unbindQps_stays {s : State} {c : Nat} :
    Stays { rdma := true } s (State.unbindQps s c) := by
  unfold State.unbindQps
  with_reducible repeat' (first
    | exact Stays.rfl
    | exact Eq.refl (α := Mask) _
    | intro _
    | refine ite_stays ?_ ?_
    | fail_if_no_progress (with_reducible refine (Stays.upd ?_).after ?_; with_reducible exact Eq.refl (α := State) _))

theorem State.endAssoc_stays {s : State} {c : Nat} :
    Stays { ev := true, nvme := true, head := true, rdma := true, out := true } s (State.endAssoc s c) := by
  unfold State.endAssoc
  with_reducible repeat' (first
    | exact Stays.rfl
    | refine (State.unbindQps_stays.up ?_).after ?_
    | exact Eq.refl (α := Mask) _
    | refine (State.resetCtrl_stays.up ?_).after ?_
    | refine (State.setCtrl_stays.up ?_).after ?_
    | refine (State.event_stays.up ?_).after ?_
    | intro _
    | refine ite_stays ?_ ?_
    | fail_if_no_progress (with_reducible refine (Stays.upd ?_).after ?_; with_reducible exact Eq.refl (α := State) _))

theorem State.bindQp_stays {s : State} {c : Nat} {ok : Bool} :
    Stays { rdma := true } s (State.bindQp s c ok) := by
  unfold State.bindQp
  with_reducible repeat' (first
    | exact Stays.rfl
    | exact Eq.refl (α := Mask) _
    | intro _
    | refine ite_stays ?_ ?_
    | fail_if_no_progress (with_reducible refine (Stays.upd ?_).after ?_; with_reducible exact Eq.refl (α := State) _)
    | (conv => arg 3; zeta); split
    | split)

theorem State.resetHp_stays {s : State} :
    Stays { nvme := true, head := true } s (State.resetHp s) := by
  unfold State.resetHp
  with_reducible repeat' (first
    | exact Stays.rfl
    | exact Eq.refl (α := Mask) _
    | refine (State.resetCtrl_stays.up ?_).after ?_
    | refine (foldl_stays ?_).after ?_
    | fail_if_no_progress (with_reducible refine (Stays.upd ?_).after ?_; with_reducible exact Eq.refl (α := State) _)
    | intro _ _)

theorem execPerstNAssert_keeps {s : State} :
    Keeps { pins := true, nvme := true, head := true } s (execPerstNAssert s) := by
  unfold execPerstNAssert
  with_reducible repeat' (first
    | exact Stays.rfl
    | exact Eq.refl (α := Mask) _
    | refine onlyIf_keeps ?_
    | refine (State.resetHp_stays.up ?_).after ?_
    | fail_if_no_progress (with_reducible refine (Stays.pins ?_).after ?_; with_reducible exact Eq.refl (α := State) _))

theorem execPerstNRelease_keeps {s : State} :
    Keeps { pins := true } s (execPerstNRelease s) := by
  unfold execPerstNRelease
  with_reducible repeat' (first
    | exact Stays.rfl
    | refine onlyIf_keeps ?_
    | fail_if_no_progress (with_reducible refine (Stays.pins ?_).after ?_; with_reducible exact Eq.refl (α := State) _))

theorem execHotReset_keeps {s : State} :
    Keeps { nvme := true, head := true } s (execHotReset s) := by
  unfold execHotReset
  with_reducible repeat' (first
    | exact Stays.rfl
    | exact Eq.refl (α := Mask) _
    | refine onlyIf_keeps ?_
    | refine (State.resetHp_stays.up ?_).after ?_)

theorem execFunctionLevelReset_keeps {fn : Fin 16} {s : State} :
    Keeps { nvme := true, head := true } s (execFunctionLevelReset fn s) := by
  unfold execFunctionLevelReset
  with_reducible repeat' (first
    | exact Stays.rfl
    | exact Eq.refl (α := Mask) _
    | refine onlyIf_keeps ?_
    | refine (State.resetCtrl_stays.up ?_).after ?_)

theorem execNumvfsSet_keeps {n : Fin 16} {s : State} :
    Keeps { nvme := true, head := true } s (execNumvfsSet n s) := by
  unfold execNumvfsSet
  with_reducible repeat' (first
    | exact Stays.rfl
    | exact Eq.refl (α := Mask) _
    | refine onlyIf_keeps ?_
    | refine (State.resetCtrl_stays.up ?_).after ?_
    | fail_if_no_progress (with_reducible refine (Stays.pins ?_).after ?_; with_reducible exact Eq.refl (α := State) _)
    | refine (foldl_stays ?_).after ?_
    | intro _ _)

theorem execCcEnSet_keeps {cntlid sqSize cqSize : Nat} {s : State} :
    Keeps { nvme := true } s (execCcEnSet cntlid sqSize cqSize s) := by
  unfold execCcEnSet
  with_reducible repeat' (first
    | exact Stays.rfl
    | exact Eq.refl (α := Mask) _
    | refine onlyIf_keeps ?_
    | refine (State.setCtrl_stays.up ?_).after ?_)

theorem execCcEnClear_keeps {cntlid : Nat} {s : State} :
    Keeps { nvme := true, head := true } s (execCcEnClear cntlid s) := by
  unfold execCcEnClear
  with_reducible repeat' (first
    | exact Stays.rfl
    | exact Eq.refl (α := Mask) _
    | refine onlyIf_keeps ?_
    | refine (State.resetCtrl_stays.up ?_).after ?_)

theorem execSqTailDoorbell_keeps {cntlid sqid tail : Nat} {s : State} :
    Keeps { nvme := true } s (execSqTailDoorbell cntlid sqid tail s) := by
  unfold execSqTailDoorbell
  with_reducible repeat' (first
    | exact Stays.rfl
    | exact Eq.refl (α := Mask) _
    | refine onlyIf_keeps ?_
    | refine (State.setCtrl_stays.up ?_).after ?_)

theorem execCqHeadDoorbell_keeps {cntlid cqid head : Nat} {s : State} :
    Keeps { nvme := true, out := true } s (execCqHeadDoorbell cntlid cqid head s) := by
  unfold execCqHeadDoorbell
  with_reducible repeat' (first
    | exact Stays.rfl
    | exact Eq.refl (α := Mask) _
    | exact keeps_next Stays.rfl
    | refine onlyIf_keeps ?_
    | refine (State.drainCq_stays.up ?_).after ?_
    | refine (State.setCtrl_stays.up ?_).after ?_
    | (conv => arg 3; zeta); split)

theorem State.answer_stays {s : State} {cmd : CmdId} {st : NvmeSt} {dw0 : Nat} :
    Stays { rdma := true, out := true } s (State.answer s cmd st dw0) := by
  unfold State.answer
  with_reducible repeat' (first
    | exact Stays.rfl
    | refine (State.bindQp_stays.up ?_).after ?_
    | exact Eq.refl (α := Mask) _
    | refine (State.emit_stays.up ?_).after ?_)

theorem execFabricsConnect_keeps {cmd : CmdId} {sqSize : Nat} {hostNqn : Bytes} {hostId kato : Nat} {s : State} :
    Keeps { nvme := true, rdma := true, out := true } s (execFabricsConnect cmd sqSize hostNqn hostId kato s) := by
  unfold execFabricsConnect
  with_reducible repeat' (first
    | exact Stays.rfl
    | exact Eq.refl (α := Mask) _
    | refine onlyIf_keeps ?_
    | refine keeps_next ?_
    | refine ite_keeps ?_ ?_
    | refine onlyIf_keeps ?_ ?_
    | refine (State.answer_stays.up ?_).after ?_
    | refine (State.setCtrl_stays.up ?_).after ?_
    | intro _
    | refine ite_stays ?_ ?_
    | fail_if_no_progress (with_reducible refine (Stays.upd ?_).after ?_; with_reducible exact Eq.refl (α := State) _)
    | split)

theorem execKeepAlive_keeps {cmd : CmdId} {s : State} :
    Keeps { nvme := true, out := true } s (execKeepAlive cmd s) := by
  unfold execKeepAlive
  with_reducible repeat' (first
    | exact Stays.rfl
    | exact Eq.refl (α := Mask) _
    | refine State.fetchAdmin_keeps ?_ ?_
    | refine (State.finish_stays.up ?_).after ?_
    | refine (State.setCtrl_stays.up ?_).after ?_
    | intro _)

theorem execKeepAliveExpiry_keeps {cntlid : Nat} {s : State} :
    Keeps { ev := true, nvme := true, head := true, rdma := true, out := true } s (execKeepAliveExpiry cntlid s) := by
  unfold execKeepAliveExpiry
  with_reducible repeat' (first
    | exact Stays.rfl
    | exact Eq.refl (α := Mask) _
    | refine onlyIf_keeps ?_
    | refine keeps_next ?_
    | refine ite_keeps ?_ ?_
    | refine onlyIf_keeps ?_ ?_
    | refine (State.endAssoc_stays.up ?_).after ?_
    | intro _)

theorem State.setQueueCount_stays {s : State} {cmd : CmdId} {nsq ncq : Nat} :
    Stays { nvme := true, out := true } s (State.setQueueCount s cmd nsq ncq) := by
  unfold State.setQueueCount
  with_reducible repeat' (first
    | exact Stays.rfl
    | exact Eq.refl (α := Mask) _
    | refine (State.finish_stays.up ?_).after ?_
    | refine (State.post_stays.up ?_).after ?_
    | refine (State.setCtrl_stays.up ?_).after ?_
    | refine ite_stays ?_ ?_)

theorem execSetFeaturesNumberOfQueues_keeps {cmd : CmdId} {nsq ncq : Nat} {s : State} :
    Keeps { nvme := true, out := true } s (execSetFeaturesNumberOfQueues cmd nsq ncq s) := by
  unfold execSetFeaturesNumberOfQueues
  with_reducible repeat' (first
    | exact Stays.rfl
    | exact Eq.refl (α := Mask) _
    | refine State.fetchAdmin_keeps ?_ ?_
    | refine (State.setQueueCount_stays.up ?_).after ?_
    | intro _)

theorem execCreateIoCq_keeps {cmd : CmdId} {qid size vector : Nat} {s : State} :
    Keeps { nvme := true, out := true } s (execCreateIoCq cmd qid size vector s) := by
  unfold execCreateIoCq
  with_reducible repeat' (first
    | exact Stays.rfl
    | exact Eq.refl (α := Mask) _
    | refine State.fetchAdmin_keeps ?_ ?_
    | refine (State.finish_stays.up ?_).after ?_
    | refine (State.setCtrl_stays.up ?_).after ?_
    | refine ite_stays ?_ ?_
    | split
    | intro _)

theorem execCreateIoSq_keeps {cmd : CmdId} {qid size cqid : Nat} {s : State} :
    Keeps { nvme := true, out := true } s (execCreateIoSq cmd qid size cqid s) := by
  unfold execCreateIoSq
  with_reducible repeat' (first
    | exact Stays.rfl
    | exact Eq.refl (α := Mask) _
    | refine State.fetchAdmin_keeps ?_ ?_
    | refine (State.finish_stays.up ?_).after ?_
    | refine (State.setCtrl_stays.up ?_).after ?_
    | refine ite_stays ?_ ?_
    | split
    | intro _)

theorem execDeleteIoSq_keeps {cmd : CmdId} {qid : Nat} {s : State} :
    Keeps { nvme := true, out := true } s (execDeleteIoSq cmd qid s) := by
  unfold execDeleteIoSq
  with_reducible repeat' (first
    | exact Stays.rfl
    | exact Eq.refl (α := Mask) _
    | refine State.fetchAdmin_keeps ?_ ?_
    | refine (State.finish_stays.up ?_).after ?_
    | refine (State.setCtrl_stays.up ?_).after ?_
    | refine ite_stays ?_ ?_
    | (conv => arg 3; zeta); split
    | intro _)

theorem execDeleteIoCq_keeps {cmd : CmdId} {qid : Nat} {s : State} :
    Keeps { nvme := true, out := true } s (execDeleteIoCq cmd qid s) := by
  unfold execDeleteIoCq
  with_reducible repeat' (first
    | exact Stays.rfl
    | exact Eq.refl (α := Mask) _
    | refine State.fetchAdmin_keeps ?_ ?_
    | refine (State.finish_stays.up ?_).after ?_
    | refine (State.setCtrl_stays.up ?_).after ?_
    | refine ite_stays ?_ ?_
    | intro _)

theorem State.dropWaiting_stays {s : State} {p : WaitCmd → Bool} :
    Stays { head := true } s (State.dropWaiting s p) := by
  unfold State.dropWaiting
  with_reducible repeat' (first
    | exact Stays.rfl
    | fail_if_no_progress (with_reducible refine (Stays.upd ?_).after ?_; with_reducible exact Eq.refl (α := State) _))

theorem State.withdraw_stays {s : State} {cmd : CmdId} :
    Stays { head := true } s (State.withdraw s cmd) := by
  unfold State.withdraw
  with_reducible repeat' (first
    | exact Stays.rfl
    | exact Eq.refl (α := Mask) _
    | refine (State.dropWaiting_stays.up ?_).after ?_
    | fail_if_no_progress (with_reducible refine (Stays.upd ?_).after ?_; with_reducible exact Eq.refl (α := State) _))

theorem State.deleteSq_stays {s : State} {c qid cid : Nat} :
    Stays { nvme := true, head := true, out := true } s (State.deleteSq s c qid cid) := by
  unfold State.deleteSq
  with_reducible repeat' (first
    | exact Stays.rfl
    | exact Eq.refl (α := Mask) _
    | refine (State.finish_stays.up ?_).after ?_
    | refine (State.setCtrl_stays.up ?_).after ?_
    | refine (State.withdraw_stays.up ?_).after ?_
    | refine (foldl_stays ?_).after ?_
    | intro _ _)

theorem State.deleteSqs_stays {s : State} :
    Stays { nvme := true, head := true, out := true } s (State.deleteSqs s) := by
  unfold State.deleteSqs
  with_reducible repeat' (first
    | exact Stays.rfl
    | exact Eq.refl (α := Mask) _
    | refine (State.deleteSq_stays.up ?_).after ?_
    | refine (foldl_stays ?_).after ?_
    | intro _ _
    | (conv => arg 3; zeta); split)

theorem execNvmeAbort_keeps {cmd : CmdId} {sqid cid : Nat} {s : State} :
    Keeps { nvme := true, head := true, out := true } s (execNvmeAbort cmd sqid cid s) := by
  unfold execNvmeAbort
  with_reducible repeat' (first
    | exact Stays.rfl
    | refine onlyIf_keeps ?_
    | refine keeps_next ?_
    | refine ite_keeps ?_ ?_
    | refine (foldl_stays ?_).after ?_
    | refine (foldl2_stays ?_).after ?_
    | intro _ _
    | fail_if_no_progress (with_reducible refine (Stays.upd ?_).after ?_; with_reducible exact Eq.refl (α := State) _)
    | split
    | exact Eq.refl (α := Mask) _
    | refine State.fetchAdmin_keeps ?_ ?_
    | refine (State.finish_stays.up ?_).after ?_
    | refine (State.post_stays.up ?_).after ?_
    | refine (State.withdraw_stays.up ?_).after ?_
    | refine ite_stays ?_ ?_
    | intro _)

theorem State.hpTrained_stays {s : State} {gen width : Nat} :
    Stays { ev := true, nvme := true, out := true } s (State.hpTrained s gen width) := by
  unfold State.hpTrained
  with_reducible repeat' (first
    | exact Stays.rfl
    | exact Eq.refl (α := Mask) _
    | refine (State.alarm_stays.up ?_).after ?_
    | refine (State.clearAlarm_stays.up ?_).after ?_
    | refine ite_stays ?_ ?_
    | fail_if_no_progress (with_reducible refine (Stays.upd ?_).after ?_; with_reducible exact Eq.refl (α := State) _))

theorem execHpLinkUp_keeps {gen width : Nat} {s : State} :
    Keeps { ev := true, nvme := true, out := true } s (execHpLinkUp gen width s) := by
  unfold execHpLinkUp
  with_reducible repeat' (first
    | exact Stays.rfl
    | exact Eq.refl (α := Mask) _
    | refine onlyIf_keeps ?_
    | refine (State.hpTrained_stays.up ?_).after ?_)

theorem execHpLinkDown_keeps {s : State} :
    Keeps { ev := true, nvme := true, out := true } s (execHpLinkDown s) := by
  unfold execHpLinkDown
  with_reducible repeat' (first
    | exact Stays.rfl
    | exact Eq.refl (α := Mask) _
    | refine onlyIf_keeps ?_
    | refine (State.alarm_stays.up ?_).after ?_
    | fail_if_no_progress (with_reducible refine (Stays.upd ?_).after ?_; with_reducible exact Eq.refl (α := State) _))

end Sys2Proof.Machine
end

