-- ==== Sys2Proof/Laws/StaysNvmeIo.lean ====
section
/-! SUPPORT. The operations of Machine/NvmeIo.lean keep the fixed part and the form of the tables. -/

namespace Sys2Proof.Machine

theorem State.wakePs_stays {s : State} {c : Nat} :
    Stays { nvme := true } s (State.wakePs s c) := by
  unfold State.wakePs
  with_reducible repeat' (first
    | exact Stays.rfl
    | exact Eq.refl (α := Mask) _
    | refine (State.setCtrl_stays.up ?_).after ?_
    | refine ite_stays ?_ ?_)

theorem State.io_keeps {m : Mask} {s : State} {cmd : CmdId} {nsid : Nat} {f : Ns → State → State} (hm : Mask.or { nvme := true, out := true } m = m) (hf : ∀ a0 a1, Stays m a1 (f a0 a1)) :
    Keeps m s (State.io s cmd nsid f) := by
  unfold State.io
  with_reducible repeat' (first
    | exact Stays.rfl
    | exact Mask.or_trans (Eq.refl _) hm
    | refine (hf ..).after ?_
    | refine State.fetchIo_keeps ?_ ?_
    | refine (State.finish_stays.up ?_).after ?_
    | refine (State.wakePs_stays.up ?_).after ?_
    | (conv => arg 3; zeta); split
    | intro _)

theorem State.routeWrite_stays {s : State} {cmd : CmdId} {op : FwdOp} {pi : List PiBlock} :
    Stays { nvme := true, seam := true, head := true, out := true } s (State.routeWrite s cmd op pi) := by
  unfold State.routeWrite
  with_reducible repeat' (first
    | exact Stays.rfl
    | exact Eq.refl (α := Mask) _
    | refine (State.finish_stays.up ?_).after ?_
    | refine (State.hold_stays.up ?_).after ?_
    | refine (State.sendSeam_stays.up ?_).after ?_
    | refine ite_stays ?_ ?_
    | fail_if_no_progress (with_reducible refine (Stays.upd ?_).after ?_; with_reducible exact Eq.refl (α := State) _))

theorem State.untake_stays {s : State} {cmd : CmdId} :
    Stays { nvme := true } s (State.untake s cmd) := by
  unfold State.untake
  with_reducible repeat' (first
    | exact Stays.rfl
    | exact Eq.refl (α := Mask) _
    | refine (State.setCtrl_stays.up ?_).after ?_
    | intro _
    | refine ite_stays ?_ ?_
    | fail_if_no_progress (with_reducible refine (Stays.upd ?_).after ?_; with_reducible exact Eq.refl (α := State) _))

theorem State.writeOr_stays {s : State} {cmd : CmdId} {n : Ns} {space : Bool} {st : Option NvmeSt} {op : FwdOp} {pi : List PiBlock} :
    Stays { nvme := true, seam := true, head := true, out := true } s (State.writeOr s cmd n space st op pi) := by
  unfold State.writeOr
  with_reducible repeat' (first
    | exact Stays.rfl
    | refine (State.untake_stays.up ?_).after ?_
    | fail_if_no_progress (with_reducible refine (Stays.upd ?_).after ?_; with_reducible exact Eq.refl (α := State) _)
    | split
    | exact Eq.refl (α := Mask) _
    | refine (State.finish_stays.up ?_).after ?_
    | refine (State.routeWrite_stays.up ?_).after ?_
    | refine ite_stays ?_ ?_
    | (conv => arg 3; zeta); split)

theorem execNvmeWrite_keeps {cmd : CmdId} {nsid slba nlb : Nat} {data : Bytes} {pract : Bool} {prchk : BitVec 3} {tag mask : Nat} {pi : List PiBlock} {s : State} :
    Keeps { nvme := true, seam := true, head := true, out := true } s (execNvmeWrite cmd nsid slba nlb data pract prchk tag mask pi s) := by
  unfold execNvmeWrite
  with_reducible repeat' (first
    | exact Stays.rfl
    | exact Eq.refl (α := Mask) _
    | refine State.io_keeps ?_ ?_
    | refine (State.writeOr_stays.up ?_).after ?_
    | split
    | intro _)

theorem execNvmeWriteZeroes_keeps {cmd : CmdId} {nsid slba nlb : Nat} {deac : Bool} {s : State} :
    Keeps { nvme := true, seam := true, head := true, out := true } s (execNvmeWriteZeroes cmd nsid slba nlb deac s) := by
  unfold execNvmeWriteZeroes
  with_reducible repeat' (first
    | exact Stays.rfl
    | exact Eq.refl (α := Mask) _
    | refine State.io_keeps ?_ ?_
    | refine (State.writeOr_stays.up ?_).after ?_
    | split
    | intro _)

theorem execNvmeDatasetManagement_keeps {cmd : CmdId} {nsid : Nat} {deallocate : Bool} {ranges : List LbaRange} {s : State} :
    Keeps { nvme := true, seam := true, head := true, out := true } s (execNvmeDatasetManagement cmd nsid deallocate ranges s) := by
  unfold execNvmeDatasetManagement
  with_reducible repeat' (first
    | exact Stays.rfl
    | exact Eq.refl (α := Mask) _
    | refine State.io_keeps ?_ ?_
    | refine (State.finish_stays.up ?_).after ?_
    | refine (State.writeOr_stays.up ?_).after ?_
    | split
    | intro _)

theorem execNvmeCopy_keeps {cmd : CmdId} {nsid fmt sdlba : Nat} {ranges : List CopyRange} {s : State} :
    Keeps { nvme := true, seam := true, head := true, out := true } s (execNvmeCopy cmd nsid fmt sdlba ranges s) := by
  unfold execNvmeCopy
  with_reducible repeat' (first
    | exact Stays.rfl
    | exact Eq.refl (α := Mask) _
    | refine State.io_keeps ?_ ?_
    | refine (State.writeOr_stays.up ?_).after ?_
    | split
    | intro _)

theorem execNvmeCompareAndWrite_keeps {cmp cmd : CmdId} {nsid slba nlb : Nat} {expect data : Bytes} {pract : Bool} {prchk : BitVec 3} {tag mask : Nat} {pi : List PiBlock} {s : State} :
    Keeps { nvme := true, seam := true, head := true, out := true } s (execNvmeCompareAndWrite cmp cmd nsid slba nlb expect data pract prchk tag mask pi s) := by
  unfold execNvmeCompareAndWrite
  with_reducible repeat' (first
    | exact Stays.rfl
    | refine onlyIf_keeps ?_
    | refine keeps_next ?_
    | refine ite_keeps ?_ ?_
    | refine (State.untake_stays.up ?_).after ?_
    | fail_if_no_progress (with_reducible refine (Stays.upd ?_).after ?_; with_reducible exact Eq.refl (α := State) _)
    | exact Eq.refl (α := Mask) _
    | refine State.fetchIo_keeps ?_ ?_
    | refine (State.finish_stays.up ?_).after ?_
    | refine (State.routeWrite_stays.up ?_).after ?_
    | refine (State.takeEntry_stays.up ?_).after ?_
    | refine (State.wakePs_stays.up ?_).after ?_
    | refine ite_stays ?_ ?_
    | split
    | (conv => arg 3; zeta); split
    | intro _)

theorem execNvmeFlush_keeps {cmd : CmdId} {nsid : Nat} {s : State} :
    Keeps { nvme := true, out := true } s (execNvmeFlush cmd nsid s) := by
  unfold execNvmeFlush
  with_reducible repeat' (first
    | exact Stays.rfl
    | exact Eq.refl (α := Mask) _
    | refine State.fetchIo_keeps ?_ ?_
    | refine State.io_keeps ?_ ?_
    | refine ite_keeps ?_ ?_
    | refine (State.finish_stays.up ?_).after ?_
    | intro _)

theorem State.readOr_stays {s : State} {n : Ns} {st : Option NvmeSt} {r : WaitRead} :
    Stays { ev := true, nvme := true, seam := true, cam := true, port := true, head := true, rdma := true, repl := true, free := true, out := true } s (State.readOr s n st r) := by
  unfold State.readOr
  with_reducible repeat' (first
    | exact Stays.rfl
    | fail_if_no_progress (with_reducible refine (Stays.upd ?_).after ?_; with_reducible exact Eq.refl (α := State) _)
    | fail_if_no_progress (with_reducible refine (Stays.upd ?_).after ?_; with_reducible exact Eq.refl (α := State) _)
    | split
    | exact Eq.refl (α := Mask) _
    | refine (State.finish_stays.up ?_).after ?_
    | refine (State.takeRead_stays.up ?_).after ?_
    | refine ite_stays ?_ ?_
    | (conv => arg 3; zeta); split)

theorem execNvmeRead_keeps {cmd : CmdId} {nsid slba nlb : Nat} {pract : Bool} {prchk : BitVec 3} {tag mask ref : Nat} {s : State} :
    Keeps { ev := true, nvme := true, seam := true, cam := true, port := true, head := true, rdma := true, repl := true, free := true, out := true } s (execNvmeRead cmd nsid slba nlb pract prchk tag mask ref s) := by
  unfold execNvmeRead
  with_reducible repeat' (first
    | exact Stays.rfl
    | exact Eq.refl (α := Mask) _
    | refine onlyIf_keeps ?_
    | refine keeps_next ?_
    | refine ite_keeps ?_ ?_
    | refine State.io_keeps ?_ ?_
    | refine (State.readOr_stays.up ?_).after ?_
    | intro _)

theorem execNvmeVerify_keeps {cmd : CmdId} {nsid slba nlb : Nat} {prchk : BitVec 3} {tag mask ref : Nat} {s : State} :
    Keeps { ev := true, nvme := true, seam := true, cam := true, port := true, head := true, rdma := true, repl := true, free := true, out := true } s (execNvmeVerify cmd nsid slba nlb prchk tag mask ref s) := by
  unfold execNvmeVerify
  with_reducible repeat' (first
    | exact Stays.rfl
    | exact Eq.refl (α := Mask) _
    | refine onlyIf_keeps ?_
    | refine keeps_next ?_
    | refine ite_keeps ?_ ?_
    | refine State.io_keeps ?_ ?_
    | refine (State.readOr_stays.up ?_).after ?_
    | intro _)

theorem execNvmeCompare_keeps {cmd : CmdId} {nsid slba nlb : Nat} {data : Bytes} {prchk : BitVec 3} {tag mask ref : Nat} {s : State} :
    Keeps { ev := true, nvme := true, seam := true, cam := true, port := true, head := true, rdma := true, repl := true, free := true, out := true } s (execNvmeCompare cmd nsid slba nlb data prchk tag mask ref s) := by
  unfold execNvmeCompare
  with_reducible repeat' (first
    | exact Stays.rfl
    | exact Eq.refl (α := Mask) _
    | refine onlyIf_keeps ?_
    | refine keeps_next ?_
    | refine ite_keeps ?_ ?_
    | refine State.io_keeps ?_ ?_
    | refine (State.readOr_stays.up ?_).after ?_
    | intro _
    | refine ite_stays ?_ ?_
    | fail_if_no_progress (with_reducible refine (Stays.upd ?_).after ?_; with_reducible exact Eq.refl (α := State) _)
    | (conv => arg 3; zeta); split
    | split)

theorem execReservationRegister_keeps {cmd : CmdId} {nsid action cur new : Nat} {opts : RegOpts} {s : State} :
    Keeps { nvme := true, seam := true, head := true, out := true } s (execReservationRegister cmd nsid action cur new opts s) := by
  unfold execReservationRegister
  with_reducible repeat' (first
    | exact Stays.rfl
    | refine onlyIf_keeps ?_
    | refine keeps_next ?_
    | refine ite_keeps ?_ ?_
    | refine (State.setNs_stays.up ?_).after ?_
    | refine ite_stays ?_ ?_
    | fail_if_no_progress (with_reducible refine (Stays.upd ?_).after ?_; with_reducible exact Eq.refl (α := State) _)
    | exact Eq.refl (α := Mask) _
    | refine State.io_keeps ?_ ?_
    | refine (State.writeOr_stays.up ?_).after ?_
    | split
    | intro _)

theorem execReservationAcquire_keeps {cmd : CmdId} {nsid action rtype cur preempt : Nat} {s : State} :
    Keeps { nvme := true, seam := true, head := true, out := true } s (execReservationAcquire cmd nsid action rtype cur preempt s) := by
  unfold execReservationAcquire
  with_reducible repeat' (first
    | exact Stays.rfl
    | exact Eq.refl (α := Mask) _
    | refine State.io_keeps ?_ ?_
    | refine (State.writeOr_stays.up ?_).after ?_
    | split
    | intro _)

theorem execReservationRelease_keeps {cmd : CmdId} {nsid action rtype cur : Nat} {s : State} :
    Keeps { nvme := true, seam := true, head := true, out := true } s (execReservationRelease cmd nsid action rtype cur s) := by
  unfold execReservationRelease
  with_reducible repeat' (first
    | exact Stays.rfl
    | exact Eq.refl (α := Mask) _
    | refine State.io_keeps ?_ ?_
    | refine (State.writeOr_stays.up ?_).after ?_
    | split
    | intro _)

theorem execReservationReport_keeps {cmd : CmdId} {nsid : Nat} {extended : Bool} {s : State} :
    Keeps { nvme := true, seam := true, head := true, out := true } s (execReservationReport cmd nsid extended s) := by
  unfold execReservationReport
  with_reducible repeat' (first
    | exact Stays.rfl
    | exact Eq.refl (α := Mask) _
    | refine State.io_keeps ?_ ?_
    | refine (State.post_stays.up ?_).after ?_
    | refine (State.sendSeam_stays.up ?_).after ?_
    | refine ite_stays ?_ ?_
    | fail_if_no_progress (with_reducible refine (Stays.upd ?_).after ?_; with_reducible exact Eq.refl (α := State) _)
    | intro _)

theorem execNvmeUnsupportedOpcode_keeps {cmd : CmdId} {s : State} :
    Keeps { nvme := true, out := true } s (execNvmeUnsupportedOpcode cmd s) := by
  unfold execNvmeUnsupportedOpcode
  with_reducible repeat' (first
    | exact Stays.rfl
    | exact Eq.refl (α := Mask) _
    | refine State.fetch_keeps ?_ ?_
    | refine (State.finish_stays.up ?_).after ?_
    | intro _)

end Sys2Proof.Machine
end

