-- ==== Sys2Proof/Laws/StaysNvmeLog.lean ====
section
/-! SUPPORT. The operations of Machine/NvmeLog.lean keep the fixed part and the form of the tables. -/

namespace Sys2Proof.Machine

theorem State.openPage_stays {s : State} {n : Nat} {fields : List (Nat × Bytes)} :
    Stays { free := true } s (State.openPage s n fields).2 := by
  unfold State.openPage
  with_reducible repeat' (first
    | exact Stays.rfl
    | exact Eq.refl (α := Mask) _
    | refine (State.takeFreeBytes_stays.up ?_).after ?_)

theorem State.unmask_stays {s : State} {c v : Nat} :
    Stays { nvme := true, out := true } s (State.unmask s c v) := by
  unfold State.unmask
  with_reducible repeat' (first
    | exact Stays.rfl
    | exact Eq.refl (α := Mask) _
    | refine (State.noticeTo_stays.up ?_).after ?_
    | refine (State.setCtrl_stays.up ?_).after ?_
    | refine ite_stays ?_ ?_)

theorem State.logDone_stays {s : State} {cmd : CmdId} {key : Nat} {rae : Bool} {data : Bytes} :
    Stays { nvme := true, out := true } s (State.logDone s cmd key rae data) := by
  unfold State.logDone
  with_reducible repeat' (first
    | exact Stays.rfl
    | exact Eq.refl (α := Mask) _
    | refine (State.post_stays.up ?_).after ?_
    | refine (State.unmask_stays.up ?_).after ?_
    | refine ite_stays ?_ ?_
    | (conv => arg 3; zeta); split)

theorem State.takeLogCopies_stays {s : State} :
    Stays { nvme := true, out := true } s (State.takeLogCopies s) := by
  unfold State.takeLogCopies
  with_reducible repeat' (first
    | exact Stays.rfl
    | exact Eq.refl (α := Mask) _
    | refine (State.logDone_stays.up ?_).after ?_
    | refine (State.setCtrl_stays.up ?_).after ?_
    | refine (foldl_stays ?_).after ?_
    | fail_if_no_progress (with_reducible refine (Stays.upd ?_).after ?_; with_reducible exact Eq.refl (α := State) _)
    | intro _ _)

theorem State.vendorRead_stays {s : State} {cmd : CmdId} {page lsp off len : Nat} {rae : Bool} :
    Stays { ev := true, nvme := true, free := true, out := true } s (State.vendorRead s cmd page lsp off len rae) := by
  unfold State.vendorRead
  with_reducible repeat' (first
    | exact Stays.rfl
    | exact Eq.refl (α := Mask) _
    | refine (State.finish_stays.up ?_).after ?_
    | refine (State.logDone_stays.up ?_).after ?_
    | refine (State.takeFreeBytes_stays.up ?_).after ?_
    | refine ite_stays ?_ ?_
    | fail_if_no_progress (with_reducible refine (Stays.upd ?_).after ?_; with_reducible exact Eq.refl (α := State) _)
    | (conv => arg 3; zeta); split)

theorem execLogArrayStatus_keeps {cmd : CmdId} {lsp off len : Nat} {rae : Bool} {s : State} :
    Keeps { ev := true, nvme := true, free := true, out := true } s (execLogArrayStatus cmd lsp off len rae s) := by
  unfold execLogArrayStatus
  with_reducible repeat' (first
    | exact Stays.rfl
    | exact Eq.refl (α := Mask) _
    | refine State.fetchAdmin_keeps ?_ ?_
    | refine (State.vendorRead_stays.up ?_).after ?_
    | intro _)

theorem execLogAdmissionAndHem_keeps {cmd : CmdId} {lsp off len : Nat} {rae : Bool} {s : State} :
    Keeps { ev := true, nvme := true, free := true, out := true } s (execLogAdmissionAndHem cmd lsp off len rae s) := by
  unfold execLogAdmissionAndHem
  with_reducible repeat' (first
    | exact Stays.rfl
    | exact Eq.refl (α := Mask) _
    | refine State.fetchAdmin_keeps ?_ ?_
    | refine (State.vendorRead_stays.up ?_).after ?_
    | intro _)

theorem execLogShelfHealth_keeps {cmd : CmdId} {lsp off len : Nat} {rae : Bool} {s : State} :
    Keeps { ev := true, nvme := true, free := true, out := true } s (execLogShelfHealth cmd lsp off len rae s) := by
  unfold execLogShelfHealth
  with_reducible repeat' (first
    | exact Stays.rfl
    | exact Eq.refl (α := Mask) _
    | refine State.fetchAdmin_keeps ?_ ?_
    | refine (State.vendorRead_stays.up ?_).after ?_
    | intro _)

theorem execLogStripePasses_keeps {cmd : CmdId} {lsp off len : Nat} {rae : Bool} {s : State} :
    Keeps { ev := true, nvme := true, free := true, out := true } s (execLogStripePasses cmd lsp off len rae s) := by
  unfold execLogStripePasses
  with_reducible repeat' (first
    | exact Stays.rfl
    | exact Eq.refl (α := Mask) _
    | refine State.fetchAdmin_keeps ?_ ?_
    | refine (State.vendorRead_stays.up ?_).after ?_
    | intro _)

theorem execLogBootLedger_keeps {cmd : CmdId} {off len : Nat} {rae : Bool} {s : State} :
    Keeps { ev := true, nvme := true, free := true, out := true } s (execLogBootLedger cmd off len rae s) := by
  unfold execLogBootLedger
  with_reducible repeat' (first
    | exact Stays.rfl
    | exact Eq.refl (α := Mask) _
    | refine State.fetchAdmin_keeps ?_ ?_
    | refine (State.vendorRead_stays.up ?_).after ?_
    | intro _)

theorem execLogBootLedgerCollected_keeps {cmd : CmdId} {off len : Nat} {rae : Bool} {s : State} :
    Keeps { ev := true, nvme := true, free := true, out := true } s (execLogBootLedgerCollected cmd off len rae s) := by
  unfold execLogBootLedgerCollected
  with_reducible repeat' (first
    | exact Stays.rfl
    | exact Eq.refl (α := Mask) _
    | refine State.fetchAdmin_keeps ?_ ?_
    | refine (State.vendorRead_stays.up ?_).after ?_
    | intro _)

theorem execLogEventRing_keeps {cmd : CmdId} {off len : Nat} {rae : Bool} {s : State} :
    Keeps { ev := true, nvme := true, free := true, out := true } s (execLogEventRing cmd off len rae s) := by
  unfold execLogEventRing
  with_reducible repeat' (first
    | exact Stays.rfl
    | exact Eq.refl (α := Mask) _
    | refine State.fetchAdmin_keeps ?_ ?_
    | refine (State.vendorRead_stays.up ?_).after ?_
    | intro _)

theorem execLogEventSummary_keeps {cmd : CmdId} {off len : Nat} {rae : Bool} {s : State} :
    Keeps { ev := true, nvme := true, free := true, out := true } s (execLogEventSummary cmd off len rae s) := by
  unfold execLogEventSummary
  with_reducible repeat' (first
    | exact Stays.rfl
    | exact Eq.refl (α := Mask) _
    | refine State.fetchAdmin_keeps ?_ ?_
    | refine (State.vendorRead_stays.up ?_).after ?_
    | intro _)

theorem execLogEventRingMark_keeps {cmd : CmdId} {off len : Nat} {rae : Bool} {s : State} :
    Keeps { ev := true, nvme := true, free := true, out := true } s (execLogEventRingMark cmd off len rae s) := by
  unfold execLogEventRingMark
  with_reducible repeat' (first
    | exact Stays.rfl
    | exact Eq.refl (α := Mask) _
    | refine State.fetchAdmin_keeps ?_ ?_
    | refine (State.vendorRead_stays.up ?_).after ?_
    | intro _)

theorem execLogAlarms_keeps {cmd : CmdId} {lsp off len : Nat} {rae : Bool} {s : State} :
    Keeps { ev := true, nvme := true, free := true, out := true } s (execLogAlarms cmd lsp off len rae s) := by
  unfold execLogAlarms
  with_reducible repeat' (first
    | exact Stays.rfl
    | exact Eq.refl (α := Mask) _
    | refine State.fetchAdmin_keeps ?_ ?_
    | refine (State.vendorRead_stays.up ?_).after ?_
    | intro _)

theorem execLogReplication_keeps {cmd : CmdId} {lsp off len : Nat} {rae : Bool} {s : State} :
    Keeps { ev := true, nvme := true, free := true, out := true } s (execLogReplication cmd lsp off len rae s) := by
  unfold execLogReplication
  with_reducible repeat' (first
    | exact Stays.rfl
    | exact Eq.refl (α := Mask) _
    | refine State.fetchAdmin_keeps ?_ ?_
    | refine (State.vendorRead_stays.up ?_).after ?_
    | intro _)

theorem State.logErrors_stays {s : State} {c : Nat} :
    Stays { free := true } s (State.logErrors s c).2 := by
  unfold State.logErrors
  with_reducible repeat' (first
    | exact Stays.rfl
    | exact Eq.refl (α := Mask) _
    | refine (State.openPage_stays.up ?_).after ?_
    | refine (foldl2_stays ?_).after ?_
    | intro _ _)

theorem State.logSmart_stays {s : State} {c : Nat} :
    Stays { free := true } s (State.logSmart s c).2 := by
  unfold State.logSmart
  with_reducible repeat' (first
    | exact Stays.rfl
    | exact Eq.refl (α := Mask) _
    | refine (State.openPage_stays.up ?_).after ?_)

theorem State.logFirmware_stays {s : State} :
    Stays { free := true } s (State.logFirmware s).2 := by
  unfold State.logFirmware
  with_reducible repeat' (first
    | exact Stays.rfl
    | exact Eq.refl (α := Mask) _
    | refine (State.openPage_stays.up ?_).after ?_)

theorem State.logSelfTest_stays {s : State} :
    Stays { free := true } s (State.logSelfTest s).2 := by
  unfold State.logSelfTest
  with_reducible repeat' (first
    | exact Stays.rfl
    | exact Eq.refl (α := Mask) _
    | refine (State.openPage_stays.up ?_).after ?_
    | refine (State.takeFree_stays.up ?_).after ?_
    | refine (foldl2_stays ?_).after ?_
    | intro _ _)

theorem State.logSanitize_stays {s : State} :
    Stays { free := true } s (State.logSanitize s).2 := by
  unfold State.logSanitize
  with_reducible repeat' (first
    | exact Stays.rfl
    | exact Eq.refl (α := Mask) _
    | refine (State.openPage_stays.up ?_).after ?_
    | refine (State.takeFree_stays.up ?_).after ?_)

theorem State.logDiscovery_stays {s : State} :
    Stays { free := true } s (State.logDiscovery s).2 := by
  unfold State.logDiscovery
  with_reducible repeat' (first
    | exact Stays.rfl
    | exact Eq.refl (α := Mask) _
    | refine (State.openPage_stays.up ?_).after ?_
    | refine (foldl2_stays ?_).after ?_
    | intro _ _)

theorem State.stdPage_some {s : State} {c lid lsp : Nat} {rae : Bool} :
    ∀ {r}, State.stdPage s c lid lsp rae = some r → Stays { nvme := true, free := true, out := true } s r.2 := by
  intro r h
  unfold State.stdPage at h
  try (conv at h => lhs; zeta)
  repeat' (first | cases h | split at h)
  all_goals
    with_reducible repeat' (first
      | exact Stays.rfl
      | exact Eq.refl (α := Mask) _
      | refine (State.logDiscovery_stays.up ?_).after ?_
      | refine (State.logErrors_stays.up ?_).after ?_
      | refine (State.logFirmware_stays.up ?_).after ?_
      | refine (State.logSanitize_stays.up ?_).after ?_
      | refine (State.logSelfTest_stays.up ?_).after ?_
      | refine (State.logSmart_stays.up ?_).after ?_
      | refine (State.setCtrl_stays.up ?_).after ?_
      | refine (State.unmask_stays.up ?_).after ?_
      | refine ite_stays ?_ ?_)

theorem execGetLogPage_keeps {cmd : CmdId} {lid lsp off len : Nat} {rae : Bool} {s : State} :
    Keeps { ev := true, nvme := true, free := true, out := true } s (execGetLogPage cmd lid lsp off len rae s) := by
  unfold execGetLogPage
  with_reducible repeat' (first
    | exact Stays.rfl
    | exact Eq.refl (α := Mask) _
    | refine State.fetchAdmin_keeps ?_ ?_
    | refine (State.finish_stays.up ?_).after ?_
    | refine (State.post_stays.up ?_).after ?_
    | refine (State.vendorRead_stays.up ?_).after ?_
    | refine (Stays.up ?_ (State.stdPage_some (by assumption))).after ?_
    | split
    | intro _)

end Sys2Proof.Machine
end

