-- ==== Sys2Proof/Laws/StaysNvmeAdmin.lean ====
section
/-! SUPPORT. The operations of Machine/NvmeAdmin.lean keep the fixed part and the form of the tables. -/

namespace Sys2Proof.Machine

theorem State.pfOnly_keeps {m : Mask} {s : State} {cmd : CmdId} {f : State → State} (hm : Mask.or { nvme := true, out := true } m = m) (hf : ∀ a0, Stays m a0 (f a0)) :
    Keeps m s (State.pfOnly s cmd f) := by
  unfold State.pfOnly
  with_reducible repeat' (first
    | exact Stays.rfl
    | exact Mask.or_trans (Eq.refl _) hm
    | exact hf ..
    | refine State.fetchAdmin_keeps ?_ ?_
    | refine (State.finish_stays.up ?_).after ?_
    | refine ite_stays ?_ ?_
    | intro _)

theorem State.ioCtrl_keeps {m : Mask} {s : State} {cmd : CmdId} {f : State → State} (hm : Mask.or { nvme := true, out := true } m = m) (hf : ∀ a0, Stays m a0 (f a0)) :
    Keeps m s (State.ioCtrl s cmd f) := by
  unfold State.ioCtrl
  with_reducible repeat' (first
    | exact Stays.rfl
    | exact Mask.or_trans (Eq.refl _) hm
    | exact hf ..
    | refine State.fetchAdmin_keeps ?_ ?_
    | refine (State.finish_stays.up ?_).after ?_
    | refine ite_stays ?_ ?_
    | intro _)

theorem State.recordAdmin_stays {s : State} {op : AdminOp} {nsid : Nat} :
    Stays { ev := true, nvme := true, cipher := true, head := true, free := true, out := true } s (State.recordAdmin s op nsid) := by
  unfold State.recordAdmin
  with_reducible repeat' (first
    | exact Stays.rfl
    | refine (foldl2_stays ?_).after ?_
    | intro _
    | fail_if_no_progress (with_reducible refine (Stays.upd ?_).after ?_; with_reducible exact Eq.refl (α := State) _)
    | split
    | exact Eq.refl (α := Mask) _
    | refine (State.recordKeys_stays.up ?_).after ?_
    | refine (State.record_stays.up ?_).after ?_
    | refine (State.setNs_stays.up ?_).after ?_
    | refine (foldl_stays ?_).after ?_
    | refine ite_stays ?_ ?_
    | intro _ _
    | (conv => arg 3; zeta); split)

theorem State.doAdmin_stays {s : State} {cmd : CmdId} {op : AdminOp} {fromPeer : Bool} :
    Stays { ev := true, nvme := true, seam := true, cipher := true, head := true, free := true, out := true } s (State.doAdmin s cmd op fromPeer) := by
  unfold State.doAdmin
  with_reducible repeat' (first
    | exact Stays.rfl
    | refine (State.alarm_stays.up ?_).after ?_
    | fail_if_no_progress (with_reducible refine (Stays.upd ?_).after ?_; with_reducible exact Eq.refl (α := State) _)
    | split
    | exact Eq.refl (α := Mask) _
    | refine (State.recordAdmin_stays.up ?_).after ?_
    | refine (State.reply_stays.up ?_).after ?_
    | refine ite_stays ?_ ?_
    | fail_if_no_progress (with_reducible refine (Stays.upd ?_).after ?_; with_reducible exact Eq.refl (α := State) _)
    | (conv => arg 3; zeta); split)

theorem State.routeAdmin_stays {s : State} {cmd : CmdId} {op : AdminOp} :
    Stays { ev := true, nvme := true, seam := true, cipher := true, head := true, free := true, out := true } s (State.routeAdmin s cmd op) := by
  unfold State.routeAdmin
  with_reducible repeat' (first
    | exact Stays.rfl
    | exact Eq.refl (α := Mask) _
    | refine (State.doAdmin_stays.up ?_).after ?_
    | refine (State.finish_stays.up ?_).after ?_
    | refine (State.sendSeam_stays.up ?_).after ?_
    | refine ite_stays ?_ ?_
    | fail_if_no_progress (with_reducible refine (Stays.upd ?_).after ?_; with_reducible exact Eq.refl (α := State) _))

theorem State.retakeAdmin_stays {s : State} {a : AdminWait} :
    Stays { ev := true, nvme := true, seam := true, cipher := true, head := true, free := true, out := true } s (State.retakeAdmin s a) := by
  unfold State.retakeAdmin
  with_reducible repeat' (first
    | exact Stays.rfl
    | exact Eq.refl (α := Mask) _
    | refine (State.doAdmin_stays.up ?_).after ?_
    | refine (State.routeAdmin_stays.up ?_).after ?_
    | refine (State.reply_stays.up ?_).after ?_
    | refine ite_stays ?_ ?_)

theorem State.takeHeldAdmin_stays {s : State} :
    Stays { ev := true, nvme := true, seam := true, cipher := true, head := true, free := true, out := true } s (State.takeHeldAdmin s) := by
  unfold State.takeHeldAdmin
  with_reducible repeat' (first
    | exact Stays.rfl
    | refine (State.retakeAdmin_stays.up ?_).after ?_
    | refine ite_stays ?_ ?_
    | exact Eq.refl (α := Mask) _
    | refine (State.doAdmin_stays.up ?_).after ?_
    | refine (foldl_stays ?_).after ?_
    | refine (foldl2_stays ?_).after ?_
    | intro _ _
    | intro _
    | fail_if_no_progress (with_reducible refine (Stays.upd ?_).after ?_; with_reducible exact Eq.refl (α := State) _))

theorem execNamespaceManagement_keeps {cmd : CmdId} {create : Bool} {nsid nsze lbaf domain : Nat} {s : State} :
    Keeps { ev := true, nvme := true, seam := true, cipher := true, head := true, free := true, out := true } s (execNamespaceManagement cmd create nsid nsze lbaf domain s) := by
  unfold execNamespaceManagement
  with_reducible repeat' (first
    | exact Stays.rfl
    | exact Eq.refl (α := Mask) _
    | refine State.pfOnly_keeps ?_ ?_
    | refine (State.routeAdmin_stays.up ?_).after ?_
    | split
    | intro _)

theorem execNamespaceAttachment_keeps {cmd : CmdId} {attach : Bool} {nsid : Nat} {ctrls : List Nat} {s : State} :
    Keeps { ev := true, nvme := true, seam := true, cipher := true, head := true, free := true, out := true } s (execNamespaceAttachment cmd attach nsid ctrls s) := by
  unfold execNamespaceAttachment
  with_reducible repeat' (first
    | exact Stays.rfl
    | exact Eq.refl (α := Mask) _
    | refine State.ioCtrl_keeps ?_ ?_
    | refine (State.routeAdmin_stays.up ?_).after ?_
    | split
    | intro _)

theorem execFormatNvm_keeps {cmd : CmdId} {nsid lbaf ses : Nat} {s : State} :
    Keeps { ev := true, nvme := true, seam := true, cipher := true, head := true, free := true, out := true } s (execFormatNvm cmd nsid lbaf ses s) := by
  unfold execFormatNvm
  with_reducible repeat' (first
    | exact Stays.rfl
    | exact Eq.refl (α := Mask) _
    | refine State.ioCtrl_keeps ?_ ?_
    | refine (State.routeAdmin_stays.up ?_).after ?_
    | intro _)

theorem execSanitize_keeps {cmd : CmdId} {action : Nat} {s : State} :
    Keeps { ev := true, nvme := true, seam := true, cipher := true, head := true, free := true, out := true } s (execSanitize cmd action s) := by
  unfold execSanitize
  with_reducible repeat' (first
    | exact Stays.rfl
    | exact Eq.refl (α := Mask) _
    | refine State.pfOnly_keeps ?_ ?_
    | refine (State.finish_stays.up ?_).after ?_
    | refine (State.routeAdmin_stays.up ?_).after ?_
    | split
    | intro _)

theorem execAdminFwd_keeps {cmd : CmdId} {op : AdminOp} {s : State} :
    Keeps { ev := true, nvme := true, seam := true, cipher := true, head := true, free := true, out := true } s (execAdminFwd cmd op s) := by
  unfold execAdminFwd
  with_reducible repeat' (first
    | exact Stays.rfl
    | refine onSeam_keeps ?_ ?_
    | exact Eq.refl (α := Mask) _
    | refine onlyIf_keeps ?_
    | refine keeps_next ?_
    | refine ite_keeps ?_ ?_
    | refine onlyIf_keeps ?_ ?_
    | refine (State.doAdmin_stays.up ?_).after ?_
    | refine (State.rxSeam_stays.up ?_).after ?_
    | intro _)

theorem execGetFeatures_keeps {cmd : CmdId} {fid nsid sel : Nat} {s : State} :
    Keeps { nvme := true, free := true, out := true } s (execGetFeatures cmd fid nsid sel s) := by
  unfold execGetFeatures
  with_reducible repeat' (first
    | exact Stays.rfl
    | exact Eq.refl (α := Mask) _
    | refine State.fetchAdmin_keeps ?_ ?_
    | refine (State.finish_stays.up ?_).after ?_
    | refine (State.post_stays.up ?_).after ?_
    | refine (State.takeFree_stays.up ?_).after ?_
    | split
    | intro _)

theorem State.setFeature_stays {s : State} {cmd : CmdId} {fid nsid value : Nat} {data : Bytes} :
    Stays { nvme := true, seam := true, head := true, out := true } s (State.setFeature s cmd fid nsid value data) := by
  unfold State.setFeature
  with_reducible repeat' (first
    | exact Stays.rfl
    | refine (State.writeOr_stays.up ?_).after ?_
    | intro _
    | fail_if_no_progress (with_reducible refine (Stays.upd ?_).after ?_; with_reducible exact Eq.refl (α := State) _)
    | split
    | exact Eq.refl (α := Mask) _
    | refine (State.finish_stays.up ?_).after ?_
    | refine (State.setCtrl_stays.up ?_).after ?_
    | refine (State.setNs_stays.up ?_).after ?_
    | refine (State.setQueueCount_stays.up ?_).after ?_
    | refine ite_stays ?_ ?_
    | (conv => arg 3; zeta); split)

theorem execSetFeatures_keeps {cmd : CmdId} {fid nsid value : Nat} {data : Bytes} {s : State} :
    Keeps { nvme := true, seam := true, head := true, out := true } s (execSetFeatures cmd fid nsid value data s) := by
  unfold execSetFeatures
  with_reducible repeat' (first
    | exact Stays.rfl
    | exact Eq.refl (α := Mask) _
    | refine onlyIf_keeps ?_
    | refine keeps_next ?_
    | refine ite_keeps ?_ ?_
    | refine State.fetchAdmin_keeps ?_ ?_
    | refine (State.setFeature_stays.up ?_).after ?_
    | intro _)

theorem execAsyncEventRequest_keeps {cmd : CmdId} {s : State} :
    Keeps { nvme := true, out := true } s (execAsyncEventRequest cmd s) := by
  unfold execAsyncEventRequest
  with_reducible repeat' (first
    | exact Stays.rfl
    | exact Eq.refl (α := Mask) _
    | refine State.fetchAdmin_keeps ?_ ?_
    | refine (State.finish_stays.up ?_).after ?_
    | refine (State.post_stays.up ?_).after ?_
    | refine (State.setCtrl_stays.up ?_).after ?_
    | refine ite_stays ?_ ?_
    | split
    | intro _)

theorem State.startTest_stays {s : State} {cmd : CmdId} {code nsid : Nat} :
    Stays { nvme := true, out := true } s (State.startTest s cmd code nsid) := by
  unfold State.startTest
  with_reducible repeat' (first
    | exact Stays.rfl
    | exact Eq.refl (α := Mask) _
    | refine (State.finish_stays.up ?_).after ?_
    | refine ite_stays ?_ ?_
    | fail_if_no_progress (with_reducible refine (Stays.upd ?_).after ?_; with_reducible exact Eq.refl (α := State) _))

theorem execDeviceSelfTestShort_keeps {cmd : CmdId} {nsid : Nat} {s : State} :
    Keeps { nvme := true, out := true } s (execDeviceSelfTestShort cmd nsid s) := by
  unfold execDeviceSelfTestShort
  with_reducible repeat' (first
    | exact Stays.rfl
    | exact Eq.refl (α := Mask) _
    | refine State.ioCtrl_keeps ?_ ?_
    | refine (State.startTest_stays.up ?_).after ?_
    | intro _)

theorem execDeviceSelfTestExtended_keeps {cmd : CmdId} {nsid : Nat} {s : State} :
    Keeps { nvme := true, out := true } s (execDeviceSelfTestExtended cmd nsid s) := by
  unfold execDeviceSelfTestExtended
  with_reducible repeat' (first
    | exact Stays.rfl
    | exact Eq.refl (α := Mask) _
    | refine State.ioCtrl_keeps ?_ ?_
    | refine (State.startTest_stays.up ?_).after ?_
    | intro _)

theorem State.endTest_stays {s : State} {result : Nat} :
    Stays { nvme := true } s (State.endTest s result) := by
  unfold State.endTest
  with_reducible repeat' (first
    | exact Stays.rfl
    | fail_if_no_progress (with_reducible refine (Stays.upd ?_).after ?_; with_reducible exact Eq.refl (α := State) _)
    | (conv => arg 3; zeta); split)

theorem execDeviceSelfTestAbort_keeps {cmd : CmdId} {s : State} :
    Keeps { nvme := true, out := true } s (execDeviceSelfTestAbort cmd s) := by
  unfold execDeviceSelfTestAbort
  with_reducible repeat' (first
    | exact Stays.rfl
    | exact Eq.refl (α := Mask) _
    | refine State.ioCtrl_keeps ?_ ?_
    | refine (State.endTest_stays.up ?_).after ?_
    | refine (State.finish_stays.up ?_).after ?_
    | intro _)

theorem State.testStep_stays {s : State} :
    Stays { nvme := true } s (State.testStep s) := by
  unfold State.testStep
  with_reducible repeat' (first
    | exact Stays.rfl
    | refine ite_stays ?_ ?_
    | fail_if_no_progress (with_reducible refine (Stays.upd ?_).after ?_; with_reducible exact Eq.refl (α := State) _)
    | (conv => arg 3; zeta); split)

theorem State.testDone_stays {s : State} {r : Nat} :
    Stays { nvme := true } s (State.testDone s r) := by
  unfold State.testDone
  with_reducible repeat' (first
    | exact Stays.rfl
    | exact Eq.refl (α := Mask) _
    | refine (State.endTest_stays.up ?_).after ?_
    | refine ite_stays ?_ ?_
    | fail_if_no_progress (with_reducible refine (Stays.upd ?_).after ?_; with_reducible exact Eq.refl (α := State) _)
    | (conv => arg 3; zeta); split
    | split)

theorem State.psStep_stays {s : State} :
    Stays { nvme := true } s (State.psStep s) := by
  unfold State.psStep
  with_reducible repeat' (first
    | exact Stays.rfl
    | refine ite_stays ?_ ?_
    | fail_if_no_progress (with_reducible refine (Stays.upd ?_).after ?_; with_reducible exact Eq.refl (α := State) _))

theorem State.psReached_stays {s : State} {p : Nat} :
    Stays { ev := true, nvme := true, out := true } s (State.psReached s p) := by
  unfold State.psReached
  with_reducible repeat' (first
    | exact Stays.rfl
    | exact Eq.refl (α := Mask) _
    | refine (State.event_stays.up ?_).after ?_
    | fail_if_no_progress (with_reducible refine (Stays.upd ?_).after ?_; with_reducible exact Eq.refl (α := State) _))

theorem State.psNext_stays {s : State} :
    Stays { nvme := true } s (State.psNext s) := by
  unfold State.psNext
  with_reducible repeat' (first
    | exact Stays.rfl
    | exact Eq.refl (α := Mask) _
    | refine (State.psStep_stays.up ?_).after ?_
    | refine ite_stays ?_ ?_)

theorem execPowerStateEntryDone_keeps {s : State} :
    Keeps { ev := true, power := true, eng := true, mem := true, ring := true, mc := true, hem := true, nvme := true, press := true, cipher := true, free := true, out := true } s (execPowerStateEntryDone s) := by
  unfold execPowerStateEntryDone
  with_reducible repeat' (first
    | exact Stays.rfl
    | fail_if_no_progress (with_reducible refine (Stays.upd ?_).after ?_; with_reducible exact Eq.refl (α := State) _)
    | refine onlyIf_keeps ?_
    | refine ite_keeps ?_ ?_
    | refine (State.psNext_stays.up ?_).after ?_
    | fail_if_no_progress (with_reducible refine (Stays.upd ?_).after ?_; with_reducible exact Eq.refl (α := State) _)
    | (conv => arg 3; zeta); split
    | exact Eq.refl (α := Mask) _
    | refine keeps_next ?_
    | refine (State.enterPs2_stays.up ?_).after ?_
    | refine (State.psReached_stays.up ?_).after ?_
    | refine (State.psStep_stays.up ?_).after ?_
    | refine ite_stays ?_ ?_
    | split)

theorem execPowerStateExitDone_keeps {s : State} :
    Keeps { boot := true, ev := true, power := true, eng := true, mem := true, ring := true, mc := true, hem := true, nvme := true, seam := true, digest := true, cam := true, press := true, cipher := true, port := true, head := true, rdma := true, repl := true, free := true, out := true } s (execPowerStateExitDone s) := by
  unfold execPowerStateExitDone
  with_reducible repeat' (first
    | exact Stays.rfl
    | fail_if_no_progress (with_reducible refine (Stays.upd ?_).after ?_; with_reducible exact Eq.refl (α := State) _)
    | refine (State.makeWaitingKeys_stays.up ?_).after ?_
    | fail_if_no_progress (with_reducible refine (Stays.upd ?_).after ?_; with_reducible exact Eq.refl (α := State) _)
    | refine onlyIf_keeps ?_
    | refine ite_keeps ?_ ?_
    | refine (State.psNext_stays.up ?_).after ?_
    | fail_if_no_progress (with_reducible refine (Stays.upd ?_).after ?_; with_reducible exact Eq.refl (α := State) _)
    | (conv => arg 3; zeta); split
    | exact Eq.refl (α := Mask) _
    | refine keeps_next ?_
    | refine (State.beginHeld_stays.up ?_).after ?_
    | refine (State.leavePs2_stays.up ?_).after ?_
    | refine (State.psReached_stays.up ?_).after ?_
    | refine (State.psStep_stays.up ?_).after ?_
    | refine (State.takeHeldAdmin_stays.up ?_).after ?_
    | refine ite_stays ?_ ?_
    | split)

theorem execApstIdleTimeout_keeps {cntlid : Nat} {s : State} :
    Keeps { nvme := true } s (execApstIdleTimeout cntlid s) := by
  unfold execApstIdleTimeout
  with_reducible repeat' (first
    | exact Stays.rfl
    | exact Eq.refl (α := Mask) _
    | refine keeps_next ?_
    | refine (State.setCtrl_stays.up ?_).after ?_
    | refine ite_stays ?_ ?_
    | split)

end Sys2Proof.Machine
end

