-- ==== Sys2Proof/Laws/StaysNvmeFw.lean ====
section
/-! SUPPORT. The operations of Machine/NvmeFw.lean keep the fixed part and the form of the tables. -/

namespace Sys2Proof.Machine

theorem writeCopy_wf {nor : Mem} {c : Copy} {img : Bytes} (h : Mem.wf norErased nor = true) :
    Mem.wf norErased (writeCopy nor c img) = true := norPut_wf h

theorem State.idCtrl_stays {s : State} {c : Nat} :
    Stays { free := true } s (State.idCtrl s c).2 := by
  unfold State.idCtrl
  with_reducible repeat' (first
    | exact Stays.rfl
    | exact Eq.refl (α := Mask) _
    | refine (State.openPage_stays.up ?_).after ?_)

theorem State.idNs_stays {s : State} {c nsid : Nat} {n : Ns} :
    Stays { free := true } s (State.idNs s c nsid n).2 := by
  unfold State.idNs
  with_reducible repeat' (first
    | exact Stays.rfl
    | refine ite_stays ?_ ?_
    | exact Eq.refl (α := Mask) _
    | refine (State.openPage_stays.up ?_).after ?_)

theorem State.idNsOr_stays {s : State} {c nsid : Nat} {here : Ns → Bool} :
    Stays { free := true } s (State.idNsOr s c nsid here).2 := by
  unfold State.idNsOr
  with_reducible repeat' (first
    | exact Stays.rfl
    | refine ite_stays ?_ ?_
    | fail_if_no_progress (with_reducible refine (Stays.upd ?_).after ?_; with_reducible exact Eq.refl (α := State) _)
    | split
    | exact Eq.refl (α := Mask) _
    | refine (State.idNs_stays.up ?_).after ?_
    | (conv => arg 3; zeta); split)

theorem State.idNvmNs_stays {s : State} {nsid : Nat} :
    Stays { free := true } s (State.idNvmNs s nsid).2 := by
  unfold State.idNvmNs
  split
  · exact State.openPage_stays
  · exact Stays.rfl

theorem State.idAnyNs_stays {s : State} {nsid : Nat} :
    Stays { free := true } s (State.idAnyNs s nsid).2 := by
  unfold State.idAnyNs
  split
  · exact State.openPage_stays
  · exact Stays.rfl

theorem ite_pages {m : Mask} {s : State} {c : Prop} [Decidable c] {a b : Option (Bytes × State)}
    (ha : ∀ {r}, a = some r → Stays m s r.2) (hb : ∀ {r}, b = some r → Stays m s r.2) :
    ∀ {r}, (if c then a else b) = some r → Stays m s r.2 := by
  split
  · exact ha
  · exact hb

theorem some_pages {m : Mask} {s : State} {p : Bytes × State} (h : Stays m s p.2) :
    ∀ {r}, some p = some r → Stays m s r.2 := fun e => Option.some.inj e ▸ h

theorem none_pages {m : Mask} {s : State} : ∀ {r : Bytes × State}, none = some r → Stays m s r.2 := fun e => nomatch e

theorem ite_page {m : Mask} {s : State} {c : Prop} [Decidable c] {a b : Bytes × State} (ha : Stays m s a.2) (hb : Stays m s b.2) :
    Stays m s (if c then a else b).2 := by
  split
  · exact ha
  · exact hb

theorem State.idPage_some {s : State} {c cns nsid cntid : Nat} :
    ∀ {r}, State.idPage s c cns nsid cntid = some r → Stays { free := true } s r.2 := by
  unfold State.idPage
  with_reducible repeat' (first
    | exact none_pages
    | exact State.idCtrl_stays
    | exact State.idNsOr_stays
    | exact State.idNvmNs_stays
    | exact State.idAnyNs_stays
    | exact State.openPage_stays
    | exact Stays.rfl
    | refine ite_page ?_ ?_
    | refine ite_pages ?_ ?_
    | refine some_pages ?_)

theorem execIdentify_keeps {cmd : CmdId} {cns nsid cntid : Nat} {s : State} :
    Keeps { nvme := true, free := true, out := true } s (execIdentify cmd cns nsid cntid s) := by
  unfold execIdentify
  with_reducible repeat' (first
    | exact Stays.rfl
    | exact Eq.refl (α := Mask) _
    | refine State.fetchAdmin_keeps ?_ ?_
    | refine (State.finish_stays.up ?_).after ?_
    | refine (State.post_stays.up ?_).after ?_
    | refine (Stays.up ?_ (State.idPage_some (by assumption))).after ?_
    | refine ite_stays ?_ ?_
    | split
    | intro _)

theorem execFirmwareImageDownload_keeps {cmd : CmdId} {off : Nat} {data : Bytes} {s : State} :
    Keeps { nvme := true, out := true } s (execFirmwareImageDownload cmd off data s) := by
  unfold execFirmwareImageDownload
  with_reducible repeat' (first
    | exact Stays.rfl
    | exact Eq.refl (α := Mask) _
    | refine State.pfOnly_keeps ?_ ?_
    | refine (State.finish_stays.up ?_).after ?_
    | refine ite_stays ?_ ?_
    | fail_if_no_progress (with_reducible refine (Stays.upd ?_).after ?_; with_reducible exact Eq.refl (α := State) _)
    | split
    | intro _)

theorem State.fwRelease_stays {s : State} {c : Nat} :
    Stays { nvme := true } s (State.fwRelease s c) := by
  unfold State.fwRelease
  with_reducible repeat' (first
    | exact Stays.rfl
    | exact Eq.refl (α := Mask) _
    | refine ite_stays ?_ ?_
    | fail_if_no_progress (with_reducible refine (Stays.upd ?_).after ?_; with_reducible exact Eq.refl (α := State) _))

theorem State.fwCommitDo_stays {s : State} {cmd : CmdId} {action slot : Nat} :
    Stays { nvme := true, out := true } s (State.fwCommitDo s cmd action slot) := by
  unfold State.fwCommitDo
  with_reducible repeat' (first
    | exact Stays.rfl
    | exact Eq.refl (α := Mask) _
    | refine (State.finish_stays.up ?_).after ?_
    | intro _
    | refine ite_stays ?_ ?_
    | fail_if_no_progress (with_reducible refine (Stays.upd ?_).after ?_; with_reducible exact Eq.refl (α := State) _)
    | (conv => arg 3; zeta); split
    | split)

theorem State.fwCommitAct_stays {s : State} {cmd : CmdId} {action slot : Nat} :
    Stays { nvme := true, out := true } s (State.fwCommitAct s cmd action slot) := by
  unfold State.fwCommitAct
  with_reducible repeat' (first
    | exact Stays.rfl
    | refine (State.fwRelease_stays.up ?_).after ?_
    | refine (State.fwCommitDo_stays.up ?_).after ?_
    | exact Eq.refl (α := Mask) _
    | refine (State.finish_stays.up ?_).after ?_
    | refine ite_stays ?_ ?_
    | fail_if_no_progress (with_reducible refine (Stays.upd ?_).after ?_; with_reducible exact Eq.refl (α := State) _)
    | (conv => arg 3; zeta); split)

theorem execFwCommitReplace_keeps {cmd : CmdId} {slot action : Nat} {s : State} :
    Keeps { nvme := true, out := true } s (execFwCommitReplace cmd slot action s) := by
  unfold execFwCommitReplace
  with_reducible repeat' (first
    | exact Stays.rfl
    | exact Eq.refl (α := Mask) _
    | refine State.pfOnly_keeps ?_ ?_
    | refine (State.fwCommitAct_stays.up ?_).after ?_
    | intro _)

theorem execFwCommitReplaceActivate_keeps {cmd : CmdId} {slot : Nat} {s : State} :
    Keeps { nvme := true, out := true } s (execFwCommitReplaceActivate cmd slot s) := by
  unfold execFwCommitReplaceActivate
  with_reducible repeat' (first
    | exact Stays.rfl
    | exact Eq.refl (α := Mask) _
    | refine State.pfOnly_keeps ?_ ?_
    | refine (State.fwCommitAct_stays.up ?_).after ?_
    | intro _)

theorem execFwCommitActivate_keeps {cmd : CmdId} {slot : Nat} {s : State} :
    Keeps { nvme := true, out := true } s (execFwCommitActivate cmd slot s) := by
  unfold execFwCommitActivate
  with_reducible repeat' (first
    | exact Stays.rfl
    | exact Eq.refl (α := Mask) _
    | refine State.pfOnly_keeps ?_ ?_
    | refine (State.fwCommitAct_stays.up ?_).after ?_
    | intro _)

theorem execFwSlotWriteDone_keeps {s : State} :
    Keeps { nor := true, ev := true, nvme := true, out := true } s (execFwSlotWriteDone s) := by
  unfold execFwSlotWriteDone
  refine keeps_next ?_
  split
  · exact Stays.rfl
  · split
    · refine (State.finish_stays.up (Eq.refl _)).after ((State.event_stays.up (Eq.refl _)).after ?_)
      exact Stays.all (rfl) (rfl) (rfl) (fun h => writeCopy_wf h) (id) (id) (id) (by with_reducible exact Eq.refl _)
    · exact Stays.rfl

end Sys2Proof.Machine
end

