-- ==== Sys2Proof/Laws/StaysRdma.lean ====
section
/-! SUPPORT. The operations of Machine/Rdma.lean keep the fixed part and the form of the tables. -/

namespace Sys2Proof.Machine

theorem State.setQp_stays {s : State} {n : Nat} {q : Qp} :
    Stays { rdma := true } s (State.setQp s n q) := by
  unfold State.setQp
  with_reducible repeat' (first
    | exact Stays.rfl
    | fail_if_no_progress (with_reducible refine (Stays.upd ?_).after ?_; with_reducible exact Eq.refl (α := State) _))

theorem State.workDone_stays {s : State} {n wr status : Nat} :
    Stays { rdma := true } s (State.workDone s n wr status) := by
  unfold State.workDone
  with_reducible repeat' (first
    | exact Stays.rfl
    | fail_if_no_progress (with_reducible refine (Stays.upd ?_).after ?_; with_reducible exact Eq.refl (α := State) _))

theorem State.setFront_stays {s : State} {p : Nat} {v : FrontPort} :
    Stays { front := true } s (State.setFront s p v) := by
  unfold State.setFront
  repeat' (first
    | with_reducible exact Stays.rfl
    | (intro h; exact h)
    | exact List.length_set
    | with_reducible exact Eq.refl (α := State) _
    | with_reducible rfl
    | with_reducible refine (Stays.all ?_ ?_ ?_ ?_ ?_ ?_ ?_ ?_).after ?_)

theorem State.dropFrame_stays {s : State} {p : Nat} :
    Stays { front := true } s (State.dropFrame s p) := by
  unfold State.dropFrame
  with_reducible repeat' (first
    | exact Stays.rfl
    | exact Eq.refl (α := Mask) _
    | refine (State.setFront_stays.up ?_).after ?_)

theorem State.sessionDown_stays {s : State} :
    Stays { ev := true, nvme := true, repl := true, out := true } s (State.sessionDown s) := by
  unfold State.sessionDown
  with_reducible repeat' (first
    | exact Stays.rfl
    | exact Eq.refl (α := Mask) _
    | refine (State.alarm_stays.up ?_).after ?_
    | refine ite_stays ?_ ?_
    | fail_if_no_progress (with_reducible refine (Stays.upd ?_).after ?_; with_reducible exact Eq.refl (α := State) _))

theorem State.qpError_stays {s : State} {n first rest : Nat} :
    Stays { ev := true, nvme := true, head := true, rdma := true, repl := true, out := true } s (State.qpError s n first rest) := by
  unfold State.qpError
  with_reducible repeat' (first
    | exact Stays.rfl
    | exact Eq.refl (α := Mask) _
    | refine (State.endAssoc_stays.up ?_).after ?_
    | refine (State.eventArg_stays.up ?_).after ?_
    | refine (State.sessionDown_stays.up ?_).after ?_
    | refine (State.setQp_stays.up ?_).after ?_
    | refine (State.workDone_stays.up ?_).after ?_
    | refine (foldl_stays ?_).after ?_
    | refine ite_stays ?_ ?_
    | intro _ _
    | (conv => arg 3; zeta); split)

theorem State.frontUp_stays {s : State} {p : Nat} :
    Stays { ev := true, nvme := true, front := true, out := true } s (State.frontUp s p) := by
  unfold State.frontUp
  with_reducible repeat' (first
    | exact Stays.rfl
    | exact Eq.refl (α := Mask) _
    | refine (State.clearAlarm_stays.up ?_).after ?_
    | refine (State.event_stays.up ?_).after ?_
    | refine (State.setFront_stays.up ?_).after ?_)

theorem execFrontPortLinkUp_keeps {p : Fin 16} {s : State} :
    Keeps { ev := true, nvme := true, front := true, out := true } s (execFrontPortLinkUp p s) := by
  unfold execFrontPortLinkUp
  with_reducible repeat' (first
    | exact Stays.rfl
    | exact Eq.refl (α := Mask) _
    | refine onlyIf_keeps ?_
    | refine (State.frontUp_stays.up ?_).after ?_)

theorem State.frontDown_stays {s : State} {p : Nat} :
    Stays { ev := true, nvme := true, head := true, front := true, rdma := true, out := true } s (State.frontDown s p) := by
  unfold State.frontDown
  with_reducible repeat' (first
    | exact Stays.rfl
    | exact Eq.refl (α := Mask) _
    | refine (State.endAssoc_stays.up ?_).after ?_
    | refine (State.event_stays.up ?_).after ?_
    | refine (State.setFront_stays.up ?_).after ?_
    | refine (State.setQp_stays.up ?_).after ?_
    | refine (foldl_stays ?_).after ?_
    | intro _ _
    | (conv => arg 3; zeta); split)

theorem execFrontPortLinkDown_keeps {p : Fin 16} {s : State} :
    Keeps { ev := true, nvme := true, head := true, front := true, rdma := true, out := true } s (execFrontPortLinkDown p s) := by
  unfold execFrontPortLinkDown
  with_reducible repeat' (first
    | exact Stays.rfl
    | exact Eq.refl (α := Mask) _
    | refine onlyIf_keeps ?_
    | refine (State.frontDown_stays.up ?_).after ?_)

theorem execFrontPortDownAlarm_keeps {p : Fin 16} {s : State} :
    Keeps { ev := true, nvme := true, out := true } s (execFrontPortDownAlarm p s) := by
  unfold execFrontPortDownAlarm
  with_reducible repeat' (first
    | exact Stays.rfl
    | exact Eq.refl (α := Mask) _
    | refine onlyIf_keeps ?_
    | refine (State.alarm_stays.up ?_).after ?_)

theorem execFrontPortNeighbour_keeps {p : Fin 16} {kind : Fin 3} {s : State} :
    Keeps { out := true } s (execFrontPortNeighbour p kind s) := by
  unfold execFrontPortNeighbour
  with_reducible repeat' (first
    | exact Stays.rfl
    | exact Eq.refl (α := Mask) _
    | refine onlyIf_keeps ?_
    | refine (State.emit_stays.up ?_).after ?_)

theorem releaseHeld_stays  {x0 : List (Nat × Nat × List Nat)} {x1 : State} :
    Stays { rdma := true, out := true } x1 (releaseHeld x0 x1) := by
  induction x0 generalizing x1 with
  | nil =>
    unfold releaseHeld
    with_reducible exact Stays.rfl
  | cons y ys ih =>
    unfold releaseHeld
    with_reducible repeat' (first
      | exact Stays.rfl
      | refine ih.after ?_
      | exact Eq.refl (α := Mask) _
      | refine (State.sendPkts_stays.up ?_).after ?_)

theorem execPfcPauseFrame_keeps {p : Fin 16} {named pause : BitVec 8} {s : State} :
    Keeps { front := true, rdma := true, out := true } s (execPfcPauseFrame p named pause s) := by
  unfold execPfcPauseFrame
  with_reducible repeat' (first
    | exact Stays.rfl
    | exact Eq.refl (α := Mask) _
    | refine onlyIf_keeps ?_
    | refine (State.setFront_stays.up ?_).after ?_
    | refine (releaseHeld_stays.up ?_).after ?_
    | fail_if_no_progress (with_reducible refine (Stays.upd ?_).after ?_; with_reducible exact Eq.refl (α := State) _))

theorem State.startTaking_stays {s : State} {n : Nat} :
    Stays { rdma := true, repl := true, out := true } s (State.startTaking s n) := by
  unfold State.startTaking
  with_reducible repeat' (first
    | exact Stays.rfl
    | exact Eq.refl (α := Mask) _
    | refine (State.emit_stays.up ?_).after ?_
    | refine (State.setQp_stays.up ?_).after ?_
    | refine ite_stays ?_ ?_
    | fail_if_no_progress (with_reducible refine (Stays.upd ?_).after ?_; with_reducible exact Eq.refl (α := State) _)
    | (conv => arg 3; zeta); split)

theorem execRdmaCmConnect_keeps {qpn : Nat} {p : Fin 16} {use : QpUse} {rxPsn txPsn : Fin 16777216} {rq : List (Nat × Nat)} {credits : Nat} {s : State} :
    Keeps { rdma := true, repl := true, out := true } s (execRdmaCmConnect qpn p use rxPsn txPsn rq credits s) := by
  unfold execRdmaCmConnect
  with_reducible repeat' (first
    | exact Stays.rfl
    | exact Eq.refl (α := Mask) _
    | refine onlyIf_keeps ?_
    | refine (State.setQp_stays.up ?_).after ?_
    | refine (State.startTaking_stays.up ?_).after ?_
    | refine ite_stays ?_ ?_)

theorem State.dropQp_stays {s : State} {qpn : Nat} :
    Stays { rdma := true } s (State.dropQp s qpn) := by
  unfold State.dropQp
  with_reducible repeat' (first
    | exact Stays.rfl
    | fail_if_no_progress (with_reducible refine (Stays.upd ?_).after ?_; with_reducible exact Eq.refl (α := State) _))

theorem execRdmaCmDisconnect_keeps {qpn : Nat} {s : State} :
    Keeps { ev := true, nvme := true, head := true, rdma := true, repl := true, out := true } s (execRdmaCmDisconnect qpn s) := by
  unfold execRdmaCmDisconnect
  with_reducible repeat' (first
    | exact Stays.rfl
    | exact Eq.refl (α := Mask) _
    | refine keeps_next ?_
    | refine (State.dropQp_stays.up ?_).after ?_
    | refine (State.endAssoc_stays.up ?_).after ?_
    | refine (State.sessionDown_stays.up ?_).after ?_
    | split)

theorem State.nakInvalid_stays {s : State} {n psn status : Nat} :
    Stays { ev := true, nvme := true, head := true, rdma := true, repl := true, out := true } s (State.nakInvalid s n psn status) := by
  unfold State.nakInvalid
  with_reducible repeat' (first
    | exact Stays.rfl
    | exact Eq.refl (α := Mask) _
    | refine (State.emit_stays.up ?_).after ?_
    | refine (State.qpError_stays.up ?_).after ?_
    | refine (State.workDone_stays.up ?_).after ?_)

theorem State.ack_stays {s : State} {n psn : Nat} :
    Stays { out := true } s (State.ack s n psn) := by
  unfold State.ack
  with_reducible repeat' (first
    | exact Stays.rfl
    | exact Eq.refl (α := Mask) _
    | refine (State.emit_stays.up ?_).after ?_
    | (conv => arg 3; zeta); split)

theorem State.markCe_stays {s : State} {p : RdmaPkt} :
    Stays { rdma := true, out := true } s (State.markCe s p) := by
  unfold State.markCe
  with_reducible repeat' (first
    | exact Stays.rfl
    | exact Eq.refl (α := Mask) _
    | refine (State.emit_stays.up ?_).after ?_
    | refine (State.setQp_stays.up ?_).after ?_
    | refine ite_stays ?_ ?_
    | (conv => arg 3; zeta); split)

theorem State.inOrder_stays {m : Mask} {s : State} {p : RdmaPkt} {f : Qp → State → State} (hm : Mask.or { rdma := true, out := true } m = m) (hf : ∀ a0 a1, Stays m a1 (f a0 a1)) :
    Stays m s (State.inOrder s p f) := by
  unfold State.inOrder
  with_reducible repeat' (first
    | exact Stays.rfl
    | exact Mask.or_trans (Eq.refl _) hm
    | refine (hf ..).after ?_
    | refine (State.ack_stays.up ?_).after ?_
    | refine (State.emit_stays.up ?_).after ?_
    | refine (State.setQp_stays.up ?_).after ?_
    | refine ite_stays ?_ ?_
    | (conv => arg 3; zeta); split)

theorem State.placeNext_stays {s : State} {p : RdmaPkt} {q : Qp} {i : Incoming} :
    Stays { ev := true, mem := true, mc := true, hem := true, nvme := true, head := true, rdma := true, repl := true, out := true } s (State.placeNext s p q i) := by
  unfold State.placeNext
  with_reducible repeat' (first
    | exact Stays.rfl
    | exact Eq.refl (α := Mask) _
    | refine (State.ack_stays.up ?_).after ?_
    | refine (State.dmaWrite_stays.up ?_).after ?_
    | refine (State.nakInvalid_stays.up ?_).after ?_
    | refine (State.setQp_stays.up ?_).after ?_
    | refine (State.workDone_stays.up ?_).after ?_
    | refine ite_stays ?_ ?_
    | (conv => arg 3; zeta); split)

theorem State.rxSendRc_stays {s : State} {p : RdmaPkt} :
    Stays { ev := true, mem := true, mc := true, hem := true, nvme := true, head := true, rdma := true, repl := true, out := true } s (State.rxSendRc s p) := by
  unfold State.rxSendRc
  with_reducible repeat' (first
    | exact Stays.rfl
    | exact Eq.refl (α := Mask) _
    | refine (State.emit_stays.up ?_).after ?_
    | refine (State.inOrder_stays ?_ ?_).after ?_
    | refine (State.nakInvalid_stays.up ?_).after ?_
    | refine (State.placeNext_stays.up ?_).after ?_
    | refine ite_stays ?_ ?_
    | intro _
    | (conv => arg 3; zeta); split)

theorem State.rxWriteRc_stays {s : State} {p : RdmaPkt} {addr len : Nat} :
    Stays { ev := true, mem := true, mc := true, hem := true, nvme := true, head := true, rdma := true, repl := true, out := true } s (State.rxWriteRc s p addr len) := by
  unfold State.rxWriteRc
  with_reducible repeat' (first
    | exact Stays.rfl
    | exact Eq.refl (α := Mask) _
    | refine (State.inOrder_stays ?_ ?_).after ?_
    | refine (State.nakInvalid_stays.up ?_).after ?_
    | refine (State.placeNext_stays.up ?_).after ?_
    | intro _
    | (conv => arg 3; zeta); split)

theorem sealsGo_stays {n : Nat} {x0 : Nat} {x1 : SprayRx} {x2 : State} :
    Stays { rdma := true, out := true } x2 (sealsGo n x0 x1 x2).2 := by
  induction x0 generalizing n x1 x2 with
  | zero =>
    unfold sealsGo
    with_reducible exact Stays.rfl
  | succ k ih =>
    unfold sealsGo
    with_reducible repeat' (first
      | exact Stays.rfl
      | refine ih.after ?_
      | exact Eq.refl (α := Mask) _
      | refine (State.ack_stays.up ?_).after ?_
      | refine (State.workDone_stays.up ?_).after ?_
      | (conv => arg 3; zeta); split)

theorem State.rxSpray_stays {s : State} {p : RdmaPkt} {q : Qp} {r : SprayRx} {idx msgNo : Nat} {isSeal : Bool} {addr len : Nat} :
    Stays { ev := true, mem := true, mc := true, hem := true, nvme := true, head := true, front := true, rdma := true, repl := true, out := true } s (State.rxSpray s p q r idx msgNo isSeal addr len) := by
  unfold State.rxSpray
  with_reducible repeat' (first
    | exact Stays.rfl
    | exact Eq.refl (α := Mask) _
    | refine (State.ack_stays.up ?_).after ?_
    | refine (State.dmaWrite_stays.up ?_).after ?_
    | refine (State.dropFrame_stays.up ?_).after ?_
    | refine (State.event_stays.up ?_).after ?_
    | refine (State.nakInvalid_stays.up ?_).after ?_
    | refine (State.setQp_stays.up ?_).after ?_
    | refine (sealsGo_stays.up ?_).after ?_
    | refine ite_stays ?_ ?_)

theorem State.rxPacket_stays {s0 : State} {x : Parked} :
    Stays { ev := true, mem := true, mc := true, hem := true, nvme := true, head := true, front := true, rdma := true, repl := true, out := true } s0 (State.rxPacket s0 x) := by
  unfold State.rxPacket
  with_reducible repeat' (first
    | exact Stays.rfl
    | exact Eq.refl (α := Mask) _
    | refine (State.dropFrame_stays.up ?_).after ?_
    | refine (State.emit_stays.up ?_).after ?_
    | refine (State.markCe_stays.up ?_).after ?_
    | refine (State.rxSendRc_stays.up ?_).after ?_
    | refine (State.rxSpray_stays.up ?_).after ?_
    | refine (State.rxWriteRc_stays.up ?_).after ?_
    | refine ite_stays ?_ ?_
    | (conv => arg 3; zeta); split)

theorem State.park_stays {s : State} {x : Parked} :
    Stays { ev := true, nvme := true, front := true, rdma := true, out := true } s (State.park s x) := by
  unfold State.park
  with_reducible repeat' (first
    | exact Stays.rfl
    | exact Eq.refl (α := Mask) _
    | refine (State.dropFrame_stays.up ?_).after ?_
    | refine (State.emit_stays.up ?_).after ?_
    | refine (State.event_stays.up ?_).after ?_
    | refine (State.setFront_stays.up ?_).after ?_
    | refine ite_stays ?_ ?_
    | fail_if_no_progress (with_reducible refine (Stays.upd ?_).after ?_; with_reducible exact Eq.refl (α := State) _))

theorem State.rxArrive_stays {s : State} {x : Parked} :
    Stays { ev := true, mem := true, mc := true, hem := true, nvme := true, head := true, front := true, rdma := true, repl := true, out := true } s (State.rxArrive s x) := by
  unfold State.rxArrive
  with_reducible repeat' (first
    | exact Stays.rfl
    | exact Eq.refl (α := Mask) _
    | refine (State.dropFrame_stays.up ?_).after ?_
    | refine (State.park_stays.up ?_).after ?_
    | refine (State.rxPacket_stays.up ?_).after ?_
    | refine ite_stays ?_ ?_
    | fail_if_no_progress (with_reducible refine (Stays.upd ?_).after ?_; with_reducible exact Eq.refl (α := State) _))

theorem execRdmaSend_keeps {p : RdmaPkt} {s : State} :
    Keeps { ev := true, mem := true, mc := true, hem := true, nvme := true, head := true, front := true, rdma := true, repl := true, out := true } s (execRdmaSend p s) := by
  unfold execRdmaSend
  with_reducible repeat' (first
    | exact Stays.rfl
    | exact Eq.refl (α := Mask) _
    | refine onlyIf_keeps ?_
    | refine (State.rxArrive_stays.up ?_).after ?_)

theorem execRdmaWrite_keeps {p : RdmaPkt} {addr len : Nat} {s : State} :
    Keeps { ev := true, mem := true, mc := true, hem := true, nvme := true, head := true, front := true, rdma := true, repl := true, out := true } s (execRdmaWrite p addr len s) := by
  unfold execRdmaWrite
  with_reducible repeat' (first
    | exact Stays.rfl
    | exact Eq.refl (α := Mask) _
    | refine onlyIf_keeps ?_
    | refine (State.rxArrive_stays.up ?_).after ?_)

theorem State.unpark_stays {s : State} {x : Parked} :
    Stays { ev := true, mem := true, mc := true, hem := true, nvme := true, head := true, front := true, rdma := true, repl := true, out := true } s (State.unpark s x) := by
  unfold State.unpark
  with_reducible repeat' (first
    | exact Stays.rfl
    | exact Eq.refl (α := Mask) _
    | refine (State.emit_stays.up ?_).after ?_
    | refine (State.rxPacket_stays.up ?_).after ?_
    | refine (State.setFront_stays.up ?_).after ?_
    | refine ite_stays ?_ ?_)

theorem execRdmaContextFetchDone_keeps {qpn : Nat} {s : State} :
    Keeps { ev := true, mem := true, mc := true, hem := true, nvme := true, head := true, front := true, rdma := true, repl := true, out := true } s (execRdmaContextFetchDone qpn s) := by
  unfold execRdmaContextFetchDone
  with_reducible repeat' (first
    | exact Stays.rfl
    | exact Eq.refl (α := Mask) _
    | refine onlyIf_keeps ?_
    | refine (State.unpark_stays.up ?_).after ?_
    | refine (foldl_stays ?_).after ?_
    | fail_if_no_progress (with_reducible refine (Stays.upd ?_).after ?_; with_reducible exact Eq.refl (α := State) _)
    | intro _ _)

theorem State.wordOp_stays {m : Mask} {s : State} {p : RdmaPkt} {key aligned : Bool} {f : State → State} (hm : Mask.or { ev := true, nvme := true, head := true, front := true, rdma := true, repl := true, out := true } m = m) (hf : ∀ a0, Stays m a0 (f a0)) :
    Stays m s (State.wordOp s p key aligned f) := by
  unfold State.wordOp
  with_reducible repeat' (first
    | exact Stays.rfl
    | exact Mask.or_trans (Eq.refl _) hm
    | exact hf ..
    | refine (State.dropFrame_stays.up ?_).after ?_
    | refine (State.emit_stays.up ?_).after ?_
    | refine (State.inOrder_stays ?_ ?_).after ?_
    | refine (State.nakInvalid_stays.up ?_).after ?_
    | refine (State.qpError_stays.up ?_).after ?_
    | refine ite_stays ?_ ?_
    | intro _
    | (conv => arg 3; zeta); split)

theorem execRdmaRead_keeps {p : RdmaPkt} {key : Bool} {off len : Nat} {s : State} :
    Keeps { ev := true, nvme := true, head := true, front := true, rdma := true, repl := true, out := true } s (execRdmaRead p key off len s) := by
  unfold execRdmaRead
  with_reducible repeat' (first
    | exact Stays.rfl
    | exact Eq.refl (α := Mask) _
    | refine onlyIf_keeps ?_
    | refine (State.emit_stays.up ?_).after ?_
    | refine (State.wordOp_stays ?_ ?_).after ?_
    | intro _)

theorem State.putWord_stays {s : State} {p : RdmaPkt} {new : Nat} :
    Stays { repl := true, out := true } s (State.putWord s p new) := by
  unfold State.putWord
  with_reducible repeat' (first
    | exact Stays.rfl
    | exact Eq.refl (α := Mask) _
    | refine (State.emit_stays.up ?_).after ?_
    | fail_if_no_progress (with_reducible refine (Stays.upd ?_).after ?_; with_reducible exact Eq.refl (α := State) _))

theorem execRdmaFetchAndAdd_keeps {p : RdmaPkt} {key : Bool} {addr add : Nat} {s : State} :
    Keeps { ev := true, nvme := true, head := true, front := true, rdma := true, repl := true, out := true } s (execRdmaFetchAndAdd p key addr add s) := by
  unfold execRdmaFetchAndAdd
  with_reducible repeat' (first
    | exact Stays.rfl
    | exact Eq.refl (α := Mask) _
    | refine onlyIf_keeps ?_
    | refine (State.putWord_stays.up ?_).after ?_
    | refine (State.wordOp_stays ?_ ?_).after ?_
    | intro _)

theorem execRdmaCompareAndSwap_keeps {p : RdmaPkt} {key : Bool} {addr cmp swap : Nat} {s : State} :
    Keeps { ev := true, nvme := true, head := true, front := true, rdma := true, repl := true, out := true } s (execRdmaCompareAndSwap p key addr cmp swap s) := by
  unfold execRdmaCompareAndSwap
  with_reducible repeat' (first
    | exact Stays.rfl
    | exact Eq.refl (α := Mask) _
    | refine onlyIf_keeps ?_
    | refine (State.putWord_stays.up ?_).after ?_
    | refine (State.wordOp_stays ?_ ?_).after ?_
    | intro _)

theorem State.ackUpTo_stays {s : State} {n psn : Nat} {credits : Option Nat} :
    Stays { rdma := true } s (State.ackUpTo s n psn credits) := by
  unfold State.ackUpTo
  with_reducible repeat' (first
    | exact Stays.rfl
    | exact Eq.refl (α := Mask) _
    | refine (State.setQp_stays.up ?_).after ?_
    | refine (State.workDone_stays.up ?_).after ?_
    | refine (foldl_stays ?_).after ?_
    | intro _ _
    | (conv => arg 3; zeta); split)

theorem State.goBack_stays {s : State} {n psn : Nat} :
    Stays { ev := true, nvme := true, head := true, rdma := true, repl := true, out := true } s (State.goBack s n psn) := by
  unfold State.goBack
  with_reducible repeat' (first
    | exact Stays.rfl
    | exact Eq.refl (α := Mask) _
    | refine (State.qpError_stays.up ?_).after ?_
    | refine (State.sendPkts_stays.up ?_).after ?_
    | refine (State.setQp_stays.up ?_).after ?_
    | refine (foldl_stays ?_).after ?_
    | refine ite_stays ?_ ?_
    | intro _ _
    | (conv => arg 3; zeta); split)

theorem execRdmaNak_keeps {qpn : Nat} {psn : Fin 16777216} {kind : Fin 4} {s : State} :
    Keeps { ev := true, nvme := true, head := true, rdma := true, repl := true, out := true } s (execRdmaNak qpn psn kind s) := by
  unfold execRdmaNak
  with_reducible repeat' (first
    | exact Stays.rfl
    | exact Eq.refl (α := Mask) _
    | refine onlyIf_keeps ?_
    | refine (State.ackUpTo_stays.up ?_).after ?_
    | refine (State.goBack_stays.up ?_).after ?_
    | refine (State.qpError_stays.up ?_).after ?_
    | refine ite_stays ?_ ?_)

theorem execRdmaAckTimeout_keeps {qpn : Nat} {s : State} :
    Keeps { ev := true, nvme := true, head := true, rdma := true, repl := true, out := true } s (execRdmaAckTimeout qpn s) := by
  unfold execRdmaAckTimeout
  with_reducible repeat' (first
    | exact Stays.rfl
    | exact Eq.refl (α := Mask) _
    | refine keeps_next ?_
    | refine (State.goBack_stays.up ?_).after ?_
    | refine ite_stays ?_ ?_
    | split)

theorem execRdmaCnp_keeps {qpn : Nat} {s : State} :
    Keeps { rdma := true } s (execRdmaCnp qpn s) := by
  unfold execRdmaCnp
  with_reducible repeat' (first
    | exact Stays.rfl
    | exact Eq.refl (α := Mask) _
    | refine keeps_next ?_
    | refine (State.setQp_stays.up ?_).after ?_
    | refine ite_stays ?_ ?_
    | split)

theorem execRdmaRateRestore_keeps {qpn : Nat} {s : State} :
    Keeps { rdma := true } s (execRdmaRateRestore qpn s) := by
  unfold execRdmaRateRestore
  with_reducible repeat' (first
    | exact Stays.rfl
    | exact Eq.refl (α := Mask) _
    | refine keeps_next ?_
    | refine (State.setQp_stays.up ?_).after ?_
    | refine ite_stays ?_ ?_
    | split)

theorem execSprayHoleTimeout_keeps {qpn : Nat} {psn : Fin 16777216} {s : State} :
    Keeps { rdma := true, out := true } s (execSprayHoleTimeout qpn psn s) := by
  unfold execSprayHoleTimeout
  with_reducible repeat' (first
    | exact Stays.rfl
    | exact Eq.refl (α := Mask) _
    | refine keeps_next ?_
    | refine (State.emit_stays.up ?_).after ?_
    | refine (State.setQp_stays.up ?_).after ?_
    | refine ite_stays ?_ ?_
    | split)

theorem execRdmaDeviceFatal_keeps {s : State} :
    Keeps { ev := true, nvme := true, seam := true, head := true, rdma := true, repl := true, out := true } s (execRdmaDeviceFatal s) := by
  unfold execRdmaDeviceFatal
  with_reducible repeat' (first
    | exact Stays.rfl
    | exact Eq.refl (α := Mask) _
    | refine onlyIf_keeps ?_
    | refine (State.alarm_stays.up ?_).after ?_
    | refine (State.anaUpdate_stays.up ?_).after ?_
    | refine (State.qpError_stays.up ?_).after ?_
    | refine (State.standDown_stays.up ?_).after ?_
    | refine (foldl_stays ?_).after ?_
    | fail_if_no_progress (with_reducible refine (Stays.upd ?_).after ?_; with_reducible exact Eq.refl (α := State) _)
    | intro _ _)

theorem State.rdmaBoundary_stays {s : State} :
    Stays { ev := true, nvme := true, head := true, front := true, rdma := true, repl := true, out := true } s (State.rdmaBoundary s) := by
  unfold State.rdmaBoundary
  repeat' (first
    | with_reducible exact Stays.rfl
    | with_reducible exact Eq.refl (α := Mask) _
    | (intro h; exact h)
    | exact List.length_map _
    | with_reducible exact Eq.refl (α := State) _
    | with_reducible rfl
    | with_reducible refine (State.qpError_stays.up ?_).after ?_
    | with_reducible refine (foldl_stays ?_).after ?_
    | fail_if_no_progress (with_reducible refine (Stays.upd ?_).after ?_; with_reducible exact Eq.refl (α := State) _)
    | with_reducible refine (Stays.all ?_ ?_ ?_ ?_ ?_ ?_ ?_ ?_).after ?_
    | intro _ _)

end Sys2Proof.Machine
end

