-- ==== Sys2Proof/Laws/StaysReset.lean ====
section
/-! SUPPORT. The operations of Machine/Reset.lean keep the fixed part and the form of the tables. -/

namespace Sys2Proof.Machine

theorem State.setClock_stays {s : State} {c : Nat} {b : Bool} : Stays { pins := true } s { s with pins := s.pins.setClock c b } := by
  unfold Pins.setClock
  split
  · exact Stays.pins (Eq.refl _)
  · split
    · exact Stays.pins (Eq.refl _)
    · split <;> exact Stays.pins (Eq.refl _)

theorem State.plbDiscard_stays {s : State} :
    Stays { sh := true } s (State.plbDiscard s) := by
  unfold State.plbDiscard
  with_reducible repeat' (first
    | exact Stays.rfl
    | fail_if_no_progress (with_reducible refine (Stays.upd ?_).after ?_; with_reducible exact Eq.refl (α := State) _))

theorem State.dumpEnd_stays {s : State} :
    Stays { ev := true, nvme := true, sh := true, keep := true, out := true } s (State.dumpEnd s) := by
  unfold State.dumpEnd
  with_reducible repeat' (first
    | exact Stays.rfl
    | exact Eq.refl (α := Mask) _
    | refine (State.event_stays.up ?_).after ?_
    | refine (State.ftlRec_stays.up ?_).after ?_
    | fail_if_no_progress (with_reducible refine (Stays.upd ?_).after ?_; with_reducible exact Eq.refl (α := State) _))

theorem State.dumpBegin_stays {s : State} :
    Stays { sh := true } s (State.dumpBegin s) := by
  unfold State.dumpBegin
  with_reducible repeat' (first
    | exact Stays.rfl
    | refine ite_stays ?_ ?_
    | fail_if_no_progress (with_reducible refine (Stays.upd ?_).after ?_; with_reducible exact Eq.refl (α := State) _)
    | (conv => arg 3; zeta); split)

theorem State.hemSettle_stays {s : State} :
    Stays { hem := true, head := true } s (State.hemSettle s) := by
  unfold State.hemSettle
  with_reducible repeat' (first
    | exact Stays.rfl
    | exact Eq.refl (α := Mask) _
    | intro _
    | fail_if_no_progress (with_reducible refine (Stays.upd ?_).after ?_; with_reducible exact Eq.refl (α := State) _))

theorem State.cutRec_stays {m : Mask} {s : State} {open' : Bool} {drop torn : State → State} (hm : Mask.or { free := true } m = m)
    (hf : ∀ a0, Stays m a0 (drop a0)) (ht : ∀ a0, Stays m a0 (torn a0)) :
    Stays m s (State.cutRec s open' drop torn) := by
  unfold State.cutRec
  have h : Stays m s s.takeFree.2 := State.takeFree_stays.up (Mask.or_trans (Eq.refl _) hm)
  exact ite_stays Stays.rfl (ite_stays ((hf _).after h) (ite_stays ((ht _).after h) h))

theorem State.noteTorn_stays {s : State} {rs : List HemRec} :
    Stays { hem := true } s (State.noteTorn s rs) := by
  unfold State.noteTorn
  with_reducible repeat' (first
    | exact Stays.rfl
    | exact Eq.refl (α := Mask) _
    | fail_if_no_progress (with_reducible refine (Stays.upd ?_).after ?_; with_reducible exact Eq.refl (α := State) _))

theorem State.cutLoose_stays {s : State} :
    Stays { hem := true, keep := true, free := true } s (State.cutLoose s) := by
  unfold State.cutLoose
  with_reducible repeat' (first
    | exact Stays.rfl
    | refine (State.dropRec_stays.up ?_).after ?_
    | refine (State.noteTorn_stays.up ?_).after ?_
    | fail_if_no_progress (with_reducible refine (Stays.upd ?_).after ?_; with_reducible exact Eq.refl (α := State) _)
    | exact Eq.refl (α := Mask) _
    | refine (State.cutRec_stays ?_ ?_ ?_).after ?_
    | refine (State.dropCkpt.up ?_).after ?_
    | refine (foldl_stays ?_).after ?_
    | refine (foldl2_stays ?_).after ?_
    | intro _ _
    | intro _
    | fail_if_no_progress (with_reducible refine (Stays.upd ?_).after ?_; with_reducible exact Eq.refl (α := State) _)
    | (conv => arg 3; zeta); split
    | split)

theorem State.hemCut_stays {s : State} :
    Stays { hem := true, keep := true, free := true } s (State.hemCut s) := by
  unfold State.hemCut
  with_reducible repeat' (first
    | exact Stays.rfl
    | exact Eq.refl (α := Mask) _
    | refine (State.setRingHem_stays.up ?_).after ?_
    | refine (State.cutRec_stays ?_ ?_ ?_).after ?_
    | refine (State.noteTorn_stays.up ?_).after ?_
    | refine (State.cutLoose_stays.up ?_).after ?_
    | refine (foldl_stays ?_).after ?_
    | refine (foldl2_stays ?_).after ?_
    | intro _ _
    | intro _
    | fail_if_no_progress (with_reducible refine (Stays.upd ?_).after ?_; with_reducible exact Eq.refl (α := State) _))

theorem State.pfActions_stays {s : State} :
    Stays { ev := true, eng := true, mem := true, ring := true, mc := true, hem := true, nvme := true, head := true, flash := true, sh := true, free := true, out := true } s (State.pfActions s) := by
  unfold State.pfActions
  refine ite_stays ?_ ?_
  · with_reducible repeat' (first
      | exact Stays.rfl
      | exact Eq.refl (α := Mask) _
      | refine (State.dumpBegin_stays.up ?_).after ?_
      | refine (State.flashPowerFail_stays.up ?_).after ?_
      | refine (State.plbDiscard_stays.up ?_).after ?_)
  · refine (State.hemSettle_stays.up (Eq.refl _)).after ?_
    exact Stays.all (List.length_map _) rfl rfl id id id id (by with_reducible exact Eq.refl _)

theorem State.pfAssert_stays {s : State} :
    Stays { ev := true, power := true, eng := true, mem := true, ring := true, mc := true, hem := true, nvme := true, head := true, flash := true, sh := true, free := true, out := true } s (State.pfAssert s) := by
  unfold State.pfAssert
  with_reducible repeat' (first
    | exact Stays.rfl
    | exact Eq.refl (α := Mask) _
    | refine (State.event_stays.up ?_).after ?_
    | refine (State.pfActions_stays.up ?_).after ?_
    | refine ite_stays ?_ ?_
    | fail_if_no_progress (with_reducible refine (Stays.upd ?_).after ?_; with_reducible exact Eq.refl (α := State) _))

theorem execPowerFailNAssert_keeps {s : State} :
    Keeps { ev := true, power := true, eng := true, mem := true, ring := true, mc := true, hem := true, nvme := true, head := true, flash := true, sh := true, free := true, out := true } s (execPowerFailNAssert s) := by
  unfold execPowerFailNAssert
  with_reducible repeat' (first
    | exact Stays.rfl
    | exact Eq.refl (α := Mask) _
    | refine onlyIf_keeps ?_
    | refine (State.pfAssert_stays.up ?_).after ?_)

theorem execDumpDone_keeps {s : State} :
    Keeps { ev := true, nvme := true, sh := true, keep := true, out := true } s (execDumpDone s) := by
  unfold execDumpDone
  with_reducible repeat' (first
    | exact Stays.rfl
    | exact Eq.refl (α := Mask) _
    | refine onlyIf_keeps ?_
    | refine (State.dumpEnd_stays.up ?_).after ?_)

theorem execHoldupMet_keeps {s : State} :
    Keeps { hem := true } s (execHoldupMet s) := by
  unfold execHoldupMet
  with_reducible repeat' (first
    | exact Stays.rfl
    | refine onlyIf_keeps ?_
    | fail_if_no_progress (with_reducible refine (Stays.upd ?_).after ?_; with_reducible exact Eq.refl (α := State) _))

theorem execPowerFailNRelease_keeps {s : State} :
    Keeps { ev := true, power := true, eng := true, mem := true, ring := true, mc := true, hem := true, nvme := true, port := true, head := true, flash := true, free := true, out := true } s (execPowerFailNRelease s) := by
  unfold execPowerFailNRelease
  repeat' (first
    | with_reducible exact Stays.rfl
    | with_reducible exact Eq.refl (α := Mask) _
    | (intro h; exact h)
    | exact List.length_map _
    | with_reducible exact Eq.refl (α := State) _
    | with_reducible rfl
    | with_reducible refine onlyIf_keeps ?_
    | with_reducible refine (State.drainAll_stays.up ?_).after ?_
    | with_reducible refine (State.event_stays.up ?_).after ?_
    | with_reducible refine (State.flashPowerBack_stays.up ?_).after ?_
    | with_reducible refine (State.kickAll_stays.up ?_).after ?_
    | with_reducible refine (State.pump_stays.up ?_).after ?_
    | with_reducible refine ite_stays ?_ ?_
    | fail_if_no_progress (with_reducible refine (Stays.upd ?_).after ?_; with_reducible exact Eq.refl (α := State) _)
    | with_reducible refine (Stays.all ?_ ?_ ?_ ?_ ?_ ?_ ?_ ?_).after ?_)

theorem execRailFault_keeps {r : Fin 11} {mv : Nat} {s : State} :
    Keeps { ev := true, power := true, eng := true, mem := true, ring := true, mc := true, hem := true, nvme := true, head := true, flash := true, sh := true, free := true, out := true } s (execRailFault r mv s) := by
  unfold execRailFault
  with_reducible repeat' (first
    | exact Stays.rfl
    | exact Eq.refl (α := Mask) _
    | refine onlyIf_keeps ?_
    | refine (State.pfAssert_stays.up ?_).after ?_
    | refine (State.railOut_stays.up ?_).after ?_
    | refine ite_stays ?_ ?_)

theorem State.cutProgram_stays {s : State} {x : FlReq} :
    Stays { flash := true, free := true } s (State.cutProgram s x) := by
  unfold State.cutProgram
  with_reducible repeat' (first
    | exact Stays.rfl
    | exact Eq.refl (α := Mask) _
    | refine (freePages_stays.up ?_).after ?_
    | fail_if_no_progress (with_reducible refine (Stays.upd ?_).after ?_; with_reducible exact Eq.refl (α := State) _))

theorem State.endPrograms_stays {s : State} {cut : Bool} :
    Stays { flash := true, free := true } s (State.endPrograms s cut) := by
  unfold State.endPrograms
  with_reducible repeat' (first
    | exact Stays.rfl
    | exact Eq.refl (α := Mask) _
    | refine (State.cutProgram_stays.up ?_).after ?_
    | refine (foldl_stays ?_).after ?_
    | refine ite_stays ?_ ?_
    | fail_if_no_progress (with_reducible refine (Stays.upd ?_).after ?_; with_reducible exact Eq.refl (α := State) _)
    | intro _ _
    | (conv => arg 3; zeta); split)

theorem State.cutCommit_stays {s : State} :
    Stays { nor := true, free := true } s (State.cutCommit s) := by
  unfold State.cutCommit
  split
  · exact Stays.rfl
  · refine Stays.after ?_ (State.takeFree_stays.up (Eq.refl _))
    exact Stays.all (rfl) (rfl) (rfl) (fun h => writeCopy_wf h) (id) (id) (id) (by with_reducible exact Eq.refl _)

theorem State.cold_stays {s : State} :
    Stays { boot := true, ledger := true, params := true, time := true, ev := true, mgmt := true, jtag := true, power := true, eng := true, mem := true, ring := true, mc := true, hem := true, nvme := true, seam := true, digest := true, cam := true, press := true, cipher := true, parity := true, port := true, head := true, front := true, rdma := true, repl := true, flash := true, sh := true } s (State.cold s) := by
  unfold State.cold
  exact ⟨Eq.refl _, Eq.refl _, fun w => ⟨List.length_replicate, List.length_replicate, List.length_replicate, w.nor, Eq.refl _, Eq.refl _, w.raw⟩⟩

theorem State.warm_stays {s : State} :
    Stays { boot := true, ledger := true, params := true, time := true, ev := true, mgmt := true, jtag := true, power := true, eng := true, mem := true, ring := true, mc := true, hem := true, nvme := true, seam := true, digest := true, cam := true, press := true, cipher := true, parity := true, port := true, head := true, front := true, rdma := true, repl := true, flash := true, sh := true } s (State.warm s) := by
  unfold State.warm
  exact ⟨Eq.refl _, Eq.refl _, fun w => ⟨List.length_replicate, (List.length_map _).trans w.port, List.length_replicate, w.nor, Eq.refl _, Eq.refl _, w.raw⟩⟩

theorem State.beforeReset_stays {s : State} :
    Stays { ev := true, eng := true, mem := true, ring := true, mc := true, hem := true, nvme := true, head := true, flash := true, sh := true, keep := true, free := true, out := true } s (State.beforeReset s) := by
  unfold State.beforeReset
  with_reducible repeat' (first
    | exact Stays.rfl
    | exact Eq.refl (α := Mask) _
    | refine (State.dumpEnd_stays.up ?_).after ?_
    | refine (State.pfActions_stays.up ?_).after ?_
    | refine (State.endPrograms_stays.up ?_).after ?_
    | refine ite_stays ?_ ?_
    | fail_if_no_progress (with_reducible refine (Stays.upd ?_).after ?_; with_reducible exact Eq.refl (α := State) _))

theorem State.restart_stays {s : State} {cause : Nat} :
    Stays { nor := true, boot := true, ledger := true, params := true, time := true, ev := true, mgmt := true, jtag := true, power := true, eng := true, mem := true, ring := true, mc := true, hem := true, nvme := true, seam := true, digest := true, cam := true, press := true, cipher := true, parity := true, port := true, head := true, front := true, rdma := true, repl := true, flash := true, sh := true, keep := true, free := true, out := true } s (State.restart s cause) := by
  unfold State.restart
  with_reducible repeat' (first
    | exact Stays.rfl
    | refine (State.writeShard_stays.up ?_).after ?_
    | refine ite_stays ?_ ?_
    | exact Eq.refl (α := Mask) _
    | refine (State.beforeReset_stays.up ?_).after ?_
    | refine (State.cutCommit_stays.up ?_).after ?_
    | refine (State.warm_stays.up ?_).after ?_
    | fail_if_no_progress (with_reducible refine (Stays.upd ?_).after ?_; with_reducible exact Eq.refl (α := State) _))

theorem State.assertReset_stays {s : State} {railsGood : Bool} :
    Stays { nor := true, ev := true, eng := true, mem := true, ring := true, mc := true, hem := true, nvme := true, head := true, flash := true, sh := true, keep := true, free := true, out := true } s (State.assertReset s railsGood) := by
  unfold State.assertReset
  with_reducible repeat' (first
    | exact Stays.rfl
    | refine (State.hemCut_stays.up ?_).after ?_
    | exact Eq.refl (α := Mask) _
    | refine (State.beforeReset_stays.up ?_).after ?_
    | refine (State.cutCommit_stays.up ?_).after ?_
    | refine (State.endPrograms_stays.up ?_).after ?_
    | refine ite_stays ?_ ?_)

theorem execPorNAssert_keeps {railsGood : Bool} {s : State} :
    Keeps { pins := true, nor := true, boot := true, ledger := true, params := true, time := true, ev := true, mgmt := true, jtag := true, power := true, eng := true, mem := true, ring := true, mc := true, hem := true, nvme := true, seam := true, digest := true, cam := true, press := true, cipher := true, parity := true, port := true, head := true, front := true, rdma := true, repl := true, flash := true, sh := true, keep := true, free := true, out := true } s (execPorNAssert railsGood s) := by
  unfold execPorNAssert
  with_reducible repeat' (first
    | exact Stays.rfl
    | exact Eq.refl (α := Mask) _
    | refine onlyIf_keeps ?_
    | refine (State.assertReset_stays.up ?_).after ?_
    | refine (State.cold_stays.up ?_).after ?_
    | fail_if_no_progress (with_reducible refine (Stays.pins ?_).after ?_; with_reducible exact Eq.refl (α := State) _)
    | refine ite_stays ?_ ?_)

theorem execWarmRstNAssert_keeps {railsGood : Bool} {s : State} :
    Keeps { pins := true, nor := true, boot := true, ledger := true, params := true, time := true, ev := true, mgmt := true, jtag := true, power := true, eng := true, mem := true, ring := true, mc := true, hem := true, nvme := true, seam := true, digest := true, cam := true, press := true, cipher := true, parity := true, port := true, head := true, front := true, rdma := true, repl := true, flash := true, sh := true, keep := true, free := true, out := true } s (execWarmRstNAssert railsGood s) := by
  unfold execWarmRstNAssert
  with_reducible repeat' (first
    | exact Stays.rfl
    | exact Eq.refl (α := Mask) _
    | refine onlyIf_keeps ?_
    | refine (State.assertReset_stays.up ?_).after ?_
    | refine (State.warm_stays.up ?_).after ?_
    | fail_if_no_progress (with_reducible refine (Stays.pins ?_).after ?_; with_reducible exact Eq.refl (α := State) _)
    | refine ite_stays ?_ ?_)

theorem execWarmRstNRelease_keeps {s : State} :
    Keeps { pins := true, power := true } s (execWarmRstNRelease s) := by
  unfold execWarmRstNRelease
  with_reducible repeat' (first
    | exact Stays.rfl
    | refine onlyIf_keeps ?_
    | fail_if_no_progress (with_reducible refine (Stays.pins ?_).after ?_; with_reducible exact Eq.refl (α := State) _))

theorem execReadyWatchdogExpiry_keeps {s : State} :
    Keeps { nor := true, boot := true, ledger := true, params := true, time := true, ev := true, mgmt := true, jtag := true, power := true, eng := true, mem := true, ring := true, mc := true, hem := true, nvme := true, seam := true, digest := true, cam := true, press := true, cipher := true, parity := true, port := true, head := true, front := true, rdma := true, repl := true, flash := true, sh := true, keep := true, free := true, out := true } s (execReadyWatchdogExpiry s) := by
  unfold execReadyWatchdogExpiry
  with_reducible repeat' (first
    | exact Stays.rfl
    | exact Eq.refl (α := Mask) _
    | refine onlyIf_keeps ?_
    | refine (State.restart_stays.up ?_).after ?_)

theorem execMgmtRestart_keeps {tag : Byte} {s : State} :
    Keeps { nor := true, boot := true, ledger := true, params := true, time := true, ev := true, mgmt := true, jtag := true, power := true, eng := true, mem := true, ring := true, mc := true, hem := true, nvme := true, seam := true, digest := true, cam := true, press := true, cipher := true, parity := true, port := true, head := true, front := true, rdma := true, repl := true, flash := true, sh := true, keep := true, free := true, out := true } s (execMgmtRestart tag s) := by
  unfold execMgmtRestart
  with_reducible repeat' (first
    | exact Stays.rfl
    | exact Eq.refl (α := Mask) _
    | refine State.mgmtCmd_keeps ?_ ?_
    | refine (State.respond_stays.up ?_).after ?_
    | refine (State.restart_stays.up ?_).after ?_
    | refine ite_stays ?_ ?_
    | intro _)

theorem execNssrWrite_keeps {cntlid : Nat} {s : State} :
    Keeps { nor := true, boot := true, ledger := true, params := true, time := true, ev := true, mgmt := true, jtag := true, power := true, eng := true, mem := true, ring := true, mc := true, hem := true, nvme := true, seam := true, digest := true, cam := true, press := true, cipher := true, parity := true, port := true, head := true, front := true, rdma := true, repl := true, flash := true, sh := true, keep := true, free := true, out := true } s (execNssrWrite cntlid s) := by
  unfold execNssrWrite
  with_reducible repeat' (first
    | exact Stays.rfl
    | exact Eq.refl (α := Mask) _
    | refine onlyIf_keeps ?_
    | refine (State.event_stays.up ?_).after ?_
    | refine (State.restart_stays.up ?_).after ?_
    | refine (State.setCtrl_stays.up ?_).after ?_
    | refine ite_stays ?_ ?_)

theorem State.dieDown_stays {s : State} {d : Nat} :
    Stays { ev := true, ring := true, nvme := true, seam := true, port := true, head := true, front := true, rdma := true, out := true } s (State.dieDown s d) := by
  unfold State.dieDown
  with_reducible repeat' (first
    | exact Stays.rfl
    | exact Eq.refl (α := Mask) _
    | refine (State.alarm_stays.up ?_).after ?_
    | refine (State.frontDown_stays.up ?_).after ?_
    | refine (State.portDown_stays.up ?_).after ?_
    | refine (State.setLanes_stays.up ?_).after ?_
    | refine (foldl_stays ?_).after ?_
    | refine ite_stays ?_ ?_
    | fail_if_no_progress (with_reducible refine (Stays.upd ?_).after ?_; with_reducible exact Eq.refl (α := State) _)
    | intro _ _)

theorem execClockInputLoss_keeps {c : Fin 4} {s : State} :
    Keeps { pins := true, ev := true, ring := true, nvme := true, seam := true, port := true, head := true, front := true, rdma := true, out := true } s (execClockInputLoss c s) := by
  unfold execClockInputLoss
  with_reducible repeat' (first
    | exact Stays.rfl
    | exact Eq.refl (α := Mask) _
    | refine onlyIf_keeps ?_
    | refine (State.alarm_stays.up ?_).after ?_
    | refine (State.dieDown_stays.up ?_).after ?_
    | refine (State.setClock_stays.up ?_).after ?_
    | fail_if_no_progress (with_reducible refine (Stays.pins ?_).after ?_; with_reducible exact Eq.refl (α := State) _)
    | refine ite_stays ?_ ?_)

theorem execSysclkReturn_keeps {s : State} :
    Keeps { pins := true, nor := true, boot := true, ledger := true, params := true, time := true, ev := true, mgmt := true, jtag := true, power := true, eng := true, mem := true, ring := true, mc := true, hem := true, nvme := true, seam := true, digest := true, cam := true, press := true, cipher := true, parity := true, port := true, head := true, front := true, rdma := true, repl := true, flash := true, sh := true, free := true } s (execSysclkReturn s) := by
  unfold execSysclkReturn
  with_reducible repeat' (first
    | exact Stays.rfl
    | exact Eq.refl (α := Mask) _
    | refine onlyIf_keeps ?_
    | refine (State.cutCommit_stays.up ?_).after ?_
    | refine (State.endPrograms_stays.up ?_).after ?_
    | refine (State.warm_stays.up ?_).after ?_
    | fail_if_no_progress (with_reducible refine (Stays.pins ?_).after ?_; with_reducible exact Eq.refl (α := State) _))

theorem execClockInputRestored_keeps {c : Fin 4} {s : State} :
    Keeps { pins := true, ev := true, nvme := true, out := true } s (execClockInputRestored c s) := by
  unfold execClockInputRestored
  with_reducible repeat' (first
    | exact Stays.rfl
    | exact Eq.refl (α := Mask) _
    | refine onlyIf_keeps ?_
    | refine (State.clearAlarm_stays.up ?_).after ?_
    | refine (State.setClock_stays.up ?_).after ?_
    | refine ite_stays ?_ ?_)

theorem State.trip_stays {s : State} :
    Stays { pins := true, ev := true, power := true, eng := true, mem := true, ring := true, mc := true, hem := true, nvme := true, head := true, flash := true, sh := true, keep := true, free := true, out := true } s (State.trip s) := by
  unfold State.trip
  with_reducible repeat' (first
    | exact Stays.rfl
    | exact Eq.refl (α := Mask) _
    | refine (State.dumpEnd_stays.up ?_).after ?_
    | refine (State.pfActions_stays.up ?_).after ?_
    | refine (State.endPrograms_stays.up ?_).after ?_
    | refine ite_stays ?_ ?_
    | fail_if_no_progress (with_reducible refine (Stays.pins ?_).after ?_; with_reducible exact Eq.refl (α := State) _))

theorem State.nandRead_stays {s : State} {t : Int} :
    Stays { ev := true, nvme := true, sh := true, out := true } s (State.nandRead s t) := by
  unfold State.nandRead
  with_reducible repeat' (first
    | exact Stays.rfl
    | exact Eq.refl (α := Mask) _
    | refine (State.alarm_stays.up ?_).after ?_
    | refine (State.clearAlarm_stays.up ?_).after ?_
    | refine ite_stays ?_ ?_
    | fail_if_no_progress (with_reducible refine (Stays.upd ?_).after ?_; with_reducible exact Eq.refl (α := State) _))

theorem execHealthSampling_keeps {logic hbm sds : List Int} {nand : Option Int} {s : State} :
    Keeps { pins := true, time := true, ev := true, power := true, eng := true, mem := true, ring := true, mc := true, hem := true, nvme := true, port := true, head := true, flash := true, sh := true, keep := true, free := true, out := true } s (execHealthSampling logic hbm sds nand s) := by
  unfold execHealthSampling
  with_reducible repeat' (first
    | exact Stays.rfl
    | refine keeps_next ?_
    | refine ite_keeps ?_ ?_
    | refine onlyIf_keeps ?_ ?_
    | refine (State.inWindow_stays.up ?_).after ?_
    | refine (foldl2_stays ?_).after ?_
    | intro _
    | fail_if_no_progress (with_reducible refine (Stays.upd ?_).after ?_; with_reducible exact Eq.refl (α := State) _)
    | (conv => arg 3; zeta); split
    | exact Eq.refl (α := Mask) _
    | refine onlyIf_keeps ?_
    | refine (State.nandRead_stays.up ?_).after ?_
    | refine (State.request_stays.up ?_).after ?_
    | refine (State.temps_stays.up ?_).after ?_
    | refine (State.thermalAct_stays.up ?_).after ?_
    | refine (State.toWindow_stays.up ?_).after ?_
    | refine (State.trip_stays.up ?_).after ?_
    | refine (foldl_stays ?_).after ?_
    | refine ite_stays ?_ ?_
    | split
    | intro _ _)

end Sys2Proof.Machine
end

