-- ==== Sys2Proof/Laws/StaysStart.lean ====
section
/-! SUPPORT. The operations of Machine/Start.lean keep the fixed part and the form of the tables. -/

namespace Sys2Proof.Machine

theorem State.applyKat_stays {s : State} {k : KatResult} :
    Stays { ev := true, nvme := true, digest := true, press := true, cipher := true, parity := true, out := true } s (State.applyKat s k) := by
  unfold State.applyKat
  with_reducible repeat' (first
    | exact Stays.rfl
    | exact Eq.refl (α := Mask) _
    | refine (State.alarm_stays.up ?_).after ?_
    | refine (foldl_stays ?_).after ?_
    | refine ite_stays ?_ ?_
    | fail_if_no_progress (with_reducible refine (Stays.upd ?_).after ?_; with_reducible exact Eq.refl (α := State) _)
    | intro _ _)

theorem State.loadKek_stays {s : State} {e : Nat × Nat × Nat × Bytes} {key : Bytes} :
    Stays { cipher := true } s (State.loadKek s e key) := by
  unfold State.loadKek
  with_reducible repeat' (first
    | exact Stays.rfl
    | exact Eq.refl (α := Mask) _
    | refine (State.setKeySlot_stays.up ?_).after ?_
    | refine ite_stays ?_ ?_
    | fail_if_no_progress (with_reducible refine (Stays.upd ?_).after ?_; with_reducible exact Eq.refl (α := State) _))

theorem State.envelopes_stays {s : State} :
    Stays { boot := true, ev := true, nvme := true, cipher := true, out := true } s (State.envelopes s) := by
  unfold State.envelopes
  with_reducible repeat' (first
    | exact Stays.rfl
    | exact Eq.refl (α := Mask) _
    | refine (State.alarm_stays.up ?_).after ?_
    | refine (State.keysReset_stays.up ?_).after ?_
    | refine (State.loadKek_stays.up ?_).after ?_
    | refine (foldl_stays ?_).after ?_
    | refine ite_stays ?_ ?_
    | fail_if_no_progress (with_reducible refine (Stays.upd ?_).after ?_; with_reducible exact Eq.refl (α := State) _)
    | intro _ _
    | (conv => arg 3; zeta); split)

theorem State.idleDomains_stays {s : State} :
    Stays { ev := true, power := true, eng := true, mem := true, ring := true, mc := true, hem := true, nvme := true, press := true, cipher := true, free := true, out := true } s (State.idleDomains s) := by
  unfold State.idleDomains
  with_reducible repeat' (first
    | exact Stays.rfl
    | refine (foldl2_stays ?_).after ?_
    | intro _
    | exact Eq.refl (α := Mask) _
    | refine (State.switchOff_stays.up ?_).after ?_
    | refine (foldl_stays ?_).after ?_
    | refine ite_stays ?_ ?_
    | intro _ _)

theorem State.holdupAct_stays {s : State} :
    Stays { ev := true, power := true, nvme := true, out := true } s (State.holdupAct s) := by
  unfold State.holdupAct
  with_reducible repeat' (first
    | exact Stays.rfl
    | exact Eq.refl (α := Mask) _
    | refine (State.alarm_stays.up ?_).after ?_
    | refine ite_stays ?_ ?_
    | fail_if_no_progress (with_reducible refine (Stays.upd ?_).after ?_; with_reducible exact Eq.refl (α := State) _))

theorem State.schemaFail_stays {s : State} :
    Stays { nor := true, boot := true, ledger := true, params := true, time := true, ev := true, mgmt := true, jtag := true, power := true, eng := true, mem := true, ring := true, mc := true, hem := true, nvme := true, seam := true, digest := true, cam := true, press := true, cipher := true, parity := true, port := true, head := true, front := true, rdma := true, repl := true, flash := true, sh := true, keep := true, free := true, out := true } s (State.schemaFail s) := by
  unfold State.schemaFail
  with_reducible repeat' (first
    | exact Stays.rfl
    | exact Eq.refl (α := Mask) _
    | refine (State.bcrWrite_stays.up ?_).after ?_
    | refine (State.restart_stays.up ?_).after ?_)

theorem execBootFirmware_keeps {k : KatResult} {s : State} :
    Keeps { nor := true, boot := true, ledger := true, params := true, time := true, ev := true, mgmt := true, jtag := true, power := true, eng := true, mem := true, ring := true, mc := true, hem := true, nvme := true, seam := true, digest := true, cam := true, press := true, cipher := true, parity := true, port := true, head := true, front := true, rdma := true, repl := true, flash := true, sh := true, keep := true, free := true, out := true } s (execBootFirmware k s) := by
  unfold execBootFirmware
  refine onlyIf_keeps ?_
  split
  · exact State.schemaFail_stays.up (Eq.refl _)
  · refine (State.toStage_stays.up (Eq.refl _)).after ?_
    refine ite_stays ((State.setRegions_stays.up (Eq.refl _)).after ((State.envelopes_stays.up (Eq.refl _)).after ?_)) ?_
    all_goals
      refine (State.applyKat_stays.up (Eq.refl _)).after ((State.idleDomains_stays.up (Eq.refl _)).after ((State.setVcore_stays.up (Eq.refl _)).after ((State.holdupAct_stays.up (Eq.refl _)).after ?_)))
      exact Stays.all (List.length_map _) (rfl) (rfl) (id) (id) (id) (id) (by with_reducible exact Eq.refl _)

theorem State.trainChan_stays {s : State} {c passed : Nat} {dies : List DieFound} :
    Stays { ev := true, nvme := true, flash := true, out := true } s (State.trainChan s c passed dies) := by
  unfold State.trainChan
  with_reducible repeat' (first
    | exact Stays.rfl
    | exact Eq.refl (α := Mask) _
    | refine (State.alarm_stays.up ?_).after ?_
    | refine (State.setChan_stays.up ?_).after ?_
    | refine ite_stays ?_ ?_)

theorem State.enumerate_stays {s : State} {f : LinksFound} :
    Stays { boot := true, ev := true, nvme := true, flash := true, out := true } s (State.enumerate s f) := by
  unfold State.enumerate
  with_reducible repeat' (first
    | exact Stays.rfl
    | exact Eq.refl (α := Mask) _
    | refine (State.alarm_stays.up ?_).after ?_
    | refine (State.trainChan_stays.up ?_).after ?_
    | refine (foldl_stays ?_).after ?_
    | refine ite_stays ?_ ?_
    | fail_if_no_progress (with_reducible refine (Stays.upd ?_).after ?_; with_reducible exact Eq.refl (α := State) _)
    | intro _ _
    | (conv => arg 3; zeta); split)

theorem execBootLinks_keeps {f : LinksFound} {s : State} :
    Keeps { boot := true, ev := true, nvme := true, seam := true, port := true, front := true, flash := true, out := true } s (execBootLinks f s) := by
  unfold execBootLinks
  with_reducible repeat' (first
    | exact Stays.rfl
    | exact Eq.refl (α := Mask) _
    | refine onlyIf_keeps ?_
    | refine (State.enumerate_stays.up ?_).after ?_
    | refine (State.frontUp_stays.up ?_).after ?_
    | refine (State.hpTrained_stays.up ?_).after ?_
    | refine (State.setLanes_stays.up ?_).after ?_
    | refine (State.setPort_stays.up ?_).after ?_
    | refine (State.spokeTrained_stays.up ?_).after ?_
    | refine (State.toStage_stays.up ?_).after ?_
    | refine (foldl_stays ?_).after ?_
    | refine ite_stays ?_ ?_
    | intro _ _)

theorem State.recoverRec_stays {s : State} {r : FtlRec} :
    Stays { sh := true, keep := true } s (State.recoverRec s r) := by
  unfold State.recoverRec
  with_reducible repeat' (first
    | exact Stays.rfl
    | exact Eq.refl (α := Mask) _
    | refine (State.setBlock_stays.up ?_).after ?_
    | fail_if_no_progress (with_reducible refine (Stays.upd ?_).after ?_; with_reducible exact Eq.refl (α := State) _)
    | (conv => arg 3; zeta); split)

theorem State.recoverOpen_stays {s : State} :
    Stays { sh := true } s (State.recoverOpen s) := by
  unfold State.recoverOpen
  with_reducible repeat' (first
    | exact Stays.rfl
    | exact Eq.refl (α := Mask) _
    | refine (State.mapSet_stays.up ?_).after ?_
    | refine (State.setBlock_stays.up ?_).after ?_
    | refine (foldl_stays ?_).after ?_
    | intro _ _)

theorem State.recoverBlocks_stays {s : State} :
    Stays { sh := true } s (State.recoverBlocks s) := by
  unfold State.recoverBlocks
  with_reducible repeat' (first
    | exact Stays.rfl
    | exact Eq.refl (α := Mask) _
    | refine (State.setBlock_stays.up ?_).after ?_
    | refine (foldl_stays ?_).after ?_
    | refine ite_stays ?_ ?_
    | intro _ _)

theorem State.recoverDump_stays {s : State} :
    Stays { ev := true, nvme := true, sh := true, keep := true, out := true } s (State.recoverDump s) := by
  unfold State.recoverDump
  with_reducible repeat' (first
    | exact Stays.rfl
    | exact Eq.refl (α := Mask) _
    | refine (State.alarm_stays.up ?_).after ?_
    | refine (State.event_stays.up ?_).after ?_
    | refine (State.mapSet_stays.up ?_).after ?_
    | refine (foldl_stays ?_).after ?_
    | refine ite_stays ?_ ?_
    | fail_if_no_progress (with_reducible refine (Stays.upd ?_).after ?_; with_reducible exact Eq.refl (α := State) _)
    | intro _ _
    | (conv => arg 3; zeta); split)

theorem State.recoverFlush_stays {s : State} :
    Stays { ev := true, nvme := true, sh := true, keep := true, out := true } s (State.recoverFlush s) := by
  unfold State.recoverFlush
  with_reducible repeat' (first
    | exact Stays.rfl
    | exact Eq.refl (α := Mask) _
    | refine (State.alarm_stays.up ?_).after ?_
    | refine (State.event_stays.up ?_).after ?_
    | refine ite_stays ?_ ?_
    | fail_if_no_progress (with_reducible refine (Stays.upd ?_).after ?_; with_reducible exact Eq.refl (α := State) _))

theorem execBootRecovery_keeps {s : State} :
    Keeps { boot := true, ev := true, nvme := true, sh := true, keep := true, out := true } s (execBootRecovery s) := by
  unfold execBootRecovery
  with_reducible repeat' (first
    | exact Stays.rfl
    | exact Eq.refl (α := Mask) _
    | refine onlyIf_keeps ?_
    | refine (State.alarm_stays.up ?_).after ?_
    | refine (State.recoverBlocks_stays.up ?_).after ?_
    | refine (State.recoverDump_stays.up ?_).after ?_
    | refine (State.recoverFlush_stays.up ?_).after ?_
    | refine (State.recoverOpen_stays.up ?_).after ?_
    | refine (State.recoverRec_stays.up ?_).after ?_
    | refine (State.toStage_stays.up ?_).after ?_
    | refine (foldl_stays ?_).after ?_
    | refine ite_stays ?_ ?_
    | fail_if_no_progress (with_reducible refine (Stays.upd ?_).after ?_; with_reducible exact Eq.refl (α := State) _)
    | intro _ _)

end Sys2Proof.Machine
end

