-- ==== Sys2Proof/Laws/StaysJoin.lean ====
section
/-! SUPPORT. The operations of Machine/Join.lean keep the fixed part and the form of the tables. -/

namespace Sys2Proof.Machine

theorem State.loadBase_stays {s : State} {j : JoinFound} :
    Stays { time := true } s (State.loadBase s j) := by
  unfold State.loadBase
  with_reducible repeat' (first
    | exact Stays.rfl
    | fail_if_no_progress (with_reducible refine (Stays.upd ?_).after ?_; with_reducible exact Eq.refl (α := State) _))

theorem State.setHolds_stays {s : State} {l : List Nat} :
    Stays { boot := true, ev := true, nvme := true, out := true } s (State.setHolds s l) := by
  unfold State.setHolds
  with_reducible repeat' (first
    | exact Stays.rfl
    | exact Eq.refl (α := Mask) _
    | refine (State.alarm_stays.up ?_).after ?_
    | refine (State.clearAlarm_stays.up ?_).after ?_
    | refine (foldl_stays ?_).after ?_
    | refine ite_stays ?_ ?_
    | fail_if_no_progress (with_reducible refine (Stays.upd ?_).after ?_; with_reducible exact Eq.refl (α := State) _)
    | intro _ _)

theorem State.resvHost_stays {s : State} {r : Resv} {key : Nat} :
    Stays { free := true } s (State.resvHost s r key).2 := by
  unfold State.resvHost
  with_reducible repeat' (first
    | exact Stays.rfl
    | exact Eq.refl (α := Mask) _
    | refine (State.takeFree_stays.up ?_).after ?_
    | intro _
    | fail_if_no_progress (with_reducible refine (Stays.upd ?_).after ?_; with_reducible exact Eq.refl (α := State) _)
    | (conv => arg 3; zeta); split
    | split)

theorem State.recoverJRec_stays {s : State} {j : JoinFound} {i n : Nat} {r : JRec} :
    Stays { ev := true, hem := true, nvme := true, port := true, head := true, free := true, out := true } s (State.recoverJRec s j i n r) := by
  unfold State.recoverJRec
  with_reducible repeat' (first
    | exact Stays.rfl
    | fail_if_no_progress (with_reducible refine (Stays.upd ?_).after ?_; with_reducible exact Eq.refl (α := State) _)
    | refine (State.redirect_stays.up ?_).after ?_
    | refine (State.resvHost_stays.up ?_).after ?_
    | refine (State.setNs_stays.up ?_).after ?_
    | fail_if_no_progress (with_reducible refine (Stays.upd ?_).after ?_; with_reducible exact Eq.refl (α := State) _)
    | split
    | exact Eq.refl (α := Mask) _
    | refine (State.applyJRec_stays.up ?_).after ?_
    | refine (State.setMd_stays.up ?_).after ?_
    | refine (State.setStream_stays.up ?_).after ?_
    | (conv => arg 3; zeta); split)

theorem State.decideRecovered_stays {s : State} {j : JoinFound} {i : Nat} :
    Stays { head := true } s (State.decideRecovered s j i) := by
  unfold State.decideRecovered
  with_reducible repeat' (first
    | exact Stays.rfl
    | exact Eq.refl (α := Mask) _
    | refine (State.setStream_stays.up ?_).after ?_
    | intro _
    | fail_if_no_progress (with_reducible refine (Stays.upd ?_).after ?_; with_reducible exact Eq.refl (α := State) _))

theorem State.recoverStream_stays {s : State} {j : JoinFound} {i : Nat} {f : StreamFound} :
    Stays { ev := true, hem := true, nvme := true, port := true, head := true, free := true, out := true } s (State.recoverStream s j i f) := by
  unfold State.recoverStream
  with_reducible repeat' (first
    | exact Stays.rfl
    | exact Eq.refl (α := Mask) _
    | refine (State.setRingHem_stays.up ?_).after ?_
    | refine (State.dropHeaders_stays.up ?_).after ?_
    | refine (State.dropBatches_stays.up ?_).after ?_
    | refine (State.recoverJRec_stays.up ?_).after ?_
    | refine (State.decideRecovered_stays.up ?_).after ?_
    | refine (State.setStream_stays.up ?_).after ?_
    | refine (foldl_stays ?_).after ?_
    | refine (foldl2_stays ?_).after ?_
    | intro _ _
    | intro _
    | refine ite_stays ?_ ?_
    | fail_if_no_progress (with_reducible refine (Stays.upd ?_).after ?_; with_reducible exact Eq.refl (α := State) _)
    | (conv => arg 3; zeta); split
    | split)

theorem State.recoverOpenStripe_stays {s : State} {j : JoinFound} {x : SifRec} :
    Stays { ev := true, hem := true, nvme := true, head := true, out := true } s (State.recoverOpenStripe s j x) := by
  unfold State.recoverOpenStripe
  with_reducible repeat' (first
    | exact Stays.rfl
    | exact Eq.refl (α := Mask) _
    | refine (State.event_stays.up ?_).after ?_
    | refine (State.setMd_stays.up ?_).after ?_
    | refine (State.setWork_stays.up ?_).after ?_
    | refine (State.takeSif_stays.up ?_).after ?_
    | refine (foldl_stays ?_).after ?_
    | refine ite_stays ?_ ?_
    | intro _ _)

theorem State.recoverClosing_stays {s : State} {j : JoinFound} {x : SifRec} :
    Stays { port := true, head := true, out := true } s (State.recoverClosing s j x) := by
  unfold State.recoverClosing
  with_reducible repeat' (first
    | exact Stays.rfl
    | refine (State.setMd_stays.up ?_).after ?_
    | refine (foldl2_stays ?_).after ?_
    | intro _
    | refine ite_stays ?_ ?_
    | fail_if_no_progress (with_reducible refine (Stays.upd ?_).after ?_; with_reducible exact Eq.refl (α := State) _)
    | split
    | exact Eq.refl (α := Mask) _
    | refine (State.sendStrip_stays.up ?_).after ?_
    | refine (foldl_stays ?_).after ?_
    | intro _ _
    | (conv => arg 3; zeta); split)

theorem State.abandonTarget_stays {s : State} {x : SifRec} :
    Stays { hem := true, port := true, head := true, out := true } s (State.abandonTarget s x) := by
  unfold State.abandonTarget
  with_reducible repeat' (first
    | exact Stays.rfl
    | refine (State.abandon_stays.up ?_).after ?_
    | exact Eq.refl (α := Mask) _
    | refine (State.freeSif_stays.up ?_).after ?_
    | refine (State.setMd_stays.up ?_).after ?_
    | refine (State.toShelf_stays.up ?_).after ?_
    | refine (foldl_stays ?_).after ?_
    | intro _ _)

theorem State.recoverStripes_stays {s : State} {j : JoinFound} :
    Stays { ev := true, hem := true, nvme := true, port := true, head := true, out := true } s (State.recoverStripes s j) := by
  unfold State.recoverStripes
  with_reducible repeat' (first
    | exact Stays.rfl
    | exact Eq.refl (α := Mask) _
    | refine (State.abandonTarget_stays.up ?_).after ?_
    | refine (State.recoverClosing_stays.up ?_).after ?_
    | refine (State.recoverOpenStripe_stays.up ?_).after ?_
    | refine (foldl_stays ?_).after ?_
    | refine ite_stays ?_ ?_
    | intro _ _)

theorem State.passRetired_stays {s : State} {i : Nat} {x0 : List (Nat × Bool)} :
    Stays { hem := true, head := true } s (State.passRetired s i x0) := by
  induction x0 generalizing s with
  | nil => exact Stays.rfl
  | cons y ys ih =>
    unfold State.passRetired
    split
    · exact ite_stays ih (ite_stays Stays.rfl (ih.after ((State.setRefold_stays.up rfl).after (State.setMd_stays.up rfl))))
    · exact ih

theorem State.rebuildFromBuffers_stays {s : State} {j : JoinFound} :
    Stays { ev := true, nvme := true, head := true, out := true } s (State.rebuildFromBuffers s j) := by
  unfold State.rebuildFromBuffers
  with_reducible repeat' (first
    | exact Stays.rfl
    | exact Eq.refl (α := Mask) _
    | refine (State.alarm_stays.up ?_).after ?_
    | refine (State.setMd_stays.up ?_).after ?_
    | refine (foldl_stays ?_).after ?_
    | refine ite_stays ?_ ?_
    | intro _ _)

theorem State.loadKeys_stays {s : State} {keys : List KeyRec} :
    Stays { boot := true, ev := true, nvme := true, seam := true, digest := true, cipher := true, head := true, out := true } s (State.loadKeys s keys) := by
  unfold State.loadKeys
  with_reducible repeat' (first
    | exact Stays.rfl
    | exact Eq.refl (α := Mask) _
    | refine (State.addSteps_stays.up ?_).after ?_
    | refine (foldl_stays ?_).after ?_
    | refine (foldl2_stays ?_).after ?_
    | intro _ _
    | intro _
    | fail_if_no_progress (with_reducible refine (Stays.upd ?_).after ?_; with_reducible exact Eq.refl (α := State) _))

theorem State.loadMeta_stays {s : State} {j : JoinFound} :
    Stays { boot := true, ev := true, nvme := true, seam := true, digest := true, cipher := true, head := true, out := true } s (State.loadMeta s j) := by
  unfold State.loadMeta
  with_reducible repeat' (first
    | exact Stays.rfl
    | refine (State.loadKeys_stays.up ?_).after ?_
    | refine ite_stays ?_ ?_
    | fail_if_no_progress (with_reducible refine (Stays.upd ?_).after ?_; with_reducible exact Eq.refl (α := State) _)
    | exact Eq.refl (α := Mask) _
    | refine (State.takeKeyRec_stays.up ?_).after ?_
    | refine (foldl_stays ?_).after ?_
    | fail_if_no_progress (with_reducible refine (Stays.upd ?_).after ?_; with_reducible exact Eq.refl (α := State) _)
    | intro _ _)

theorem State.noteSilent_stays {s : State} {j : JoinFound} :
    Stays { head := true } s (State.noteSilent s j) := by
  unfold State.noteSilent
  with_reducible repeat' (first
    | exact Stays.rfl
    | exact Eq.refl (α := Mask) _
    | refine (State.setShelf_stays.up ?_).after ?_
    | refine (foldl_stays ?_).after ?_
    | refine (foldl2_stays ?_).after ?_
    | intro _ _
    | intro _
    | fail_if_no_progress (with_reducible refine (Stays.upd ?_).after ?_; with_reducible exact Eq.refl (α := State) _))

theorem State.asOfB_stays {s : State} :
    Stays { hem := true } s (State.asOfB s) := by
  unfold State.asOfB
  with_reducible repeat' (first
    | exact Stays.rfl
    | refine (State.dropJoinRecs_stays.up ?_).after ?_
    | exact Eq.refl (α := Mask) _
    | fail_if_no_progress (with_reducible refine (Stays.upd ?_).after ?_; with_reducible exact Eq.refl (α := State) _))

theorem State.noteLeases_stays {s : State} {j : JoinFound} :
    Stays { ev := true, nvme := true, seam := true, head := true, out := true } s (State.noteLeases s j) := by
  unfold State.noteLeases
  with_reducible repeat' (first
    | exact Stays.rfl
    | exact Eq.refl (α := Mask) _
    | refine (State.alarm_stays.up ?_).after ?_
    | refine (State.noteLease_stays.up ?_).after ?_
    | refine (State.setShelf_stays.up ?_).after ?_
    | refine (foldl_stays ?_).after ?_
    | refine ite_stays ?_ ?_
    | intro _ _)

theorem State.loadImages_stays {s : State} {j : JoinFound} :
    Stays { head := true } s (State.loadImages s j) := by
  unfold State.loadImages
  with_reducible repeat' (first
    | exact Stays.rfl
    | exact Eq.refl (α := Mask) _
    | refine (State.setWork_stays.up ?_).after ?_
    | refine (foldl_stays ?_).after ?_
    | refine (foldl2_stays ?_).after ?_
    | intro _ _
    | intro _
    | refine ite_stays ?_ ?_
    | fail_if_no_progress (with_reducible refine (Stays.upd ?_).after ?_; with_reducible exact Eq.refl (α := State) _)
    | (conv => arg 3; zeta); split
    | split)

theorem State.joinPeer_stays {s : State} {j : JoinFound} :
    Stays { boot := true, time := true, ev := true, hem := true, nvme := true, seam := true, digest := true, cipher := true, head := true, out := true } s (State.joinPeer s j) := by
  unfold State.joinPeer
  with_reducible repeat' (first
    | exact Stays.rfl
    | exact Eq.refl (α := Mask) _
    | refine (State.dropJoinRecs_stays.up ?_).after ?_
    | refine (State.loadMeta_stays.up ?_).after ?_
    | refine (State.noteLeases_stays.up ?_).after ?_
    | refine (State.loadImages_stays.up ?_).after ?_
    | refine (State.anaUpdate_stays.up ?_).after ?_
    | refine (State.sendSeam_stays.up ?_).after ?_
    | refine (State.timeEval_stays.up ?_).after ?_
    | intro _
    | fail_if_no_progress (with_reducible refine (Stays.upd ?_).after ?_; with_reducible exact Eq.refl (α := State) _))

theorem State.noteChange_stays {s : State} {j : JoinFound} :
    Stays { boot := true } s (State.noteChange s j) := by
  unfold State.noteChange
  with_reducible repeat' (first
    | exact Stays.rfl
    | exact Eq.refl (α := Mask) _
    | refine ite_stays ?_ ?_
    | fail_if_no_progress (with_reducible refine (Stays.upd ?_).after ?_; with_reducible exact Eq.refl (α := State) _))

theorem State.clearResv_stays {s : State} :
    Stays { nvme := true } s (State.clearResv s) := by
  unfold State.clearResv
  with_reducible repeat' (first
    | exact Stays.rfl
    | exact Eq.refl (α := Mask) _
    | intro _
    | refine ite_stays ?_ ?_
    | fail_if_no_progress (with_reducible refine (Stays.upd ?_).after ?_; with_reducible exact Eq.refl (α := State) _))

theorem State.joinCold_stays {s : State} {j0 : JoinFound} :
    Stays { boot := true, time := true, ev := true, hem := true, nvme := true, seam := true, digest := true, cipher := true, port := true, head := true, free := true, out := true } s (State.joinCold s j0) := by
  unfold State.joinCold
  with_reducible repeat' (first
    | exact Stays.rfl
    | refine (State.passRetired_stays.up ?_).after ?_
    | fail_if_no_progress (with_reducible refine (Stays.upd ?_).after ?_; with_reducible exact Eq.refl (α := State) _)
    | refine (State.clearResv_stays.up ?_).after ?_
    | refine (State.timeEval_stays.up ?_).after ?_
    | fail_if_no_progress (with_reducible refine (Stays.upd ?_).after ?_; with_reducible exact Eq.refl (α := State) _)
    | refine (State.noteSilent_stays.up ?_).after ?_
    | refine (State.asOfB_stays.up ?_).after ?_
    | refine (foldl2_stays ?_).after ?_
    | intro _
    | fail_if_no_progress (with_reducible refine (Stays.upd ?_).after ?_; with_reducible exact Eq.refl (α := State) _)
    | exact Eq.refl (α := Mask) _
    | refine (State.anaUpdate_stays.up ?_).after ?_
    | refine (State.loadMeta_stays.up ?_).after ?_
    | refine (State.noteLeases_stays.up ?_).after ?_
    | refine (State.rebuildFromBuffers_stays.up ?_).after ?_
    | refine (State.recoverStream_stays.up ?_).after ?_
    | refine (State.recoverStripes_stays.up ?_).after ?_
    | refine (State.resumePasses_stays.up ?_).after ?_
    | refine (State.sendRenewal_stays.up ?_).after ?_
    | refine (State.toAll_stays.up ?_).after ?_
    | refine (foldl_stays ?_).after ?_
    | refine ite_stays ?_ ?_
    | fail_if_no_progress (with_reducible refine (Stays.upd ?_).after ?_; with_reducible exact Eq.refl (α := State) _)
    | intro _ _)

theorem State.joinHead_stays {s : State} {j : JoinFound} :
    Stays { boot := true, time := true, ev := true, hem := true, nvme := true, seam := true, digest := true, cipher := true, port := true, head := true, free := true, out := true } s (State.joinHead s j) := by
  unfold State.joinHead
  with_reducible repeat' (first
    | exact Stays.rfl
    | refine (State.alarm_stays.up ?_).after ?_
    | refine (State.noteChange_stays.up ?_).after ?_
    | exact Eq.refl (α := Mask) _
    | refine (State.joinCold_stays.up ?_).after ?_
    | refine (State.joinPeer_stays.up ?_).after ?_
    | refine (State.loadBase_stays.up ?_).after ?_
    | refine (State.rebase_stays.up ?_).after ?_
    | refine (State.setHolds_stays.up ?_).after ?_
    | refine ite_stays ?_ ?_
    | fail_if_no_progress (with_reducible refine (Stays.upd ?_).after ?_; with_reducible exact Eq.refl (α := State) _))

theorem State.joinShelf_stays {s : State} {j : JoinFound} :
    Stays { boot := true, ev := true, nvme := true, out := true } s (State.joinShelf s j) := by
  unfold State.joinShelf
  with_reducible repeat' (first
    | exact Stays.rfl
    | exact Eq.refl (α := Mask) _
    | refine (State.setHolds_stays.up ?_).after ?_
    | fail_if_no_progress (with_reducible refine (Stays.upd ?_).after ?_; with_reducible exact Eq.refl (α := State) _))

theorem execBootJoin_keeps {j : JoinFound} {s : State} :
    Keeps { boot := true, time := true, ev := true, hem := true, nvme := true, seam := true, digest := true, cipher := true, port := true, head := true, free := true, out := true } s (execBootJoin j s) := by
  unfold execBootJoin
  with_reducible repeat' (first
    | exact Stays.rfl
    | exact Eq.refl (α := Mask) _
    | refine onlyIf_keeps ?_
    | refine (State.joinHead_stays.up ?_).after ?_
    | refine (State.joinShelf_stays.up ?_).after ?_
    | refine ite_stays ?_ ?_)

theorem State.raiseFloor_stays {s : State} {vpp : Bool} :
    Stays { otp := true, ev := true, nvme := true, out := true } s (State.raiseFloor s vpp) := by
  unfold State.raiseFloor
  with_reducible repeat' (first
    | exact Stays.rfl
    | exact Eq.refl (α := Mask) _
    | refine (State.alarm_stays.up ?_).after ?_
    | refine (State.event_stays.up ?_).after ?_
    | refine ite_stays ?_ ?_
    | fail_if_no_progress (with_reducible refine (Stays.upd ?_).after ?_; with_reducible exact Eq.refl (α := State) _))

theorem State.confirm_stays {s : State} :
    Stays { nor := true, boot := true } s (State.confirm s) := by
  unfold State.confirm
  with_reducible repeat' (first
    | exact Stays.rfl
    | exact Eq.refl (α := Mask) _
    | refine (State.bcrWrite_stays.up ?_).after ?_
    | fail_if_no_progress (with_reducible refine (Stays.upd ?_).after ?_; with_reducible exact Eq.refl (α := State) _))

theorem State.commitFailed_stays {s : State} :
    Stays { nor := true, boot := true, ledger := true, seam := true } s (State.commitFailed s) := by
  unfold State.commitFailed
  exact Stays.after (Stays.all rfl rfl rfl Mem.clear_wf id id id rfl) (State.dropCollection_stays.up rfl)

theorem State.askMissed_stays {s : State} :
    Stays { seam := true, out := true } s (State.askMissed s) := by
  unfold State.askMissed
  with_reducible repeat' (first
    | exact Stays.rfl
    | exact Eq.refl (α := Mask) _
    | refine (State.sendSeam_stays.up ?_).after ?_
    | refine ite_stays ?_ ?_)

theorem execBootReady_keeps {fails : Fin 4} {vpp : Bool} {s : State} :
    Keeps { otp := true, nor := true, boot := true, ledger := true, time := true, ev := true, hem := true, nvme := true, seam := true, port := true, head := true, keep := true, free := true, out := true } s (execBootReady fails vpp s) := by
  unfold execBootReady
  with_reducible repeat' (first
    | exact Stays.rfl
    | refine (State.askMissed_stays.up ?_).after ?_
    | refine (State.clearAlarm_stays.up ?_).after ?_
    | refine (State.enterService_stays.up ?_).after ?_
    | refine (State.timeEval_stays.up ?_).after ?_
    | refine keeps_next ?_
    | refine ite_keeps ?_ ?_
    | refine onlyIf_keeps ?_ ?_
    | refine (State.appendCollected_stays.up ?_).after ?_
    | intro _
    | split
    | exact Eq.refl (α := Mask) _
    | refine onlyIf_keeps ?_
    | refine (State.alarm_stays.up ?_).after ?_
    | refine (State.anaUpdate_stays.up ?_).after ?_
    | refine (State.commitFailed_stays.up ?_).after ?_
    | refine (State.confirm_stays.up ?_).after ?_
    | refine (State.endTest_stays.up ?_).after ?_
    | refine (State.event_stays.up ?_).after ?_
    | refine (State.ledgerCommit_stays.up ?_).after ?_
    | refine (State.raiseFloor_stays.up ?_).after ?_
    | refine (State.toStage_stays.up ?_).after ?_
    | refine ite_stays ?_ ?_
    | fail_if_no_progress (with_reducible refine (Stays.upd ?_).after ?_; with_reducible exact Eq.refl (α := State) _))

end Sys2Proof.Machine
end

