-- ==== Sys2Proof/Laws/Grows.lean ====
section
/-! SUPPORT. The four commands that sample the straps or add to the OTP array: what they keep, and that the array only gains. -/

namespace Sys2Proof.Machine

/-- From `s` to `t` the waiting commands are unchanged, the OTP array only gains, and the form of the tables stands. -/
structure Grows (s t : State) : Prop where
  pending : t.pending = s.pending
  later : Otp.later s.otp t.otp
  wf : s.otp.wf = true → t.otp.wf = true
  sound : s.Sound → t.Sound

theorem OtpSlot.later_rfl (a : OtpSlot) : OtpSlot.later a a := ⟨id, id, fun _ => ⟨rfl, rfl⟩⟩

theorem Otp.later_rfl (a : Otp) : Otp.later a a := ⟨fun _ => OtpSlot.later_rfl _, Nat.and_self _⟩

theorem Stays.grows {m : Mask} {s t : State} (h : Stays m s t) (ho : m.otp = false) : Grows s t := by
  have hf := h.fixed
  simp only [State.fixed, Prod.mk.injEq] at hf
  have e := h.same_otp ho
  exact ⟨hf.1, e ▸ Otp.later_rfl _, fun w => e ▸ w, h.sound⟩

/-- The straps are unchanged. -/
def SameStraps (s t : State) : Prop := t.pins.roleSel = s.pins.roleSel ∧ t.pins.siteId = s.pins.siteId

theorem Stays.straps {m : Mask} {s t : State} (h : Stays m s t) : SameStraps s t := by
  have hf := h.fixed
  simp only [State.fixed, Prod.mk.injEq] at hf
  exact hf.2

/-- A change before and after one that grows. -/
theorem Grows.after {m : Mask} {a b c : State} (h2 : Grows b c) (h1 : Stays m a b) (ho : m.otp = false) : Grows a c := by
  have hf := h1.fixed
  simp only [State.fixed, Prod.mk.injEq] at hf
  have e := h1.same_otp ho
  exact ⟨h2.pending.trans hf.1, e ▸ h2.later, fun w => h2.wf (e ▸ w), fun w => h2.sound (h1.sound w)⟩

theorem Grows.then {m : Mask} {a b c : State} (h1 : Grows a b) (h2 : Stays m b c) (ho : m.otp = false) : Grows a c := by
  have hf := h2.fixed
  simp only [State.fixed, Prod.mk.injEq] at hf
  have e := h2.same_otp ho
  exact ⟨hf.1.trans h1.pending, e.symm ▸ h1.later, fun w => e.symm ▸ h1.wf w, fun w => h2.sound (h1.sound w)⟩

/-- Both: what grows grows, the straps stand. -/
def GrowsS (s t : State) : Prop := Grows s t ∧ SameStraps s t

theorem Stays.growsS {m : Mask} {s t : State} (h : Stays m s t) (ho : m.otp = false) : GrowsS s t := ⟨h.grows ho, h.straps⟩

theorem GrowsS.then {m : Mask} {a b c : State} (h1 : GrowsS a b) (h2 : Stays m b c) (ho : m.otp = false) : GrowsS a c :=
  ⟨h1.1.then h2 ho, h2.straps.1.trans h1.2.1, h2.straps.2.trans h1.2.2⟩

theorem GrowsS.after {m : Mask} {a b c : State} (h2 : GrowsS b c) (h1 : Stays m a b) (ho : m.otp = false) : GrowsS a c :=
  ⟨h2.1.after h1 ho, h2.2.1.trans h1.straps.1, h2.2.2.trans h1.straps.2⟩

/-! ### The floor (R88) -/

theorem and_lor_self (a b : Nat) : a &&& (a ||| b) = a := by
  apply Nat.eq_of_testBit_eq
  intro i
  simp only [Nat.testBit_and, Nat.testBit_or]
  cases a.testBit i <;> simp

theorem State.raiseFloor_grows {s : State} {vpp : Bool} : GrowsS s (s.raiseFloor vpp) := by
  unfold State.raiseFloor
  extract_lets f o s1
  split
  · split
    · have h1 : Grows s s1 := by
        refine ⟨rfl, ⟨fun _ => OtpSlot.later_rfl _, and_lor_self _ _⟩, ?_, fun w => ⟨w.eng, w.port, w.front, w.nor, w.hbm, w.scratch, w.raw⟩⟩
        intro w
        simp only [Otp.wf, Bool.and_eq_true, decide_eq_true_eq] at w ⊢
        refine ⟨w.1, Nat.or_lt_two_pow w.2 ?_⟩
        have : 2 ^ min s.boot.secVersion 64 ≤ 2 ^ 64 := Nat.pow_le_pow_right (by decide) (Nat.min_le_right _ _)
        omega
      have h0 : SameStraps s s1 := ⟨rfl, rfl⟩
      clear_value s1
      exact GrowsS.then ⟨h1, h0⟩ State.event_stays rfl
    · exact State.alarm_stays.growsS rfl
  · exact (Stays.rfl (m := {})).growsS rfl

/-! ### The owner slots (R75) -/

theorem padTo_length (n : Nat) (bs : Bytes) : (padTo n bs).length = n := by
  simp only [padTo, zeros, List.length_append, List.length_take, List.length_replicate]
  omega

theorem State.otpKey_grows {s : State} {tag slot : Nat} {vpp : Bool} {ok : OtpSlot → Bool} {f : OtpSlot → OtpSlot}
    (hl : ∀ o, ok o = true → OtpSlot.later o (f o)) (hw : ∀ o, ok o = true → OtpSlot.wf o = true → OtpSlot.wf (f o) = true) :
    GrowsS s (s.otpKey tag slot vpp ok f) := by
  unfold State.otpKey
  split
  · exact State.respond_stays.growsS rfl
  · split
    · exact State.respond_stays.growsS rfl
    · split
      · rename_i hok
        have h1 : Grows s { s with otp := { s.otp with owner := s.otp.owner.modify slot f } } := by
          refine ⟨rfl, ⟨?_, Nat.and_self _⟩, ?_, fun w => ⟨w.eng, w.port, w.front, w.nor, w.hbm, w.scratch, w.raw⟩⟩
          · intro i
            simp only [List.getD_eq_getElem?_getD, List.getElem?_modify]
            by_cases hi : slot = i
            · subst hi
              rw [List.getD_eq_getElem?_getD] at hok
              cases hg : s.otp.owner[slot]? with
              | none => simp [OtpSlot.later_rfl]
              | some o =>
                rw [hg] at hok
                simpa using hl o hok
            · simp only [hi, if_false]
              cases s.otp.owner[i]? <;> exact OtpSlot.later_rfl _
          · intro w
            simp only [Otp.wf, Bool.and_eq_true, decide_eq_true_eq, beq_iff_eq, List.length_modify, List.all_eq_true] at w ⊢
            refine ⟨⟨w.1.1, ?_⟩, w.2⟩
            intro o ho
            obtain ⟨i, hi⟩ := List.mem_iff_getElem?.1 ho
            rw [List.getElem?_modify] at hi
            by_cases hs : slot = i
            · subst hs
              rw [List.getD_eq_getElem?_getD] at hok
              cases hg : s.otp.owner[slot]? with
              | none => simp [hg] at hi
              | some a =>
                rw [hg] at hi hok
                simp only [if_true, Option.map_eq_map, Option.map_some, Option.some.injEq] at hi
                subst hi
                exact hw a hok (w.1.2 a (List.mem_of_getElem? hg))
            · simp only [hs, if_false] at hi
              exact w.1.2 o (List.mem_of_getElem? (by simpa using hi))
        exact GrowsS.then ⟨h1, rfl, rfl⟩ State.respond_stays rfl
      · exact State.respond_stays.growsS rfl

/-- An outcome that, where it is a next state, grows. -/
def GrowsTo (s : State) (r : Res) : Prop := ∀ t, r = .next t → GrowsS s t

theorem State.mgmtCmd_growsTo {s : State} {cmd tag : Nat} {f : State → State} (h : ∀ a, GrowsS a (f a)) :
    GrowsTo s (s.mgmtCmd cmd tag f) := by
  unfold State.mgmtCmd onlyIf
  intro t ht
  cases ht
  split
  · beta_reduce
    split
    · exact h s
    · exact State.respond_stays.growsS rfl
  · exact (Stays.rfl (m := {})).growsS rfl

theorem execOtpKeyProgram_growsTo {tag slot : Byte} {digest wrapKey : Bytes} {vpp : Bool} {s : State} :
    GrowsTo s (execOtpKeyProgram tag slot digest wrapKey vpp s) := by
  refine State.mgmtCmd_growsTo fun a => State.otpKey_grows ?_ ?_
  · intro o ho
    simp only [beq_iff_eq] at ho
    exact ⟨fun h => absurd ho h, fun h => by omega, fun h => by omega⟩
  · intro o _ _
    simp [OtpSlot.wf, padTo_length]

theorem execOtpKeyRevoke_growsTo {tag slot : Byte} {vpp : Bool} {s : State} : GrowsTo s (execOtpKeyRevoke tag slot vpp s) := by
  refine State.mgmtCmd_growsTo fun a => State.otpKey_grows ?_ ?_
  · intro o _
    exact ⟨fun _ => by simp, fun _ => rfl, fun _ => ⟨rfl, rfl⟩⟩
  · intro o _ _
    simp [OtpSlot.wf]

/-! ### READY and the release of POR_N -/

/-- Every part but the OTP array. -/
def allButOtp : Mask :=
  { pins := true, nor := true, boot := true, ledger := true, params := true, time := true, ev := true, mgmt := true, jtag := true, power := true,
    eng := true, mem := true, ring := true, mc := true, hem := true, nvme := true, seam := true, digest := true, cam := true, press := true,
    cipher := true, parity := true, port := true, head := true, front := true, rdma := true, repl := true, flash := true, sh := true, keep := true, free := true, out := true }

theorem execBootReady_growsTo {fails : Fin 4} {vpp : Bool} {s : State} : GrowsTo s (execBootReady fails vpp s) := by
  unfold execBootReady onlyIf
  intro t ht
  cases ht
  split
  · beta_reduce
    split
    · exact State.commitFailed_stays.growsS rfl
    · extract_lets b0 s0 s1 b1 h1 k1 e1 s2 s3 s4
      have h0 : Stays allButOtp s s0 := Stays.upd rfl
      have h0' : Stays allButOtp s (if s0.boot.trial then s0.clearAlarm AL_BOOT_TRIAL_FAILED 0 else s0) :=
        ite_stays ((State.clearAlarm_stays.up rfl).after h0) h0
      have h1' : Stays allButOtp s s1 := (State.confirm_stays.up rfl).after ((State.ledgerCommit_stays.up rfl).after h0')
      have h2' : Stays allButOtp s1 s2 := by
        have k : ∀ a : State, Stays allButOtp a { a with
            boot := { a.boot with readyDone := true }, hem := { a.hem with pf := .armed }
            keep := if a.isShelf && a.keep.shardN == 0 then { a.keep with shardN := a.nShelves } else a.keep
            seam := { a.seam with inheriting := false } } := fun _ => Stays.upd rfl
        exact k s1
      have h2 : Stays allButOtp s s2 := h2'.after h1'
      have h5 : Stays allButOtp s (((s2.endTest 2).toStage .ready).event EV_BOOT_READY 0) :=
        (State.event_stays.up rfl).after ((State.toStage_stays.up rfl).after ((State.endTest_stays.up rfl).after h2))
      have g0 : GrowsS s ((((s2.endTest 2).toStage .ready).event EV_BOOT_READY 0).raiseFloor vpp) :=
        GrowsS.after State.raiseFloor_grows h5 rfl
      have g : GrowsS s s3 := g0.then State.appendCollected_stays rfl
      have h4 : Stays allButOtp s3 s4 := ite_stays (State.alarm_stays.up rfl) Stays.rfl
      exact g.then (ite_stays h4 (ite_stays ((State.enterService_stays.up rfl).after h4)
        ((State.timeEval_stays.up rfl).after ((State.anaUpdate_stays.up rfl).after ((State.askMissed_stays.up rfl).after
          ((Stays.upd rfl).after h4)))))) rfl
  · exact (Stays.rfl (m := {})).growsS rfl

theorem execPorNRelease_grows {roleSel : Fin 4} {siteId : Fin 64} {s t : State} (h : execPorNRelease roleSel siteId s = .next t) :
    Grows s t := by
  unfold execPorNRelease onlyIf at h
  cases h
  split
  · beta_reduce
    extract_lets s1 trip p1 n1 w1 s2
    have h1 := State.cold_stays (s := s)
    change Stays _ s s1 at h1
    clear_value s1
    have h2 : Grows s1 s2 :=
      ⟨rfl, Otp.later_rfl _, id, fun w => ⟨w.eng, w.port, w.front, w.nor, w.hbm, w.scratch, w.raw⟩⟩
    clear_value s2
    split
    · exact (h2.then State.alarm_stays rfl).after h1 rfl
    · exact h2.after h1 rfl
  · exact (Stays.rfl (m := {})).grows rfl

end Sys2Proof.Machine
end

