-- ==== Sys2Proof/Laws/StaysArrayCtrl.lean ====
section
/-! SUPPORT. The operations of Machine/ArrayCtrl.lean keep the fixed part and the form of the tables. -/

namespace Sys2Proof.Machine

theorem State.ctrlDone_stays {s : State} {tag : Byte} {status : Nat} {body : Bytes} :
    Stays { out := true } s (State.ctrlDone s tag status body) := by
  unfold State.ctrlDone
  with_reducible repeat' (first
    | exact Stays.rfl
    | exact Eq.refl (α := Mask) _
    | refine (State.respond_stays.up ?_).after ?_)

theorem State.ctrlNo_stays {s : State} {tag : Byte} {completion : Nat} :
    Stays { out := true } s (State.ctrlNo s tag completion) := by
  unfold State.ctrlNo
  with_reducible repeat' (first
    | exact Stays.rfl
    | exact Eq.refl (α := Mask) _
    | refine (State.respond_stays.up ?_).after ?_)

theorem State.arrayCtrl_keeps {m : Mask} {s : State} {tag : Byte} {f : State → State} (hm : Mask.or { out := true } m = m) (hf : ∀ a0, Stays m a0 (f a0)) :
    Keeps m s (State.arrayCtrl s tag f) := by
  unfold State.arrayCtrl
  with_reducible repeat' (first
    | exact Stays.rfl
    | exact Mask.or_trans (Eq.refl _) hm
    | exact hf ..
    | refine State.mgmtCmd_keeps ?_ ?_
    | refine (State.ctrlDone_stays.up ?_).after ?_
    | refine (State.ctrlNo_stays.up ?_).after ?_
    | refine ite_stays ?_ ?_
    | intro _)

theorem execSnapshotDefine_keeps {tag : Byte} {id e : Nat} {nsids : List Nat} {s : State} :
    Keeps { head := true, out := true } s (execSnapshotDefine tag id e nsids s) := by
  unfold execSnapshotDefine
  with_reducible repeat' (first
    | exact Stays.rfl
    | exact Eq.refl (α := Mask) _
    | refine State.arrayCtrl_keeps ?_ ?_
    | refine (State.ctrlDone_stays.up ?_).after ?_
    | refine (State.ctrlNo_stays.up ?_).after ?_
    | refine (State.record_stays.up ?_).after ?_
    | refine ite_stays ?_ ?_
    | split
    | intro _)

theorem execSnapshotDelete_keeps {tag : Byte} {id : Nat} {s : State} :
    Keeps { head := true, out := true } s (execSnapshotDelete tag id s) := by
  unfold execSnapshotDelete
  with_reducible repeat' (first
    | exact Stays.rfl
    | exact Eq.refl (α := Mask) _
    | refine State.arrayCtrl_keeps ?_ ?_
    | refine (State.ctrlDone_stays.up ?_).after ?_
    | refine (State.ctrlNo_stays.up ?_).after ?_
    | refine (State.record_stays.up ?_).after ?_
    | refine ite_stays ?_ ?_
    | intro _)

theorem execSnapshotClone_keeps {tag : Byte} {id nsid : Nat} {s : State} :
    Keeps { head := true, out := true } s (execSnapshotClone tag id nsid s) := by
  unfold execSnapshotClone
  with_reducible repeat' (first
    | exact Stays.rfl
    | exact Eq.refl (α := Mask) _
    | refine State.arrayCtrl_keeps ?_ ?_
    | refine (State.ctrlDone_stays.up ?_).after ?_
    | refine (State.ctrlNo_stays.up ?_).after ?_
    | refine (State.record_stays.up ?_).after ?_
    | refine ite_stays ?_ ?_
    | intro _)

theorem execUtcScheduleEdit_keeps {tag : Byte} {add : Bool} {e : UtcSched} {s : State} :
    Keeps { head := true, out := true } s (execUtcScheduleEdit tag add e s) := by
  unfold execUtcScheduleEdit
  with_reducible repeat' (first
    | exact Stays.rfl
    | exact Eq.refl (α := Mask) _
    | refine State.arrayCtrl_keeps ?_ ?_
    | refine (State.ctrlDone_stays.up ?_).after ?_
    | refine (State.ctrlNo_stays.up ?_).after ?_
    | refine (State.record_stays.up ?_).after ?_
    | refine ite_stays ?_ ?_
    | split
    | intro _)

theorem execSnapshotScheduleInstance_keeps {entry : Nat} {s : State} :
    Keeps { head := true } s (execSnapshotScheduleInstance entry s) := by
  unfold execSnapshotScheduleInstance
  with_reducible repeat' (first
    | exact Stays.rfl
    | exact Eq.refl (α := Mask) _
    | refine keeps_next ?_
    | refine (State.record_stays.up ?_).after ?_
    | refine (State.setMd_stays.up ?_).after ?_
    | refine ite_stays ?_ ?_
    | split)

theorem State.schedRecheck_stays {s : State} :
    Stays { head := true } s (State.schedRecheck s) := by
  unfold State.schedRecheck
  with_reducible repeat' (first
    | exact Stays.rfl
    | exact Eq.refl (α := Mask) _
    | refine (State.record_stays.up ?_).after ?_
    | refine (foldl_stays ?_).after ?_
    | refine ite_stays ?_ ?_
    | intro _ _
    | (conv => arg 3; zeta); split)

theorem State.cutSnaps_stays {s : State} {x : Nat} :
    Stays { head := true } s (State.cutSnaps s x) := by
  unfold State.cutSnaps
  with_reducible repeat' (first
    | exact Stays.rfl
    | exact Eq.refl (α := Mask) _
    | refine (State.setMd_stays.up ?_).after ?_)

theorem execSnapshotReleaseStep_keeps {id nsid page : Nat} {s : State} :
    Keeps { head := true } s (execSnapshotReleaseStep id nsid page s) := by
  unfold execSnapshotReleaseStep
  with_reducible repeat' (first
    | exact Stays.rfl
    | refine keeps_next ?_
    | refine ite_keeps ?_ ?_
    | refine onlyIf_keeps ?_ ?_
    | intro _
    | fail_if_no_progress (with_reducible refine (Stays.upd ?_).after ?_; with_reducible exact Eq.refl (α := State) _)
    | (conv => arg 3; zeta); split
    | split
    | exact Eq.refl (α := Mask) _
    | refine onlyIf_keeps ?_
    | refine (State.record_stays.up ?_).after ?_)

theorem execPlannedShelfRestart_keeps {tag : Byte} {site : Fin 64} {s : State} :
    Keeps { head := true, out := true } s (execPlannedShelfRestart tag site s) := by
  unfold execPlannedShelfRestart
  with_reducible repeat' (first
    | exact Stays.rfl
    | refine onlyIf_keeps ?_
    | refine keeps_next ?_
    | refine ite_keeps ?_ ?_
    | fail_if_no_progress (with_reducible refine (Stays.upd ?_).after ?_; with_reducible exact Eq.refl (α := State) _)
    | split
    | exact Eq.refl (α := Mask) _
    | refine State.arrayCtrl_keeps ?_ ?_
    | refine (State.ctrlDone_stays.up ?_).after ?_
    | refine (State.ctrlNo_stays.up ?_).after ?_
    | refine (State.record_stays.up ?_).after ?_
    | refine ite_stays ?_ ?_
    | intro _)

theorem State.permitRestarts_stays {s : State} :
    Stays { head := true, out := true } s (State.permitRestarts s) := by
  unfold State.permitRestarts
  with_reducible repeat' (first
    | exact Stays.rfl
    | exact Eq.refl (α := Mask) _
    | refine (State.ctrlDone_stays.up ?_).after ?_
    | refine (foldl_stays ?_).after ?_
    | refine (foldl2_stays ?_).after ?_
    | intro _ _
    | intro _
    | refine ite_stays ?_ ?_
    | fail_if_no_progress (with_reducible refine (Stays.upd ?_).after ?_; with_reducible exact Eq.refl (α := State) _))

theorem execBarrierStart_keeps {tag : Byte} {s : State} :
    Keeps { boot := true, out := true } s (execBarrierStart tag s) := by
  unfold execBarrierStart
  with_reducible repeat' (first
    | exact Stays.rfl
    | exact Eq.refl (α := Mask) _
    | refine State.arrayCtrl_keeps ?_ ?_
    | refine (State.ctrlDone_stays.up ?_).after ?_
    | refine (State.ctrlNo_stays.up ?_).after ?_
    | refine ite_stays ?_ ?_
    | fail_if_no_progress (with_reducible refine (Stays.upd ?_).after ?_; with_reducible exact Eq.refl (α := State) _)
    | intro _)

theorem State.barrierRelease_stays {s : State} :
    Stays { boot := true, ledger := true, ev := true, nvme := true, seam := true, port := true, head := true, out := true } s (State.barrierRelease s) := by
  unfold State.barrierRelease
  with_reducible repeat' (first
    | exact Stays.rfl
    | refine (State.dropCollection_stays.up ?_).after ?_
    | fail_if_no_progress (with_reducible refine (Stays.upd ?_).after ?_; with_reducible exact Eq.refl (α := State) _)
    | refine (State.clearAlarm_stays.up ?_).after ?_
    | refine (foldl2_stays ?_).after ?_
    | intro _
    | fail_if_no_progress (with_reducible refine (Stays.upd ?_).after ?_; with_reducible exact Eq.refl (α := State) _)
    | exact Eq.refl (α := Mask) _
    | refine (State.anaUpdate_stays.up ?_).after ?_
    | refine (State.releaseStream_stays.up ?_).after ?_
    | refine (State.sendSeam_stays.up ?_).after ?_
    | refine (State.setStream_stays.up ?_).after ?_
    | refine (foldl_stays ?_).after ?_
    | fail_if_no_progress (with_reducible refine (Stays.upd ?_).after ?_; with_reducible exact Eq.refl (α := State) _)
    | intro _ _)

theorem State.barrierStep_stays {s : State} {x : Nat} :
    Stays { boot := true, ledger := true, ev := true, nvme := true, seam := true, port := true, head := true, out := true } s (State.barrierStep s x) := by
  unfold State.barrierStep
  with_reducible repeat' (first
    | exact Stays.rfl
    | exact Eq.refl (α := Mask) _
    | refine (State.barrierRelease_stays.up ?_).after ?_
    | refine (State.record_stays.up ?_).after ?_
    | intro _
    | refine ite_stays ?_ ?_
    | fail_if_no_progress (with_reducible refine (Stays.upd ?_).after ?_; with_reducible exact Eq.refl (α := State) _)
    | (conv => arg 3; zeta); split
    | split)

theorem State.dropBarrier_stays {s : State} :
    Stays { boot := true, seam := true } s (State.dropBarrier s) := by
  unfold State.dropBarrier
  with_reducible repeat' (first
    | exact Stays.rfl
    | exact Eq.refl (α := Mask) _
    | intro _
    | fail_if_no_progress (with_reducible refine (Stays.upd ?_).after ?_; with_reducible exact Eq.refl (α := State) _)
    | (conv => arg 3; zeta); split
    | split)

theorem execBarrierAbort_keeps {s : State} :
    Keeps { boot := true, ev := true, nvme := true, seam := true, out := true } s (execBarrierAbort s) := by
  unfold execBarrierAbort
  with_reducible repeat' (first
    | exact Stays.rfl
    | refine onlyIf_keeps ?_
    | refine ite_keeps ?_ ?_
    | refine (State.dropBarrier_stays.up ?_).after ?_
    | fail_if_no_progress (with_reducible refine (Stays.upd ?_).after ?_; with_reducible exact Eq.refl (α := State) _)
    | (conv => arg 3; zeta); split
    | exact Eq.refl (α := Mask) _
    | refine keeps_next ?_
    | refine (State.alarm_stays.up ?_).after ?_
    | refine ite_stays ?_ ?_
    | fail_if_no_progress (with_reducible refine (Stays.upd ?_).after ?_; with_reducible exact Eq.refl (α := State) _)
    | split)

theorem execManagerLeaseMove_keeps {tag : Byte} {s : State} :
    Keeps { head := true, out := true } s (execManagerLeaseMove tag s) := by
  unfold execManagerLeaseMove
  with_reducible repeat' (first
    | exact Stays.rfl
    | exact Eq.refl (α := Mask) _
    | refine State.arrayCtrl_keeps ?_ ?_
    | refine (State.ctrlDone_stays.up ?_).after ?_
    | refine (State.record_stays.up ?_).after ?_
    | refine ite_stays ?_ ?_
    | intro _)

theorem execGroupHandback_keeps {tag : Byte} {s : State} :
    Keeps { head := true, out := true } s (execGroupHandback tag s) := by
  unfold execGroupHandback
  with_reducible repeat' (first
    | exact Stays.rfl
    | exact Eq.refl (α := Mask) _
    | refine State.arrayCtrl_keeps ?_ ?_
    | refine (State.ctrlDone_stays.up ?_).after ?_
    | refine (State.startHandback_stays.up ?_).after ?_
    | refine ite_stays ?_ ?_
    | intro _)

theorem State.leaseMoves_stays {s : State} {x : Nat} :
    Stays { boot := true, ledger := true, time := true, ev := true, hem := true, nvme := true, seam := true, port := true, head := true, out := true } s (State.leaseMoves s x) := by
  unfold State.leaseMoves
  with_reducible repeat' (first
    | exact Stays.rfl
    | refine (State.dropCollection_stays.up ?_).after ?_
    | fail_if_no_progress (with_reducible refine (Stays.upd ?_).after ?_; with_reducible exact Eq.refl (α := State) _)
    | fail_if_no_progress (with_reducible refine (Stays.upd ?_).after ?_; with_reducible exact Eq.refl (α := State) _)
    | split
    | exact Eq.refl (α := Mask) _
    | refine (State.becomeManager_stays.up ?_).after ?_
    | refine (State.event_stays.up ?_).after ?_
    | refine ite_stays ?_ ?_
    | fail_if_no_progress (with_reducible refine (Stays.upd ?_).after ?_; with_reducible exact Eq.refl (α := State) _)
    | (conv => arg 3; zeta); split)

theorem State.rootBytes_stays {s : State} :
    Stays { free := true } s (State.rootBytes s).2 := by
  unfold State.rootBytes
  with_reducible repeat' (first
    | exact Stays.rfl
    | exact Eq.refl (α := Mask) _
    | refine (State.takeFreeBytes_stays.up ?_).after ?_)

theorem State.pageImage_stays {s : State} {kind page : Nat} :
    Stays { free := true } s (State.pageImage s kind page).2 := by
  unfold State.pageImage
  by_cases h : kind = 5
  · simp only [h, if_true]
    exact State.rootBytes_stays
  · simp only [h, if_false]
    exact Stays.rfl

theorem State.writePage_stays {s0 : State} {i kind page : Nat} :
    Stays { hem := true, port := true, head := true, free := true, out := true } s0 (State.writePage s0 i kind page) := by
  unfold State.writePage
  with_reducible repeat' (first
    | exact Stays.rfl
    | refine (State.pageImage_stays.up ?_).after ?_
    | refine (State.metaRoom_stays.up ?_).after ?_
    | fail_if_no_progress (with_reducible refine (Stays.upd ?_).after ?_; with_reducible exact Eq.refl (α := State) _)
    | exact Eq.refl (α := Mask) _
    | refine (State.rootBytes_stays.up ?_).after ?_
    | refine (Stays.up ?_ (State.sendMeta_some (by assumption))).after ?_
    | refine (State.setMd_stays.up ?_).after ?_
    | refine ite_stays ?_ ?_
    | fail_if_no_progress (with_reducible refine (Stays.upd ?_).after ?_; with_reducible exact Eq.refl (α := State) _)
    | (conv => arg 3; zeta); split
    | split)

theorem execMapPageWrite_keeps {i : Fin 2} {kind page : Nat} {s : State} :
    Keeps { hem := true, port := true, head := true, free := true, out := true } s (execMapPageWrite i kind page s) := by
  unfold execMapPageWrite
  with_reducible repeat' (first
    | exact Stays.rfl
    | refine keeps_next ?_
    | refine ite_keeps ?_ ?_
    | refine onlyIf_keeps ?_ ?_
    | refine (State.writePage_stays.up ?_).after ?_
    | intro _
    | exact Eq.refl (α := Mask) _
    | refine onlyIf_keeps ?_
    | refine (State.setMd_stays.up ?_).after ?_
    | refine (State.takeFreeBytes_stays.up ?_).after ?_
    | refine (Stays.up ?_ (State.sendMeta_some (by assumption))).after ?_
    | fail_if_no_progress (with_reducible refine (Stays.upd ?_).after ?_; with_reducible exact Eq.refl (α := State) _)
    | split
    | (conv => arg 3; zeta); split)

theorem State.flushPages_stays {s : State} :
    Stays { hem := true, port := true, head := true, free := true, out := true } s (State.flushPages s) := by
  unfold State.flushPages
  with_reducible repeat' (first
    | exact Stays.rfl
    | exact Eq.refl (α := Mask) _
    | refine (State.writePage_stays.up ?_).after ?_
    | refine (foldl_stays ?_).after ?_
    | refine (foldl2_stays ?_).after ?_
    | intro _ _
    | intro _
    | refine ite_stays ?_ ?_)

theorem State.eraseStep_stays {s : State} :
    Stays { cipher := true, port := true, head := true, out := true } s (State.eraseStep s) := by
  unfold State.eraseStep
  with_reducible repeat' (first
    | exact Stays.rfl
    | exact Eq.refl (α := Mask) _
    | refine (State.toShelf_stays.up ?_).after ?_
    | refine (foldl_stays ?_).after ?_
    | refine ite_stays ?_ ?_
    | fail_if_no_progress (with_reducible refine (Stays.upd ?_).after ?_; with_reducible exact Eq.refl (α := State) _)
    | intro _ _
    | (conv => arg 3; zeta); split)

theorem execCryptoEraseComplete_keeps {domain : Fin 256} {s : State} :
    Keeps { ev := true, nvme := true, cipher := true, out := true } s (execCryptoEraseComplete domain s) := by
  unfold execCryptoEraseComplete
  with_reducible repeat' (first
    | exact Stays.rfl
    | exact Eq.refl (α := Mask) _
    | refine keeps_next ?_
    | refine (State.clearAlarm_stays.up ?_).after ?_
    | refine (State.event_stays.up ?_).after ?_
    | refine ite_stays ?_ ?_
    | fail_if_no_progress (with_reducible refine (Stays.upd ?_).after ?_; with_reducible exact Eq.refl (α := State) _)
    | split)

theorem execCryptoErasePurgeLate_keeps {domain : Fin 256} {s : State} :
    Keeps { ev := true, nvme := true, cipher := true, out := true } s (execCryptoErasePurgeLate domain s) := by
  unfold execCryptoErasePurgeLate
  with_reducible repeat' (first
    | exact Stays.rfl
    | exact Eq.refl (α := Mask) _
    | refine onlyIf_keeps ?_
    | refine (State.alarm_stays.up ?_).after ?_
    | fail_if_no_progress (with_reducible refine (Stays.upd ?_).after ?_; with_reducible exact Eq.refl (α := State) _))

theorem execHealthRecordWrite_keeps {s : State} :
    Keeps { nor := true, sh := true, keep := true } s (execHealthRecordWrite s) := by
  unfold execHealthRecordWrite
  refine onlyIf_keeps ?_
  exact Stays.all (rfl) (rfl) (rfl) (fun h => norPut_wf h) (id) (id) (id) (by with_reducible exact Eq.refl _)

theorem execHealthRead_keeps {tag piece : Byte} {s : State} :
    Keeps { out := true } s (execHealthRead tag piece s) := by
  unfold execHealthRead
  with_reducible repeat' (first
    | exact Stays.rfl
    | exact Eq.refl (α := Mask) _
    | refine State.mgmtCmd_keeps ?_ ?_
    | refine (State.respond_stays.up ?_).after ?_
    | refine ite_stays ?_ ?_
    | split
    | intro _)

theorem execNvmeMiBasicManagement_keeps {s : State} :
    Keeps { free := true, out := true } s (execNvmeMiBasicManagement s) := by
  unfold execNvmeMiBasicManagement
  with_reducible repeat' (first
    | exact Stays.rfl
    | exact Eq.refl (α := Mask) _
    | refine onlyIf_keeps ?_
    | refine (State.emit_stays.up ?_).after ?_
    | refine (State.openPage_stays.up ?_).after ?_)

theorem execNvmeMiReadDataStructure_keeps {dtyp cntlid : Nat} {s : State} :
    Keeps { free := true, out := true } s (execNvmeMiReadDataStructure dtyp cntlid s) := by
  unfold execNvmeMiReadDataStructure
  with_reducible repeat' (first
    | exact Stays.rfl
    | exact Eq.refl (α := Mask) _
    | refine onlyIf_keeps ?_
    | refine (State.emit_stays.up ?_).after ?_
    | refine (State.openPage_stays.up ?_).after ?_
    | split)

theorem execNvmeMiSubsystemHealthPoll_keeps {s : State} :
    Keeps { free := true, out := true } s (execNvmeMiSubsystemHealthPoll s) := by
  unfold execNvmeMiSubsystemHealthPoll
  with_reducible repeat' (first
    | exact Stays.rfl
    | exact Eq.refl (α := Mask) _
    | refine onlyIf_keeps ?_
    | refine (State.emit_stays.up ?_).after ?_
    | refine (State.openPage_stays.up ?_).after ?_)

theorem execNvmeMiControllerHealthPoll_keeps {first : Nat} {s : State} :
    Keeps { free := true, out := true } s (execNvmeMiControllerHealthPoll first s) := by
  unfold execNvmeMiControllerHealthPoll
  with_reducible repeat' (first
    | exact Stays.rfl
    | exact Eq.refl (α := Mask) _
    | refine onlyIf_keeps ?_
    | refine (State.emit_stays.up ?_).after ?_
    | refine (State.openPage_stays.up ?_).after ?_
    | refine (foldl2_stays ?_).after ?_
    | intro _ _)

theorem execNvmeMiConfigurationGet_keeps {config : Nat} {s : State} :
    Keeps { free := true, out := true } s (execNvmeMiConfigurationGet config s) := by
  unfold execNvmeMiConfigurationGet
  with_reducible repeat' (first
    | exact Stays.rfl
    | exact Eq.refl (α := Mask) _
    | refine onlyIf_keeps ?_
    | refine (State.emit_stays.up ?_).after ?_
    | refine (State.openPage_stays.up ?_).after ?_)

end Sys2Proof.Machine
end

