-- ==== Sys2Proof/Laws/StaysReplSource.lean ====
section
/-! SUPPORT. The operations of Machine/ReplSource.lean keep the fixed part and the form of the tables. -/

namespace Sys2Proof.Machine

theorem resyncEnd_stays {s t : State} {c a : Nat} {d : Prop} [Decidable d] (h : Stays { ev := true, nvme := true, head := true, repl := true, out := true } s t) :
    Stays { ev := true, nvme := true, head := true, repl := true, out := true } s (if a ≠ 0 ∧ d ∧ c = a then
      State.event { t with repl := { t.repl with resyncEpn := 0, diffSent := false, state := 2 } } EV_REPL_RESYNC_DONE 0 else t) :=
  ite_stays ((State.event_stays.up (Eq.refl _)).after ((Stays.upd (Eq.refl _)).after h)) h

theorem sendParts_stays {data : Bool} {type stream ident prev parts : Nat} {x0 : List Bytes} {x1 : Nat} {x2 : State} :
    Stays { rdma := true, repl := true, out := true } x2 (sendParts data type stream ident prev parts x0 x1 x2) := by
  induction x0 generalizing data type stream ident prev parts x1 x2 with
  | nil =>
    unfold sendParts
    with_reducible exact Stays.rfl
  | cons y ys ih =>
    unfold sendParts
    with_reducible repeat' (first
      | exact Stays.rfl
      | refine ih.after ?_
      | exact Eq.refl (α := Mask) _
      | refine (State.sendRepl_stays.up ?_).after ?_)

theorem State.sendRBundle_stays {s : State} {b : RBundle} :
    Stays { rdma := true, repl := true, out := true } s (State.sendRBundle s b) := by
  unfold State.sendRBundle
  with_reducible repeat' (first
    | exact Stays.rfl
    | exact Eq.refl (α := Mask) _
    | refine (sendParts_stays.up ?_).after ?_)

theorem State.sendPush_stays {s : State} {i n : Nat} :
    Stays { rdma := true, repl := true, out := true } s (State.sendPush s i n) := by
  unfold State.sendPush
  with_reducible repeat' (first
    | exact Stays.rfl
    | exact Eq.refl (α := Mask) _
    | refine (sendParts_stays.up ?_).after ?_
    | refine ite_stays ?_ ?_
    | fail_if_no_progress (with_reducible refine (Stays.upd ?_).after ?_; with_reducible exact Eq.refl (α := State) _))

theorem State.sendPoint_stays {s : State} {p : Point} :
    Stays { rdma := true, repl := true, out := true } s (State.sendPoint s p) := by
  unfold State.sendPoint
  with_reducible repeat' (first
    | exact Stays.rfl
    | exact Eq.refl (α := Mask) _
    | refine (State.sendRepl_stays.up ?_).after ?_)

theorem State.sendKeyRec_stays {s : State} {r : KeyRec} :
    Stays { rdma := true, repl := true, out := true } s (State.sendKeyRec s r) := by
  unfold State.sendKeyRec
  with_reducible repeat' (first
    | exact Stays.rfl
    | exact Eq.refl (α := Mask) _
    | refine (State.sendRepl_stays.up ?_).after ?_
    | (conv => arg 3; zeta); split)

theorem State.markSent_stays {s t : State} :
    Stays { cipher := true } t (State.markSent s t) := by
  unfold State.markSent
  exact Stays.upd rfl

theorem State.dropReplGen_stays {s : State} {g : Nat} :
    Stays { cipher := true } s (State.dropReplGen s g) := by
  unfold State.dropReplGen
  with_reducible repeat' (first
    | exact Stays.rfl
    | exact Eq.refl (α := Mask) _
    | refine (State.revoke_stays.up ?_).after ?_
    | intro _
    | refine ite_stays ?_ ?_
    | fail_if_no_progress (with_reducible refine (Stays.upd ?_).after ?_; with_reducible exact Eq.refl (α := State) _)
    | (conv => arg 3; zeta); split
    | split)

theorem State.replEpoch_stays {s : State} {i n : Nat} :
    Stays { head := true, rdma := true, repl := true, out := true } s (State.replEpoch s i n) := by
  unfold State.replEpoch
  with_reducible repeat' (first
    | exact Stays.rfl
    | exact Eq.refl (α := Mask) _
    | refine (State.sendPush_stays.up ?_).after ?_
    | refine (State.sendRBundle_stays.up ?_).after ?_
    | refine (State.setBundle_stays.up ?_).after ?_
    | refine ite_stays ?_ ?_
    | fail_if_no_progress (with_reducible refine (Stays.upd ?_).after ?_; with_reducible exact Eq.refl (α := State) _))

theorem State.replEpochs_stays {s : State} {i : Nat} :
    Stays { head := true, rdma := true, repl := true, out := true } s (State.replEpochs s i) := by
  unfold State.replEpochs
  with_reducible repeat' (first
    | exact Stays.rfl
    | exact Eq.refl (α := Mask) _
    | refine (State.replEpoch_stays.up ?_).after ?_
    | refine (foldl_stays ?_).after ?_
    | intro _ _)

theorem State.replPoints_stays {s : State} :
    Stays { rdma := true, repl := true, out := true } s (State.replPoints s) := by
  unfold State.replPoints
  with_reducible repeat' (first
    | exact Stays.rfl
    | exact Eq.refl (α := Mask) _
    | refine (State.sendPoint_stays.up ?_).after ?_
    | refine (foldl_stays ?_).after ?_
    | refine ite_stays ?_ ?_
    | fail_if_no_progress (with_reducible refine (Stays.upd ?_).after ?_; with_reducible exact Eq.refl (α := State) _)
    | intro _ _)

theorem State.replSource_stays {s : State} :
    Stays { head := true, rdma := true, repl := true, out := true } s (State.replSource s) := by
  unfold State.replSource
  with_reducible repeat' (first
    | exact Stays.rfl
    | exact Eq.refl (α := Mask) _
    | refine (State.replEpochs_stays.up ?_).after ?_
    | refine (State.replPoints_stays.up ?_).after ?_
    | refine ite_stays ?_ ?_
    | fail_if_no_progress (with_reducible refine (Stays.upd ?_).after ?_; with_reducible exact Eq.refl (α := State) _))

theorem State.newReplGen_stays {s : State} :
    Stays { ev := true, nvme := true, cipher := true, head := true, repl := true, free := true, out := true } s (State.newReplGen s) := by
  unfold State.newReplGen
  with_reducible repeat' (first
    | exact Stays.rfl
    | exact Eq.refl (α := Mask) _
    | refine (State.event_stays.up ?_).after ?_
    | refine (State.loadRepl_stays.up ?_).after ?_
    | refine (State.record_stays.up ?_).after ?_
    | refine (State.takeFreeBytes_stays.up ?_).after ?_
    | fail_if_no_progress (with_reducible refine (Stays.upd ?_).after ?_; with_reducible exact Eq.refl (α := State) _))

theorem State.swapWord_stays {s : State} {qpn read : Nat} :
    Stays { rdma := true, repl := true, out := true } s (State.swapWord s qpn read) := by
  unfold State.swapWord
  with_reducible repeat' (first
    | exact Stays.rfl
    | exact Eq.refl (α := Mask) _
    | refine (State.emit_stays.up ?_).after ?_
    | refine (State.setQp_stays.up ?_).after ?_
    | fail_if_no_progress (with_reducible refine (Stays.upd ?_).after ?_; with_reducible exact Eq.refl (α := State) _)
    | (conv => arg 3; zeta); split)

theorem State.sendSession_stays {s : State} {word : Nat} :
    Stays { rdma := true, repl := true, out := true } s (State.sendSession s word) := by
  unfold State.sendSession
  with_reducible repeat' (first
    | exact Stays.rfl
    | exact Eq.refl (α := Mask) _
    | refine (State.sendRepl_stays.up ?_).after ?_
    | fail_if_no_progress (with_reducible refine (Stays.upd ?_).after ?_; with_reducible exact Eq.refl (α := State) _))

theorem State.rekeySession_stays {s : State} {qpn v : Nat} :
    Stays { ev := true, nvme := true, cipher := true, head := true, rdma := true, repl := true, free := true, out := true } s (State.rekeySession s qpn v) := by
  unfold State.rekeySession
  with_reducible repeat' (first
    | exact Stays.rfl
    | exact Eq.refl (α := Mask) _
    | refine (State.alarm_stays.up ?_).after ?_
    | refine (State.newReplGen_stays.up ?_).after ?_
    | refine (State.swapWord_stays.up ?_).after ?_
    | refine ite_stays ?_ ?_
    | fail_if_no_progress (with_reducible refine (Stays.upd ?_).after ?_; with_reducible exact Eq.refl (α := State) _))

theorem State.sessionGoesOn_stays {s : State} :
    Stays { ev := true, nvme := true, cipher := true, head := true, rdma := true, repl := true, free := true, out := true } s (State.sessionGoesOn s) := by
  unfold State.sessionGoesOn
  with_reducible repeat' (first
    | exact Stays.rfl
    | exact Eq.refl (α := Mask) _
    | refine (State.rekeySession_stays.up ?_).after ?_
    | refine ite_stays ?_ ?_
    | fail_if_no_progress (with_reducible refine (Stays.upd ?_).after ?_; with_reducible exact Eq.refl (α := State) _)
    | (conv => arg 3; zeta); split
    | split)

theorem State.wordAnswer_stays {s : State} {qpn v : Nat} :
    Stays { ev := true, nvme := true, cipher := true, head := true, rdma := true, repl := true, free := true, out := true } s (State.wordAnswer s qpn v) := by
  unfold State.wordAnswer
  with_reducible repeat' (first
    | exact Stays.rfl
    | refine (State.rekeySession_stays.up ?_).after ?_
    | fail_if_no_progress (with_reducible refine (Stays.upd ?_).after ?_; with_reducible exact Eq.refl (α := State) _)
    | refine (State.alarm_stays.up ?_).after ?_
    | fail_if_no_progress (with_reducible refine (Stays.upd ?_).after ?_; with_reducible exact Eq.refl (α := State) _)
    | split
    | exact Eq.refl (α := Mask) _
    | refine (State.newReplGen_stays.up ?_).after ?_
    | refine (State.sendSession_stays.up ?_).after ?_
    | refine (State.swapWord_stays.up ?_).after ?_
    | refine ite_stays ?_ ?_
    | (conv => arg 3; zeta); split)

theorem execRdmaAck_keeps {qpn : Nat} {psn : Fin 16777216} {credits : Nat} {resp : Option Bytes} {s : State} :
    Keeps { ev := true, nvme := true, cipher := true, head := true, rdma := true, repl := true, free := true, out := true } s (execRdmaAck qpn psn credits resp s) := by
  unfold execRdmaAck
  with_reducible repeat' (first
    | exact Stays.rfl
    | exact Eq.refl (α := Mask) _
    | refine onlyIf_keeps ?_
    | refine (State.ackUpTo_stays.up ?_).after ?_
    | refine (State.emit_stays.up ?_).after ?_
    | refine (State.qpError_stays.up ?_).after ?_
    | refine (State.wordAnswer_stays.up ?_).after ?_
    | refine ite_stays ?_ ?_
    | split)

theorem State.beginSession_stays {s : State} :
    Stays { rdma := true, repl := true, out := true } s (State.beginSession s) := by
  unfold State.beginSession
  with_reducible repeat' (first
    | exact Stays.rfl
    | exact Eq.refl (α := Mask) _
    | refine (State.startTaking_stays.up ?_).after ?_
    | (conv => arg 3; zeta); split)

theorem execReplRekey_keeps {s : State} :
    Keeps { rdma := true, repl := true, out := true } s (execReplRekey s) := by
  unfold execReplRekey
  with_reducible repeat' (first
    | exact Stays.rfl
    | exact Eq.refl (α := Mask) _
    | refine onlyIf_keeps ?_
    | refine (State.beginSession_stays.up ?_).after ?_)

theorem State.startResync_stays {s : State} :
    Stays { head := true, rdma := true, repl := true, out := true } s (State.startResync s) := by
  unfold State.startResync
  with_reducible repeat' (first
    | exact Stays.rfl
    | exact Eq.refl (α := Mask) _
    | refine (State.beginSession_stays.up ?_).after ?_
    | refine (State.record_stays.up ?_).after ?_
    | refine ite_stays ?_ ?_
    | fail_if_no_progress (with_reducible refine (Stays.upd ?_).after ?_; with_reducible exact Eq.refl (α := State) _))

theorem State.sendDiff_stays {s : State} {nsid base e : Nat} :
    Stays { rdma := true, repl := true, out := true } s (State.sendDiff s nsid base e) := by
  unfold State.sendDiff
  with_reducible repeat' (first
    | exact Stays.rfl
    | exact Eq.refl (α := Mask) _
    | refine (State.sendRepl_stays.up ?_).after ?_
    | refine (foldl_stays ?_).after ?_
    | intro _ _)

theorem State.resyncStep_stays {s : State} :
    Stays { head := true, rdma := true, repl := true, out := true } s (State.resyncStep s) := by
  unfold State.resyncStep
  with_reducible repeat' (first
    | exact Stays.rfl
    | exact Eq.refl (α := Mask) _
    | refine (State.replSource_stays.up ?_).after ?_
    | refine (State.sendDiff_stays.up ?_).after ?_
    | refine (State.sendPoint_stays.up ?_).after ?_
    | refine (foldl_stays ?_).after ?_
    | refine ite_stays ?_ ?_
    | fail_if_no_progress (with_reducible refine (Stays.upd ?_).after ?_; with_reducible exact Eq.refl (α := State) _)
    | intro _ _)

theorem answerPulls_stays  {x0 : List (PullEntry × Option Bytes)} {x1 : State} :
    Stays { rdma := true, repl := true, out := true } x1 (answerPulls x0 x1) := by
  induction x0 generalizing x1 with
  | nil =>
    unfold answerPulls
    with_reducible exact Stays.rfl
  | cons y ys ih =>
    unfold answerPulls
    with_reducible repeat' (first
      | exact Stays.rfl
      | refine ih.after ?_
      | exact Eq.refl (α := Mask) _
      | refine (State.sendRepl_stays.up ?_).after ?_
      | fail_if_no_progress (with_reducible refine (Stays.upd ?_).after ?_; with_reducible exact Eq.refl (α := State) _))

theorem execPull_keeps {h : ReplHdr} {entries : List (PullEntry × Option Bytes)} {s : State} :
    Keeps { rdma := true, repl := true, out := true } s (execPull h entries s) := by
  unfold execPull
  with_reducible repeat' (first
    | exact Stays.rfl
    | exact Eq.refl (α := Mask) _
    | refine onlyIf_keeps ?_
    | refine (answerPulls_stays.up ?_).after ?_)

theorem State.resend_stays {s : State} {point : Nat} :
    Stays { rdma := true, repl := true, out := true } s (State.resend s point) := by
  unfold State.resend
  with_reducible repeat' (first
    | exact Stays.rfl
    | exact Eq.refl (α := Mask) _
    | refine (State.sendPoint_stays.up ?_).after ?_
    | refine (State.sendPush_stays.up ?_).after ?_
    | refine (State.sendRBundle_stays.up ?_).after ?_
    | refine (foldl_stays ?_).after ?_
    | intro _ _)

theorem execSessionAck_keeps {h : ReplHdr} {partner : Bytes} {point r0 r1 : Nat} {pulls : List (PullEntry × Option Bytes)} {s : State} :
    Keeps { ev := true, nvme := true, cipher := true, head := true, rdma := true, repl := true, out := true } s (execSessionAck h partner point r0 r1 pulls s) := by
  unfold execSessionAck
  with_reducible repeat' (first
    | exact Stays.rfl
    | refine keeps_next ?_
    | refine ite_keeps ?_ ?_
    | refine onlyIf_keeps ?_ ?_
    | refine (State.markSent_stays.up ?_).after ?_
    | refine (State.dropReplGen_stays.up ?_).after ?_
    | refine (foldl2_stays ?_).after ?_
    | intro _
    | fail_if_no_progress (with_reducible refine (Stays.upd ?_).after ?_; with_reducible exact Eq.refl (α := State) _)
    | split
    | exact Eq.refl (α := Mask) _
    | refine onlyIf_keeps ?_
    | refine (State.clearAlarm_stays.up ?_).after ?_
    | refine (State.event_stays.up ?_).after ?_
    | refine (State.resend_stays.up ?_).after ?_
    | refine (State.resyncStep_stays.up ?_).after ?_
    | refine (State.revoke_stays.up ?_).after ?_
    | refine (State.sendKeyRec_stays.up ?_).after ?_
    | refine (State.startResync_stays.up ?_).after ?_
    | refine (answerPulls_stays.up ?_).after ?_
    | refine (foldl_stays ?_).after ?_
    | refine ite_stays ?_ ?_
    | fail_if_no_progress (with_reducible refine (Stays.upd ?_).after ?_; with_reducible exact Eq.refl (α := State) _)
    | intro _ _)

theorem execReceipt_keeps {h : ReplHdr} {s : State} :
    Keeps { ev := true, nvme := true, head := true, repl := true, out := true } s (execReceipt h s) := by
  unfold execReceipt
  with_reducible repeat' (first
    | exact Stays.rfl
    | exact Eq.refl (α := Mask) _
    | refine onlyIf_keeps ?_
    | refine (State.clearAlarm_stays.up ?_).after ?_
    | refine (State.record_stays.up ?_).after ?_
    | refine (State.setStream_stays.up ?_).after ?_
    | refine ite_stays ?_ ?_
    | fail_if_no_progress (with_reducible refine (Stays.upd ?_).after ?_; with_reducible exact Eq.refl (α := State) _))

theorem execApplied_keeps {h : ReplHdr} {s : State} :
    Keeps { ev := true, nvme := true, head := true, repl := true, out := true } s (execApplied h s) := by
  unfold execApplied
  refine onlyIf_keeps ?_
  refine resyncEnd_stays ?_
  refine ite_stays ((State.clearAlarm_stays.up (Eq.refl _)).after ?_) ?_
  all_goals
    refine ite_stays ((State.event_stays.up (Eq.refl _)).after ((State.record_stays.up (Eq.refl _)).after ?_)) ?_
    all_goals exact Stays.upd (Eq.refl _)

theorem execReplSyncTimeout_keeps {s : State} :
    Keeps { ev := true, nvme := true, head := true, out := true } s (execReplSyncTimeout s) := by
  unfold execReplSyncTimeout
  with_reducible repeat' (first
    | exact Stays.rfl
    | exact Eq.refl (α := Mask) _
    | refine onlyIf_keeps ?_
    | refine (State.alarm_stays.up ?_).after ?_
    | refine (State.record_stays.up ?_).after ?_
    | refine ite_stays ?_ ?_)

theorem execReplLagAlarm_keeps {s : State} :
    Keeps { ev := true, nvme := true, out := true } s (execReplLagAlarm s) := by
  unfold execReplLagAlarm
  with_reducible repeat' (first
    | exact Stays.rfl
    | exact Eq.refl (α := Mask) _
    | refine onlyIf_keeps ?_
    | refine (State.alarm_stays.up ?_).after ?_)

theorem State.replBoundary_stays {s : State} :
    Stays { ev := true, nvme := true, cipher := true, head := true, rdma := true, repl := true, free := true, out := true } s (State.replBoundary s) := by
  unfold State.replBoundary
  with_reducible repeat' (first
    | exact Stays.rfl
    | refine (State.markSent_stays.up ?_).after ?_
    | refine (State.sessionGoesOn_stays.up ?_).after ?_
    | refine (foldl2_stays ?_).after ?_
    | intro _
    | fail_if_no_progress (with_reducible refine (Stays.upd ?_).after ?_; with_reducible exact Eq.refl (α := State) _)
    | split
    | exact Eq.refl (α := Mask) _
    | refine (State.beginSession_stays.up ?_).after ?_
    | refine (State.replSource_stays.up ?_).after ?_
    | refine (State.resyncStep_stays.up ?_).after ?_
    | refine (State.sendKeyRec_stays.up ?_).after ?_
    | refine (State.startResync_stays.up ?_).after ?_
    | refine (foldl_stays ?_).after ?_
    | refine ite_stays ?_ ?_
    | fail_if_no_progress (with_reducible refine (Stays.upd ?_).after ?_; with_reducible exact Eq.refl (α := State) _)
    | intro _ _
    | (conv => arg 3; zeta); split)

theorem execBodySection_keeps {i : Fin 2} {hdrOk : Bool} {h : BundleHdr} {items : List Item} {s : State} :
    Keeps { boot := true, ev := true, hem := true, nvme := true, seam := true, digest := true, cam := true, cipher := true, port := true, head := true, rdma := true, repl := true, free := true, out := true } s (execBodySection i hdrOk h items s) := by
  unfold execBodySection
  with_reducible repeat' (first
    | exact Stays.rfl
    | refine onlyIf_keeps ?_
    | refine keeps_next ?_
    | refine ite_keeps ?_ ?_
    | exact Eq.refl (α := Mask) _
    | refine bodySection_keeps.up ?_
    | refine thenDo_keeps ?_ ?_
    | refine (State.replSource_stays.up ?_).after ?_
    | intro _)

end Sys2Proof.Machine
end

