-- ==== Sys2Proof/Laws/StaysReplTarget.lean ====
section
/-! SUPPORT. The operations of Machine/ReplTarget.lean keep the fixed part and the form of the tables. -/

namespace Sys2Proof.Machine

theorem State.dupDiscard_stays {s : State} :
    Stays { ev := true, nvme := true, repl := true, out := true } s (State.dupDiscard s) := by
  unfold State.dupDiscard
  with_reducible repeat' (first
    | exact Stays.rfl
    | exact Eq.refl (α := Mask) _
    | refine (State.event_stays.up ?_).after ?_
    | fail_if_no_progress (with_reducible refine (Stays.upd ?_).after ?_; with_reducible exact Eq.refl (α := State) _))

theorem State.onMessage_keeps {m : Mask} {s : State} {type : Nat} {h : ReplHdr} {f : State → State} (hm : Mask.or { ev := true, nvme := true, repl := true, out := true } m = m) (hf : ∀ a0, Stays m a0 (f a0)) :
    Keeps m s (State.onMessage s type h f) := by
  unfold State.onMessage
  with_reducible repeat' (first
    | exact Stays.rfl
    | exact Mask.or_trans (Eq.refl _) hm
    | refine (hf ..).after ?_
    | refine onlyIf_keeps ?_
    | refine (State.alarm_stays.up ?_).after ?_
    | refine (State.dupDiscard_stays.up ?_).after ?_
    | refine (State.sessionDown_stays.up ?_).after ?_
    | refine ite_stays ?_ ?_
    | fail_if_no_progress (with_reducible refine ((Stays.upd (m := { ev := true, nvme := true, repl := true, out := true }) ?_).up hm).after ?_; with_reducible exact Eq.refl (α := State) _)
    | split)

theorem State.sendControl_stays {s : State} {type stream ident : Nat} :
    Stays { rdma := true, out := true } s (State.sendControl s type stream ident) := by
  unfold State.sendControl
  with_reducible repeat' (first
    | exact Stays.rfl
    | exact Eq.refl (α := Mask) _
    | refine (State.emit_stays.up ?_).after ?_
    | refine (State.postSend_stays.up ?_).after ?_
    | refine (foldl_stays ?_).after ?_
    | intro _ _)

theorem State.ackSession_stays {s : State} :
    Stays { rdma := true, repl := true, out := true } s (State.ackSession s) := by
  unfold State.ackSession
  with_reducible repeat' (first
    | exact Stays.rfl
    | exact Eq.refl (α := Mask) _
    | refine (State.sendRepl_stays.up ?_).after ?_
    | fail_if_no_progress (with_reducible refine (Stays.upd ?_).after ?_; with_reducible exact Eq.refl (α := State) _))

theorem execReplSession_keeps {h : ReplHdr} {array : Bytes} {format : Nat} {w0 w1 : Bytes} {s : State} :
    Keeps { ev := true, nvme := true, cipher := true, rdma := true, repl := true, out := true } s (execReplSession h array format w0 w1 s) := by
  unfold execReplSession
  with_reducible repeat' (first
    | exact Stays.rfl
    | exact Eq.refl (α := Mask) _
    | refine onlyIf_keeps ?_
    | refine (State.ackSession_stays.up ?_).after ?_
    | refine (State.alarm_stays.up ?_).after ?_
    | refine (State.clearAlarm_stays.up ?_).after ?_
    | refine (State.dupDiscard_stays.up ?_).after ?_
    | refine (State.event_stays.up ?_).after ?_
    | refine (State.loadRepl_stays.up ?_).after ?_
    | refine ite_stays ?_ ?_
    | fail_if_no_progress (with_reducible refine (Stays.upd ?_).after ?_; with_reducible exact Eq.refl (α := State) _))

theorem execKeyrec_keeps {h : ReplHdr} {r : KeyRec} {s : State} :
    Keeps { ev := true, nvme := true, head := true, repl := true, out := true } s (execKeyrec h r s) := by
  unfold execKeyrec
  with_reducible repeat' (first
    | exact Stays.rfl
    | exact Eq.refl (α := Mask) _
    | refine State.onMessage_keeps ?_ ?_
    | refine (State.alarm_stays.up ?_).after ?_
    | refine (State.record_stays.up ?_).after ?_
    | split
    | (conv => arg 3; zeta); split
    | intro _)

theorem State.stageRepl_stays {s : State} {domain lost : Nat} {fp content : Bytes} :
    Stays { head := true, repl := true } s (State.stageRepl s domain lost fp content) := by
  unfold State.stageRepl
  with_reducible repeat' (first
    | exact Stays.rfl
    | exact Eq.refl (α := Mask) _
    | refine (State.setStream_stays.up ?_).after ?_
    | fail_if_no_progress (with_reducible refine (Stays.upd ?_).after ?_; with_reducible exact Eq.refl (α := State) _))

theorem State.lookUp_stays {s : State} {r : TargetRec} :
    Stays { ev := true, nvme := true, cam := true, port := true, head := true, repl := true, out := true } s (State.lookUp s r) := by
  unfold State.lookUp
  with_reducible repeat' (first
    | exact Stays.rfl
    | exact Eq.refl (α := Mask) _
    | refine (State.hotFind_stays.up ?_).after ?_
    | refine (State.request_stays.up ?_).after ?_
    | refine (State.stageRepl_stays.up ?_).after ?_
    | refine ite_stays ?_ ?_
    | fail_if_no_progress (with_reducible refine (Stays.upd ?_).after ?_; with_reducible exact Eq.refl (α := State) _)
    | (conv => arg 3; zeta); split)

theorem pullGo_stays  {x0 : List (Nat × Bytes)} {x1 : State} {x2 : List PullEntry} :
    Stays { repl := true } x1 (pullGo x0 x1 x2).2 := by
  induction x0 generalizing x1 x2 with
  | nil =>
    unfold pullGo
    with_reducible exact Stays.rfl
  | cons y ys ih =>
    unfold pullGo
    with_reducible repeat' (first
      | exact Stays.rfl
      | exact ih
      | refine ih.after ?_
      | exact Eq.refl (α := Mask) _
      | refine (State.replReq_stays.up ?_).after ?_
      | fail_if_no_progress (with_reducible refine (Stays.upd ?_).after ?_; with_reducible exact Eq.refl (α := State) _)
      | (conv => arg 3; zeta); split)

theorem State.sendPulls_stays {s : State} :
    Stays { rdma := true, repl := true, out := true } s (State.sendPulls s) := by
  unfold State.sendPulls
  with_reducible repeat' (first
    | exact Stays.rfl
    | exact Eq.refl (α := Mask) _
    | refine (State.sendRepl_stays.up ?_).after ?_
    | refine (pullGo_stays.up ?_).after ?_
    | refine ite_stays ?_ ?_
    | fail_if_no_progress (with_reducible refine (Stays.upd ?_).after ?_; with_reducible exact Eq.refl (α := State) _)
    | (conv => arg 3; zeta); split)

theorem State.resolveRecs_stays {s : State} :
    Stays { repl := true } s (State.resolveRecs s) := by
  unfold State.resolveRecs
  with_reducible repeat' (first
    | exact Stays.rfl
    | fail_if_no_progress (with_reducible refine (Stays.upd ?_).after ?_; with_reducible exact Eq.refl (α := State) _))

theorem admitGo_stays {limit : Option Nat} {x0 : List TargetRec} {x1 : List Nat} {x2 : State} :
    Stays { head := true, repl := true } x2 (admitGo limit x0 x1 x2).2 := by
  induction x0 generalizing limit x1 x2 with
  | nil =>
    unfold admitGo
    with_reducible exact Stays.rfl
  | cons y ys ih =>
    unfold admitGo
    with_reducible repeat' (first
      | exact Stays.rfl
      | exact ih
      | refine ih.after ?_
      | exact Eq.refl (α := Mask) _
      | refine (State.record_stays.up ?_).after ?_
      | refine (State.setStream_stays.up ?_).after ?_
      | fail_if_no_progress (with_reducible refine (Stays.upd ?_).after ?_; with_reducible exact Eq.refl (α := State) _)
      | (conv => arg 3; zeta); split)

theorem State.noteAdmitted_stays {s : State} :
    Stays { repl := true } s (State.noteAdmitted s) := by
  unfold State.noteAdmitted
  with_reducible repeat' (first
    | exact Stays.rfl
    | fail_if_no_progress (with_reducible refine (Stays.upd ?_).after ?_; with_reducible exact Eq.refl (α := State) _))

theorem receiptGo_stays  {x0 : List Admitted} {x1 : List Nat} {x2 : State} :
    Stays { rdma := true, repl := true, out := true } x2 (receiptGo x0 x1 x2).2 := by
  induction x0 generalizing x1 x2 with
  | nil =>
    unfold receiptGo
    with_reducible exact Stays.rfl
  | cons y ys ih =>
    unfold receiptGo
    with_reducible repeat' (first
      | exact Stays.rfl
      | exact ih
      | refine ih.after ?_
      | exact Eq.refl (α := Mask) _
      | refine (State.sendControl_stays.up ?_).after ?_
      | refine ite_stays ?_ ?_
      | fail_if_no_progress (with_reducible refine (Stays.upd ?_).after ?_; with_reducible exact Eq.refl (α := State) _)
      | (conv => arg 3; zeta); split)

theorem State.applyPoints_stays {s : State} :
    Stays { ev := true, nvme := true, rdma := true, repl := true, out := true } s (State.applyPoints s) := by
  unfold State.applyPoints
  with_reducible repeat' (first
    | exact Stays.rfl
    | exact Eq.refl (α := Mask) _
    | refine (State.event_stays.up ?_).after ?_
    | refine (State.sendControl_stays.up ?_).after ?_
    | refine (foldl_stays ?_).after ?_
    | fail_if_no_progress (with_reducible refine (Stays.upd ?_).after ?_; with_reducible exact Eq.refl (α := State) _)
    | intro _ _)

theorem State.replTarget_stays {s : State} :
    Stays { ev := true, nvme := true, head := true, rdma := true, repl := true, out := true } s (State.replTarget s) := by
  unfold State.replTarget
  with_reducible repeat' (first
    | exact Stays.rfl
    | exact Eq.refl (α := Mask) _
    | refine (State.applyPoints_stays.up ?_).after ?_
    | refine (State.noteAdmitted_stays.up ?_).after ?_
    | refine (State.resolveRecs_stays.up ?_).after ?_
    | refine (State.sendPulls_stays.up ?_).after ?_
    | refine (admitGo_stays.up ?_).after ?_
    | refine (receiptGo_stays.up ?_).after ?_
    | refine ite_stays ?_ ?_
    | fail_if_no_progress (with_reducible refine (Stays.upd ?_).after ?_; with_reducible exact Eq.refl (α := State) _))

theorem State.enterRecs_stays {s : State} {stream epn : Nat} {recs : List ReplRec} :
    Stays { ev := true, nvme := true, cam := true, port := true, head := true, repl := true, out := true } s (State.enterRecs s stream epn recs) := by
  unfold State.enterRecs
  with_reducible repeat' (first
    | exact Stays.rfl
    | exact Eq.refl (α := Mask) _
    | refine (State.lookUp_stays.up ?_).after ?_
    | refine (foldl_stays ?_).after ?_
    | fail_if_no_progress (with_reducible refine (Stays.upd ?_).after ?_; with_reducible exact Eq.refl (α := State) _)
    | intro _ _)

theorem chainGo_stays {i : Nat} {x0 : Nat} {x1 : State} :
    Stays { ev := true, nvme := true, cam := true, port := true, head := true, repl := true, out := true } x1 (chainGo i x0 x1) := by
  induction x0 generalizing i x1 with
  | zero =>
    unfold chainGo
    with_reducible exact Stays.rfl
  | succ k ih =>
    unfold chainGo
    with_reducible repeat' (first
      | exact Stays.rfl
      | refine ih.after ?_
      | exact Eq.refl (α := Mask) _
      | refine (State.enterRecs_stays.up ?_).after ?_
      | fail_if_no_progress (with_reducible refine (Stays.upd ?_).after ?_; with_reducible exact Eq.refl (α := State) _)
      | (conv => arg 3; zeta); split)

theorem execRbundle_keeps {h : ReplHdr} {recs : List ReplRec} {s : State} :
    Keeps { ev := true, nvme := true, cam := true, port := true, head := true, rdma := true, repl := true, out := true } s (execRbundle h recs s) := by
  unfold execRbundle
  with_reducible repeat' (first
    | exact Stays.rfl
    | exact Eq.refl (α := Mask) _
    | refine State.onMessage_keeps ?_ ?_
    | refine (State.dupDiscard_stays.up ?_).after ?_
    | refine (State.replTarget_stays.up ?_).after ?_
    | refine (chainGo_stays.up ?_).after ?_
    | refine ite_stays ?_ ?_
    | fail_if_no_progress (with_reducible refine (Stays.upd ?_).after ?_; with_reducible exact Eq.refl (α := State) _)
    | intro _)

theorem execRdiff_keeps {h : ReplHdr} {recs : List ReplRec} {s : State} :
    Keeps { ev := true, nvme := true, cam := true, port := true, head := true, rdma := true, repl := true, out := true } s (execRdiff h recs s) := by
  unfold execRdiff
  with_reducible repeat' (first
    | exact Stays.rfl
    | exact Eq.refl (α := Mask) _
    | refine State.onMessage_keeps ?_ ?_
    | refine (State.enterRecs_stays.up ?_).after ?_
    | refine (State.replTarget_stays.up ?_).after ?_
    | intro _)

theorem execPoint_keeps {h : ReplHdr} {snap quality : Nat} {last : List Nat} {s : State} :
    Keeps { ev := true, nvme := true, repl := true, out := true } s (execPoint h snap quality last s) := by
  unfold execPoint
  with_reducible repeat' (first
    | exact Stays.rfl
    | exact Eq.refl (α := Mask) _
    | refine State.onMessage_keeps ?_ ?_
    | refine ite_stays ?_ ?_
    | fail_if_no_progress (with_reducible refine (Stays.upd ?_).after ?_; with_reducible exact Eq.refl (α := State) _)
    | intro _)

theorem execReplicaPointCut_keeps {s : State} :
    Keeps { head := true, repl := true } s (execReplicaPointCut s) := by
  unfold execReplicaPointCut
  with_reducible repeat' (first
    | exact Stays.rfl
    | exact Eq.refl (α := Mask) _
    | refine keeps_next ?_
    | refine (State.record_stays.up ?_).after ?_
    | refine ite_stays ?_ ?_
    | fail_if_no_progress (with_reducible refine (Stays.upd ?_).after ?_; with_reducible exact Eq.refl (α := State) _)
    | split)

theorem execReplChunk_keeps {h : ReplHdr} {c : ReplChunk} {s : State} :
    Keeps { ev := true, nvme := true, head := true, rdma := true, repl := true, out := true } s (execReplChunk h c s) := by
  unfold execReplChunk
  with_reducible repeat' (first
    | exact Stays.rfl
    | exact Eq.refl (α := Mask) _
    | refine State.onMessage_keeps ?_ ?_
    | refine (State.alarm_stays.up ?_).after ?_
    | refine (State.replReq_stays.up ?_).after ?_
    | refine (State.replTarget_stays.up ?_).after ?_
    | refine (State.sendRepl_stays.up ?_).after ?_
    | refine (State.sessionDown_stays.up ?_).after ?_
    | refine (State.stageRepl_stays.up ?_).after ?_
    | refine ite_stays ?_ ?_
    | fail_if_no_progress (with_reducible refine (Stays.upd ?_).after ?_; with_reducible exact Eq.refl (α := State) _)
    | split
    | intro _)

theorem execPush_keeps {h : ReplHdr} {cs : List ReplChunk} {s : State} :
    Keeps { ev := true, nvme := true, head := true, rdma := true, repl := true, out := true } s (execPush h cs s) := by
  unfold execPush
  with_reducible repeat' (first
    | exact Stays.rfl
    | exact Eq.refl (α := Mask) _
    | refine State.onMessage_keeps ?_ ?_
    | refine (State.replTarget_stays.up ?_).after ?_
    | refine (State.stageRepl_stays.up ?_).after ?_
    | refine (foldl_stays ?_).after ?_
    | refine ite_stays ?_ ?_
    | fail_if_no_progress (with_reducible refine (Stays.upd ?_).after ?_; with_reducible exact Eq.refl (α := State) _)
    | intro _ _
    | intro _)

theorem execReplLookupTimeout_keeps {s : State} :
    Keeps { rdma := true, repl := true, out := true } s (execReplLookupTimeout s) := by
  unfold execReplLookupTimeout
  with_reducible repeat' (first
    | exact Stays.rfl
    | exact Eq.refl (α := Mask) _
    | refine onlyIf_keeps ?_
    | refine (State.sendPulls_stays.up ?_).after ?_
    | fail_if_no_progress (with_reducible refine (Stays.upd ?_).after ?_; with_reducible exact Eq.refl (α := State) _))

theorem execReplRepairReq_keeps {h : ReplHdr} {domain : Nat} {fp : Bytes} {read : Option Bytes} {s : State} :
    Keeps { rdma := true, repl := true, out := true } s (execReplRepairReq h domain fp read s) := by
  unfold execReplRepairReq
  with_reducible repeat' (first
    | exact Stays.rfl
    | exact Eq.refl (α := Mask) _
    | refine onlyIf_keeps ?_
    | refine (State.sendRepl_stays.up ?_).after ?_)

theorem execRepairData_keeps {h : ReplHdr} {c : ReplChunk} {s : State} :
    Keeps { nvme := true, seam := true, port := true, head := true, repl := true, out := true } s (execRepairData h c s) := by
  unfold execRepairData
  with_reducible repeat' (first
    | exact Stays.rfl
    | exact Eq.refl (α := Mask) _
    | refine onlyIf_keeps ?_
    | refine (State.repaired_stays.up ?_).after ?_
    | fail_if_no_progress (with_reducible refine (Stays.upd ?_).after ?_; with_reducible exact Eq.refl (α := State) _)
    | split)

theorem State.replStep_stays {s : State} :
    Stays { ev := true, nvme := true, head := true, rdma := true, repl := true, out := true } s (State.replStep s) := by
  unfold State.replStep
  with_reducible repeat' (first
    | exact Stays.rfl
    | exact Eq.refl (α := Mask) _
    | refine (State.replSource_stays.up ?_).after ?_
    | refine (State.replTarget_stays.up ?_).after ?_)

theorem execBodyComplete_keeps {i : Fin 2} {n : Nat} {s : State} :
    Keeps { boot := true, ev := true, hem := true, nvme := true, seam := true, digest := true, cam := true, cipher := true, port := true, head := true, rdma := true, repl := true, free := true, out := true } s (execBodyComplete i n s) := by
  unfold execBodyComplete
  with_reducible repeat' (first
    | exact Stays.rfl
    | refine onlyIf_keeps ?_
    | refine keeps_next ?_
    | refine ite_keeps ?_ ?_
    | exact Eq.refl (α := Mask) _
    | refine bodyComplete_keeps.up ?_
    | refine thenDo_keeps ?_ ?_
    | refine (State.replStep_stays.up ?_).after ?_
    | intro _)

theorem execHemDurable_keeps {i : Fin 2} {n : Nat} {what : Fin 3} {s : State} :
    Keeps { ev := true, nvme := true, seam := true, head := true, rdma := true, repl := true, out := true } s (execHemDurable i n what s) := by
  unfold execHemDurable
  with_reducible repeat' (first
    | exact Stays.rfl
    | exact Eq.refl (α := Mask) _
    | refine hemDurable_keeps.up ?_
    | refine thenDo_keeps ?_ ?_
    | refine (State.replTarget_stays.up ?_).after ?_
    | intro _)

theorem execSeamDurable_keeps {i : Fin 2} {n : Nat} {bits : BitVec 3} {s : State} :
    Keeps { ev := true, nvme := true, seam := true, head := true, rdma := true, repl := true, out := true } s (execSeamDurable i n bits s) := by
  unfold execSeamDurable
  with_reducible repeat' (first
    | exact Stays.rfl
    | exact Eq.refl (α := Mask) _
    | refine seamDurable_keeps.up ?_
    | refine thenDo_keeps ?_ ?_
    | refine (State.replTarget_stays.up ?_).after ?_
    | intro _)

theorem execSpokeAck_keeps {h : FrameHdr} {es : List AckEntry} {s : State} :
    Keeps { ev := true, ring := true, hem := true, nvme := true, cam := true, port := true, head := true, rdma := true, repl := true, out := true } s (execSpokeAck h es s) := by
  unfold execSpokeAck
  with_reducible repeat' (first
    | exact Stays.rfl
    | refine onlyIf_keeps ?_
    | refine keeps_next ?_
    | refine ite_keeps ?_ ?_
    | exact Eq.refl (α := Mask) _
    | refine spokeAck_keeps.up ?_
    | refine thenDo_keeps ?_ ?_
    | refine (State.replTarget_stays.up ?_).after ?_
    | intro _)

theorem execIdxQueryReply_keeps {h : FrameHdr} {result chunkId : Nat} {s : State} :
    Keeps { ev := true, ring := true, nvme := true, port := true, head := true, rdma := true, repl := true, out := true } s (execIdxQueryReply h result chunkId s) := by
  unfold execIdxQueryReply
  with_reducible repeat' (first
    | exact Stays.rfl
    | exact Eq.refl (α := Mask) _
    | refine idxQueryReply_keeps.up ?_
    | refine thenDo_keeps ?_ ?_
    | refine (State.replTarget_stays.up ?_).after ?_
    | intro _)

end Sys2Proof.Machine
end

