-- ==== Sys2Proof/Laws/StaysBoundary.lean ====
section
/-! SUPPORT. The operations of Machine/Boundary.lean keep the fixed part and the form of the tables. -/

namespace Sys2Proof.Machine

theorem State.handbackAt_stays {s : State} {x i : Nat} :
    Stays { ev := true, nvme := true, seam := true, head := true, out := true } s (State.handbackAt s x i) := by
  unfold State.handbackAt
  with_reducible repeat' (first
    | exact Stays.rfl
    | exact Eq.refl (α := Mask) _
    | refine (State.event_stays.up ?_).after ?_
    | refine (State.reply_stays.up ?_).after ?_
    | refine (State.setStream_stays.up ?_).after ?_
    | refine (foldl_stays ?_).after ?_
    | refine ite_stays ?_ ?_
    | fail_if_no_progress (with_reducible refine (Stays.upd ?_).after ?_; with_reducible exact Eq.refl (α := State) _)
    | intro _ _
    | (conv => arg 3; zeta); split)

theorem State.handbackDone_stays {s : State} {i : Nat} :
    Stays { head := true } s (State.handbackDone s i) := by
  unfold State.handbackDone
  with_reducible repeat' (first
    | exact Stays.rfl
    | exact Eq.refl (α := Mask) _
    | refine (State.setStream_stays.up ?_).after ?_
    | refine ite_stays ?_ ?_)

theorem State.partBoundary_stays {s : State} :
    Stays { ev := true, power := true, eng := true, mem := true, ring := true, mc := true, hem := true, nvme := true, digest := true, cam := true, press := true, cipher := true, port := true, free := true, out := true } s (State.partBoundary s) := by
  unfold State.partBoundary
  repeat' (first
    | with_reducible exact Stays.rfl
    | with_reducible exact Eq.refl (α := Mask) _
    | (intro h; exact h)
    | exact List.length_map _
    | with_reducible exact Eq.refl (α := State) _
    | with_reducible rfl
    | with_reducible refine (State.avsStep_stays.up ?_).after ?_
    | with_reducible refine (State.revokeBoundary_stays.up ?_).after ?_
    | with_reducible refine (State.ringClears_stays.up ?_).after ?_
    | with_reducible refine (State.ringNotice_stays.up ?_).after ?_
    | with_reducible refine (State.switchDomains_stays.up ?_).after ?_
    | fail_if_no_progress (with_reducible refine (Stays.upd ?_).after ?_; with_reducible exact Eq.refl (α := State) _)
    | with_reducible refine (Stays.all ?_ ?_ ?_ ?_ ?_ ?_ ?_ ?_).after ?_)

theorem State.shelfBoundary_stays {s : State} :
    Stays { ev := true, eng := true, mem := true, ring := true, mc := true, hem := true, nvme := true, flash := true, sh := true, free := true, out := true } s (State.shelfBoundary s) := by
  unfold State.shelfBoundary
  with_reducible repeat' (first
    | exact Stays.rfl
    | exact Eq.refl (α := Mask) _
    | refine (State.flashClears_stays.up ?_).after ?_
    | refine (State.kickAll_stays.up ?_).after ?_
    | refine (State.shelfWindow_stays.up ?_).after ?_)

theorem State.countWaits_stays {s : State} :
    Stays { head := true } s (State.countWaits s) := by
  unfold State.countWaits
  with_reducible repeat' (first
    | exact Stays.rfl
    | exact Eq.refl (α := Mask) _
    | intro _
    | fail_if_no_progress (with_reducible refine (Stays.upd ?_).after ?_; with_reducible exact Eq.refl (α := State) _))

theorem State.sealBoundary_stays {s : State} {x : Nat} :
    Stays { boot := true, ledger := true, time := true, ev := true, hem := true, nvme := true, seam := true, digest := true, cam := true, cipher := true, port := true, head := true, repl := true, free := true, out := true } s (State.sealBoundary s x) := by
  unfold State.sealBoundary
  with_reducible repeat' (first
    | exact Stays.rfl
    | refine (State.countWaits_stays.up ?_).after ?_
    | refine (State.applyReady_stays.up ?_).after ?_
    | exact Eq.refl (α := Mask) _
    | refine (State.finishStanding_stays.up ?_).after ?_
    | refine (State.handbackAt_stays.up ?_).after ?_
    | refine (State.handbackDone_stays.up ?_).after ?_
    | refine (State.hbBoundary_stays.up ?_).after ?_
    | refine (State.leaseMoves_stays.up ?_).after ?_
    | refine (State.sealStream_stays.up ?_).after ?_
    | refine ite_stays ?_ ?_)

theorem State.dataBoundary_stays {s : State} {x : Nat} :
    Stays { boot := true, ledger := true, ev := true, hem := true, nvme := true, seam := true, cipher := true, port := true, head := true, free := true, out := true } s (State.dataBoundary s x) := by
  unfold State.dataBoundary
  with_reducible repeat' (first
    | exact Stays.rfl
    | refine (State.permitRestarts_stays.up ?_).after ?_
    | refine (State.flushPages_stays.up ?_).after ?_
    | exact Eq.refl (α := Mask) _
    | refine (State.barrierStep_stays.up ?_).after ?_
    | refine (State.cutSnaps_stays.up ?_).after ?_
    | refine (State.darnCheck_stays.up ?_).after ?_
    | refine (State.eraseStep_stays.up ?_).after ?_
    | refine (State.grantCredits_stays.up ?_).after ?_
    | refine (State.journalFlush_stays.up ?_).after ?_
    | refine (State.keysInForce_stays.up ?_).after ?_
    | refine (State.refoldBoundary_stays.up ?_).after ?_
    | refine (State.schedRecheck_stays.up ?_).after ?_
    | refine ite_stays ?_ ?_)

theorem State.sendMarks_stays {s : State} {x : Nat} :
    Stays { port := true, head := true, out := true } s (State.sendMarks s x) := by
  unfold State.sendMarks
  with_reducible repeat' (first
    | exact Stays.rfl
    | exact Eq.refl (α := Mask) _
    | refine (State.toAll_stays.up ?_).after ?_)

theorem State.hostBoundary_stays {s : State} {testEnd : Option (Fin 16)} :
    Stays { ev := true, nvme := true, seam := true, cipher := true, head := true, front := true, rdma := true, repl := true, free := true, out := true } s (State.hostBoundary s testEnd) := by
  unfold State.hostBoundary
  with_reducible repeat' (first
    | exact Stays.rfl
    | refine (State.takeHeldAdmin_stays.up ?_).after ?_
    | refine (State.testDone_stays.up ?_).after ?_
    | fail_if_no_progress (with_reducible refine (Stays.upd ?_).after ?_; with_reducible exact Eq.refl (α := State) _)
    | split
    | exact Eq.refl (α := Mask) _
    | refine (State.adminCheck_stays.up ?_).after ?_
    | refine (State.anaUpdate_stays.up ?_).after ?_
    | refine (State.deleteSqs_stays.up ?_).after ?_
    | refine (State.endTest_stays.up ?_).after ?_
    | refine (State.psStep_stays.up ?_).after ?_
    | refine (State.rdmaBoundary_stays.up ?_).after ?_
    | refine (State.replBoundary_stays.up ?_).after ?_
    | refine (State.replTarget_stays.up ?_).after ?_
    | refine (State.takeLogCopies_stays.up ?_).after ?_
    | refine (State.testStep_stays.up ?_).after ?_
    | refine ite_stays ?_ ?_
    | (conv => arg 3; zeta); split)

theorem State.noteEpoch_stays {s : State} {x : Nat} :
    Stays { boot := true, ev := true, hem := true, nvme := true, out := true } s (State.noteEpoch s x) := by
  unfold State.noteEpoch
  with_reducible repeat' (first
    | exact Stays.rfl
    | exact Eq.refl (α := Mask) _
    | refine (State.ckptEpoch_stays.up ?_).after ?_
    | refine (State.clearAlarm_stays.up ?_).after ?_
    | refine ite_stays ?_ ?_
    | fail_if_no_progress (with_reducible refine (Stays.upd ?_).after ?_; with_reducible exact Eq.refl (α := State) _))

theorem State.noteQuality_stays {s : State} {x : Nat} :
    Stays { repl := true } s (State.noteQuality s x) := by
  unfold State.noteQuality
  with_reducible repeat' (first
    | exact Stays.rfl
    | exact Eq.refl (α := Mask) _
    | intro _
    | refine ite_stays ?_ ?_
    | fail_if_no_progress (with_reducible refine (Stays.upd ?_).after ?_; with_reducible exact Eq.refl (α := State) _))

theorem State.noteCut_stays {s : State} {x : Nat} :
    Stays { head := true } s (State.noteCut s x) := by
  unfold State.noteCut
  with_reducible repeat' (first
    | exact Stays.rfl
    | exact Eq.refl (α := Mask) _
    | intro _
    | fail_if_no_progress (with_reducible refine (Stays.upd ?_).after ?_; with_reducible exact Eq.refl (α := State) _))

theorem State.headBoundary_stays {s0 : State} {x : Nat} {testEnd : Option (Fin 16)} :
    Stays { boot := true, ledger := true, time := true, ev := true, hem := true, nvme := true, seam := true, digest := true, cam := true, cipher := true, port := true, head := true, front := true, rdma := true, repl := true, free := true, out := true } s0 (State.headBoundary s0 x testEnd) := by
  unfold State.headBoundary
  with_reducible repeat' (first
    | exact Stays.rfl
    | refine (State.noteCut_stays.up ?_).after ?_
    | exact Eq.refl (α := Mask) _
    | refine (State.sealBoundary_stays.up ?_).after ?_
    | refine (State.dataBoundary_stays.up ?_).after ?_
    | refine (State.sendMarks_stays.up ?_).after ?_
    | refine (State.hostBoundary_stays.up ?_).after ?_
    | refine (State.noteEpoch_stays.up ?_).after ?_
    | refine (State.noteQuality_stays.up ?_).after ?_
    | refine (State.seamDrain_stays.up ?_).after ?_
    | fail_if_no_progress (with_reducible refine (Stays.upd ?_).after ?_; with_reducible exact Eq.refl (α := State) _))

theorem State.defer_stays {s : State} {late : List (Fin 8)} :
    Stays { time := true, ev := true, nvme := true, out := true } s (State.defer s late) := by
  unfold State.defer
  with_reducible repeat' (first
    | exact Stays.rfl
    | exact Eq.refl (α := Mask) _
    | refine (State.eventArg_stays.up ?_).after ?_
    | refine (foldl_stays ?_).after ?_
    | fail_if_no_progress (with_reducible refine (Stays.upd ?_).after ?_; with_reducible exact Eq.refl (α := State) _)
    | intro _ _)

theorem State.domainPower_stays {s : State} {mw : List Nat} :
    Stays { power := true } s (State.domainPower s mw) := by
  unfold State.domainPower
  with_reducible repeat' (first
    | exact Stays.rfl
    | fail_if_no_progress (with_reducible refine (Stays.upd ?_).after ?_; with_reducible exact Eq.refl (α := State) _))

theorem execEpochBoundary_keeps {late : List (Fin 8)} {pkgDw : Nat} {cons mw : List Nat} {testEnd : Option (Fin 16)} {s : State} :
    Keeps { nor := true, boot := true, ledger := true, params := true, time := true, ev := true, mgmt := true, jtag := true, power := true, eng := true, mem := true, ring := true, mc := true, hem := true, nvme := true, seam := true, digest := true, cam := true, press := true, cipher := true, parity := true, port := true, head := true, front := true, rdma := true, repl := true, flash := true, sh := true, keep := true, free := true, out := true } s (execEpochBoundary late pkgDw cons mw testEnd s) := by
  unfold execEpochBoundary
  with_reducible repeat' (first
    | exact Stays.rfl
    | exact Eq.refl (α := Mask) _
    | refine onlyIf_keeps ?_
    | refine (State.budgetStep_stays.up ?_).after ?_
    | refine (State.defer_stays.up ?_).after ?_
    | refine (State.domainPower_stays.up ?_).after ?_
    | refine (State.headBoundary_stays.up ?_).after ?_
    | refine (State.partBoundary_stays.up ?_).after ?_
    | refine (State.restart_stays.up ?_).after ?_
    | refine (State.setT_stays.up ?_).after ?_
    | refine (State.shelfBoundary_stays.up ?_).after ?_
    | refine ite_stays ?_ ?_
    | fail_if_no_progress (with_reducible refine (Stays.upd ?_).after ?_; with_reducible exact Eq.refl (α := State) _))

end Sys2Proof.Machine
end

