-- ==== Sys2Proof/Laws/StaysCsr.lean ====
section
/-! SUPPORT. The operations of Machine/Csr.lean keep the fixed part and the form of the tables. -/

namespace Sys2Proof.Machine

theorem State.mcWrite_stays {s : State} {off : Nat} {v : Bytes} :
    Stays { mem := true, mc := true, free := true } s (State.mcWrite s off v) := by
  unfold State.mcWrite
  with_reducible repeat' (first
    | exact Stays.rfl
    | exact Eq.refl (α := Mask) _
    | refine (State.mcCmd_stays.up ?_).after ?_
    | refine (State.mcDisable_stays.up ?_).after ?_
    | refine ite_stays ?_ ?_
    | fail_if_no_progress (with_reducible refine (Stays.upd ?_).after ?_; with_reducible exact Eq.refl (α := State) _))

theorem State.matchWrite_stays {s : State} {off : Nat} {v : Bytes} :
    Stays { cam := true } s (State.matchWrite s off v) := by
  unfold State.matchWrite
  with_reducible repeat' (first
    | exact Stays.rfl
    | refine ite_stays ?_ ?_
    | fail_if_no_progress (with_reducible refine (Stays.upd ?_).after ?_; with_reducible exact Eq.refl (α := State) _))

theorem State.chanWrite_stays {s : State} {c off : Nat} {v : Bytes} :
    Stays { flash := true } s (State.chanWrite s c off v) := by
  unfold State.chanWrite
  with_reducible repeat' (first
    | exact Stays.rfl
    | exact Eq.refl (α := Mask) _
    | refine (State.setChan_stays.up ?_).after ?_
    | refine ite_stays ?_ ?_)

theorem State.pdWrite_stays {s : State} {d off : Nat} {v : Bytes} :
    Stays { power := true } s (State.pdWrite s d off v) := by
  unfold State.pdWrite
  with_reducible repeat' (first
    | exact Stays.rfl
    | exact Eq.refl (α := Mask) _
    | refine (State.setPd_stays.up ?_).after ?_
    | refine ite_stays ?_ ?_)

theorem State.csrStore_stays {s : State} {block inst off : Nat} {v : Bytes} :
    Stays { ev := true, power := true, eng := true, mem := true, ring := true, mc := true, hem := true, nvme := true, cam := true, flash := true, free := true, out := true } s (State.csrStore s block inst off v) := by
  unfold State.csrStore
  with_reducible repeat' (first
    | exact Stays.rfl
    | exact Eq.refl (α := Mask) _
    | refine (State.chanWrite_stays.up ?_).after ?_
    | refine (State.matchWrite_stays.up ?_).after ?_
    | refine (State.mcWrite_stays.up ?_).after ?_
    | refine (State.pdWrite_stays.up ?_).after ?_
    | refine (State.ringWrite_stays.up ?_).after ?_
    | refine ite_stays ?_ ?_)

theorem execCsrWrite_keeps {e : Fin 48} {pc addr : Nat} {v : Bytes} {s : State} :
    Keeps { ev := true, power := true, eng := true, mem := true, ring := true, mc := true, hem := true, nvme := true, cam := true, flash := true, free := true, out := true } s (execCsrWrite e pc addr v s) := by
  unfold execCsrWrite
  with_reducible repeat' (first
    | exact Stays.rfl
    | refine keeps_next ?_
    | refine ite_keeps ?_ ?_
    | refine onlyIf_keeps ?_ ?_
    | refine (State.setEngine_stays.up ?_).after ?_
    | intro _
    | fail_if_no_progress (with_reducible refine (Stays.upd ?_).after ?_; with_reducible exact Eq.refl (α := State) _)
    | split
    | exact Eq.refl (α := Mask) _
    | refine onlyIf_keeps ?_
    | refine (State.csrStore_stays.up ?_).after ?_
    | refine (State.eventArg_stays.up ?_).after ?_
    | refine ite_stays ?_ ?_)

end Sys2Proof.Machine
end

