-- ==== Sys2Proof/Laws/StaysJtag.lean ====
section
/-! SUPPORT. The operations of Machine/Jtag.lean keep the fixed part and the form of the tables. -/

namespace Sys2Proof.Machine

theorem State.jtagIr_stays {s : State} {ir : JtagIr} :
    Stays { jtag := true } s (State.jtagIr s ir) := by
  unfold State.jtagIr
  with_reducible repeat' (first
    | exact Stays.rfl
    | fail_if_no_progress (with_reducible refine (Stays.upd ?_).after ?_; with_reducible exact Eq.refl (α := State) _))

theorem execJtagBypass_keeps {s : State} :
    Keeps { jtag := true, out := true } s (execJtagBypass s) := by
  unfold execJtagBypass
  with_reducible repeat' (first
    | exact Stays.rfl
    | exact Eq.refl (α := Mask) _
    | refine keeps_next ?_
    | refine (State.emit_stays.up ?_).after ?_
    | refine (State.jtagIr_stays.up ?_).after ?_)

theorem execJtagIdcode_keeps {s : State} :
    Keeps { jtag := true, out := true } s (execJtagIdcode s) := by
  unfold execJtagIdcode
  with_reducible repeat' (first
    | exact Stays.rfl
    | exact Eq.refl (α := Mask) _
    | refine keeps_next ?_
    | refine (State.emit_stays.up ?_).after ?_
    | refine (State.jtagIr_stays.up ?_).after ?_)

theorem execJtagSamplePreload_keeps {pattern : Nat} {s : State} :
    Keeps { jtag := true, free := true, out := true } s (execJtagSamplePreload pattern s) := by
  unfold execJtagSamplePreload
  with_reducible repeat' (first
    | exact Stays.rfl
    | exact Eq.refl (α := Mask) _
    | refine keeps_next ?_
    | refine (State.emit_stays.up ?_).after ?_
    | refine (State.jtagIr_stays.up ?_).after ?_
    | refine (State.takeFree_stays.up ?_).after ?_
    | fail_if_no_progress (with_reducible refine (Stays.upd ?_).after ?_; with_reducible exact Eq.refl (α := State) _))

theorem State.extest_stays {s : State} {ir : JtagIr} {pattern : Nat} :
    Stays { jtag := true, free := true, out := true } s (State.extest s ir pattern) := by
  unfold State.extest
  with_reducible repeat' (first
    | exact Stays.rfl
    | exact Eq.refl (α := Mask) _
    | refine (State.emit_stays.up ?_).after ?_
    | refine (State.jtagIr_stays.up ?_).after ?_
    | refine (State.takeFree_stays.up ?_).after ?_
    | fail_if_no_progress (with_reducible refine (Stays.upd ?_).after ?_; with_reducible exact Eq.refl (α := State) _))

theorem execJtagExtest_keeps {pattern : Nat} {s : State} :
    Keeps { jtag := true, free := true, out := true } s (execJtagExtest pattern s) := by
  unfold execJtagExtest
  with_reducible repeat' (first
    | exact Stays.rfl
    | exact Eq.refl (α := Mask) _
    | refine onlyIf_keeps ?_
    | refine (State.extest_stays.up ?_).after ?_)

theorem execJtagExtestPulse_keeps {pattern : Nat} {s : State} :
    Keeps { jtag := true, free := true, out := true } s (execJtagExtestPulse pattern s) := by
  unfold execJtagExtestPulse
  with_reducible repeat' (first
    | exact Stays.rfl
    | exact Eq.refl (α := Mask) _
    | refine onlyIf_keeps ?_
    | refine (State.extest_stays.up ?_).after ?_)

theorem execJtagExtestTrain_keeps {pattern : Nat} {s : State} :
    Keeps { jtag := true, free := true, out := true } s (execJtagExtestTrain pattern s) := by
  unfold execJtagExtestTrain
  with_reducible repeat' (first
    | exact Stays.rfl
    | exact Eq.refl (α := Mask) _
    | refine onlyIf_keeps ?_
    | refine (State.extest_stays.up ?_).after ?_)

theorem execJtagEngineDebug_keeps {request : Nat} {s : State} :
    Keeps { jtag := true, free := true, out := true } s (execJtagEngineDebug request s) := by
  unfold execJtagEngineDebug
  with_reducible repeat' (first
    | exact Stays.rfl
    | exact Eq.refl (α := Mask) _
    | refine onlyIf_keeps ?_
    | refine (State.emit_stays.up ?_).after ?_
    | refine (State.jtagIr_stays.up ?_).after ?_
    | refine (State.takeFree_stays.up ?_).after ?_
    | fail_if_no_progress (with_reducible refine (Stays.upd ?_).after ?_; with_reducible exact Eq.refl (α := State) _))

end Sys2Proof.Machine
end

