-- ==== Sys2Proof/Laws/Exec.lean ====
section
/-! SUPPORT. What any command keeps: exec leaves the waiting commands alone, adds to the OTP array at most, keeps the form of the tables,
and, but for the release of POR_N, leaves the straps alone. -/

namespace Sys2Proof.Machine

theorem exec_keeps {c : Instr} {s : State} (h : ∀ r x, c ≠ .porNRelease r x) : Keeps (writes c) s (exec c s) := by
  cases c with
  | porNRelease r x => exact absurd rfl (h r x)
  | porNAssert => exact execPorNAssert_keeps
  | warmRstNRelease => exact execWarmRstNRelease_keeps
  | warmRstNAssert => exact execWarmRstNAssert_keeps
  | readyWatchdogExpiry => exact execReadyWatchdogExpiry_keeps
  | bootRomStart => exact execBootRomStart_keeps
  | bootSelect => exact execBootSelect_keeps
  | bootLoad => exact execBootLoad_keeps
  | bootDomains => exact execBootDomains_keeps
  | ledgerBegin => exact execLedgerBegin_keeps
  | bootMemory => exact execBootMemory_keeps
  | bootHem => exact execBootHem_keeps
  | bootFirmware => exact execBootFirmware_keeps
  | bootLinks => exact execBootLinks_keeps
  | bootWaitTime => exact execBootWaitTime_keeps
  | bootRecovery => exact execBootRecovery_keeps
  | bootJoin => exact execBootJoin_keeps
  | bootReady => exact execBootReady_keeps
  | barrierAbort => exact execBarrierAbort_keeps
  | timePpsEdge => exact execTimePpsEdge_keeps
  | timeRefLoss => exact execTimeRefLoss_keeps
  | timePpsTimeout => exact execTimePpsTimeout_keeps
  | ptpSync => exact execPtpSync_keeps
  | ptpSyncTimeout => exact execPtpSyncTimeout_keeps
  | holdoverExpiry => exact execHoldoverExpiry_keeps
  | slewDone => exact execSlewDone_keeps
  | skewAlarm => exact execSkewAlarm_keeps
  | epochBoundary => exact execEpochBoundary_keeps
  | heartbeatWindow => exact execHeartbeatWindow_keeps
  | leaseRenewalWindow => exact execLeaseRenewalWindow_keeps
  | checkpointWindow => exact execCheckpointWindow_keeps
  | rinseSlice => exact execRinseSlice_keeps
  | clearingSlice => exact execClearingSlice_keeps
  | ftlJournalFlush => exact execFtlJournalFlush_keeps
  | healthSampling => exact execHealthSampling_keeps
  | markLoss => exact execMarkLoss_keeps
  | dpost => exact execDpost_keeps
  | rwait => exact execRwait_keeps
  | ewait => exact execEwait_keeps
  | phtime => exact execPhtime_keeps
  | phtarm => exact execPhtarm_keeps
  | phaseTimerInterrupt => exact execPhaseTimerInterrupt_keeps
  | yildomIllegalInstruction => exact execYildomIllegalInstruction_keeps
  | engineTrap => exact execEngineTrap_keeps
  | csrWrite => exact execCsrWrite_keeps
  | ringEnable => exact execRingEnable_keeps
  | ringDisable => exact execRingDisable_keeps
  | completionRingHeadAdvance => exact execCompletionRingHeadAdvance_keeps
  | descriptorFetch => exact execDescriptorFetch_keeps
  | descriptorCompletion => exact execDescriptorCompletion_keeps
  | mcInvAll => exact execMcInvAll_keeps
  | mcInvRange => exact execMcInvRange_keeps
  | mcCleanRange => exact execMcCleanRange_keeps
  | mcCleanInvRange => exact execMcCleanInvRange_keeps
  | mcLockFill => exact execMcLockFill_keeps
  | mcUnlockRange => exact execMcUnlockRange_keeps
  | mcCleanAll => exact execMcCleanAll_keeps
  | mcEnable => exact execMcEnable_keeps
  | mcDisable => exact execMcDisable_keeps
  | hbmPatrolScrub => exact execHbmPatrolScrub_keeps
  | hbmStackFatal => exact execHbmStackFatal_keeps
  | hemDurable => exact execHemDurable_keeps
  | hemCreditLow => exact execHemCreditLow_keeps
  | hemAdmitStall => exact execHemAdmitStall_keeps
  | perstNAssert => exact execPerstNAssert_keeps
  | perstNRelease => exact execPerstNRelease_keeps
  | hotReset => exact execHotReset_keeps
  | functionLevelReset => exact execFunctionLevelReset_keeps
  | ccEnSet => exact execCcEnSet_keeps
  | ccEnClear => exact execCcEnClear_keeps
  | nssrWrite => exact execNssrWrite_keeps
  | sqTailDoorbell => exact execSqTailDoorbell_keeps
  | cqHeadDoorbell => exact execCqHeadDoorbell_keeps
  | keepAliveExpiry => exact execKeepAliveExpiry_keeps
  | fabricsConnect => exact execFabricsConnect_keeps
  | nvmeRead => exact execNvmeRead_keeps
  | nvmeWrite => exact execNvmeWrite_keeps
  | nvmeWriteZeroes => exact execNvmeWriteZeroes_keeps
  | nvmeDatasetManagement => exact execNvmeDatasetManagement_keeps
  | nvmeFlush => exact execNvmeFlush_keeps
  | nvmeCompare => exact execNvmeCompare_keeps
  | nvmeCompareAndWrite => exact execNvmeCompareAndWrite_keeps
  | nvmeVerify => exact execNvmeVerify_keeps
  | nvmeCopy => exact execNvmeCopy_keeps
  | reservationRegister => exact execReservationRegister_keeps
  | reservationAcquire => exact execReservationAcquire_keeps
  | reservationRelease => exact execReservationRelease_keeps
  | reservationReport => exact execReservationReport_keeps
  | nvmeUnsupportedOpcode => exact execNvmeUnsupportedOpcode_keeps
  | identify => exact execIdentify_keeps
  | createIoSq => exact execCreateIoSq_keeps
  | createIoCq => exact execCreateIoCq_keeps
  | deleteIoSq => exact execDeleteIoSq_keeps
  | deleteIoCq => exact execDeleteIoCq_keeps
  | nvmeAbort => exact execNvmeAbort_keeps
  | getFeatures => exact execGetFeatures_keeps
  | setFeatures => exact execSetFeatures_keeps
  | setFeaturesNumberOfQueues => exact execSetFeaturesNumberOfQueues_keeps
  | getLogPage => exact execGetLogPage_keeps
  | logArrayStatus => exact execLogArrayStatus_keeps
  | logAdmissionAndHem => exact execLogAdmissionAndHem_keeps
  | logShelfHealth => exact execLogShelfHealth_keeps
  | logStripePasses => exact execLogStripePasses_keeps
  | logBootLedger => exact execLogBootLedger_keeps
  | logBootLedgerCollected => exact execLogBootLedgerCollected_keeps
  | logEventRing => exact execLogEventRing_keeps
  | logEventSummary => exact execLogEventSummary_keeps
  | logEventRingMark => exact execLogEventRingMark_keeps
  | logAlarms => exact execLogAlarms_keeps
  | logReplication => exact execLogReplication_keeps
  | deviceSelfTestShort => exact execDeviceSelfTestShort_keeps
  | deviceSelfTestExtended => exact execDeviceSelfTestExtended_keeps
  | deviceSelfTestAbort => exact execDeviceSelfTestAbort_keeps
  | namespaceManagement => exact execNamespaceManagement_keeps
  | namespaceAttachment => exact execNamespaceAttachment_keeps
  | formatNvm => exact execFormatNvm_keeps
  | sanitize => exact execSanitize_keeps
  | firmwareImageDownload => exact execFirmwareImageDownload_keeps
  | fwCommitReplace => exact execFwCommitReplace_keeps
  | fwCommitReplaceActivate => exact execFwCommitReplaceActivate_keeps
  | fwCommitActivate => exact execFwCommitActivate_keeps
  | fwSlotWriteDone => exact execFwSlotWriteDone_keeps
  | asyncEventRequest => exact execAsyncEventRequest_keeps
  | keepAlive => exact execKeepAlive_keeps
  | commandAdmit => exact execCommandAdmit_keeps
  | fillObtained => exact execFillObtained_keeps
  | bodyComplete => exact execBodyComplete_keeps
  | sectionDigestReturn => exact execSectionDigestReturn_keeps
  | writeCompletionPost => exact execWriteCompletionPost_keeps
  | stripeOpen => exact execStripeOpen_keeps
  | sortMerge => exact execSortMerge_keeps
  | powerStateEntryDone => exact execPowerStateEntryDone_keeps
  | powerStateExitDone => exact execPowerStateExitDone_keeps
  | digest => exact execDigest_keeps
  | slotLoad => exact execSlotLoad_keeps
  | matchSearch => exact execMatchSearch_keeps
  | matchWrite => exact execMatchWrite_keeps
  | matchInvalidate => exact execMatchInvalidate_keeps
  | matchRead => exact execMatchRead_keeps
  | matchRegionsLock => exact execMatchRegionsLock_keeps
  | matchHalfFatal => exact execMatchHalfFatal_keeps
  | idxQuery => exact execIdxQuery_keeps
  | idxInsert => exact execIdxInsert_keeps
  | idxDelete => exact execIdxDelete_keeps
  | idxReplace => exact execIdxReplace_keeps
  | idxRebuildInsert => exact execIdxRebuildInsert_keeps
  | idxRangeReady => exact execIdxRangeReady_keeps
  | idxRangeDrop => exact execIdxRangeDrop_keeps
  | idxQueryReply => exact execIdxQueryReply_keeps
  | idxOpReply => exact execIdxOpReply_keeps
  | pendingWriteBack => exact execPendingWriteBack_keeps
  | shardTagRebuildDone => exact execShardTagRebuildDone_keeps
  | shardRangeRebuild => exact execShardRangeRebuild_keeps
  | compress => exact execCompress_keeps
  | resume => exact execResume_keeps
  | decompress => exact execDecompress_keeps
  | channelReset => exact execChannelReset_keeps
  | pressLaneFatal => exact execPressLaneFatal_keeps
  | xtsEnc => exact execXtsEnc_keeps
  | xtsDec => exact execXtsDec_keeps
  | gcmEnc => exact execGcmEnc_keeps
  | gcmDec => exact execGcmDec_keeps
  | keyWrap => exact execKeyWrap_keeps
  | keyUnwrap => exact execKeyUnwrap_keeps
  | keyGen => exact execKeyGen_keeps
  | keyRevoke => exact execKeyRevoke_keeps
  | keySlotZeroed => exact execKeySlotZeroed_keeps
  | domainKeyCreate => exact execDomainKeyCreate_keeps
  | cryptoEraseComplete => exact execCryptoEraseComplete_keeps
  | cryptoErasePurgeLate => exact execCryptoErasePurgeLate_keeps
  | partnerRepairTimeout => exact execPartnerRepairTimeout_keeps
  | mapPageWrite => exact execMapPageWrite_keeps
  | snapshotScheduleInstance => exact execSnapshotScheduleInstance_keeps
  | snapshotReleaseStep => exact execSnapshotReleaseStep_keeps
  | parityEncode => exact execParityEncode_keeps
  | parityReconstruct => exact execParityReconstruct_keeps
  | parityCheck => exact execParityCheck_keeps
  | shelfLinkLossFail => exact execShelfLinkLossFail_keeps
  | plannedAbsenceExpiry => exact execPlannedAbsenceExpiry_keeps
  | darningRebuildStrip => exact execDarningRebuildStrip_keeps
  | refoldRelocate => exact execRefoldRelocate_keeps
  | seamFlitBad => exact execSeamFlitBad_keeps
  | seamLaneRetire => exact execSeamLaneRetire_keeps
  | seamHeartbeat => exact execSeamHeartbeat_keeps
  | seamDurable => exact execSeamDurable_keeps
  | seamResendReq => exact execSeamResendReq_keeps
  | seamRelease => exact execSeamRelease_keeps
  | sealSection => exact execSealSection_keeps
  | bodySection => exact execBodySection_keeps
  | catchupReq => exact execCatchupReq_keeps
  | fwdCmd => exact execFwdCmd_keeps
  | fwdDone => exact execFwdDone_keeps
  | adminFwd => exact execAdminFwd_keeps
  | seamRepairReq => exact execSeamRepairReq_keeps
  | ledgerRec => exact execLedgerRec_keeps
  | fwdRead => exact execFwdRead_keeps
  | readData => exact execReadData_keeps
  | seamUnknownType => exact execSeamUnknownType_keeps
  | hbLossPathB => exact execHbLossPathB_keeps
  | hbLossPathA => exact execHbLossPathA_keeps
  | peerLost => exact execPeerLost_keeps
  | hbPathRestored => exact execHbPathRestored_keeps
  | suspectDeclare => exact execSuspectDeclare_keeps
  | leaseClaimWon => exact execLeaseClaimWon_keeps
  | leaseClaimTimeout => exact execLeaseClaimTimeout_keeps
  | leaseGrantExpiry => exact execLeaseGrantExpiry_keeps
  | takeoverAdmitStart => exact execTakeoverAdmitStart_keeps
  | rejoinEnterService => exact execRejoinEnterService_keeps
  | managerBootWaitExpiry => exact execManagerBootWaitExpiry_keeps
  | spokeTrainingDone => exact execSpokeTrainingDone_keeps
  | spokeTrainingRetry => exact execSpokeTrainingRetry_keeps
  | hello => exact execHello_keeps
  | linkAck => exact execLinkAck_keeps
  | nak => exact execNak_keeps
  | credit => exact execCredit_keeps
  | mark h n t q => exact execMark_keeps (n := n)
  | hbRelay => exact execHbRelay_keeps
  | renew => exact execRenew_keeps
  | claim => exact execClaim_keeps
  | leaseRelease => exact execLeaseRelease_keeps
  | renewReply => exact execRenewReply_keeps
  | claimReply => exact execClaimReply_keeps
  | append => exact execAppend_keeps
  | close => exact execClose_keeps
  | stripWrite => exact execStripWrite_keeps
  | sectorRead => exact execSectorRead_keeps
  | sectorReadReply => exact execSectorReadReply_keeps
  | drop => exact execDrop_keeps
  | discard => exact execDiscard_keeps
  | health => exact execHealth_keeps
  | ledgerGet => exact execLedgerGet_keeps
  | ledgerGetReply => exact execLedgerGetReply_keeps
  | ledgerCollectTimeout => exact execLedgerCollectTimeout_keeps
  | bufferList => exact execBufferList_keeps
  | bufferRead => exact execBufferRead_keeps
  | spokeAck => exact execSpokeAck_keeps
  | spokeDone => exact execSpokeDone_keeps
  | spokeUnknownOpcode => exact execSpokeUnknownOpcode_keeps
  | spokeFrameBad => exact execSpokeFrameBad_keeps
  | linkAckTimer => exact execLinkAckTimer_keeps
  | spokeReplayTimeout => exact execSpokeReplayTimeout_keeps
  | creditReturnTimer => exact execCreditReturnTimer_keeps
  | spokePortSilence => exact execSpokePortSilence_keeps
  | spokePcsLockLoss => exact execSpokePcsLockLoss_keeps
  | spokePortFailTimeout => exact execSpokePortFailTimeout_keeps
  | spokeSend => exact execSpokeSend_keeps
  | shelfWritePowerSafe => exact execShelfWritePowerSafe_keeps
  | powerFailNAssert => exact execPowerFailNAssert_keeps
  | dumpDone => exact execDumpDone_keeps
  | powerFailNRelease => exact execPowerFailNRelease_keeps
  | holdupMet => exact execHoldupMet_keeps
  | healthRecordWrite => exact execHealthRecordWrite_keeps
  | frRead => exact execFrRead_keeps
  | frReadRetry => exact execFrReadRetry_keeps
  | frProgram => exact execFrProgram_keeps
  | frErase e r q => change Keeps _ s (execFrErase e r q s); exact execFrErase_keeps
  | frSuspend => exact execFrSuspend_keeps
  | frResume => exact execFrResume_keeps
  | frStatus => exact execFrStatus_keeps
  | frFeature => exact execFrFeature_keeps
  | frFeatureChEnable => exact execFrFeatureChEnable_keeps
  | frFeatureChStatus => exact execFrFeatureChStatus_keeps
  | flashOpComplete => exact execFlashOpComplete_keeps
  | flashOpTimeout => exact execFlashOpTimeout_keeps
  | frontPortLinkUp => exact execFrontPortLinkUp_keeps
  | frontPortLinkDown => exact execFrontPortLinkDown_keeps
  | frontPortDownAlarm => exact execFrontPortDownAlarm_keeps
  | frontPortNeighbour => exact execFrontPortNeighbour_keeps
  | pfcPauseFrame => exact execPfcPauseFrame_keeps
  | rdmaCmConnect => exact execRdmaCmConnect_keeps
  | rdmaSend => exact execRdmaSend_keeps
  | rdmaWrite => exact execRdmaWrite_keeps
  | rdmaRead => exact execRdmaRead_keeps
  | rdmaFetchAndAdd => exact execRdmaFetchAndAdd_keeps
  | rdmaCompareAndSwap => exact execRdmaCompareAndSwap_keeps
  | rdmaAck => exact execRdmaAck_keeps
  | rdmaNak => exact execRdmaNak_keeps
  | rdmaAckTimeout => exact execRdmaAckTimeout_keeps
  | rdmaContextFetchDone => exact execRdmaContextFetchDone_keeps
  | rdmaCnp => exact execRdmaCnp_keeps
  | rdmaRateRestore => exact execRdmaRateRestore_keeps
  | sprayHoleTimeout => exact execSprayHoleTimeout_keeps
  | rdmaDeviceFatal => exact execRdmaDeviceFatal_keeps
  | replSession => exact execReplSession_keeps
  | sessionAck => exact execSessionAck_keeps
  | rbundle => exact execRbundle_keeps
  | point => exact execPoint_keeps
  | replicaPointCut => exact execReplicaPointCut_keeps
  | keyrec => exact execKeyrec_keeps
  | pull => exact execPull_keeps
  | replChunk => exact execReplChunk_keeps
  | push => exact execPush_keeps
  | receipt => exact execReceipt_keeps
  | applied => exact execApplied_keeps
  | replRepairReq => exact execReplRepairReq_keeps
  | repairData => exact execRepairData_keeps
  | rdiff => exact execRdiff_keeps
  | replSyncTimeout => exact execReplSyncTimeout_keeps
  | replRekey => exact execReplRekey_keeps
  | replLagAlarm => exact execReplLagAlarm_keeps
  | replLookupTimeout => exact execReplLookupTimeout_keeps
  | statusGet => exact execStatusGet_keeps
  | alarmRead => exact execAlarmRead_keeps
  | alarmAck => exact execAlarmAck_keeps
  | eventRead => exact execEventRead_keeps
  | summaryRead => exact execSummaryRead_keeps
  | ledgerRead => exact execLedgerRead_keeps
  | imageWrite => exact execImageWrite_keeps
  | timeSet => exact execTimeSet_keeps
  | mgmtRestart => exact execMgmtRestart_keeps
  | otpKeyProgram => exact execOtpKeyProgram_keeps
  | otpKeyRevoke => exact execOtpKeyRevoke_keeps
  | healthRead => exact execHealthRead_keeps
  | mctpUnknownCommand => exact execMctpUnknownCommand_keeps
  | snapshotDefine => exact execSnapshotDefine_keeps
  | snapshotDelete => exact execSnapshotDelete_keeps
  | snapshotClone => exact execSnapshotClone_keeps
  | utcScheduleEdit => exact execUtcScheduleEdit_keeps
  | plannedShelfRestart => exact execPlannedShelfRestart_keeps
  | barrierStart => exact execBarrierStart_keeps
  | managerLeaseMove => exact execManagerLeaseMove_keeps
  | groupHandback => exact execGroupHandback_keeps
  | spdmGetVersion => exact execSpdmGetVersion_keeps
  | spdmGetCapabilities => exact execSpdmGetCapabilities_keeps
  | spdmNegotiateAlgorithms => exact execSpdmNegotiateAlgorithms_keeps
  | spdmGetDigests => exact execSpdmGetDigests_keeps
  | spdmGetCertificate => exact execSpdmGetCertificate_keeps
  | spdmChallenge => exact execSpdmChallenge_keeps
  | spdmGetMeasurements => exact execSpdmGetMeasurements_keeps
  | smbusAlertResponse => exact execSmbusAlertResponse_keeps
  | nvmeMiBasicManagement => exact execNvmeMiBasicManagement_keeps
  | nvmeMiReadDataStructure => exact execNvmeMiReadDataStructure_keeps
  | nvmeMiSubsystemHealthPoll => exact execNvmeMiSubsystemHealthPoll_keeps
  | nvmeMiControllerHealthPoll => exact execNvmeMiControllerHealthPoll_keeps
  | nvmeMiConfigurationGet config => exact execNvmeMiConfigurationGet_keeps (config := config)
  | jtagBypass => exact execJtagBypass_keeps
  | jtagIdcode => exact execJtagIdcode_keeps
  | jtagSamplePreload => exact execJtagSamplePreload_keeps
  | jtagExtest => exact execJtagExtest_keeps
  | jtagExtestPulse => exact execJtagExtestPulse_keeps
  | jtagExtestTrain => exact execJtagExtestTrain_keeps
  | jtagEngineDebug => exact execJtagEngineDebug_keeps
  | railFault => exact execRailFault_keeps
  | pdOffReq => exact execPdOffReq_keeps
  | pdOnReq => exact execPdOnReq_keeps
  | powerBudgetAlarm => exact execPowerBudgetAlarm_keeps
  | clockInputLoss => exact execClockInputLoss_keeps
  | sysclkReturn => exact execSysclkReturn_keeps
  | clockInputRestored => exact execClockInputRestored_keeps
  | railWithinWindow => exact execRailWithinWindow_keeps
  | hpLinkDown => exact execHpLinkDown_keeps
  | hpLinkUp => exact execHpLinkUp_keeps
  | seamLinkUp => exact execSeamLinkUp_keeps
  | seamFlitNak => exact execSeamFlitNak_keeps
  | apstIdleTimeout => exact execApstIdleTimeout_keeps
  | ptpAnnounce => exact execPtpAnnounce_keeps
  | rdmaCmDisconnect => exact execRdmaCmDisconnect_keeps
  | getVendorDefinedMessageSupport => exact execGetVendorDefinedMessageSupport_keeps
  | numvfsSet => exact execNumvfsSet_keeps

/-- No command but these touches the OTP array. -/
def special : Instr → Bool
  | .porNRelease _ _ => true
  | .bootReady _ _ => true
  | .otpKeyProgram _ _ _ _ _ => true
  | .otpKeyRevoke _ _ _ => true
  | _ => false

theorem writes_otp {c : Instr} (h : special c = false) : (writes c).otp = false := by
  cases c <;> first | rfl | cases h

theorem exec_grows {c : Instr} {s t : State} (h : exec c s = .next t) : Grows s t := by
  cases hc : special c with
  | false => exact (exec_keeps (by intro r x e; rw [e] at hc; cases hc) t h).grows (writes_otp hc)
  | true =>
    cases c with
    | porNRelease _ _ => exact execPorNRelease_grows h
    | bootReady _ _ => exact (execBootReady_growsTo t h).1
    | otpKeyProgram _ _ _ _ _ => exact (execOtpKeyProgram_growsTo t h).1
    | otpKeyRevoke _ _ _ => exact (execOtpKeyRevoke_growsTo t h).1
    | _ => cases hc

theorem exec_straps {c : Instr} {s t : State} (h : exec c s = .next t) (hc : ∀ r x, c ≠ .porNRelease r x) : SameStraps s t :=
  (exec_keeps hc t h).straps

theorem onJob_next (s : State) (n b : Nat) (l : List Nat) (f : Job → State → State) : ∃ t, s.onJob n b l f = .next t := by
  unfold State.onJob
  split
  · exact ⟨_, rfl⟩
  · exact ⟨_, rfl⟩

theorem onShelf0_next (h : FrameHdr) (s : State) (f : State → State) : ∃ t, onShelf0 h s f = .next t := by
  unfold onShelf0
  split
  · exact ⟨_, rfl⟩
  · exact ⟨_, rfl⟩

theorem onShelf_next (h : FrameHdr) (s : State) (f : State → State) : ∃ t, onShelf h s f = .next t := by
  unfold onShelf
  split
  · exact onShelf0_next h s f
  · exact ⟨_, rfl⟩

/-- Every command answers a next state. -/
theorem exec_next (c : Instr) (s : State) : ∃ t, exec c s = .next t := by
  cases c <;> first
    | exact ⟨_, rfl⟩
    | exact onJob_next ..
    | exact onShelf_next ..
    | exact onShelf0_next ..
    | (simp only [exec, execDescriptorCompletion, execCqHeadDoorbell, execNvmeFlush, execMark, execStripWrite, execLedgerGet]
       repeat' (first | exact ⟨_, rfl⟩ | exact onShelf_next .. | exact onShelf0_next .. | split))

end Sys2Proof.Machine
end

