-- ==== Sys2Proof/Tests/Slice0.lean ====
section
/-! SUPPORT. Tests of the model: terms that WellFormed accepts and refuses, worked examples of the spec and vectors of the named
standards, a few single steps, and for every statement of Certificates/Slice0/Obligations.lean with premises a state and operands that
meet each of its premise lists. Two lists rest on opaque functions of Config; their witnesses say on which (logs 7 and 22). -/

namespace Sys2Proof.Tests

open Sys2Proof.Machine

set_option Elab.async false

/-! ### States and operands of the tests -/

/-- A parameter record of a numeric type. -/
def par (id inst v : Nat) : PRec := ⟨id, inst, 3, le 4 v⟩

/-- Parameters of a small array: sixteen shelves. -/
def pars : List PRec := [par p_spoke_shelves 0 16]

/-- A host controller with one admin and one I/O queue pair, each with entries waiting. -/
def ctl : Ctrl :=
  { en := true, allocated := 4, sqs := [(0, { size := 16, cqid := 0, tail := 8 }), (1, { size := 16, cqid := 1, tail := 8 })]
    cqs := [(0, { size := 16 }), (1, { size := 16 })] }

/-- A namespace of 1,024 blocks of 4,096 bytes in domain 0, attached to controller 1. -/
def ns1 : Ns := { nsze := 1024, lbaf := 0, domain := 0, attached := [1] }

/-- The manager head in service, its peer too. -/
def hd : State := { State.reset with
  pins := { porN := true, perstN := true, sampled := true }
  boot := { stage := .ready, joined := true, readyDone := true }
  params := pars
  time := { t := 1000000000, tSet := true, state := .locked, quality := .locked, refValid := true, refEdges := true, second := some 10 }
  power := { pd := List.replicate 50 { state := 2 } }
  eng := List.replicate 48 { started := true }
  mem := { stackUp := [true, true, true, true] }
  nvme := { ctrls := [(1, ctl)], hpUp := true, hpOnce := true, ns := [(1, ns1)] }
  seam := { lanesUp := 0xFFFF, linkUp := true, pathA := true, pathB := true, peerState := 0, manager := true, own := 0, leaseGen := 5 }
  press := { clOk := BitVec.allOnes 64, dlOk := BitVec.allOnes 64 }
  cipher := { pairOk := 0xFFFF, drbgOk := true }
  parity := { katOk := true }
  port := List.replicate 64 { state := 3, admitted := true, w := 100, q := 100 }
  head := { st0 := { mine := true }, shelves := (List.range 16).map (fun i => (i, { free := 2 ^ 40, capacity := 2 ^ 40 })), md := { layout := [2, 2] } }
  front := List.replicate 16 { up := true, speed := 1 } }

/-- A shelf in service. -/
def shf : State := { hd with
  pins := { porN := true, perstN := true, sampled := true, roleSel := 2, siteId := 3 }
  seam := {}, nvme := {}, head := {}
  time := { t := 1000000000, tSet := true, state := .markFollow, markSrc := some 0 }
  flash := { chans := List.replicate 32 { enable := true, present := 0xFFFF, state := 3 }, profile := some 0 }
  sh := { state := 1, sparePool := 8, spareInit := 8 }
  boot := { stage := .ready, joined := true, readyDone := true, profile := zeros 36 ++ le 1 4 ++ le 1 4 ++ zeros 2 ++ le 2 1024 ++ le 2 64 ++ le 2 64 } }

/-- An NVMe command of controller 1, on its admin queue and on its I/O queue. -/
def acmd : CmdId := ⟨1, 0, 7⟩
def icmd : CmdId := ⟨1, 1, 7⟩

/-- A frame from port 1, the next in its order. -/
def fh : FrameHdr := ⟨1, 0, 0, false, false, ⟨.append, 0, 5, 256⟩, 5, 9⟩

/-- A request of an opcode that runs on a unit of a block. -/
def jb (block op : Nat) (d : Bytes := zeros 62) : Job := ⟨0, block, 0, le 2 op ++ d, .running 0⟩

/-- Heads, records and messages with plain fields. -/
def bh : BundleHdr := ⟨1, 1, false, false, false, 1000, 1, 0, 0, 0, 0, 0, 0, zeros 32, zeros 32, 0⟩
def hb : Heartbeat := ⟨1, 0, 0, 0, .locked, false, true, 0, 0, 0⟩
def lr : LeaseRec := ⟨5, zeros 16, 0, 0, 0, 1, 1000000, 1000000, 1, 1, 0, 0, 0, 0, 0, 0⟩
def lq : LeaseReq := ⟨zeros 16, 5, 1000, false, false, false, false, false, 0, 0, 0, 0, 0, 0, 0, 0⟩
def ahd : AppendHead := ⟨64, 1, false, false, 0, 0, 1, 7, 0, 1, zeros 32, crc64 (zeros 64), 7, 0, 0⟩
def shd : StripHead := ⟨0, false, false, false, false, 1, 2, 2, 0, 1, 5, [0, 1, 2, 3], 0⟩
def hlo : Hello := ⟨1, 1, 0, 0, 0, 0, 0, 64, 64⟩
def ck : ChunkRec := { fp := zeros 32, domain := 0, raw := false, pending := false, imageLen := 64, granule := 1, strip := 0, stripeId := 1 }
def sr : StripeRec := { k := 2, m := 2, state := 1, openEpn := 1, sites := [0, 1, 2, 3] }
def cw : ChunkWork := { epn := 5, nsIndex := 0, chunkNo := 1, domain := 0, content := [], stripe := 1 }
def wc : WaitCmd := ⟨icmd, false, .writeZeroes 1 0 8 false, 0, [], [], true, [], 0⟩
def ac : AdmCmd := ⟨icmd, false, 5, 1, 1, ⟨1, 1, 0, 1, 1, [], [], []⟩, ⟨0, 0, false⟩, none⟩
def kr : KeyRec := ⟨1, 1, 5, zeros 40, zeros 40, 0⟩
def rh : ReplHdr := ⟨1, 0, 0, 0, 1, 0, 3, 0, zeros 16⟩
def pk : RdmaPkt := ⟨1, 7, 0, 0, false, none, true, true, [1, 2, 3, 4]⟩
def qp : Qp := { use := .data, port := 1 }
def fr : FlashReq := ⟨1, false, 9, 1, 1, 1, 0, 0, 0, 1, false, false, false, false, false, false, 0, 0, 4096, 8192, 0, 0⟩
def dr : DieResult := ⟨false, 0, 0, 0, 0, 0, []⟩
def ft : Fetch := ⟨7, ck, false, 0, 1, [(0, 9)], []⟩
def wrd : WaitRead := { cmd := icmd, kind := .read false, nsid := 1, slba := 0, nlb := 8, fromPeer := false, remote := true }
def pit : PlbItem := ⟨⟨.append, 0, 5, 256⟩, 0x20, 5, 64, 0, 1, zeros 32, .image ahd (zeros 64), false, false⟩
def rck : ReplChunk := ⟨3, 0, false, 0, zeros 32, zeros 64⟩
def jf : JoinFound := ⟨none, [], none, [], {}, [], [], ⟨0, 1, zeros 32, 1, 0, [], [], 0⟩, ⟨0, 1, zeros 32, 1, 0, [], [], 0⟩, [], [], [], []⟩

/-- An enabled ring of block 3, and descriptors of the units. -/
def rg : Ring := { base := 0x100000, log2 := 6, ctrl := 1, target := 0x300, cq := 2 }
def dgD (alg hmac flags len : Nat) : Bytes := zeros 14 ++ le 1 alg ++ le 1 hmac ++ le 2 0 ++ le 2 flags ++ le 2 0 ++ le 8 4096 ++ le 4 len ++ zeros 4 ++ le 8 0 ++ le 8 0 ++ le 8 8192
def maD (region : Nat) : Bytes := zeros 14 ++ le 1 region ++ zeros 3 ++ le 4 1 ++ le 8 4096 ++ le 8 8192 ++ zeros 24
def prD (cls srcLen dstLen : Nat) : Bytes := zeros 14 ++ le 1 0 ++ le 1 cls ++ zeros 2 ++ le 4 srcLen ++ le 8 4096 ++ le 8 8192 ++ le 4 dstLen ++ zeros 20
def ciD (flags len target : Nat) : Bytes := zeros 17 ++ le 1 flags ++ le 4 len ++ le 8 4096 ++ le 8 8192 ++ zeros 8 ++ le 8 16384 ++ le 2 target ++ zeros 6
/-- Controller 1 with its admin queue only. -/
def ctl0 : Ctrl := { ctl with sqs := [(0, { size := 16, cqid := 0, tail := 8 })], cqs := [(0, { size := 16 })] }
/-- A frame held for replay, a channel with one LUN, pages of a read, and a committed record in the first slot of the ledger. -/
def frm : Frame := ⟨⟨.none, 0, 0, 0⟩, false, false, 0, 0, .linkAck⟩
def lunAt (l : LunSt) : FlashSt :=
  { chans := (List.replicate 32 { enable := true, present := 0xFFFF, state := 3 }).set 1 { enable := true, present := 0xFFFF, state := 3, luns := [(5, l)] }
    profile := some 0 }
def flr (op : FlOp) (r : FlashReq := fr) : FlReq := ⟨op, r, [], false, false⟩
def sec (crc : Nat) : Sector := ⟨zeros 64, crc, 0, 0xFFFF⟩
def pg (crc : Nat) : FlPage := ⟨[sec crc, sec crc, sec crc, sec crc], zeros 64, true⟩
def recNor : Mem :=
  ((ledgerMagic ++ [1, 0, 1, 1] ++ le 8 1).zipIdx.map (fun (p : Byte × Nat) => (slotAddr 0 + p.2, p.1))) ++
    (ledgerCommit.zipIdx.map (fun (p : Byte × Nat) => (slotAddr 0 + 4088 + p.2, p.1)))
def paD (avail want : Nat) : Bytes := zeros 14 ++ le 1 1 ++ le 1 1 ++ zeros 2 ++ le 4 64 ++ le 8 4096 ++ le 4 avail ++ le 4 want ++ le 8 8192 ++ zeros 16
def qps (q : Qp) : RdmaSt := { qps := [(7, q)], cache := [7] }
/-- The parameters that a block must hold (R79), and a block of them. -/
def mustPars : List PRec :=
  [⟨p_time_origin_tai_s, 0, 4, zeros 8⟩, ⟨p_image_array_id, 0, 9, zeros 16⟩, ⟨p_nvme_subnqn, 0, 10, [0x6E]⟩, ⟨p_spoke_shelves, 0, 1, [16]⟩,
   ⟨p_power_vcore_mode, 0, 7, le 2 0⟩]
def recBytes (r : PRec) : Bytes := le 2 r.id ++ le 2 r.inst ++ le 2 r.val.length ++ le 2 r.ty ++ padTo ((r.val.length + 7) / 8 * 8) r.val
def mustBlock : Bytes := [0x4B, 0x50, 0x41, 0x52] ++ le 2 1 ++ zeros 2 ++ le 4 5 ++ le 4 (16 + (mustPars.flatMap recBytes).length) ++ mustPars.flatMap recBytes
/-- The head reads zeros where nothing is mapped. -/
theorem hd_reads_zeros : hd.readsZero 1 0 1 ns1 = true := by
  have h : hd.partsOf 1 0 1 ns1 = (hd, [(0, .have (zeros (hd.nsChunk ns1)) 0 0xFFFF)]) := rfl
  simp [State.readsZero, h]
/-- A raw image whose plain bytes have the chunk's fingerprint decodes, whatever the sample says (log 6). -/
theorem decodes (s : State) (id : Nat) (c : ChunkRec) (img : Bytes) (hr : c.raw = true)
    (hf : s.fingerprint c.domain (s.openImage c.domain id img) = c.fp) : (s.decodeImage id c img).1 = some (s.openImage c.domain id img) := by
  simp [State.decodeImage, State.plainOf, hr, hf]
/-- A chunk stored raw, and its image in the sectors read. -/
def ckr : ChunkRec := { ck with raw := true, fp := hd.fingerprint 0 (hd.openImage 0 7 (zeros 64)) }
theorem ckr_image : imageIn ckr ([zeros 4160].flatMap (fun x => x.take 4096)) = zeros 64 := by decide +kernel
theorem groups_length (n k : Nat) (hn : 0 < n) : ∀ bs : Bytes, bs.length = n * k → (groups n (k + 1) bs).length = k := by
  induction k with
  | zero => intro bs h; have : bs = [] := List.length_eq_zero_iff.mp (by simpa using h); subst this; rfl
  | succ k ih =>
    intro bs h
    have h0 : bs.isEmpty = false := by
      cases bs with
      | nil => simp [Nat.mul_succ] at h; omega
      | cons a l => rfl
    rw [groups, h0]
    simp [ih (bs.drop n) (by rw [List.length_drop, h, Nat.mul_succ]; omega)]
theorem checks_length (bs : Bytes) (h : bs.length = 65536) : (sectorChecks bs).length = 16 := by
  simp [sectorChecks, chunksOf, h, groups_length 4096 16 (by decide) bs h]
theorem head_length : (stripHeadBytes shd).length = 256 := by decide +kernel
theorem strip_length : (stripHeadBytes shd ++ packed []).length = 65536 := by
  have hp : (packed []).length = 65280 := by
    unfold packed padTo; rw [List.length_append, show (zeros _).length = _ from List.length_replicate]; decide
  rw [List.length_append, head_length, hp]
theorem strip_checks : (sectorChecks (stripHeadBytes shd ++ packed [])).length = 16 := checks_length _ strip_length
theorem ne_bumped (l : List Nat) (h : l.length = 16) : l ≠ l.map (· + 1) := by
  cases l with
  | nil => simp at h
  | cons a l => simp
/-- The shelf with a lease record. -/
def leased : State := { shf with keep.lease := some lr }
/-- The sectors of a strip that holds only its head. -/
def headSectors : List Sector := ((padTo 4096 (stripHeadBytes shd)) :: List.replicate 15 (zeros 4096)).map (fun d => ⟨d, crc64 d, 1, 0xFFFF⟩)
theorem headSectors_data : headSectors.map (·.data) = (padTo 4096 (stripHeadBytes shd)) :: List.replicate 15 (zeros 4096) := by
  simp [headSectors]
theorem le_length : ∀ n v : Nat, (le n v).length = n
  | 0, _ => rfl
  | n + 1, v => by rw [le, List.length_cons, le_length n]
theorem pad_length (n : Nat) (bs : Bytes) (h : bs.length ≤ n) : (padTo n bs).length = n := by
  unfold padTo; rw [List.length_append, show (zeros _).length = _ from List.length_replicate, List.length_take]; omega
theorem headSectors_ok : ∀ x ∈ headSectors, x.data.length = 4096 ∧ crc64 x.data = x.crc64 ∧ x.refTag = 1 ∧ x.appTag = 0xFFFF := by
  intro x hx
  obtain ⟨d, hd, rfl⟩ := List.mem_map.mp hx
  refine ⟨?_, rfl, rfl, rfl⟩
  rcases List.mem_cons.mp hd with rfl | h
  · exact pad_length _ _ (by rw [head_length]; decide)
  · rw [(List.mem_replicate.mp h).2]; exact List.length_replicate
theorem headSectors_bytes : (headSectors.flatMap (fun x => x.data ++ sectorBytes x)).length = 65792 := by
  have h : ∀ l : List Sector, (∀ x ∈ l, x.data.length = 4096) → (l.flatMap (fun x => x.data ++ sectorBytes x)).length = l.length * 4112 := by
    intro l; induction l with
    | nil => intro _; rfl
    | cons a l ih =>
      intro h
      rw [List.flatMap_cons, List.length_append, ih (fun x hx => h x (List.mem_cons_of_mem _ hx)), List.length_append, h a (List.mem_cons_self ..)]
      simp only [sectorBytes, List.length_append, le_length, List.length_cons]; omega
  rw [h _ (fun x hx => (headSectors_ok x hx).1), show headSectors.length = 16 from by simp [headSectors]]
theorem headSectors_head : (headSectors.flatMap (·.data)).take 256 = stripHeadBytes shd := by
  rw [List.flatMap_def, headSectors_data]
  have h : ∀ r : Bytes, ((padTo 4096 (stripHeadBytes shd)) ++ r).take 256 = stripHeadBytes shd := by
    intro r
    unfold padTo
    rw [List.append_assoc, List.take_of_length_le (i := 4096) (by rw [head_length]; decide), List.take_append_of_le_length (by rw [head_length]), List.take_of_length_le (by rw [head_length])]
  exact h _
theorem only_record : ∀ l : List Bytes, l.length = 1 → l = [l.headD []]
  | [_], _ => rfl
/-- A head with one open stripe of metadata in stream 0, and a page of its map to write. -/
def mhd : State := { hd with head := { hd.head with md := { hd.head.md with stripes := [(0, { sr with flags := 1 })], dirty := [(2 ^ 60 + 1, 0)] } } }
theorem fits_stripe (n : Nat) (h : n ≤ 65280) : mhd.placeFor 0 true n = some (0, 0, 0) := by
  have hg : granules n ≤ 1020 := by unfold granules; omega
  have hr : ({ sr with flags := 1 } : StripeRec).room n = some 0 := by
    show (List.range 2).find? (fun _ => decide (0 + granules n ≤ 1020)) = some 0
    rw [show decide (0 + granules n ≤ 1020) = true from decide_eq_true (by omega)]; rfl
  show ([(0, { sr with flags := 1 })] : List (Nat × StripeRec)).findSome? (fun e => (e.2.room n).map (fun i => (e.1, i, e.2.next i))) = _
  rw [List.findSome?_cons, hr]; rfl
theorem sends_meta (seq item : Nat) (bs : Bytes) (h : bs.length ≤ 65280) : ∃ a b s1, mhd.sendMeta 0 seq item bs = some (a, b, s1) := by
  have hp := fits_stripe (padTo (64 * granules bs.length) bs).length (by rw [pad_length _ _ (by unfold granules; omega)]; unfold granules; omega)
  have hm : mhd.metaRoom 0 (padTo (64 * granules bs.length) bs).length = mhd := by simp [State.metaRoom, hp]
  simp only [State.sendMeta, hm, hp]; exact ⟨_, _, _, rfl⟩
theorem crcBit_lt (p r : Nat) (hp : p < 2 ^ 32) (h : r < 2 ^ 32) : crcBit p r < 2 ^ 32 := by
  unfold crcBit; split
  · exact Nat.xor_lt_two_pow (by omega) hp
  · omega
theorem crc32c_lt (bs : Bytes) : crc32c bs < 2 ^ 32 := by
  have h : ∀ (bs : Bytes) (r : Nat), r < 2 ^ 32 → bs.foldl (crcByte 0x82F63B78) r < 2 ^ 32 := by
    intro bs; induction bs with
    | nil => intro r h; exact h
    | cons b bs ih =>
      intro r h
      refine ih _ ?_
      have hx : Nat.xor r b.toNat < 2 ^ 32 := Nat.xor_lt_two_pow h (by have := b.isLt; omega)
      unfold crcByte
      iterate 8 apply crcBit_lt _ _ (by decide)
      exact hx
  exact Nat.xor_lt_two_pow (h bs _ (by decide)) (by decide)
theorem leNat_le4 (v : Nat) (h : v < 2 ^ 32) : leNat (le 4 v) = v := by
  simp only [le, leNat, BitVec.toNat_ofNat]; omega
/-- A health record with zeros in its fields, and a NOR that holds it. -/
def recBody : Bytes := [0x53, 0x48, 0x44, 0x31] ++ zeros 18424
def healthNor : Mem := Mem.writeBytes norErased [] (healthAddr false) (recBody ++ le 4 (crc32c recBody))
theorem recBody_length : recBody.length = 18428 := by unfold recBody; rw [List.length_append, show (zeros _).length = _ from List.length_replicate]; rfl
theorem healthNor_read : norRead healthNor (healthAddr false) 18432 = recBody ++ le 4 (crc32c recBody) := by
  have h := Mem.readBytes_writeBytes norErased [] (healthAddr false) (recBody ++ le 4 (crc32c recBody)) rfl
  rwa [show (recBody ++ le 4 (crc32c recBody)).length = 18432 from by rw [List.length_append, recBody_length, le_length]] at h
theorem recBody_take (l : Bytes) (hl : l.length = 4) (tail : Bytes) : (l ++ tail).take 4 = l := List.take_left' hl
theorem recBody_magic : recBody.take 4 = [0x53, 0x48, 0x44, 0x31] := by unfold recBody; exact recBody_take _ rfl _
theorem copy_of (s : State) (b : Bytes) (c : Nat) (hr : norRead s.nor (healthAddr false) 18432 = b ++ le 4 c) (hb : b.length = 18428)
    (h4 : b.take 4 = [0x53, 0x48, 0x44, 0x31]) (hc : crc32c b = c) (hl : c < 2 ^ 32) : ∃ a, s.healthCopy false = some a := by
  have hn : num (b ++ le 4 c) 18428 4 = c := by
    unfold num sub
    rw [List.drop_append_of_le_length (by rw [hb]), List.drop_of_length_le (by rw [hb]), List.nil_append, List.take_of_length_le (by rw [le_length]),
      leNat_le4 _ hl]
  have ht : (b ++ le 4 c).take 18428 = b := by
    rw [List.take_append_of_le_length (by rw [hb]), List.take_of_length_le (by rw [hb])]
  have h0 : (b ++ le 4 c).take 4 = [0x53, 0x48, 0x44, 0x31] := by rw [List.take_append_of_le_length (by rw [hb]; decide), h4]
  unfold State.healthCopy
  simp only [hr, hn, ht, hc, h0]
  exact ⟨_, if_pos (by simp)⟩
theorem now_of (s : State) (b : Bytes) (c : Nat) (hr : norRead s.nor (healthAddr false) 18432 = b ++ le 4 c) (hb : b.length = 18428)
    (h4 : b.take 4 = [0x53, 0x48, 0x44, 0x31]) (hc : crc32c b = c) (hl : c < 2 ^ 32) : ∃ b, s.healthNow = some b := by
  obtain ⟨a, ha⟩ := copy_of s b c hr hb h4 hc hl
  unfold State.healthNow
  rw [ha]
  cases s.healthCopy true <;> exact ⟨_, rfl⟩
/-- A shelf whose NOR is the one given. -/
def shfNor (m : Mem) : State := { shf with nor := m }
theorem shfNor_nor (m : Mem) : (shfNor m).nor = m := rfl
/-- The fingerprint of 64 zero bytes under the empty key. -/
def zeroMac : Bytes := hmac256 [] (zeros 64)

theorem recNor_newest : (newestOf recNor 1).isSome = true := by decide +kernel
theorem recNor_none : newestOf (shfNor recNor).nor 2 = none := by
  have h : (newestOf recNor 2).isNone = true := by decide +kernel
  simpa [shfNor_nor] using h
theorem recNor_record : ∃ i r, newestOf (shfNor recNor).nor 1 = some (i, r) := by
  rw [shfNor_nor]
  have h := Option.isSome_iff_exists.mp recNor_newest
  exact h.elim fun p hp => ⟨p.1, p.2, hp⟩

/-! ### Terms that a sender cannot spell are refused -/

/-- A command whose operands fit, one per form of operand. -/
theorem test_wf_accepts :
    [Instr.nvmeRead icmd 1 0 8 false 0 0 0 0, .append fh ahd (zeros 64), .credit fh 100 100, .idxQuery fh 0 (zeros 32), .replChunk rh rck,
      .keyrec rh kr, .frRead 0 fr, .rdmaSend pk, .nvmeCopy icmd 1 0 0 [⟨1, 0, 8⟩], .nvmeDatasetManagement icmd 1 true [⟨0, 8⟩],
      .spokeAck fh [⟨⟨.append, 0, 5, 256⟩, 64⟩], .rbundle rh [⟨2, 0, 0, 1, 0, 0, 0, 0, zeros 32⟩], .pull rh []].all Instr.wf = true := by decide +kernel

/-- NVMe numbers: an identifier of 17 bits, no block and 65,537 blocks, a tag of 49 bits, a guard of 65 bits. -/
theorem test_wf_refuses_nvme :
    [Instr.nvmeRead ⟨65536, 1, 7⟩ 1 0 8 false 0 0 0 0, .nvmeRead ⟨1, 65536, 7⟩ 1 0 8 false 0 0 0 0, .nvmeRead ⟨1, 1, 65536⟩ 1 0 8 false 0 0 0 0,
      .nvmeRead icmd 1 0 0 false 0 0 0 0, .nvmeRead icmd 1 0 65537 false 0 0 0 0, .nvmeRead icmd 1 0 8 false 0 0 0 (2 ^ 48),
      .nvmeRead icmd (2 ^ 32) 0 8 false 0 0 0 0, .nvmeWrite icmd 1 0 1 [] false 0 0 0 [⟨2 ^ 64, 0, 0⟩],
      .nvmeDatasetManagement icmd 1 true [⟨0, 2 ^ 32⟩], .nvmeCopy icmd 1 0 0 [⟨1, 0, 2 ^ 17⟩], .nvmeCopy icmd 1 16 0 []].any Instr.wf = false := by
  decide +kernel

/-- Lists and lengths: a host name of 257 bytes, a controller of 17 bits, a digest of 47 bytes, a nonce of 31 bytes. -/
theorem test_wf_refuses_lengths :
    [Instr.fabricsConnect icmd 16 (zeros 257) 0 0, .namespaceAttachment acmd true 1 [65536], .otpKeyProgram 0 0 (zeros 47) (zeros 32) true,
      .spdmChallenge (zeros 31), .snapshotDefine 0 1 0 [2 ^ 32], .snapshotDelete 0 (2 ^ 20), .health fh (zeros 63),
      .ledgerRec (zeros 4095)].any Instr.wf = false := by decide +kernel

/-- Frames: a tag, a sequence, an append head, a sector, a credit, an acknowledgement and a fingerprint that do not fit. -/
theorem test_wf_refuses_frames :
    [Instr.drop { fh with tag := ⟨.append, 256, 5, 256⟩ }, .drop { fh with lsn := 2 ^ 32 }, .append fh { ahd with imageLen := 65536 } (zeros 64),
      .append fh { ahd with fp := zeros 31 } (zeros 64), .stripWrite fh shd [⟨zeros 4095, 0, 0, 0⟩], .credit fh (2 ^ 32) 0,
      .spokeAck fh [⟨⟨.append, 0, 5, 256⟩, 2 ^ 32⟩], .idxQuery fh 0 (zeros 31), .sectorRead fh 0 256 0, .claimReply fh 65536 lr 0 0].any Instr.wf = false := by
  decide +kernel

/-- Replication and flash: a header, a record, a chunk, a key record, a pull, a packet and a request that do not fit. -/
theorem test_wf_refuses_messages :
    [Instr.receipt { rh with ident := 2 ^ 64 }, .rbundle rh [⟨2, 0, 0, 1, 0, 0, 0, 0, zeros 31⟩], .replChunk rh { rck with domain := 256 },
      .keyrec rh { kr with generation := 2 ^ 56 }, .pull rh [(⟨3, 0, zeros 31⟩, none)], .rdmaSend { pk with psn := 2 ^ 24 },
      .frRead 0 { fr with block := 2 ^ 15 }, .frRead 0 { fr with page := 2 ^ 12 }].any Instr.wf = false := by decide +kernel

/-! ### Formats and arithmetic, by the spec's worked examples and the named standards' vectors -/

/-- R76's example: the record of `boot.ready_timeout_s` at 180. -/
theorem test_parameter_record :
    parseRecs 1 [0x02, 0x0E, 0, 0, 0x02, 0, 0x02, 0, 0xB4, 0, 0, 0, 0, 0, 0, 0] = some [⟨0x0E02, 0, 2, [0xB4, 0]⟩] := by decide

/-- R55's example: a snapshot scheduled for UTC 1,956,528,000.0000075 s. -/
theorem test_snapshot_epn :
    ({ hd with params := [par p_epoch_length_us 0 20, ⟨p_time_origin_tai_s, 0, 4, le 8 1893456037⟩, par p_time_utc_offset_s 0 37] } : State).utcEpn
      195652800000000750 = 3153600000001 := by decide +kernel

/-- R282's example: three tokens give 23 bytes. -/
theorem test_pf1_tokens :
    expandTokens 23 [0x04, 0x70, 0x69, 0x6E, 0x65, 0x2C, 0xCB, 0x04, 0x00, 0x02, 0x66, 0x69, 0x72] =
      some ([0x70, 0x69, 0x6E, 0x65, 0x2C, 0x70, 0x69, 0x6E, 0x65, 0x2C, 0x70, 0x69, 0x6E, 0x65, 0x2C, 0x70, 0x69, 0x6E, 0x65, 0x2C] ++
        [0x66, 0x69, 0x72]) := by decide

/-- R291's example: a destination of 16 bytes is too short for the unit of 23. -/
theorem test_pf1_limit : (pf1Decode true ([0x50, 0x46, 1, 1, 0x17, 0, 0, 0, 0x0D, 0, 0, 0] ++ zeros 17) 16 0).1 = ST_PRESS_LIMIT := by decide

/-- R350's example: coefficients of GF(2^8). -/
theorem test_parity_coefficient : gfInv 0x02 = 0x8E ∧ coef 0 0 = 0x47 ∧ gfMul 0x47 0x02 = 0x8E := by decide +kernel

/-- Check values of the two CRCs over the digits 1 to 9. -/
theorem test_crc :
    crc32c [0x31, 0x32, 0x33, 0x34, 0x35, 0x36, 0x37, 0x38, 0x39] = 0xE3069283 ∧
      crc64 [0x31, 0x32, 0x33, 0x34, 0x35, 0x36, 0x37, 0x38, 0x39] = 0xAE8B14860A799888 := by decide +kernel

/-- FIPS 180-4: the digest of abc. -/
theorem test_sha256 : sha256 [0x61, 0x62, 0x63] =
    [0xba, 0x78, 0x16, 0xbf, 0x8f, 0x01, 0xcf, 0xea, 0x41, 0x41, 0x40, 0xde, 0x5d, 0xae, 0x22, 0x23, 0xb0, 0x03, 0x61, 0xa3, 0x96, 0x17, 0x7a, 0x9c] ++
      [0xb4, 0x10, 0xff, 0x61, 0xf2, 0x00, 0x15, 0xad] := by decide +kernel

/-- FIPS 202: SHAKE256 of nothing. -/
theorem test_shake256 : shake256 [] 8 = [0x46, 0xB9, 0xDD, 0x2B, 0x0B, 0xA8, 0x8D, 0x13] := by decide +kernel

/-- FIPS 197, appendix C.3: AES-256. -/
theorem test_aes256 : aesEnc ((List.range 32).map (BitVec.ofNat 8)) ((List.range 16).map (fun i => BitVec.ofNat 8 (17 * i))) =
    [0x8e, 0xa2, 0xb7, 0xca, 0x51, 0x67, 0x45, 0xbf, 0xea, 0xfc, 0x49, 0x90, 0x4b, 0x49, 0x60, 0x89] := by decide +kernel

/-- The bits of a word name the instruction and its registers (R123): DPOST x10, x11, x12, written out from the table. -/
theorem test_yildom_dpost : yildomOf 3 { x := [(11, 0x1000), (12, 7)] } 0 0x00C5850B = some (.dpost 3 10 0x1000 7) ∧ yildomOf 3 {} 0 0x00C5B50B = none := by
  decide +kernel

/-- R227's default layout: 20+4 from 28 shelves, as the example of R26 sizes an array of 32, and 12+3 below. -/
theorem test_layout_default : ({ hd with params := [par p_spoke_shelves 0 32] } : State).paramLayout = (20, 4) ∧ hd.paramLayout = (12, 3) := by decide +kernel

/-! ### Single steps -/

/-- Whether a command's next state is as said. -/
def after (c : Instr) (s : State) (f : State → Bool) : Bool :=
  match exec c s with
  | .next t => f t
  | _ => false

/-- The command in front runs, the rest waits. -/
theorem test_step_order : (match step { State.reset with pending := [.porNRelease 2 3, .bootSelect] } with
    | .next t => t.pending == [.bootSelect] && t.pins.siteId == 3
    | _ => false) = true := by decide +kernel

/-- R2: straps are sampled at the release of POR_N, and kept by a second release. -/
theorem test_straps : after (.porNRelease 2 3) State.reset (fun t => t.pins.roleSel == 2 && t.pins.siteId == 3 &&
    after (.porNRelease 1 4) t (fun u => u.pins.roleSel == 2 && u.pins.siteId == 3)) = true := by decide +kernel

/-- R185: an opcode that is not supported answers Invalid Command Opcode, 00/01, with Do Not Retry. -/
theorem test_nvme_opcode : after (.nvmeUnsupportedOpcode icmd) hd (fun t => t.out.any (fun o => match o with
    | .nvme c => decide (c.cmd = icmd ∧ c.st.sct = 0 ∧ c.st.sc = 1 ∧ c.st.dnr = true)
    | _ => false)) = true := by decide +kernel

/-- R421: a bad frame is answered by NAK with the LSN that is expected next. -/
theorem test_spoke_nak : after (.spokeFrameBad 1) hd (fun t => t.out.any (fun o => match o with
    | .frame p _ _ f => p == 1 && f.op == .nak 0
    | _ => false)) = true := by decide +kernel

/-- R384: a bad flit is answered by NAK with the sequence number expected. -/
theorem test_seam_nak : after .seamFlitBad { hd with seam.rxSeq := 5 } (fun t => t.out == hd.out ++ [.seamNak 5]) = true := by decide +kernel

/-- R34: an announced offset is in force where its flag is valid. -/
theorem test_ptp_announce : after (.ptpAnnounce ⟨37, 0, 0⟩ true) { hd with time.sourcePtp := true } (fun t => t.utcOffset == 37) = true := by decide +kernel

/-! ### The premises of every statement are met -/

/-- O1: every premise list of Obligations.StepRunsTheFrontCommand is met. -/
theorem test_met_StepRunsTheFrontCommand :
    (∃ (s : State) (c : Instr) (rest : List Instr), s.pending = c :: rest) :=
  ⟨{ hd with pending := [.perstNAssert] }, .perstNAssert, [], by decide +kernel⟩

/-- O2: every premise list of Obligations.IdleStepTicksArrayTime is met. -/
theorem test_met_IdleStepTicksArrayTime :
    (∃ (s : State), s.pending = [] ∧ s.time.tSet = true ∧ s.live = true ∧ s.phase + 1 < s.epochLen) ∧
    (∃ (s : State), s.pending = [] ∧ (s.time.tSet = false ∨ s.live = false ∨ s.epochLen ≤ s.phase + 1)) :=
  ⟨⟨{ hd with time.tSet := true }, by decide +kernel⟩,
    ⟨{ hd with time.tSet := false }, by decide +kernel⟩⟩

/-- O4: every premise list of Obligations.EveryStepKeepsTheInvariant is met. -/
theorem test_met_EveryStepKeepsTheInvariant :
    (∃ (s t : State), s.Inv ∧ step s = .next t) :=
  ⟨{ State.reset with pending := [.porNAssert true] }, _, ⟨by constructor <;> decide +kernel, by decide +kernel, by decide +kernel⟩, rfl⟩

/-- O5: every premise list of Obligations.CommandsLeaveTheQueueAlone is met. -/
theorem test_met_CommandsLeaveTheQueueAlone :
    (∃ (c : Instr) (s t : State), exec c s = .next t) :=
  ⟨.perstNAssert, hd, _, rfl⟩

/-- O6: every premise list of Obligations.StrapsAreSampledOnlyAtPorRelease is met. -/
theorem test_met_StrapsAreSampledOnlyAtPorRelease :
    (∃ (s : State) (r : Fin 4) (x : Fin 64), s.pins.porN = false) ∧
    (∃ (c : Instr) (s t : State), (∀ r x, c ≠ .porNRelease r x) ∧ exec c s = .next t) :=
  ⟨⟨{ hd with pins.porN := false }, 1, 1, by decide +kernel⟩,
    ⟨.perstNAssert, hd, _, (by intro r x h; cases h), rfl⟩⟩

/-- O7: every premise list of Obligations.OtpOnlyGains is met. -/
theorem test_met_OtpOnlyGains :
    (∃ (c : Instr) (s t : State), exec c s = .next t) :=
  ⟨.perstNAssert, hd, _, rfl⟩

/-- O8: every premise list of Obligations.OwnerSlotsChangeOnlyInRecoveryMode is met. -/
theorem test_met_OwnerSlotsChangeOnlyInRecoveryMode :
    (∃ (c : Instr) (s t : State), exec c s = .next t ∧ t.otp.owner ≠ s.otp.owner) :=
  ⟨.otpKeyRevoke 5 0 true, { hd with boot.stage := .recoveryMode }, _, rfl, by decide +kernel⟩

/-- O10: every premise list of Obligations.ResetInputsHoldThePart is met. -/
theorem test_met_ResetInputsHoldThePart :
    (∃ (s : State) (good : Bool), s.pins.porN = true) ∧
    (∃ (s : State) (r : Fin 4) (x : Fin 64), s.pins.porN = false ∧ s.power.tripped = false) ∧
    (∃ (s : State) (r : Fin 4) (x : Fin 64), s.pins.porN = false ∧ s.power.tripped = true) ∧
    (∃ (s : State) (good : Bool), s.pins.porN = true ∧ s.pins.warmN = true ∧ s.power.tripped = false) ∧
    (∃ (s : State), s.pins.porN = true ∧ s.pins.warmN = false) ∧
    (∃ (s : State), s.pins.porN = true ∧ s.pins.sysclk = false) :=
  ⟨⟨{ hd with pins.porN := true }, true, by decide +kernel⟩,
    ⟨{ hd with pins.porN := false, power.tripped := false }, 1, 1, by decide +kernel⟩,
    ⟨{ hd with pins.porN := false, power.tripped := true }, 1, 1, by decide +kernel⟩,
    ⟨{ hd with pins.porN := true, pins.warmN := true, power.tripped := false }, true, by decide +kernel⟩,
    ⟨{ hd with pins.porN := true, pins.warmN := false }, by decide +kernel⟩,
    ⟨{ hd with pins.porN := true, pins.sysclk := false }, by decide +kernel⟩⟩

/-- O11: every premise list of Obligations.RestartsRecordTheirCause is met. -/
theorem test_met_RestartsRecordTheirCause :
    (∃ (s : State), s.live = true ∧ s.boot.readyDone = false ∧ (s.boot.stage = .firmware ∨ s.boot.stage = .links)) ∧
    (∃ (s : State) (tag : Byte), s.live = true ∧ s.strapsOk = true ∧ (s.isHead = false ∨ s.boot.stage = .recoveryMode ∨ s.peerUp = true)) ∧
    (∃ (s : State) (c : Nat), s.fw = true ∧ s.isHead = true ∧ s.nssrHere c = true ∧ s.peerUp = true) ∧
    (∃ (s : State) (c : Nat), s.fw = true ∧ s.isHead = true ∧ s.nssrHere c = true ∧ s.peerUp = false) :=
  ⟨⟨{ hd with boot.readyDone := false, boot.stage := .links }, by decide +kernel⟩,
    ⟨shf, 5, by decide +kernel⟩,
    ⟨hd, 1, by decide +kernel⟩,
    ⟨{ hd with seam.peerState := 1 }, 1, by decide +kernel⟩⟩

/-- O12: every premise list of Obligations.BootStagesBringThePartUp is met. -/
theorem test_met_BootStagesBringThePartUp :
    (∃ (s : State) (m : Bool), s.live = true ∧ s.boot.stage = .romStart ∧ s.boot.strapHeld = false ∧ (s.isHead || s.isShelf) = true) ∧
    (∃ (s : State) (m : Bool), s.live = true ∧ s.boot.stage = .romStart ∧ s.boot.strapHeld = false ∧ (s.isHead || s.isShelf) = false) ∧
    (∃ (s : State), s.live = true ∧ s.boot.stage = .select) ∧
    (∃ (s : State), s.live = true ∧ s.boot.stage = .select ∧ (∀ c : Copy, copyStatus { s with boot := { s.boot with bcr := bcrCurrent s.nor } } c ≠ 0)) ∧
    (∃ (s : State), s.live = true ∧ s.boot.stage = .load) ∧
    (∃ (s : State), s.live = true ∧ s.boot.stage = .domains) ∧
    (∃ (s : State), s.atStage .ledgerBegin = true) ∧
    (∃ (s : State), s.atStage .memory = true) ∧
    (∃ (s : State) (bad : List (HemRec × Nat)) (torn : List HemRec), s.atStage .hem = true) :=
  ⟨⟨{ hd with boot.stage := .romStart, boot.strapHeld := false }, true, by decide +kernel⟩,
    ⟨{ hd with boot.stage := .romStart, boot.strapHeld := false, pins.roleSel := 1 }, true, by decide +kernel⟩,
    ⟨{ hd with boot.stage := .select }, by decide +kernel⟩,
    ⟨{ hd with boot.stage := .select }, by decide +kernel, by decide +kernel, by intro c; cases c <;> decide +kernel⟩,
    ⟨{ hd with boot.stage := .load }, by decide +kernel⟩,
    ⟨{ hd with boot.stage := .domains }, by decide +kernel⟩,
    ⟨{ hd with boot.stage := .ledgerBegin }, by decide +kernel⟩,
    ⟨{ hd with boot.stage := .memory }, by decide +kernel⟩,
    ⟨{ hd with boot.stage := .hem }, [], [], by decide +kernel⟩⟩

/-- O13: every premise list of Obligations.LateBootStagesReachReady is met. -/
theorem test_met_LateBootStagesReachReady :
    (∃ (s : State) (k : KatResult), s.atStage .firmware = true ∧ parseParams s.boot.paramBlock = none) ∧
    (∃ (s : State) (k : KatResult) (ps : List PRec), s.atStage .firmware = true ∧ parseParams s.boot.paramBlock = some ps) ∧
    (∃ (s : State) (f : LinksFound), s.atStage .links = true ∧ s.isShelf = true) ∧
    (∃ (s : State) (f : LinksFound), s.atStage .links = true ∧ s.isShelf = false) ∧
    (∃ (s : State), s.atStage .waitTime = true ∧ s.isHead = true ∧ s.time.tSet = true ∧ (s.time.state = .locked ∨ s.time.state = .peer)) ∧
    (∃ (s : State), s.atStage .recovery = true ∧ s.isShelf = true ∧ (s.keep.dies = none ∨ s.keep.dies = some s.dies)) ∧
    (∃ (s : State) (n : Nat), s.atStage .recovery = true ∧ s.isShelf = true ∧ s.keep.dies = some n ∧ n ≠ s.dies) ∧
    (∃ (s : State) (j : JoinFound), s.atStage .join = true ∧ s.isHead = false ∧ s.boot.joined = false ∧ s.seam.asked = false ∧ s.parity.katOk = true) ∧
    (∃ (s : State) (fails : Fin 4) (vpp : Bool), s.atStage .join = true ∧ s.boot.joined = true ∧ s.boot.readyDone = false ∧ s.boot.commitFails < 3 ∧ fails ≠ 3) ∧
    (∃ (s : State) (vpp : Bool), s.atStage .join = true ∧ s.boot.joined = true ∧ s.boot.readyDone = false ∧ s.boot.commitFails < 3) ∧
    (∃ (s : State) (b : Barrier), s.headUp = true ∧ s.boot.barrier = some b ∧ s.epochStart b.b + s.p p_image_barrier_max_ms * 100000 ≤ s.time.t) :=
  ⟨⟨{ hd with boot.stage := .firmware }, ⟨0xF, 0xFFFF, 0, 0, true, true⟩, by decide +kernel⟩,
    ⟨{ hd with boot.stage := .firmware, boot.paramBlock := mustBlock }, ⟨0xF, 0xFFFF, 0, 0, true, true⟩, mustPars, by decide +kernel⟩,
    ⟨{ shf with boot.stage := .links }, ⟨0xFFFF, [], [], 3, 16, [], []⟩, by decide +kernel⟩,
    ⟨{ hd with boot.stage := .links }, ⟨0xFFFF, [], [], 3, 16, [], []⟩, by decide +kernel⟩,
    ⟨{ hd with boot.stage := .waitTime, time.tSet := true }, by decide +kernel⟩,
    ⟨{ shf with boot.stage := .recovery }, by decide +kernel⟩,
    ⟨{ shf with boot.stage := .recovery, keep.dies := some 1 }, 1, by decide +kernel⟩,
    ⟨{ shf with boot.stage := .join, boot.joined := false, seam.asked := false, parity.katOk := true }, jf, by decide +kernel⟩,
    ⟨{ hd with boot.stage := .join, boot.joined := true, boot.readyDone := false }, 1, true, by decide +kernel⟩,
    ⟨{ hd with boot.stage := .join, boot.joined := true, boot.readyDone := false }, true, by decide +kernel⟩,
    ⟨{ hd with boot.barrier := some ⟨1, 0, 0, 0⟩ }, ⟨1, 0, 0, 0⟩, by decide +kernel⟩⟩

/-- O14: every premise list of Obligations.ReferenceIsJudgedByItsEdges is met. -/
theorem test_met_ReferenceIsJudgedByItsEdges :
    (∃ (s : State) (err gap off : Int) (p : Nat), s.headPps = true ∧ s.time.refValid = false ∧ within100 gap = true ∧ s.time.ppsGood = 2) ∧
    (∃ (s : State) (err gap off : Int) (p : Nat), s.headPps = true ∧ s.time.refValid = false ∧ within100 gap = true ∧ s.time.ppsGood < 2) ∧
    (∃ (s : State) (err gap off : Int) (p : Nat), s.headPps = true ∧ s.time.refValid = false ∧ within100 gap = false) ∧
    (∃ (s : State) (err gap off : Int) (p : Nat), s.headPps = true ∧ s.time.refValid = true ∧ within100 err = false ∧ s.time.ppsOut = 2) ∧
    (∃ (s : State), s.headPps = true) ∧
    (∃ (s : State), s.headPps = true) ∧
    (∃ (s : State) (off : Int) (m : PtpSeen), s.ptpMine m.port m.dom = true ∧ s.time.refValid = true ∧ 1000 < off.natAbs) ∧
    (∃ (s : State) (off : Int) (m : PtpSeen), s.ptpMine m.port m.dom = true ∧ s.time.refValid = false ∧ s.time.syncGood = 2 ∧ m.missed = 0 ∧ s.time.state ≠ .acquiring) ∧
    (∃ (s : State) (off : Int) (m : PtpSeen), s.ptpMine m.port m.dom = true ∧ s.time.refValid = false ∧ m.missed ≠ 0) ∧
    (∃ (s : State) (off : Int) (m : PtpSeen), s.ptpMine m.port m.dom = false) ∧
    (∃ (s : State), s.headPtp = true) :=
  ⟨⟨{ hd with time.refValid := false, time.ppsGood := 2 }, 0, 0, 0, 1, by decide +kernel⟩,
    ⟨{ hd with time.refValid := false }, 0, 0, 0, 1, by decide +kernel⟩,
    ⟨{ hd with time.refValid := false }, 0, 200, 0, 1, by decide +kernel⟩,
    ⟨{ hd with time.refValid := true, time.ppsOut := 2 }, (-101), 0, 0, 1, by decide +kernel⟩,
    ⟨hd, by decide +kernel⟩,
    ⟨hd, by decide +kernel⟩,
    ⟨{ hd with time.refValid := true, time.sourcePtp := true }, (-1001), ⟨1000, 0, 0, 0⟩, by decide +kernel⟩,
    ⟨{ hd with time.refValid := false, time.syncGood := 2, time.sourcePtp := true }, 0, ⟨1000, 0, 0, 0⟩, by decide +kernel⟩,
    ⟨{ hd with time.refValid := false, time.sourcePtp := true }, 0, ⟨1000, 3, 0, 0⟩, by decide +kernel⟩,
    ⟨hd, 0, ⟨1000, 0, 0, 0⟩, by decide +kernel⟩,
    ⟨{ hd with time.sourcePtp := true }, by decide +kernel⟩⟩

/-- O15: every premise list of Obligations.TimeStatesMoveAsTheRulesSay is met. -/
theorem test_met_TimeStatesMoveAsTheRulesSay :
    (∃ (s : State), s.fw = true ∧ s.isHead = true ∧ s.time.state = .holdover ∧ s.ownUsable = false ∧ s.peerLocked = false ∧ s.peerUp = false) ∧
    (∃ (s : State), s.fw = true ∧ s.isHead = false ∧ s.time.slewing = true ∧ s.slewOff = 0) ∧
    (∃ (s : State), s.fw = true ∧ s.isHead = true ∧ s.time.slewing = true ∧ s.slewOff = 0 ∧ (s.time.refValid = false ∨ s.time.refOff.natAbs ≤ 1000)) ∧
    (∃ (s : State), s.time.slewing = true ∧ s.slewOff ≠ 0) ∧
    (∃ (s : State), s.fw = true ∧ s.isHead = true ∧ s.seam.manager = false ∧ 64 ≤ s.time.skewOver) ∧
    (∃ (s : State) (m : PtpUtc) (v : Bool), s.ptpMine m.port m.dom = true) ∧
    (∃ (s : State) (m : PtpUtc) (v : Bool), s.ptpMine m.port m.dom = false) ∧
    (∃ (s : State), s.fw = true ∧ s.isShelf = true ∧ s.time.state ≠ .markLost) ∧
    (∃ (s : State) (tag : Byte) (n : Nat), s.mgmtUp = true ∧ s.isShelf = false ∧ s.time.second = none) ∧
    (∃ (s : State) (tag : Byte) (n : Nat), s.mgmtUp = true ∧ s.isShelf = true) :=
  ⟨⟨{ hd with time.state := .holdover, time.refValid := false, seam.peerState := 1 }, by decide +kernel⟩,
    ⟨{ shf with time.slewing := true }, by decide +kernel⟩,
    ⟨{ hd with time.slewing := true }, by decide +kernel⟩,
    ⟨{ hd with time.slewing := true, time.followOff := 5, time.refOff := 5 }, by decide +kernel⟩,
    ⟨{ hd with seam.manager := false, time.skewOver := 64 }, by decide +kernel⟩,
    ⟨{ hd with time.sourcePtp := true }, ⟨37, 0, 0⟩, true, by decide +kernel⟩,
    ⟨hd, ⟨37, 0, 0⟩, true, by decide +kernel⟩,
    ⟨shf, by decide +kernel⟩,
    ⟨{ hd with time.second := none }, 5, 1, by decide +kernel⟩,
    ⟨shf, 5, 1, by decide +kernel⟩⟩

/-- O16: every premise list of Obligations.YildomInstructionsActOnTheirEngine is met. -/
theorem test_met_YildomInstructionsActOnTheirEngine :
    (∃ (s : State) (e : Fin 48) (rd : Fin 32) (a b : Nat), s.engRuns e = true ∧ s.postFaults a = false ∧ ((s.ringOf (b % 4096)).on = false ∨ (s.ringOf (b % 4096)).isCq = true)) ∧
    (∃ (s : State) (e : Fin 48) (rd : Fin 32) (a b : Nat), s.engRuns e = true ∧ s.postFaults a = false ∧ (s.ringOf (b % 4096)).on = true ∧ (s.ringOf (b % 4096)).isCq = false ∧ (s.ringOf (b % 4096)).full = true) ∧
    (∃ (s : State) (e : Fin 48) (rd : Fin 32) (a b : Nat), s.engRuns e = true ∧ s.postFaults a = true) ∧
    (∃ (s : State) (e : Fin 48) (rd : Fin 32) (a b : Nat), s.engRuns e = true ∧ s.postFaults a = false ∧ (s.ringOf (b % 4096)).on = true ∧ (s.ringOf (b % 4096)).isCq = false ∧ (s.ringOf (b % 4096)).full = false) ∧
    (∃ (s : State) (e : Fin 48) (rd : Fin 32) (a b : Nat), s.eng.length = 48 ∧ s.engRuns e = true ∧ (s.ringOf (a % 4096)).head ≠ (s.ringOf (a % 4096)).tail) ∧
    (∃ (s : State) (e : Fin 48) (rd : Fin 32) (a : Nat), s.eng.length = 48 ∧ s.engRuns e = true ∧ (s.engine e).timerIrq = false ∧ (s.ringOf (a % 4096)).head = (s.ringOf (a % 4096)).tail) ∧
    (∃ (s : State) (e : Fin 48) (rd : Fin 32) (n : Nat), s.eng.length = 48 ∧ s.engRuns e = true ∧ n ≤ s.epn) ∧
    (∃ (s : State) (e : Fin 48) (rd : Fin 32) (c : Fin 22), s.engRuns e = true) ∧
    (∃ (s : State) (e : Fin 48) (a : Nat), s.engRuns e = true) ∧
    (∃ (s : State) (e : Fin 48), s.eng.length = 48 ∧ s.fw = true ∧ s.time.tSet = true ∧ (s.engine e).timerArm ≠ 0 ∧ (s.engine e).timerArm < s.epochLen * 22) ∧
    (∃ (s : State) (e : Fin 48) (w : BitVec 32), s.engRuns e = true ∧ yildomSpace w = true ∧ yildomDefined w = false) ∧
    (∃ (s : State) (e : Fin 48) (c : Fin 64), s.fw = true ∧ (s.engine e).started = true) :=
  ⟨⟨hd, 1, 1, 1, 1, by decide +kernel⟩,
    ⟨{ hd with ring.rings := [(1, { rg with tail := 63 })] }, 1, 1, 1, 1, by decide +kernel⟩,
    ⟨{ hd with mem.poison := [1] }, 1, 1, 0, 1, by decide +kernel⟩,
    ⟨{ hd with ring.rings := [(1, rg)] }, 1, 1, 1, 1, by decide +kernel⟩,
    ⟨{ hd with ring.rings := [(1, { rg with tail := 1 })] }, 1, 1, 1, 1, by decide +kernel⟩,
    ⟨hd, 1, 1, 1, by decide +kernel⟩,
    ⟨hd, 1, 1, 1, by decide +kernel⟩,
    ⟨hd, 1, 1, 1, by decide +kernel⟩,
    ⟨hd, 1, 1, by decide +kernel⟩,
    ⟨{ hd with time.tSet := true, eng := (List.replicate 48 { started := true }).set 1 { started := true, timerArm := 5 } }, 1, by decide +kernel⟩,
    ⟨hd, 1, 0x200B, by decide +kernel⟩,
    ⟨hd, 1, 1, by decide +kernel⟩⟩

/-- O17: every premise list of Obligations.RingsAndRegistersFollowTheirControls is met. -/
theorem test_met_RingsAndRegistersFollowTheirControls :
    (∃ (s : State) (n : Fin 4096) (c : Fin 128), s.fw = true ∧ s.ring.held = [] ∧ (s.ringOf n).clearing = false ∧ bit (s.ringOf n).ctrl 0 = false ∧ s.ringFit ((s.ringOf n).ofBytes (overlay (s.ringOf n).bytes 7 (le 1 (2 * c + 1)))) = true) ∧
    (∃ (s : State) (n : Fin 4096) (c : Fin 128), s.fw = true ∧ (s.ringOf n).clearing = false ∧ bit (s.ringOf n).ctrl 0 = false ∧ s.ringFit ((s.ringOf n).ofBytes (overlay (s.ringOf n).bytes 7 (le 1 (2 * c + 1)))) = false) ∧
    (∃ (s : State) (n : Fin 4096), s.fw = true ∧ (s.ringOf n).clearing = false ∧ bit (s.ringOf n).ctrl 0 = true ∧ (s.ringOf n).base < 2 ^ 48 ∧ (s.ringOf n).log2 < 256 ∧ (s.ringOf n).ctrl < 256 ∧ (s.ringOf n).target < 65536 ∧ (s.ringOf n).cq < 65536 ∧ (s.ringOf n).tail < 65536) ∧
    (∃ (s : State) (n : Fin 4096) (v : BitVec 16), s.fw = true ∧ (s.ringOf n).isCq = true ∧ (s.ringOf n).on = true ∧ s.ring.held = []) ∧
    (∃ (s : State) (b i : Fin 256), s.fw = true ∧ s.fetchRoom b i = true ∧ nextRing (SMap.get s.ring.rotate (b * 256 + i)) (s.fetchRings b i) = none) ∧
    (∃ (s : State) (b i : Fin 256) (n : Nat), s.fw = true ∧ s.fetchRoom b i = true ∧ s.queueTurn b i = true ∧ nextRing (SMap.get s.ring.rotate (b * 256 + i)) (s.fetchRings b i) = some n) ∧
    (∃ (s : State) (n : Nat) (j : Job) (st c p : Nat), s.fw = true ∧ s.job n = some j ∧ j.st = .done st c p) ∧
    (∃ (s : State) (e : Fin 48) (pc a : Nat) (v : Bytes), s.engRuns e = true ∧ areaOf a = .csr ∧ 1 ≤ v.length ∧ v.length ≤ 8 ∧ a % v.length = 0 ∧ (csrAt a).1 = 0x09 ∧ (csrAt a).2.1 < 32 ∧ inFlashRom pc = false) ∧
    (∃ (s : State) (e : Fin 48) (pc a : Nat) (v : Bytes), s.engRuns e = true ∧ areaOf a = .csr ∧ 1 ≤ v.length ∧ v.length ≤ 8 ∧ a % v.length = 0 ∧ ¬ ((csrAt a).1 = 0x04 ∨ (csrAt a).1 = 0x09 ∨ (csrAt a).1 = 0x0F ∨ (csrAt a).1 = 0x10 ∨ (csrAt a).1 = 0x13)) ∧
    (∃ (s : State) (e : Fin 48) (pc a d : Nat) (v : Bytes), s.engRuns e = true ∧ areaOf a = .csr ∧ 1 ≤ v.length ∧ v.length ≤ 8 ∧ a % v.length = 0 ∧ csrAt a = (0x10, d + 1, 0) ∧ d < 50 ∧ pdSwitchable d = true) :=
  ⟨⟨{ hd with ring.held := [], ring.rings := [(1, { rg with ctrl := 0 })] }, 1, 0, by decide +kernel⟩,
    ⟨hd, 1, 1, by decide +kernel⟩,
    ⟨{ hd with ring.rings := [(1, rg)] }, 1, by decide +kernel⟩,
    ⟨{ hd with ring.held := [], ring.rings := [(1, { rg with ctrl := 3 })] }, 1, 0, by decide +kernel⟩,
    ⟨hd, 1, 0, by decide +kernel⟩,
    ⟨{ hd with ring.rings := [(1, { rg with tail := 1 })] }, 3, 0, 1, by decide +kernel⟩,
    ⟨{ hd with ring.jobs := [(0, ⟨0, 3, 0, le 2 1 ++ zeros 62, .done 0 0 0⟩)] }, 0, ⟨0, 3, 0, le 2 1 ++ zeros 62, .done 0 0 0⟩, 0, 0, 0, by decide +kernel⟩,
    ⟨hd, 1, 1, 0x5009000000, [1], by decide +kernel⟩,
    ⟨hd, 1, 1, 0x5000000000, [1], by decide +kernel⟩,
    ⟨hd, 1, 1, 0x5010130000, 18, [1], by decide +kernel⟩⟩

/-- O18: every premise list of Obligations.MetadataCacheRunsItsOperations is met. -/
theorem test_met_MetadataCacheRunsItsOperations :
    (∃ (s : State) (i : Fin 8), s.mcUp = true ∧ (s.mc.slot i).busy = false) ∧
    (∃ (s : State) (i : Fin 8) (addr len ln : Nat), s.mcUp = true ∧ (s.mc.slot i).busy = false) ∧
    (∃ (s : State) (i : Fin 8) (addr len : Nat), s.mcUp = true ∧ (s.mc.slot i).busy = false) ∧
    (∃ (s : State) (i : Fin 8) (addr len ln : Nat) (l : McLine), s.mcUp = true ∧ (s.mc.slot i).busy = false ∧ Mem.wf hbmDefault s.mem.hbm = true ∧ s.mc.lines.filter (fun e => e.1 == ln) = [(ln, l)] ∧ s.mc.victim.all (fun v => v.1 != ln) = true ∧ l.data.length = 256 ∧ l.dirty = true ∧ inLines (rangeLines addr len).1 (rangeLines addr len).2 ln = true) ∧
    (∃ (s : State) (i : Fin 8) (addr len ln : Nat) (l : McLine), s.mcUp = true ∧ (s.mc.slot i).busy = false ∧ Mem.wf hbmDefault s.mem.hbm = true ∧ s.mc.lines.filter (fun e => e.1 == ln) = [(ln, l)] ∧ s.mc.victim.all (fun v => v.1 != ln) = true ∧ l.data.length = 256 ∧ l.dirty = true ∧ inLines (rangeLines addr len).1 (rangeLines addr len).2 ln = true) ∧
    (∃ (s : State) (i : Fin 8) (addr len ln : Nat), s.mcUp = true ∧ (s.mc.slot i).busy = false ∧ inLines (rangeLines addr len).1 (rangeLines addr len).2 ln = true) ∧
    (∃ (s : State) (i : Fin 8) (addr : Nat) (l : McLine), s.mcUp = true ∧ (s.mc.slot i).busy = false ∧ SMap.get s.mc.lines (addr / 256) = some l ∧ l.locked = false ∧ SMap.getD s.mc.emptyLocked (mcSet (addr / 256)) 0 = 0 ∧ s.mc.lockedWays (mcSet (addr / 256)) < 4) ∧
    (∃ (s : State) (i : Fin 8) (addr : Nat) (l : McLine), s.mcUp = true ∧ (s.mc.slot i).busy = false ∧ SMap.get s.mc.lines (addr / 256) = some l ∧ l.locked = false ∧ SMap.getD s.mc.emptyLocked (mcSet (addr / 256)) 0 = 0 ∧ 4 ≤ s.mc.lockedWays (mcSet (addr / 256))) ∧
    (∃ (s : State) (i : Fin 8) (addr : Nat), s.mcUp = true ∧ (s.mc.slot i).busy = false ∧ SMap.get s.mc.lines (addr / 256) = none ∧ SMap.getD s.mc.emptyLocked (mcSet (addr / 256)) 0 = 0 ∧ s.mc.lockedWays (mcSet (addr / 256)) < 4) ∧
    (∃ (s : State) (i : Fin 8) (addr len : Nat), s.mcUp = true ∧ (s.mc.slot i).busy = false) ∧
    (∃ (s : State) (i : Fin 8), s.mcUp = true ∧ (s.mc.slot i).busy = false) ∧
    (∃ (s : State) (i : Fin 8), s.mcUp = true ∧ (s.mc.slot i).busy = true) ∧
    (∃ (s : State), s.mcUp = true ∧ s.mc.enable = false ∧ s.mc.invDone = true) ∧
    (∃ (s : State), s.mcUp = true ∧ s.mc.enable = false ∧ s.mc.invDone = false) ∧
    (∃ (s : State), s.mcUp = true ∧ s.mc.enable = true) ∧
    (∃ (s : State), s.mcUp = true ∧ s.mc.enable = true) :=
  ⟨⟨hd, 0, by decide +kernel⟩,
    ⟨hd, 0, 1, 1, 1, by decide +kernel⟩,
    ⟨hd, 0, 1, 1, by decide +kernel⟩,
    ⟨{ hd with mc.lines := [(1, (⟨List.replicate 256 7, true, false, 0⟩ : McLine))] }, 0, 255, 2, 1, (⟨List.replicate 256 7, true, false, 0⟩ : McLine), by decide +kernel⟩,
    ⟨{ hd with mc.lines := [(1, (⟨List.replicate 256 7, true, false, 0⟩ : McLine))] }, 0, 255, 2, 1, (⟨List.replicate 256 7, true, false, 0⟩ : McLine), by decide +kernel⟩,
    ⟨hd, 0, 255, 2, 1, by decide +kernel⟩,
    ⟨{ hd with mc.lines := [((1 / 256), ⟨zeros 256, false, false, 0⟩)] }, 0, 1, ⟨zeros 256, false, false, 0⟩, by decide +kernel⟩,
    ⟨{ hd with mc.lines := [(0, (⟨zeros 256, false, false, 0⟩ : McLine)), (32768, { (⟨zeros 256, false, false, 0⟩ : McLine) with locked := true }), (65536, { (⟨zeros 256, false, false, 0⟩ : McLine) with locked := true }), (98304, { (⟨zeros 256, false, false, 0⟩ : McLine) with locked := true }), (131072, { (⟨zeros 256, false, false, 0⟩ : McLine) with locked := true })] }, 0, 0, (⟨zeros 256, false, false, 0⟩ : McLine), by decide +kernel⟩,
    ⟨hd, 0, 1, by decide +kernel⟩,
    ⟨hd, 0, 1, 1, by decide +kernel⟩,
    ⟨hd, 0, by decide +kernel⟩,
    ⟨{ hd with mc.slots := List.replicate 8 { busy := true } }, 0, by decide +kernel⟩,
    ⟨{ hd with mc.enable := false, mc.invDone := true }, by decide +kernel⟩,
    ⟨{ hd with mc.enable := false, mc.invDone := false }, by decide +kernel⟩,
    ⟨{ hd with mc.enable := true }, by decide +kernel⟩,
    ⟨{ hd with mc.enable := true }, by decide +kernel⟩⟩

/-- O19: every premise list of Obligations.HbmFaultsAreMarkedAndReported is met. -/
theorem test_met_HbmFaultsAreMarkedAndReported :
    (∃ (s : State) (cor : List Nat) (w : Nat), s.mcUp = true) ∧
    (∃ (s : State) (k : Fin 4), s.mcUp = true) :=
  ⟨⟨hd, [], 1, by decide +kernel⟩,
    ⟨hd, 1, by decide +kernel⟩⟩

/-- O20: every premise list of Obligations.TheEpochTurnsAtItsBoundary is met. -/
theorem test_met_TheEpochTurnsAtItsBoundary :
    (∃ (s : State) (late : List (Fin 8)) (dw : Nat) (cons mw : List Nat) (e : Option (Fin 16)), s.fw = true ∧ s.time.tSet = true ∧ s.seam.standing = false) ∧
    (∃ (s : State) (late : List (Fin 8)) (dw : Nat) (cons mw : List Nat) (e : Option (Fin 16)), s.fw = true ∧ s.time.tSet = true ∧ s.seam.standing = false ∧ 0 < s.epochLen) ∧
    (∃ (s : State) (late : List (Fin 8)) (dw : Nat) (cons mw : List Nat) (e : Option (Fin 16)), s.live = true ∧ s.fw = false ∧ s.time.tSet = true) :=
  ⟨⟨{ hd with time.tSet := true, seam.standing := false }, [], 1, [], [], none, by decide +kernel⟩,
    ⟨{ hd with time.tSet := true, seam.standing := false }, [], 1, [], [], none, by decide +kernel⟩,
    ⟨{ hd with time.tSet := true, boot.stage := .firmware }, [], 1, [], [], none, by decide +kernel⟩⟩

/-- O21: every premise list of Obligations.WindowsOpenInTheirEighths is met. -/
theorem test_met_WindowsOpenInTheirEighths :
    (∃ (s : State), s.seamOn = true ∧ s.stageFrom .join = true ∧ s.windowOpen 0 1 = true ∧ s.power.pfAsserted = false) ∧
    (∃ (s : State), s.headUp = true ∧ s.windowOpen 1 2 = true) ∧
    (∃ (s : State), s.headUp = true ∧ s.windowOpen 2 4 = true) ∧
    (∃ (s : State) (i : Fin 2) (reads : List StripRead), s.headUp = true ∧ (s.stream i).mine = true ∧ 0 < s.p p_rinse_max_gbps ∧ s.notPast 6 = true ∧ s.time.ran.contains (4 + 8 * i.val) = false ∧ (s.rinseWork i).find? (fun e => decide ((s.rinse i).cursor < e.1)) = none) ∧
    (∃ (s : State) (i : Fin 2) (reads : List StripRead) (id : Nat) (r : StripeRec), s.headUp = true ∧ (s.stream i).mine = true ∧ 0 < s.p p_rinse_max_gbps ∧ s.notPast 6 = true ∧ s.time.ran.contains (4 + 8 * i.val) = false ∧ (s.rinseWork i).find? (fun e => decide ((s.rinse i).cursor < e.1)) = some (id, r)) ∧
    (∃ (s : State), s.shelfOn = true ∧ 1 ≤ s.sh.state ∧ s.sh.paused = false ∧ s.power.pfAsserted = false ∧ s.windowOpen 2 6 = true ∧ s.sh.victim = none ∧ s.clearingVictim = none) ∧
    (∃ (s : State) (b : Nat), s.shelfOn = true ∧ 1 ≤ s.sh.state ∧ s.sh.paused = false ∧ s.power.pfAsserted = false ∧ s.windowOpen 2 6 = true ∧ s.sh.victim = some b) ∧
    (∃ (s : State), s.shelfOn = true ∧ 1 ≤ s.sh.state ∧ s.windowOpen 6 7 = true ∧ (s.epn % 256 = 4 * s.site % 256 ∨ 6 ∈ s.time.deferred ∨ 262144 ≤ s.sh.changes + s.keep.records.length)) ∧
    (∃ (s : State) (logic hbm sds : List Int), s.fw = true ∧ s.windowOpen 7 8 = true ∧ s.isHead = true ∧ ((s.inWindow 7).temps logic hbm sds).thermalAct.tripAt = false) ∧
    (∃ (s : State) (logic hbm sds : List Int) (nand : Option Int), s.fw = true ∧ s.windowOpen 7 8 = true ∧ ((s.inWindow 7).temps logic hbm sds).thermalAct.tripAt = true) ∧
    (∃ (s : State) (logic hbm sds : List Int) (c : Int), s.fw = true ∧ s.windowOpen 7 8 = true ∧ s.isShelf = true ∧ ((s.inWindow 7).temps logic hbm sds).thermalAct.tripAt = false) ∧
    (∃ (s : State), s.windowOpen 0 1 = false) ∧
    (∃ (s : State), s.windowOpen 1 2 = false) ∧
    (∃ (s : State), s.windowOpen 2 4 = false) ∧
    (∃ (s : State) (i : Fin 2) (reads : List StripRead), s.notPast 6 = false) ∧
    (∃ (s : State) (i : Fin 2) (reads : List StripRead), s.time.ran.contains (4 + 8 * i.val) = true) ∧
    (∃ (s : State), s.windowOpen 2 6 = false) ∧
    (∃ (s : State), s.windowOpen 6 7 = false) ∧
    (∃ (s : State) (logic hbm sds : List Int) (nand : Option Int), s.time.tSet = true ∧ s.windowOpen 7 8 = false) :=
  ⟨⟨{ hd with power.pfAsserted := false }, by decide +kernel⟩,
    ⟨hd, by decide +kernel⟩,
    ⟨hd, by decide +kernel⟩,
    ⟨hd, 0, [], by decide +kernel⟩,
    ⟨{ hd with head.md.stripes := [(2, { sr with state := 2 })] }, 0, [], 2, { sr with state := 2 }, by decide +kernel⟩,
    ⟨{ shf with sh.paused := false, power.pfAsserted := false, sh.victim := none }, by decide +kernel⟩,
    ⟨{ shf with sh.paused := false, power.pfAsserted := false, sh.victim := some 1 }, 1, by decide +kernel⟩,
    ⟨{ shf with time.deferred := [6] }, by decide +kernel⟩,
    ⟨hd, [], [], [], by decide +kernel⟩,
    ⟨hd, [], [200], [], none, by decide +kernel⟩,
    ⟨shf, [], [], [], 0, by decide +kernel⟩,
    ⟨{ hd with time.ran := [0] }, by decide +kernel⟩,
    ⟨{ hd with time.ran := [1] }, by decide +kernel⟩,
    ⟨{ hd with time.ran := [2] }, by decide +kernel⟩,
    ⟨{ hd with time.t := 1000001800 }, 0, [], by decide +kernel⟩,
    ⟨{ hd with time.ran := [4] }, 0, [], by decide +kernel⟩,
    ⟨{ hd with time.ran := [2] }, by decide +kernel⟩,
    ⟨{ hd with time.ran := [6] }, by decide +kernel⟩,
    ⟨{ hd with time.tSet := true, time.ran := [7] }, [], [], [], none, by decide +kernel⟩⟩

/-- O22: every premise list of Obligations.ControllerResetsEndOneControllerOrAll is met. -/
theorem test_met_ControllerResetsEndOneControllerOrAll :
    (∃ (s : State) (c : Nat), s.pins.perstN = true ∧ c ∈ s.hpCtrls) ∧
    (∃ (s : State), s.pins.perstN = false) ∧
    (∃ (s : State) (c : Nat), s.live = true ∧ s.pins.perstN = true ∧ s.isHead = true ∧ c ∈ s.hpCtrls) ∧
    (∃ (s : State) (f : Fin 16) (c : Nat), s.live = true ∧ s.pins.perstN = true ∧ s.isHead = true ∧ f.val ≤ s.nvme.numVfs ∧ c ≠ s.ctrlBase + 1 + f.val) ∧
    (∃ (s : State) (n : Fin 16), s.fw = true ∧ s.pins.perstN = true ∧ s.isHead = true ∧ n.val ≤ s.p p_pcie_total_vfs) ∧
    (∃ (s : State) (c a b : Nat), s.live = true ∧ s.isHead = true ∧ (s.ctrl c).en = false ∧ (s.ctrlKind c).pcie = true ∧ s.pins.perstN = true ∧ 2 ≤ a ∧ a ≤ 4096 ∧ 2 ≤ b ∧ b ≤ 4096) ∧
    (∃ (s : State) (c x : Nat), s.live = true ∧ s.isHead = true ∧ (s.ctrl c).en = true ∧ s.ctrlKind c ≠ .none ∧ x ≠ c) ∧
    (∃ (s : State) (c : Nat), s.fw = true ∧ (s.ctrlKind c).fabric = true ∧ (s.ctrl c).hostNqn ≠ none ∧ (s.ctrl c).kato ≠ 0 ∧ (s.ctrl c).kaAt + (s.ctrl c).kato * 100000 ≤ s.time.t) ∧
    (∃ (s : State) (g w : Nat), s.fw = true ∧ s.isHead = true ∧ s.nvme.hpOn = true ∧ s.pins.perstN = true ∧ 3 ≤ g ∧ (w = 4 ∨ w = 8 ∨ w = 16)) ∧
    (∃ (s : State), s.fw = true ∧ s.isHead = true ∧ s.nvme.hpUp = true) :=
  ⟨⟨{ hd with pins.perstN := true }, 1, by decide +kernel⟩,
    ⟨{ hd with pins.perstN := false }, by decide +kernel⟩,
    ⟨{ hd with pins.perstN := true }, 1, by decide +kernel⟩,
    ⟨{ hd with pins.perstN := true, nvme.numVfs := 1 }, 1, 1, by decide +kernel⟩,
    ⟨{ hd with pins.perstN := true }, 1, by decide +kernel⟩,
    ⟨{ hd with pins.perstN := true, nvme.ctrls := [(1, {})] }, 1, 2, 4096, by decide +kernel⟩,
    ⟨hd, 1, 2, by decide +kernel⟩,
    ⟨{ hd with nvme.ctrls := [(0x11, { ctl with hostNqn := some [1], kato := 1000 })] }, 0x11, by decide +kernel⟩,
    ⟨{ hd with nvme.hpOn := true, pins.perstN := true }, 4, 16, by decide +kernel⟩,
    ⟨{ hd with nvme.hpUp := true }, by decide +kernel⟩⟩

/-- O23: every premise list of Obligations.QueuesAreMadeRungAndDeleted is met. -/
theorem test_met_QueuesAreMadeRungAndDeleted :
    (∃ (s : State) (c i v : Nat) (q : Sq), s.live = true ∧ (s.ctrl c).en = true ∧ (s.ctrlKind c).pcie = true ∧ SMap.get (s.ctrl c).sqs i = some q ∧ q.gone = false ∧ v < q.size) ∧
    (∃ (s : State) (c i v : Nat) (q : Cq), s.live = true ∧ (s.ctrl c).en = true ∧ s.ctrlKind c ≠ .none ∧ SMap.get (s.ctrl c).cqs i = some q ∧ q.held = [] ∧ v < q.size) ∧
    (∃ (s : State) (c i v : Nat) (q : Cq) (x : NvCpl) (l : List NvCpl), s.live = true ∧ (s.ctrl c).en = true ∧ s.ctrlKind c ≠ .none ∧ s.power.pfAsserted = false ∧ SMap.get (s.ctrl c).cqs i = some q ∧ q.held = x :: l ∧ v < q.size ∧ ({ q with head := v } : Cq).room = true ∧ s.silencedFor i x.st = false) ∧
    (∃ (s : State) (cmd : CmdId) (n : Nat) (h : Bytes) (id k : Nat), s.fw = true ∧ s.isHead = true ∧ s.stageFrom .join = true ∧ s.power.pfAsserted = false ∧ (s.ctrlKind cmd.cntlid).fabric = true ∧ 2 ≤ n ∧ n ≤ 4096 ∧ cmd.sqid = 0 ∧ (s.ctrl cmd.cntlid).hostNqn = none ∧ SMap.has (s.ctrl cmd.cntlid).sqs 0 = false) ∧
    (∃ (s : State) (cmd : CmdId), s.adminReady cmd = true) ∧
    (∃ (s : State) (cmd : CmdId) (a b : Nat), s.adminReady cmd = true ∧ (s.ctrl cmd.cntlid).sqs.all (fun e => e.1 == 0 || e.2.gone) = true ∧ (s.ctrl cmd.cntlid).cqs.all (fun e => e.1 == 0) = true ∧ a < 65535 ∧ b < 65535 ∧ 0 < s.queueCap cmd.cntlid) ∧
    (∃ (s : State) (cmd : CmdId) (q n v : Nat), s.adminReady cmd = true ∧ q ≠ 0 ∧ q ≤ (s.ctrl cmd.cntlid).allocated ∧ SMap.has (s.ctrl cmd.cntlid).cqs q = false ∧ 2 ≤ n ∧ n ≤ 4096 ∧ v < 1025) ∧
    (∃ (s : State) (cmd : CmdId) (q n v : Nat), s.adminReady cmd = true ∧ ((q = 0 ∨ (s.ctrl cmd.cntlid).allocated < q ∨ SMap.has (s.ctrl cmd.cntlid).cqs q = true))) ∧
    (∃ (s : State) (cmd : CmdId) (q n c : Nat), s.adminReady cmd = true ∧ q ≠ 0 ∧ q ≤ (s.ctrl cmd.cntlid).allocated ∧ SMap.has (s.ctrl cmd.cntlid).sqs q = false ∧ 2 ≤ n ∧ n ≤ 4096 ∧ c ≠ 0 ∧ SMap.has (s.ctrl cmd.cntlid).cqs c = true) ∧
    (∃ (s : State) (cmd : CmdId) (q n c : Nat), s.adminReady cmd = true ∧ q ≠ 0 ∧ q ≤ (s.ctrl cmd.cntlid).allocated ∧ SMap.has (s.ctrl cmd.cntlid).sqs q = false ∧ (n < 2 ∨ 4096 < n)) ∧
    (∃ (s : State) (cmd : CmdId) (i : Nat) (q : Sq), s.adminReady cmd = true ∧ i ≠ 0 ∧ SMap.get (s.ctrl cmd.cntlid).sqs i = some q ∧ q.gone = false ∧ q.deleting = none) ∧
    (∃ (s : State) (cmd : CmdId) (i : Nat), s.adminReady cmd = true ∧ i ≠ 0 ∧ SMap.has (s.ctrl cmd.cntlid).cqs i = true ∧ (s.ctrl cmd.cntlid).sqs.all (fun e => e.2.gone || e.2.cqid != i) = true) ∧
    (∃ (s : State) (cmd : CmdId) (i : Nat), s.adminReady cmd = true ∧ i ≠ 0 ∧ SMap.has (s.ctrl cmd.cntlid).cqs i = true ∧ (s.ctrl cmd.cntlid).sqs.any (fun e => !e.2.gone && e.2.cqid == i) = true) ∧
    (∃ (s : State) (cmd : CmdId) (i x : Nat), s.adminReady cmd = true ∧ (⟨cmd.cntlid, i, x⟩ : CmdId) ∉ s.unadmitted cmd.cntlid i) ∧
    (∃ (s : State) (cmd : CmdId) (i x : Nat), s.adminReady cmd = true ∧ (⟨cmd.cntlid, i, x⟩ : CmdId) ∈ s.unadmitted cmd.cntlid i) :=
  ⟨⟨hd, 1, 1, 15, { size := 16, cqid := 1, tail := 8 }, by decide +kernel⟩,
    ⟨hd, 1, 1, 1, { size := 16 }, by decide +kernel⟩,
    ⟨{ hd with power.pfAsserted := false, nvme.ctrls := [(1, { ctl with cqs := [(1, { size := 16, tail := 4, held := [⟨acmd, nvOk, 0, []⟩] })] })] }, 1, 1, 1, { size := 16, tail := 4, held := [⟨acmd, nvOk, 0, []⟩] }, ⟨acmd, nvOk, 0, []⟩, [], by decide +kernel⟩,
    ⟨{ hd with power.pfAsserted := false }, ⟨0x11, 0, 7⟩, 2, [1], 1, 1, by decide +kernel⟩,
    ⟨hd, acmd, by decide +kernel⟩,
    ⟨{ hd with nvme.ctrls := [(1, ctl0)] }, acmd, 1, 1, by decide +kernel⟩,
    ⟨hd, acmd, 2, 4096, 1, by decide +kernel⟩,
    ⟨hd, acmd, 1, 1, 1, by decide +kernel⟩,
    ⟨hd, acmd, 2, 2, 1, by decide +kernel⟩,
    ⟨hd, acmd, 2, 4097, 1, by decide +kernel⟩,
    ⟨hd, acmd, 1, { size := 16, cqid := 1, tail := 8 }, by decide +kernel⟩,
    ⟨{ hd with nvme.ctrls := [(1, { ctl with cqs := ctl.cqs ++ [(2, { size := 16 })] })] }, acmd, 2, by decide +kernel⟩,
    ⟨hd, acmd, 1, by decide +kernel⟩,
    ⟨hd, acmd, 1, 1, by decide +kernel⟩,
    ⟨{ hd with head.st0.waiting := [wc] }, acmd, 1, 7, by decide +kernel⟩⟩

/-- O24: every premise list of Obligations.ManagerCommandsAreRecordedInTheBundle is met. -/
theorem test_met_ManagerCommandsAreRecordedInTheBundle :
    (∃ (s : State) (cmd : CmdId) (z l d : Nat), s.adminReady cmd = true ∧ (s.ctrlKind cmd.cntlid = .pf ∨ s.ctrlKind cmd.cntlid = .rdma) ∧ s.isManager = true ∧ s.adminStatus (.create z l d) = none) ∧
    (∃ (s : State) (cmd : CmdId) (n : Nat), s.adminReady cmd = true ∧ (s.ctrlKind cmd.cntlid = .pf ∨ s.ctrlKind cmd.cntlid = .rdma) ∧ s.isManager = true ∧ n ≠ 0xFFFFFFFF ∧ s.adminStatus (.delete n) = none) ∧
    (∃ (s : State) (cmd : CmdId) (n z l d : Nat) (b : Bool) (st : NvmeSt), s.adminReady cmd = true ∧ (s.ctrlKind cmd.cntlid = .pf ∨ s.ctrlKind cmd.cntlid = .rdma) ∧ s.isManager = true ∧ s.adminStatus (if b then .create z l d else .delete n) = some st) ∧
    (∃ (s : State) (cmd : CmdId) (n z l d : Nat) (b : Bool), s.adminReady cmd = true ∧ s.ctrlKind cmd.cntlid = .vf) ∧
    (∃ (s : State) (cmd : CmdId) (n : Nat) (ids : List Nat), s.adminReady cmd = true ∧ s.ctrlKind cmd.cntlid ≠ .discovery ∧ s.isManager = true ∧ s.adminStatus (.attach n ids) = none) ∧
    (∃ (s : State) (cmd : CmdId) (n : Nat) (ids : List Nat), s.adminReady cmd = true ∧ s.ctrlKind cmd.cntlid ≠ .discovery ∧ s.isManager = true ∧ s.adminStatus (.detach n ids) = none) ∧
    (∃ (s : State) (cmd : CmdId) (n l e : Nat) (x : Ns), s.adminReady cmd = true ∧ s.ctrlKind cmd.cntlid ≠ .discovery ∧ s.isManager = true ∧ e < 2 ∧ s.ns n = some x ∧ s.adminStatus (.format n l e) = none) ∧
    (∃ (s : State) (cmd : CmdId) (a : Nat), s.adminReady cmd = true ∧ (s.ctrlKind cmd.cntlid = .pf ∨ s.ctrlKind cmd.cntlid = .rdma) ∧ a ≠ 4) ∧
    (∃ (s : State) (cmd : CmdId), s.adminReady cmd = true ∧ (s.ctrlKind cmd.cntlid = .pf ∨ s.ctrlKind cmd.cntlid = .rdma) ∧ s.isManager = true ∧ s.adminStatus .sanitizeCrypto = none ∧ s.psAdmits = true ∧ s.cipher.drbgOk = true) ∧
    (∃ (s : State) (cmd : CmdId) (n : Nat) (ids : List Nat), s.adminReady cmd = true ∧ s.ctrlKind cmd.cntlid ≠ .discovery ∧ s.isManager = false ∧ s.seam.linkUp = true) ∧
    (∃ (s : State) (cmd : CmdId) (op : AdminOp) (st : NvmeSt), s.isManager = true ∧ s.seam.linkUp = true ∧ s.adminStatus op = some st) ∧
    (∃ (s : State) (cmd : CmdId) (n : Nat), s.isManager = true ∧ s.seam.linkUp = true ∧ n ≠ 0xFFFFFFFF ∧ s.adminStatus (.delete n) = none) :=
  ⟨⟨{ hd with cipher.recs := [(1, kr)] }, acmd, 1024, 0, 1, by decide +kernel⟩,
    ⟨hd, acmd, 1, by decide +kernel⟩,
    ⟨hd, acmd, 5, 1, 1, 1, false, nvNs, by decide +kernel⟩,
    ⟨{ hd with nvme.numVfs := 1, nvme.ctrls := [(2, ctl)] }, ⟨2, 0, 7⟩, 1, 1, 1, 1, true, by decide +kernel⟩,
    ⟨hd, acmd, 1, [2], by decide +kernel⟩,
    ⟨hd, acmd, 1, [1], by decide +kernel⟩,
    ⟨hd, acmd, 1, 0, 1, ns1, by decide +kernel⟩,
    ⟨hd, acmd, 1, by decide +kernel⟩,
    ⟨{ hd with cipher.drbgOk := true, params := pars ++ [par p_nvme_sanitize_enable 0 1] }, acmd, by decide +kernel⟩,
    ⟨{ hd with seam.linkUp := true, seam.manager := false }, acmd, 1, [], by decide +kernel⟩,
    ⟨{ hd with seam.linkUp := true }, acmd, (.delete 5), nvNs, by decide +kernel⟩,
    ⟨{ hd with seam.linkUp := true }, acmd, 1, by decide +kernel⟩⟩

/-- O25: every premise list of Obligations.FeaturesEventsTestsAndPowerStates is met. -/
theorem test_met_FeaturesEventsTestsAndPowerStates :
    (∃ (s : State) (cmd : CmdId) (f n : Nat), s.adminReady cmd = true ∧ f ∈ featureIds) ∧
    (∃ (s : State) (cmd : CmdId) (f n x : Nat), s.adminReady cmd = true ∧ (f ∉ featureIds ∨ 3 < x)) ∧
    (∃ (s : State) (cmd : CmdId) (n v : Nat) (d : Bytes), s.adminReady cmd = true ∧ v % 32 ≤ 2) ∧
    (∃ (s : State) (cmd : CmdId) (n v : Nat) (d : Bytes), s.adminReady cmd = true ∧ 2 < v % 32) ∧
    (∃ (s : State) (cmd : CmdId), s.adminReady cmd = true ∧ (s.ctrl cmd.cntlid).aers.length < 16 ∧ (s.ctrl cmd.cntlid).notices = []) ∧
    (∃ (s : State) (cmd : CmdId), s.adminReady cmd = true ∧ 16 ≤ (s.ctrl cmd.cntlid).aers.length) ∧
    (∃ (s : State) (cmd : CmdId) (n : Nat), s.adminReady cmd = true ∧ s.ctrlKind cmd.cntlid ≠ .discovery ∧ s.nvme.test = none ∧ (n = 0 ∨ n = 0xFFFFFFFF ∨ SMap.has s.nvme.ns n = true)) ∧
    (∃ (s : State) (cmd : CmdId) (n : Nat), s.adminReady cmd = true ∧ s.ctrlKind cmd.cntlid ≠ .discovery ∧ s.nvme.test = none ∧ (n = 0 ∨ n = 0xFFFFFFFF ∨ SMap.has s.nvme.ns n = true)) ∧
    (∃ (s : State) (cmd : CmdId) (n : Nat) (x : SelfTest), s.adminReady cmd = true ∧ s.ctrlKind cmd.cntlid ≠ .discovery ∧ s.nvme.test = some x) ∧
    (∃ (s : State) (cmd : CmdId) (x : SelfTest), s.adminReady cmd = true ∧ s.ctrlKind cmd.cntlid ≠ .discovery ∧ s.nvme.test = some x) ∧
    (∃ (s : State) (p e : Nat), s.headUp = true ∧ s.nvme.psMove = .entry p e ∧ e ≤ s.epn) ∧
    (∃ (s : State) (p e : Nat), s.headUp = true ∧ s.nvme.psMove = .exit p e ∧ e ≤ s.epn) ∧
    (∃ (s : State) (c p : Nat), s.headUp = true ∧ (s.ctrl c).en = true ∧ SMap.getD (s.ctrl c).feats 0x0C 0 = 1 ∧ apstTarget (SMap.getD (s.ctrl c).feats 0x10C 0) (s.ctrl c).ps = some p) :=
  ⟨⟨hd, acmd, 1, 1, by decide +kernel⟩,
    ⟨hd, acmd, 0xFE, 1, 1, by decide +kernel⟩,
    ⟨hd, acmd, 1, 1, [], by decide +kernel⟩,
    ⟨hd, acmd, 1, 3, [], by decide +kernel⟩,
    ⟨hd, acmd, by decide +kernel⟩,
    ⟨{ hd with nvme.ctrls := [(1, { ctl with aers := List.replicate 16 acmd })] }, acmd, by decide +kernel⟩,
    ⟨{ hd with nvme.test := none }, acmd, 1, by decide +kernel⟩,
    ⟨{ hd with nvme.test := none }, acmd, 1, by decide +kernel⟩,
    ⟨{ hd with nvme.test := some ⟨1, 1, 1, 0, false⟩ }, acmd, 1, ⟨1, 1, 1, 0, false⟩, by decide +kernel⟩,
    ⟨{ hd with nvme.test := some ⟨1, 1, 1, 0, false⟩ }, acmd, ⟨1, 1, 1, 0, false⟩, by decide +kernel⟩,
    ⟨{ hd with nvme.psMove := .entry 1 1 }, 1, 1, by decide +kernel⟩,
    ⟨{ hd with nvme.psMove := .exit 1 1 }, 1, 1, by decide +kernel⟩,
    ⟨{ hd with nvme.ctrls := [(1, { ctl with feats := [(0x0C, 1), (0x10C, 0x108)] })] }, 1, 1, by decide +kernel⟩⟩

/-- O26: premise lists of Obligations.LogPagesAndIdentifyAnswer, part 1 of 2. -/
theorem test_met_LogPagesAndIdentifyAnswer :
    (∃ (s : State) (cmd : CmdId) (n : Nat) (rae : Bool), s.adminReady cmd = true) ∧
    (∃ (s : State) (cmd : CmdId) (off n : Nat) (k : LogCopy), s.adminReady cmd = true ∧ off % 4 = 0 ∧ off ≠ 0 ∧ SMap.get (s.ctrl cmd.cntlid).copies (0xc0 * 4 + 0) = some k) ∧
    (∃ (s : State) (cmd : CmdId) (n : Nat) (rae : Bool), s.adminReady cmd = true) ∧
    (∃ (s : State) (cmd : CmdId) (off n : Nat) (k : LogCopy), s.adminReady cmd = true ∧ off % 4 = 0 ∧ off ≠ 0 ∧ SMap.get (s.ctrl cmd.cntlid).copies (0xc1 * 4 + 0) = some k) ∧
    (∃ (s : State) (cmd : CmdId) (n : Nat) (rae : Bool), s.adminReady cmd = true) ∧
    (∃ (s : State) (cmd : CmdId) (off n : Nat) (k : LogCopy), s.adminReady cmd = true ∧ off % 4 = 0 ∧ off ≠ 0 ∧ SMap.get (s.ctrl cmd.cntlid).copies (0xc2 * 4 + 0) = some k) ∧
    (∃ (s : State) (cmd : CmdId) (n : Nat) (rae : Bool), s.adminReady cmd = true) ∧
    (∃ (s : State) (cmd : CmdId) (off n : Nat) (k : LogCopy), s.adminReady cmd = true ∧ off % 4 = 0 ∧ off ≠ 0 ∧ SMap.get (s.ctrl cmd.cntlid).copies (0xc3 * 4 + 0) = some k) ∧
    (∃ (s : State) (cmd : CmdId) (n : Nat) (rae : Bool), s.adminReady cmd = true) ∧
    (∃ (s : State) (cmd : CmdId) (off n : Nat) (k : LogCopy), s.adminReady cmd = true ∧ off % 4 = 0 ∧ off ≠ 0 ∧ SMap.get (s.ctrl cmd.cntlid).copies (0xc6 * 4 + 0) = some k) ∧
    (∃ (s : State) (cmd : CmdId) (n : Nat) (rae : Bool), s.adminReady cmd = true) ∧
    (∃ (s : State) (cmd : CmdId) (off n : Nat) (k : LogCopy), s.adminReady cmd = true ∧ off % 4 = 0 ∧ off ≠ 0 ∧ SMap.get (s.ctrl cmd.cntlid).copies (0xc7 * 4 + 0) = some k) ∧
    (∃ (s : State) (cmd : CmdId) (n : Nat) (rae : Bool), s.adminReady cmd = true) ∧
    (∃ (s : State) (cmd : CmdId) (off n : Nat) (k : LogCopy), s.adminReady cmd = true ∧ off % 4 = 0 ∧ off ≠ 0 ∧ SMap.get (s.ctrl cmd.cntlid).copies (0xc4 * 4 + 0) = some k) ∧
    (∃ (s : State) (cmd : CmdId) (n : Nat) (rae : Bool), s.adminReady cmd = true) ∧
    (∃ (s : State) (cmd : CmdId) (off n : Nat) (k : LogCopy), s.adminReady cmd = true ∧ off % 4 = 0 ∧ off ≠ 0 ∧ SMap.get (s.ctrl cmd.cntlid).copies (0xc4 * 4 + 1) = some k) ∧
    (∃ (s : State) (cmd : CmdId) (n : Nat) (rae : Bool), s.adminReady cmd = true) ∧
    (∃ (s : State) (cmd : CmdId) (off n : Nat) (k : LogCopy), s.adminReady cmd = true ∧ off % 4 = 0 ∧ off ≠ 0 ∧ SMap.get (s.ctrl cmd.cntlid).copies (0xc5 * 4 + 0) = some k) ∧
    (∃ (s : State) (cmd : CmdId) (n : Nat) (rae : Bool), s.adminReady cmd = true) ∧
    (∃ (s : State) (cmd : CmdId) (off n : Nat) (k : LogCopy), s.adminReady cmd = true ∧ off % 4 = 0 ∧ off ≠ 0 ∧ SMap.get (s.ctrl cmd.cntlid).copies (0xc5 * 4 + 1) = some k) :=
  ⟨⟨hd, acmd, 1, true, by decide +kernel⟩,
    ⟨{ hd with nvme.ctrls := [(1, { ctl with copies := [(0xC0 * 4, .bytes [1, 2])] })] }, acmd, 4, 1, (.bytes [1, 2]), by decide +kernel⟩,
    ⟨hd, acmd, 1, true, by decide +kernel⟩,
    ⟨{ hd with nvme.ctrls := [(1, { ctl with copies := [(0xC1 * 4, .bytes [1, 2])] })] }, acmd, 4, 1, (.bytes [1, 2]), by decide +kernel⟩,
    ⟨hd, acmd, 1, true, by decide +kernel⟩,
    ⟨{ hd with nvme.ctrls := [(1, { ctl with copies := [(0xC2 * 4, .bytes [1, 2])] })] }, acmd, 4, 1, (.bytes [1, 2]), by decide +kernel⟩,
    ⟨hd, acmd, 1, true, by decide +kernel⟩,
    ⟨{ hd with nvme.ctrls := [(1, { ctl with copies := [(0xC3 * 4, .bytes [1, 2])] })] }, acmd, 4, 1, (.bytes [1, 2]), by decide +kernel⟩,
    ⟨hd, acmd, 1, true, by decide +kernel⟩,
    ⟨{ hd with nvme.ctrls := [(1, { ctl with copies := [(0xC6 * 4, .bytes [1, 2])] })] }, acmd, 4, 1, (.bytes [1, 2]), by decide +kernel⟩,
    ⟨hd, acmd, 1, true, by decide +kernel⟩,
    ⟨{ hd with nvme.ctrls := [(1, { ctl with copies := [(0xC7 * 4, .bytes [1, 2])] })] }, acmd, 4, 1, (.bytes [1, 2]), by decide +kernel⟩,
    ⟨hd, acmd, 1, true, by decide +kernel⟩,
    ⟨{ hd with nvme.ctrls := [(1, { ctl with copies := [(0xC4 * 4, .bytes [1, 2])] })] }, acmd, 4, 1, (.bytes [1, 2]), by decide +kernel⟩,
    ⟨hd, acmd, 1, true, by decide +kernel⟩,
    ⟨{ hd with nvme.ctrls := [(1, { ctl with copies := [(0xC4 * 4 + 1, .bytes [1, 2])] })] }, acmd, 4, 1, (.bytes [1, 2]), by decide +kernel⟩,
    ⟨hd, acmd, 1, true, by decide +kernel⟩,
    ⟨{ hd with nvme.ctrls := [(1, { ctl with copies := [(0xC5 * 4, .bytes [1, 2])] })] }, acmd, 4, 1, (.bytes [1, 2]), by decide +kernel⟩,
    ⟨hd, acmd, 1, true, by decide +kernel⟩,
    ⟨{ hd with nvme.ctrls := [(1, { ctl with copies := [(0xC5 * 4 + 1, .bytes [1, 2])] })] }, acmd, 4, 1, (.bytes [1, 2]), by decide +kernel⟩⟩

/-- O26: premise lists of Obligations.LogPagesAndIdentifyAnswer, part 2 of 2. -/
theorem test_met_LogPagesAndIdentifyAnswer_2 :
    (∃ (s : State) (cmd : CmdId) (n : Nat) (rae : Bool), s.adminReady cmd = true) ∧
    (∃ (s : State) (cmd : CmdId) (off n : Nat) (k : LogCopy), s.adminReady cmd = true ∧ off % 4 = 0 ∧ off ≠ 0 ∧ SMap.get (s.ctrl cmd.cntlid).copies (0xc5 * 4 + 0) = some k) ∧
    (∃ (s : State) (cmd : CmdId) (l p off n : Nat) (rae : Bool), s.adminReady cmd = true ∧ s.ctrlKind cmd.cntlid ≠ .discovery ∧ l ∉ [0x01, 0x02, 0x03, 0x04, 0x06, 0x0C, 0x80, 0x81] ∧ (l < 0xC0 ∨ 0xC7 < l)) ∧
    (∃ (s : State) (cmd : CmdId) (p off n : Nat), s.adminReady cmd = true) ∧
    (∃ (s : State) (cmd : CmdId) (n x : Nat), s.adminReady cmd = true) ∧
    (∃ (s : State) (cmd : CmdId) (n x : Nat), s.adminReady cmd = true ∧ s.ctrlKind cmd.cntlid ≠ .discovery) ∧
    (∃ (s : State) (cmd : CmdId) (k n x : Nat), s.adminReady cmd = true ∧ 0x20 ≤ k) :=
  ⟨⟨hd, acmd, 1, true, by decide +kernel⟩,
    ⟨{ hd with nvme.ctrls := [(1, { ctl with copies := [(0xC5 * 4, .bytes [1, 2])] })] }, acmd, 4, 1, (.bytes [1, 2]), by decide +kernel⟩,
    ⟨hd, acmd, 0xBF, 1, 1, 1, true, by decide +kernel⟩,
    ⟨hd, acmd, 1, 1, 1, by decide +kernel⟩,
    ⟨hd, acmd, 1, 1, by decide +kernel⟩,
    ⟨hd, acmd, 1, 1, by decide +kernel⟩,
    ⟨hd, acmd, 0x20, 1, 1, by decide +kernel⟩⟩

/-- O27: every premise list of Obligations.FirmwareIsStagedCheckedAndWritten is met. -/
theorem test_met_FirmwareIsStagedCheckedAndWritten :
    (∃ (s : State) (cmd : CmdId) (off : Nat) (d : Bytes), s.adminReady cmd = true ∧ (s.ctrlKind cmd.cntlid = .pf ∨ s.ctrlKind cmd.cntlid = .rdma) ∧ (s.nvme.fwOwner = none ∨ s.nvme.fwOwner = some cmd.cntlid) ∧ pieceStatus s.nvme.fwPieces off d = none) ∧
    (∃ (s : State) (cmd : CmdId) (off : Nat) (d : Bytes) (st : NvmeSt), s.adminReady cmd = true ∧ (s.ctrlKind cmd.cntlid = .pf ∨ s.ctrlKind cmd.cntlid = .rdma) ∧ (s.nvme.fwOwner = none ∨ s.nvme.fwOwner = some cmd.cntlid) ∧ pieceStatus s.nvme.fwPieces off d = some st) ∧
    (∃ (s : State) (cmd : CmdId) (off c : Nat) (d : Bytes), s.adminReady cmd = true ∧ (s.ctrlKind cmd.cntlid = .pf ∨ s.ctrlKind cmd.cntlid = .rdma) ∧ s.nvme.fwOwner = some c ∧ c ≠ cmd.cntlid) ∧
    (∃ (s : State) (cmd : CmdId) (x : Nat) (c : Copy), s.adminReady cmd = true ∧ (s.ctrlKind cmd.cntlid = .pf ∨ s.ctrlKind cmd.cntlid = .rdma) ∧ s.nvme.fwCommit = none ∧ s.fwTarget x = some c ∧ c ≠ s.boot.copy ∧ s.nvme.fwOwner = some cmd.cntlid ∧ s.fwGood (fun off len => sub (assemble s.nvme.fwPieces s.nvme.fwPieces.length []) off len) 0 = false) ∧
    (∃ (s : State) (cmd : CmdId) (x : Nat) (c : Copy), s.adminReady cmd = true ∧ (s.ctrlKind cmd.cntlid = .pf ∨ s.ctrlKind cmd.cntlid = .rdma) ∧ s.nvme.fwCommit = none ∧ s.fwTarget x = some c ∧ c ≠ s.boot.copy ∧ s.nvme.fwOwner = none) ∧
    (∃ (s : State) (cmd : CmdId) (x : Nat) (c : Copy), s.adminReady cmd = true ∧ (s.ctrlKind cmd.cntlid = .pf ∨ s.ctrlKind cmd.cntlid = .rdma) ∧ s.nvme.fwCommit = none ∧ s.fwTarget x = some c ∧ c ≠ s.boot.copy) ∧
    (∃ (s : State) (cmd : CmdId) (x : Nat), s.adminReady cmd = true ∧ (s.ctrlKind cmd.cntlid = .pf ∨ s.ctrlKind cmd.cntlid = .rdma) ∧ s.fwTarget x = some s.boot.copy ∧ s.nvme.fwCommit = none) ∧
    (∃ (s : State) (f : FwCommit), s.fw = true ∧ s.isHead = true ∧ s.nvme.fwCommit = some f) ∧
    (∃ (s : State) (cmd : CmdId) (x : Nat) (c : Copy), s.adminReady cmd = true ∧ (s.ctrlKind cmd.cntlid = .pf ∨ s.ctrlKind cmd.cntlid = .rdma) ∧ s.nvme.fwCommit = none ∧ s.fwTarget x = some c ∧ c ≠ s.boot.copy ∧ s.nvme.fwOwner = some cmd.cntlid ∧ s.fwGood (fun off len => sub (assemble s.nvme.fwPieces s.nvme.fwPieces.length []) off len) 1 = false) :=
  ⟨⟨hd, acmd, 4096, [1], by decide +kernel⟩,
    ⟨hd, acmd, 1, [1], nvField, by decide +kernel⟩,
    ⟨{ hd with nvme.fwOwner := some 2 }, acmd, 1, 2, [], by decide +kernel⟩,
    ⟨{ hd with nvme.fwCommit := none, nvme.fwOwner := some acmd.cntlid }, acmd, 2, .b, by decide +kernel⟩,
    ⟨{ hd with nvme.fwCommit := none, nvme.fwOwner := none }, acmd, 0, .b, by decide +kernel⟩,
    ⟨{ hd with nvme.fwCommit := none }, acmd, 0, .b, by decide +kernel⟩,
    ⟨{ hd with nvme.fwCommit := none }, acmd, 1, by decide +kernel⟩,
    ⟨{ hd with nvme.fwCommit := some ⟨acmd, 0, .b, zeros 64⟩ }, ⟨acmd, 0, .b, zeros 64⟩, by decide +kernel⟩,
    ⟨{ hd with nvme.fwCommit := none, nvme.fwOwner := some acmd.cntlid }, acmd, 2, .b, by decide +kernel⟩⟩

/-- O27: a firmware commit that is accepted; its last premise rests on the signatures of an image, and the verify
functions are opaque (log 7), so the image that they accept is a premise here. -/
theorem test_met_FirmwareIsStagedCheckedAndWritten_signed (img : Bytes) (hg : hd.fwGood (fun off len => sub img off len) 0 = true) : ∃ (s : State) (cmd : CmdId) (x : Nat) (c : Copy), s.adminReady cmd = true ∧ (s.ctrlKind cmd.cntlid = .pf ∨ s.ctrlKind cmd.cntlid = .rdma) ∧ s.nvme.fwCommit = none ∧ s.fwTarget x = some c ∧ c ≠ s.boot.copy ∧ s.nvme.fwOwner = some cmd.cntlid ∧ s.nvme.fwPieces.all (fun p => decide (p.1 + p.2.length ≤ (assemble s.nvme.fwPieces s.nvme.fwPieces.length []).length)) = true ∧ s.fwGood (fun off len => sub (assemble s.nvme.fwPieces s.nvme.fwPieces.length []) off len) 0 = true := by
  have ha : assemble [(0, img)] 1 [] = img := by simp [assemble]
  have h1 : hd.adminReady acmd = true := by decide +kernel
  have h2 : hd.ctrlKind acmd.cntlid = .pf ∨ hd.ctrlKind acmd.cntlid = .rdma := by decide +kernel
  refine ⟨{ hd with nvme := { hd.nvme with fwOwner := some 1, fwPieces := [(0, img)] } }, acmd, 2, .b, h1, h2, rfl, rfl, (show Copy.b ≠ Copy.a by decide), rfl, ?_, ?_⟩
  · simp [ha]
  · show State.fwGood _ (fun off len => sub (assemble [(0, img)] 1 []) off len) 0 = true
    rw [ha]; exact hg

/-- O27: a firmware commit with activation that is accepted; its last premise rests on the signatures of an image, and the verify
functions are opaque (log 7), so the image that they accept is a premise here. -/
theorem test_met_FirmwareIsStagedCheckedAndWritten_signed_activate (img : Bytes) (hg : hd.fwGood (fun off len => sub img off len) 1 = true) : ∃ (s : State) (cmd : CmdId) (x : Nat) (c : Copy), s.adminReady cmd = true ∧ (s.ctrlKind cmd.cntlid = .pf ∨ s.ctrlKind cmd.cntlid = .rdma) ∧ s.nvme.fwCommit = none ∧ s.fwTarget x = some c ∧ c ≠ s.boot.copy ∧ s.nvme.fwOwner = some cmd.cntlid ∧ s.nvme.fwPieces.all (fun p => decide (p.1 + p.2.length ≤ (assemble s.nvme.fwPieces s.nvme.fwPieces.length []).length)) = true ∧ s.fwGood (fun off len => sub (assemble s.nvme.fwPieces s.nvme.fwPieces.length []) off len) 1 = true := by
  have ha : assemble [(0, img)] 1 [] = img := by simp [assemble]
  have h1 : hd.adminReady acmd = true := by decide +kernel
  have h2 : hd.ctrlKind acmd.cntlid = .pf ∨ hd.ctrlKind acmd.cntlid = .rdma := by decide +kernel
  refine ⟨{ hd with nvme := { hd.nvme with fwOwner := some 1, fwPieces := [(0, img)] } }, acmd, 2, .b, h1, h2, rfl, rfl, (show Copy.b ≠ Copy.a by decide), rfl, ?_, ?_⟩
  · simp [ha]
  · show State.fwGood _ (fun off len => sub (assemble [(0, img)] 1 []) off len) 1 = true
    rw [ha]; exact hg

/-- O28: every premise list of Obligations.HostWritesWaitForAdmissionAtTheirOwner is met. -/
theorem test_met_HostWritesWaitForAdmissionAtTheirOwner :
    (∃ (s : State) (cmd : CmdId) (nsid slba nlb : Nat) (d : Bytes) (pr : Bool) (ck : BitVec 3) (tg mk : Nat) (pi : List PiBlock) (st : NvmeSt), s.ioReady cmd = true ∧ s.silenced = false ∧ s.ioStatus cmd.cntlid nsid = some st) ∧
    (∃ (s : State) (cmd : CmdId) (nsid slba nlb : Nat) (n : Ns) (d : Bytes) (pr : Bool) (ck : BitVec 3) (tg mk : Nat), s.ioReady cmd = true ∧ s.ioStatus cmd.cntlid nsid = none ∧ s.ns nsid = some n ∧ s.replica n = false ∧ hasPi n.lbaf = false ∧ n.dataStatus slba nlb d.length = none ∧ s.arrayFull = false ∧ (s.stream (s.nsStream nsid)).takes s.epn = true ∧ s.covered (.write nsid slba nlb d) = true) ∧
    (∃ (s : State) (cmd : CmdId) (nsid slba nlb : Nat) (n : Ns) (d : Bytes) (pr : Bool) (ck : BitVec 3) (tg mk : Nat), s.ioReady cmd = true ∧ s.ioStatus cmd.cntlid nsid = none ∧ s.ns nsid = some n ∧ s.replica n = false ∧ hasPi n.lbaf = false ∧ n.dataStatus slba nlb d.length = none ∧ s.arrayFull = false ∧ s.covered (.write nsid slba nlb d) = false) ∧
    (∃ (s : State) (cmd : CmdId) (nsid slba nlb : Nat) (n : Ns) (d : Bytes) (pr : Bool) (ck : BitVec 3) (tg mk : Nat) (st : NvmeSt), s.ioReady cmd = true ∧ s.silenced = false ∧ s.ioStatus cmd.cntlid nsid = none ∧ s.ns nsid = some n ∧ s.replica n = false ∧ n.dataStatus slba nlb d.length = some st) ∧
    (∃ (s : State) (cmd : CmdId) (nsid slba nlb : Nat) (n : Ns) (d : Bytes) (pr : Bool) (ck : BitVec 3) (tg mk : Nat), s.ioReady cmd = true ∧ s.ioStatus cmd.cntlid nsid = none ∧ s.ns nsid = some n ∧ s.replica n = false ∧ hasPi n.lbaf = false ∧ n.dataStatus slba nlb d.length = none ∧ s.arrayFull = false ∧ (s.stream (s.nsStream nsid)).takes s.epn = false ∧ s.seam.linkUp = true) ∧
    (∃ (s : State) (cmd : CmdId) (nsid slba nlb : Nat) (n : Ns) (b : Bool), s.ioReady cmd = true ∧ s.ioStatus cmd.cntlid nsid = none ∧ s.ns nsid = some n ∧ s.replica n = false ∧ nlb ≠ 0 ∧ nlb ≤ 65536 ∧ slba + nlb ≤ n.nsze ∧ (s.stream (s.nsStream nsid)).takes s.epn = true ∧ s.covered (.writeZeroes nsid slba nlb b) = true) ∧
    (∃ (s : State) (cmd : CmdId) (nsid slba nlb : Nat) (n : Ns) (b : Bool), s.ioReady cmd = true ∧ s.silenced = false ∧ s.ioStatus cmd.cntlid nsid = none ∧ s.ns nsid = some n ∧ s.replica n = false ∧ 0 < nlb ∧ nlb ≤ 65536 ∧ n.nsze < slba + nlb) ∧
    (∃ (s : State) (cmd : CmdId) (nsid : Nat) (n : Ns) (rs : List LbaRange), s.ioReady cmd = true ∧ s.ioStatus cmd.cntlid nsid = none ∧ s.ns nsid = some n ∧ s.replica n = false ∧ rs ≠ [] ∧ rs.length ≤ 256 ∧ rs.all (fun r => n.inRange r.slba r.nlb) = true ∧ (s.stream (s.nsStream nsid)).takes s.epn = true ∧ s.covered (.deallocate nsid rs) = true) ∧
    (∃ (s : State) (cmd : CmdId) (nsid : Nat) (n : Ns) (rs : List LbaRange), s.ioReady cmd = true ∧ s.silenced = false ∧ s.ioStatus cmd.cntlid nsid = none ∧ s.ns nsid = some n ∧ rs ≠ [] ∧ rs.length ≤ 256 ∧ rs.all (fun r => n.inRange r.slba r.nlb) = true) ∧
    (∃ (s : State) (cmd : CmdId) (nsid sd : Nat) (n : Ns) (rs : List CopyRange), s.ioReady cmd = true ∧ s.ioStatus cmd.cntlid nsid = none ∧ s.ns nsid = some n ∧ s.replica n = false ∧ s.arrayFull = false ∧ s.copyLimits cmd.cntlid n nsid 0 sd rs = none ∧ (s.stream (s.nsStream nsid)).takes s.epn = true ∧ s.covered (.copy nsid sd (rs.map (fun r => { r with nsid := nsid }))) = true) ∧
    (∃ (s : State) (cmp cmd : CmdId) (nsid slba nlb : Nat) (n : Ns) (e d : Bytes), s.ioReady cmp = true ∧ cmd.cntlid = cmp.cntlid ∧ cmd.sqid = cmp.sqid ∧ (s.takeEntry cmp).canFetch cmd = true ∧ s.ioStatus cmd.cntlid nsid = none ∧ s.ns nsid = some n ∧ s.replica n = false ∧ hasPi n.lbaf = false ∧ n.dataStatus slba nlb d.length = none ∧ nlb * lbaBytes n.lbaf ≤ s.nsChunk n ∧ e.length = d.length ∧ s.arrayFull = false ∧ (s.stream (s.nsStream nsid)).takes s.epn = true ∧ s.covered (.compareWrite nsid slba nlb cmp.cid e d) = true) ∧
    (∃ (s : State) (cmd : CmdId) (nsid a cur new : Nat) (n : Ns), s.ioReady cmd = true ∧ s.ioStatus cmd.cntlid nsid = none ∧ s.ns nsid = some n ∧ s.replica n = false ∧ a ≤ 2 ∧ (s.stream (s.nsStream nsid)).takes s.epn = true ∧ s.covered (.resv nsid a 0 cur (if a = 1 then cur else new)) = true) ∧
    (∃ (s : State) (cmd : CmdId) (nsid r cur pre : Nat) (n : Ns), s.ioReady cmd = true ∧ s.ioStatus cmd.cntlid nsid = none ∧ s.ns nsid = some n ∧ s.replica n = false ∧ 0 < r ∧ r ≤ 6 ∧ (s.stream (s.nsStream nsid)).takes s.epn = true ∧ s.covered (.resv nsid 3 r cur cur) = true) ∧
    (∃ (s : State) (cmd : CmdId) (nsid a r cur pre : Nat) (n : Ns), s.ioReady cmd = true ∧ s.silenced = false ∧ s.ioStatus cmd.cntlid nsid = none ∧ s.ns nsid = some n ∧ s.replica n = false ∧ (2 < a ∨ r = 0 ∨ 6 < r)) ∧
    (∃ (s : State) (cmd : CmdId) (nsid r cur : Nat) (n : Ns), s.ioReady cmd = true ∧ s.ioStatus cmd.cntlid nsid = none ∧ s.ns nsid = some n ∧ s.replica n = false ∧ (s.stream (s.nsStream nsid)).takes s.epn = true ∧ s.covered (.resv nsid 6 r cur cur) = true) ∧
    (∃ (s : State) (cmd : CmdId), s.ioReady cmd = true ∧ s.silenced = false) :=
  ⟨⟨hd, icmd, 5, 0, 8, [], true, 0, 1, 1, [], nvNs, by decide +kernel⟩,
    ⟨{ hd with hem.c0 := { grant := [1000, 0, 0, 0, 0] } }, icmd, 1, 0, 2, ns1, zeros 8192, true, 0, 1, 1, by decide +kernel⟩,
    ⟨hd, icmd, 1, 0, 2, ns1, zeros 8192, true, 0, 1, 1, by decide +kernel⟩,
    ⟨hd, icmd, 1, 0, 8, ns1, [], true, 0, 1, 1, nvSgl, by decide +kernel⟩,
    ⟨{ hd with seam.linkUp := true, head.st0.mine := false }, icmd, 1, 0, 2, ns1, zeros 8192, true, 0, 1, 1, by decide +kernel⟩,
    ⟨{ hd with hem.c0 := { grant := [1000, 0, 0, 0, 0] } }, icmd, 1, 0, 8, ns1, true, by decide +kernel⟩,
    ⟨hd, icmd, 1, 1017, 8, ns1, true, by decide +kernel⟩,
    ⟨{ hd with hem.c0 := { grant := [1000, 0, 0, 0, 0] } }, icmd, 1, ns1, [⟨0, 8⟩], by decide +kernel⟩,
    ⟨hd, icmd, 1, ns1, [⟨0, 8⟩], by decide +kernel⟩,
    ⟨{ hd with hem.c0 := { grant := [1000, 0, 0, 0, 0] } }, icmd, 1, 1, ns1, [⟨1, 0, 8⟩], by decide +kernel⟩,
    ⟨{ hd with hem.c0 := { grant := [1000, 0, 0, 0, 0] } }, icmd, ⟨1, 1, 8⟩, 1, 0, 1, ns1, zeros 4096, zeros 4096, by decide +kernel⟩,
    ⟨{ hd with hem.c0 := { grant := [1000, 0, 0, 0, 0] } }, icmd, 1, 1, 1, 1, ns1, by decide +kernel⟩,
    ⟨{ hd with hem.c0 := { grant := [1000, 0, 0, 0, 0] } }, icmd, 1, 1, 1, 1, ns1, by decide +kernel⟩,
    ⟨hd, icmd, 1, 3, 6, 1, 1, ns1, by decide +kernel⟩,
    ⟨{ hd with hem.c0 := { grant := [1000, 0, 0, 0, 0] } }, icmd, 1, 1, 1, ns1, by decide +kernel⟩,
    ⟨hd, icmd, by decide +kernel⟩⟩

/-- O29: every premise list of Obligations.HostReadsAndFlushesAreAnswered is met. -/
theorem test_met_HostReadsAndFlushesAreAnswered :
    (∃ (s : State) (cmd : CmdId) (nsid slba nlb : Nat) (n : Ns) (pr : Bool), s.ioReady cmd = true ∧ s.silenced = false ∧ s.ioStatus cmd.cntlid nsid = none ∧ s.ns nsid = some n ∧ hasPi n.lbaf = false ∧ n.readStatus slba nlb true 0 0 = none ∧ n.resv.allows (s.hostOf cmd.cntlid) false = true ∧ s.psAdmits = true ∧ s.readForwards nsid slba nlb = false ∧ s.head.reads = [] ∧ s.readsZero nsid slba nlb n = true) ∧
    (∃ (s : State) (cmd : CmdId) (nsid slba nlb : Nat) (n : Ns), s.ioReady cmd = true ∧ s.silenced = false ∧ s.ioStatus cmd.cntlid nsid = none ∧ s.ns nsid = some n ∧ n.readStatus slba nlb false 0 0 = none ∧ n.resv.allows (s.hostOf cmd.cntlid) false = true ∧ s.psAdmits = true ∧ s.readForwards nsid slba nlb = false ∧ s.head.reads = [] ∧ s.readsZero nsid slba nlb n = true) ∧
    (∃ (s : State) (cmd : CmdId) (nsid slba nlb : Nat) (n : Ns) (d : Bytes), s.ioReady cmd = true ∧ s.silenced = false ∧ s.ioStatus cmd.cntlid nsid = none ∧ s.ns nsid = some n ∧ n.readStatus slba nlb true 0 0 = none ∧ d.length = nlb * lbaBytes n.lbaf ∧ n.resv.allows (s.hostOf cmd.cntlid) false = true ∧ s.psAdmits = true ∧ s.readForwards nsid slba nlb = false ∧ s.head.reads = [] ∧ s.readsZero nsid slba nlb n = true) ∧
    (∃ (s : State) (cmd : CmdId) (nsid slba nlb : Nat) (n : Ns) (pr : Bool) (st : NvmeSt), s.ioReady cmd = true ∧ s.silenced = false ∧ s.ioStatus cmd.cntlid nsid = none ∧ s.ns nsid = some n ∧ n.readStatus slba nlb true 0 0 = some st) ∧
    (∃ (s : State) (cmd : CmdId) (nsid slba nlb : Nat) (n : Ns) (pr : Bool), s.ioReady cmd = true ∧ s.silenced = false ∧ s.ioStatus cmd.cntlid nsid = none ∧ s.ns nsid = some n ∧ n.readStatus slba nlb true 0 0 = none ∧ n.resv.allows (s.hostOf cmd.cntlid) false = false ∧ s.readForwards nsid slba nlb = false) ∧
    (∃ (s : State) (cmd : CmdId) (nsid slba nlb : Nat) (n : Ns) (pr : Bool), s.ioReady cmd = true ∧ s.ioStatus cmd.cntlid nsid = none ∧ s.ns nsid = some n ∧ n.readStatus slba nlb true 0 0 = none ∧ n.resv.allows (s.hostOf cmd.cntlid) false = true ∧ s.psAdmits = false) ∧
    (∃ (s : State) (cmd : CmdId), s.ioReady cmd = true ∧ s.silenced = false) ∧
    (∃ (s : State) (cmd : CmdId) (nsid : Nat), s.ioReady cmd = true ∧ s.silenced = false ∧ s.ioStatus cmd.cntlid nsid = none) ∧
    (∃ (s : State) (cmd : CmdId) (nsid : Nat) (n : Ns) (x : Bool), s.ioReady cmd = true ∧ s.silenced = false ∧ s.ioStatus cmd.cntlid nsid = none ∧ s.ns nsid = some n ∧ s.readForwards nsid 0 0 = false) ∧
    (∃ (s : State) (cmd : CmdId), s.ioReady cmd = true ∧ s.silencedFor ((s.ctrl cmd.cntlid).cqOf cmd.sqid) nvOk = true) :=
  ⟨⟨{ hd with head.reads := [] }, icmd, 1, 0, 1, ns1, true, by decide +kernel, by decide +kernel, by decide +kernel, by decide +kernel, by decide +kernel, by decide +kernel, by decide +kernel, by decide +kernel, by decide +kernel, by decide +kernel, hd_reads_zeros⟩,
    ⟨{ hd with head.reads := [] }, icmd, 1, 0, 1, ns1, by decide +kernel, by decide +kernel, by decide +kernel, by decide +kernel, by decide +kernel, by decide +kernel, by decide +kernel, by decide +kernel, by decide +kernel, hd_reads_zeros⟩,
    ⟨{ hd with head.reads := [] }, icmd, 1, 0, 1, ns1, zeros 4096, by decide +kernel, by decide +kernel, by decide +kernel, by decide +kernel, by decide +kernel, List.length_replicate, by decide +kernel, by decide +kernel, by decide +kernel, by decide +kernel, hd_reads_zeros⟩,
    ⟨hd, icmd, 1, 1017, 8, ns1, true, nvRange, by decide +kernel⟩,
    ⟨{ hd with nvme.ns := [(1, { ns1 with resv := { rtype := 2, holder := some 5 } })] }, icmd, 1, 0, 8, { ns1 with resv := { rtype := 2, holder := some 5 } }, true, by decide +kernel⟩,
    ⟨{ hd with nvme.psCur := 2 }, icmd, 1, 0, 8, ns1, true, by decide +kernel⟩,
    ⟨hd, icmd, by decide +kernel⟩,
    ⟨hd, icmd, 1, by decide +kernel⟩,
    ⟨hd, icmd, 1, ns1, true, by decide +kernel⟩,
    ⟨{ hd with seam.leaseLost := true }, icmd, by decide +kernel⟩⟩

/-- O30: every premise list of Obligations.AdmissionNumbersCommandsInTheCurrentEpoch is met. -/
theorem test_met_AdmissionNumbersCommandsInTheCurrentEpoch :
    (∃ (s a : State) (cmd : CmdId) (i : Nat) (l : List WaitCmd) (w : WaitCmd) (n : Ns), s.waitsIn cmd = some i ∧ s.moveIn i = a ∧ a.fetchedBefore i cmd = some (l, w) ∧ a.admitting i = true ∧ notHeldBack cmd l = true ∧ a.resvOk w = true ∧ a.canAdmit i w = true ∧ a.ns (opNsid w.op) = some n) ∧
    (∃ (s a : State) (cmd : CmdId) (i : Nat) (l : List WaitCmd) (w : WaitCmd), s.waitsIn cmd = some i ∧ s.moveIn i = a ∧ a.fetchedBefore i cmd = some (l, w) ∧ a.admitting i = true ∧ notHeldBack cmd l = true ∧ a.resvOk w = false) ∧
    (∃ (s a : State) (cmd : CmdId) (i : Nat) (l : List WaitCmd) (w : WaitCmd), s.waitsIn cmd = some i ∧ s.moveIn i = a ∧ a.fetchedBefore i cmd = some (l, w) ∧ (a.admitting i = false ∨ notHeldBack cmd l = false ∨ (a.resvOk w = true ∧ a.canAdmit i w = false))) ∧
    (∃ (s : State) (cmd : CmdId) (i c : Nat) (w : WaitCmd) (n : Ns) (b : Bytes) (x : BitVec 2), s.headUp = true ∧ s.waitsIn cmd = some i ∧ (s.stream i).waiting = [w] ∧ w.cmd = cmd ∧ c ∈ s.missingFills w ∧ s.ns (opNsid w.op) = some n) :=
  ⟨⟨{ hd with head.st0 := { mine := true, waiting := [wc], headersFree := true }, hem.c0 := { grant := [100, 0, 0, 0, 0] } }, { hd with head.st0 := { mine := true, waiting := [wc], headersFree := true }, hem.c0 := { grant := [100, 0, 0, 0, 0] } }, icmd, 0, [], wc, ns1, by decide +kernel⟩,
    ⟨{ hd with head.st0.waiting := [wc], nvme.ns := [(1, { ns1 with resv := { rtype := 1, holder := some 5 } })] }, { hd with head.st0.waiting := [wc], nvme.ns := [(1, { ns1 with resv := { rtype := 1, holder := some 5 } })] }, icmd, 0, [], wc, by decide +kernel⟩,
    ⟨{ hd with head.st0 := { mine := true, awaitSeal := true, waiting := [wc] } }, { hd with head.st0 := { mine := true, awaitSeal := true, waiting := [wc] } }, icmd, 0, [], wc, by decide +kernel⟩,
    ⟨{ hd with head.st0.waiting := [{ wc with op := .copy 1 0 [⟨1, 8, 1⟩] }], head.md.leaves := [(0, { st := 1, chunkId := 7, birth := 1 })] }, icmd, 0, 0, { wc with op := .copy 1 0 [⟨1, 8, 1⟩] }, ns1, [], 0, by decide +kernel⟩⟩

/-- O31: every premise list of Obligations.BundlesAreBuiltHeadedAndCompleted is met. -/
theorem test_met_BundlesAreBuiltHeadedAndCompleted :
    (∃ (s : State) (i : Fin 2) (n : Nat), s.headUp = true ∧ (s.stream i).owns n = true ∧ (s.bundle i n).sealed = true ∧ (s.bundle i n).bodied = false ∧ ((s.stream i).epochWork n).all (fun e => e.2.ready) = true ∧ (s.stream i).bundles.all (fun e => decide (n ≤ e.1) || e.2.bodied) = true ∧ s.p p_repl_role = 0) ∧
    (∃ (s : State) (i : Fin 2) (n : Nat), s.headUp = true ∧ (s.stream i).owns n = true ∧ (s.bundle i n).bodied = true ∧ (s.bundle i n).bodyHdr = none ∧ (s.bundle i n).sealHdr ≠ none) ∧
    (∃ (s : State) (i : Fin 2) (n : Nat), s.headUp = true ∧ (s.stream i).owns n = true ∧ (s.bundle i n).sealed = true ∧ (s.bundle i n).sealHdr = none ∧ (s.stream i).bundles.all (fun e => decide (n ≤ e.1) || e.2.bodyHdr.isSome) = true) ∧
    (∃ (s : State) (i : Fin 2) (n : Nat), s.fw = true ∧ s.isHead = true ∧ (s.bundle i n).sealHdr ≠ none ∧ s.p p_repl_role = 0) ∧
    (∃ (s : State) (i : Fin 2) (n : Nat), s.fw = true ∧ s.isHead = true ∧ (s.bundle i n).bodied = true ∧ s.p p_repl_role = 0) ∧
    (∃ (s : State) (i : Fin 2) (n : Nat), s.fw = true ∧ s.isHead = true ∧ (s.stream i).owns n = true ∧ SMap.has (s.stream i).bundles n = true ∧ s.seam.peerState ≠ 2 ∧ s.nvme.adminWait = [] ∧ s.p p_repl_role = 0) ∧
    (∃ (s : State) (cmd : CmdId) (i : Nat) (c : AdmCmd), [0, 1].find? (fun i => (s.stream i).cmds.any (·.cmd == cmd)) = some i ∧ (s.stream i).cmds.find? (·.cmd == cmd) = some c ∧ s.headUp = true ∧ s.isDurable i c = true ∧ s.seam.leaseLost = false ∧ s.seam.ioStopped = false ∧ c.fromPeer = false ∧ c.cmp = none ∧ s.cqReady cmd = true) ∧
    (∃ (s : State) (cmd : CmdId) (i : Nat) (c : AdmCmd), [0, 1].find? (fun i => (s.stream i).cmds.any (·.cmd == cmd)) = some i ∧ (s.stream i).cmds.find? (·.cmd == cmd) = some c ∧ s.isDurable i c = false) ∧
    (∃ (s : State) (i : Fin 2) (m : Bool), s.headUp = true ∧ (s.stream i).mine = true ∧ s.openCount i < s.p p_ingest_open_stripes ∧ s.layoutKM.2 + 4 ≤ s.acceptOrder.length ∧ freeKey s.hem.sif sifCap ≠ none) ∧
    (∃ (s : State) (i : Fin 2) (m : Bool), s.headUp = true ∧ (s.stream i).mine = true ∧ s.acceptOrder.length < s.layoutKM.2 + 4) ∧
    (∃ (s : State) (i : Fin 2) (m : Bool), s.headUp = true ∧ (s.stream i).mine = true ∧ s.p p_ingest_open_stripes ≤ s.openCount i) ∧
    (∃ (s : State) (l x : Nat) (a b : ChunkRec), s.headUp = true ∧ (s.stream (streamOf l)).mine = true ∧ (l, x) ∈ (s.stream (streamOf l)).sortCands ∧ s.sorted (s.stream (streamOf l)) < s.p p_dedupe_sort_rate_per_s ∧ s.head.md.chunk l = some a ∧ s.head.md.chunk x = some b ∧ a.fp = b.fp ∧ a.domain = b.domain ∧ s.liveFor l s.epn a.domain a.fp = true ∧ s.liveFor x s.epn a.domain a.fp = true) ∧
    (∃ (s : State) (i : Fin 2), s.headUp = true ∧ 64 ≤ (s.credits i).lowEpochs) ∧
    (∃ (s : State) (i : Fin 2), s.headUp = true ∧ s.p p_hem_stall_alarm_epochs ≤ (s.credits i).stallEpochs ∧ 0 < (s.credits i).stallEpochs) :=
  ⟨⟨{ hd with head.st0.bundles := [(1, { sealed := true })], params := pars ++ [par p_repl_role 0 0] }, 0, 1, by decide +kernel⟩,
    ⟨{ hd with head.st0.bundles := [(1, { bodied := true, sealHdr := some bh })] }, 0, 1, by decide +kernel⟩,
    ⟨{ hd with head.st0.bundles := [(1, { sealed := true })] }, 0, 1, by decide +kernel⟩,
    ⟨{ hd with head.st0.bundles := [(1, { sealHdr := some bh })], params := pars ++ [par p_repl_role 0 0] }, 0, 1, by decide +kernel⟩,
    ⟨{ hd with head.st0.bundles := [(1, { bodied := true })], params := pars ++ [par p_repl_role 0 0] }, 0, 1, by decide +kernel⟩,
    ⟨{ hd with nvme.adminWait := [], head.st0.bundles := [(1, {})], params := pars ++ [par p_repl_role 0 0] }, 0, 1, by decide +kernel⟩,
    ⟨{ hd with seam.leaseLost := false, seam.ioStopped := false, head.st0 := { mine := true, cmds := [ac], bundles := [(5, { durSeal := true, durBody := true, durBatch := true, peerDur := true })] } }, icmd, 0, ac, by decide +kernel⟩,
    ⟨{ hd with head.st0.cmds := [ac] }, icmd, 0, ac, by decide +kernel⟩,
    ⟨hd, 0, true, by decide +kernel⟩,
    ⟨{ hd with head.shelves := [] }, 0, true, by decide +kernel⟩,
    ⟨{ hd with params := pars ++ [par p_ingest_open_stripes 0 0] }, 0, true, by decide +kernel⟩,
    ⟨{ hd with head.st0 := { mine := true, sortCands := [(7, 9)], replayed := 1000000 }, head.st1.replayed := 1000000, head.md.chunks := [(7, { ck with refs := [(0, 1)] }), (9, { ck with refs := [(0, 1)] })] }, 7, 9, { ck with refs := [(0, 1)] }, { ck with refs := [(0, 1)] }, by decide +kernel⟩,
    ⟨{ hd with hem.c0.lowEpochs := 64 }, 0, by decide +kernel⟩,
    ⟨{ hd with hem.c0.stallEpochs := 100000 }, 0, by decide +kernel⟩⟩

/-- O32: every premise list of Obligations.DigestsAreComputedComparedAndBound is met. -/
theorem test_met_DigestsAreComputedComparedAndBound :
    (∃ (s : State) (n : Nat) (data : Bytes) (j : Job) (a b : Bytes), s.unitRuns n 3 1 j ∧ (digestDesc j.desc).known = true ∧ (digestDesc j.desc).whole = true ∧ (digestDesc j.desc).stream = false ∧ (digestDesc j.desc).hmac = false ∧ (digestDesc j.desc).compare = false ∧ s.dmaRead (digestDesc j.desc).src (digestDesc j.desc).len = (0, a, s) ∧ s.dmaRead (digestDesc j.desc).tail ((digestDesc j.desc).tails * algBlock (digestDesc j.desc).alg) = (0, b, s) ∧ SMap.get s.digest.saved n = none ∧ (digestDesc j.desc).init = true ∧ (digestDesc j.desc).final = true) ∧
    (∃ (s : State) (n : Nat) (data : Bytes) (j : Job) (a b : Bytes) (k : HmacSlot), s.unitRuns n 3 1 j ∧ (digestDesc j.desc).known = true ∧ (digestDesc j.desc).whole = true ∧ (digestDesc j.desc).stream = false ∧ (digestDesc j.desc).hmac = true ∧ SMap.get s.digest.bound n = some k ∧ k.alg = (digestDesc j.desc).alg ∧ (digestDesc j.desc).compare = false ∧ s.dmaRead (digestDesc j.desc).src (digestDesc j.desc).len = (0, a, s) ∧ s.dmaRead (digestDesc j.desc).tail ((digestDesc j.desc).tails * algBlock (digestDesc j.desc).alg) = (0, b, s) ∧ SMap.get s.digest.saved n = none ∧ (digestDesc j.desc).init = true ∧ (digestDesc j.desc).final = true) ∧
    (∃ (s : State) (n : Nat) (data : Bytes) (j : Job) (a b e : Bytes), s.unitRuns n 3 1 j ∧ (digestDesc j.desc).known = true ∧ (digestDesc j.desc).whole = true ∧ (digestDesc j.desc).stream = false ∧ (digestDesc j.desc).hmac = false ∧ (digestDesc j.desc).compare = true ∧ s.dmaRead (digestDesc j.desc).src (digestDesc j.desc).len = (0, a, s) ∧ s.dmaRead (digestDesc j.desc).tail ((digestDesc j.desc).tails * algBlock (digestDesc j.desc).alg) = (0, b, s) ∧ SMap.get s.digest.saved n = none ∧ (digestDesc j.desc).init = true ∧ (digestDesc j.desc).final = true ∧ s.dmaRead (digestDesc j.desc).result (algLen (digestDesc j.desc).alg) = (0, e, s)) ∧
    (∃ (s : State) (n : Nat) (data : Bytes) (j : Job) (b : Bytes), s.unitRuns n 3 1 j ∧ (digestDesc j.desc).known = true ∧ (digestDesc j.desc).whole = true ∧ (digestDesc j.desc).stream = true ∧ (digestDesc j.desc).init = true ∧ (digestDesc j.desc).ctx = 0 ∧ (digestDesc j.desc).hmac = false ∧ SMap.get s.digest.saved n = none ∧ data.length < (digestDesc j.desc).len) ∧
    (∃ (s : State) (n : Nat) (j : Job), s.unitRuns n 3 2 j ∧ (digestDesc j.desc).len = 0) ∧
    (∃ (s : State) (n : Nat) (j : Job), s.unitRuns n 3 2 j ∧ 0 < (digestDesc j.desc).len ∧ (digestDesc j.desc).len ≤ 64) :=
  ⟨⟨{ hd with ring.jobs := [(0, (jb 3 1 (dgD 1 0 3 64)))] }, 0, [], (jb 3 1 (dgD 1 0 3 64)), zeros 64, [], by unfold State.unitRuns; decide +kernel⟩,
    ⟨{ hd with ring.jobs := [(0, (jb 3 1 (dgD 1 1 3 64)))], digest.bound := [(0, ⟨1, zeros 32⟩)] }, 0, [], (jb 3 1 (dgD 1 1 3 64)), zeros 64, [], ⟨1, zeros 32⟩, by unfold State.unitRuns; decide +kernel⟩,
    ⟨{ hd with ring.jobs := [(0, (jb 3 1 (dgD 1 0 7 64)))] }, 0, [], (jb 3 1 (dgD 1 0 7 64)), zeros 64, [], zeros 32, by unfold State.unitRuns; decide +kernel⟩,
    ⟨{ hd with ring.jobs := [(0, (jb 3 1 (dgD 1 0 9 64)))] }, 0, [], (jb 3 1 (dgD 1 0 9 64)), [], by unfold State.unitRuns; decide +kernel⟩,
    ⟨{ hd with ring.jobs := [(0, (jb 3 2))] }, 0, (jb 3 2), by unfold State.unitRuns; decide +kernel⟩,
    ⟨{ hd with ring.jobs := [(0, (jb 3 2 (dgD 0 0 0 64)))] }, 0, (jb 3 2 (dgD 0 0 0 64)), by unfold State.unitRuns; decide +kernel⟩⟩

/-- O33: every premise list of Obligations.TheMatchArraySearchesWritesAndInvalidates is met. -/
theorem test_met_TheMatchArraySearchesWritesAndInvalidates :
    (∃ (s : State) (n : Nat) (j : Job) (k : Bytes), s.unitRuns n 4 1 j ∧ matchCount j.desc = 1 ∧ s.regionWild (matchRegion j.desc) = false ∧ (s.region (matchRegion j.desc)).mirror = false ∧ s.dmaRead (num j.desc 24 8) 64 = (0, k, s) ∧ k.length = 64 ∧ (∀ i ∈ s.listed (matchRegion j.desc), (s.ment i).hits (BitVec.ofNat 144 (num k 0 18)) = false)) ∧
    (∃ (s : State) (n : Nat) (j : Job) (k : Bytes) (i : Nat) (l : List Nat), s.unitRuns n 4 1 j ∧ matchCount j.desc = 1 ∧ s.regionWild (matchRegion j.desc) = false ∧ (s.region (matchRegion j.desc)).mirror = false ∧ s.dmaRead (num j.desc 24 8) 64 = (0, k, s) ∧ k.length = 64 ∧ s.listed (matchRegion j.desc) = i :: l ∧ (s.ment i).hits (BitVec.ofNat 144 (num k 0 18)) = true ∧ (s.ment i).verifies (BitVec.ofNat 256 (num k 24 32)) (s.region (matchRegion j.desc)).vmask = true) ∧
    (∃ (s : State) (n : Nat) (j : Job) (k : Bytes) (i : Nat), s.unitRuns n 4 1 j ∧ matchCount j.desc = 1 ∧ s.regionWild (matchRegion j.desc) = false ∧ (s.region (matchRegion j.desc)).mirror = false ∧ s.dmaRead (num j.desc 24 8) 64 = (0, k, s) ∧ k.length = 64 ∧ s.listed (matchRegion j.desc) = [i] ∧ (s.ment i).hits (BitVec.ofNat 144 (num k 0 18)) = true ∧ (s.ment i).verifies (BitVec.ofNat 256 (num k 24 32)) (s.region (matchRegion j.desc)).vmask = false) ∧
    (∃ (s : State) (n : Nat) (j : Job) (k : Bytes), s.unitRuns n 4 2 j ∧ matchCount j.desc = 1 ∧ (s.region (matchRegion j.desc)).mirror = false ∧ s.dmaRead (num j.desc 24 8) 128 = (0, k, s) ∧ k.length = 128 ∧ (s.region (matchRegion j.desc)).base ≤ num k 0 4 ∧ num k 0 4 < (s.region (matchRegion j.desc)).base + (s.region (matchRegion j.desc)).count) ∧
    (∃ (s : State) (n : Nat) (j : Job) (k : Bytes), s.unitRuns n 4 2 j ∧ matchCount j.desc = 1 ∧ s.dmaRead (num j.desc 24 8) 128 = (0, k, s) ∧ k.length = 128 ∧ ((num k 0 4 < (s.region (matchRegion j.desc)).base ∨ (s.region (matchRegion j.desc)).base + (s.region (matchRegion j.desc)).count ≤ num k 0 4))) ∧
    (∃ (s : State) (n : Nat) (j : Job) (i : Nat), s.unitRuns n 4 3 j ∧ (s.region (matchRegion j.desc)).mirror = false) ∧
    (∃ (s : State) (n : Nat) (j : Job), s.unitRuns n 4 4 j ∧ matchCount j.desc = 1) ∧
    (∃ (s : State), s.fw = true ∧ s.isHead = true) ∧
    (∃ (s : State) (h : Fin 2), s.fw = true ∧ s.isHead = true ∧ s.pdOn (18 + h) = true) :=
  ⟨⟨{ hd with ring.jobs := [(0, (jb 4 1 (maD 0)))] }, 0, (jb 4 1 (maD 0)), zeros 64, by unfold State.unitRuns; decide +kernel⟩,
    ⟨{ hd with ring.jobs := [(0, (jb 4 1 (maD 0)))], cam.regions := (List.replicate 16 {}).set 0 { base := 0, count := 8, flags := 1, vmask := 1 }, cam.ents := [(7, { valid := true })] }, 0, (jb 4 1 (maD 0)), zeros 64, 7, [], by unfold State.unitRuns; decide +kernel⟩,
    ⟨{ hd with ring.jobs := [(0, (jb 4 1 (maD 0)))], cam.regions := (List.replicate 16 {}).set 0 { base := 0, count := 8, flags := 1, vmask := 1 }, cam.ents := [(7, { valid := true, full := 1 })] }, 0, (jb 4 1 (maD 0)), zeros 64, 7, by unfold State.unitRuns; decide +kernel⟩,
    ⟨{ hd with ring.jobs := [(0, (jb 4 2 (maD 0)))], cam.regions := (List.replicate 16 {}).set 0 { base := 0, count := 8, flags := 1, vmask := 1 } }, 0, (jb 4 2 (maD 0)), zeros 128, by unfold State.unitRuns; decide +kernel⟩,
    ⟨{ hd with ring.jobs := [(0, (jb 4 2 (maD 0)))] }, 0, (jb 4 2 (maD 0)), zeros 128, by unfold State.unitRuns; decide +kernel⟩,
    ⟨{ hd with ring.jobs := [(0, (jb 4 3))] }, 0, (jb 4 3), 1, by unfold State.unitRuns; decide +kernel⟩,
    ⟨{ hd with ring.jobs := [(0, (jb 4 4 (maD 0)))] }, 0, (jb 4 4 (maD 0)), by unfold State.unitRuns; decide +kernel⟩,
    ⟨hd, by decide +kernel⟩,
    ⟨hd, 1, by decide +kernel⟩⟩

/-- O34: every premise list of Obligations.TheShardAnswersAndChanges is met. -/
theorem test_met_TheShardAnswersAndChanges :
    (∃ (s : State) (h : FrameHdr) (domain : Nat) (fp : Bytes) (e : IdxEntry), s.shelfTakes h = true ∧ s.rangeReady (fpRange fp) = true ∧ s.mayHold domain fp = true ∧ s.idxFind domain fp = some e) ∧
    (∃ (s : State) (h : FrameHdr) (domain : Nat) (fp : Bytes), s.shelfTakes h = true ∧ s.rangeReady (fpRange fp) = true ∧ s.idxFind domain fp = none) ∧
    (∃ (s : State) (h : FrameHdr) (domain : Nat) (fp : Bytes), s.shelfTakes h = true ∧ s.rangeReady (fpRange fp) = false) ∧
    (∃ (s : State) (h : FrameHdr) (domain chunkId : Nat) (fp : Bytes), s.shelfTakes h = true ∧ s.firstCopy h = true ∧ s.rangeReady (fpRange fp) = true ∧ s.idxFind domain fp = none ∧ s.sh.state < 2 ∧ s.idxFull fp = false) ∧
    (∃ (s : State) (h : FrameHdr) (domain chunkId : Nat) (fp : Bytes) (e : IdxEntry), s.shelfTakes h = true ∧ s.firstCopy h = true ∧ s.rangeReady (fpRange fp) = true ∧ s.idxFind domain fp = some e) ∧
    (∃ (s : State) (h : FrameHdr) (domain chunkId : Nat) (fp : Bytes), s.shelfTakes h = true ∧ s.firstCopy h = true) ∧
    (∃ (s : State) (h : FrameHdr) (domain chunkId old : Nat) (fp : Bytes) (e : IdxEntry), s.shelfTakes h = true ∧ s.firstCopy h = true ∧ s.idxFind domain fp = some e ∧ e.chunkId = old) ∧
    (∃ (s : State) (h : FrameHdr) (domain chunkId old : Nat) (fp : Bytes) (e : IdxEntry), s.shelfTakes h = true ∧ s.firstCopy h = true ∧ s.idxFind domain fp = some e ∧ e.chunkId ≠ old) ∧
    (∃ (s : State) (h : FrameHdr) (domain chunkId : Nat) (fp : Bytes), s.shelfTakes h = true ∧ s.idxFind domain fp = none ∧ s.sh.state < 2 ∧ s.idxFull fp = false) ∧
    (∃ (s : State) (h : FrameHdr) (r : BitVec 16), s.shelfTakes h = true) ∧
    (∃ (s : State) (h : FrameHdr) (r : BitVec 16), s.shelfTakes h = true) ∧
    (∃ (s : State) (strip b : Nat), s.shelfOn = true ∧ s.sh.state = 1) ∧
    (∃ (s : State), s.shelfOn = true ∧ s.stageFrom .join = true ∧ s.sh.shard.rows = false) :=
  ⟨⟨{ shf with sh.shard := { rows := true, pending := [⟨(le 2 3 ++ zeros 30), 1, 7⟩] } }, fh, 1, (le 2 3 ++ zeros 30), ⟨(le 2 3 ++ zeros 30), 1, 7⟩, by decide +kernel⟩,
    ⟨{ shf with sh.shard := { rows := true } }, fh, 1, (le 2 3 ++ zeros 30), by decide +kernel⟩,
    ⟨shf, fh, 1, [], by decide +kernel⟩,
    ⟨{ shf with sh.shard := { rows := true }, keep.lease := some lr }, fh, 1, 1, (le 2 3 ++ zeros 30), by decide +kernel⟩,
    ⟨{ shf with sh.shard := { rows := true, pending := [⟨(le 2 3 ++ zeros 30), 1, 7⟩] }, keep.lease := some lr }, fh, 1, 1, (le 2 3 ++ zeros 30), ⟨(le 2 3 ++ zeros 30), 1, 7⟩, by decide +kernel⟩,
    ⟨{ shf with keep.lease := some lr }, fh, 1, 1, [], by decide +kernel⟩,
    ⟨{ shf with sh.shard := { rows := true, pending := [⟨(le 2 3 ++ zeros 30), 1, 7⟩] }, keep.lease := some lr }, fh, 1, 1, 7, (le 2 3 ++ zeros 30), ⟨(le 2 3 ++ zeros 30), 1, 7⟩, by decide +kernel⟩,
    ⟨{ shf with sh.shard := { rows := true, pending := [⟨(le 2 3 ++ zeros 30), 1, 7⟩] }, keep.lease := some lr }, fh, 1, 1, 8, (le 2 3 ++ zeros 30), ⟨(le 2 3 ++ zeros 30), 1, 7⟩, by decide +kernel⟩,
    ⟨shf, fh, 1, 1, [], by decide +kernel⟩,
    ⟨shf, fh, 0, by decide +kernel⟩,
    ⟨shf, fh, 0, by decide +kernel⟩,
    ⟨{ shf with sh.state := 1 }, 1, 1, by decide +kernel⟩,
    ⟨{ shf with sh.shard.rows := false }, by decide +kernel⟩⟩

/-- O35: every premise list of Obligations.HeadsFollowTheIndexAndMoveRanges is met. -/
theorem test_met_HeadsFollowTheIndexAndMoveRanges :
    (∃ (s : State) (h : FrameHdr) (result chunkId q i ssn : Nat) (w : ChunkWork), s.isHead = true ∧ s.p p_repl_role = 0 ∧ s.frameIn h = true ∧ s.head.queries.find? (·.1 == h.reqId) = some (q, i, ssn) ∧ i < 2 ∧ s.work i ssn = some w ∧ w.decision = none ∧ result < 2) ∧
    (∃ (s : State) (h : FrameHdr) (chunkId q i ssn : Nat) (w : ChunkWork), s.isHead = true ∧ s.p p_repl_role = 0 ∧ s.frameIn h = true ∧ s.head.queries.find? (·.1 == h.reqId) = some (q, i, ssn) ∧ i < 2 ∧ s.work i ssn = some w ∧ w.decision = none) ∧
    (∃ (s : State) (h : FrameHdr) (chunkId q i ssn : Nat) (w : ChunkWork), s.isHead = true ∧ s.p p_repl_role = 0 ∧ s.frameIn h = true ∧ s.head.queries.find? (·.1 == h.reqId) = some (q, i, ssn) ∧ i < 2 ∧ s.work i ssn = some w ∧ w.decision = some .uniqueLate) ∧
    (∃ (s : State) (h : FrameHdr) (chunkId named : Nat) (c x : ChunkRec), s.isHead = true ∧ s.p p_repl_role = 0 ∧ s.frameIn h = true ∧ s.headUp = true ∧ s.head.queue = [] ∧ s.head.md.chunk chunkId = some c ∧ s.head.md.chunk named = some x ∧ x.live = true ∧ x.dying = false ∧ x.domain = c.domain ∧ x.fp = c.fp) ∧
    (∃ (s : State) (r : BitVec 16) (m : ShardMove) (id : Nat), s.isManager = true ∧ s.head.md.moves.find? (·.range == r.toNat) = some m ∧ 0 < s.p p_match_shard_rebuild_per_s ∧ (s.head.md.inRange m.range).find? (fun x => s.isLive x && !m.sent.contains x) = some id) ∧
    (∃ (s : State) (r : BitVec 16) (m : ShardMove), s.isManager = true ∧ s.head.md.moves.find? (·.range == r.toNat) = some m ∧ 0 < s.p p_match_shard_rebuild_per_s ∧ (s.head.md.inRange m.range).find? (fun x => s.isLive x && !m.sent.contains x) = none) :=
  ⟨⟨{ hd with head.queries := [(9, 0, 5)], head.st0.work := [(5, cw)], params := pars ++ [par p_repl_role 0 0] }, fh, 1, 1, 9, 0, 5, cw, by decide +kernel⟩,
    ⟨{ hd with head.queries := [(9, 0, 5)], head.st0.work := [(5, cw)], params := pars ++ [par p_repl_role 0 0] }, fh, 1, 9, 0, 5, cw, by decide +kernel⟩,
    ⟨{ hd with head.queries := [(9, 0, 5)], head.st0.work := [(5, { cw with decision := some .uniqueLate })], params := pars ++ [par p_repl_role 0 0] }, fh, 1, 9, 0, 5, { cw with decision := some .uniqueLate }, by decide +kernel⟩,
    ⟨{ hd with head.queue := [], head.md.chunks := [(7, ck), (9, ck)], params := pars ++ [par p_repl_role 0 0] }, fh, 7, 9, ck, ck, by decide +kernel⟩,
    ⟨{ hd with head.md.moves := [⟨0, 2, []⟩], head.st0 := { mine := true, replayed := 1000000 }, head.st1.replayed := 1000000, head.md.chunks := [(7, { ck with refs := [(0, 1)] })] }, 0, ⟨0, 2, []⟩, 7, by decide +kernel⟩,
    ⟨{ hd with head.md.moves := [⟨1, 2, []⟩] }, 1, ⟨1, 2, []⟩, by decide +kernel⟩⟩

/-- O36: every premise list of Obligations.ThePressCompressesResumesAndDecompresses is met. -/
theorem test_met_ThePressCompressesResumesAndDecompresses :
    (∃ (s : State) (n : Nat) (j : Job) (a : Bytes), s.unitRuns n 5 1 j ∧ s.dmaRead (pressSrc j.desc) (pressSrcLen j.desc) = (0, a, s) ∧ pressWild j.desc = false ∧ pressClass j.desc = 0) ∧
    (∃ (s : State) (n : Nat) (j : Job) (a : Bytes), s.unitRuns n 5 1 j ∧ s.dmaRead (pressSrc j.desc) (pressSrcLen j.desc) = (0, a, s) ∧ pressWild j.desc = false ∧ pressClass j.desc ≠ 0) ∧
    (∃ (s : State) (n : Nat) (j : Job), s.unitRuns n 5 2 j ∧ SMap.get s.press.seqs (pressCh j.desc) = none) ∧
    (∃ (s : State) (n : Nat) (j : Job) (q : PressSeq), s.unitRuns n 5 2 j ∧ SMap.get s.press.seqs (pressCh j.desc) = some q ∧ (fitTokens (pressDstLen j.desc) q.tokens []).2 = []) ∧
    (∃ (s : State) (n : Nat) (j : Job) (q : PressSeq), s.unitRuns n 5 2 j ∧ SMap.get s.press.seqs (pressCh j.desc) = some q ∧ s.pdOn 20 = true ∧ s.press.drops = [] ∧ (fitTokens (pressDstLen j.desc) q.tokens []).2 ≠ []) ∧
    (∃ (s : State) (n : Nat) (j : Job) (a : Bytes), s.unitRuns n 5 3 j ∧ s.dmaRead (pressSrc j.desc) (pressSrcLen j.desc) = (0, a, s) ∧ pressWild j.desc = false) ∧
    (∃ (s : State) (n : Nat) (j : Job), s.unitRuns n 5 4 j) ∧
    (∃ (s : State) (lane : Fin 64), s.fw = true ∧ s.isHead = true ∧ s.laneJob 0 lane = none) ∧
    (∃ (s : State) (lane : Fin 64) (n : Nat) (j : Job), s.fw = true ∧ s.isHead = true ∧ s.laneJob 1 lane = some (n, j) ∧ s.job n = some j) :=
  ⟨⟨{ hd with ring.jobs := [(0, (jb 5 1 (prD 0 64 128)))] }, 0, (jb 5 1 (prD 0 64 128)), zeros 64, by unfold State.unitRuns; decide +kernel⟩,
    ⟨{ hd with ring.jobs := [(0, (jb 5 1 (prD 1 64 128)))] }, 0, (jb 5 1 (prD 1 64 128)), zeros 64, by unfold State.unitRuns; decide +kernel⟩,
    ⟨{ hd with ring.jobs := [(0, (jb 5 2))] }, 0, (jb 5 2), by unfold State.unitRuns; decide +kernel⟩,
    ⟨{ hd with ring.jobs := [(0, (jb 5 2))], press.seqs := [((pressCh (jb 5 2).desc), ⟨0, 0, 0, [], 0, []⟩)] }, 0, (jb 5 2), ⟨0, 0, 0, [], 0, []⟩, by unfold State.unitRuns; decide +kernel⟩,
    ⟨{ hd with ring.jobs := [(0, (jb 5 2 (prD 1 64 16)))], press.seqs := [(0, ⟨0, 0, 0, [zeros 60], 0, []⟩)], press.drops := [] }, 0, (jb 5 2 (prD 1 64 16)), ⟨0, 0, 0, [zeros 60], 0, []⟩, by unfold State.unitRuns; decide +kernel⟩,
    ⟨{ hd with ring.jobs := [(0, (jb 5 3))] }, 0, (jb 5 3), [], by unfold State.unitRuns; decide +kernel⟩,
    ⟨{ hd with ring.jobs := [(0, (jb 5 4))] }, 0, (jb 5 4), by unfold State.unitRuns; decide +kernel⟩,
    ⟨hd, 1, by decide +kernel⟩,
    ⟨{ hd with ring.jobs := [(0, { jb 5 1 with inst := 1, st := .running 1 })] }, 1, 0, { jb 5 1 with inst := 1, st := .running 1 }, by decide +kernel⟩⟩

/-- O37: every premise list of Obligations.CipherRequestsEncryptDecryptAndAuthenticate is met. -/
theorem test_met_CipherRequestsEncryptDecryptAndAuthenticate :
    (∃ (s : State) (n : Nat) (j : Job) (data a : Bytes), s.unitRuns n 6 1 j ∧ cWild j.desc = false ∧ cStream j.desc = false ∧ s.dmaRead (cSrc j.desc) (cLen j.desc) = (0, a, s)) ∧
    (∃ (s : State) (n : Nat) (j : Job) (data : Bytes) (p : Nat), s.unitRuns n 6 1 j ∧ j.unit = some p) ∧
    (∃ (s : State) (n : Nat) (j : Job) (data a : Bytes), s.unitRuns n 6 2 j ∧ cWild j.desc = false ∧ cStream j.desc = false ∧ s.dmaRead (cSrc j.desc) (cLen j.desc) = (0, a, s)) ∧
    (∃ (s : State) (n : Nat) (j : Job) (data a : Bytes) (p aad : Bytes), s.unitRuns n 6 3 j ∧ cWild j.desc = false ∧ cStream j.desc = false ∧ SMap.get s.cipher.saved n = none ∧ cInit j.desc = true ∧ cFinal j.desc = true ∧ s.dmaRead (cParam j.desc) 128 = (0, p, s) ∧ s.dmaRead (cSrc j.desc) (cLen j.desc) = (0, a, s) ∧ s.dmaRead (num p 16 8) (num p 24 4) = (0, aad, s)) ∧
    (∃ (s : State) (n : Nat) (j : Job) (data a : Bytes) (p aad : Bytes), s.unitRuns n 6 4 j ∧ cWild j.desc = false ∧ cStream j.desc = false ∧ SMap.get s.cipher.saved n = none ∧ cInit j.desc = true ∧ cFinal j.desc = true ∧ s.dmaRead (cParam j.desc) 128 = (0, p, s) ∧ s.dmaRead (cSrc j.desc) (cLen j.desc) = (0, a, s) ∧ s.dmaRead (num p 16 8) (num p 24 4) = (0, aad, s)) :=
  ⟨⟨{ hd with ring.jobs := [(0, (jb 6 1 (ciD 0 64 0)))] }, 0, (jb 6 1 (ciD 0 64 0)), [], zeros 64, by unfold State.unitRuns; decide +kernel⟩,
    ⟨{ hd with ring.jobs := [(0, (jb 6 1))] }, 0, (jb 6 1), [], 0, by unfold State.unitRuns; decide +kernel⟩,
    ⟨{ hd with ring.jobs := [(0, (jb 6 2 (ciD 0 64 0)))] }, 0, (jb 6 2 (ciD 0 64 0)), [], zeros 64, by unfold State.unitRuns; decide +kernel⟩,
    ⟨{ hd with ring.jobs := [(0, (jb 6 3 (ciD 3 16 0)))] }, 0, (jb 6 3 (ciD 3 16 0)), [], zeros 16, zeros 128, [], by unfold State.unitRuns; decide +kernel⟩,
    ⟨{ hd with ring.jobs := [(0, (jb 6 4 (ciD 3 16 0)))] }, 0, (jb 6 4 (ciD 3 16 0)), [], zeros 16, zeros 128, [], by unfold State.unitRuns; decide +kernel⟩⟩

/-- O38: every premise list of Obligations.KeySlotsAreFilledWrappedAndRevoked is met. -/
theorem test_met_KeySlotsAreFilledWrappedAndRevoked :
    (∃ (s : State) (n : Nat) (j : Job), s.unitRuns n 6 5 j) ∧
    (∃ (s : State) (n : Nat) (j : Job) (a : Bytes), s.unitRuns n 6 6 j ∧ s.dmaRead (cSrc j.desc) (cLen j.desc) = (0, a, s) ∧ (s.keySlot (cTarget j.desc)).state = 0) ∧
    (∃ (s : State) (n : Nat) (j : Job), s.unitRuns n 6 7 j ∧ (s.keySlot (cTarget j.desc)).state = 0) ∧
    (∃ (s : State) (n : Nat) (j : Job), s.unitRuns n 6 7 j) ∧
    (∃ (s : State) (n : Nat) (j : Job), s.unitRuns n 6 8 j ∧ (s.keySlot (cTarget j.desc)).state = 1 ∧ (cTarget j.desc) ≠ 4095) ∧
    (∃ (s : State) (slot : Fin 4096), s.fw = true ∧ s.isHead = true ∧ (s.keySlot slot).state = 2 ∧ (s.keySlot slot).closed = true ∧ s.ring.jobs.any (fun e => e.2.block == 6 && cNames e.2.desc slot) = false) ∧
    (∃ (s : State) (d : Fin 256), s.isManager = true ∧ s.pi p_key_domain_enable d = 1 ∧ s.hasKeys d = false ∧ s.inPs2 = false ∧ (s.keySlot 1024).live = true) ∧
    (∃ (s : State) (d : Fin 256), s.isManager = true ∧ s.pi p_key_domain_enable d = 1 ∧ s.hasKeys d = false ∧ s.inPs2 = false ∧ (s.keySlot 1024).live = true) ∧
    (∃ (s : State) (d : Fin 256) (e : Erase), s.cipher.erases.find? (fun e => e.domain == d.val) = some e ∧ s.headUp = true ∧ e.swept = true ∧ s.slotsGone e = true ∧ e.partner = true) ∧
    (∃ (s : State) (d : Fin 256) (e : Erase), s.headUp = true ∧ e ∈ s.cipher.erases ∧ e.domain = d.val ∧ e.late = false ∧ s.epochStart e.epn + s.p p_key_purge_max_s * 100000000 ≤ s.time.t) :=
  ⟨⟨{ hd with ring.jobs := [(0, (jb 6 5))] }, 0, (jb 6 5), by unfold State.unitRuns; decide +kernel⟩,
    ⟨{ hd with ring.jobs := [(0, (jb 6 6))] }, 0, (jb 6 6), [], by unfold State.unitRuns; decide +kernel⟩,
    ⟨{ hd with ring.jobs := [(0, (jb 6 7))] }, 0, (jb 6 7), by unfold State.unitRuns; decide +kernel⟩,
    ⟨{ hd with ring.jobs := [(0, (jb 6 7))] }, 0, (jb 6 7), by unfold State.unitRuns; decide +kernel⟩,
    ⟨{ hd with ring.jobs := [(0, (jb 6 8))], cipher.slots := [(0, { state := 1 })] }, 0, (jb 6 8), by unfold State.unitRuns; decide +kernel⟩,
    ⟨{ hd with cipher.slots := [(1, { state := 2, closed := true })] }, 1, by decide +kernel⟩,
    ⟨{ hd with cipher.slots := [(1024, { state := 1 })], params := pars ++ [par p_key_domain_enable 1 1] }, 1, by decide +kernel⟩,
    ⟨{ hd with cipher.slots := [(1024, { state := 1 })], params := pars ++ [par p_key_domain_enable 1 1] }, 1, by decide +kernel⟩,
    ⟨{ hd with cipher.erases := [⟨1, 1, 1, 0, [], true, false, true⟩] }, 1, ⟨1, 1, 1, 0, [], true, false, true⟩, by decide +kernel⟩,
    ⟨{ hd with cipher.erases := [⟨1, 1, 1, 0, [], false, false, false⟩], time.t := 10 ^ 12 }, 1, ⟨1, 1, 1, 0, [], false, false, false⟩, by decide +kernel⟩⟩

/-- O39: every premise list of Obligations.EveryCommandChangesOnlyItsParts is met. -/
theorem test_met_EveryCommandChangesOnlyItsParts :
    (∃ (c : Instr) (s t : State), exec c s = .next t) :=
  ⟨.perstNAssert, hd, _, rfl⟩

/-- O40: every premise list of Obligations.ManagementMessagesAreAnswered is met. -/
theorem test_met_ManagementMessagesAreAnswered :
    (∃ (s : State) (tag : Byte), s.live = true) ∧
    (∃ (s : State) (tag : Byte) (first : Nat) (count : Byte) (ack : Bool), s.live = true ∧ (s.strapsOk = false ∨ s.boot.stage = .recoveryMode)) ∧
    (∃ (s : State) (tag : Byte) (first : Nat) (count : Byte) (ack : Bool), s.live = true ∧ s.mgmtAccepts 2 = true ∧ 1 ≤ count.toNat ∧ count.toNat ≤ 32) ∧
    (∃ (s : State) (tag : Byte) (code source : Nat), s.live = true ∧ s.mgmtAccepts 3 = true) ∧
    (∃ (s : State) (tag : Byte) (firstSeq : Nat) (count : Byte) (mark : Bool), s.live = true ∧ s.mgmtAccepts 4 = true ∧ 1 ≤ count.toNat ∧ count.toNat ≤ 64) ∧
    (∃ (s : State) (tag : Byte) (first : Nat) (count : Byte), s.live = true ∧ s.mgmtAccepts 5 = true ∧ 1 ≤ count.toNat ∧ count.toNat ≤ 16) ∧
    (∃ (s : State) (tag : Byte) (seq : Nat) (count : Byte), s.live = true ∧ s.mgmtAccepts 6 = true ∧ 1 ≤ count.toNat ∧ count.toNat ≤ 8) ∧
    (∃ (s : State) (tag : Byte) (copy : Copy) (final : Bool) (off : Nat) (data : Bytes), s.live = true ∧ s.mgmtAccepts 7 = true ∧ (s.boot.stage = .recoveryMode ∨ s.boot.copy ≠ copy) ∧ off % 4096 = 0 ∧ data.length ≤ 4096 ∧ (data.length = 4096 ∨ final = true) ∧ off + data.length ≤ copyLen) ∧
    (∃ (s : State) (tag : Byte) (copy : Copy) (final : Bool) (off : Nat) (data : Bytes), s.live = true ∧ s.boot.stage ≠ .recoveryMode ∧ s.boot.copy = copy) ∧
    (∃ (s : State) (tag slot : Byte) (digest wrapKey : Bytes), s.live = true ∧ s.strapsOk = true ∧ s.boot.stage = .recoveryMode ∧ slot.toNat < 4 ∧ (s.otp.owner.getD slot.toNat {}).st = 0) ∧
    (∃ (s : State) (tag slot : Byte), s.live = true ∧ s.strapsOk = true ∧ s.boot.stage = .recoveryMode ∧ slot.toNat < 4) ∧
    (∃ (s : State) (tag piece : Byte) (b : Bytes), s.live = true ∧ s.mgmtAccepts 11 = true ∧ s.isHead = false ∧ piece.toNat ≤ 4 ∧ s.healthNow = some b) ∧
    (∃ (s : State) (tag piece : Byte), s.live = true ∧ s.isHead = true) ∧
    (∃ (s : State) (cmd tag : Byte), s.live = true ∧ (cmd = 0 ∨ 0x0C < cmd.toNat) ∧ s.strapsOk = true ∧ s.boot.stage ≠ .recoveryMode) ∧
    (∃ (s : State), s.live = true ∧ s.strapsOk = true) ∧
    (∃ (s : State), s.live = true ∧ s.strapsOk = true ∧ s.ev.alarms.any (·.isNew) = true) :=
  ⟨⟨hd, 5, by decide +kernel⟩,
    ⟨{ hd with pins.roleSel := 1 }, 5, 1, 5, true, by decide +kernel⟩,
    ⟨hd, 5, 1, 5, true, by decide +kernel⟩,
    ⟨hd, 5, 1, 1, by decide +kernel⟩,
    ⟨hd, 5, 1, 5, true, by decide +kernel⟩,
    ⟨hd, 5, 1, 5, by decide +kernel⟩,
    ⟨hd, 5, 1, 5, by decide +kernel⟩,
    ⟨hd, 5, .b, true, 4096, [1], by decide +kernel⟩,
    ⟨{ hd with boot.copy := .b }, 5, .b, true, 1, [], by decide +kernel⟩,
    ⟨{ hd with boot.stage := .recoveryMode }, 5, 3, [], [], by decide +kernel⟩,
    ⟨{ hd with boot.stage := .recoveryMode }, 5, 3, by decide +kernel⟩,
    by
    obtain ⟨b, h⟩ := now_of (shfNor healthNor) recBody (crc32c recBody) (by rw [shfNor_nor]; exact healthNor_read) recBody_length recBody_magic rfl (crc32c_lt _)
    exact ⟨_, 5, 4, b, by rfl, by rfl, by rfl, by decide, h⟩,
    ⟨hd, 5, 5, by decide +kernel⟩,
    ⟨hd, 0, 5, by decide +kernel⟩,
    ⟨hd, by decide +kernel⟩,
    ⟨{ hd with ev.alarms := [⟨1, 0, true, true, 1, 0, 0, 0⟩] }, by decide +kernel⟩⟩

/-- O41: every premise list of Obligations.ArrayControlIsTheManagers is met. -/
theorem test_met_ArrayControlIsTheManagers :
    (∃ (s : State) (tag : Byte) (id e : Nat) (nsids : List Nat), s.ctrlReady = true ∧ s.snapOk id (if e = 0 then s.epn + s.p p_snap_min_lead_epochs else e) nsids = true) ∧
    (∃ (s : State) (tag : Byte) (id e : Nat) (nsids : List Nat), s.ctrlReady = true ∧ e ≠ 0 ∧ e < s.epn + s.p p_snap_min_lead_epochs) ∧
    (∃ (s : State) (tag : Byte) (id : Nat) (x : Snap), s.ctrlReady = true ∧ SMap.get s.head.md.snaps id = some x ∧ x.hidden = false) ∧
    (∃ (s : State) (tag : Byte) (id nsid : Nat) (x : Snap), s.ctrlReady = true ∧ SMap.get s.head.md.snaps id = some x ∧ x.hidden = false ∧ nsid ∈ x.nsids ∧ x.epn ≤ s.epn ∧ SMap.has s.nvme.ns nsid = true ∧ s.nvme.ns.length + s.pendingNs.length < 16384) ∧
    (∃ (s : State) (tag : Byte) (e : UtcSched), s.ctrlReady = true ∧ SMap.has s.head.md.scheds e.snapId = false ∧ 0 < e.periodS ∧ 0 < e.count ∧ e.snapId + e.count ≤ 1048576 ∧ 1 ≤ e.nsids.length ∧ e.nsids.length ≤ 1024) ∧
    (∃ (s : State) (tag : Byte) (e : UtcSched), s.ctrlReady = true ∧ SMap.has s.head.md.scheds e.snapId = true) ∧
    (∃ (s : State) (tag : Byte) (site : Fin 64), s.ctrlReady = true ∧ site.val < s.nShelves ∧ s.tolerates site = true ∧ s.isFailed site = false ∧ s.isAbsent site = false) ∧
    (∃ (s : State) (tag : Byte) (site : Fin 64), s.ctrlReady = true ∧ site.val < s.nShelves ∧ (s.tolerates site = false ∨ s.isFailed site = true ∨ s.isAbsent site = true)) ∧
    (∃ (s : State) (tag : Byte), s.ctrlReady = true ∧ s.peerHeld = true ∧ s.head.md.refolding = false ∧ s.boot.barrier = none) ∧
    (∃ (s : State) (tag : Byte), s.ctrlReady = true ∧ s.seam.peerState = 0) ∧
    (∃ (s : State) (tag : Byte), s.ctrlReady = true ∧ s.seam.peerState ≠ 0) ∧
    (∃ (s : State) (tag : Byte), s.ctrlReady = true ∧ s.seam.peerState = 0 ∧ (s.stream s.peerSite).mine = true ∧ (s.stream s.peerSite).handback = none) ∧
    (∃ (s : State) (tag : Byte), s.live = true ∧ s.mgmtAccepts 0x0C = true ∧ s.isHead = true ∧ s.isManager = false) ∧
    (∃ (s : State) (tag : Byte), s.live = true ∧ s.isHead = false) :=
  ⟨⟨hd, 5, 100, 0, [1], by decide +kernel⟩,
    ⟨hd, 5, 1, 1, [], by decide +kernel⟩,
    ⟨{ hd with head.md.snaps := [(1, { epn := 0, nsids := [1] })] }, 5, 1, { epn := 0, nsids := [1] }, by decide +kernel⟩,
    ⟨{ hd with head.md.snaps := [(1, { epn := 0, nsids := [1] })] }, 5, 1, 1, { epn := 0, nsids := [1] }, by decide +kernel⟩,
    ⟨hd, 5, ⟨0, 60, 2, [1], 100⟩, by decide +kernel⟩,
    ⟨{ hd with head.md.scheds := [(100, ⟨0, 60, 2, [1], 100⟩)] }, 5, ⟨0, 60, 2, [1], 100⟩, by decide +kernel⟩,
    ⟨hd, 5, 1, by decide +kernel⟩,
    ⟨{ hd with head.md.stripes := [(1, { sr with m := 0 })] }, 5, 1, by decide +kernel⟩,
    ⟨{ hd with head.md.refolding := false, boot.barrier := none, seam.peerState := 3, seam.pathB := false }, 5, by decide +kernel⟩,
    ⟨{ hd with seam.peerState := 0 }, 5, by decide +kernel⟩,
    ⟨{ hd with seam.peerState := 1 }, 5, by decide +kernel⟩,
    ⟨{ hd with seam.peerState := 0, head.st1.mine := true }, 5, by decide +kernel⟩,
    ⟨{ hd with seam.manager := false }, 5, by decide +kernel⟩,
    ⟨shf, 5, by decide +kernel⟩⟩

/-- O42: every premise list of Obligations.SpdmNvmeMiAndJtagAnswer is met. -/
theorem test_met_SpdmNvmeMiAndJtagAnswer :
    (∃ (s : State), s.mgmtUp = true ∧ s.p p_attest_spdm_enable = 1) ∧
    (∃ (s : State), s.mgmtUp = true ∧ s.p p_attest_spdm_enable = 1 ∧ s.mgmt.spdmVersion = true) ∧
    (∃ (s : State), s.mgmtUp = true ∧ s.p p_attest_spdm_enable = 1 ∧ s.mgmt.spdmCaps = true) ∧
    (∃ (s : State), s.mgmtUp = true ∧ s.p p_attest_spdm_enable = 1 ∧ s.mgmt.spdmAlgs = true) ∧
    (∃ (s : State) (off len : Nat), s.mgmtUp = true ∧ s.p p_attest_spdm_enable = 1 ∧ s.mgmt.spdmAlgs = true) ∧
    (∃ (s : State) (slot : Byte) (off len : Nat), s.mgmtUp = true ∧ s.p p_attest_spdm_enable = 1 ∧ s.mgmt.spdmAlgs = true ∧ slot ≠ 0) ∧
    (∃ (s : State) (nonce : Bytes), s.mgmtUp = true ∧ s.p p_attest_spdm_enable = 1 ∧ s.mgmt.spdmAlgs = true) ∧
    (∃ (s : State) (nonce : Bytes) (signed : Bool), s.mgmtUp = true ∧ s.p p_attest_spdm_enable = 1 ∧ s.mgmt.spdmAlgs = true) ∧
    (∃ (s : State) (r : Bytes) (i : Nat), newestOf s.nor 1 = some (i, r) ∧ (newestOf s.nor 2 = none ∨ s.seam.manager = false)) ∧
    (∃ (s : State), s.mgmtUp = true ∧ s.isHead = true) ∧
    (∃ (s : State) (cntlid : Nat), s.mgmtUp = true ∧ s.isHead = true) ∧
    (∃ (s : State), s.mgmtUp = true ∧ s.isHead = true) ∧
    (∃ (s : State) (first : Nat), s.mgmtUp = true ∧ s.isHead = true) ∧
    (∃ (s : State) (config : Nat), s.mgmtUp = true ∧ s.isHead = true) :=
  ⟨⟨{ hd with params := pars ++ [par p_attest_spdm_enable 0 1] }, by decide +kernel⟩,
    ⟨{ hd with mgmt.spdmVersion := true, params := pars ++ [par p_attest_spdm_enable 0 1] }, by decide +kernel⟩,
    ⟨{ hd with mgmt.spdmCaps := true, params := pars ++ [par p_attest_spdm_enable 0 1] }, by decide +kernel⟩,
    ⟨{ hd with mgmt.spdmAlgs := true, params := pars ++ [par p_attest_spdm_enable 0 1] }, by decide +kernel⟩,
    ⟨{ hd with mgmt.spdmAlgs := true, params := pars ++ [par p_attest_spdm_enable 0 1] }, 1, 1, by decide +kernel⟩,
    ⟨{ hd with mgmt.spdmAlgs := true, params := pars ++ [par p_attest_spdm_enable 0 1] }, 5, 1, 1, by decide +kernel⟩,
    ⟨{ hd with mgmt.spdmAlgs := true, params := pars ++ [par p_attest_spdm_enable 0 1] }, [], by decide +kernel⟩,
    ⟨{ hd with mgmt.spdmAlgs := true, params := pars ++ [par p_attest_spdm_enable 0 1] }, [], true, by decide +kernel⟩,
    recNor_record.elim fun i e => e.elim fun r h => ⟨shfNor recNor, r, i, h, Or.inl recNor_none⟩,
    ⟨hd, by decide +kernel⟩,
    ⟨hd, 1, by decide +kernel⟩,
    ⟨hd, by decide +kernel⟩,
    ⟨hd, 1, by decide +kernel⟩,
    ⟨hd, 1, by decide +kernel⟩⟩

/-- O43: every premise list of Obligations.RailsDomainsClocksAndPowerFailure is met. -/
theorem test_met_RailsDomainsClocksAndPowerFailure :
    (∃ (s : State) (r : Fin 11) (mv : Nat), s.live = true ∧ ¬ (r.val = 10 ∧ mv = 0) ∧ (s.railUnder r mv = true ∨ s.railOver r mv = true) ∧ r.val ∉ [0, 1, 5, 6]) ∧
    (∃ (s : State) (r : Fin 11) (mv : Nat), s.live = true ∧ s.railUnder r mv = true ∧ r.val ∈ [0, 1, 5, 6]) ∧
    (∃ (s : State) (r : Fin 11) (mv : Nat), s.live = true ∧ s.railUnder r mv = false ∧ s.railOver r mv = false) ∧
    (∃ (s : State) (r : Fin 11), s.live = true) ∧
    (∃ (s : State) (d : Fin 50), s.live = true ∧ 18 ≤ d.val ∧ d.val ≤ 27) ∧
    (∃ (s : State) (d : Fin 50), s.live = true ∧ 18 ≤ d.val ∧ d.val ≤ 27) ∧
    (∃ (s : State) (d : Fin 50), (d.val < 18 ∨ 27 < d.val)) ∧
    (∃ (s : State), s.live = true ∧ s.power.throttledBudget = true) ∧
    (∃ (s : State), s.pins.porN = true ∧ s.pins.sysclk = true) ∧
    (∃ (s : State), s.fw = true ∧ s.isHead = true ∧ s.pins.hpClk = true ∧ s.nvme.hpUp = true) ∧
    (∃ (s : State) (p : Fin 64), s.fw = true ∧ s.isHead = true ∧ s.pins.sds0 = true ∧ p.val < 56 ∧ s.portThere p = true ∧ (s.portOf p).linked = true ∧ s.port.length = 64) ∧
    (∃ (s : State), s.pins.porN = true ∧ s.pins.hpClk = false ∧ s.pins.sysclk = true ∧ s.pins.sds0 = true ∧ s.pins.sds1 = true) ∧
    (∃ (s : State), s.pins.porN = true ∧ s.pins.sds0 = false ∧ s.pins.sds1 = false) ∧
    (∃ (s : State), s.live = true ∧ s.power.pfAsserted = false ∧ s.isShelf = false) ∧
    (∃ (s : State), s.live = true ∧ s.power.pfAsserted = false ∧ s.isShelf = true ∧ s.sh.plb.any (fun i => i.safe) = true ∧ s.sh.dumpErased = [true, true]) ∧
    (∃ (s : State), s.live = true ∧ s.isShelf = true ∧ s.sh.dumping = true) ∧
    (∃ (s : State), s.live = true ∧ s.power.pfAsserted = true ∧ s.isShelf = false) ∧
    (∃ (s : State), s.live = true ∧ s.power.pfAsserted = true ∧ s.isShelf = true) ∧
    (∃ (s : State), s.live = true ∧ s.hem.pf = .asserted) ∧
    (∃ (s : State), s.shelfUp = true) :=
  ⟨⟨hd, 2, 1, by decide +kernel⟩,
    ⟨hd, 1, 1, by decide +kernel⟩,
    ⟨hd, 2, 800, by decide +kernel⟩,
    ⟨hd, 1, by decide +kernel⟩,
    ⟨hd, 27, by decide +kernel⟩,
    ⟨hd, 27, by decide +kernel⟩,
    ⟨hd, 1, by decide +kernel⟩,
    ⟨{ hd with power.throttledBudget := true }, by decide +kernel⟩,
    ⟨{ hd with pins.porN := true, pins.sysclk := true }, by decide +kernel⟩,
    ⟨{ hd with pins.hpClk := true, nvme.hpUp := true }, by decide +kernel⟩,
    ⟨{ hd with pins.sds0 := true }, 1, by decide +kernel⟩,
    ⟨{ hd with pins.porN := true, pins.hpClk := false, pins.sysclk := true, pins.sds0 := true, pins.sds1 := true }, by decide +kernel⟩,
    ⟨{ hd with pins.porN := true, pins.sds0 := false, pins.sds1 := false }, by decide +kernel⟩,
    ⟨{ hd with power.pfAsserted := false }, by decide +kernel⟩,
    ⟨{ shf with power.pfAsserted := false, sh.dumpErased := [true, true], sh.plb := [{ pit with safe := true }] }, by decide +kernel⟩,
    ⟨{ shf with sh.dumping := true }, by decide +kernel⟩,
    ⟨{ hd with power.pfAsserted := true }, by decide +kernel⟩,
    ⟨{ shf with power.pfAsserted := true }, by decide +kernel⟩,
    ⟨{ hd with hem.pf := .asserted }, by decide +kernel⟩,
    ⟨shf, by decide +kernel⟩⟩

/-- O44: every premise list of Obligations.TheParityEngineEncodesReconstructsAndChecks is met. -/
theorem test_met_TheParityEngineEncodesReconstructsAndChecks :
    (∃ (s s1 : State) (n : Nat) (j : Job) (bufs : List Bytes), s.unitRuns n 7 1 j ∧ (s.dmaRead (paList j.desc) 192).1 = 0 ∧ (s.dmaRead (paList j.desc) 192).2.2 = s ∧ s.paWild j.desc = false ∧ paReadGo j.desc (paUsed j.desc) s [] = (0, bufs, s1)) ∧
    (∃ (s s1 : State) (n : Nat) (j : Job) (bufs : List Bytes), s.unitRuns n 7 2 j ∧ (s.dmaRead (paList j.desc) 192).1 = 0 ∧ (s.dmaRead (paList j.desc) 192).2.2 = s ∧ s.paWild j.desc = false ∧ paReadGo j.desc (paUsed j.desc) s [] = (0, bufs, s1)) ∧
    (∃ (s s1 s2 : State) (n : Nat) (j : Job) (bufs have' : List Bytes), s.unitRuns n 7 3 j ∧ (s.dmaRead (paList j.desc) 192).1 = 0 ∧ (s.dmaRead (paList j.desc) 192).2.2 = s ∧ s.paWild j.desc = false ∧ paReadGo j.desc (paUsed j.desc) s [] = (0, bufs, s1) ∧ paReadGo j.desc (paWant j.desc) s1 [] = (0, have', s2) ∧ (∀ e ∈ (paWant j.desc).zip have', memberFrom (paK j.desc) (paLen j.desc) (paUsed j.desc) bufs e.1 = e.2)) ∧
    (∃ (s s1 s2 : State) (n : Nat) (j : Job) (bufs have' : List Bytes), s.unitRuns n 7 3 j ∧ (s.dmaRead (paList j.desc) 192).1 = 0 ∧ (s.dmaRead (paList j.desc) 192).2.2 = s ∧ s.paWild j.desc = false ∧ paReadGo j.desc (paUsed j.desc) s [] = (0, bufs, s1) ∧ paReadGo j.desc (paWant j.desc) s1 [] = (0, have', s2) ∧ (∃ e ∈ (paWant j.desc).zip have', memberFrom (paK j.desc) (paLen j.desc) (paUsed j.desc) bufs e.1 ≠ e.2)) :=
  ⟨⟨{ hd with ring.jobs := [(0, (jb 7 1 (paD 1 2)))], mem.hbm := [(4105, 1)] }, { hd with ring.jobs := [(0, (jb 7 1 (paD 1 2)))], mem.hbm := [(4105, 1)] }, 0, (jb 7 1 (paD 1 2)), [zeros 64], by unfold State.unitRuns; decide +kernel⟩,
    ⟨{ hd with ring.jobs := [(0, (jb 7 2 (paD 2 1)))], mem.hbm := [(4105, 1)] }, { hd with ring.jobs := [(0, (jb 7 2 (paD 2 1)))], mem.hbm := [(4105, 1)] }, 0, (jb 7 2 (paD 2 1)), [zeros 64], by unfold State.unitRuns; decide +kernel⟩,
    ⟨{ hd with ring.jobs := [(0, (jb 7 3 (paD 3 2)))], mem.hbm := [(4105, 1)] }, { hd with ring.jobs := [(0, (jb 7 3 (paD 3 2)))], mem.hbm := [(4105, 1)] }, { hd with ring.jobs := [(0, (jb 7 3 (paD 3 2)))], mem.hbm := [(4105, 1)] }, 0, (jb 7 3 (paD 3 2)), [zeros 64], [zeros 64], by unfold State.unitRuns; decide +kernel⟩,
    ⟨{ hd with ring.jobs := [(0, (jb 7 3 (paD 3 2)))], mem.hbm := [(256, 1), (4105, 1)] }, { hd with ring.jobs := [(0, (jb 7 3 (paD 3 2)))], mem.hbm := [(256, 1), (4105, 1)] }, { hd with ring.jobs := [(0, (jb 7 3 (paD 3 2)))], mem.hbm := [(256, 1), (4105, 1)] }, 0, (jb 7 3 (paD 3 2)), [zeros 64], [1 :: zeros 63], by unfold State.unitRuns; decide +kernel⟩⟩

/-- O45: every premise list of Obligations.ThePassesMoveRebuildAndRecord is met. -/
theorem test_met_ThePassesMoveRebuildAndRecord :
    (∃ (s : State) (domain : Nat) (fp : Bytes) (r : RepairReq), s.headUp = true ∧ r ∈ s.head.repairs ∧ r.domain = domain ∧ r.fp = fp ∧ r.startT + s.p p_read_repair_timeout_ms * 100000 ≤ s.time.t) ∧
    (∃ (s : State) (entry : Nat) (e : UtcSched) (k : Nat), s.isManager = true ∧ SMap.get s.head.md.scheds entry = some e ∧ SMap.getD s.head.md.schedDone entry 0 = k ∧ k < e.count ∧ (∀ d, .manager (.snapDefine d) ∈ (s.stream s.mgrStream).sealQueue → d.id ≠ e.snapId + k) ∧ (instantOf e k : Int) < s.utcNow + 100000000 ∧ s.snapOk (e.snapId + k) (s.utcEpn (instantOf e k)) e.nsids = true) ∧
    (∃ (s : State) (id nsid page : Nat) (p : Pres), s.isManager = true ∧ p ∈ s.head.md.pres ∧ p.nsIndex + 1 = nsid ∧ p.chunkNo / 4096 = page ∧ s.head.md.visible p.nsIndex p.leaf.birth p.death = false ∧ (∀ i, .manager (.snapRelease i nsid page) ∉ (s.stream s.mgrStream).sealQueue) ∧ s.head.releaseAt ≤ s.time.t) ∧
    (∃ (s : State) (site : Fin 64) (d : Nat), s.isManager = true ∧ site.val < s.nShelves ∧ (s.shelf site).downSince = some d ∧ d + s.p p_glade_fail_ms * 100000 ≤ s.time.t ∧ s.isFailed site = false ∧ .manager (.fail site) ∉ (s.stream s.mgrStream).sealQueue) ∧
    (∃ (s : State) (site : Fin 64) (since : Nat), s.isManager = true ∧ (site.val, since) ∈ s.head.md.absent ∧ since + s.p p_darn_planned_grace_s * 100000000 ≤ s.time.t ∧ s.isFailed site = false ∧ .manager (.fail site) ∉ (s.stream s.mgrStream).sealQueue) ∧
    (∃ (s : State) (i : Fin 2) (reads : List StripRead) (id m site : Nat) (ms : List Nat) (r : StripeRec), s.headUp = true ∧ (s.stream i).mine = true ∧ 0 < s.p p_darn_rate_gbps ∧ s.darnNext i = some (id, r) ∧ s.darnMembers i id r = m :: ms ∧ r.missing ≠ 0 ∧ (decide (m < r.k) && bit r.empty m) = false ∧ r.gone reads = [] ∧ s.darnTarget id m r = some site) ∧
    (∃ (s : State) (i : Fin 2) (reads : List StripRead) (id m site : Nat) (ms : List Nat) (r : StripeRec), s.headUp = true ∧ (s.stream i).mine = true ∧ 0 < s.p p_darn_rate_gbps ∧ s.darnNext i = some (id, r) ∧ s.darnMembers i id r = m :: ms ∧ m < r.k ∧ bit r.empty m = true ∧ s.darnTarget id m r = some site) ∧
    (∃ (s : State) (i : Fin 2) (reads : List StripRead) (id m : Nat) (ms : List Nat) (r : StripeRec), s.headUp = true ∧ (s.stream i).mine = true ∧ 0 < s.p p_darn_rate_gbps ∧ s.darnNext i = some (id, r) ∧ s.darnMembers i id r = m :: ms ∧ r.missing ≠ 0 ∧ (decide (m < r.k) && bit r.empty m) = false ∧ r.gone reads ≠ []) ∧
    (∃ (s : State) (i : Fin 2) (chunkId id : Nat) (img : Bytes) (c : ChunkRec), s.headUp = true ∧ (s.stream i).mine = true ∧ 0 < s.p p_refold_rate_gbps ∧ s.refoldNext i = some id ∧ s.head.md.chunk chunkId = some c ∧ c.stripeId = id ∧ c.live = true ∧ c.lost = false ∧ c.pending = false ∧ img.length = c.imageLen ∧ s.moving i chunkId = false) :=
  ⟨⟨{ hd with head.repairs := [⟨7, 0, zeros 32, 0, false⟩] }, 0, zeros 32, ⟨7, 0, zeros 32, 0, false⟩, by decide +kernel⟩,
    ⟨{ hd with head.md.scheds := [(1, ⟨9963, 60, 2, [1], 100⟩)], time.t := 10 ^ 12 - 50000000 }, 1, ⟨9963, 60, 2, [1], 100⟩, 0, (by refine ⟨?_, ?_, ?_, ?_, (by intro d h; cases h), ?_, ?_⟩ <;> decide +kernel)⟩,
    ⟨{ hd with head.md.pres := [⟨0, 4096, 1, {}⟩] }, 1, 1, 1, ⟨0, 4096, 1, {}⟩, by decide +kernel, by decide +kernel, by decide +kernel, by decide +kernel, by decide +kernel, (by intro i h; cases h), by decide +kernel⟩,
    ⟨{ hd with head.shelves := [(1, { downSince := some 0 })] }, 1, 0, by decide +kernel⟩,
    ⟨{ hd with time.t := 10 ^ 13, head.md.absent := [(1, 0)] }, 1, 0, by decide +kernel⟩,
    ⟨{ hd with head.md := { stripes := [(2, { sr with state := 2, missing := 1 })], spares := [5] } }, 0, [(1, 0, []), (2, 0, [])], 2, 0, 5, [], { sr with state := 2, missing := 1 }, by decide +kernel⟩,
    ⟨{ hd with head.md := { stripes := [(2, { sr with state := 2, missing := 1, empty := 1 })], spares := [5] } }, 0, [], 2, 0, 5, [], { sr with state := 2, missing := 1, empty := 1 }, by decide +kernel⟩,
    ⟨{ hd with head.md.stripes := [(2, { sr with state := 2, missing := 1 })] }, 0, [], 2, 0, [], { sr with state := 2, missing := 1 }, by decide +kernel⟩,
    ⟨{ hd with head.md := { stripes := [(2, { sr with state := 3 })], chunks := [(7, { ck with stripeId := 2 })] } }, 0, 7, 2, zeros 64, { ck with stripeId := 2 }, by decide +kernel⟩⟩

/-- O45: a page of the map that is written; whether the page fits a stripe rests on the tokens the Press finds, which are
opaque (log 22), so that is a premise here. -/
theorem test_met_ThePassesMoveRebuildAndRecord_fits (hp : (pad64 (pf1Stream true (mhd.head.md.pageBytes 1 1))).length ≤ 65280) : ∃ (s : State) (i : Fin 2) (kind page stripe strip g a b : Nat) (s1 : State), s.headUp = true ∧ 1 ≤ kind ∧ kind ≤ 3 ∧ SMap.has s.head.md.dirty (kind * 2 ^ 60 + page) = true ∧ s.placeFor i true (pad64 (pf1Stream true (s.head.md.pageBytes kind page))).length = some (stripe, strip, g) ∧ s.sendMeta i (min s.head.st0.replayed s.head.st1.replayed) (kind * 2 ^ 60 + page) (pad64 (pf1Stream true (s.head.md.pageBytes kind page))) = some (a, b, s1) := by
  obtain ⟨a, b, s1, h⟩ := sends_meta (min mhd.head.st0.replayed mhd.head.st1.replayed) (2 ^ 60 + 1) _ hp
  exact ⟨mhd, 0, 1, 1, 0, 0, 0, a, b, s1, by decide +kernel, by decide, by decide, by decide +kernel, fits_stripe _ hp, h⟩

/-- O46: every premise list of Obligations.TheSeamLinkAndTheHeartbeatPaths is met. -/
theorem test_met_TheSeamLinkAndTheHeartbeatPaths :
    (∃ (s : State), s.seamOn = true ∧ s.seam.linkUp = true) ∧
    (∃ (s : State) (seq : Fin 16777216) (first flits : Nat) (m : SeamMsg), s.seamOn = true ∧ s.seam.linkUp = true ∧ (first, flits, m) ∈ s.seam.replay ∧ (seq.val + 2 ^ 24 - first % 2 ^ 24) % 2 ^ 24 < flits) ∧
    (∃ (s : State) (lane : Fin 16), s.seamOn = true ∧ s.seam.lanesUp.getLsbD lane = true) ∧
    (∃ (s : State) (lanes : BitVec 16), s.seamOn = true) ∧
    (∃ (s : State) (i : Fin 2) (n : Nat) (h : BundleHdr), s.seamOn = true ∧ s.seam.linkUp = true ∧ (s.stream i).owns n = true ∧ (s.bundle i n).sealHdr = some h) ∧
    (∃ (s : State) (i : Fin 2) (n : Nat) (h : BundleHdr), s.seamOn = true ∧ s.seam.linkUp = true ∧ (s.stream i).owns n = true ∧ (s.bundle i n).bodyHdr = some h) ∧
    (∃ (s : State) (len : Nat), s.seamOn = true ∧ s.seam.linkUp = true) ∧
    (∃ (s : State) (h : Heartbeat), s.seamOn = true ∧ s.seam.linkUp = true ∧ s.time.tSet = true ∧ s.time.state ≠ .peer) ∧
    (∃ (s : State), s.headUp = true ∧ s.p p_seam_hb_loss_epochs ≤ s.seam.silentB ∧ s.p p_seam_hb_loss_epochs ≤ s.seam.heardA) ∧
    (∃ (s : State), s.headUp = true ∧ s.p p_seam_hb_loss_epochs ≤ s.seam.silentA ∧ s.p p_seam_hb_loss_epochs ≤ s.seam.heardB ∧ s.seam.manager = true) ∧
    (∃ (s : State), s.headUp = true ∧ s.p p_seam_hb_loss_epochs ≤ s.seam.silentA ∧ s.p p_seam_hb_loss_epochs ≤ s.seam.heardB ∧ s.seam.manager = false ∧ s.seam.standing = false) ∧
    (∃ (s : State) (b : Bool), s.seamOn = true ∧ 64 ≤ (if b then s.seam.heardB else s.seam.heardA)) ∧
    (∃ (s : State), s.headUp = true ∧ s.p p_seam_hb_loss_epochs ≤ s.seam.silent ∧ s.seam.claim = none ∧ s.peerStreams ≠ []) ∧
    (∃ (s : State), s.headUp = true ∧ s.p p_seam_hb_loss_epochs ≤ s.seam.silent ∧ s.seam.claim = none ∧ s.peerStreams = [] ∧ s.peerUp = true) ∧
    (∃ (s : State) (site : Fin 2) (count : Nat), s.headUp = true ∧ s.p p_seam_suspect_limit ≤ s.suspectCount site + count ∧ site.val ≠ s.site) ∧
    (∃ (s : State) (site : Fin 2) (count : Nat), s.headUp = true ∧ s.p p_seam_suspect_limit ≤ s.suspectCount site + count ∧ site.val = s.site ∧ s.seam.standing = false) :=
  ⟨⟨{ hd with seam.linkUp := true }, by decide +kernel⟩,
    ⟨{ hd with seam.linkUp := true, seam.replay := [(1, 1, ⟨1, 0, 1, 5, .durable 7⟩)] }, 1, 1, 1, ⟨1, 0, 1, 5, .durable 7⟩, by decide +kernel⟩,
    ⟨hd, 1, by decide +kernel⟩,
    ⟨hd, 0, by decide +kernel⟩,
    ⟨{ hd with seam.linkUp := true, head.st0.bundles := [(1, { sealHdr := some bh })] }, 0, 1, bh, by decide +kernel⟩,
    ⟨{ hd with seam.linkUp := true, head.st0.bundles := [(1, { bodyHdr := some bh })] }, 0, 1, bh, by decide +kernel⟩,
    ⟨{ hd with seam.linkUp := true }, 1, by decide +kernel⟩,
    ⟨{ hd with seam.linkUp := true, time.tSet := true }, hb, by decide +kernel⟩,
    ⟨{ hd with seam.silentB := 1000, seam.heardA := 1000 }, by decide +kernel⟩,
    ⟨{ hd with seam.manager := true, seam.silentA := 1000, seam.heardB := 1000 }, by decide +kernel⟩,
    ⟨{ hd with seam.manager := false, seam.standing := false, seam.silentA := 1000, seam.heardB := 1000 }, by decide +kernel⟩,
    ⟨{ hd with seam.heardA := 64, seam.heardB := 64 }, true, by decide +kernel⟩,
    ⟨{ hd with seam.claim := none, seam.silent := 1000, head.st1.mine := false }, by decide +kernel⟩,
    ⟨{ hd with seam.claim := none, seam.silent := 1000, seam.peerState := 0, head.st0.mine := true, head.st1.mine := true }, by decide +kernel⟩,
    ⟨hd, 1, 1, by decide +kernel⟩,
    ⟨{ hd with seam.standing := false }, 0, 1, by decide +kernel⟩⟩

/-- O47: every premise list of Obligations.SectionsOfThePeerAreTakenOrRefused is met. -/
theorem test_met_SectionsOfThePeerAreTakenOrRefused :
    (∃ (s : State) (i : Fin 2) (hdrOk : Bool) (h : BundleHdr) (items : List Item), s.replaying = true ∧ (s.stream i).owns h.epn = false ∧ s.peerThere = true ∧ (s.stream i).accepts i hdrOk h items false = true) ∧
    (∃ (s : State) (i : Fin 2) (hdrOk : Bool) (h : BundleHdr) (items : List Item), s.replaying = true ∧ (s.stream i).owns h.epn = false ∧ s.peerThere = true ∧ (s.stream i).accepts i hdrOk h items false = false ∧ (h.epn, 1) ∉ (s.stream i).badOnce ∧ s.seam.linkUp = true) ∧
    (∃ (s : State) (i : Fin 2) (hdrOk : Bool) (h : BundleHdr) (items : List Item), s.replaying = true ∧ (s.stream i).owns h.epn = false ∧ s.peerThere = true ∧ (s.stream i).accepts i hdrOk h items false = false ∧ (h.epn, 1) ∈ (s.stream i).badOnce) ∧
    (∃ (s : State) (i : Fin 2) (hdrOk : Bool) (h : BundleHdr) (items : List Item), s.replaying = true ∧ (s.stream i).owns h.epn = false ∧ s.peerThere = true ∧ (s.stream i).accepts i hdrOk h items true = true) ∧
    (∃ (s : State) (i : Fin 2) (hdrOk : Bool) (h : BundleHdr) (items : List Item), s.replaying = true ∧ (s.stream i).owns h.epn = false ∧ s.peerThere = true ∧ (s.stream i).accepts i hdrOk h items true = false ∧ (h.epn, 2) ∉ (s.stream i).badOnce ∧ s.seam.linkUp = true ∧ s.p p_repl_role = 0) ∧
    (∃ (s : State) (e0 e1 n : Nat) (b : Bundle) (h : BundleHdr), s.headUp = true ∧ s.seam.linkUp = true ∧ (n, b) ∈ (s.stream 0).bundles ∧ s.bundle 0 n = b ∧ e0 ≤ n ∧ b.sealHdr = some h) ∧
    (∃ (s : State) (cmd : CmdId) (op : FwdOp) (pi : List PiBlock), s.headUp = true ∧ (s.stream (s.nsStream (opNsid op))).takes s.epn = true) ∧
    (∃ (s : State) (cmd : CmdId) (st : NvmeSt) (dw0 : Nat), s.seamOn = true ∧ cmd ∈ s.nvme.fwd ∧ s.cqReady cmd = true ∧ s.power.pfAsserted = false ∧ s.silenced = false) ∧
    (∃ (s : State) (cmd : CmdId) (dw0 : Nat), s.seamOn = true ∧ cmd ∈ s.nvme.fwd ∧ s.silencedFor ((s.ctrl cmd.cntlid).cqOf cmd.sqid) nvOk = true) ∧
    (∃ (s : State) (cmd : CmdId) (st : NvmeSt) (dw0 : Nat), s.seamOn = true ∧ cmd ∉ s.nvme.fwd) ∧
    (∃ (s : State) (record : Bytes), s.leads = true ∧ s.ledger.collecting = true ∧ (∀ x ∈ s.ledger.collected, x.role = 0 → x.site = s.peerSite → x.seq = recSeq record) ∧ State.allCollected { s with ledger := { s.ledger with collected := s.ledger.collected.filter (fun x => !(x.role == 0 && x.site == s.peerSite)) ++ [⟨0, s.peerSite, s.recordStatus record, recSeq record, record⟩] } } = false) :=
  ⟨⟨hd, 1, true, { bh with sectionLen := (bundleBytes []).length, sectionDigest := sha256 (bundleBytes []) }, [], by decide +kernel⟩,
    ⟨{ hd with seam.linkUp := true }, 1, true, bh, [], by decide +kernel⟩,
    ⟨{ hd with head.st1.badOnce := [(1000, 1)] }, 1, true, bh, [], by decide +kernel⟩,
    ⟨{ hd with head.st1.sealSeen := 1000 }, 1, true, { { bh with sectionLen := (bundleBytes []).length, sectionDigest := sha256 (bundleBytes []) } with kind := 2 }, [], by decide +kernel⟩,
    ⟨{ hd with seam.linkUp := true, params := pars ++ [par p_repl_role 0 0] }, 1, true, bh, [], by decide +kernel⟩,
    ⟨{ hd with seam.linkUp := true, head.st0.bundles := [(1, { sealHdr := some bh })] }, 1, 1, 1, { sealHdr := some bh }, bh, by decide +kernel⟩,
    ⟨hd, acmd, (.writeZeroes 1 0 8 false), [], by decide +kernel⟩,
    ⟨{ hd with power.pfAsserted := false, nvme.fwd := [icmd] }, icmd, nvOk, 1, by decide +kernel⟩,
    ⟨{ hd with nvme.fwd := [icmd], seam.leaseLost := true }, icmd, 1, by decide +kernel⟩,
    ⟨hd, acmd, nvOk, 1, by decide +kernel⟩,
    ⟨{ hd with ledger.collecting := true }, [], by decide +kernel⟩⟩

/-- O48: every premise list of Obligations.ReadsAndRepairsCrossTheSeam is met. -/
theorem test_met_ReadsAndRepairsCrossTheSeam :
    (∃ (s : State) (cmd : CmdId) (nsid slba : Nat), s.headUp = true ∧ s.seam.linkUp = true) ∧
    (∃ (s : State) (cmd : CmdId) (nsid slba nlb : Nat), s.headUp = true ∧ s.seam.linkUp = true ∧ 0 < nlb ∧ s.mayRead nsid cmd.cntlid = false) ∧
    (∃ (s : State) (cmd : CmdId) (nsid slba nlb : Nat), s.headUp = true ∧ s.seam.linkUp = true ∧ 0 < nlb ∧ s.mayRead nsid cmd.cntlid = true ∧ s.psAdmits = false) ∧
    (∃ (s : State) (cmd : CmdId) (nsid slba nlb : Nat) (n : Ns) (parts : List (Nat × PartSt)) (r : WaitRead), s.headUp = true ∧ s.seam.linkUp = true ∧ 0 < nlb ∧ s.mayRead nsid cmd.cntlid = true ∧ s.psAdmits = true ∧ s.ns nsid = some n ∧ s.head.reads = [] ∧ ((s.rxSeam (.fwdRead cmd nsid slba nlb)).partsOf nsid slba nlb n).2 = parts ∧ (∀ p ∈ parts, ∃ b l a, p.2 = .have b l a) ∧ parts.any (partBad (s.nsChunk n) (slba * lbaBytes n.lbaf) (nlb * lbaBytes n.lbaf)) = false ∧ r.parts = parts) ∧
    (∃ (s : State) (cmd : CmdId) (r : WaitRead) (n : Ns) (data : Bytes), s.seamOn = true ∧ s.seam.linkUp = true ∧ s.head.reads.find? (fun x => x.cmd == cmd && x.remote) = some r ∧ s.ns r.nsid = some n ∧ r.kind = .read false ∧ r.check = none ∧ s.cqReady cmd = true ∧ s.power.pfAsserted = false ∧ s.silenced = false) ∧
    (∃ (s : State) (cmd : CmdId) (r : WaitRead) (st : NvmeSt) (data : Bytes), s.seamOn = true ∧ s.seam.linkUp = true ∧ s.head.reads.find? (fun x => x.cmd == cmd && x.remote) = some r ∧ st ≠ nvOk ∧ s.cqReady cmd = true ∧ s.power.pfAsserted = false ∧ s.silenced = false) ∧
    (∃ (s : State) (domain : Nat) (fp : Bytes), s.headUp = true ∧ s.seam.linkUp = true ∧ s.isManager = false) ∧
    (∃ (s : State) (domain : Nat) (fp : Bytes), s.seam.linkUp = true ∧ s.isManager = true ∧ s.session = true ∧ s.head.repairs = []) ∧
    (∃ (s : State) (domain : Nat) (fp d : Bytes) (r : RepairReq), s.headUp = true ∧ s.seam.linkUp = true ∧ s.head.repairs = [r] ∧ r.domain = domain ∧ r.fp = fp ∧ r.fromPeer = false ∧ d ≠ [] ∧ s.fingerprint domain d = fp) ∧
    (∃ (s : State) (h : FrameHdr) (data : List Bytes) (f : Fetch) (member : Nat) (r : StripeRec) (b : Bytes), s.isHead = true ∧ s.frameIn h = true ∧ s.head.queue = [] ∧ s.head.fetches = [f] ∧ f.recon = false ∧ f.need = [(member, h.reqId)] ∧ f.got = [] ∧ data.length = f.count ∧ s.head.md.stripe f.chunk.stripeId = some r ∧ (s.decodeImage f.id f.chunk (imageIn f.chunk (data.flatMap (fun x => x.take 4096)))).1 = some b) ∧
    (∃ (s : State) (h : FrameHdr) (status : Nat) (failMask : BitVec 16) (data : List Bytes) (f : Fetch) (m1 m2 : Nat) (q : Nat), s.isHead = true ∧ s.frameIn h = true ∧ s.head.queue = [] ∧ s.head.fetches = [f] ∧ f.need = [(m1, h.reqId), (m2, q)] ∧ q ≠ h.reqId ∧ (∀ x ∈ s.head.reads, x.ready = false) ∧ (status ≠ 0 ∨ failMask ≠ 0)) :=
  ⟨⟨{ hd with seam.linkUp := true }, acmd, 1, 0, by decide +kernel⟩,
    ⟨{ hd with seam.linkUp := true, nvme.ns := [(1, { ns1 with resv := { gen := 4, rtype := 2, regs := [(9, 5)], holder := some 9 } })] }, acmd, 1, 0, 8, by decide +kernel⟩,
    ⟨{ hd with seam.linkUp := true, nvme.psCur := 2 }, acmd, 1, 0, 8, by decide +kernel⟩,
    ⟨{ hd with seam.linkUp := true, head.reads := [] }, acmd, 1, 0, 2, ns1, [(0, .have (zeros 8192) 0 0xFFFF)], ⟨icmd, .read false, 1, 0, 2, false, true, false, none, [(0, .have (zeros 8192) 0 0xFFFF)]⟩, (by refine ⟨?_, ?_, ?_, ?_, ?_, ?_, ?_, rfl, (by intro p hp; simp at hp; subst hp; exact ⟨_, _, _, rfl⟩), ?_, rfl⟩ <;> decide +kernel)⟩,
    ⟨{ hd with seam.linkUp := true, power.pfAsserted := false, head.reads := [wrd] }, icmd, wrd, ns1, [], by decide +kernel⟩,
    ⟨{ hd with seam.linkUp := true, power.pfAsserted := false, head.reads := [wrd] }, icmd, wrd, nvNs, [], by decide +kernel⟩,
    ⟨{ hd with seam.linkUp := true, seam.manager := false }, 1, [], by decide +kernel⟩,
    ⟨{ hd with seam.linkUp := true, head.repairs := [], repl.state := 2 }, 1, [], by decide +kernel⟩,
    ⟨{ hd with seam.linkUp := true, head.repairs := [⟨7, 0, hmac256 [] [1], 0, false⟩] }, 0, hmac256 [] [1], [1], ⟨7, 0, hmac256 [] [1], 0, false⟩, by decide +kernel⟩,
    ⟨{ hd with head.queue := [], head.fetches := [{ ft with chunk := ckr }], head.md := { chunks := [(7, ckr)], stripes := [(1, sr)] } }, fh, [zeros 4160], { ft with chunk := ckr }, 0, sr, hd.openImage 0 7 (zeros 64), (by refine ⟨?_, ?_, ?_, ?_, ?_, ?_, ?_, ?_, ?_, (congrArg (fun i => (State.decodeImage _ 7 ckr i).1) ckr_image).trans (decodes _ _ _ _ rfl (by decide +kernel))⟩ <;> decide +kernel)⟩,
    ⟨{ hd with head.queue := [], head.fetches := [{ ft with need := [(0, 9), (1, 10)] }] }, fh, 1, 0, [], { ft with need := [(0, 9), (1, 10)] }, 0, 1, 10, by decide +kernel⟩⟩

/-- O49: every premise list of Obligations.LeasesClaimsAndTakeover is met. -/
theorem test_met_LeasesClaimsAndTakeover :
    (∃ (s : State) (c : ClaimSt) (i e r : Nat), s.headUp = true ∧ s.seam.claim = some c ∧ c.won = false ∧ c.streams = [(i, e, r)] ∧ i < 2 ∧ s.majority (fun v => match v.claim with | some (some _) => true | _ => false) = true) ∧
    (∃ (s : State) (c : ClaimSt), s.headUp = true ∧ s.seam.claim = some c ∧ c.won = false ∧ c.epn + s.p p_lease_term_epochs ≤ s.epn) ∧
    (∃ (s : State), s.headUp = true ∧ s.granted = false ∧ s.seam.leaseLost = false) ∧
    (∃ (s : State) (i : Fin 2) (c : ClaimSt), s.headUp = true ∧ s.seam.claim = some c ∧ c.won = true ∧ s.phase = 0 ∧ c.maxGrant < s.epn ∧ c.streams.any (·.1 == i.val) = true) ∧
    (∃ (s : State) (i : Fin 2) (c : ClaimSt), s.seam.claim = some c ∧ s.epn ≤ c.maxGrant) ∧
    (∃ (s : State) (i : Fin 2) (lastEpn nextSsn : Nat), s.headUp = true ∧ (s.stream i).takes s.epn = false ∧ s.seam.claim = none ∧ s.barred = false) ∧
    (∃ (s : State), s.seamOn = true ∧ s.seam.rejoining = true ∧ s.seam.asked = true ∧ s.seam.own = 2 ∧ (∀ i, i < 2 → max s.seam.peerSealed (s.stream i).sealSeen ≤ (s.stream i).replayed + s.p p_seam_catchup_epochs) ∧ s.boot.joined = false ∧ s.boot.readyDone = true) ∧
    (∃ (s : State), s.seamOn = true ∧ s.seam.rejoining = true ∧ s.seam.asked = true ∧ s.seam.own = 2 ∧ (∀ i, i < 2 → max s.seam.peerSealed (s.stream i).sealSeen ≤ (s.stream i).replayed + s.p p_seam_catchup_epochs) ∧ s.boot.joined = false ∧ s.boot.readyDone = false) ∧
    (∃ (s : State), s.seamOn = true ∧ s.stageFrom .join = true ∧ s.site = 1 ∧ s.fit = true ∧ s.seam.manager = false ∧ s.managerKnown = false ∧ s.seam.rejoining = false) ∧
    (∃ (s : State) (h : FrameHdr) (rec : LeaseRec) (ports : BitVec 2) (prior : Nat) (c : ClaimSt), s.headUp = true ∧ s.frameIn h = true ∧ s.seam.claim = some c) ∧
    (∃ (s : State) (h : FrameHdr) (rec : LeaseRec) (ports : BitVec 2) (prior : Nat) (c : ClaimSt), s.headUp = true ∧ s.frameIn h = true ∧ s.seam.claim = some c) ∧
    (∃ (s : State) (h : FrameHdr) (rec : LeaseRec) (ports : BitVec 2), s.isHead = true ∧ s.stageFrom .join = true ∧ s.frameIn h = true) ∧
    (∃ (s : State) (h : FrameHdr) (rec : LeaseRec) (ports : BitVec 2), s.isHead = true ∧ s.stageFrom .join = true ∧ s.frameIn h = true ∧ s.seam.leaseMove = none ∧ s.seam.sets = [] ∧ (s.noteLease h.port rec ports).namedManager = true) ∧
    (∃ (s : State) (h : FrameHdr) (rec : LeaseRec) (ports : BitVec 2), s.isHead = true ∧ s.stageFrom .join = true ∧ s.frameIn h = true) ∧
    (∃ (s : State) (h : FrameHdr) (rec : LeaseRec) (ports : BitVec 2), s.isHead = true ∧ s.stageFrom .join = true ∧ s.frameIn h = true ∧ s.seam.rejoining = false) :=
  ⟨⟨{ hd with seam.claim := some ⟨0, 6, [(1, 0, 0)], false, 0, false⟩, head.shelves := (List.range 16).map (fun y => (y, { claim := some (some 0) })) }, ⟨0, 6, [(1, 0, 0)], false, 0, false⟩, 1, 0, 0, by decide +kernel⟩,
    ⟨{ hd with seam.claim := some ⟨0, 6, [], false, 0, false⟩ }, ⟨0, 6, [], false, 0, false⟩, by decide +kernel⟩,
    ⟨{ hd with seam.leaseLost := false }, by decide +kernel⟩,
    ⟨{ hd with seam.claim := some ⟨0, 6, [(0, 0, 0)], true, 0, false⟩ }, 0, ⟨0, 6, [(0, 0, 0)], true, 0, false⟩, by decide +kernel⟩,
    ⟨{ hd with seam.claim := some ⟨0, 6, [(0, 0, 0)], true, 500000, false⟩ }, 0, ⟨0, 6, [(0, 0, 0)], true, 500000, false⟩, by decide +kernel⟩,
    ⟨{ hd with seam.claim := none }, 1, 1, 1, by decide +kernel⟩,
    ⟨{ hd with seam.rejoining := true, seam.asked := true, seam.own := 2, boot.joined := false, boot.readyDone := true }, by decide +kernel⟩,
    ⟨{ hd with seam.rejoining := true, seam.asked := true, seam.own := 2, boot.joined := false, boot.readyDone := false }, by decide +kernel⟩,
    ⟨{ hd with seam.manager := false, seam.rejoining := false, pins.siteId := 1 }, by decide +kernel⟩,
    ⟨{ hd with seam.claim := some ⟨0, 6, [], false, 0, false⟩ }, fh, lr, 0, 1, ⟨0, 6, [], false, 0, false⟩, by decide +kernel⟩,
    ⟨{ hd with seam.claim := some ⟨0, 6, [], false, 0, false⟩ }, fh, lr, 0, 1, ⟨0, 6, [], false, 0, false⟩, by decide +kernel⟩,
    ⟨hd, fh, lr, 0, by decide +kernel⟩,
    ⟨{ hd with seam.leaseMove := none, seam.sets := [], head.shelves := (List.range 16).map (fun i => (i, { record := some lr })) }, fh, lr, 0, by decide +kernel⟩,
    ⟨hd, fh, lr, 0, by decide +kernel⟩,
    ⟨{ hd with seam.rejoining := false }, fh, lr, 0, by decide +kernel⟩⟩

/-- O50: premise lists of Obligations.SpokeLinksTrainAcknowledgeAndResend, part 1 of 2. -/
theorem test_met_SpokeLinksTrainAcknowledgeAndResend :
    (∃ (s : State) (p : Fin 64), s.port.length = 64 ∧ s.fw = true ∧ s.portThere p = true ∧ s.pdOn (36 + p.val / 8) = true ∧ (s.portOf p).state = 1 ∧ s.barred = false) ∧
    (∃ (s : State) (p : Fin 64), s.fw = true ∧ s.portThere p = true ∧ s.pdOn (36 + p.val / 8) = true ∧ (s.portOf p).state ≤ 1) ∧
    (∃ (s : State) (p : Fin 64) (h : Hello) (round : Nat), s.port.length = 64 ∧ s.fw = true ∧ s.portThere p = true ∧ (s.portOf p).state = 2 ∧ (s.portOf p).hellosRx < 15) ∧
    (∃ (s : State) (p : Fin 64) (h : Hello) (round : Nat), s.port.length = 64 ∧ s.fw = true ∧ s.isHead = true ∧ (s.portOf p).state = 2 ∧ (s.portOf p).hellosRx = 15 ∧ (s.portOf p).hellosTx = 16 ∧ p.val < s.nShelves ∧ h.role = 1 ∧ h.site = p.val) ∧
    (∃ (s : State) (p : Fin 64) (h : Hello) (round : Nat), s.port.length = 64 ∧ s.fw = true ∧ s.isShelf = true ∧ (s.portOf p).state = 2 ∧ (s.portOf p).hellosRx = 15 ∧ (s.portOf p).hellosTx = 16 ∧ p.val < 2 ∧ h.role = 0 ∧ h.site = p.val) ∧
    (∃ (s : State) (p : Fin 64) (h : Hello) (round : Nat), s.port.length = 64 ∧ s.fw = true ∧ s.portThere p = true ∧ (s.portOf p).state = 2 ∧ (s.portOf p).hellosRx = 15 ∧ (s.portOf p).hellosTx = 16 ∧ (s.isHead = true → p.val < s.nShelves) ∧ (h.role = b2n s.isShelf ∨ h.site ≠ p.val)) ∧
    (∃ (s : State) (p : Fin 64) (ackLsn : Nat), s.port.length = 64 ∧ s.fw = true ∧ s.portThere p = true ∧ (s.portOf p).state = 3) ∧
    (∃ (s : State) (p : Fin 64) (ackLsn : Nat), s.port.length = 64 ∧ s.fw = true ∧ s.portThere p = true ∧ (s.portOf p).state = 3 ∧ s.barred = false) ∧
    (∃ (s : State) (h : FrameHdr) (w q : Nat), s.port.length = 64 ∧ s.isHead = true ∧ s.frameIn h = true ∧ s.head.queue = []) ∧
    (∃ (s : State) (h : FrameHdr) (w q : Nat), s.port.length = 64 ∧ s.fw = true ∧ s.portThere h.port = true ∧ (s.portOf h.port).up = true ∧ (s.portOf h.port).rxLsn < h.lsn ∧ s.barred = false) ∧
    (∃ (s : State) (h : FrameHdr) (w q : Nat), s.port.length = 64 ∧ s.fw = true ∧ s.portThere h.port = true ∧ (s.portOf h.port).up = true ∧ h.lsn < (s.portOf h.port).rxLsn) ∧
    (∃ (s : State) (p : Fin 64), s.port.length = 64 ∧ s.fw = true ∧ s.portThere p = true ∧ 2 ≤ (s.portOf p).state ∧ (s.portOf p).state ≤ 3 ∧ s.barred = false) ∧
    (∃ (s : State) (p : Fin 64), s.fw = true ∧ s.portThere p = true ∧ (s.portOf p).state = 3 ∧ s.barred = false) ∧
    (∃ (s : State) (p : Fin 64), s.port.length = 64 ∧ s.fw = true ∧ s.portThere p = true ∧ (s.portOf p).state = 3 ∧ (s.portOf p).replay ≠ [] ∧ (s.portOf p).resends < 7 ∧ s.barred = false) ∧
    (∃ (s : State) (p : Fin 64), s.port.length = 64 ∧ s.fw = true ∧ s.portThere p = true ∧ (s.portOf p).state = 3 ∧ (s.portOf p).replay ≠ [] ∧ 7 ≤ (s.portOf p).resends) ∧
    (∃ (s : State) (p : Fin 64), s.port.length = 64 ∧ s.fw = true ∧ s.isShelf = true ∧ s.portThere p = true ∧ (s.portOf p).up = true ∧ ((s.portOf p).wBack ≠ 0 ∨ (s.portOf p).qBack ≠ 0)) ∧
    (∃ (s : State) (p : Fin 64), s.port.length = 64 ∧ s.fw = true ∧ s.portThere p = true ∧ (s.portOf p).linked = true) ∧
    (∃ (s : State) (p : Fin 64), s.port.length = 64 ∧ s.fw = true ∧ s.portThere p = true ∧ (s.portOf p).linked = true) ∧
    (∃ (s : State) (p : Fin 64), s.fw = true ∧ s.isShelf = true ∧ s.portThere p = true ∧ (s.portOf p).up = false ∧ (s.portOf p).downAt + s.p p_spoke_port_fail_ms * 100000 ≤ s.time.t) ∧
    (∃ (s : State) (n : Nat) (j : Job), s.unitRuns n 8 1 j ∧ (s.portOf j.inst).up = false) :=
  ⟨⟨{ hd with port := (List.replicate 64 {}).set 1 { state := 1 } }, 1, by decide +kernel⟩,
    ⟨{ hd with port := (List.replicate 64 {}).set 1 {  } }, 1, by decide +kernel⟩,
    ⟨{ hd with port := (List.replicate 64 {}).set 1 { state := 2, hellosRx := 14 } }, 1, hlo, 1, by decide +kernel⟩,
    ⟨{ hd with port := (List.replicate 64 {}).set 1 { state := 2, hellosRx := 15, hellosTx := 16 } }, 1, hlo, 1, by decide +kernel⟩,
    ⟨{ shf with port := (List.replicate 64 {}).set 1 { state := 2, hellosRx := 15, hellosTx := 16 } }, 1, { hlo with role := 0 }, 1, by decide +kernel⟩,
    ⟨{ hd with port := (List.replicate 64 {}).set 1 { state := 2, hellosRx := 15, hellosTx := 16 } }, 1, { hlo with site := 2 }, 1, by decide +kernel⟩,
    ⟨hd, 1, 1, by decide +kernel⟩,
    ⟨hd, 1, 1, by decide +kernel⟩,
    ⟨{ hd with head.queue := [] }, fh, 1, 1, by decide +kernel⟩,
    ⟨hd, { fh with lsn := 1 }, 1, 1, by decide +kernel⟩,
    ⟨{ hd with port := (List.replicate 64 {}).set 1 { state := 3, admitted := true, rxLsn := 1 } }, fh, 1, 1, by decide +kernel⟩,
    ⟨hd, 1, by decide +kernel⟩,
    ⟨hd, 1, by decide +kernel⟩,
    ⟨{ hd with port := (List.replicate 64 {}).set 1 { state := 3, replay := [(0, frm)], resends := 6 } }, 1, by decide +kernel⟩,
    ⟨{ hd with port := (List.replicate 64 {}).set 1 { state := 3, replay := [(0, frm)], resends := 7 } }, 1, by decide +kernel⟩,
    ⟨{ shf with port := (List.replicate 64 {}).set 1 { state := 3, admitted := true, wBack := 1 } }, 1, by decide +kernel⟩,
    ⟨hd, 1, by decide +kernel⟩,
    ⟨hd, 1, by decide +kernel⟩,
    ⟨{ shf with port := (List.replicate 64 {}).set 1 {  } }, 1, by decide +kernel⟩,
    ⟨{ hd with ring.jobs := [(0, (jb 8 1))], port := (List.replicate 64 {}).set 1 {  } }, 0, (jb 8 1), by unfold State.unitRuns; decide +kernel⟩⟩

/-- O50: premise lists of Obligations.SpokeLinksTrainAcknowledgeAndResend, part 2 of 2. -/
theorem test_met_SpokeLinksTrainAcknowledgeAndResend_2 :
    (∃ (s s1 : State) (n : Nat) (j : Job) (b : Bytes), s.port.length = 64 ∧ s.unitRuns n 8 1 j ∧ j.inst < 64 ∧ (s.portOf j.inst).up = true ∧ s.dmaRead (num j.desc 24 8) (num j.desc 20 4) = (0, b, s1) ∧ (s.isHead = true → (FrameOp.raw b).credits.1 ≤ (s.portOf j.inst).w ∧ (FrameOp.raw b).credits.2 ≤ (s.portOf j.inst).q) ∧ (∀ e ∈ (s.portOf j.inst).sends, e.2 ≠ n) ∧ s.barred = false) ∧
    (∃ (s : State) (h : FrameHdr) (opcode : Byte), s.frameIn h = true ∧ s.barred = false) :=
  ⟨⟨{ hd with ring.jobs := [(0, (jb 8 1))] }, { hd with ring.jobs := [(0, (jb 8 1))] }, 0, (jb 8 1), [], by unfold State.unitRuns; decide +kernel⟩,
    ⟨hd, fh, 5, by decide +kernel⟩⟩

/-- O51: every premise list of Obligations.ShelvesFollowMarksAndKeepTheLease is met. -/
theorem test_met_ShelvesFollowMarksAndKeepTheLease :
    (∃ (s : State) (h : FrameHdr) (n m quality : Nat), s.isShelf = true ∧ s.frameIn h = true ∧ s.time.tSet = false) ∧
    (∃ (s : State) (h : FrameHdr) (n m quality : Nat), s.isShelf = true ∧ s.frameIn h = true ∧ s.time.tSet = true ∧ s.time.state ≠ .markLost ∧ (s.markFrom h.port.val).markSource = some h.port.val) ∧
    (∃ (s : State) (h : FrameHdr) (n m quality : Nat), s.isShelf = true ∧ s.frameIn h = true ∧ s.time.tSet = true ∧ s.time.state = .markLost) ∧
    (∃ (s : State) (h : FrameHdr) (n m quality : Nat), s.isShelf = true ∧ s.frameIn h = true ∧ s.time.tSet = true ∧ s.time.state ≠ .markLost ∧ (s.markFrom h.port.val).markSource ≠ some h.port.val) ∧
    (∃ (s : State) (h : FrameHdr) (origin : Fin 2) (b : Heartbeat), s.isHead = true ∧ s.frameIn h = true ∧ origin.val = s.peerSite) ∧
    (∃ (s : State) (h : FrameHdr) (b : Heartbeat) (origin : Fin 2), s.isHead = false ∧ s.isShelf = true ∧ s.frameIn h = true ∧ origin.val = h.port.val ∧ (s.portOf (1 - h.port.val)).up = true ∧ SMap.get s.sh.relayed origin = none ∧ s.notPast 1 = true ∧ s.barred = false) ∧
    (∃ (s : State) (h : FrameHdr) (b : Heartbeat) (origin : Fin 2) (e : Nat), s.isHead = false ∧ s.isShelf = true ∧ s.frameIn h = true ∧ SMap.get s.sh.relayed origin = some e ∧ s.epn ≤ e) ∧
    (∃ (s : State) (h : FrameHdr) (b : Heartbeat) (origin : Fin 2), s.isHead = false ∧ s.isShelf = true ∧ s.frameIn h = true ∧ s.notPast 1 = false) ∧
    (∃ (s : State) (h : FrameHdr) (q : LeaseReq) (r : LeaseRec), s.shelfTakes h = true ∧ s.leaseRefusal h.port q = 0 ∧ r = { leaseGrant s.lease h.port ((s.setBaseBy h.port q).epn + s.p p_lease_term_epochs) with highEpn := max s.lease.highEpn q.epn }) ∧
    (∃ (s : State) (h : FrameHdr) (q : LeaseReq), s.shelfTakes h = true ∧ s.leaseRefusal h.port q ≠ 0) ∧
    (∃ (s : State) (h : FrameHdr) (q : LeaseReq), s.shelfTakes h = true ∧ s.leaseRefusal h.port q = 0 ∧ q.streamArg < 2) ∧
    (∃ (s : State) (h : FrameHdr) (q : LeaseReq), s.shelfTakes h = true ∧ s.leaseRefusal h.port q = 0 ∧ 2 ≤ q.streamArg) ∧
    (∃ (s : State) (h : FrameHdr) (q : LeaseReq), s.shelfTakes h = true ∧ s.leaseRefusal h.port q ≠ 0) ∧
    (∃ (s : State) (h : FrameHdr) (q : LeaseReq), s.shelfTakes h = true ∧ s.leaseRefusal h.port q = 0) ∧
    (∃ (s : State) (h : FrameHdr) (q : LeaseReq), s.shelfTakes h = true ∧ s.leaseRefusal h.port q ≠ 0) :=
  ⟨⟨{ shf with time.tSet := false }, fh, 1, 1, 1, by decide +kernel⟩,
    ⟨{ shf with time.tSet := true, time.markEpn := [none, none], keep.lease := some { lr with manager := 1 } }, fh, 500000, 1, 1, by decide +kernel⟩,
    ⟨{ shf with time.tSet := true, time.state := .markLost }, fh, 1, 1, 1, by decide +kernel⟩,
    ⟨{ shf with time.tSet := true, time.markEpn := [some 500000, none] }, fh, 1, 1, 1, by decide +kernel⟩,
    ⟨hd, fh, 1, hb, by decide +kernel⟩,
    ⟨shf, fh, hb, 1, by decide +kernel⟩,
    ⟨{ shf with sh.relayed := [(1, 500000)] }, fh, hb, 1, 500000, by decide +kernel⟩,
    ⟨{ shf with time.t := 1000000777 }, fh, hb, 1, by decide +kernel⟩,
    ⟨shf, fh, lq, { leaseGrant (shf).lease fh.port ((shf).epn + (shf).p p_lease_term_epochs) with highEpn := max (shf).lease.highEpn lq.epn }, by decide +kernel⟩,
    ⟨{ shf with keep.lease := some lr }, fh, { lq with leaseGen := 4 }, by decide +kernel⟩,
    ⟨shf, fh, lq, by decide +kernel⟩,
    ⟨shf, fh, { lq with streamArg := 255 }, by decide +kernel⟩,
    ⟨{ shf with keep.lease := some lr }, fh, { lq with leaseGen := 4 }, by decide +kernel⟩,
    ⟨shf, fh, lq, by decide +kernel⟩,
    ⟨{ shf with keep.lease := some lr }, fh, { lq with leaseGen := 4 }, by decide +kernel⟩⟩

/-- O52: every premise list of Obligations.ShelvesBufferTaggedWrites is met. -/
theorem test_met_ShelvesBufferTaggedWrites :
    (∃ (s : State) (h : FrameHdr) (a : AppendHead) (img : Bytes) (first : Nat), s.shelfTakes h = true ∧ s.firstCopy h = true ∧ s.shelfRoom = true ∧ img.length = a.imageLen ∧ s.dropped h.tag = false ∧ appendPasses h a img = true ∧ s.canPlace = true ∧ s.placeOf h.tag (itemSectors (appendHeadBytes a ++ img).length) = some first) ∧
    (∃ (s : State) (h : FrameHdr) (a : AppendHead) (img : Bytes), s.shelfTakes h = true ∧ s.firstCopy h = true ∧ s.shelfRoom = true ∧ img.length = a.imageLen ∧ s.dropped h.tag = false ∧ appendPasses h a img = false) ∧
    (∃ (s : State) (h : FrameHdr) (a : AppendHead) (img : Bytes), s.shelfTakes h = true ∧ s.power.pfAsserted = false ∧ img.length ≠ a.imageLen) ∧
    (∃ (s : State) (h : FrameHdr) (a : AppendHead) (img : Bytes), s.shelfTakes h = true ∧ s.power.pfAsserted = false ∧ img.length = a.imageLen ∧ s.mayWrite h.port = false) ∧
    (∃ (s : State) (h : FrameHdr) (a : AppendHead) (img : Bytes), s.shelfTakes h = true ∧ s.power.pfAsserted = false ∧ img.length = a.imageLen ∧ s.mayWrite h.port = true ∧ h.streamGen < leaseStreamGen s.lease h.tag.stream) ∧
    (∃ (s : State) (h : FrameHdr) (a : AppendHead) (img : Bytes), s.shelfTakes h = true ∧ s.power.pfAsserted = true) ∧
    (∃ (s : State) (h : FrameHdr) (head : StripHead) (checks ssns : List Nat) (imgs : List (Tag × Bytes)) (first : Nat), s.shelfTakes h = true ∧ s.firstCopy h = true ∧ s.shelfRoom = true ∧ checks.length = 16 ∧ takeImages head.metadata h.tag.stream h.tag.item ssns s.sh.plb [] = some imgs ∧ sectorChecks (stripHeadBytes head ++ packed (imgs.map (·.2))) = checks ∧ s.canPlace = true ∧ s.placeOf h.tag (itemSectors (16 + (stripHeadBytes head).length + 16 * 16 + 8 * ssns.length)) = some first) ∧
    (∃ (s : State) (h : FrameHdr) (head : StripHead) (checks ssns : List Nat) (imgs : List (Tag × Bytes)), s.shelfTakes h = true ∧ s.firstCopy h = true ∧ s.shelfRoom = true ∧ checks.length = 16 ∧ takeImages head.metadata h.tag.stream h.tag.item ssns s.sh.plb [] = some imgs ∧ sectorChecks (stripHeadBytes head ++ packed (imgs.map (·.2))) ≠ checks) ∧
    (∃ (s : State) (h : FrameHdr) (head : StripHead) (checks ssns : List Nat), s.shelfTakes h = true ∧ s.firstCopy h = true ∧ s.shelfRoom = true ∧ checks.length = 16 ∧ takeImages head.metadata h.tag.stream h.tag.item ssns s.sh.plb [] = none) ∧
    (∃ (s : State) (h : FrameHdr) (head : StripHead) (sectors : List Sector) (first : Nat), s.shelfTakes h = true ∧ s.firstCopy h = true ∧ s.shelfRoom = true ∧ sectors.length = 16 ∧ (∀ x ∈ sectors, x.data.length = 4096 ∧ crc64 x.data = x.crc64 ∧ x.refTag = head.stripeId ∧ x.appTag = 0xFFFF) ∧ (sectors.flatMap (·.data)).take 256 = stripHeadBytes head ∧ s.canPlace = true ∧ s.placeOf h.tag (itemSectors (sectors.flatMap (fun x => x.data ++ sectorBytes x)).length) = some first) ∧
    (∃ (s : State) (tag : Tag) (i : PlbItem) (a : AppendHead) (img : Bytes), s.shelfOn = true ∧ s.power.pfAsserted = false ∧ s.sh.dumpErased.any id = true ∧ s.plbItem tag = some i ∧ i.safe = false ∧ i.body = .image a img) ∧
    (∃ (s : State) (tag : Tag) (i : PlbItem) (head : StripHead) (b : Bytes) (ts : List Tag), s.shelfOn = true ∧ s.power.pfAsserted = false ∧ s.sh.dumpErased.any id = true ∧ s.plbItem tag = some i ∧ i.safe = false ∧ i.body = .packed head b ts) :=
  ⟨⟨{ shf with keep.lease := some lr }, fh, ahd, zeros 64, 0, by decide +kernel⟩,
    ⟨{ shf with keep.lease := some lr }, fh, { ahd with refTag := 8 }, zeros 64, by decide +kernel⟩,
    ⟨{ shf with power.pfAsserted := false }, fh, ahd, [], by decide +kernel⟩,
    ⟨{ shf with power.pfAsserted := false }, fh, ahd, zeros 64, by decide +kernel⟩,
    ⟨{ shf with power.pfAsserted := false, keep.lease := some { lr with streamGen0 := 6 } }, fh, ahd, zeros 64, by decide +kernel⟩,
    ⟨{ shf with power.pfAsserted := true }, fh, ahd, [], by decide +kernel⟩,
    ⟨leased, fh, shd, sectorChecks (stripHeadBytes shd ++ packed []), [], [], 0, by decide +kernel, by decide +kernel, by decide +kernel, strip_checks, rfl, rfl, by decide +kernel, by rw [head_length]; decide +kernel⟩,
    ⟨leased, fh, shd, (sectorChecks (stripHeadBytes shd ++ packed [])).map (· + 1), [], [], by decide +kernel, by decide +kernel, by decide +kernel, (List.length_map ..).trans strip_checks, rfl, ne_bumped _ strip_checks⟩,
    ⟨{ shf with keep.lease := some lr }, fh, shd, List.replicate 16 1, [3], by decide +kernel⟩,
    ⟨leased, fh, shd, headSectors, 0, by decide +kernel, by decide +kernel, by decide +kernel, List.length_map .., headSectors_ok, headSectors_head, by decide +kernel, by rw [headSectors_bytes]; decide +kernel⟩,
    ⟨{ shf with power.pfAsserted := false, sh.plb := [pit] }, pit.tag, pit, ahd, zeros 64, by decide +kernel⟩,
    ⟨{ shf with power.pfAsserted := false, sh.plb := [{ pit with body := .packed shd [] [] }] }, pit.tag, { pit with body := .packed shd [] [] }, shd, [], [], by decide +kernel⟩⟩

/-- O53: every premise list of Obligations.ShelvesAnswerRequests is met. -/
theorem test_met_ShelvesAnswerRequests :
    (∃ (s : State) (h : FrameHdr) (sla count : Nat) (bad : BitVec 16), s.shelfTakes h = true ∧ (count = 0 ∨ 16 < sla % 16 + count)) ∧
    (∃ (s : State) (h : FrameHdr) (sla count : Nat) (bad : BitVec 16), s.shelfTakes h = true ∧ 0 < count ∧ sla % 16 + count ≤ 16 ∧ s.stripSectors (sla / 16) = none) ∧
    (∃ (s : State) (h : FrameHdr) (sla : Nat) (l : List (Option Sector)) (x : Sector), s.shelfTakes h = true ∧ s.stripSectors (sla / 16) = some l ∧ l.getD (sla % 16) none = some x ∧ crc64 x.data = x.crc64) ∧
    (∃ (s : State) (h : FrameHdr) (sla : Nat) (l : List (Option Sector)), s.shelfTakes h = true ∧ s.stripSectors (sla / 16) = some l ∧ l.getD (sla % 16) none = none) ∧
    (∃ (s : State) (h : FrameHdr), s.shelfTakes h = true ∧ s.mayWrite h.port = true ∧ leaseStreamGen s.lease h.tag.stream ≤ h.streamGen) ∧
    (∃ (s : State) (h : FrameHdr), s.shelfTakes h = true ∧ s.mayWrite h.port = false) ∧
    (∃ (s : State) (h : FrameHdr) (sla : Nat), s.shelfTakes h = true ∧ s.mayWrite h.port = true ∧ leaseStreamGen s.lease h.tag.stream ≤ h.streamGen ∧ h.purge = false ∧ sla / 16 ∉ s.sh.copying) ∧
    (∃ (s : State) (h : FrameHdr) (sla : Nat), s.shelfTakes h = true ∧ s.mayWrite h.port = true ∧ leaseStreamGen s.lease h.tag.stream ≤ h.streamGen ∧ sla / 16 ∈ s.sh.copying) ∧
    (∃ (s : State) (h : FrameHdr) (entry : Bytes), s.isShelf = true ∧ s.frameIn h = true) ∧
    (∃ (s : State) (h : FrameHdr) (seq : Nat), s.boot.readyDone = false ∧ s.fit = true) ∧
    (∃ (s : State) (h : FrameHdr), s.shelfHears h = true ∧ (s.boot.readyDone = true ∨ s.fit = false)) ∧
    (∃ (s : State) (h : FrameHdr) (seq : Nat) (r : Bytes), s.shelfHears h = true ∧ (s.boot.readyDone = true ∨ s.fit = false) ∧ 0 < seq ∧ (s.recordsFrom seq 1).2 = [r] ∧ recSeq r = seq) ∧
    (∃ (s : State) (h : FrameHdr) (first : Nat), s.shelfTakes h = true) ∧
    (∃ (s : State) (h : FrameHdr) (i : PlbItem) (a : AppendHead) (img : Bytes), s.shelfTakes h = true ∧ s.plbItem h.tag = some i ∧ i.body = .image a img) ∧
    (∃ (s : State) (h : FrameHdr), s.shelfTakes h = true ∧ s.plbItem h.tag = none) :=
  ⟨⟨shf, fh, 1, 0, 0, by decide +kernel⟩,
    ⟨shf, fh, 1, 1, 0, by decide +kernel⟩,
    ⟨{ shf with sh.map := [(1, mapEntry 0 0 0)], flash.pages := [(pageKey 0 0 0, pg (crc64 (zeros 64)))] }, fh, 17, [some (sec (crc64 (zeros 64))), some (sec (crc64 (zeros 64))), some (sec (crc64 (zeros 64))), some (sec (crc64 (zeros 64)))] ++ List.replicate 12 none, sec (crc64 (zeros 64)), by decide +kernel⟩,
    ⟨{ shf with sh.map := [(1, mapEntry 0 0 0)] }, fh, 17, List.replicate 16 none, by decide +kernel⟩,
    ⟨{ shf with keep.lease := some lr }, fh, by decide +kernel⟩,
    ⟨shf, fh, by decide +kernel⟩,
    ⟨{ shf with keep.lease := some lr }, fh, 1, by decide +kernel⟩,
    ⟨{ shf with sh.copying := [0], keep.lease := some lr }, fh, 1, by decide +kernel⟩,
    ⟨shf, fh, [], by decide +kernel⟩,
    ⟨{ hd with boot.readyDone := false }, fh, 1, by decide +kernel⟩,
    ⟨shf, fh, by decide +kernel⟩,
    ⟨{ shf with nor := recNor }, fh, 1, _, by decide +kernel, by decide +kernel, by decide +kernel, only_record _ (by decide +kernel), by decide +kernel⟩,
    ⟨shf, fh, 1, by decide +kernel⟩,
    ⟨{ shf with sh.plb := [pit] }, fh, pit, ahd, zeros 64, by decide +kernel⟩,
    ⟨shf, fh, by decide +kernel⟩⟩

/-- O54: every premise list of Obligations.HeadsTakeTheAnswersOfShelves is met. -/
theorem test_met_HeadsTakeTheAnswersOfShelves :
    (∃ (s : State) (h : FrameHdr) (tag : Tag) (bytes : Nat) (w : ChunkWork) (r : StripeRec), s.isHead = true ∧ s.p p_repl_role = 0 ∧ s.frameIn h = true ∧ s.head.queue = [] ∧ tag.cls = .append ∧ tag.stream < 2 ∧ s.work tag.stream tag.seq = some w ∧ s.head.md.stripe (tag.item / 256) = some r ∧ w.stripe = tag.item / 256 ∧ w.released = false) ∧
    (∃ (s : State) (h : FrameHdr) (es : List AckEntry), s.isHead = true ∧ s.frameIn h = true ∧ s.head.queue = []) ∧
    (∃ (s : State) (h : FrameHdr) (entry : Bytes), s.isHead = true ∧ s.isShelf = false ∧ s.frameIn h = true ∧ s.head.queue = [] ∧ entry.length = 64 ∧ ((s.shelf h.port).readOnly = true ∨ num entry 1 1 < 2)) ∧
    (∃ (s : State) (h : FrameHdr) (record : Bytes), s.isHead = true ∧ s.frameIn h = true ∧ s.head.queue = [] ∧ s.leads = true ∧ s.ledger.collecting = true ∧ (∀ x ∈ s.ledger.collected, x.role = 1 → x.site = h.port.val → x.seq = recSeq record) ∧ State.allCollected { s with ledger := { s.ledger with collected := s.ledger.collected.filter (fun x => !(x.role == 1 && x.site == h.port.val)) ++ [⟨1, h.port, s.recordStatus record, recSeq record, record⟩] } } = false) ∧
    (∃ (s : State), s.leads = true ∧ s.ledger.collecting = true ∧ s.boot.readyDone = true) ∧
    (∃ (s : State), s.leads = true ∧ s.ledger.collecting = true ∧ s.boot.readyDone = true ∧ s.ledger.later = []) ∧
    (∃ (s : State) (p : Fin 64), s.isManager = true ∧ s.portThere p = true ∧ p.val < s.nShelves ∧ (s.shelf p).portsUp.getLsbD s.peerSite = false ∧ s.isFailed p = false ∧ .manager (.fail p) ∉ (s.stream s.mgrStream).sealQueue) :=
  ⟨⟨{ hd with head.queue := [], head.st0.work := [(5, cw)], head.md.stripes := [(1, sr)], params := pars ++ [par p_repl_role 0 0] }, fh, ⟨.append, 0, 5, 256⟩, 1, cw, sr, by decide +kernel⟩,
    ⟨{ hd with head.queue := [] }, fh, [], by decide +kernel⟩,
    ⟨{ hd with head.queue := [] }, fh, zeros 64, by decide +kernel⟩,
    ⟨{ hd with head.queue := [], ledger.collecting := true }, fh, [], by decide +kernel⟩,
    ⟨{ hd with ledger.collecting := true, boot.readyDone := true }, by decide +kernel⟩,
    ⟨{ hd with ledger.collecting := true, boot.readyDone := true, ledger.later := [] }, by decide +kernel⟩,
    ⟨{ hd with head.shelves := [(1, { portsUp := 1 })] }, 1, by decide +kernel⟩⟩

/-- O55: every premise list of Obligations.FlashRoutinesPostAndReturnTheirStatus is met. -/
theorem test_met_FlashRoutinesPostAndReturnTheirStatus :
    (∃ (s : State) (e : Fin 48) (r : FlashReq), s.flashCall e r = true ∧ s.lunIdle r = true) ∧
    (∃ (s : State) (e : Fin 48) (r : FlashReq) (data metas : Bytes), s.flashCall e r = true ∧ s.lunIdle r = true) ∧
    (∃ (s : State) (e : Fin 48) (r : FlashReq) (reason : Fin 5) (i : Nat), s.flashCall e r = true ∧ s.lunIdle r = true ∧ s.intentSlot = some i) ∧
    (∃ (s : State) (e : Fin 48) (r : FlashReq) (l : LunSt) (x : FlReq), s.flashCall e r = true ∧ s.lun r.channel (dieIdx r.ce r.lun) = l ∧ l.running = some x ∧ x.op = .erase ∧ s.time.t < l.since + s.p p_flash_erase_min_slice_us * 100) ∧
    (∃ (s : State) (e : Fin 48) (r : FlashReq) (l : LunSt) (x : FlReq), s.flashCall e r = true ∧ s.lun r.channel (dieIdx r.ce r.lun) = l ∧ x ∈ l.running.toList ++ l.queue ∧ (x.op = .read ∨ x.op = .readRetry)) ∧
    (∃ (s : State) (e : Fin 48) (r : FlashReq) (l : LunSt) (x : FlReq), s.flashCall e r = true ∧ s.issues r.channel = true ∧ s.lun r.channel (dieIdx r.ce r.lun) = l ∧ l.queue = [] ∧ l.running = some x ∧ x.op = .erase ∧ l.since + s.p p_flash_erase_min_slice_us * 100 ≤ s.time.t) ∧
    (∃ (s : State) (e : Fin 48) (r : FlashReq) (l : LunSt) (x : FlReq), s.flashCall e r = true ∧ s.issues r.channel = true ∧ s.lun r.channel (dieIdx r.ce r.lun) = l ∧ l.queue = [] ∧ l.running = none ∧ l.suspended = some x) ∧
    (∃ (s : State) (e : Fin 48) (r : FlashReq), s.engRuns e = true ∧ s.isShelf = true ∧ s.eng.length = 48 ∧ s.frStatus r ≠ 0) ∧
    (∃ (s : State) (e : Fin 48) (r : FlashReq), s.engRuns e = true ∧ s.isShelf = true ∧ s.eng.length = 48 ∧ s.flash.chans.length = 32) ∧
    (∃ (s : State) (e : Fin 48) (r : FlashReq), s.engRuns e = true ∧ s.isShelf = true ∧ s.eng.length = 48) :=
  ⟨⟨shf, 1, fr, by decide +kernel⟩,
    ⟨shf, 1, fr, [], [], by decide +kernel⟩,
    ⟨shf, 1, fr, 1, 0, by decide +kernel⟩,
    ⟨{ shf with flash := lunAt { running := some (flr .erase), since := 1000000000 } }, 1, fr, { running := some (flr .erase) , since := 1000000000 }, flr .erase, by decide +kernel⟩,
    ⟨{ shf with flash := lunAt { running := some (flr .read) } }, 1, fr, { running := some (flr .read) }, flr .read, by decide +kernel⟩,
    ⟨{ shf with flash := lunAt { running := some (flr .erase) } }, 1, fr, { running := some (flr .erase) }, flr .erase, by decide +kernel⟩,
    ⟨{ shf with flash := lunAt { suspended := some (flr .erase) } }, 1, fr, { suspended := some (flr .erase) }, flr .erase, by decide +kernel⟩,
    ⟨shf, 1, { fr with ce := 4 }, by decide +kernel⟩,
    ⟨shf, 1, fr, by decide +kernel⟩,
    ⟨shf, 1, fr, by decide +kernel⟩⟩

/-- O56: every premise list of Obligations.FlashOperationsEndAsTheDieShows is met. -/
theorem test_met_FlashOperationsEndAsTheDieShows :
    (∃ (s : State) (c : Fin 32) (ce lun : Fin 4) (d : DieResult) (x : FlReq), s.dieRuns c ce lun x ∧ x.op = .read ∧ x.req.sentinel = false ∧ x.req.wantTag = false ∧ (s.readAll x.req d).all (fun y => y.sector.isSome && !y.checkFail) = true) ∧
    (∃ (s : State) (c : Fin 32) (ce lun : Fin 4) (d : DieResult) (x : FlReq), s.dieRuns c ce lun x ∧ (x.op = .read ∨ x.op = .readRetry) ∧ x.req.sentinel = false ∧ (s.readAll x.req d).any (fun y => y.sector.isNone && !y.erased) = true) ∧
    (∃ (s : State) (c : Fin 32) (ce lun : Fin 4) (d : DieResult) (x : FlReq), s.dieRuns c ce lun x ∧ (x.op = .read ∨ x.op = .readRetry) ∧ x.req.sentinel = false ∧ s.readAll x.req d ≠ [] ∧ (s.readAll x.req d).all (·.erased) = true) ∧
    (∃ (s : State) (c : Fin 32) (ce lun : Fin 4) (d : DieResult) (x : FlReq), s.dieRuns c ce lun x ∧ (x.op = .read ∨ x.op = .readRetry) ∧ x.req.sentinel = false ∧ (s.readAll x.req d).all (fun y => y.sector.isSome) = true ∧ (s.readAll x.req d).any (·.checkFail) = true) ∧
    (∃ (s : State) (c : Fin 32) (ce lun : Fin 4) (d : DieResult) (x : FlReq), s.dieRuns c ce lun x ∧ (x.op = .read ∨ x.op = .readRetry) ∧ x.req.sentinel = true) ∧
    (∃ (s : State) (c : Fin 32) (ce lun : Fin 4) (d : DieResult) (x : FlReq), s.dieRuns c ce lun x ∧ x.op = .program ∧ x.badCheck = true) ∧
    (∃ (s : State) (c : Fin 32) (ce lun : Fin 4) (d : DieResult) (x : FlReq), s.dieRuns c ce lun x ∧ x.op = .program ∧ x.badCheck = false ∧ x.wild = false ∧ d.failed = false) ∧
    (∃ (s : State) (c : Fin 32) (ce lun : Fin 4) (d : DieResult) (x : FlReq), s.dieRuns c ce lun x ∧ x.op = .program ∧ x.badCheck = false ∧ d.failed = true) ∧
    (∃ (s : State) (c : Fin 32) (ce lun : Fin 4) (d : DieResult) (x : FlReq), s.dieRuns c ce lun x ∧ x.op = .erase ∧ d.failed = false) ∧
    (∃ (s : State) (c : Fin 32) (ce lun : Fin 4) (d : DieResult) (x : FlReq), s.dieRuns c ce lun x ∧ x.op = .erase ∧ d.failed = true) ∧
    (∃ (s : State) (c : Fin 32) (ce lun : Fin 4) (d : DieResult) (x : FlReq), s.dieRuns c ce lun x ∧ x.op = .status) ∧
    (∃ (s : State) (c : Fin 32) (ce lun : Fin 4) (d : DieResult) (x : FlReq), s.dieRuns c ce lun x ∧ x.op = .feature ∧ x.req.set = true) ∧
    (∃ (s : State) (c : Fin 32) (ce lun : Fin 4) (answers : Bool) (x : FlReq), s.dieRuns c ce lun x) :=
  ⟨⟨{ shf with flash := { lunAt { running := some (flr .read) } with pages := [(pageKey (reqBlock fr) 0 0, pg 0)] } }, 1, 1, 1, dr, flr .read, by unfold State.dieRuns; decide +kernel⟩,
    ⟨{ shf with flash := lunAt { running := some (flr .readRetry) } }, 1, 1, 1, { dr with undecoded := 1 }, flr .readRetry, by unfold State.dieRuns; decide +kernel⟩,
    ⟨{ shf with flash := lunAt { running := some (flr .read) } }, 1, 1, 1, dr, flr .read, by unfold State.dieRuns; decide +kernel⟩,
    ⟨{ shf with flash := { lunAt { running := some (flr .read { fr with chkRef := true, refTag := 1 }) } with pages := [(pageKey (reqBlock fr) 0 0, pg 0)] } }, 1, 1, 1, dr, flr .read { fr with chkRef := true, refTag := 1 }, by unfold State.dieRuns; decide +kernel⟩,
    ⟨{ shf with flash := lunAt { running := some (flr .read { fr with sentinel := true }) } }, 1, 1, 1, dr, flr .read { fr with sentinel := true }, by unfold State.dieRuns; decide +kernel⟩,
    ⟨{ shf with flash := lunAt { running := some ⟨.program, fr, [], false, true⟩ } }, 1, 1, 1, dr, ⟨.program, fr, [], false, true⟩, by unfold State.dieRuns; decide +kernel⟩,
    ⟨{ shf with flash := lunAt { running := some (flr .program) } }, 1, 1, 1, dr, flr .program, by unfold State.dieRuns; decide +kernel⟩,
    ⟨{ shf with flash := lunAt { running := some (flr .program) } }, 1, 1, 1, { dr with failed := true }, flr .program, by unfold State.dieRuns; decide +kernel⟩,
    ⟨{ shf with flash := lunAt { running := some (flr .erase) } }, 1, 1, 1, dr, flr .erase, by unfold State.dieRuns; decide +kernel⟩,
    ⟨{ shf with flash := lunAt { running := some (flr .erase) } }, 1, 1, 1, { dr with failed := true }, flr .erase, by unfold State.dieRuns; decide +kernel⟩,
    ⟨{ shf with flash := lunAt { running := some (flr .status) } }, 1, 1, 1, dr, flr .status, by unfold State.dieRuns; decide +kernel⟩,
    ⟨{ shf with flash := lunAt { running := some (flr .feature { fr with set := true }) } }, 1, 1, 1, dr, flr .feature { fr with set := true }, by unfold State.dieRuns; decide +kernel⟩,
    ⟨{ shf with flash := lunAt { running := some (flr .read) } }, 1, 1, 1, true, flr .read, by unfold State.dieRuns; decide +kernel⟩⟩

/-- O57: premise lists of Obligations.FrontPortsAndQueuePairsFollowTheWire, part 1 of 2. -/
theorem test_met_FrontPortsAndQueuePairsFollowTheWire :
    (∃ (s : State) (p : Fin 16), s.fw = true ∧ s.isHead = true ∧ s.front.length = 16 ∧ s.pi p_eth_port_speed p ≠ 0 ∧ (s.frontOf p).up = false ∧ (s.frontOf p).stopping = false) ∧
    (∃ (s : State) (p : Fin 16) (n : Nat) (q : Qp), s.fw = true ∧ s.isHead = true ∧ s.front.length = 16 ∧ (s.frontOf p).up = true ∧ s.rdma.qps.filter (fun e => e.2.port == p.val && e.2.state == 1) = [(n, q)]) ∧
    (∃ (s : State) (p : Fin 16), s.fw = true ∧ s.isHead = true ∧ s.pi p_eth_port_speed p ≠ 0 ∧ (s.frontOf p).up = false ∧ (s.frontOf p).downAt + 100000000 ≤ s.time.t) ∧
    (∃ (s : State) (p : Fin 16) (k : Fin 3), s.fw = true ∧ s.isHead = true ∧ (s.frontOf p).up = true) ∧
    (∃ (s : State) (p : Fin 16) (named pause : BitVec 8), s.fw = true ∧ s.isHead = true ∧ s.front.length = 16 ∧ (s.frontOf p).up = true ∧ s.rdma.txHeld = []) ∧
    (∃ (s : State) (p : Fin 16) (named pause : BitVec 8) (n psn : Nat), s.fw = true ∧ s.isHead = true ∧ s.front.length = 16 ∧ (s.frontOf p).up = true ∧ s.rdma.txHeld = [(n, psn, [p.val])] ∧ named.getLsbD (s.p p_eth_rdma_priority) = true ∧ (BitVec.ofNat 8 (s.pi p_eth_pfc_mask p)).getLsbD (s.p p_eth_rdma_priority) = true ∧ pause.getLsbD (s.p p_eth_rdma_priority) = false) ∧
    (∃ (s : State) (qpn : Nat) (p : Fin 16) (a b : Fin 16777216) (rq : List (Nat × Nat)) (cr : Nat), s.rdmaOn = true ∧ (s.frontOf p).up = true ∧ 2 ≤ qpn ∧ qpn ≤ 262145 ∧ SMap.has s.rdma.qps qpn = false ∧ s.p p_repl_role ≠ 0) ∧
    (∃ (s : State) (qpn c : Nat) (p : Fin 16) (a b : Fin 16777216) (rq : List (Nat × Nat)) (cr : Nat), s.rdmaOn = true ∧ (s.frontOf p).up = true ∧ 2 ≤ qpn ∧ qpn ≤ 262145 ∧ SMap.has s.rdma.qps qpn = false ∧ (s.ctrlKind c).fabric = true ∧ bit (s.p p_nvme_rdma_port_mask) p = true) ∧
    (∃ (s : State) (qpn : Nat) (p : Fin 16) (a b : Fin 16777216) (rq : List (Nat × Nat)) (cr : Nat), s.rdmaOn = true ∧ (s.frontOf p).up = true ∧ 2 ≤ qpn ∧ qpn ≤ 262145 ∧ SMap.has s.rdma.qps qpn = false ∧ s.isManager = true ∧ s.isSource = true) ∧
    (∃ (s : State) (qpn : Nat) (q : Qp), s.rdmaOn = true ∧ SMap.get s.rdma.qps qpn = some q) ∧
    (∃ (s : State) (p : RdmaPkt) (q : Qp) (a l : Nat) (rest : List (Nat × Nat)), s.atQp p q ∧ q.spray = none ∧ p.spray = none ∧ p.psn = q.expPsn ∧ p.first = true ∧ p.last = true ∧ q.rq = (a, l) :: rest ∧ p.payload.length ≤ l) ∧
    (∃ (s : State) (p : RdmaPkt) (q : Qp), s.atQp p q ∧ q.spray = none ∧ p.spray = none ∧ p.psn = q.expPsn ∧ p.first = true ∧ q.rq = []) ∧
    (∃ (s : State) (p : RdmaPkt) (q : Qp) (a l : Nat), s.atQp p q ∧ q.spray = none ∧ p.spray = none ∧ p.psn ≠ q.expPsn ∧ psnDist p.psn q.expPsn < 2 ^ 23 ∧ q.nakSent = false ∧ dmaReach a l = true) ∧
    (∃ (s : State) (p : RdmaPkt) (q : Qp) (a : Nat), s.atQp p q ∧ q.spray = none ∧ p.spray = none ∧ p.psn = q.expPsn ∧ p.first = true ∧ p.last = true ∧ dmaReach a p.payload.length = true) ∧
    (∃ (s : State) (p : RdmaPkt) (q : Qp) (a l : Nat), s.atQp p q ∧ q.use = .data ∧ q.spray = none ∧ p.spray = none ∧ p.psn = q.expPsn ∧ p.first = true ∧ l < p.payload.length ∧ dmaReach a l = true) ∧
    (∃ (s : State) (p : RdmaPkt) (q : Qp) (r : SprayRx) (m idx a l : Nat), s.atQp p q ∧ q.spray = some r ∧ r.placed = [] ∧ r.seals = [] ∧ p.spray = some (m, idx, false) ∧ p.psn = r.base ∧ p.psn < 2 ^ 24 ∧ idx * s.pmtu + p.payload.length ≤ l ∧ dmaReach a l = true) ∧
    (∃ (s : State) (p : RdmaPkt), s.rdmaOn = true ∧ s.front.length = 16 ∧ (s.frontOf p.fp).up = true ∧ SMap.has s.rdma.qps p.qpn = false) ∧
    (∃ (s : State) (p : RdmaPkt), s.rdmaOn = true ∧ s.front.length = 16 ∧ (s.frontOf p.fp).up = true ∧ SMap.has s.rdma.qps p.qpn = true ∧ s.rdma.cache.contains p.qpn = false ∧ (s.frontOf p.fp).parked + p.payload.length < 262144) ∧
    (∃ (s : State) (p : RdmaPkt) (q : Qp) (a l : Nat) (rest : List (Nat × Nat)), s.rdmaOn = true ∧ s.front.length = 16 ∧ s.rdma.parked = [(p.qpn, .send p)] ∧ SMap.get s.rdma.qps p.qpn = some q ∧ q.state = 1 ∧ p.ceMarked = false ∧ (s.frontOf p.fp).paused = 0 ∧ q.spray = none ∧ p.spray = none ∧ p.psn = q.expPsn ∧ p.first = true ∧ p.last = true ∧ q.rq = (a, l) :: rest ∧ p.payload.length ≤ l) ∧
    (∃ (s : State) (p : RdmaPkt) (q : Qp) (off len : Nat), s.atQp p q ∧ s.isTarget = true ∧ p.psn = q.expPsn ∧ off + len ≤ 8) :=
  ⟨⟨{ hd with front := List.replicate 16 {} }, 1, by decide +kernel⟩,
    ⟨{ hd with rdma := qps qp }, 1, 7, qp, by decide +kernel⟩,
    ⟨{ hd with front := List.replicate 16 {} }, 1, by decide +kernel⟩,
    ⟨hd, 1, 1, by decide +kernel⟩,
    ⟨{ hd with rdma.txHeld := [] }, 1, 0, 0, by decide +kernel⟩,
    ⟨{ hd with rdma.txHeld := [(7, 0, [1])], params := pars ++ [par p_eth_pfc_mask 1 255] }, 1, 0xFF, 0, 7, 0, by decide +kernel⟩,
    ⟨{ hd with params := pars ++ [par p_repl_role 0 1] }, 2, 1, 1, 1, [], 1, by decide +kernel⟩,
    ⟨hd, 262145, 0x11, 1, 1, 1, [], 1, by decide +kernel⟩,
    ⟨{ hd with params := pars ++ [par p_repl_role 0 1] }, 2, 1, 1, 1, [], 1, by decide +kernel⟩,
    ⟨{ hd with rdma.qps := [(1, qp)] }, 1, qp, by decide +kernel⟩,
    ⟨{ hd with rdma := qps { qp with rq := [(4096, 4)] } }, pk, { qp with rq := [(4096, 4)] }, 4096, 4, [], by unfold State.atQp; decide +kernel⟩,
    ⟨{ hd with rdma := qps qp }, pk, qp, by unfold State.atQp; decide +kernel⟩,
    ⟨{ hd with rdma := qps qp }, { pk with psn := 1 }, qp, 1, 4, by unfold State.atQp; decide +kernel⟩,
    ⟨{ hd with rdma := qps qp }, pk, qp, 4096, by unfold State.atQp; decide +kernel⟩,
    ⟨{ hd with rdma := qps qp }, pk, qp, 4096, 3, by unfold State.atQp; decide +kernel⟩,
    ⟨{ hd with rdma := qps { qp with spray := some {} } }, { pk with spray := some (0, 0, false) }, { qp with spray := some {} }, {}, 0, 0, 4096, 4, by unfold State.atQp; decide +kernel⟩,
    ⟨hd, pk, by decide +kernel⟩,
    ⟨{ hd with rdma.qps := [(7, qp)] }, pk, by decide +kernel⟩,
    ⟨{ hd with rdma.parked := [(7, .send pk)], rdma.qps := [(7, { qp with rq := [(4096, 4)] })] }, pk, { qp with rq := [(4096, 4)] }, 4096, 4, [], by decide +kernel⟩,
    ⟨{ hd with rdma := qps qp, params := pars ++ [par p_repl_role 0 2] }, pk, qp, 1, 1, by unfold State.atQp; decide +kernel⟩⟩

/-- O57: premise lists of Obligations.FrontPortsAndQueuePairsFollowTheWire, part 2 of 2. -/
theorem test_met_FrontPortsAndQueuePairsFollowTheWire_2 :
    (∃ (s : State) (p : RdmaPkt) (q : Qp) (off len : Nat), s.atQp p q ∧ q.use = .data ∧ p.psn = q.expPsn) ∧
    (∃ (s : State) (p : RdmaPkt) (q : Qp) (addr add : Nat), s.atQp p q ∧ s.isTarget = true ∧ p.psn = q.expPsn ∧ addr % 8 = 0) ∧
    (∃ (s : State) (p : RdmaPkt) (q : Qp) (addr cmp swap : Nat), s.atQp p q ∧ s.isTarget = true ∧ p.psn = q.expPsn ∧ addr % 8 = 0 ∧ s.repl.word < 2 ^ 64) :=
  ⟨⟨{ hd with rdma := qps qp }, pk, qp, 1, 1, by unfold State.atQp; decide +kernel⟩,
    ⟨{ hd with rdma := qps qp, params := pars ++ [par p_repl_role 0 2] }, pk, qp, 8, 1, by unfold State.atQp; decide +kernel⟩,
    ⟨{ hd with rdma := qps qp, params := pars ++ [par p_repl_role 0 2] }, pk, qp, 8, 1, 1, by unfold State.atQp; decide +kernel⟩⟩

/-- O58: every premise list of Obligations.RequestersAcknowledgeGoBackAndFail is met. -/
theorem test_met_RequestersAcknowledgeGoBackAndFail :
    (∃ (s : State) (qpn cr : Nat) (psn : Fin 16777216) (q : Qp) (w : WorkReq), s.rdmaOn = true ∧ SMap.get s.rdma.qps qpn = some q ∧ q.state = 1 ∧ q.unacked = [w] ∧ psn.val = w.lastPsn) ∧
    (∃ (s : State) (qpn cr : Nat) (psn : Fin 16777216) (q : Qp) (b : Bytes), s.rdmaOn = true ∧ SMap.get s.rdma.qps qpn = some q ∧ q.state = 1 ∧ q.use = .data ∧ 8 < b.length) ∧
    (∃ (s : State) (qpn cr : Nat) (psn : Fin 16777216) (q : Qp) (b : Bytes), s.rdmaOn = true ∧ SMap.get s.rdma.qps qpn = some q ∧ q.state = 1 ∧ q.use = .data ∧ b.length < 8) ∧
    (∃ (s : State) (qpn cr new : Nat) (psn : Fin 16777216) (q : Qp) (b : Bytes), s.rdmaOn = true ∧ SMap.get s.rdma.qps qpn = some q ∧ q.state = 1 ∧ b.length = 8 ∧ s.repl.state = 1 ∧ s.isManager = true ∧ s.isSource = true ∧ s.repl.taking = some (leNat b, new)) ∧
    (∃ (s : State) (qpn cr read new : Nat) (psn : Fin 16777216) (q : Qp) (b : Bytes), s.rdmaOn = true ∧ SMap.get s.rdma.qps qpn = some q ∧ q.state = 1 ∧ b.length = 8 ∧ s.repl.state = 1 ∧ s.isManager = true ∧ s.isSource = true ∧ s.repl.taking = some (read, new) ∧ leNat b ≠ read) ∧
    (∃ (s : State) (qpn : Nat) (psn : Fin 16777216) (kind : Fin 4) (q : Qp) (w : WorkReq), s.rdmaOn = true ∧ SMap.get s.rdma.qps qpn = some q ∧ q.state = 1 ∧ q.use = .data ∧ q.spray = none ∧ q.unacked = [w] ∧ psn.val = w.psn ∧ 0 < w.packets ∧ w.packets ≤ 4096 ∧ q.retries < s.p p_rdma_retry_cnt ∧ s.portPaused q.port = false ∧ (kind.val = 0 ∨ kind.val = 3)) ∧
    (∃ (s : State) (qpn : Nat) (psn : Fin 16777216) (kind : Fin 4) (q : Qp) (w : WorkReq), s.rdmaOn = true ∧ SMap.get s.rdma.qps qpn = some q ∧ q.state = 1 ∧ q.use = .data ∧ q.unacked = [w] ∧ psn.val = w.psn ∧ 0 < w.packets ∧ w.packets ≤ 4096 ∧ s.p p_rdma_retry_cnt ≤ q.retries ∧ (kind.val = 0 ∨ kind.val = 3)) ∧
    (∃ (s : State) (qpn : Nat) (psn : Fin 16777216) (kind : Fin 4) (q : Qp) (w : WorkReq), s.rdmaOn = true ∧ SMap.get s.rdma.qps qpn = some q ∧ q.state = 1 ∧ q.use = .data ∧ q.unacked = [w] ∧ psn.val = w.psn ∧ 0 < w.packets ∧ w.packets ≤ 4096 ∧ (kind.val = 1 ∨ kind.val = 2)) ∧
    (∃ (s : State) (qpn : Nat) (q : Qp) (w : WorkReq), s.rdmaOn = true ∧ SMap.get s.rdma.qps qpn = some q ∧ q.state = 1 ∧ q.spray = none ∧ q.unacked = [w] ∧ w.psn < 2 ^ 24 ∧ 0 < w.packets ∧ w.packets ≤ 4096 ∧ q.timerAt + s.ackTicks ≤ s.time.t ∧ q.retries < s.p p_rdma_retry_cnt ∧ s.portPaused q.port = false) ∧
    (∃ (s : State) (qpn : Nat) (q : Qp), s.rdmaOn = true ∧ SMap.get s.rdma.qps qpn = some q ∧ q.state = 1 ∧ s.p p_rdma_cc_enable = 1) ∧
    (∃ (s : State) (qpn c : Nat) (q : Qp), s.rdmaOn = true ∧ SMap.get s.rdma.qps qpn = some q ∧ q.state = 1 ∧ q.cnpGot = some c ∧ c + 5500 ≤ s.time.t ∧ q.rate < 65536) ∧
    (∃ (s : State) (qpn since : Nat) (psn : Fin 16777216) (q : Qp) (r : SprayRx), s.rdmaOn = true ∧ SMap.get s.rdma.qps qpn = some q ∧ q.spray = some r ∧ r.holes = [(psn.val, since)] ∧ since + s.p p_rdma_spray_hole_us * 100 ≤ s.time.t) ∧
    (∃ (s : State), s.fw = true ∧ s.isHead = true) :=
  ⟨⟨{ hd with rdma.qps := [(1, { qp with unacked := [⟨1, 5, 2, 0, 0⟩] })] }, 1, 1, 6, { qp with unacked := [⟨1, 5, 2, 0, 0⟩] }, ⟨1, 5, 2, 0, 0⟩, by decide +kernel⟩,
    ⟨{ hd with rdma.qps := [(1, qp)] }, 1, 1, 1, qp, zeros 9, by decide +kernel⟩,
    ⟨{ hd with rdma.qps := [(1, qp)] }, 1, 1, 1, qp, [], by decide +kernel⟩,
    ⟨{ hd with rdma.qps := [(1, qp)], repl.state := 1, repl.taking := some (leNat (zeros 8), 1), params := pars ++ [par p_repl_role 0 1] }, 1, 1, 1, 1, qp, zeros 8, by decide +kernel⟩,
    ⟨{ hd with rdma.qps := [(1, qp)], repl.state := 1, repl.taking := some (1, 1), params := pars ++ [par p_repl_role 0 1] }, 1, 1, 1, 1, 1, qp, zeros 8, by decide +kernel⟩,
    ⟨{ hd with rdma.qps := [(1, { qp with unacked := [⟨1, 5, 2, 0, 0⟩] })] }, 1, 5, 0, { qp with unacked := [⟨1, 5, 2, 0, 0⟩] }, ⟨1, 5, 2, 0, 0⟩, by decide +kernel⟩,
    ⟨{ hd with rdma.qps := [(1, { qp with unacked := [⟨1, 5, 2, 0, 0⟩], retries := 100 })] }, 1, 5, 3, { qp with unacked := [⟨1, 5, 2, 0, 0⟩], retries := 100 }, ⟨1, 5, 2, 0, 0⟩, by decide +kernel⟩,
    ⟨{ hd with rdma.qps := [(1, { qp with unacked := [⟨1, 5, 2, 0, 0⟩] })] }, 1, 5, 2, { qp with unacked := [⟨1, 5, 2, 0, 0⟩] }, ⟨1, 5, 2, 0, 0⟩, by decide +kernel⟩,
    ⟨{ hd with rdma.qps := [(1, { qp with unacked := [⟨1, 5, 2, 0, 0⟩] })] }, 1, { qp with unacked := [⟨1, 5, 2, 0, 0⟩] }, ⟨1, 5, 2, 0, 0⟩, by decide +kernel⟩,
    ⟨{ hd with rdma.qps := [(1, qp)], params := pars ++ [par p_rdma_cc_enable 0 1] }, 1, qp, by decide +kernel⟩,
    ⟨{ hd with rdma.qps := [(1, { qp with cnpGot := some 0, rate := 65535 })] }, 1, 0, { qp with cnpGot := some 0, rate := 65535 }, by decide +kernel⟩,
    ⟨{ hd with rdma.qps := [(1, { qp with spray := some { holes := [(1, 0)] } })] }, 1, 0, 1, { qp with spray := some { holes := [(1, 0)] } }, { holes := [(1, 0)] }, by decide +kernel⟩,
    ⟨hd, by decide +kernel⟩⟩

/-- O59: every premise list of Obligations.TheSourceOfReplicationFollowsItsPartner is met. -/
theorem test_met_TheSourceOfReplicationFollowsItsPartner :
    (∃ (s : State) (h : ReplHdr) (partner : Bytes) (point r0 r1 : Nat), s.fromTarget h = true ∧ s.isManager = true ∧ s.repl.state = 1 ∧ s.repl.taking = none ∧ h.ident = s.repl.keyGen) ∧
    (∃ (s : State) (h : ReplHdr) (partner : Bytes) (point r0 r1 : Nat), s.fromTarget h = true ∧ s.isManager = true ∧ s.repl.state = 1 ∧ s.repl.taking = none ∧ h.ident = s.repl.keyGen ∧ s.repl.resyncEpn = 0 ∧ s.repl.last = [0, 0] ∧ 0 < point) ∧
    (∃ (s : State) (h : ReplHdr) (partner : Bytes), s.fromTarget h = true ∧ s.isManager = true ∧ s.repl.state = 1 ∧ s.repl.taking = none ∧ h.ident = s.repl.keyGen ∧ s.repl.resyncEpn = 0 ∧ s.repl.replicated = 0 ∧ s.repl.receipts = [0, 0]) ∧
    (∃ (s : State) (h : ReplHdr) (e : PullEntry) (b : Bytes) (c : Nat × ChunkRec), s.fromTarget h = true ∧ s.isManager = true ∧ s.head.md.chunks.find? (fun c => c.2.domain == e.domain && padTo 32 c.2.fp == padTo 32 e.fp && c.2.live && !c.2.lost) = some c) ∧
    (∃ (s : State) (h : ReplHdr) (e : PullEntry), s.fromTarget h = true ∧ s.isManager = true) ∧
    (∃ (s : State) (h : ReplHdr) (n : Nat) (b : Bundle), s.fromTarget h = true ∧ h.stream < 2 ∧ SMap.get (s.stream h.stream).bundles n = some b ∧ n ≤ h.ident) ∧
    (∃ (s : State) (h : ReplHdr), s.fromTarget h = true ∧ h.stream < 2 ∧ s.isManager = true ∧ s.head.md.syncOff = true ∧ s.repl.last = [0, 0] ∧ 0 < s.p p_repl_ckpt_epochs ∧ (s.stream s.mgrStream).sealQueue = []) ∧
    (∃ (s : State) (h : ReplHdr), s.fromTarget h = true ∧ s.isManager = true ∧ s.session = true ∧ s.repl.replicated < h.ident) ∧
    (∃ (s : State) (h : ReplHdr), s.fromTarget h = true ∧ s.isManager = true ∧ s.session = true ∧ s.repl.resyncEpn ≠ 0 ∧ s.repl.diffSent = true ∧ h.ident = s.repl.resyncEpn) ∧
    (∃ (s : State) (e : Nat × Nat × Nat), s.isManager = true ∧ s.syncRepl = true ∧ e ∈ s.repl.sentAt ∧ e.2.2 + s.p p_repl_sync_timeout_ms * 100000 ≤ s.time.t ∧ (s.stream s.mgrStream).sealQueue = [] ∧ s.p p_repl_sync_on_loss ≠ 1) ∧
    (∃ (s : State), s.p p_repl_sync_on_loss = 1) ∧
    (∃ (s : State) (e : Nat × Qp) (q : Qp), s.isManager = true ∧ s.isSource = true ∧ s.session = true ∧ s.repl.held = true ∧ s.repl.keyedAt + s.p p_repl_rekey_hours * 3600 * 100000000 ≤ s.time.t ∧ (s.replQps .control).head? = some e ∧ SMap.get s.rdma.qps e.1 = some q) ∧
    (∃ (s : State), s.fw = true ∧ s.isHead = true ∧ s.p p_repl_role ≠ 0 ∧ s.repl.state = 4 ∧ s.repl.downAt + s.p p_repl_lag_alarm_s * 100000000 ≤ s.time.t) :=
  ⟨⟨{ hd with repl.state := 1, repl.taking := none, params := pars ++ [par p_repl_role 0 1] }, { rh with ident := 0 }, [], 1, 1, 1, by decide +kernel⟩,
    ⟨{ hd with repl.state := 1, repl.taking := none, repl.resyncEpn := 0, repl.last := [0, 0], params := pars ++ [par p_repl_role 0 1] }, { rh with ident := 0 }, [], 1, 1, 1, by decide +kernel⟩,
    ⟨{ hd with repl.state := 1, repl.taking := none, repl.resyncEpn := 0, repl.replicated := 0, repl.receipts := [0, 0], params := pars ++ [par p_repl_role 0 1] }, { rh with ident := 0 }, [], by decide +kernel⟩,
    ⟨{ hd with head.md.chunks := [(7, ck)], params := pars ++ [par p_repl_role 0 1] }, rh, ⟨3, 0, zeros 32⟩, [], (7, ck), by decide +kernel⟩,
    ⟨{ hd with params := pars ++ [par p_repl_role 0 1] }, rh, ⟨3, 0, zeros 32⟩, by decide +kernel⟩,
    ⟨{ hd with head.st0.bundles := [(1, {})], params := pars ++ [par p_repl_role 0 1] }, rh, 1, {}, by decide +kernel⟩,
    ⟨{ hd with head.md.syncOff := true, repl.last := [0, 0], params := pars ++ [par p_repl_role 0 1] }, rh, by decide +kernel⟩,
    ⟨{ hd with repl.state := 2, params := pars ++ [par p_repl_role 0 1] }, rh, by decide +kernel⟩,
    ⟨{ hd with repl.diffSent := true, repl.state := 2, repl.resyncEpn := 3, params := pars ++ [par p_repl_role 0 1] }, rh, by decide +kernel⟩,
    ⟨{ hd with repl.sentAt := [(0, 5, 0)], params := pars ++ [par p_repl_role 0 1, par p_repl_mode 0 1] }, (0, 5, 0), by decide +kernel⟩,
    ⟨{ hd with params := pars ++ [par p_repl_sync_on_loss 0 1] }, by decide +kernel⟩,
    ⟨{ hd with repl.held := true, rdma.qps := [(7, { qp with use := .control })], repl.state := 2, time.t := 10 ^ 14, params := pars ++ [par p_repl_role 0 1] }, (7, { qp with use := .control }), { qp with use := .control }, by decide +kernel⟩,
    ⟨{ hd with repl.state := 4, time.t := 10 ^ 13, params := pars ++ [par p_repl_role 0 1] }, by decide +kernel⟩⟩

/-- O60: premise lists of Obligations.TheTargetOfReplicationTakesWhatIsNew, part 1 of 2. -/
theorem test_met_TheTargetOfReplicationTakesWhatIsNew :
    (∃ (s : State) (h : ReplHdr) (rs : List ReplRec), s.rdmaOn = true ∧ s.isTarget = true ∧ s.isManager = true ∧ s.session = true ∧ s.wordMatches h = false) ∧
    (∃ (s : State) (h : ReplHdr) (rs : List ReplRec) (m : SeenMsg), s.rdmaOn = true ∧ s.isTarget = true ∧ s.isManager = true ∧ s.session = true ∧ s.wordMatches h = true ∧ s.repl.seen.find? (fun m => m.type == 0x10 && m.stream == h.stream && m.part == h.part && m.ident == h.ident) = some m) ∧
    (∃ (s : State) (h : ReplHdr) (a w0 w1 k0 k1 : Bytes), s.rdmaOn = true ∧ s.isManager = true ∧ s.isTarget = true ∧ s.wordMatches h = true ∧ padTo 16 a ≠ s.arrayId ∧ h.ident = h.keyGen ∧ kwUnwrap (s.keySlot 1025).key w0 = some k0 ∧ kwUnwrap (s.keySlot 1025).key w1 = some k1) ∧
    (∃ (s : State) (h : ReplHdr) (a w0 w1 : Bytes) (f : Nat), s.rdmaOn = true ∧ s.isManager = true ∧ s.isTarget = true ∧ s.wordMatches h = true ∧ padTo 16 a = s.arrayId) ∧
    (∃ (s : State) (h : ReplHdr) (rs : List ReplRec), s.freshMsg 0x10 h = true ∧ h.stream < 2 ∧ s.repl.done.getD h.stream 0 < h.ident ∧ (h.prev = s.repl.done.getD h.stream 0 ∨ h.prev = 0) ∧ h.parts ≤ 1 ∧ s.repl.arrived = []) ∧
    (∃ (s : State) (h : ReplHdr) (rs : List ReplRec), s.freshMsg 0x10 h = true ∧ h.stream < 2 ∧ s.repl.done.getD h.stream 0 < h.ident ∧ h.prev ≠ s.repl.done.getD h.stream 0 ∧ h.prev ≠ 0 ∧ s.repl.arrived = []) ∧
    (∃ (s : State) (h : ReplHdr) (snap quality : Nat) (last : List Nat), s.freshMsg 0x11 h = true ∧ s.repl.replicated < h.ident) ∧
    (∃ (s : State) (p : Point) (rest : List Point), s.isTarget = true ∧ s.isManager = true ∧ s.session = true ∧ s.repl.targetPoints = p :: rest ∧ p.cutAt = none ∧ s.repl.recs = [] ∧ (s.stream s.site).classRecs = [] ∧ (∀ i, i < 2 → p.last.getD i 0 ≤ s.repl.done.getD i 0)) ∧
    (∃ (s : State) (h : ReplHdr) (r : KeyRec) (d f : Bytes), s.freshMsg 0x12 h = true ∧ kwUnwrap (s.keySlot 1025).key r.wrappedData = some d ∧ kwUnwrap (s.keySlot 1025).key r.wrappedFp = some f ∧ s.keyGen r.domain < r.generation ∧ s.replicated r.domain = true) ∧
    (∃ (s : State) (h : ReplHdr) (r : KeyRec), s.freshMsg 0x12 h = true ∧ kwUnwrap (s.keySlot 1025).key r.wrappedData = none) :=
  ⟨⟨{ hd with repl.state := 2, repl.word := 2 ^ 32, params := pars ++ [par p_repl_role 0 2] }, { rh with sender := 2 }, [], by decide +kernel⟩,
    ⟨{ hd with repl.state := 2, repl.word := 2 ^ 32, repl.seen := [⟨0x10, 0, 0, 3, []⟩], params := pars ++ [par p_repl_role 0 2] }, rh, [], ⟨0x10, 0, 0, 3, []⟩, by decide +kernel⟩,
    ⟨{ hd with repl.state := 2, repl.word := 2 ^ 32, params := pars ++ [par p_repl_role 0 2] }, { rh with ident := 0 }, [1], kwWrap [] (zeros 32), kwWrap [] (zeros 32), zeros 32, zeros 32, by decide +kernel⟩,
    ⟨{ hd with repl.state := 2, repl.word := 2 ^ 32, params := pars ++ [par p_repl_role 0 2] }, rh, [], [], [], 1, by decide +kernel⟩,
    ⟨{ hd with repl.arrived := [], repl.state := 2, repl.word := 2 ^ 32, params := pars ++ [par p_repl_role 0 2] }, rh, [], by decide +kernel⟩,
    ⟨{ hd with repl.arrived := [], repl.state := 2, repl.word := 2 ^ 32, params := pars ++ [par p_repl_role 0 2] }, { rh with prev := 2 }, [], by decide +kernel⟩,
    ⟨{ hd with repl.state := 2, repl.word := 2 ^ 32, params := pars ++ [par p_repl_role 0 2] }, rh, 1, 1, [], by decide +kernel⟩,
    ⟨{ hd with repl.targetPoints := [⟨5, 0, 0, [0, 0], none⟩], repl.recs := [], repl.state := 2, repl.word := 2 ^ 32, params := pars ++ [par p_repl_role 0 2] }, ⟨5, 0, 0, [0, 0], none⟩, [], by decide +kernel⟩,
    ⟨{ hd with repl.state := 2, repl.word := 2 ^ 32, params := pars ++ [par p_repl_role 0 2, par p_repl_domain_enable 1 1] }, rh, { kr with generation := 2, wrappedData := kwWrap [] (zeros 32), wrappedFp := kwWrap [] (zeros 32) }, zeros 32, zeros 32, by decide +kernel⟩,
    ⟨{ hd with repl.state := 2, repl.word := 2 ^ 32, params := pars ++ [par p_repl_role 0 2] }, rh, kr, by decide +kernel⟩⟩

/-- O60: premise lists of Obligations.TheTargetOfReplicationTakesWhatIsNew, part 2 of 2. -/
theorem test_met_TheTargetOfReplicationTakesWhatIsNew_2 :
    (∃ (s : State) (h : ReplHdr) (c : ReplChunk) (p : Pull), s.freshMsg 0x21 h = true ∧ s.repl.pulls = [p] ∧ p.reqNo = h.ident ∧ p.fp.length = 32 ∧ s.repl.recs = [] ∧ c.unavailable = false ∧ s.fpOk { c with domain := p.domain, fp := p.fp } = true) ∧
    (∃ (s : State) (h : ReplHdr) (c : ReplChunk) (p : Pull), s.freshMsg 0x21 h = true ∧ s.repl.pulls = [p] ∧ p.reqNo = h.ident ∧ c.unavailable = false ∧ s.fpOk { c with domain := p.domain, fp := p.fp } = false ∧ p.fails < 2) ∧
    (∃ (s : State) (h : ReplHdr) (c : ReplChunk) (p : Pull), s.freshMsg 0x21 h = true ∧ s.repl.pulls = [p] ∧ p.reqNo = h.ident ∧ c.unavailable = false ∧ s.fpOk { c with domain := p.domain, fp := p.fp } = false ∧ 2 ≤ p.fails) ∧
    (∃ (s : State) (h : ReplHdr) (c : ReplChunk), s.freshMsg 0x22 h = true ∧ s.repl.recs = [] ∧ c.unavailable = false ∧ s.fpOk c = true ∧ s.repl.done.getD h.stream 0 < h.ident) ∧
    (∃ (s : State) (h : ReplHdr) (c : ReplChunk), s.freshMsg 0x22 h = true ∧ s.fpOk c = false) ∧
    (∃ (s : State) (h : ReplHdr) (r : ReplRec), s.freshMsg 0x50 h = true ∧ r.kind = 2 ∧ s.repl.recs = [] ∧ s.repl.targetPoints = []) ∧
    (∃ (s : State) (h : ReplHdr) (domain : Nat) (fp b : Bytes), s.rdmaOn = true ∧ s.isManager = true ∧ s.session = true ∧ h.keyGen = s.repl.keyGen ∧ s.head.md.chunks.any (fun c => c.2.domain == domain && padTo 32 c.2.fp == padTo 32 fp && c.2.live && !c.2.lost) = true) ∧
    (∃ (s : State) (h : ReplHdr) (domain : Nat) (fp : Bytes), s.rdmaOn = true ∧ s.isManager = true ∧ s.session = true ∧ h.keyGen = s.repl.keyGen) ∧
    (∃ (s : State) (h : ReplHdr) (c : ReplChunk) (chunk domain : Nat) (fp : Bytes) (r : RepairReq), s.rdmaOn = true ∧ s.isManager = true ∧ s.session = true ∧ h.keyGen = s.repl.keyGen ∧ s.repl.asks = [(h.ident, chunk, domain, fp)] ∧ c.unavailable = false ∧ s.fingerprint domain c.data = fp ∧ s.head.repairs = [r] ∧ r.domain = domain ∧ r.fp = fp ∧ r.fromPeer = false) ∧
    (∃ (s : State) (r : TargetRec), s.isTarget = true ∧ s.isManager = true ∧ s.session = true ∧ s.repl.recs = [r] ∧ r.st = 0 ∧ r.item.kind = 1 ∧ r.since + s.p p_repl_lookup_epochs ≤ s.epn ∧ s.repl.pulls = []) :=
  ⟨⟨{ hd with repl.pulls := [⟨3, 0, zeroMac, 0⟩], repl.recs := [], repl.state := 2, repl.word := 2 ^ 32, params := pars ++ [par p_repl_role 0 2] }, rh, rck, ⟨3, 0, zeroMac, 0⟩, by decide +kernel⟩,
    ⟨{ hd with repl.pulls := [⟨3, 0, zeros 32, 0⟩], repl.state := 2, repl.word := 2 ^ 32, params := pars ++ [par p_repl_role 0 2] }, rh, rck, ⟨3, 0, zeros 32, 0⟩, by decide +kernel⟩,
    ⟨{ hd with repl.pulls := [⟨3, 0, zeros 32, 2⟩], repl.state := 2, repl.word := 2 ^ 32, params := pars ++ [par p_repl_role 0 2] }, rh, rck, ⟨3, 0, zeros 32, 2⟩, by decide +kernel⟩,
    ⟨{ hd with repl.recs := [], repl.state := 2, repl.word := 2 ^ 32, params := pars ++ [par p_repl_role 0 2] }, rh, { rck with fp := zeroMac }, by decide +kernel⟩,
    ⟨{ hd with repl.state := 2, repl.word := 2 ^ 32, params := pars ++ [par p_repl_role 0 2] }, rh, rck, by decide +kernel⟩,
    ⟨{ hd with repl.recs := [], repl.targetPoints := [], repl.state := 2, repl.word := 2 ^ 32, params := pars ++ [par p_repl_role 0 2] }, rh, ⟨2, 0, 0, 1, 0, 0, 0, 0, []⟩, by decide +kernel⟩,
    ⟨{ hd with repl.state := 2, repl.word := 2 ^ 32, head.md.chunks := [(7, ck)], params := pars ++ [par p_repl_role 0 2] }, rh, 0, zeros 32, [], by decide +kernel⟩,
    ⟨{ hd with repl.state := 2, repl.word := 2 ^ 32, params := pars ++ [par p_repl_role 0 2] }, rh, 1, [], by decide +kernel⟩,
    ⟨{ hd with repl.asks := [(rh.ident, 1, 0, zeroMac)], head.repairs := [⟨7, 0, zeroMac, 0, false⟩], repl.state := 2, repl.word := 2 ^ 32, params := pars ++ [par p_repl_role 0 2] }, rh, rck, 1, 0, zeroMac, ⟨7, 0, zeroMac, 0, false⟩, by decide +kernel⟩,
    ⟨{ hd with repl.recs := [⟨0, 5, ⟨1, 0, 0, 1, 0, 1, 0, 0, zeros 32⟩, 0, 0, 0, 0, 0⟩], repl.pulls := [], repl.state := 2, repl.word := 2 ^ 32, params := pars ++ [par p_repl_role 0 2] }, ⟨0, 5, ⟨1, 0, 0, 1, 0, 1, 0, 0, zeros 32⟩, 0, 0, 0, 0, 0⟩, by decide +kernel⟩⟩

end Sys2Proof.Tests
end

section
/-! PROOFS. The scope of the part: when its straps are sampled (R2), and what enabling a ring does (R630). -/

namespace Sys2Proof.Machine

/-! ### The straps -/

theorem porNRelease_samples {r : Fin 4} {x : Fin 64} {s : State} (h : s.pins.porN = false) :
    Runs (.porNRelease r x) s fun t => t.pins.roleSel = r.val ∧ t.pins.siteId = x.val := by
  obtain ⟨t, ht⟩ := exec_next (.porNRelease r x) s
  refine ⟨t, ht, ?_⟩
  change execPorNRelease r x s = .next t at ht
  simp only [execPorNRelease, onlyIf, h, Bool.not_false, if_true] at ht
  cases ht
  split
  · exact State.alarm_stays.straps
  · exact ⟨rfl, rfl⟩

/-- Settles O6: the release of POR_N writes both straps, and `exec_straps` is the frame of every other command. -/
theorem strapsAreSampledOnlyAtPorRelease : Obligations.StrapsAreSampledOnlyAtPorRelease := by
  unfold Obligations.StrapsAreSampledOnlyAtPorRelease
  exact ⟨fun _ _ _ h => porNRelease_samples h, fun _ _ _ hc h => exec_straps h hc⟩

/-! ### Enabling a ring whose block is powered off -/

/-- A head at READY whose cipher domain PD24 alone is off, as its PD_CTRL asked (R608); ring 0 names the cipher engine and is not enabled. -/
def cipherOffHead : State :=
  { State.reset with
    pins := { porN := true, sampled := true }
    boot := { stage := .ready }
    power := { pd := (List.replicate 50 { state := 2 }).set 24 { offReq := true } }
    ring := { rings := [(0, { log2 := 6, target := 0x600 })] } }

/-- The entry takes ENABLE, and behaves as disabled all the same while its block's domain is off (R630). -/
theorem ringEnable_cipherOffHead {t : State} (h : exec (.ringEnable 0 0) cipherOffHead = .next t) :
    bit (t.ringOf 0).ctrl 0 = true ∧ (t.ringOf 0).domainOff = true := by
  cases h
  decide

theorem Ring.not_on_of_domainOff {r : Ring} (h : r.domainOff = true) : r.on = false := by
  simp [Ring.on, h]

/-- Refutes O17 at its first clause: on `cipherOffHead` the enable of a fit entry sets ENABLE, yet the ring is not on, because its TARGET's
power domain is off; the clause has no premise on the domain. -/
theorem not_ringsAndRegistersFollowTheirControls : ¬ Obligations.RingsAndRegistersFollowTheirControls := by
  unfold Obligations.RingsAndRegistersFollowTheirControls
  rintro ⟨hEnable, -⟩
  obtain ⟨t, ht, hOn, -⟩ := hEnable cipherOffHead 0 0 (by decide) rfl rfl (by decide) (by decide)
  obtain ⟨-, hDomain⟩ := ringEnable_cipherOffHead ht
  have hOff : (t.ringOf 0).on = false := Ring.not_on_of_domainOff hDomain
  exact Bool.false_ne_true (hOff.symm.trans hOn)

end Sys2Proof.Machine
end

section
/-! PROOFS. ARRAY_CTRL at the manager, at another head and at a shelf (R560, R561). -/

namespace Sys2Proof.Machine

/-! ### Streams and records -/

@[simp] theorem State.stream_setStream_self (s : State) (i : Nat) (v : StreamSt) : (s.setStream i v).stream i = v := by
  unfold State.setStream State.stream
  split <;> rfl

@[simp] theorem State.setStream_out (s : State) (i : Nat) (v : StreamSt) : (s.setStream i v).out = s.out :=
  State.setStream_stays.same_out rfl

/-- A record goes to the end of the manager's stream's queue, and only there. -/
theorem State.recorded_record (s : State) (r : MgrRec) : s.recorded (s.record r) r := by
  simp [State.recorded, State.record]

@[simp] theorem State.record_out (s : State) (r : MgrRec) : (s.record r).out = s.out := State.record_stays.same_out rfl

theorem State.record_permits (s : State) (r : MgrRec) : (s.record r).head.permits = s.head.permits := by
  unfold State.record State.setStream
  dsimp only
  split <;> rfl

/-- A record that is answered at once. -/
theorem State.record_ctrlDone (s : State) (r : MgrRec) (tag : Byte) (body : Bytes) :
    s.recorded ((s.record r).ctrlDone tag 0 body) r ∧ s.ctrlAnswered ((s.record r).ctrlDone tag 0 body) tag 0 body :=
  ⟨s.recorded_record r, congrArg (· ++ _) (s.record_out r)⟩

/-! ### Who takes ARRAY_CTRL -/

theorem State.ready_of_isManager {s : State} (h : s.isManager = true) : s.ready = true ∧ s.isHead = true := by
  simp only [State.isManager, State.headUp, State.serving, Bool.and_eq_true] at h
  obtain ⟨⟨⟨⟨hReady, -⟩, hHead⟩, -⟩, -⟩ := h
  exact ⟨hReady, hHead⟩

theorem State.live_of_ready {s : State} (h : s.ready = true) : s.live = true := by
  simp only [State.ready, Bool.and_eq_true] at h
  exact h.1

/-- A head at READY is held neither by R4 nor in recovery mode. -/
theorem State.mgmtAccepts_of_ready {s : State} (h : s.ready = true) (hHead : s.isHead = true) (cmd : Nat) : s.mgmtAccepts cmd = true := by
  simp only [State.ready, Bool.and_eq_true, beq_iff_eq] at h
  simp [State.mgmtAccepts, State.strapsOk, hHead, h.2]

/-- What an ARRAY_CTRL does at the manager. -/
theorem State.arrayCtrl_of_ctrlReady {s : State} (h : s.ctrlReady = true) (tag : Byte) (f : State → State) :
    s.arrayCtrl tag f = .next (f s) := by
  simp only [State.ctrlReady, Bool.and_eq_true] at h
  obtain ⟨hManager, -⟩ := h
  obtain ⟨hReady, hHead⟩ := State.ready_of_isManager hManager
  simp [State.arrayCtrl, State.mgmtCmd, onlyIf, State.live_of_ready hReady, State.mgmtAccepts_of_ready hReady hHead, hHead, hManager]

/-- A sub-command whose meaning `m` is an ARRAY_CTRL operation `f` runs `f` at the manager. -/
theorem runs_of_ctrlReady {s : State} {c : Instr} {tag : Byte} {f : State → State} {p : State → Prop} (m : State → Res)
    (h : s.ctrlReady = true) (hp : p (f s)) (hm : m s = s.arrayCtrl tag f := by rfl) (hc : exec c s = m s := by rfl) : Runs c s p :=
  ⟨f s, (hc.trans hm).trans (State.arrayCtrl_of_ctrlReady h tag f), hp⟩

/-! ### The sub-commands -/

theorem snapshotDefine_records {s : State} {tag : Byte} {id e : Nat} {nsids : List Nat} (h : s.ctrlReady = true)
    (hok : s.snapOk id (if e = 0 then s.leastE else e) nsids = true) :
    Runs (.snapshotDefine tag id e nsids) s fun t =>
      s.recorded t (.snapDefine ⟨id, if e = 0 then s.leastE else e, nsids⟩) ∧ s.ctrlAnswered t tag 0 [] := by
  refine runs_of_ctrlReady (execSnapshotDefine tag id e nsids) h ?_
  dsimp only
  rw [if_pos hok]
  exact s.record_ctrlDone _ tag []

theorem snapshotDefine_tooEarly {s : State} {tag : Byte} {id e : Nat} {nsids : List Nat} (h : s.ctrlReady = true) (h0 : e ≠ 0)
    (he : e < s.leastE) :
    Runs (.snapshotDefine tag id e nsids) s fun t => t = { s with out := s.out ++ [.mgmt 0x0C tag.toNat 2 none []] } := by
  have hno : s.snapOk id e nsids = false := by simp [State.snapOk, Nat.not_le.mpr he]
  refine runs_of_ctrlReady (execSnapshotDefine tag id e nsids) h ?_
  simp only [h0, if_false, hno]
  rfl

theorem snapshotDelete_records {s : State} {tag : Byte} {id : Nat} {x : Snap} (h : s.ctrlReady = true)
    (hx : SMap.get s.head.md.snaps id = some x) (hv : x.hidden = false) :
    Runs (.snapshotDelete tag id) s fun t => s.recorded t (.snapDelete id) ∧ s.ctrlAnswered t tag 0 [] := by
  have there : s.snapThere id = true := by simp [State.snapThere, hx, hv]
  refine runs_of_ctrlReady (execSnapshotDelete tag id) h ?_
  rw [if_pos there]
  exact s.record_ctrlDone _ tag []

theorem snapshotClone_records {s : State} {tag : Byte} {id nsid : Nat} {x : Snap} (h : s.ctrlReady = true)
    (hx : SMap.get s.head.md.snaps id = some x) (hv : x.hidden = false) (hn : nsid ∈ x.nsids) (he : x.epn ≤ s.epn)
    (hns : SMap.has s.nvme.ns nsid = true) (hroom : s.nvme.ns.length + s.pendingNs.length < 16384) :
    Runs (.snapshotClone tag id nsid) s fun t =>
      s.recorded t (.snapClone id nsid s.newNsid) ∧ s.ctrlAnswered t tag 0 (le 4 s.newNsid) := by
  refine runs_of_ctrlReady (execSnapshotClone tag id nsid) h ?_
  simp only [hx, hv, List.contains_iff_mem.mpr hn, he, hns, Nat.not_le.mpr hroom, Bool.not_false, Bool.not_true, Bool.true_and,
    decide_true, decide_false, Bool.or_false, Bool.false_eq_true, if_false]
  exact s.record_ctrlDone _ tag _

theorem utcScheduleEdit_adds {s : State} {tag : Byte} {e : UtcSched} (h : s.ctrlReady = true)
    (hnew : SMap.has s.head.md.scheds e.snapId = false) (hp : 0 < e.periodS) (hc : 0 < e.count) (hid : e.snapId + e.count ≤ 1048576)
    (h1 : 1 ≤ e.nsids.length) (h2 : e.nsids.length ≤ 1024) :
    Runs (.utcScheduleEdit tag true e) s fun t => s.recorded t (.schedAdd e) ∧ s.ctrlAnswered t tag 0 [] := by
  refine runs_of_ctrlReady (execUtcScheduleEdit tag true e) h ?_
  simp only [hnew, beq_false_of_ne hp.ne', beq_false_of_ne hc.ne', hid, h1, h2, and_self, decide_true, Bool.not_true, Bool.or_false,
    Bool.false_eq_true, if_true, if_false]
  exact s.record_ctrlDone _ tag []

theorem utcScheduleEdit_removes {s : State} {tag : Byte} {e : UtcSched} (h : s.ctrlReady = true)
    (hthere : SMap.has s.head.md.scheds e.snapId = true) :
    Runs (.utcScheduleEdit tag false e) s fun t => s.recorded t (.schedRemove e.snapId) ∧ s.ctrlAnswered t tag 0 [] := by
  refine runs_of_ctrlReady (execUtcScheduleEdit tag false e) h ?_
  simp only [hthere, Bool.false_eq_true, if_true, if_false]
  exact s.record_ctrlDone _ tag []

theorem plannedShelfRestart_records {s : State} {tag : Byte} {site : Fin 64} (h : s.ctrlReady = true) (hs : site.val < s.nShelves)
    (ht : s.tolerates site = true) (hf : s.isFailed site = false) (ha : s.isAbsent site = false) :
    Runs (.plannedShelfRestart tag site) s fun t =>
      s.recorded t (.absent site) ∧ t.head.permits = s.head.permits ++ [(tag.toNat, site.val)] ∧ t.out = s.out := by
  refine runs_of_ctrlReady (execPlannedShelfRestart tag site) h ?_
  simp only [Nat.not_le.mpr hs, ht, hf, ha, Bool.not_true, Bool.or_false, Bool.false_eq_true, if_false]
  exact ⟨State.recorded_record { s with head := _ } _, State.record_permits _ _, State.record_out _ _⟩

theorem plannedShelfRestart_refused {s : State} {tag : Byte} {site : Fin 64} (h : s.ctrlReady = true) (hs : site.val < s.nShelves)
    (hno : s.tolerates site = false ∨ s.isFailed site = true ∨ s.isAbsent site = true) :
    Runs (.plannedShelfRestart tag site) s fun t =>
      t = { s with out := s.out ++ [.mgmt 0x0C tag.toNat 0 (some ST_BOOT_RESTART_REFUSED) []] } := by
  have hc : (!s.tolerates site || s.isFailed site || s.isAbsent site) = true := by
    obtain h | h | h := hno <;> simp [h]
  refine runs_of_ctrlReady (execPlannedShelfRestart tag site) h ?_
  simp only [Nat.not_le.mpr hs, hc, if_true, if_false]
  rfl

theorem barrierStart_begins {s : State} {tag : Byte} (h : s.ctrlReady = true) (hp : s.peerHeld = true) (hr : s.head.md.refolding = false)
    (hb : s.boot.barrier = none) :
    Runs (.barrierStart tag) s fun t => t = { s with
      boot := { s.boot with barrier := some ⟨s.epn + 1, 0, s.time.t, 0⟩ }, out := s.out ++ [.mgmt 0x0C tag.toNat 0 (some 0) []] } := by
  refine runs_of_ctrlReady (execBarrierStart tag) h ?_
  simp only [hp, hr, hb, Bool.not_false, and_self, if_true]
  rfl

theorem managerLeaseMove_records {s : State} {tag : Byte} (h : s.ctrlReady = true) (hp : s.seam.peerState = 0) :
    Runs (.managerLeaseMove tag) s fun t => s.recorded t (.leaseMove s.peerSite (s.epn + 3)) ∧ s.ctrlAnswered t tag 0 [] := by
  refine runs_of_ctrlReady (execManagerLeaseMove tag) h ?_
  simp only [hp, ne_eq, not_true, if_false]
  exact s.record_ctrlDone _ tag []

theorem managerLeaseMove_withoutPeer {s : State} {tag : Byte} (h : s.ctrlReady = true) (hp : s.seam.peerState ≠ 0) :
    Runs (.managerLeaseMove tag) s fun t =>
      t = { s with out := s.out ++ [.mgmt 0x0C tag.toNat 0 (some ST_SEAM_PEER_NOT_READY) []] } := by
  refine runs_of_ctrlReady (execManagerLeaseMove tag) h ?_
  simp only [hp, ne_eq, not_false_eq_true, if_true]
  rfl

theorem groupHandback_records {s : State} {tag : Byte} (h : s.ctrlReady = true) (hp : s.seam.peerState = 0)
    (hm : (s.stream s.peerSite).mine = true) (hh : (s.stream s.peerSite).handback = none) :
    Runs (.groupHandback tag) s fun t => s.recorded t (.handback s.peerSite (s.epn + 3)) ∧ s.ctrlAnswered t tag 0 [] := by
  have hManager : s.isManager = true := by simp only [State.ctrlReady, Bool.and_eq_true] at h; exact h.1
  refine runs_of_ctrlReady (execGroupHandback tag) h ?_
  simp only [hp, ne_eq, not_true, if_false, State.startHandback, hManager, hm, hh, Option.isNone_none, Bool.and_self, if_true]
  exact s.record_ctrlDone _ tag []

theorem groupHandback_otherHead {s : State} {tag : Byte} (hl : s.live = true) (ha : s.mgmtAccepts 0x0C = true) (hHead : s.isHead = true)
    (hm : s.isManager = false) :
    Runs (.groupHandback tag) s fun t =>
      t = { s with out := s.out ++ [.mgmt 0x0C tag.toNat 0 (some ST_SEAM_NOT_MANAGER) []] } := by
  refine ⟨_, ?_, rfl⟩
  change execGroupHandback tag s = _
  simp only [execGroupHandback, State.arrayCtrl, State.mgmtCmd, onlyIf, hl, ha, hHead, hm, Bool.not_true, Bool.not_false, Bool.false_eq_true, if_true, if_false]
  rfl

/-- At a shelf the answer is the same whether R560 or the role refuses. -/
theorem groupHandback_shelf {s : State} {tag : Byte} (hl : s.live = true) (hHead : s.isHead = false) :
    Runs (.groupHandback tag) s fun t => t = { s with out := s.out ++ [.mgmt 0x0C tag.toNat 3 none []] } := by
  refine ⟨_, ?_, rfl⟩
  change execGroupHandback tag s = _
  simp only [execGroupHandback, State.arrayCtrl, State.mgmtCmd, onlyIf, hl, hHead, Bool.not_false, if_true]
  split <;> rfl

/-- Settles O41: each clause is what its sub-command does at the manager (`runs_of_ctrlReady`), at another head, or at a shelf. -/
theorem arrayControlIsTheManagers : Obligations.ArrayControlIsTheManagers := by
  unfold Obligations.ArrayControlIsTheManagers
  exact ⟨fun _ _ _ _ _ h hok => snapshotDefine_records h hok,
    fun _ _ _ _ _ h h0 he => snapshotDefine_tooEarly h h0 he,
    fun _ _ _ _ h hx hv => snapshotDelete_records h hx hv,
    fun _ _ _ _ _ h hx hv hn he hns hroom => snapshotClone_records h hx hv hn he hns hroom,
    fun _ _ _ h hnew hp hc hid h1 h2 => utcScheduleEdit_adds h hnew hp hc hid h1 h2,
    fun _ _ _ h hthere => utcScheduleEdit_removes h hthere,
    fun _ _ _ h hs ht hf ha => plannedShelfRestart_records h hs ht hf ha,
    fun _ _ _ h hs hno => plannedShelfRestart_refused h hs hno,
    fun _ _ h hp hr hb => barrierStart_begins h hp hr hb,
    fun _ _ h hp => managerLeaseMove_records h hp,
    fun _ _ h hp => managerLeaseMove_withoutPeer h hp,
    fun _ _ h hp hm hh => groupHandback_records h hp hm hh,
    fun _ _ hl ha hHead hm => groupHandback_otherHead hl ha hHead hm,
    fun _ _ hl hHead => groupHandback_shelf hl hHead⟩

end Sys2Proof.Machine
end

section
/-! PROOFS. What a bad frame on a port in its HELLO exchange (R17, R416), a forwarded command (R26, R211), a sector reply of a member other
than the chunk's own (R358) and a notice in the queue of the read that raised it (R554, R556) do. Each refutes a statement that leaves its
case out. -/

namespace Sys2Proof.Machine

/-! ### Running a command on a state -/

/-- The state that a command leads to. -/
def State.after (s : State) (c : Instr) : State :=
  match exec c s with
  | .next t => t
  | .fault _ => s
  | .refused _ => s

/-- What `Runs` says holds of that state. -/
theorem Runs.after {c : Instr} {s : State} {p : State → Prop} (h : Runs c s p) : p (s.after c) := by
  obtain ⟨t, ht, hp⟩ := h
  simpa only [State.after, ht] using hp

/-- A head of site 0 in service, its power domains up, alone in the array and without host, stream or shelf. -/
def bareHead : State :=
  { State.reset with
    pins := { porN := true, sampled := true }
    boot := { stage := .ready }
    power := { pd := List.replicate 50 { state := 2 } } }

/-! ### A bad frame before the port is UP -/

/-- `bareHead` with port 0 trained and exchanging HELLO (R416). -/
def helloHead : State := { bareHead with port := (List.replicate 64 {}).set 0 { state := 2 } }

/-- The bad frame is counted and recorded, and nothing is sent: the port sends HELLO alone until its identity has passed. -/
theorem spokeFrameBad_helloHead_silent : (helloHead.after (.spokeFrameBad 0)).out = [] := by decide +kernel

/-- Where nothing has been sent, no frame was the first thing sent. -/
theorem State.not_sentFirst_of_silent {s t : State} {p : Nat} {f : Frame} (h : t.out = []) : ¬ s.sentFirst t p f := by
  rintro ⟨n, a, hp⟩
  simp [h] at hp

/-- Refutes O50 at its clause on SPOKE_FRAME_BAD, whose premise 2 ≤ state takes in a port that still exchanges HELLO: on `helloHead` the
NAK that the clause asks for is not sent. -/
theorem not_spokeLinksTrainAcknowledgeAndResend : ¬ Obligations.SpokeLinksTrainAcknowledgeAndResend := by
  unfold Obligations.SpokeLinksTrainAcknowledgeAndResend
  rintro ⟨-, -, -, -, -, -, -, -, -, -, -, hBad, -⟩
  obtain ⟨-, -, hNak⟩ := (hBad helloHead 0 (by decide) (by decide) (by decide) (by decide) (by decide) (by decide)).after
  exact State.not_sentFirst_of_silent spokeFrameBad_helloHead_silent hNak

/-! ### A forwarded command's place in the order of fetching -/

/-- `bareHead` sequencing stream 0, with one command fetched before. -/
def ownerHead : State := { bareHead with head := { fetchNo := 1, st0 := { mine := true } } }

/-- A Write Zeroes of one block of namespace 1, whose stream is stream 0. -/
def forwardedZeroes : Instr := .fwdCmd ⟨0x801, 1, 1⟩ (.writeZeroes 1 0 1 false) []

/-- It waits under the next number in the order of fetching (R211). -/
theorem forwardedZeroes_ownerHead_no : ((ownerHead.after forwardedZeroes).stream 0).waiting.map (·.no) = [1] := by decide +kernel

/-- Refutes O47 at its clause on FWD_CMD, which gives the waiting command the number 0 whatever was fetched before: on `ownerHead` it has
the number 1. -/
theorem not_sectionsOfThePeerAreTakenOrRefused : ¬ Obligations.SectionsOfThePeerAreTakenOrRefused := by
  unfold Obligations.SectionsOfThePeerAreTakenOrRefused
  rintro ⟨-, -, -, -, -, -, hForward, -⟩
  obtain ⟨hStream, -⟩ := (hForward ownerHead ⟨0x801, 1, 1⟩ (.writeZeroes 1 0 1 false) [] (by decide) (by decide +kernel)).after
  have hNo := forwardedZeroes_ownerHead_no.symm.trans (congrArg (fun st : StreamSt => st.waiting.map (·.no)) hStream)
  exact absurd hNo (by decide)

/-! ### Sectors of a member other than the chunk's own -/

/-- A chunk stored raw in strip 0 of stripe 5. -/
def rawChunk : ChunkRec :=
  { fp := [], domain := 0, raw := true, pending := false, imageLen := 64, granule := 0, strip := 0, stripeId := 5 }

/-- Its fetch, which waits for the sector of member 1, under request 9. -/
def otherMemberFetch : Fetch := { id := 1, chunk := rawChunk, recon := false, first := 0, count := 1, need := [(1, 9)], got := [] }

/-- Stripe 5: two data strips and one of parity, on shelves 0 to 2. -/
def threeStrips : StripeRec := { k := 2, m := 1, state := 2, openEpn := 0, sites := [0, 1, 2] }

/-- `bareHead` with that fetch under way on port 0, and no fingerprint checked on a read. -/
def fetchHead : State :=
  { bareHead with
    params := [⟨p_read_fp_verify_pct, 0, 1, [0]⟩]
    port := (List.replicate 64 {}).set 0 { state := 3, admitted := true }
    head := { fetches := [otherMemberFetch], md := { stripes := [(5, threeStrips)] } } }

/-- The header of the reply to request 9. -/
def replyHdr : FrameHdr := ⟨0, 0, 0, false, false, noTag, 0, 9⟩

/-- Without the check of step 7 a chunk stored raw decodes to its opened image. -/
theorem State.decodeImage_of_raw {s : State} {id : Nat} {c : ChunkRec} {img : Bytes} (hr : c.raw = true)
    (hp : s.p p_read_fp_verify_pct = 0) : (s.decodeImage id c img).1 = some (s.openImage c.domain id img) := by
  simp [State.decodeImage, State.plainOf, State.fpSample, hr, hp]

/-- One of the two members that the chunk takes is still wanted, so the fetch goes on with member 0. -/
theorem sectorReadReply_fetchHead_goesOn :
    (fetchHead.after (.sectorReadReply replyHdr 0 0 [zeros 4096])).head.fetches.map (·.need.map (·.1)) = [[0]] := by decide +kernel

/-- Refutes O48 at its clause on sectors that decode, which does not ask that the member read be the chunk's own: on `fetchHead` the
sector of member 1 alone does not end the fetch. -/
theorem not_readsAndRepairsCrossTheSeam : ¬ Obligations.ReadsAndRepairsCrossTheSeam := by
  unfold Obligations.ReadsAndRepairsCrossTheSeam
  rintro ⟨-, -, -, -, -, -, -, -, -, hDecode, -⟩
  obtain ⟨hDone, -⟩ := (hDecode fetchHead replyHdr [zeros 4096] otherMemberFetch 1 threeStrips _ (by decide) (by decide) rfl rfl rfl rfl rfl rfl
    rfl (State.decodeImage_of_raw rfl (by decide))).after
  have hGoesOn := sectorReadReply_fetchHead_goesOn
  rw [hDone] at hGoesOn
  exact absurd hGoesOn (by decide)

/-! ### A notice in the queue of the read that raised it -/

/-- A controller whose I/O queue completes into queue 0, of which one place is free, and with one Asynchronous Event Request. -/
def oneQueueCtrl : Ctrl :=
  { en := true, sqs := [(1, { size := 8, cqid := 0, tail := 1 })], cqs := [(0, { size := 2 })], aers := [⟨1, 0, 7⟩] }

/-- A namespace of eight blocks, attached to controller 1. -/
def eightBlocks : Ns := { nsze := 8, lbaf := 0, domain := 0, attached := [1] }

/-- `bareHead` with that controller and namespace, the event ring over 90 % full with its notice still due (R556), and an entry of the
open-epoch region that the search for chunk 0 hits falsely (R253). -/
def noticeHead : State :=
  { bareHead with
    nvme := { ctrls := [(1, oneQueueCtrl)], ns := [(1, eightBlocks)] }
    head := { st0 := { mine := true } }
    ev := { tracesStopped := true }
    cam := { regions := (List.replicate 16 {}).set 0 { count := 1, flags := 1, vmask := BitVec.allOnes 256 }
             ents := [(0, { full := 1, valid := true })] } }

/-- A read of the first block. -/
def readCmd : CmdId := ⟨1, 1, 1⟩
def readFirst : Instr := .nvmeRead readCmd 1 0 1 false 0 0 0 0

/-- Nothing is mapped: the block reads as zeros. -/
theorem noticeHead_readsZero : noticeHead.readsZero 1 0 1 eightBlocks = true := by
  have hParts : (noticeHead.partsOf 1 0 1 eightBlocks).2 = [(0, .have (zeros (noticeHead.nsChunk eightBlocks)) 0 0xFFFF)] := rfl
  simp [State.readsZero, hParts]

/-- The search alone sends the occupancy notice. -/
theorem partsOf_noticeHead_sends : (noticeHead.partsOf 1 0 1 eightBlocks).1.out.length = 1 := by decide +kernel

/-- So does the read: its own completion finds no place and is held (R232). -/
theorem readFirst_noticeHead_sends : (noticeHead.after readFirst).out.length = 1 := by decide +kernel

/-- Refutes O29 at its first clause, which has the completion leave after whatever the search reported: on `noticeHead` the search's notice
takes the last place of the completion queue. -/
theorem not_hostReadsAndFlushesAreAnswered : ¬ Obligations.HostReadsAndFlushesAreAnswered := by
  unfold Obligations.HostReadsAndFlushesAreAnswered
  rintro ⟨hRead, -⟩
  obtain ⟨hOut, -⟩ := (hRead noticeHead readCmd 1 0 1 eightBlocks false (by decide) rfl (by decide) rfl rfl (by decide) (by decide) (by decide)
    (by decide) rfl noticeHead_readsZero).after
  have hLen := congrArg List.length hOut
  rw [List.length_append, partsOf_noticeHead_sends] at hLen
  exact absurd (readFirst_noticeHead_sends.symm.trans hLen) (by decide)

end Sys2Proof.Machine
end

section
/-! PROOFS. Guarded commands, and what the operations of Machine/Time.lean write (R36, R63). -/

/- The proofs of this part are elaborated one after another: a further worker's stack would not fit under the limit of the check. -/
set_option deprecated.oldSectionVars true

namespace Sys2Proof.Machine

/-! ### Running a command that a condition guards -/

/-- A meaning `m` that asks for `b` runs where `b` holds. -/
theorem runs_onlyIf {c : Instr} {s : State} {b : Bool} {f : State → State} {p : State → Prop} (m : State → Res) (hb : b = true)
    (hm : m s = onlyIf b s f) (hc : exec c s = m s) (hp : p (f s)) : Runs c s p :=
  ⟨f s, (hc.trans hm).trans (congrArg Host.Outcome.next (if_pos hb)), hp⟩

/-- Elsewhere it changes nothing. -/
theorem runs_onlyIf_not {c : Instr} {s : State} {b : Bool} {f : State → State} {p : State → Prop} (m : State → Res) (hb : b = false)
    (hm : m s = onlyIf b s f) (hc : exec c s = m s) (hp : p s) : Runs c s p :=
  ⟨s, (hc.trans hm).trans (congrArg Host.Outcome.next (if_neg (Bool.eq_false_iff.mp hb))), hp⟩

/-! ### What the operations of Machine/Time.lean write -/

@[simp] theorem State.setQuality_time (s : State) (q : Quality) : (s.setQuality q).time = { s.time with quality := q } := by
  cases q with
  | locked => simp [State.setQuality]
  | holdover => rfl
  | freeRun =>
    simp only [State.setQuality]
    split <;> simp

@[simp] theorem State.enterTime_time (s : State) (st : TimeState) :
    (s.enterTime st).time = { s.time with state := st, skewPeer := s.time.skewPeer && st == TimeState.peer, followedUp := false } := by
  unfold State.enterTime
  dsimp only
  split <;> simp

@[simp] theorem State.startT_time (s : State) (t : Nat) (st : TimeState) :
    (s.startT t st).time = { s.time with
      t := t, tSet := true, state := st, skewPeer := s.time.skewPeer && st == TimeState.peer, followedUp := false } := by
  simp [State.startT]

/-- Raised alarms stand where only events are recorded. -/
theorem State.enterTime_raised {s : State} (st : TimeState) {c x : Nat} (h : s.raised c x) : (s.enterTime st).raised c x := by
  unfold State.enterTime State.raised
  dsimp only
  split
  · exact (State.event_isRaised _ _ _ _ _).trans h
  · exact h

/-- The quality moves AL_EPOCH_FREE_RUN alone (R63). -/
theorem State.setQuality_raised {s : State} (q : Quality) {c x : Nat} (hc : c ≠ AL_EPOCH_FREE_RUN) (h : s.raised c x) :
    (s.setQuality q).raised c x := by
  unfold State.setQuality State.raised
  cases q with
  | locked => exact State.clearAlarm_keeps _ _ _ _ _ (Or.inl hc) h
  | holdover => exact h
  | freeRun =>
    dsimp only
    split
    · exact h
    · exact State.alarm_keeps _ _ _ _ _ h

theorem State.timeMove_cases (s : State) : s.timeMove = s ∨ ∃ st, s.timeMove = s.enterTime st := by
  unfold State.timeMove
  (repeat' split) <;> simp

end Sys2Proof.Machine
end

section
/-! PROOFS. A head whose standing down is over in the window of the renewals (R52, R400, R404), the Rinse of stream 0 late where that of stream
1 has run (R54), and a heartbeat whose exchange comes out odd (R46). Each refutes a statement that leaves its case out. -/

/- The proofs of this part are elaborated one after another: a further worker's stack would not fit under the limit of the check. -/
set_option deprecated.oldSectionVars true

namespace Sys2Proof.Machine

/-! ### No renewal after standing down -/

/-- A head that has stood down renews nothing, and the window leaves it as it was. -/
theorem leaseRenewalWindow_outOfService {s : State} (h : s.stillServes = false) : Runs .leaseRenewalWindow s fun t => t = s :=
  ⟨s, by simp [exec, execLeaseRenewalWindow, onlyIf, h], rfl⟩

/-- `bareHead` at phase 0 with its standing down over: STATE is 3 (R404). -/
def stoodDownHead : State := { bareHead with time := { tSet := true }, seam := { own := 3 } }

/-- Refutes O21 at its clause on LEASE_RENEWAL_WINDOW, which asks only that the window is open: `stoodDownHead` renews no lease, so its T stays
at 0, before 1/8 of the epoch. -/
theorem not_windowsOpenInTheirEighths : ¬ Obligations.WindowsOpenInTheirEighths := by
  unfold Obligations.WindowsOpenInTheirEighths
  rintro ⟨-, hRenewal, -⟩
  obtain ⟨hT, -⟩ := (hRenewal stoodDownHead (by decide) (by decide)).after
  rw [(leaseRenewalWindow_outOfService (by decide)).after] at hT
  exact absurd hT (by decide)

/-! ### Phase 0 at a head -/

/-- At the boundary, once time has passed to it and the power meters are read (R36, R610, R628). -/
def State.atBoundary (s : State) (dw : Nat) (cons mw : List Nat) : State :=
  let s0 := (s.setT (max s.time.t (s.epochStart (s.epn + 1) - 1))).setT (s.epochStart (s.epn + 1))
  (State.domainPower { s0 with power := { s0.power with resuming := false } } mw).budgetStep dw cons

/-- What EPOCH_BOUNDARY does where array time is set (R52). -/
def State.turned (s : State) (late : List (Fin 8)) (dw : Nat) (cons mw : List Nat) (e : Option (Fin 16)) : State :=
  let s1 := s.atBoundary dw cons mw
  if !s1.fw then { s1 with time := { s1.time with ran := [] } }
  else
    let s2 := (s1.defer late).partBoundary
    if s2.isShelf then s2.shelfBoundary
    else
      let s3 := s2.headBoundary (s.epn + 1) e
      if s1.seam.standing && !s3.seam.standing && s3.seam.thenRestart then s3.restart 4 else s3

/-- At a head that is not standing down. -/
theorem State.turned_head {s : State} (late : List (Fin 8)) {dw : Nat} {cons mw : List Nat} (e : Option (Fin 16))
    (hf : (s.atBoundary dw cons mw).fw = true) (hr : ((s.atBoundary dw cons mw).defer late).partBoundary.isShelf = false)
    (hs : (s.atBoundary dw cons mw).seam.standing = false) :
    s.turned late dw cons mw e = ((s.atBoundary dw cons mw).defer late).partBoundary.headBoundary (s.epn + 1) e := by
  simp only [State.turned, hf, hr, hs, Bool.not_true, Bool.false_eq_true, if_false, Bool.false_and]

theorem epochBoundary_turns {s : State} (late : List (Fin 8)) (dw : Nat) (cons mw : List Nat) (e : Option (Fin 16)) (hl : s.live = true)
    (ht : s.time.tSet = true) : Runs (.epochBoundary late dw cons mw e) s fun t => t = s.turned late dw cons mw e :=
  runs_onlyIf (b := s.live && s.time.tSet) (execEpochBoundary late dw cons mw e) (by simp [hl, ht]) rfl rfl rfl

/-! A rebase alone touches the time state in what follows, and not what is deferred. -/

theorem State.rebase_deferred (s : State) : s.rebase.time.deferred = s.time.deferred := by
  unfold State.rebase
  split
  · rfl
  · rw [State.startStreams_stays.same_time rfl, State.ckptEpoch_stays.same_time rfl]

theorem State.becomeManager_deferred (s : State) : s.becomeManager.time.deferred = s.time.deferred := by
  have h1 := (State.rebase_deferred _).trans
    (congrArg TimeSt.deferred (State.failSilent_stays (s := { s with seam := { s.seam with manager := true } }).same_time rfl))
  unfold State.becomeManager
  split
  · rfl
  · dsimp only
    split
    · exact (congrArg TimeSt.deferred (State.dropCollection_stays.same_time rfl)).trans h1
    · refine (congrArg TimeSt.deferred (Stays.same_time (m := { port := true, head := true, out := true }) (foldl_stays fun a i => ?_) rfl)).trans h1
      exact State.request_stays

theorem State.leaseMoves_deferred (s : State) (x : Nat) : (s.leaseMoves x).time.deferred = s.time.deferred := by
  unfold State.leaseMoves
  split
  · rfl
  · split
    · rfl
    · split
      · rw [State.event_time, State.becomeManager_deferred]
      · split
        · rw [State.event_time]
          exact congrArg TimeSt.deferred (State.dropCollection_stays.same_time rfl)
        · rfl

theorem State.sealBoundary_deferred (s : State) (x : Nat) : (s.sealBoundary x).time.deferred = s.time.deferred := by
  have hb : ∀ r : State, (if r.seamOn then r.hbBoundary (x - 1) else r).time = r.time := fun r => by
    split
    · exact State.hbBoundary_stays.same_time rfl
    · rfl
  simp only [State.sealBoundary]
  rw [State.finishStanding_stays.same_time rfl, State.handbackDone_stays.same_time rfl, State.handbackDone_stays.same_time rfl,
    State.leaseMoves_deferred, State.handbackAt_stays.same_time rfl, State.handbackAt_stays.same_time rfl, State.countWaits_stays.same_time rfl,
    State.applyReady_stays.same_time rfl, State.sealStream_stays.same_time rfl, State.sealStream_stays.same_time rfl, hb]

theorem State.headBoundary_deferred (s : State) (x : Nat) (e : Option (Fin 16)) : (s.headBoundary x e).time.deferred = s.time.deferred := by
  simp only [State.headBoundary]
  rw [State.noteEpoch_stays.same_time rfl, State.hostBoundary_stays.same_time rfl, State.dataBoundary_stays.same_time rfl,
    State.sealBoundary_deferred, State.sendMarks_stays.same_time rfl, State.seamDrain_stays.same_time rfl, State.noteCut_stays.same_time rfl,
    State.noteQuality_stays.same_time rfl]

/-- What is deferred is fixed before the parts of phase 0. -/
theorem State.turned_head_deferred {s : State} (late : List (Fin 8)) {dw : Nat} {cons mw : List Nat} (e : Option (Fin 16))
    (hf : (s.atBoundary dw cons mw).fw = true) (hr : ((s.atBoundary dw cons mw).defer late).partBoundary.isShelf = false)
    (hs : (s.atBoundary dw cons mw).seam.standing = false) :
    (s.turned late dw cons mw e).time.deferred = ((s.atBoundary dw cons mw).defer late).time.deferred := by
  rw [State.turned_head late e hf hr hs, State.headBoundary_deferred, State.partBoundary_stays.same_time rfl]

/-! ### A Rinse that is late while the other has run -/

/-- `bareHead` at the last tick of an epoch in which the Rinse slice of stream 1, activity 12, has run. -/
def rinsedHead : State := { bareHead with time := { t := 1999, tSet := true, ran := [12] } }

/-- Refutes O20 at its first clause, which looks for activity 4 alone among those that have run: on `rinsedHead` the Rinse of stream 0 is late,
and the boundary defers nothing, because that of stream 1 has run. -/
theorem not_theEpochTurnsAtItsBoundary : ¬ Obligations.TheEpochTurnsAtItsBoundary := by
  unfold Obligations.TheEpochTurnsAtItsBoundary
  rintro ⟨hBoundary, -⟩
  obtain ⟨-, hDeferred, -⟩ := (hBoundary rinsedHead [4] 0 [] [] none (by decide) rfl rfl).after
  rw [(epochBoundary_turns [4] 0 [] [] none (by decide) rfl).after,
    State.turned_head_deferred [4] none (by decide) (by decide) (by decide)] at hDeferred
  exact absurd hDeferred (by decide)

/-! ### Half a tick of skew -/

/-- `bareHead` LOCKED at T 0, its Seam up. -/
def lockedHead : State := { bareHead with time := { tSet := true, state := .locked }, seam := { linkUp := true } }

/-- A heartbeat of a peer that is one tick apart: t2 - t3 is 1, T - t1 is 0. -/
def oddHeartbeat : Heartbeat :=
  { t1 := 0, t2Echo := 1, t3Echo := 0, state := 0, timeState := .locked, manager := false, pathBHeard := false, sealed := 0, replayed0 := 0
    replayed1 := 0 }

/-- Half of the one tick is 5 ns. -/
theorem oddHeartbeat_lockedHead_skew : (lockedHead.after (.seamHeartbeat oddHeartbeat)).time.skewNs = 5 := by decide

/-- Refutes O46 at its clause on SEAM_HEARTBEAT, which halves in whole ticks before it turns them into ns: on `lockedHead` the skew of
`oddHeartbeat` is 5 ns, and the clause has 0. -/
theorem not_theSeamLinkAndTheHeartbeatPaths : ¬ Obligations.TheSeamLinkAndTheHeartbeatPaths := by
  unfold Obligations.TheSeamLinkAndTheHeartbeatPaths
  rintro ⟨-, -, -, -, -, -, -, hHeartbeat, -⟩
  obtain ⟨-, -, -, -, -, -, -, hSkew⟩ := (hHeartbeat lockedHead oddHeartbeat (by decide) rfl rfl (by decide)).after
  have hZero := hSkew (by decide)
  rw [oddHeartbeat_lockedHead_skew] at hZero
  exact absurd hZero (by decide)

end Sys2Proof.Machine
end

section
/-! PROOFS. What taking a frame leaves of a part, and what sending a frame leaves of its ports (R419, R423). -/

namespace Sys2Proof.Machine

/-! ### Ports -/

theorem State.portOf_setPort (s : State) (p : Nat) (v : SpokePort) (q : Nat) :
    (s.setPort p v).portOf q = if q = p ∧ p < s.port.length then v else s.portOf q := by
  simp only [State.portOf, State.setPort, List.getD_eq_getElem?_getD, List.getElem?_set]
  by_cases hq : p = q
  · subst hq
    by_cases hl : p < s.port.length <;> simp [hl]
  · simp [hq, Ne.symm hq]

/-- From `s` to `t` every port is up as before and keeps its measured delay. -/
def SamePorts (s t : State) : Prop := ∀ p, (t.portOf p).up = (s.portOf p).up ∧ (t.portOf p).delayNs = (s.portOf p).delayNs

theorem SamePorts.rfl {s : State} : SamePorts s s := fun _ => ⟨Eq.refl _, Eq.refl _⟩

theorem SamePorts.after {a b c : State} (h2 : SamePorts b c) (h1 : SamePorts a b) : SamePorts a c :=
  fun p => ⟨(h2 p).1.trans (h1 p).1, (h2 p).2.trans (h1 p).2⟩

theorem samePorts_of_port {s t : State} (h : t.port = s.port) : SamePorts s t := fun p => by simp [State.portOf, h]

theorem samePorts_foldl {α : Type} {g : State → α → State} {l : List α} {s : State} (h : ∀ a x, SamePorts a (g a x)) :
    SamePorts s (l.foldl g s) := by
  induction l generalizing s with
  | nil => exact SamePorts.rfl
  | cons x xs ih => exact ih.after (h s x)

theorem State.setPort_samePorts {s : State} {p : Nat} {v : SpokePort} (hu : v.up = (s.portOf p).up)
    (hd : v.delayNs = (s.portOf p).delayNs) : SamePorts s (s.setPort p v) := by
  intro q
  rw [State.portOf_setPort]
  split
  · rename_i hq
    rw [hq.1]
    exact ⟨hu, hd⟩
  · exact ⟨rfl, rfl⟩

theorem State.txFrame_samePorts (s : State) (p : Nat) (f : Frame) : SamePorts s (s.txFrame p f) := by
  have kept : (s.txFrame p f).port = (s.setPort p _).port := State.putFrame_stays.same_port rfl
  exact (samePorts_of_port kept).after (State.setPort_samePorts rfl rfl)

theorem SamePorts.portsUp {s t : State} (h : SamePorts s t) : t.portsUp = s.portsUp := by
  simp only [State.portsUp, (h _).1]

/-! ### Sending -/

theorem State.not_barred {s : State} (h : s.isHead = false) : s.barred = false := by simp [State.barred, h]

theorem State.isHead_of_isShelf {s : State} (h : s.isShelf = true) : s.isHead = false := by
  simp only [State.isShelf, Bool.and_eq_true, beq_iff_eq] at h
  simp [State.isHead, h.2]

theorem State.txFrame_out {s : State} (p : Nat) (f : Frame) (h : s.isHead = false) :
    (s.txFrame p f).out = s.out ++ [Out.frame p (s.portOf p).txLsn (s.portOf p).rxLsn f] := by
  have hb : ∀ v, (s.setPort p v).barred = false := fun _ => State.not_barred h
  simp only [State.txFrame, State.putFrame, hb, Bool.false_eq_true, if_false]
  rfl

theorem State.txFrame_sentFirst {s v : State} (p : Nat) (f : Frame) (hv : v.isHead = false) (ho : v.out = s.out) :
    s.sentFirst (v.txFrame p f) p f :=
  ⟨_, _, by rw [State.txFrame_out p f hv, ho]⟩

theorem State.replyTo_frameSent {v : State} (p : Nat) (tag : Tag) (reqId op status result : Nat) (b : ReplyBody) (hv : v.isHead = false) :
    (v.replyTo p tag reqId op status result b).frameSent p ⟨tag, false, false, 0, reqId, .reply op status result b⟩ :=
  ⟨_, _, by rw [State.replyTo, State.txFrame_out p _ hv]; exact List.mem_append_right _ (List.mem_singleton.mpr rfl)⟩

/-! ### Taking a frame -/

/-- The state in which the meaning of a frame that is next in order runs: its acknowledgement is counted and it is taken (R423). -/
def State.taken (s : State) (h : FrameHdr) : State :=
  (s.linkAcked h.port h.ackLsn).setPort h.port
    { (s.linkAcked h.port h.ackLsn).portOf h.port with rxLsn := ((s.linkAcked h.port h.ackLsn).portOf h.port).rxLsn + 1 }

theorem State.linkAcked_port (s : State) (p lsn : Nat) : ∃ v : SpokePort, v.up = (s.portOf p).up ∧ v.delayNs = (s.portOf p).delayNs ∧
    v.rxLsn = (s.portOf p).rxLsn ∧ (s.linkAcked p lsn).port = (s.setPort p v).port := by
  refine ⟨_, ?_, ?_, ?_, Stays.same_port (m := { ring := true }) (foldl_stays fun a x => ?_) rfl⟩
  · rfl
  · rfl
  · rfl
  · split
    · exact State.endJob_stays
    · exact Stays.rfl

theorem State.linkAcked_samePorts (s : State) (p lsn : Nat) : SamePorts s (s.linkAcked p lsn) := by
  obtain ⟨v, hu, hd, -, hp⟩ := s.linkAcked_port p lsn
  exact (samePorts_of_port hp).after (State.setPort_samePorts hu hd)

theorem State.linkAcked_rxLsn (s : State) (p lsn : Nat) : ((s.linkAcked p lsn).portOf p).rxLsn = (s.portOf p).rxLsn := by
  obtain ⟨v, -, -, hr, hp⟩ := s.linkAcked_port p lsn
  have hq : (s.linkAcked p lsn).portOf p = (s.setPort p v).portOf p := congrArg (·.getD p {}) hp
  rw [hq, State.portOf_setPort]
  split
  · exact hr
  · rfl

theorem State.taken_samePorts (s : State) (h : FrameHdr) : SamePorts s (s.taken h) :=
  SamePorts.after (by exact State.setPort_samePorts rfl rfl) (s.linkAcked_samePorts h.port h.ackLsn)

theorem State.taken_stays {s : State} {h : FrameHdr} : Stays { ring := true, port := true } s (s.taken h) :=
  (State.setPort_stays.up rfl).after State.linkAcked_stays

/-- Only rings and ports may differ. -/
theorem State.taken_eq (s : State) (h : FrameHdr) :
    s.taken h = { s with ring := (s.taken h).ring, port := (s.taken h).port } := State.taken_stays.frame.symm

theorem onFrame_of_frameIn {s : State} {h : FrameHdr} (f : State → State) (hin : s.frameIn h = true) :
    onFrame h s f = .next (f (s.taken h)) := by
  simp only [State.frameIn, Bool.and_eq_true, beq_iff_eq] at hin
  obtain ⟨⟨⟨hFw, hThere⟩, hUp⟩, hLsn⟩ := hin
  have hNext : h.lsn = ((s.linkAcked h.port h.ackLsn).portOf h.port).rxLsn := hLsn.trans (s.linkAcked_rxLsn _ _).symm
  simp only [onFrame, onlyIf, hFw, hThere, hUp, Bool.and_self, if_true]
  rw [if_pos hNext]
  rfl

/-- A meaning `m` of a frame runs where the frame is taken. -/
theorem runs_onFrame {c : Instr} {s : State} {h : FrameHdr} {f : State → State} {p : State → Prop} (m : State → Res)
    (hin : s.frameIn h = true) (hm : m s = onFrame h s f) (hc : exec c s = m s) (hp : p (f (s.taken h))) : Runs c s p :=
  ⟨_, (hc.trans hm).trans (onFrame_of_frameIn f hin), hp⟩

theorem runs_onShelf {c : Instr} {s : State} {h : FrameHdr} {f : State → State} {p : State → Prop} (m : State → Res)
    (ht : s.shelfTakes h = true) (hm : m s = onShelf h s f) (hc : exec c s = m s) (hp : p (f (s.taken h))) : Runs c s p := by
  simp only [State.shelfTakes, State.shelfHears, Bool.and_eq_true] at ht
  obtain ⟨⟨⟨hShelf, hStage⟩, hin⟩, hFit⟩ := ht
  refine runs_onFrame m hin (hm.trans ?_) hc hp
  simp [onShelf, onShelf0, hShelf, hStage, hFit]

@[simp] theorem State.taken_pins (s : State) (h : FrameHdr) : (s.taken h).pins = s.pins := State.taken_stays.same_pins rfl
@[simp] theorem State.taken_params (s : State) (h : FrameHdr) : (s.taken h).params = s.params := State.taken_stays.same_params rfl
@[simp] theorem State.taken_time (s : State) (h : FrameHdr) : (s.taken h).time = s.time := State.taken_stays.same_time rfl
@[simp] theorem State.taken_ev (s : State) (h : FrameHdr) : (s.taken h).ev = s.ev := State.taken_stays.same_ev rfl
@[simp] theorem State.taken_seam (s : State) (h : FrameHdr) : (s.taken h).seam = s.seam := State.taken_stays.same_seam rfl
@[simp] theorem State.taken_sh (s : State) (h : FrameHdr) : (s.taken h).sh = s.sh := State.taken_stays.same_sh rfl
@[simp] theorem State.taken_keep (s : State) (h : FrameHdr) : (s.taken h).keep = s.keep := State.taken_stays.same_keep rfl
@[simp] theorem State.taken_out (s : State) (h : FrameHdr) : (s.taken h).out = s.out := State.taken_stays.same_out rfl
@[simp] theorem State.taken_isHead (s : State) (h : FrameHdr) : (s.taken h).isHead = s.isHead := by rw [s.taken_eq]; rfl
@[simp] theorem State.taken_p (s : State) (h : FrameHdr) (id : Nat) : (s.taken h).p id = s.p id := by rw [s.taken_eq]; rfl
@[simp] theorem State.taken_epn (s : State) (h : FrameHdr) : (s.taken h).epn = s.epn := by rw [s.taken_eq]; rfl
@[simp] theorem State.taken_epnAt (s : State) (h : FrameHdr) (t : Nat) : (s.taken h).epnAt t = s.epnAt t := by rw [s.taken_eq]; rfl
@[simp] theorem State.taken_notPast (s : State) (h : FrameHdr) (n : Nat) : (s.taken h).notPast n = s.notPast n := by rw [s.taken_eq]; rfl
@[simp] theorem State.taken_lease (s : State) (h : FrameHdr) : (s.taken h).lease = s.lease := by rw [s.taken_eq]; rfl
@[simp] theorem State.taken_leaseRefusal (s : State) (h : FrameHdr) (site : Nat) (q : LeaseReq) :
    (s.taken h).leaseRefusal site q = s.leaseRefusal site q := by rw [s.taken_eq]; rfl
@[simp] theorem State.taken_managerFree (s : State) (h : FrameHdr) : (s.taken h).managerFree = s.managerFree := by rw [s.taken_eq]; rfl
@[simp] theorem State.taken_portsUp (s : State) (h : FrameHdr) : (s.taken h).portsUp = s.portsUp := (s.taken_samePorts h).portsUp
@[simp] theorem State.taken_up (s : State) (h : FrameHdr) (p : Nat) : ((s.taken h).portOf p).up = (s.portOf p).up := (s.taken_samePorts h p).1
@[simp] theorem State.taken_delayNs (s : State) (h : FrameHdr) (p : Nat) : ((s.taken h).portOf p).delayNs = (s.portOf p).delayNs :=
  (s.taken_samePorts h p).2

end Sys2Proof.Machine
end

section
/-! PROOFS. How a head judges its own reference by edges of TIME_PPS and by Syncs (R33 to R35, R63). -/

namespace Sys2Proof.Machine

/-! ### What a re-evaluation of the time state leaves of the own reference -/

/-- From `s` to `t` the own reference is judged as before, array time is where it was, and an alarm of its loss still stands. -/
structure SameReference (s t : State) : Prop where
  refValid : t.time.refValid = s.time.refValid
  ppsGood : t.time.ppsGood = s.time.ppsGood
  syncGood : t.time.syncGood = s.time.syncGood
  refOff : t.time.refOff = s.time.refOff
  time : t.time.t = s.time.t
  lost : s.raised AL_EPOCH_REF_LOST 0 → t.raised AL_EPOCH_REF_LOST 0

theorem SameReference.after {a b c : State} (h2 : SameReference b c) (h1 : SameReference a b) : SameReference a c :=
  ⟨h2.refValid.trans h1.refValid, h2.ppsGood.trans h1.ppsGood, h2.syncGood.trans h1.syncGood, h2.refOff.trans h1.refOff,
    h2.time.trans h1.time, fun h => h2.lost (h1.lost h)⟩

theorem SameReference.rfl {s : State} : SameReference s s := ⟨Eq.refl _, Eq.refl _, Eq.refl _, Eq.refl _, Eq.refl _, id⟩

theorem State.slewFlag_sameReference (s : State) : SameReference s s.slewFlag := by
  unfold State.slewFlag
  split
  · exact ⟨rfl, rfl, rfl, rfl, rfl, id⟩
  · exact SameReference.rfl

theorem State.retarget_sameReference (s : State) (k : Nat) : SameReference s (s.retarget k) := by
  unfold State.retarget
  split
  · exact SameReference.rfl
  · exact ⟨rfl, rfl, rfl, rfl, rfl, id⟩

theorem State.timeMove_sameReference (s : State) : SameReference s s.timeMove := by
  obtain h | ⟨st, h⟩ := s.timeMove_cases
  · rw [h]
    exact SameReference.rfl
  · rw [h]
    exact ⟨by simp, by simp, by simp, by simp, by simp, State.enterTime_raised st⟩

theorem State.setQuality_sameReference (s : State) (q : Quality) : SameReference s (s.setQuality q) :=
  ⟨by simp, by simp, by simp, by simp, by simp, State.setQuality_raised q (by decide)⟩

theorem State.timeEval_sameReference (s : State) : SameReference s s.timeEval := by
  have noted : ∀ r : State, SameReference r r.noteFollowed := fun _ => ⟨rfl, rfl, rfl, rfl, rfl, id⟩
  exact (State.setQuality_sameReference _ _).after <| (noted _).after <| (State.retarget_sameReference _ _).after <|
    (State.timeMove_sameReference _).after s.slewFlag_sameReference

/-- A fault of the reference (R35) is reported, and leaves array time where it was. -/
theorem State.refFault_judged (s : State) :
    s.refFault.time.refValid = false ∧ s.refFault.time.t = s.time.t ∧ s.refFault.raised AL_EPOCH_REF_LOST 0 := by
  let s1 : State := { s with time := { s.time with refValid := false, ppsGood := 0, syncGood := 0, ppsOut := 0 } }
  have moved := s1.retarget_sameReference s.slewKind
  have eval := ((s1.retarget s.slewKind).alarm AL_EPOCH_REF_LOST 0).timeEval_sameReference
  refine ⟨?_, ?_, eval.lost (State.alarm_isRaised _ _ _)⟩
  · exact eval.refValid.trans ((congrArg TimeSt.refValid (State.alarm_time _ _ _)).trans moved.refValid)
  · exact eval.time.trans ((congrArg TimeSt.t (State.alarm_time _ _ _)).trans moved.time)

/-- A reference found good (R35). -/
theorem State.refGood_judged (s : State) (off : Int) :
    (s.refGood off).time.refValid = true ∧ (s.refGood off).time.ppsGood = s.time.ppsGood ∧ (s.refGood off).time.refOff = off ∧
      (s.refGood off).time.state = s.time.state := by
  simp only [State.refGood, State.clearAlarm_time, State.retarget]
  split <;> simp

/-! ### Edges of TIME_PPS -/

/-- The state in which an edge has been judged (R33, R35), before the time states are looked at again. -/
def State.edgeJudged (s : State) (err gap off : Int) (p : Nat) : State :=
  (if s.time.refValid && !within100 err then s else s.edgeSecond gap p).edgeValid err gap off

/-- What follows the judging of an edge leaves its outcome. -/
theorem timePpsEdge_runs {s : State} (err gap off : Int) (p : Nat) (h : s.headPps = true) :
    Runs (.timePpsEdge err gap off p) s fun t =>
      t.time.refValid = (s.edgeJudged err gap off p).time.refValid ∧ t.time.ppsGood = (s.edgeJudged err gap off p).time.ppsGood ∧
        ((s.edgeJudged err gap off p).raised AL_EPOCH_REF_LOST 0 → t.raised AL_EPOCH_REF_LOST 0) := by
  refine runs_onlyIf (execTimePpsEdge err gap off p) h rfl rfl ?_
  dsimp only
  unfold State.edgeJudged
  generalize (if s.time.refValid && !within100 err then s else s.edgeSecond gap p).edgeValid err gap off = j
  have kept := j.timeEval_sameReference
  split
  · split
    · rename_i n _ _ _
      have eval := (j.startT ((n - j.p p_time_origin_tai_s) * 100000000) .locked).timeEval_sameReference
      exact ⟨eval.refValid.trans (by simp), eval.ppsGood.trans (by simp), fun hl => eval.lost (State.enterTime_raised _ hl)⟩
    · exact ⟨kept.refValid, kept.ppsGood, kept.lost⟩
  · exact ⟨kept.refValid, kept.ppsGood, kept.lost⟩

theorem timePpsEdge_judged {s : State} {err gap off : Int} {p : Nat} {v : Bool} {n : Nat} (h : s.headPps = true)
    (hj : (s.edgeJudged err gap off p).time.refValid = v ∧ (s.edgeJudged err gap off p).time.ppsGood = n) :
    Runs (.timePpsEdge err gap off p) s fun t => t.time.refValid = v ∧ t.time.ppsGood = n := by
  obtain ⟨t, ht, hValid, hGood, -⟩ := timePpsEdge_runs err gap off p h
  exact ⟨t, ht, hValid.trans hj.1, hGood.trans hj.2⟩

/-- The second number is no part of the judgement. -/
theorem State.edgeSecond_judged (s : State) (gap : Int) (p : Nat) :
    (s.edgeSecond gap p).time.refValid = s.time.refValid ∧ (s.edgeSecond gap p).time.ppsGood = s.time.ppsGood := by
  unfold State.edgeSecond
  (repeat' split) <;> exact ⟨rfl, rfl⟩

theorem State.edgeJudged_third {s : State} {err gap off : Int} {p : Nat} (hv : s.time.refValid = false) (hg : within100 gap = true)
    (h2 : s.time.ppsGood = 2) :
    (s.edgeJudged err gap off p).time.refValid = true ∧ (s.edgeJudged err gap off p).time.ppsGood = 3 := by
  obtain ⟨hValid, hGood⟩ := s.edgeSecond_judged gap p
  simp only [State.edgeJudged, State.edgeValid, hv, hg, hValid, hGood, h2, Bool.false_and, Bool.false_eq_true, if_false, if_true]
  exact ⟨(State.refGood_judged _ _).1, (State.refGood_judged _ _).2.1⟩

theorem State.edgeJudged_good {s : State} {err gap off : Int} {p : Nat} (hv : s.time.refValid = false) (hg : within100 gap = true)
    (h2 : s.time.ppsGood < 2) :
    (s.edgeJudged err gap off p).time.refValid = false ∧ (s.edgeJudged err gap off p).time.ppsGood = s.time.ppsGood + 1 := by
  obtain ⟨hValid, hGood⟩ := s.edgeSecond_judged gap p
  simp [State.edgeJudged, State.edgeValid, hv, hg, hValid, hGood, h2.ne]

theorem State.edgeJudged_bad {s : State} {err gap off : Int} {p : Nat} (hv : s.time.refValid = false) (hg : within100 gap = false) :
    (s.edgeJudged err gap off p).time.refValid = false ∧ (s.edgeJudged err gap off p).time.ppsGood = 0 := by
  obtain ⟨hValid, hGood⟩ := s.edgeSecond_judged gap p
  simp [State.edgeJudged, State.edgeValid, hv, hg, hValid]

theorem State.edgeJudged_fault {s : State} {err gap off : Int} {p : Nat} (hv : s.time.refValid = true) (he : within100 err = false)
    (h2 : s.time.ppsOut = 2) : s.edgeJudged err gap off p = s.refFault := by
  simp [State.edgeJudged, State.edgeValid, hv, he, h2]

theorem timePpsEdge_faulty {s : State} {err gap off : Int} {p : Nat} (h : s.headPps = true) (hv : s.time.refValid = true)
    (he : within100 err = false) (h2 : s.time.ppsOut = 2) :
    Runs (.timePpsEdge err gap off p) s fun t => t.time.refValid = false ∧ t.raised AL_EPOCH_REF_LOST 0 := by
  obtain ⟨t, ht, hValid, -, hLost⟩ := timePpsEdge_runs err gap off p h
  obtain ⟨hFault, -, hAlarm⟩ := s.refFault_judged
  rw [State.edgeJudged_fault hv he h2] at hValid hLost
  exact ⟨t, ht, hValid.trans hFault, hLost hAlarm⟩

/-! ### Syncs -/

/-- The state in which a Sync has been judged (R35), before the time states are looked at again. -/
def State.syncJudged (s : State) (off : Int) (m : PtpSeen) : State :=
  if s.time.refValid then
    if 1000 < off.natAbs then s.refFault else { s with time := { s.time with refOff := off } }
  else if (if m.missed = 0 then s.time.syncGood else 0) = 2 then State.refGood { s with time := { s.time with syncGood := 3 } } off
  else { s with time := { s.time with syncGood := (if m.missed = 0 then s.time.syncGood else 0) + 1 } }

/-- A Sync with which array time does not start (R36) leaves what was judged. -/
theorem ptpSync_runs {s : State} {off : Int} {m : PtpSeen} (h : s.ptpMine m.port m.dom = true)
    (hj : (s.syncJudged off m).time.state ≠ TimeState.acquiring ∨ (s.syncJudged off m).time.refValid = false) :
    Runs (.ptpSync off m) s fun t => SameReference (s.syncJudged off m) t := by
  have hGoes : ¬ ((s.syncJudged off m).time.state = TimeState.acquiring ∧ (s.syncJudged off m).time.refValid = true ∧
      (s.syncJudged off m).boot.stage = .waitTime) := by
    rintro ⟨hState, hValid, -⟩
    obtain hj | hj := hj
    · exact hj hState
    · exact Bool.false_ne_true (hj.symm.trans hValid)
  refine runs_onlyIf (execPtpSync off m) h rfl rfl ?_
  exact (congrArg (SameReference _) (if_neg hGoes)).mpr (s.syncJudged off m).timeEval_sameReference

theorem State.syncJudged_faulty {s : State} {off : Int} {m : PtpSeen} (hv : s.time.refValid = true) (hOff : 1000 < off.natAbs) :
    s.syncJudged off m = s.refFault := by
  simp [State.syncJudged, hv, hOff]

theorem State.syncJudged_third {s : State} {off : Int} {m : PtpSeen} (hv : s.time.refValid = false) (h2 : s.time.syncGood = 2)
    (hm : m.missed = 0) : s.syncJudged off m = State.refGood { s with time := { s.time with syncGood := 3 } } off := by
  simp [State.syncJudged, hv, h2, hm]

theorem State.syncJudged_afterGap {s : State} {off : Int} {m : PtpSeen} (hv : s.time.refValid = false) (hm : m.missed ≠ 0) :
    s.syncJudged off m = { s with time := { s.time with syncGood := 1 } } := by
  simp [State.syncJudged, hv, hm]

theorem ptpSync_faulty {s : State} {off : Int} {m : PtpSeen} (h : s.ptpMine m.port m.dom = true) (hv : s.time.refValid = true)
    (hOff : 1000 < off.natAbs) : Runs (.ptpSync off m) s fun t => t.time.refValid = false ∧ t.raised AL_EPOCH_REF_LOST 0 := by
  obtain ⟨hFault, -, hLost⟩ := s.refFault_judged
  have hj := State.syncJudged_faulty (m := m) hv hOff
  obtain ⟨t, ht, kept⟩ := ptpSync_runs h (Or.inr (by rw [hj]; exact hFault))
  rw [hj] at kept
  exact ⟨t, ht, kept.refValid.trans hFault, kept.lost hLost⟩

theorem ptpSync_third {s : State} {off : Int} {m : PtpSeen} (h : s.ptpMine m.port m.dom = true) (hv : s.time.refValid = false)
    (h2 : s.time.syncGood = 2) (hm : m.missed = 0) (hs : s.time.state ≠ TimeState.acquiring) :
    Runs (.ptpSync off m) s fun t => t.time.refValid = true ∧ t.time.refOff = off := by
  obtain ⟨hValid, -, hOff, hState⟩ := State.refGood_judged { s with time := { s.time with syncGood := 3 } } off
  have hj := State.syncJudged_third (off := off) hv h2 hm
  obtain ⟨t, ht, kept⟩ := ptpSync_runs h (Or.inl (by rw [hj, hState]; exact hs))
  rw [hj] at kept
  exact ⟨t, ht, kept.refValid.trans hValid, kept.refOff.trans hOff⟩

theorem ptpSync_afterGap {s : State} {off : Int} {m : PtpSeen} (h : s.ptpMine m.port m.dom = true) (hv : s.time.refValid = false)
    (hm : m.missed ≠ 0) : Runs (.ptpSync off m) s fun t => t.time.refValid = false ∧ t.time.syncGood = 1 := by
  have hj := State.syncJudged_afterGap (off := off) hv hm
  obtain ⟨t, ht, kept⟩ := ptpSync_runs h (Or.inr (by rw [hj]; exact hv))
  rw [hj] at kept
  exact ⟨t, ht, kept.refValid.trans hv, kept.syncGood⟩

/-- Settles O14: an edge is judged as `State.edgeJudged` says, a Sync as `State.syncJudged`; the re-evaluation that follows keeps the outcome
(`State.timeEval_sameReference`). -/
theorem referenceIsJudgedByItsEdges : Obligations.ReferenceIsJudgedByItsEdges := by
  unfold Obligations.ReferenceIsJudgedByItsEdges
  exact ⟨fun _ _ _ _ _ h hv hg h2 => timePpsEdge_judged h (State.edgeJudged_third hv hg h2),
    fun _ _ _ _ _ h hv hg h2 => timePpsEdge_judged h (State.edgeJudged_good hv hg h2),
    fun _ _ _ _ _ h hv hg => timePpsEdge_judged h (State.edgeJudged_bad hv hg),
    fun _ _ _ _ _ h hv he h2 => timePpsEdge_faulty h hv he h2,
    fun s h => runs_onlyIf execTimeRefLoss h rfl rfl (State.refFault_judged { s with time := { s.time with refEdges := false } }),
    fun s h => runs_onlyIf execTimePpsTimeout h rfl rfl s.refFault_judged,
    fun _ _ _ h hv hOff => ptpSync_faulty h hv hOff,
    fun _ _ _ h hv h2 hm hs => ptpSync_third h hv h2 hm hs,
    fun _ _ _ h hv hm => ptpSync_afterGap h hv hm,
    fun _ off m h => runs_onlyIf_not (execPtpSync off m) h rfl rfl rfl,
    fun s h => runs_onlyIf execPtpSyncTimeout h rfl rfl s.refFault_judged⟩

end Sys2Proof.Machine
end

section
/-! PROOFS. The lease record of a shelf: renewals, claims and releases (R399 to R404, R432). -/

namespace Sys2Proof.Machine

/-! ### Answers -/

@[simp] theorem State.replyTo_keep (s : State) (p : Nat) (tag : Tag) (reqId op status result : Nat) (b : ReplyBody) :
    (s.replyTo p tag reqId op status result b).keep = s.keep := State.replyTo_stays.same_keep rfl
@[simp] theorem State.replyTo_sh (s : State) (p : Nat) (tag : Tag) (reqId op status result : Nat) (b : ReplyBody) :
    (s.replyTo p tag reqId op status result b).sh = s.sh := State.replyTo_stays.same_sh rfl
@[simp] theorem State.replyTo_params (s : State) (p : Nat) (tag : Tag) (reqId op status result : Nat) (b : ReplyBody) :
    (s.replyTo p tag reqId op status result b).params = s.params := State.replyTo_stays.same_params rfl

theorem State.isHead_congr {s t : State} (h : t.pins = s.pins) : t.isHead = s.isHead := by simp only [State.isHead, h]

theorem State.lease_congr {s t : State} (hk : t.keep = s.keep) (hp : t.params = s.params) : t.lease = s.lease := by
  simp only [State.lease, State.arrayId, hk, hp]

@[simp] theorem State.replyTo_lease (s : State) (p : Nat) (tag : Tag) (reqId op status result : Nat) (b : ReplyBody) :
    (s.replyTo p tag reqId op status result b).lease = s.lease := State.lease_congr (by simp) (by simp)

theorem State.lease_of_keep {s : State} {r : LeaseRec} (h : s.keep.lease = some r) : s.lease = r := by simp only [State.lease, h]

theorem State.isHead_of_shelfTakes {s : State} {h : FrameHdr} (ht : s.shelfTakes h = true) : s.isHead = false := by
  simp only [State.shelfTakes, State.shelfHears, Bool.and_eq_true] at ht
  exact State.isHead_of_isShelf ht.1.1.1

/-- A shelf uses two ports (R16). -/
theorem State.port_lt_two {s : State} {h : FrameHdr} (ht : s.shelfTakes h = true) : h.port.val < 2 := by
  have hHead := State.isHead_of_shelfTakes ht
  simp only [State.shelfTakes, State.shelfHears, State.frameIn, State.portThere, hHead, Bool.and_eq_true, Bool.false_eq_true, if_false,
    decide_eq_true_eq] at ht
  exact ht.1.2.1.1.2.2

/-- The answer to a frame that a shelf takes is the first thing sent where nothing was sent before it. -/
theorem State.replyTo_repliedFirst {s v : State} {h : FrameHdr} (ht : s.shelfTakes h = true) (hp : v.pins = s.pins) (ho : v.out = s.out)
    (op status result : Nat) (b : ReplyBody) : s.repliedFirst (v.replyTo h.port h.tag h.reqId op status result b) h op status result b :=
  State.txFrame_sentFirst _ _ ((State.isHead_congr hp).trans (State.isHead_of_shelfTakes ht)) ho

theorem State.replyTo_repliedAmong {s v : State} {h : FrameHdr} (ht : s.shelfTakes h = true) (hp : v.pins = s.pins) (op status result : Nat)
    (b : ReplyBody) : (v.replyTo h.port h.tag h.reqId op status result b).repliedAmong h op status result b :=
  State.replyTo_frameSent _ _ _ _ _ _ _ ((State.isHead_congr hp).trans (State.isHead_of_shelfTakes ht))

/-! ### Renewals -/

@[simp] theorem leaseGrant_manager (r : LeaseRec) (site n : Nat) : (leaseGrant r site n).manager = r.manager := by
  unfold leaseGrant
  split <;> rfl

@[simp] theorem leaseGrant_highEpn (r : LeaseRec) (site n : Nat) : (leaseGrant r site n).highEpn = r.highEpn := by
  unfold leaseGrant
  split <;> rfl

theorem State.epn_congr {s t : State} (ht : t.time = s.time) (hp : t.params = s.params) : t.epn = s.epn := by
  simp only [State.epn, State.epnAt, State.epochLen, State.p, ht, hp]

@[simp] theorem State.setBaseBy_taken_epn (s : State) (h : FrameHdr) (site : Nat) (q : LeaseReq) :
    ((s.taken h).setBaseBy site q).epn = (s.setBaseBy site q).epn := by
  unfold State.setBaseBy
  rw [State.taken_lease]
  split
  · exact State.epn_congr (by simp) (by simp)
  · exact State.taken_epn s h

/-- The record that a granted renewal of the head at `site` leaves (R400, R410). -/
def State.renewedLease (s : State) (site : Nat) (q : LeaseReq) : LeaseRec :=
  let r := leaseGrant s.lease site ((s.setBaseBy site q).epn + s.p p_lease_term_epochs)
  let r1 := { r with highEpn := max r.highEpn q.epn }
  if r.manager = site then applySets q r1
  else if q.setManager ∧ q.siteArg = site ∧ s.managerFree then { r1 with manager := site } else r1

/-- What the record, and the base by which the shelf counts its epochs, are after a renewal. -/
def State.renewed (s : State) (site : Nat) (q : LeaseReq) : State :=
  if s.leaseRefusal site q ≠ 0 then s else (s.setBaseBy site q).putLease (s.renewedLease site q)

theorem execRenew_eq (s : State) (h : FrameHdr) (q : LeaseReq) :
    execRenew h q s = onShelf h s fun u => (u.renewed h.port q).replyTo h.port h.tag h.reqId 0x12 (u.leaseRefusal h.port q) 0
      (.lease (u.renewed h.port q).lease (u.renewed h.port q).portsUp) := rfl

@[simp] theorem State.renewedLease_taken (s : State) (h : FrameHdr) (site : Nat) (q : LeaseReq) :
    (s.taken h).renewedLease site q = s.renewedLease site q := by
  simp only [State.renewedLease, State.taken_lease, State.setBaseBy_taken_epn, State.taken_p, State.taken_managerFree]

theorem renew_granted {s : State} {h : FrameHdr} {q : LeaseReq} (ht : s.shelfTakes h = true) (hr : s.leaseRefusal h.port q = 0) :
    Runs (.renew h q) s fun t =>
      t.keep = { s.keep with leaseOld := s.keep.lease, leaseNo := s.keep.leaseNo + 1, lease := some (s.renewedLease h.port q) } ∧
        s.repliedFirst t h 0x12 0 0 (.lease t.lease s.portsUp) := by
  have hRenewed : (s.taken h).renewed h.port q = ((s.taken h).setBaseBy h.port q).putLease (s.renewedLease h.port q) := by
    simp [State.renewed, hr]
  have stays : Stays { time := true, keep := true } (s.taken h) ((s.taken h).renewed h.port q) := by
    rw [hRenewed]
    exact (State.putLease_stays.up rfl).after (State.setBaseBy_stays.up rfl)
  have hKeep : ((s.taken h).setBaseBy h.port q).keep = s.keep := (State.setBaseBy_stays.same_keep rfl).trans (s.taken_keep h)
  refine runs_onShelf (execRenew h q) ht (execRenew_eq s h q) rfl ?_
  refine ⟨?_, ?_⟩
  · rw [State.replyTo_keep, hRenewed, State.putLease, hKeep]
  · rw [State.replyTo_lease, State.taken_leaseRefusal, hr, (samePorts_of_port (stays.same_port rfl)).portsUp, State.taken_portsUp]
    exact State.replyTo_repliedFirst ht ((stays.same_pins rfl).trans (s.taken_pins h)) ((stays.same_out rfl).trans (s.taken_out h)) _ _ _ _

theorem renew_refused {s : State} {h : FrameHdr} {q : LeaseReq} (ht : s.shelfTakes h = true) (hr : s.leaseRefusal h.port q ≠ 0) :
    Runs (.renew h q) s fun t =>
      t.keep = s.keep ∧ s.repliedFirst t h 0x12 (s.leaseRefusal h.port q) 0 (.lease s.lease s.portsUp) := by
  have hRenewed : (s.taken h).renewed h.port q = s.taken h := by simp [State.renewed, hr]
  refine runs_onShelf (execRenew h q) ht (execRenew_eq s h q) rfl ?_
  rw [hRenewed]
  exact ⟨by simp, by simpa using State.replyTo_repliedFirst ht (s.taken_pins h) (s.taken_out h) _ _ _ _⟩

/-! ### What a claim frees -/

theorem State.toHeads_samePorts (s : State) (op : FrameOp) : SamePorts s (s.toHeads op) := by
  refine samePorts_foldl fun a p => ?_
  split
  · exact a.txFrame_samePorts p _
  · exact SamePorts.rfl

/-- Freeing a tag (R451) takes every item of it out of the buffer, and leaves the lease record and the ports alone. -/
theorem State.plbFree_effect (s : State) (t : Tag) :
    (∀ i ∈ (s.plbFree t).sh.plb, i ∈ s.sh.plb ∧ i.tag ≠ t) ∧ (s.plbFree t).keep.lease = s.keep.lease ∧ SamePorts s (s.plbFree t) := by
  unfold State.plbFree
  split
  · rename_i hNone
    refine ⟨fun i hi => ⟨hi, fun ht => ?_⟩, rfl, SamePorts.rfl⟩
    have hNot := List.find?_eq_none.mp hNone i hi
    simp [ht] at hNot
  · refine ⟨fun i hi => ?_, ?_, ?_⟩
    · rw [State.toHeads_stays.same_sh rfl] at hi
      simpa [State.updKept] using hi
    · rw [State.toHeads_stays.same_keep rfl]
      rfl
    · exact (State.toHeads_samePorts _ _).after (samePorts_of_port rfl)

theorem State.plbFreeAll_effect (s : State) (ts : List Tag) :
    (∀ i ∈ (s.plbFreeAll ts).sh.plb, i ∈ s.sh.plb ∧ i.tag ∉ ts) ∧ (s.plbFreeAll ts).keep.lease = s.keep.lease ∧
      SamePorts s (s.plbFreeAll ts) := by
  induction ts generalizing s with
  | nil => exact ⟨fun i hi => ⟨hi, by simp⟩, rfl, SamePorts.rfl⟩
  | cons t ts ih =>
    obtain ⟨hPlb, hLease, hPorts⟩ := ih (s.plbFree t)
    obtain ⟨fPlb, fLease, fPorts⟩ := s.plbFree_effect t
    refine ⟨fun i hi => ?_, hLease.trans fLease, hPorts.after fPorts⟩
    obtain ⟨hIn, hNot⟩ := hPlb i hi
    exact ⟨(fPlb i hIn).1, by simpa [(fPlb i hIn).2] using hNot⟩

/-! ### Claims and releases -/

/-- The record that an accepted claim of `winner` against `lost` leaves (R401, R404). -/
def State.claimedLease (s : State) (winner lost : Nat) (q : LeaseReq) : LeaseRec :=
  let r := leaseGrant (leaseFence s.lease lost true) lost 0
  let r1 := if q.streamArg < 2 then leaseStream r q.streamArg winner (leaseClaimGen s.lease winner q) q.resumeSsn else r
  { r1 with leaseGen := q.leaseGen, owner0 := winner, owner1 := winner, manager := winner }

theorem State.claimLease_effect (s : State) (winner lost : Nat) (q : LeaseReq) :
    (s.claimLease winner lost q).keep.lease = some (s.claimedLease winner lost q) ∧ SamePorts s (s.claimLease winner lost q) ∧
      (q.streamArg < 2 → ∀ i ∈ (s.claimLease winner lost q).sh.plb,
        staleItem q.streamArg (leaseClaimGen s.lease winner q) q.resumeSsn i = false) ∧
      (2 ≤ q.streamArg → (s.claimLease winner lost q).sh.plb = s.sh.plb) := by
  by_cases hStream : q.streamArg < 2
  · simp only [State.claimLease, State.claimedLease, hStream, if_true]
    obtain ⟨hPlb, hLease, hPorts⟩ := State.plbFreeAll_effect _ _
    refine ⟨hLease, hPorts.after (samePorts_of_port rfl), fun _ i hi => ?_, fun h2 => absurd hStream (Nat.not_lt.mpr h2)⟩
    obtain ⟨hIn, hNot⟩ := hPlb i hi
    by_contra hStale
    exact hNot (List.mem_map_of_mem (List.mem_filter.mpr ⟨hIn, by simpa using hStale⟩))
  · simp only [State.claimLease, State.claimedLease, hStream, if_false]
    exact ⟨rfl, samePorts_of_port rfl, False.elim, fun _ => rfl⟩

/-- What a frame of the head at `port` that claims for `winner` against `lost` does before it is answered (R401, R404, R432). -/
def State.claimTaken (s : State) (port winner lost : Nat) (q : LeaseReq) : State :=
  if s.leaseRefusal port q ≠ 0 then s else s.claimLease winner lost q

theorem execClaim_eq (s : State) (h : FrameHdr) (q : LeaseReq) :
    execClaim h q s = onShelf h s fun u => (u.claimTaken h.port h.port q.siteArg q).replyTo h.port h.tag h.reqId 0x13 (u.leaseRefusal h.port q) 0
      (.claimed (u.claimTaken h.port h.port q.siteArg q).lease (u.claimTaken h.port h.port q.siteArg q).portsUp (grantOf u.lease q.siteArg)) := rfl

theorem execLeaseRelease_eq (s : State) (h : FrameHdr) (q : LeaseReq) :
    execLeaseRelease h q s = onShelf h s fun u =>
      (u.claimTaken h.port (1 - h.port.val) h.port q).replyTo h.port h.tag h.reqId 0x14 (u.leaseRefusal h.port q) 0
        (.lease (u.claimTaken h.port (1 - h.port.val) h.port q).lease (u.claimTaken h.port (1 - h.port.val) h.port q).portsUp) := rfl

theorem State.claimTaken_refused {s : State} {h : FrameHdr} {q : LeaseReq} (hr : s.leaseRefusal h.port q ≠ 0) (winner lost : Nat) :
    (s.taken h).claimTaken h.port winner lost q = s.taken h := by simp [State.claimTaken, hr]

theorem State.claimTaken_accepted {s : State} {h : FrameHdr} {q : LeaseReq} (hr : s.leaseRefusal h.port q = 0) (winner lost : Nat) :
    (s.taken h).claimTaken h.port winner lost q = (s.taken h).claimLease winner lost q := by simp [State.claimTaken, hr]

@[simp] theorem State.claimedLease_taken (s : State) (h : FrameHdr) (winner lost : Nat) (q : LeaseReq) :
    (s.taken h).claimedLease winner lost q = s.claimedLease winner lost q := by
  simp only [State.claimedLease, State.taken_lease]

/-- The shelf's standing after an accepted claim, and its view of its ports. -/
theorem State.claimLease_taken (s : State) (h : FrameHdr) (winner lost : Nat) (q : LeaseReq) :
    ((s.taken h).claimLease winner lost q).keep.lease = some (s.claimedLease winner lost q) ∧
      ((s.taken h).claimLease winner lost q).pins = s.pins ∧ ((s.taken h).claimLease winner lost q).portsUp = s.portsUp := by
  obtain ⟨hLease, hPorts, -⟩ := (s.taken h).claimLease_effect winner lost q
  rw [State.claimedLease_taken] at hLease
  exact ⟨hLease, (State.claimLease_stays.same_pins rfl).trans (s.taken_pins h), hPorts.portsUp.trans (s.taken_portsUp h)⟩

theorem claim_accepted {s : State} {h : FrameHdr} {q : LeaseReq} (ht : s.shelfTakes h = true) (hr : s.leaseRefusal h.port q = 0) :
    Runs (.claim h q) s fun t => t.keep.lease = some (s.claimedLease h.port q.siteArg q) ∧
      t.repliedAmong h 0x13 0 0 (.claimed t.lease s.portsUp (grantOf s.lease q.siteArg)) ∧
      (q.streamArg < 2 → ∀ i ∈ t.sh.plb, staleItem q.streamArg (leaseClaimGen s.lease h.port q) q.resumeSsn i = false) ∧
      (2 ≤ q.streamArg → t.sh.plb = s.sh.plb) := by
  obtain ⟨hLease, hPins, hPorts⟩ := s.claimLease_taken h h.port q.siteArg q
  obtain ⟨-, -, hStale, hKept⟩ := (s.taken h).claimLease_effect h.port q.siteArg q
  refine runs_onShelf (execClaim h q) ht (execClaim_eq s h q) rfl ?_
  rw [State.claimTaken_accepted hr, hPorts, State.taken_leaseRefusal, hr]
  refine ⟨by rw [State.replyTo_keep, hLease], ?_, ?_, ?_⟩
  · rw [State.replyTo_lease, State.taken_lease]
    exact State.replyTo_repliedAmong ht hPins _ _ _ _
  · rw [State.replyTo_sh]
    simpa using hStale
  · rw [State.replyTo_sh]
    simpa using hKept

theorem claim_refused {s : State} {h : FrameHdr} {q : LeaseReq} (ht : s.shelfTakes h = true) (hr : s.leaseRefusal h.port q ≠ 0) :
    Runs (.claim h q) s fun t => t.keep = s.keep ∧ t.sh = s.sh ∧
      s.repliedFirst t h 0x13 (s.leaseRefusal h.port q) 0 (.claimed s.lease s.portsUp (grantOf s.lease q.siteArg)) := by
  refine runs_onShelf (execClaim h q) ht (execClaim_eq s h q) rfl ?_
  rw [State.claimTaken_refused hr]
  exact ⟨by simp, by simp, by simpa using State.replyTo_repliedFirst ht (s.taken_pins h) (s.taken_out h) _ _ _ _⟩

@[simp] theorem leaseStream_fenced (r : LeaseRec) (stream owner gen resume : Nat) :
    (leaseStream r stream owner gen resume).fenced = r.fenced := by
  unfold leaseStream
  split <;> rfl

@[simp] theorem grantOf_leaseStream (r : LeaseRec) (stream owner gen resume site : Nat) :
    grantOf (leaseStream r stream owner gen resume) site = grantOf r site := by
  unfold leaseStream
  split <;> rfl

@[simp] theorem grantOf_leaseGrant_same (r : LeaseRec) (site n : Nat) : grantOf (leaseGrant r site n) site = n := by
  by_cases hSite : site = 0 <;> simp [grantOf, leaseGrant, hSite]

@[simp] theorem leaseGrant_fenced (r : LeaseRec) (site n : Nat) : (leaseGrant r site n).fenced = r.fenced := by
  unfold leaseGrant
  split <;> rfl

theorem leaseFenced_leaseFence {site : Nat} (r : LeaseRec) (h : site < 2) : leaseFenced (leaseFence r site true) site = true := by
  obtain rfl | rfl : site = 0 ∨ site = 1 := by omega
  · simp [leaseFenced, leaseFence]
  · simp [leaseFenced, leaseFence]

/-- The lost head is fenced and has no grant; the winner has both streams and the manager lease. -/
theorem State.claimedLease_lost {s : State} {winner lost : Nat} (q : LeaseReq) (h : lost < 2) :
    leaseFenced (s.claimedLease winner lost q) lost = true ∧ grantOf (s.claimedLease winner lost q) lost = 0 := by
  have hFenced : (s.claimedLease winner lost q).fenced = (leaseFence s.lease lost true).fenced := by
    simp only [State.claimedLease]
    split <;> simp
  refine ⟨by rw [leaseFenced, hFenced]; exact leaseFenced_leaseFence _ h, ?_⟩
  change grantOf (if q.streamArg < 2 then _ else _) lost = 0
  split <;> simp

theorem leaseRelease_accepted {s : State} {h : FrameHdr} {q : LeaseReq} (ht : s.shelfTakes h = true) (hr : s.leaseRefusal h.port q = 0) :
    Runs (.leaseRelease h q) s fun t => t.lease = s.claimedLease (1 - h.port.val) h.port q ∧
      t.repliedAmong h 0x14 0 0 (.lease t.lease s.portsUp) := by
  obtain ⟨hLease, hPins, hPorts⟩ := s.claimLease_taken h (1 - h.port.val) h.port q
  refine runs_onShelf (execLeaseRelease h q) ht (execLeaseRelease_eq s h q) rfl ?_
  rw [State.claimTaken_accepted hr, hPorts, State.taken_leaseRefusal, hr]
  refine ⟨by rw [State.replyTo_lease, State.lease_of_keep hLease], ?_⟩
  rw [State.replyTo_lease]
  exact State.replyTo_repliedAmong ht hPins _ _ _ _

theorem leaseRelease_refused {s : State} {h : FrameHdr} {q : LeaseReq} (ht : s.shelfTakes h = true) (hr : s.leaseRefusal h.port q ≠ 0) :
    Runs (.leaseRelease h q) s fun t => t.keep = s.keep ∧ t.sh = s.sh ∧
      s.repliedFirst t h 0x14 (s.leaseRefusal h.port q) 0 (.lease s.lease s.portsUp) := by
  refine runs_onShelf (execLeaseRelease h q) ht (execLeaseRelease_eq s h q) rfl ?_
  rw [State.claimTaken_refused hr]
  exact ⟨by simp, by simp, by simpa using State.replyTo_repliedFirst ht (s.taken_pins h) (s.taken_out h) _ _ _ _⟩

end Sys2Proof.Machine
end

section
/-! PROOFS. Epoch marks at a shelf (R49 to R51), relayed heartbeats (R397, R431), and O51. -/

namespace Sys2Proof.Machine

/-! ### Following a mark -/

@[simp] theorem State.follow_time (s : State) (off : Int) :
    (s.follow off).time = { s.time with followOff := off, slewing := off != 0 } := by
  unfold State.follow
  dsimp only
  split <;> simp

theorem State.eventArg_alarms (s : State) (c x : Nat) (arg : Bytes) : (s.eventArg c x arg).ev.alarms = s.ev.alarms :=
  (State.ringNotice_alarms _).trans (EvSt.event_alarms _ _ _ _ _ _ _)

/-- A first mark, or the first after a loss (R51, log 76): T steps forward to it, never back, and AL_EPOCH_MARK_LOSS is clear. -/
theorem State.followMark_restarts {s : State} (target : Nat) (q : Quality) (h : s.time.tSet = false ∨ s.time.state = TimeState.markLost) :
    (s.followMark target q).time.tSet = true ∧ (s.followMark target q).time.state = TimeState.markFollow ∧
      (s.followMark target q).time.markSrc = s.time.markSrc ∧ (s.followMark target q).time.quality = q ∧
      (s.followMark target q).time.t = max s.time.t target ∧ ¬ (s.followMark target q).raised AL_EPOCH_MARK_LOSS 0 := by
  have hRestart : (!s.time.tSet || s.time.state == .markLost) = true := by
    obtain h | h := h <;> simp [h]
  simp only [State.followMark, hRestart, if_true, State.raised, State.clearAlarm_isRaised, State.clearAlarm_time, Bool.false_eq_true,
    not_false_eq_true, and_true]
  split
  · rename_i hAhead
    simp [max_eq_right hAhead.le]
  · rename_i hAhead
    simp [max_eq_left (Nat.not_lt.mp hAhead)]

/-- A later mark leaves T where it is and gives the offset that is slewed away (R49). -/
theorem State.followMark_goesOn {s : State} (target : Nat) (q : Quality) (h : s.time.tSet = true) (hs : s.time.state ≠ TimeState.markLost) :
    (s.followMark target q).time = { s.time with
      state := .markFollow, tSet := true, quality := q, followOff := 10 * ((s.time.t : Int) - target),
      slewing := 10 * ((s.time.t : Int) - target) != 0 } := by
  have hGoesOn : (!s.time.tSet || s.time.state == .markLost) = false := by simp [h, hs]
  simp [State.followMark, hGoesOn]

/-! ### MARK -/

/-- T as a mark of `t` on a port gives it (R49). -/
def State.markT (s : State) (h : FrameHdr) (t : Nat) : Nat := t + (s.portOf h.port).delayNs / 10

/-- A shelf that has noted a mark of the head at `site` and takes that head for its source. -/
def State.sourced (s : State) (site : Nat) : State :=
  { s.markFrom site with time := { (s.markFrom site).time with markSrc := some site } }

/-- Ticks between two times. -/
def ticksApart (a b : Nat) : Nat := if a < b then b - a else a - b

/-- What a shelf does with a mark (R49 to R51). -/
def State.markTaken (s : State) (h : FrameHdr) (t quality : Nat) : State :=
  let s1 := s.markFrom h.port
  if !(s.time.tSet && s.time.state != .markLost) then
    ((s.sourced h.port).followMark (s.markT h t) (qualityFrom quality)).markFrom h.port
  else if s1.markSource = some h.port.val then (s.sourced h.port).followMark (s.markT h t) (qualityFrom quality)
  else if s1.p p_time_skew_max_ns < 10 * ticksApart (s.markT h t) s1.time.t then
    s1.event EV_EPOCH_MARK_SKEW (srcOf 10 h.port)
  else s1

theorem mark_runs {s : State} {h : FrameHdr} {t quality : Nat} {p : State → Prop} (n : Nat) (hs : s.isShelf = true) (hin : s.frameIn h = true)
    (hp : p ((s.taken h).markTaken h t quality)) : Runs (.mark h n t quality) s p := by
  have hm : execMark h n t quality s = onFrame h s fun u => u.markTaken h t quality := by
    simp only [execMark, hs, Bool.not_true, Bool.false_eq_true, if_false]
    rfl
  exact runs_onFrame (execMark h n t quality) hin hm rfl hp

@[simp] theorem State.taken_markT (s : State) (h : FrameHdr) (t : Nat) : (s.taken h).markT h t = s.markT h t := by simp [State.markT]

theorem State.markFrom_taken_time (s : State) (h : FrameHdr) (site : Nat) :
    ((s.taken h).markFrom site).time = (s.markFrom site).time := by simp [State.markFrom]

theorem State.markFrom_taken_markSource (s : State) (h : FrameHdr) (site : Nat) :
    ((s.taken h).markFrom site).markSource = (s.markFrom site).markSource := by rw [s.taken_eq]; rfl

theorem State.sourced_taken_time (s : State) (h : FrameHdr) :
    ((s.taken h).sourced h.port).time = { (s.markFrom h.port).time with markSrc := some h.port.val } := by
  simp only [State.sourced, State.markFrom_taken_time]

/-- The first mark, and the first after a loss. -/
theorem mark_first {s : State} {h : FrameHdr} {t quality : Nat} (n : Nat) (hs : s.isShelf = true) (hin : s.frameIn h = true)
    (hFirst : s.time.tSet = false ∨ s.time.state = TimeState.markLost) :
    Runs (.mark h n t quality) s fun u => u.time.tSet = true ∧ u.time.state = TimeState.markFollow ∧ u.time.markSrc = some h.port.val ∧
      u.time.quality = qualityFrom quality ∧ u.time.t = max s.time.t (s.markT h t) ∧ ¬ u.raised AL_EPOCH_MARK_LOSS 0 := by
  refine mark_runs n hs hin ?_
  have hRestart : (!(s.time.tSet && s.time.state != .markLost)) = true := by
    obtain hFirst | hFirst := hFirst <;> simp [hFirst]
  have hTime := s.sourced_taken_time h
  obtain ⟨hSet, hState, hSrc, hQuality, hT, hLoss⟩ := State.followMark_restarts (s := (s.taken h).sourced h.port) ((s.taken h).markT h t)
    (qualityFrom quality) (by simpa [hTime, State.markFrom] using hFirst)
  simp only [State.markTaken, State.taken_time, hRestart, if_true]
  refine ⟨hSet, hState, hSrc.trans ?_, hQuality, hT.trans ?_, hLoss⟩
  · rw [hTime]
  · rw [hTime, State.taken_markT]
    rfl

theorem mark_ofSource {s : State} {h : FrameHdr} {t quality : Nat} (n : Nat) (hs : s.isShelf = true) (hin : s.frameIn h = true)
    (hSet : s.time.tSet = true) (hState : s.time.state ≠ TimeState.markLost) (hSource : (s.markFrom h.port.val).markSource = some h.port.val) :
    Runs (.mark h n t quality) s fun u => u.time = { (s.markFrom h.port).time with
      markSrc := some h.port.val, state := .markFollow, tSet := true, quality := qualityFrom quality,
      followOff := 10 * ((s.time.t : Int) - s.markT h t), slewing := 10 * ((s.time.t : Int) - s.markT h t) != 0 } := by
  refine mark_runs n hs hin ?_
  have hGoesOn : (!(s.time.tSet && s.time.state != .markLost)) = false := by simp [hSet, hState]
  simp only [State.markTaken, State.taken_time, hGoesOn, Bool.false_eq_true, if_false, State.markFrom_taken_markSource, hSource, if_true]
  have hTime := s.sourced_taken_time h
  rw [State.followMark_goesOn _ _ (by rw [hTime]; exact hSet) (by rw [hTime]; exact hState), hTime, State.taken_markT]
  rfl

theorem mark_ofOther {s : State} {h : FrameHdr} {t quality : Nat} (n : Nat) (hs : s.isShelf = true) (hin : s.frameIn h = true)
    (hSet : s.time.tSet = true) (hState : s.time.state ≠ TimeState.markLost) (hSource : (s.markFrom h.port.val).markSource ≠ some h.port.val) :
    Runs (.mark h n t quality) s fun u => u.time = (s.markFrom h.port.val).time ∧ u.ev.alarms = s.ev.alarms := by
  refine mark_runs n hs hin ?_
  have hGoesOn : (!(s.time.tSet && s.time.state != .markLost)) = false := by simp [hSet, hState]
  simp only [State.markTaken, State.taken_time, hGoesOn, Bool.false_eq_true, if_false, State.markFrom_taken_markSource, hSource]
  split
  · exact ⟨(State.event_time _ _ _).trans (s.markFrom_taken_time h _),
      (State.eventArg_alarms _ _ _ _).trans (congrArg EvSt.alarms (s.taken_ev h))⟩
  · exact ⟨s.markFrom_taken_time h _, congrArg EvSt.alarms (s.taken_ev h)⟩

/-! ### Heartbeats of the peer -/

/-- From `s` to `t` what was heard of the peer is the same. -/
structure SameHeard (s t : State) : Prop where
  peerTime : t.seam.peerTime = s.seam.peerTime
  hbEpnA : t.seam.hbEpnA = s.seam.hbEpnA
  hbEpnB : t.seam.hbEpnB = s.seam.hbEpnB
  lastT1 : t.seam.lastT1 = s.seam.lastT1

theorem SameHeard.after {a b c : State} (h2 : SameHeard b c) (h1 : SameHeard a b) : SameHeard a c :=
  ⟨h2.peerTime.trans h1.peerTime, h2.hbEpnA.trans h1.hbEpnA, h2.hbEpnB.trans h1.hbEpnB, h2.lastT1.trans h1.lastT1⟩

theorem sameHeard_of_seam {s t : State} (h : t.seam = s.seam) : SameHeard s t := ⟨by rw [h], by rw [h], by rw [h], by rw [h]⟩

theorem sameHeard_foldl {α : Type} {g : State → α → State} {l : List α} {s : State} (h : ∀ a x, SameHeard a (g a x)) :
    SameHeard s (l.foldl g s) := by
  induction l generalizing s with
  | nil => exact sameHeard_of_seam rfl
  | cons x xs ih => exact ih.after (h s x)

theorem State.sendSeam_sameHeard (s : State) (stream epn : Nat) (b : SeamBody) : SameHeard s (s.sendSeam stream epn b) := by
  unfold State.sendSeam
  dsimp only
  split
  · exact ⟨rfl, rfl, rfl, rfl⟩
  · split
    · exact ⟨rfl, rfl, rfl, rfl⟩
    · exact sameHeard_of_seam rfl

theorem State.adminCheck_sameHeard (s : State) : SameHeard s s.adminCheck := by
  refine SameHeard.after (sameHeard_foldl fun a w => ?_) (sameHeard_of_seam (t := { s with nvme := _ }) rfl)
  split
  · exact a.sendSeam_sameHeard _ _ _
  · exact sameHeard_of_seam (a.post_seam _)

/-- What a heartbeat says of the peer on either path: its time state, and nothing of when it was heard. -/
theorem State.peerSays_heard (s : State) (b : Heartbeat) :
    (s.peerSays b).seam.peerTime = some b.timeState ∧ (s.peerSays b).seam.hbEpnA = s.seam.hbEpnA ∧
      (s.peerSays b).seam.hbEpnB = s.seam.hbEpnB ∧ (s.peerSays b).seam.lastT1 = s.seam.lastT1 := by
  unfold State.peerSays
  dsimp only
  split
  · obtain ⟨hTime, hA, hB, hT1⟩ := State.sendSeam_sameHeard _ _ _ _
    exact ⟨hTime, hA, hB, hT1⟩
  · exact ⟨rfl, rfl, rfl, rfl⟩

theorem State.epnAt_congr {s t : State} (ht : t.time = s.time) (hp : t.params = s.params) (x : Nat) : t.epnAt x = s.epnAt x := by
  simp only [State.epnAt, State.epochLen, State.p, ht, hp]

theorem State.pathBHeard_heard (s : State) (b : Heartbeat) :
    (s.pathBHeard b).seam.peerTime = some b.timeState ∧ (s.pathBHeard b).seam.hbEpnB = max s.seam.hbEpnB (s.epnAt b.t1 + 1) ∧
      (s.pathBHeard b).seam.hbEpnA = s.seam.hbEpnA ∧ (s.pathBHeard b).seam.lastT1 = s.seam.lastT1 := by
  obtain ⟨hTime, hA, hB, hT1⟩ := s.peerSays_heard b
  have hEpn : (s.peerSays b).epnAt b.t1 = s.epnAt b.t1 :=
    State.epnAt_congr (State.peerSays_stays.same_time rfl) (State.peerSays_stays.same_params rfl) _
  have rest : ∀ r : State, SameHeard r r.timeEval.adminCheck.anaUpdate := fun r =>
    (sameHeard_of_seam (State.anaUpdate_stays.same_seam rfl)).after
      (r.timeEval.adminCheck_sameHeard.after (sameHeard_of_seam (State.timeEval_stays.same_seam rfl)))
  obtain ⟨kTime, kA, kB, kT1⟩ := rest { s.peerSays b with seam :=
    { (s.peerSays b).seam with hbEpnB := max (s.peerSays b).seam.hbEpnB ((s.peerSays b).epnAt b.t1 + 1) } }
  exact ⟨kTime.trans hTime, kB.trans (by rw [hB, hEpn]), kA.trans hA, kT1.trans hT1⟩

/-! ### HB_RELAY -/

theorem hbRelay_heard {s : State} {h : FrameHdr} {origin : Fin 2} {b : Heartbeat} (hHead : s.isHead = true) (hin : s.frameIn h = true)
    (ho : origin.val = s.peerSite) :
    Runs (.hbRelay h origin b) s fun t => t.seam.peerTime = some b.timeState ∧ t.seam.hbEpnB = max s.seam.hbEpnB (s.epnAt b.t1 + 1) ∧
      t.seam.hbEpnA = s.seam.hbEpnA ∧ t.seam.lastT1 = s.seam.lastT1 := by
  have hPeer : origin.val = (s.taken h).peerSite := by rw [ho, State.peerSite, State.peerSite, s.taken_pins]
  refine runs_onFrame (execHbRelay h origin b) hin rfl rfl ?_
  simp only [State.taken_isHead, hHead, if_true]
  rw [if_pos hPeer]
  simpa using (s.taken h).pathBHeard_heard b

/-- The first of an origin in the first eighth of an epoch goes on to the other head (R52, R397, R431). -/
theorem hbRelay_relays {s : State} {h : FrameHdr} {b : Heartbeat} {origin : Fin 2} (hHead : s.isHead = false) (hin : s.frameIn h = true)
    (ho : origin.val = h.port.val) (hUp : (s.portOf (1 - h.port.val)).up = true) (hNone : SMap.get s.sh.relayed origin = none)
    (hPast : s.notPast 1 = true) :
    Runs (.hbRelay h origin b) s fun t =>
      s.sentFirst t (1 - h.port.val) (bareFrame (.hbRelay origin b)) ∧ SMap.get t.sh.relayed origin = some s.epn := by
  refine runs_onFrame (execHbRelay h origin b) hin rfl rfl ?_
  simp only [State.taken_isHead, hHead, Bool.false_eq_true, if_false, State.taken_up, State.taken_sh, State.taken_epn, State.taken_notPast]
  rw [if_pos ⟨ho, hUp, by simp [hNone], hPast⟩]
  refine ⟨State.txFrame_sentFirst _ _ ?_ (s.taken_out h), ?_⟩
  · exact (s.taken_isHead h).trans hHead
  · rw [State.txFrame_stays.same_sh rfl]
    exact SMap.get_set_same _ _ _

/-- A further one of the origin in the epoch, or one past the first eighth, goes no further. -/
theorem hbRelay_drops {s : State} {h : FrameHdr} {b : Heartbeat} {origin : Fin 2} (hHead : s.isHead = false) (hin : s.frameIn h = true)
    (hNot : (∃ e, SMap.get s.sh.relayed origin = some e ∧ s.epn ≤ e) ∨ s.notPast 1 = false) :
    Runs (.hbRelay h origin b) s fun t => t.out = s.out ∧ t.sh = s.sh := by
  refine runs_onFrame (execHbRelay h origin b) hin rfl rfl ?_
  simp only [State.taken_isHead, hHead, Bool.false_eq_true, if_false, State.taken_up, State.taken_sh, State.taken_epn, State.taken_notPast]
  rw [if_neg (by obtain ⟨e, hSome, hLater⟩ | hPast := hNot <;> simp [*])]
  exact ⟨s.taken_out h, s.taken_sh h⟩

/-! ### O51 -/

theorem Runs.imp {c : Instr} {s : State} {p q : State → Prop} (h : Runs c s p) (hpq : ∀ t, p t → q t) : Runs c s q := by
  obtain ⟨t, ht, hp⟩ := h
  exact ⟨t, ht, hpq t hp⟩

/-- Settles O51: the clauses on marks and relays from what a shelf or a head does with the frame, those on the lease record from
`State.renewedLease` and `State.claimedLease`. -/
theorem shelvesFollowMarksAndKeepTheLease : Obligations.ShelvesFollowMarksAndKeepTheLease := by
  unfold Obligations.ShelvesFollowMarksAndKeepTheLease
  refine ⟨fun s h n m quality hs hin hSet => mark_first n hs hin (Or.inl hSet),
    fun s h n m quality hs hin hSet hState hSource => (mark_ofSource n hs hin hSet hState hSource).imp fun t hTime => ?_,
    fun s h n m quality hs hin _ hLost => (mark_first n hs hin (Or.inr hLost)).imp fun t ⟨_, hState, hSrc, _, hT, hClear⟩ =>
      ⟨hState, hSrc, hT, hClear⟩,
    fun _ _ n _ _ hs hin hSet hState hSource => mark_ofOther n hs hin hSet hState hSource,
    fun _ _ _ _ hHead hin ho => hbRelay_heard hHead hin ho,
    fun _ _ _ _ hHead _ hin ho hUp hNone hPast _ => hbRelay_relays hHead hin ho hUp hNone hPast,
    fun _ _ _ _ e hHead _ hin hSome hLater => hbRelay_drops hHead hin (Or.inl ⟨e, hSome, hLater⟩),
    fun _ _ _ _ hHead _ hin hPast => hbRelay_drops hHead hin (Or.inr hPast),
    fun s h q r ht hr hRec => (renew_granted ht hr).imp fun t ⟨hKeep, hReply⟩ => ⟨?_, hReply⟩,
    fun _ _ _ ht hr => renew_refused ht hr,
    fun s h q ht hr hStream => (claim_accepted ht hr).imp fun t ⟨hLease, hReply, hStale, _⟩ => ⟨?_, hReply, hStale hStream⟩,
    fun s h q ht hr hStream => (claim_accepted ht hr).imp fun t ⟨hLease, hReply, _, hPlb⟩ => ⟨?_, hReply, hPlb hStream⟩,
    fun _ _ _ ht hr => claim_refused ht hr,
    fun s h q ht hr => (leaseRelease_accepted ht hr).imp fun t ⟨hLease, hReply⟩ => ?_,
    fun _ _ _ ht hr => leaseRelease_refused ht hr⟩
  · rw [hTime]
    exact ⟨rfl, rfl, rfl, rfl, rfl, rfl⟩
  · subst hRec
    simp only [hKeep, State.renewedLease, leaseGrant_manager, leaseGrant_highEpn]
  · simp only [hLease, State.claimedLease, hStream, if_true]
  · simp only [hLease, State.claimedLease, Nat.not_lt.mpr hStream, if_false]
  · obtain ⟨hFenced, hGrant⟩ := State.claimedLease_lost (s := s) (winner := 1 - h.port.val) q (State.port_lt_two ht)
    rw [hLease] at hReply ⊢
    exact ⟨hFenced, hGrant, rfl, rfl, rfl, rfl, hReply⟩

end Sys2Proof.Machine
end

section
/-! PROOFS. The OTP array: what it gains (R75, R88), and when its owner slots change (R75). -/

namespace Sys2Proof.Machine

/-- Settles O7: `exec_grows` says of every command that the array only gains. -/
theorem otpOnlyGains : Obligations.OtpOnlyGains := by
  unfold Obligations.OtpOnlyGains
  exact fun _ _ _ h => (exec_grows h).later

/-! ### The commands that leave the owner slots -/

theorem execPorNRelease_otp {roleSel : Fin 4} {siteId : Fin 64} {s t : State} (h : execPorNRelease roleSel siteId s = .next t) :
    t.otp = s.otp := by
  unfold execPorNRelease onlyIf at h
  cases h
  split
  · beta_reduce
    extract_lets s1 trip _ _ _ s2
    have hCold : s2.otp = s.otp := State.cold_stays.same_otp rfl
    split
    · exact (State.alarm_stays.same_otp rfl).trans hCold
    · exact hCold
  · rfl

/-- READY may raise the floor (R88), which is not of the slots. -/
theorem State.raiseFloor_owner (s : State) (vpp : Bool) : (s.raiseFloor vpp).otp.owner = s.otp.owner := by
  unfold State.raiseFloor
  extract_lets f s1
  split
  · split
    · rw [State.event_otp]
    · rw [State.alarm_otp]
  · rfl

theorem execBootReady_owner {fails : Fin 4} {vpp : Bool} {s t : State} (h : execBootReady fails vpp s = .next t) :
    t.otp.owner = s.otp.owner := by
  unfold execBootReady onlyIf at h
  cases h
  split
  · beta_reduce
    split
    · rw [State.commitFailed_stays.same_otp rfl]
    · extract_lets _ s0 s1 _ _ _ _ s2 s3 s4
      have hTrial : (if s0.boot.trial then s0.clearAlarm AL_BOOT_TRIAL_FAILED 0 else s0).otp = s.otp := by
        split
        · exact s0.clearAlarm_otp _ _
        · rfl
      have hReady : s2.otp = s.otp := by
        simp only [s2, s1, State.confirm_stays.same_otp rfl, State.ledgerCommit_stays.same_otp rfl, hTrial]
      have hFloor : s3.otp.owner = s.otp.owner := by
        simp only [s3, State.appendCollected_stays.same_otp rfl, State.raiseFloor_owner, State.event_otp,
          State.toStage_stays.same_otp rfl, State.endTest_stays.same_otp rfl, hReady]
      have hDown : s4.otp.owner = s.otp.owner := by
        unfold s4
        split
        · rw [State.alarm_otp, hFloor]
        · exact hFloor
      split
      · exact hDown
      · split
        · rw [State.enterService_stays.same_otp rfl, hDown]
        · simp only [State.timeEval_stays.same_otp rfl, State.anaUpdate_stays.same_otp rfl, State.askMissed_stays.same_otp rfl, hDown]
  · rfl

/-! ### The two commands that change the slots -/

/-- A management command does what its number asks, or leaves the array. -/
theorem State.mgmtCmd_otp {s t : State} {cmd tag : Nat} {f : State → State} (h : s.mgmtCmd cmd tag f = .next t) :
    t = f s ∨ t.otp = s.otp := by
  unfold State.mgmtCmd onlyIf at h
  cases h
  split
  · beta_reduce
    split
    · exact Or.inl rfl
    · exact Or.inr (State.respond_stays.same_otp rfl)
  · exact Or.inr rfl

/-- An action on the slots is refused outside recovery mode and without VPP_OTP. -/
theorem State.otpKey_refused {s : State} {tag slot : Nat} {vpp : Bool} {ok : OtpSlot → Bool} {f : OtpSlot → OtpSlot}
    (h : s.boot.stage ≠ .recoveryMode ∨ ¬ vpp) : (s.otpKey tag slot vpp ok f).otp = s.otp := by
  unfold State.otpKey
  rw [if_pos h]
  exact State.respond_stays.same_otp rfl

/-- What a change of the slots by an action on them says of the part. -/
theorem State.mgmtCmd_otpKey_owner {s t : State} {cmd tag tag' slot : Nat} {vpp : Bool} {ok : OtpSlot → Bool} {f : OtpSlot → OtpSlot}
    (h : (s.mgmtCmd cmd tag fun s => s.otpKey tag' slot vpp ok f) = .next t) (hNe : t.otp.owner ≠ s.otp.owner) :
    s.boot.stage = .recoveryMode ∧ vpp = true := by
  by_contra hNot
  have hOff : s.boot.stage ≠ .recoveryMode ∨ ¬ vpp := not_and_or.mp hNot
  obtain rfl | hSame := State.mgmtCmd_otp h
  · exact hNe (congrArg Otp.owner (State.otpKey_refused hOff))
  · exact hNe (congrArg Otp.owner hSame)

/-- Settles O8: a command that changes the slots is among the four of `special`; the release of POR_N and READY leave the slots, and the
other two answer for themselves. -/
theorem ownerSlotsChangeOnlyInRecoveryMode : Obligations.OwnerSlotsChangeOnlyInRecoveryMode := by
  unfold Obligations.OwnerSlotsChangeOnlyInRecoveryMode
  intro c s t h hNe
  cases hc : special c with
  | false =>
    have hStays := exec_keeps (by rintro r x rfl; cases hc) t h
    exact absurd (congrArg Otp.owner (hStays.same_otp (writes_otp hc))) hNe
  | true =>
    cases c with
    | porNRelease _ _ => exact absurd (congrArg Otp.owner (execPorNRelease_otp h)) hNe
    | bootReady _ _ => exact absurd (execBootReady_owner h) hNe
    | otpKeyProgram tag slot digest wrapKey _ =>
      obtain ⟨hStage, rfl⟩ := State.mgmtCmd_otpKey_owner h hNe
      exact ⟨hStage, Or.inl ⟨tag, slot, digest, wrapKey, rfl⟩⟩
    | otpKeyRevoke tag slot _ =>
      obtain ⟨hStage, rfl⟩ := State.mgmtCmd_otpKey_owner h hNe
      exact ⟨hStage, Or.inr ⟨tag, slot, rfl⟩⟩
    | _ => cases hc

end Sys2Proof.Machine
end

section
/-! PROOFS. The SPDM responder (R113, R114), NVMe-MI (R562) and JTAG (R563). -/

namespace Sys2Proof.Machine

/-! ### Pages of which some fields are given -/

@[simp] theorem le_length (n v : Nat) : (le n v).length = n := by
  induction n generalizing v with
  | zero => rfl
  | succ n ih => simp [le, ih]

/-- Fields that lie within a page leave its length. -/
theorem putFields_length {base : Bytes} {fields : List (Nat × Bytes)} (h : ∀ f ∈ fields, f.1 + f.2.length ≤ base.length) :
    (putFields base fields).length = base.length := by
  induction fields generalizing base with
  | nil => rfl
  | cons f fs ih =>
    have hf := h f (by simp)
    have hLen : (base.take f.1 ++ f.2 ++ base.drop (f.1 + f.2.length)).length = base.length := by
      simp only [List.length_append, List.length_take, List.length_drop]
      omega
    rw [← hLen]
    exact ih fun g hg => by rw [hLen]; exact h g (by simp [hg])

/-- A field written behind a run of bytes leaves them. -/
theorem sub_putField_before {base v : Bytes} {off n o : Nat} (h : off + n ≤ o) (ho : o ≤ base.length) :
    sub (base.take o ++ v ++ base.drop (o + v.length)) off n = sub base off n := by
  rw [List.append_assoc, sub, sub, List.drop_append_of_le_length (by simp; omega), List.take_append_of_le_length (by simp; omega),
    List.drop_take, List.take_take, min_eq_left (by omega)]

theorem sub_putField_same {base v : Bytes} {o : Nat} (ho : o ≤ base.length) :
    sub (base.take o ++ v ++ base.drop (o + v.length)) o v.length = v := by
  have hLen : (base.take o).length = o := by simp [ho]
  rw [List.append_assoc, sub, List.drop_left' hLen, List.take_left]

/-- Fields that come behind a run of bytes leave them. -/
theorem sub_putFields_before {base : Bytes} {fields : List (Nat × Bytes)} {off n : Nat}
    (h : ∀ f ∈ fields, off + n ≤ f.1 ∧ f.1 + f.2.length ≤ base.length) : sub (putFields base fields) off n = sub base off n := by
  induction fields generalizing base with
  | nil => rfl
  | cons f fs ih =>
    obtain ⟨hOff, hFit⟩ := h f (by simp)
    have hLen : (base.take f.1 ++ f.2 ++ base.drop (f.1 + f.2.length)).length = base.length := putFields_length (fields := [f]) (by simpa)
    refine (ih fun g hg => ?_).trans (sub_putField_before hOff (by omega))
    rw [hLen]
    exact h g (by simp [hg])

/-- What a field of a page reads where those given after it come behind it. -/
theorem sub_putFields_field {base v : Bytes} {o : Nat} {before after : List (Nat × Bytes)}
    (hBefore : ∀ f ∈ before, f.1 + f.2.length ≤ base.length) (hv : o + v.length ≤ base.length)
    (hAfter : ∀ f ∈ after, o + v.length ≤ f.1 ∧ f.1 + f.2.length ≤ base.length) :
    sub (putFields base (before ++ (o, v) :: after)) o v.length = v := by
  have hLen := putFields_length hBefore
  have hLen' := putFields_length (base := putFields base before) (fields := [(o, v)]) (by simpa [hLen])
  have hSplit : putFields base (before ++ (o, v) :: after) = putFields (putFields (putFields base before) [(o, v)]) after := by
    simp only [putFields, List.foldl_append, List.foldl_cons, List.foldl_nil]
  rw [hSplit, sub_putFields_before (by rw [hLen', hLen]; exact hAfter)]
  exact sub_putField_same (by omega)

@[simp] theorem State.takeFreeBytes_length (s : State) (n : Nat) : (s.takeFreeBytes n).1.length = n := by simp [State.takeFreeBytes]

theorem State.openPage_length {s : State} {n : Nat} {fields : List (Nat × Bytes)} (h : ∀ f ∈ fields, f.1 + f.2.length ≤ n) :
    (s.openPage n fields).1.length = n :=
  (putFields_length (by simpa using h)).trans (s.takeFreeBytes_length n)

/-! ### SPDM -/

theorem State.spdmUp_of_enabled {s : State} (h : s.mgmtUp = true) (he : s.p p_attest_spdm_enable = 1) : s.spdmUp = true := by
  simp [State.spdmUp, h, he]

/-- A request whose negotiation has been done runs. -/
theorem runs_spdmReq {c : Instr} {s : State} {need : Bool} {f : State → State} {p : State → Prop} (m : State → Res) (hUp : s.mgmtUp = true)
    (he : s.p p_attest_spdm_enable = 1) (hNeed : need = true) (hm : m s = s.spdmReq need f) (hc : exec c s = m s) (hp : p (f s)) :
    Runs c s p := by
  refine runs_onlyIf m (State.spdmUp_of_enabled hUp he) hm hc ?_
  rw [if_pos hNeed]
  exact hp

/-- The measurement blocks that need no record are always there. -/
theorem State.measBlocks_isEmpty (s : State) : s.measBlocks.isEmpty = false := rfl

theorem State.measBlocks_eq {s : State} {r : Bytes} {i : Nat} (h1 : newestOf s.nor 1 = some (i, r))
    (h2 : newestOf s.nor 2 = none ∨ s.seam.manager = false) :
    s.measBlocks = [(1, dmtfBlock 1 0 s.ledger.meas.rom), (2, dmtfBlock 2 1 s.ledger.meas.fw), (3, dmtfBlock 3 3 s.ledger.meas.profile),
      (4, dmtfBlock 4 3 s.ledger.meas.param), (5, dmtfBlock 5 3 s.ledger.meas.keyEnv), (6, dmtfBlock 6 3 s.ledger.meas.ystmt),
      (7, if s.p p_attest_raw_records = 1 then dmtfBlock 7 0x83 r else dmtfBlock 7 0x03 (sha384 r))] := by
  unfold State.measBlocks
  rw [h1]
  cases hArray : newestOf s.nor 2 with
  | none => rfl
  | some x =>
    have hManager : s.seam.manager = false := h2.resolve_left (by simp [hArray])
    simp only [hManager]
    rfl

/-- All blocks, with the responder's nonce; the signature is there where it was asked for. -/
theorem spdmGetMeasurements_all {s : State} {nonce : Bytes} {signed : Bool} (hUp : s.mgmtUp = true) (he : s.p p_attest_spdm_enable = 1)
    (hAlgs : s.mgmt.spdmAlgs = true) :
    Runs (.spdmGetMeasurements 0xFF nonce signed) s fun t => ∃ own sig, own.length = 32 ∧
      t = { s with free := s.free + 2, out := s.out ++ [.spdm 0xE0 (s.measBlocks.flatMap (·.2) ++ own) sig] } ∧ (signed = false → sig = []) := by
  refine runs_spdmReq (execSpdmGetMeasurements 0xFF nonce signed) hUp he hAlgs rfl rfl ?_
  have hPicked : ¬ ((0xFF : Byte) ≠ 0 ∧ s.measBlocks.isEmpty = true) := by simp [s.measBlocks_isEmpty]
  let own := (s.takeFreeBytes 32).1
  refine ⟨own, if signed then Config.spdmSign (s.free + 1) (nonce ++ (s.measBlocks.flatMap (·.2) ++ own)) else [], s.takeFreeBytes_length 32,
    if_neg hPicked, fun hNot => by simp [hNot]⟩

theorem spdmChallenge_answers {s : State} {nonce : Bytes} (hUp : s.mgmtUp = true) (he : s.p p_attest_spdm_enable = 1)
    (hAlgs : s.mgmt.spdmAlgs = true) :
    Runs (.spdmChallenge nonce) s fun t => ∃ own sig, own.length = 32 ∧
      t = { s with free := s.free + 2, out := s.out ++ [.spdm 0x83 (sha384 spdmChain ++ own ++ nonce) sig] } :=
  runs_spdmReq (execSpdmChallenge nonce) hUp he hAlgs rfl rfl ⟨_, _, s.takeFreeBytes_length 32, rfl⟩

theorem spdmGetCertificate_otherSlot {s : State} {slot : Byte} {off len : Nat} (hUp : s.mgmtUp = true) (he : s.p p_attest_spdm_enable = 1)
    (hAlgs : s.mgmt.spdmAlgs = true) (hSlot : slot ≠ 0) :
    Runs (.spdmGetCertificate slot off len) s fun t => t = { s with out := s.out ++ [.spdmError 1] } :=
  runs_spdmReq (execSpdmGetCertificate slot off len) hUp he hAlgs rfl rfl (if_pos hSlot)

/-! ### NVMe-MI -/

theorem State.miUp_of_head {s : State} (h : s.mgmtUp = true) (hHead : s.isHead = true) : s.miUp = true := by simp [State.miUp, h, hHead]

/-- Warnings, temperature and wear, as the health polls carry them. -/
def State.miHealth (s : State) : Bytes := le 1 (255 - s.miWarning) ++ le 1 s.miTemp ++ le 1 s.wearUsed

@[simp] theorem State.miHealth_length (s : State) : s.miHealth.length = 3 := by simp [State.miHealth]

theorem nvmeMiBasicManagement_answers {s : State} (h : s.mgmtUp = true) (hHead : s.isHead = true) :
    Runs .nvmeMiBasicManagement s fun t => ∃ b, t = { s with free := s.free + 1, out := s.out ++ [.mi 0 b] } ∧ b.length = 32 ∧
      sub b 0 1 = le 1 6 ∧ sub b 2 3 = s.miHealth := by
  refine runs_onlyIf execNvmeMiBasicManagement (State.miUp_of_head h hHead) rfl rfl ⟨_, rfl, State.openPage_length ?_, ?_, ?_⟩
  · simp [be]
  · exact sub_putFields_field (v := le 1 6) (o := 0) (before := []) (by simp) (by simp) (by simp [be])
  · exact sub_putFields_field (v := s.miHealth) (o := 2) (before := [(0, le 1 6)]) (by simp) (by simp) (by simp [be])

theorem nvmeMiSubsystemHealthPoll_answers {s : State} (h : s.mgmtUp = true) (hHead : s.isHead = true) :
    Runs .nvmeMiSubsystemHealthPoll s fun t => ∃ b, t = { s with free := s.free + 1, out := s.out ++ [.mi 2 b] } ∧ b.length = 8 ∧
      sub b 1 3 = s.miHealth := by
  refine runs_onlyIf execNvmeMiSubsystemHealthPoll (State.miUp_of_head h hHead) rfl rfl ⟨_, rfl, State.openPage_length ?_, ?_⟩
  · simp
  · exact sub_putFields_field (v := s.miHealth) (o := 1) (before := []) (after := []) (by simp) (by simp) (by simp)

/-- The given fields of a controller's entry in its health poll. -/
def State.pollFields (s : State) (c : Nat) : List (Nat × Bytes) :=
  [(0, le 2 c ++ le 2 (b2n (s.rdy c))), (6, le 1 s.wearUsed ++ le 1 s.availableSpare ++ le 1 (s.criticalWarning c))]

/-- One entry more of the health poll, and the free values it takes. -/
def pollEntry (acc : Bytes × State) (c : Nat) : Bytes × State :=
  let x := acc.2.openPage 16 (acc.2.pollFields c)
  (acc.1 ++ x.1, x.2)

/-- The entries of a list of controllers have 16 bytes each, and take free values only. -/
theorem pollEntries (ids : List Nat) (b : Bytes) (s : State) :
    ∃ b' n, ids.foldl pollEntry (b, s) = (b', { s with free := n }) ∧ b'.length = b.length + 16 * ids.length := by
  induction ids generalizing b s with
  | nil => exact ⟨b, s.free, rfl, rfl⟩
  | cons c ids ih =>
    obtain ⟨b', n, hFold, hLen⟩ := ih (pollEntry (b, s) c).1 (pollEntry (b, s) c).2
    refine ⟨b', n, hFold, ?_⟩
    have hEntry : (pollEntry (b, s) c).1.length = b.length + 16 := by
      rw [pollEntry, List.length_append, State.openPage_length (by simp [State.pollFields])]
    rw [hLen, hEntry, List.length_cons]
    omega

theorem nvmeMiControllerHealthPoll_answers {s : State} {first : Nat} (h : s.mgmtUp = true) (hHead : s.isHead = true) :
    Runs (.nvmeMiControllerHealthPoll first) s fun t => ∃ b n, t = { s with free := n, out := s.out ++ [.mi 3 b] } ∧
      b.length = 16 * (s.hpCtrls.filter (fun c => decide (first ≤ c))).length := by
  obtain ⟨b, n, hFold, hLen⟩ := pollEntries (s.hpCtrls.filter (fun c => decide (first ≤ c))) [] s
  refine runs_onlyIf (execNvmeMiControllerHealthPoll first) (State.miUp_of_head h hHead) rfl rfl ⟨b, n, ?_, by simpa using hLen⟩
  exact congrArg (fun r : Bytes × State => r.2.emit (.mi 3 r.1)) hFold

/-! ### JTAG -/

/-- What an instruction that only a state permits leaves there, and elsewhere. -/
theorem runs_onlyIf_ite {c : Instr} {s : State} {b : Bool} {f : State → State} {d : Prop} [Decidable d] {p : State → Prop} (m : State → Res)
    (hd : b = true ↔ d) (hm : m s = onlyIf b s f) (hc : exec c s = m s) (hp : p (f s)) :
    Runs c s fun t => if d then p t else t = s := by
  by_cases h : d
  · simp only [if_pos h]
    exact runs_onlyIf m (hd.mpr h) hm hc hp
  · simp only [if_neg h]
    exact runs_onlyIf_not m (by simpa [h] using hd) hm hc rfl

/-- The EXTEST instructions act while POR_N is asserted. -/
theorem runs_extest {c : Instr} {s : State} {ir : JtagIr} {pattern : Nat} (m : State → Res)
    (hm : m s = onlyIf (!s.pins.porN) s fun s => s.extest ir pattern) (hc : exec c s = m s) :
    Runs c s fun t => if s.pins.porN then t = s else ∃ v,
      t = { s with jtag := { s.jtag with ir := ir, boundary := pattern }, free := s.free + 1, out := s.out ++ [.jtag 0 v] } := by
  cases hPor : s.pins.porN with
  | false => exact runs_onlyIf m (by rw [hPor]; rfl) hm hc ⟨_, rfl⟩
  | true => exact runs_onlyIf_not m (by rw [hPor]; rfl) hm hc rfl

theorem idcode_fields : idcode / 2 ^ 28 = 1 ∧ idcode / 2 ^ 12 % 2 ^ 16 = 0x7264 ∧ idcode / 2 % 2 ^ 11 = Config.jedecId % 2 ^ 11 := by
  have hId : Config.jedecId % 2 ^ 11 < 2 ^ 11 := Nat.mod_lt _ (by decide)
  unfold idcode
  omega

/-- Settles O42: each clause is what its request, poll or instruction answers where the state permits it. -/
theorem spdmNvmeMiAndJtagAnswer : Obligations.SpdmNvmeMiAndJtagAnswer := by
  unfold Obligations.SpdmNvmeMiAndJtagAnswer
  exact ⟨fun s hUp he => runs_onlyIf execSpdmGetVersion (State.spdmUp_of_enabled hUp he) rfl rfl rfl,
    fun s hUp he hNeed => runs_spdmReq execSpdmGetCapabilities hUp he hNeed rfl rfl rfl,
    fun s hUp he hNeed => runs_spdmReq execSpdmNegotiateAlgorithms hUp he hNeed rfl rfl rfl,
    fun s hUp he hNeed => runs_spdmReq execSpdmGetDigests hUp he hNeed rfl rfl rfl,
    fun s off len hUp he hNeed => runs_spdmReq (execSpdmGetCertificate 0 off len) hUp he hNeed rfl rfl rfl,
    fun _ _ _ _ hUp he hNeed hSlot => spdmGetCertificate_otherSlot hUp he hNeed hSlot,
    fun _ _ hUp he hNeed => spdmChallenge_answers hUp he hNeed,
    fun _ _ _ hUp he hNeed => spdmGetMeasurements_all hUp he hNeed,
    fun _ _ _ h1 h2 => State.measBlocks_eq h1 h2,
    fun _ h hHead => nvmeMiBasicManagement_answers h hHead,
    fun s cntlid h hHead => runs_onlyIf (execNvmeMiReadDataStructure 2 cntlid) (State.miUp_of_head h hHead) rfl rfl rfl,
    fun _ h hHead => nvmeMiSubsystemHealthPoll_answers h hHead,
    fun _ _ h hHead => nvmeMiControllerHealthPoll_answers h hHead,
    fun s config h hHead => runs_onlyIf (execNvmeMiConfigurationGet config) (State.miUp_of_head h hHead) rfl rfl
      ⟨_, rfl, State.openPage_length (by simp)⟩,
    fun _ => ⟨_, rfl, rfl⟩,
    fun _ => ⟨_, rfl, _, rfl, idcode_fields⟩,
    fun _ _ => ⟨_, rfl, _, rfl⟩,
    fun _ pattern => runs_extest (execJtagExtest pattern) rfl rfl,
    fun _ pattern => runs_extest (execJtagExtestPulse pattern) rfl rfl,
    fun _ pattern => runs_extest (execJtagExtestTrain pattern) rfl rfl,
    fun _ request => runs_onlyIf_ite (execJtagEngineDebug request) (by simp) rfl rfl ⟨_, rfl⟩⟩

end Sys2Proof.Machine
end

section
/-! PROOFS. Requests that a shelf answers: sectors, drops and discards, health, ledger records, the buffer (R110, R420, R426 to R428, R451,
R459, R469). -/

namespace Sys2Proof.Machine

/-! ### Answers that return a credit -/

theorem State.putFrame_out (s : State) (p lsn ack : Nat) (f : Frame) : s.out <+: (s.putFrame p lsn ack f).out := by
  unfold State.putFrame
  split
  · exact List.prefix_rfl
  · exact List.prefix_append _ _

theorem State.txFrame_out_grows (s : State) (p : Nat) (f : Frame) : s.out <+: (s.txFrame p f).out := by
  unfold State.txFrame
  exact State.putFrame_out (s.setPort p _) _ _ _ _

theorem State.sendCredit_out_grows (s : State) (p : Nat) : s.out <+: (s.sendCredit p).out := by
  unfold State.sendCredit
  dsimp only
  split
  · exact List.prefix_rfl
  · exact State.txFrame_out_grows (s.setPort p _) _ _

/-- What has been sent stays sent where credits are returned (R424). -/
theorem State.giveCredit_out_grows (s : State) (p w q : Nat) : s.out <+: (s.giveCredit p w q).out := by
  unfold State.giveCredit
  dsimp only
  split
  · exact State.sendCredit_out_grows (s.setPort p _) p
  · exact List.prefix_rfl

@[simp] theorem State.giveCredit_sh (s : State) (p w q : Nat) : (s.giveCredit p w q).sh = s.sh := State.giveCredit_stays.same_sh rfl
@[simp] theorem State.giveCredit_keep (s : State) (p w q : Nat) : (s.giveCredit p w q).keep = s.keep := State.giveCredit_stays.same_keep rfl
@[simp] theorem State.giveCredit_time (s : State) (p w q : Nat) : (s.giveCredit p w q).time = s.time := State.giveCredit_stays.same_time rfl
@[simp] theorem State.giveCredit_params (s : State) (p w q : Nat) : (s.giveCredit p w q).params = s.params :=
  State.giveCredit_stays.same_params rfl
@[simp] theorem State.replyTo_time (s : State) (p : Nat) (tag : Tag) (reqId op status result : Nat) (b : ReplyBody) :
    (s.replyTo p tag reqId op status result b).time = s.time := State.replyTo_stays.same_time rfl

theorem State.repliedAmong_giveCredit {t : State} {h : FrameHdr} {op status result : Nat} {b : ReplyBody} (p w q : Nat)
    (hr : t.repliedAmong h op status result b) : (t.giveCredit p w q).repliedAmong h op status result b := by
  obtain ⟨n, a, hIn⟩ := hr
  exact ⟨n, a, (t.giveCredit_out_grows p w q).subset hIn⟩

/-- From `s` to `t` a frame is answered, and what the shelf stores is as it was. -/
abbrev State.onlyReplied (s t : State) (h : FrameHdr) (op status result : Nat) (b : ReplyBody) : Prop :=
  s.repliedFirst t h op status result b ∧ t.sh = s.sh ∧ t.keep = s.keep

/-- A shelf answers a frame that it has taken, returns its credit, and is otherwise as it was. -/
theorem State.answer_taken {s : State} (h : FrameHdr) (hHead : s.isHead = false) (op status result : Nat) (b : ReplyBody) :
    s.onlyReplied (((s.taken h).replyTo h.port h.tag h.reqId op status result b).giveCredit h.port 0 1) h op status result b := by
  obtain ⟨n, a, hFirst⟩ := State.txFrame_sentFirst (s := s) h.port ⟨h.tag, false, false, 0, h.reqId, .reply op status result b⟩
    ((s.taken_isHead h).trans hHead) (s.taken_out h)
  exact ⟨⟨n, a, hFirst.trans (State.giveCredit_out_grows _ _ _ _)⟩, by simp, by simp⟩

/-- A meaning `m` of a request that only a member of the array serves runs so where it only answers. -/
theorem runs_shelfAnswer {c : Instr} {s : State} {h : FrameHdr} {f : State → State} {op status result : Nat} {b : ReplyBody}
    (m : State → Res) (ht : s.shelfTakes h = true) (hm : m s = onShelf h s f) (hc : exec c s = m s)
    (hf : f (s.taken h) = ((s.taken h).replyTo h.port h.tag h.reqId op status result b).giveCredit h.port 0 1) :
    Runs c s fun t => s.onlyReplied t h op status result b := by
  refine runs_onShelf m ht hm hc ?_
  rw [hf]
  exact State.answer_taken h (State.isHead_of_shelfTakes ht) _ _ _ _

@[simp] theorem State.taken_stripSectors (s : State) (h : FrameHdr) (strip : Nat) : (s.taken h).stripSectors strip = s.stripSectors strip := by
  rw [s.taken_eq]; rfl
@[simp] theorem State.taken_mayWrite (s : State) (h : FrameHdr) (site : Nat) : (s.taken h).mayWrite site = s.mayWrite site := by
  rw [s.taken_eq]; rfl
@[simp] theorem State.taken_healthEntry (s : State) (h : FrameHdr) : (s.taken h).healthEntry = s.healthEntry := by rw [s.taken_eq]; rfl
@[simp] theorem State.taken_ownRecord (s : State) (h : FrameHdr) : (s.taken h).ownRecord = s.ownRecord := by rw [s.taken_eq]; rfl
@[simp] theorem State.taken_recordsFrom (s : State) (h : FrameHdr) (seq n : Nat) : (s.taken h).recordsFrom seq n = s.recordsFrom seq n := by
  rw [s.taken_eq]; rfl
@[simp] theorem State.taken_plbItem (s : State) (h : FrameHdr) (t : Tag) : (s.taken h).plbItem t = s.plbItem t := by rw [s.taken_eq]; rfl

/-! ### SECTOR_READ -/

/-- The sectors asked for of a strip's, those that read and pass their check (R428). -/
def sectorsWanted (l : List (Option Sector)) (first count : Nat) (bad : BitVec 16) : List (Option Sector) :=
  (List.range count).map (fun i =>
    match l.getD (first + i) none with
    | some x => if bad.getLsbD i || crc64 x.data != x.crc64 then none else some x
    | none => none)

/-- The body that answers them: the mask of those that failed, and the sectors with their check fields. -/
def sectorsBody (l : List (Option Sector)) (first count : Nat) (bad : BitVec 16) : ReplyBody :=
  .sectors (BitVec.ofNat 16 (((List.range count).filter (fun i => ((sectorsWanted l first count bad).getD i none).isNone)).foldl
      (fun a i => a + 2 ^ i) 0))
    ((sectorsWanted l first count bad).map (fun x => match x with | some v => v.data ++ sectorBytes v | none => zeros 4112))

theorem sectorRead_field {s : State} {h : FrameHdr} {sla count : Nat} {bad : BitVec 16} (ht : s.shelfTakes h = true)
    (hOut : count = 0 ∨ 16 < sla % 16 + count) :
    Runs (.sectorRead h sla count bad) s fun t => s.onlyReplied t h 0x30 ST_SPOKE_FIELD 0 .none :=
  runs_shelfAnswer (execSectorRead h sla count bad) ht rfl rfl (by rw [if_pos hOut])

theorem sectorRead_notStored {s : State} {h : FrameHdr} {sla count : Nat} {bad : BitVec 16} (ht : s.shelfTakes h = true) (h0 : 0 < count)
    (hIn : sla % 16 + count ≤ 16) (hNone : s.stripSectors (sla / 16) = none) :
    Runs (.sectorRead h sla count bad) s fun t => s.onlyReplied t h 0x30 ST_SPOKE_NOT_STORED 0 .none :=
  runs_shelfAnswer (execSectorRead h sla count bad) ht rfl rfl (by rw [if_neg (by omega), State.taken_stripSectors, hNone])

theorem sectorRead_answers {s : State} {h : FrameHdr} {sla count : Nat} {bad : BitVec 16} {l : List (Option Sector)} (ht : s.shelfTakes h = true)
    (h0 : 0 < count) (hIn : sla % 16 + count ≤ 16) (hSome : s.stripSectors (sla / 16) = some l) :
    Runs (.sectorRead h sla count bad) s fun t =>
      s.onlyReplied t h 0x30 0 0 (sectorsBody l (sla % 16) count bad) :=
  runs_shelfAnswer (execSectorRead h sla count bad) ht rfl rfl (by rw [if_neg (by omega), State.taken_stripSectors, hSome]; rfl)

/-- One sector that reads and passes its check. -/
theorem sectorsBody_good {l : List (Option Sector)} {o : Nat} {x : Sector} (h : l.getD o none = some x) (hc : crc64 x.data = x.crc64) :
    sectorsBody l o 1 0 = .sectors 0 [x.data ++ sectorBytes x] := by
  have hWanted : sectorsWanted l o 1 0 = [some x] := by
    simp only [sectorsWanted, List.range_one, List.map_cons, List.map_nil, Nat.add_zero, h]
    simp [hc]
  unfold sectorsBody
  rw [hWanted]
  rfl

/-- One sector that does not read. -/
theorem sectorsBody_lost {l : List (Option Sector)} {o : Nat} (h : l.getD o none = none) :
    sectorsBody l o 1 0 = .sectors 1 [zeros 4112] := by
  have hWanted : sectorsWanted l o 1 0 = [none] := by
    simp only [sectorsWanted, List.range_one, List.map_cons, List.map_nil, Nat.add_zero, h]
  unfold sectorsBody
  rw [hWanted]
  rfl

/-! ### Freeing items of the buffer -/

/-- Freeing a tag touches the buffer and what is remembered of tags. -/
theorem State.plbFree_sh (s : State) (t : Tag) :
    (s.plbFree t).sh = { s.sh with plb := s.sh.plb.filter (fun x => x.tag != t), kept := (s.plbFree t).sh.kept } := by
  unfold State.plbFree
  split
  · rename_i hNone
    have hAll : s.sh.plb.filter (fun x => x.tag != t) = s.sh.plb :=
      List.filter_eq_self.mpr fun x hx => by simpa using List.find?_eq_none.mp hNone x hx
    rw [hAll]
  · rw [State.toHeads_stays.same_sh rfl]
    rfl

@[simp] theorem State.plbFree_map (s : State) (t : Tag) : (s.plbFree t).sh.map = s.sh.map := by rw [s.plbFree_sh]

@[simp] theorem State.plbFreeAll_map (s : State) (ts : List Tag) : (s.plbFreeAll ts).sh.map = s.sh.map := by
  induction ts generalizing s with
  | nil => rfl
  | cons t ts ih => exact (ih (s.plbFree t)).trans (s.plbFree_map t)

/-! ### DROP -/

/-- A tagged request without a payload of a head that may write, of a current generation (R427, R428). -/
theorem State.onTagged_plain {s : State} {h : FrameHdr} (op : Nat) (f : State → State) (hMay : s.mayWrite h.port = true)
    (hGen : leaseStreamGen s.lease h.tag.stream ≤ h.streamGen) : s.onTagged (plainCopy h op) f = f s := by
  simp [State.onTagged, plainCopy, hMay, Nat.not_lt.mpr hGen]

theorem State.onTagged_noGrant {s : State} {h : FrameHdr} (op : Nat) (f : State → State) (hMay : s.mayWrite h.port = false) :
    s.onTagged (plainCopy h op) f = s.replyTo h.port h.tag h.reqId op ST_SPOKE_NO_GRANT 0 .none := by
  simp [State.onTagged, plainCopy, hMay, State.refuse]

/-- A shelf that notes the drop of a tag and frees what it buffers of it (R428). -/
def State.dropTag (s : State) (t : Tag) : State :=
  State.plbFree { s with sh := { s.sh with drops := s.sh.drops.filter (fun (x : Tag × Nat) => x.1 != t) ++ [(t, s.epn)] } } t

theorem State.dropTag_stays {s : State} {t : Tag} : Stays { port := true, sh := true, keep := true, out := true } s (s.dropTag t) :=
  State.plbFree_stays.after (Stays.upd rfl)

theorem State.dropTag_plb (s : State) (t : Tag) : (s.dropTag t).sh.plb = s.sh.plb.filter (fun x => x.tag != t) := by
  rw [State.dropTag, State.plbFree_sh]

theorem State.dropTag_noted (s : State) (t : Tag) : (t, s.epn) ∈ (s.dropTag t).sh.drops := by
  rw [State.dropTag, State.plbFree_sh]
  exact List.mem_append_right _ (List.mem_singleton.mpr rfl)

theorem State.dropped_of_noted {s t : State} {tag : Tag} (hd : (tag, s.epn) ∈ t.sh.drops) (hTime : t.time = s.time)
    (hParams : t.params = s.params) : t.dropped tag = true :=
  List.any_eq_true.mpr ⟨_, hd, by simp [State.epn_congr hTime hParams]⟩

theorem execDrop_eq (s : State) (h : FrameHdr) :
    execDrop h s = onShelf h s fun u => (u.onTagged (plainCopy h 0x31) fun v =>
      (v.dropTag { h.tag with cls := .append }).replyTo h.port h.tag h.reqId 0x31 0 5 .none).giveCredit h.port 0 1 := rfl

theorem drop_frees {s : State} {h : FrameHdr} (ht : s.shelfTakes h = true) (hMay : s.mayWrite h.port = true)
    (hGen : leaseStreamGen s.lease h.tag.stream ≤ h.streamGen) :
    Runs (.drop h) s fun t => t.sh.plb = s.sh.plb.filter (fun x => x.tag != { h.tag with cls := .append }) ∧
      t.repliedAmong h 0x31 0 5 .none ∧ t.dropped { h.tag with cls := .append } = true := by
  refine runs_onShelf (execDrop h) ht (execDrop_eq s h) rfl ?_
  rw [State.onTagged_plain 0x31 _ (by simpa using hMay) (by simpa using hGen)]
  refine ⟨?_, ?_, State.dropped_of_noted (s := s.taken h) ?_ ?_ ?_⟩
  · rw [State.giveCredit_sh, State.replyTo_sh, State.dropTag_plb, State.taken_sh]
  · exact State.repliedAmong_giveCredit _ _ _ (State.replyTo_repliedAmong ht ((State.dropTag_stays.same_pins rfl).trans (s.taken_pins h)) _ _ _ _)
  · rw [State.giveCredit_sh, State.replyTo_sh]
    exact State.dropTag_noted _ _
  · rw [State.giveCredit_time, State.replyTo_time, State.dropTag_stays.same_time rfl]
  · rw [State.giveCredit_params, State.replyTo_params, State.dropTag_stays.same_params rfl]

theorem drop_noGrant {s : State} {h : FrameHdr} (ht : s.shelfTakes h = true) (hMay : s.mayWrite h.port = false) :
    Runs (.drop h) s fun t => s.onlyReplied t h 0x31 ST_SPOKE_NO_GRANT 0 .none :=
  runs_shelfAnswer (execDrop h) ht (execDrop_eq s h) rfl (by rw [State.onTagged_noGrant 0x31 _ (by simpa using hMay)])

/-! ### DISCARD -/

theorem SMap.get_del_same {α : Type} (m : SMap α) (k : Nat) : SMap.get (SMap.del m k) k = none := by
  induction m with
  | nil => rfl
  | cons e m ih =>
    obtain ⟨k', v⟩ := e
    by_cases hk : k' = k
    · simpa [SMap.del, hk] using ih
    · simpa [SMap.del, SMap.get, hk] using ih

theorem SMap.get_del_other {α : Type} (m : SMap α) (k k' : Nat) (h : k' ≠ k) : SMap.get (SMap.del m k) k' = SMap.get m k' := by
  induction m with
  | nil => rfl
  | cons e m ih =>
    obtain ⟨a, v⟩ := e
    by_cases ha : a = k
    · simpa [SMap.del, SMap.get, ha, h.symm] using ih
    · by_cases ha' : a = k'
      · simp [SMap.del, SMap.get, ha', h]
      · simpa [SMap.del, SMap.get, ha, ha'] using ih

theorem State.leaveReadOnly_map (s : State) : s.leaveReadOnly.sh.map = s.sh.map := by
  unfold State.leaveReadOnly
  dsimp only
  split
  · rw [State.clearAlarm_sh]
  · rfl

/-- A strip that leaves the map; the others stay. -/
theorem State.unmapStrip_get (s : State) (strip : Nat) : SMap.get (s.unmapStrip strip).sh.map strip = none ∧
    ∀ k, k ≠ strip → SMap.get (s.unmapStrip strip).sh.map k = SMap.get s.sh.map k := by
  unfold State.unmapStrip
  split
  · rw [State.leaveReadOnly_map]
    exact ⟨SMap.get_del_same _ _, fun k hk => SMap.get_del_other _ _ _ hk⟩
  · rename_i hNot
    exact ⟨by simpa [SMap.has] using hNot, fun _ _ => rfl⟩

/-- What a discarded strip's items leave of the buffer. -/
def State.freeStrip (s : State) (strip : Nat) : State :=
  match s.plbStrip strip with
  | some (t, took) => (s.plbFree t).plbFreeAll took
  | none => s

theorem State.freeStrip_stays {s : State} {strip : Nat} : Stays { port := true, sh := true, keep := true, out := true } s (s.freeStrip strip) := by
  unfold State.freeStrip
  split
  · exact State.plbFreeAll_stays.after State.plbFree_stays
  · exact Stays.rfl

theorem State.freeStrip_map (s : State) (strip : Nat) : (s.freeStrip strip).sh.map = s.sh.map := by
  unfold State.freeStrip
  split
  · rw [State.plbFreeAll_map, State.plbFree_map]
  · rfl

/-- Without PURGE a discard is answered at once. -/
theorem State.discardStrip_answers (s : State) (p : Purge) :
    s.discardStrip p false = (((s.freeStrip p.strip).unmapStrip p.strip).replyTo p.port p.tag p.reqId 0x32 0 5 .none).giveCredit p.port 0 1 := rfl

/-- The request that a discard leaves where it waits. -/
def discardOf (h : FrameHdr) (sla : Nat) : Purge := { strip := sla / 16, blocks := [], port := h.port, tag := h.tag, reqId := h.reqId }

/-- What a DISCARD of a head that may write, of a current generation, does. -/
theorem runs_discard {s : State} {h : FrameHdr} {sla : Nat} {p : State → Prop} (ht : s.shelfTakes h = true) (hMay : s.mayWrite h.port = true)
    (hGen : leaseStreamGen s.lease h.tag.stream ≤ h.streamGen)
    (hp : p (if s.sh.copying.contains (sla / 16) then
        { s.taken h with sh := { s.sh with heldDiscards := s.sh.heldDiscards ++ [(discardOf h sla, h.purge)] } }
      else (s.taken h).discardStrip (discardOf h sla) h.purge)) : Runs (.discard h sla) s p := by
  refine runs_onShelf (execDiscard h sla) ht rfl rfl ?_
  have hWrites : ¬ (!s.mayWrite h.port) = true := by simp [hMay]
  simp only [plainCopy, State.taken_mayWrite, State.taken_lease, State.taken_sh]
  rw [if_neg hWrites, if_neg (Nat.not_lt.mpr hGen)]
  exact hp

theorem discard_unmaps {s : State} {h : FrameHdr} {sla : Nat} (ht : s.shelfTakes h = true) (hMay : s.mayWrite h.port = true)
    (hGen : leaseStreamGen s.lease h.tag.stream ≤ h.streamGen) (hPurge : h.purge = false) (hCopy : sla / 16 ∉ s.sh.copying) :
    Runs (.discard h sla) s fun t => SMap.get t.sh.map (sla / 16) = none ∧
      (∀ k, k ≠ sla / 16 → SMap.get t.sh.map k = SMap.get s.sh.map k) ∧ t.repliedAmong h 0x32 0 5 .none := by
  refine runs_discard ht hMay hGen ?_
  rw [if_neg (by simpa using hCopy), hPurge, State.discardStrip_answers]
  obtain ⟨hGone, hOthers⟩ := ((s.taken h).freeStrip (sla / 16)).unmapStrip_get (sla / 16)
  rw [State.freeStrip_map, State.taken_sh] at hOthers
  have hPins : (((s.taken h).freeStrip (sla / 16)).unmapStrip (sla / 16)).pins = s.pins := by
    rw [State.unmapStrip_stays.same_pins rfl, State.freeStrip_stays.same_pins rfl, State.taken_pins]
  rw [State.giveCredit_sh, State.replyTo_sh]
  exact ⟨hGone, hOthers, State.repliedAmong_giveCredit _ _ _ (State.replyTo_repliedAmong ht hPins _ _ _ _)⟩

/-- A strip under copy holds its discard back (R459). -/
theorem discard_waits {s : State} {h : FrameHdr} {sla : Nat} (ht : s.shelfTakes h = true) (hMay : s.mayWrite h.port = true)
    (hGen : leaseStreamGen s.lease h.tag.stream ≤ h.streamGen) (hCopy : sla / 16 ∈ s.sh.copying) :
    Runs (.discard h sla) s fun t =>
      t.sh = { s.sh with heldDiscards := s.sh.heldDiscards ++ [(discardOf h sla, h.purge)] } ∧ t.out = s.out := by
  refine runs_discard ht hMay hGen ?_
  rw [if_pos (by simpa using hCopy)]
  exact ⟨rfl, s.taken_out h⟩

/-! ### HEALTH and LEDGER_GET -/

theorem health_answers {s : State} {h : FrameHdr} {entry : Bytes} (hs : s.isShelf = true) (hin : s.frameIn h = true) :
    Runs (.health h entry) s fun t =>
      s.onlyReplied t h 0x50 0 0 (.bytes (s.sh.sample.getD s.healthEntry)) := by
  have hShelf : (s.taken h).isShelf = true := by simpa [State.isShelf] using hs
  refine runs_onFrame (execHealth h entry) hin rfl rfl ?_
  rw [if_pos hShelf, State.taken_sh, State.taken_healthEntry]
  exact State.answer_taken h (State.isHead_of_isShelf hs) _ _ _ _

/-- The record that LEDGER_GET asks for: the shelf's own, or the one that bears the number. -/
def State.ledgerAsked (s : State) (seq : Nat) : Option Bytes :=
  if seq = 0 then some s.ownRecord else (s.recordsFrom seq 1).2.find? (fun r => recSeq r == seq)

theorem State.ledgerAsked_taken (s : State) (h : FrameHdr) (seq : Nat) : (s.taken h).ledgerAsked seq = s.ledgerAsked seq := by
  simp only [State.ledgerAsked, State.taken_ownRecord, State.taken_recordsFrom]

theorem ledgerGet_waits {s : State} {h : FrameHdr} {seq : Nat} (hReady : s.boot.readyDone = false) (hFit : s.fit = true) :
    Runs (.ledgerGet h seq) s fun t => t = s :=
  ⟨s, if_pos (by simp [hReady, hFit]), rfl⟩

theorem ledgerGet_answers {s : State} {h : FrameHdr} {seq : Nat} {r : Bytes} (ht : s.shelfHears h = true)
    (hReady : s.boot.readyDone = true ∨ s.fit = false) (hr : s.ledgerAsked seq = some r) :
    Runs (.ledgerGet h seq) s fun t => s.onlyReplied t h 0x51 0 0 (.bytes (padTo 4096 r)) := by
  have hGoes : ¬ (!s.boot.readyDone && s.fit) = true := by
    obtain hReady | hReady := hReady <;> simp [hReady]
  simp only [State.shelfHears, Bool.and_eq_true] at ht
  obtain ⟨⟨hShelf, hStage⟩, hin⟩ := ht
  refine runs_onFrame (execLedgerGet h seq) hin ((if_neg hGoes).trans (if_pos (by simp [hShelf, hStage]))) rfl ?_
  have hAsked := (s.ledgerAsked_taken h seq).trans hr
  unfold State.ledgerAsked at hAsked
  rw [hAsked]
  exact State.answer_taken h (State.isHead_of_isShelf hShelf) _ _ _ _

theorem State.ledgerAsked_own (s : State) : s.ledgerAsked 0 = some s.ownRecord := rfl

theorem State.ledgerAsked_named {s : State} {seq : Nat} {r : Bytes} (h0 : 0 < seq) (h1 : (s.recordsFrom seq 1).2 = [r]) (hr : recSeq r = seq) :
    s.ledgerAsked seq = some r := by
  simp [State.ledgerAsked, h0.ne', h1, hr]

/-! ### The buffer -/

/-- The buffered appends with their heads, in the buffer's order. -/
def State.bufferedAppends (s : State) : List (Tag × AppendHead) :=
  s.sh.plb.filterMap fun i => match i.body with
    | .image a _ => some (i.tag, a)
    | .packed _ _ _ => none
    | .strip _ _ => none

theorem State.bufferedAppends_taken (s : State) (h : FrameHdr) : (s.taken h).bufferedAppends = s.bufferedAppends := by
  rw [State.bufferedAppends, State.bufferedAppends, s.taken_sh]

theorem execBufferList_eq (s : State) (h : FrameHdr) (first : Nat) :
    execBufferList h first s = onShelf h s fun u =>
      (u.replyTo h.port h.tag h.reqId 0x52 0 0 (.list ((u.bufferedAppends.drop first).take 64))).giveCredit h.port 0 1 := rfl

theorem bufferList_answers {s : State} {h : FrameHdr} {first : Nat} (ht : s.shelfTakes h = true) :
    Runs (.bufferList h first) s fun t => s.onlyReplied t h 0x52 0 0 (.list ((s.bufferedAppends.drop first).take 64)) :=
  runs_shelfAnswer (execBufferList h first) ht (execBufferList_eq s h first) rfl (by rw [State.bufferedAppends_taken])

theorem bufferRead_answers {s : State} {h : FrameHdr} {i : PlbItem} {a : AppendHead} {img : Bytes} (ht : s.shelfTakes h = true)
    (hi : s.plbItem h.tag = some i) (hb : i.body = .image a img) :
    Runs (.bufferRead h) s fun t => s.onlyReplied t h 0x53 0 0 (.bytes (appendHeadBytes a ++ img)) :=
  runs_shelfAnswer (execBufferRead h) ht rfl rfl (by simp only [State.taken_plbItem, hi, hb])

theorem bufferRead_notStored {s : State} {h : FrameHdr} (ht : s.shelfTakes h = true) (hNone : s.plbItem h.tag = none) :
    Runs (.bufferRead h) s fun t => s.onlyReplied t h 0x53 ST_SPOKE_NOT_STORED 0 .none :=
  runs_shelfAnswer (execBufferRead h) ht rfl rfl (by simp only [State.taken_plbItem, hNone])

/-- Settles O53: each clause is what its request does at a shelf that takes it. -/
theorem shelvesAnswerRequests : Obligations.ShelvesAnswerRequests := by
  unfold Obligations.ShelvesAnswerRequests
  refine ⟨fun _ _ _ _ _ ht hOut => sectorRead_field ht hOut,
    fun _ _ _ _ _ ht h0 hIn hNone => sectorRead_notStored ht h0 hIn hNone,
    fun _ _ sla _ _ ht hSome hx hc => ?_,
    fun _ _ sla _ ht hSome hx => ?_,
    fun _ _ ht hMay hGen => drop_frees ht hMay hGen,
    fun _ _ ht hMay => (drop_noGrant ht hMay).imp fun _ ⟨hReply, hSh, hKeep⟩ => ⟨hSh, hKeep, hReply⟩,
    fun _ _ _ ht hMay hGen hPurge hCopy => discard_unmaps ht hMay hGen hPurge hCopy,
    fun _ _ _ ht hMay hGen hCopy => discard_waits ht hMay hGen hCopy,
    fun _ _ _ hs hin => health_answers hs hin,
    fun _ _ _ hReady hFit => ledgerGet_waits hReady hFit,
    fun s _ ht hReady => ledgerGet_answers ht hReady s.ledgerAsked_own,
    fun _ _ _ _ ht hReady h0 h1 hr => ledgerGet_answers ht hReady (State.ledgerAsked_named h0 h1 hr),
    fun _ _ _ ht => bufferList_answers ht,
    fun _ _ _ _ _ ht hi hb => bufferRead_answers ht hi hb,
    fun _ _ ht hNone => bufferRead_notStored ht hNone⟩
  · exact sectorsBody_good hx hc ▸ sectorRead_answers ht Nat.one_pos (by omega) hSome
  · exact sectorsBody_lost hx ▸ sectorRead_answers ht Nat.one_pos (by omega) hSome

end Sys2Proof.Machine
end

section
/-! PROOFS. A record that reaches the manager after the wait of its ledger collection is over (R110), and a silenced head whose admin queue
completes into an I/O queue (R402). Each refutes a statement that leaves its case out. -/

/- The proofs of this part are elaborated one after another: a further worker's stack would not fit under the limit of the check. -/
set_option deprecated.oldSectionVars true

namespace Sys2Proof.Machine

/-! ### A ledger record after the wait for it -/

/-- `bareHead` as the manager, its own record of this boot committed, port 1 up. It has collected ledger records since T was 0, and 60 s, the
default of `ledger.collect_timeout_s`, have passed; LEDGER_COLLECT_TIMEOUT has not come yet. -/
def collectHead : State :=
  { bareHead with
    boot := { stage := .ready, readyDone := true }
    time := { t := 6000000000, tSet := true }
    seam := { manager := true }
    ledger := { collecting := true, since := some 0 }
    port := (List.replicate 64 {}).set 1 { state := 3, admitted := true } }

/-- The next frame of port 1. -/
def recordFrame : FrameHdr := ⟨1, 0, 0, false, false, ⟨.none, 255, 0, 0⟩, 0, 0⟩

/-- The peer's record is still awaited, yet the reply of a shelf makes the manager append the array record, which closes the collection. -/
theorem ledgerGetReply_collectHead_closes : (collectHead.after (.ledgerGetReply recordFrame 0 [])).ledger.collecting = false := by
  decide +kernel

/-- Refutes O54 at its clause on LEDGER_GET_REPLY, which asks that a part's record be still awaited and not that the wait go on: on
`collectHead` the record does not just join the collection, it ends it. -/
theorem not_headsTakeTheAnswersOfShelves : ¬ Obligations.HeadsTakeTheAnswersOfShelves := by
  unfold Obligations.HeadsTakeTheAnswersOfShelves
  rintro ⟨-, -, -, hReply, -⟩
  obtain ⟨hLedger, -⟩ := (hReply collectHead recordFrame [] (by decide) (by decide) rfl (by decide) rfl (by decide) (by decide)).after
  have hOpen : (collectHead.after (.ledgerGetReply recordFrame 0 [])).ledger.collecting = true := congrArg LedgerSt.collecting hLedger
  exact Bool.false_ne_true (ledgerGetReply_collectHead_closes.symm.trans hOpen)

/-! ### An admin completion of a silenced head -/

/-- A controller whose admin queue completes into queue 1, and that holds a copy of page 0xC0. -/
def crossedCtrl : Ctrl :=
  { en := true, sqs := [(0, { size := 8, cqid := 1, tail := 1 })], cqs := [(1, { size := 8 })], copies := [(0xC0 * 4, .bytes [])] }

/-- `bareHead` with that controller as its physical function's, its grants lost (R402). -/
def silencedHead : State := { bareHead with nvme := { ctrls := [(1, crossedCtrl)] }, seam := { leaseLost := true } }

/-- A read of the page behind its beginning. -/
def statusCmd : CmdId := ⟨1, 0, 1⟩

/-- The completion is held: of a head without its grants only the admin completion queue, queue 0, posts. -/
theorem logArrayStatus_silencedHead_silent : (silencedHead.after (.logArrayStatus statusCmd 0 4 0 true)).out = [] := by decide +kernel

/-- Refutes O26 at its second clause, which asks neither that the head hold its grants nor that the admin queue complete into queue 0: on
`silencedHead` the read's completion does not leave. No command binds an admin queue so; the statement ranges over every state. -/
theorem not_logPagesAndIdentifyAnswer : ¬ Obligations.LogPagesAndIdentifyAnswer := by
  unfold Obligations.LogPagesAndIdentifyAnswer
  rintro ⟨-, hCopy, -⟩
  have hOut := (hCopy silencedHead statusCmd 4 0 (.bytes []) (by decide) rfl (by decide) rfl).after
  rw [State.answered, logArrayStatus_silencedHead_silent] at hOut
  exact absurd hOut (by decide)

end Sys2Proof.Machine
end

section
/-! PROOFS. Words that a patrol scrub cannot correct, and a failed HBM stack (R134, R135). -/

namespace Sys2Proof.Machine

/-! ### A patrol scrub -/

/-- Corrected words are events, which touch no memory. -/
theorem State.correctedEvents_mem (s : State) (ws : List Nat) :
    (ws.foldl (fun acc w => acc.event EV_MC_CORRECTED (stackSrc (w * 32))) s).mem = s.mem :=
  (foldl_stays fun _ _ => State.event_stays).same_mem rfl

theorem hbmPatrolScrub_poisons {s : State} (h : s.mcUp = true) (cor : List Nat) (w : Nat) :
    Runs (.hbmPatrolScrub cor [w]) s fun t =>
      t.mem = { s.mem with poison := insNat s.mem.poison w } ∧ t.raised AL_MC_HBM_UNCORR (stackSrc (w * 32)) := by
  refine runs_onlyIf (execHbmPatrolScrub cor [w]) h rfl rfl ⟨?_, State.alarm_isRaised _ _ _⟩
  simp only [List.foldl_cons, List.foldl_nil, State.alarm_mem, State.correctedEvents_mem]

/-! ### A failed stack -/

/-- The failure is recorded and reported, whatever the stage. -/
theorem State.stackFail_reports (s : State) (k : Nat) :
    (s.stackFail k).mem = { s.mem with stackUp := s.mem.stackUp.set k false, stackFailed := true } ∧
      (s.stackFail k).raised AL_MC_HBM_STACK_FAIL (srcOf 8 k) := by
  unfold State.stackFail State.raised
  dsimp only
  split <;> exact ⟨State.alarm_mem _ _ _, State.alarm_isRaised _ _ _⟩

theorem State.stackFail_not_ready (s : State) (k : Nat) : (s.stackFail k).boot.stage ≠ .ready := by
  unfold State.stackFail
  dsimp only
  split
  · exact Stage.noConfusion
  · assumption

/-- Settles O19: the alarms that the two commands raise stand, and no alarm or event touches the memory. -/
theorem hbmFaultsAreMarkedAndReported : Obligations.HbmFaultsAreMarkedAndReported := by
  unfold Obligations.HbmFaultsAreMarkedAndReported
  refine ⟨fun s cor w h => hbmPatrolScrub_poisons h cor w, fun s k h => runs_onlyIf (execHbmStackFatal k) h rfl rfl ?_⟩
  obtain ⟨hMem, hRaised⟩ := s.stackFail_reports k
  exact ⟨hRaised, s.stackFail_not_ready k, by rw [hMem], by rw [hMem]⟩

end Sys2Proof.Machine
end

section
/-! PROOFS. How an engine runs a request to its end (R131, R132). -/

namespace Sys2Proof.Machine

/-! ### The end of a request -/

theorem SMap.get_modify_same {α : Type} (m : SMap α) (k : Nat) (f : α → α) :
    SMap.get (SMap.modify m k f) k = (SMap.get m k).map f := by
  induction m with
  | nil => rfl
  | cons e m ih =>
    obtain ⟨k', v⟩ := e
    by_cases hk : k' = k
    · simp [SMap.modify, SMap.get, hk]
    · simpa [SMap.modify, SMap.get, hk] using ih

/-- A request that is held ends with the status and the counts given. -/
theorem State.endJob_ended {s : State} {n : Nat} {j : Job} (h : s.job n = some j) (status consumed produced : Nat) :
    (s.endJob n status consumed produced).ended n j status consumed produced :=
  (SMap.get_modify_same s.ring.jobs n fun j => { j with st := .done status consumed produced }).trans (congrArg (Option.map _) h)

@[simp] theorem State.endJob_mem (s : State) (n status consumed produced : Nat) :
    (s.endJob n status consumed produced).mem = s.mem := rfl

/-- Where the rings stay, so does what is fetched. -/
theorem Stays.same_job {m : Mask} {s t : State} (h : Stays m s t) (b : m.ring = false) (n : Nat) : t.job n = s.job n :=
  congrArg (fun r : RingSt => SMap.get r.jobs n) (h.same_ring b)

/-! ### A running request -/

theorem State.unitRuns.job_eq {s : State} {n b op : Nat} {j : Job} (h : s.unitRuns n b op j) : s.job n = some j := h.2.1

theorem State.onJob_of_unitRuns {s : State} {n b op : Nat} {j : Job} (h : s.unitRuns n b op j) (f : Job → State → State) :
    s.onJob n b [op] f = .next (f j s) := by
  obtain ⟨hFw, hJob, hBlock, hRunning, hOp⟩ := h
  simp [State.onJob, onlyIf, hFw, hJob, hBlock, hRunning, hOp]

/-- A meaning `m` that is an operation `f` of a running request does `f`. -/
theorem runs_of_unitRuns {c : Instr} {s : State} {n b op : Nat} {j : Job} {f : Job → State → State} {p : State → Prop}
    (m : State → Res) (h : s.unitRuns n b op j) (hp : p (f j s)) (hm : m s = s.onJob n b [op] f := by rfl)
    (hc : exec c s = m s := by rfl) : Runs c s p :=
  ⟨f j s, (hc.trans hm).trans (State.onJob_of_unitRuns h f), hp⟩

end Sys2Proof.Machine
end

section
/-! PROOFS. The parity engine's three requests (R350, R351). -/

namespace Sys2Proof.Machine

/-! ### The inputs of a request -/

/-- Where LIST reads well and fills nothing, the request runs on its buffers. -/
theorem State.withList_of_read {s : State} {d : Bytes} (hl : (s.dmaRead (paList d) 192).1 = 0)
    (hs : (s.dmaRead (paList d) 192).2.2 = s) (n : Nat) (f : State → State) : s.withList n d f = f s := by
  simp only [State.withList, hl, hs, ne_eq, not_true, if_false]

/-- What reading members leaves of the state. -/
theorem paReadGo_reads {d : Bytes} {is : List Nat} {s t : State} {acc bufs : List Bytes} (h : paReadGo d is s acc = (0, bufs, t)) :
    Stays { ev := true, mem := true, mc := true, hem := true, nvme := true, out := true } s t := by
  have hStays := paReadGo_stays (d := d) (x0 := is) (x1 := s) (x2 := acc)
  rwa [h] at hStays

/-! ### ENCODE and RECONSTRUCT -/

/-- Both write the wanted members; `member` computes one from the bytes read. -/
def State.paCompute (member : List Bytes → Nat → Bytes) (n : Nat) (d : Bytes) (s : State) : State :=
  s.withList n d fun s =>
    let r := paReadGo d (paUsed d) s []
    if s.paWild d then s.paFree n d
    else if r.1 ≠ 0 then r.2.2.endJob n r.1 0 0
    else r.2.2.paProduce n d ((paWant d).map fun w => (w, member r.2.1 w))

theorem State.paProduce_mem (s : State) (n : Nat) (d : Bytes) (ws : List Nat) (g : Nat → Bytes) :
    (s.paProduce n d (ws.map fun w => (w, g w))).mem = (ws.foldl (fun acc w => acc.dmaWrite (acc.paBuf d w) (g w)) s).mem := by
  rw [State.paProduce, List.foldl_map, State.endJob_mem]

theorem State.paProduce_ended {s : State} {n : Nat} {j : Job} (h : s.job n = some j) (d : Bytes) (out : List (Nat × Bytes)) :
    (s.paProduce n d out).ended n j 0 (paLen d * paK d) (paLen d * out.length) := by
  have hJob : (out.foldl (fun acc e => acc.dmaWrite (acc.paBuf d e.1) e.2) s).job n = s.job n :=
    (foldl_stays fun _ _ => State.dmaWrite_stays).same_job rfl n
  exact State.endJob_ended (hJob.trans h) _ _ _

theorem State.paCompute_writes {s s1 : State} {n : Nat} {j : Job} {d : Bytes} {bufs : List Bytes} (member : List Bytes → Nat → Bytes)
    (hj : s.job n = some j) (hl : (s.dmaRead (paList d) 192).1 = 0) (hs : (s.dmaRead (paList d) 192).2.2 = s)
    (hw : s.paWild d = false) (hr : paReadGo d (paUsed d) s [] = (0, bufs, s1)) :
    (s.paCompute member n d).mem = ((paWant d).foldl (fun acc w => acc.dmaWrite (acc.paBuf d w) (member bufs w)) s1).mem ∧
      (s.paCompute member n d).ended n j 0 (paLen d * paK d) (paLen d * (paWant d).length) := by
  have hRun : s.paCompute member n d = s1.paProduce n d ((paWant d).map fun w => (w, member bufs w)) := by
    simp only [State.paCompute, State.withList_of_read hl hs, hw, hr, Bool.false_eq_true, ne_eq, not_true, if_false]
  have hEnded := State.paProduce_ended (((paReadGo_reads hr).same_job rfl n).trans hj) d ((paWant d).map fun w => (w, member bufs w))
  rw [List.length_map] at hEnded
  rw [hRun]
  exact ⟨s1.paProduce_mem n d _ _, hEnded⟩

/-! ### CHECK -/

/-- The checked members that differ from what the others give, each with the first byte that differs. -/
def paBad (d : Bytes) (bufs held : List Bytes) : List (Nat × Nat) :=
  ((paWant d).zip held).filterMap fun e =>
    let c := memberFrom (paK d) (paLen d) (paUsed d) bufs e.1
    if c = e.2 then none else some (e.1, firstDiff 0 c e.2)

theorem paBad_eq_nil_iff {d : Bytes} {bufs held : List Bytes} :
    paBad d bufs held = [] ↔ ∀ e ∈ (paWant d).zip held, memberFrom (paK d) (paLen d) (paUsed d) bufs e.1 = e.2 := by
  simp [paBad, List.filterMap_eq_nil_iff]

/-- What CHECK does once both lists of members are read: RESULT and the counter say which members are bad (R351). -/
def State.paVerdict (s : State) (n : Nat) (d : Bytes) (bad : List (Nat × Nat)) : State :=
  let bits := bad.foldl (fun acc e => acc + 2 ^ e.1) 0
  let s1 := s.dmaWrite (paResult d) (le 4 bits ++ le 4 (bad.headD (0, 0)).2)
  let used := paLen d * ((paUsed d).length + (paWant d).length)
  if bad.isEmpty then s1.endJob n 0 used 0
  else State.endJob { s1 with parity := { s1.parity with mismatches := satInc 16 s1.parity.mismatches } } n ST_PARITY_MISMATCH used 0

theorem parityCheck_verdict {s s1 s2 : State} {n : Nat} {j : Job} {bufs held : List Bytes} (hu : s.unitRuns n 7 3 j)
    (hl : (s.dmaRead (paList j.desc) 192).1 = 0) (hs : (s.dmaRead (paList j.desc) 192).2.2 = s) (hw : s.paWild j.desc = false)
    (hr : paReadGo j.desc (paUsed j.desc) s [] = (0, bufs, s1)) (hh : paReadGo j.desc (paWant j.desc) s1 [] = (0, held, s2)) :
    Runs (.parityCheck n) s fun t => t = s2.paVerdict n j.desc (paBad j.desc bufs held) := by
  refine runs_of_unitRuns (execParityCheck n) hu ?_
  simp only [State.withList_of_read hl hs, hw, hr, hh, Bool.false_eq_true, ne_eq, not_true, if_false]
  rfl

section
variable {s : State} {n : Nat} {j : Job}

theorem State.paVerdict_good (d : Bytes) (h : s.job n = some j) :
    (s.paVerdict n d []).mem = (s.dmaWrite (paResult d) (zeros 8)).mem ∧ (s.paVerdict n d []).parity = s.parity ∧
      (s.paVerdict n d []).ended n j 0 (paLen d * ((paUsed d).length + (paWant d).length)) 0 := by
  have hStays := State.dmaWrite_stays (s := s) (a := paResult d) (bs := zeros 8)
  exact ⟨rfl, hStays.same_parity rfl, State.endJob_ended ((hStays.same_job rfl n).trans h) _ _ _⟩

theorem State.paVerdict_bad {d : Bytes} {bad : List (Nat × Nat)} (h : s.job n = some j) (hb : bad ≠ []) :
    (s.paVerdict n d bad).parity = { s.parity with mismatches := satInc 16 s.parity.mismatches } ∧
      (s.paVerdict n d bad).ended n j ST_PARITY_MISMATCH (paLen d * ((paUsed d).length + (paWant d).length)) 0 := by
  have hStays : Stays _ s (s.dmaWrite (paResult d) _) :=
    State.dmaWrite_stays (bs := le 4 (bad.foldl (fun acc e => acc + 2 ^ e.1) 0) ++ le 4 (bad.headD (0, 0)).2)
  have hEmpty : bad.isEmpty = false := List.isEmpty_eq_false_iff.mpr hb
  simp only [State.paVerdict, hEmpty, Bool.false_eq_true, if_false]
  exact ⟨congrArg (fun q => { q with mismatches := satInc 16 q.mismatches }) (hStays.same_parity rfl),
    State.endJob_ended ((hStays.same_job rfl n).trans h) _ _ _⟩

end

/-- Settles O44: ENCODE and RECONSTRUCT are `State.paCompute` with their own member function, and CHECK ends as its list of bad members,
empty or not, says. -/
theorem theParityEngineEncodesReconstructsAndChecks : Obligations.TheParityEngineEncodesReconstructsAndChecks := by
  unfold Obligations.TheParityEngineEncodesReconstructsAndChecks
  refine ⟨fun s s1 n j bufs hu hl hs hw hr => ?_, fun s s1 n j bufs hu hl hs hw hr => ?_,
    fun s s1 s2 n j bufs held hu hl hs hw hr hh hAgree => ?_, fun s s1 s2 n j bufs held hu hl hs hw hr hh hDiffer => ?_⟩
  · exact runs_of_unitRuns (execParityEncode n) hu
      (f := fun j => State.paCompute (fun bs w => parityOf (paK j.desc) (paLen j.desc) (w - paK j.desc) bs) n j.desc)
      (State.paCompute_writes _ hu.job_eq hl hs hw hr)
  · exact runs_of_unitRuns (execParityReconstruct n) hu
      (f := fun j => State.paCompute (memberFrom (paK j.desc) (paLen j.desc) (paUsed j.desc)) n j.desc)
      (State.paCompute_writes _ hu.job_eq hl hs hw hr)
  · have hReads := (paReadGo_reads hh).after (paReadGo_reads hr)
    obtain ⟨t, ht, rfl⟩ := parityCheck_verdict hu hl hs hw hr hh
    rw [paBad_eq_nil_iff.mpr hAgree] at ht
    obtain ⟨hMem, hParity, hEnded⟩ := State.paVerdict_good j.desc ((hReads.same_job rfl n).trans hu.job_eq)
    exact ⟨_, ht, hMem, hParity.trans (hReads.same_parity rfl), hEnded⟩
  · have hReads := (paReadGo_reads hh).after (paReadGo_reads hr)
    have hBad : paBad j.desc bufs held ≠ [] := by
      obtain ⟨e, he, hne⟩ := hDiffer
      exact fun hNil => hne (paBad_eq_nil_iff.mp hNil e he)
    obtain ⟨t, ht, rfl⟩ := parityCheck_verdict hu hl hs hw hr hh
    obtain ⟨hParity, hEnded⟩ := State.paVerdict_bad (d := j.desc) ((hReads.same_job rfl n).trans hu.job_eq) hBad
    rw [hReads.same_parity rfl] at hParity
    exact ⟨_, ht, hParity, hEnded⟩

end Sys2Proof.Machine
end

section
/-! PROOFS. The digest engine: DIGEST from INIT to its result or to a short stream, and SLOT_LOAD (R244, R246, R248, R250). -/

namespace Sys2Proof.Machine

/-! ### The start of a computation -/

theorem State.digestStart_hash {s : State} {n : Nat} {x : DigestDesc} (hi : x.init = true) (hn : SMap.get s.digest.saved n = none)
    (hm : x.hmac = false) : s.digestStart n x = (0, (algInit x.alg, 0, 0, 0), s) := by
  simp [State.digestStart, hi, hn, hm]

theorem State.digestStart_hmac {s : State} {n : Nat} {x : DigestDesc} {k : HmacSlot} (hi : x.init = true)
    (hn : SMap.get s.digest.saved n = none) (hm : x.hmac = true) (hk : SMap.get s.digest.bound n = some k) :
    s.digestStart n x = (0, (k.inner, algBlock x.alg, 0, 0), s) := by
  simp [State.digestStart, hi, hn, hm, hk]

/-! ### The end of a computation -/

/-- The hash of a state after the source and tail blocks (R244). -/
def DigestDesc.hashed (x : DigestDesc) (st : List Nat) (source tail : Bytes) : List Nat :=
  shaAbsorb (algKind x.alg) (shaAbsorb (algKind x.alg) st source) tail

theorem State.digestResult_hash {x : DigestDesc} (hm : x.hmac = false) (s : State) (n : Nat) (st : List Nat) :
    s.digestResult n x st = (shaOut (algKind x.alg) st).take (algLen x.alg) := by
  simp [State.digestResult, hm]

theorem State.digestResult_hmac {s : State} {n : Nat} {x : DigestDesc} {k : HmacSlot} (hm : x.hmac = true)
    (hk : SMap.get s.digest.bound n = some k) (st : List Nat) :
    s.digestResult n x st = k.outer ((shaOut (algKind x.alg) st).take (algLen x.alg)) := by
  simp [State.digestResult, hm, hk]

theorem State.digestDeliver_written {s : State} {x : DigestDesc} (hc : x.compare = false) (n : Nat) (res : Bytes) (used status : Nat) :
    s.digestDeliver n x res used status = (s.dmaWrite x.result res).endJob n status used res.length := by
  simp [State.digestDeliver, hc]

theorem State.digestDeliver_compared {s : State} {x : DigestDesc} {e : Bytes} (hc : x.compare = true)
    (he : s.dmaRead x.result (algLen x.alg) = (0, e, s)) (n : Nat) (res : Bytes) (used : Nat) :
    s.digestDeliver n x res used 0 = s.endJob n (if e = res then 0 else ST_DIGEST_MISMATCH) used 0 := by
  simp only [State.digestDeliver, hc, he, ne_eq, not_true, if_true, if_false]
  split <;> rfl

/-! ### A DIGEST request -/

/-- The slot bound to a request, if any, serves its ALG. -/
def DigestDesc.servedBy (x : DigestDesc) : Option HmacSlot → Bool
  | some k => !x.hmac || k.alg == x.alg
  | none => true

theorem DigestDesc.servedBy_hash {x : DigestDesc} (hm : x.hmac = false) (o : Option HmacSlot) : x.servedBy o = true := by
  cases o with
  | none => rfl
  | some k => simp [DigestDesc.servedBy, hm]

theorem DigestDesc.servedBy_slot {x : DigestDesc} {k : HmacSlot} (h : k.alg = x.alg) : x.servedBy (some k) = true := by
  simp [DigestDesc.servedBy, h]

/-- What DIGEST does with a running request. -/
def State.digestStep (n : Nat) (data : Bytes) (j : Job) (s : State) : State :=
  let x := digestDesc j.desc
  (if x.known && x.whole && x.servedBy (SMap.get s.digest.bound n) then s.digestRun n x data else s.digestFree n x).digestDone n

/-- A DIGEST of whole blocks, of an ALG that is computed and that a bound slot serves, runs. -/
theorem runs_digest {s : State} {n : Nat} {data : Bytes} {j : Job} {p : State → Prop} (hu : s.unitRuns n 3 1 j)
    (hk : (digestDesc j.desc).known = true) (hw : (digestDesc j.desc).whole = true)
    (hb : (digestDesc j.desc).servedBy (SMap.get s.digest.bound n) = true)
    (hp : p ((s.digestRun n (digestDesc j.desc) data).digestDone n)) : Runs (.digest n data) s p := by
  refine runs_of_unitRuns (execDigest n data) hu (f := State.digestStep n data) ?_
  simpa only [State.digestStep, hk, hw, hb, Bool.and_self, if_true] using hp

/-- A request with INIT and FINAL that reads its source and tail delivers what they hash to. -/
theorem State.digestRun_delivers {s : State} {n done : Nat} {x : DigestDesc} {st : List Nat} {a b : Bytes} (hs : x.stream = false)
    (hf : x.final = true) (ha : s.dmaRead x.src x.len = (0, a, s)) (hb : s.dmaRead x.tail (x.tails * algBlock x.alg) = (0, b, s))
    (h0 : s.digestStart n x = (0, (st, done, 0, 0), s)) (data : Bytes) :
    s.digestRun n x data = s.digestDeliver n x (s.digestResult n x (x.hashed st a b)) (x.len + x.tails * algBlock x.alg) 0 := by
  simp [State.digestRun, DigestDesc.hashed, hs, hf, ha, hb, h0]

/-- A stream that ends before LEN leaves no result and no context where CTX is 0 (R248). -/
theorem State.digestRun_short {s : State} {n done : Nat} {x : DigestDesc} {st : List Nat} {data : Bytes} (hs : x.stream = true)
    (hc : x.ctx = 0) (hd : data.length < x.len) (h0 : s.digestStart n x = (0, (st, done, 0, 0), s)) :
    s.digestRun n x data = s.endJob n ST_DIGEST_LEN_SHORT (data.length / algBlock x.alg * algBlock x.alg) 0 := by
  simp [State.digestRun, hs, hc, hd, h0]

@[simp] theorem State.digestDone_slots (s : State) (n : Nat) : (s.digestDone n).digest.slots = s.digest.slots := rfl

/-- A request changes no HMAC slot; it forgets the one bound to it. -/
theorem State.digestRun_slots {s : State} {n : Nat} {x : DigestDesc} {data : Bytes} :
    ((s.digestRun n x data).digestDone n).digest.slots = s.digest.slots :=
  (State.digestDone_slots _ n).trans (congrArg DigestSt.slots (State.digestRun_stays.same_digest rfl))

/-! ### SLOT_LOAD -/

/-- The change that a SLOT_LOAD records, where no key byte is left free. -/
theorem slotLoad_records {s : State} {n : Nat} {j : Job} {k : Option HmacSlot} (hu : s.unitRuns n 3 2 j)
    (hk : s.slotLoadTo j.desc = (k, s)) :
    Runs (.slotLoad n) s fun t =>
      t.digest = { s.digest with changes := s.digest.changes ++ [⟨num j.desc 18 1, k⟩] } ∧ t.ended n j 0 0 0 := by
  refine runs_of_unitRuns (execSlotLoad n) hu ?_
  simp only [hk]
  exact ⟨rfl, State.endJob_ended hu.job_eq 0 0 0⟩

theorem State.slotLoadTo_clear {s : State} {d : Bytes} (h : (digestDesc d).len = 0) : s.slotLoadTo d = (none, s) := by
  simp [State.slotLoadTo, h]

theorem State.slotLoadTo_key {s : State} {d : Bytes} (h0 : 0 < (digestDesc d).len) (h : (digestDesc d).len ≤ 64) :
    s.slotLoadTo d = (some ⟨(digestDesc d).alg, (s.keyBits ((digestDesc d).src % 65536)).take (digestDesc d).len⟩, s) := by
  simp [State.slotLoadTo, h0.ne', h]

/-- Settles O32: each DIGEST clause is where the computation starts, what it delivers and how that ends; each SLOT_LOAD clause is the change
recorded. -/
theorem digestsAreComputedComparedAndBound : Obligations.DigestsAreComputedComparedAndBound := by
  unfold Obligations.DigestsAreComputedComparedAndBound
  refine ⟨fun s n data j a b hu hk hw hs hm hc ha hb hn hi hf => ?_, fun s n data j a b k hu hk hw hs hm hKey hAlg hc ha hb hn hi hf => ?_,
    fun s n data j a b e hu hk hw hs hm hc ha hb hn hi hf he => ?_, fun s n data j b hu hk hw hs hi hx hm hn hd => ?_,
    fun s n j hu h0 => slotLoad_records hu (State.slotLoadTo_clear h0),
    fun s n j hu h0 h => slotLoad_records hu (State.slotLoadTo_key h0 h)⟩
  · refine runs_digest hu hk hw (DigestDesc.servedBy_hash hm _) ?_
    rw [State.digestRun_delivers hs hf ha hb (State.digestStart_hash hi hn hm), State.digestResult_hash hm, State.digestDeliver_written hc]
    exact ⟨rfl, State.endJob_ended ((State.dmaWrite_stays.same_job rfl n).trans hu.job_eq) _ _ _⟩
  · refine runs_digest hu hk hw (hKey ▸ DigestDesc.servedBy_slot hAlg) ⟨?_, State.digestRun_slots⟩
    rw [State.digestRun_delivers hs hf ha hb (State.digestStart_hmac hi hn hm hKey), State.digestResult_hmac hm hKey,
      State.digestDeliver_written hc]
    rfl
  · refine runs_digest hu hk hw (DigestDesc.servedBy_hash hm _) ?_
    rw [State.digestRun_delivers hs hf ha hb (State.digestStart_hash hi hn hm), State.digestResult_hash hm,
      State.digestDeliver_compared hc he]
    exact ⟨rfl, rfl, State.endJob_ended hu.job_eq _ _ _⟩
  · refine runs_digest hu hk hw (DigestDesc.servedBy_hash hm _) ?_
    rw [State.digestRun_short hs hx hd (State.digestStart_hash hi hn hm)]
    exact ⟨rfl, rfl, State.endJob_ended hu.job_eq _ _ _⟩

end Sys2Proof.Machine
end

section
/-! PROOFS. A body that is complete while the other stream's bundle of the epoch before is not here: the order of R327 makes its replay wait.
The case refutes a statement that leaves it out. -/

namespace Sys2Proof.Machine

/-! ### A body ahead of the other stream -/

/-- `bareHead` sequencing stream 0, its peer in service. Epoch 2 of stream 0 is sealed and without a chunk, epoch 1 replayed; of stream 1,
which the peer sequences, nothing has come yet. -/
def aheadHead : State :=
  { bareHead with
    seam := { peerState := 0 }
    head := { st0 := { mine := true, sealedEpn := 2, sealSeen := 2, bodySeen := 1, replayed := 1
                       bundles := [(2, { sealed := true, own := true })] } } }

/-- Epoch 1 of stream 1, which the peer will send, is applied before epoch 2 of stream 0 (R327): the newest epoch of stream 0 that has been
replayed is still epoch 1. -/
theorem bodyComplete_aheadHead_waits : ((aheadHead.after (.bodyComplete 0 2)).stream 0).replayed = 1 := by decide +kernel

/-- Refutes O31 at its first clause, which has the epoch replayed as soon as its body is complete and asks nothing of the other stream: on
`aheadHead` the completed body of epoch 2 waits for epoch 1 of stream 1. -/
theorem not_bundlesAreBuiltHeadedAndCompleted : ¬ Obligations.BundlesAreBuiltHeadedAndCompleted := by
  unfold Obligations.BundlesAreBuiltHeadedAndCompleted
  rintro ⟨hBody, -⟩
  obtain ⟨-, hReplayed, -⟩ := (hBody aheadHead 0 2 (by decide) (by decide) (by decide) (by decide) (by decide) (by decide) (by decide)).after
  have hTwo : ((aheadHead.after (.bodyComplete 0 2)).stream 0).replayed = 2 := hReplayed
  exact absurd (bodyComplete_aheadHead_waits.symm.trans hTwo) (by decide)

end Sys2Proof.Machine
end

section
/-! PROOFS. Admission of a waiting command and its fills (R205, R210 to R212, R219). -/

namespace Sys2Proof.Machine

/-! ### What moving data in and entering records write of a stream -/

@[simp] theorem State.setStream_md (s : State) (i : Nat) (v : StreamSt) : (s.setStream i v).head.md = s.head.md := by
  unfold State.setStream
  split <;> rfl

theorem Stays.same_stream {m : Mask} {s t : State} (h : Stays m s t) (b : m.head = false) (i : Nat) : t.stream i = s.stream i := by
  simp only [State.stream, h.same_head b]

theorem Stays.same_epn {m : Mask} {s t : State} (h : Stays m s t) (hTime : m.time = false) (hParams : m.params = false) : t.epn = s.epn := by
  simp only [State.epn, State.epnAt, State.epochLen, State.p, h.same_time hTime, h.same_params hParams]

/-- Data that move in mark waiting commands; the stream is otherwise as it was, and so is the map. -/
theorem State.moveIn_waitingOnly (s : State) (i : Nat) :
    (s.moveIn i).stream i = { s.stream i with waiting := ((s.moveIn i).stream i).waiting } ∧ (s.moveIn i).head.md = s.head.md := by
  unfold State.moveIn
  refine List.foldlRecOn _ _ (motive := fun a : State => a.stream i = { s.stream i with waiting := (a.stream i).waiting } ∧ a.head.md = s.head.md)
    ⟨rfl, rfl⟩ fun a ha w _ => ?_
  split
  · exact ha
  · obtain ⟨hStream, hMd⟩ := ha
    exact ⟨by rw [State.stream_setStream_self, hStream], (State.setStream_md _ _ _).trans hMd⟩

/-- Records that are entered join the work of their stream, which is otherwise as it was. -/
theorem enterWork_workOnly (s0 : State) (x : WaitCmd) (keep : Bool) (epn : Nat) (n : Ns) (i : Nat) (ts : List Nat) (ps : List Plan) (ssn : Nat)
    (s : State) :
    (enterWork s0 x keep epn n ts ps ssn s i).stream i =
      { s.stream i with work := ((enterWork s0 x keep epn n ts ps ssn s i).stream i).work } := by
  induction ps generalizing ts ssn s with
  | nil => rfl
  | cons p rest ih =>
    rw [enterWork, ih]
    split
    · rw [State.stream_setStream_self]
    · rfl

@[simp] theorem State.setCredits_stream (s : State) (i j : Nat) (c : CreditSt) : (s.setCredits i c).stream j = s.stream j :=
  State.setCredits_stays.same_stream rfl j

@[simp] theorem dropFills_cmd (nsid : Nat) (nos : List Nat) (w : WaitCmd) : (dropFills nsid nos w).cmd = w.cmd := by
  unfold dropFills
  split <;> rfl

/-! ### A command admitted or turned away -/

/-- The stream of a command after its admission: its records are numbered on from the next SSN, in the epoch at hand (R212). -/
theorem State.admitCmd_numbers {s : State} {i : Nat} {w : WaitCmd} {n : Ns} (hn : s.ns (opNsid w.op) = some n) :
    ((s.admitCmd i w).stream i).nextSsn = (s.stream i).nextSsn + (s.plans w.op).length ∧
      ((s.admitCmd i w).stream i).waiting.all (fun x => x.cmd != w.cmd) = true ∧
      ((s.admitCmd i w).stream i).epochBytes = (s.stream i).epochBytes + s.opBytes w.op ∧
      ∃ c : AdmCmd, ((s.admitCmd i w).stream i).cmds = (s.stream i).cmds ++ [c] ∧ c.cmd = w.cmd ∧ c.epn = s.epn ∧
        c.firstSsn = (s.stream i).nextSsn ∧ c.count = (s.plans w.op).length := by
  simp only [State.admitCmd, hn, State.setCredits_stream, State.stream_setStream_self, State.enterCmd_stays.same_stream rfl]
  rw [enterWork_workOnly]
  refine ⟨rfl, ?_, rfl, _, rfl, rfl, rfl, rfl, rfl⟩
  simp [List.all_map, List.all_filter, Function.comp_def]

/-- A command turned away leaves the waiting list; nothing of it is admitted (R205). -/
theorem State.turnAway_drops (s : State) (i : Nat) (w : WaitCmd) (st : NvmeSt) :
    (s.turnAway i w st).stream i = { s.stream i with waiting := (s.stream i).waiting.filter (·.cmd != w.cmd) } ∧
      (s.turnAway i w st).head.md = s.head.md := by
  have reply_head : ∀ {t : State} {c : CmdId} {b : Bool} {x : NvmeSt}, (t.reply c b x).head = t.head := State.reply_stays.same_head rfl
  have hHead : (s.turnAway i w st).head =
      (s.setStream i { s.stream i with waiting := (s.stream i).waiting.filter (·.cmd != w.cmd) }).head := by
    unfold State.turnAway
    dsimp only
    split <;> simp only [reply_head]
  refine ⟨?_, by rw [hHead, State.setStream_md]⟩
  rw [← State.stream_setStream_self s i { s.stream i with waiting := (s.stream i).waiting.filter (·.cmd != w.cmd) }]
  simp only [State.stream, hHead]

/-! ### COMMAND_ADMIT and FILL_OBTAINED -/

theorem State.fetchedBefore_cmd {s : State} {i : Nat} {cmd : CmdId} {l : List WaitCmd} {w : WaitCmd} (h : s.fetchedBefore i cmd = some (l, w)) :
    w.cmd = cmd := by
  obtain ⟨x, hx, heq⟩ := Option.map_eq_some_iff.mp h
  cases heq
  exact beq_iff_eq.mp (List.find?_some (p := fun w : WaitCmd => w.cmd == cmd) hx)

/-- Where the command waits, the rules are asked of the state in which the data have moved in. -/
theorem execCommandAdmit_waiting {s : State} {cmd : CmdId} {i : Nat} {l : List WaitCmd} {w : WaitCmd} (hw : s.waitsIn cmd = some i)
    (hf : (s.moveIn i).fetchedBefore i cmd = some (l, w)) :
    exec (.commandAdmit cmd) s = .next (if !((s.moveIn i).admitting i && notHeldBack cmd l) then s.moveIn i
      else if !(s.moveIn i).resvOk w then (s.moveIn i).turnAway i w nvConflict
      else if (s.moveIn i).canAdmit i w then (s.moveIn i).admitCmd i w else s.moveIn i) := by
  change execCommandAdmit cmd s = _
  simp only [execCommandAdmit, hw, hf]

theorem commandAdmit_admits {s : State} {cmd : CmdId} {i : Nat} {l : List WaitCmd} {w : WaitCmd} {n : Ns} (hw : s.waitsIn cmd = some i)
    (hf : (s.moveIn i).fetchedBefore i cmd = some (l, w)) (ha : (s.moveIn i).admitting i = true) (hl : notHeldBack cmd l = true)
    (hr : (s.moveIn i).resvOk w = true) (hc : (s.moveIn i).canAdmit i w = true) (hn : (s.moveIn i).ns (opNsid w.op) = some n) :
    Runs (.commandAdmit cmd) s fun t => (t.stream i).nextSsn = (s.stream i).nextSsn + ((s.moveIn i).plans w.op).length ∧
      (t.stream i).waiting.all (fun x => x.cmd != cmd) = true ∧
      (t.stream i).epochBytes = (s.stream i).epochBytes + (s.moveIn i).opBytes w.op ∧ t.out = s.out ∧
      ∃ c : AdmCmd, (t.stream i).cmds = (s.stream i).cmds ++ [c] ∧ c.cmd = cmd ∧ c.epn = s.epn ∧ c.firstSsn = (s.stream i).nextSsn ∧
        c.count = ((s.moveIn i).plans w.op).length := by
  refine ⟨(s.moveIn i).admitCmd i w, ?_, ?_⟩
  · simp only [execCommandAdmit_waiting hw hf, ha, hl, hr, hc, Bool.and_self, Bool.not_true, Bool.false_eq_true, if_false, if_true]
  · have hOut : ((s.moveIn i).admitCmd i w).out = s.out := (State.admitCmd_stays.same_out rfl).trans (State.moveIn_stays.same_out rfl)
    have hEpn : (s.moveIn i).epn = s.epn := State.moveIn_stays.same_epn rfl rfl
    obtain ⟨hSsn, hGone, hBytes, hCmd⟩ := State.admitCmd_numbers (i := i) hn
    rw [(s.moveIn_waitingOnly i).1] at hSsn hBytes hCmd
    rw [State.fetchedBefore_cmd hf] at hGone hCmd
    rw [hEpn] at hCmd
    exact ⟨hSsn, hGone, hBytes, hOut, hCmd⟩

theorem commandAdmit_conflicts {s : State} {cmd : CmdId} {i : Nat} {l : List WaitCmd} {w : WaitCmd} (hw : s.waitsIn cmd = some i)
    (hf : (s.moveIn i).fetchedBefore i cmd = some (l, w)) (ha : (s.moveIn i).admitting i = true) (hl : notHeldBack cmd l = true)
    (hr : (s.moveIn i).resvOk w = false) :
    Runs (.commandAdmit cmd) s fun t => (t.stream i).waiting = ((s.moveIn i).stream i).waiting.filter (·.cmd != cmd) ∧
      (t.stream i).cmds = (s.stream i).cmds ∧ (t.stream i).nextSsn = (s.stream i).nextSsn ∧ t.head.md = s.head.md := by
  refine ⟨(s.moveIn i).turnAway i w nvConflict, ?_, ?_⟩
  · simp only [execCommandAdmit_waiting hw hf, ha, hl, hr, Bool.and_self, Bool.not_true, Bool.not_false, Bool.false_eq_true, if_false, if_true]
  · obtain ⟨hStream, hMd⟩ := (s.moveIn i).turnAway_drops i w nvConflict
    obtain ⟨hMoved, hMovedMd⟩ := s.moveIn_waitingOnly i
    have hCmds : ((s.moveIn i).stream i).cmds = (s.stream i).cmds := by rw [hMoved]
    have hSsn : ((s.moveIn i).stream i).nextSsn = (s.stream i).nextSsn := by rw [hMoved]
    rw [hStream, State.fetchedBefore_cmd hf]
    exact ⟨rfl, hCmds, hSsn, hMd.trans hMovedMd⟩

theorem commandAdmit_holds {s : State} {cmd : CmdId} {i : Nat} {l : List WaitCmd} {w : WaitCmd} (hw : s.waitsIn cmd = some i)
    (hf : (s.moveIn i).fetchedBefore i cmd = some (l, w))
    (h : (s.moveIn i).admitting i = false ∨ notHeldBack cmd l = false ∨ ((s.moveIn i).resvOk w = true ∧ (s.moveIn i).canAdmit i w = false)) :
    Runs (.commandAdmit cmd) s fun t => t = s.moveIn i := by
  refine ⟨s.moveIn i, ?_, rfl⟩
  rw [execCommandAdmit_waiting hw hf]
  rcases h with ha | hl | ⟨hr, hc⟩
  · simp [ha]
  · simp [hl]
  · simp [hr, hc]

theorem fillObtained_stores {s : State} {cmd : CmdId} {i c : Nat} {w : WaitCmd} {n : Ns} (b : Bytes) (x : BitVec 2) (hUp : s.headUp = true)
    (hw : s.waitsIn cmd = some i) (hOne : (s.stream i).waiting = [w]) (hCmd : w.cmd = cmd) (hc : c ∈ s.missingFills w)
    (hn : s.ns (opNsid w.op) = some n) :
    Runs (.fillObtained cmd c b x) s fun t =>
      (t.stream i).waiting = [{ w with fills := w.fills ++ [(c, zeroLost x.toNat (padTo (s.nsChunk n) b), x.toNat)] }] ∧ t.head.md = s.head.md := by
  refine runs_onlyIf (execFillObtained cmd c b x) hUp rfl rfl ?_
  have hMissing : (s.missingFills w).contains c = true := List.contains_iff_mem.mpr hc
  simp only [hw, hOne, List.map_cons, List.map_nil, hCmd, hMissing, hn, beq_self_eq_true, Bool.and_self, if_true]
  exact ⟨congrArg StreamSt.waiting (State.stream_setStream_self _ _ _), State.setStream_md _ _ _⟩

/-- Settles O30: the three ends of COMMAND_ADMIT on a waiting command, and FILL_OBTAINED. -/
theorem admissionNumbersCommandsInTheCurrentEpoch : Obligations.AdmissionNumbersCommandsInTheCurrentEpoch := by
  unfold Obligations.AdmissionNumbersCommandsInTheCurrentEpoch
  refine ⟨?_, ?_, ?_, fun _ _ _ _ _ _ b x hUp hw hOne hCmd hc hn => fillObtained_stores b x hUp hw hOne hCmd hc hn⟩
  · rintro s _ cmd i l w n hw rfl hf ha hl hr hc hn
    exact commandAdmit_admits hw hf ha hl hr hc hn
  · rintro s _ cmd i l w hw rfl hf ha hl hr
    exact commandAdmit_conflicts hw hf ha hl hr
  · rintro s _ cmd i l w hw rfl hf h
    exact commandAdmit_holds hw hf h

end Sys2Proof.Machine
end

section
/-! PROOFS. Resets of controllers, enabling, keep-alive expiry and the HP link (R178 to R181, R207). -/

namespace Sys2Proof.Machine

/-! ### Controllers -/

@[simp] theorem State.ctrl_setCtrl_same (s : State) (c : Nat) (k : Ctrl) : (s.setCtrl c k).ctrl c = k := by
  simp only [State.ctrl, State.setCtrl, SMap.getD, SMap.get_set_same, Option.getD_some]

theorem State.ctrl_setCtrl_other (s : State) {c x : Nat} (k : Ctrl) (h : x ≠ c) : (s.setCtrl c k).ctrl x = s.ctrl x := by
  simp only [State.ctrl, State.setCtrl, SMap.getD, SMap.get_set_other _ _ _ _ h]

/-- A controller as its reset leaves it (R180): disabled, without queues. -/
def Ctrl.isReset (k : Ctrl) : Prop := k.en = false ∧ k.sqs = [] ∧ k.cqs = []

theorem State.ctrl_resetCtrl_same (s : State) (c : Nat) : ((s.resetCtrl c).ctrl c).isReset ∧ ((s.resetCtrl c).ctrl c).hostNqn = (s.ctrl c).hostNqn := by
  simp only [State.ctrl, State.resetCtrl, SMap.getD, SMap.get_set_same, Option.getD_some]
  exact ⟨⟨rfl, rfl, rfl⟩, trivial⟩

theorem State.ctrl_resetCtrl_other (s : State) {c x : Nat} (h : x ≠ c) : (s.resetCtrl c).ctrl x = s.ctrl x := by
  simp only [State.ctrl, State.resetCtrl, SMap.getD, SMap.get_set_other _ _ _ _ h]

/-- Resets take no reset back. -/
theorem foldl_resetCtrl_isReset {l : List Nat} {s : State} {c : Nat} (h : c ∈ l ∨ (s.ctrl c).isReset) : ((l.foldl State.resetCtrl s).ctrl c).isReset := by
  induction l generalizing s with
  | nil => simpa using h
  | cons x xs ih =>
    refine ih ?_
    by_cases hx : c = x
    · exact Or.inr (hx ▸ (s.ctrl_resetCtrl_same c).1)
    · rw [s.ctrl_resetCtrl_other hx]
      simpa [hx] using h

theorem foldl_resetCtrl_ns (l : List Nat) (s : State) : (l.foldl State.resetCtrl s).nvme.ns = s.nvme.ns := by
  induction l generalizing s with
  | nil => rfl
  | cons x xs ih => exact ih (s.resetCtrl x)

/-- A reset of HP ends every controller of it and every virtual function, and no namespace. -/
theorem State.resetHp_ends {s : State} {c : Nat} (h : c ∈ s.hpCtrls) :
    s.resetHp.nvme.numVfs = 0 ∧ (s.resetHp.ctrl c).isReset ∧ s.resetHp.nvme.ns = s.nvme.ns :=
  ⟨rfl, foldl_resetCtrl_isReset (s := s) (.inl h), foldl_resetCtrl_ns _ _⟩

/-! ### What notices and completions write of the host interface -/

/-- From `s` to `t` the host interface changes in its Error log and in controllers alone, and in none that is disabled and has no completion
queue. -/
structure NoticesOnly (s t : State) : Prop where
  rest : t.nvme = { s.nvme with ctrls := t.nvme.ctrls, errors := t.nvme.errors, errCount := t.nvme.errCount }
  ctrl : ∀ c, (s.ctrl c).en = false → (s.ctrl c).cqs = [] → t.ctrl c = s.ctrl c

theorem NoticesOnly.of_nvme {s t : State} (h : t.nvme = s.nvme) : NoticesOnly s t :=
  ⟨by rw [h], fun c _ _ => congrArg (fun n : NvmeSub => SMap.getD n.ctrls c {}) h⟩

theorem NoticesOnly.after {a b c : State} (h2 : NoticesOnly b c) (h1 : NoticesOnly a b) : NoticesOnly a c := by
  refine ⟨by rw [h2.rest, h1.rest], fun x hEn hCqs => ?_⟩
  have hSame := h1.ctrl x hEn hCqs
  rw [h2.ctrl x (hSame ▸ hEn) (hSame ▸ hCqs), hSame]

theorem NoticesOnly.emit {s t : State} (h : NoticesOnly s t) (o : Out) : NoticesOnly s (t.emit o) :=
  (NoticesOnly.of_nvme (t.emit_nvme o)).after h

theorem NoticesOnly.setCtrl {s : State} {c : Nat} (k : Ctrl) (h : (s.ctrl c).en = true ∨ (s.ctrl c).cqs ≠ []) : NoticesOnly s (s.setCtrl c k) := by
  refine ⟨rfl, fun x hEn hCqs => s.ctrl_setCtrl_other k ?_⟩
  rintro rfl
  rcases h with h | h
  · exact Bool.false_ne_true (hEn.symm.trans h)
  · exact h hCqs

theorem State.logError_noticesOnly (s : State) (x : NvCpl) : NoticesOnly s (s.logError x) := by
  unfold State.logError
  split
  · exact .of_nvme rfl
  · exact ⟨rfl, fun _ _ _ => rfl⟩

theorem State.post_noticesOnly (s : State) (x : NvCpl) : NoticesOnly s (s.post x) := by
  refine NoticesOnly.after ?_ (s.logError_noticesOnly x)
  unfold State.post
  generalize s.logError x = g
  dsimp only
  split
  · exact .of_nvme rfl
  · rename_i cq hcq
    have hCqs : (g.ctrl x.cmd.cntlid).cqs ≠ [] := by
      intro h
      simp [h, SMap.get] at hcq
    split
    · exact (NoticesOnly.setCtrl _ (.inr hCqs)).emit _
    · exact NoticesOnly.setCtrl _ (.inr hCqs)

theorem State.noticeTo_noticesOnly (s : State) (c v : Nat) : NoticesOnly s (s.noticeTo c v) := by
  unfold State.noticeTo
  dsimp only
  split
  · exact .of_nvme rfl
  · rename_i hEn
    have hOn : (s.ctrl c).en = true := by simpa using hEn
    split
    · exact .setCtrl _ (.inl hOn)
    · split
      · exact .setCtrl _ (.inl hOn)
      · exact (State.post_noticesOnly _ _).after (.setCtrl _ (.inl hOn))

theorem State.vendorNotice_noticesOnly (s : State) (v : Nat) : NoticesOnly s (s.vendorNotice v) := by
  unfold State.vendorNotice State.noticeAll
  split
  · exact List.foldlRecOn _ _ (motive := NoticesOnly s) (.of_nvme rfl) fun a h c _ => (a.noticeTo_noticesOnly c v).after h
  · exact .of_nvme rfl

theorem State.ringNotice_noticesOnly (s : State) : NoticesOnly s s.ringNotice := by
  unfold State.ringNotice
  split
  · exact (State.vendorNotice_noticesOnly _ _).after (.of_nvme rfl)
  · exact .of_nvme rfl

theorem State.event_noticesOnly (s : State) (code src : Nat) : NoticesOnly s (s.event code src) :=
  (State.ringNotice_noticesOnly _).after (.of_nvme rfl)

theorem State.alarmMoved_noticesOnly (s : State) (code src : Nat) (raised : Bool) : NoticesOnly s (s.alarmMoved code src raised) := by
  have h : NoticesOnly s (s.ringNotice.vendorNotice noticeAlarm) := (State.vendorNotice_noticesOnly _ _).after s.ringNotice_noticesOnly
  unfold State.alarmMoved
  dsimp only
  split
  · exact h.emit _
  · exact h

theorem State.alarm_noticesOnly (s : State) (code src : Nat) : NoticesOnly s (s.alarm code src) := by
  unfold State.alarm
  dsimp only
  split
  · exact (State.alarmMoved_noticesOnly _ _ _ _).after (.of_nvme rfl)
  · exact .of_nvme rfl

theorem State.clearAlarm_noticesOnly (s : State) (code src : Nat) : NoticesOnly s (s.clearAlarm code src) := by
  unfold State.clearAlarm
  dsimp only
  split
  · exact (State.alarmMoved_noticesOnly _ _ _ _).after (.of_nvme rfl)
  · exact .of_nvme rfl

/-! ### Resets and enabling -/

theorem perstNAssert_resets {s : State} {c : Nat} (h : s.pins.perstN = true) (hc : c ∈ s.hpCtrls) :
    Runs .perstNAssert s fun t => t.pins.perstN = false ∧ t.nvme.numVfs = 0 ∧ (t.ctrl c).en = false ∧ (t.ctrl c).sqs = [] ∧ (t.ctrl c).cqs = [] ∧
      t.nvme.ns = s.nvme.ns := by
  refine runs_onlyIf execPerstNAssert h rfl rfl ?_
  obtain ⟨hVfs, ⟨hEn, hSqs, hCqs⟩, hNs⟩ := State.resetHp_ends (s := { s with pins := { s.pins with perstN := false } }) (c := c) hc
  exact ⟨congrArg Pins.perstN (State.resetHp_stays.same_pins rfl), hVfs, hEn, hSqs, hCqs, hNs⟩

theorem hotReset_resets {s : State} {c : Nat} (hl : s.live = true) (hp : s.pins.perstN = true) (hh : s.isHead = true) (hc : c ∈ s.hpCtrls) :
    Runs .hotReset s fun t => t.nvme.numVfs = 0 ∧ (t.ctrl c).en = false ∧ (t.ctrl c).sqs = [] ∧ (t.ctrl c).cqs = [] ∧ t.nvme.ns = s.nvme.ns := by
  refine runs_onlyIf execHotReset (by simp [hl, hp, hh]) rfl rfl ?_
  obtain ⟨hVfs, ⟨hEn, hSqs, hCqs⟩, hNs⟩ := State.resetHp_ends hc
  exact ⟨hVfs, hEn, hSqs, hCqs, hNs⟩

theorem functionLevelReset_resetsOne {s : State} {f : Fin 16} {c : Nat} (hl : s.live = true) (hp : s.pins.perstN = true) (hh : s.isHead = true)
    (hf : f.val ≤ s.nvme.numVfs) (hc : c ≠ s.ctrlBase + 1 + f.val) :
    Runs (.functionLevelReset f) s fun t => (t.ctrl (s.ctrlBase + 1 + f.val)).en = false ∧ (t.ctrl (s.ctrlBase + 1 + f.val)).sqs = [] ∧
      (t.ctrl (s.ctrlBase + 1 + f.val)).cqs = [] ∧ t.ctrl c = s.ctrl c ∧ t.nvme.ns = s.nvme.ns := by
  refine runs_onlyIf (execFunctionLevelReset f) (by simp [hl, hp, hh, hf]) rfl rfl ?_
  obtain ⟨⟨hEn, hSqs, hCqs⟩, -⟩ := s.ctrl_resetCtrl_same (s.ctrlBase + 1 + f.val)
  exact ⟨hEn, hSqs, hCqs, s.ctrl_resetCtrl_other hc, rfl⟩

theorem ccEnSet_enables {s : State} {c a b : Nat} (hl : s.live = true) (hh : s.isHead = true) (hOff : (s.ctrl c).en = false)
    (hk : (s.ctrlKind c).pcie = true) (hp : s.pins.perstN = true) (ha : 2 ≤ a ∧ a ≤ 4096) (hb : 2 ≤ b ∧ b ≤ 4096) :
    Runs (.ccEnSet c a b) s fun t => (t.ctrl c).en = true ∧ SMap.get (t.ctrl c).sqs 0 = some { size := a, cqid := 0 } ∧
      SMap.get (t.ctrl c).cqs 0 = some { size := b } ∧ ∀ x, x ≠ c → t.ctrl x = s.ctrl x := by
  refine runs_onlyIf (execCcEnSet c a b) ?_ (by rw [execCcEnSet]) rfl ?_
  · simp [hl, hh, hOff, hk, hp, sizeOk, capMqes, ha, hb]
  rw [State.ctrl_setCtrl_same]
  exact ⟨rfl, SMap.get_set_same _ _ _, SMap.get_set_same _ _ _, fun x hx => s.ctrl_setCtrl_other _ hx⟩

theorem ccEnClear_resetsOne {s : State} {c x : Nat} (hl : s.live = true) (hh : s.isHead = true) (hOn : (s.ctrl c).en = true)
    (hk : s.ctrlKind c ≠ .none) (hx : x ≠ c) :
    Runs (.ccEnClear c) s fun t => (t.ctrl c).en = false ∧ (t.ctrl c).sqs = [] ∧ (t.ctrl c).cqs = [] ∧ (t.ctrl c).hostNqn = (s.ctrl c).hostNqn ∧
      t.ctrl x = s.ctrl x := by
  refine runs_onlyIf (execCcEnClear c) (by simp [hl, hh, hOn, hk]) rfl rfl ?_
  obtain ⟨⟨hEn, hSqs, hCqs⟩, hNqn⟩ := s.ctrl_resetCtrl_same c
  exact ⟨hEn, hSqs, hCqs, hNqn, s.ctrl_resetCtrl_other hx⟩

/-- The end of an association (R180): the event that reports it gives a controller without queues no notice. -/
theorem State.endAssoc_ends {s : State} {c : Nat} (h : (s.ctrl c).hostNqn ≠ none) :
    ((s.endAssoc c).ctrl c).isReset ∧ ((s.endAssoc c).ctrl c).hostNqn = none ∧ ((s.endAssoc c).ctrl c).kato = 0 := by
  have hSome : ¬ (s.ctrl c).hostNqn.isNone = true := by simpa using h
  rw [State.endAssoc, if_neg hSome]
  dsimp only
  generalize hu : ((s.resetCtrl c).setCtrl c _).unbindQps c = u
  have hCtrl : u.ctrl c = { (s.resetCtrl c).ctrl c with hostNqn := none, hostId := 0, kato := 0 } := by
    rw [← hu]
    exact State.ctrl_setCtrl_same _ _ _
  obtain ⟨⟨hEn, hSqs, hCqs⟩, -⟩ := s.ctrl_resetCtrl_same c
  rw [(u.event_noticesOnly _ _).ctrl c (by rw [hCtrl]; exact hEn) (by rw [hCtrl]; exact hCqs), hCtrl]
  exact ⟨⟨hEn, hSqs, hCqs⟩, rfl, rfl⟩

theorem keepAliveExpiry_ends {s : State} {c : Nat} (hf : s.fw = true) (hk : (s.ctrlKind c).fabric = true) (hn : (s.ctrl c).hostNqn ≠ none)
    (h0 : (s.ctrl c).kato ≠ 0) (ht : (s.ctrl c).kaAt + (s.ctrl c).kato * 100000 ≤ s.time.t) :
    Runs (.keepAliveExpiry c) s fun t => (t.ctrl c).en = false ∧ (t.ctrl c).hostNqn = none ∧ (t.ctrl c).kato = 0 ∧ (t.ctrl c).sqs = [] := by
  refine runs_onlyIf (execKeepAliveExpiry c) ?_ (by rw [execKeepAliveExpiry]) rfl ?_
  · simp [hf, hk, Option.isSome_iff_ne_none, hn, h0, ht]
  obtain ⟨⟨hEn, hSqs, -⟩, hNqn, hKato⟩ := State.endAssoc_ends hn
  exact ⟨hEn, hNqn, hKato, hSqs⟩

/-! ### The HP link -/

/-- The link as a training leaves it, and the alarm that stands exactly below the parameters (R177, R207). -/
theorem State.hpTrained_trains (s : State) (g w : Nat) :
    (s.hpTrained g w).nvme.hpUp = true ∧ (s.hpTrained g w).nvme.hpGen = min g (s.p p_pcie_max_gen) ∧
      (s.hpTrained g w).nvme.hpWidth = min w (s.p p_pcie_max_width) ∧
      ((s.hpTrained g w).raised AL_NVME_LINK_DEGRADED 0 ↔ g < s.p p_pcie_max_gen ∨ w < s.p p_pcie_max_width) := by
  unfold State.hpTrained
  dsimp only
  split
  · rename_i hBelow
    rw [(State.alarm_noticesOnly _ _ _).rest]
    refine ⟨rfl, rfl, rfl, fun _ => by omega, fun _ => State.alarm_isRaised _ _ _⟩
  · rename_i hFull
    rw [(State.clearAlarm_noticesOnly _ _ _).rest]
    refine ⟨rfl, rfl, rfl, fun h => ?_, fun _ => by omega⟩
    exact absurd ((State.clearAlarm_isRaised _ _ _).symm.trans h) Bool.false_ne_true

theorem hpLinkUp_trains {s : State} {g w : Nat} (hf : s.fw = true) (hh : s.isHead = true) (hOn : s.nvme.hpOn = true) (hp : s.pins.perstN = true)
    (hg : 3 ≤ g) (hw : w = 4 ∨ w = 8 ∨ w = 16) :
    Runs (.hpLinkUp g w) s fun t => t.nvme.hpUp = true ∧ t.nvme.hpGen = min g (s.p p_pcie_max_gen) ∧ t.nvme.hpWidth = min w (s.p p_pcie_max_width) ∧
      (t.raised AL_NVME_LINK_DEGRADED 0 ↔ g < s.p p_pcie_max_gen ∨ w < s.p p_pcie_max_width) :=
  runs_onlyIf (execHpLinkUp g w) (by simp [hf, hh, hOn, hp, hg, hw, or_assoc]) rfl rfl (s.hpTrained_trains g w)

theorem hpLinkDown_raises {s : State} (hf : s.fw = true) (hh : s.isHead = true) (hUp : s.nvme.hpUp = true) :
    Runs .hpLinkDown s fun t => t.nvme.hpUp = false ∧ t.raised AL_NVME_LINK_DEGRADED 0 :=
  runs_onlyIf execHpLinkDown (by simp [hf, hh, hUp]) rfl rfl
    ⟨by rw [(State.alarm_noticesOnly _ _ _).rest], State.alarm_isRaised _ _ _⟩

/-- Settles O22: each clause is what its reset, its enabling or its change of the link leaves. -/
theorem controllerResetsEndOneControllerOrAll : Obligations.ControllerResetsEndOneControllerOrAll := by
  unfold Obligations.ControllerResetsEndOneControllerOrAll
  exact ⟨fun _ _ h hc => perstNAssert_resets h hc,
    fun _ h => runs_onlyIf execPerstNRelease (by simp [h]) rfl rfl rfl,
    fun _ _ hl hp hh hc => hotReset_resets hl hp hh hc,
    fun _ _ _ hl hp hh hf hc => functionLevelReset_resetsOne hl hp hh hf hc,
    fun _ n hf hp hh hn => runs_onlyIf (execNumvfsSet n) (by simp [hf, hp, hh, hn]) rfl rfl ⟨rfl, foldl_resetCtrl_ns _ _⟩,
    fun _ _ _ _ hl hh hOff hk hp ha ha' hb hb' => ccEnSet_enables hl hh hOff hk hp ⟨ha, ha'⟩ ⟨hb, hb'⟩,
    fun _ _ _ hl hh hOn hk hx => ccEnClear_resetsOne hl hh hOn hk hx,
    fun _ _ hf hk hn h0 ht => keepAliveExpiry_ends hf hk hn h0 ht,
    fun _ _ _ hf hh hOn hp hg hw => hpLinkUp_trains hf hh hOn hp hg hw,
    fun _ hf hh hUp => hpLinkDown_raises hf hh hUp⟩

end Sys2Proof.Machine
end

section
/-! PROOFS. Completions on the admin queue of a head without its grants (R402), and the notice that the event of a lost front port may give
(R517, R554, R556). Each case refutes a statement that leaves it out. -/

namespace Sys2Proof.Machine

/-! ### An admin queue that completes into an I/O completion queue -/

/-- The completion is held: of a head without its grants only the admin completion queue, queue 0, posts. -/
theorem keepAlive_silencedHead_silent : (silencedHead.after (.keepAlive statusCmd)).out = [] := by decide +kernel

/-- Refutes O23 at its clause on KEEP_ALIVE, which asks neither that the head hold its grants nor that the admin queue complete into queue 0: on
`silencedHead` the completion does not leave. No command binds an admin queue so; the statement ranges over every state. -/
theorem not_queuesAreMadeRungAndDeleted : ¬ Obligations.QueuesAreMadeRungAndDeleted := by
  unfold Obligations.QueuesAreMadeRungAndDeleted
  rintro ⟨-, -, -, -, hKeepAlive, -⟩
  obtain ⟨-, hOut⟩ := (hKeepAlive silencedHead statusCmd (by decide)).after
  rw [State.answered, keepAlive_silencedHead_silent] at hOut
  exact absurd hOut (by decide)

/-- A read of the power state is answered on the same queue. -/
theorem getFeatures_silencedHead_silent : (silencedHead.after (.getFeatures statusCmd 0x02 0 0)).out = [] := by decide +kernel

/-- Refutes O25 at its first clause, for the same reason: on `silencedHead` the value of the power state does not leave. -/
theorem not_featuresEventsTestsAndPowerStates : ¬ Obligations.FeaturesEventsTestsAndPowerStates := by
  unfold Obligations.FeaturesEventsTestsAndPowerStates
  rintro ⟨hGet, -⟩
  have hOut := (hGet silencedHead statusCmd 0x02 0 (by decide) (by decide)).after
  rw [State.answered, getFeatures_silencedHead_silent] at hOut
  exact absurd hOut (by decide)

/-! ### A front port lost while the occupancy notice is due -/

/-- `bareHead` with front port 0 up and a replication queue pair on it, an enabled controller, and the event ring over 90 % full with its notice
still due (R556). -/
def lostPortHead : State :=
  { bareHead with
    front := (List.replicate 16 {}).set 0 { up := true }
    rdma := { qps := [(2, { use := .data, port := 0 })] }
    nvme := { ctrls := [(1, { en := true })] }
    ev := { tracesStopped := true } }

/-- The event of the port's loss sends the notice, which waits at the controller for a request. -/
theorem frontPortLinkDown_lostPortHead_notifies :
    ((lostPortHead.after (.frontPortLinkDown 0)).ctrl 1).notices = [noticeRing] := by decide +kernel

/-- Refutes O57 at its clause on FRONT_PORT_LINK_DOWN, which has the host interface stay wherever no association ends: on `lostPortHead` a
controller takes the notice of the event ring. -/
theorem not_frontPortsAndQueuePairsFollowTheWire : ¬ Obligations.FrontPortsAndQueuePairsFollowTheWire := by
  unfold Obligations.FrontPortsAndQueuePairsFollowTheWire
  rintro ⟨-, hDown, -⟩
  obtain ⟨-, -, -, -, hStays⟩ := (hDown lostPortHead 0 2 { use := .data, port := 0 } (by decide) (by decide) rfl (by decide) (by decide)).after
  have hNone : ((lostPortHead.after (.frontPortLinkDown 0)).ctrl 1).notices = [] :=
    congrArg (fun n : NvmeSub => (SMap.getD n.ctrls 1 {}).notices) (hStays (by decide))
  exact absurd (frontPortLinkDown_lostPortHead_notifies.symm.trans hNone) (by decide)

end Sys2Proof.Machine
end

section
/-! PROOFS. A data-class COMPRESS leaves its channel without a state (R288, log 100). The case of a channel that holds one refutes a statement
that leaves it out. -/

namespace Sys2Proof.Machine

/-! ### A channel without a state -/

theorem SMap.get_keep_none {α : Type} {m : SMap α} {k : Nat} (h : SMap.get m k = none) (p : Nat → α → Bool) :
    SMap.get (SMap.keep m p) k = none := by
  induction m with
  | nil => rfl
  | cons e m ih =>
    obtain ⟨a, v⟩ := e
    by_cases ha : a = k
    · simp [SMap.get, ha] at h
    · have hRest : SMap.get (SMap.keep m p) k = none := ih (by simpa [SMap.get, ha] using h)
      by_cases hp : p a v
      · simpa [SMap.keep, SMap.get, hp, ha] using hRest
      · simpa [SMap.keep, hp] using hRest

/-- What goes as a job ends gives no channel a state. -/
theorem State.pressSettle_seqs_none {s : State} {ch : Nat} (h : SMap.get s.press.seqs ch = none) :
    SMap.get s.pressSettle.press.seqs ch = none := by
  dsimp only [State.pressSettle]
  exact SMap.get_keep_none h _

theorem State.pressDiscard_seqs_none (s : State) (d : Bytes) : SMap.get (s.pressDiscard d).press.seqs (pressCh d) = none := by
  unfold State.pressDiscard
  split
  · rw [State.event_press]
    exact SMap.get_del_same s.press.seqs (pressCh d)
  · next hNone => simpa [SMap.has] using hNone

/-! ### A data-class COMPRESS -/

/-- After the discard no part of a data-class COMPRESS changes the Press: not its read, nor any of its ends. -/
theorem compress_data_seqs_none {s : State} {n : Nat} {j : Job} (hu : s.unitRuns n 5 1 j) (hClass : pressClass j.desc = 0) :
    Runs (.compress n) s fun t => SMap.get t.press.seqs (pressCh j.desc) = none := by
  refine runs_of_unitRuns (execCompress n) hu (State.pressSettle_seqs_none ?_)
  have hDiscard := s.pressDiscard_seqs_none j.desc
  rw [← (State.dmaRead_stays (a := pressSrc j.desc) (n := pressSrcLen j.desc)).same_press rfl] at hDiscard
  dsimp only
  rw [if_pos hClass]
  split
  · exact hDiscard
  split
  · rwa [State.pressFree_stays.same_press rfl]
  · rwa [State.compressData_stays.same_press rfl]

/-! ### A COMPRESS on a channel that an earlier job suspended -/

/-- A data-class COMPRESS of channel 0: the 64 bytes at 4096 in HBM, to 256 bytes at 8192 (R277). -/
def compressJob : Job :=
  ⟨0, 5, 0, le 2 1 ++ zeros 18 ++ le 4 64 ++ le 8 4096 ++ le 8 8192 ++ le 4 256 ++ zeros 20, .running 0⟩

/-- A sequence stopped before its first token. -/
def stoppedSeq : PressSeq := ⟨12288, 64, 16384, [zeros 2], 0, zeros 16⟩

/-- `bareHead` with that COMPRESS running on channel 0, where a job fetched before it has left a sequence (log 100). -/
def suspendedHead : State :=
  { bareHead with
    ring := { jobs := [(0, compressJob)] }
    press := { seqs := [(0, stoppedSeq)] } }

theorem suspendedHead_unitRuns : suspendedHead.unitRuns 0 5 1 compressJob := by
  unfold State.unitRuns
  decide

/-- Refutes O36 at its first clause, which has the Press stay as it was and asks nothing of the channel's state: on `suspendedHead` the COMPRESS
discards the sequence that channel 0 held. -/
theorem not_thePressCompressesResumesAndDecompresses : ¬ Obligations.ThePressCompressesResumesAndDecompresses := by
  unfold Obligations.ThePressCompressesResumesAndDecompresses
  rintro ⟨hData, -⟩
  obtain ⟨-, hStays⟩ := (hData suspendedHead 0 compressJob (zeros 64) suspendedHead_unitRuns (by decide +kernel) (by decide) (by decide)).after
  have hNone := (compress_data_seqs_none suspendedHead_unitRuns (by decide)).after
  rw [hStays rfl] at hNone
  exact absurd hNone (by decide)

end Sys2Proof.Machine
end

section
/-! PROOFS. XTS and GCM requests of the cipher engine (R297, R303 to R306). -/

/- The proofs of this part are elaborated one after another: a further worker's stack would not fit under the limit of the check. -/
set_option deprecated.oldSectionVars true

namespace Sys2Proof.Machine

/-! ### How a request ends -/

/-- A request that has written its output ends, and nothing else is written. -/
theorem State.dmaWrite_endJob {s : State} {n : Nat} {j : Job} (hj : s.job n = some j) (a : Nat) (bs : Bytes) (status consumed produced : Nat) :
    ((s.dmaWrite a bs).endJob n status consumed produced).mem = (s.dmaWrite a bs).mem ∧
      ((s.dmaWrite a bs).endJob n status consumed produced).ended n j status consumed produced :=
  ⟨rfl, State.endJob_ended ((State.dmaWrite_stays.same_job rfl n).trans hj) _ _ _⟩

/-- A pair whose engines disagree writes nothing and leaves service (R297). -/
theorem State.pairMismatch_leavesService {s : State} {n p : Nat} {j : Job} (hj : s.job n = some j) (hp : j.unit = some p) :
    (s.pairMismatch n j).mem = s.mem ∧ (s.pairMismatch n j).mc = s.mc ∧
      (s.pairMismatch n j).cipher =
        { s.cipher with pairOk := s.cipher.pairOk &&& ~~~(1#16 <<< p), mismatches := satInc 16 s.cipher.mismatches } ∧
      (s.pairMismatch n j).raised AL_CIPHER_PAIR_FAULT (srcOf 7 p) ∧ (s.pairMismatch n j).ended n j ST_CIPHER_PAIR_MISMATCH 0 0 := by
  simp only [State.pairMismatch, hp, Option.getD_some]
  refine ⟨State.alarm_mem _ _ _, State.alarm_mc _ _ _, State.alarm_cipher _ _ _, State.alarm_isRaised _ _ _, State.endJob_ended ?_ _ _ _⟩
  exact (State.alarm_stays.same_job rfl n).trans hj

/-! ### The source of a request -/

/-- A request without STREAM takes its source from memory. -/
theorem State.cipherSource_of_read {s : State} {d a : Bytes} (hs : cStream d = false) (hr : s.dmaRead (cSrc d) (cLen d) = (0, a, s))
    (data : Bytes) : s.cipherSource d data = (0, a, 0, s) := by
  simp [State.cipherSource, hs, hr]

/-! ### XTS -/

theorem State.xtsRun_writes {s : State} {n : Nat} {j : Job} {a : Bytes} (hs : cStream j.desc = false)
    (hr : s.dmaRead (cSrc j.desc) (cLen j.desc) = (0, a, s)) (data : Bytes) (f : Bytes → Bytes → Nat → Bytes → Bytes) :
    s.xtsRun n j data f = (s.dmaWrite (cDst j.desc)
      (f ((s.keySlot (cKey j.desc)).key.take 32) ((s.keySlot (cKey j.desc)).key.drop 32) (cDun j.desc) a)).endJob n 0 a.length
      (f ((s.keySlot (cKey j.desc)).key.take 32) ((s.keySlot (cKey j.desc)).key.drop 32) (cDun j.desc) a).length := by
  simp [State.xtsRun, State.cipherSource_of_read hs hr]

/-! ### GCM -/

/-- A request that no preemption has interrupted reads its parameter block. -/
theorem State.gcmParam_of_read {s : State} {n : Nat} {d p : Bytes} (hn : SMap.get s.cipher.saved n = none)
    (hp : s.dmaRead (cParam d) 128 = (0, p, s)) : s.gcmParam n d = (0, p, s) := by
  simp [State.gcmParam, hn, hp]

/-- INIT starts at counter 2 with the additional data hashed. -/
theorem State.gcmBegin_of_init {s : State} {d p aad : Bytes} (hi : cInit d = true)
    (ha : s.dmaRead (num p 16 8) (num p 24 4) = (0, aad, s)) (h : Nat) : s.gcmBegin d p h = (0, (ghash h 0 aad, 2, 0), s) := by
  simp [State.gcmBegin, hi, ha]

/-- The counter-mode image of a whole message. -/
def gcmImage (key p a : Bytes) : Bytes := gcmCtr key (p.take 12) 2 (chunksOf 16 a)

/-- The tag of a whole message of `done` bytes, over its additional data and its encrypted form `c`. -/
def gcmWholeTag (key p aad c : Bytes) (done : Nat) : Bytes := gcmFinal key p (gcmH key) (ghash (gcmH key) (ghash (gcmH key) 0 aad) c) done

section
variable {s : State} {n : Nat} {j : Job} {a p aad : Bytes} (hs : cStream j.desc = false) (hn : SMap.get s.cipher.saved n = none)
  (hi : cInit j.desc = true) (hf : cFinal j.desc = true) (hp : s.dmaRead (cParam j.desc) 128 = (0, p, s))
  (hr : s.dmaRead (cSrc j.desc) (cLen j.desc) = (0, a, s)) (ha : s.dmaRead (num p 16 8) (num p 24 4) = (0, aad, s))
include hs hn hi hf hp hr ha

/-- A whole message is encrypted to DST, and its tag goes to the parameter block. -/
theorem State.gcmRun_enc (data : Bytes) :
    s.gcmRun n j data true = ((s.dmaWrite (cDst j.desc) (gcmImage (s.keySlot (cKey j.desc)).key p a)).dmaWrite (cParam j.desc + 32)
      (gcmWholeTag (s.keySlot (cKey j.desc)).key p aad (gcmImage (s.keySlot (cKey j.desc)).key p a)
        (gcmImage (s.keySlot (cKey j.desc)).key p a).length)).endJob n 0
      (gcmImage (s.keySlot (cKey j.desc)).key p a).length (gcmImage (s.keySlot (cKey j.desc)).key p a).length := by
  simp [State.gcmRun, State.gcmParam_of_read hn hp, State.cipherSource_of_read hs hr, State.gcmBegin_of_init hi ha, hf, gcmImage, gcmWholeTag,
    ST_CIPHER_LEN_SHORT]

/-- A whole message whose tag is that of the parameter block is decrypted to DST. -/
theorem State.gcmRun_dec (data : Bytes)
    (ht : gcmWholeTag (s.keySlot (cKey j.desc)).key p aad a (gcmImage (s.keySlot (cKey j.desc)).key p a).length = sub p 32 16) :
    s.gcmRun n j data false = (s.dmaWrite (cDst j.desc) (gcmImage (s.keySlot (cKey j.desc)).key p a)).endJob n 0
      (gcmImage (s.keySlot (cKey j.desc)).key p a).length (gcmImage (s.keySlot (cKey j.desc)).key p a).length := by
  unfold gcmWholeTag gcmImage at ht
  simp [State.gcmRun, State.gcmParam_of_read hn hp, State.cipherSource_of_read hs hr, State.gcmBegin_of_init hi ha, hf, gcmImage, ht, ST_CIPHER_LEN_SHORT]

/-- With another tag nothing is written. -/
theorem State.gcmRun_dec_otherTag (data : Bytes)
    (ht : gcmWholeTag (s.keySlot (cKey j.desc)).key p aad a (gcmImage (s.keySlot (cKey j.desc)).key p a).length ≠ sub p 32 16) :
    s.gcmRun n j data false = s.endJob n ST_CIPHER_TAG (gcmImage (s.keySlot (cKey j.desc)).key p a).length 0 := by
  unfold gcmWholeTag gcmImage at ht
  simp [State.gcmRun, State.gcmParam_of_read hn hp, State.cipherSource_of_read hs hr, State.gcmBegin_of_init hi ha, hf, gcmImage, ht, ST_CIPHER_LEN_SHORT]

end

@[simp] theorem State.cipherDone_mem (s : State) (n : Nat) : (s.cipherDone n).mem = s.mem := rfl
@[simp] theorem State.cipherDone_mc (s : State) (n : Nat) : (s.cipherDone n).mc = s.mc := rfl
@[simp] theorem State.cipherDone_ended (s : State) (n : Nat) : (s.cipherDone n).ended = s.ended := rfl

/-- Settles O37: an XTS request and a whole GCM message are a write and an end, or an end alone where the tag differs; a mismatch is
`State.pairMismatch_leavesService`. -/
theorem cipherRequestsEncryptDecryptAndAuthenticate : Obligations.CipherRequestsEncryptDecryptAndAuthenticate := by
  unfold Obligations.CipherRequestsEncryptDecryptAndAuthenticate
  refine ⟨fun s n j data a hu hw hs hr => ?_, fun s n j data p hu hp => ?_, fun s n j data a hu hw hs hr => ?_,
    fun s n j data a p aad hu hw hs hn hi hf hp hr ha => ?_, fun s n j data a p aad hu hw hs hn hi hf hp hr ha => ?_⟩
  · refine runs_of_unitRuns (execXtsEnc n false data) hu ?_
    simp only [hw, Bool.false_eq_true, if_false, State.xtsRun_writes hs hr]
    exact State.dmaWrite_endJob hu.job_eq _ _ _ _ _
  · exact runs_of_unitRuns (execXtsEnc n true data) hu (State.pairMismatch_leavesService hu.job_eq hp)
  · refine runs_of_unitRuns (execXtsDec n false data) hu ?_
    simp only [hw, Bool.false_eq_true, if_false, State.xtsRun_writes hs hr]
    exact State.dmaWrite_endJob hu.job_eq _ _ _ _ _
  · refine runs_of_unitRuns (execGcmEnc n false data) hu ?_
    simp only [hw, Bool.false_eq_true, if_false, State.gcmRun_enc hs hn hi hf hp hr ha, State.cipherDone_mem, State.cipherDone_ended]
    exact State.dmaWrite_endJob (State.dmaWrite_stays.same_job rfl n |>.trans hu.job_eq) _ _ _ _ _
  · refine runs_of_unitRuns (execGcmDec n false data) hu ?_
    split
    · next h =>
      simp only [hw, Bool.false_eq_true, if_false, State.gcmRun_dec hs hn hi hf hp hr ha data h, State.cipherDone_mem, State.cipherDone_ended]
      exact State.dmaWrite_endJob hu.job_eq _ _ _ _ _
    · next h =>
      simp only [hw, Bool.false_eq_true, if_false, State.gcmRun_dec_otherTag hs hn hi hf hp hr ha data h, State.cipherDone_mem,
        State.cipherDone_mc, State.cipherDone_ended]
      exact ⟨rfl, rfl, State.endJob_ended hu.job_eq _ _ _⟩

end Sys2Proof.Machine
end

section
/-! PROOFS. A crypto-erase with a purge that no shelf has acknowledged (R317), and a point whose epochs' records still wait for their batch (R534).
Each refutes a statement that leaves its case out. -/

/- The proofs of this part are elaborated one after another: a further worker's stack would not fit under the limit of the check. -/
set_option deprecated.oldSectionVars true

namespace Sys2Proof.Machine

/-! ### A purge without its acknowledgement -/

/-- The erase of domain 1's generation 0: swept, its new record sent to the partner, and root record page 0 of stripe 0 purged. -/
def unpurgedErase : Erase := { domain := 1, gen := 1, epn := 0, started := 0, purges := [(0, 0)], partner := true, swept := true }

/-- The discard under the purge option of that page's strip. -/
def purgeFrame : Frame := { bareHead.tagged .discard 0 0 (stripItem 0 0) true (.discard 0) with purge := true }

/-- `bareHead` with that erase; shelf 0 has not answered the purge yet. -/
def purgingHead : State :=
  { bareHead with
    cipher := { erases := [unpurgedErase] }
    head := { sent := [{ site := 0, frame := purgeFrame, bytes := 0 }] } }

/-- The erase stays on the list. -/
theorem cryptoEraseComplete_purgingHead_waits : (purgingHead.after (.cryptoEraseComplete 1)).cipher.erases = [unpurgedErase] := by
  decide +kernel

/-- Refutes O38 at its clause on CRYPTO_ERASE_COMPLETE, which asks for no acknowledgement of the purges: on `purgingHead` the erase is not over
while one of them is unanswered (R317). -/
theorem not_keySlotsAreFilledWrappedAndRevoked : ¬ Obligations.KeySlotsAreFilledWrappedAndRevoked := by
  unfold Obligations.KeySlotsAreFilledWrappedAndRevoked
  rintro ⟨-, -, -, -, -, -, -, -, hErase, -⟩
  obtain ⟨hGone, -⟩ :=
    (hErase purgingHead 1 unpurgedErase (by decide) (by decide) (by decide) (by decide) (by decide)).after
  exact absurd (cryptoEraseComplete_purgingHead_waits.symm.trans hGone) (by decide)

/-! ### Records that wait for their batch -/

/-- A point of source epoch 5, under no snapshot ID of its own. -/
def waitingPoint : Point := { epn := 5, snap := 0xFFFFFFFF, quality := 0, last := [0, 0] }

/-- `bareHead` as the manager of a replication target with that point. Epoch 1 of its own stream has taken a REPL record at its seal, and its body,
with the batch that will hold the record, is not complete. -/
def targetHead : State :=
  { bareHead with
    params := [⟨p_repl_role, 0, 3, le 4 2⟩]
    seam := { manager := true }
    repl := { state := 2, targetPoints := [waitingPoint] }
    head := { st0 := { bundles := [(1, { taken := [(3, .extent 0 0 1 false)] })] } } }

/-- The point is not cut. -/
theorem replicaPointCut_targetHead_waits : (targetHead.after .replicaPointCut).repl.targetPoints = [waitingPoint] := by decide +kernel

/-- Refutes O60 at its clause on REPLICA_POINT_CUT, which looks at the records that wait for a grant alone: on `targetHead` a record that an epoch has
taken is not in its batch yet, and the cut waits for it (R534). -/
theorem not_theTargetOfReplicationTakesWhatIsNew : ¬ Obligations.TheTargetOfReplicationTakesWhatIsNew := by
  unfold Obligations.TheTargetOfReplicationTakesWhatIsNew
  rintro ⟨-, -, -, -, -, -, -, hCut, -⟩
  obtain ⟨hRepl, -⟩ := (hCut targetHead waitingPoint [] (by decide) (by decide) (by decide) rfl rfl rfl rfl (by decide)).after
  have hPoints := replicaPointCut_targetHead_waits
  rw [hRepl] at hPoints
  exact absurd hPoints (by simp [waitingPoint])

end Sys2Proof.Machine
end

section
/-! PROOFS. What sending replication messages writes of the session (R526, R528), and what is recorded for the next SEAL (R22, R23). -/

/- The proofs of this part are elaborated one after another: a further worker's stack would not fit under the limit of the check. -/
set_option deprecated.oldSectionVars true

namespace Sys2Proof.Machine

/-! ### Streams and records -/

/-- What a stored stream has in common with the one before it is as it was in every stream. -/
theorem State.setStream_field {α : Type} (f : StreamSt → α) {s : State} {i : Nat} {v : StreamSt} (h : f v = f (s.stream i)) (k : Nat) :
    f ((s.setStream i v).stream k) = f (s.stream k) := by
  by_cases hi : i = 0 <;> by_cases hk : k = 0 <;> simp_all [State.setStream, State.stream]

/-- The manager's stream depends on the site and on which streams the head sequences. -/
theorem State.mgrStream_congr {s t : State} (hPins : t.pins = s.pins) (h : ∀ i, (t.stream i).mine = (s.stream i).mine) :
    t.mgrStream = s.mgrStream := by
  have hSite : t.site = s.site := congrArg Pins.siteId hPins
  have hPeer : t.peerSite = s.peerSite := congrArg (fun p : Pins => 1 - p.siteId) hPins
  rw [State.mgrStream, State.mgrStream, hSite, hPeer, h, h]

theorem Stays.same_mgrStream {m : Mask} {s t : State} (h : Stays m s t) (hHead : m.head = false) (hPins : m.pins = false) :
    t.mgrStream = s.mgrStream :=
  State.mgrStream_congr (h.same_pins hPins) fun i => congrArg StreamSt.mine (h.same_stream hHead i)

/-- A record recorded from a state with the same queue is recorded from this one. -/
theorem State.recorded_of_queue {s a t : State} {r : MgrRec} (hm : a.mgrStream = s.mgrStream)
    (hq : ∀ i, (a.stream i).sealQueue = (s.stream i).sealQueue) (h : a.recorded t r) : s.recorded t r := by
  simpa only [State.recorded, hm, hq] using h

theorem Stays.recorded_before {m : Mask} {s a t : State} {r : MgrRec} (h : Stays m s a) (hHead : m.head = false) (hPins : m.pins = false)
    (hr : a.recorded t r) : s.recorded t r :=
  State.recorded_of_queue (h.same_mgrStream hHead hPins) (fun i => congrArg StreamSt.sealQueue (h.same_stream hHead i)) hr

theorem Stays.recorded_after {m : Mask} {s a t : State} {r : MgrRec} (h : Stays m a t) (hHead : m.head = false) (hr : s.recorded a r) :
    s.recorded t r := by
  simpa only [State.recorded, h.same_stream hHead] using hr

/-- A record leaves the bundles alone. -/
theorem State.record_bundles (s : State) (r : MgrRec) (i : Nat) : ((s.record r).stream i).bundles = (s.stream i).bundles := by
  refine State.setStream_field StreamSt.bundles ?_ i
  rfl

/-! ### The namespaces and epochs that a definition names -/

theorem NoticesOnly.ns {s t : State} (h : NoticesOnly s t) : t.nvme.ns = s.nvme.ns := by
  rw [h.rest]

theorem State.replNs_congr {s t : State} (hNs : t.nvme.ns = s.nvme.ns) (hParams : t.params = s.params) : t.replNs = s.replNs := by
  simp only [State.replNs, State.replicated, State.p, State.pi, hNs, hParams]

theorem Stays.same_leastE {m : Mask} {s t : State} (h : Stays m s t) (hTime : m.time = false) (hParams : m.params = false) :
    t.leastE = s.leastE := by
  simp only [State.leastE, State.p, h.same_epn hTime hParams, h.same_params hParams]

/-! ### Sending -/

theorem State.sendPkts_out (s : State) (n psn : Nat) (ports : List Nat) : s.out <+: (s.sendPkts n psn ports).out := by
  unfold State.sendPkts
  split
  · exact List.prefix_rfl
  · exact List.prefix_append _ _

theorem State.postSend_out (s : State) (n len : Nat) : s.out <+: (s.postSend n len).out := by
  unfold State.postSend
  split
  · exact List.prefix_rfl
  · dsimp only
    refine List.IsPrefix.trans ?_ (State.sendPkts_out _ _ _ _)
    exact List.prefix_rfl

/-- The message is the first thing that leaves. -/
theorem State.sendRepl_first (s : State) (data : Bool) (type stream part parts ident prev : Nat) (payload : Bytes) :
    s.replSent (s.sendRepl data type stream part parts ident prev 0 payload) type stream part parts ident prev payload := by
  unfold State.replSent State.sendRepl
  dsimp only
  split
  · refine List.IsPrefix.trans ?_ (State.postSend_out _ _ _)
    exact List.prefix_rfl
  · exact List.prefix_rfl

@[simp] theorem State.sendRepl_repl (s : State) (data : Bool) (type stream part parts ident prev flags : Nat) (payload : Bytes) :
    (s.sendRepl data type stream part parts ident prev flags payload).repl =
      { s.repl with bytesSent := s.repl.bytesSent + payload.length } := by
  unfold State.sendRepl
  dsimp only
  split
  · exact State.postSend_stays.same_repl rfl
  · rfl

/-- From `s` to `t` the session changes in its counts of what has been sent alone. -/
def SentMore (s t : State) : Prop := t.repl = { s.repl with bytesSent := t.repl.bytesSent, pushed := t.repl.pushed }

theorem SentMore.of_repl {s t : State} (h : t.repl = s.repl) : SentMore s t := by
  unfold SentMore
  rw [h]

theorem SentMore.after {a b c : State} (h2 : SentMore b c) (h1 : SentMore a b) : SentMore a c := by
  unfold SentMore at *
  rw [h2, h1]

theorem SentMore.foldl {α : Type} {g : State → α → State} (h : ∀ a x, SentMore a (g a x)) (l : List α) (s : State) : SentMore s (l.foldl g s) :=
  List.foldlRecOn l g (motive := SentMore s) (.of_repl rfl) fun a ha x _ => (h a x).after ha

theorem State.sendRepl_sentMore (s : State) (data : Bool) (type stream part parts ident prev flags : Nat) (payload : Bytes) :
    SentMore s (s.sendRepl data type stream part parts ident prev flags payload) := by
  unfold SentMore
  rw [State.sendRepl_repl]

theorem sendParts_sentMore (data : Bool) (type stream ident prev parts : Nat) (bs : List Bytes) (k : Nat) (s : State) :
    SentMore s (sendParts data type stream ident prev parts bs k s) := by
  induction bs generalizing k s with
  | nil => exact .of_repl rfl
  | cons b bs ih => exact (ih _ _).after (s.sendRepl_sentMore _ _ _ _ _ _ _ _ _)

theorem State.sendRBundle_sentMore (s : State) (b : RBundle) : SentMore s (s.sendRBundle b) := sendParts_sentMore _ _ _ _ _ _ _ _ _

theorem State.sendPoint_sentMore (s : State) (p : Point) : SentMore s (s.sendPoint p) := s.sendRepl_sentMore _ _ _ _ _ _ _ _ _

theorem State.sendPush_sentMore (s : State) (i n : Nat) : SentMore s (s.sendPush i n) := by
  unfold State.sendPush
  extract_lets us ps s1
  split
  · exact .of_repl rfl
  · have hParts : SentMore s s1 := sendParts_sentMore _ _ _ _ _ _ _ _ _
    exact SentMore.after (b := s1) rfl hParts

theorem State.sendKeyRec_sentMore (s : State) (r : KeyRec) : SentMore s (s.sendKeyRec r) := by
  unfold State.sendKeyRec
  extract_lets kek pk
  split
  · exact .of_repl rfl
  · split
    · exact s.sendRepl_sentMore _ _ _ _ _ _ _ _ _
    · exact .of_repl rfl

theorem State.sendDiff_sentMore (s : State) (nsid base e : Nat) : SentMore s (s.sendDiff nsid base e) :=
  SentMore.foldl (fun a _ => a.sendRepl_sentMore _ _ _ _ _ _ _ _ _) _ s

theorem State.resend_sentMore (s : State) (point : Nat) : SentMore s (s.resend point) :=
  (SentMore.foldl State.sendPoint_sentMore _ _).after
    (SentMore.foldl (fun a b => ((a.sendRBundle b).sendPush_sentMore _ _).after (a.sendRBundle_sentMore b)) _ s)

/-! ### What a source goes on with -/

/-- From `s` to `t` what the two sides agreed on in SESSION_ACK stands. -/
structure Agreed (s t : State) : Prop where
  held : t.repl.held = s.repl.held
  partner : t.repl.partnerId = s.repl.partnerId
  replicated : t.repl.replicated = s.repl.replicated
  receipts : t.repl.receipts = s.repl.receipts

theorem Agreed.rfl {s : State} : Agreed s s := ⟨Eq.refl _, Eq.refl _, Eq.refl _, Eq.refl _⟩

theorem Agreed.after {a b c : State} (h2 : Agreed b c) (h1 : Agreed a b) : Agreed a c :=
  ⟨h2.held.trans h1.held, h2.partner.trans h1.partner, h2.replicated.trans h1.replicated, h2.receipts.trans h1.receipts⟩

theorem Agreed.foldl {α : Type} {g : State → α → State} (h : ∀ a x, Agreed a (g a x)) (l : List α) (s : State) : Agreed s (l.foldl g s) :=
  List.foldlRecOn l g (motive := Agreed s) .rfl fun a ha x _ => (h a x).after ha

theorem Agreed.of_repl {s t : State} (h : t.repl = s.repl) : Agreed s t := ⟨by rw [h], by rw [h], by rw [h], by rw [h]⟩

theorem SentMore.agreed {s t : State} (h : SentMore s t) : Agreed s t := by
  unfold SentMore at h
  exact ⟨by rw [h], by rw [h], by rw [h], by rw [h]⟩

theorem State.replEpoch_agreed (s : State) (i n : Nat) : Agreed s (s.replEpoch i n) := by
  unfold State.replEpoch
  dsimp only
  split
  · refine (Agreed.of_repl (State.setBundle_stays.same_repl (Eq.refl _))).after ?_
    exact ⟨Eq.refl _, Eq.refl _, Eq.refl _, Eq.refl _⟩
  · split
    · refine ((State.sendPush_sentMore _ _ _).after (State.sendRBundle_sentMore _ _)).agreed.after ?_
      exact ⟨Eq.refl _, Eq.refl _, Eq.refl _, Eq.refl _⟩
    · exact ⟨Eq.refl _, Eq.refl _, Eq.refl _, Eq.refl _⟩

theorem State.replEpochs_agreed (s : State) (i : Nat) : Agreed s (s.replEpochs i) := by
  unfold State.replEpochs
  exact Agreed.foldl (fun a (e : Nat × Bundle) => a.replEpoch_agreed i e.1) _ s

theorem State.replPoints_agreed (s : State) : Agreed s s.replPoints := by
  refine Agreed.foldl (fun a c => ?_) _ s
  dsimp only
  split
  · exact (State.sendPoint_sentMore _ _).agreed.after ⟨Eq.refl _, Eq.refl _, Eq.refl _, Eq.refl _⟩
  · exact ⟨Eq.refl _, Eq.refl _, Eq.refl _, Eq.refl _⟩

theorem State.replSource_agreed (s : State) : Agreed s s.replSource := by
  unfold State.replSource
  extract_lets s1 old
  split
  · exact .rfl
  · have h1 : Agreed s s1 := (State.replPoints_agreed _).after ((State.replEpochs_agreed _ 1).after (s.replEpochs_agreed 0))
    exact Agreed.after (b := s1) ⟨Eq.refl _, Eq.refl _, Eq.refl _, Eq.refl _⟩ h1

theorem State.resyncStep_agreed (s : State) : Agreed s s.resyncStep := by
  unfold State.resyncStep
  extract_lets e s1 p
  split
  · exact .rfl
  · have h1 : Agreed s s1 := (SentMore.foldl (fun a n => a.sendDiff_sentMore n _ _) _ s).agreed
    refine (State.replSource_agreed _).after ((State.sendPoint_sentMore _ p).agreed.after (Agreed.after (b := s1) ?_ h1))
    exact ⟨Eq.refl _, Eq.refl _, Eq.refl _, Eq.refl _⟩

/-- Taking the session word changes the session's state, and nothing else of it. -/
theorem State.beginSession_repl (s : State) :
    s.beginSession.repl = { s.repl with state := s.beginSession.repl.state, taking := s.beginSession.repl.taking } := by
  unfold State.beginSession State.startTaking
  dsimp only
  repeat' split
  all_goals rfl

/-- A RESYNC that is not before its RDIFF already begins anew at the least epoch that a definition may have (R536). -/
def State.resyncFrom (s : State) : State :=
  let s1 := s.record (.snapDefine ⟨1048573, s.leastE, s.replNs⟩)
  { s1 with repl := { s1.repl with resyncEpn := s.leastE, diffSent := false } }

theorem State.startResync_of_not {s : State} (h : ¬(s.repl.resyncEpn ≠ 0 ∧ !s.repl.diffSent)) : s.startResync = s.resyncFrom.beginSession := if_neg h

theorem State.startResync_repl {s : State} (h : ¬(s.repl.resyncEpn ≠ 0 ∧ !s.repl.diffSent)) :
    s.startResync.repl = { s.repl with
      resyncEpn := s.leastE, diffSent := false, state := s.startResync.repl.state, taking := s.startResync.repl.taking } := by
  have hFrom : s.resyncFrom.repl = { s.repl with resyncEpn := s.leastE, diffSent := false } :=
    congrArg (fun r : ReplSt => { r with resyncEpn := s.leastE, diffSent := false }) (State.record_stays.same_repl rfl)
  rw [State.startResync_of_not h, State.beginSession_repl, hFrom]

/-- Its snapshot is recorded. -/
theorem State.startResync_records {s : State} (h : ¬(s.repl.resyncEpn ≠ 0 ∧ !s.repl.diffSent)) :
    s.recorded s.startResync (.snapDefine ⟨1048573, s.leastE, s.replNs⟩) := by
  rw [State.startResync_of_not h]
  exact State.beginSession_stays.recorded_after rfl (s.recorded_record _)

theorem State.startResync_agreed (s : State) : Agreed s s.startResync := by
  by_cases h : s.repl.resyncEpn ≠ 0 ∧ !s.repl.diffSent
  · rw [State.startResync, if_pos h]
    exact .rfl
  · constructor <;> rw [State.startResync_repl h]

end Sys2Proof.Machine
end

section
/-! PROOFS. What the source of replication does with its partner's answers and with time (R527, R532 to R537, R540). -/

/- The proofs of this part are elaborated one after another: a further worker's stack would not fit under the limit of the check. -/
set_option deprecated.oldSectionVars true

namespace Sys2Proof.Machine

/-! ### SESSION_ACK -/

theorem State.not_raised_of_isRaised {s : State} {code src : Nat} (h : s.ev.isRaised code src = false) : ¬ s.raised code src := by
  simp [State.raised, h]

/-- Clearing an alarm raises none. -/
theorem EvSt.clear_raises_none (e : EvSt) (c x t n : Nat) {c' x' : Nat} (h : e.isRaised c' x' = false) : (e.clear c x t n).1.isRaised c' x' = false := by
  unfold EvSt.clear
  split
  · unfold EvSt.isRaised at h ⊢
    simp only [EvSt.append_alarms, List.any_map, List.any_eq_false, Function.comp] at h ⊢
    intro a ha
    split
    · simp
    · exact h a ha
  · exact h

theorem State.clearAlarm_raises_none (s : State) (c x : Nat) {c' x' : Nat} (h : s.ev.isRaised c' x' = false) :
    (s.clearAlarm c x).ev.isRaised c' x' = false := by
  unfold State.clearAlarm
  dsimp only
  split
  · rw [isRaised_alarms (State.alarmMoved_alarms _ _ _ _)]
    exact EvSt.clear_raises_none _ _ _ _ _ h
  · exact EvSt.clear_raises_none _ _ _ _ _ h

/-- The session is in service: the partner's point and receipts are taken over, data queue pairs begin to spray, and the alarms of the session
are cleared (R519, R527). -/
def State.sessionUp (s : State) (partner : Bytes) (point r0 r1 : Nat) : State :=
  let r := s.repl
  let s1 := { s with
    repl := { r with state := if r.resyncEpn ≠ 0 then 3 else 2, held := true, partnerId := padTo 16 partner, replicated := max r.replicated point
                     receipts := [max (r.receipts.getD 0 0) r0, max (r.receipts.getD 1 0) r1], moved := true }
    rdma := { s.rdma with qps := SMap.mapV s.rdma.qps (fun (_ : Nat) (q : Qp) =>
      if q.use = QpUse.data ∧ q.spray.isNone ∧ q.state = 1 then { q with spray := some { base := q.expPsn, highest := psnAdd q.expPsn (2 ^ 24 - 1) } } else q) } }
  (((s1.event EV_REPL_SESSION_UP 0).clearAlarm AL_REPL_DOWN 0).clearAlarm AL_REPL_DIVERGE 0).clearAlarm AL_REPL_PARTNER_MISMATCH 0

/-- The generation before goes, the domain key records are sent, and the PULL entries are answered (R529, R532). -/
def State.sessionGreet (s : State) (g : Nat) (pulls : List (PullEntry × Option Bytes)) : State :=
  let s4 := s.dropReplGen g
  let s5 := (List.filter (fun (e : Nat × KeyRec) => s4.replicated e.1) s4.cipher.recs).foldl (fun (acc : State) (e : Nat × KeyRec) => acc.sendKeyRec e.2) s4
  answerPulls pulls (s4.markSent s5)

/-- The source goes on where its partner is (R536, R537). -/
def State.sessionGoOn (s : State) (point : Nat) : State :=
  if s.repl.resyncEpn ≠ 0 ∧ !s.repl.diffSent then s.resyncStep
  else if s.needsResync then s.startResync
  else s.resend point

theorem execSessionAck_eq (h : ReplHdr) (partner : Bytes) (point r0 r1 : Nat) (pulls : List (PullEntry × Option Bytes)) (s : State) :
    execSessionAck h partner point r0 r1 pulls s =
      onlyIf (s.fromTarget h && s.isManager && s.repl.state == 1 && s.repl.taking.isNone && h.ident == s.repl.keyGen) s fun s =>
        ((s.sessionUp partner point r0 r1).sessionGreet (s.repl.keyGen - 1) pulls).sessionGoOn point := rfl

section
variable (s : State) (partner : Bytes) (point r0 r1 : Nat)

theorem State.sessionUp_repl : (s.sessionUp partner point r0 r1).repl = { s.repl with
    state := if s.repl.resyncEpn ≠ 0 then 3 else 2, held := true, partnerId := padTo 16 partner, replicated := max s.repl.replicated point
    receipts := [max (s.repl.receipts.getD 0 0) r0, max (s.repl.receipts.getD 1 0) r1], moved := true } := by
  simp only [State.sessionUp, State.clearAlarm_repl, State.event_repl]

theorem State.sessionUp_stays :
    Stays { ev := true, nvme := true, rdma := true, repl := true, out := true } s (s.sessionUp partner point r0 r1) :=
  (State.clearAlarm_stays.up rfl).after ((State.clearAlarm_stays.up rfl).after ((State.clearAlarm_stays.up rfl).after
    ((State.event_stays.up rfl).after (Stays.upd rfl))))

theorem State.sessionUp_ns : (s.sessionUp partner point r0 r1).nvme.ns = s.nvme.ns := by
  simp only [State.sessionUp, (State.clearAlarm_noticesOnly _ _ _).ns, (State.event_noticesOnly _ _ _).ns]

theorem State.sessionUp_cleared {code : Nat} (h : code = AL_REPL_DOWN ∨ code = AL_REPL_DIVERGE ∨ code = AL_REPL_PARTNER_MISMATCH) :
    (s.sessionUp partner point r0 r1).ev.isRaised code 0 = false := by
  unfold State.sessionUp
  rcases h with rfl | rfl | rfl
  · exact State.clearAlarm_raises_none _ _ _ (State.clearAlarm_raises_none _ _ _ (State.clearAlarm_isRaised _ _ _))
  · exact State.clearAlarm_raises_none _ _ _ (State.clearAlarm_isRaised _ _ _)
  · exact State.clearAlarm_isRaised _ _ _

end

theorem State.sessionGreet_sentMore (s : State) (g : Nat) : SentMore s (s.sessionGreet g []) := by
  have hKeys : SentMore (s.dropReplGen g) _ := SentMore.foldl (fun a (e : Nat × KeyRec) => a.sendKeyRec_sentMore e.2)
    (List.filter (fun e => (s.dropReplGen g).replicated e.1) (s.dropReplGen g).cipher.recs) (s.dropReplGen g)
  exact (SentMore.of_repl (State.markSent_stays.same_repl rfl)).after (hKeys.after (.of_repl (State.dropReplGen_stays.same_repl rfl)))

/-- The session after a SESSION_ACK without PULL entries, before it goes on. -/
theorem State.sessionGreet_repl (s : State) (partner : Bytes) (point r0 r1 : Nat) :
    ∃ n k, ((s.sessionUp partner point r0 r1).sessionGreet (s.repl.keyGen - 1) []).repl = { s.repl with
      state := if s.repl.resyncEpn ≠ 0 then 3 else 2, held := true, partnerId := padTo 16 partner, replicated := max s.repl.replicated point
      receipts := [max (s.repl.receipts.getD 0 0) r0, max (s.repl.receipts.getD 1 0) r1], moved := true, bytesSent := n, pushed := k } := by
  have hMore := (s.sessionUp partner point r0 r1).sessionGreet_sentMore (s.repl.keyGen - 1)
  rw [SentMore, s.sessionUp_repl] at hMore
  exact ⟨_, _, hMore⟩

theorem State.sessionGreet_stays (s : State) (g : Nat) :
    Stays { cipher := true, rdma := true, repl := true, out := true } s (s.sessionGreet g []) :=
  (State.markSent_stays.up rfl).after ((foldl_stays fun _ _ => State.sendKeyRec_stays.up rfl).after (State.dropReplGen_stays.up rfl))

theorem State.sessionGreeted_stays (s : State) (partner : Bytes) (point r0 r1 g : Nat) :
    Stays { ev := true, nvme := true, cipher := true, rdma := true, repl := true, out := true } s
      ((s.sessionUp partner point r0 r1).sessionGreet g []) :=
  ((State.sessionGreet_stays _ g).up rfl).after ((s.sessionUp_stays partner point r0 r1).up rfl)

theorem State.sessionGreeted_ns (s : State) (partner : Bytes) (point r0 r1 g : Nat) :
    ((s.sessionUp partner point r0 r1).sessionGreet g []).nvme.ns = s.nvme.ns :=
  (congrArg NvmeSub.ns ((State.sessionGreet_stays _ g).same_nvme rfl)).trans (s.sessionUp_ns partner point r0 r1)

theorem State.sessionGoOn_agreed (s : State) (point : Nat) : Agreed s (s.sessionGoOn point) := by
  unfold State.sessionGoOn
  split
  · exact s.resyncStep_agreed
  · split
    · exact s.startResync_agreed
    · exact (s.resend_sentMore point).agreed

theorem State.sessionGoOn_stays (s : State) (point : Nat) :
    Stays { head := true, rdma := true, repl := true, out := true } s (s.sessionGoOn point) :=
  ite_stays State.resyncStep_stays (ite_stays State.startResync_stays (State.resend_stays.up rfl))

section
variable {s : State} {h : ReplHdr} {partner : Bytes} {point r0 r1 : Nat} (hFrom : s.fromTarget h = true) (hManager : s.isManager = true)
  (hState : s.repl.state = 1) (hTaking : s.repl.taking = none) (hGen : h.ident = s.repl.keyGen)
include hFrom hManager hState hTaking hGen

/-- A SESSION_ACK that the source waits for is taken. -/
theorem runs_sessionAck {p : State → Prop}
    (hp : p (((s.sessionUp partner point r0 r1).sessionGreet (s.repl.keyGen - 1) []).sessionGoOn point)) :
    Runs (.sessionAck h partner point r0 r1 []) s p :=
  runs_onlyIf (execSessionAck h partner point r0 r1 []) (by simp [hFrom, hManager, hState, hTaking, hGen])
    (execSessionAck_eq h partner point r0 r1 [] s) rfl hp

theorem sessionAck_agrees :
    Runs (.sessionAck h partner point r0 r1 []) s fun t => t.repl.held = true ∧ t.repl.partnerId = padTo 16 partner ∧
      t.repl.replicated = max s.repl.replicated point ∧
      t.repl.receipts = [max (s.repl.receipts.getD 0 0) r0, max (s.repl.receipts.getD 1 0) r1] ∧
      ¬ t.raised AL_REPL_DOWN 0 ∧ ¬ t.raised AL_REPL_DIVERGE 0 ∧ ¬ t.raised AL_REPL_PARTNER_MISMATCH 0 := by
  refine runs_sessionAck hFrom hManager hState hTaking hGen ?_
  have hAgreed := ((s.sessionUp partner point r0 r1).sessionGreet (s.repl.keyGen - 1) []).sessionGoOn_agreed point |>.after
    ((s.sessionUp partner point r0 r1).sessionGreet_sentMore (s.repl.keyGen - 1)).agreed
  have hEv := ((State.sessionGoOn_stays _ point).same_ev rfl).trans
    (((s.sessionUp partner point r0 r1).sessionGreet_stays (s.repl.keyGen - 1)).same_ev rfl)
  obtain ⟨hHeld, hPartner, hPoint, hReceipts⟩ := hAgreed
  rw [State.sessionUp_repl] at hHeld hPartner hPoint hReceipts
  have hCleared (code : Nat) (h : code = AL_REPL_DOWN ∨ code = AL_REPL_DIVERGE ∨ code = AL_REPL_PARTNER_MISMATCH) :=
    State.not_raised_of_isRaised ((congrArg (EvSt.isRaised · code 0) hEv).trans (s.sessionUp_cleared partner point r0 r1 h))
  exact ⟨hHeld, hPartner, hPoint, hReceipts, hCleared _ (.inl rfl), hCleared _ (.inr (.inl rfl)), hCleared _ (.inr (.inr rfl))⟩

/-- A partner that has something, and lacks nothing that is kept, leads to streaming. -/
theorem sessionAck_streams (hResync : s.repl.resyncEpn = 0) (hLast : s.repl.last = [0, 0]) (hPoint : 0 < point) :
    Runs (.sessionAck h partner point r0 r1 []) s fun t => t.repl.state = 2 := by
  refine runs_sessionAck hFrom hManager hState hTaking hGen ?_
  obtain ⟨n, k, hg⟩ := s.sessionGreet_repl partner point r0 r1
  generalize (s.sessionUp partner point r0 r1).sessionGreet (s.repl.keyGen - 1) [] = g at hg
  have hNot : ¬(g.repl.resyncEpn ≠ 0 ∧ !g.repl.diffSent) := by simp [hg, hResync]
  have hNeeds : g.needsResync = false := by simp [State.needsResync, hg, hLast, hPoint.ne']
  simp only [State.sessionGoOn, if_neg hNot, hNeeds, Bool.false_eq_true, if_false]
  rw [g.resend_sentMore point, hg]
  exact if_neg (not_not_intro hResync)

/-- A partner that has nothing leads to a RESYNC (R536, log 67). -/
theorem sessionAck_resyncs (hResync : s.repl.resyncEpn = 0) (hPoint : s.repl.replicated = 0) (hReceipts : s.repl.receipts = [0, 0]) :
    Runs (.sessionAck h partner 0 0 0 []) s fun t => t.repl.resyncEpn = s.leastE ∧ t.repl.diffSent = false ∧
      s.recorded t (.snapDefine ⟨1048573, s.leastE, s.replNs⟩) := by
  refine runs_sessionAck hFrom hManager hState hTaking hGen ?_
  obtain ⟨n, k, hg⟩ := s.sessionGreet_repl partner 0 0 0
  have hStays := s.sessionGreeted_stays partner 0 0 0 (s.repl.keyGen - 1)
  have hNs := s.sessionGreeted_ns partner 0 0 0 (s.repl.keyGen - 1)
  generalize (s.sessionUp partner 0 0 0).sessionGreet (s.repl.keyGen - 1) [] = g at hg hStays hNs
  have hNot : ¬(g.repl.resyncEpn ≠ 0 ∧ !g.repl.diffSent) := by simp [hg, hResync]
  have hNeeds : g.needsResync = true := by simp [State.needsResync, hg, hPoint, hReceipts]
  have hLeast : g.leastE = s.leastE := hStays.same_leastE rfl rfl
  have hReplNs : g.replNs = s.replNs := State.replNs_congr hNs (hStays.same_params rfl)
  have hRepl := State.startResync_repl hNot
  have hRecorded := hStays.recorded_before rfl rfl (State.startResync_records hNot)
  rw [hLeast] at hRepl hRecorded
  rw [hReplNs] at hRecorded
  simp only [State.sessionGoOn, if_neg hNot, hNeeds, if_true]
  exact ⟨by rw [hRepl], by rw [hRepl], hRecorded⟩

end

end Sys2Proof.Machine
end

section
/-! PROOFS. PULL, RECEIPT, APPLIED and the source's time-outs (R527, R532 to R537, R540), and O59. -/

/- The proofs of this part are elaborated one after another: a further worker's stack would not fit under the limit of the check. -/
set_option deprecated.oldSectionVars true

namespace Sys2Proof.Machine

/-! ### PULL -/

/-- What a PULL entry is answered with, given what the read path found (R532). -/
def State.pullUnit (s : State) (e : PullEntry) (x : Option Bytes) : Bytes :=
  match s.head.md.chunks.find? (fun c => c.2.domain == e.domain && padTo 32 c.2.fp == padTo 32 e.fp && c.2.live && !c.2.lost), x with
  | some c, some b => chunkUnit s.replPf1 e.domain false c.2.lostBlocks e.fp b
  | _, _ => chunkUnit s.replPf1 e.domain true 0 e.fp []

theorem State.pullUnit_of_live {s : State} {e : PullEntry} {c : Nat × ChunkRec}
    (hc : s.head.md.chunks.find? (fun c => c.2.domain == e.domain && padTo 32 c.2.fp == padTo 32 e.fp && c.2.live && !c.2.lost) = some c)
    (b : Bytes) : s.pullUnit e (some b) = chunkUnit s.replPf1 e.domain false c.2.lostBlocks e.fp b := by
  simp only [State.pullUnit, hc]

theorem State.pullUnit_none (s : State) (e : PullEntry) : s.pullUnit e none = chunkUnit s.replPf1 e.domain true 0 e.fp [] := by
  unfold State.pullUnit
  split
  · contradiction
  · rfl

theorem answerPulls_one (s : State) (e : PullEntry) (x : Option Bytes) :
    answerPulls [(e, x)] s =
      let s1 := s.sendRepl true 0x21 255 0 1 e.reqNo 0 0 (s.pullUnit e x)
      { s1 with repl := { s1.repl with pulled := s1.repl.pulled + 1 } } := rfl

/-- The CHUNK leaves first, the pull is counted, and nothing else of the head changes. -/
theorem answerPulls_answers (s : State) (e : PullEntry) (x : Option Bytes) :
    s.replSent (answerPulls [(e, x)] s) 0x21 255 0 1 e.reqNo 0 (s.pullUnit e x) ∧ (answerPulls [(e, x)] s).repl.pulled = s.repl.pulled + 1 ∧
      (answerPulls [(e, x)] s).head = s.head := by
  rw [answerPulls_one]
  refine ⟨s.sendRepl_first true 0x21 255 0 1 e.reqNo 0 (s.pullUnit e x), ?_, State.sendRepl_stays.same_head rfl⟩
  dsimp only
  rw [State.sendRepl_repl]

theorem runs_pull {s : State} {h : ReplHdr} (hFrom : s.fromTarget h = true) (hManager : s.isManager = true) {entries : List (PullEntry × Option Bytes)}
    {p : State → Prop} (hp : p (answerPulls entries s)) : Runs (.pull h entries) s p :=
  runs_onlyIf (execPull h entries) (by simp [hFrom, hManager]) rfl rfl hp

/-! ### RECEIPT -/

theorem Stays.same_isManager {m : Mask} {s t : State} (h : Stays m s t) (hPins : m.pins = false) (hPower : m.power = false)
    (hBoot : m.boot = false) (hSeam : m.seam = false) : t.isManager = s.isManager := by
  simp only [State.isManager, State.headUp, State.serving, State.ready, State.live, State.isHead, h.same_pins hPins, h.same_power hPower,
    h.same_boot hBoot, h.same_seam hSeam]

theorem State.p_congr {s t : State} (h : t.params = s.params) (id : Nat) : t.p id = s.p id := by
  simp only [State.p, h]

theorem SMap.get_mapV {α β : Type} (m : SMap α) (f : Nat → α → β) (k : Nat) : SMap.get (SMap.mapV m f) k = (SMap.get m k).map (f k) := by
  induction m with
  | nil => rfl
  | cons e m ih =>
    obtain ⟨a, v⟩ := e
    by_cases ha : a = k
    · simp [SMap.mapV, SMap.get, ha]
    · simpa [SMap.mapV, SMap.get, ha] using ih

/-- What a RECEIPT says of its stream: condition 6 of R231 for the bundles up to its epoch, and the checkpoint (R533, R537). -/
def State.receipted (s : State) (h : ReplHdr) : State :=
  let i := h.stream
  let st := s.stream i
  let s1 := s.setStream i { st with bundles := SMap.mapV st.bundles (fun n b => if n ≤ h.ident then { b with partner := true } else b) }
  let r := s1.repl
  { s1 with repl := { r with
    receipts := put2 r.receipts i (max (r.receipts.getD i 0) h.ident), moved := r.moved || decide (r.receipts.getD i 0 < h.ident)
    sentAt := r.sentAt.filter (fun e => !(e.1 == i && decide (e.2.1 ≤ h.ident))) } }

/-- A lost synchronisation ends once the receipts have caught up (R535). -/
def State.syncBack (s : State) : State :=
  if s.isManager && s.head.md.syncOff && s.caughtUp && !s.queuedMgr (fun x => match x with | .syncOn => true | _ => false) then
    (s.record .syncOn).clearAlarm AL_REPL_SYNC_LOST 0
  else s

theorem execReceipt_eq (h : ReplHdr) (s : State) :
    execReceipt h s = onlyIf (s.fromTarget h && decide (h.stream < 2)) s fun s => (s.receipted h).syncBack := rfl

theorem runs_receipt {s : State} {h : ReplHdr} (hFrom : s.fromTarget h = true) (hStream : h.stream < 2) {p : State → Prop}
    (hp : p (s.receipted h).syncBack) : Runs (.receipt h) s p :=
  runs_onlyIf (execReceipt h) (by simp [hFrom, hStream]) (execReceipt_eq h s) rfl hp

theorem State.receipted_repl (s : State) (h : ReplHdr) : (s.receipted h).repl = { s.repl with
    receipts := put2 s.repl.receipts h.stream (max (s.repl.receipts.getD h.stream 0) h.ident)
    moved := s.repl.moved || decide (s.repl.receipts.getD h.stream 0 < h.ident)
    sentAt := s.repl.sentAt.filter (fun e => !(e.1 == h.stream && decide (e.2.1 ≤ h.ident))) } := by
  dsimp only [State.receipted]
  rw [State.setStream_stays.same_repl rfl]

theorem State.receipted_field {α : Type} (f : StreamSt → α) (s : State) (h : ReplHdr)
    (hf : ∀ (st : StreamSt) bs, f { st with bundles := bs } = f st) (i : Nat) : f ((s.receipted h).stream i) = f (s.stream i) :=
  State.setStream_field f (hf _ _) i

theorem State.syncBack_repl (s : State) : s.syncBack.repl = s.repl := by
  unfold State.syncBack
  split
  · rw [State.clearAlarm_repl]
    exact State.record_stays.same_repl rfl
  · rfl

theorem State.syncBack_bundles (s : State) (i : Nat) : (s.syncBack.stream i).bundles = (s.stream i).bundles := by
  unfold State.syncBack
  split
  · rw [State.clearAlarm_stays.same_stream rfl]
    exact s.record_bundles _ i
  · rfl

theorem receipt_marksPartner {s : State} {h : ReplHdr} {n : Nat} {b : Bundle} (hFrom : s.fromTarget h = true) (hStream : h.stream < 2)
    (hb : SMap.get (s.stream h.stream).bundles n = some b) (hn : n ≤ h.ident) :
    Runs (.receipt h) s fun t => SMap.get (t.stream h.stream).bundles n = some { b with partner := true } ∧
      t.repl.receipts = put2 s.repl.receipts h.stream (max (s.repl.receipts.getD h.stream 0) h.ident) := by
  refine runs_receipt hFrom hStream ⟨?_, ?_⟩
  · have hStored : ((s.receipted h).stream h.stream).bundles =
        SMap.mapV (s.stream h.stream).bundles (fun n b => if n ≤ h.ident then { b with partner := true } else b) :=
      congrArg StreamSt.bundles (s.stream_setStream_self h.stream _)
    rw [State.syncBack_bundles, hStored, SMap.get_mapV, hb]
    exact congrArg some (if_pos hn)
  · rw [State.syncBack_repl, State.receipted_repl]

/-- Where nothing waits in the queue, no record of a kind waits. -/
theorem State.queuedMgr_of_empty {s : State} (h : (s.stream s.mgrStream).sealQueue = []) (p : MgrRec → Bool) : s.queuedMgr p = false := by
  simp [State.queuedMgr, h]

theorem receipt_endsLoss {s : State} {h : ReplHdr} (hFrom : s.fromTarget h = true) (hStream : h.stream < 2) (hManager : s.isManager = true)
    (hOff : s.head.md.syncOff = true) (hLast : s.repl.last = [0, 0]) (hCkpt : 0 < s.p p_repl_ckpt_epochs)
    (hQueue : (s.stream s.mgrStream).sealQueue = []) :
    Runs (.receipt h) s fun t => s.recorded t .syncOn ∧ ¬ t.raised AL_REPL_SYNC_LOST 0 := by
  refine runs_receipt hFrom hStream ?_
  have hStays : Stays { head := true, repl := true } s (s.receipted h) := (Stays.upd rfl).after (State.setStream_stays.up rfl)
  have hSeals : ∀ i, ((s.receipted h).stream i).sealQueue = (s.stream i).sealQueue := s.receipted_field StreamSt.sealQueue h fun _ _ => rfl
  have hMgr : (s.receipted h).mgrStream = s.mgrStream :=
    State.mgrStream_congr (hStays.same_pins rfl) (s.receipted_field StreamSt.mine h fun _ _ => rfl)
  have hMd : (s.receipted h).head.md = s.head.md := s.setStream_md _ _
  have hLast' : (s.receipted h).repl.last = s.repl.last := by rw [State.receipted_repl]
  generalize s.receipted h = a at hStays hSeals hMgr hMd hLast'
  have hManager' : a.isManager = true := (hStays.same_isManager rfl rfl rfl rfl).trans hManager
  have hCaught : a.caughtUp = true := by
    have hLess (r : Nat) : 0 < r + s.p p_repl_ckpt_epochs := Nat.add_pos_right r hCkpt
    simp [State.caughtUp, hLast', hLast, State.p_congr (hStays.same_params rfl), hLess]
  have hNone : a.queuedMgr (fun x => match x with | .syncOn => true | _ => false) = false :=
    State.queuedMgr_of_empty (by rw [hMgr, hSeals, hQueue]) _
  simp only [State.syncBack, hManager', hMd, hOff, hCaught, hNone, Bool.not_false, Bool.and_self, if_true]
  exact ⟨State.recorded_of_queue hMgr hSeals (State.clearAlarm_stays.recorded_after rfl (a.recorded_record _)),
    State.not_raised_of_isRaised (State.clearAlarm_isRaised _ _ _)⟩

/-! ### APPLIED -/

/-- The replicated EPN advances, and the points reached are forgotten (R534). -/
def State.pointReached (s : State) (c : Nat) : State :=
  { s with repl := { s.repl with
    replicated := max s.repl.replicated c, moved := s.repl.moved || decide (s.repl.replicated < c)
    points := s.repl.points.filter (fun p => decide (c < p.epn)) } }

/-- A point beyond the last one is recorded as the internal snapshot (R536, log 68). -/
def State.pointRecorded (s : State) (last c : Nat) : State :=
  if last < c then (s.record (.snapDefine ⟨1048574, c, s.replNs⟩)).event EV_REPL_POINT 0 else s

/-- AL_REPL_LAG is cleared where the replicated EPN is within the limit (R540). -/
def State.lagCheck (s : State) : State := if s.lagOk then s.clearAlarm AL_REPL_LAG 0 else s

/-- A RESYNC ends with the point at its epoch (R536). -/
def State.resyncDone (s : State) (r : ReplSt) (c : Nat) : State :=
  if r.resyncEpn ≠ 0 ∧ r.diffSent ∧ c = r.resyncEpn then
    State.event { s with repl := { s.repl with resyncEpn := 0, diffSent := false, state := 2 } } EV_REPL_RESYNC_DONE 0
  else s

theorem runs_applied {s : State} {h : ReplHdr} (hFrom : s.fromTarget h = true) (hManager : s.isManager = true) (hSession : s.session = true)
    {p : State → Prop} (hp : p ((((s.pointReached h.ident).pointRecorded s.repl.replicated h.ident).lagCheck).resyncDone s.repl h.ident)) :
    Runs (.applied h) s p :=
  runs_onlyIf (execApplied h) (by simp [hFrom, hManager, hSession]) rfl rfl hp

theorem State.lagCheck_stays (s : State) : Stays { ev := true, nvme := true, out := true } s s.lagCheck :=
  ite_stays State.clearAlarm_stays Stays.rfl

theorem State.resyncDone_stays (s : State) (r : ReplSt) (c : Nat) :
    Stays { ev := true, nvme := true, repl := true, out := true } s (s.resyncDone r c) :=
  ite_stays ((State.event_stays.up rfl).after (Stays.upd rfl)) Stays.rfl

/-- The end of a RESYNC leaves the replicated EPN and the points. -/
theorem State.resyncDone_points (s : State) (r : ReplSt) (c : Nat) :
    (s.resyncDone r c).repl.replicated = s.repl.replicated ∧ (s.resyncDone r c).repl.points = s.repl.points := by
  unfold State.resyncDone
  split
  · rw [State.event_repl]
    exact ⟨rfl, rfl⟩
  · exact ⟨rfl, rfl⟩

theorem applied_advances {s : State} {h : ReplHdr} (hFrom : s.fromTarget h = true) (hManager : s.isManager = true) (hSession : s.session = true)
    (hNew : s.repl.replicated < h.ident) :
    Runs (.applied h) s fun t => t.repl.replicated = h.ident ∧ t.repl.points = s.repl.points.filter (fun p => decide (h.ident < p.epn)) ∧
      s.recorded t (.snapDefine ⟨1048574, h.ident, s.replNs⟩) := by
  refine runs_applied hFrom hManager hSession ?_
  have hRecord : (s.pointReached h.ident).pointRecorded s.repl.replicated h.ident =
      ((s.pointReached h.ident).record (.snapDefine ⟨1048574, h.ident, s.replNs⟩)).event EV_REPL_POINT 0 := if_pos hNew
  have hRepl : (((s.pointReached h.ident).pointRecorded s.repl.replicated h.ident).lagCheck).repl = (s.pointReached h.ident).repl := by
    rw [(State.lagCheck_stays _).same_repl rfl, hRecord, State.event_repl, State.record_stays.same_repl rfl]
  have hRecorded : s.recorded ((s.pointReached h.ident).pointRecorded s.repl.replicated h.ident) (.snapDefine ⟨1048574, h.ident, s.replNs⟩) := by
    rw [hRecord]
    exact State.event_stays.recorded_after rfl ((s.pointReached h.ident).recorded_record _)
  obtain ⟨hReplicated, hPoints⟩ :=
    State.resyncDone_points ((s.pointReached h.ident).pointRecorded s.repl.replicated h.ident).lagCheck s.repl h.ident
  rw [hRepl] at hReplicated hPoints
  exact ⟨hReplicated.trans (max_eq_right hNew.le), hPoints,
    (State.resyncDone_stays _ _ _).recorded_after rfl ((State.lagCheck_stays _).recorded_after rfl hRecorded)⟩

theorem applied_endsResync {s : State} {h : ReplHdr} (hFrom : s.fromTarget h = true) (hManager : s.isManager = true) (hSession : s.session = true)
    (hResync : s.repl.resyncEpn ≠ 0) (hDiff : s.repl.diffSent = true) (hAt : h.ident = s.repl.resyncEpn) :
    Runs (.applied h) s fun t => t.repl.resyncEpn = 0 ∧ t.repl.diffSent = false ∧ t.repl.state = 2 := by
  refine runs_applied hFrom hManager hSession ?_
  simp only [State.resyncDone, if_pos (⟨hResync, hDiff, hAt⟩ : _ ∧ _ ∧ _), State.event_repl, and_self]

/-! ### Time-outs -/

theorem replSyncTimeout_degrades {s : State} {e : Nat × Nat × Nat} (hManager : s.isManager = true) (hSync : s.syncRepl = true)
    (he : e ∈ s.repl.sentAt) (hLate : e.2.2 + s.p p_repl_sync_timeout_ms * 100000 ≤ s.time.t)
    (hQueue : (s.stream s.mgrStream).sealQueue = []) (hDegrade : s.p p_repl_sync_on_loss ≠ 1) :
    Runs .replSyncTimeout s fun t => s.recorded t .syncOff ∧ t.raised AL_REPL_SYNC_LOST 0 := by
  have hAny : s.repl.sentAt.any (fun e => decide (e.2.2 + s.p p_repl_sync_timeout_ms * 100000 ≤ s.time.t)) = true :=
    List.any_eq_true.mpr ⟨e, he, decide_eq_true hLate⟩
  refine runs_onlyIf execReplSyncTimeout (by rw [hManager, hSync, hAny, State.queuedMgr_of_empty hQueue]; rfl) rfl rfl ?_
  rw [if_neg hDegrade]
  exact ⟨State.alarm_stays.recorded_after rfl (s.recorded_record _), State.alarm_isRaised _ _ _⟩

/-- Under HOLD nothing changes, whether the time is up or not. -/
theorem replSyncTimeout_holds {s : State} (hHold : s.p p_repl_sync_on_loss = 1) : Runs .replSyncTimeout s fun t => t = s := by
  refine ⟨s, ?_, rfl⟩
  change execReplSyncTimeout s = .next s
  simp only [execReplSyncTimeout, onlyIf, hHold, if_true, ite_self]

theorem replRekey_takesAnew {s : State} {e : Nat × Qp} {q : Qp} (hManager : s.isManager = true) (hSource : s.isSource = true)
    (hSession : s.session = true) (hHeld : s.repl.held = true)
    (hOld : s.repl.keyedAt + s.p p_repl_rekey_hours * 3600 * 100000000 ≤ s.time.t) (he : (s.replQps .control).head? = some e)
    (hq : SMap.get s.rdma.qps e.1 = some q) :
    Runs .replRekey s fun t => t.repl = { s.repl with state := 1, taking := none } ∧ t.out = s.out ++ [.rdmaReadReq e.1 q.nextPsn 8] := by
  refine runs_onlyIf execReplRekey (by rw [hManager, hSource, hSession, hHeld, decide_eq_true hOld]; rfl) rfl rfl ?_
  simp only [State.beginSession, State.startTaking, he, hManager, hSource, hq, Bool.and_self, if_true]
  exact ⟨rfl, rfl⟩

theorem replLagAlarm_raises {s : State} (hFw : s.fw = true) (hHead : s.isHead = true) (hRole : s.p p_repl_role ≠ 0) (hDown : s.repl.state = 4)
    (hLate : s.repl.downAt + s.p p_repl_lag_alarm_s * 100000000 ≤ s.time.t) :
    Runs .replLagAlarm s fun t => t.raised AL_REPL_LAG 0 ∧ t.repl = s.repl :=
  runs_onlyIf execReplLagAlarm (by simp [hFw, hHead, hRole, hDown, hLate]) rfl rfl ⟨State.alarm_isRaised _ _ _, State.alarm_repl _ _ _⟩

/-- Settles O59: each clause is what the source does with one answer of its partner, or at one time-out. -/
theorem theSourceOfReplicationFollowsItsPartner : Obligations.TheSourceOfReplicationFollowsItsPartner := by
  unfold Obligations.TheSourceOfReplicationFollowsItsPartner
  exact ⟨fun _ _ _ _ _ _ hFrom hManager hState hTaking hGen => sessionAck_agrees hFrom hManager hState hTaking hGen,
    fun _ _ _ _ _ _ hFrom hManager hState hTaking hGen hResync hLast hPoint =>
      sessionAck_streams hFrom hManager hState hTaking hGen hResync hLast hPoint,
    fun _ _ _ hFrom hManager hState hTaking hGen hResync hPoint hReceipts =>
      sessionAck_resyncs hFrom hManager hState hTaking hGen hResync hPoint hReceipts,
    fun s _ e b _ hFrom hManager hc => runs_pull hFrom hManager (State.pullUnit_of_live hc b ▸ answerPulls_answers s e (some b)),
    fun s _ e hFrom hManager => runs_pull hFrom hManager (s.pullUnit_none e ▸ answerPulls_answers s e none),
    fun _ _ _ _ hFrom hStream hb hn => receipt_marksPartner hFrom hStream hb hn,
    fun _ _ hFrom hStream hManager hOff hLast hCkpt hQueue => receipt_endsLoss hFrom hStream hManager hOff hLast hCkpt hQueue,
    fun _ _ hFrom hManager hSession hNew => applied_advances hFrom hManager hSession hNew,
    fun _ _ hFrom hManager hSession hResync hDiff hAt => applied_endsResync hFrom hManager hSession hResync hDiff hAt,
    fun _ _ hManager hSync he hLate hQueue hDegrade => replSyncTimeout_degrades hManager hSync he hLate hQueue hDegrade,
    fun _ hHold => replSyncTimeout_holds hHold,
    fun _ _ _ hManager hSource hSession hHeld hOld he hq => replRekey_takesAnew hManager hSource hSession hHeld hOld he hq,
    fun _ hFw hHead hRole hDown hLate => replLagAlarm_raises hFw hHead hRole hDown hLate⟩

end Sys2Proof.Machine
end

section
/-! PROOFS. The time-out of a partner repair (R337), pages of the map (R324), schedules and snapshot release (R339, R340, R343), failed
shelves (R361, R362), Darning (R363 to R367) and Refold (R369 to R371), and O45. -/

/- The proofs of this part are elaborated one after another: a further worker's stack would not fit under the limit of the check. -/
set_option deprecated.oldSectionVars true

namespace Sys2Proof.Machine

/-- A meaning `m` that answers `t` runs to it. -/
theorem runs_next {c : Instr} {s t : State} (m : State → Res) (hm : m s = .next t) (hc : exec c s = m s) {p : State → Prop} (hp : p t) :
    Runs c s p :=
  ⟨t, hc.trans hm, hp⟩

/-! ### Repairs by the partner -/

/-- From `s` to `t` no repair is asked for or ended, and the session is as it was. -/
def SameRepairs (s t : State) : Prop := t.head.repairs = s.head.repairs ∧ t.repl = s.repl

theorem SameRepairs.rfl {s : State} : SameRepairs s s := ⟨Eq.refl _, Eq.refl _⟩

theorem SameRepairs.after {a b c : State} (h2 : SameRepairs b c) (h1 : SameRepairs a b) : SameRepairs a c :=
  ⟨h2.1.trans h1.1, h2.2.trans h1.2⟩

theorem SameRepairs.foldl {α : Type} {g : State → α → State} (h : ∀ a x, SameRepairs a (g a x)) (l : List α) (s : State) :
    SameRepairs s (l.foldl g s) :=
  List.foldlRecOn l g (motive := SameRepairs s) .rfl fun a ha x _ => (h a x).after ha

theorem Stays.sameRepairs {m : Mask} {s t : State} (h : Stays m s t) (hHead : m.head = false) (hRepl : m.repl = false) : SameRepairs s t :=
  ⟨congrArg HeadSt.repairs (h.same_head hHead), h.same_repl hRepl⟩

theorem State.finishReads_sameRepairs (s : State) : SameRepairs s s.finishReads :=
  (SameRepairs.foldl (fun _ _ => State.completeRead_stays.sameRepairs rfl rfl) _ _).after ⟨rfl, rfl⟩

/-- A repair that failed ends every request for the chunk, and counts once (R337). -/
theorem State.repaired_none {s : State} {domain : Nat} {fp : Bytes} {r : RepairReq} (hr : r ∈ s.head.repairs) (hDomain : r.domain = domain)
    (hFp : r.fp = fp) :
    (s.repaired domain fp none).head.repairs = s.head.repairs.filter (fun r => !(r.domain == domain && r.fp == fp)) ∧
      (s.repaired domain fp none).repl = { s.repl with repairsFailed := s.repl.repairsFailed + 1 } := by
  have hSome : (s.head.repairs.filter (fun r => r.domain == domain && r.fp == fp)).isEmpty = false :=
    List.isEmpty_eq_false_iff_exists_mem.mpr ⟨r, List.mem_filter.mpr ⟨hr, by simp [hDomain, hFp]⟩⟩
  simp only [State.repaired, hSome, Bool.false_and, Bool.false_eq_true, if_false]
  refine SameRepairs.after (State.finishReads_sameRepairs _) (SameRepairs.foldl (fun a x => ?_) _ _)
  split
  · exact State.sendSeam_stays.sameRepairs rfl rfl
  · exact ⟨rfl, rfl⟩

theorem partnerRepairTimeout_forgets {s : State} {domain : Nat} {fp : Bytes} {r : RepairReq} (hUp : s.headUp = true) (hr : r ∈ s.head.repairs)
    (hDomain : r.domain = domain) (hFp : r.fp = fp) (hLate : r.startT + s.p p_read_repair_timeout_ms * 100000 ≤ s.time.t) :
    Runs (.partnerRepairTimeout domain fp) s fun t =>
      t.repl.repairsFailed = s.repl.repairsFailed + 1 ∧ ∀ x ∈ t.head.repairs, ¬ (x.domain = domain ∧ x.fp = fp) := by
  have hAny : s.head.repairs.any (fun r => r.domain == domain && r.fp == fp
      && decide (r.startT + s.p p_read_repair_timeout_ms * 100000 ≤ s.time.t)) = true :=
    List.any_eq_true.mpr ⟨r, hr, by simp [hDomain, hFp, hLate]⟩
  refine runs_onlyIf (execPartnerRepairTimeout domain fp) (by rw [hUp, hAny]; rfl) rfl rfl ?_
  obtain ⟨hRepairs, hRepl⟩ := State.repaired_none hr hDomain hFp
  refine ⟨by rw [hRepl], fun x hx => ?_⟩
  rw [hRepairs] at hx
  rintro ⟨hxDomain, hxFp⟩
  simp [hxDomain, hxFp] at hx

/-! ### Pages of the map -/

/-- No stripe is opened where one has room. -/
theorem State.metaRoom_of_placed {s : State} {i len : Nat} {x : Nat × Nat × Nat} (h : s.placeFor i true len = some x) :
    s.metaRoom i len = s := by
  simp [State.metaRoom, h]

/-- The image of a page other than a root record takes no free value. -/
theorem State.pageImage_of_page {s : State} {kind : Nat} (page : Nat) (h : kind ≠ 5) :
    s.pageImage kind page = (pad64 (pf1Stream true (s.head.md.pageBytes kind page)), s) := by
  simp only [State.pageImage, if_neg h]

theorem mapPageWrite_writes {s s1 : State} {i : Fin 2} {kind page a b : Nat} {x : Nat × Nat × Nat} (hUp : s.headUp = true) (hLow : 1 ≤ kind)
    (hHigh : kind ≤ 3) (hStream : s.pageStream kind page = i.val) (hDirty : SMap.has s.head.md.dirty (kind * 2 ^ 60 + page) = true)
    (hPlace : s.placeFor i true (pad64 (pf1Stream true (s.head.md.pageBytes kind page))).length = some x)
    (hSend : s.sendMeta i (min s.head.st0.replayed s.head.st1.replayed) (kind * 2 ^ 60 + page)
      (pad64 (pf1Stream true (s.head.md.pageBytes kind page))) = some (a, b, s1)) :
    Runs (.mapPageWrite i kind page) s fun t =>
      t = s1.setMd { s1.head.md with dirty := SMap.del s1.head.md.dirty (kind * 2 ^ 60 + page) } := by
  have hKind : kind ≠ 5 := by omega
  refine runs_onlyIf (execMapPageWrite i kind page) (by rw [hUp, hStream, hDirty]; simp [hLow, hHigh]) rfl rfl ?_
  simp only [State.writePage, State.pageImage_of_page page hKind, State.metaRoom_of_placed hPlace, hPlace, hSend, if_neg hKind]

/-! ### Schedules and snapshot release -/

/-- No record of a kind waits where none of the queue is of it. -/
theorem State.queuedMgr_eq_false {s : State} {p : MgrRec → Bool}
    (h : ∀ r, .manager r ∈ (s.stream s.mgrStream).sealQueue → p r = false) : s.queuedMgr p = false := by
  refine List.any_eq_false.mpr fun x hx => ?_
  split
  · exact Bool.eq_false_iff.mp (h _ hx)
  · exact Bool.false_ne_true

/-- The first number not passed yet is the next one where its definition meets the limits (R339, R340). -/
theorem State.nextInstance_of_snapOk {s : State} {e : UtcSched} {k : Nat} (hk : k < e.count)
    (hOk : s.snapOk (e.snapId + k) (s.utcEpn (instantOf e k)) e.nsids = true) : s.nextInstance e k = k := by
  obtain ⟨n, hn⟩ : ∃ n, e.count - k = n + 1 := ⟨e.count - k - 1, by omega⟩
  simp [State.nextInstance, hn, List.range_succ_eq_map, hOk]

theorem snapshotScheduleInstance_defines {s : State} {entry : Nat} {e : UtcSched} {k : Nat} (hManager : s.isManager = true)
    (hEntry : SMap.get s.head.md.scheds entry = some e) (hDone : SMap.getD s.head.md.schedDone entry 0 = k) (hk : k < e.count)
    (hNew : ∀ d, .manager (.snapDefine d) ∈ (s.stream s.mgrStream).sealQueue → d.id ≠ e.snapId + k)
    (hDue : (instantOf e k : Int) < s.utcNow + 100000000)
    (hOk : s.snapOk (e.snapId + k) (s.utcEpn (instantOf e k)) e.nsids = true) :
    Runs (.snapshotScheduleInstance entry) s fun t => s.recorded t (.snapDefine ⟨e.snapId + k, s.utcEpn (instantOf e k), e.nsids⟩) := by
  refine runs_next (execSnapshotScheduleInstance entry) ?_ rfl (s.recorded_record _)
  simp only [execSnapshotScheduleInstance, hManager, if_true, hEntry, hDone, State.nextInstance_of_snapOk hk hOk]
  refine congrArg _ (if_neg ?_)
  rintro (hPast | hQueued | hEarly)
  · exact hk.not_ge hPast
  · refine Bool.eq_false_iff.mp (State.queuedMgr_eq_false fun r hr => ?_) hQueued
    split
    · exact beq_eq_false_iff_ne.mpr (hNew _ hr)
    · rfl
  · exact hDue.not_ge hEarly

theorem snapshotReleaseStep_releases {s : State} {id nsid page : Nat} {p : Pres} (hManager : s.isManager = true) (hp : p ∈ s.head.md.pres)
    (hNs : p.nsIndex + 1 = nsid) (hPage : p.chunkNo / 4096 = page) (hUnseen : s.head.md.visible p.nsIndex p.leaf.birth p.death = false)
    (hNew : ∀ i, .manager (.snapRelease i nsid page) ∉ (s.stream s.mgrStream).sealQueue) (hRate : s.head.releaseAt ≤ s.time.t) :
    Runs (.snapshotReleaseStep id nsid page) s fun t => s.recorded t (.snapRelease id nsid page) := by
  have hSome : 0 < s.head.md.releasable nsid page :=
    List.length_pos_of_mem (List.mem_filter.mpr ⟨hp, by simp [hNs, hPage, hUnseen]⟩)
  refine runs_onlyIf (execSnapshotReleaseStep id nsid page) ?_ (by unfold execSnapshotReleaseStep; rfl) rfl ?_
  · simp only [hManager, hSome, hRate, and_self, decide_true, Bool.true_and, Bool.not_eq_true']
    refine State.queuedMgr_eq_false fun r hr => ?_
    split
    · refine Bool.eq_false_iff.mpr fun h => ?_
      obtain ⟨hn, hq⟩ := Bool.and_eq_true_iff.mp h
      exact hNew _ (eq_of_beq hn ▸ eq_of_beq hq ▸ hr)
    · rfl
  · exact State.recorded_of_queue (s := s) rfl (fun _ => rfl) (State.recorded_record _ _)

/-! ### Failed shelves -/

/-- From `s` to `t` records are added to the queue of the manager's stream, and the metadata are as they were. -/
structure RecordsMore (s t : State) : Prop where
  mgrStream : t.mgrStream = s.mgrStream
  queue : (s.stream s.mgrStream).sealQueue <+: (t.stream s.mgrStream).sealQueue
  md : t.head.md = s.head.md

theorem RecordsMore.rfl {s : State} : RecordsMore s s := ⟨Eq.refl _, List.prefix_rfl, Eq.refl _⟩

theorem RecordsMore.after {a b c : State} (h2 : RecordsMore b c) (h1 : RecordsMore a b) : RecordsMore a c where
  mgrStream := h2.mgrStream.trans h1.mgrStream
  queue := h1.queue.trans (h1.mgrStream ▸ h2.queue)
  md := h2.md.trans h1.md

theorem RecordsMore.foldl {α : Type} {g : State → α → State} (h : ∀ a x, RecordsMore a (g a x)) (l : List α) (s : State) :
    RecordsMore s (l.foldl g s) :=
  List.foldlRecOn l g (motive := RecordsMore s) .rfl fun a ha x _ => (h a x).after ha

theorem State.record_recordsMore (s : State) (r : MgrRec) : RecordsMore s (s.record r) where
  mgrStream := State.mgrStream_congr (State.record_stays.same_pins rfl) (State.setStream_field StreamSt.mine rfl)
  queue := (s.recorded_record r).symm ▸ List.prefix_append _ _
  md := s.setStream_md _ _

theorem State.moveShard_recordsMore (s : State) (site : Nat) : RecordsMore s (s.moveShard site) := by
  unfold State.moveShard
  dsimp only
  split
  · exact .rfl
  · exact .foldl (fun a _ => a.record_recordsMore _) _ _

/-- A record that was queued waits still after more are. -/
theorem RecordsMore.mem_of_recorded {s a t : State} {r : MgrRec} (h : RecordsMore a t) (hm : a.mgrStream = s.mgrStream)
    (hr : s.recorded a r) : .manager r ∈ (t.stream s.mgrStream).sealQueue := by
  refine (hm ▸ h.queue).subset ?_
  rw [hr]
  exact List.mem_append_right _ (List.mem_singleton_self _)

/-- What the manager records of a shelf that fails (R361, R363). -/
structure FailRecorded (s t : State) (site : Nat) : Prop where
  fail : .manager (.fail site) ∈ (t.stream s.mgrStream).sealQueue
  spares : .manager (.spareSet (s.sites.filter (fun x => x != site && s.accepts x))) ∈ (t.stream s.mgrStream).sealQueue
  md : t.head.md = s.head.md

theorem State.noteFail_records (s : State) (site : Nat) : FailRecorded s (s.noteFail site) site := by
  have hFail := s.record_recordsMore (.fail site)
  have hSpares := (s.record (.fail site)).record_recordsMore (.spareSet (s.sites.filter (fun x => x != site && s.accepts x)))
  have hMoves := State.moveShard_recordsMore ((s.record (.fail site)).record (.spareSet (s.sites.filter (fun x => x != site && s.accepts x)))) site
  exact {
    fail := (hMoves.after hSpares).mem_of_recorded hFail.mgrStream (s.recorded_record _)
    spares := hFail.mgrStream ▸ hMoves.mem_of_recorded hSpares.mgrStream (State.recorded_record _ _)
    md := ((hMoves.after hSpares).after hFail).md }

/-- A shelf that is not recorded as failed yet is (R361). -/
theorem State.recordFail_of_new {s : State} {site : Nat} (hManager : s.isManager = true) (hFailed : s.isFailed site = false)
    (hNew : .manager (.fail site) ∉ (s.stream s.mgrStream).sealQueue) : s.recordFail site = s.noteFail site := by
  refine if_neg fun h => ?_
  simp only [hManager, hFailed, Bool.not_true, Bool.false_or, List.any_eq_true] at h
  obtain ⟨x, hx, hSite⟩ := h
  split at hSite
  · exact hNew (eq_of_beq hSite ▸ hx)
  · cases hSite

theorem shelfLinkLossFail_records {s : State} {site : Fin 64} {d : Nat} (hManager : s.isManager = true) (hSite : site.val < s.nShelves)
    (hDown : (s.shelf site).downSince = some d) (hLate : d + s.p p_glade_fail_ms * 100000 ≤ s.time.t) (hFailed : s.isFailed site = false)
    (hNew : .manager (.fail site) ∉ (s.stream s.mgrStream).sealQueue) :
    Runs (.shelfLinkLossFail site) s fun t => FailRecorded s t site :=
  runs_onlyIf (execShelfLinkLossFail site) (by simp [hManager, hSite, hDown, hLate]) rfl rfl
    (State.recordFail_of_new hManager hFailed hNew ▸ s.noteFail_records site)

theorem plannedAbsenceExpiry_records {s : State} {site : Fin 64} {since : Nat} (hManager : s.isManager = true)
    (hAbsent : (site.val, since) ∈ s.head.md.absent) (hLate : since + s.p p_darn_planned_grace_s * 100000000 ≤ s.time.t)
    (hFailed : s.isFailed site = false) (hNew : .manager (.fail site) ∉ (s.stream s.mgrStream).sealQueue) :
    Runs (.plannedAbsenceExpiry site) s fun t => FailRecorded s t site := by
  have hAny : s.head.md.absent.any (fun a => a.1 == site.val && decide (a.2 + s.p p_darn_planned_grace_s * 100000000 ≤ s.time.t)) = true :=
    List.any_eq_true.mpr ⟨_, hAbsent, by simp [hLate]⟩
  exact runs_onlyIf (execPlannedAbsenceExpiry site) (by rw [hManager, hAny]; rfl) rfl rfl
    (State.recordFail_of_new hManager hFailed hNew ▸ s.noteFail_records site)

/-! ### Darning -/

@[simp] theorem State.darn_setDarn (s : State) (i : Nat) (d : DarnSt) : (s.setDarn i d).darn i = d := by
  by_cases h : i = 0 <;> simp [State.darn, State.setDarn, h]

@[simp] theorem State.setDarn_setDarn (s : State) (i : Nat) (d e : DarnSt) : (s.setDarn i d).setDarn i e = s.setDarn i e := by
  by_cases h : i = 0 <;> simp [State.setDarn, h]

section
variable {s : State} {i : Fin 2} {reads : List StripRead} {id m : Nat} {ms : List Nat} {r : StripeRec}
  (hUp : s.headUp = true) (hMine : (s.stream i).mine = true) (hRate : 0 < s.p p_darn_rate_gbps) (hNext : s.darnNext i = some (id, r))
  (hMembers : s.darnMembers i id r = m :: ms)
include hUp hMine hRate hNext hMembers

/-- The next member is rebuilt and sent to its target. -/
theorem darningRebuildStrip_sends {site : Nat} (hMissing : r.missing ≠ 0) (hFull : (decide (m < r.k) && bit r.empty m) = false)
    (hGone : r.gone reads = []) (hTarget : s.darnTarget id m r = some site) :
    Runs (.darningRebuildStrip i reads) s fun t => t = (s.setDarn i { s.darn i with
      cursor := id, tier := r.tier, moved := true, waiting := (s.darn i).waiting ++ [(id, m, site)] }).sendStrip id m site r true (r.rebuild reads m) := by
  refine runs_next (execDarningRebuildStrip i reads) ?_ rfl rfl
  simp [execDarningRebuildStrip, hUp, hMine, hRate, hNext, hMembers, hMissing, hFull, hGone, hTarget]

/-- An EMPTY data strip is recorded at its target without being written (R348). -/
theorem darningRebuildStrip_recordsEmpty {site : Nat} (hData : m < r.k) (hEmpty : bit r.empty m = true)
    (hTarget : s.darnTarget id m r = some site) :
    Runs (.darningRebuildStrip i reads) s fun t =>
      t = (s.setDarn i { s.darn i with cursor := id, tier := r.tier, moved := true }).recordMember id m site := by
  refine runs_next (execDarningRebuildStrip i reads) ?_ rfl rfl
  simp [execDarningRebuildStrip, hUp, hMine, hRate, hNext, hMembers, hData, hEmpty, hTarget]

/-- What more than m failures took is recorded as lost, and the stripe passed over (R367). -/
theorem darningRebuildStrip_recordsLost (hMissing : r.missing ≠ 0) (hFull : (decide (m < r.k) && bit r.empty m) = false)
    (hGone : r.gone reads ≠ []) :
    Runs (.darningRebuildStrip i reads) s fun t =>
      t = (s.recordLost id (r.gone reads)).setDarn i { s.darn i with skipped := (s.darn i).skipped ++ [id] } := by
  refine runs_next (execDarningRebuildStrip i reads) ?_ rfl rfl
  simp [execDarningRebuildStrip, hUp, hMine, hRate, hNext, hMembers, hMissing, hFull, hGone]

end

/-! ### Refold -/

theorem refoldRelocate_packs {s : State} {i : Fin 2} {chunkId id : Nat} {img : Bytes} {c : ChunkRec} (hUp : s.headUp = true)
    (hMine : (s.stream i).mine = true) (hRate : 0 < s.p p_refold_rate_gbps) (hNext : s.refoldNext i = some id)
    (hChunk : s.head.md.chunk chunkId = some c) (hStripe : c.stripeId = id) (hLive : c.live = true) (hLost : c.lost = false)
    (hPending : c.pending = false) (hLen : img.length = c.imageLen) (hStill : s.moving i chunkId = false) :
    Runs (.refoldRelocate i chunkId img) s fun t => t = s.packImage i chunkId img := by
  refine runs_next (execRefoldRelocate i chunkId img) ?_ rfl rfl
  simp [execRefoldRelocate, hUp, hMine, hRate, hNext, hChunk, hStripe, hLive, hLost, hPending, hLen, hStill]

/-- Settles O45: each clause is what one of the passes does where its premises let it act. -/
theorem thePassesMoveRebuildAndRecord : Obligations.ThePassesMoveRebuildAndRecord := by
  unfold Obligations.ThePassesMoveRebuildAndRecord
  exact ⟨fun _ _ _ _ hUp hr hDomain hFp hLate => partnerRepairTimeout_forgets hUp hr hDomain hFp hLate,
    fun _ _ _ _ _ _ _ _ _ _ hUp hLow hHigh hStream hDirty hPlace hSend => mapPageWrite_writes hUp hLow hHigh hStream hDirty hPlace hSend,
    fun _ _ _ _ hManager hEntry hDone hk hNew hDue hOk => snapshotScheduleInstance_defines hManager hEntry hDone hk hNew hDue hOk,
    fun _ _ _ _ _ hManager hp hNs hPage hUnseen hNew hRate => snapshotReleaseStep_releases hManager hp hNs hPage hUnseen hNew hRate,
    fun _ _ _ hManager hSite hDown hLate hFailed hNew =>
      (shelfLinkLossFail_records hManager hSite hDown hLate hFailed hNew).imp fun _ h => ⟨h.fail, h.spares, h.md⟩,
    fun _ _ _ hManager hAbsent hLate hFailed hNew =>
      (plannedAbsenceExpiry_records hManager hAbsent hLate hFailed hNew).imp fun _ h => ⟨h.fail, h.md⟩,
    fun _ _ _ _ _ _ _ _ hUp hMine hRate hNext hMembers hMissing hFull hGone hTarget =>
      darningRebuildStrip_sends hUp hMine hRate hNext hMembers hMissing hFull hGone hTarget,
    fun _ _ _ _ _ _ _ _ hUp hMine hRate hNext hMembers hData hEmpty hTarget =>
      darningRebuildStrip_recordsEmpty hUp hMine hRate hNext hMembers hData hEmpty hTarget,
    fun _ _ _ _ _ _ _ hUp hMine hRate hNext hMembers hMissing hFull hGone =>
      darningRebuildStrip_recordsLost hUp hMine hRate hNext hMembers hMissing hFull hGone,
    fun _ _ _ _ _ _ hUp hMine hRate hNext hChunk hStripe hLive hLost hPending hLen hStill =>
      refoldRelocate_packs hUp hMine hRate hNext hChunk hStripe hLive hLost hPending hLen hStill⟩

end Sys2Proof.Machine
end

section
/-! PROOFS. The step, the queue, and what every command keeps (spec/95, log 8, log 17). -/

/- The proofs of this part are elaborated one after another: a further worker's stack would not fit under the limit of the check. -/
set_option deprecated.oldSectionVars true

namespace Sys2Proof.Machine

/-! ### The step -/

theorem step_of_cons {s : State} {c : Instr} {rest : List Instr} (h : s.pending = c :: rest) :
    step s = exec c { s with pending := rest } := by
  simp only [step, h]

theorem step_of_nil {s : State} (h : s.pending = []) : step s = .next s.tick := by
  simp only [step, h]

theorem State.tick_of_room {s : State} (hSet : s.time.tSet = true) (hLive : s.live = true) (hRoom : s.phase + 1 < s.epochLen) :
    s.tick = s.setT (s.time.t + 1) := by
  simp [State.tick, hSet, hLive, hRoom]

theorem State.tick_of_held {s : State} (h : s.time.tSet = false ∨ s.live = false ∨ s.epochLen ≤ s.phase + 1) : s.tick = s := by
  obtain h | h | h := h
  · simp [State.tick, h]
  · simp [State.tick, h]
  · simp [State.tick, Nat.not_lt.mpr h]

/-- A tick moves T and the timers of the engines that wait for it. -/
theorem State.tick_stays (s : State) : Stays { time := true, eng := true } s s.tick := by
  unfold State.tick
  split
  · exact State.setT_stays
  · exact Stays.rfl

/-- Settles O1: the command in front is run on the queue's rest. -/
theorem stepRunsTheFrontCommand : Obligations.StepRunsTheFrontCommand := by
  unfold Obligations.StepRunsTheFrontCommand
  exact fun _ _ _ h => step_of_cons h

/-- Settles O2: an empty queue takes `State.tick`, which moves T by one where the epoch has room for it, and nothing elsewhere. -/
theorem idleStepTicksArrayTime : Obligations.IdleStepTicksArrayTime := by
  unfold Obligations.IdleStepTicksArrayTime
  refine ⟨fun s hq hSet hLive hRoom => ⟨_, step_of_nil hq, ?_, ?_⟩, fun s hq hHeld => ?_⟩
  · rw [State.tick_of_room hSet hLive hRoom]; rfl
  · rw [State.tick_of_room hSet hLive hRoom]; exact hq
  · rw [step_of_nil hq, State.tick_of_held hHeld]

/-! ### What every command keeps -/

/-- Settles O9: `exec_next` names the state that each command leaves. -/
theorem everyCommandAnswersANextState : Obligations.EveryCommandAnswersANextState := by
  unfold Obligations.EveryCommandAnswersANextState
  exact exec_next

/-- Settles O5: `exec_grows` says of every command that the waiting commands are unchanged. -/
theorem commandsLeaveTheQueueAlone : Obligations.CommandsLeaveTheQueueAlone := by
  unfold Obligations.CommandsLeaveTheQueueAlone
  exact fun _ _ _ h => (exec_grows h).pending

/-- Settles O3: the tables of the reset state are counted out, its memories are empty, its OTP array is blank and nothing waits. -/
theorem resetStateIsLegal : Obligations.ResetStateIsLegal := by
  unfold Obligations.ResetStateIsLegal
  exact ⟨⟨List.length_replicate, List.length_replicate, List.length_replicate, rfl, rfl, rfl, rfl⟩, by decide, rfl⟩

theorem State.Sound.of_pending {s : State} (h : s.Sound) (l : List Instr) : { s with pending := l }.Sound :=
  ⟨h.eng, h.port, h.front, h.nor, h.hbm, h.scratch, h.raw⟩

/-- The queue's rest is as well formed as the queue. -/
theorem State.Inv.of_cons {s : State} {c : Instr} {rest : List Instr} (h : s.Inv) (hq : s.pending = c :: rest) :
    { s with pending := rest }.Inv := by
  have hAll := h.pending
  rw [hq, List.all_cons, Bool.and_eq_true] at hAll
  exact ⟨h.sound.of_pending rest, h.otp, hAll.2⟩

theorem State.Inv.grows {s t : State} (h : s.Inv) (hg : Grows s t) : t.Inv :=
  ⟨hg.sound h.sound, hg.wf h.otp, hg.pending ▸ h.pending⟩

/-- Settles O4: a tick and every command of a queue `Grows`, which keeps each part of the invariant. -/
theorem everyStepKeepsTheInvariant : Obligations.EveryStepKeepsTheInvariant := by
  unfold Obligations.EveryStepKeepsTheInvariant
  intro s t hInv hStep
  cases hq : s.pending with
  | nil =>
    rw [step_of_nil hq] at hStep
    cases hStep
    exact hInv.grows (s.tick_stays.grows rfl)
  | cons c rest =>
    rw [step_of_cons hq] at hStep
    exact (hInv.of_cons hq).grows (exec_grows hStep)

end Sys2Proof.Machine
end

section
/-! PROOFS. The reset inputs, the return of SYSCLK and the restarts, with their RESET_CAUSE (R10, R64, R85, R200, R559, R612, R615, R628). -/

/- The proofs of this part are elaborated one after another: a further worker's stack would not fit under the limit of the check. -/
set_option deprecated.oldSectionVars true

namespace Sys2Proof.Machine

/-! ### The reset inputs -/

theorem porNAssert_resets {s : State} {good : Bool} (h : s.pins.porN = true) :
    Runs (.porNAssert good) s fun t => t.pins.porN = false ∧ t.boot = State.reset.boot ∧ t.params = [] ∧ t.otp = s.otp ∧
      t.pins.roleSel = s.pins.roleSel ∧ t.pins.siteId = s.pins.siteId := by
  refine runs_onlyIf (execPorNAssert good) h rfl rfl ?_
  have hBefore : Stays (writes (.porNAssert good)) s (if s.live then s.assertReset good else s) :=
    ite_stays (State.assertReset_stays.up rfl) Stays.rfl
  exact ⟨rfl, rfl, rfl, hBefore.same_otp rfl, hBefore.straps.1, hBefore.straps.2⟩

/-- The state that the release of POR_N leaves, but for the alarm of a thermal trip. -/
def State.released (s : State) (r : Fin 4) (x : Fin 64) (cause : Nat) : State :=
  { s.cold with
    pins := { s.pins with porN := true, thermtripN := true, roleSel := r, siteId := x, sampled := true }
    nvme := { s.cold.nvme with powerCycles := s.nvme.powerCycles + 1 }
    power := { s.cold.power with resetCause := cause, tripped := false } }

theorem porNRelease_boots {s : State} {r : Fin 4} {x : Fin 64} (h : s.pins.porN = false) (hTrip : s.power.tripped = false) :
    Runs (.porNRelease r x) s fun t => t = s.released r x 1 := by
  refine runs_onlyIf (b := !s.pins.porN) (execPorNRelease r x) (by simp [h]) rfl rfl ?_
  have hCold : s.cold.power.tripped = false := hTrip
  simp only [hCold, Bool.false_eq_true, if_false]
  rfl

theorem porNRelease_afterTrip {s : State} {r : Fin 4} {x : Fin 64} (h : s.pins.porN = false) (hTrip : s.power.tripped = true) :
    Runs (.porNRelease r x) s fun t => t = (s.released r x 5).alarm AL_POWER_THERMTRIP 0 := by
  refine runs_onlyIf (b := !s.pins.porN) (execPorNRelease r x) (by simp [h]) rfl rfl ?_
  have hCold : s.cold.power.tripped = true := hTrip
  simp only [hCold, if_true]
  rfl

theorem warmRstNAssert_resets {s : State} {good : Bool} (h : s.pins.porN = true) (hWarm : s.pins.warmN = true)
    (hTrip : s.power.tripped = false) :
    Runs (.warmRstNAssert good) s fun t => t.pins.warmN = false ∧ t.boot = State.reset.boot ∧ t.params = [] ∧ t.otp = s.otp := by
  refine runs_onlyIf (b := s.pins.porN && s.pins.warmN && !s.power.tripped) (execWarmRstNAssert good) (by simp [h, hWarm, hTrip]) rfl rfl ?_
  have hBefore : Stays (writes (.warmRstNAssert good)) s (if s.pins.sysclk then s.assertReset good else s) :=
    ite_stays (State.assertReset_stays.up rfl) Stays.rfl
  exact ⟨rfl, rfl, rfl, hBefore.same_otp rfl⟩

theorem warmRstNRelease_boots {s : State} (h : s.pins.porN = true) (hWarm : s.pins.warmN = false) :
    Runs .warmRstNRelease s fun t =>
      t = { s with pins := { s.pins with warmN := true }, power := { s.power with resetCause := 2 } } :=
  runs_onlyIf (b := s.pins.porN && !s.pins.warmN) execWarmRstNRelease (by simp [h, hWarm]) rfl rfl rfl

theorem sysclkReturn_restarts {s : State} (h : s.pins.porN = true) (hClk : s.pins.sysclk = false) :
    Runs .sysclkReturn s fun t => t.pins.sysclk = true ∧ t.power.resetCause = 6 ∧ t.boot = State.reset.boot ∧ t.params = [] ∧
      t.otp = s.otp := by
  refine runs_onlyIf (b := s.pins.porN && !s.pins.sysclk) execSysclkReturn (by simp [h, hClk]) rfl rfl ?_
  have hBefore : ((s.endPrograms true).cutCommit).otp = s.otp :=
    (State.cutCommit_stays.same_otp rfl).trans (State.endPrograms_stays.same_otp rfl)
  exact ⟨rfl, rfl, rfl, rfl, hBefore⟩

/-- Settles O10: each clause is what its reset input, or SYSCLK's return, leaves. -/
theorem resetInputsHoldThePart : Obligations.ResetInputsHoldThePart := by
  unfold Obligations.ResetInputsHoldThePart
  refine ⟨fun _ _ h => porNAssert_resets h, fun s r x h hTrip => (porNRelease_boots h hTrip).imp ?_,
    fun s r x h hTrip => (porNRelease_afterTrip h hTrip).imp ?_, fun _ _ h hWarm hTrip => warmRstNAssert_resets h hWarm hTrip,
    fun _ h hWarm => warmRstNRelease_boots h hWarm, fun _ h hClk => sysclkReturn_restarts h hClk⟩
  · rintro _ rfl
    exact ⟨rfl, rfl, rfl, rfl, rfl, rfl⟩
  · rintro _ rfl
    exact ⟨by rw [State.alarm_pins]; rfl, by rw [State.alarm_power]; rfl, by rw [State.alarm_power]; rfl, State.alarm_isRaised _ _ _⟩

/-! ### Restarts -/

/-- What a restart leaves of the boot registers, the parameters and the OTP array. -/
theorem State.restart_resets (s : State) (cause : Nat) :
    (s.restart cause).power.resetCause = cause ∧ (s.restart cause).boot = State.reset.boot ∧ (s.restart cause).params = [] ∧
      (s.restart cause).otp = s.otp :=
  ⟨rfl, rfl, rfl, State.restart_stays.same_otp rfl⟩

theorem readyWatchdogExpiry_restarts {s : State} (hLive : s.live = true) (hReady : s.boot.readyDone = false)
    (hStage : s.boot.stage = .firmware ∨ s.boot.stage = .links) :
    Runs .readyWatchdogExpiry s fun t => t = s.restart 3 := by
  have hRuns : s.watchdogRuns = true := by
    obtain h | h := hStage <;> simp [State.watchdogRuns, hLive, hReady, h]
  exact runs_onlyIf execReadyWatchdogExpiry hRuns rfl rfl rfl

/-- A management command on a part that accepts it. -/
theorem runs_mgmtCmd {s : State} {c : Instr} {cmd tag : Nat} {f : State → State} {p : State → Prop} (m : State → Res) (hLive : s.live = true)
    (hTakes : s.mgmtAccepts cmd = true) (hp : p (f s)) (hm : m s = s.mgmtCmd cmd tag f := by rfl) (hc : exec c s = m s := by rfl) :
    Runs c s p :=
  runs_onlyIf m hLive hm hc (by simpa only [hTakes, if_true] using hp)

/-- On one that R560 has refuse it. -/
theorem runs_mgmtCmd_refused {s : State} {c : Instr} {cmd tag : Nat} {f : State → State} {p : State → Prop} (m : State → Res)
    (hLive : s.live = true) (hTakes : s.mgmtAccepts cmd = false) (hp : p (s.respond cmd tag 3 none []))
    (hm : m s = s.mgmtCmd cmd tag f := by rfl) (hc : exec c s = m s := by rfl) : Runs c s p :=
  runs_onlyIf m hLive hm hc (by simpa only [hTakes, Bool.false_eq_true, if_false] using hp)

/-- RESTART is accepted in every state of boot but one that R4 holds. -/
theorem State.mgmtAccepts_restart {s : State} (h : s.strapsOk = true) : s.mgmtAccepts 9 = true := by
  simp [State.mgmtAccepts, h]

theorem mgmtRestart_restarts {s : State} {tag : Byte} (hLive : s.live = true) (hStraps : s.strapsOk = true)
    (hMay : s.isHead = false ∨ s.boot.stage = .recoveryMode ∨ s.peerUp = true) :
    Runs (.mgmtRestart tag) s fun t => t = (s.respond 9 tag.toNat 0 none []).restart 4 := by
  refine runs_mgmtCmd (execMgmtRestart tag) hLive (State.mgmtAccepts_restart hStraps) ?_
  have hGoes : (s.isHead && s.boot.stage != .recoveryMode && !s.peerUp) = false := by
    obtain h | h | h := hMay <;> simp [h]
  simp only [hGoes, Bool.false_eq_true, if_false]

/-- The head restarts where its peer is in service, and records a refusal elsewhere (R89, R200). -/
def State.nssr (s : State) (c : Nat) : State :=
  if !s.peerUp then s.event EV_NVME_RESTART_REFUSED 0 else (s.restart 4).setCtrl c { (s.restart 4).ctrl c with nssro := true }

theorem nssrWrite_runs {s : State} {c : Nat} (hFw : s.fw = true) (hHead : s.isHead = true) (hHere : s.nssrHere c = true) :
    Runs (.nssrWrite c) s fun t => t = s.nssr c :=
  runs_onlyIf (b := s.fw && s.isHead && s.nssrHere c) (f := fun s => s.nssr c) (execNssrWrite c) (by simp [hFw, hHead, hHere]) rfl rfl rfl

/-- Settles O11: each cause is that of a `State.restart`, whose state `State.restart_resets` gives. -/
theorem restartsRecordTheirCause : Obligations.RestartsRecordTheirCause := by
  unfold Obligations.RestartsRecordTheirCause
  refine ⟨fun s hLive hReady hStage => (readyWatchdogExpiry_restarts hLive hReady hStage).imp ?_,
    fun s tag hLive hStraps hMay => (mgmtRestart_restarts hLive hStraps hMay).imp ?_,
    fun s c hFw hHead hHere hPeer => (nssrWrite_runs hFw hHead hHere).imp ?_,
    fun s c hFw hHead hHere hPeer => (nssrWrite_runs hFw hHead hHere).imp ?_⟩
  · rintro _ rfl
    exact s.restart_resets 3
  · rintro _ rfl
    exact (s.respond 9 tag.toNat 0 none []).restart_resets 4
  · rintro _ rfl
    obtain ⟨hCause, hBoot, hParams, hOtp⟩ := s.restart_resets 4
    rw [State.nssr, if_neg (by simp [hPeer])]
    exact ⟨hCause, hBoot, hParams, hOtp, congrArg Ctrl.nssro (State.ctrl_setCtrl_same _ _ _)⟩
  · rintro _ rfl
    exact if_pos (by simp [hPeer])

end Sys2Proof.Machine
end

section
/-! PROOFS. Every command leaves the parts of the state that are not named for it (spec/95, log 8). -/

/- The proofs of this part are elaborated one after another: a further worker's stack would not fit under the limit of the check. -/
set_option deprecated.oldSectionVars true

namespace Sys2Proof.Machine

theorem Stays.unchanged {m : Mask} {s t : State} (h : Stays m s t) : State.Unchanged m s t where
  pins := h.same_pins
  otp := h.same_otp
  nor := h.same_nor
  boot := h.same_boot
  ledger := h.same_ledger
  params := h.same_params
  time := h.same_time
  ev := h.same_ev
  mgmt := h.same_mgmt
  jtag := h.same_jtag
  power := h.same_power
  eng := h.same_eng
  mem := h.same_mem
  ring := h.same_ring
  mc := h.same_mc
  hem := h.same_hem
  nvme := h.same_nvme
  seam := h.same_seam
  digest := h.same_digest
  cam := h.same_cam
  press := h.same_press
  cipher := h.same_cipher
  parity := h.same_parity
  port := h.same_port
  head := h.same_head
  front := h.same_front
  rdma := h.same_rdma
  repl := h.same_repl
  flash := h.same_flash
  sh := h.same_sh
  keep := h.same_keep
  free := h.same_free
  out := h.same_out
  pending := congrArg Prod.fst h.fixed

theorem State.Unchanged.trans {m : Mask} {a b c : State} (h1 : State.Unchanged m a b) (h2 : State.Unchanged m b c) :
    State.Unchanged m a c where
  pins := fun b => (h2.pins b).trans (h1.pins b)
  otp := fun b => (h2.otp b).trans (h1.otp b)
  nor := fun b => (h2.nor b).trans (h1.nor b)
  boot := fun b => (h2.boot b).trans (h1.boot b)
  ledger := fun b => (h2.ledger b).trans (h1.ledger b)
  params := fun b => (h2.params b).trans (h1.params b)
  time := fun b => (h2.time b).trans (h1.time b)
  ev := fun b => (h2.ev b).trans (h1.ev b)
  mgmt := fun b => (h2.mgmt b).trans (h1.mgmt b)
  jtag := fun b => (h2.jtag b).trans (h1.jtag b)
  power := fun b => (h2.power b).trans (h1.power b)
  eng := fun b => (h2.eng b).trans (h1.eng b)
  mem := fun b => (h2.mem b).trans (h1.mem b)
  ring := fun b => (h2.ring b).trans (h1.ring b)
  mc := fun b => (h2.mc b).trans (h1.mc b)
  hem := fun b => (h2.hem b).trans (h1.hem b)
  nvme := fun b => (h2.nvme b).trans (h1.nvme b)
  seam := fun b => (h2.seam b).trans (h1.seam b)
  digest := fun b => (h2.digest b).trans (h1.digest b)
  cam := fun b => (h2.cam b).trans (h1.cam b)
  press := fun b => (h2.press b).trans (h1.press b)
  cipher := fun b => (h2.cipher b).trans (h1.cipher b)
  parity := fun b => (h2.parity b).trans (h1.parity b)
  port := fun b => (h2.port b).trans (h1.port b)
  head := fun b => (h2.head b).trans (h1.head b)
  front := fun b => (h2.front b).trans (h1.front b)
  rdma := fun b => (h2.rdma b).trans (h1.rdma b)
  repl := fun b => (h2.repl b).trans (h1.repl b)
  flash := fun b => (h2.flash b).trans (h1.flash b)
  sh := fun b => (h2.sh b).trans (h1.sh b)
  keep := fun b => (h2.keep b).trans (h1.keep b)
  free := fun b => (h2.free b).trans (h1.free b)
  out := fun b => (h2.out b).trans (h1.out b)
  pending := h2.pending.trans h1.pending

theorem State.released_unchanged (s : State) (r : Fin 4) (x : Fin 64) (cause : Nat) :
    State.Unchanged (writes (.porNRelease r x)) s (s.released r x cause) :=
  { (State.cold_stays (s := s)).unchanged with pins := nofun, nvme := nofun, power := nofun, out := nofun }

/-- The release of POR_N leaves the released state, the alarm of a thermal trip raised on it or not (R624). -/
theorem execPorNRelease_unchanged {r : Fin 4} {x : Fin 64} {s t : State} (h : exec (.porNRelease r x) s = .next t) :
    State.Unchanged (writes (.porNRelease r x)) s t := by
  cases hPor : s.pins.porN with
  | true =>
    have hStays : exec (.porNRelease r x) s = .next s := by simp [exec, execPorNRelease, onlyIf, hPor]
    cases hStays.symm.trans h
    exact (Stays.rfl (m := writes (.porNRelease r x))).unchanged
  | false =>
    cases hTrip : s.power.tripped with
    | false =>
      obtain ⟨_, hRun, rfl⟩ := porNRelease_boots (r := r) (x := x) hPor hTrip
      cases hRun.symm.trans h
      exact s.released_unchanged r x 1
    | true =>
      obtain ⟨_, hRun, rfl⟩ := porNRelease_afterTrip (r := r) (x := x) hPor hTrip
      cases hRun.symm.trans h
      exact (s.released_unchanged r x 5).trans (State.alarm_stays.up rfl).unchanged

/-- Settles O39: the release of POR_N by its own lemma, every other command by `exec_keeps`. -/
theorem everyCommandChangesOnlyItsParts : Obligations.EveryCommandChangesOnlyItsParts := by
  unfold Obligations.EveryCommandChangesOnlyItsParts
  intro c s t h
  by_cases hc : ∃ r x, c = .porNRelease r x
  · obtain ⟨r, x, rfl⟩ := hc
    exact execPorNRelease_unchanged h
  · exact (exec_keeps (fun r x e => hc ⟨r, x, e⟩) t h).unchanged

end Sys2Proof.Machine
end

section
/-! PROOFS. A slew toward the peer that ends on a head whose own reference draws it back to LOCKED (R45, R47). It refutes a statement that
leaves this case out. -/

/- The proofs of this part are elaborated one after another: a further worker's stack would not fit under the limit of the check. -/
set_option deprecated.oldSectionVars true

namespace Sys2Proof.Machine

/-- `bareHead` in the PEER of R47: its slew toward the manager has nothing left to correct, and its own reference is valid and 500 ns off, within
`time.skew_max_ns`. -/
def skewedHead : State :=
  { bareHead with time := { tSet := true, state := .peer, skewPeer := true, refValid := true, refOff := 500, slewing := true } }

/-- It returns to LOCKED (R47), and a slew toward its own reference begins (R45). -/
theorem slewDone_skewedHead_slewsOn : (skewedHead.after .slewDone).time.slewing = true := by decide

/-- Refutes O15 at its clause on SLEW_DONE of a head, which looks at the slew that ends alone: on `skewedHead` the end of the slew toward the
peer is the begin of one toward the own reference. -/
theorem not_timeStatesMoveAsTheRulesSay : ¬ Obligations.TimeStatesMoveAsTheRulesSay := by
  unfold Obligations.TimeStatesMoveAsTheRulesSay
  rintro ⟨-, -, hSlew, -⟩
  obtain ⟨hEnded, -⟩ := (hSlew skewedHead (by decide) (by decide) rfl (by decide) (Or.inr (by decide))).after
  exact absurd (hEnded.symm.trans slewDone_skewedHead_slewsOn) (by decide)

end Sys2Proof.Machine
end

section
/-! PROOFS. The stages from FIRMWARE to READY (R79, R82, R84 to R91, R106, R108, R465, R477). -/

/- The proofs of this part are elaborated one after another: a further worker's stack would not fit under the limit of the check. -/
set_option deprecated.oldSectionVars true

namespace Sys2Proof.Machine

/-! ### Stages -/

@[simp] theorem State.toStage_boot (s : State) (g : Stage) : (s.toStage g).boot = { s.boot with stage := g } := by
  simp only [State.toStage]
  split <;> rfl

theorem State.stage_of_atStage {s : State} {g : Stage} (h : s.atStage g = true) : s.boot.stage = g := by
  simp only [State.atStage, Bool.and_eq_true, beq_iff_eq] at h
  exact h.1.2

theorem State.isShelf_congr {s t : State} (h : t.pins = s.pins) : t.isShelf = s.isShelf := by simp only [State.isShelf, h]

/-! ### FIRMWARE and LINKS -/

theorem bootFirmware_schemaFails {s : State} {k : KatResult} (h : s.atStage .firmware = true) (hBlock : parseParams s.boot.paramBlock = none) :
    Runs (.bootFirmware k) s fun t => t.power.resetCause = 7 ∧ t.boot = State.reset.boot ∧ t.params = [] := by
  refine runs_onlyIf (execBootFirmware k) h rfl rfl ?_
  simp only [hBlock]
  obtain ⟨hCause, hBoot, hParams, -⟩ := State.restart_resets
    (s.bcrWrite (if s.boot.copy = .a then { s.boot.bcr with schemaFailA := headerHash s.nor s.boot.copy }
      else { s.boot.bcr with schemaFailB := headerHash s.nor s.boot.copy })) 7
  exact ⟨hCause, hBoot, hParams⟩

/-- Nothing of FIRMWARE after the parameters are in force touches them. -/
theorem State.firmware_params (s : State) (k : KatResult) :
    (s.placeHbm.holdupAct.setVcore.idleDomains.applyKat k).params = s.params := by
  rw [State.applyKat_stays.same_params rfl, State.idleDomains_stays.same_params rfl, State.setVcore_stays.same_params rfl,
    State.holdupAct_stays.same_params rfl, State.placeHbm_stays.same_params rfl]

theorem State.firmware_ends (s : State) :
    ((if s.isHead then s.envelopes.setRegions else s).toStage .links).boot.stage = .links ∧
      ((if s.isHead then s.envelopes.setRegions else s).toStage .links).params = s.params := by
  have hKeys : Stays { boot := true, ev := true, nvme := true, cam := true, cipher := true, out := true } s
      (if s.isHead then s.envelopes.setRegions else s) :=
    ite_stays ((State.setRegions_stays.up rfl).after (State.envelopes_stays.up rfl)) Stays.rfl
  exact ⟨by rw [State.toStage_boot], (State.toStage_stays.same_params rfl).trans (hKeys.same_params rfl)⟩

theorem bootFirmware_loadsParams {s : State} {k : KatResult} {ps : List PRec} (h : s.atStage .firmware = true)
    (hBlock : parseParams s.boot.paramBlock = some ps) :
    Runs (.bootFirmware k) s fun t => t.boot.stage = .links ∧ t.params = ps := by
  refine runs_onlyIf (execBootFirmware k) h rfl rfl ?_
  split
  · rename_i hNone
    cases hBlock.symm.trans hNone
  · rename_i qs hSome
    cases hBlock.symm.trans hSome
    extract_lets t0 s1 s2 s3
    have hParams : s2.params = ps := s1.firmware_params k
    clear_value s2
    exact ⟨s2.firmware_ends.1, s2.firmware_ends.2.trans hParams⟩

/-- The ports train before LINKS ends, whatever the role: no strap moves. -/
theorem bootLinks_leads {s : State} (f : LinksFound) (h : s.atStage .links = true) :
    Runs (.bootLinks f) s fun t => t.boot.stage = if s.isShelf then .recovery else .waitTime := by
  refine runs_onlyIf (execBootLinks f) h rfl rfl ?_
  extract_lets mine s1 s2 s3 s4 hp
  have hPorts : Stays { port := true, out := true } s s2 :=
    (foldl_stays fun _ _ => State.spokeTrained_stays).after (foldl_stays fun _ _ => State.setPort_stays.up rfl)
  rw [State.isShelf_congr (hPorts.same_pins rfl)]
  split <;> rw [State.toStage_boot]

theorem bootWaitTime_goesOn {s : State} (h : s.atStage .waitTime = true) (hHead : s.isHead = true) (hSet : s.time.tSet = true)
    (hState : s.time.state = .locked ∨ s.time.state = .peer) :
    Runs .bootWaitTime s fun t => t.boot = { s.boot with stage := .join } ∧ t.time = s.time := by
  refine runs_onlyIf (b := s.atStage .waitTime && s.isHead && s.time.tSet && (s.time.state == .locked || s.time.state == .peer))
    execBootWaitTime (by simpa [h, hHead, hSet] using hState) rfl rfl ?_
  exact ⟨s.toStage_boot .join, State.toStage_stays.same_time rfl⟩

/-! ### RECOVERY -/

/-- The flush at the end of RECOVERY is the first record after it, and the map it writes is the map in force (R457, R466). -/
theorem State.recoverFlush_flushes (s : State) :
    s.recoverFlush.keep.records = [.flush s.recoverFlush.keep.flushNo] ∧ s.recoverFlush.keep.map = s.recoverFlush.sh.map := by
  unfold State.recoverFlush
  extract_lets n spare bad h1 k1 s1 h2 s2 s3
  have hAlarm : s3.keep = s2.keep ∧ s3.sh = s2.sh := by
    change (if s2.keep.readOnly = 0 then s2 else s2.alarm AL_FTL_READ_ONLY 0).keep = _ ∧
      (if s2.keep.readOnly = 0 then s2 else s2.alarm AL_FTL_READ_ONLY 0).sh = _
    split <;> simp
  have hPaused : (if s3.sh.paused then s3.alarm AL_FTL_CLEARING_PAUSED 0 else s3).keep = s2.keep ∧
      (if s3.sh.paused then s3.alarm AL_FTL_CLEARING_PAUSED 0 else s3).sh = s2.sh := by
    split <;> simp [hAlarm]
  rw [State.event_keep, State.event_sh, hPaused.1, hPaused.2]
  exact ⟨rfl, rfl⟩

theorem bootRecovery_recovers {s : State} (h : s.atStage .recovery = true) (hShelf : s.isShelf = true)
    (hDies : s.keep.dies = none ∨ s.keep.dies = some s.dies) :
    Runs .bootRecovery s fun t => t.boot.stage = .join ∧ t.keep.records = [.flush t.keep.flushNo] ∧ t.keep.map = t.sh.map := by
  have hSame : (s.keep.dies.isSome && s.keep.dies != some s.dies) = false := by
    obtain h | h := hDies <;> simp [h]
  refine runs_onlyIf (b := s.atStage .recovery && s.isShelf) execBootRecovery (by simp [h, hShelf]) rfl rfl ?_
  simp only [hSame, Bool.false_eq_true, if_false]
  rw [State.toStage_boot, State.toStage_stays.same_keep rfl, State.toStage_stays.same_sh rfl]
  exact ⟨rfl, State.recoverFlush_flushes _⟩

theorem bootRecovery_otherDies {s : State} {n : Nat} (h : s.atStage .recovery = true) (hShelf : s.isShelf = true)
    (hDies : s.keep.dies = some n) (hOther : n ≠ s.dies) :
    Runs .bootRecovery s fun t => t.boot = s.boot ∧ t.raised AL_FLASH_DIE_FAIL 0 := by
  refine runs_onlyIf (b := s.atStage .recovery && s.isShelf) execBootRecovery (by simp [h, hShelf]) rfl rfl ?_
  simp only [hDies, Option.isSome_some, Bool.true_and, bne_iff_ne, ne_eq, Option.some.injEq, hOther, not_false_eq_true, if_true]
  exact ⟨State.alarm_boot _ _ _, State.alarm_isRaised _ _ _⟩

/-! ### JOIN -/

@[simp] theorem State.setHolds_boot (s : State) (l : List Nat) : (s.setHolds l).boot = { s.boot with holds := l } := by
  unfold State.setHolds
  extract_lets s1 s2
  have hCleared : Stays { ev := true, nvme := true, out := true } s s1 := foldl_stays fun _ _ => State.clearAlarm_stays
  have hRaised : Stays { ev := true, nvme := true, out := true } s1 s2 := foldl_stays fun _ _ => ite_stays Stays.rfl State.alarm_stays
  exact congrArg (fun b : BootSt => { b with holds := l }) ((hRaised.after hCleared).same_boot rfl)

theorem bootJoin_shelf {s : State} {j : JoinFound} (h : s.atStage .join = true) (hHead : s.isHead = false) (hJoined : s.boot.joined = false)
    (hAsked : s.seam.asked = false) (hKat : s.parity.katOk = true) :
    Runs (.bootJoin j) s fun t => t.boot.holds = s.joinHolds j ∧ t.boot.joined = (s.joinHolds j).isEmpty ∧ t.boot.stage = .join := by
  refine runs_onlyIf (b := s.atStage .join && !s.boot.joined && !s.seam.asked && s.parity.katOk) (execBootJoin j)
    (by simp [h, hJoined, hAsked, hKat]) rfl rfl ?_
  simp only [hHead, Bool.false_eq_true, if_false, State.joinShelf, State.setHolds_boot]
  exact ⟨trivial, trivial, State.stage_of_atStage h⟩

/-! ### READY -/

/-- From `s` to `t` the power-fail record and the state of the boot's ledger record are as they were. -/
structure SameCommit (s t : State) : Prop where
  pf : t.hem.pf = s.hem.pf
  ledger : t.ledger.state = s.ledger.state

theorem SameCommit.after {a b c : State} (h2 : SameCommit b c) (h1 : SameCommit a b) : SameCommit a c :=
  ⟨h2.pf.trans h1.pf, h2.ledger.trans h1.ledger⟩

theorem Stays.sameCommit {m : Mask} {s t : State} (h : Stays m s t) (hHem : m.hem = false) (hLedger : m.ledger = false) : SameCommit s t :=
  ⟨by rw [h.same_hem hHem], by rw [h.same_ledger hLedger]⟩

theorem State.setStaging_pf (s : State) (g : LedgerStaging) : (s.setStaging g).hem.pf = s.hem.pf ∧ (s.setStaging g).ledger = s.ledger :=
  ⟨rfl, rfl⟩

theorem State.ledgerCommit_state (s : State) : s.ledgerCommit.ledger.state = 2 := by
  unfold State.ledgerCommit
  with_reducible rfl

theorem State.appendManager_sameCommit (s : State) (type slots : Nat) (entries : List Bytes) :
    SameCommit s (s.appendManager type slots entries) := by
  unfold State.appendManager
  extract_lets g place body r s1 g1 s2 l
  have hNor : s1.hem.pf = s.hem.pf ∧ s1.ledger = s.ledger := ⟨rfl, rfl⟩
  obtain ⟨hPf, hLedger⟩ := s1.setStaging_pf g1
  clear_value g1 s1
  refine ⟨hPf.trans hNor.1, ?_⟩
  change s2.ledger.state = s.ledger.state
  exact congrArg LedgerSt.state (hLedger.trans hNor.2)

theorem State.appendJoin_sameCommit (s : State) (c : Collected) : SameCommit s (s.appendJoin c) := by
  unfold State.appendJoin
  split
  · extract_lets s1 l1
    have hAppended : SameCommit s s1 := s.appendManager_sameCommit 3 1 [c.entry]
    clear_value s1
    have hListed : SameCommit s1 { s1 with ledger := { s1.ledger with joins := s1.ledger.joins ++ [c] } } := ⟨rfl, rfl⟩
    exact (State.record_stays.sameCommit rfl rfl).after (hListed.after hAppended)
  · exact ⟨rfl, rfl⟩

theorem State.appendLater_sameCommit (s : State) : SameCommit s s.appendLater := by
  have hAll : ∀ (l : List Collected) (a : State), SameCommit a (l.foldl State.appendJoin a) := by
    intro l
    induction l with
    | nil => exact fun _ => ⟨rfl, rfl⟩
    | cons c l ih => exact fun a => (ih _).after (a.appendJoin_sameCommit c)
  exact (hAll s.ledger.later { s with ledger := { s.ledger with later := [] } }).after ⟨rfl, rfl⟩

theorem State.appendArray_sameCommit (s : State) : SameCommit s s.appendArray := by
  unfold State.appendArray
  extract_lets own mine all s1 l1 s2
  have hAppended : SameCommit s s1 := s.appendManager_sameCommit 2 2 (all.map Collected.entry)
  clear_value s1
  have hListed : SameCommit s1 s2 := ⟨rfl, rfl⟩
  clear_value s2
  exact (State.appendLater_sameCommit _).after ((State.record_stays.sameCommit rfl rfl).after (hListed.after hAppended))

theorem State.appendCollected_sameCommit (s : State) : SameCommit s s.appendCollected := by
  unfold State.appendCollected
  split
  · exact ⟨rfl, rfl⟩
  · split
    · split
      · exact s.appendArray_sameCommit
      · exact ⟨rfl, rfl⟩
    · split
      · exact s.appendLater_sameCommit
      · exact ⟨rfl, rfl⟩

/-- READY with its record committed: the stage, its event and what is due then (R84, R88, R94, R109). -/
def State.readyReached (s : State) (vpp : Bool) : State :=
  ((((s.endTest 2).toStage .ready).event EV_BOOT_READY 0).raiseFloor vpp).appendCollected

theorem State.readyReached_boot (s : State) (vpp : Bool) : (s.readyReached vpp).boot = { s.boot with stage := .ready } := by
  rw [State.readyReached, State.appendCollected_stays.same_boot rfl, State.raiseFloor_stays.same_boot rfl, State.event_boot,
    State.toStage_boot, State.endTest_stays.same_boot rfl]

theorem State.readyReached_sameCommit (s : State) (vpp : Bool) : SameCommit s (s.readyReached vpp) :=
  (State.appendCollected_sameCommit _).after <| (State.raiseFloor_stays.sameCommit rfl rfl).after <|
    (State.event_stays.sameCommit rfl rfl).after <| (State.toStage_stays.sameCommit rfl rfl).after (State.endTest_stays.sameCommit rfl rfl)

/-- What READY leads to: a head enters service (R407). -/
def State.readyServes (s : State) : State :=
  let s4 := if s.isHead ∧ s.p p_repl_role ≠ 0 then s.alarm AL_REPL_DOWN 0 else s
  if !s4.isHead then s4
  else if s4.seam.rejoining then s4.enterService
  else State.timeEval (State.anaUpdate ({ s4 with seam := { s4.seam with own := 0 } } : State).askMissed)

theorem State.readyServes_stays (s : State) :
    Stays { time := true, ev := true, nvme := true, seam := true, port := true, head := true, out := true } s s.readyServes := by
  unfold State.readyServes
  extract_lets s4
  have hRepl : Stays { time := true, ev := true, nvme := true, seam := true, port := true, head := true, out := true } s s4 :=
    ite_stays (State.alarm_stays.up rfl) Stays.rfl
  clear_value s4
  refine Stays.after (ite_stays Stays.rfl (ite_stays State.enterService_stays ?_)) hRepl
  exact (State.timeEval_stays.up rfl).after ((State.anaUpdate_stays.up rfl).after ((State.askMissed_stays.up rfl).after (Stays.upd rfl)))

theorem State.readyServes_commits {s : State} (vpp : Bool) (hDone : s.boot.readyDone = true) (hPf : s.hem.pf = .armed)
    (hLedger : s.ledger.state = 2) :
    (s.readyReached vpp).readyServes.boot.stage = .ready ∧ (s.readyReached vpp).readyServes.boot.readyDone = true ∧
      (s.readyReached vpp).readyServes.hem.pf = .armed ∧ (s.readyReached vpp).readyServes.ledger.state = 2 := by
  have hServes := (s.readyReached vpp).readyServes_stays
  have hSame := (hServes.sameCommit rfl rfl).after (s.readyReached_sameCommit vpp)
  rw [hServes.same_boot rfl, s.readyReached_boot, hSame.pf, hSame.ledger]
  exact ⟨rfl, hDone, hPf, hLedger⟩

/-- READY before its stage is entered: the boot's ledger record is committed (R106) and the power-fail record armed (R614). -/
def State.committed (s : State) (fails : Nat) : State :=
  let s0 := { s with boot := { s.boot with commitFails := fails } }
  let s1 := (if s0.boot.trial then s0.clearAlarm AL_BOOT_TRIAL_FAILED 0 else s0).ledgerCommit.confirm
  { s1 with
    boot := { s1.boot with readyDone := true }, hem := { s1.hem with pf := .armed }
    keep := if s1.isShelf && s1.keep.shardN == 0 then { s1.keep with shardN := s1.nShelves } else s1.keep
    seam := { s1.seam with inheriting := false } }

theorem execBootReady_eq (fails : Fin 4) (vpp : Bool) (s : State) :
    execBootReady fails vpp s = onlyIf (s.atStage .join && s.boot.joined && !s.boot.readyDone && decide (s.boot.commitFails < 3)) s
      (fun s => if fails.val = 3 then s.commitFailed else ((s.committed fails).readyReached vpp).readyServes) := by
  unfold execBootReady State.readyServes State.readyReached State.committed
  with_reducible rfl

theorem State.committed_armed (s : State) (fails : Nat) :
    (s.committed fails).boot.readyDone = true ∧ (s.committed fails).hem.pf = .armed ∧ (s.committed fails).ledger.state = 2 := by
  unfold State.committed
  extract_lets b0 s0 s1 b1 h1 m1 k1
  have hConfirmed : s1.ledger.state = 2 :=
    (congrArg LedgerSt.state (State.confirm_stays.same_ledger rfl)).trans (State.ledgerCommit_state _)
  clear_value s1
  exact ⟨rfl, rfl, hConfirmed⟩

theorem bootReady_commits {s : State} {fails : Fin 4} {vpp : Bool} (h : s.atStage .join = true) (hJoined : s.boot.joined = true)
    (hDone : s.boot.readyDone = false) (hCommit : s.boot.commitFails < 3) (hFails : fails ≠ 3) :
    Runs (.bootReady fails vpp) s fun t => t.boot.stage = .ready ∧ t.boot.readyDone = true ∧ t.hem.pf = .armed ∧ t.ledger.state = 2 := by
  refine runs_onlyIf (execBootReady fails vpp) (by simp [h, hJoined, hDone, hCommit]) (execBootReady_eq fails vpp s) rfl ?_
  have hPasses : ¬ fails.val = 3 := fun e => hFails (Fin.ext e)
  rw [if_neg hPasses]
  obtain ⟨hReady, hPf, hLedger⟩ := s.committed_armed fails
  exact State.readyServes_commits vpp hReady hPf hLedger

theorem bootReady_fails {s : State} {vpp : Bool} (h : s.atStage .join = true) (hJoined : s.boot.joined = true)
    (hDone : s.boot.readyDone = false) (hCommit : s.boot.commitFails < 3) :
    Runs (.bootReady 3 vpp) s fun t => t = s.commitFailed :=
  runs_onlyIf (b := s.atStage .join && s.boot.joined && !s.boot.readyDone && decide (s.boot.commitFails < 3)) (execBootReady 3 vpp)
    (by simp [h, hJoined, hDone, hCommit]) rfl rfl rfl

/-! ### BARRIER_ABORT -/

theorem barrierAbort_drops {s : State} {b : Barrier} (hUp : s.headUp = true) (hb : s.boot.barrier = some b)
    (hLate : s.epochStart b.b + s.p p_image_barrier_max_ms * 100000 ≤ s.time.t) :
    Runs .barrierAbort s fun t => t = s.dropBarrier.alarm AL_BOOT_BARRIER_ABORT 0 := by
  refine ⟨_, rfl, ?_⟩
  simp only [hb, hUp, hLate, decide_true, Bool.and_self, if_true]

/-- Settles O13: each clause is what its stage leaves. -/
theorem lateBootStagesReachReady : Obligations.LateBootStagesReachReady := by
  unfold Obligations.LateBootStagesReachReady
  refine ⟨fun _ _ h hBlock => bootFirmware_schemaFails h hBlock, fun _ _ _ h hBlock => bootFirmware_loadsParams h hBlock,
    fun _ f h hShelf => (bootLinks_leads f h).imp fun _ ht => ht.trans (if_pos hShelf),
    fun _ f h hShelf => (bootLinks_leads f h).imp fun _ ht => ht.trans (if_neg (by simp [hShelf])),
    fun _ h hHead hSet hState => bootWaitTime_goesOn h hHead hSet hState, fun _ h hShelf hDies => bootRecovery_recovers h hShelf hDies,
    fun _ _ h hShelf hDies hOther => bootRecovery_otherDies h hShelf hDies hOther,
    fun _ _ h hHead hJoined hAsked hKat => bootJoin_shelf h hHead hJoined hAsked hKat,
    fun _ _ _ h hJoined hDone hCommit hFails => bootReady_commits h hJoined hDone hCommit hFails,
    fun s vpp h hJoined hDone hCommit => (bootReady_fails (vpp := vpp) h hJoined hDone hCommit).imp ?_,
    fun s b hUp hb hLate => (barrierAbort_drops hUp hb hLate).imp ?_⟩
  · rintro _ rfl
    exact ⟨rfl, rfl, rfl⟩
  · rintro _ rfl
    exact ⟨by rw [State.alarm_boot]; rfl, State.alarm_isRaised _ _ _⟩

end Sys2Proof.Machine
end

section
/-! PROOFS. The management messages of R559 and the SMBus alert response (R546, R549, R550, R553, R554, R558 to R560, R564). -/

/- The proofs of this part are elaborated one after another: a further worker's stack would not fit under the limit of the check. -/
set_option deprecated.oldSectionVars true

namespace Sys2Proof.Machine

/-! ### Which commands a part accepts (R560) -/

theorem State.mgmtAccepts_refused {s : State} {cmd : Nat} (h : s.strapsOk = false ∨ s.boot.stage = .recoveryMode)
    (hCmd : cmd ≠ 1 ∧ cmd ≠ 7 ∧ cmd ≠ 9 ∧ cmd ≠ 10) : s.mgmtAccepts cmd = false := by
  obtain ⟨h1, h7, h9, h10⟩ := hCmd
  obtain h | h := h <;> simp [State.mgmtAccepts, h, h1, h7, h9, h10]

theorem State.mgmtAccepts_statusGet (s : State) : s.mgmtAccepts 1 = true := by
  unfold State.mgmtAccepts
  (repeat' split) <;> rfl

theorem State.mgmtAccepts_otpKey {s : State} (h : s.strapsOk = true) : s.mgmtAccepts 10 = true := by
  simp [State.mgmtAccepts, h]

theorem State.mgmtAccepts_running {s : State} (h : s.strapsOk = true) (hStage : s.boot.stage ≠ .recoveryMode) (cmd : Nat) :
    s.mgmtAccepts cmd = true := by
  simp [State.mgmtAccepts, h, hStage]

/-! ### Status, alarms and events -/

theorem statusGet_answers {s : State} {tag : Byte} (hLive : s.live = true) :
    Runs (.statusGet tag) s fun t => t = { s with out := s.out ++ [.mgmt 1 tag.toNat 0 none
      (le 8 s.boot.status ++ le 1 s.pins.roleSel ++ le 1 s.pins.siteId ++ le 4 s.boot.imageSeq ++ le 1 (timeStateNum s.time.state))] } :=
  runs_mgmtCmd (execStatusGet tag) hLive s.mgmtAccepts_statusGet rfl

theorem alarmRead_refused {s : State} {tag : Byte} {first : Nat} {count : Byte} {ack : Bool} (hLive : s.live = true)
    (h : s.strapsOk = false ∨ s.boot.stage = .recoveryMode) :
    Runs (.alarmRead tag first count ack) s fun t => t = { s with out := s.out ++ [.mgmt 2 tag.toNat 3 none []] } :=
  runs_mgmtCmd_refused (execAlarmRead tag first count ack) hLive (State.mgmtAccepts_refused h (by decide)) rfl

/-- The alarm entries that an ALARM_READ asks for. -/
def State.alarmsAsked (s : State) (first : Nat) (count : Byte) : List AlEntry := (s.ev.alarms.drop first).take count.toNat

theorem alarmRead_answers {s : State} {tag : Byte} {first : Nat} {count : Byte} {ack : Bool} (hLive : s.live = true)
    (hTakes : s.mgmtAccepts 2 = true) (h1 : 1 ≤ count.toNat) (h32 : count.toNat ≤ 32) :
    Runs (.alarmRead tag first count ack) s fun t =>
      t.out = s.out ++ [.mgmt 2 tag.toNat 0 none ((s.alarmsAsked first count).flatMap AlEntry.bytes)] ∧
      t.ev = { s.ev with alarms := s.ev.alarms.map (fun a =>
        if ack = true ∧ (s.alarmsAsked first count).any (fun e => e.code == a.code && e.source == a.source) = true
        then { a with isNew := false } else a) } := by
  refine runs_mgmtCmd (execAlarmRead tag first count ack) hLive hTakes ?_
  have hCount : ¬ (count.toNat = 0 ∨ 32 < count.toNat) := by omega
  rw [if_neg hCount]
  cases ack with
  | false => exact ⟨rfl, by simp only [Bool.false_eq_true, false_and, if_false, List.map_id']; rfl⟩
  | true => exact ⟨rfl, by simp only [true_and]; rfl⟩

theorem alarmAck_answers {s : State} {tag : Byte} {code source : Nat} (hLive : s.live = true) (hTakes : s.mgmtAccepts 3 = true) :
    Runs (.alarmAck tag code source) s fun t => t = { s with
      ev := s.ev.ack code source, out := s.out ++ [.mgmt 3 tag.toNat 0 none []] } :=
  runs_mgmtCmd (execAlarmAck tag code source) hLive hTakes rfl

theorem EvSt.setMark_moves (e : EvSt) (v : Nat) :
    (e.setMark v).readMark = max e.readMark (min v e.lastSeq) ∧ (e.setMark v).ring = e.ring ∧ (e.setMark v).alarms = e.alarms := by
  simp only [EvSt.setMark]
  split <;> exact ⟨rfl, rfl, rfl⟩

theorem eventRead_answers {s : State} {tag : Byte} {firstSeq : Nat} {count : Byte} {mark : Bool} (hLive : s.live = true)
    (hTakes : s.mgmtAccepts 4 = true) (h1 : 1 ≤ count.toNat) (h64 : count.toNat ≤ 64) :
    Runs (.eventRead tag firstSeq count mark) s fun t =>
      t.out = s.out ++ [.mgmt 4 tag.toNat 0 none
        (((s.ev.ring.filter (fun r => decide (firstSeq ≤ r.seq))).take count.toNat).flatMap EvRec.bytes)] ∧
      t.ev.readMark = (if mark then max s.ev.readMark (min (firstSeq - 1) s.ev.lastSeq) else s.ev.readMark) ∧ t.ev.ring = s.ev.ring ∧
      t.ev.alarms = s.ev.alarms := by
  refine runs_mgmtCmd (execEventRead tag firstSeq count mark) hLive hTakes ?_
  have hCount : ¬ (count.toNat = 0 ∨ 64 < count.toNat) := by omega
  rw [if_neg hCount]
  cases mark with
  | false => exact ⟨rfl, rfl, rfl, rfl⟩
  | true => exact ⟨rfl, s.ev.setMark_moves (firstSeq - 1)⟩

theorem summaryRead_answers {s : State} {tag : Byte} {first : Nat} {count : Byte} (hLive : s.live = true) (hTakes : s.mgmtAccepts 5 = true)
    (h1 : 1 ≤ count.toNat) (h16 : count.toNat ≤ 16) :
    Runs (.summaryRead tag first count) s fun t => t = { s with out := s.out ++ [.mgmt 5 tag.toNat 0 none
      ((List.range count.toNat).flatMap (fun i => s.ev.sumBytes (codeOfIndex (first + i))))] } := by
  refine runs_mgmtCmd (execSummaryRead tag first count) hLive hTakes ?_
  have hCount : ¬ (count.toNat = 0 ∨ 16 < count.toNat) := by omega
  rw [if_neg hCount]
  rfl

theorem ledgerRead_answers {s : State} {tag : Byte} {seq : Nat} {count : Byte} (hLive : s.live = true) (hTakes : s.mgmtAccepts 6 = true)
    (h1 : 1 ≤ count.toNat) (h8 : count.toNat ≤ 8) :
    Runs (.ledgerRead tag seq count) s fun t => t = { s with out := s.out ++ [.mgmt 6 tag.toNat 0 none
      (le 1 (s.recordsFrom seq count.toNat).2.length ++ le 1 (s.recordsFrom seq count.toNat).1 ++ zeros 6 ++
        (s.recordsFrom seq count.toNat).2.flatten)] } := by
  refine runs_mgmtCmd (execLedgerRead tag seq count) hLive hTakes ?_
  have hCount : ¬ (count.toNat = 0 ∨ 8 < count.toNat) := by omega
  rw [if_neg hCount]
  rfl

/-! ### Images and owner keys -/

theorem imageWrite_writes {s : State} {tag : Byte} {copy : Copy} {final : Bool} {off : Nat} {data : Bytes} (hLive : s.live = true)
    (hTakes : s.mgmtAccepts 7 = true) (hCopy : s.boot.stage = .recoveryMode ∨ s.boot.copy ≠ copy) (hOff : off % 4096 = 0)
    (hLen : data.length ≤ 4096) (hWhole : data.length = 4096 ∨ final = true) (hFits : off + data.length ≤ copyLen) :
    Runs (.imageWrite tag copy final off data) s fun t =>
      t.nor = norWrite (norErase s.nor (copyBase copy + off) 4096) (copyBase copy + off) data ∧
      t.out = s.out ++ [.mgmt 7 tag.toNat 0 (if final then some (imageStatus (copyRead t.nor copy) s.otp s.isHead) else none) []] ∧
      t.boot = s.boot ∧ t.otp = s.otp := by
  refine runs_mgmtCmd (execImageWrite tag copy final off data) hLive hTakes ?_
  have hOther : ¬ (s.boot.stage ≠ .recoveryMode ∧ s.boot.copy = copy) := by
    rintro ⟨hStage, hSame⟩
    exact hCopy.elim hStage fun hNot => hNot hSame
  have hPiece : ¬ (off % 4096 ≠ 0 ∨ 4096 < data.length ∨ (data.length < 4096 ∧ ¬ final) ∨ copyLen < off + data.length) := by
    obtain hWhole | hWhole := hWhole
    · omega
    · simp only [hWhole, not_true, and_false, false_or]
      omega
  rw [if_neg hOther, if_neg hPiece]
  exact ⟨rfl, rfl, rfl, rfl⟩

theorem imageWrite_booted {s : State} {tag : Byte} {copy : Copy} {final : Bool} {off : Nat} {data : Bytes} (hLive : s.live = true)
    (hStage : s.boot.stage ≠ .recoveryMode) (hCopy : s.boot.copy = copy) :
    Runs (.imageWrite tag copy final off data) s fun t => t = { s with out := s.out ++ [.mgmt 7 tag.toNat 3 none []] } := by
  cases hTakes : s.mgmtAccepts 7 with
  | false => exact runs_mgmtCmd_refused (execImageWrite tag copy final off data) hLive hTakes rfl
  | true =>
    refine runs_mgmtCmd (execImageWrite tag copy final off data) hLive hTakes ?_
    rw [if_pos ⟨hStage, hCopy⟩]
    rfl

theorem State.otpKey_acts {s : State} {tag slot : Nat} {ok : OtpSlot → Bool} {f : OtpSlot → OtpSlot} (hStage : s.boot.stage = .recoveryMode)
    (hSlot : slot < 4) (hOk : ok (s.otp.owner.getD slot {}) = true) :
    (s.otpKey tag slot true ok f).otp = { s.otp with owner := s.otp.owner.modify slot f } ∧
      (s.otpKey tag slot true ok f).out = s.out ++ [.mgmt 10 tag 0 none []] := by
  have hGoes : ¬ (s.boot.stage ≠ .recoveryMode ∨ ¬ true = true) := by simp [hStage]
  rw [State.otpKey, if_neg hGoes, if_neg (Nat.not_le.mpr hSlot), if_pos hOk]
  exact ⟨rfl, rfl⟩

theorem otpKeyProgram_programs {s : State} {tag slot : Byte} {digest wrapKey : Bytes} (hLive : s.live = true) (hStraps : s.strapsOk = true)
    (hStage : s.boot.stage = .recoveryMode) (hSlot : slot.toNat < 4) (hBlank : (s.otp.owner.getD slot.toNat {}).st = 0) :
    Runs (.otpKeyProgram tag slot digest wrapKey true) s fun t =>
      t.otp = { s.otp with owner := s.otp.owner.modify slot.toNat (fun _ => ⟨1, padTo 48 digest, padTo 32 wrapKey⟩) } ∧
      t.out = s.out ++ [.mgmt 10 tag.toNat 0 none []] :=
  runs_mgmtCmd (execOtpKeyProgram tag slot digest wrapKey true) hLive (State.mgmtAccepts_otpKey hStraps)
    (State.otpKey_acts (ok := fun o => o.st == 0) hStage hSlot (beq_iff_eq.mpr hBlank))

theorem otpKeyRevoke_revokes {s : State} {tag slot : Byte} (hLive : s.live = true) (hStraps : s.strapsOk = true)
    (hStage : s.boot.stage = .recoveryMode) (hSlot : slot.toNat < 4) :
    Runs (.otpKeyRevoke tag slot true) s fun t =>
      t.otp = { s.otp with owner := s.otp.owner.modify slot.toNat (fun o => { o with st := 2 }) } ∧
      t.out = s.out ++ [.mgmt 10 tag.toNat 0 none []] :=
  runs_mgmtCmd (execOtpKeyRevoke tag slot true) hLive (State.mgmtAccepts_otpKey hStraps) (State.otpKey_acts hStage hSlot rfl)

/-! ### Health, unknown commands and the alert -/

theorem healthRead_answers {s : State} {tag piece : Byte} {b : Bytes} (hLive : s.live = true) (hTakes : s.mgmtAccepts 11 = true)
    (hHead : s.isHead = false) (hPiece : piece.toNat ≤ 4) (hNow : s.healthNow = some b) :
    Runs (.healthRead tag piece) s fun t => t = { s with
      out := s.out ++ [.mgmt 11 tag.toNat 0 none (padTo 4096 (sub b (4096 * piece.toNat) 4096))] } := by
  refine runs_mgmtCmd (execHealthRead tag piece) hLive hTakes ?_
  rw [if_neg (by simp [hHead]), if_neg (Nat.not_lt.mpr hPiece), hNow]
  rfl

theorem healthRead_head {s : State} {tag piece : Byte} (hLive : s.live = true) (hHead : s.isHead = true) :
    Runs (.healthRead tag piece) s fun t => t = { s with out := s.out ++ [.mgmt 11 tag.toNat 3 none []] } := by
  cases hTakes : s.mgmtAccepts 11 with
  | false => exact runs_mgmtCmd_refused (execHealthRead tag piece) hLive hTakes rfl
  | true =>
    refine runs_mgmtCmd (execHealthRead tag piece) hLive hTakes ?_
    rw [if_pos hHead]
    rfl

theorem mctpUnknownCommand_answers {s : State} {cmd tag : Byte} (hLive : s.live = true) (hCmd : cmd = 0 ∨ 0x0C < cmd.toNat)
    (hStraps : s.strapsOk = true) (hStage : s.boot.stage ≠ .recoveryMode) :
    Runs (.mctpUnknownCommand cmd tag) s fun t => t = { s with out := s.out ++ [.mgmt cmd.toNat tag.toNat 1 none []] } := by
  refine runs_onlyIf (b := s.live && (cmd == 0 || decide (0x0C < cmd.toNat))) (execMctpUnknownCommand cmd tag)
    (by simpa [hLive] using hCmd) rfl rfl ?_
  rw [if_pos (State.mgmtAccepts_running hStraps hStage _)]
  rfl

theorem getVendorDefinedMessageSupport_answers {s : State} (hLive : s.live = true) (hStraps : s.strapsOk = true) :
    Runs .getVendorDefinedMessageSupport s fun t => t = { s with out := s.out ++ [.mctpVendor (be 4 Config.ianaNumber)] } :=
  runs_onlyIf (b := s.live && s.strapsOk) execGetVendorDefinedMessageSupport (by simp [hLive, hStraps]) rfl rfl rfl

theorem smbusAlertResponse_answers {s : State} (hLive : s.live = true) (hStraps : s.strapsOk = true)
    (hNew : s.ev.alarms.any (·.isNew) = true) :
    Runs .smbusAlertResponse s fun t => t = { s with out := s.out ++ [.smbusAlert (s.p p_mgmt_smbus_addr)] } :=
  runs_onlyIf (b := s.live && s.strapsOk && s.alertAsserted) execSmbusAlertResponse (by simp [hLive, hStraps, State.alertAsserted, hNew])
    rfl rfl rfl

/-- Settles O40: each clause is the answer of its message where the part accepts it (`runs_mgmtCmd`) or refuses it. -/
theorem managementMessagesAreAnswered : Obligations.ManagementMessagesAreAnswered := by
  unfold Obligations.ManagementMessagesAreAnswered
  refine ⟨fun _ _ hLive => statusGet_answers hLive, fun _ _ _ _ _ hLive h => alarmRead_refused hLive h,
    fun _ _ _ _ _ hLive hTakes h1 h32 => alarmRead_answers hLive hTakes h1 h32,
    fun s tag code source hLive hTakes => (alarmAck_answers hLive hTakes).imp ?_,
    fun _ _ _ _ _ hLive hTakes h1 h64 => eventRead_answers hLive hTakes h1 h64,
    fun _ _ _ _ hLive hTakes h1 h16 => summaryRead_answers hLive hTakes h1 h16,
    fun _ _ _ _ hLive hTakes h1 h8 => ledgerRead_answers hLive hTakes h1 h8,
    fun _ _ _ _ _ _ hLive hTakes hCopy hOff hLen hWhole hFits => imageWrite_writes hLive hTakes hCopy hOff hLen hWhole hFits,
    fun _ _ _ _ _ _ hLive hStage hCopy => imageWrite_booted hLive hStage hCopy,
    fun _ _ _ _ _ hLive hStraps hStage hSlot hBlank => otpKeyProgram_programs hLive hStraps hStage hSlot hBlank,
    fun _ _ _ hLive hStraps hStage hSlot => otpKeyRevoke_revokes hLive hStraps hStage hSlot,
    fun _ _ _ _ hLive hTakes hHead hPiece hNow => healthRead_answers hLive hTakes hHead hPiece hNow,
    fun _ _ _ hLive hHead => healthRead_head hLive hHead,
    fun _ _ _ hLive hCmd hStraps hStage => mctpUnknownCommand_answers hLive hCmd hStraps hStage,
    fun _ hLive hStraps => getVendorDefinedMessageSupport_answers hLive hStraps,
    fun _ hLive hStraps hNew => smbusAlertResponse_answers hLive hStraps hNew⟩
  rintro _ rfl
  exact ⟨rfl, rfl, rfl⟩

end Sys2Proof.Machine
end

section
/-! PROOFS. Alarms that stand, and the power-fail record, while a power failure or the loss of a clock takes its course (R453, R604, R611, R614,
R617). -/

/- The proofs of this part are elaborated one after another: a further worker's stack would not fit under the limit of the check. -/
set_option deprecated.oldSectionVars true

namespace Sys2Proof.Machine

/-! ### Alarms of one code that stand -/

/-- From `s` to `t` no alarm of the code `c` has gone. -/
def RaisedStays (c : Nat) (s t : State) : Prop := ∀ x, s.raised c x → t.raised c x

theorem RaisedStays.rfl {c : Nat} {s : State} : RaisedStays c s s := fun _ => id

theorem RaisedStays.after {k : Nat} {a b c : State} (h2 : RaisedStays k b c) (h1 : RaisedStays k a b) : RaisedStays k a c :=
  fun x h => h2 x (h1 x h)

theorem raisedStays_of_ev {c : Nat} {s t : State} (h : t.ev = s.ev) : RaisedStays c s t := fun x hx => by
  unfold State.raised at hx ⊢
  rwa [h]

theorem raisedStays_foldl {α : Type} {c : Nat} {g : State → α → State} {l : List α} {s : State} (h : ∀ a x, RaisedStays c a (g a x)) :
    RaisedStays c s (l.foldl g s) := by
  induction l generalizing s with
  | nil => exact RaisedStays.rfl
  | cons x xs ih => exact ih.after (h s x)

theorem State.event_raisedStays {c : Nat} (s : State) (k x : Nat) : RaisedStays c s (s.event k x) :=
  fun _ h => (State.event_isRaised _ _ _ _ _).trans h

theorem State.alarm_raisedStays {c : Nat} (s : State) (k x : Nat) : RaisedStays c s (s.alarm k x) :=
  fun _ h => State.alarm_keeps _ _ _ _ _ h

theorem State.clearAlarm_raisedStays {c : Nat} (s : State) (k x : Nat) (hk : c ≠ k) : RaisedStays c s (s.clearAlarm k x) :=
  fun _ h => State.clearAlarm_keeps _ _ _ _ _ (Or.inl hk) h

/-! ### Completions of flash operations -/

/-- From `s` to `t` the power-fail record is as it was, and no alarm has gone but those of uncorrectable words of HBM, which a write mends
(R134). -/
structure FlashQuiet (s t : State) : Prop where
  pf : t.hem.pf = s.hem.pf
  raised : ∀ c, c ≠ AL_MC_HBM_UNCORR → RaisedStays c s t

theorem FlashQuiet.rfl {s : State} : FlashQuiet s s := ⟨Eq.refl _, fun _ _ => RaisedStays.rfl⟩

theorem FlashQuiet.after {a b c : State} (h2 : FlashQuiet b c) (h1 : FlashQuiet a b) : FlashQuiet a c :=
  ⟨h2.pf.trans h1.pf, fun k hk => (h2.raised k hk).after (h1.raised k hk)⟩

theorem flashQuiet_foldl {α : Type} {g : State → α → State} {l : List α} {s : State} (h : ∀ a x, FlashQuiet a (g a x)) :
    FlashQuiet s (l.foldl g s) := by
  induction l generalizing s with
  | nil => exact FlashQuiet.rfl
  | cons x xs ih => exact ih.after (h s x)

theorem Stays.flashQuiet {m : Mask} {s t : State} (h : Stays m s t) (hHem : m.hem = false) (hEv : m.ev = false) : FlashQuiet s t :=
  ⟨by rw [h.same_hem hHem], fun _ _ => raisedStays_of_ev (h.same_ev hEv)⟩

theorem State.hemPut_pf (s : State) (off : Nat) (bs : Bytes) : (s.hemPut off bs).hem.pf = s.hem.pf := rfl

theorem State.hemStore_flashQuiet (s : State) (off : Nat) (bs : Bytes) : FlashQuiet s (s.hemStore off bs) := by
  refine ⟨?_, fun _ _ => raisedStays_of_ev (State.hemStore_stays.same_ev rfl)⟩
  have hPuts : ∀ (us : List Nat) (a : State), (us.foldl (fun acc u => acc.hemPut (64 * u) (s.hemBytes (64 * u) 64)) a).hem.pf = a.hem.pf := by
    intro us
    induction us with
    | nil => exact fun _ => rfl
    | cons u us ih => exact fun a => ih _
  unfold State.hemStore
  extract_lets first last held us s1 s2 s3
  have h3 : s3.hem.pf = s2.hem.pf := by
    change (if s2.isHead then s2.hemReserve else s2).hem.pf = _
    split <;> rfl
  exact h3.trans ((s1.hemPut_pf off bs).trans (hPuts us s))

theorem State.mend_flashQuiet (s : State) (a n : Nat) : FlashQuiet s (s.mend a n) := by
  refine ⟨by rw [State.mend_stays.same_hem rfl], fun c hc => ?_⟩
  unfold State.mend
  extract_lets ws hit left m0
  split
  · exact RaisedStays.rfl
  · have hPoison : RaisedStays c s { s with mem := { s.mem with poison := left } } := raisedStays_of_ev rfl
    refine RaisedStays.after (raisedStays_foldl fun acc w => ?_) hPoison
    split
    · exact RaisedStays.rfl
    · exact acc.clearAlarm_raisedStays _ _ hc

theorem State.dmaWrite_flashQuiet (s : State) (a : Nat) (bs : Bytes) : FlashQuiet s (s.dmaWrite a bs) := by
  unfold State.dmaWrite
  split
  · unfold State.hbmWrite
    extract_lets w m0 s1
    have hWritten : FlashQuiet s s1 := by
      change FlashQuiet s (if s.mc.enable then _ else _)
      split <;> exact ⟨rfl, fun _ _ => raisedStays_of_ev rfl⟩
    exact (s1.mend_flashQuiet a bs.length).after hWritten
  · unfold State.bypassWrite
    extract_lets lands m0
    exact (State.mend_flashQuiet _ _ _).after ⟨rfl, fun _ _ => raisedStays_of_ev rfl⟩
  · exact s.hemStore_flashQuiet _ bs
  · exact ⟨rfl, fun _ _ => raisedStays_of_ev rfl⟩
  · exact FlashQuiet.rfl
  · exact FlashQuiet.rfl
  · exact FlashQuiet.rfl

theorem State.writeCpl_flashQuiet (s : State) (h : HeldCpl) : FlashQuiet s (s.writeCpl h) := by
  unfold State.writeCpl
  extract_lets r bs s1 wrap s2 s3
  have hFree : FlashQuiet s bs.2 := by
    change FlashQuiet s (if r.wild then s.takeFreeBytes 16 else (h.cpl.bytes r.phase, s)).2
    split
    · exact State.takeFreeBytes_stays.flashQuiet rfl rfl
    · exact FlashQuiet.rfl
  have hWritten : FlashQuiet bs.2 s1 := State.dmaWrite_flashQuiet _ _ _
  have hRing : FlashQuiet s1 s2 := State.setRing_stays.flashQuiet rfl rfl
  have hNotified : FlashQuiet s2 s3 := by
    change FlashQuiet s2 (if h.notify then _ else s2)
    split <;> exact ⟨rfl, fun _ _ => raisedStays_of_ev rfl⟩
  exact (State.wake_stays.flashQuiet rfl rfl).after (hNotified.after (hRing.after (hWritten.after hFree)))

theorem State.flashCpl_flashQuiet (s : State) (r : FlashReq) (status consumed produced : Nat) :
    FlashQuiet s (s.flashCpl r status consumed produced) := by
  unfold State.flashCpl
  extract_lets s1 c0
  have hPushed : FlashQuiet s s1 := by
    change FlashQuiet s (State.pushCpl s _)
    unfold State.pushCpl
    split
    · exact s.writeCpl_flashQuiet _
    · exact ⟨rfl, fun _ _ => raisedStays_of_ev rfl⟩
  split
  · exact (State.setChan_stays.flashQuiet rfl rfl).after hPushed
  · exact hPushed

theorem State.flushLun_flashQuiet (s : State) (c d status : Nat) : FlashQuiet s (s.flushLun c d status) := by
  unfold State.flushLun
  extract_lets l
  refine FlashQuiet.after (b := s.setLun c d { l with queue := [] }) (flashQuiet_foldl fun acc x => ?_) (State.setLun_stays.flashQuiet rfl rfl)
  exact acc.flashCpl_flashQuiet x.req status 0 0

theorem State.flashPowerFail_flashQuiet (s : State) : FlashQuiet s s.flashPowerFail := by
  unfold State.flashPowerFail
  refine flashQuiet_foldl fun acc c => flashQuiet_foldl fun a d => ?_
  extract_lets l a1
  refine (State.flushLun_flashQuiet _ _ _ _).after ?_
  change FlashQuiet a (match l.running with
    | some x => if x.op.isErase then a.setLun c d { l with running := none, suspended := some x, byPower := true } else a
    | none => a)
  split
  · split
    · exact State.setLun_stays.flashQuiet rfl rfl
    · exact FlashQuiet.rfl
  · exact FlashQuiet.rfl

/-! ### POWER_FAIL_N -/

theorem State.pfActions_flashQuiet (s : State) : FlashQuiet s s.pfActions := by
  unfold State.pfActions
  split
  · exact (State.dumpBegin_stays.flashQuiet rfl rfl).after ((State.plbDiscard_stays.flashQuiet rfl rfl).after s.flashPowerFail_flashQuiet)
  · exact ⟨rfl, fun _ _ => raisedStays_of_ev rfl⟩

/-- The event of POWER_FAIL_N, its record and its level, before the part acts on it. -/
def State.pfNoted (s : State) : State :=
  let s1 := s.event EV_POWER_PF_ASSERT 0
  { s1 with power := { s1.power with pfAsserted := true }, hem := { s1.hem with pf := .asserted } }

theorem State.pfAssert_of_not (s : State) (h : s.power.pfAsserted = false) : s.pfAssert = s.pfNoted.pfActions := by
  unfold State.pfAssert
  exact if_neg (Bool.eq_false_iff.mp h)

theorem State.pfNoted_power (s : State) : s.pfNoted.power = { s.power with pfAsserted := true } :=
  congrArg (fun p : PowerSt => { p with pfAsserted := true }) (s.event_power EV_POWER_PF_ASSERT 0)
theorem State.pfNoted_pins (s : State) : s.pfNoted.pins = s.pins := s.event_pins EV_POWER_PF_ASSERT 0
theorem State.pfNoted_eng (s : State) : s.pfNoted.eng = s.eng := s.event_eng EV_POWER_PF_ASSERT 0
theorem State.pfNoted_sh (s : State) : s.pfNoted.sh = s.sh := s.event_sh EV_POWER_PF_ASSERT 0
theorem State.pfNoted_raisedStays {c : Nat} (s : State) : RaisedStays c s s.pfNoted :=
  RaisedStays.after (raisedStays_of_ev rfl) (s.event_raisedStays EV_POWER_PF_ASSERT 0)

theorem State.pfAssert_asserts (s : State) :
    s.pfAssert.power = { s.power with pfAsserted := true } ∧ (∀ c, c ≠ AL_MC_HBM_UNCORR → RaisedStays c s s.pfAssert) ∧
      (s.power.pfAsserted = false → s.pfAssert.hem.pf = .asserted) := by
  by_cases h : s.power.pfAsserted = true
  · have hSame : s.pfAssert = s := by
      unfold State.pfAssert
      exact if_pos h
    rw [hSame]
    exact ⟨by rw [← h], fun _ _ => RaisedStays.rfl, fun hn => absurd (hn.symm.trans h) (by decide)⟩
  · rw [s.pfAssert_of_not (Bool.eq_false_iff.mpr h)]
    exact ⟨(State.pfActions_stays.same_power rfl).trans s.pfNoted_power,
      fun c hc => (s.pfNoted.pfActions_flashQuiet.raised c hc).after s.pfNoted_raisedStays, fun _ => s.pfNoted.pfActions_flashQuiet.pf⟩

/-- What POWER_FAIL_N does to a part that is no shelf (R154, R611). -/
theorem State.pfActions_of_not_shelf (s : State) (h : s.isShelf = false) :
    s.pfActions = State.hemSettle { s with eng := s.eng.map (fun e => { e with parked := true }) } := by
  unfold State.pfActions
  exact if_neg (Bool.eq_false_iff.mp h)

theorem StreamSt.settled_durable (st : StreamSt) (e : Nat × Bundle) (he : e ∈ st.settled.bundles) :
    (e.2.sealHdr.isSome = true → e.2.durSeal = true) ∧ (e.2.bodyHdr.isSome = true → e.2.durBody = true) ∧
      (e.2.bodied = true → e.2.durBatch = true) := by
  obtain ⟨x, -, rfl⟩ := List.mem_map.mp (show e ∈ List.map _ st.bundles from he)
  exact ⟨fun h => by simp_all, fun h => by simp_all, fun h => by simp_all⟩

theorem State.hemSettle_durable (s : State) (i : Nat) (hi : i ∈ [0, 1]) (e : Nat × Bundle) (he : e ∈ (s.hemSettle.stream i).bundles) :
    (e.2.sealHdr.isSome = true → e.2.durSeal = true) ∧ (e.2.bodyHdr.isSome = true → e.2.durBody = true) ∧
      (e.2.bodied = true → e.2.durBatch = true) := by
  rcases List.mem_pair.mp hi with rfl | rfl
  · exact s.head.st0.settled_durable e he
  · exact s.head.st1.settled_durable e he

theorem State.plbDiscard_plb (s : State) : s.plbDiscard.sh.plb = s.sh.plb.filter (·.safe) := rfl
theorem State.plbDiscard_dumpErased (s : State) : s.plbDiscard.sh.dumpErased = s.sh.dumpErased := rfl

/-- What POWER_FAIL_N does to the buffer of a shelf with both areas erased and an item that is power-safe (R453). -/
theorem State.pfActions_shelf_sh (s : State) (hShelf : s.isShelf = true) (hSafe : s.sh.plb.any (fun i => i.safe) = true)
    (hErased : s.sh.dumpErased = [true, true]) :
    s.pfActions.sh.dumping = true ∧ s.pfActions.sh.dumpErased = [false, true] ∧ s.pfActions.sh.plb = s.sh.plb.filter (·.safe) := by
  have hSh : s.flashPowerFail.sh = s.sh := State.flashPowerFail_stays.same_sh rfl
  have hActs : s.pfActions = s.flashPowerFail.plbDiscard.dumpBegin := by
    unfold State.pfActions
    exact if_pos hShelf
  have hPlb : s.flashPowerFail.plbDiscard.sh.plb = s.sh.plb.filter (·.safe) := by
    rw [State.plbDiscard_plb, hSh]
  have hAreas : s.flashPowerFail.plbDiscard.sh.dumpErased = [true, true] := by
    rw [State.plbDiscard_dumpErased, hSh, hErased]
  have hSome : s.flashPowerFail.plbDiscard.sh.plb.isEmpty = false := by
    obtain ⟨x, hx, hxs⟩ := List.any_eq_true.mp hSafe
    rw [hPlb, List.isEmpty_eq_false_iff_exists_mem]
    exact ⟨x, List.mem_filter.mpr ⟨hx, hxs⟩⟩
  have hArea : s.flashPowerFail.plbDiscard.dumpArea = some 0 := by
    unfold State.dumpArea
    rw [hAreas]
    rfl
  rw [hActs]
  generalize s.flashPowerFail.plbDiscard = u at hPlb hAreas hSome hArea
  have hBegun : u.dumpBegin = { u with sh := { u.sh with dumping := true, dumpErased := u.sh.dumpErased.set 0 false } } := by
    unfold State.dumpBegin
    rw [hArea]
    exact if_neg (Bool.eq_false_iff.mp hSome)
  rw [hBegun]
  refine ⟨rfl, ?_, hPlb⟩
  change u.sh.dumpErased.set 0 false = _
  rw [hAreas]
  rfl

/-! ### Clock inputs -/

/-- A port that goes down is in state 1, and no other port changes. -/
theorem State.portDown_portOf (s : State) (p q : Nat) :
    ((s.portDown p).portOf q).state = if q = p ∧ p < s.port.length then 1 else (s.portOf q).state := by
  unfold State.portDown
  extract_lets w s1 s2 s3
  have h1 : (s1.portOf q).state = if q = p ∧ p < s.port.length then 1 else (s.portOf q).state := by
    rw [State.portOf_setPort]
    split <;> rfl
  have h2 : s2.port = s1.port := (foldl_stays (m := { ring := true }) fun _ _ => State.endJob_stays).same_port rfl
  have h3 : s3.port = s1.port := (State.event_port _ _ _).trans h2
  have hPort : ∀ u : State, u.port = s1.port → (u.portOf q).state = (s1.portOf q).state := fun u hu => by
    unfold State.portOf
    rw [hu]
  rw [← h1]
  split
  · exact hPort _ ((State.alarm_port _ _ _).trans h3)
  · exact hPort _ h3

theorem State.portDown_raisedStays {c : Nat} (s : State) (p : Nat) : RaisedStays c s (s.portDown p) := by
  unfold State.portDown
  extract_lets w s1 s2 s3
  have h2 : RaisedStays c s s2 := raisedStays_of_ev ((foldl_stays (m := { ring := true }) fun _ _ => State.endJob_stays).same_ev rfl)
  have h3 : RaisedStays c s s3 := (s2.event_raisedStays _ _).after h2
  split
  · exact (State.alarm_raisedStays _ _ _).after (RaisedStays.after (raisedStays_of_ev rfl) h3)
  · exact h3

theorem State.portDown_length (s : State) (p : Nat) : (s.portDown p).port.length = s.port.length := by
  unfold State.portDown
  extract_lets w s1 s2 s3
  have h1 : s1.port.length = s.port.length := List.length_set
  have h2 : s2.port = s1.port := (foldl_stays (m := { ring := true }) fun _ _ => State.endJob_stays).same_port rfl
  have h3 : s3.port = s1.port := (State.event_port _ _ _).trans h2
  rw [← h1]
  split
  · exact congrArg List.length ((State.alarm_port _ _ _).trans h3)
  · exact congrArg List.length h3

/-- The step of `State.dieDown` at one spoke port: `there` says which ports the part has. -/
def State.linkDown (there : Nat → Bool) (s : State) (p : Nat) : State := if there p && (s.portOf p).linked then s.portDown p else s

theorem State.dieDown_zero (s : State) : s.dieDown 0 = (List.range 56).foldl (State.linkDown s.portThere) s := by
  unfold State.dieDown
  exact if_neg fun h => absurd h.1 (by decide)

theorem State.linkDown_length (there : Nat → Bool) (s : State) (p : Nat) : (s.linkDown there p).port.length = s.port.length := by
  unfold State.linkDown
  split
  · exact s.portDown_length p
  · rfl

theorem State.linkDown_raisedStays {c : Nat} (there : Nat → Bool) (s : State) (p : Nat) : RaisedStays c s (s.linkDown there p) := by
  unfold State.linkDown
  split
  · exact s.portDown_raisedStays p
  · exact RaisedStays.rfl

theorem State.linkDown_state_other (there : Nat → Bool) (s : State) (p q : Nat) (h : p ≠ q) :
    ((s.linkDown there q).portOf p).state = (s.portOf p).state := by
  unfold State.linkDown
  split
  · rw [State.portDown_portOf, if_neg fun hp => h hp.1]
  · rfl

theorem State.linkDown_state_same (there : Nat → Bool) (s : State) (p : Nat) (hThere : there p = true) (hLen : p < s.port.length)
    (hLinked : (s.portOf p).linked = true) : ((s.linkDown there p).portOf p).state = 1 := by
  unfold State.linkDown
  rw [if_pos (by simp [hThere, hLinked]), State.portDown_portOf, if_pos ⟨rfl, hLen⟩]

/-- A port in state 1 carries no link: it is left as it is. -/
theorem State.linkDown_state_down (there : Nat → Bool) (s : State) (p q : Nat) (h : (s.portOf p).state = 1) :
    ((s.linkDown there q).portOf p).state = 1 := by
  by_cases hpq : p = q
  · subst hpq
    have hDown : (s.portOf p).linked = false := by simp [SpokePort.linked, h]
    unfold State.linkDown
    rw [if_neg (by simp [hDown])]
    exact h
  · rw [State.linkDown_state_other there s p q hpq, h]

theorem State.foldl_linkDown_down (there : Nat → Bool) (l : List Nat) (s : State) (p : Nat) (h : (s.portOf p).state = 1) :
    ((l.foldl (State.linkDown there) s).portOf p).state = 1 := by
  induction l generalizing s with
  | nil => exact h
  | cons q qs ih => exact ih _ (s.linkDown_state_down there p q h)

theorem State.foldl_linkDown_linked (there : Nat → Bool) (l : List Nat) (s : State) (p : Nat) (hp : p ∈ l) (hThere : there p = true)
    (hLen : p < s.port.length) (hLinked : (s.portOf p).linked = true) : ((l.foldl (State.linkDown there) s).portOf p).state = 1 := by
  induction l generalizing s with
  | nil => exact absurd hp List.not_mem_nil
  | cons q qs ih =>
    by_cases hpq : p = q
    · subst hpq
      exact State.foldl_linkDown_down there qs _ p (s.linkDown_state_same there p hThere hLen hLinked)
    · refine ih _ ((List.mem_cons.mp hp).resolve_left hpq) ((s.linkDown_length there q).symm ▸ hLen) ?_
      unfold SpokePort.linked at hLinked ⊢
      rwa [State.linkDown_state_other there s p q hpq]

/-- A clock input is lost: its pin and its alarm. -/
def State.clockOut (s : State) (c : Nat) : State := State.alarm { s with pins := s.pins.setClock c false } AL_POWER_CLOCK clockSrc

/-- HP_REFCLK ends the host port's link. -/
def State.hpDown (s : State) : State := State.alarm { s with nvme := { s.nvme with hpUp := false } } AL_NVME_LINK_DEGRADED 0

theorem State.hpDown_hpUp (s : State) : s.hpDown.nvme.hpUp = false := by
  unfold State.hpDown
  rw [(State.alarm_noticesOnly _ _ _).rest]

theorem execClockInputLoss_eq (c : Fin 4) (s : State) : execClockInputLoss c s =
    onlyIf (s.pins.porN && s.pins.clock c) s fun s =>
      if c.val = 0 then s.clockOut c
      else if !(s.clockOut c).fw then s.clockOut c
      else if c.val = 3 then (if (s.clockOut c).isHead && (s.clockOut c).nvme.hpUp then (s.clockOut c).hpDown else s.clockOut c)
      else (s.clockOut c).dieDown (c.val - 1) := by
  unfold execClockInputLoss State.clockOut State.hpDown
  with_reducible rfl

theorem State.clockOut_pins (s : State) (c : Nat) : (s.clockOut c).pins = s.pins.setClock c false := State.alarm_pins _ _ _
theorem State.clockOut_raised (s : State) (c : Nat) : (s.clockOut c).raised AL_POWER_CLOCK 0 := State.alarm_isRaised _ _ _

theorem Pins.setClock_sysclk (p : Pins) (c : Nat) (b : Bool) (h : c ≠ 0) : (p.setClock c b).sysclk = p.sysclk := by
  unfold Pins.setClock
  rw [if_neg h]
  split
  · rfl
  · split <;> rfl

theorem Pins.setClock_kept (p : Pins) (c : Nat) (b : Bool) :
    (p.setClock c b).porN = p.porN ∧ (p.setClock c b).warmN = p.warmN ∧ (p.setClock c b).sampled = p.sampled ∧
      (p.setClock c b).roleSel = p.roleSel ∧ (p.setClock c b).siteId = p.siteId := by
  unfold Pins.setClock
  split
  · exact ⟨rfl, rfl, rfl, rfl, rfl⟩
  · split
    · exact ⟨rfl, rfl, rfl, rfl, rfl⟩
    · split <;> exact ⟨rfl, rfl, rfl, rfl, rfl⟩

theorem State.clockOut_isHead (s : State) (c : Nat) : (s.clockOut c).isHead = s.isHead := by
  obtain ⟨-, -, hSampled, hRole, hSite⟩ := s.pins.setClock_kept c false
  simp only [State.isHead, State.clockOut_pins, hSampled, hRole, hSite]

/-- Only SYSCLK stops the firmware. -/
theorem State.clockOut_fw (s : State) (c : Nat) (h : c ≠ 0) : (s.clockOut c).fw = s.fw := by
  obtain ⟨hPor, hWarm, -⟩ := s.pins.setClock_kept c false
  have hPower : (s.clockOut c).power = s.power := State.alarm_power _ _ _
  have hBoot : (s.clockOut c).boot = s.boot := State.alarm_boot _ _ _
  simp only [State.fw, State.live, State.stageFrom, State.clockOut_pins, hPor, hWarm, s.pins.setClock_sysclk c false h, hPower, hBoot]

theorem State.porN_of_fw {s : State} (h : s.fw = true) : s.pins.porN = true := by
  unfold State.fw State.live at h
  simp only [Bool.and_eq_true] at h
  obtain ⟨⟨⟨⟨hPor, -⟩, -⟩, -⟩, -⟩ := h
  exact hPor

/-- SDS_REFCLK0 lost: the spoke ports of its die go down (R592, R617). -/
theorem runs_clockInputLoss_sds0 (s : State) (p : Fin 64) (hFw : s.fw = true) (hHead : s.isHead = true) (hClk : s.pins.sds0 = true)
    (hp : p.val < 56) (hLinked : (s.portOf p).linked = true) (hLen : s.port.length = 64) :
    Runs (.clockInputLoss 1) s fun t =>
      t.pins = { s.pins with sds0 := false } ∧ t.raised AL_POWER_CLOCK 0 ∧ (t.portOf p).state = 1 := by
  have hPort : (s.clockOut 1).port = s.port := State.alarm_port _ _ _
  refine runs_onlyIf (execClockInputLoss 1) (by simp [State.porN_of_fw hFw, hClk, Pins.clock]) (execClockInputLoss_eq 1 s) rfl ?_
  rw [if_neg (by decide), if_neg (by simp [s.clockOut_fw, hFw]), if_neg (by decide)]
  change (fun t : State => t.pins = { s.pins with sds0 := false } ∧ t.raised AL_POWER_CLOCK 0 ∧ (t.portOf p).state = 1)
    ((s.clockOut 1).dieDown 0)
  rw [State.dieDown_zero]
  have hPins := s.clockOut_pins 1
  have hRaised := s.clockOut_raised 1
  have hIsHead := (s.clockOut_isHead 1).trans hHead
  generalize s.clockOut 1 = u at hPort hPins hRaised hIsHead
  have hFold : Stays { ev := true, ring := true, nvme := true, port := true, head := true, out := true } u
      ((List.range 56).foldl (State.linkDown u.portThere) u) := foldl_stays fun a q => by
    unfold State.linkDown
    exact ite_stays State.portDown_stays Stays.rfl
  refine ⟨(hFold.same_pins rfl).trans hPins, ?_, ?_⟩
  · exact raisedStays_foldl (fun a q => a.linkDown_raisedStays u.portThere q) _ hRaised
  · refine State.foldl_linkDown_linked _ _ _ _ (List.mem_range.mpr hp) ?_ (by rw [hPort, hLen]; exact p.isLt) ?_
    · unfold State.portThere
      rw [if_pos hIsHead]
      exact decide_eq_true p.isLt
    · unfold State.portOf
      rw [hPort]
      exact hLinked

/-- SYSCLK lost: the part stops (R617). -/
theorem runs_clockInputLoss_sysclk (s : State) (hPor : s.pins.porN = true) (hClk : s.pins.sysclk = true) :
    Runs (.clockInputLoss 0) s fun t => t.pins = { s.pins with sysclk := false } ∧ t.raised AL_POWER_CLOCK 0 ∧ t.live = false := by
  refine runs_onlyIf (execClockInputLoss 0) (by simp [hPor, hClk, Pins.clock]) (execClockInputLoss_eq 0 s) rfl ?_
  rw [if_pos (by decide)]
  have hPins := s.clockOut_pins 0
  refine ⟨hPins, s.clockOut_raised 0, ?_⟩
  change (s.clockOut 0).live = false
  unfold State.live
  rw [hPins]
  simp [Pins.setClock]

/-- HP_REFCLK lost: the host port's link ends (R617). -/
theorem runs_clockInputLoss_hpClk (s : State) (hFw : s.fw = true) (hHead : s.isHead = true) (hClk : s.pins.hpClk = true)
    (hUp : s.nvme.hpUp = true) :
    Runs (.clockInputLoss 3) s fun t => t.pins = { s.pins with hpClk := false } ∧ t.raised AL_POWER_CLOCK 0 ∧ t.nvme.hpUp = false ∧
      t.raised AL_NVME_LINK_DEGRADED 0 := by
  have hOutUp : (s.clockOut 3).nvme.hpUp = true := by
    unfold State.clockOut
    rw [(State.alarm_noticesOnly _ _ _).rest]
    exact hUp
  refine runs_onlyIf (execClockInputLoss 3) (by simp [State.porN_of_fw hFw, hClk, Pins.clock]) (execClockInputLoss_eq 3 s) rfl ?_
  rw [if_neg (by decide), if_neg (by simp [s.clockOut_fw, hFw]), if_pos (by decide),
    if_pos (by rw [Bool.and_eq_true]; exact ⟨(s.clockOut_isHead 3).trans hHead, hOutUp⟩)]
  refine ⟨(State.alarm_pins _ _ _).trans (s.clockOut_pins 3), ?_, State.hpDown_hpUp _, State.alarm_isRaised _ _ _⟩
  exact RaisedStays.after (State.alarm_raisedStays _ _ _) (raisedStays_of_ev rfl) 0 (s.clockOut_raised 3)


theorem runs_clockInputRestored_last {s : State} (hPor : s.pins.porN = true) (hHp : s.pins.hpClk = false) (hSys : s.pins.sysclk = true)
    (h0 : s.pins.sds0 = true) (h1 : s.pins.sds1 = true) :
    Runs (.clockInputRestored 3) s fun t => t.pins = { s.pins with hpClk := true } ∧ ¬ t.raised AL_POWER_CLOCK 0 := by
  refine runs_onlyIf (execClockInputRestored 3) (by simp [hPor, hHp, Pins.clock]) rfl rfl ?_
  extract_lets s1
  have hAll : (s1.pins.sysclk && s1.pins.sds0 && s1.pins.sds1 && s1.pins.hpClk) = true := by
    change (s.pins.sysclk && s.pins.sds0 && s.pins.sds1 && true) = true
    simp [hSys, h0, h1]
  rw [if_pos hAll]
  exact ⟨State.clearAlarm_pins _ _ _, Bool.eq_false_iff.mp (State.clearAlarm_isRaised _ _ _)⟩

theorem runs_clockInputRestored_sds0 {s : State} (hPor : s.pins.porN = true) (h0 : s.pins.sds0 = false) (h1 : s.pins.sds1 = false) :
    Runs (.clockInputRestored 1) s fun t => t = { s with pins := { s.pins with sds0 := true } } := by
  refine runs_onlyIf (execClockInputRestored 1) (by simp [hPor, h0, Pins.clock]) rfl rfl ?_
  extract_lets s1
  exact if_neg (show ¬ (s.pins.sysclk && true && s.pins.sds1 && s.pins.hpClk) = true by simp [h1])

/-! ### Rails -/

theorem State.railOut_out (s : State) (r : Fin 11) (mv : Nat) (h : ¬ (r.val = 10 ∧ mv = 0))
    (hOut : s.railUnder r mv = true ∨ s.railOver r mv = true) :
    (s.railOut r mv).power = { s.power with railFault := s.power.railFault ||| (1#11 <<< r.val) } ∧
      (s.railOut r mv).raised AL_POWER_RAIL (srcOf 0 r) := by
  unfold State.railOut
  rw [if_neg h, if_pos (by simpa using hOut)]
  exact ⟨State.alarm_power _ _ _, State.alarm_isRaised _ _ _⟩

theorem State.railOut_within (s : State) (r : Fin 11) (mv : Nat) (hUnder : s.railUnder r mv = false) (hOver : s.railOver r mv = false) :
    s.railOut r mv = s := by
  unfold State.railOut
  split
  · rfl
  · exact if_neg (by simp [hUnder, hOver])

theorem runs_railFault_out {s : State} {r : Fin 11} {mv : Nat} (hLive : s.live = true) (h : ¬ (r.val = 10 ∧ mv = 0))
    (hOut : s.railUnder r mv = true ∨ s.railOver r mv = true) (hr : r.val ∉ [0, 1, 5, 6]) :
    Runs (.railFault r mv) s fun t => t.power = { s.power with railFault := s.power.railFault ||| (1#11 <<< r.val) } ∧
      t.raised AL_POWER_RAIL (srcOf 0 r) := by
  have hNot : r.val ∉ pfRails := hr
  refine runs_onlyIf (execRailFault r mv) hLive rfl rfl ?_
  extract_lets u
  rw [if_neg (by simp [hNot])]
  exact s.railOut_out r mv h hOut

theorem runs_railFault_powerFails {s : State} {r : Fin 11} {mv : Nat} (hLive : s.live = true) (hUnder : s.railUnder r mv = true)
    (hr : r.val ∈ [0, 1, 5, 6]) :
    Runs (.railFault r mv) s fun t => t.power.railFault = s.power.railFault ||| (1#11 <<< r.val) ∧ t.raised AL_POWER_RAIL (srcOf 0 r) ∧
      t.power.pfAsserted = true := by
  have hIn : r.val ∈ pfRails := hr
  have hNotVpp : ¬ (r.val = 10 ∧ mv = 0) := fun h => absurd (h.1 ▸ hr) (by decide)
  obtain ⟨hPower, hRaised⟩ := s.railOut_out r mv hNotVpp (Or.inl hUnder)
  refine runs_onlyIf (execRailFault r mv) hLive rfl rfl ?_
  extract_lets u
  change u.power = _ at hPower
  change u.raised _ _ at hRaised
  clear_value u
  by_cases hAsserted : u.power.pfAsserted = true
  · rw [if_neg (by simp [hAsserted])]
    exact ⟨congrArg PowerSt.railFault hPower, hRaised, hAsserted⟩
  · obtain ⟨hTo, hKeeps, -⟩ := u.pfAssert_asserts
    rw [if_pos (by simp [hIn, hUnder, hAsserted])]
    exact ⟨(congrArg PowerSt.railFault hTo).trans (congrArg PowerSt.railFault hPower), hKeeps _ (by decide) _ hRaised,
      congrArg PowerSt.pfAsserted hTo⟩

theorem runs_railFault_within {s : State} {r : Fin 11} {mv : Nat} (hLive : s.live = true) (hUnder : s.railUnder r mv = false)
    (hOver : s.railOver r mv = false) : Runs (.railFault r mv) s fun t => t = s := by
  refine runs_onlyIf (execRailFault r mv) hLive rfl rfl ?_
  rw [s.railOut_within r mv hUnder hOver]
  exact if_neg (by simp [hUnder])

/-! ### Domains -/

theorem runs_pdReq_ignored (s : State) (d : Fin 50) (h : d.val < 18 ∨ 27 < d.val) :
    Runs (.pdOffReq d) s (fun t => t = s) ∧ Runs (.pdOnReq d) s (fun t => t = s) := by
  have hNot : (s.live && pdSwitchable d) = false := by
    have : pdSwitchable d = false := decide_eq_false (by omega)
    rw [this, Bool.and_false]
  exact ⟨runs_onlyIf_not (execPdOffReq d) hNot rfl rfl rfl, runs_onlyIf_not (execPdOnReq d) hNot rfl rfl rfl⟩

theorem pdSwitchable_of {d : Fin 50} (h : 18 ≤ d.val) (h' : d.val ≤ 27) : pdSwitchable d = true := decide_eq_true ⟨h, h'⟩

/-! ### POWER_FAIL_N and its release -/

theorem runs_powerFailNAssert_head {s : State} (hLive : s.live = true) (hNot : s.power.pfAsserted = false) (hHead : s.isShelf = false) :
    Runs .powerFailNAssert s fun t =>
      t.power = { s.power with pfAsserted := true } ∧ t.hem.pf = .asserted ∧ t.eng = s.eng.map (fun e => { e with parked := true }) ∧
        ∀ i ∈ [0, 1], ∀ e ∈ (t.stream i).bundles, (e.2.sealHdr.isSome = true → e.2.durSeal = true) ∧
          (e.2.bodyHdr.isSome = true → e.2.durBody = true) ∧ (e.2.bodied = true → e.2.durBatch = true) := by
  refine runs_onlyIf execPowerFailNAssert hLive rfl rfl ?_
  obtain ⟨hPower, -, hPf⟩ := s.pfAssert_asserts
  refine ⟨hPower, hPf hNot, ?_⟩
  have hIs : s.pfNoted.isShelf = false := (State.isShelf_congr s.pfNoted_pins).trans hHead
  rw [s.pfAssert_of_not hNot, s.pfNoted.pfActions_of_not_shelf hIs]
  refine ⟨?_, fun i hi e he => State.hemSettle_durable _ i hi e he⟩
  rw [← s.pfNoted_eng]
  rfl

theorem runs_powerFailNAssert_shelf {s : State} (hLive : s.live = true) (hNot : s.power.pfAsserted = false) (hShelf : s.isShelf = true)
    (hSafe : s.sh.plb.any (fun i => i.safe) = true) (hErased : s.sh.dumpErased = [true, true]) :
    Runs .powerFailNAssert s fun t => t.power.pfAsserted = true ∧ t.hem.pf = .asserted ∧ t.sh.dumping = true ∧
      t.sh.dumpErased = [false, true] ∧ t.sh.plb = s.sh.plb.filter (·.safe) := by
  refine runs_onlyIf execPowerFailNAssert hLive rfl rfl ?_
  obtain ⟨hPower, -, hPf⟩ := s.pfAssert_asserts
  refine ⟨congrArg PowerSt.pfAsserted hPower, hPf hNot, ?_⟩
  have hIs : s.pfNoted.isShelf = true := (State.isShelf_congr s.pfNoted_pins).trans hShelf
  have hSh := s.pfNoted_sh
  rw [s.pfAssert_of_not hNot]
  generalize s.pfNoted = u at hIs hSh
  rw [← hSh]
  exact u.pfActions_shelf_sh hIs (hSh ▸ hSafe) (hSh ▸ hErased)

theorem runs_dumpDone {s : State} (hLive : s.live = true) (hShelf : s.isShelf = true) (hDumping : s.sh.dumping = true) :
    Runs .dumpDone s fun t => t.sh = { s.sh with dumping := false, dumpPending := true } ∧ t.keep.dump = s.sh.plb ∧
      t.keep.records = s.keep.records ++ [.dump (s.sh.plb.foldl (fun a i => a + i.sectors) 0) s.keep.seq] ∧
      t.keep.seq = s.keep.seq + s.sh.plb.foldl (fun a i => a + i.sectors) 0 := by
  refine runs_onlyIf execDumpDone (by simp [hLive, hShelf, hDumping]) rfl rfl ?_
  unfold State.dumpEnd State.ftlRec
  extract_lets sectors s1 sh1 keep1
  exact ⟨State.event_sh _ _ _, congrArg ShelfKeep.dump (State.event_keep _ _ _), congrArg ShelfKeep.records (State.event_keep _ _ _),
    congrArg ShelfKeep.seq (State.event_keep _ _ _)⟩

theorem runs_powerFailNRelease_head {s : State} (hLive : s.live = true) (hAsserted : s.power.pfAsserted = true) (hHead : s.isShelf = false) :
    Runs .powerFailNRelease s fun t => t.power.pfAsserted = false ∧ t.power.resuming = true ∧
      t.eng = s.eng.map (fun e => { e with parked := decide (e.exc ≠ 0) }) := by
  refine runs_onlyIf execPowerFailNRelease (by simp [hLive, hAsserted]) rfl rfl ?_
  extract_lets s1 p1 s2 p2
  rw [if_neg (by
    rw [State.isShelf_congr (s := s) (t := s2) (s.event_pins EV_POWER_PF_RELEASE 0), hHead]
    exact Bool.false_ne_true)]
  have hEng : s2.eng = s.eng := s.event_eng EV_POWER_PF_RELEASE 0
  have hSame : ∀ u : State, Stays { nvme := true, port := true, head := true, out := true } u u.drainAll.pump := fun u =>
    (State.pump_stays.up rfl).after (State.drainAll_stays.up rfl)
  refine ⟨congrArg PowerSt.pfAsserted ((hSame _).same_power rfl), congrArg PowerSt.resuming ((hSame _).same_power rfl), ?_⟩
  exact ((hSame _).same_eng rfl).trans (congrArg (List.map fun e : EngSt => { e with parked := decide (e.exc ≠ 0) }) hEng)

theorem runs_powerFailNRelease_shelf {s : State} (hLive : s.live = true) (hAsserted : s.power.pfAsserted = true) (hShelf : s.isShelf = true) :
    Runs .powerFailNRelease s fun t => t.power = { s.power with pfAsserted := false } ∧ t.sh = s.sh ∧ t.keep = s.keep := by
  refine runs_onlyIf execPowerFailNRelease (by simp [hLive, hAsserted]) rfl rfl ?_
  extract_lets s1 p1 s2 p2
  rw [if_pos ((State.isShelf_congr (s := s) (t := s2) (s.event_pins EV_POWER_PF_RELEASE 0)).trans hShelf)]
  have hPower : s2.power = { s.power with pfAsserted := false } :=
    congrArg (fun p : PowerSt => { p with pfAsserted := false }) (s.event_power EV_POWER_PF_RELEASE 0)
  have hSh : s2.sh = s.sh := s.event_sh EV_POWER_PF_RELEASE 0
  have hKeep : s2.keep = s.keep := s.event_keep EV_POWER_PF_RELEASE 0
  clear_value s2
  have hSame : Stays _ s2 s2.flashPowerBack.kickAll := State.kickAll_stays.after (State.flashPowerBack_stays.up rfl)
  exact ⟨(hSame.same_power rfl).trans hPower, (hSame.same_sh rfl).trans hSh, (hSame.same_keep rfl).trans hKeep⟩

/-! ### The hourly record -/

theorem State.healthEntry_nor (s : State) (n : Mem) : State.healthEntry { s with nor := n } = s.healthEntry := by
  rfl

/-- The record is written to the copy at `a`. -/
def State.putHealth (s : State) (a : Nat) : State :=
  { s with nor := norWrite (norErase s.nor a 20480) a (s.sh.health.bytes s.healthEntry) }

theorem State.putHealth_nor (s : State) (a : Nat) : (s.putHealth a).nor =
    norWrite (norErase s.nor a 20480) a ((s.putHealth a).sh.health.bytes (s.putHealth a).healthEntry) := by
  have hSh : (s.putHealth a).sh = s.sh := by
    unfold State.putHealth
    with_reducible rfl
  have hEntry : (s.putHealth a).healthEntry = s.healthEntry := by
    unfold State.putHealth
    exact s.healthEntry_nor _
  rw [hSh, hEntry]
  unfold State.putHealth
  with_reducible rfl

theorem runs_healthRecordWrite {s : State} (h : s.shelfUp = true) :
    Runs .healthRecordWrite s fun t => t.sh.health.gen = s.sh.health.gen + 1 ∧ t.sh.health.hourIndex = s.sh.health.hourIndex + 1 ∧
      t.sh.health.pairs = ((s.sh.health.hourMin, s.sh.health.hourMax) :: s.sh.health.pairs).take 8760 ∧ t.keep.health = t.sh.health ∧
      t.nor = norWrite (norErase s.nor (if (s.sh.health.gen + 1) % 2 = 0 then 0xC007000 else 0xC002000) 20480)
        (if (s.sh.health.gen + 1) % 2 = 0 then 0xC007000 else 0xC002000) (t.sh.health.bytes t.healthEntry) := by
  refine runs_onlyIf execHealthRecordWrite h rfl rfl ?_
  extract_lets hl b h1 sh1 k1 s1
  have hAddr : healthAddr (h1.gen % 2 == 0) = if (s.sh.health.gen + 1) % 2 = 0 then 0xC007000 else 0xC002000 := by
    unfold healthAddr
    simp only [beq_iff_eq]
    rfl
  refine ⟨rfl, rfl, rfl, rfl, ?_⟩
  rw [← hAddr]
  exact s1.putHealth_nor _

/-- Settles O43: each clause is what its operation writes; the alarms it raises stand until its end, as nothing after clears them. -/
theorem railsDomainsClocksAndPowerFailure : Obligations.RailsDomainsClocksAndPowerFailure := by
  unfold Obligations.RailsDomainsClocksAndPowerFailure
  exact ⟨fun _ _ _ hLive hVpp hOut hr => runs_railFault_out hLive hVpp hOut hr,
    fun _ _ _ hLive hUnder hr => runs_railFault_powerFails hLive hUnder hr,
    fun _ _ _ hLive hUnder hOver => runs_railFault_within hLive hUnder hOver,
    fun _ r hLive => runs_onlyIf (execRailWithinWindow r) hLive rfl rfl
      ⟨Bool.eq_false_iff.mp (State.clearAlarm_isRaised _ _ _), State.clearAlarm_power _ _ _⟩,
    fun _ d hLive h h' => runs_onlyIf (execPdOffReq d) (by simp [hLive, pdSwitchable_of h h']) rfl rfl rfl,
    fun _ d hLive h h' => runs_onlyIf (execPdOnReq d) (by simp [hLive, pdSwitchable_of h h']) rfl rfl rfl,
    runs_pdReq_ignored,
    fun _ hLive hThrottled => runs_onlyIf execPowerBudgetAlarm (by simp [hLive, hThrottled]) rfl rfl
      ⟨State.alarm_isRaised _ _ _, State.alarm_power _ _ _⟩,
    runs_clockInputLoss_sysclk, runs_clockInputLoss_hpClk,
    fun s p hFw hHead hClk hp _ hLinked hLen => runs_clockInputLoss_sds0 s p hFw hHead hClk hp hLinked hLen,
    fun _ hPor hHp hSys h0 h1 => runs_clockInputRestored_last hPor hHp hSys h0 h1,
    fun _ hPor h0 h1 => runs_clockInputRestored_sds0 hPor h0 h1,
    fun _ hLive hNot hHead => runs_powerFailNAssert_head hLive hNot hHead,
    fun _ hLive hNot hShelf hSafe hErased => runs_powerFailNAssert_shelf hLive hNot hShelf hSafe hErased,
    fun _ hLive hShelf hDumping => runs_dumpDone hLive hShelf hDumping,
    fun _ hLive hAsserted hHead => runs_powerFailNRelease_head hLive hAsserted hHead,
    fun _ hLive hAsserted hShelf => runs_powerFailNRelease_shelf hLive hAsserted hShelf,
    fun _ hLive hPf => runs_onlyIf execHoldupMet (by simp [hLive, hPf]) rfl rfl rfl,
    fun _ h => runs_healthRecordWrite h⟩

end Sys2Proof.Machine
end

section
/-! PROOFS. A channel whose ENABLE has been cleared and waits for the boundary (R499). It refutes a statement that leaves this case out. -/

/- The proofs of this part are elaborated one after another: a further worker's stack would not fit under the limit of the check. -/
set_option deprecated.oldSectionVars true

namespace Sys2Proof.Machine

/-- A shelf of site 3 at READY whose engine 0 runs, and whose channel 0 waits for the boundary to be disabled. -/
def clearingShelf : State :=
  { State.reset with
    pins := { porN := true, sampled := true, roleSel := 2, siteId := 3 }
    boot := { stage := .ready }
    eng := List.replicate 48 { started := true }
    flash := { chans := List.replicate 32 { clearing := true } } }

/-- Channel feature 0x01 with SET on channel 0, with bit 0 of ARG set (R495). -/
def enableChannel : FlashReq :=
  { ring := 0, notify := false, tag := 0, channel := 0, ce := 0xFF, lun := 0, mode := 0, block := 0, page := 0, sectors := 0, chkCrc := false
    chkRef := false, chkApp := false, wantTag := false, sentinel := false, set := true, sel := 1, arg := 1, data := 0, metaAddr := 0, refTag := 0
    appTag := 0 }

/-- A clear that waits is not taken back: ENABLE stays 0. -/
theorem frFeatureChEnable_clearingShelf_stays_off : ((clearingShelf.after (.frFeatureChEnable 0 enableChannel)).chan 0).enable = false := by
  decide +kernel

/-- Refutes O55 at its clause on channel feature 0x01, which has ENABLE take bit 0 of ARG in every case: on `clearingShelf` a clear of the
channel still waits for its boundary, and the call changes nothing of it. -/
theorem not_flashRoutinesPostAndReturnTheirStatus : ¬ Obligations.FlashRoutinesPostAndReturnTheirStatus := by
  unfold Obligations.FlashRoutinesPostAndReturnTheirStatus
  rintro ⟨-, -, -, -, -, -, -, -, hEnable, -⟩
  obtain ⟨-, hOn, -⟩ := (hEnable clearingShelf 0 enableChannel (by decide) (by decide) (by decide) (by decide)).after
  exact absurd (hOn.symm.trans frFeatureChEnable_clearingShelf_stays_off) (by decide)

end Sys2Proof.Machine
end

section
/-! PROOFS. The requester of the RoCEv2 engine: acknowledgements, going back, failures, and the loss of the device (R512 to R517, R524, R530). -/

/- The proofs of this part are elaborated one after another: a further worker's stack would not fit under the limit of the check. -/
set_option deprecated.oldSectionVars true

namespace Sys2Proof.Machine

/-! ### What an event sends follows what was sent -/

theorem foldl_out_grows {α : Type} {g : State → α → State} (h : ∀ a x, a.out <+: (g a x).out) (l : List α) (s : State) :
    s.out <+: (l.foldl g s).out :=
  List.foldlRecOn l g (motive := fun t => s.out <+: t.out) List.prefix_rfl fun a ha x _ => List.IsPrefix.trans ha (h a x)

theorem State.post_out_grows (s : State) (c : NvCpl) : s.out <+: (s.post c).out := by
  unfold State.post
  extract_lets s1 k q
  have hLogged : s1.out = s.out := State.logError_stays.same_out rfl
  rw [← hLogged]
  split
  · exact List.prefix_rfl
  · split
    · exact List.prefix_append _ _
    · exact List.prefix_rfl

theorem State.noticeTo_out_grows (s : State) (c v : Nat) : s.out <+: (s.noticeTo c v).out := by
  unfold State.noticeTo
  extract_lets k
  split
  · exact List.prefix_rfl
  · split
    · exact List.prefix_rfl
    · split
      · exact List.prefix_rfl
      · refine List.IsPrefix.trans ?_ (State.post_out_grows _ _)
        exact List.prefix_rfl

theorem State.vendorNotice_out_grows (s : State) (v : Nat) : s.out <+: (s.vendorNotice v).out := by
  unfold State.vendorNotice State.noticeAll
  split
  · exact foldl_out_grows (fun a c => a.noticeTo_out_grows c v) _ _
  · exact List.prefix_rfl

theorem State.ringNotice_out_grows (s : State) : s.out <+: s.ringNotice.out := by
  unfold State.ringNotice
  split
  · refine List.IsPrefix.trans ?_ (State.vendorNotice_out_grows _ _)
    exact List.prefix_rfl
  · exact List.prefix_rfl

theorem State.eventArg_out_grows (s : State) (code src : Nat) (arg : Bytes) : s.out <+: (s.eventArg code src arg).out := by
  unfold State.eventArg
  refine List.IsPrefix.trans ?_ (State.ringNotice_out_grows _)
  exact List.prefix_rfl

/-! ### Distances in the circle of PSNs -/

theorem psnDist_self (a : Nat) : psnDist a a = 0 := by
  unfold psnDist
  omega

/-- The last PSN of a message lies its packets less one beyond its first. -/
theorem psnDist_lastPsn (w : WorkReq) (h0 : 0 < w.packets) (h1 : w.packets ≤ 4096) :
    psnDist w.lastPsn w.psn = w.packets - 1 := by
  unfold psnDist WorkReq.lastPsn psnAdd
  omega

/-- The PSN before a message acknowledges none of it. -/
theorem psnDist_before (w : WorkReq) (h0 : 0 < w.packets) (h1 : w.packets ≤ 4096) :
    psnDist (psnAdd w.psn (2 ^ 24 - 1)) w.lastPsn = 2 ^ 24 - w.packets := by
  unfold psnDist WorkReq.lastPsn psnAdd
  omega

/-! ### Acknowledgements -/

/-- An acknowledgement of a PSN covers the message. -/
def WorkReq.ackedBy (psn : Nat) (w : WorkReq) : Bool := decide (psnDist psn w.lastPsn < 2 ^ 23)

/-- A queue pair after an acknowledgement. -/
def Qp.acked (q : Qp) (psn : Nat) (credits : Option Nat) (t : Nat) : Qp :=
  { q with
    unacked := q.unacked.filter (fun w => !w.ackedBy psn), credits := credits.getD q.credits, timerAt := t
    retries := if q.unacked.any (WorkReq.ackedBy psn) then 0 else q.retries }

theorem foldl_workDone (n status : Nat) (ws : List WorkReq) (s : State) :
    ws.foldl (fun (acc : State) (w : WorkReq) => acc.workDone n w.wr status) s =
      { s with rdma := { s.rdma with done := s.rdma.done ++ ws.map (fun w => (n, w.wr, status)) } } := by
  induction ws generalizing s with
  | nil => simp
  | cons w ws ih =>
    rw [List.foldl_cons, ih]
    simp [State.workDone]

/-- The state after it. -/
def State.acked (s : State) (n psn : Nat) (credits : Option Nat) (q : Qp) : State :=
  { s with rdma := { s.rdma with
    qps := SMap.set s.rdma.qps n (q.acked psn credits s.time.t)
    done := s.rdma.done ++ (q.unacked.filter (WorkReq.ackedBy psn)).map (fun w => (n, w.wr, 0)) } }

theorem State.ackUpTo_of_get {s : State} {n psn : Nat} {credits : Option Nat} {q : Qp} (hq : SMap.get s.rdma.qps n = some q) :
    s.ackUpTo n psn credits = s.acked n psn credits q := by
  unfold State.ackUpTo
  rw [hq]
  exact foldl_workDone n 0 _ _

theorem WorkReq.ackedBy_last (w : WorkReq) : w.ackedBy w.lastPsn = true := by
  unfold WorkReq.ackedBy
  rw [psnDist_self]
  rfl

theorem WorkReq.not_ackedBy_before (w : WorkReq) (h0 : 0 < w.packets) (h1 : w.packets ≤ 4096) :
    w.ackedBy (psnAdd w.psn (2 ^ 24 - 1)) = false := by
  unfold WorkReq.ackedBy
  rw [psnDist_before w h0 h1, decide_eq_false_iff_not]
  omega

/-! ### Running the commands of a queue pair -/

theorem runs_rdmaAck {s : State} {qpn cr : Nat} {psn : Fin 16777216} {resp : Option Bytes} {q : Qp} {p : State → Prop} (hOn : s.rdmaOn = true)
    (hq : SMap.get s.rdma.qps qpn = some q) (hState : q.state = 1)
    (hp : p (match resp with
      | none => s.ackUpTo qpn psn (some cr)
      | some b =>
        if 8 < b.length then ((s.emit (.rdmaNak qpn psn 1)).qpError qpn ST_RDMA_LEN_LONG ST_RDMA_FLUSHED)
        else if b.length < 8 then s.qpError qpn ST_RDMA_LEN_SHORT ST_RDMA_FLUSHED
        else (s.ackUpTo qpn psn (some cr)).wordAnswer qpn (leNat b))) :
    Runs (.rdmaAck qpn psn cr resp) s p :=
  runs_onlyIf (execRdmaAck qpn psn cr resp) (by simp [hOn, hq, hState]) rfl rfl hp

theorem runs_rdmaNak {s : State} {qpn : Nat} {psn : Fin 16777216} {kind : Fin 4} {q : Qp} {p : State → Prop} (hOn : s.rdmaOn = true)
    (hq : SMap.get s.rdma.qps qpn = some q) (hState : q.state = 1)
    (hp : p (if kind.val = 1 ∨ kind.val = 2 then
        (s.ackUpTo qpn (psnAdd psn (2 ^ 24 - 1)) none).qpError qpn ST_RDMA_REMOTE_ERROR ST_RDMA_FLUSHED
      else (s.ackUpTo qpn (psnAdd psn (2 ^ 24 - 1)) none).goBack qpn psn)) :
    Runs (.rdmaNak qpn psn kind) s p :=
  runs_onlyIf (execRdmaNak qpn psn kind) (by simp [hOn, hq, hState]) rfl rfl hp

theorem runs_rdmaAck_last {s : State} {qpn cr : Nat} {psn : Fin 16777216} {q : Qp} {w : WorkReq} (hOn : s.rdmaOn = true)
    (hq : SMap.get s.rdma.qps qpn = some q) (hState : q.state = 1) (hOne : q.unacked = [w]) (hPsn : psn.val = w.lastPsn) :
    Runs (.rdmaAck qpn psn cr none) s fun t =>
      SMap.get t.rdma.qps qpn = some { q with unacked := [], credits := cr, timerAt := s.time.t, retries := 0 } ∧
        t.rdma.done = s.rdma.done ++ [(qpn, w.wr, 0)] ∧ t.out = s.out := by
  refine runs_rdmaAck hOn hq hState ?_
  rw [State.ackUpTo_of_get hq, hPsn]
  refine ⟨(SMap.get_set_same _ _ _).trans ?_, ?_, rfl⟩
  · simp [Qp.acked, hOne, w.ackedBy_last]
  · simp [State.acked, hOne, w.ackedBy_last]

/-! ### Failures -/

/-- A queue pair in the error state. -/
def Qp.failed (q : Qp) : Qp := { q with state := 2, failing := false, incoming := none, unacked := [], spray := none }

/-- The completions of the work that a failure ends. -/
def failures (n first rest : Nat) : List WorkReq → List (Nat × Nat × Nat)
  | [] => []
  | w :: ws => (n, w.wr, first) :: ws.map (fun x => (n, x.wr, rest))

/-- A queue pair in the error state, its work completed. -/
def State.qpFail (s : State) (n first rest : Nat) (q : Qp) : State :=
  { s with rdma := { s.rdma with qps := SMap.set s.rdma.qps n q.failed, done := s.rdma.done ++ failures n first rest q.unacked } }

/-- The consumer of a failed queue pair is told. -/
def State.qpTold (s : State) (q : Qp) : State :=
  match q.use with
  | .host c => if q.assoc = 1 then s.endAssoc c else s
  | .control => s.sessionDown
  | .data => s

theorem State.qpError_of_none {s : State} {n first rest : Nat} (hq : SMap.get s.rdma.qps n = none) : s.qpError n first rest = s := by
  unfold State.qpError
  rw [hq]

theorem State.qpError_of_failed {s : State} {n first rest : Nat} {q : Qp} (hq : SMap.get s.rdma.qps n = some q) (hState : q.state = 2) :
    s.qpError n first rest = s := by
  unfold State.qpError
  simp only [hq, if_pos hState]

theorem State.qpError_of_get {s : State} {n first rest : Nat} {q : Qp} (hq : SMap.get s.rdma.qps n = some q) (hState : q.state ≠ 2) :
    s.qpError n first rest = ((s.qpFail n first rest q).eventArg EV_RDMA_QP_FATAL 0 (le 4 n)).qpTold q := by
  have hWork : (match q.unacked with
      | [] => s.setQp n q.failed
      | w :: ws => ws.foldl (fun (acc : State) (x : WorkReq) => acc.workDone n x.wr rest) ((s.setQp n q.failed).workDone n w.wr first)) =
      s.qpFail n first rest q := by
    unfold State.qpFail
    cases q.unacked with
    | nil => simp [failures, State.setQp]
    | cons w ws =>
      refine (foldl_workDone n rest ws _).trans ?_
      simp [failures, State.setQp, State.workDone]
  unfold State.qpError
  simp only [hq, if_neg hState]
  exact congrArg (fun v : State => (v.eventArg EV_RDMA_QP_FATAL 0 (le 4 n)).qpTold q) hWork

/-- A queue pair of data fails, and nothing else does (R515). -/
theorem State.qpError_data {s : State} {n first rest : Nat} {q : Qp} (hq : SMap.get s.rdma.qps n = some q) (hState : q.state ≠ 2)
    (hUse : q.use = .data) :
    (s.qpError n first rest).rdma = (s.qpFail n first rest q).rdma ∧ s.out <+: (s.qpError n first rest).out := by
  have hTold : ∀ u : State, u.qpTold q = u := fun u => by
    unfold State.qpTold
    rw [hUse]
  rw [State.qpError_of_get hq hState, hTold]
  exact ⟨State.eventArg_stays.same_rdma rfl, (s.qpFail n first rest q).eventArg_out_grows _ _ _⟩

/-- The queue pair is in the error state then. -/
theorem State.qpError_data_state {s : State} {n first rest : Nat} {q : Qp} (hq : SMap.get s.rdma.qps n = some q) (hState : q.state ≠ 2)
    (hUse : q.use = .data) : ∃ q', SMap.get (s.qpError n first rest).rdma.qps n = some q' ∧ q'.state = 2 := by
  refine ⟨q.failed, ?_, rfl⟩
  rw [(State.qpError_data hq hState hUse).1]
  exact SMap.get_set_same _ _ _

theorem State.qpError_data_done {s : State} {n first rest : Nat} {q : Qp} (hq : SMap.get s.rdma.qps n = some q) (hState : q.state ≠ 2)
    (hUse : q.use = .data) : (s.qpError n first rest).rdma.done = s.rdma.done ++ failures n first rest q.unacked := by
  rw [(State.qpError_data hq hState hUse).1]
  rfl

theorem mem_failures_head {n first rest : Nat} {ws : List WorkReq} {w : WorkReq} (h : ws.head? = some w) :
    (n, w.wr, first) ∈ failures n first rest ws := by
  cases ws with
  | nil => exact absurd h (by simp)
  | cons x xs =>
    obtain rfl : x = w := by simpa using h
    exact List.mem_cons_self

theorem ne_two_of_eq_one {k : Nat} (h : k = 1) : k ≠ 2 := by omega

/-- An answer that is too long (R515). -/
theorem runs_rdmaAck_long {s : State} {qpn cr : Nat} {psn : Fin 16777216} {q : Qp} {b : Bytes} (hOn : s.rdmaOn = true)
    (hq : SMap.get s.rdma.qps qpn = some q) (hState : q.state = 1) (hUse : q.use = .data) (hLong : 8 < b.length) :
    Runs (.rdmaAck qpn psn cr (some b)) s fun t => (∃ q', SMap.get t.rdma.qps qpn = some q' ∧ q'.state = 2) ∧
      (s.out ++ [.rdmaNak qpn psn 1]) <+: t.out ∧ (∀ w, q.unacked.head? = some w → (qpn, w.wr, ST_RDMA_LEN_LONG) ∈ t.rdma.done) := by
  refine runs_rdmaAck hOn hq hState ?_
  dsimp only
  rw [if_pos hLong]
  have hq' : SMap.get (s.emit (.rdmaNak qpn psn 1)).rdma.qps qpn = some q := hq
  refine ⟨State.qpError_data_state hq' (ne_two_of_eq_one hState) hUse, (State.qpError_data hq' (ne_two_of_eq_one hState) hUse).2, fun w hw => ?_⟩
  rw [State.qpError_data_done hq' (ne_two_of_eq_one hState) hUse]
  exact List.mem_append_right _ (mem_failures_head hw)

/-- An answer that is too short (R515). -/
theorem runs_rdmaAck_short {s : State} {qpn cr : Nat} {psn : Fin 16777216} {q : Qp} {b : Bytes} (hOn : s.rdmaOn = true)
    (hq : SMap.get s.rdma.qps qpn = some q) (hState : q.state = 1) (hUse : q.use = .data) (hShort : b.length < 8) :
    Runs (.rdmaAck qpn psn cr (some b)) s fun t => (∃ q', SMap.get t.rdma.qps qpn = some q' ∧ q'.state = 2) ∧
      (∀ w, q.unacked.head? = some w → (qpn, w.wr, ST_RDMA_LEN_SHORT) ∈ t.rdma.done) := by
  refine runs_rdmaAck hOn hq hState ?_
  dsimp only
  rw [if_neg (by omega), if_pos hShort]
  refine ⟨State.qpError_data_state hq (ne_two_of_eq_one hState) hUse, fun w hw => ?_⟩
  rw [State.qpError_data_done hq (ne_two_of_eq_one hState) hUse]
  exact List.mem_append_right _ (mem_failures_head hw)

/-! ### Going back -/

/-- An acknowledgement that does not cover the only message. -/
theorem Qp.acked_none {q : Qp} {w : WorkReq} {p : Nat} (hOne : q.unacked = [w]) (hNot : w.ackedBy p = false) (t : Nat) :
    q.acked p none t = { q with timerAt := t } := by
  unfold Qp.acked
  simp [hOne, hNot]

theorem State.ackUpTo_none {s : State} {n p : Nat} {q : Qp} {w : WorkReq} (hq : SMap.get s.rdma.qps n = some q) (hOne : q.unacked = [w])
    (hNot : w.ackedBy p = false) : s.ackUpTo n p none = s.setQp n { q with timerAt := s.time.t } := by
  rw [State.ackUpTo_of_get hq]
  unfold State.acked
  rw [Qp.acked_none hOne hNot, hOne]
  simp [State.setQp, hNot]

/-- A message lies at or after its first PSN. -/
theorem WorkReq.late_of_first (w : WorkReq) (h0 : 0 < w.packets) (h1 : w.packets ≤ 4096) : decide (psnDist w.lastPsn w.psn < 2 ^ 23) = true := by
  rw [psnDist_lastPsn w h0 h1, decide_eq_true_eq]
  omega

theorem State.sendPkts_running {s : State} {n psn k port : Nat} (h : s.portPaused port = false) :
    s.sendPkts n psn (List.replicate k port) = s.emit (.rdmaSend n psn (List.replicate k port)) := by
  unfold State.sendPkts
  refine if_neg ?_
  rw [List.any_eq_true]
  rintro ⟨x, hx, hPaused⟩
  rw [List.eq_of_mem_replicate hx, h] at hPaused
  exact Bool.false_ne_true hPaused

/-- The only message of a queue pair is sent again from its first PSN on. -/
theorem State.goBack_one {s : State} {n : Nat} {q : Qp} {w : WorkReq} (hq : SMap.get s.rdma.qps n = some q)
    (hRetries : q.retries < s.p p_rdma_retry_cnt) (hSpray : q.spray = none) (hOne : q.unacked = [w]) (hPsn : w.psn < 2 ^ 24)
    (h0 : 0 < w.packets) (h1 : w.packets ≤ 4096) (hPaused : s.portPaused q.port = false) :
    s.goBack n w.psn = (s.setQp n { q with unacked := [{ w with resent := w.resent + 1 }], retries := q.retries + 1, timerAt := s.time.t }).emit
      (.rdmaSend n w.psn (List.replicate w.packets q.port)) := by
  have hLate : decide (psnDist w.lastPsn w.psn < 2 ^ 23) = true := w.late_of_first h0 h1
  have hAll : [{ w with resent := w.resent + 1 }].filter (fun (x : WorkReq) => decide (psnDist x.lastPsn w.psn < 2 ^ 23)) =
      [{ w with resent := w.resent + 1 }] := List.filter_cons_of_pos hLate
  have hSelf : psnDist w.psn w.psn = 0 := psnDist_self _
  have hAdd : psnAdd w.psn 0 = w.psn := Nat.mod_eq_of_lt hPsn
  unfold State.goBack
  simp only [hq, if_neg (Nat.not_le.mpr hRetries), hOne, List.map_cons, List.map_nil, if_pos hLate, hAll, List.foldl_cons, List.foldl_nil, hSelf, if_pos h0, hAdd, List.drop_zero]
  refine Eq.trans ?_ (State.sendPkts_running (s := s.setQp n _) hPaused)
  refine congrArg (State.sendPkts _ n w.psn) ?_
  unfold State.portsFor
  simp [hSpray]

theorem runs_rdmaNak_resends {s : State} {qpn : Nat} {psn : Fin 16777216} {kind : Fin 4} {q : Qp} {w : WorkReq} (hOn : s.rdmaOn = true)
    (hq : SMap.get s.rdma.qps qpn = some q) (hState : q.state = 1) (hSpray : q.spray = none) (hOne : q.unacked = [w]) (hPsn : psn.val = w.psn)
    (h0 : 0 < w.packets) (h1 : w.packets ≤ 4096) (hRetries : q.retries < s.p p_rdma_retry_cnt) (hPaused : s.portPaused q.port = false)
    (hKind : kind.val = 0 ∨ kind.val = 3) :
    Runs (.rdmaNak qpn psn kind) s fun t =>
      SMap.get t.rdma.qps qpn = some { q with unacked := [{ w with resent := w.resent + 1 }], retries := q.retries + 1, timerAt := s.time.t } ∧
        t.out = s.out ++ [.rdmaSend qpn w.psn (List.replicate w.packets q.port)] ∧ t.rdma.done = s.rdma.done := by
  have hLt : w.psn < 2 ^ 24 := hPsn ▸ psn.isLt
  refine runs_rdmaNak hOn hq hState ?_
  have hGet : SMap.get (s.setQp qpn { q with timerAt := s.time.t }).rdma.qps qpn = some { q with timerAt := s.time.t } := SMap.get_set_same _ _ _
  have hBack := State.goBack_one hGet hRetries hSpray hOne hLt h0 h1 hPaused
  rw [if_neg (by omega), hPsn, State.ackUpTo_none hq hOne (w.not_ackedBy_before h0 h1), hBack]
  exact ⟨SMap.get_set_same _ _ _, rfl, rfl⟩

theorem State.goBack_spent {s : State} {n psn : Nat} {q : Qp} (hq : SMap.get s.rdma.qps n = some q) (h : s.p p_rdma_retry_cnt ≤ q.retries) :
    s.goBack n psn = s.qpError n ST_RDMA_RETRY_EXCEEDED ST_RDMA_RETRY_EXCEEDED := by
  unfold State.goBack
  simp only [hq]
  exact if_pos h

/-- A NAK that ends the only message of a queue pair: no more retries, or an error of the peer (R512, R515). -/
theorem runs_rdmaNak_fails {s : State} {qpn status : Nat} {psn : Fin 16777216} {kind : Fin 4} {q : Qp} {w : WorkReq} (hOn : s.rdmaOn = true)
    (hq : SMap.get s.rdma.qps qpn = some q) (hState : q.state = 1) (hUse : q.use = .data) (hOne : q.unacked = [w]) (hPsn : psn.val = w.psn)
    (h0 : 0 < w.packets) (h1 : w.packets ≤ 4096)
    (hWhy : s.p p_rdma_retry_cnt ≤ q.retries ∧ (kind.val = 0 ∨ kind.val = 3) ∧ status = ST_RDMA_RETRY_EXCEEDED ∨
      (kind.val = 1 ∨ kind.val = 2) ∧ status = ST_RDMA_REMOTE_ERROR) :
    Runs (.rdmaNak qpn psn kind) s fun t =>
      (∃ q', SMap.get t.rdma.qps qpn = some q' ∧ q'.state = 2) ∧ t.rdma.done = s.rdma.done ++ [(qpn, w.wr, status)] := by
  have hGet : SMap.get (s.setQp qpn { q with timerAt := s.time.t }).rdma.qps qpn = some { q with timerAt := s.time.t } := SMap.get_set_same _ _ _
  have hEnds : ∀ rest, (∃ q', SMap.get ((s.setQp qpn { q with timerAt := s.time.t }).qpError qpn status rest).rdma.qps qpn = some q' ∧ q'.state = 2) ∧
      ((s.setQp qpn { q with timerAt := s.time.t }).qpError qpn status rest).rdma.done = s.rdma.done ++ [(qpn, w.wr, status)] := fun rest => by
    refine ⟨State.qpError_data_state hGet (ne_two_of_eq_one hState) hUse, (State.qpError_data_done hGet (ne_two_of_eq_one hState) hUse).trans ?_⟩
    exact congrArg (fun ws => s.rdma.done ++ failures qpn status rest ws) hOne
  refine runs_rdmaNak hOn hq hState ?_
  rw [hPsn, State.ackUpTo_none hq hOne (w.not_ackedBy_before h0 h1)]
  rcases hWhy with ⟨hSpent, hKind, rfl⟩ | ⟨hKind, rfl⟩
  · rw [if_neg (by omega), State.goBack_spent hGet hSpent]
    exact hEnds _
  · rw [if_pos hKind]
    exact hEnds _

theorem runs_rdmaAckTimeout_resends {s : State} {qpn : Nat} {q : Qp} {w : WorkReq} (hOn : s.rdmaOn = true)
    (hq : SMap.get s.rdma.qps qpn = some q) (hState : q.state = 1) (hSpray : q.spray = none) (hOne : q.unacked = [w]) (hPsn : w.psn < 2 ^ 24)
    (h0 : 0 < w.packets) (h1 : w.packets ≤ 4096) (hDue : q.timerAt + s.ackTicks ≤ s.time.t) (hRetries : q.retries < s.p p_rdma_retry_cnt)
    (hPaused : s.portPaused q.port = false) :
    Runs (.rdmaAckTimeout qpn) s fun t =>
      SMap.get t.rdma.qps qpn = some { q with unacked := [{ w with resent := w.resent + 1 }], retries := q.retries + 1, timerAt := s.time.t } ∧
        t.out = s.out ++ [.rdmaSend qpn w.psn (List.replicate w.packets q.port)] := by
  have hRun : exec (.rdmaAckTimeout qpn) s = .next (s.goBack qpn w.psn) := by
    change execRdmaAckTimeout qpn s = _
    unfold execRdmaAckTimeout
    simp only [if_pos hOn, hq, hOne]
    rw [if_pos ⟨hState, hDue⟩]
  refine ⟨_, hRun, ?_⟩
  rw [State.goBack_one hq hRetries hSpray hOne hPsn h0 h1 hPaused]
  exact ⟨SMap.get_set_same _ _ _, rfl⟩

/-! ### Answers of the session word -/

theorem State.isManager_congr {s t : State} (hPins : t.pins = s.pins) (hBoot : t.boot = s.boot) (hPower : t.power = s.power)
    (hSeam : t.seam = s.seam) : t.isManager = s.isManager := by
  simp only [State.isManager, State.headUp, State.serving, State.ready, State.live, State.isHead, hPins, hBoot, hPower, hSeam]

/-- An answer while the session word is being swapped (R530). -/
theorem State.wordAnswer_taking {s : State} {qpn v read new : Nat} (hState : s.repl.state = 1) (hManager : s.isManager = true)
    (hSource : s.isSource = true) (hTaking : s.repl.taking = some (read, new)) :
    s.wordAnswer qpn v = if v = read then s.sendSession new else s.swapWord qpn v := by
  unfold State.wordAnswer
  rw [if_neg (by simp [hState, hManager, hSource]), hTaking]

theorem State.sendRepl_sends (s : State) (data : Bool) (type stream part parts ident prev : Nat) (payload : Bytes) :
    ∃ msg, (s.out ++ [.repl msg]) <+: (s.sendRepl data type stream part parts ident prev 0 payload).out :=
  ⟨_, State.sendRepl_first _ _ _ _ _ _ _ _ _⟩

/-- The word was as expected: SESSION goes out. -/
theorem State.sendSession_sends (s : State) (word : Nat) : (s.sendSession word).repl.taking = none ∧
    (s.sendSession word).repl.claim = wordClaim word ∧ ∃ msg, (s.out ++ [.repl msg]) <+: (s.sendSession word).out := by
  unfold State.sendSession
  extract_lets pk w r
  have hSent := State.sendRepl_sends { s with repl := { r with claim := wordClaim word, taking := none } } false 0x01 255 0 1 s.repl.keyGen 0
    (s.arrayId ++ le 2 1 ++ zeros 6 ++ w 0 ++ w 1)
  refine ⟨?_, ?_, hSent⟩
  · rw [State.sendRepl_repl]
  · rw [State.sendRepl_repl]

/-- It was not: another swap goes out, from the value found. -/
theorem State.swapWord_of_get {s : State} {n v : Nat} {q : Qp} (hq : SMap.get s.rdma.qps n = some q) :
    (s.swapWord n v).repl = { s.repl with taking := some (v, s.newWord v) } ∧ (s.swapWord n v).out = s.out ++ [.rdmaCas n q.nextPsn v (s.newWord v)] := by
  unfold State.swapWord
  rw [hq]
  exact ⟨rfl, rfl⟩

/-- The answer of eight bytes to the session word, once its PSN is acknowledged. -/
theorem runs_rdmaAck_word {s : State} {qpn cr read new : Nat} {psn : Fin 16777216} {q : Qp} {b : Bytes} {p : State → Prop} (hOn : s.rdmaOn = true)
    (hq : SMap.get s.rdma.qps qpn = some q) (hState : q.state = 1) (hLen : b.length = 8) (hSession : s.repl.state = 1)
    (hManager : s.isManager = true) (hSource : s.isSource = true) (hTaking : s.repl.taking = some (read, new))
    (hp : p (if leNat b = read then (s.ackUpTo qpn psn (some cr)).sendSession new else (s.ackUpTo qpn psn (some cr)).swapWord qpn (leNat b))) :
    Runs (.rdmaAck qpn psn cr (some b)) s p := by
  refine runs_rdmaAck hOn hq hState ?_
  dsimp only
  rw [if_neg (by omega), if_neg (by omega)]
  rw [State.ackUpTo_of_get hq] at hp ⊢
  have hAnswer := State.wordAnswer_taking (s := s.acked qpn psn (some cr) q) (qpn := qpn) (v := leNat b) hSession hManager hSource hTaking
  rwa [hAnswer]

theorem runs_rdmaAck_wordTaken {s : State} {qpn cr new : Nat} {psn : Fin 16777216} {q : Qp} {b : Bytes} (hOn : s.rdmaOn = true)
    (hq : SMap.get s.rdma.qps qpn = some q) (hState : q.state = 1) (hLen : b.length = 8) (hSession : s.repl.state = 1)
    (hManager : s.isManager = true) (hSource : s.isSource = true) (hTaking : s.repl.taking = some (leNat b, new)) :
    Runs (.rdmaAck qpn psn cr (some b)) s fun t =>
      t.repl.taking = none ∧ t.repl.claim = wordClaim new ∧ ∃ msg, (s.out ++ [.repl msg]) <+: t.out := by
  refine runs_rdmaAck_word hOn hq hState hLen hSession hManager hSource hTaking ?_
  rw [if_pos rfl, State.ackUpTo_of_get hq]
  exact State.sendSession_sends _ _

theorem runs_rdmaAck_wordMissed {s : State} {qpn cr read new : Nat} {psn : Fin 16777216} {q : Qp} {b : Bytes} (hOn : s.rdmaOn = true)
    (hq : SMap.get s.rdma.qps qpn = some q) (hState : q.state = 1) (hLen : b.length = 8) (hSession : s.repl.state = 1)
    (hManager : s.isManager = true) (hSource : s.isSource = true) (hTaking : s.repl.taking = some (read, new)) (hNot : leNat b ≠ read) :
    Runs (.rdmaAck qpn psn cr (some b)) s fun t => t.repl = { s.repl with taking := some (leNat b, s.newWord (leNat b)) } ∧
      t.out = s.out ++ [.rdmaCas qpn q.nextPsn (leNat b) (s.newWord (leNat b))] := by
  refine runs_rdmaAck_word hOn hq hState hLen hSession hManager hSource hTaking ?_
  rw [if_neg hNot, State.ackUpTo_of_get hq]
  exact State.swapWord_of_get (q := q.acked psn (some cr) s.time.t) (SMap.get_set_same _ _ _)

/-! ### Rates and holes -/

theorem runs_rdmaCnp {s : State} {qpn : Nat} {q : Qp} (hOn : s.rdmaOn = true) (hq : SMap.get s.rdma.qps qpn = some q) (hState : q.state = 1)
    (hCc : s.p p_rdma_cc_enable = 1) :
    Runs (.rdmaCnp qpn) s fun t => t = s.setQp qpn { q with rate := q.rate / 2, cnpGot := some s.time.t } := by
  refine ⟨_, ?_, rfl⟩
  change execRdmaCnp qpn s = _
  unfold execRdmaCnp
  simp only [if_pos hOn, hq]
  rw [if_pos ⟨hCc, hState⟩]

theorem runs_rdmaRateRestore {s : State} {qpn c : Nat} {q : Qp} (hOn : s.rdmaOn = true) (hq : SMap.get s.rdma.qps qpn = some q)
    (hState : q.state = 1) (hGot : q.cnpGot = some c) (hDue : c + 5500 ≤ s.time.t) (hRate : q.rate < 65536) :
    Runs (.rdmaRateRestore qpn) s fun t => t = s.setQp qpn { q with rate := min 65536 (q.rate + 4096), cnpGot := some s.time.t } := by
  refine ⟨_, ?_, rfl⟩
  change execRdmaRateRestore qpn s = _
  unfold execRdmaRateRestore
  simp only [if_pos hOn, hq, hGot]
  rw [if_pos ⟨hState, hRate, hDue⟩]

theorem runs_sprayHoleTimeout {s : State} {qpn since : Nat} {psn : Fin 16777216} {q : Qp} {r : SprayRx} (hOn : s.rdmaOn = true)
    (hq : SMap.get s.rdma.qps qpn = some q) (hSpray : q.spray = some r) (hHole : r.holes = [(psn.val, since)])
    (hDue : since + s.p p_rdma_spray_hole_us * 100 ≤ s.time.t) :
    Runs (.sprayHoleTimeout qpn psn) s fun t =>
      t = (s.setQp qpn { q with spray := some { r with holes := [(psn.val, s.time.t)] } }).emit (.rdmaNak qpn psn 0) := by
  refine ⟨_, ?_, rfl⟩
  change execSprayHoleTimeout qpn psn s = _
  unfold execSprayHoleTimeout
  simp only [if_pos hOn, hq, hSpray, hHole]
  rw [if_pos (by simp [hDue])]
  simp

/-! ### The loss of the device -/

/-- The queue pair is in the error state, where there is one. -/
def State.qpDown (s : State) (n : Nat) : Prop := ∀ q, SMap.get s.rdma.qps n = some q → q.state = 2

theorem State.qpDown_of_rdma {s t : State} {n : Nat} (h : t.rdma = s.rdma) (hs : s.qpDown n) : t.qpDown n := by
  unfold State.qpDown
  rwa [h]

/-- An association's queue pairs keep their states where it ends. -/
theorem State.unbindQps_get (s : State) (c n : Nat) : SMap.get (s.unbindQps c).rdma.qps n =
    (SMap.get s.rdma.qps n).map (fun q => if q.inAssoc c then { q with assoc := 2 } else q) := by
  have hMap : (s.unbindQps c).rdma.qps = SMap.mapV s.rdma.qps (fun _ q => if q.inAssoc c then { q with assoc := 2 } else q) :=
    List.map_congr_left fun e _ => by
      change _ = (e.1, if e.2.inAssoc c then { e.2 with assoc := 2 } else e.2)
      split <;> rfl
  rw [hMap, SMap.get_mapV]

theorem State.unbindQps_qpDown {s : State} {c n : Nat} (h : s.qpDown n) : (s.unbindQps c).qpDown n := by
  intro q hq
  rw [State.unbindQps_get] at hq
  obtain ⟨q', hq', rfl⟩ := Option.map_eq_some_iff.mp hq
  have hDown := h q' hq'
  split
  · exact hDown
  · exact hDown

theorem State.endAssoc_qpDown {s : State} {c n : Nat} (h : s.qpDown n) : (s.endAssoc c).qpDown n := by
  unfold State.endAssoc
  split
  · exact h
  · extract_lets s1
    refine State.qpDown_of_rdma (State.event_rdma _ _ _) (State.unbindQps_qpDown ?_)
    exact State.qpDown_of_rdma (s := s) ((State.resetCtrl_stays (c := c)).same_rdma rfl) h

theorem State.qpTold_qpDown {s : State} {q : Qp} {n : Nat} (h : s.qpDown n) : (s.qpTold q).qpDown n := by
  unfold State.qpTold
  split
  · split
    · exact State.endAssoc_qpDown h
    · exact h
  · exact State.qpDown_of_rdma (State.sessionDown_stays.same_rdma rfl) h
  · exact h

/-- A queue pair that fails is in the error state. -/
theorem State.qpError_qpDown_same (s : State) (n first rest : Nat) : (s.qpError n first rest).qpDown n := by
  cases hq : SMap.get s.rdma.qps n with
  | none =>
    rw [State.qpError_of_none hq]
    intro q' hq'
    exact absurd (hq.symm.trans hq') (by simp)
  | some q =>
    by_cases hState : q.state = 2
    · rw [State.qpError_of_failed hq hState]
      intro q' hq'
      obtain rfl : q = q' := Option.some.inj (hq.symm.trans hq')
      exact hState
    · rw [State.qpError_of_get hq hState]
      refine State.qpTold_qpDown (State.qpDown_of_rdma (s := s.qpFail n first rest q) (State.eventArg_stays.same_rdma rfl) fun q' hq' => ?_)
      obtain rfl : q.failed = q' := Option.some.inj ((SMap.get_set_same _ _ _).symm.trans hq')
      rfl

/-- Other failures leave it there. -/
theorem State.qpError_qpDown {s : State} {n first rest m : Nat} (h : s.qpDown m) : (s.qpError n first rest).qpDown m := by
  by_cases hnm : m = n
  · subst hnm
    exact s.qpError_qpDown_same m first rest
  · cases hq : SMap.get s.rdma.qps n with
    | none =>
      rw [State.qpError_of_none hq]
      exact h
    | some q =>
      by_cases hState : q.state = 2
      · rw [State.qpError_of_failed hq hState]
        exact h
      · rw [State.qpError_of_get hq hState]
        refine State.qpTold_qpDown (State.qpDown_of_rdma (s := s.qpFail n first rest q) (State.eventArg_stays.same_rdma rfl) fun q' hq' => ?_)
        exact h q' ((SMap.get_set_other _ _ _ _ hnm).symm.trans hq')

theorem State.eventArg_raisedStays {c : Nat} (s : State) (k x : Nat) (arg : Bytes) : RaisedStays c s (s.eventArg k x arg) := fun y hy => by
  unfold State.raised at hy ⊢
  rwa [isRaised_alarms (State.eventArg_alarms _ _ _ _)]

/-- A failure keeps the flag of the device and the alarms that stand. -/
theorem State.qpTold_keeps (s : State) (q : Qp) : (s.qpTold q).rdma.fatal = s.rdma.fatal ∧ ∀ c, RaisedStays c s (s.qpTold q) := by
  unfold State.qpTold
  split
  · split
    · unfold State.endAssoc
      split
      · exact ⟨rfl, fun _ => RaisedStays.rfl⟩
      · extract_lets s1
        have hReset : Stays { nvme := true, head := true } s s1 := State.resetCtrl_stays
        refine ⟨?_, fun c => (State.event_raisedStays _ _ _).after (RaisedStays.after (raisedStays_of_ev rfl) (raisedStays_of_ev (hReset.same_ev rfl)))⟩
        rw [State.event_rdma, ← hReset.same_rdma rfl]
        rfl
    · exact ⟨rfl, fun _ => RaisedStays.rfl⟩
  · refine ⟨by rw [State.sessionDown_stays.same_rdma rfl], fun c => ?_⟩
    unfold State.sessionDown
    split
    · exact RaisedStays.rfl
    · exact (State.alarm_raisedStays _ _ _).after (raisedStays_of_ev rfl)
  · exact ⟨rfl, fun _ => RaisedStays.rfl⟩

theorem State.qpError_keeps (s : State) (n first rest : Nat) :
    (s.qpError n first rest).rdma.fatal = s.rdma.fatal ∧ ∀ c, RaisedStays c s (s.qpError n first rest) := by
  cases hq : SMap.get s.rdma.qps n with
  | none =>
    rw [State.qpError_of_none hq]
    exact ⟨rfl, fun _ => RaisedStays.rfl⟩
  | some q =>
    by_cases hState : q.state = 2
    · rw [State.qpError_of_failed hq hState]
      exact ⟨rfl, fun _ => RaisedStays.rfl⟩
    · rw [State.qpError_of_get hq hState]
      obtain ⟨hFatal, hRaised⟩ := ((s.qpFail n first rest q).eventArg EV_RDMA_QP_FATAL 0 (le 4 n)).qpTold_keeps q
      refine ⟨hFatal.trans (by rw [State.eventArg_stays.same_rdma rfl]; rfl), fun c => (hRaised c).after ?_⟩
      exact (State.eventArg_raisedStays _ _ _ _).after (raisedStays_of_ev rfl)

/-- Every queue pair fails, one after the other. -/
theorem State.foldl_qpError (first rest : Nat) (ns : List Nat) (s : State) :
    (∀ m, s.qpDown m ∨ m ∈ ns → (ns.foldl (fun acc n => acc.qpError n first rest) s).qpDown m) ∧
      (ns.foldl (fun acc n => acc.qpError n first rest) s).rdma.fatal = s.rdma.fatal ∧
      ∀ c, RaisedStays c s (ns.foldl (fun acc n => acc.qpError n first rest) s) := by
  induction ns generalizing s with
  | nil => exact ⟨fun m h => h.resolve_right List.not_mem_nil, rfl, fun _ => RaisedStays.rfl⟩
  | cons n ns ih =>
    obtain ⟨hDown, hFatal, hRaised⟩ := ih (s.qpError n first rest)
    obtain ⟨hFatal1, hRaised1⟩ := s.qpError_keeps n first rest
    refine ⟨fun m h => hDown m ?_, hFatal.trans hFatal1, fun c => (hRaised c).after (hRaised1 c)⟩
    rcases h with h | h
    · exact Or.inl (State.qpError_qpDown h)
    · rcases List.mem_cons.mp h with rfl | h
      · exact Or.inl (s.qpError_qpDown_same m first rest)
      · exact Or.inr h

theorem SMap.mem_keys_of_get {α : Type} {m : SMap α} {k : Nat} {v : α} (h : SMap.get m k = some v) : k ∈ SMap.keys m := by
  induction m with
  | nil => exact absurd h (by simp [SMap.get])
  | cons e m ih =>
    by_cases he : e.1 = k
    · simp [SMap.keys, he]
    · simp only [SMap.get, if_neg he] at h
      exact List.mem_cons_of_mem _ (ih h)

theorem runs_rdmaDeviceFatal {s : State} (hFw : s.fw = true) (hHead : s.isHead = true) :
    Runs .rdmaDeviceFatal s fun t =>
      t.rdma.fatal = true ∧ t.raised AL_RDMA_DEVICE_FATAL 0 ∧ t.seam.own = 3 ∧ ∀ n q, SMap.get t.rdma.qps n = some q → q.state = 2 := by
  refine runs_onlyIf execRdmaDeviceFatal (by simp [hFw, hHead]) rfl rfl ?_
  extract_lets r s1 s2 s3 se
  have hRdma1 : s1.rdma.fatal = true := by
    unfold s1
    rw [State.alarm_rdma]
  obtain ⟨hDown, hFatal, hRaised⟩ := State.foldl_qpError ST_RDMA_FLUSHED ST_RDMA_FLUSHED (SMap.keys s1.rdma.qps) s1
  change ∀ m, s1.qpDown m ∨ _ → s2.qpDown m at hDown
  have hAll : ∀ n, s2.qpDown n := fun n => by
    cases hq : SMap.get s1.rdma.qps n with
    | none => exact hDown n (Or.inl fun q hq' => absurd (hq.symm.trans hq') (by simp))
    | some q => exact hDown n (Or.inr (SMap.mem_keys_of_get hq))
  have h3 : Stays { seam := true, head := true } s2 s3 := State.standDown_stays
  have hAna : Stays { nvme := true, out := true } { s3 with seam := { se with own := 3 } } (State.anaUpdate { s3 with seam := { se with own := 3 } }) :=
    State.anaUpdate_stays
  have hRdma : (State.anaUpdate { s3 with seam := { se with own := 3 } }).rdma = s2.rdma := (hAna.same_rdma rfl).trans (h3.same_rdma rfl)
  refine ⟨?_, ?_, ?_, fun n q hq => ?_⟩
  · rw [hRdma]
    exact hFatal.trans hRdma1
  · refine raisedStays_of_ev ((hAna.same_ev rfl).trans (h3.same_ev rfl)) 0 ?_
    exact hRaised _ 0 (State.alarm_isRaised _ _ _)
  · exact congrArg SeamSt.own (hAna.same_seam rfl)
  · rw [hRdma] at hq
    exact hAll n q hq

/-- Settles O58: each clause is what its command does to the queue pair it names; a failure of the device fails them one after the other, and
nothing brings one back. -/
theorem requestersAcknowledgeGoBackAndFail : Obligations.RequestersAcknowledgeGoBackAndFail := by
  unfold Obligations.RequestersAcknowledgeGoBackAndFail
  exact ⟨fun _ _ _ _ _ _ hOn hq hState hOne hPsn => runs_rdmaAck_last hOn hq hState hOne hPsn,
    fun _ _ _ _ _ _ hOn hq hState hUse hLong => runs_rdmaAck_long hOn hq hState hUse hLong,
    fun _ _ _ _ _ _ hOn hq hState hUse hShort => runs_rdmaAck_short hOn hq hState hUse hShort,
    fun _ _ _ _ _ _ _ hOn hq hState hLen hSession hManager hSource hTaking =>
      runs_rdmaAck_wordTaken hOn hq hState hLen hSession hManager hSource hTaking,
    fun _ _ _ _ _ _ _ _ hOn hq hState hLen hSession hManager hSource hTaking hNot =>
      runs_rdmaAck_wordMissed hOn hq hState hLen hSession hManager hSource hTaking hNot,
    fun _ _ _ _ _ _ hOn hq hState _ hSpray hOne hPsn h0 h1 hRetries hPaused hKind =>
      runs_rdmaNak_resends hOn hq hState hSpray hOne hPsn h0 h1 hRetries hPaused hKind,
    fun _ _ _ _ _ _ hOn hq hState hUse hOne hPsn h0 h1 hSpent hKind =>
      runs_rdmaNak_fails hOn hq hState hUse hOne hPsn h0 h1 (Or.inl ⟨hSpent, hKind, rfl⟩),
    fun _ _ _ _ _ _ hOn hq hState hUse hOne hPsn h0 h1 hKind =>
      runs_rdmaNak_fails hOn hq hState hUse hOne hPsn h0 h1 (Or.inr ⟨hKind, rfl⟩),
    fun _ _ _ _ hOn hq hState hSpray hOne hPsn h0 h1 hDue hRetries hPaused =>
      runs_rdmaAckTimeout_resends hOn hq hState hSpray hOne hPsn h0 h1 hDue hRetries hPaused,
    fun _ _ _ hOn hq hState hCc => runs_rdmaCnp hOn hq hState hCc,
    fun _ _ _ _ hOn hq hState hGot hDue hRate => runs_rdmaRateRestore hOn hq hState hGot hDue hRate,
    fun _ _ _ _ _ _ hOn hq hSpray hHole hDue => runs_sprayHoleTimeout hOn hq hSpray hHole hDue,
    fun _ hFw hHead => runs_rdmaDeviceFatal hFw hHead⟩

end Sys2Proof.Machine
end

section
/-! PROOFS. A stream whose generation in the lease records is ahead of the head that takes it over (R399, R405). It refutes a statement that
leaves this case out. -/

/- The proofs of this part are elaborated one after another: a further worker's stack would not fit under the limit of the check. -/
set_option deprecated.oldSectionVars true

namespace Sys2Proof.Machine

/-- The claim on stream 0 that `takingHead` has won. -/
def wonClaim : ClaimSt := { epn := 0, gen := 1, streams := [(0, 0, 0)], won := true }

/-- The lease record of a shelf at which stream 0 has come to generation 5. -/
def aheadRecord : LeaseRec :=
  { leaseGen := 1, arrayId := [], manager := 0, fenced := 0, owner0 := 0, owner1 := 1, grantUntil0 := 0, grantUntil1 := 0, streamGen0 := 5
    streamGen1 := 0, resumeSsn0 := 0, resumeSsn1 := 0, eBase := 0, tBase := 0, barrierEpn := 0, highEpn := 0 }

/-- `bareHead` at the begin of epoch 1, with its claim on stream 0 won and that record seen. -/
def takingHead : State :=
  { bareHead with
    time := { eBase := 1 }
    seam := { claim := some wonClaim }
    head := { shelves := [(0, { record := some aheadRecord })] } }

/-- The stream's generation is the record's. -/
theorem takeoverAdmitStart_takingHead_gen : ((takingHead.after (.takeoverAdmitStart 0)).stream 0).gen = 5 := by decide +kernel

/-- Refutes O49 at its clause on the begin of a takeover, which has the stream's generation go up by one: `takingHead` holds it at 0 and has
seen a lease record that has it at 5, and admits in generation 5. -/
theorem not_leasesClaimsAndTakeover : ¬ Obligations.LeasesClaimsAndTakeover := by
  unfold Obligations.LeasesClaimsAndTakeover
  rintro ⟨-, -, -, hStart, -⟩
  obtain ⟨hStream, -⟩ := (hStart takingHead 0 wonClaim (by decide) rfl rfl (by decide) (by decide) (by decide)).after
  have hGen : ((takingHead.after (.takeoverAdmitStart 0)).stream 0).gen = 1 := congrArg StreamSt.gen hStream
  exact absurd (hGen.symm.trans takeoverAdmitStart_takingHead_gen) (by decide)

end Sys2Proof.Machine
end

section
/-! PROOFS. Tagged writes at a shelf: APPEND, CLOSE and STRIP_WRITE, and items that become power-safe (R394, R425 to R429, R449 to R453, R464). -/

/- The proofs of this part are elaborated one after another: a further worker's stack would not fit under the limit of the check. -/
set_option deprecated.oldSectionVars true

namespace Sys2Proof.Machine

/-! ### What taking a frame leaves of a shelf -/

@[simp] theorem State.taken_power (s : State) (h : FrameHdr) : (s.taken h).power = s.power := State.taken_stays.same_power rfl
@[simp] theorem State.taken_keptOf (s : State) (h : FrameHdr) (t : Tag) : (s.taken h).keptOf t = s.keptOf t := by rw [s.taken_eq]; rfl
@[simp] theorem State.taken_dropped (s : State) (h : FrameHdr) (t : Tag) : (s.taken h).dropped t = s.dropped t := by rw [s.taken_eq]; rfl
@[simp] theorem State.taken_canPlace (s : State) (h : FrameHdr) : (s.taken h).canPlace = s.canPlace := by rw [s.taken_eq]; rfl
@[simp] theorem State.taken_placeOf (s : State) (h : FrameHdr) (t : Tag) (n : Nat) : (s.taken h).placeOf t n = s.placeOf t n := by
  rw [s.taken_eq]; rfl

/-! ### Refusals and failed copies -/

theorem State.repliedFirst_giveCredit {s t : State} {h : FrameHdr} {op status result : Nat} {b : ReplyBody} (p w q : Nat)
    (hr : s.repliedFirst t h op status result b) : s.repliedFirst (t.giveCredit p w q) h op status result b := by
  obtain ⟨n, a, hFirst⟩ := hr
  exact ⟨n, a, hFirst.trans (State.giveCredit_out_grows _ _ _ _)⟩

/-- A copy that came in a frame. -/
def Copied.cameIn (c : Copied) (h : FrameHdr) : Prop := c.port = h.port.val ∧ c.tag = h.tag ∧ c.reqId = h.reqId

/-- A refusal is the first thing sent, and changes nothing stored (R427). -/
theorem State.refuse_replies {s v : State} {h : FrameHdr} {c : Copied} (ht : s.shelfTakes h = true) (hc : c.cameIn h) (hPins : v.pins = s.pins)
    (hOut : v.out = s.out) (status p w : Nat) : s.repliedFirst ((v.refuse c status).giveCredit p w 0) h c.opcode status 0 .none ∧
      ((v.refuse c status).giveCredit p w 0).sh = v.sh ∧ ((v.refuse c status).giveCredit p w 0).keep = v.keep := by
  obtain ⟨hPort, hTag, hReq⟩ := hc
  unfold State.refuse
  rw [hPort, hTag, hReq]
  exact ⟨State.repliedFirst_giveCredit _ _ _ (State.replyTo_repliedFirst ht hPins hOut _ _ _ _), by simp, by simp⟩

/-- A copy whose check fields fail is answered ST_SPOKE_CHECK; the buffer is as it was (R394). -/
theorem State.failCopy_replies {s v : State} {h : FrameHdr} {c : Copied} (ht : s.shelfTakes h = true) (hc : c.cameIn h) (hPins : v.pins = s.pins)
    (hOut : v.out = s.out) (p w : Nat) : s.repliedFirst ((v.failCopy c).giveCredit p w 0) h c.opcode ST_SPOKE_CHECK 0 .none ∧
      ((v.failCopy c).giveCredit p w 0).sh.plb = v.sh.plb ∧ ((v.failCopy c).giveCredit p w 0).keep = v.keep := by
  unfold State.failCopy
  obtain ⟨hReply, hSh, hKeep⟩ := State.refuse_replies (v := v.remember { tag := c.tag, site := c.port, epn := v.epn, digest := [], gen := c.gen, passed := false, bytes := 0 })
    ht hc hPins hOut ST_SPOKE_CHECK p w
  exact ⟨hReply, by rw [hSh]; rfl, hKeep⟩

/-! ### Copies that are taken -/

/-- A payload of a head that may write, of a current generation, while the shelf takes payloads. -/
theorem State.onTagged_taken {s : State} {c : Copied} (f : State → State) (hMay : s.mayWrite c.port = true)
    (hGen : leaseStreamGen s.lease c.tag.stream ≤ c.gen) (hState : s.sh.state < 2) (hErased : s.sh.dumpErased.any id = true) :
    s.onTagged c f = f s := by
  unfold State.onTagged
  rw [if_neg (by simp [hMay]), if_neg (Nat.not_lt.mpr hGen), if_neg fun h => absurd h.2 (Nat.not_le.mpr hState), if_neg (by simp [hErased])]

theorem State.onTagged_ungranted {s : State} {c : Copied} (f : State → State) (hMay : s.mayWrite c.port = false) :
    s.onTagged c f = s.refuse c ST_SPOKE_NO_GRANT := by
  unfold State.onTagged
  exact if_pos (by simp [hMay])

theorem State.onTagged_stale {s : State} {c : Copied} (f : State → State) (hMay : s.mayWrite c.port = true)
    (hGen : c.gen < leaseStreamGen s.lease c.tag.stream) : s.onTagged c f = s.refuse c ST_SPOKE_GEN_STALE := by
  unfold State.onTagged
  rw [if_neg (by simp [hMay]), if_pos hGen]

/-- The first copy of a tag is kept where its check fields agree. -/
theorem State.compareCopy_first {s : State} {c : Copied} (again : Kept → State → State) (keep : State → State) (h : s.keptOf c.tag = none) :
    s.compareCopy c again keep = if c.passes then keep s else s.failCopy c := by
  unfold State.compareCopy
  rw [h]
  rfl

/-- What a first copy meets at a shelf that takes payloads. -/
structure State.Welcomes (s : State) (c : Copied) : Prop where
  may : s.mayWrite c.port = true
  gen : leaseStreamGen s.lease c.tag.stream ≤ c.gen
  state : s.sh.state < 2
  erased : s.sh.dumpErased.any id = true
  first : s.keptOf c.tag = none

theorem State.takeWrite_first {s : State} {c : Copied} (b : PlbBody) (h : s.Welcomes c) :
    s.takeWrite c b = (if c.passes then s.bufferCopy c b else s.failCopy c).giveCredit c.port (wCredits c) 0 := by
  unfold State.takeWrite
  rw [State.onTagged_taken _ h.may h.gen h.state h.erased, State.compareCopy_first _ _ h.first]

theorem State.welcomes_taken {s : State} {h : FrameHdr} {c : Copied} (hc : c.cameIn h) (hGen : c.gen = h.streamGen)
    (hFirst : s.firstCopy h = true) (hRoom : s.shelfRoom = true) : (s.taken h).Welcomes c := by
  obtain ⟨hPort, hTag, -⟩ := hc
  simp only [State.firstCopy, Bool.and_eq_true, decide_eq_true_eq, Option.isNone_iff_eq_none] at hFirst
  simp only [State.shelfRoom, Bool.and_eq_true, decide_eq_true_eq] at hRoom
  obtain ⟨⟨hMay, hStream⟩, hNone⟩ := hFirst
  obtain ⟨⟨-, hState⟩, hErased⟩ := hRoom
  exact ⟨by simpa [hPort] using hMay, by simpa [hTag, hGen] using hStream, by simpa using hState, by simpa using hErased, by simpa [hTag] using hNone⟩

theorem State.pfAsserted_of_room {s : State} (h : s.shelfRoom = true) : s.power.pfAsserted = false := by
  simp only [State.shelfRoom, Bool.and_eq_true, Bool.not_eq_true'] at h
  exact h.1.1

/-- A copy that is placed is the buffer's newest item, in place of any other of its tag, and is remembered (R394, R449, R452). -/
theorem State.bufferCopy_buffers {s : State} {c : Copied} {first : Nat} (b : PlbBody) (hPlace : s.canPlace = true)
    (hAt : s.placeOf c.tag (itemSectors c.payload.length) = some first) :
    (∃ x, (s.bufferCopy c b).sh.plb = s.sh.plb.filter (fun y => y.tag != c.tag) ++ [x] ∧ x.tag = c.tag ∧ x.body = b ∧ x.first = first ∧
      x.gen = c.gen ∧ x.safe = false) ∧ ((s.bufferCopy c b).keptOf c.tag).isSome = true ∧ (s.bufferCopy c b).sh.map = s.sh.map := by
  unfold State.bufferCopy
  extract_lets sh0 k0 s0 n d
  have hAt0 : s0.plbPlace n = some first := hAt
  rw [if_neg (by simp [hPlace]), hAt0]
  dsimp only
  refine ⟨⟨_, rfl, rfl, rfl, rfl, rfl, rfl⟩, ?_, rfl⟩
  unfold State.keptOf State.remember
  refine List.find?_isSome.mpr ⟨_, List.mem_append_right _ (List.mem_singleton.mpr rfl), ?_⟩
  simp only [beq_self_eq_true, Bool.true_and, decide_eq_true_eq]
  exact Nat.le_add_right _ _

/-- A meaning `m` of a payload frame runs so while POWER_FAIL_N is released. -/
theorem runs_onWrite {c : Instr} {s : State} {h : FrameHdr} {f : State → State} {p : State → Prop} (m : State → Res) (ht : s.shelfTakes h = true)
    (hPf : s.power.pfAsserted = false) (hm : m s = onWrite h s f) (hc : exec c s = m s) (hp : p (f (s.taken h))) : Runs c s p := by
  refine runs_onShelf m ht hm hc ?_
  rw [if_neg (by simp [hPf])]
  exact hp

/-- While it is asserted, nothing is taken (R453). -/
theorem runs_onWrite_held {c : Instr} {s : State} {h : FrameHdr} {f : State → State} {p : State → Prop} (m : State → Res)
    (ht : s.shelfTakes h = true) (hPf : s.power.pfAsserted = true) (hm : m s = onWrite h s f) (hc : exec c s = m s) (hp : p (s.taken h)) :
    Runs c s p := by
  refine runs_onShelf m ht hm hc ?_
  rw [if_pos (by simp [hPf])]
  exact hp

/-- A first copy whose check fields agree is buffered. -/
theorem State.takeWrite_buffers {s : State} {h : FrameHdr} {c : Copied} {first : Nat} (b : PlbBody) (hc : c.cameIn h) (hGen : c.gen = h.streamGen)
    (hFirst : s.firstCopy h = true) (hRoom : s.shelfRoom = true) (hPasses : c.passes = true) (hPlace : s.canPlace = true)
    (hAt : s.placeOf h.tag (itemSectors c.payload.length) = some first) :
    s.buffered ((s.taken h).takeWrite c b) h b first ∧ (((s.taken h).takeWrite c b).keptOf h.tag).isSome = true ∧
      ((s.taken h).takeWrite c b).sh.map = s.sh.map := by
  have hTag := hc.2.1
  obtain ⟨⟨x, hPlb, hxTag, hxBody, hxFirst, hxGen, hxSafe⟩, hKept, hMap⟩ := (s.taken h).bufferCopy_buffers (c := c) (first := first) b
    (by simpa using hPlace) (by simpa [hTag] using hAt)
  rw [State.takeWrite_first b (State.welcomes_taken hc hGen hFirst hRoom), if_pos hPasses]
  have hSame : ∀ u : State, ((u.giveCredit c.port (wCredits c) 0).keptOf h.tag) = u.keptOf h.tag := fun u => by
    simp only [State.keptOf, State.giveCredit_sh, State.epn_congr (s := u) (State.giveCredit_time _ _ _ _) (State.giveCredit_params _ _ _ _),
      State.p, State.giveCredit_params]
    rfl
  refine ⟨⟨x, ?_, hxTag.trans hTag, hxBody, hxFirst, hxGen.trans hGen, hxSafe⟩, ?_, ?_⟩
  · rw [State.giveCredit_sh, hPlb, hTag, State.taken_sh]
  · rw [hSame, ← hTag]
    exact hKept
  · rw [State.giveCredit_sh, hMap, State.taken_sh]

/-- A first copy whose check fields fail is answered ST_SPOKE_CHECK. -/
theorem State.takeWrite_fails {s : State} {h : FrameHdr} {c : Copied} (b : PlbBody) (ht : s.shelfTakes h = true) (hc : c.cameIn h)
    (hGen : c.gen = h.streamGen) (hFirst : s.firstCopy h = true) (hRoom : s.shelfRoom = true) (hFails : c.passes = false) :
    s.repliedFirst ((s.taken h).takeWrite c b) h c.opcode ST_SPOKE_CHECK 0 .none ∧ ((s.taken h).takeWrite c b).sh.plb = s.sh.plb ∧
      ((s.taken h).takeWrite c b).keep = s.keep := by
  rw [State.takeWrite_first b (State.welcomes_taken hc hGen hFirst hRoom), if_neg (by simp [hFails])]
  obtain ⟨hReply, hPlb, hKeep⟩ := State.failCopy_replies ht hc (s.taken_pins h) (s.taken_out h) c.port (wCredits c)
  exact ⟨hReply, by rw [hPlb, State.taken_sh], by rw [hKeep, State.taken_keep]⟩

/-! ### APPEND -/

/-- The copy that an APPEND brings. -/
def appendCopy (h : FrameHdr) (a : AppendHead) (img : Bytes) : Copied :=
  { port := h.port, tag := h.tag, opcode := 0x20, gen := h.streamGen, reqId := h.reqId, single := h.single
    payload := appendHeadBytes a ++ img, passes := appendPasses h a img, body := some (.image a img) }

theorem appendCopy_cameIn (h : FrameHdr) (a : AppendHead) (img : Bytes) : (appendCopy h a img).cameIn h := ⟨rfl, rfl, rfl⟩

/-- What becomes of an APPEND whose tag was dropped (R428). -/
def State.ackDropped (s : State) (e : AckEntry) : State := (s.toHeads (.ack [e])).toHeads (.done [e])

theorem execAppend_eq (h : FrameHdr) (a : AppendHead) (img : Bytes) (s : State) : execAppend h a img s = onWrite h s fun s =>
    if img.length ≠ a.imageLen then
      (s.refuse (appendCopy h a img) ST_SPOKE_FIELD).giveCredit h.port (wCredits (appendCopy h a img)) 0
    else if s.dropped h.tag then
      (s.onTagged (appendCopy h a img) fun s => s.ackDropped ⟨h.tag, 4096 * itemSectors (appendCopy h a img).payload.length⟩).giveCredit h.port
        (wCredits (appendCopy h a img)) 0
    else s.takeWrite (appendCopy h a img) (.image a img) := rfl

/-- An APPEND of a tag that was not dropped, of the length it says. -/
theorem runs_append {s : State} {h : FrameHdr} {a : AppendHead} {img : Bytes} {p : State → Prop} (ht : s.shelfTakes h = true)
    (hRoom : s.shelfRoom = true) (hLen : img.length = a.imageLen) (hDrop : s.dropped h.tag = false)
    (hp : p ((s.taken h).takeWrite (appendCopy h a img) (.image a img))) : Runs (.append h a img) s p := by
  refine runs_onWrite (execAppend h a img) ht (State.pfAsserted_of_room hRoom) (execAppend_eq h a img s) rfl ?_
  rw [if_neg (by simp [hLen]), if_neg (by simp [hDrop])]
  exact hp

/-- An APPEND that R427 refuses, be its tag dropped or not. -/
theorem runs_append_refused {s : State} {h : FrameHdr} {a : AppendHead} {img : Bytes} {st : Nat} (ht : s.shelfTakes h = true)
    (hPf : s.power.pfAsserted = false) (hLen : img.length = a.imageLen)
    (hRefused : ∀ f, (s.taken h).onTagged (appendCopy h a img) f = (s.taken h).refuse (appendCopy h a img) st) :
    Runs (.append h a img) s fun t => t.sh = s.sh ∧ t.keep = s.keep ∧ s.repliedFirst t h 0x20 st 0 .none := by
  obtain ⟨hReply, hSh, hKeep⟩ := State.refuse_replies ht (appendCopy_cameIn h a img) (s.taken_pins h) (s.taken_out h) st h.port
    (wCredits (appendCopy h a img))
  refine runs_onWrite (execAppend h a img) ht hPf (execAppend_eq h a img s) rfl ?_
  rw [if_neg (by simp [hLen])]
  have hTake : (s.taken h).takeWrite (appendCopy h a img) (.image a img) =
      ((s.taken h).refuse (appendCopy h a img) st).giveCredit h.port (wCredits (appendCopy h a img)) 0 := by
    unfold State.takeWrite
    rw [hRefused]
    rfl
  rw [hRefused, hTake, ite_self]
  exact ⟨hSh.trans (s.taken_sh h), hKeep.trans (s.taken_keep h), hReply⟩

/-! ### CLOSE -/

/-- The payload of a CLOSE (R426). -/
def closePayload (head : StripHead) (checks ssns : List Nat) : Bytes :=
  le 2 ssns.length ++ zeros 14 ++ stripHeadBytes head ++ checks.flatMap (fun x => le 8 x ++ le 6 head.stripeId ++ le 2 0xFFFF) ++ ssns.flatMap (le 8)

/-- The copy that a CLOSE brings. -/
def closeCopy (h : FrameHdr) (head : StripHead) (checks ssns : List Nat) (passes : Bool) (b : Option PlbBody) : Copied :=
  { port := h.port, tag := h.tag, opcode := 0x21, gen := h.streamGen, reqId := h.reqId, single := h.single
    payload := closePayload head checks ssns, passes := passes, body := b }

theorem closeCopy_cameIn (h : FrameHdr) (head : StripHead) (checks ssns : List Nat) (passes : Bool) (b : Option PlbBody) :
    (closeCopy h head checks ssns passes b).cameIn h := ⟨rfl, rfl, rfl⟩

theorem closePayload_length (head : StripHead) {checks : List Nat} (ssns : List Nat) (hChecks : checks.length = 16) :
    (closePayload head checks ssns).length = 16 + (stripHeadBytes head).length + 16 * 16 + 8 * ssns.length := by
  unfold closePayload
  simp only [List.length_append, List.length_flatMap, le_length, zeros, List.length_replicate, List.map_const', List.sum_replicate, hChecks,
    smul_eq_mul]
  omega

/-- What a CLOSE does once its images are looked for (R426). -/
def State.closeTaken (s : State) (h : FrameHdr) (head : StripHead) (checks ssns : List Nat) : Option (List (Tag × Bytes)) → State
  | none =>
    if (match s.keptOf h.tag with | some k => k.passed && k.digest == writeDigest 0x21 h.tag (closePayload head checks ssns) | none => false) then
      s.takeWrite (closeCopy h head checks ssns true (some (.packed head [] []))) (.packed head [] [])
    else (s.onTagged (closeCopy h head checks ssns true (some (.packed head [] []))) fun s =>
      (if s.differs (closeCopy h head checks ssns true none) then s.digestDiff h.tag.stream else s).refuse (closeCopy h head checks ssns true none)
        ST_SPOKE_CLOSE_GAP).giveCredit h.port (wCredits (closeCopy h head checks ssns true none)) 0
  | some imgs =>
    s.takeWrite (closeCopy h head checks ssns (sectorChecks (stripHeadBytes head ++ packed (imgs.map (·.2))) == checks)
      (some (.packed head (stripHeadBytes head ++ packed (imgs.map (·.2))) (imgs.map (·.1)))))
      (.packed head (stripHeadBytes head ++ packed (imgs.map (·.2))) (imgs.map (·.1)))

theorem execClose_eq (h : FrameHdr) (head : StripHead) (checks ssns : List Nat) (s : State) : execClose h head checks ssns s = onWrite h s fun s =>
    if checks.length ≠ 16 then
      (s.refuse (closeCopy h head checks ssns true none) ST_SPOKE_FIELD).giveCredit h.port (wCredits (closeCopy h head checks ssns true none)) 0
    else s.closeTaken h head checks ssns (takeImages head.metadata h.tag.stream h.tag.item ssns s.sh.plb []) := rfl

/-- A CLOSE with sixteen checks. -/
theorem runs_close {s : State} {h : FrameHdr} {head : StripHead} {checks ssns : List Nat} {p : State → Prop} (ht : s.shelfTakes h = true)
    (hRoom : s.shelfRoom = true) (hChecks : checks.length = 16)
    (hp : p ((s.taken h).closeTaken h head checks ssns (takeImages head.metadata h.tag.stream h.tag.item ssns s.sh.plb []))) :
    Runs (.close h head checks ssns) s p := by
  refine runs_onWrite (execClose h head checks ssns) ht (State.pfAsserted_of_room hRoom) (execClose_eq h head checks ssns s) rfl ?_
  rw [if_neg (by simp [hChecks]), State.taken_sh]
  exact hp

theorem runs_close_buffers {s : State} {h : FrameHdr} {head : StripHead} {checks ssns : List Nat} {imgs : List (Tag × Bytes)} {first : Nat}
    (ht : s.shelfTakes h = true) (hFirst : s.firstCopy h = true) (hRoom : s.shelfRoom = true) (hChecks : checks.length = 16)
    (hImgs : takeImages head.metadata h.tag.stream h.tag.item ssns s.sh.plb [] = some imgs)
    (hRight : sectorChecks (stripHeadBytes head ++ packed (imgs.map (·.2))) = checks) (hPlace : s.canPlace = true)
    (hAt : s.placeOf h.tag (itemSectors (16 + (stripHeadBytes head).length + 16 * 16 + 8 * ssns.length)) = some first) :
    Runs (.close h head checks ssns) s fun t =>
      s.buffered t h (.packed head (stripHeadBytes head ++ packed (imgs.map (·.2))) (imgs.map (·.1))) first := by
  refine runs_close ht hRoom hChecks ?_
  rw [hImgs]
  refine (State.takeWrite_buffers _ (closeCopy_cameIn _ _ _ _ _ _) rfl hFirst hRoom (beq_iff_eq.mpr hRight) hPlace ?_).1
  rw [← hAt, ← closePayload_length head ssns hChecks]
  rfl

theorem runs_close_fails {s : State} {h : FrameHdr} {head : StripHead} {checks ssns : List Nat} {imgs : List (Tag × Bytes)}
    (ht : s.shelfTakes h = true) (hFirst : s.firstCopy h = true) (hRoom : s.shelfRoom = true) (hChecks : checks.length = 16)
    (hImgs : takeImages head.metadata h.tag.stream h.tag.item ssns s.sh.plb [] = some imgs)
    (hWrong : sectorChecks (stripHeadBytes head ++ packed (imgs.map (·.2))) ≠ checks) :
    Runs (.close h head checks ssns) s fun t => t.sh.plb = s.sh.plb ∧ s.repliedFirst t h 0x21 ST_SPOKE_CHECK 0 .none := by
  refine runs_close ht hRoom hChecks ?_
  rw [hImgs]
  obtain ⟨hReply, hPlb, -⟩ := State.takeWrite_fails (.packed head (stripHeadBytes head ++ packed (imgs.map (·.2))) (imgs.map (·.1))) ht
    (closeCopy_cameIn h head checks ssns (sectorChecks (stripHeadBytes head ++ packed (imgs.map (·.2))) == checks)
      (some (.packed head (stripHeadBytes head ++ packed (imgs.map (·.2))) (imgs.map (·.1))))) rfl hFirst hRoom (beq_eq_false_iff_ne.mpr hWrong)
  exact ⟨hPlb, hReply⟩

theorem runs_close_gap {s : State} {h : FrameHdr} {head : StripHead} {checks ssns : List Nat} (ht : s.shelfTakes h = true)
    (hFirst : s.firstCopy h = true) (hRoom : s.shelfRoom = true) (hChecks : checks.length = 16)
    (hNone : takeImages head.metadata h.tag.stream h.tag.item ssns s.sh.plb [] = none) :
    Runs (.close h head checks ssns) s fun t => t.sh.plb = s.sh.plb ∧ t.keep = s.keep ∧ s.repliedFirst t h 0x21 ST_SPOKE_CLOSE_GAP 0 .none := by
  have hCame := closeCopy_cameIn h head checks ssns true none
  have hWelcome := State.welcomes_taken (closeCopy_cameIn h head checks ssns true (some (.packed head [] []))) rfl hFirst hRoom
  have hKept : (s.taken h).keptOf h.tag = none := hWelcome.first
  have hSame : (s.taken h).differs (closeCopy h head checks ssns true none) = false := by
    unfold State.differs
    rw [show (closeCopy h head checks ssns true none).tag = h.tag from rfl, hKept]
  obtain ⟨hReply, hSh, hKeep⟩ := State.refuse_replies ht hCame (s.taken_pins h) (s.taken_out h) ST_SPOKE_CLOSE_GAP h.port
    (wCredits (closeCopy h head checks ssns true none))
  refine runs_close ht hRoom hChecks ?_
  rw [hNone]
  unfold State.closeTaken
  rw [hKept]
  dsimp only
  rw [if_neg (by decide), State.onTagged_taken _ hWelcome.may hWelcome.gen hWelcome.state hWelcome.erased, hSame, if_neg (by decide)]
  exact ⟨by rw [hSh, State.taken_sh], hKeep.trans (s.taken_keep h), hReply⟩

/-! ### STRIP_WRITE -/

/-- The copy that a STRIP_WRITE brings. -/
def stripCopy (h : FrameHdr) (head : StripHead) (sectors : List Sector) : Copied :=
  { port := h.port, tag := h.tag, opcode := 0x22, gen := h.streamGen, reqId := h.reqId, single := h.single
    payload := sectors.flatMap (fun x => x.data ++ sectorBytes x)
    passes := sectors.all (fun x => crc64 x.data == x.crc64 && x.refTag == head.stripeId && x.appTag == 0xFFFF)
    body := some (.strip head (sectors.flatMap (·.data))) }

theorem execStripWrite_of_head {h : FrameHdr} {head : StripHead} {sectors : List Sector} (s : State) (hLen : sectors.length = 16)
    (hData : ∀ x ∈ sectors, x.data.length = 4096) (hHead : (sectors.flatMap (·.data)).take 256 = stripHeadBytes head) :
    execStripWrite h head sectors s =
      onWrite h s fun s => s.takeWrite (stripCopy h head sectors) (.strip head (sectors.flatMap (·.data))) := by
  have hAll : sectors.all (fun x => x.data.length == 4096) = true := by simpa using hData
  unfold execStripWrite
  rw [hAll, hLen]
  cases sectors with
  | nil => exact absurd hLen (by decide)
  | cons x xs =>
    have hx : x.data.length = 4096 := hData x List.mem_cons_self
    rw [List.flatMap_cons, List.take_append_of_le_length (by omega)] at hHead
    exact if_pos (by simp [hHead])

theorem runs_stripWrite_buffers {s : State} {h : FrameHdr} {head : StripHead} {sectors : List Sector} {first : Nat}
    (ht : s.shelfTakes h = true) (hFirst : s.firstCopy h = true) (hRoom : s.shelfRoom = true) (hLen : sectors.length = 16)
    (hSectors : ∀ x ∈ sectors, x.data.length = 4096 ∧ crc64 x.data = x.crc64 ∧ x.refTag = head.stripeId ∧ x.appTag = 0xFFFF)
    (hHead : (sectors.flatMap (·.data)).take 256 = stripHeadBytes head) (hPlace : s.canPlace = true)
    (hAt : s.placeOf h.tag (itemSectors (sectors.flatMap (fun x => x.data ++ sectorBytes x)).length) = some first) :
    Runs (.stripWrite h head sectors) s fun t => s.buffered t h (.strip head (sectors.flatMap (·.data))) first := by
  have hPasses : (stripCopy h head sectors).passes = true := List.all_eq_true.mpr fun x hx => by
    obtain ⟨-, hCrc, hRef, hApp⟩ := hSectors x hx
    simp [hCrc, hRef, hApp]
  refine runs_onWrite (execStripWrite h head sectors) ht (State.pfAsserted_of_room hRoom)
    (execStripWrite_of_head s hLen (fun x hx => (hSectors x hx).1) hHead) rfl ?_
  exact (State.takeWrite_buffers _ ⟨rfl, rfl, rfl⟩ rfl hFirst hRoom hPasses hPlace hAt).1

/-! ### Items that become power-safe -/

/-- The frame for the head at one port (R429). -/
def State.toHead (op : FrameOp) (s : State) (p : Nat) : State := if (s.portOf p).up then s.txFrame p (bareFrame op) else s

theorem State.toHeads_eq (s : State) (op : FrameOp) : s.toHeads op = (s.toHead op 0).toHead op 1 := rfl

theorem State.toHead_out_grows (op : FrameOp) (s : State) (p : Nat) : s.out <+: (s.toHead op p).out := by
  unfold State.toHead
  split
  · exact s.txFrame_out_grows p _
  · exact List.prefix_rfl

theorem State.toHead_samePorts (op : FrameOp) (s : State) (p : Nat) : SamePorts s (s.toHead op p) := by
  unfold State.toHead
  split
  · exact s.txFrame_samePorts p _
  · exact SamePorts.rfl

@[simp] theorem State.toHead_isHead (op : FrameOp) (s : State) (p : Nat) : (s.toHead op p).isHead = s.isHead := by
  refine State.isHead_congr ?_
  unfold State.toHead
  split
  · exact State.txFrame_stays.same_pins rfl
  · rfl

theorem State.toHead_frameSent {s : State} {p : Nat} (op : FrameOp) (hHead : s.isHead = false) (hUp : (s.portOf p).up = true) :
    (s.toHead op p).frameSent p (bareFrame op) := by
  unfold State.toHead
  rw [if_pos hUp]
  exact ⟨_, _, by rw [State.txFrame_out p _ hHead]; exact List.mem_append_right _ (List.mem_singleton.mpr rfl)⟩

/-- A frame for every head goes out on each port that is up (R429). -/
theorem State.toHeads_frameSent {s : State} {p : Nat} (op : FrameOp) (hHead : s.isHead = false) (hp : p < 2) (hUp : (s.portOf p).up = true) :
    (s.toHeads op).frameSent p (bareFrame op) := by
  rw [State.toHeads_eq]
  obtain rfl | rfl : p = 0 ∨ p = 1 := by omega
  · obtain ⟨n, a, hSent⟩ := State.toHead_frameSent op hHead hUp
    exact ⟨n, a, ((s.toHead op 0).toHead_out_grows op 1).subset hSent⟩
  · exact State.toHead_frameSent op (by simpa using hHead) ((s.toHead_samePorts op 0 1).1.trans hUp)

/-- The item of a tag is power-safe: it is marked, and stands in the index. -/
def State.indexed (s : State) (tag : Tag) (i : PlbItem) : State :=
  { s with
    sh := { s.sh with plb := s.sh.plb.map (fun (x : PlbItem) => if x.tag = tag then { x with safe := true } else x) }
    keep := { s.keep with plbIndex := s.keep.plbIndex ++ [(tag, i.sectors, crc32c i.digest, i.first)] } }

/-- It is acknowledged to every head (R429). -/
def State.madeSafe (s : State) (tag : Tag) (i : PlbItem) : State :=
  ((s.indexed tag i).updKept tag (fun k => { k with acked := true })).toHeads (.ack [⟨tag, 4096 * i.sectors⟩])

theorem State.madeSafe_sh (s : State) (tag : Tag) (i : PlbItem) : (s.madeSafe tag i).sh.map = s.sh.map ∧
    (s.madeSafe tag i).sh.plb = s.sh.plb.map (fun x => if x.tag = tag then { x with safe := true } else x) := by
  rw [State.madeSafe, State.toHeads_stays.same_sh rfl]
  exact ⟨rfl, rfl⟩

theorem State.madeSafe_keep (s : State) (tag : Tag) (i : PlbItem) :
    (s.madeSafe tag i).keep = { s.keep with plbIndex := s.keep.plbIndex ++ [(tag, i.sectors, crc32c i.digest, i.first)] } := by
  rw [State.madeSafe, State.toHeads_stays.same_keep rfl]
  rfl

theorem State.isHead_of_shelfOn {s : State} (h : s.shelfOn = true) : s.isHead = false := by
  simp only [State.shelfOn, Bool.and_eq_true] at h
  exact State.isHead_of_isShelf h.2

theorem State.madeSafe_acknowledged {s : State} {p : Nat} (tag : Tag) (i : PlbItem) (hHead : s.isHead = false) (hp : p < 2)
    (hUp : (s.portOf p).up = true) : (s.madeSafe tag i).frameSent p (bareFrame (.ack [⟨tag, 4096 * i.sectors⟩])) :=
  State.toHeads_frameSent _ (by exact hHead) hp (by exact hUp)

/-- What an item that is power-safe leads to, of a buffered image and of a packed strip. -/
theorem execShelfWritePowerSafe_of_image {s : State} {tag : Tag} {i : PlbItem} {a : AppendHead} {img : Bytes} (hOn : s.shelfOn = true)
    (hPf : s.power.pfAsserted = false) (hErased : s.sh.dumpErased.any id = true) (hItem : s.plbItem tag = some i) (hSafe : i.safe = false)
    (hBody : i.body = .image a img) : execShelfWritePowerSafe tag s = .next (s.madeSafe tag i) := by
  unfold execShelfWritePowerSafe
  rw [hItem]
  dsimp only
  rw [if_neg (by simp [hOn, hPf, hErased, hSafe]), hBody]
  rfl

theorem execShelfWritePowerSafe_of_packed {s : State} {tag : Tag} {i : PlbItem} {head : StripHead} {b : Bytes} {ts : List Tag}
    (hOn : s.shelfOn = true) (hPf : s.power.pfAsserted = false) (hErased : s.sh.dumpErased.any id = true) (hItem : s.plbItem tag = some i)
    (hSafe : i.safe = false) (hBody : i.body = .packed head b ts) :
    execShelfWritePowerSafe tag s = .next ((s.madeSafe tag i).mapSet head.stripeId (mapEntry i.first 0 3)) := by
  unfold execShelfWritePowerSafe
  rw [hItem]
  dsimp only
  rw [if_neg (by simp [hOn, hPf, hErased, hSafe]), hBody]
  rfl

/-- Settles O52: each frame's meaning is taken apart once (`execAppend_eq`, `execClose_eq`, `execStripWrite_of_head`), and what a first copy then
meets is one lemma of the shared `State.takeWrite`. -/
theorem shelvesBufferTaggedWrites : Obligations.ShelvesBufferTaggedWrites := by
  unfold Obligations.ShelvesBufferTaggedWrites
  refine ⟨?_, ?_, ?_, ?_, ?_, ?_, ?_, ?_, ?_, ?_, ?_, ?_⟩
  · intro s h a img first ht hFirst hRoom hLen hDrop hPasses hPlace hAt
    exact runs_append ht hRoom hLen hDrop
      (State.takeWrite_buffers _ (appendCopy_cameIn h a img) rfl hFirst hRoom hPasses hPlace hAt)
  · intro s h a img ht hFirst hRoom hLen hDrop hFails
    obtain ⟨hReply, hPlb, hKeep⟩ := State.takeWrite_fails (.image a img) ht (appendCopy_cameIn h a img) rfl hFirst hRoom hFails
    exact runs_append ht hRoom hLen hDrop ⟨hPlb, hKeep, hReply⟩
  · intro s h a img ht hPf hLen
    obtain ⟨hReply, hSh, hKeep⟩ := State.refuse_replies ht (appendCopy_cameIn h a img) (s.taken_pins h) (s.taken_out h) ST_SPOKE_FIELD h.port
      (wCredits (appendCopy h a img))
    refine runs_onWrite (execAppend h a img) ht hPf (execAppend_eq h a img s) rfl ?_
    rw [if_pos hLen]
    exact ⟨hSh.trans (s.taken_sh h), hKeep.trans (s.taken_keep h), hReply⟩
  · intro s h a img ht hPf hLen hMay
    exact runs_append_refused ht hPf hLen fun f => State.onTagged_ungranted f (by simpa [appendCopy] using hMay)
  · intro s h a img ht hPf hLen hMay hGen
    exact runs_append_refused ht hPf hLen fun f => State.onTagged_stale f (by simpa [appendCopy] using hMay) (by simpa [appendCopy] using hGen)
  · intro s h a img ht hPf
    exact runs_onWrite_held (execAppend h a img) ht hPf (execAppend_eq h a img s) rfl ⟨s.taken_sh h, s.taken_keep h, s.taken_out h⟩
  · intro s h head checks ssns imgs first ht hFirst hRoom hChecks hImgs hRight hPlace hAt
    exact runs_close_buffers ht hFirst hRoom hChecks hImgs hRight hPlace hAt
  · intro s h head checks ssns imgs ht hFirst hRoom hChecks hImgs hWrong
    exact runs_close_fails ht hFirst hRoom hChecks hImgs hWrong
  · intro s h head checks ssns ht hFirst hRoom hChecks hNone
    exact runs_close_gap ht hFirst hRoom hChecks hNone
  · intro s h head sectors first ht hFirst hRoom hLen hSectors hHead hPlace hAt
    exact runs_stripWrite_buffers ht hFirst hRoom hLen hSectors hHead hPlace hAt
  · intro s tag i a img hOn hPf hErased hItem hSafe hBody
    obtain ⟨hMap, hPlb⟩ := s.madeSafe_sh tag i
    exact ⟨_, execShelfWritePowerSafe_of_image hOn hPf hErased hItem hSafe hBody, hPlb, hMap, s.madeSafe_keep tag i, fun p hp hUp =>
      State.madeSafe_acknowledged tag i (State.isHead_of_shelfOn hOn) hp hUp⟩
  · intro s tag i head b ts hOn hPf hErased hItem hSafe hBody
    obtain ⟨hMap, hPlb⟩ := s.madeSafe_sh tag i
    refine ⟨_, execShelfWritePowerSafe_of_packed hOn hPf hErased hItem hSafe hBody, ?_, hPlb⟩
    rw [← hMap]
    rfl

end Sys2Proof.Machine
end
